-- ==== Sys2Proof/Word.lean ====
section
/-!
DEFINITION. The word types of the hub and the plain, untyped tools over them: 10-bit register words, 12-bit word
addresses, bytes, a canonical sparse table keyed by Nat, and a pair of values held once per host port.
-/
namespace Sys2Proof

/-- One register word: every word of the register space is 10 bits wide (00_scope.md, notation; R277). -/
abbrev Word := BitVec 10

/-- A word address of the 4096-word register space (R277). -/
abbrev Addr := BitVec 12

/-- A byte of card, ring, flash or parcel data. -/
abbrev Byte := BitVec 8

/-- The two host ports (R19 ff., 08_host_ports.md). -/
inductive Port where
  | a
  | b
  deriving DecidableEq, Repr

/-- The other host port. -/
def Port.other : Port → Port
  | .a => .b
  | .b => .a

/-- The bit by which PORT fields name a port: 0 HPA, 1 HPB. -/
def Port.bit : Port → Nat
  | .a => 0
  | .b => 1

/-- One value per host port: what the manual calls banked (R278). -/
structure PerPort (α : Type) where
  a : α
  b : α
  deriving DecidableEq, Repr

/-- The port's own copy. -/
def perPortGet {α : Type} (x : PerPort α) : Port → α
  | .a => x.a
  | .b => x.b

/-- Replace the port's own copy and leave the other port's. -/
def perPortSet {α : Type} (x : PerPort α) (p : Port) (v : α) : PerPort α :=
  match p with
  | .a => { x with a := v }
  | .b => { x with b := v }

/-- A sparse table: keys strictly rising, no entry equal to the table's default. -/
abbrev Tbl (α : Type) := List (Nat × α)

/-- The entry at a key; an unlisted key reads as the default `d`. -/
def tblGet {α : Type} (d : α) : Tbl α → Nat → α
  | [], _ => d
  | (k, v) :: t, i => if i = k then v else tblGet d t i

/-- Insert or replace an entry that is not the default, keeping the keys rising. -/
def tblPut {α : Type} (k : Nat) (v : α) : Tbl α → Tbl α
  | [] => [(k, v)]
  | (k', v') :: t =>
    if k < k' then (k, v) :: (k', v') :: t
    else if k = k' then (k, v) :: t
    else (k', v') :: tblPut k v t

/-- Remove the entry at a key. -/
def tblDel {α : Type} (k : Nat) : Tbl α → Tbl α
  | [] => []
  | (k', v') :: t => if k = k' then tblDel k t else (k', v') :: tblDel k t

/-- Write a key: writing the default removes the entry, so that equal tables are equal data. -/
def tblSet {α : Type} [DecidableEq α] (d : α) (t : Tbl α) (k : Nat) (v : α) : Tbl α :=
  if v = d then tblDel k t else tblPut k v t

/-- Every key of the table lies above `k`. -/
def tblAbove {α : Type} (k : Nat) : Tbl α → Bool
  | [] => true
  | (k', _) :: t => decide (k < k') && tblAbove k t

/-- The canonical form: keys strictly rising and no entry equal to the default. -/
def tblWf {α : Type} [DecidableEq α] (d : α) : Tbl α → Bool
  | [] => true
  | (k, v) :: t => decide (v ≠ d) && tblAbove k t && tblWf d t

/-- Addition that stops at a largest value, as every saturating counter of the manual does. -/
def satAdd (limit n k : Nat) : Nat := min limit (n + k)

/-- One more on a saturating 10-bit counter (0x3FF is its last value). -/
def satInc (n : Nat) : Nat := min 1023 (n + 1)

/-- A Nat as a 10-bit word. -/
def toWord (n : Nat) : Word := BitVec.ofNat 10 n

/-- One bit as a number. -/
def bit (b : Bool) : Nat := if b then 1 else 0

/-- Bits [9:0], [19:10], ... of a wide value: word `k` of a group, lowest word first. -/
def groupWord (v k : Nat) : Word := toWord (v / 1024 ^ k)

end Sys2Proof
end

