-- ==== Sys2Proof/Syntax.lean ====
section
/-!
DEFINITION. The commands of the block: one constructor per row of spec/opcode_table.json, in the table's order, with the
operands the manual's rule gives the command. Conventions: `p` is the host port that sends a frame; `slot` is a slot by
its place (tether x 256 + place x 4 + slot number; 0 to 3 are the local slots L0 to L3); `sat` is a ZG4 by its place
(tether x 64 + place from the OUT end); `pos` is a position of the hub's view (tether x 64 + position); `s` and `h` are
the toggles of a RESULT and of a CMD; `rx` is how a ring frame reached its receiver; `tie` is the other port's transaction
that takes effect at the same tick, if there is one (R261, R307); `crc` is the CRC-8 that a host frame carried.
-/
namespace Sys2Proof

/-- The symbols of a ring pair: D symbols and the K symbols of Table - K symbols. -/
inductive Sym where
  | d (b : Byte)
  | idle | sof | eof | beacon | ripcord | wake
  /-- A code that is no symbol. -/
  | bad
  deriving DecidableEq, Repr

/-- How a ring frame reached its receiver: the POS of its header (at a satellite; at the hub the command names the sender's
position), the pair it came on (F or K), and, where it did not arrive as it was sent, the symbols between SOF and EOF. -/
structure Arrival where
  pos : Nat := 0
  pairK : Bool := false
  raw : Option (List Sym) := none
  deriving DecidableEq, Repr

/-- A transaction of a host port that arrived whole (Table - Frame from the host). -/
inductive HostFrame where
  | read (addr : Addr)
  | write (addr : Addr) (data : Word)
  | burstRead (addr : Addr) (count : Nat)
  | burstWrite (addr : Addr) (words : List Word)
  deriving DecidableEq, Repr

/-- A byte of a parcel that reads with an error: a single-bit one, or a double-bit one (R369). -/
structure Upset where
  parcel : Nat
  at_ : Nat
  double : Bool
  deriving DecidableEq, Repr

/-- An output event of the hub (R906): its class, its source in the class's order, and the new value in bytes. -/
structure OutEvent where
  cls : Nat
  src : Nat
  value : List Byte
  deriving DecidableEq, Repr

/-- The commands (spec/opcode_table.json). -/
inductive Instr where
  /-- POWER_ON_RESET (R140): A supply falls below its supervisor threshold, so the hub enters RESET and drives every ENn low at once. -/
  | powerOnReset (rail : Nat)
  /-- POWER_ON_RESET_RELEASE (R139): Power-on reset is released 100 us after PRE, V18C and VDC are all above their rising thresholds. -/
  | powerOnResetRelease
  /-- PRE_COLLAPSE (R28): PRE falls below 1.0 V and the hub enters OFF from any state. -/
  | preCollapse
  /-- FATAL_LATCH_CLEAR (R160): PRE has stayed below 1.0 V for 50 ms, which clears the FATAL latch. -/
  | fatalLatchClear
  /-- PLL_LOCK (R79): The PLL achieves lock, which allows RESET to be left. -/
  | pllLock
  /-- PLL_LOCK_RETRY (R80): A lock attempt that failed restarts every 10 ms. -/
  | pllLockRetry
  /-- PLL_SLIP (R99): A PLL unlock ends within 1 us, which sets PLL_SLIP and increments SLIPS. -/
  | pllSlip
  /-- PLL_UNLOCK (R100): A PLL unlock lasts longer than 1 us, which is a fatal detection. -/
  | pllUnlock (refLost : Bool)
  /-- RESET_N_ASSERT (R115): RESET_N has been held low for 10 us, which starts a full reset with a reverse rail shutdown. -/
  | resetNAssert
  /-- RESET_EXIT (R216): The hub leaves RESET for BOOT, or for FATAL when the latch is set, once its exit conditions hold. -/
  | resetExit (recov tmode : Bool)
  /-- BOOT_COMPLETE (R218): BOOT chooses the banks, commits the boot count, scans the log and enters RIGGING or RECOVERY. -/
  | bootComplete (ripcordOk : Bool) (bad : Nat) (otpBad : List Nat)
  /-- RIGGING_COMPLETE (R215): The rig is applied, claims are set, reaction words are locked, and the hub enters RISING. -/
  | riggingComplete
  /-- ENUMERATE_COMPLETE (R220): Every declared tether finishes enumeration, or 250 ms pass, and the hub enters RUN. -/
  | enumerateComplete
  /-- POWER_FAIL_DECLARE (R150): VIN stays below the threshold for 10 us, so a power failure is declared and the snapshot is captured. -/
  | powerFailDeclare (writing : Bool)
  /-- POWER_FAIL_RELEASE (R158): VIN stays 0.5 V above the threshold for 10 ms after the record, so the power failure is released. -/
  | powerFailRelease
  /-- POWER_FAIL_RECORD_COMMIT (R156): The power-fail snapshot's commit marker is programmed. -/
  | powerFailRecordCommit (first second : Nat)
  /-- PFR_RESERVE_COMPLETE (R154): The erase of the two reserve sectors completes and PFR_ARMED is set. -/
  | pfrReserveComplete (first second : Nat)
  /-- VSL5_FALL (R142): VSL5 falls below its threshold, so the local slots are deactivated with VCC_FAIL. -/
  | vsl5Fall
  /-- VSL5_RISE (R142): VSL5 rises above its rising threshold and local activations are allowed again. -/
  | vsl5Rise
  /-- VIO_LOSS (R134): VIO falls below its range and host frames are ignored. -/
  | vioLoss
  /-- HOLD_SELF_CHECK_START (R146): HOLD is within 0.5 V of VIN, or 24 h have passed, so the sink self-check starts. -/
  | holdSelfCheckStart
  /-- HOLD_SELF_CHECK_DONE (R146): The 1.00 V fall is timed, SYS_HOLDC is set and the charger refills HOLD. -/
  | holdSelfCheckDone (ticks : Nat)
  /-- HOLD_LOW (R149): HOLD_OK has read 0 for 10 s, which sets SYS HOLD_LOW. -/
  | holdLow
  /-- ALM_FILTER_CHANGE (R114): ALM has held a new level for 1 ms and the filtered level changes. -/
  | almFilterChange (level : Bool)
  /-- SYS_ALARM_WRITE (R298): A port writes its banked alarm request. -/
  | sysAlarmWrite (p : Port) (data : Word)
  /-- CARD_INSERTED (R478): The filtered DET changes to present and the slot moves from EMPTY to PRESENT. -/
  | cardInserted (slot : Nat)
  /-- CARD_REMOVED (R498): The filtered DET changes to absent, which triggers emergency deactivation if powered. -/
  | cardRemoved (slot : Nat) (others : List Nat)
  /-- WP_CHANGE (R113): The write-protect input has held a new level for 1 ms. -/
  | wpChange (slot : Nat) (level : Bool)
  /-- CURRENT_TRIP (R480): The slot current stays above TRIP for 2 us, which triggers emergency deactivation to TRIPPED. -/
  | currentTrip (slot : Nat) (good : Bool) (others : List Nat)
  /-- UNDERVOLTAGE_TRIP (R481): VCC stays below the undervoltage level for 5 us, which causes a trip. -/
  | undervoltageTrip (slot : Nat) (good : Bool) (others : List Nat)
  /-- VCC_WIN_EXPIRY (R489): VCC is not good within VCC_WIN, so the activation ends with VCC_FAIL. -/
  | vccWinExpiry (slot : Nat) (others : List Nat)
  /-- ATR_TIMEOUT (R486): No ATR start bit arrives within ATR_MAX, so the next class is tried or NO_ATR is returned. -/
  | atrTimeout (slot : Nat)
  /-- CLASS_TRIAL_WAIT_END (R487): The 10 ms off time between class trials ends and the next class is powered. -/
  | classTrialWaitEnd (slot : Nat)
  /-- VCC_DISCHARGED (R969): VCC falls below 0.4 V, the slot leaves FALLING, and the return is posted. -/
  | vccDischarged (slot : Nat)
  /-- DISCHARGE_SLOW (R779): VCC is not below 0.4 V 100 us after switch-off. -/
  | dischargeSlow (slot : Nat)
  /-- RAIL_ENABLE (R171): A rail's DELAY after the previous step group is good expires and its ENn rises. -/
  | railEnable (rail : Nat)
  /-- RAIL_RISE_WINDOW_END (R173): A rail is not good WIN ms after its enable and has failed to rise. -/
  | railRiseWindowEnd (rail : Nat)
  /-- SHUTDOWN_STEP_ADVANCE (R177): The disabled step group is below its off levels, or its WIN has expired, so the next lower group is disabled. -/
  | shutdownStepAdvance (byWindow : Bool)
  /-- WARN_SHUTDOWN_START (R193): T_WARN after a WARN failure expires and the highest step group is disabled. -/
  | warnShutdownStart
  /-- RLS_RELEASE (R183): The completing release key write clears RLS_LOCK and starts a rising program. -/
  | rlsRelease (p : Port) (data : Word) (tie : Option HostFrame)
  /-- RLS_TRIM_WRITE (R196): A host sets a rail's trim target, subject to the margining interlocks. -/
  | rlsTrimWrite (p : Port) (rail : Nat) (data : Word) (tie : Option HostFrame)
  /-- TRIM_STEP (R197): Every 100 us TRMn moves one 0.5 uA step toward its target. -/
  | trimStep
  /-- TRIM_FAULT (R200): TRMn leaves its compliance range, so the trim is set to high impedance and zero. -/
  | trimFault (rail : Nat)
  /-- MODULE_RAIL_RAISE (R207): The hub sends a raise command to the next satellite with declared module rails once it is ACTIVE. -/
  | moduleRailRaise (tether : Nat)
  /-- GRAIL_GAP_ELAPSED (R203): GRAIL_GAP after GRAIL0 good expires at the satellite and GRAIL1 is enabled. -/
  | grailGapElapsed (sat : Nat)
  /-- SAT_GRAIL_FAIL (R205): A satellite module rail reads below its minimum 4 times or misses its window, so both rails are lowered. -/
  | satGrailFail (sat rail : Nat)
  /-- SCAN_SAMPLE (R678): Each us the converter completes one scan-list sample and its reading becomes visible. -/
  | scanSample (code : Nat) (done : Bool) (ruleEcc : Option Nat)
  /-- SWEEP_START (R687): The sweep period expires and SWEEP queries are sent to every queryable satellite. -/
  | sweepStart
  /-- SWEEP_QUERY (R456): A satellite receives a SWEEP query and answers with its latched 19-word report. -/
  | sweepQuery (sat num : Nat) (vpsGood : Bool) (rx : Arrival)
  /-- SWEEP_REPORT (R690): The hub receives a sweep report and takes or discards it. -/
  | sweepReport (pos num : Nat) (words : List Word) (rx : Arrival)
  /-- SWEEP_RESEND (R433): A query unanswered after 100 us is resent once on the reaching path. -/
  | sweepResend (pos : Nat)
  /-- SWEEP_CLOSE (R691): A sweep closes when every report is in or at the next start. -/
  | sweepClose
  /-- SWP_PIN_WRITE (R696): A port pins or releases the latest published sweep buffer. -/
  | swpPinWrite (p : Port) (data : Word)
  /-- REGISTER_WRITE (R245): A single-frame write to a word without behaviour of its own changes it at one tick. -/
  | registerWrite (p : Port) (addr : Addr) (data : Word) (crc : Byte) (tie : Option HostFrame)
  /-- BURST_READ (R254): A burst read returns consecutive words from one tick with a CRC-16 and no side effects. -/
  | burstRead (p : Port) (addr : Addr) (count : Nat) (crc : Byte) (upsets : List Upset) (tie : Option HostFrame)
  /-- BURST_WRITE (R258): A burst write, if fully judged good, commits all words at one tick. -/
  | burstWrite (p : Port) (addr : Addr) (count : Nat) (crc : Byte) (words : List Word) (crc16 : BitVec 16)
    (tie : Option HostFrame)
  /-- MALFORMED_TRANSACTION (R249): CS_N rises on a transaction with the wrong edge count, which is discarded and answered CRC_BAD. -/
  | malformedTransaction (p : Port) (burstWrite : Bool) (edges : Nat) (bits : List Byte)
  /-- GROUP_LATCH_READ (R284): A read of a group's lowest word copies the whole group into the port latch. -/
  | groupLatchRead (p : Port) (addr : Addr) (data : Word) (crc : Byte) (tie : Option HostFrame)
  /-- GROUP_SHADOW_WRITE (R289): A write to a non-lowest group word is placed in the port's write shadow. -/
  | groupShadowWrite (p : Port) (addr : Addr) (data : Word)
  /-- GROUP_COMMIT (R290): A write to a group's lowest word commits it with the shadowed words. -/
  | groupCommit (p : Port) (addr : Addr) (data : Word) (tie : Option HostFrame)
  /-- RC_READ (R9): A single read of an RC word returns its value and clears it. -/
  | rcRead (p : Port) (addr : Addr) (tie : Option HostFrame)
  /-- HST_AGAIN_READ (R263): Reading HST_AGAIN0 latches the response sent in the previous assertion. -/
  | hstAgainRead (p : Port)
  /-- HST_HBEAT_WRITE (R324): A heartbeat write restarts the port's window and makes an absent port present. -/
  | hstHbeatWrite (p : Port) (data : Word)
  /-- HEARTBEAT_LAPSE (R320): A supervised port's heartbeat window expires. -/
  | heartbeatLapse (p : Port) (tie : Bool)
  /-- PORT_RESET (R268): The completing HST_PRESET key write resets the port's words, latch and heartbeat. -/
  | portReset (p : Port) (data : Word) (tie : Option HostFrame)
  /-- SYS_RESTART (R299): The completing restart key write starts a warm restart. -/
  | sysRestart (p : Port) (data : Word)
  /-- MOR_TAKE (R308): A single read of MOR_TAKEn takes the mooring if it is free or already held. -/
  | morTake (p : Port) (n : Nat) (tie : Option HostFrame)
  /-- MOR_RELEASE (R310): Writing 0 to MOR_TAKEn releases a held mooring. -/
  | morRelease (p : Port) (n : Nat) (data : Word) (tie : Option HostFrame)
  /-- MOR_RELALL (R312): Writing 0x3FF releases every mooring the port holds. -/
  | morRelall (p : Port) (data : Word) (tie : Option HostFrame)
  /-- MOR_CLAIM (R315): A port claims a slot for itself. -/
  | morClaim (p : Port) (data : Word) (tie : Option HostFrame)
  /-- MOR_FREE (R316): A port frees a slot it holds. -/
  | morFree (p : Port) (data : Word) (tie : Option HostFrame)
  /-- MOR_PEERALM (R332): The completing key write clears an absent peer's alarm request. -/
  | morPeeralm (p : Port) (data : Word)
  /-- ORD_PUSH (R341): Writing 0x001 pushes a copy of the staged descriptor as a new order. -/
  | ordPush (p : Port) (data : Word) (eccSingle : Bool) (eccBad : BitVec 8) (upsets : List Upset) (tie : Option HostFrame)
  /-- ORDER_ADVANCE (R348): When the previous order at a slot ends, the next queued order reaches stage 9. -/
  | orderAdvance (slot : Nat) (upsets : List Upset)
  /-- ORDER_ADMISSION (R644): A waiting order is admitted at stage 10 when lift, caps and ballast allow it. -/
  | orderAdmission (id : Nat) (upsets : List Upset)
  /-- ORDER_QUEUE_TIMEOUT (R27): An undispatched order's timeout expires and it returns TIMEOUT_QUEUE. -/
  | orderQueueTimeout (id : Nat)
  /-- ORD_RTAIL_WRITE (R354): A host consumes returns by moving its read index forward. -/
  | ordRtailWrite (p : Port) (data : Word)
  /-- ORD_CANCEL (R371): Writing a tag withdraws the port's undispatched order with that tag. -/
  | ordCancel (p : Port) (data : Word)
  /-- PCL_ALLOC (R360): A single read of PCL_ALLOC allocates the lowest free parcel. -/
  | pclAlloc (p : Port) (tie : Option HostFrame)
  /-- PCL_RELEASE (R363): Writing a parcel index frees an owned, unnamed parcel. -/
  | pclRelease (p : Port) (data : Word) (tie : Option HostFrame)
  /-- PCL_WIN_WRITE (R365): A window write stores a parcel byte and raises fill or sets the end mark. -/
  | pclWinWrite (p : Port) (k : Nat) (data : Word) (tie : Option HostFrame)
  /-- PCL_WIN_READ (R369): A window read checks and corrects ECC and writes back. -/
  | pclWinRead (p : Port) (k err : Nat) (tie : Option HostFrame)
  /-- ACTIVATE (R485): A cold activation tries the permitted classes and returns the ATR. -/
  | activate (slot : Nat)
  /-- WARM_RESET (R492): RST is pulsed low with VCC kept, and a new ATR is awaited. -/
  | warmReset (slot : Nat)
  /-- DEACTIVATE (R494): A normal deactivation runs, or a TRIPPED slot is released. -/
  | deactivate (slot : Nat)
  /-- EXCHANGE (R562): A command APDU is carried by T=0 or T=1 and the response is returned. -/
  | exchange (slot : Nat) (upsets : List Upset)
  /-- RAW_BLOCK (R586): A host-made T=1 block is sent as given and one reply block is returned. -/
  | rawBlock (slot : Nat)
  /-- PPS (R544): A PPS request is sent and the card's response is judged. -/
  | pps (slot : Nat)
  /-- CLOCK_STOP (R551): A clock stop at a permitted level is requested. -/
  | clockStop (slot : Nat)
  /-- CLOCK_STOP_IDLE_REACHED (R552): I/O has been high for 1860 cycles and the clock stops, making the slot ASLEEP. -/
  | clockStopIdleReached (slot : Nat)
  /-- CLOCK_RESUME (R553): The card clock restarts with a full first phase. -/
  | clockResume (slot : Nat)
  /-- CLOCK_RESUME_SETTLED (R553): 700 clock cycles after resume the return is posted OK and the slot is READY. -/
  | clockResumeSettled (slot : Nat)
  /-- SD_INIT (R605): An SD card is powered and initialised in SPI mode. -/
  | sdInit (slot : Nat) (cmd0 : List (List Byte)) (cmd8 : List Byte)
  /-- SD_READ (R609): One 512-byte block is read, singly or within a CMD18 run. -/
  | sdRead (slot : Nat) (rx again : List Byte)
  /-- SD_WRITE (R602): One 512-byte block is written, subject to write protection. -/
  | sdWrite (slot : Nat) (rx : List Byte) (response : Byte)
  /-- SD_STATUS (R594): The CMD13 status, CSD, CID or OCR is read into the parcel. -/
  | sdStatus (slot : Nat) (rx again : List Byte)
  /-- NONCE (R822): A unique 64-bit nonce is written into the parcel. -/
  | nonce (id : Nat) (raw : List Byte)
  /-- NONCE_FILL (R823): The parcels are filled with random pool bytes. -/
  | nonceFill (id : Nat)
  /-- SAT_SLEEP (R461): A satellite is commanded into ASLEEP. -/
  | satSleep (id : Nat)
  /-- SAT_WAKE (R462): A sleeping satellite is woken by WAKE symbols. -/
  | satWake (id : Nat)
  /-- SAT_RAIL (R208): A satellite's module rails are raised or lowered. -/
  | satRail (id : Nat)
  /-- SAT_UPDATE (R874): A stored image is transferred to a satellite loader and verified. -/
  | satUpdate (id : Nat)
  /-- UPD_FETCH (R862): The update partition on the service card is scanned and eligible images are taken. -/
  | updFetch (id cap fault : Nat) (media : List (Nat × List Byte))
  /-- CHARACTER_SEND (R527): The guard time elapses and the hub starts sending the next character. -/
  | characterSend (slot : Nat) (ioHigh errorSignal : Bool)
  /-- CHARACTER_RECEIVED (R520): A start edge on I/O is sampled into one character with parity and framing checks. -/
  | characterReceived (slot : Nat) (glitch early : Bool) (value : BitVec 9) (framingLow : Bool)
  /-- IO_LOW_WAIT_EXPIRY (R530): I/O stays low past the bound, so the order ends with TIMEOUT_CARD. -/
  | ioLowWaitExpiry (slot : Nat)
  /-- ATR_CHARACTER_TIMEOUT (R538): No next ATR character arrives within 9600 etu, so the ATR is bad. -/
  | atrCharacterTimeout (slot : Nat)
  /-- WT_EXPIRY (R548): The T=0 waiting time expires, so the order ends TIMEOUT_CARD and the card is deactivated. -/
  | wtExpiry (slot : Nat)
  /-- CWT_EXPIRY (R549): The T=1 character waiting time expires and the block ends. -/
  | cwtExpiry (slot : Nat)
  /-- BLOCK_RECEIVED (R571): A T=1 block from the card is judged and acted on. -/
  | blockReceived (slot : Nat)
  /-- BWT_EXPIRY (R578): The block waiting time expires, which is a failure on the recovery ladder. -/
  | bwtExpiry (slot : Nat)
  /-- CARD_TIME_LIMIT (R563): 120 s after dispatch the exchange ends with TIMEOUT_CARD. -/
  | cardTimeLimit (slot : Nat)
  /-- SLT_DIV_COMMIT (R518): A host sets a local slot's card clock divider. -/
  | sltDivCommit (p : Port) (data : Word)
  /-- SD_BUSY_RELEASE (R603): DO reads other than 0x00 after a written block. -/
  | sdBusyRelease (slot : Nat) (ms : Nat) (rx : List Byte)
  /-- SD_BUSY_TIMEOUT (R603): Busy exceeds its limit and the order ends TIMEOUT_CARD. -/
  | sdBusyTimeout (slot : Nat)
  /-- SD_TOKEN_TIMEOUT (R600): No data token arrives within 100 ms of the R1. -/
  | sdTokenTimeout (slot : Nat)
  /-- SD_ACMD41_POLL (R605): Every 2 ms ACMD41 is resent until the card leaves idle or 1 s passes. -/
  | sdAcmd41Poll (slot : Nat) (cmd55 cmd41 cmd58 cmd9 again cmd16 : List Byte)
  /-- SD_RUN_IDLE_CLOSE (R611): 1 ms without a next block order closes a multi-block run. -/
  | sdRunIdleClose (slot : Nat) (rx : List Byte)
  /-- LDG_SOURCE_WRITE (R651): A host sets mains or battery, which changes the plan and starts a decision. -/
  | ldgSourceWrite (p : Port) (data : Word) (tie : Option HostFrame)
  /-- LDG_BATTREM_WRITE (R664): A host writes a measured remaining battery energy. -/
  | ldgBattremWrite (p : Port) (data : Word)
  /-- LKO_SLEEP (R722): The completing STANDBY key write halts the cores within 100 us. -/
  | lkoSleep (p : Port) (data : Word) (waking : Bool)
  /-- LKO_WAKE (R724): Writing 0x001 wakes the cores from STANDBY. -/
  | lkoWake (p : Port) (data : Word)
  /-- FAULT_ACK (R745): A FACK write acknowledges sticky bits of a block. -/
  | faultAck (p : Port) (addr : Addr) (data : Word)
  /-- WORD_PARITY_FAIL (R736): An FST or FRX word with even parity is a fatal detection. -/
  | wordParityFail (blk kind : Nat) (word : Word)
  /-- LOCKSTEP_MISMATCH (R740): The lockstep cores disagree, which is a fatal source. -/
  | lockstepMismatch
  /-- CODE_ECC_ERROR (R740): An uncorrectable read of code or control memory is a fatal source. -/
  | codeEccError
  /-- BLOCK_RESET_DONE (R757): A block reset completes within 10 us and the block accepts writes again. -/
  | blockResetDone (blk : Nat)
  /-- RIPCORD_CONTINUITY_CHECK (R752): Every 10 ms the ripcord trigger lines and shadow sensors are checked. -/
  | ripcordContinuityCheck (ok : Bool)
  /-- SAFE_REWALK (R751): After a non-fatal SAFE, once the silence time has passed, every tether is walked afresh. -/
  | safeRewalk
  /-- LOG_RECORD_WRITE (R792): A queued record is programmed into the next erased slot at the head. -/
  | logRecordWrite (retries : Nat)
  /-- LOG_SECTOR_ERASE (R793): The erase of the oldest sector ahead of the head completes. -/
  | logSectorErase (retries : Nat)
  /-- WEAR_TABLE_WRITE (R787): Hourly, or at a new mark, erase counts are written to the wear table. -/
  | wearTableWrite (retries : Nat)
  /-- LOG_FETCH (R806): A record with the selected sequence number is copied into the port buffer. -/
  | logFetch (p : Port) (data : Word)
  /-- LOG_FETCH_PF (R806): The latest valid snapshot is copied into the port buffer. -/
  | logFetchPf (p : Port) (data : Word)
  /-- LOG_FETCH_DONE (R806): A fetch completes and LOG_STAT.RESULT is set. -/
  | logFetchDone (p : Port)
  /-- RND_STARTUP_PASS (R814): 4096 raw bits pass the health tests and READY is set. -/
  | rndStartupPass (raw : List Byte)
  /-- RND_STARTUP_RETRY (R815): 10 ms after a start-up test failure the tests restart. -/
  | rndStartupRetry
  /-- RND_CONTINUOUS_FAIL (R816): A continuous health test fails, so READY clears and the pool is emptied. -/
  | rndContinuousFail (raw : List Byte)
  /-- RND_DATA_READ (R817): A single read takes the oldest pool byte. -/
  | rndDataRead (p : Port) (tie : Option HostFrame)
  /-- BOOT_COUNT_ROLL (R819): The in-boot counter rollover commit completes and RND_NBOOT advances. -/
  | bootCountRoll (bad : Nat)
  /-- RND_OTPARM (R825): The completing key write arms the OTP store for 100 ms. -/
  | rndOtparm (p : Port) (data : Word)
  /-- OTP_ARM_EXPIRY (R825): The 100 ms OTP arm lapses. -/
  | otpArmExpiry
  /-- PROGRAM_SLOT0 (R826): The staged key hash is programmed into slot 0. -/
  | programSlot0 (p : Port)
  /-- PROGRAM_SLOT1 (R826): The staged key hash is programmed into slot 1. -/
  | programSlot1 (p : Port)
  /-- REVOKE_SLOT0 (R826): Key slot 0 is revoked. -/
  | revokeSlot0 (p : Port)
  /-- REVOKE_SLOT1 (R826): Key slot 1 is revoked. -/
  | revokeSlot1 (p : Port)
  /-- REQUIRE_RIG_SIG (R826): The rig-signature-required bit is programmed. -/
  | requireRigSig (p : Port)
  /-- OPEN_DEBUG (R826): The debug-open bit is programmed. -/
  | openDebug (p : Port)
  /-- OTP_PROGRAM_DONE (R828): An OTP program completes and is read back against its check bytes. -/
  | otpProgramDone (checkOk : Bool)
  /-- TAP_INSTRUCTION (R831): A TAP instruction is loaded, as BYPASS while the debug port is locked. -/
  | tapInstruction (code : Nat)
  /-- UPD_OPEN (R856): A port takes the update staging buffer for a target. -/
  | updOpen (p : Port) (data : Word) (tie : Option HostFrame)
  /-- UPD_CLOSE (R856): The staging buffer is released and the image discarded. -/
  | updClose (p : Port)
  /-- UPD_DISCARD (R879): A PENDING firmware bank is marked REJECTED. -/
  | updDiscard (p : Port)
  /-- UPD_EXIT (R868): RECOVERY is ended and the hub enters RESET. -/
  | updExit (p : Port)
  /-- UPD_HOLD (R868): RECOVERY is held from ending automatically. -/
  | updHold (p : Port)
  /-- UPD_PUSH (R857): n window bytes are appended to the staged image. -/
  | updPush (p : Port) (data : Word)
  /-- IMAGE_WRITE_DONE (R858): The last bytes are written, the hash is checked and WRITTEN is programmed. -/
  | imageWriteDone (wear : List (Nat × Nat))
  /-- RECOVERY_CARD_FLOW (R867): A card present in L0 in RECOVERY is scanned and its images written. -/
  | recoveryCardFlow (cap fault : Nat) (media : List (Nat × List Byte))
  /-- UPD_CONFIRM (R849): The completing key write confirms the trial image. -/
  | updConfirm (p : Port) (data : Word)
  /-- TRIAL_EXPIRY (R850): The trial window ends unconfirmed, so REJECTED is programmed and a warm restart starts. -/
  | trialExpiry (confirmed : Bool)
  /-- DEFERRED_TRIAL_RESTART (R851): The alarm state ends and the deferred trial restart proceeds. -/
  | deferredTrialRestart
  /-- RIG_OPEN (R71): A port takes the rig staging buffer and fills it with zeros. -/
  | rigOpen (p : Port) (tie : Option HostFrame)
  /-- RIG_CLOSE (R70): The rig staging buffer is discarded. -/
  | rigClose (p : Port)
  /-- RIG_VALIDATE (R57): The staged rig is validated step by step. -/
  | rigValidate (p : Port)
  /-- RIG_STORE (R64): The staged rig is validated and written to the other bank for restart. -/
  | rigStore (p : Port)
  /-- RIG_APPLY_LIVE (R58): The staged rig is validated, written and applied live if no restart-only field differs. -/
  | rigApplyLive (p : Port)
  /-- RIG_COMMAND_DONE (R68): A rig command completes and RIG_RESULT shows its outcome. -/
  | rigCommandDone (wear : List (Nat × Nat))
  /-- RECORDER_SEED (R894): Every 250 ms a seed of the decision state is taken. -/
  | recorderSeed
  /-- RECORDER_FREEZE_DELAY_END (R895): REC_POST after a freeze cause expires and the recorder freezes. -/
  | recorderFreezeDelayEnd
  /-- RECORDER_DUMP_DONE (R897): The dump to the armed area completes and the other area is erased. -/
  | recorderDumpDone (ok ramCorr : Bool) (ramUncorr : List Nat) (wear : List (Nat × Nat))
  /-- REC_ARM (R899): Frozen content is discarded and a new recording starts. -/
  | recArm (p : Port)
  /-- REC_FREEZE (R895): The recorder is frozen on host command. -/
  | recFreeze (p : Port)
  /-- REC_STOP (R908): Replay is stopped. -/
  | recStop (p : Port)
  /-- REC_REPLAY (R901): The completing key write enters REPLAY from the selected source. -/
  | recReplay (p : Port) (data : Word)
  /-- REPLAY_TICK (R905): The replay tick advances and recorded inputs are fed and outputs compared. -/
  | replayTick (outs : List OutEvent)
  /-- BEACON_SEND (R389): At least every 20 us a K28.1 beacon is sent on each transmitting pair. -/
  | beaconSend (tether : Nat) (pairK : Bool)
  /-- RIPCORD_SYMBOL (R392): A satellite receives two K23.7 symbols and deactivates every slot. -/
  | ripcordSymbol (sat : Nat) (pairK : Bool)
  /-- SAT_RIPCORD_ISOLATE (R450): The silence time after RIPCORD receipt passes and the satellite enters ISOLATED. -/
  | satRipcordIsolate (sat : Nat)
  /-- WAKE_SYMBOL (R459): A sleeping satellite receives a WAKE naming it and becomes ACTIVE. -/
  | wakeSymbol (sat : Nat) (all : Bool) (position : Nat)
  /-- RING_INPUT_LOST (R416): A satellite's ring input is declared lost and it folds the ring. -/
  | ringInputLost (sat : Nat) (pairK : Bool)
  /-- SAT_RELOCK (R94): A satellite in holdover relocks to its other pair. -/
  | satRelock (sat : Nat)
  /-- SAT_PLL_LOCK (R92): A satellite locks its tick clock to incoming symbols. -/
  | satPllLock (sat : Nat) (pairK : Bool)
  /-- SILENCE_TIMEOUT (R97): No valid symbol arrives for SILENCE, so the satellite ripcords and enters ISOLATED. -/
  | silenceTimeout (sat : Nat)
  /-- ENUM_QUERY (R407): A satellite receives an ENUM query and answers or forwards it with HOP incremented. -/
  | enumQuery (sat hop : Nat) (rx : Arrival)
  /-- ENUM_ANSWER (R409): The hub receives an identity and assigns a position. -/
  | enumAnswer (tether uid hwver ringver hop : Nat) (rx : Arrival)
  /-- ENUM_WALK_TIMEOUT (R408): A query goes unanswered for 100 us and the walk from that end ends. -/
  | enumWalkTimeout (tether : Nat)
  /-- ASSIGN (R447): A satellite with a matching UID takes its position or is parked. -/
  | assign (sat : Nat) (uid position : Nat) (prov : Bool) (rx : Arrival)
  /-- ASSIGN_ACK (R413): The hub receives the ASSIGN answer and the satellite becomes ENUMERATING. -/
  | assignAck (pos : Nat) (rx : Arrival)
  /-- DELAY_FRAME (R430): A satellite is armed to echo the next K28.1. -/
  | delayFrame (sat : Nat) (rx : Arrival)
  /-- DELAY_MARKER_ECHO (R429): An armed satellite echoes the marker at least 64 ticks after its arrival. -/
  | delayMarkerEcho (sat : Nat)
  /-- DELAY_ECHO_ARRIVAL (R429): The hub stamps the echo's arrival to 1/16 tick. -/
  | delayEchoArrival (pos t4 : Nat)
  /-- DELAY_ANSWER (R429): The hub receives turnaround c and computes d. -/
  | delayAnswer (pos c : Nat) (rx : Arrival)
  /-- TSYNC (R431): A satellite sets its tick counter from t5 and d. -/
  | tsync (sat : Nat) (t5 d : Nat) (rx : Arrival)
  /-- CACK (R402): The hub receives a command acknowledgment. -/
  | cack (pos : Nat) (h : Bool) (code : Nat) (rx : Arrival)
  /-- CMD_RESEND (R403): An unacknowledged CMD is resent after 100 us. -/
  | cmdResend (pos : Nat)
  /-- RACK (R404): A satellite receives a RESULT acknowledgment. -/
  | rack (sat : Nat) (s : Bool) (rx : Arrival)
  /-- RESULT_RESEND (R404): A satellite resends an unacknowledged RESULT every 200 us. -/
  | resultResend (sat : Nat)
  /-- WAKE_RESEND (R462): WAKE is resent every 200 us until WOKEN is taken. -/
  | wakeResend (pos : Nat)
  /-- DONE_RESULT (R465): The hub takes an order's DONE result. -/
  | doneResult (pos : Nat) (s : Bool) (slot oid status full : Nat) (first : List Byte) (rx : Arrival)
  /-- DATA_RESULT (R467): The hub takes an order's DATA result and posts the return when all data are in. -/
  | dataResult (pos : Nat) (s : Bool) (slot oid offset : Nat) (data : List Byte) (rx : Arrival)
  /-- SLOT_RESULT (R502): The hub takes a satellite slot event and updates the slot state. -/
  | slotResult (pos : Nat) (s : Bool) (slot event state : Nat) (rx : Arrival)
  /-- WRAP_RESULT (R420): The hub takes a WRAP result and records the break. -/
  | wrapResult (pos : Nat) (s : Bool) (lostF lostK portB : Bool) (rx : Arrival)
  /-- HEAL_READY_RESULT (R424): Both neighbours are ready, so the hub sends HEAL with an unwrap tick. -/
  | healReadyResult (pos : Nat) (s : Bool) (rx : Arrival)
  /-- RESTARTED_RESULT (R406): The hub takes RESTARTED, resets the toggles and withdraws orders. -/
  | restartedResult (pos : Nat) (s : Bool) (cause : Nat) (rx : Arrival)
  /-- WOKEN_RESULT (R459): The hub takes WOKEN and the satellite is ACTIVE. -/
  | wokenResult (pos : Nat) (s : Bool) (rx : Arrival)
  /-- RAIL_RESULT (R208): The hub takes a module rail state report. -/
  | railResult (pos : Nat) (s : Bool) (g0 g1 : Nat) (rx : Arrival)
  /-- IDENT_RESULT (R869): The hub takes a satellite's part, version and image state. -/
  | identResult (pos : Nat) (s : Bool) (part build minor major image : Nat) (rx : Arrival)
  /-- LOCKSRC_RESULT (R432): A satellite reports a lock source change and is resynchronized. -/
  | locksrcResult (pos : Nat) (s : Bool) (srcK : Bool) (rx : Arrival)
  /-- FAULT_RESULT (R755): The hub takes a satellite's fault word and sets ZG4_FAULT. -/
  | faultResult (pos : Nat) (s : Bool) (word : Word) (rx : Arrival)
  /-- TRACE_RESULT (R467): The hub takes a 128-byte trace chunk. -/
  | traceResult (pos : Nat) (s : Bool) (slot chunk : Nat) (bytes : List Byte) (rx : Arrival)
  /-- POWER_RESULT (R453): The hub takes a satellite VIN lost or back report. -/
  | powerResult (pos : Nat) (s : Bool) (back : Bool) (rx : Arrival)
  /-- REPLAY_RESULT (R910): The hub takes a satellite trace replay outcome. -/
  | replayResult (pos : Nat) (s : Bool) (slot entry status : Nat) (rx : Arrival)
  /-- LINK_SEND (R422): Every 50 us a wrapped satellite sends a LINK frame into the broken segment. -/
  | linkSend (sat : Nat)
  /-- LINK_FRAME (R428): A neighbour receives a LINK frame and, if it has unwrapped, refolds on WRAPPED. -/
  | linkFrame (sat : Nat) (receiving wrapped : Bool) (rx : Arrival)
  /-- HEAL_READY_TIMER (R423): LINK frames have been received both ways for 100 ms, so HEAL_READY is sent. -/
  | healReadyTimer (sat : Nat)
  /-- HEAL_FRAME (R426): A neighbour receives HEAL and answers, setting or cancelling its unwrap tick. -/
  | healFrame (sat : Nat) (unwrap : Nat) (rx : Arrival)
  /-- HEAL_ANSWER (R426): The hub takes a neighbour's HEAL answer. -/
  | healAnswer (tether : Nat) (fromB : Bool) (unwrap : Nat) (rx : Arrival)
  /-- HEAL_RESEND (R426): An unanswered HEAL is resent after 100 us. -/
  | healResend (tether : Nat)
  /-- HEAL_CANCEL (R427): 60 us before the unwrap an answer is missing, so a cancelling HEAL is sent. -/
  | healCancel (tether : Nat)
  /-- UNWRAP (R424): At the unwrap tick both neighbours unfold. -/
  | unwrap (tether : Nat)
  /-- TETHER_REWALK (R414): Every 1 s a tether with an ABSENT position is walked again. -/
  | tetherRewalk (tether : Nat)
  /-- TTH_SEARCH (R435): A host orders a fresh walk of a tether. -/
  | tthSearch (p : Port) (data : Word)
  /-- TTH_RESYNC (R432): A host orders a time resynchronization of a tether. -/
  | tthResync (p : Port) (data : Word)
  /-- TTH_HEAL_NOW (R425): A host releases withheld healing on a wrapped tether. -/
  | tthHealNow (p : Port) (data : Word)
  /-- SET_SAT (R455): A satellite takes its SAT, TETHER, ACTIVATION and REACT fields. -/
  | setSat (sat : Nat) (h : Bool) (args : List Byte) (rx : Arrival)
  /-- SET_SLOT (R503): A satellite configures a slot and reports present cards. -/
  | setSlot (sat : Nat) (h : Bool) (args : List Byte) (rx : Arrival)
  /-- PUT (R472): A satellite writes data into a slot's order buffer. -/
  | put (sat : Nat) (h : Bool) (slot offset : Nat) (data : List Byte) (rx : Arrival)
  /-- ORDER_COMMAND (R465): A satellite starts an order on the buffered bytes. -/
  | orderCommand (sat : Nat) (h : Bool) (slot opcode length param oid : Nat) (rx : Arrival)
  /-- SLEEP_COMMAND (R457): A satellite enters ASLEEP if its slots allow it. -/
  | sleepCommand (sat : Nat) (h : Bool) (rx : Arrival)
  /-- RAIL_COMMAND (R203): A satellite raises or lowers its module rails. -/
  | railCommand (sat : Nat) (h : Bool) (action : Nat) (rx : Arrival)
  /-- TRACE_FETCH (R467): A satellite sends a slot's trace as 16 TRACE results. -/
  | traceFetch (sat : Nat) (h : Bool) (slot : Nat) (rx : Arrival)
  /-- TRACE_REARM (R476): A satellite rearms a slot's trace. -/
  | traceRearm (sat : Nat) (h : Bool) (slot : Nat) (rx : Arrival)
  /-- TRACE_FREEZE (R464): A satellite triggers a slot's trace freeze. -/
  | traceFreeze (sat : Nat) (h : Bool) (slot : Nat) (rx : Arrival)
  /-- TRACE_FREEZE_COUNT (R464): 64 entries after a trigger the trace freezes. -/
  | traceFreezeCount (slot : Nat)
  /-- SLOT_RELEASE (R500): A satellite releases a TRIPPED slot. -/
  | slotRelease (sat : Nat) (h : Bool) (slot : Nat) (rx : Arrival)
  /-- FAULT_ACK_COMMAND (R755): A satellite acknowledges its own fault bits. -/
  | faultAckCommand (sat : Nat) (h : Bool) (bits : BitVec 9) (rx : Arrival)
  /-- RIPCORD_COMMAND (R720): A satellite ripcords the named slots. -/
  | ripcordCommand (sat : Nat) (h : Bool) (mask : BitVec 4) (rx : Arrival)
  /-- RESTART_COMMAND (R448): A satellite restarts, keeping position, lock and module rails. -/
  | restartCommand (sat : Nat) (h : Bool) (rx : Arrival)
  /-- IDENT_COMMAND (R869): A satellite sends an IDENT result. -/
  | identCommand (sat : Nat) (h : Bool) (rx : Arrival)
  /-- TRACE_REPLAY_COMMAND (R910): A satellite stores trace chunks and, after chunk 15, replays them on the slot. -/
  | traceReplayCommand (sat : Nat) (h : Bool) (slot chunk : Nat) (bytes : List Byte) (rx : Arrival)
  /-- UPD_BEGIN (R869): A satellite enters its loader, erases the section and prepares to receive. -/
  | updBegin (sat : Nat) (h : Bool) (args : List Byte) (rx : Arrival)
  /-- UPD_DATA (R871): A loader programs the bytes at a payload offset. -/
  | updData (sat : Nat) (h : Bool) (offset : Nat) (data : List Byte) (rx : Arrival)
  /-- UPD_END (R872): A loader verifies the image and restarts, or sets image state 5. -/
  | updEnd (sat : Nat) (h : Bool) (rx : Arrival)
  /-- UPD_ABORT (R869): A loader stops receiving. -/
  | updAbort (sat : Nat) (h : Bool) (rx : Arrival)
  /-- SAT_UPDATE_TIMEOUT (R874): 2 s pass without the satellite restart, so SAT_UPDATE returns PROTOCOL. -/
  | satUpdateTimeout (pos : Nat)
  /-- SAT_CMD_RESTART (R469): A host write sends RESTART to the selected satellite. -/
  | satCmdRestart (p : Port) (data : Word)
  /-- SAT_CMD_RIPCORD (R469): A host write sends RIPCORD for all slots to the selected satellite. -/
  | satCmdRipcord (p : Port) (data : Word)
  /-- SAT_CMD_TRACE_FETCH (R469): A host write starts a trace fetch into the hub buffer. -/
  | satCmdTraceFetch (p : Port) (data : Word)
  /-- SAT_CMD_TRACE_REARM (R469): A host write sends a trace REARM. -/
  | satCmdTraceRearm (p : Port) (data : Word)
  /-- SAT_CMD_TRACE_FREEZE (R469): A host write sends a trace FREEZE. -/
  | satCmdTraceFreeze (p : Port) (data : Word)
  /-- SAT_CMD_TRACE_REPLAY (R909): A host write sends the trace buffer for replay on a satellite slot. -/
  | satCmdTraceReplay (p : Port) (data : Word)
  /-- SAT_ZFACK_WRITE (R755): A host write sends FAULT_ACK to the selected satellite. -/
  | satZfackWrite (p : Port) (data : Word)
  /-- SAT_VIN_LOST (R453): Satellite VIN stays below 5.3 V for 10 us, so slots are deactivated and HOLD is drawn. -/
  | satVinLost (sat : Nat)
  /-- SAT_VIN_BACK (R453): Satellite VIN stays above 5.8 V for 10 ms. -/
  | satVinBack (sat : Nat)
  /-- SAT_VPS_LOW (R452): VPS stays below 5.6 V for 5 us, so every slot is deactivated with VCC_FAIL. -/
  | satVpsLow (sat : Nat)
  /-- SAT_TOTAL_OVERCURRENT (R452): Slot currents sum above 640 mA for 20 us, so the highest slot is deactivated. -/
  | satTotalOvercurrent (sat slot : Nat)
  /-- SAT_FATAL_FAULT (R454): A satellite fatal source ripcords its slots and restarts it. -/
  | satFatalFault (sat bit : Nat)
  /-- SAT_RST_N (R448): The satellite's reset pin restarts it. -/
  | satRstN (sat : Nat)
  /-- BUCK_START (R217): The buck input rises past 5.2 V, the buck starts and PRE rises, taking the hub from OFF into RESET under power-on reset. -/
  | buckStart
  /-- BUCK_STOP (R162): The buck input falls below 4.8 V, the buck stops and the hub discharges PRE with at least 5 mA. -/
  | buckStop
  /-- VIO_RESTORE (R134): VIO rises back into its range and host, control and test-access inputs are no longer ignored. -/
  | vioRestore
  /-- HUB_RING_INPUT_LOST (R418): A hub ring receiver declares its input lost, and the hub end then stands in as the break neighbour for LINK frames. -/
  | hubRingInputLost (tether : Nat) (retSide : Bool)
  /-- RING_INPUT_REGAINED (R394): A ring receiver of the hub or a satellite again receives valid symbols on a pair it had declared lost. -/
  | ringInputRegained (place : Nat) (pairK : Bool)
  /-- DIR0_FRAME_RETURNED (R400): A DIR 0 frame the hub sent, such as its own ENUM query, comes back to the hub at the far end and is treated as addressed to an absent position. -/
  | dir0FrameReturned (tether : Nat) (enumQuery : Bool) (farEnd : Bool)
  /-- TSYNC_ANSWER (R413): The hub takes a satellite's TSYNC acknowledgment during enumeration and goes on to configure it. -/
  | tsyncAnswer (pos : Nat) (rx : Arrival)
  /-- SAT_POWER_ON (R448): A ZG4 comes out of its own power-on reset: unassigned, slots off, GEN low, loader choice by RCV. -/
  | satPowerOn (sat uid hwver ringver fw : Nat) (rcv : Bool)
  /-- SAT_CONVERSION (R203): A ZG4 completes one conversion of its 14 channels, which judges module rails good or off and its die temperature. -/
  | satConversion (sat : Nat) (codes : List Nat)
  /-- GRAIL_LOWER_WINDOW_END (R204): GRAIL_WIN after GRAIL1 was disabled expires and the satellite disables GRAIL0. -/
  | grailLowerWindowEnd (sat : Nat)
  /-- SAT_HOLD_LOW (R779): A ZG4's HOLD has stayed below BALLAST_MIN for 10 s, setting its own HOLD_LOW bit. -/
  | satHoldLow (sat : Nat)
  /-- LOST_SILENCE_RELEASE (R667): The silence time has passed since a satellite became LOST, so the ledger releases its slots' reservations. -/
  | lostSilenceRelease (pos : Nat)
  /-- RND_BLOCK_FORMED (R823): A 256-bit output block completes and fills the random pool, feeding waiting NONCE and NONCE_FILL orders. -/
  | rndBlockFormed (raw : List Byte)
  /-- PPS_CHARACTER_TIMEOUT (R545): A PPS response character is missing after 9600 etu, so the order returns PPS_FAIL and the card is deactivated. -/
  | ppsCharacterTimeout (slot : Nat)
  /-- SAT_LOADER_ERASE_DONE (R871): A ZG4 loader finishes erasing the section for an update and sets image state 2. -/
  | satLoaderEraseDone (sat : Nat)
  /-- UPD_IDENT_POLL (R871): Every 10 ms during a loader erase the hub sends IDENT until the image state reads 2. -/
  | updIdentPoll (pos : Nat)
  deriving DecidableEq, Repr

end Sys2Proof
end

