-- ==== Sys2Proof/Decode.lean ====
section
/-!
DEFINITION. The command that a word of spec/opcode_table.json spells: the table gives no row any bits, so every such word is
turned away. And the command that the 32 bits of a host port's frame spell (Table - Frame from the host, R243).
-/
namespace Sys2Proof

/-- No row of the table has bits, so no word spells a command. -/
def decodeTableWord (_nbits _w : Nat) : Option Instr := none

/-- The command of a transaction whose first 32 bits are `w` (R243): OP in [31:30], ADDR in [29:18], DATA or the burst's count
in [17:8], CRC-8 in [7:0]. `words` and `crc16` follow the header of a burst write. -/
def hostCommand (p : Port) (w : BitVec 32) (words : List Word) (crc16 : BitVec 16) : Instr :=
  let addr : Addr := w.extractLsb' 18 12
  let data : Word := w.extractLsb' 8 10
  let crc : Byte := w.extractLsb' 0 8
  if w.extractLsb' 30 2 = 0 then .groupLatchRead p addr data crc none
  else if w.extractLsb' 30 2 = 1 then .registerWrite p addr data crc none
  else if w.extractLsb' 30 2 = 2 then .burstRead p addr data.toNat crc [] none
  else .burstWrite p addr data.toNat crc words crc16 none

end Sys2Proof
end

