-- ==== Sys2Proof/Machine/State.lean ====
section
/-!
DEFINITION. The state of the CG1012 hub and of the ZG4 satellites on its tethers, as plain data, chapter by chapter
of the manual; `State.reset`; and the two closed lists of reasons for which a command stops. Register values whose bits
software sees are `Word`s; counts, sizes and ticks are Nats; sets of names are inductive types.
Field defaults are the reset values of the manual; those the manual does not give are named in notes/assumptions/3.md.
-/
namespace Sys2Proof
namespace Machine

/-- Hub states (Table - Hub states, R28). -/
inductive HubState where
  | off | reset | boot | rigging | rising | enumerate | run | standby | recovery | replay | fatal
  deriving DecidableEq, Repr

/-- Satellite states as the hub keeps them for every declared position (R33, SAT_STATE.STATE). -/
inductive SatState where
  | absent | enumerating | active | asleep | lost | isolated | updating | recovery | incompatible
  deriving DecidableEq, Repr

/-- Slot states, in the order of their codes 0 to 11 (Table - Slot states, R501). -/
inductive SlotState where
  | empty | present | rising | atr | ready | busy | asleep | falling | tripped | unreachable | disabled | updating
  deriving DecidableEq, Repr

/-- Slot kinds (SLOT.KIND). -/
inductive SlotKind where
  | disabled | iso | sd
  deriving DecidableEq, Repr

/-! ### Faults (21, 22) -/

/-- What a tick in which a block had events keeps of the tick before: the sticky bits and those held one class higher, as
acknowledgments left them; and the sources with an event in the tick (R741, R747). -/
structure TickMark where
  old : BitVec 9
  oldRaised : BitVec 9
  events : BitVec 9
  deriving DecidableEq, Repr

/-- One fault word with its reaction words and marks (R734, R735, R742). Kept whole, parity bit included, because a word
that fails parity is a detection of its own (R736). -/
structure FaultBank where
  /-- `<BLK>_FST`, parity in [9]. -/
  fst : Word := 0x200
  /-- Bits held one class higher by escalation (R742); only for sticky corrected bits. -/
  raised : BitVec 9 := 0
  frx0 : Word := 0x200
  frx1 : Word := 0x200
  frx2 : Word := 0x200
  /-- A block reset is running (R757). -/
  resetting : Bool := false
  /-- The events of this tick, which are judged against the marks as they stood before it (R741). -/
  now : Option TickMark := none
  deriving DecidableEq, Repr

/-- The fault banks of the hub; HST and ORD are kept once per port (R266). -/
structure FaultBanks where
  sys : FaultBank := { frx0 := 0x271, frx1 := 0x3B0, frx2 := 0x206 }
  hstA : FaultBank := { frx0 := 0x001 }
  hstB : FaultBank := { frx0 := 0x001 }
  mor : FaultBank := { frx0 := 0x209 }
  ordA : FaultBank := { frx0 := 0x2C0 }
  ordB : FaultBank := { frx0 := 0x2C0 }
  pcl : FaultBank := { frx0 := 0x008 }
  slt : FaultBank := { frx0 := 0x209, frx1 := 0x20A }
  tth : FaultBank := { frx0 := 0x051, frx1 := 0x001, frx2 := 0x001 }
  sat : FaultBank := { frx0 := 0x049 }
  ldg : FaultBank := { frx0 := 0x089 }
  rls : FaultBank := { frx0 := 0x015, frx1 := 0x241, frx2 := 0x001 }
  mea : FaultBank := { frx0 := 0x250 }
  lko : FaultBank := { frx0 := 0x010 }
  log : FaultBank := { frx0 := 0x089, frx1 := 0x002 }
  rnd : FaultBank := { frx0 := 0x089, frx1 := 0x002 }
  upd : FaultBank := { frx0 := 0x051, frx1 := 0x001 }
  rig : FaultBank := { frx0 := 0x209 }
  rcd : FaultBank := { frx0 := 0x248 }
  deriving DecidableEq, Repr

/-- The fatal latch and its cause words, held in a domain fed from PRE (R753, R754). -/
structure Fatal where
  latch : Bool := false
  fatal0 : Word := 0
  fatal1 : Word := 0
  /-- The detection is one of this tick: another of the tick with a lower block number or source bit is recorded in its place
  (R761). -/
  now : Bool := false
  deriving DecidableEq, Repr

/-! ### The running rig (02) -/

/-- SITE (Table - SITE body). -/
structure SiteRec where
  ordTimeout : Nat := 1000
  vPf : Nat := 180
  trialS : Nat := 60
  lkoAck : Bool := false
  siteId : Nat := 0
  deriving DecidableEq, Repr

/-- TETHER (Table - TETHER body). -/
structure TetherRec where
  silence : Nat := 100
  efficiency : Nat := 80
  lift : Nat := 1
  actMax : Nat := 4
  deriving DecidableEq, Repr

/-- SAT (Table - SAT body); `uid` is the 64-bit number of UID7..UID0. -/
structure SatRec where
  lift : Nat := 300
  actMax : Nat := 1
  ballastMin : Nat := 120
  pinned : Bool := false
  grail0 : Bool := false
  grail1 : Bool := false
  uid : Nat := 0
  gap : Nat := 5
  win : Nat := 10
  min0 : Nat := 0
  min1 : Nat := 0
  deriving DecidableEq, Repr

/-- SLOT (Table - SLOT body), one slot. -/
structure SlotRec where
  kind : SlotKind := .disabled
  classes : Nat := 0
  order : Nat := 0
  trip : Nat := 80
  cost : Nat := 300
  prio : Nat := 1
  claim : Nat := 0
  wp : Nat := 0
  deriving DecidableEq, Repr

/-- ACTIVATION (Table - ACTIVATION body); `div` is N of DIV_H, DIV_L. -/
structure ActivationRec where
  vccWin : Nat := 200
  clkDelay : Nat := 10
  rstClks : Nat := 500
  atrMax : Nat := 400
  div : Nat := 200
  sdDiv : Nat := 32
  deriving DecidableEq, Repr

/-- LEDGER (Table - LEDGER body). -/
structure LedgerRec where
  liftMains : Nat := 1023
  liftBatt : Nat := 1023
  battWh : Nat := 0
  standbyH : Nat := 24
  alarmMin : Nat := 30
  deriving DecidableEq, Repr

/-- RAIL (Table - RAIL body); mode 0 LOG, 1 WARN, 2 SEQ. -/
structure RailRec where
  step : Nat := 0
  delay : Nat := 0
  win : Nat := 10
  goodMin : Nat := 0
  goodMax : Nat := 1
  filter : Nat := 4
  mode : Nat := 2
  tWarn : Nat := 100
  margin : Bool := false
  deriving DecidableEq, Repr

/-- HOST (Table - HOST body). -/
structure HostRec where
  hbWin : Nat := 100
  hbReq : Bool := true
  absentFree : Bool := false
  deriving DecidableEq, Repr

/-- A rig as decoded from its stream: what it declares and every field's value (R49 to R52). Tables are keyed by tether,
by position identifier (tether x 64 + position), by slot identifier, by rail, by block x 8 + word index, by rule. -/
structure Rig where
  verMaj : Nat := 0
  verMin : Nat := 0
  verBld : Nat := 0
  /-- RIG_SCHEMA. DESIGN CHOICE (log entry 60): while no rig has been loaded it reads 0x001, the one schema that the manual
  defines. -/
  schema : Nat := 1
  signed : Bool := false
  site : SiteRec := {}
  tethers : Tbl (Option TetherRec) := []
  sats : Tbl (Option SatRec) := []
  slots : Tbl (Option SlotRec) := []
  activation : ActivationRec := {}
  ledger : LedgerRec := {}
  rails : Tbl (Option RailRec) := []
  sweepMs : Nat := 10
  /-- The rig's scan list; `none`: no SCAN record, the default list applies (R680). -/
  scan : Option (List Nat) := none
  react : Tbl (Option Word) := []
  rules : Tbl (Option (List Word)) := []
  hosts : PerPort HostRec := ⟨{}, {}⟩
  deriving DecidableEq, Repr

/-- One rig bank of the flash: the words of its stream and its trailer's two 32-bit words (R63). -/
structure RigBank where
  words : List Word := []
  generation : Nat := 0xFFFFFFFF
  complement : Nat := 0xFFFFFFFF
  deriving DecidableEq, Repr

/-- The port's rig command that runs: its code, its issuing port, the staged words as they stood when it was issued
(R72), and whether the buffer is released at its end. -/
structure RigJob where
  cmd : Nat
  port : Port
  words : Tbl Word
  releaseAfter : Bool := false
  deriving DecidableEq, Repr

/-- The RIG block (02). -/
structure RigBlock where
  bankA : RigBank := {}
  bankB : RigBank := {}
  /-- Staged words, keyed 0 to 26207; an unlisted word is 0x000 (R71). -/
  staging : Tbl Word := []
  owner : Option Port := none
  page : Nat := 0
  reason : Nat := 0
  cmd : Nat := 0
  job : Option RigJob := none
  errPos : Nat := 0
  bank : Nat := 0
  migrated : Bool := false
  locked : Bool := true
  pending : Bool := false
  running : Rig := {}
  /-- The rig the running rig came from was loaded (a bank was chosen in BOOT). -/
  loaded : Bool := false
  deriving DecidableEq, Repr

/-! ### System, time, pins, supply, start (01, 03, 04, 05, 07, 09) -/

/-- Hub-wide state and the tick counter (R28, R81 to R104, R298). -/
structure Sys where
  state : HubState := .off
  trial : Bool := false
  tick : Nat := 0
  tickRunning : Bool := false
  pllLocked : Bool := false
  refOk : Bool := false
  slips : Nat := 0
  /-- Round-robin priority of same-tick ties (R307). -/
  prio : Port := .a
  /-- This tick has decided a tie: the priority alternates once the tick is over (R307). -/
  tied : Bool := false
  alarmReq : PerPort Bool := ⟨false, false⟩
  /-- ACTIVE as it last stood, so that its change can be seen (R298). -/
  alarm : Bool := false
  fwMaj : Nat := 0
  fwMin : Nat := 0
  fwBld : Nat := 0
  ringMin : Nat := 0
  ringMax : Nat := 0
  hwMin : Nat := 0
  hwMax : Nat := 0
  bootCount : Nat := 0
  deriving DecidableEq, Repr

/-- Pins: filtered and sampled inputs and the outputs that hold a level of their own; HOK, TRAP_N, PFW_N and the IRQ_N
pins follow from the rest of the state (Machine/Flags.lean) (04). -/
structure Pins where
  almRaw : Bool := false
  alm : Bool := false
  recov : Bool := false
  tmode : Bool := false
  en : BitVec 8 := 0
  /-- TRMn at high impedance. -/
  trmZ : BitVec 8 := 0xFF
  vioOk : Bool := false
  /-- TMODE sampled high while factory test is open in OTP (R123). -/
  testMode : Bool := false
  deriving DecidableEq, Repr

/-- The snapshot that a power-fail record carries (R155, Table - Snapshot header): its number, tick, boot count, site and
its 6496 words, as captured at the declaration tick. -/
structure Snapshot where
  seq : Nat
  tick : Nat
  boot : Nat
  site : Nat
  words : List Word
  deriving DecidableEq, Repr

/-- Supply, hold-up and power-fail record (05). -/
structure Supply where
  preOk : Bool := false
  v18cOk : Bool := false
  vdcOk : Bool := false
  por : Bool := true
  buck : Bool := false
  vsl5Ok : Bool := false
  pf : Bool := false
  holdPath : Bool := false
  pfrBusy : Bool := false
  pfrDone : Bool := false
  checking : Bool := false
  holdc : Nat := 0x3FF
  holde : Nat := 0x3FF
  pfcnt : Nat := 0
  /-- Power-fail threshold in force, 100 mV units (R119). -/
  vPf : Nat := 55
  /-- Erased sectors of the power-fail reserve, 0 to 2 (R154). -/
  reserve : Nat := 0
  charger : Bool := false
  /-- Latest VIN and HOLD readings in 64 mV codes. -/
  vin : Nat := 0x3FF
  hold : Nat := 0x3FF
  snapshot : Option Snapshot := none
  /-- The flash holds a record with a start marker and no commit marker (R157). -/
  partialRecord : Bool := false
  /-- Sectors whose program failed during a power-fail record: retired and replaced after release (R809). -/
  retireDue : List Nat := []
  deriving DecidableEq, Repr

/-- Why the present RESET holds the hub (R216): what must still end before it is left. -/
inductive ResetHold where
  | none | por | shutdown
  deriving DecidableEq, Repr

/-- Milestones and cause of the present start (07). -/
structure Start where
  fw : Bool := false
  fwBank : Nat := 0
  rig : Bool := false
  rails : Bool := false
  enumDone : Bool := false
  rnd : Bool := false
  sweep : Bool := false
  holdc : Bool := false
  cold : Bool := true
  cause : Nat := 0
  block : Nat := 0
  recovReq : Bool := false
  upms : Nat := 0x3FF
  streak : Nat := 0
  count : Nat := 0
  resetHold : ResetHold := .por
  exitTick : Nat := 0
  /-- Cause and block that SYS_CAUSE shows from the exit of the RESET in progress. -/
  nextCause : Nat := 0
  nextBlock : Nat := 0
  /-- TMODE was sampled high with factory test closed: RESET is not left (R123). -/
  tmodeStuck : Bool := false
  deriving DecidableEq, Repr

/-! ### Rails (06) -/

/-- One board rail (Table - RLS_RAILn fields; RLS_SNSn, RLS_TRIMn, RLS_RISEn). -/
structure Rail where
  state : Nat := 0
  good : Bool := false
  count : Nat := 0
  sns : Nat := 0x3FF
  trimMag : Nat := 0
  trimSink : Bool := false
  targetMag : Nat := 0
  targetSink : Bool := false
  trimPort : Option Port := none
  rise : Nat := 0x3FF
  /-- Tick at which ENn last rose. -/
  enabledAt : Nat := 0
  /-- Consecutive in-limit scans since a LOG failure (R191); the rail is judged again at FILTER. -/
  recover : Nat := 0
  failedLog : Bool := false
  /-- Found on at the start of a rising program, so confirmed, not raised: RLS_RISEn keeps its time (R175). -/
  confirm : Bool := false
  /-- Disabled by the step of the reverse shutdown that runs (R177). -/
  lowering : Bool := false
  /-- The last trim step made and not judged yet, +1 or -1; 0 none (R198). -/
  trimLast : Int := 0
  /-- The trim ramps back to 0 (R199). -/
  ramping : Bool := false
  deriving DecidableEq, Repr

/-- The rail sequencer (06). -/
structure Rails where
  rails : Vector Rail 8 := Vector.replicate 8 {}
  step : Nat := 0
  rising : Bool := false
  falling : Bool := false
  warning : Bool := false
  aborted : Bool := false
  done : Bool := false
  locked : Bool := false
  lockCause : Nat := 0
  lockRail : Nat := 0
  refuseReason : Nat := 0
  refusePort : Port := .a
  mrglim : BitVec 8 := 0
  /-- RLS_MRGLIM bits set at this tick (R8). -/
  mrglimNew : BitVec 8 := 0
  /-- The port that released the lock at this tick (R210). -/
  released : Option Port := none
  frozen : Bool := false
  /-- PFW_N sources: a WARN shutdown (R194), a lookout rule (20), a power failure (05). -/
  pfwWarn : Bool := false
  /-- Rail raise turn of each tether: the position being raised, 0 none (R207). -/
  raiseTurn : Vector Nat 4 := Vector.replicate 4 0
  warnRail : Nat := 0
  /-- Running failures judged in the scan that runs: rail and mode (R189). -/
  scanFails : List (Nat × Nat) := []
  /-- The rail whose failure ended a replay, acted on in RISING (R195). -/
  replayFail : Option Nat := none
  deriving DecidableEq, Repr

/-! ### Host ports, moorings (08, 09, 10) -/

/-- STAT of a response (Table - Response to the host). -/
inductive Stat where
  | ok | crcBad | refused | busy
  deriving DecidableEq, Repr

/-- One response frame: STAT, ADDR, DATA, and the words a burst read sends behind its turnaround (R254, R256). -/
structure Response where
  stat : Stat := .busy
  addr : Nat := 0xFFF
  data : Word := 0x3FF
  burst : List Word := []
  /-- The CRC-16 the burst words were followed by. -/
  crc16 : Nat := 0
  deriving DecidableEq, Repr

/-- What operations of the two ports at one tick may contend for (R307): a word, a slot, a parcel, the free parcels, a pool
byte, a port's alarm request. -/
inductive Thing where
  | word (a : Nat) | slot (id : Nat) | parcel (n : Nat) | freeParcels | pool | alarm (p : Port)
  deriving DecidableEq, Repr

/-- The port latch: the lowest address of the group it holds, and the copied words (R284). -/
structure Latch where
  base : Nat
  words : List Word
  deriving DecidableEq, Repr

/-- The port write shadow: group, window instance, and the words placed (R289, R292). -/
structure Shadow where
  base : Nat
  inst : Nat
  words : Tbl (Option Word)
  deriving DecidableEq, Repr

/-- Heartbeat supervision of a port (R320). -/
inductive Presence where
  | unsupervised | present | absent
  deriving DecidableEq, Repr

/-- An input that the recorder takes at a tick: the entry's kind, its field [3:0] and its payload (Table - Entry kinds). -/
structure RecIn where
  kind : Nat
  sub : Nat
  payload : List Byte
  deriving DecidableEq, Repr

/-- An entry of the recorder (R890); a scan that is not yet written keeps its list and its readings. -/
structure RecEntry where
  tick : Nat
  kind : Nat
  sub : Nat := 0
  payload : List Byte := []
  list : List Nat := []
  readings : List Nat := []
  deriving DecidableEq, Repr

/-- One host port: its banked HST words and its SPI frame state (08, 09). -/
structure HostPort where
  /-- The recorder's inputs and the output events of this tick (R891, R906). -/
  taken : List RecIn := []
  said : List OutEvent := []
  answering : Bool := false
  /-- The response the next assertion carries (R247). -/
  owed : Response := {}
  /-- The response the assertion before the present one carried (R263). -/
  sent : Response := { stat := .ok, addr := 0, data := 0 }
  /-- The 32 bits that SDO carried first in the latest assertion (R247). -/
  sdo : BitVec 32 := 0
  /-- The port's group latch (R284, R286). -/
  latch : Option Latch := none
  /-- The port's write shadow (R289, R292). -/
  shadow : Option Shadow := none
  ievt : Word := 0
  /-- HST_IEVT bits set by their events at this tick: a W1C clear of the tick leaves them set (R8, R267). -/
  ievtNew : Word := 0
  ien0 : Word := 0
  ien1 : Word := 0
  ieven : Word := 0
  refuseAddr : Nat := 0
  refuseReason : Nat := 0
  refuseBurst : Bool := false
  crcErr : Nat := 0
  /-- Ticks of the CRC_BAD answers counted toward LINK_ERR (R962). -/
  crcTicks : List Nat := []
  presence : Presence := .unsupervised
  /-- Tick at which the heartbeat window last started. -/
  hbStart : Nat := 0
  /-- Addresses of the key words whose first step this port has written (R10). -/
  keys : List Nat := []
  /-- Selectors (R278 to R280 and the chapters of the windows). -/
  sltSel : Nat := 0
  satSel : Nat := 4
  trPage : Nat := 0
  pclSel : Nat := 0
  pclPage : Nat := 0
  ldgSel : Nat := 0
  meaChsel : Nat := 0
  swpSel : Nat := 4
  lkoSel : Nat := 0
  logSeqSel : Nat := 0
  logPage : Nat := 0
  logSecSel : Nat := 0
  rndKsel : Nat := 0
  recDsel : Nat := 0
  deriving DecidableEq, Repr

/-- The MOR block (10): holders of the 16 moorings, slot claims, counts. -/
structure Mor where
  holder : Tbl (Option Port) := []
  claims : Tbl (Option Port) := []
  refuseReason : Nat := 0
  refusePort : Port := .a
  wdrn : PerPort Nat := ⟨0, 0⟩
  disc : PerPort Nat := ⟨0, 0⟩
  deriving DecidableEq, Repr

/-! ### Orders, returns, parcels (11) -/

/-- How far an order has come (Table - Stages of an order, R26). -/
inductive OrderStage where
  /-- Taken up; waits at stage 8 for an ENUMERATING satellite (R33) or behind an earlier order at its slot (R348). -/
  | queued
  /-- Passed stage 9; waits at stage 10. -/
  | waiting
  /-- Admitted; stage 11 is next. -/
  | admitted
  /-- Dispatched (stages 11 and 12). -/
  | dispatched
  deriving DecidableEq, Repr

/-- One order in flight, from the push that created it until its return is posted. -/
structure Order where
  /-- The push's place in the order of all pushes. -/
  id : Nat
  port : Port
  opcode : Nat
  prio : Nat
  slot : Nat
  tag : Nat
  length : Nat
  parcel1 : Nat
  parcel2 : Nat
  /-- Queue timeout in ms, SITE.ORD_TIMEOUT put in for 0 (R351). -/
  timeout : Nat
  param : Nat
  pushTick : Nat
  stage : OrderStage := .queued
  /-- Stage 8 has been passed (R36). -/
  past8 : Bool := false
  dispatchTick : Nat := 0
  seen : Bool := false
  /-- The return is discarded when the order ends (R327). -/
  discard : Bool := false
  /-- A shed deactivation that the ledger entered into the slot's sequence (R657): no host pushed it, nothing returns. -/
  internal : Bool := false
  /-- A status fixed by a deactivation, posted when the slot leaves FALLING (R969). -/
  ended : Option Nat := none
  /-- Data received for the order so far (satellite orders: R467), with the status and full length of its DONE. -/
  data : List Byte := []
  done : Option (Nat × Nat) := none
  /-- NONCE_FILL: bytes filled so far (R823); UPD_FETCH, SAT_UPDATE: progress marks of those flows. -/
  progress : Nat := 0
  deriving DecidableEq, Repr

/-- A posted return (Table - Return). -/
structure Ret where
  tag : Nat
  code : Nat
  seen : Bool := false
  dup : Bool := false
  length : Nat
  slot : Nat
  deriving DecidableEq, Repr

/-- A port's order engine bank. -/
structure OrdBank where
  /-- Staging descriptor ORD_DESC0 to 7. -/
  desc : List Word := [0, 0, 0, 0, 0, 0, 0, 0]
  /-- Unread returns, oldest first; the return at ORD_RTAIL is the head. -/
  ring : List Ret := []
  rtail : Nat := 0
  /-- The last 128 completed orders with nonzero tags, newest first (R356). -/
  window : List Ret := []
  cancst : Nat := 0
  ovlLen : Nat := 0
  ovlTag : Nat := 0
  dupcnt : Nat := 0
  refuse : Nat := 0
  deriving DecidableEq, Repr

/-- A parcel: 512 bytes with fill, end mark and owner; ECC marks of bytes in error (R360 to R370). -/
structure Parcel where
  owner : Option Port := none
  fill : Nat := 0
  last : Bool := false
  /-- Bytes 0 to 511; an unlisted byte is 0x00. -/
  bytes : Tbl Byte := []
  /-- Bytes with a single-bit or a double-bit error: 1 or 2. -/
  ecc : Tbl Nat := []
  /-- Freed when the last unreturned order that names it completes (R370). -/
  freeLater : Bool := false
  deriving DecidableEq, Repr

/-- Order engine and parcels. -/
structure OrdBlock where
  banks : PerPort OrdBank := ⟨{}, {}⟩
  /-- Orders of both ports in flight, in push order. -/
  orders : List Order := []
  nextId : Nat := 1
  parcels : Tbl Parcel := []
  pclRefuse : Nat := 0
  pclRefusePort : Port := .a
  deriving DecidableEq, Repr

/-! ### Slots (14 to 17) -/

/-- What a slot's logic works by: a local slot's from the rig, a satellite slot's from SET_SLOT. -/
structure SlotCfg where
  kind : SlotKind := .disabled
  classes : Nat := 0
  order : Nat := 0
  trip : Nat := 80
  wp : Nat := 0
  deriving DecidableEq, Repr

/-- The levels of a slot's contacts as its logic drives them. -/
structure Contacts where
  vccOn : Bool := false
  rst : Bool := false
  clkRun : Bool := false
  clkHigh : Bool := false
  ioLow : Bool := true
  aux1 : Bool := false
  deriving DecidableEq, Repr

/-- An activation in progress (R485 to R493). -/
structure Activation where
  /-- Classes still to try: 1 A, 2 B, 3 C. -/
  todo : List Nat := []
  /-- Some class gave an ATR. -/
  anyAtr : Bool := false
  /-- VCC is off between two class trials (R487). -/
  waiting : Bool := false
  /-- VCC was judged good in this trial. -/
  good : Bool := false
  warm : Bool := false
  /-- The ACTIVATION divider as it stood when the activation began: a live change bites at the next one (R59). -/
  div : Nat := 200
  deriving DecidableEq, Repr

/-- What the character engine receives at present. -/
inductive RxMode where
  | idle | atr | pps | t0 | t1
  deriving DecidableEq, Repr

/-- Character engine of a slot (15): SLT_FD to SLT_CHLAST and the receiver's and sender's work. -/
structure Chars where
  fi : Nat := 1
  di : Nat := 1
  inverse : Bool := false
  ta1 : Nat := 0x11
  ta1Present : Bool := false
  offerT0 : Bool := false
  offerT1 : Bool := false
  inForce : Nat := 0
  specific : Bool := false
  ppsOpen : Bool := false
  xi : Nat := 0
  stopped : Bool := false
  guard : Nat := 0
  wi : Nat := 10
  cwi : Nat := 13
  etu : Nat := 0
  atrLen : Nat := 0
  parErr : Nat := 0
  framErr : Nat := 0
  repeats : Nat := 0
  chLast : Nat := 0
  div : Nat := 200
  /-- The divider has changed since the last start edge: E follows at the next one (R517, R557). -/
  renew : Bool := false
  deriving DecidableEq, Repr

/-- The line at a slot: bytes received of the item in progress, bytes still to send. -/
structure Line where
  mode : RxMode := .idle
  rx : List Byte := []
  /-- A character of the item in progress failed parity or framing. -/
  rxBad : Bool := false
  /-- Consecutive copies of one T=0 character received with a parity error (R534). -/
  badRun : Nat := 0
  tx : List Byte := []
  /-- Sendings of the character at the head of `tx` so far. -/
  copies : Nat := 0
  /-- The search waits for I/O to rise and fall (R490, R524). -/
  waitRise : Bool := false
  /-- A CLOCK_STOP waits for its idle cycles, with its level (R552). -/
  stopWait : Option Bool := none
  /-- The tick of the last character of the card: a waiting time of that tick has not expired (R591). -/
  heardAt : Option Nat := none
  deriving DecidableEq, Repr

/-- Block transport registers of a slot (16). -/
structure Trans where
  nsHub : Bool := false
  nsCard : Bool := false
  ifsDone : Bool := false
  dirty : Bool := false
  crc : Bool := false
  ifscSub : Bool := false
  bwiSub : Bool := false
  ifsc : Nat := 32
  ifsd : Nat := 32
  /-- IFSC as the ATR gave it, to which a RESYNCH returns (R574, R581). -/
  ifscAtr : Nat := 32
  bwi : Nat := 4
  bwt : Nat := 0
  retries : Nat := 0
  resynchs : Nat := 0
  wtxs : Nat := 0
  blast : Nat := 0
  t0last : Nat := 0
  t0resent : Bool := false
  t0sw2 : Nat := 0
  apdu : Nat := 0
  deriving DecidableEq, Repr

/-- What the hub's last T=1 block was (R580). -/
inductive LastBlock where
  | none | iBlock | rBlock | ifsReq | resynchReq | other
  deriving DecidableEq, Repr

/-- The exchange at a slot (16): T=0 transfer or T=1 chain. -/
structure Xfer where
  /-- The bytes of the command APDU, or of a raw block. -/
  apdu : List Byte := []
  /-- T=1: bytes of the command not yet in a sent block. T=0: data bytes still to send. -/
  unsent : List Byte := []
  /-- T=1: the hub's last block, sent again under the recovery ladder. -/
  lastSent : List Byte := []
  lastKind : LastBlock := .none
  /-- The last I-block the hub sent, for a card that asks it again, and whether it was the last of its chain. -/
  lastI : List Byte := []
  lastIMore : Bool := false
  chainDone : Bool := false
  fails : Nat := 0
  resynchTries : Nat := 0
  /-- A RESYNCH that a DIRTY slot runs first and that does not end the order (R587). -/
  resynchFirst : Bool := false
  /-- Some character of the card arrived in this order after its first block went out (R582). -/
  heard : Bool := false
  /-- Response bytes kept (at most 1024) and the full length. -/
  resp : List Byte := []
  full : Nat := 0
  /-- Multiplier of the BWT in force (R579). -/
  wtx : Nat := 1
  raw : Bool := false
  /-- T=0: command case, data bytes still to receive, 0x6C resend made, SW1 received. -/
  case : Nat := 0
  due : Nat := 0
  resent : Bool := false
  sw1 : Option Nat := none
  /-- T=0: data bytes that an ACK lets the card send now. -/
  expect : Nat := 0
  anyData : Bool := false
  deriving DecidableEq, Repr

/-- What an SD slot's engine is doing (17). -/
inductive SdPhase where
  | idle | acmd41 | token | busy | runOpen
  deriving DecidableEq, Repr

/-- Memory card engine of a slot (17). -/
structure Sd where
  type : Nat := 0
  v2 : Bool := false
  csdWp : Bool := false
  run : Bool := false
  runWrite : Bool := false
  cap : Nat := 0
  last : Nat := 0
  r1 : Nat := 0
  r2 : Nat := 0
  crc : Nat := 0
  busyMs : Nat := 0
  phase : SdPhase := .idle
  /-- ACMD41 argument and tick of the first ACMD41. -/
  arg41 : Nat := 0
  start41 : Nat := 0
  /-- An ACMD41 has been sent in this initialisation. -/
  polled : Bool := false
  /-- Block of the order at the card, next block and blocks done of the open run, orders of the run that wait for its close. -/
  block : Nat := 0
  nextBlock : Nat := 0
  runCount : Nat := 0
  runDone : List Nat := []
  writing : Bool := false
  /-- What the hub put on DI in the last transaction: commands, blocks, stop tokens (R595, R602). -/
  sent : List (List Byte) := []
  /-- SD_DIV as it stood at SD_INIT: a live change bites at the next activation (R59). -/
  div : Nat := 32
  deriving DecidableEq, Repr

/-- The order a slot's engine runs: the hub's order (local slot) or the ORDER command (satellite slot). -/
structure Running where
  opcode : Nat
  param : Nat
  length : Nat
  /-- Hub order id for a local slot, ORDER's order id for a satellite slot. -/
  oid : Nat
  /-- Tick of the dispatch, for the card-time limit (R563). -/
  since : Nat := 0
  /-- ACTIVATE, EXCHANGE ... has begun at the card, and the tick at which it did. -/
  begun : Bool := false
  beganAt : Nat := 0
  deriving DecidableEq, Repr

/-- One trace entry: kind, data, delta (Table - Trace entry). -/
structure TraceEntry where
  kind : Nat
  data : Nat
  delta : Nat
  deriving DecidableEq, Repr

/-- A slot's character trace in a satellite (R463, R464, Table - Trace header). -/
structure Trace where
  anchor : Nat := 0
  written : Nat := 0
  /-- At most 508 entries, oldest first; `written` counts all since the rearm. -/
  entries : List TraceEntry := []
  trigger : Nat := 0xFFFF
  cause : Nat := 0
  frozen : Bool := false
  /-- Entries still to write before the freeze, while triggered. -/
  remaining : Option Nat := none
  lastTick : Nat := 0
  deriving DecidableEq, Repr

/-- A physical slot: of the hub (keys 0 to 3) or of a satellite (key: tether x 256 + place x 4 + slot). -/
structure Slot where
  /-- The recorder's inputs of this tick, for a local slot (R891). -/
  taken : List RecIn := []
  st : SlotState := .disabled
  det : Bool := false
  /-- Write-protect input (L0_WP, or Sn_AUX2 of a ZG4 slot), pulled up. -/
  wpTab : Bool := true
  cfg : SlotCfg := {}
  tripInForce : Nat := 0
  cls : Nat := 0
  tried : Nat := 0
  atrClasses : Nat := 0
  indicated : Bool := false
  vcc : Nat := 0x3FF
  icc : Nat := 0x3FF
  cause : Nat := 0
  emergency : Bool := false
  second : Bool := false
  trips : Nat := 0
  removals : Nat := 0
  /-- Tick of the deactivation in progress, for causes of one tick (R968). -/
  fallTick : Nat := 0
  /-- State after FALLING; `none`: PRESENT or EMPTY by DET (R498, R509). -/
  fallTo : Option SlotState := none
  /-- Status with which the deactivation ends the order at the slot (R498, R969). -/
  fallStatus : Option Nat := none
  slowSeen : Bool := false
  pins : Contacts := {}
  act : Option Activation := none
  ch : Chars := {}
  line : Line := {}
  tr : Trans := {}
  x : Xfer := {}
  sd : Sd := {}
  run : Option Running := none
  trace : Trace := {}
  /-- Order buffer of a satellite slot, 1024 bytes (R465). -/
  buf : Tbl Byte := []
  deriving DecidableEq, Repr

/-- The hub's view of a satellite's slot (R502), keyed by slot identifier. -/
structure SlotView where
  st : SlotState := .unreachable
  det : Bool := false
  cls : Nat := 0
  tried : Nat := 0
  atrClasses : Nat := 0
  indicated : Bool := false
  trip : Nat := 0
  cause : Nat := 0
  emergency : Bool := false
  trips : Nat := 0
  removals : Nat := 0
  ch : Chars := {}
  /-- The ATR chose the CRC as error detection code. -/
  crc : Bool := false
  ifsc : Nat := 32
  bwi : Nat := 4
  bwt : Nat := 0
  deriving DecidableEq, Repr

/-! ### Tethers and satellites (12, 13) -/

/-- An end of a tether at the hub: OUT or RET. -/
inductive RingEnd where
  | outEnd | retEnd
  deriving DecidableEq, Repr

/-- A command the hub has for a satellite: code and arguments (Table - CMD codes), and the order it serves. -/
structure HubCmd where
  code : Nat
  args : List Byte
  /-- Order id served, 0 none. -/
  order : Nat := 0
  /-- Sendings so far on the first and on the other path (R403). -/
  sends1 : Nat := 1
  sends2 : Nat := 0
  /-- The command comes from SAT_CMD (R469). -/
  fromHost : Bool := false
  deriving DecidableEq, Repr

/-- The hub's record of one declared position: the SAT window, the frame toggles, the commands under way. -/
structure SatView where
  state : SatState := .absent
  prov : Bool := false
  /-- An addressed ENUM query of a heal has been sent to it, and its position waits for the judgment of R415. -/
  provQuery : Bool := false
  lockK : Bool := false
  folded : Bool := false
  ballast : Bool := false
  hop : Nat := 0
  path : RingEnd := .outEnd
  uid : Nat := 0
  hwver : Nat := 0
  ringver : Nat := 0
  fwB : Nat := 0
  fwN : Nat := 0
  fwM : Nat := 0
  part : Nat := 0
  /-- d in 1/16 tick; 0xFFFFF not measured. -/
  delay : Nat := 0xFFFFF
  zfst : Word := 0x200
  cmdSt : Nat := 0
  cackCode : Nat := 0
  restarts : Nat := 0
  resends : Nat := 0
  /-- Toggle H of the last CMD sent, and S of the last RESULT taken (none before the first). -/
  toggleH : Bool := false
  lastS : Bool := false
  out : Option HubCmd := none
  queue : List HubCmd := []
  /-- WAKE sendings for a SAT_WAKE in progress (R462). -/
  wakes : Nat := 0
  waking : Bool := false
  /-- Tick at which it was shown LOST, for the silence release (R667). -/
  lostAt : Nat := 0
  imageState : Nat := 0
  /-- The hub has sent it an ASSIGN that is not acknowledged yet. -/
  assigning : Bool := false
  /-- Delay measurement under way: marker tick t1 and echo arrival t4 in 1/16 tick. -/
  t1 : Option Nat := none
  t4 : Option Nat := none
  /-- Module rails as last reported: 0 off, 1 rising, 2 up, 3 failed. -/
  grail0 : Nat := 0
  grail1 : Nat := 0
  /-- The satellite has reported its module rails since it was enumerated (R207, R208). -/
  railsSeen : Bool := false
  /-- It has reached ACTIVE, and its module rails wait for the raise of R207. -/
  raiseDue : Bool := false
  vinLost : Bool := false
  /-- Set-up commands of the enumeration still to be acknowledged (R455, R503). -/
  setup : Nat := 0
  traceFrozen : Bool := false
  /-- HOLD and input power words of its latest report in a published sweep (R649, R641, R674). -/
  hold : Nat := 0x3FF
  power : Nat := 0x3FF
  deriving DecidableEq, Repr

/-- A heal under way (R424 to R427). -/
structure Heal where
  tick : Nat
  answeredA : Bool := false
  answeredB : Bool := false
  cancelling : Bool := false
  deriving DecidableEq, Repr

/-- The walk of a tether (R408). -/
structure Walk where
  from_ : RingEnd := .outEnd
  hop : Nat := 0
  /-- Positions given in this walk. -/
  given : List Nat := []
  /-- The walk from the OUT end ended without reaching the RET end. -/
  outDone : Bool := false
  /-- The satellite just found, while its steps of R413 run: position. -/
  current : Option Nat := none
  deriving DecidableEq, Repr

/-- A hub end that stands in for a satellite beside a break (R418): whether it does, has received a LINK frame, and has
received one with RECEIVING set. -/
structure LinkEnd where
  stands : Bool := false
  heard : Bool := false
  rx : Bool := false
  deriving DecidableEq, Repr

/-- One tether (TTH registers and what stands behind them). -/
structure Tether where
  /-- The recorder's inputs of this tick, and what the hub's ends have sent in it (R891, R906). -/
  taken : List RecIn := []
  sent : List (RingEnd × List Sym) := []
  mode : Nat := 0
  double : Bool := false
  brkA : Nat := 0
  brkAPairs : Nat := 0
  brkB : Nat := 0
  brkBPairs : Nat := 0
  healReadyA : Bool := false
  healReadyB : Bool := false
  loopF : Nat := 0x3FF
  loopK : Nat := 0x3FF
  /-- F loop minus K loop in 1/16 tick. -/
  skew : Int := 0
  badF : Nat := 0
  retry : Nat := 0
  stale : Nat := 0
  wraps : Nat := 0
  /-- UIDs of parked satellites. -/
  parked : List Nat := []
  walk : Option Walk := none
  /-- (segment, tick) of the wraps of the last 60 s; healing is withheld until HEAL_NOW (R425). -/
  wrapLog : List (Nat × Nat) := []
  held : Bool := false
  /-- The segment last healed, with the pairs that had been lost as seen from each end (R428). -/
  healed : Option (Nat × Nat × Nat) := none
  /-- Satellites of the chain as far as walks have found it: the highest hop. -/
  chain : Nat := 0
  /-- The unwrap tick of the heal whose quiet time stands (R424), and the frames it holds back. -/
  quiet : Option Nat := none
  txWait : List (RingEnd × List Sym) := []
  /-- The frame, or the K symbols, last sent from the OUT end on F and from the RET end on K. -/
  txOut : List Sym := []
  txRet : List Sym := []
  heal : Option Heal := none
  /-- Ticks of discarded frames counted toward LINK_ERR (R963). -/
  badTicks : List Nat := []
  outLost : Bool := false
  retLost : Bool := false
  /-- LINK state at a hub end that stands in for a neighbour (R418). -/
  linkOut : LinkEnd := {}
  linkRet : LinkEnd := {}
  lastWalk : Nat := 0
  /-- The hub transmits (idle, beacons) on this tether. -/
  transmit : Bool := false
  /-- A RIPCORD was sent and traffic then stopped (R32). -/
  ripcordSent : Bool := false
  beacons : Nat := 0
  deriving DecidableEq, Repr

/-- The TTH block. -/
structure Tth where
  tethers : Vector Tether 4 := Vector.replicate 4 {}
  hold : Nat := 0
  refuseReason : Nat := 0
  refusePort : Port := .a
  /-- SAFE walk that waits for the silence time (R751): tick of the RIPCORD. -/
  safeSince : Option Nat := none
  deriving DecidableEq, Repr

/-- Which ring pair a satellite locks to. -/
inductive LockSrc where
  | none | f | k | holdover
  deriving DecidableEq, Repr

/-- A ZG4's own condition (Table - Satellite conditions). -/
inductive SatCond where
  | unpowered | unlocked | unassigned | parked | running | asleep | loader | romLoader | isolated
  deriving DecidableEq, Repr

/-- What SET_SAT carries (Table - CMD codes). -/
structure SatCfg where
  silence : Nat := 100
  grail0 : Bool := false
  grail1 : Bool := false
  gap : Nat := 5
  win : Nat := 10
  min0 : Nat := 0
  min1 : Nat := 0
  ballastMin : Nat := 120
  vccWin : Nat := 200
  clkDelay : Nat := 10
  rstClks : Nat := 500
  atrMax : Nat := 400
  isoDiv : Nat := 200
  sdDiv : Nat := 32
  deriving DecidableEq, Repr

/-- What a ZG4 puts on one of its outputs (R395, R396). -/
structure PairOut where
  /-- Its tick until which a frame of its own and the two K28.5 behind it take the pair. -/
  busyUntil : Nat := 0
  /-- The insertion buffer: symbols that wait behind the own frame. -/
  held : List Sym := []
  /-- Frames of its own that have not begun. -/
  waiting : List (List Sym) := []
  /-- The frame last sent, own or forwarded. -/
  last : List Sym := []
  /-- K28.1 sent as delay echoes (R390). -/
  echoes : Nat := 0
  deriving DecidableEq, Repr

/-- A RESULT the satellite has to send: kind, slot byte, payload (Table - RESULT kinds). -/
structure SatResult where
  kind : Nat
  slot : Nat := 0xFF
  payload : List Byte := []
  deriving DecidableEq, Repr

/-- One ZG4, by its place on its tether (key: tether x 64 + place from the OUT end). -/
structure Sat where
  cond : SatCond := .unpowered
  uid : Nat := 0
  hwver : Nat := 0
  ringver : Nat := 1
  fwB : Nat := 0
  fwN : Nat := 0
  fwM : Nat := 0
  imageState : Nat := 0
  position : Nat := 0
  provisional : Bool := false
  /-- ISOLATED bit of the identity answer (R447). -/
  isoBit : Bool := false
  lock : LockSrc := .none
  tick : Nat := 0
  inLostF : Bool := false
  inLostK : Bool := false
  /-- Joined inputs: folded at port A, at port B (R416). -/
  foldA : Bool := false
  foldB : Bool := false
  /-- The port at which it last folded: B. -/
  lastPortB : Bool := false
  /-- The fold waits for a locked clock (R416): at port B. -/
  foldDue : Option Bool := none
  /-- It has unwrapped and not folded since (R428). -/
  unwrapped : Bool := false
  /-- A LINK frame of the neighbour has come, and one with RECEIVING set. -/
  linkHeard : Bool := false
  linkRx : Bool := false
  linkRxWrapped : Bool := false
  /-- Its tick of the latest relock (R96). -/
  relockAt : Option Nat := none
  outF : PairOut := {}
  outK : PairOut := {}
  unwrapAt : Option Nat := none
  /-- Armed by DELAY for the next K28.1 (R430), with the arming tick. -/
  delayArmed : Option Nat := none
  /-- The pair on which that DELAY came. -/
  delayPairK : Bool := false
  markerTick : Nat := 0
  setSat : Bool := false
  setSlots : BitVec 4 := 0
  cfg : SatCfg := {}
  /-- H of the last CMD executed and its cached CACK; S of the last RESULT sent. -/
  lastH : Bool := false
  cack : Nat := 0
  togS : Bool := false
  sending : Option SatResult := none
  results : List SatResult := []
  /-- The identity answer, sweep report and other direct answers last sent, as bytes. -/
  answer : List Byte := []
  fault : FaultBank := { frx0 := 0x049, frx1 := 0x288, frx2 := 0x3B6 }
  conv : List Nat := [0x3FF, 0x3FF, 0x3FF, 0x3FF, 0x3FF, 0x3FF, 0x3FF, 0x3FF, 0x3FF, 0x3FF, 0x3FF, 0x3FF, 0x3FF, 0x3FF]
  report : List Word := []
  gen0 : Bool := false
  gen1 : Bool := false
  grail0 : Nat := 0
  grail1 : Nat := 0
  /-- Consecutive readings of a running module rail below its minimum (R205). -/
  low0 : Nat := 0
  low1 : Nat := 0
  /-- GRAIL_GAP runs before GRAIL1's enable; a lowering awaits GRAIL1's fall. -/
  gap : Bool := false
  lowering : Bool := false
  vinLost : Bool := false
  vpsLow : Bool := false
  holdLow : Bool := false
  fltN : Bool := true
  /-- The output into the broken segment is silenced (R416). -/
  silent : Bool := false
  /-- Tick of a RIPCORD receipt whose silence time runs (R450). -/
  ripcordAt : Option Nat := none
  rearmAfterFetch : Option Nat := none
  /-- Trace chunks stored for a replay: slot and bytes (R910). -/
  replaySlot : Nat := 0
  replayBytes : List Byte := []
  /-- Loader: receiving, image length, bytes programmed (R869 to R872). -/
  receiving : Bool := false
  erasing : Bool := false
  imageLen : Nat := 0
  imageHash : List Byte := []
  imageStart : Nat := 0
  imageVersion : Nat := 0
  image : Tbl Byte := []
  deriving DecidableEq, Repr

/-- The SAT block of the hub: positions (key: tether x 64 + position) and the trace buffer. -/
structure SatBlock where
  views : Tbl SatView := []
  slotViews : Tbl SlotView := []
  /-- The satellites themselves. -/
  sats : Tbl Sat := []
  trValid : Bool := false
  trFetching : Bool := false
  trSlot : Nat := 0
  trBytes : Tbl Byte := []
  deriving DecidableEq, Repr

/-! ### Ledger, measurement, lookout (18, 19, 20) -/

/-- What the ledger keeps of one slot, keyed by slot identifier. -/
structure LdgSlot where
  /-- Reservation in mW, 0 none (R643). -/
  res : Nat := 0
  /-- Order of admission, for relief and shedding. -/
  admitted : Nat := 0
  /-- Measured power readings of the last sweeps in mW, newest first, at most 8 (R636 to R638). -/
  readings : List Nat := []
  shed : Bool := false
  activating : Bool := false
  measHigh : Bool := false
  deriving DecidableEq, Repr

/-- The LDG block (18). -/
structure Ldg where
  battery : Bool := false
  alarmPlan : Bool := false
  shedLevel : Nat := 0
  short : Bool := false
  overLift : Bool := false
  declared : Bool := true
  /-- Remaining battery energy, 0.1 Wh, and the mW x tick remainder below it (R664). -/
  battRem : Nat := 0
  battFrac : Nat := 0
  battWritten : Bool := false
  xstby : Nat := 0
  xalm : Nat := 0
  fcast : Nat := 0x3FF
  margin : Int := 0
  /-- Ticks of alarm state in the present time on battery, up to the last end of the alarm state, and the tick at which
  the present alarm state began. -/
  alarmTicks : Nat := 0
  alarmSince : Nat := 0
  refuseReason : Nat := 0
  refusePort : Port := .a
  slots : Tbl LdgSlot := []
  nextAdmit : Nat := 1
  /-- Last decision's tick. -/
  lastDecision : Nat := 0
  /-- Tick of the last change of LDG_SOURCE.BATTERY. -/
  sourceSince : Nat := 0
  deriving DecidableEq, Repr

/-- One channel of the hub's converter. -/
structure Channel where
  last : Nat := 0x3FF
  /-- Latest samples, newest first, at most 8 (R685). -/
  recent : List Nat := []
  hi : Nat := 0x3FF
  lo : Nat := 0x3FF
  deriving DecidableEq, Repr

/-- One sweep buffer (Table - Sweep table): words 0 to 2 and, per position, a status and 19 report words. -/
structure SweepBuf where
  num : Nat := 0x3FF
  stat : Nat := 0x3FF
  miss : Nat := 0x3FF
  /-- Key: tether x 64 + position; status word and report words. -/
  rows : Tbl (Option (List Word)) := []
  deriving DecidableEq, Repr

/-- The MEA block (19). -/
structure Mea where
  /-- The tick of the first sample of the scan under way and its readings so far; the scan that ended at this tick. -/
  scanTick : Nat := 0
  scanGot : List Nat := []
  scanned : Option RecEntry := none
  running : Bool := false
  bootList : Bool := false
  list : List Nat := []
  nextList : Option (List Nat) := none
  /-- A sweep has started since `nextList` was set: the next scan takes it (R684). -/
  nextReady : Bool := false
  scanPos : Nat := 0
  channels : Tbl Channel := []
  hotScans : Nat := 0
  coolScans : Nat := 0
  hotArmed : Bool := true
  sweepMs : Nat := 10
  sweepNum : Nat := 0
  open_ : Bool := false
  openAt : Nat := 0
  curNum : Nat := 0
  /-- Queried positions: 1 waiting, 2 resent, 3 report taken, 4 report taken after a resend. -/
  queried : Tbl Nat := []
  filling : SweepBuf := {}
  latest : SweepBuf := {}
  published : Bool := false
  pins : PerPort (Option SweepBuf) := ⟨none, none⟩
  drop : Nat := 0
  lastPartial : Bool := false
  deriving DecidableEq, Repr

/-- One lookout rule (20). -/
structure LkoRule where
  words : List Word := []
  active : Bool := false
  count : Nat := 0
  /-- Settled value and candidate of the input filter. -/
  settled : Option Nat := none
  candidate : Nat := 0x3FF
  hasCandidate : Bool := false
  /-- Low-pass value y with 10 fraction bits. -/
  y : Nat := 0
  hasY : Bool := false
  value : Nat := 0x3FF
  fires : Nat := 0
  hit : Bool := false
  /-- The hit was set at this tick (R8). -/
  hitNew : Bool := false
  /-- The rule has taken its actions at this tick (R906). -/
  acted : Bool := false
  lastLog : Option Nat := none
  /-- Held at reset after an uncorrectable error in its stored words (LKO RULE_ECC). -/
  held : Bool := false
  deriving DecidableEq, Repr

/-- The LKO block (20). -/
structure Lko where
  standby : Bool := false
  evaluating : Bool := false
  rules : Tbl LkoRule := []
  pfw : Bool := false
  wakeSrc : Nat := 0
  wakeRule : Option Nat := none
  /-- A wake source acted at this tick, and it woke the cores at this tick (R725, R729). -/
  sourced : Bool := false
  woken : Bool := false
  refuseReason : Nat := 0
  refusePort : Port := .a
  sbyCnt : Nat := 0
  /-- Acknowledgments of ACK actions that wait for the next tick, by block number: their records were queued at this one
  (R721). -/
  ackDue : List (Nat × Nat) := []
  /-- Slots that RIPCORD actions of this tick named: a dispatch of the tick to one of them comes after (R730). -/
  ripped : List Nat := []
  logSkip : Nat := 0
  deriving DecidableEq, Repr

/-! ### Log and flash (23) -/

/-- An event record (Table - Event record), before and after it is written. -/
structure LogRec where
  seq : Nat
  type : Nat
  tick : Nat
  boot : Nat := 0
  site : Nat := 0
  state : HubState := .off
  trial : Bool := false
  payload : List Nat := []
  deriving DecidableEq, Repr

/-- A flash sector's wear (Table - Wear table). -/
structure Sector where
  erases : Nat := 0
  /-- 0 good, 1 tired, 2 retired, 3 in use as a replacement. -/
  status : Nat := 0
  deriving DecidableEq, Repr

/-- One sector of the log ring: the records in its slots (`none`: a slot whose record is not valid, R795), or a part of a
snapshot; `gone` once it has left the ring (R804). -/
structure LogSector where
  slots : List (Option LogRec) := []
  snap : Bool := false
  gone : Bool := false
  /-- Part of a power-fail record without its commit marker stands in it: it is not erased (R154, R157). -/
  dirty : Bool := false
  deriving DecidableEq, Repr

/-- A wear table of the flash (Table - Wear table): its generation, 0 while no valid table stands in its sector, each
sector's erase count and status, and the remap list. -/
structure WearTable where
  generation : Nat := 0
  sectors : Tbl Sector := []
  remap : List (Nat × Nat) := []
  deriving DecidableEq, Repr

/-- A port's fetch: the buffer and its state (R806). -/
structure Fetch where
  busy : Bool := false
  result : Nat := 0
  len : Nat := 0
  bytes : List Byte := []
  /-- The number sought, while busy; `none`: the latest snapshot. -/
  want : Option Nat := none
  deriving DecidableEq, Repr

/-- The LOG block. -/
structure Log where
  next : Nat := 0
  queue : List LogRec := []
  /-- The ring's sectors, keyed 0 to 255; an unlisted sector is erased. -/
  ring : Tbl LogSector := []
  head : Nat := 0
  /-- Valid snapshots with the ring index of their first and second sector. -/
  snaps : List (Nat × Nat × Snapshot) := []
  frozen : Bool := false
  dropped : Nat := 0
  /-- Wear of the flash's sectors, keyed 0 to 1023, and the remap list (R787, R803). -/
  sectors : Tbl Sector := []
  remap : List (Nat × Nat) := []
  fetch : PerPort Fetch := ⟨{}, {}⟩
  /-- The two boot count journal sectors, oldest entry first: the entries' eight bytes (Table - Journal entry). -/
  journalA : List (List Byte) := []
  journalB : List (List Byte) := []
  /-- The two wear tables in flash (R787). -/
  wearA : WearTable := {}
  wearB : WearTable := {}
  /-- A write of the wear table waits for the release of a power failure (R152). -/
  wearDue : Bool := false
  /-- Flash operations of this tick: erase or program, sector, retries, whether it went well; and its fault events: block, bit
  and class held (R891, R906). -/
  ops : List (Bool × Nat × Nat × Bool) := []
  faults : List (Nat × Nat × Nat) := []
  deriving DecidableEq, Repr

/-! ### Random source, keys, OTP (24) -/

/-- OTP contents (24). -/
structure Otp where
  /-- SHA-256 of the public key in slots 0 and 1, 0 empty. -/
  hash0 : Nat := 0
  hash1 : Nat := 0
  revoked0 : Bool := false
  revoked1 : Bool := false
  rigSigReq : Bool := false
  debugOpen : Bool := false
  testClosed : Bool := true
  floors : List Nat := []
  /-- Items whose check bytes fail: treated as their safe reading. -/
  failed : List Nat := []
  deriving DecidableEq, Repr

/-- The two health tests of the noise source over its raw bits (R813). -/
structure Health where
  /-- The last raw bit, and how many bits in a row have had its value. -/
  last : Bool := false
  run : Nat := 0
  /-- The window's first bit, the bits of the window so far, and how many of them had the first one's value. -/
  first : Bool := false
  pos : Nat := 0
  same : Nat := 0
  deriving DecidableEq, Repr

/-- The RND block (24). -/
structure Rnd where
  ready : Bool := false
  testing : Bool := false
  rolling : Bool := false
  otpBusy : Bool := false
  pool : List Byte := []
  under : Nat := 0
  fails : Nat := 0
  nboot : Nat := 0
  ncount : Nat := 0
  /-- The health tests over the raw bits so far (R813). -/
  health : Health := {}
  refuseReason : Nat := 0
  refusePort : Port := .a
  sigLast : Nat := 0
  hashWin : List Byte := List.replicate 32 0
  armed : Option Port := none
  /-- The tick at which it was armed (R825, R836). -/
  armAt : Nat := 0
  /-- OTP command running: its code, and the staged hash as it stood when it was written. -/
  otpCmd : Option (Nat × Nat) := none
  tap : Nat := 0
  otp : Otp := {}
  deriving DecidableEq, Repr

/-! ### Update (25) -/

/-- One firmware bank: its image, header first, and its trailer (R843, Table - Bank trailer). An unlisted byte is 0xFF. -/
structure FwBank where
  image : Tbl Byte := []
  generation : Nat := 0xFFFFFFFF
  complement : Nat := 0xFFFFFFFF
  written : Bool := false
  trials : Nat := 0
  confirmed : Bool := false
  rejected : Bool := false
  fallbackSeen : Bool := false
  deriving DecidableEq, Repr

/-- One image store slot: a satellite image, header first, and whether it passed its checks whole. -/
structure StoreSlot where
  image : Tbl Byte := []
  written : Bool := false
  deriving DecidableEq, Repr

/-- A settings bank. -/
structure SetBank where
  valid : Bool := false
  format : Nat := 0
  generation : Nat := 0
  records : List (Nat × List Byte) := []
  deriving DecidableEq, Repr

/-- Who holds the update staging buffer. -/
inductive UpdOwner where
  | none | port (p : Port) | card
  deriving DecidableEq, Repr

/-- The UPD block. -/
structure Upd where
  /-- UPD_STAT.PHASE: 0 idle, 1 receiving, 2 verifying, 3 writing, 4 staged. -/
  phase : Nat := 0
  owner : UpdOwner := .none
  /-- TARGET of the job that runs, or ran last. -/
  target : Nat := 0
  reason : Nat := 0
  resTarget : Nat := 0
  refuse : Nat := 0
  refusePort : Port := .a
  room : Nat := 64
  /-- UPD_WIN, keyed 0 to 63. -/
  window : Tbl Word := []
  /-- The staged image: bytes received, and their count. -/
  image : Tbl Byte := []
  count : Nat := 0
  /-- Images that a fetch or the card flow has taken and is writing. -/
  fetch : List (Tbl Byte) := []
  fsum : Nat := 0
  satPos : Nat := 0x3FF
  satPhase : Nat := 0
  /-- Payload offset from which the satellite being updated is sent the image (R870). -/
  satStart : Nat := 8192
  /-- Tick from which the next UPD_DATA may go (R871). -/
  nextAt : Option Nat := none
  /-- Tick of the RUN entry from which the trial window runs (R848). -/
  trialStart : Option Nat := none
  /-- The window has ended; the restart waits for the end of the alarm state (R851). -/
  deferred : Bool := false
  setDefault : Bool := false
  /-- HOLD has been written, and an image has been written, since RECOVERY entry (R868). -/
  hold : Bool := false
  wrote : Bool := false
  /-- The card flow of RECOVERY has run for the card in L0 (R868). -/
  flowRan : Bool := false
  runBank : Nat := 0
  bankA : FwBank := {}
  bankB : FwBank := {}
  store0 : StoreSlot := {}
  store1 : StoreSlot := {}
  setA : SetBank := {}
  setB : SetBank := {}
  /-- The settings bank loaded in RIGGING: 0 A, 1 B; with none loaded the next write goes to A. -/
  setFrom : Nat := 1
  settings : List (Nat × List Byte) := []
  /-- What waits for the release of a power failure, during which no flash write begins (R152, R866): the erase of the
  target area, the marks of a confirmation, the mark of a DISCARD. -/
  eraseDue : Bool := false
  /-- The fetch found no hub image newer than the running one (SAME, R862). -/
  fetchSame : Bool := false
  confirmDue : Bool := false
  discardDue : Bool := false
  deriving DecidableEq, Repr

/-! ### Flight recorder (26) -/

/-- A seed (R894): its tick, the source's READY then, and the buffer that holds it. What it holds of the cores' memory is no
state of this model (notes/assumptions/46.md). -/
structure Seed where
  tick : Nat
  ready : Bool := false
  buffer : Nat := 0
  deriving DecidableEq, Repr

/-- One block of the recorder's RAM (R889): its TIME entry's tick, its entries newest first, the bytes they take with it, the
tick of the last one; `gap` where its RAM was found uncorrectable. -/
structure RecBlock where
  time : Nat
  entries : List RecEntry := []
  size : Nat := 9
  last : Nat
  gap : Bool := false
  deriving DecidableEq, Repr

/-- A recording: the RAM's, or that of a dump area, with what Table - Dump header says of it. -/
structure Recording where
  /-- The area holds a valid header. -/
  valid : Bool := false
  /-- The area is erased. -/
  erased : Bool := true
  /-- Firmware version, rig version and rig CRC-32 (Table - Dump header). -/
  version : Nat := 0
  rigVersion : Nat := 0
  rigCrc : Nat := 0
  cause : Nat := 0
  ftick : Nat := 0
  state : Nat := 0
  boot : Nat := 0
  site : Nat := 0
  seed : Option Seed := none
  /-- CRC-32 of the seed dumped. -/
  seedCrc : Nat := 0
  /-- Its blocks, newest first. -/
  blocks : List RecBlock := []
  deriving DecidableEq, Repr

/-- A replay in progress: the entries it has still to take, oldest first; whether it has taken an input; the replayed READY;
and where its free values stand (R903, R904, R911). -/
structure Replay where
  source : List RecEntry := []
  fed : Bool := false
  ready : Bool := false
  key : Nat := 0
  deriving DecidableEq, Repr

/-- What the recorder compares a tick with: input levels in the order of their codes, the levels of output classes 1 and 2, the
write indices of the return rings, the source's READY and the hub's state. -/
structure Seen where
  edges : List (Nat × Bool)
  outs : List OutEvent
  rheadA : Nat
  rheadB : Nat
  ready : Bool
  state : HubState
  deriving DecidableEq, Repr

/-- The REC block. -/
structure Rec where
  recording : Bool := false
  frozen : Bool := false
  delaying : Bool := false
  dumping : Bool := false
  armed0 : Bool := false
  armed1 : Bool := false
  replaying : Bool := false
  cfg : Nat := 3
  post : Nat := 100
  refuseReason : Nat := 0
  refusePort : Port := .a
  keep : Nat := 0
  ftick : Nat := 0
  fcause : Nat := 0
  missed : Nat := 0
  rstat : Nat := 0
  rtick : Nat := 0
  divt : Nat := 0
  divcls : Nat := 0
  sigRec : Nat := 0
  sigRep : Nat := 0
  divcnt : Nat := 0
  ram : Recording := {}
  area0 : Recording := {}
  area1 : Recording := {}
  /-- The two newest seeds, newest first. -/
  seeds : List Seed := []
  /-- Tick of the freeze cause in force (R912). -/
  causeTick : Nat := 0
  /-- Tick from which the present recording runs. -/
  since : Nat := 0
  /-- The freeze came at this tick: its entries are still written. -/
  closing : Bool := false
  /-- MARK entries of this tick: code and argument. -/
  marks : List (Nat × Nat) := []
  /-- The input queue (R893), and how many entries were lost since it was last full. -/
  queue : List RecEntry := []
  lost : Nat := 0
  /-- The list and the readings of the last scan written. -/
  lastScan : Option (List Nat × List Nat) := none
  seen : Option Seen := none
  play : Replay := {}
  deriving DecidableEq, Repr

/-! ### The whole machine -/

/-- The hub with its satellites, and the commands that wait. -/
structure State where
  sys : Sys := {}
  fatal : Fatal := {}
  pins : Pins := {}
  sup : Supply := {}
  start : Start := {}
  fb : FaultBanks := {}
  ports : PerPort HostPort := ⟨{}, {}⟩
  mor : Mor := {}
  ord : OrdBlock := {}
  /-- Physical slots, local and of satellites. -/
  slots : Tbl Slot := []
  tth : Tth := {}
  sat : SatBlock := {}
  ldg : Ldg := {}
  rls : Rails := {}
  mea : Mea := {}
  lko : Lko := {}
  log : Log := {}
  rnd : Rnd := {}
  upd : Upd := {}
  rig : RigBlock := {}
  rcd : Rec := {}
  /-- The model's own: how many free values have been drawn (Config.freeNat). -/
  free : Nat := 0
  /-- Commands that wait, first in, first out. -/
  pending : List Instr := []
  deriving DecidableEq, Repr

/-- The machine right after reset: the hub in OFF with its supplies down, every register at its reset value, no rig and
no firmware in flash, no satellite on a tether, no command waiting. -/
def State.reset : State := {}

/-- Why a command stops the machine. -/
inductive Fault where
  /-- Raised by RESET_EXIT when TMODE is sampled high, and by a host frame to 0xF00 to 0xFFF, while factory test access is
  open in OTP (R123, R295): the manual gives factory test no behaviour. Safe: the machine stops. -/
  | factoryTest
  deriving DecidableEq, Repr

/-- Why a command has no meaning here. -/
inductive Refusal where
  /-- An arm of exec that has no meaning yet, by mnemonic. Safe. -/
  | notModelled (mnemonic : String)
  deriving DecidableEq, Repr

end Machine
end Sys2Proof
end

