-- ==== Sys2Proof/Machine/Operands.lean ====
section
/-!
DEFINITION. The forms in which operands and words carry their fields: bit fields, byte order, the checks (CRC-8, CRC-16,
CRC-32, CRC7, LRC), slot and position identifiers, and SHA-256, each written once for every command that uses it.
-/
namespace Sys2Proof
namespace Machine

/-- Bits [lo + n - 1 : lo] of a number. -/
def field (v lo n : Nat) : Nat := v / 2 ^ lo % 2 ^ n

/-- Bit `k` of a number. -/
def bitAt (v k : Nat) : Bool := decide (v / 2 ^ k % 2 = 1)

/-- A value lies in a range. -/
def inRange (v lo hi : Nat) : Bool := decide (lo ≤ v) && decide (v ≤ hi)

/-- The number of a list of bytes, least significant byte first. -/
def leNat : List Byte → Nat
  | [] => 0
  | b :: t => b.toNat + 256 * leNat t

/-- `n` bytes of a number, least significant byte first. -/
def natLe : Nat → Nat → List Byte
  | 0, _ => []
  | n + 1, v => BitVec.ofNat 8 v :: natLe n (v / 256)

/-- The number of a list of bytes, most significant byte first. -/
def beNat (l : List Byte) : Nat := l.foldl (fun a b => 256 * a + b.toNat) 0

/-- `n` bytes of a number, most significant byte first. -/
def natBe (n v : Nat) : List Byte := (natLe n v).reverse

/-- A byte from a number. -/
def byte (v : Nat) : Byte := BitVec.ofNat 8 v

/-- The bytes `lo` to `lo + n - 1` of a list, as many as there are. -/
def slice (l : List α) (lo n : Nat) : List α := (l.drop lo).take n

/-- The bytes at keys `lo` to `lo + n - 1` of a sparse store whose unlisted bytes read `d`. -/
def tblBytes (d : Byte) (t : Tbl Byte) (lo : Nat) : Nat → List Byte
  | 0 => []
  | n + 1 => tblGet d t lo :: tblBytes d t (lo + 1) n

/-- Write a run of bytes from key `lo`. -/
def tblWriteBytes (d : Byte) (t : Tbl Byte) (lo : Nat) : List Byte → Tbl Byte
  | [] => t
  | b :: l => tblWriteBytes d (tblSet d t lo b) (lo + 1) l

/-! ### Identifiers (R19 to R21) -/

/-- The position identifier (tether x 64 + position) of a slot identifier. -/
def slotPos (id : Nat) : Nat := id / 4

/-- Position number of a position identifier. -/
def posNo (pos : Nat) : Nat := pos % 64

/-- Tether number of a position identifier or place. -/
def posTether (pos : Nat) : Nat := pos / 64

/-- The slot identifier of slot `n` at a position, or the key of slot `n` at a place. -/
def slotOf (pos n : Nat) : Nat := 4 * pos + n

/-- A local slot's identifier or key (R20). -/
def isLocal (id : Nat) : Bool := decide (id < 4)

/-- Identifiers R21 reserves: position 0 on tethers 1 to 3. -/
def reservedSlot (id : Nat) : Bool := decide (4 ≤ id) && decide (id / 4 % 64 = 0)

/-- The code of a slot state (Table - Slot states). -/
def slotCode : SlotState → Nat
  | .empty => 0 | .present => 1 | .rising => 2 | .atr => 3 | .ready => 4 | .busy => 5 | .asleep => 6 | .falling => 7
  | .tripped => 8 | .unreachable => 9 | .disabled => 10 | .updating => 11

/-- The slot state of a code a satellite reports; `none` for codes that name no state. -/
def slotStateOf : Nat → Option SlotState
  | 0 => some .empty | 1 => some .present | 2 => some .rising | 3 => some .atr | 4 => some .ready | 5 => some .busy
  | 6 => some .asleep | 7 => some .falling | 8 => some .tripped | 9 => some .unreachable | 10 => some .disabled
  | 11 => some .updating | _ => none

/-- SAT_STATE.STATE codes. -/
def satCode : SatState → Nat
  | .absent => 0 | .enumerating => 1 | .active => 2 | .asleep => 3 | .lost => 4 | .isolated => 5 | .updating => 6
  | .recovery => 7 | .incompatible => 8

/-- SYS_STATE.STATE codes; OFF answers no frame, its code 0 is never read (Table - SYS_STATE fields). -/
def hubCode : HubState → Nat
  | .off => 0 | .reset => 1 | .boot => 2 | .rigging => 3 | .rising => 4 | .enumerate => 5 | .run => 6 | .standby => 7
  | .recovery => 8 | .replay => 9 | .fatal => 10

/-- SLOT.KIND codes. -/
def kindCode : SlotKind → Nat
  | .disabled => 0 | .iso => 1 | .sd => 2

/-- Slot kind of a code. -/
def kindOf : Nat → SlotKind
  | 1 => .iso
  | 2 => .sd
  | _ => .disabled

/-! ### Checks -/

/-- One bit of an unreflected CRC of width `w`. -/
def crcBit (w poly : Nat) (c : Nat) (b : Bool) : Nat :=
  let top := bitAt c (w - 1)
  let sh := c * 2 % 2 ^ w
  if xor top b then Nat.xor sh poly else sh

/-- The bits of a number, `n` of them, most significant first. -/
def bitsMsb : Nat → Nat → List Bool
  | 0, _ => []
  | n + 1, v => bitAt v n :: bitsMsb n v

/-- CRC-8 of R244 over `n` bits of a value, most significant first. -/
def crc8 (n v : Nat) : Nat := (bitsMsb n v).foldl (crcBit 8 0x07) 0xFF

/-- CRC-16 of R253 and R398: polynomial 0x1021, preset 0xFFFF, over a bit list. -/
def crc16 (bits : List Bool) : Nat := bits.foldl (crcBit 16 0x1021) 0xFFFF

/-- Bits packed into bytes, the first in bit 7 of the first, the last byte filled with 0. -/
def packBits : Nat → List Bool → List Byte
  | 0, _ => []
  | n + 1, l =>
    byte ((List.range 8).foldl (fun a k => 2 * a + bit (l.getD k false)) 0) :: packBits n (l.drop 8)

/-- CRC-16 of the words of a burst (R253). -/
def crc16Words (l : List Word) : Nat := crc16 ((l.map (fun w => bitsMsb 10 w.toNat)).flatten)

/-- CRC-16 of an SD data block (R600): preset 0. -/
def crc16Sd (l : List Byte) : Nat :=
  ((l.map (fun b => bitsMsb 8 b.toNat)).flatten).foldl (crcBit 16 0x1021) 0

/-- CRC7 of an SD command (R595). -/
def crc7 (l : List Byte) : Nat := ((l.map (fun b => bitsMsb 8 b.toNat)).flatten).foldl (crcBit 7 0x09) 0

/-- One bit of a reflected CRC. -/
def crcBitR (poly : Nat) (c : Nat) (b : Bool) : Nat :=
  let low := bitAt c 0
  if xor low b then Nat.xor (c / 2) poly else c / 2

/-- The bits of a number, `n` of them, least significant first. -/
def bitsLsb : Nat → Nat → List Bool
  | 0, _ => []
  | n + 1, v => bitAt v 0 :: bitsLsb n (v / 2)

/-- CRC-32 of R45: reflected 0x04C11DB7, preset and final complement all ones. -/
def crc32 (l : List Byte) : Nat :=
  Nat.xor (((l.map (fun b => bitsLsb 8 b.toNat)).flatten).foldl (crcBitR 0xEDB88320) 0xFFFFFFFF) 0xFFFFFFFF

/-- CRC of T=1 blocks (R961): reflected 0x1021, preset 0xFFFF, complemented. -/
def crc16T1 (l : List Byte) : Nat :=
  Nat.xor (((l.map (fun b => bitsLsb 8 b.toNat)).flatten).foldl (crcBitR 0x8408) 0xFFFF) 0xFFFF

/-- XOR of bytes: LRC, TCK, PCK. -/
def xorAll (l : List Byte) : Byte := l.foldl (fun a b => a ^^^ b) 0

/-! ### Packed words (R43, R44) -/

/-- Four words to five bytes. -/
def packFour (a b c d : Nat) : List Byte := natLe 5 (a + b * 2 ^ 10 + c * 2 ^ 20 + d * 2 ^ 30)

/-- Words packed four to five bytes, the last group completed with 0x000; `fuel` groups at most. -/
def packWords : Nat → List Word → List Byte
  | 0, _ => []
  | _, [] => []
  | n + 1, l =>
    packFour (l.getD 0 0).toNat (l.getD 1 0).toNat (l.getD 2 0).toNat (l.getD 3 0).toNat ++ packWords n (l.drop 4)

/-! ### SHA-256 (FIPS 180-4, named by R1 and R54) -/

/-- Addition modulo 2^32. -/
def add32 (a b : Nat) : Nat := (a + b) % 2 ^ 32

/-- Rotation of a 32-bit number to the right. -/
def rotr (n v : Nat) : Nat := (v / 2 ^ n + v * 2 ^ (32 - n)) % 2 ^ 32

/-- The 64 round constants. -/
def shaK : List Nat := [
  0x428a2f98, 0x71374491, 0xb5c0fbcf, 0xe9b5dba5, 0x3956c25b, 0x59f111f1, 0x923f82a4, 0xab1c5ed5] ++ [
  0xd807aa98, 0x12835b01, 0x243185be, 0x550c7dc3, 0x72be5d74, 0x80deb1fe, 0x9bdc06a7, 0xc19bf174] ++ [
  0xe49b69c1, 0xefbe4786, 0x0fc19dc6, 0x240ca1cc, 0x2de92c6f, 0x4a7484aa, 0x5cb0a9dc, 0x76f988da] ++ [
  0x983e5152, 0xa831c66d, 0xb00327c8, 0xbf597fc7, 0xc6e00bf3, 0xd5a79147, 0x06ca6351, 0x14292967] ++ [
  0x27b70a85, 0x2e1b2138, 0x4d2c6dfc, 0x53380d13, 0x650a7354, 0x766a0abb, 0x81c2c92e, 0x92722c85] ++ [
  0xa2bfe8a1, 0xa81a664b, 0xc24b8b70, 0xc76c51a3, 0xd192e819, 0xd6990624, 0xf40e3585, 0x106aa070] ++ [
  0x19a4c116, 0x1e376c08, 0x2748774c, 0x34b0bcb5, 0x391c0cb3, 0x4ed8aa4a, 0x5b9cca4f, 0x682e6ff3] ++ [
  0x748f82ee, 0x78a5636f, 0x84c87814, 0x8cc70208, 0x90befffa, 0xa4506ceb, 0xbef9a3f7, 0xc67178f2]

/-- The initial hash value. -/
def shaH0 : List Nat := [
  0x6a09e667, 0xbb67ae85, 0x3c6ef372, 0xa54ff53a, 0x510e527f, 0x9b05688c, 0x1f83d9ab, 0x5be0cd19]

/-- The message schedule, newest word first: `n` words more. -/
def shaSched : Nat → List Nat → List Nat
  | 0, w => w
  | n + 1, w =>
    let s0 := let x := w.getD 14 0; Nat.xor (Nat.xor (rotr 7 x) (rotr 18 x)) (x / 2 ^ 3)
    let s1 := let x := w.getD 1 0; Nat.xor (Nat.xor (rotr 17 x) (rotr 19 x)) (x / 2 ^ 10)
    shaSched n (add32 (add32 s1 (w.getD 6 0)) (add32 s0 (w.getD 15 0)) :: w)

/-- One round on the eight working variables a to h. -/
def shaRound (v : List Nat) (kw : Nat) : List Nat :=
  let a := v.getD 0 0; let b := v.getD 1 0; let c := v.getD 2 0; let d := v.getD 3 0
  let e := v.getD 4 0; let f := v.getD 5 0; let g := v.getD 6 0; let h := v.getD 7 0
  let big1 := Nat.xor (Nat.xor (rotr 6 e) (rotr 11 e)) (rotr 25 e)
  let ch := Nat.xor (Nat.land e f) (Nat.land (2 ^ 32 - 1 - e) g)
  let t1 := add32 (add32 h big1) (add32 ch kw)
  let big0 := Nat.xor (Nat.xor (rotr 2 a) (rotr 13 a)) (rotr 22 a)
  let maj := Nat.xor (Nat.xor (Nat.land a b) (Nat.land a c)) (Nat.land b c)
  [add32 t1 (add32 big0 maj), a, b, c, add32 d t1, e, f, g]

/-- One 64-byte block into the hash value. -/
def shaBlock (h : List Nat) (block : List Byte) : List Nat :=
  let w0 := (List.range 16).map (fun i => beNat (slice block (4 * i) 4))
  let w := (shaSched 48 w0.reverse).reverse
  let v := (List.zipWith (fun k x => add32 k x) shaK w).foldl shaRound h
  List.zipWith add32 h v

/-- Padding: 0x80, zeros, the bit length in eight bytes. -/
def shaPad (l : List Byte) : List Byte :=
  l ++ [0x80] ++ List.replicate ((119 - l.length % 64) % 64) 0 ++ natBe 8 (8 * l.length)

/-- Blocks of 64 bytes, `n` of them. -/
def shaBlocks : Nat → List Nat → List Byte → List Nat
  | 0, h, _ => h
  | n + 1, h, l => shaBlocks n (shaBlock h (l.take 64)) (l.drop 64)

/-- SHA-256 of a byte string, as 32 bytes. -/
def sha256 (l : List Byte) : List Byte :=
  let p := shaPad l
  ((shaBlocks (p.length / 64) shaH0 p).map (fun x => natBe 4 x)).flatten

end Machine
end Sys2Proof
end

