-- ==== Sys2Proof/Machine/Ecdsa.lean ====
section
/-!
DEFINITION. The signature engine's judgement (R829): ECDSA over P-256 with SHA-256. The curve, its base point and the
verification equation are those of the standard the manual names by "ECDSA over P-256"; that standard's byte order, most
significant byte first, holds for X, Y, r and s (PRESUMED, log entry 6).
-/
namespace Sys2Proof
namespace Machine

/-- The field prime of P-256. -/
def curveP : Nat := 0xFFFFFFFF00000001000000000000000000000000FFFFFFFFFFFFFFFFFFFFFFFF

/-- The order of its base point (R829: n). -/
def curveN : Nat := 0xFFFFFFFF00000000FFFFFFFFFFFFFFFFBCE6FAADA7179E84F3B9CAC2FC632551

/-- The constant term of its equation y^2 = x^3 - 3x + b. -/
def curveB : Nat := 0x5AC635D8AA3A93E7B3EBBD55769886BC651D06B0CC53B0F63BCE3C3E27D2604B

/-- A point X/Z^2, Y/Z^3; Z = 0 is the point at infinity. -/
structure CurvePoint where
  x : Nat
  y : Nat
  z : Nat
  deriving DecidableEq, Repr

/-- The base point. -/
def curveG : CurvePoint :=
  { x := 0x6B17D1F2E12C4247F8BCE6E563A440F277037D812DEB33A0F4A13945D898C296
    y := 0x4FE342E2FE1A7F9B8EE7EB4A7C0F9E162BCE33576B315ECECBB6406837BF51F5, z := 1 }

/-- The point at infinity. -/
def curveZero : CurvePoint := { x := 1, y := 1, z := 0 }

/-- Product in the field. -/
def fieldMul (a b : Nat) : Nat := a * b % curveP

/-- Difference in the field. -/
def fieldSub (a b : Nat) : Nat := (a + (curveP - b)) % curveP

/-- A point is on the curve (affine coordinates below the prime). -/
def onCurve (x y : Nat) : Bool :=
  decide (x < curveP) && decide (y < curveP) &&
    decide (y * y % curveP = (x * x * x + (curveP - 3) * x + curveB) % curveP)

/-- Twice a point. -/
def curveDouble (p : CurvePoint) : CurvePoint :=
  let zz := fieldMul p.z p.z
  let yy := fieldMul p.y p.y
  let t := fieldMul p.x yy
  let m := 3 * fieldMul (fieldSub p.x zz) (p.x + zz) % curveP
  let x := fieldSub (fieldMul m m) (8 * t % curveP)
  { x := x
    y := fieldSub (fieldMul m (fieldSub (4 * t % curveP) x)) (8 * fieldMul yy yy % curveP)
    z := 2 * fieldMul p.y p.z % curveP }

/-- Sum of two points. -/
def curveAdd (p q : CurvePoint) : CurvePoint :=
  if p.z = 0 then q
  else if q.z = 0 then p
  else
    let pz := fieldMul p.z p.z
    let qz := fieldMul q.z q.z
    let u := fieldMul p.x qz
    let s := fieldMul (fieldMul p.y qz) q.z
    let h := fieldSub (fieldMul q.x pz) u
    let r := fieldSub (fieldMul (fieldMul q.y pz) p.z) s
    if h = 0 then (if r = 0 then curveDouble p else curveZero)
    else
      let hh := fieldMul h h
      let hhh := fieldMul h hh
      let v := fieldMul u hh
      let x := fieldSub (fieldSub (fieldMul r r) hhh) (2 * v % curveP)
      { x := x
        y := fieldSub (fieldMul r (fieldSub v x)) (fieldMul s hhh)
        z := fieldMul (fieldMul p.z q.z) h }

/-- a G + b Q over pairs of bits of a and b, most significant first; `gq` is G + Q. -/
def curveComb (q gq : CurvePoint) : List (Bool × Bool) → CurvePoint → CurvePoint
  | [], acc => acc
  | (a, b) :: l, acc =>
    let d := curveDouble acc
    curveComb q gq l (if a then curveAdd d (if b then gq else curveG) else if b then curveAdd d q else d)

/-- x^e mod n over the bits of e, most significant first. -/
def orderPow (x : Nat) : List Bool → Nat → Nat
  | [], acc => acc
  | b :: l, acc => orderPow x l (if b then acc * acc % curveN * x % curveN else acc * acc % curveN)

/-- The verification equation for the point (x, y) on the curve, the hash as a number and r, s in 1 to n - 1: the X of
(e/s) G + (r/s) Q, modulo n, is r. -/
def signatureHolds (x y e r s : Nat) : Bool :=
  let w := orderPow s (bitsMsb 256 (curveN - 2)) 1
  let q : CurvePoint := { x := x, y := y, z := 1 }
  let p := curveComb q (curveAdd curveG q)
    ((bitsMsb 256 (e * w % curveN)).zip (bitsMsb 256 (r * w % curveN))) curveZero
  let zz := fieldMul p.z p.z
  decide (p.z ≠ 0) &&
    (decide (fieldMul r zz = p.x) || (decide (r + curveN < curveP) && decide (fieldMul (r + curveN) zz = p.x)))

/-- The engine accepts a signature (64 bytes r, s) under a public key (64 bytes X, Y) on a 256-bit hash (R829): the key is a
point on the curve, r and s lie from 1 to n - 1, and the verification equation holds. -/
def ecdsaVerify (key hash sig : List Byte) : Bool :=
  let x := beNat (key.take 32)
  let y := beNat (slice key 32 32)
  let r := beNat (sig.take 32)
  let s := beNat (slice sig 32 32)
  onCurve x y && decide (1 ≤ r) && decide (r < curveN) && decide (1 ≤ s) && decide (s < curveN) && signatureHolds x y (beNat hash) r s

end Machine
end Sys2Proof
end

