-- ==== Sys2Proof/Config.lean ====
section
/-!
DEFINITION. What the manual leaves open: free values, opaque constants without a body, so that no proof can use a number
for them. Each is applied to the data it depends on or to the state's counter of free values drawn, and each has a row
in the assumption log.
-/
namespace Sys2Proof
namespace Config

/-- A free number, by how many were drawn before it: a value the manual leaves open where the machine goes on. -/
opaque freeNat : Nat → Nat

/-- Lowest and highest satellite hardware version that a firmware version accepts (R412): the manual leaves them to the
firmware. -/
opaque satHwMin : Nat → Nat

/-- The highest of them. -/
opaque satHwMax : Nat → Nat

/-- The hub's 64-bit unique identifier, which the part carries (IDN_UID0 to 7, reset value "part"). -/
opaque hubUid : Nat

end Config
end Sys2Proof
end

