-- ==== Sys2Proof/Machine/Flags.lean ====
section
/-!
DEFINITION. Fault words, their parity, classes and marks (21, 22); what sticky bits call for; the outputs and request
words that follow from the state: alarm state, HOK, TRAP_N, PFW_N, IRQ_N, HST_ISRC0 and HST_ISRC1.
-/
namespace Sys2Proof
namespace Machine

/-- The fault words of the hub: one per block, two for the banked blocks HST and ORD (R266, R733). -/
inductive FBlk where
  | sys | hst (p : Port) | mor | ord (p : Port) | pcl | slt | tth | sat | ldg | rls | mea | lko | log | rnd | upd | rig
  | rcd
  deriving DecidableEq, Repr

/-- Fault classes (R737). -/
inductive FClass where
  | corrected | contained | fatal
  deriving DecidableEq, Repr

/-- The bank of a block. -/
def bankGet (f : FaultBanks) : FBlk → FaultBank
  | .sys => f.sys | .hst .a => f.hstA | .hst .b => f.hstB | .mor => f.mor | .ord .a => f.ordA | .ord .b => f.ordB
  | .pcl => f.pcl | .slt => f.slt | .tth => f.tth | .sat => f.sat | .ldg => f.ldg | .rls => f.rls | .mea => f.mea
  | .lko => f.lko | .log => f.log | .rnd => f.rnd | .upd => f.upd | .rig => f.rig | .rcd => f.rcd

/-- Replace the bank of a block. -/
def bankSet (f : FaultBanks) (b : FBlk) (x : FaultBank) : FaultBanks :=
  match b with
  | .sys => { f with sys := x } | .hst .a => { f with hstA := x } | .hst .b => { f with hstB := x }
  | .mor => { f with mor := x } | .ord .a => { f with ordA := x } | .ord .b => { f with ordB := x }
  | .pcl => { f with pcl := x } | .slt => { f with slt := x } | .tth => { f with tth := x }
  | .sat => { f with sat := x } | .ldg => { f with ldg := x } | .rls => { f with rls := x }
  | .mea => { f with mea := x } | .lko => { f with lko := x } | .log => { f with log := x }
  | .rnd => { f with rnd := x } | .upd => { f with upd := x } | .rig => { f with rig := x }
  | .rcd => { f with rcd := x }

/-- Block numbers (Table - Register blocks, Table - Default reaction words). -/
def blkNumber : FBlk → Nat
  | .sys => 0x01 | .hst _ => 0x02 | .mor => 0x03 | .ord _ => 0x04 | .pcl => 0x06 | .slt => 0x08 | .tth => 0x0A
  | .sat => 0x0C | .ldg => 0x0E | .rls => 0x10 | .mea => 0x12 | .lko => 0x14 | .log => 0x16 | .rnd => 0x18
  | .upd => 0x1A | .rig => 0x1C | .rcd => 0x1E

/-- Every fault word, in block-number order, HPA's bank before HPB's (Table - Snapshot words). -/
def allBlks : List FBlk :=
  [.sys, .hst .a, .hst .b, .mor, .ord .a, .ord .b, .pcl, .slt, .tth, .sat, .ldg, .rls, .mea, .lko, .log, .rnd, .upd,
    .rig, .rcd]

/-- The block of a block number; a banked block by the port. -/
def blkOfNumber (n : Nat) (p : Port) : Option FBlk :=
  match n with
  | 0x01 => some .sys | 0x02 => some (.hst p) | 0x03 => some .mor | 0x04 => some (.ord p) | 0x06 => some .pcl
  | 0x08 => some .slt | 0x0A => some .tth | 0x0C => some .sat | 0x0E => some .ldg | 0x10 => some .rls
  | 0x12 => some .mea | 0x14 => some .lko | 0x16 => some .log | 0x18 => some .rnd | 0x1A => some .upd
  | 0x1C => some .rig | 0x1E => some .rcd | _ => none

/-- Sources of contained class, as a mask (Table - Fault sources). -/
def containedMask : FBlk → BitVec 9
  | .sys => 0x004 | .hst _ => 0 | .mor => 0 | .ord _ => 0x004 | .pcl => 0x002 | .slt => 0x008 | .tth => 0 | .sat => 0
  | .ldg => 0x004 | .rls => 0x003 | .mea => 0x006 | .lko => 0x002 | .log => 0x00E | .rnd => 0x008 | .upd => 0x002
  | .rig => 0x002 | .rcd => 0x002

/-- Sources of fatal class, as a mask (Table - Fault sources). -/
def fatalMask : FBlk → BitVec 9
  | .sys => 0x072
  | _ => 0

/-- How many sources the block has: its bits above are reserved (R769). -/
def sourceCount : FBlk → Nat
  | .sys => 7 | .hst _ => 2 | .mor => 2 | .ord _ => 3 | .pcl => 2 | .slt => 5 | .tth => 7 | .sat => 4 | .ldg => 5
  | .rls => 7 | .mea => 3 | .lko => 2 | .log => 4 | .rnd => 5 | .upd => 4 | .rig => 2 | .rcd => 4

/-- Class of a source (R770). -/
def classOf (b : FBlk) (k : Nat) : FClass :=
  if (fatalMask b).getLsbD k then .fatal else if (containedMask b).getLsbD k then .contained else .corrected

/-- An odd number of ones. -/
def oddOnes {n : Nat} (w : BitVec n) : Bool := (List.range n).foldl (fun a i => xor a (w.getLsbD i)) false

/-- A 9-bit content with the parity bit that makes the ones odd (R734, R735). -/
def withParity (c : BitVec 9) : Word := (if oddOnes c then (0 : BitVec 1) else 1) ++ c

/-- The sticky bits [8:0] of a fault word. -/
def stickyBits (f : FaultBank) : BitVec 9 := f.fst.setWidth 9

/-- The reaction code of a source (R735). -/
def codeOf (f : FaultBank) (k : Nat) : Nat :=
  field (if k < 3 then f.frx0 else if k < 6 then f.frx1 else f.frx2).toNat (3 * (k % 3)) 3

/-- Sticky bits and those held one class higher, as they stood before the tick (R741). -/
def marksOf (f : FaultBank) : BitVec 9 × BitVec 9 :=
  match f.now with
  | none => (stickyBits f, f.raised)
  | some m => (m.old, m.oldRaised)

/-- C_PEND: an unacknowledged sticky bit is held at the corrected class; `cont` masks the sources of higher class. -/
def cPend (cont : BitVec 9) (f : FaultBank) : Bool := decide ((marksOf f).1 &&& ~~~cont &&& ~~~(marksOf f).2 ≠ 0)

/-- U_PEND: an unacknowledged sticky bit is held at the contained class. -/
def uPend (cont : BitVec 9) (f : FaultBank) : Bool := decide ((marksOf f).1 &&& (cont ||| (marksOf f).2) ≠ 0)

/-- Note events of this tick. -/
def noteEvents (f : FaultBank) (bits : BitVec 9) : FaultBank :=
  { f with now := some { old := (marksOf f).1, oldRaised := (marksOf f).2
                         events := bits ||| ((f.now.map (fun m => m.events)).getD 0) } }

/-- Set sticky bits by events, parity with them. -/
def stickSet (f : FaultBank) (bits : BitVec 9) : FaultBank :=
  { noteEvents f bits with fst := withParity (stickyBits f ||| bits) }

/-- A corrected event: escalated when C_PEND stands (R742), else plain (R744). Answers the bank and whether escalated. -/
def correctedEvent (cont : BitVec 9) (f : FaultBank) (bits : BitVec 9) : FaultBank × Bool :=
  if cPend cont f then ({ stickSet f bits with raised := f.raised ||| bits }, true) else (stickSet f bits, false)

/-- Acknowledge bits: all that `keep` does not hold as levels (R745, R746). An event of the tick comes after: its bit stays,
judged against the marks that are left (R747). -/
def ackBits (cont : BitVec 9) (f : FaultBank) (bits keep : BitVec 9) : FaultBank :=
  let clr := bits &&& ~~~keep
  match f.now with
  | none => { f with fst := withParity (stickyBits f &&& ~~~clr), raised := f.raised &&& ~~~clr }
  | some m =>
    let g := { f with
      now := some { m with old := m.old &&& ~~~clr, oldRaised := m.oldRaised &&& ~~~clr }
      fst := withParity (stickyBits f &&& ~~~(clr &&& ~~~m.events)) }
    { g with raised := (m.oldRaised &&& ~~~clr) ||| (if cPend cont g then f.raised &&& m.events else 0) }

/-- What a code asks of the block interrupt request (Table - Reaction effects). -/
def codeIrq (c : Nat) : Bool := decide (c ≠ 0) && decide (c ≠ 4)

/-- What a code asks of TRAP_N. -/
def codeTrap (c : Nat) : Bool := decide (c = 2) || decide (6 ≤ c)

/-- What a code asks of HOK. -/
def codeErr (c : Nat) : Bool := decide (c = 5)

/-- Some sticky bit of the bank calls for what `q` asks of its code; escalated bits are added where `esc` (R739, R742). -/
def bankCalls (q : Nat → Bool) (esc : Bool) (f : FaultBank) : Bool :=
  (List.range 9).any (fun k => (stickyBits f).getLsbD k && (q (codeOf f k) || (esc && f.raised.getLsbD k)))

/-- The block interrupt request. -/
def bankIrq (f : FaultBank) : Bool := bankCalls codeIrq true f

/-- The block's share in TRAP_N. -/
def bankTrap (f : FaultBank) : Bool := bankCalls codeTrap true f

/-- The block's hold on HOK. -/
def bankErr (f : FaultBank) : Bool := bankCalls codeErr false f

/-- Good log sectors, those still in the ring (LOG_GOOD). -/
def logGood (s : State) : Nat := 256 - (s.log.ring.filter (fun e => e.2.gone)).length

/-- The spare pool: sectors 860 to 1023 (Table - Flash areas). -/
def isSpare (k : Nat) : Bool := decide (860 ≤ k) && decide (k < 1024)

/-- Free spare sectors (LOG_SPARE). -/
def spareLeft (s : State) : Nat :=
  164 - (s.log.sectors.filter (fun e => isSpare e.1 && decide (e.2.status ≠ 0))).length

/-- Fewer than four good log sectors and an empty spare pool: the condition of RAM_ONLY (R805, Table - Fault sources). -/
def ramOnly (s : State) : Bool := decide (logGood s < 4) && decide (spareLeft s = 0)

/-- The log holds its two erased reserve sectors (R148, R801, R805). -/
def reserveFull (s : State) : Bool := decide (s.sup.reserve = 2) && !s.log.frozen && !ramOnly s

/-- HOLD_OK (R145, R148, R227): the available energy is known and at least 150, the reserve is complete, and V_PF lies
above 6.3 V. -/
def holdOk (s : State) : Bool :=
  decide (s.sup.holde ≠ 0x3FF) && decide (150 ≤ s.sup.holde) && reserveFull s && decide (63 < s.sup.vPf)

/-- The states in which the power-fail record is written (R153). -/
def writesRecord : HubState → Bool
  | .rising | .enumerate | .run | .standby | .replay => true
  | _ => false

/-- PFR_ARMED: two reserve sectors erased, in a state that writes the record (R154). -/
def pfrArmed (s : State) : Bool := writesRecord s.sys.state && reserveFull s

/-- Sources marked L whose condition holds now (R746, R770). -/
def levelHolds (s : State) : FBlk → BitVec 9
  | .sys => if holdOk s then 0 else 0x004
  | .ldg => if s.ldg.short then 0x004 else 0
  | .log => (if ramOnly s then 0x004 else 0) ||| (if s.log.frozen then 0x008 else 0)
  | _ => 0

/-- A source's bit as a mask. -/
def srcBit (k : Nat) : BitVec 9 := 1#9 <<< k

/-- The alarm state (R298). -/
def alarmOn (s : State) : Bool := s.pins.alm || s.sys.alarmReq.a || s.sys.alarmReq.b

/-- HOK is driven high (R29). -/
def hokHigh (s : State) : Bool :=
  (decide (s.sys.state = .run) || decide (s.sys.state = .standby)) &&
    !(allBlks.any (fun b => bankErr (bankGet s.fb b)))

/-- TRAP_N is asserted (R120, Table - Output states). -/
def trapOn (s : State) : Bool :=
  match s.sys.state with
  | .fatal => true
  | .off | .reset | .recovery => false
  | _ => allBlks.any (fun b => bankTrap (bankGet s.fb b))

/-- PFW_N is driven low (R119, R194; low by the board while unpowered). -/
def pfwLow (s : State) : Bool :=
  match s.sys.state with
  | .off | .reset => true
  | _ => s.sup.pf || s.rls.pfwWarn || s.lko.pfw

/-- Word of HST_ISRC0 that a port reads (Table - HST_ISRC0 fields). -/
def isrc0 (s : State) (p : Port) : Word :=
  toWord (bit (bankIrq s.fb.sys) + 2 * bit (bankIrq (bankGet s.fb (.hst p))) + 4 * bit (bankIrq s.fb.mor) +
    8 * bit (bankIrq (bankGet s.fb (.ord p))) + 16 * bit (bankIrq s.fb.pcl) + 32 * bit (bankIrq s.fb.slt) +
    64 * bit (bankIrq s.fb.tth) + 128 * bit (bankIrq s.fb.sat) + 256 * bit (bankIrq s.fb.ldg) +
    512 * bit (bankIrq s.fb.rls))

/-- Word of HST_ISRC1 that a port reads (Table - HST_ISRC1 fields); LKO's request stands also while a rule's hit bit does
(R717). -/
def isrc1 (s : State) (p : Port) : Word :=
  toWord (bit (bankIrq s.fb.mea) + 2 * bit (bankIrq s.fb.lko || s.lko.rules.any (fun r => r.2.hit)) + 4 * bit (bankIrq s.fb.log) +
    8 * bit (bankIrq s.fb.rnd) + 16 * bit (bankIrq s.fb.upd) + 32 * bit (bankIrq s.fb.rig) +
    64 * bit (bankIrq s.fb.rcd) + 128 * bit (decide ((perPortGet s.ord.banks p).ring ≠ [])))

/-- A port's IRQ_N is asserted (R264, Table - Output states). -/
def irqOn (s : State) (p : Port) : Bool :=
  let h := perPortGet s.ports p
  (decide (s.sys.state = .run) || decide (s.sys.state = .standby) || decide (s.sys.state = .replay)) &&
    (decide (isrc0 s p &&& h.ien0 ≠ 0) || decide (isrc1 s p &&& h.ien1 ≠ 0) || decide (h.ievt &&& h.ieven ≠ 0))

end Machine
end Sys2Proof
end

