-- ==== Sys2Proof/Machine/RingFrames.lean ====
section
/-!
DEFINITION. Frames of a tether (12, R397 to R399): their bytes, their judgment, and how a ZG4 puts its own frames between
those it forwards (R383, R395, R396).
-/
namespace Sys2Proof
namespace Machine

/-! ### Frames -/

/-- A frame: its header fields and its payload (Table - Frame header); `dir` holds toward the hub. -/
structure RingFrame where
  pos : Nat
  dir : Bool
  seq : Bool := false
  type : Nat
  payload : List Byte := []
  deriving DecidableEq, Repr

/-- The frame CRC-16 of header and payload bytes, each most significant bit first (R398). -/
def frameCrc (l : List Byte) : Nat := crc16 ((l.map (fun b => bitsMsb 8 b.toNat)).flatten)

/-- The three header bytes. -/
def frameHead (f : RingFrame) : List Byte :=
  [byte (4 * f.pos + 2 * bit f.dir + bit f.seq), byte (16 * f.type + f.payload.length / 256 % 2), byte f.payload.length]

/-- The bytes between SOF and EOF: header, payload, CRC high byte first (R397, R398). -/
def packFrame (f : RingFrame) : List Byte :=
  let l := frameHead f ++ f.payload
  l ++ [byte (frameCrc l / 256), byte (frameCrc l)]

/-- The symbols of a frame (R397). -/
def frameSyms (f : RingFrame) : List Sym := Sym.sof :: (packFrame f).map Sym.d ++ [Sym.eof]

/-- Payload lengths of Table - Frame types. -/
def payloadFits (type : Nat) (dir : Bool) (n : Nat) : Bool :=
  match type, dir with
  | 1, false => inRange n 1 256
  | 1, true => decide (n = 1)
  | 2, false => decide (n = 0)
  | 2, true => inRange n 2 256
  | 3, false => decide (n = 2)
  | 3, true => decide (n = 27)
  | 4, false => decide (n = 1)
  | 4, true => decide (n = 11)
  | 5, false => decide (n = 10)
  | 5, true => decide (n = 1)
  | 6, false => decide (n = 0)
  | 6, true => decide (n = 2)
  | 7, false => decide (n = 11)
  | 7, true => decide (n = 0)
  | 8, false => decide (n = 8)
  | 8, true => decide (n = 0)
  | 9, _ => decide (n = 1)
  | _, _ => false

/-- A frame that can be sent: POS has six bits, and TYPE and payload are of Table - Frame types. -/
def frameOk (f : RingFrame) : Bool := decide (f.pos < 64) && payloadFits f.type f.dir f.payload.length

/-- The bytes of the symbols between SOF and EOF: each K28.1 is taken out first (R391), any other K symbol leaves none. -/
def symBytes : List Sym → Option (List Byte)
  | [] => some []
  | .beacon :: l => symBytes l
  | .d b :: l => (symBytes l).map (fun r => b :: r)
  | _ :: _ => none

/-- The judgment of a receiver on what stands between SOF and EOF (R399, R441): the frame, or none where it is discarded. -/
def parseFrame (l : List Sym) : Option RingFrame :=
  match symBytes l with
  | some (b0 :: b1 :: b2 :: rest) =>
    let n := 256 * (b1.toNat % 2) + b2.toNat
    let body := (b0 :: b1 :: b2 :: rest).take (n + 3)
    let crc := frameCrc body
    let f : RingFrame := { pos := b0.toNat / 4, dir := bitAt b0.toNat 1, seq := bitAt b0.toNat 0, type := b1.toNat / 16,
                           payload := rest.take n }
    if n ≤ 256 ∧ rest.length = n + 2 ∧ b1.toNat / 2 % 8 = 0 ∧ rest.drop n = [byte (crc / 256), byte crc] ∧
        payloadFits f.type f.dir n = true then some f
    else none
  | _ => none

/-- The receiver takes the frame that the command names: `raw` holds what arrived where it did not arrive as sent; `same` tells
the frame. -/
def arrivesAs (fits : Bool) (same : RingFrame → Bool) (rx : Arrival) : Bool :=
  match rx.raw with
  | none => fits
  | some l => (parseFrame l).any same

/-- What arrived is no valid frame: the receiver discards it (R399). -/
def arrivesBad (fits : Bool) (rx : Arrival) : Bool :=
  match rx.raw with
  | none => !fits
  | some l => (parseFrame l).isNone

/-! ### The outputs of a ZG4 (R383, R395, R396) -/

/-- Symbols without the K28.1, which are never held. -/
def noBeacons (l : List Sym) : List Sym := l.filter (fun y => decide (y ≠ .beacon))

/-- An own frame begins where the pair carries neither an own frame nor held symbols; two K28.5 follow it (R388). -/
def startOwn (now : Nat) (o : PairOut) : PairOut :=
  match o.waiting with
  | [] => o
  | w :: rest =>
    if o.busyUntil ≤ now ∧ o.held = [] then
      { o with busyUntil := now + 40 * (w.length + 2), waiting := rest, last := w }
    else o

/-- A frame of the satellite's own for a pair. -/
def ownFrame (now : Nat) (w : List Sym) (o : PairOut) : PairOut := startOwn now { o with waiting := o.waiting ++ [w] }

/-- Symbols to forward: sent at once, or held behind an own frame in the insertion buffer of 264 symbols, with two K28.5. -/
def passSyms (now : Nat) (w : List Sym) (o : PairOut) : PairOut :=
  if o.busyUntil ≤ now ∧ o.held = [] then { o with last := w }
  else { o with held := (o.held ++ noBeacons w ++ [Sym.idle, Sym.idle]).take 264 }

/-- One symbol of the insertion buffer leaves: what has left since the last SOF is the frame last sent. -/
def sendHeld (o : PairOut) : PairOut :=
  match o.held with
  | [] => o
  | y :: l => { o with held := l, last := if y = .sof then [.sof] else if y = .idle then o.last else o.last ++ [y] }

/-- A tick at a pair: behind an own frame the buffer sends one symbol each 40 ticks (R387), and drops arriving idle symbols
meanwhile; once it is empty, the next own frame begins. -/
def pairTick (now : Nat) (o : PairOut) : PairOut :=
  if now < o.busyUntil then o
  else startOwn now (if (now - o.busyUntil) % 40 = 0 then sendHeld o else o)

/-- Change one pair's output. -/
def modPair (pairK : Bool) (f : PairOut → PairOut) (x : Sat) : Sat :=
  if pairK then { x with outK := f x.outK } else { x with outF := f x.outF }

/-- The pair on which what comes in on a pair goes on: its own, or across a fold to the pair that leads back (R383, R416). -/
def onward (x : Sat) (pairK : Bool) : Bool := if pairK then !x.foldA else x.foldB

/-- A frame of the satellite's own toward the hub. -/
def satFrame (x : Sat) (type : Nat) (seq : Bool) (payload : List Byte) : RingFrame :=
  { pos := x.position, dir := true, seq := seq, type := type, payload := payload }

/-- The satellite sends a frame of its own on a pair. -/
def satSend (pairK : Bool) (f : RingFrame) (x : Sat) : Sat := modPair pairK (ownFrame x.tick (frameSyms f)) x

/-- The answer to a frame that came on a pair goes onward (R383); its payload is kept. -/
def satAnswer (rx : Arrival) (type : Nat) (seq : Bool) (payload : List Byte) (x : Sat) : Sat :=
  satSend (onward x rx.pairK) (satFrame x type seq payload) { x with answer := payload }

/-- What arrives is forwarded unchanged and unjudged (R383). -/
def satPass (rx : Arrival) (f : RingFrame) (x : Sat) : Sat :=
  modPair (onward x rx.pairK) (passSyms x.tick
    (match rx.raw with
      | none => frameSyms f
      | some l => Sym.sof :: l ++ [Sym.eof])) x

/-- The satellite may take and forward frames: it has a clock (R92, R98). -/
def satHears (x : Sat) : Bool := decide (x.lock ≠ .none) && decide (x.cond ≠ .unpowered)

/-- The bytes of a RESULT frame (Table - RESULT kinds). -/
def resultBytes (r : SatResult) : List Byte := [byte r.kind, byte r.slot] ++ r.payload

/-- The RESULT under way leaves, or leaves again, where the satellite has a position to send from: of its own accord a satellite sends onward of F (R382, R404). -/
def sendResult (x : Sat) : Sat :=
  match x.sending with
  | none => x
  | some r => if satHears x && decide (x.position ≠ 0) then satSend (onward x false) (satFrame x 2 x.togS (resultBytes r)) x else x

/-- The own frames of a pair keep their places in time when the tick counter is set anew (R431). -/
def movePair (old new : Nat) (o : PairOut) : PairOut := { o with busyUntil := new + (o.busyUntil - old) }

/-! ### The ends of a tether at the hub -/

/-- Symbols leave an end: F at the OUT end, K at the RET end. -/
def hubPut (e : RingEnd) (w : List Sym) (x : Tether) : Tether :=
  match e with
  | .outEnd => { x with txOut := w, sent := x.sent ++ [(e, w)] }
  | .retEnd => { x with txRet := w, sent := x.sent ++ [(e, w)] }

/-- The recorder's entry of a frame that came in at an end (Table - Entry kinds): the bytes between SOF and EOF, 264 at most. -/
def ringInput (t : Nat) (retEnd : Bool) (l : List Sym) : RecIn :=
  let bytes := l.filterMap (fun y => match y with
    | .d b => some b
    | _ => none)
  { kind := 4, sub := t % 4 + 4 * bit retEnd + 8 * bit (l.contains .bad)
    payload := natLe 2 (min bytes.length 1023) ++ bytes.take 264 }

/-- R424: the hub starts no frame on the tether from 20 µs before an unwrap tick until 20 µs after it. -/
def quietNow (now : Nat) (x : Tether) : Bool :=
  match x.quiet with
  | some t => decide (t ≤ now + 16000) && decide (now ≤ t + 16000)
  | none => false

/-- No unwrap is pending: the frames held back leave in order. -/
def quietEnd (x : Tether) : Tether := { x.txWait.foldl (fun x e => hubPut e.1 e.2 x) x with quiet := none, txWait := [] }

/-- A tick at a tether: the quiet time of a heal ends. -/
def tetherTick (now : Nat) (x : Tether) : Tether :=
  match x.quiet with
  | some t => if t + 16000 < now then quietEnd x else x
  | none => x

/-- The other end. -/
def RingEnd.other : RingEnd → RingEnd
  | .outEnd => .retEnd
  | .retEnd => .outEnd

end Machine
end Sys2Proof
end

