-- ==== Sys2Proof/Machine/Ops.lean ====
section
/-!
DEFINITION. The named operations over the state that every family of commands shares: access to tables, log records,
port events, parcels and returns, deactivation of a slot, the ripcord, entry to FATAL, and raising a fault.
-/
namespace Sys2Proof
namespace Machine

/-- The answer of a meaning. -/
abbrev Res := Host.Outcome State Fault Refusal

/-! ### Access -/

/-- Change one port's words. -/
def modPort (p : Port) (f : HostPort → HostPort) (s : State) : State :=
  { s with ports := perPortSet s.ports p (f (perPortGet s.ports p)) }

/-- Change one port's order bank. -/
def modBank (p : Port) (f : OrdBank → OrdBank) (s : State) : State :=
  { s with ord := { s.ord with banks := perPortSet s.ord.banks p (f (perPortGet s.ord.banks p)) } }

/-- The physical slot at a place. -/
def slotGet (s : State) (k : Nat) : Slot := tblGet {} s.slots k

/-- Change the physical slot at a place. -/
def modSlot (k : Nat) (f : Slot → Slot) (s : State) : State :=
  { s with slots := tblSet {} s.slots k (f (slotGet s k)) }

/-- A parcel. -/
def parcelGet (s : State) (n : Nat) : Parcel := tblGet {} s.ord.parcels n

/-- Change a parcel. -/
def modParcel (n : Nat) (f : Parcel → Parcel) (s : State) : State :=
  { s with ord := { s.ord with parcels := tblSet {} s.ord.parcels n (f (parcelGet s n)) } }

/-- A tether's record. -/
def tetherGet (s : State) (t : Nat) : Tether := s.tth.tethers.toList.getD t {}

/-- Change a tether's record. -/
def modTether (t : Nat) (f : Tether → Tether) (s : State) : State :=
  { s with tth := { s.tth with tethers := s.tth.tethers.setIfInBounds t (f (tetherGet s t)) } }

/-- The hub's record of a position. -/
def viewGet (s : State) (pos : Nat) : SatView := tblGet {} s.sat.views pos

/-- Change the hub's record of a position. -/
def modView (pos : Nat) (f : SatView → SatView) (s : State) : State :=
  { s with sat := { s.sat with views := tblSet {} s.sat.views pos (f (viewGet s pos)) } }

/-- The hub's view of a satellite slot. -/
def slotViewGet (s : State) (id : Nat) : SlotView := tblGet {} s.sat.slotViews id

/-- Change the hub's view of a satellite slot. -/
def modSlotView (id : Nat) (f : SlotView → SlotView) (s : State) : State :=
  { s with sat := { s.sat with slotViews := tblSet {} s.sat.slotViews id (f (slotViewGet s id)) } }

/-- A ZG4 at a place. -/
def satGet (s : State) (k : Nat) : Sat := tblGet {} s.sat.sats k

/-- Change a ZG4. -/
def modSat (k : Nat) (f : Sat → Sat) (s : State) : State :=
  { s with sat := { s.sat with sats := tblSet {} s.sat.sats k (f (satGet s k)) } }

/-- Change one rail. -/
def modRail (n : Nat) (f : Rail → Rail) (s : State) : State :=
  { s with rls := { s.rls with rails := s.rls.rails.setIfInBounds n (f (s.rls.rails.toList.getD n {})) } }

/-- One rail. -/
def railGet (s : State) (n : Nat) : Rail := s.rls.rails.toList.getD n {}

/-- The ledger's record of a slot. -/
def ldgGet (s : State) (id : Nat) : LdgSlot := tblGet {} s.ldg.slots id

/-- Change the ledger's record of a slot. -/
def modLdg (id : Nat) (f : LdgSlot → LdgSlot) (s : State) : State :=
  { s with ldg := { s.ldg with slots := tblSet {} s.ldg.slots id (f (ldgGet s id)) } }

/-- A free value: the manual leaves the number open. -/
def drawFree (s : State) : Nat × State := (Config.freeNat s.free, { s with free := s.free + 1 })

/-- The counter's last value: it holds 60 bits and runs over to 0 (R81). -/
def tickLast : Nat := 0xFFFFFFFFFFFFFFF

/-- A 60-bit tick counter's next value. -/
def nextTick (n : Nat) : Nat := if n = tickLast then 0 else n + 1

/-- A fault bank at the next tick. -/
def bankTick (f : FaultBank) : FaultBank := { f with now := none }

/-- Every fault bank at the next tick. -/
def banksTick (f : FaultBanks) : FaultBanks := allBlks.foldl (fun f b => bankSet f b (bankTick (bankGet f b))) f

/-- A ZG4 counts its own ticks while it has a clock, and its outputs send (R92, R396, R431). -/
def satTick (x : Sat) : Sat :=
  if x.lock = .none then { x with fault := bankTick x.fault }
  else
    let n := nextTick x.tick
    { x with fault := bankTick x.fault, tick := n, outF := pairTick n x.outF, outK := pairTick n x.outK }

/-- What held for the tick that ends only: W1C bits that hardware set in it, a release made in it, what the recorder has taken
from it (R8, R210, R891). -/
def tickOver (s : State) : State :=
  let old := fun (h : HostPort) => { h with ievtNew := 0, taken := [], said := [] }
  let s := [0, 1, 2, 3].foldl (fun s k => if (slotGet s k).taken = [] then s else modSlot k (fun x => { x with taken := [] }) s) s
  { s with
    fb := banksTick s.fb
    fatal := { s.fatal with now := false }
    ports := { a := old s.ports.a, b := old s.ports.b }
    tth := { s.tth with tethers := s.tth.tethers.map (fun x => { x with taken := [], sent := [] }) }
    rls := { s.rls with mrglimNew := 0, released := none }
    mea := { s.mea with scanned := none }
    log := { s.log with ops := [], faults := [] }
    rcd := { s.rcd with marks := [] }
    lko := { s.lko with sourced := false, woken := false, ripped := [], rules := s.lko.rules.map (fun (e : Nat × _) => (e.1, { e.2 with hitNew := false, acted := false })) } }

/-- One tick of an idle block: the hub's counter advances where it runs (R81, R82, R83), and that of every ZG4 with a
clock; a tick that decided a tie has the priority alternate (R307). -/
def idleTick (s : State) : State :=
  let s := tickOver s
  let s := { s with
    sat := { s.sat with sats := s.sat.sats.map (fun (e : Nat × Sat) => (e.1, satTick e.2)) }
    sys := { s.sys with prio := if s.sys.tied then s.sys.prio.other else s.sys.prio, tied := false } }
  if s.sys.tickRunning then
    let n := nextTick s.sys.tick
    { s with
      sys := { s.sys with tick := n }
      tth := { s.tth with tethers := s.tth.tethers.map (tetherTick n) } }
  else s

/-! ### The running rig -/

/-- The TETHER record of a tether, if the rig declares it. -/
def rigTether (s : State) (t : Nat) : Option TetherRec := tblGet none s.rig.running.tethers t

/-- The SAT record of a position. -/
def rigSat (s : State) (pos : Nat) : Option SatRec := tblGet none s.rig.running.sats pos

/-- The SLOT fields of a slot identifier: L0 without a record is an SD slot with the SD defaults (R51); any other slot
without a record is DISABLED (R50). -/
def rigSlot (s : State) (id : Nat) : SlotRec :=
  match tblGet none s.rig.running.slots id with
  | some r => r
  | none => if id = 0 then { kind := .sd, classes := 0, trip := 250, cost := 660 } else {}

/-- An identifier that the rig declares: a local slot, or a slot of a declared position (R20 to R22). -/
def declaredSlot (s : State) (id : Nat) : Bool := isLocal id || (!reservedSlot id && (rigSat s (slotPos id)).isSome)

/-! ### Records and port events -/

/-- Queue a log record (R792, R794, R798): numbered at its queueing; dropped when the queue holds 64, or when the number
after 0x3FFFFFFF would be needed (R801). In RAM-only logging the queue keeps the 64 newest (R805). In FATAL the record of its
entry is the last (R811). -/
def queueRec (type : Nat) (payload : List Nat) (s : State) : State :=
  let r : LogRec := { seq := s.log.next, type := type, tick := s.sys.tick, boot := s.sys.bootCount,
                      site := s.rig.running.site.siteId, state := s.sys.state, trial := s.sys.trial,
                      payload := payload }
  if s.sys.state = .fatal ∧ type ≠ 3 then s
  else if 0x3FFFFFFF < s.log.next then { s with log := { s.log with dropped := satInc s.log.dropped } }
  else if s.log.queue.length < 64 then
    { s with log := { s.log with queue := s.log.queue ++ [r], next := s.log.next + 1 } }
  else if ramOnly s then
    { s with log := { s.log with queue := s.log.queue.drop 1 ++ [r], next := s.log.next + 1 } }
  else { s with log := { s.log with dropped := satInc s.log.dropped } }

/-- Set an HST_IEVT bit on a port (R267). -/
def setIevt (p : Port) (bits : Word) (s : State) : State := 
  modPort p (fun h => { h with ievt := h.ievt ||| bits, ievtNew := h.ievtNew ||| bits }) s

/-- Set an HST_IEVT bit on both ports. -/
def setIevtBoth (bits : Word) (s : State) : State := setIevt .b bits (setIevt .a bits s)

/-- SYS_CAUSE as a number. -/
def causeWord (s : State) : Nat := s.start.cause + 8 * s.start.block + 256 * bit s.start.recovReq

/-- SYS_START as a number. -/
def startWord (s : State) : Nat :=
  bit s.start.fw + 2 * s.start.fwBank + 4 * bit s.start.rig + 8 * bit s.start.rails + 16 * bit s.start.enumDone +
    32 * bit s.start.rnd + 64 * bit s.start.sweep + 128 * bit s.start.holdc + 256 * bit s.start.cold

/-- The START record of an entry to RIGGING, RUN or FATAL (Table - Event types). -/
def queueStart (s : State) : State :=
  queueRec 3 [causeWord s, startWord s, s.sys.fwBld, s.sys.fwMin, s.sys.fwMaj, s.rig.running.verBld,
    s.rig.running.verMin, s.rig.running.verMaj] s

/-! ### Orders, parcels and returns (11) -/

/-- The order with an id. -/
def orderGet (s : State) (id : Nat) : Option Order := s.ord.orders.find? (fun o => decide (o.id = id))

/-- Change the order with an id. -/
def modOrder (id : Nat) (f : Order → Order) (s : State) : State :=
  { s with ord := { s.ord with orders := s.ord.orders.map (fun o => if o.id = id then f o else o) } }

/-- The order names the parcel. -/
def orderNames (o : Order) (n : Nat) : Bool := decide (o.parcel1 = n) || decide (o.parcel2 = n)

/-- Some order whose return is not yet posted names the parcel. -/
def parcelNamed (s : State) (n : Nat) : Bool := s.ord.orders.any (fun o => orderNames o n)

/-- Free a parcel (R362: when allocated again it reads 0x000, fill 0, end clear). -/
def parcelFree (n : Nat) (s : State) : State := modParcel n (fun _ => {}) s

/-- A parcel marked to be freed becomes free once no unreturned order names it (R370). -/
def parcelRelease (n : Nat) (s : State) : State :=
  if (parcelGet s n).freeLater && !parcelNamed s n then parcelFree n s else s

/-- Parcels an order names (each below 512). -/
def orderParcels (o : Order) : List Nat := [o.parcel1, o.parcel2].filter (fun n => decide (n < 512))

/-- The order leaves: its parcels that wait to be freed are freed. -/
def dropOrder (o : Order) (s : State) : State :=
  let s := { s with ord := { s.ord with orders := s.ord.orders.filter (fun x => decide (x.id ≠ o.id)) } }
  (orderParcels o).foldl (fun s n => parcelRelease n s) s

/-- Post a return on a port's ring (R355). -/
def postRet (p : Port) (r : Ret) (s : State) : State := modBank p (fun b => { b with ring := b.ring ++ [r] }) s

/-- Enter a return into the port's window of completed tags (R356). -/
def enterWindow (p : Port) (r : Ret) (s : State) : State :=
  if r.tag = 0 then s else modBank p (fun b => { b with window := (r :: b.window).take 128 }) s

/-- Count one on a counter kept per port. -/
def bumpPort (x : PerPort Nat) (p : Port) : PerPort Nat := perPortSet x p (satInc (perPortGet x p))

/-- End an order with a status and a return LENGTH: its return is posted and enters the tag window, or is discarded and
counted in MOR_DISC where the port was absent or reset (R327, R343). -/
def endOrder (o : Order) (code len : Nat) (s : State) : State :=
  let s := dropOrder o s
  if o.internal then s
  else if o.discard then { s with mor := { s.mor with disc := bumpPort s.mor.disc o.port } }
  else
    let r : Ret := { tag := o.tag, code := code, seen := o.seen, length := len, slot := o.slot }
    enterWindow o.port r (postRet o.port r s)

/-- End the order with an id; nothing when none has it. -/
def endOrderId (id code len : Nat) (s : State) : State :=
  match orderGet s id with
  | none => s
  | some o => endOrder o code len s

/-- Bytes the order's parcels hold. -/
def orderRoom (o : Order) : Nat := 512 * (orderParcels o).length

/-- The byte at offset `i` of the order's parcel chain. -/
def chainByte (s : State) (o : Order) (i : Nat) : Byte :=
  tblGet 0 (parcelGet s (if i < 512 then o.parcel1 else o.parcel2)).bytes (i % 512)

/-- `n` bytes of the order's parcel chain from offset `i` (R366). -/
def chainBytes (s : State) (o : Order) (i : Nat) : Nat → List Byte
  | 0 => []
  | n + 1 => chainByte s o i :: chainBytes s o (i + 1) n

/-- Bytes written into a parcel from byte `off`: an error that stood in one of them is gone. -/
def storeBytes (off : Nat) (d : List Byte) (q : Parcel) : Parcel :=
  { q with
    bytes := tblWriteBytes 0 q.bytes off d
    ecc := q.ecc.filter (fun e => decide (e.1 < off) || decide (off + d.length ≤ e.1)) }

/-- Bytes put into the parcel chain from byte `off`: at most what fits. -/
def chainPut (o : Order) (off : Nat) (data : List Byte) (s : State) : State :=
  let d := data.take (orderRoom o - off)
  let s := if o.parcel1 < 512 then modParcel o.parcel1 (storeBytes off (d.take (512 - off))) s else s
  if o.parcel2 < 512 then modParcel o.parcel2 (storeBytes (off - 512) (d.drop (512 - off))) s else s

/-- The fills and end marks of a chain whose first `n` bytes hold data, set with the return (R355, R367). -/
def chainMark (o : Order) (n : Nat) (s : State) : State :=
  let s := if o.parcel1 < 512 then
      modParcel o.parcel1 (fun q => { q with fill := min n 512, last := decide (n ≤ 512) }) s else s
  if o.parcel2 < 512 then
    modParcel o.parcel2 (fun q => { q with fill := n - 512, last := decide (512 < n) }) s else s

/-- Write returned data into the parcel chain from byte `off`, with fills and end marks (R367): at most what fits. -/
def chainWrite (o : Order) (off : Nat) (data : List Byte) (s : State) : State :=
  chainMark o (off + min data.length (orderRoom o - off)) (chainPut o off data s)

/-- LENGTH of a return of `n` bytes: 0x3FF for 1023 and more (R368, R378). -/
def retLen (n : Nat) : Nat := min n 1023

/-- End an order that returns `kept` bytes of a response of `full` bytes: the parcels are written, and a response longer
than they hold, or than the 1024 bytes kept, returns OVERFLOW with ORD_OVL set (R367, R368, R378). -/
def endOrderData (o : Order) (code : Nat) (kept : List Byte) (full : Nat) (s : State) : State :=
  let long := decide (orderRoom o < full) || decide (1024 < full)
  let s := if o.discard ∨ kept = [] then s else chainWrite o (if o.opcode = 0x0A then 4 else 0) kept s
  let s := if long && !o.discard then
      modBank o.port (fun b => { b with ovlLen := min full 0xFFFFF, ovlTag := o.tag }) s else s
  endOrder o (if long then 0x04B else code) (retLen full) s

/-- As `endOrderData`, by id. -/
def endOrderDataId (id code : Nat) (kept : List Byte) (full : Nat) (s : State) : State :=
  match orderGet s id with
  | none => s
  | some o => endOrderData o code kept full s

/-! ### Slots: power off (14) -/

/-- Contacts of a slot whose supply is off. -/
def contactsOff : Contacts := {}

/-- A deactivation can act on the slot: it is powered, or between two class trials; L0 while the update flow reads it. -/
def inSession (x : Slot) : Bool :=
  match x.st with
  | .rising | .atr | .ready | .busy | .asleep | .updating => true
  | _ => false

/-- Rank of an emergency cause, 1 the highest (R968); 8 for a ripcord (R507). -/
def causeRank (c : Nat) : Nat := match c with
  | 2 => 1 | 3 => 2 | 9 => 3 | 6 => 4 | 4 => 5 | 5 => 6 | _ => 8

/-- An emergency cause of the tick at which the slot began to fall by emergency acts in that deactivation (R507, R968): the
higher ranked of the two names the slot's end, SECOND is set, and a ripcord among them ends the order with SAFE_STATE. -/
def mergeFall (cause : Nat) (dest : Option SlotState) (status : Option Nat) (tick : Nat) (x : Slot) : Slot :=
  if x.st = .falling ∧ x.emergency = true ∧ x.fallTick = tick then
    let up := decide (causeRank cause < causeRank x.cause)
    { x with
      second := true, cause := if up then cause else x.cause, fallTo := if up then dest else x.fallTo
      fallStatus := if x.fallStatus.isNone then none
        else if cause = 7 ∨ x.fallStatus = some 0x085 then some 0x085 else if up then status else x.fallStatus }
  else x

/-- Start of a deactivation: RST, CLK, I/O low, VCC off, FALLING (R494 to R498). `dest` is the state after FALLING
(`none`: by DET), `status` what an order at the card ends with. -/
def slotFall (cause : Nat) (emergency second : Bool) (dest : Option SlotState) (status : Option Nat) (tick : Nat)
    (x : Slot) : Slot :=
  if inSession x then
    { x with st := .falling, pins := contactsOff, act := none, line := {}, cause := cause, emergency := emergency,
             second := second, fallTo := dest, fallStatus := status, fallTick := tick, slowSeen := false }
  else if emergency then mergeFall cause dest status tick x
  else x

/-- A deactivation of L0 while the update flow reads or writes its images ends the job with ABORTED. -/
def cutFetch (s : State) : State :=
  if (slotGet s 0).st = .updating ∧ s.upd.phase = 3 then
    { s with upd := { s.upd with
        phase := 0, owner := if s.upd.owner = .card then .none else s.upd.owner, fetch := [], fetchSame := false
        eraseDue := false, reason := 0x15 } }
  else s

/-- Deactivate a slot. A local slot's deactivation is recorded in the log (R798, type SLOT). -/
def fallSlot (k cause : Nat) (emergency second : Bool) (dest : Option SlotState) (status : Option Nat) (s : State) :
    State :=
  let live := inSession (slotGet s k)
  let s' := modSlot k (slotFall cause emergency second dest status s.sys.tick) (if k = 0 then cutFetch s else s)
  if live && isLocal k then
    queueRec 4 [k, cause + 16 * bit emergency + 32 * bit second, status.getD 0] s'
  else s'

/-- The normal deactivation after an order's end (SLT_CAUSE 8); the order returns `status` when FALLING ends (R969). -/
def fallNormal (k status : Nat) (s : State) : State := fallSlot k 8 false false none (some status) s

/-- A slot left FALLING, or an activation ended without power: reservation, activation place and measured power end (R504,
R638). -/
def releaseLift (id : Nat) (s : State) : State :=
  modLdg id (fun l => { l with res := 0, readings := [], activating := false, measHigh := false }) s

/-- An order that stands at a local slot without a session, and has not begun, ends with SAFE_STATE (R32). -/
def dropRun (k : Nat) (s : State) : State :=
  match (slotGet s k).run with
  | some r =>
    if r.begun || inSession (slotGet s k) || decide ((slotGet s k).st = .falling) then s
    else releaseLift k (endOrderId r.oid 0x085 0 (modSlot k (fun x => { x with run := none }) s))
  | none => s

/-- The ripcord's slot action on the local slots (SLT_CAUSE 7; orders end with SAFE_STATE, R498). -/
def ripcordLocals (s : State) : State :=
  [0, 1, 2, 3].foldl (fun s k => fallSlot k 7 true false none (some 0x085) (dropRun k s)) s

/-! ### Recorder freeze (26) -/

/-- CRC-32 of the running rig's stream: header words 10 to 13 of its bank. -/
def rigCrc (s : State) : Nat :=
  let l := (if s.rig.bank = 0 then s.rig.bankA else s.rig.bankB).words
  (List.range 4).foldl (fun a k => a + (l.getD (10 + k) 0).toNat % 256 * 256 ^ k) 0

/-- Firmware version as one number (IDN_FW). -/
def fwVersion (s : State) : Nat := s.sys.fwBld + 1024 * s.sys.fwMin + 1048576 * s.sys.fwMaj

/-- Version of the running rig as one number. -/
def rigVersion (s : State) : Nat :=
  s.rig.running.verBld + 1024 * s.rig.running.verMin + 1048576 * s.rig.running.verMaj

/-- The recorder stands still: its RAM keeps what it recorded, with what it was recorded under; an armed area is dumped to
(R897, R898), after a RESET entry only from RESET exit (R899). -/
def recStand (code : Nat) (s : State) : State :=
  let r := s.rcd
  let ram := { r.ram with
    version := fwVersion s, rigVersion := rigVersion s, rigCrc := rigCrc s, cause := code, ftick := s.sys.tick
    state := hubCode s.sys.state, boot := s.sys.bootCount, site := s.rig.running.site.siteId }
  { s with rcd := { r with
    closing := true, delaying := false, recording := false, frozen := true, fcause := code, ftick := s.sys.tick, ram := ram
    dumping := decide (code ≠ 2) && (r.armed0 || r.armed1) } }

/-- The cause in force is one of this tick, with a higher code: the lower one is recorded (R912). -/
def lowerCause (r : Rec) (code tick : Nat) : Bool :=
  (r.frozen || r.delaying) && decide (r.causeTick = tick) && decide (code < r.fcause)

/-- The recorder's MARK trigger entry of a cause at this tick. -/
def markCause (code tick : Nat) (r : Rec) : Rec :=
  { r with causeTick := tick, marks := r.marks.filter (fun e => decide (e.1 ≠ 2)) ++ [(2, code)] }

/-- A freeze cause acts on the recorder (R895, R896): `code` of Table - Freeze causes, `enabled` by REC_CFG, `delayed` by
REC_POST. A cause while frozen or delaying only counts in REC_MISSED, but a fatal one ends a delay at once; of two causes of
one tick the lower code is recorded. -/
def recFreeze (code : Nat) (enabled delayed : Bool) (s : State) : State :=
  let r := s.rcd
  let tick := s.sys.tick
  if !enabled then s
  else if lowerCause r code tick && decide (r.delaying → code ≠ 1) then
    { s with rcd := { markCause code tick r with fcause := code, ram := { r.ram with cause := code } } }
  else if r.frozen || (r.delaying && decide (code ≠ 1)) then { s with rcd := { r with missed := satInc r.missed } }
  else if !r.recording && !r.delaying then s
  else if delayed && decide (r.post ≠ 0) then
    { s with rcd := { markCause code tick r with delaying := true, fcause := code, ftick := tick + r.post * 800000 } }
  else recStand code { s with rcd := markCause code tick r }

/-! ### Frames of the hub on its tethers (12) -/

/-- The hub sends a frame from an end of a tether; in the quiet time of a heal it is held back (R424). -/
def hubSend (t : Nat) (e : RingEnd) (f : RingFrame) (s : State) : State :=
  let now := s.sys.tick
  modTether t (fun x =>
    if quietNow now x then { x with txWait := x.txWait ++ [(e, frameSyms f)] } else hubPut e (frameSyms f) x) s

/-- A frame of the hub to a position. -/
def hubFrame (pos : Nat) (seq : Bool) (type : Nat) (payload : List Byte) : RingFrame :=
  { pos := posNo pos, dir := false, seq := seq, type := type, payload := payload }

/-- The hub sends a frame to a position by the end that reaches it (R382, R419). -/
def hubTo (pos : Nat) (seq : Bool) (type : Nat) (payload : List Byte) (s : State) : State :=
  hubSend (posTether pos) (viewGet s pos).path (hubFrame pos seq type payload) s

/-! ### Ripcord and FATAL (21) -/

/-- RIPCORD leaves both ends of every tether as eight K23.7 (R392); with `stop`, the tether traffic then stops (R32, R749). -/
def ripcordTethers (stop : Bool) (s : State) : State :=
  { s with tth := { s.tth with tethers := s.tth.tethers.map (fun t =>
      hubPut .retEnd (List.replicate 8 .ripcord) (hubPut .outEnd (List.replicate 8 .ripcord)
        { t with ripcordSent := t.ripcordSent || stop, transmit := t.transmit && !stop })) } }

/-- Every TRMn to high impedance with its target at 0 (R193, R201, R750). -/
def trimsOff (s : State) : State :=
  { s with
    rls := { s.rls with rails := s.rls.rails.map (fun r =>
      { r with trimMag := 0, trimSink := false, targetMag := 0, targetSink := false, trimPort := none, trimLast := 0,
               ramping := false }) }
    pins := { s.pins with trmZ := 0xFF } }

/-- A rule at reset: its words, its hit bit and its counts stay. -/
def ruleAtReset (r : LkoRule) : LkoRule := { words := r.words, hit := r.hit, hitNew := r.hitNew, fires := r.fires }

/-- The lookout holds every rule at reset and takes no action (R708). -/
def holdRules (s : State) : State :=
  { s with lko := { s.lko with
    rules := s.lko.rules.map (fun (e : Nat × _) => (e.1, ruleAtReset e.2)), evaluating := false, pfw := false, ackDue := [] } }

/-- Entry to FATAL (R753): the latch and SYS_FATAL are set (the first detection stays, R767), the ripcord acts, the rail
sequencer freezes with every ENn held (R201), the tick counter stops (R82), the recorder freezes. Not from OFF (R28). -/
def fatalEnter (number k kind frx : Nat) (s : State) : State :=
  let source : Fatal :=
    { latch := true, fatal0 := toWord (number + 32 * k), fatal1 := toWord (kind + 8 * frx), now := true }
  if s.sys.state = .off then s
  else if s.sys.state = .fatal then
    let rank := fun (w : Word) => 16 * (w.toNat % 32) + w.toNat / 32
    if s.fatal.now && decide (rank source.fatal0 < rank s.fatal.fatal0) then { s with fatal := source } else s
  else
    let s := { s with fatal := source }
    let s := trimsOff (ripcordLocals (ripcordTethers true s))
    let s := holdRules { s with rls := { s.rls with frozen := true } }
    let s := recFreeze 1 true false s
    queueStart { s with
      sys := { s.sys with state := .fatal, tickRunning := false }
      ports := { a := { s.ports.a with answering := true }, b := { s.ports.b with answering := true } } }

/-- The fault record of Table - Event types: block, bit, class held, escalated, code, FST after. -/
def queueFault (b : FBlk) (k cls : Nat) (esc : Bool) (s : State) : State :=
  let s := { s with log := { s.log with faults := s.log.faults ++ [(blkNumber b, k, cls)] } }
  queueRec 1 [blkNumber b, k, cls, bit esc, codeOf (bankGet s.fb b) k, (bankGet s.fb b).fst.toNat] s

/-- Replace a block's bank in the state. -/
def setBank (b : FBlk) (x : FaultBank) (s : State) : State := { s with fb := bankSet s.fb b x }

/-- The cores leave STANDBY for RUN (R725): LKO_WAKESRC shows every source of the waking tick, HST_IEVT.WAKE is set on both
ports. -/
def coreWake (src : Nat) (s : State) : State :=
  match s.sys.state with
  | .standby =>
    setIevtBoth 0x008 { s with
      sys := { s.sys with state := .run }
      lko := { s.lko with
        standby := false, woken := true, sourced := true, wakeSrc := Nat.lor s.lko.wakeSrc (2 ^ src) } }
  | .run =>
    { s with lko := { s.lko with
        sourced := true, wakeSrc := if s.lko.woken then Nat.lor s.lko.wakeSrc (2 ^ src) else s.lko.wakeSrc } }
  | _ => s

/-- A fault reaction of TRAP or a stronger code wakes the cores (R724). -/
def wakeByFault (f : FaultBank) (k : Nat) (esc : Bool) (s : State) : State :=
  if decide (2 ≤ codeOf f k) || esc then coreWake 4 s else s

/-- The sources of a class among `ks`. -/
def ofClass (b : FBlk) (c : FClass) (ks : List Nat) : List Nat := ks.filter (fun k => decide (classOf b k = c))

/-- Their bits as a mask. -/
def srcBits (ks : List Nat) : BitVec 9 := ks.foldl (fun m j => m ||| srcBit j) 0

/-- A corrected event of the sources `ks`, judged against the marks of `f` (R742). -/
def raiseCorrected (b : FBlk) (ks : List Nat) (f : FaultBank) (s : State) : State :=
  let (f', esc) := correctedEvent (containedMask b) f (srcBits ks)
  ks.foldl (fun s j => wakeByFault f j esc s)
    (recFreeze 3 (esc && bitAt s.rcd.cfg 1) true
      (ks.foldl (fun s j => queueFault b j (bit esc) esc s) (setBank b f' s)))

/-- A contained event of the sources `ks`, judged against the marks of `f` (R743). -/
def raiseContained (b : FBlk) (ks : List Nat) (f : FaultBank) (s : State) : State :=
  let s := setBank b (stickSet (bankGet s.fb b) (srcBits ks)) s
  let k := ks.headD 0
  if uPend (containedMask b) f then fatalEnter (blkNumber b) k 2 0 (queueFault b k 2 true s)
  else
    ks.foldl (fun s j => wakeByFault f j false s)
      (recFreeze 3 (bitAt s.rcd.cfg 1) true (ks.foldl (fun s j => queueFault b j 1 false s) s))

/-- Raise the events of one block at one tick (R738 to R744, R784): `ks` are the sources in ascending order. Those of one
class form one event, each class is judged against the marks as they stood before, and a fatal one governs (R761). In FATAL
no reaction of any block runs (R753). -/
def raiseMany (b : FBlk) (ks : List Nat) (s : State) : State :=
  if (s.sys.state = .fatal ∧ s.fatal.now = false) ∨ s.sys.state = .off then s
  else if s.sys.state = .fatal then
    match ofClass b .fatal ks with
    | k :: _ => fatalEnter (blkNumber b) k 1 0 (setBank b (stickSet (bankGet s.fb b) (srcBit k)) s)
    | [] => s
  else
    let f := bankGet s.fb b
    let cs := ofClass b .corrected ks
    let us := ofClass b .contained ks
    match ofClass b .fatal ks with
    | k :: _ => fatalEnter (blkNumber b) k 1 0 (queueFault b k 2 false (setBank b (stickSet f (srcBit k)) s))
    | [] =>
      let s := if cs = [] then s else raiseCorrected b cs f s
      if us = [] then s else raiseContained b us f s

/-- Raise one fault event. The codes a rig may give its source take effect through the words themselves (block request,
TRAP_N, HOK); the further actions of codes 3, 4 and 6 belong to the few sources that allow them (ORD DESC_UNCORR,
REC RAM_UNCORR, MEA OVERTEMP) and are taken where those are raised. -/
def raise (b : FBlk) (k : Nat) (s : State) : State := raiseMany b [k] s

/-- The port that claims a slot (R314). -/
def claimOf (s : State) (id : Nat) : Option Port := tblGet none s.mor.claims id

end Machine
end Sys2Proof
end

