-- ==== Sys2Proof/Machine/RigStream.lean ====
section
/-!
DEFINITION. The rig's stream (02): its records, validation steps 1 to 18 (R57), and the running settings that a valid stream
yields (R49 to R52).
-/
namespace Sys2Proof
namespace Machine

/-! ### Words and records (R42 to R48) -/

/-- Newest stream length, in words (R46). -/
def rigMax : Nat := 26208

/-- Word `i` of a stream; words beyond the list read `fill`. -/
def streamAt (fill : Word) (l : List Word) (i : Nat) : Nat := (l.getD i fill).toNat

/-- The first `n` words of a stream. -/
def streamTake (fill : Word) (l : List Word) (n : Nat) : List Word := (l ++ List.replicate (n - l.length) fill).take n

/-- Words 10 to 13 taken as 0x000 (R45, R54). -/
def streamZero (l : List Word) : List Word := l.take 10 ++ (List.replicate 4 0 ++ l.drop 14)

/-- A length rounded up to whole groups of four (R44). -/
def groupUp (n : Nat) : Nat := (n + 3) / 4 * 4

/-- A record: word offset of its TYPE, its type, its body. -/
structure RigRecord where
  off : Nat
  type : Nat
  body : List Nat
  deriving DecidableEq, Repr

/-- Body word `k`. -/
def RigRecord.at (r : RigRecord) (k : Nat) : Nat := r.body.getD k 0

/-- The records that fill a run of words exactly, `n` at most (R47, R48); the offset of the one that does not fit. -/
def rigRecords : Nat → Nat → List Nat → Except Nat (List RigRecord)
  | _, _, [] => .ok []
  | 0, off, _ => .error off
  | _, off, [_] => .error off
  | n + 1, off, t :: len :: rest =>
    if rest.length < len then .error off
    else
      match rigRecords n (off + 2 + len) (rest.drop len) with
      | .ok l => .ok ({ off := off, type := t, body := rest.take len } :: l)
      | .error e => .error e

/-! ### Fields (step 12, 13) -/

/-- Step 12: BODYLEN fits the type (Table - Record types). -/
def bodyFits (r : RigRecord) : Bool :=
  let n := r.body.length
  match r.type with
  | 0x000 => true
  | 0x001 | 0x002 | 0x006 | 0x00A => decide (n = 5)
  | 0x003 => decide (n = 17)
  | 0x004 | 0x007 => decide (n = 10)
  | 0x005 => decide (n = 7)
  | 0x008 => decide (2 ≤ n) && decide (n = 2 + r.at 1)
  | 0x009 => decide (n = 3)
  | 0x00B => decide (n = 4)
  | _ => decide (n = 0)

/-- Step 11: the type is defined. -/
def typeKnown (t : Nat) : Bool := decide (t ≤ 0x00B) || decide (t = 0x3FF)

/-- A channel code of Table - Hub channels. -/
def channelOk (c : Nat) : Bool := decide (c < 0x18) && decide (c ≠ 0x0F)

/-- The working list of declared rails and a scan list (R185). -/
def workList (rails scan : List Nat) : List Nat :=
  let sns := [0, 1, 2, 3, 4, 5, 6, 7].filter (fun n => rails.contains n)
  (sns ++ scan.filter (fun c => !sns.contains c)).take 24

/-- Every bit of an ACK mask names a corrected-class source of the block (R710). -/
def ackMaskOk (blk mask : Nat) : Bool :=
  match blkOfNumber blk .a with
  | none => true
  | some b => (List.range 10).all (fun k =>
      !bitAt mask k || (decide (k < sourceCount b) && decide (classOf b k = .corrected)))

/-- Step 13 of a LOOKOUT record (R709, R710). -/
def ruleRange (r : RigRecord) : Bool :=
  let r0 := r.at 1
  let r1 := r.at 2
  let r3 := r.at 4
  let src := field r0 8 2
  let idx := field r0 0 8
  let cmp := field r3 8 2
  let iir := bitAt r1 9
  inRange (r.at 0) 0 31 &&
    (if src = 0 then channelOk idx else if src = 1 then decide (idx % 32 ≤ 18)
     else if src = 2 then inRange idx 1 0x1E else decide (idx ≤ 8)) &&
    decide (r1 % 512 ≠ 0) && decide (cmp ≠ 3) && !bitAt r3 7 && (decide (cmp = 2) || decide (r.at 3 ≤ 0x3FD)) &&
    !(iir && (decide (cmp = 2) || decide (2 ≤ src))) &&
    !(bitAt r3 6 && decide (src = 2) && !ackMaskOk idx (r.at 3))

/-- Step 13: every field is within its range (the body tables of 02, R77, R681, R710); `rails` are the rails declared. -/
def fieldsOk (rails : List Nat) (r : RigRecord) : Bool :=
  let g := r.at
  match r.type with
  | 0x000 => r.body.all (fun w => decide (w = 0))
  | 0x001 => inRange (g 0) 1 1023 && inRange (g 1) 55 400 && inRange (g 2) 10 600 && decide (g 3 ≤ 1)
  | 0x002 => decide (g 0 ≤ 3) && inRange (g 1) 5 1000 && inRange (g 2) 50 100 && inRange (g 3) 1 1023 && inRange (g 4) 1 16
  | 0x003 =>
    decide (g 0 % 4 = 0) && decide (g 0 / 4 % 64 ≠ 0) && inRange (g 1) 1 1023 && inRange (g 2) 1 4 &&
      inRange (g 3) 60 480 && decide (g 4 ≤ 7) && (List.range 8).all (fun k => decide (g (5 + k) ≤ 255)) &&
      inRange (g 14) 1 1023 && decide (g 15 ≤ 0x3FD) && decide (g 16 ≤ 0x3FD)
  | 0x004 =>
    inRange (g 1) 1 4 && decide (g 0 % 4 + g 1 ≤ 4) && decide (g 2 ≤ 2) && decide (g 3 ≤ 7) && decide (g 4 ≤ 1) &&
      inRange (g 5) 10 300 && inRange (g 6) 1 1023 && decide (g 7 ≤ 3) && decide (g 8 ≤ 2) && decide (g 9 ≤ 1)
  | 0x005 =>
    inRange (g 0) 50 1000 && inRange (g 1) 1 100 && inRange (g 2) 400 1023 && inRange (g 3) 10 400 && decide (g 5 ≤ 63) &&
      inRange (g 4 + 1024 * g 5) 40 65535 && inRange (g 6) 32 1023
  | 0x006 => inRange (g 0) 1 1023 && inRange (g 1) 1 1023 && inRange (g 3) 1 1023 && inRange (g 4) 1 1023
  | 0x007 =>
    decide (g 0 ≤ 7) && decide (g 1 ≤ 7) && inRange (g 3) 1 1023 && decide (g 4 ≤ 0x3FD) && inRange (g 5) (g 4 + 1) 0x3FD &&
      inRange (g 6) 1 8 && decide (g 7 ≤ 2) && decide (g 9 ≤ 1)
  | 0x008 =>
    let scan := r.body.drop 2
    inRange (g 0) 1 1023 && inRange (g 1) 1 24 && scan.all channelOk &&
      [0x0B, 0x0C, 0x0E].all (fun c => (workList rails scan).contains c)
  | 0x009 => (inRange (g 0) 1 0x1E || decide (g 0 = 0x20)) && decide (g 1 ≤ 7)
  | 0x00A => ruleRange r
  | 0x00B => decide (g 0 ≤ 1) && inRange (g 1) 1 1000 && decide (g 2 ≤ 1) && decide (g 3 ≤ 1)
  | _ => true

/-! ### Steps 15 to 18 -/

/-- What a record describes, as keys that may not appear twice (step 15). -/
def recordKeys (r : RigRecord) : List (Nat × Nat) :=
  match r.type with
  | 0x001 | 0x005 | 0x006 | 0x008 => [(r.type, 0)]
  | 0x002 | 0x003 | 0x007 | 0x00A | 0x00B => [(r.type, r.at 0)]
  | 0x004 => (List.range (r.at 1)).map (fun k => (r.type, r.at 0 + k))
  | 0x009 => [(r.type, 8 * r.at 0 + r.at 1)]
  | _ => []

/-- The first record that describes what an earlier one described. -/
def firstDuplicate : List (Nat × Nat) → List RigRecord → Option RigRecord
  | _, [] => none
  | seen, r :: l => if (recordKeys r).any seen.contains then some r else firstDuplicate (recordKeys r ++ seen) l

/-- How many sources a block number has; 0 for a number without a fault word (Table - Default reaction words). -/
def reactSources (blk : Nat) : Nat :=
  if blk = 0x20 then 9
  else
    match blkOfNumber blk .a with
    | some b => sourceCount b
    | none => 0

/-- Allowed reaction codes of each source, as masks of codes 0 to 7 (Table - Fault sources). -/
def allowedCodes (blk : Nat) : List Nat :=
  match blk with
  | 0x01 => [0x07, 0x40, 0x27, 0x03, 0x40, 0x40, 0x40]
  | 0x02 => [0x07, 0x03]
  | 0x03 => [0x27, 0x27]
  | 0x04 => [0x03, 0x03, 0x2F]
  | 0x06 => [0x03, 0x27]
  | 0x08 => [0x07, 0x07, 0x03, 0x27, 0x07]
  | 0x0A => [0x27, 0x27, 0x07, 0x07, 0x03, 0x03, 0x27]
  | 0x0C => [0x27, 0x07, 0x27, 0x03]
  | 0x0E => [0x27, 0x07, 0x27, 0x03, 0x03]
  | 0x10 => [0x27, 0x27, 0x03, 0x07, 0x03, 0x07, 0x03]
  | 0x12 => [0x03, 0x67, 0x27]
  | 0x14 => [0x03, 0x27]
  | 0x16 => [0x07, 0x27, 0x27, 0x27]
  | 0x18 => [0x07, 0x27, 0x27, 0x27, 0x03]
  | 0x1A => [0x03, 0x27, 0x07, 0x07]
  | 0x1C => [0x27, 0x27]
  | 0x1E => [0x03, 0x37, 0x07, 0x03]
  | 0x20 => [0x27, 0x77, 0x27, 0x03, 0x27, 0x7F, 0x40, 0x40, 0x40]
  | _ => []

/-- Step 17 of a REACT record (R775): a reserved source's field holds 0. -/
def reactOk (r : RigRecord) : Bool :=
  [0, 1, 2].all (fun j => bitAt ((allowedCodes (r.at 0)).getD (3 * r.at 1 + j) 0x01) (field (r.at 2) (3 * j) 3))

/-- Step 16 of one record (R51, R710, R774). -/
def referenceOk (l : List RigRecord) (r : RigRecord) : Bool :=
  let tethers := (l.filter (fun x => decide (x.type = 0x002))).map (fun x => x.at 0)
  let sats := (l.filter (fun x => decide (x.type = 0x003))).map (fun x => x.at 0 / 4)
  match r.type with
  | 0x003 => tethers.contains (r.at 0 / 256)
  | 0x004 =>
    if r.at 0 / 4 = 0 then decide (r.at 0 ≠ 0) || decide (r.at 2 = 2) else sats.contains (r.at 0 / 4)
  | 0x009 => decide (3 * r.at 1 < reactSources (r.at 0))
  | 0x00A =>
    let src := field (r.at 1) 8 2
    let idx := field (r.at 1) 0 8
    let ack := l.any (fun x => decide (x.type = 0x001) && bitAt (x.at 3) 0)
    !(bitAt (r.at 4) 6 && !(decide (src = 2) && ack)) &&
      !(bitAt (r.at 4) 4 && !(decide (src = 1) || (decide (src = 0) && inRange idx 0x10 0x17))) &&
      !(decide (src = 1) && !bitAt idx 5 && !tethers.contains (idx / 64)) &&
      !(decide (src = 2) && decide (reactSources idx = 0))
  | _ => true

/-! ### Settings (R49 to R52) -/

/-- One slot of a SLOT record. -/
def slotOfRecord (r : RigRecord) : SlotRec :=
  { kind := kindOf (r.at 2), classes := r.at 3, order := r.at 4, trip := r.at 5, cost := r.at 6, prio := r.at 7,
    claim := r.at 8, wp := r.at 9 }

/-- What a record adds to the rig. -/
def addRecord (g : Rig) (r : RigRecord) : Rig :=
  let x := r.at
  match r.type with
  | 0x001 => { g with site := { ordTimeout := x 0, vPf := x 1, trialS := x 2, lkoAck := bitAt (x 3) 0, siteId := x 4 } }
  | 0x002 =>
    let t : TetherRec := { silence := x 1, efficiency := x 2, lift := x 3, actMax := x 4 }
    { g with tethers := tblSet none g.tethers (x 0) (some t) }
  | 0x003 =>
    let uid := (List.range 8).foldl (fun a k => a + x (5 + k) * 256 ^ k) 0
    let t : SatRec := { lift := x 1, actMax := x 2, ballastMin := x 3, pinned := bitAt (x 4) 0, grail0 := bitAt (x 4) 1,
                        grail1 := bitAt (x 4) 2, uid := uid, gap := x 13, win := x 14, min0 := x 15, min1 := x 16 }
    { g with sats := tblSet none g.sats (x 0 / 4) (some t) }
  | 0x004 => { g with slots := (List.range (x 1)).foldl (fun t k => tblSet none t (x 0 + k) (some (slotOfRecord r))) g.slots }
  | 0x005 => { g with activation := { vccWin := x 0, clkDelay := x 1, rstClks := x 2, atrMax := x 3,
                                      div := x 4 + 1024 * x 5, sdDiv := x 6 } }
  | 0x006 => { g with ledger := { liftMains := x 0, liftBatt := x 1, battWh := x 2, standbyH := x 3, alarmMin := x 4 } }
  | 0x007 =>
    let t : RailRec := { step := x 1, delay := x 2, win := x 3, goodMin := x 4, goodMax := x 5, filter := x 6, mode := x 7,
                         tWarn := x 8, margin := decide (x 9 = 1) }
    { g with rails := tblSet none g.rails (x 0) (some t) }
  | 0x008 => { g with sweepMs := x 0, scan := some (r.body.drop 2) }
  | 0x009 => { g with react := tblSet none g.react (8 * x 0 + x 1) (some (toWord (x 2))) }
  | 0x00A => { g with rules := tblSet none g.rules (x 0) (some ((r.body.drop 1).map toWord)) }
  | 0x00B =>
    let t : HostRec := { hbWin := x 1, hbReq := decide (x 2 = 1), absentFree := decide (x 3 = 1) }
    { g with hosts := perPortSet g.hosts (if x 0 = 0 then .a else .b) t }
  | _ => g

/-! ### Validation (R57) -/

/-- Outcome of a validation: reason and word offset of the first failing step (reason 0: none), what RND_SIGLAST shows of a
verification it made (0: none), and the rig. -/
structure RigCheck where
  reason : Nat := 0
  pos : Nat := 0
  sig : Nat := 0
  rig : Rig := {}
  deriving DecidableEq, Repr

/-- Header bits that are reserved, as masks by word (step 5). -/
def headerReserved : List (Nat × Nat) :=
  [(7, 0x3E0), (8, 0x3FE), (10, 0x300), (11, 0x300), (12, 0x300), (13, 0x300), (15, 0x3FF)]

/-- The lowest header word that fails step 5. -/
def headerBad (w : Nat → Nat) : Option Nat :=
  (List.range 16).find? (fun i => (decide (i = 14) && decide (w 14 ≠ 0x3F4)) ||
    headerReserved.any (fun e => decide (e.1 = i) && decide (Nat.land (w i) e.2 ≠ 0)))

/-- The first record that fails a check. -/
def firstBad (ok : RigRecord → Bool) (l : List RigRecord) : Option RigRecord := l.find? (fun r => !ok r)

/-- Steps 11 to 18 over the records. -/
def recordSteps (l : List RigRecord) : Option (Nat × Nat) :=
  let rails := (l.filter (fun x => decide (x.type = 0x007))).map (fun x => x.at 0)
  let try_ := fun (code : Nat) (r : Option RigRecord) (rest : Option (Nat × Nat)) => match r with
    | some x => some (code, x.off)
    | none => rest
  try_ 0x0B (firstBad (fun r => typeKnown r.type) l) <|
  try_ 0x0C (firstBad bodyFits l) <|
  try_ 0x0D (firstBad (fieldsOk rails) l) <|
  try_ 0x0E (firstBad (fun r => decide (r.type ≠ 0x009) || oddOnes (toWord (r.at 2))) l) <|
  try_ 0x0F (firstDuplicate [] l) <|
  try_ 0x10 (firstBad (referenceOk l) l) <|
  try_ 0x11 (firstBad (fun r => decide (r.type ≠ 0x009) || reactOk r) l) <|
  match l.findIdx? (fun r => decide (r.type = 0x3FF)) with
  | some k => if k + 1 = l.length then none else some (0x12, ((l[k + 1]?).map (fun r => r.off)).getD 16)
  | none => some (0x12, ((l.getLast?).map (fun r => r.off)).getD 16)

/-- Key hash of an OTP slot. -/
def slotHash (o : Otp) (n : Nat) : Nat := if n = 0 then o.hash0 else o.hash1

/-- The slot counts as revoked: its revoke bit, or a word that fails its check (R828). -/
def slotRevoked (o : Otp) (n : Nat) : Bool := (if n = 0 then o.revoked0 else o.revoked1) || o.failed.contains n

/-- Programmed and not revoked. -/
def slotUsable (o : Otp) (n : Nat) : Bool := decide (slotHash o n ≠ 0) && !slotRevoked o n

/-- The key slot admits the public key (R55, R828). -/
def keyAdmits (o : Otp) (n : Nat) (key : List Byte) : Bool :=
  decide (n ≤ 1) && slotUsable o n && decide (leNat (sha256 key) = slotHash o n)

/-- Steps 9 and 10 of a signature block of 129 words over a stream's words (R53 to R55): 0, or 9 or 10. -/
def signatureStep (o : Otp) (block stream : List Word) : Nat :=
  let bytes := fun (lo n : Nat) => (slice block lo n).map (fun w => w.setWidth 8)
  let key := bytes 1 64
  if !keyAdmits o (streamAt 0 block 0) key then 9
  else if ecdsaVerify key (sha256 (packWords stream.length (streamZero stream))) (bytes 65 64) then 0 else 10

/-- Validation of a stream (R57): `o` the OTP, `old` and `new` the schemas the firmware reads, `avail` the words staged or
stored, `fill` what words beyond the list read. DESIGN CHOICE (log entry 56): the word offset that a failure outside the
records reports is the model's: 6 for SIZE and LENGTH, 9 for RECORDS, the record or the stream's end where the records do
not fill it, 10 for CRC, 8 or the signature block's start for SIG_MISSING, its start for SIG_KEY and SIG_BAD, the record
after END or the last one for END_BAD. -/
def validateRig (o : Otp) (old new avail : Nat) (fill : Word) (words : List Word) : RigCheck :=
  let w := streamAt fill words
  let n := w 6 + 1024 * (w 7 % 32)
  let signed := bitAt (w 8) 0
  let end_ := if signed then n - 129 else n
  let l := streamTake fill words (groupUp n)
  if rigMax < n ∨ avail < n then { reason := 0x01, pos := 6 }
  else if w 0 ≠ 0x2C9 then { reason := 0x02, pos := 0 }
  else if w 1 ≠ 0x136 then { reason := 0x02, pos := 1 }
  else if new < w 2 then { reason := 0x03, pos := 2 }
  else if w 2 < old then { reason := 0x04, pos := 2 }
  else
    match headerBad w with
    | some k => { reason := 0x05, pos := k }
    | none =>
      if end_ < 16 ∨ (signed ∧ n < 145) then { reason := 0x06, pos := 6 }
      else
        match rigRecords end_ 16 ((slice l 16 (end_ - 16)).map (fun (x : Word) => x.toNat)) with
        | .error off => { reason := 0x06, pos := off }
        | .ok recs =>
          if recs.length ≠ w 9 then { reason := 0x06, pos := 9 }
          else if (l.drop n).any (fun x => decide (x ≠ 0)) then { reason := 0x06, pos := n }
          else if w 10 % 256 + 256 * (w 11 % 256) + 65536 * (w 12 % 256) + 16777216 * (w 13 % 256) ≠
              crc32 (packWords l.length (streamZero l)) then { reason := 0x07, pos := 10 }
          else if o.rigSigReq && !signed then { reason := 0x08, pos := 8 }
          else if signed && decide (end_ % 4 ≠ 0) then { reason := 0x08, pos := end_ }
          else
            let sig := if signed then signatureStep o (slice l end_ 129) (l.take end_) else 0
            if sig = 9 then { reason := 0x09, pos := end_, sig := 3 }
            else if sig = 10 then { reason := 0x0A, pos := end_, sig := 2 }
            else
              let seen := if signed then 1 else 0
              match recordSteps recs with
              | some (code, off) => { reason := code, pos := off, sig := seen }
              | none =>
                { sig := seen
                  rig := recs.foldl addRecord
                    { verMaj := w 3, verMin := w 4, verBld := w 5, schema := w 2, signed := signed } }

/-! ### Live and restart settings (R58) -/

/-- What of a rig only a restart changes: the live fields put to one value. -/
def restartView (g : Rig) : Tbl (Option TetherRec) × Tbl (Option SatRec) × Tbl (Option SlotRec) × Tbl (Option RailRec) ×
    Tbl (Option Word) :=
  (g.tethers,
   g.sats.map (fun (e : Nat × Option SatRec) => (e.1, e.2.map (fun r => { r with lift := 0, actMax := 0, ballastMin := 0 }))),
   g.slots.map (fun (e : Nat × Option SlotRec) => (e.1, e.2.map (fun r => { r with trip := 0, cost := 0, prio := 0, wp := 0 }))),
   g.rails, g.react)

/-- Generation and complement of a trailer are valid (R63). -/
def trailerOk (generation complement : Nat) : Bool :=
  decide (generation ≠ 0xFFFFFFFF) && decide (complement = 0xFFFFFFFF - generation)

end Machine
end Sys2Proof
end

