-- ==== Sys2Proof/Machine/Images.lean ====
section
/-!
DEFINITION. Update images (25): the header's fields, the checks of R841, delta payloads, and what makes a firmware bank or a
store slot valid.
-/
namespace Sys2Proof
namespace Machine

/-! ### The header (R839, Table - Image header) -/

/-- `n` bytes of an image from `lo`, least significant first. -/
def imgField (t : Tbl Byte) (lo n : Nat) : Nat := leNat (tblBytes 0xFF t lo n)

/-- VERSION. -/
def imageVersion (t : Tbl Byte) : Nat := imgField t 12 4

/-- TARGET. -/
def imageTarget (t : Tbl Byte) : Nat := imgField t 6 1

/-- LENGTH: payload bytes. -/
def payloadLen (t : Tbl Byte) : Nat := imgField t 20 4

/-- `n` payload bytes from payload offset `lo`. -/
def payload (t : Tbl Byte) (lo n : Nat) : List Byte := tblBytes 0xFF t (1024 + lo) n

/-- The public key of a header. -/
def imageKey (t : Tbl Byte) : List Byte := tblBytes 0xFF t 64 64

/-- What the signature covers: the header with bytes 128 to 191 and 1020 to 1023 taken as 0x00 (R840). -/
def signedHeader (t : Tbl Byte) : List Byte :=
  tblBytes 0xFF t 0 128 ++ List.replicate 64 0 ++ tblBytes 0xFF t 192 828 ++ List.replicate 4 0

/-- Least and most payload bytes of a target (Table - Payload limits). -/
def lengthOk (target n : Nat) : Bool :=
  match target with
  | 1 | 2 => inRange n 1 523200
  | 3 => inRange n 8193 126976
  | _ => inRange n 5 32760 && decide (n % 5 = 0)

/-- Reserved bits and bytes of a header are 0 (step 3). -/
def headerClean (t : Tbl Byte) : Bool :=
  decide (imgField t 7 1 ≤ 1) && decide (imageVersion t < 2 ^ 30) && decide (imgField t 31 1 = 0) &&
    (tblBytes 0xFF t 192 828).all (fun b => decide (b = 0))

/-- The version floor: the highest programmed, 0x3FFFFFFF where its word fails its check (R828). -/
def versionFloor (o : Otp) : Nat := if o.failed.contains 2 then 0x3FFFFFFF else o.floors.foldl max 0

/-- Hub images: targets 1 and 2. -/
def hubTarget (n : Nat) : Bool := decide (n = 1) || decide (n = 2)

/-- Steps 1 to 9 of Table - Image checks: the first that fails, or 0. `ok` says which targets the source accepts. -/
def imageSteps (o : Otp) (ok : Nat → Bool) (t : Tbl Byte) : Nat :=
  let f := imgField t
  let target := imageTarget t
  if f 0 4 ≠ 0xE531479C ∨ f 4 2 ≠ 1 then 0x01
  else if crc32 (tblBytes 0xFF t 0 1020) ≠ f 1020 4 then 0x02
  else if !(inRange target 1 4 && ok target && headerClean t) then 0x03
  else if f 8 2 ≠ (if target = 3 then 0x0004 else 0x03F4) then 0x04
  else if hubTarget target && !inRange 0x001 (f 10 1) (f 11 1) then 0x05
  else if !lengthOk target (payloadLen t) then 0x06
  else if !keyAdmits o (f 30 1) (imageKey t) then 0x07
  else if !ecdsaVerify (imageKey t) (sha256 (signedHeader t)) (tblBytes 0xFF t 128 64) then 0x08
  else if hubTarget target && decide (imageVersion t < versionFloor o) then 0x09
  else 0

/-- Version of the running firmware as one number. -/
def runVersion (s : State) : Nat := fwVersion s

/-- Steps 1 to 11 (the early header check): the first that fails, or 0. Where no rig runs, in RECOVERY, step 11 has nothing
to judge. -/
def headerSteps (s : State) (ok : Nat → Bool) (t : Tbl Byte) : Nat :=
  let r := imageSteps s.rnd.otp ok t
  let target := imageTarget t
  if r ≠ 0 then r
  else if target = 2 ∧ imgField t 16 4 ≠ runVersion s then 0x0A
  else if hubTarget target && s.rig.loaded &&
      !inRange s.rig.running.schema (imgField t 26 1) (imgField t 27 1) then 0x0B
  else 0

/-- Step 12: the payload's SHA-256 equals HASH. -/
def hashOk (t : Tbl Byte) : Bool := decide (sha256 (payload t 0 (payloadLen t)) = tblBytes 0xFF t 32 32)

/-! ### Banks and store slots (R843, R846, R847, R887) -/

/-- A marker byte of the trailer. -/
def markByte (b : Bool) : Byte := if b then 0x5A else 0xFF

/-- A byte of a firmware bank: image, then 0xFF, then the trailer at 0x7FFC0 (Table - Bank trailer). -/
def bankByte (b : FwBank) (k : Nat) : Byte :=
  if k < 0x7FFC0 then tblGet 0xFF b.image k
  else
    (natLe 4 b.generation ++ natLe 4 b.complement ++ [markByte b.written, markByte (decide (1 ≤ b.trials)),
      markByte (decide (2 ≤ b.trials)), markByte (decide (3 ≤ b.trials)), markByte b.confirmed, markByte b.rejected,
      markByte b.fallbackSeen]).getD (k - 0x7FFC0) 0xFF

/-- A firmware bank is valid (R846). -/
def bankValid (o : Otp) (b : FwBank) : Bool :=
  b.written && !b.rejected && decide (b.complement = 0xFFFFFFFF - b.generation) &&
    decide (imageSteps o (fun t => decide (t = 1)) b.image = 0) && hashOk b.image

/-- The bank, by 0 for A and 1 for B. -/
def fwBank (s : State) (n : Nat) : FwBank := if n = 0 then s.upd.bankA else s.upd.bankB

/-- Valid under the OTP as it stands. -/
def fwValid (s : State) (n : Nat) : Bool := bankValid s.rnd.otp (fwBank s n)

/-- A bank is pending (R847, step 1). -/
def bankPending (s : State) (n : Nat) : Bool :=
  let b := fwBank s n
  let x := fwBank s (1 - n)
  fwValid s n && !b.confirmed && (!(fwValid s (1 - n) && x.confirmed) || decide (x.generation < b.generation))

/-- An image store slot, by 0 or 1. -/
def storeSlot (s : State) (n : Nat) : StoreSlot := if n = 0 then s.upd.store0 else s.upd.store1

/-- A store slot holds a valid satellite image (R841, R887). -/
def storeValid (s : State) (n : Nat) : Bool :=
  let x := storeSlot s n
  x.written && decide (imageSteps s.rnd.otp (fun t => decide (t = 3)) x.image = 0) && hashOk x.image

/-- Schemas that the running firmware reads, oldest and newest (R66): those of its image's header; schema 0x001 in RECOVERY,
where no firmware runs. -/
def schemaRange (s : State) : Nat × Nat :=
  if s.start.fw then (imgField (fwBank s s.upd.runBank).image 26 1, imgField (fwBank s s.upd.runBank).image 27 1) else (1, 1)

/-! ### Deltas (R845) -/

/-- `n` bytes of a firmware bank from `lo`. -/
def bankBytes (b : FwBank) (lo : Nat) : Nat → List Byte
  | 0 => []
  | n + 1 => bankByte b lo :: bankBytes b (lo + 1) n

/-- The output of a delta's operations, `n` operations at most; `none`: malformed. -/
def deltaOut (run : FwBank) : Nat → List Byte → Option (List Byte)
  | 0, _ => none
  | _, [] => none
  | n + 1, code :: l =>
    if code = 0x00 then (if l = [] then some [] else none)
    else if code = 0x01 then
      let off := leNat (l.take 3)
      let len := leNat (slice l 3 3)
      if l.length < 6 ∨ len = 0 ∨ 0x80000 < off + len then none
      else (deltaOut run n (l.drop 6)).map (fun out => bankBytes run off len ++ out)
    else if code = 0x02 then
      let len := leNat (l.take 2)
      if len = 0 ∨ 4096 < len ∨ l.length < 2 + len then none
      else (deltaOut run n (l.drop (2 + len))).map (fun out => slice l 2 len ++ out)
    else if code = 0x03 then
      let len := leNat (l.take 2)
      if l.length < 3 ∨ len = 0 ∨ 4096 < len then none
      else (deltaOut run n (l.drop 3)).map (fun out => List.replicate len (l.getD 2 0) ++ out)
    else none

/-- Bytes as an image, byte 0 first. -/
def imageOf (l : List Byte) : Tbl Byte :=
  (l.zipIdx.filter (fun e => decide (e.1 ≠ 0xFF))).map (fun e => (e.2, e.1))

/-- Step 13: the full image that a delta rebuilds, if its operations are well formed, end exactly at 1024 + LENGTH of the
header they rebuild, and that image passes steps 1 to 12 with the delta's VERSION. -/
def rebuild (s : State) (t : Tbl Byte) : Option (Tbl Byte) :=
  let ops := payload t 0 (payloadLen t)
  match deltaOut (fwBank s s.upd.runBank) ops.length ops with
  | none => none
  | some out =>
    let x := imageOf out
    if out.length = 1024 + payloadLen x ∧ headerSteps s (fun k => decide (k = 1)) x = 0 ∧ hashOk x = true ∧
        imageVersion x = imageVersion t then some x else none

/-! ### Rig images (R839, R840) -/

/-- The words of a rig payload: five bytes to four words (R43). -/
def unpackWords : Nat → List Byte → List Word
  | 0, _ => []
  | n + 1, l =>
    let v := leNat (l.take 5)
    [groupWord v 0, groupWord v 1, groupWord v 2, groupWord v 3] ++ unpackWords n (l.drop 5)

/-- The stream that a rig image carries. -/
def rigWords (t : Tbl Byte) : List Word := unpackWords (payloadLen t / 5) (payload t 0 (payloadLen t))

/-- Validation of a stream by the running firmware. -/
def checkRig (s : State) (avail : Nat) (fill : Word) (words : List Word) : RigCheck :=
  validateRig s.rnd.otp (schemaRange s).1 (schemaRange s).2 avail fill words

/-- A rig bank is valid (R63). -/
def rigBankValid (s : State) (b : RigBank) : Bool :=
  trailerOk b.generation b.complement && decide ((checkRig s rigMax 0x3FF b.words).reason = 0)

/-- The rig bank, by 0 for A and 1 for B. -/
def rigBank (s : State) (n : Nat) : RigBank := if n = 0 then s.rig.bankA else s.rig.bankB

end Machine
end Sys2Proof
end

