-- ==== Sys2Proof/Machine/Loads.lean ====
section
/-!
DEFINITION. What the lift ledger reads off the state (18): costs, node loads and limits, activation counts, the ballast
check, the endurance forecast. All in mW and ticks, every division rounded up where R635 says so.
-/
namespace Sys2Proof
namespace Machine

/-- ⌈a / b⌉. -/
def ceilDiv (a b : Nat) : Nat := (a + b - 1) / b

/-- ⌈1.25 x m⌉ (R636, R641). -/
def quarterUp (m : Nat) : Nat := ceilDiv (5 * m) 4

/-- Measured power m of a slot: the highest of its last readings, none before the first (R637). -/
def measured (l : LdgSlot) : Nat := l.readings.foldl max 0

/-- The declared cost that counts: of the reservation where there is one (R642), else SLOT.COST. -/
def declaredCost (s : State) (id : Nat) : Nat :=
  if (ldgGet s id).res ≠ 0 then (ldgGet s id).res else (rigSlot s id).cost

/-- Effective cost c of a slot (R636). -/
def effCost (s : State) (id : Nat) : Nat := max (declaredCost s id) (quarterUp (measured (ldgGet s id)))

/-- TETHER.EFFICIENCY of a tether. -/
def efficiency (s : State) (t : Nat) : Nat := (((rigTether s t).map (fun r => r.efficiency)).getD 80)

/-- Cost of `c` mW at the input of a satellite on tether `t` (R639). -/
def inputCost (s : State) (t c : Nat) : Nat := ceilDiv (c * 100) (efficiency s t)

/-- Base of a satellite by its state (R640). -/
def satBase : SatState → Nat
  | .asleep => 20
  | .absent => 0
  | _ => 150

/-- Declared positions, in position order. -/
def positions (s : State) : List Nat := (s.rig.running.sats.filter (fun e => e.2.isSome)).map (fun e => e.1)

/-- Declared positions of a tether. -/
def tetherPositions (s : State) (t : Nat) : List Nat := (positions s).filter (fun p => decide (posTether p = t))

/-- Slot identifiers of a position. -/
def slotsOf (pos : Nat) : List Nat := [slotOf pos 0, slotOf pos 1, slotOf pos 2, slotOf pos 3]

/-- Every declared slot: local slots, then the satellites' in position order. -/
def allSlots (s : State) : List Nat := [0, 1, 2, 3] ++ ((positions s).map slotsOf).flatten

/-- Sum of a list. -/
def sumNat (l : List Nat) : Nat := l.foldl (fun a b => a + b) 0

/-- An admitted SAT_UPDATE of the position (R643's table: held until the satellite leaves UPDATING). -/
def updateReserved (s : State) (pos : Nat) : Bool :=
  s.ord.orders.any (fun o => decide (o.opcode = 0x12) && decide (slotPos o.slot = pos) &&
    (decide (o.stage = .admitted) || decide (o.stage = .dispatched)))

/-- Demand of a satellite's reserved operations: 130 mW for a wake, 100 mW for an update (Table - Operations). -/
def opsDemand (s : State) (pos : Nat) : Nat :=
  (if (viewGet s pos).waking then 130 else 0) + (if updateReserved s pos then 100 else 0)

/-- Input-side cost of a slot's reservation, 0 without one; `drop` leaves out slots it names. -/
def slotInput (s : State) (drop : Nat → Bool) (id : Nat) : Nat :=
  if (ldgGet s id).res = 0 ∨ drop id = true then 0 else inputCost s (posTether (slotPos id)) (effCost s id)

/-- D of R641 without the slots that `drop` names. -/
def satDeclared (s : State) (drop : Nat → Bool) (pos : Nat) : Nat :=
  satBase (viewGet s pos).state + sumNat ((slotsOf pos).map (slotInput s drop)) + opsDemand s pos

/-- P of R641 in mW, 0 where there is no reading. -/
def satPower (s : State) (pos : Nat) : Nat :=
  let w := (viewGet s pos).power
  if w = 0x3FF then 0 else if w = 0x3FE then 10210 else 10 * w

/-- Load of a satellite (R641). -/
def satLoad (s : State) (pos : Nat) : Nat := max (satDeclared s (fun _ => false) pos) (quarterUp (satPower s pos))

/-- Load of a satellite with slots removed for a forecast or a relief: what their input-side costs add is taken off its
load. -/
def satLoadLess (s : State) (drop : Nat → Bool) (pos : Nat) : Nat :=
  satLoad s pos - (satDeclared s (fun _ => false) pos - satDeclared s drop pos)

/-- Load of a tether (Table - Ledger nodes). -/
def tetherLoadLess (s : State) (drop : Nat → Bool) (t : Nat) : Nat :=
  sumNat ((tetherPositions s t).map (satLoadLess s drop))

/-- Load of a tether. -/
def tetherLoad (s : State) (t : Nat) : Nat := tetherLoadLess s (fun _ => false) t

/-- Cost of a local slot at the global node (R639). -/
def localCost (s : State) (drop : Nat → Bool) (id : Nat) : Nat :=
  if (ldgGet s id).res = 0 ∨ drop id = true then 0 else effCost s id

/-- Global load, without the slots that `drop` names. -/
def globalLoadLess (s : State) (drop : Nat → Bool) : Nat :=
  sumNat ([0, 1, 2, 3].map (tetherLoadLess s drop)) + sumNat ([0, 1, 2, 3].map (localCost s drop))

/-- Global load. -/
def globalLoad (s : State) : Nat := globalLoadLess s (fun _ => false)

/-- Limits in mW (Table - Ledger nodes). -/
def satLimit (s : State) (pos : Nat) : Nat := 10 * (((rigSat s pos).map (fun r => r.lift)).getD 0)

/-- Limit of a tether. -/
def tetherLimit (s : State) (t : Nat) : Nat := 100 * (((rigTether s t).map (fun r => r.lift)).getD 0)

/-- Global limit by the source (R651), 100 mW units. -/
def globalLift (s : State) : Nat :=
  if s.ldg.battery then s.rig.running.ledger.liftBatt else s.rig.running.ledger.liftMains

/-- Activations at a satellite (R643). -/
def satActs (s : State) (pos : Nat) : Nat := ((slotsOf pos).filter (fun id => (ldgGet s id).activating)).length

/-- Activations on a tether (R643). -/
def tetherActs (s : State) (t : Nat) : Nat := sumNat ((tetherPositions s t).map (satActs s))

/-- The ballast check of a satellite (R649). -/
def ballastOk (s : State) (pos : Nat) : Bool :=
  let h := (viewGet s pos).hold
  decide (h < 0x3FE) && decide (100 * (((rigSat s pos).map (fun r => r.ballastMin)).getD 120) ≤ 64 * h)

/-- Slots of PRIO below `k` are shed under level k (R652); DISABLED slots carry nothing. -/
def belowLevel (s : State) (k : Nat) (id : Nat) : Bool :=
  decide ((rigSlot s id).prio < k) && decide ((rigSlot s id).prio < 3)

/-- Global load L(k) of R659. -/
def loadAt (s : State) (k : Nat) : Nat := globalLoadLess s (belowLevel s k)

/-- Ticks per hour. -/
def hourTicks : Nat := 3600 * 800000000

/-- mW x ticks in 0.1 Wh. -/
def tenthWh : Nat := 100 * hourTicks

/-- Ticks on battery in the present time on battery (R659, LDG_BATTH). -/
def battTicks (s : State) : Nat := if s.ldg.battery then s.sys.tick - s.ldg.sourceSince else 0

/-- Ticks of alarm state on battery (R659). -/
def alarmBattTicks (s : State) : Nat :=
  if s.ldg.battery then
    s.ldg.alarmTicks + (if s.sys.alarm then s.sys.tick - max s.ldg.alarmSince s.ldg.sourceSince else 0)
  else 0

/-- P_s(k) in mW (R659). -/
def powerStandby (s : State) (k : Nat) : Nat := loadAt s k + 1000 * s.ldg.xstby

/-- ASLEEP satellites. -/
def asleepCount (s : State) : Nat :=
  ((positions s).filter (fun p => decide ((viewGet s p).state = .asleep))).length

/-- P_a(k) in mW (R659). -/
def powerAlarm (s : State) (k : Nat) : Nat := loadAt s k + 130 * asleepCount s + 1000 * s.ldg.xalm

/-- S of R659 in ticks. -/
def standbyTicks (s : State) : Nat :=
  if s.sys.alarm then 0 else s.rig.running.ledger.standbyH * hourTicks - battTicks s

/-- A of R659 in ticks. -/
def alarmNeedTicks (s : State) : Nat := s.rig.running.ledger.alarmMin * (hourTicks / 60) - alarmBattTicks s

/-- E_req(k) in mW x ticks (R659). -/
def energyReq (s : State) (k : Nat) : Nat :=
  powerStandby s k * standbyTicks s + powerAlarm s k * alarmNeedTicks s

/-- BATTERY or ALARM is the plan in force with the energy taken from LDG_BATTREM (R660): ALARM, or BATTERY. -/
def onRemaining (s : State) : Bool := s.sys.alarm || s.ldg.battery

/-- E in mW x ticks (R660). -/
def energyHave (s : State) : Nat :=
  if onRemaining s then s.ldg.battRem * tenthWh - s.ldg.battFrac else s.rig.running.ledger.battWh * 10 * tenthWh

/-- LDG_FCAST (R663, R665). -/
def fcast (s : State) (k : Nat) : Nat :=
  if s.rig.running.ledger.battWh = 0 then 0x3FF
  else
    let need := powerAlarm s k * alarmNeedTicks s
    let e := energyHave s
    if e < need then 0
    else if powerStandby s k = 0 then 0x3FE
    else min 0x3FE ((e - need) / powerStandby s k * 10 / hourTicks)

/-- Whole Wh of mW x ticks, rounded down. -/
def whDown (x : Int) : Int := x / (10 * tenthWh : Nat)

/-- LDG_MARGIN: E − E_req(k) in Wh, saturating (LDG registers); without a forecast (R663) it keeps its reset value. -/
def marginWh (s : State) (k : Nat) : Int :=
  if s.rig.running.ledger.battWh = 0 then 0
  else max (-511) (min 511 (whDown ((energyHave s : Int) - (energyReq s k : Int))))

/-- LDG_STAT as a number (Table - LDG_STAT fields). -/
def ldgStat (s : State) : Nat :=
  bit s.ldg.battery + 2 * bit s.ldg.alarmPlan + 4 * s.ldg.shedLevel + 16 * bit s.ldg.short + 32 * bit s.ldg.overLift +
    64 * bit s.ldg.declared

/-- Slots marked shed (LDG_SHEDCNT). -/
def shedCount (s : State) : Nat := (s.ldg.slots.filter (fun e => e.2.shed)).length

end Machine
end Sys2Proof
end

