-- ==== Sys2Proof/Machine/RailOps.lean ====
section
/-!
DEFINITION. The rail sequencer's own moves (06): which rails a step holds, the rising program, the reverse shutdown, trims.
What they mean for the hub state stands in Machine/Rails.lean.
-/
namespace Sys2Proof
namespace Machine

/-- The RAIL record of a channel, if the running rig declares it (R169). -/
def rigRail (s : State) (n : Nat) : Option RailRec := tblGet none s.rig.running.rails n

/-- ENn is driven high. -/
def railEn (s : State) (n : Nat) : Bool := s.pins.en.getLsbD n

/-- The rail channels. -/
def railNos : List Nat := [0, 1, 2, 3, 4, 5, 6, 7]

/-- Step group of a channel; a channel that is on without a record counts in step 0. -/
def railStep (s : State) (n : Nat) : Nat := ((rigRail s n).map (fun r => r.step)).getD 0

/-- Drive ENn. -/
def setEn (n : Nat) (on : Bool) (s : State) : State :=
  { s with pins := { s.pins with en := if on then s.pins.en ||| (1#8 <<< n) else s.pins.en &&& ~~~(1#8 <<< n) } }

/-- Declared channels. -/
def declaredRails (s : State) : List Nat := railNos.filter (fun n => (rigRail s n).isSome)

/-- Smallest of a list of numbers. -/
def minNat (l : List Nat) : Option Nat := l.foldl (fun a n => some (match a with | none => n | some m => min m n)) none

/-- Largest of a list of numbers. -/
def maxNat (l : List Nat) : Option Nat := l.foldl (fun a n => some (match a with | none => n | some m => max m n)) none

/-- The lowest step with a declared rail that is not yet good (R171, R172). -/
def nextRiseStep (s : State) : Option Nat :=
  minNat (((declaredRails s).filter (fun n => decide ((railGet s n).state ≠ 4))).map (railStep s))

/-- A reading lies within the rail's good limits; 0x3FE and 0x3FF never do (R186). -/
def railWithin (r : RailRec) (v : Nat) : Bool :=
  decide (r.goodMin ≤ v) && decide (v ≤ r.goodMax) && decide (v < 0x3FE)

/-- Start of a rising program (R171, R175): rails on without a record are switched off; rails found on are confirmed with
their window from now, the others wait. A restart after a power failure keeps the rails already good (R159). -/
def startRising (restart : Bool) (s : State) : State :=
  let s := (railNos.reverse).foldl (fun s n =>
    if railEn s n && (rigRail s n).isNone then modRail n (fun r => { r with state := 0, good := false }) (setEn n false s)
    else s) s
  let s := (declaredRails s).foldl (fun s n =>
    modRail n (fun r =>
      if restart && decide (r.state = 4) then r
      else if railEn s n then { r with state := 3, confirm := true, count := 0, good := false }
      else { r with state := 2, confirm := false, count := 0, good := false }) s) s
  { s with rls := { s.rls with rising := true, aborted := false, done := false, step := (nextRiseStep s).getD 0 } }

/-- Every declared rail is good. -/
def allGood (s : State) : Bool := (declaredRails s).all (fun n => decide ((railGet s n).state = 4))

/-- The highest step with a rail still enabled. -/
def topStep (s : State) : Option Nat := maxNat ((railNos.filter (railEn s)).map (railStep s))

/-- Disable the highest enabled step group (R177); with none left the shutdown is at its end, and PFW_N's WARN source goes
(R193). A rail that has failed keeps its record in RLS_RAILn (R190). -/
def lowerTop (s : State) : State :=
  match topStep s with
  | none => { s with rls := { s.rls with falling := false, pfwWarn := false } }
  | some k =>
    let s := (railNos.filter (fun n => railEn s n && decide (railStep s n = k))).foldl (fun s n =>
      modRail n (fun r => { r with state := if r.state = 5 then 5 else 6, good := false, lowering := true })
        (setEn n false s)) s
    { s with rls := { s.rls with step := k } }

/-- Start of a reverse shutdown (R177, R179): rails that waited to be raised are off. -/
def startShutdown (s : State) : State :=
  lowerTop { s with rls := { s.rls with
    rising := false, warning := false, falling := true, done := false
    rails := s.rls.rails.map (fun r => { r with state := if r.state = 2 then 1 else r.state, lowering := false }) } }

/-- The step group just disabled is off: its rails read OFF, but for one that has failed (R190). -/
def stepDown (s : State) : State :=
  railNos.foldl (fun s n => modRail n (fun r => { r with
    state := if r.state = 6 then (if (rigRail s n).isNone then 0 else 1) else r.state, lowering := false }) s) s

/-- The trim current applied, in 0.5 µA steps, positive where it is sourced. -/
def trimValue (mag : Nat) (sink : Bool) : Int := if sink then -(mag : Int) else mag

/-- Put a rail's trim. TRMn is at high impedance at 0 (R197). -/
def setTrim (n : Nat) (v : Int) (s : State) : State :=
  let s := modRail n (fun r => { r with trimMag := v.natAbs, trimSink := decide (v < 0) }) s
  { s with pins := { s.pins with
      trmZ := if v = 0 then s.pins.trmZ ||| (1#8 <<< n) else s.pins.trmZ &&& ~~~(1#8 <<< n) } }

/-- Ramp trims back to 0: those that the port owns, or all (R199). -/
def rampTrims (who : Option Port) (s : State) : State :=
  { s with rls := { s.rls with rails := s.rls.rails.map (fun r =>
      if who.isNone || decide (r.trimPort = who) then { r with targetMag := 0, targetSink := false, ramping := true }
      else r) } }

/-- Some trim has not reached its target, or its last step is not judged yet. -/
def trimBusy (s : State) : Bool :=
  s.rls.rails.toList.any (fun r => decide (trimValue r.trimMag r.trimSink ≠ trimValue r.targetMag r.targetSink) ||
    decide (r.trimLast ≠ 0))

end Machine
end Sys2Proof
end

