-- ==== Sys2Proof/Machine/Words.lean ====
section
/-!
DEFINITION. Status words that more than one reader needs (the register space and the power-fail snapshot), the snapshot's
words (Table - Snapshot words), and the bytes of event records and snapshots (Table - Event record, Table - Snapshot
header).
-/
namespace Sys2Proof
namespace Machine

/-- SYS_STATE (Table - SYS_STATE fields). -/
def sysStateWord (s : State) : Nat := hubCode s.sys.state + 16 * bit s.sys.trial

/-- SYS_PWR (Table - SYS_PWR fields). -/
def sysPwrWord (s : State) : Nat :=
  bit s.sup.pf + 2 * bit s.sup.holdPath + 4 * bit (holdOk s) + 8 * bit (pfrArmed s) + 16 * bit s.sup.pfrBusy +
    32 * bit s.sup.pfrDone + 64 * bit s.sup.vsl5Ok + 128 * bit s.sup.checking

/-- RLS_STAT (Table - RLS_STAT fields). -/
def rlsStatWord (s : State) : Nat :=
  s.rls.step + 8 * bit s.rls.rising + 16 * bit s.rls.falling + 32 * bit s.rls.warning + 64 * bit s.rls.aborted +
    128 * bit s.rls.done

/-- RLS_LOCK (Table - RLS_LOCK fields). -/
def rlsLockWord (s : State) : Nat := bit s.rls.locked + 2 * s.rls.lockCause + 8 * s.rls.lockRail

/-- RLS_RAILn (Table - RLS_RAILn fields): a running rail whose trim is not 0 reads MARGINED. -/
def rlsRailWord (s : State) (n : Nat) : Nat :=
  let r := railGet s n
  let st := if r.state = 4 ∧ r.trimMag ≠ 0 then 7 else r.state
  bit (railEn s n) + 2 * bit r.good + 4 * st + 32 * r.count

/-- SAT_STATE of a position (Table - SAT_STATE fields); 15 where it is not declared. -/
def satStateWord (s : State) (pos : Nat) : Nat :=
  match rigSat s pos with
  | none => 15
  | some r =>
    let v := viewGet s pos
    satCode v.state + 16 * bit v.prov + 32 * bit r.pinned + 64 * bit v.lockK + 128 * bit v.folded + 256 * bit v.ballast

/-- The state that a slot identifier shows: a local slot's own, a satellite slot's as reported (R501, R502). -/
def slotStateAt (s : State) (id : Nat) : SlotState :=
  if isLocal id then (slotGet s id).st
  else if (rigSlot s id).kind = .disabled then .disabled
  else (slotViewGet s id).st

/-- LDG_LOADG (LDG registers): 100 mW units, 0x3FE from 102.2 W. -/
def ldgLoadWord (s : State) : Nat := min 0x3FE (ceilDiv (globalLoad s) 100)

/-- A channel of the hub's converter. -/
def chanGet (s : State) (k : Nat) : Channel := tblGet {} s.mea.channels k

/-- One word of a sweep buffer in the layout of R694: words 0 to 2, then 20 words for each position of each tether. -/
def sweepWord (b : SweepBuf) (k : Nat) : Word :=
  if k = 0 then toWord b.num else if k = 1 then toWord b.stat else if k = 2 then toWord b.miss
  else
    let j := k - 3
    let pos := j / 20 / 63 * 64 + j / 20 % 63 + 1
    match tblGet none b.rows pos with
    | none => 0x3FF
    | some l => l.getD (j % 20) 0x3FF

/-- Four bits of a slot's state in a snapshot: 0xF for an identifier that is reserved or undeclared. -/
def snapSlot (s : State) (id : Nat) : Nat := if declaredSlot s id then slotCode (slotStateAt s id) else 15

/-- The words of a snapshot that show the rails and their lock. -/
def snapshotRails (s : State) : List Word :=
  railNos.map (fun n => toWord (rlsRailWord s n)) ++ railNos.map (fun n => toWord (railGet s n).sns) ++
    [toWord (rlsStatWord s), toWord (rlsLockWord s)]

/-- The 6496 words of a power-fail snapshot (Table - Snapshot words). -/
def snapshotWords (s : State) : List Word :=
  (List.range 5043).map (sweepWord s.mea.latest) ++
  (List.range 24).map (fun k => if k = 0x0F then 0x3FF else toWord (chanGet s k).last) ++
  (List.range 512).map (fun i => toWord (snapSlot s (2 * i) + 16 * snapSlot s (2 * i + 1))) ++
  (List.range 252).map (fun i => toWord (satStateWord s (i / 63 * 64 + i % 63 + 1))) ++
  snapshotRails s ++ [toWord (sysStateWord s)] ++
  allBlks.map (fun b => (bankGet s.fb b).fst) ++
  [toWord (ldgStat s), toWord (ldgLoadWord s), groupWord s.ldg.battRem 0, groupWord s.ldg.battRem 1,
    toWord (sysPwrWord s), toWord s.sup.holde] ++
  List.replicate 621 0

/-- Bytes of a snapshot (Table - Snapshot header): the words packed from byte 64, the CRC-32 of bytes 8 to 8183. -/
def snapshotBytes (x : Snapshot) : List Byte :=
  let body := [0x10, 0x01] ++ natLe 4 x.seq ++ natLe 8 x.tick ++ natLe 3 x.boot ++ natLe 2 x.site ++
    List.replicate 37 0 ++ packWords 1624 x.words
  [0x5C, 0x9E, 0x0F, 0xD3, 0x3A, 0xC5, 0x3A, 0xC5] ++ body ++ natLe 4 (crc32 body) ++ [0, 0, 0, 0]

/-- Widths in bytes of a record type's payload fields (Table - Event types, R878). -/
def payloadWidths : Nat → List Nat
  | 1 => [1, 1, 1, 1, 1, 2]
  | 2 => [1, 2, 1]
  | 3 => [2, 2, 2, 2, 2, 2, 2, 2]
  | 4 => [2, 2, 2]
  | 5 => [1, 1, 2, 2, 1]
  | 6 => [2, 2, 2]
  | 7 => [1, 1]
  | 8 => [2, 2, 2, 2]
  | 9 => [2, 1, 1, 2]
  | _ => [1, 1, 4, 1, 2]

/-- Bytes of an event record (Table - Event record). -/
def recordBytes (r : LogRec) : List Byte :=
  let pay := (List.zipWith natLe (payloadWidths r.type) r.payload).flatten
  let body := [0xC7, byte r.type] ++ natLe 4 r.seq ++ natLe 8 r.tick ++ natLe 3 r.boot ++ natLe 2 r.site ++
    [byte (hubCode r.state + 16 * bit r.trial)] ++ pay ++ List.replicate (232 - pay.length) 0
  body ++ natLe 4 (crc32 body)

end Machine
end Sys2Proof
end

