-- ==== Sys2Proof/Machine/Ledger.lean ====
section
/-!
DEFINITION. The lift ledger's acts (18): admission at stage 10, relief of over-lift, shedding, the endurance forecast, the
decision that joins them, and the host's writes.
-/
namespace Sys2Proof
namespace Machine

/-! ### Admission (R643 to R650) -/

/-- What an order asks of the ledger. -/
structure Demand where
  /-- mW on top of the satellite's load (satellite targets), of its tether's and of the global load. -/
  sat : Nat := 0
  tether : Nat := 0
  glob : Nat := 0
  /-- The slot whose activation it is. -/
  slot : Option Nat := none
  deriving DecidableEq, Repr

/-- The demand of an opcode on a slot or satellite (Table - Operations and their demand); `none` where it asks nothing. -/
def demandOf (s : State) (opcode id : Nat) : Option Demand :=
  let t := posTether (slotPos id)
  if opcode = 0x01 ∨ opcode = 0x09 then
    let c := if (ldgGet s id).res = 0 then (rigSlot s id).cost else 0
    if isLocal id then some { glob := c, slot := some id }
    else some { sat := inputCost s t c, tether := inputCost s t c, glob := inputCost s t c, slot := some id }
  else if opcode = 0x02 then some { slot := some id }
  else if opcode = 0x10 then some { sat := 130, tether := 130, glob := 130 }
  else if opcode = 0x12 then some { sat := 100, tether := 100, glob := 100 }
  else none

/-- Bases alone of a tether, and of all (R645). -/
def tetherBases (s : State) (t : Nat) : Nat := sumNat ((tetherPositions s t).map (fun p => satBase (viewGet s p).state))

/-- Global limit in mW. -/
def globalLimit (s : State) : Nat := 100 * globalLift s

/-- A demand that no node state could carry: with the bases alone some node of its path would be over (R645). -/
def neverFits (s : State) (id : Nat) (d : Demand) : Bool :=
  let pos := slotPos id
  let t := posTether pos
  decide (globalLimit s < sumNat ([0, 1, 2, 3].map (tetherBases s)) + d.glob) ||
    (!isLocal id && (decide (satLimit s pos < satBase (viewGet s pos).state + d.sat) ||
      decide (tetherLimit s t < tetherBases s t + d.tether)))

/-- Every node on the path can take the demand (R644). -/
def nodesFit (s : State) (id : Nat) (d : Demand) : Bool :=
  let pos := slotPos id
  let t := posTether pos
  decide (globalLoad s + d.glob ≤ globalLimit s) &&
    (isLocal id || (decide (satLoad s pos + d.sat ≤ satLimit s pos) &&
      decide (tetherLoad s t + d.tether ≤ tetherLimit s t)))

/-- The activation caps of a satellite slot (R643); an activation that counts already asks for no place. -/
def capsFit (s : State) (id : Nat) : Bool :=
  let pos := slotPos id
  let t := posTether pos
  isLocal id || (ldgGet s id).activating ||
    (decide (satActs s pos < ((rigSat s pos).map (fun r => r.actMax)).getD 1) &&
      decide (tetherActs s t < ((rigTether s t).map (fun r => r.actMax)).getD 4))

/-- A slot is shed under the plan in force: marked at the last shed decision, which marks the slots below the level too (R652,
R655). A live change of SLOT.PRIO bites at the next decision (R59). -/
def isShed (s : State) (id : Nat) : Bool := (ldgGet s id).shed

/-- Answers of stage 10. -/
inductive Admission where
  | grant
  | wait
  | refuse
  /-- NO_LIFT for want of ballast (R650). -/
  | noBallast
  deriving DecidableEq, Repr

/-- Stage 10 of an order (R644 to R646, R649, R650). -/
def judgeLift (s : State) (opcode id : Nat) : Admission :=
  match demandOf s opcode id with
  | none => .grant
  | some d =>
    match d.slot with
    | none => if neverFits s id d then .refuse else if nodesFit s id d then .grant else .wait
    | some k =>
      if isShed s k || neverFits s k d then .refuse
      else if !isLocal k && !ballastOk s (slotPos k) then
        if (viewGet s (slotPos k)).zfst.getLsbD 4 then .noBallast else .wait
      else if nodesFit s k d && capsFit s k then .grant else .wait

/-- Take the lift of an admitted order (R642, R643). -/
def takeLift (opcode id : Nat) (s : State) : State :=
  if opcode = 0x01 ∨ opcode = 0x09 then
    let c := (rigSlot s id).cost
    let n := s.ldg.nextAdmit
    let s := modLdg id (fun l => if l.res = 0 then { l with res := c, admitted := n, activating := true }
      else { l with activating := true }) s
    { s with ldg := { s.ldg with nextAdmit := n + 1 } }
  else if opcode = 0x02 then modLdg id (fun l => { l with activating := true }) s
  else if opcode = 0x10 then modView (slotPos id) (fun v => { v with waking := true }) s
  else s

/-- A slot reached READY: it no longer counts as an activation (R643). -/
def activationDone (id : Nat) (s : State) : State := modLdg id (fun l => { l with activating := false }) s

/-! ### Relief and shedding (R654 to R658) -/

/-- Insert by a key, smaller first. -/
def insertBy (key : Nat → Nat) (x : Nat) : List Nat → List Nat
  | [] => [x]
  | y :: l => if key x ≤ key y then x :: y :: l else y :: insertBy key x l

/-- Sort by a key. -/
def sortBy (key : Nat → Nat) (l : List Nat) : List Nat := l.foldr (insertBy key) []

/-- Slots that may be shed, in the order of R655: lowest priority first, within it the most recently admitted first. -/
def reliefOrder (s : State) (ids : List Nat) : List Nat :=
  sortBy (fun id => (rigSlot s id).prio * 2 ^ 64 + (2 ^ 63 - (ldgGet s id).admitted))
    (ids.filter (fun id => decide ((ldgGet s id).res ≠ 0) && decide ((rigSlot s id).prio < 3)))

/-- Mark slots from the list until the load without the marked ones is within what `ok` accepts. -/
def reliefMarks (ok : (Nat → Bool) → Bool) : List Nat → List Nat → List Nat
  | [], marks => marks
  | id :: rest, marks =>
    if ok (fun x => marks.contains x) then marks
    else reliefMarks ok rest (if marks.contains id then marks else marks ++ [id])

/-- Nodes of the tree below which slots are relieved, satellites first, then tethers, then the global node (R655): slots
below, and whether the load without some slots is within the limit. -/
def nodesOf (s : State) : List (List Nat × ((Nat → Bool) → Bool)) :=
  (positions s).map (fun p => (slotsOf p, fun drop => decide (satLoadLess s drop p ≤ satLimit s p))) ++
  [0, 1, 2, 3].map (fun t => (((tetherPositions s t).map slotsOf).flatten,
    fun drop => decide (tetherLoadLess s drop t ≤ tetherLimit s t) || (rigTether s t).isNone)) ++
  [(allSlots s, fun drop => decide (globalLoadLess s drop ≤ globalLimit s))]

/-- Marks of a relief over every node, and whether some node stays over with only PRIO 3 slots left (R656). -/
def reliefAll (s : State) : List (List Nat × ((Nat → Bool) → Bool)) → List Nat → Bool → List Nat × Bool
  | [], marks, tooMuch => (marks, tooMuch)
  | (ids, ok) :: rest, marks, tooMuch =>
    let marks := reliefMarks ok (reliefOrder s ids) marks
    reliefAll s rest marks (tooMuch || !ok (fun x => marks.contains x))

/-- Enter a shed deactivation into the slot's sequence (R657). -/
def enterShed (id : Nat) (s : State) : State :=
  let o : Order := { id := s.ord.nextId, port := .a, opcode := 0x03, prio := 0, slot := id, tag := 0, length := 0,
                     parcel1 := 0x3FF, parcel2 := 0x3FF, timeout := 0, param := 0, pushTick := s.sys.tick,
                     past8 := true, internal := true }
  { s with ord := { s.ord with orders := s.ord.orders ++ [o], nextId := s.ord.nextId + 1 } }

/-- Put the marks: a slot newly shed that holds a reservation gets its deactivation (R655, R657); answers also whether some
slot is newly shed. -/
def putMarks (before : Nat → Bool) (marks : List Nat) (s : State) : State × Bool :=
  let new := (allSlots s).filter (fun id => (marks.contains id || belowLevel s s.ldg.shedLevel id) && !before id)
  let s := (allSlots s).foldl (fun s id =>
    modLdg id (fun l => { l with shed := marks.contains id || belowLevel s s.ldg.shedLevel id }) s) s
  let s := (new.filter (fun id => decide ((ldgGet s id).res ≠ 0))).foldl (fun s id => enterShed id s) s
  (s, decide (new ≠ []))

/-! ### The forecast (R659 to R663, R665) -/

/-- Lowest level from `k` on whose need the energy meets. -/
def levelFrom (s : State) (k : Nat) : Option Nat :=
  ([0, 1, 2, 3].filter (fun j => decide (k ≤ j) && decide (energyReq s j ≤ energyHave s))).head?

/-- The level and SHORT by the forecast. -/
def forecastLevel (s : State) : Nat × Bool :=
  if s.rig.running.ledger.battWh = 0 then (0, false)
  else if s.sys.alarm || s.ldg.battery then
    let k := s.ldg.shedLevel
    if energyReq s k ≤ energyHave s then
      let low := ([0, 1, 2, 3].filter (fun j => decide (j < k) &&
        decide (11 * energyReq s j ≤ 10 * energyHave s))).head?
      (low.getD k, false)
    else
      match levelFrom s 0 with
      | some j => (max j k, false)
      | none => (3, true)
  else (0, decide (s.rig.running.ledger.battWh * 10 * tenthWh < energyReq s 3))

/-- The LEDGER record (Table - Event types). -/
def queueLedger (s : State) : State := queueRec 6 [ldgStat s, shedCount s, s.ldg.battRem] s

/-- Slots whose reading has exceeded their cost (MEAS_HIGH). -/
def measHighs (s : State) : List Nat := (s.ldg.slots.filter (fun e => e.2.measHigh)).map (fun e => e.1)

/-- A ledger decision (R655): the level by forecast, then relief of over-lift; a change of plan or level is recorded. Its
faults, and those of the same tick that `ks` names, are one event per class (R741; Table - LDG fault sources). -/
def decideWith (ks : List Nat) (s : State) : State :=
  let before := isShed s
  let was := (s.ldg.alarmPlan, s.ldg.shedLevel, s.ldg.battery)
  let over0 := s.ldg.overLift
  let (k, short) := forecastLevel s
  let newShort := short && !s.ldg.short
  let s := { s with ldg := { s.ldg with shedLevel := k, short := short, alarmPlan := s.sys.alarm,
                                        lastDecision := s.sys.tick } }
  let nodes := nodesOf s
  let kept := (allSlots s).filter (fun id => (ldgGet s id).shed && !belowLevel s k id &&
    nodes.any (fun n => n.1.contains id && !n.2 (fun _ => false)))
  let (marks, tooMuch) := reliefAll s nodes (kept ++ (allSlots s).filter (belowLevel s k)) false
  let (s, shed) := putMarks before marks s
  let s := { s with ldg := { s.ldg with overLift := tooMuch, fcast := fcast s k, margin := marginWh s k } }
  let s := raiseMany .ldg ((if tooMuch && !over0 then [0] else []) ++ (if shed then [1] else []) ++
    (if newShort then [2] else []) ++ ks) s
  if k ≠ was.2.1 ∨ s.ldg.alarmPlan ≠ was.1 then queueLedger s else s

/-- A decision with no other fault of the ledger at its tick. -/
def decide18 (s : State) : State := decideWith [] s

/-- R654: in ALARM an activation of a PRIO 3 slot that does not fit marks lower slots on each node until it would fit. -/
def alarmRelief (id : Nat) (s : State) : State :=
  match demandOf s 0x01 id with
  | none => s
  | some d =>
    if s.sys.alarm && decide ((rigSlot s id).prio = 3) && !nodesFit s id d then
      let before := isShed s
      let pos := slotPos id
      let t := posTether pos
      let nodes : List (List Nat × ((Nat → Bool) → Bool)) :=
        (if isLocal id then [] else
          [(slotsOf pos, fun drop => decide (satLoadLess s drop pos + d.sat ≤ satLimit s pos)),
           (((tetherPositions s t).map slotsOf).flatten,
             fun drop => decide (tetherLoadLess s drop t + d.tether ≤ tetherLimit s t))]) ++
        [(allSlots s, fun drop => decide (globalLoadLess s drop + d.glob ≤ globalLimit s))]
      let (marks, _) := reliefAll s nodes ((allSlots s).filter (fun i => (ldgGet s i).shed)) false
      let (s, shed) := putMarks before marks s
      raiseMany .ldg (if shed then [1] else []) s
    else s

/-! ### At a sweep publication (R636 to R638, R664) -/

/-- mW of a VCC and a current reading: 8 mV and 0.4 mA codes (R637); `none` where either is no reading; a saturated current
counts as TRIP x nominal voltage (R638). -/
def readingPower (trip nominal vcc icc : Nat) : Option Nat :=
  if vcc = 0x3FF ∨ icc = 0x3FF then none
  else if icc = 0x3FE then some (ceilDiv (trip * nominal) 1000)
  else some (ceilDiv (vcc * 8 * icc * 4) 10000)

/-- Nominal supply of a class in mV; an SD slot's is 3.3 V. -/
def nominalMv (kind : SlotKind) (cls : Nat) : Nat :=
  if kind = .sd then 3300 else if cls = 1 then 5000 else if cls = 2 then 3000 else 1800

/-- One power reading of a slot that holds a reservation (R637), and whether 1.25 m exceeds COST. -/
def addReading (id : Nat) (m : Option Nat) (s : State) : State :=
  match m with
  | none => s
  | some v =>
    let l := ldgGet s id
    if l.res = 0 then s
    else
      let l' := { l with readings := (v :: l.readings).take 8 }
      let high := decide ((rigSlot s id).cost < quarterUp (measured l'))
      modLdg id (fun _ => { l' with measHigh := l.measHigh || high }) s

/-- LDG_BATTREM at a sweep publication on battery: the load over the sweep period is taken off (R664). -/
def drainBattery (s : State) : State :=
  if s.ldg.battery then
    let p := loadAt s s.ldg.shedLevel + 1000 * (if s.sys.alarm then s.ldg.xalm else s.ldg.xstby)
    let used := s.ldg.battFrac + p * (s.mea.sweepMs * 800000)
    let steps := used / tenthWh
    if s.ldg.battRem ≤ steps then { s with ldg := { s.ldg with battRem := 0, battFrac := 0 } }
    else { s with ldg := { s.ldg with battRem := s.ldg.battRem - steps, battFrac := used % tenthWh } }
  else s

/-- While on mains and unwritten, LDG_BATTREM follows BATT_WH x 10 (R664). -/
def followBattery (s : State) : State :=
  if !s.ldg.battery && !s.ldg.battWritten then
    { s with ldg := { s.ldg with battRem := s.rig.running.ledger.battWh * 10, battFrac := 0 } }
  else s

/-! ### Host writes (R651, R664, R666) -/

/-- LDG_SOURCE (R651): a change of the source is a plan change, and starts a decision (R655). -/
def writeSource (battery : Bool) (s : State) : State :=
  if s.ldg.battery = battery then s
  else
    let s := { s with ldg := { s.ldg with battery := battery, sourceSince := s.sys.tick, alarmTicks := 0,
                                          battFrac := 0, battWritten := s.ldg.battWritten && battery } }
    let k := s.ldg.shedLevel
    let s := decide18 (followBattery s)
    if s.ldg.shedLevel = k then queueLedger s else s

/-- LDG_BATTREM (R664): a measured value from the host. -/
def writeBattRem (v : Nat) (s : State) : State :=
  { s with ldg := { s.ldg with battRem := v, battFrac := 0, battWritten := true } }

/-- The alarm state began or ended, seen by the ledger: the alarm time on battery is counted (R659), and the plan changes
(R655). -/
def alarmLedger (on : Bool) (s : State) : State :=
  let l := s.ldg
  let s := if on then { s with ldg := { l with alarmSince := s.sys.tick } }
    else if l.battery then
      { s with ldg := { l with alarmTicks := l.alarmTicks + (s.sys.tick - max l.alarmSince l.sourceSince) } }
    else s
  decide18 s

end Machine
end Sys2Proof
end

