-- ==== Sys2Proof/Machine/SatHub.lean ====
section
/-!
DEFINITION. The hub's side of a satellite that more than one family needs (12, 13): commands one at a time under the
toggle, the withdrawal of orders at a state change, the loss of a satellite.
-/
namespace Sys2Proof
namespace Machine

/-- Opcodes without a slot: NONCE and NONCE_FILL. -/
def isNonce (op : Nat) : Bool := decide (op = 0x0D) || decide (op = 0x0E)

/-- Opcodes that name a satellite: SAT_SLEEP, SAT_WAKE, SAT_RAIL, SAT_UPDATE. -/
def isSatOp (op : Nat) : Bool := decide (0x0F ≤ op) && decide (op ≤ 0x12)

/-- The order names the satellite or one of its slots. -/
def namesPos (o : Order) (pos : Nat) : Bool :=
  !isNonce o.opcode && decide (4 ≤ o.slot) && decide (slotPos o.slot = pos)

/-- The frame of a command leaves an end with the present H. -/
def putCmd (pos : Nat) (e : RingEnd) (c : HubCmd) (s : State) : State :=
  hubSend (posTether pos) e (hubFrame pos (viewGet s pos).toggleH 1 (byte c.code :: c.args)) s

/-- Start the next queued command when none is outstanding: H inverts for each new CMD (R402). -/
def nextCmd (pos : Nat) (s : State) : State :=
  let v := viewGet s pos
  match v.out, v.queue with
  | none, c :: rest =>
    putCmd pos v.path c (modView pos (fun v => { v with out := some c, queue := rest, toggleH := !v.toggleH }) s)
  | _, _ => s

/-- Queue a command for a satellite. -/
def sendCmd (pos : Nat) (c : HubCmd) (s : State) : State :=
  nextCmd pos (modView pos (fun v => { v with queue := v.queue ++ [c] }) s)

/-- Commands of an order that has ended are no longer sent; one that is outstanding is still resent (R403). -/
def dropCmds (oid : Nat) (v : SatView) : SatView := { v with queue := v.queue.filter (fun c => decide (c.order ≠ oid)) }

/-- Give back what an order took at stage 10 and did not use: it ends undispatched (R643). -/
def undoLift (o : Order) (s : State) : State :=
  if o.stage = .admitted then
    if o.opcode = 0x01 ∨ o.opcode = 0x09 then releaseLift o.slot s
    else if o.opcode = 0x02 then activationDone o.slot s
    else if o.opcode = 0x10 then modView (slotPos o.slot) (fun v => { v with waking := false }) s
    else s
  else s

/-- End an order without execution: WITHDRAWN, TIMEOUT_QUEUE, SAT_LOST and the like, LENGTH 0. -/
def cutOrder (o : Order) (code : Nat) (s : State) : State :=
  let s := undoLift o s
  let s := if namesPos o (slotPos o.slot) then modView (slotPos o.slot) (dropCmds o.id) s else s
  endOrder o code 0 s

/-- R36: orders to the satellite that have passed stage 8 return `code`; `keepUpd` keeps the SAT_UPDATE that causes the
change (R874). -/
def cutSatOrders (pos code : Nat) (keepUpd : Bool) (s : State) : State :=
  (s.ord.orders.filter (fun o => namesPos o pos && o.past8 &&
    !(keepUpd && decide (o.opcode = 0x12) && decide (o.stage = .dispatched)))).foldl (fun s o => cutOrder o code s) s

/-- The hub shows all four slots of a satellite in one state. -/
def showSlots (pos : Nat) (st : SlotState) (s : State) : State :=
  (slotsOf pos).foldl (fun s id => modSlotView id (fun v => { v with st := st }) s) s

/-- A host command in progress at the satellite ends without an answer. -/
def endSatCmd (v : SatView) : SatView :=
  { v with cmdSt := if v.cmdSt = 1 then 3 else v.cmdSt }

/-- What the hub forgets with a satellite that it can no longer command: outstanding and queued commands, a wake, a trace
fetch, a turn at raising module rails. -/
def forgetSat (pos : Nat) (s : State) : State :=
  let s := modView pos (fun v => endSatCmd { v with
    out := none, queue := [], waking := false, wakes := 0, setup := 0, assigning := false, provQuery := false, t1 := none
    t4 := none }) s
  let t := posTether pos
  let turn := s.rls.raiseTurn
  let turn := if turn.toList.getD t 0 = posNo pos then turn.setIfInBounds t 0 else turn
  let s := { s with rls := { s.rls with raiseTurn := turn } }
  let s := modTether t (fun x => { x with
    walk := x.walk.map (fun w => if w.current = some pos then { w with current := none } else w) }) s
  let s := if s.sat.trFetching && decide (slotPos s.sat.trSlot = pos) then
      { s with sat := { s.sat with trFetching := false } } else s
  if s.upd.satPos = 4 * pos then { s with upd := { s.upd with satPos := 0x3FF, satPhase := 0 } } else s

/-- TTH_BRKAn or TTH_BRKBn as a number. -/
def brkWord (seg pairs : Nat) : Nat := seg + 128 * pairs

/-- The TETHER record (Table - Event types): kind 0 wrap, 1 heal, 2 double break, 3 satellite LOST. -/
def queueTether (t kind pos : Nat) (s : State) : State :=
  let x := tetherGet s t
  queueRec 5 [t, kind, brkWord x.brkA x.brkAPairs, brkWord x.brkB x.brkBPairs, pos] s

/-- The store slot that a SAT_UPDATE to the satellite names, by its running order. -/
def updImage (s : State) (pos : Nat) : StoreSlot :=
  match s.ord.orders.find? (fun o => decide (o.opcode = 0x12) && decide (slotPos o.slot = pos) && decide (o.stage = .dispatched)) with
  | some o => if bitAt o.param 0 then s.upd.store1 else s.upd.store0
  | none => {}

/-- The UPDATE record of a satellite's update: kind 5 updated, 6 failed (R878). -/
def queueSatUpdate (pos kind : Nat) (s : State) : State :=
  queueRec 0x0A [kind, 3, imageVersion (updImage s pos).image, 0, 4 * pos] s

/-- A satellite update that runs ends without success: UPD SAT_FAIL. -/
def updFails (pos : Nat) (s : State) : State :=
  if s.upd.satPos = 4 * pos then
    raise .upd 3 (queueSatUpdate pos 6 { s with upd := { s.upd with satPos := 0x3FF, satPhase := 0 } })
  else s

/-- The position counts as one that can become LOST. -/
def canLose (s : State) (pos : Nat) : Bool :=
  (rigSat s pos).isSome && decide ((viewGet s pos).state ≠ .lost) && decide ((viewGet s pos).state ≠ .absent)

/-- A satellite becomes LOST, but for its fault: its slots read UNREACHABLE, its orders return SAT_LOST at that tick (R36),
and the loss is recorded. -/
def showLost (pos : Nat) (s : State) : State :=
  let tick := s.sys.tick
  let s := forgetSat pos (updFails pos s)
  let s := modView pos (fun v => { v with state := .lost, lostAt := tick }) s
  let s := queueTether (posTether pos) 3 (posNo pos) s
  cutSatOrders pos 0x082 false (showSlots pos .unreachable s)

/-- Satellites become LOST at one tick (R403, R421, R462, R751): TTH SAT_LOST is one event with the sources `ks` of the same
tick (R741). -/
def satsLost (ks ps : List Nat) (s : State) : State :=
  let l := ps.filter (canLose s)
  raiseMany .tth (ks ++ (if l = [] then [] else [6])) (l.foldl (fun s p => showLost p s) s)

/-- One satellite becomes LOST. -/
def satLost (pos : Nat) (s : State) : State := satsLost [] [pos] s

/-- Two bytes of an argument, least significant first. -/
def arg2 (n : Nat) : List Byte := natLe 2 n

/-- SET_SAT for a position from the running rig (Table - CMD codes). -/
def setSatCmd (s : State) (pos : Nat) : HubCmd :=
  let r := (rigSat s pos).getD {}
  let t := (rigTether s (posTether pos)).getD {}
  let a := s.rig.running.activation
  let frx := fun (i : Nat) (d : Nat) => match tblGet none s.rig.running.react (0x20 * 8 + i) with
    | some w => w.toNat
    | none => d
  { code := 0x01,
    args := arg2 t.silence ++ [byte (bit r.grail0 + 2 * bit r.grail1)] ++ arg2 r.gap ++ arg2 r.win ++ arg2 r.min0 ++
      arg2 r.min1 ++ arg2 r.ballastMin ++ arg2 a.vccWin ++ [byte a.clkDelay] ++ arg2 a.rstClks ++ arg2 a.atrMax ++
      arg2 a.div ++ arg2 a.sdDiv ++ arg2 (frx 0 0x049) ++ arg2 (frx 1 0x288) ++ arg2 (frx 2 0x3B6) }

/-- SET_SLOT for one slot (Table - CMD codes). -/
def setSlotCmd (s : State) (id : Nat) : HubCmd :=
  let r := rigSlot s id
  { code := 0x02, args := [byte (id % 4), byte (kindCode r.kind), byte r.classes, byte r.order] ++ arg2 r.trip ++
      [byte r.wp] }

/-- SET_SAT and the four SET_SLOT of a satellite's configuration (R455), then IDENT: its result follows the SLOT results of
the cards present, so that they have been taken when it comes (R503). -/
def sendSetup (pos : Nat) (s : State) : State :=
  let c := setSatCmd s pos
  let l := (slotsOf pos).map (setSlotCmd s)
  (c :: l ++ [({ code := 0x0C, args := [] } : HubCmd)]).foldl (fun s c => sendCmd pos c s)
    (modView pos (fun v => { v with setup := 5 }) s)

end Machine
end Sys2Proof
end

