-- ==== Sys2Proof/Machine/Orders.lean ====
section
/-!
DEFINITION. The order engine (11): pushing, the stages of an order, dispatch, cancellation, returns and parcels.
-/
namespace Sys2Proof
namespace Machine

/-- What a stage answers. -/
inductive Verdict where
  | pass
  | wait
  /-- The order ends with a status code. -/
  | ends (code : Nat)
  deriving DecidableEq, Repr

/-- The slot's protocol words as the hub holds them: a local slot's own, a satellite slot's from its results. -/
def chAt (s : State) (id : Nat) : Chars := if isLocal id then (slotGet s id).ch else (slotViewGet s id).ch

/-- The slot's error detection code has two bytes. -/
def crcAt (s : State) (id : Nat) : Bool := if isLocal id then (slotGet s id).tr.crc else (slotViewGet s id).crc

/-- The slot itself behind a slot identifier: a satellite slot is found by the position its satellite was given. -/
def slotSeat (s : State) (id : Nat) : Option Slot :=
  if isLocal id then some (slotGet s id)
  else
    (s.sat.sats.find? (fun e => decide (e.1 / 64 = slotPos id / 64) && decide (e.2.position = posNo (slotPos id)))).map
      (fun e => slotGet s (4 * e.1 + id % 4))

/-- The slot's write-protect tab reads set (R615): L0_WP, or Sn_AUX2 of a ZG4 slot of kind SD; L1 to L3 have none. -/
def wpAt (s : State) (id : Nat) : Bool :=
  decide ((rigSlot s id).kind = .sd) && (decide (id = 0) || !isLocal id) &&
    ((slotSeat s id).map (fun x => x.wpTab)).getD false

/-- The CSD read at initialisation has write protection set (R616). -/
def csdProtects (s : State) (id : Nat) : Bool := ((slotSeat s id).map (fun x => x.sd.csdWp)).getD false

/-- Parcels an opcode takes: least and most (Table - Opcodes). -/
def parcelRange (op : Nat) : Nat × Nat :=
  match op with
  | 0x01 | 0x02 | 0x04 | 0x05 | 0x0E => (1, 2)
  | 0x0A | 0x0B => (2, 2)
  | 0x0C | 0x0D => (1, 1)
  | _ => (0, 0)

/-- LENGTH an opcode takes: least and most (Table - Opcodes). -/
def lengthRange (op : Nat) : Nat × Nat :=
  match op with
  | 0x04 => (4, 1023)
  | 0x05 => (4, 258)
  | 0x0A => (4, 4)
  | 0x0B => (516, 516)
  | 0x0E => (1, 1023)
  | _ => (0, 0)

/-- Case of a T=0 command: 1 case 1, 2 2S, 3 3S, 4 4S, 5 none of these (Table - Command cases). -/
def t0Case (len b5 : Nat) : Nat :=
  if len = 4 then 1 else if len = 5 then 2 else if b5 ≠ 0 ∧ len = 5 + b5 then 3
  else if b5 ≠ 0 ∧ len = 6 + b5 then 4 else 5

/-- Stage 2: the opcode is defined. -/
def opcodeDefined (op : Nat) : Bool := decide (1 ≤ op) && decide (op ≤ 0x13)

/-- Stage 3 (R344): slot identifiers. -/
def slotBad (s : State) (o : Order) : Bool :=
  if isNonce o.opcode then false
  else if isSatOp o.opcode then
    decide (o.slot % 4 ≠ 0) || decide (posNo (slotPos o.slot) = 0) || (rigSat s (slotPos o.slot)).isNone
  else
    (decide (o.opcode = 0x13) && decide (o.slot ≠ 0)) || !declaredSlot s o.slot ||
      decide ((rigSlot s o.slot).kind = .disabled)

/-- Stage 4: the opcode suits the slot's kind. -/
def kindSuits (s : State) (o : Order) : Bool :=
  let k := (rigSlot s o.slot).kind
  if isNonce o.opcode || isSatOp o.opcode || decide (o.opcode = 0x03) then true
  else if o.opcode = 0x13 ∨ (0x09 ≤ o.opcode ∧ o.opcode ≤ 0x0C) then decide (k = .sd)
  else decide (k = .iso)

/-- Slots an order names for sequence and claims (R348, R314). -/
def orderSlots (o : Order) : List Nat :=
  if isNonce o.opcode then [] else if isSatOp o.opcode then slotsOf (slotPos o.slot) else [o.slot]

/-- Stage 5 (R314): some slot named is claimed by the other port. -/
def heldByOther (s : State) (o : Order) : Bool :=
  (orderSlots o).any (fun id => decide (claimOf s id = some o.port.other))

/-- How many parcels an order names. -/
def parcelCount (o : Order) : Nat := bit (decide (o.parcel1 ≠ 0x3FF)) + bit (decide (o.parcel2 ≠ 0x3FF))

/-- Stage 6, parcels (R345). -/
def parcelsBad (s : State) (o : Order) : Bool :=
  let named := [o.parcel1, o.parcel2].filter (fun n => decide (n ≠ 0x3FF))
  named.any (fun n => decide (512 ≤ n)) ||
    (decide (o.parcel2 ≠ 0x3FF) && (decide (o.parcel1 = 0x3FF) || decide (o.parcel1 = o.parcel2))) ||
    named.any (fun n => decide ((parcelGet s n).owner ≠ some o.port)) ||
    named.any (fun n => s.ord.orders.any (fun x => decide (x.id ≠ o.id) && orderNames x n)) ||
    decide (parcelCount o < (parcelRange o.opcode).1) || decide ((parcelRange o.opcode).2 < parcelCount o)

/-- Stage 6, length (R345, R564). -/
def lengthBad (s : State) (o : Order) : Bool :=
  decide (o.length < (lengthRange o.opcode).1) || decide ((lengthRange o.opcode).2 < o.length) ||
    decide (512 * parcelCount o < o.length) ||
    (decide (o.opcode = 0x04) && decide ((chAt s o.slot).inForce = 1) &&
      decide (t0Case o.length (chainByte s o 4).toNat = 5))

/-- Outcome of stages 2 to 7 in order (R26): the first that fails. -/
def earlyStages (s : State) (o : Order) : Option Nat :=
  if !opcodeDefined o.opcode then some 0x010
  else if slotBad s o then some 0x011
  else if !kindSuits s o then some 0x010
  else if heldByOther s o then some 0x020
  else if parcelsBad s o then some 0x013
  else if lengthBad s o then some 0x012
  else if s.sys.alarm ∧ (o.opcode = 0x12 ∨ o.opcode = 0x13 ∨ o.opcode = 0x0F) then some 0x021
  else none

/-- Outcome of a state in which stage 8 does not let an order pass (Table - Satellite states). -/
def satOutcome : SatState → Verdict
  | .absent | .lost | .isolated => .ends 0x082
  | .enumerating => .wait
  | .active => .pass
  | .asleep | .updating | .recovery => .ends 0x014
  | .incompatible => .ends 0x083

/-- A transfer of a SAT_UPDATE to the satellite is running (R873). -/
def updRunning (s : State) (pos : Nat) : Bool :=
  s.ord.orders.any (fun o => decide (o.opcode = 0x12) && decide (slotPos o.slot = pos) && decide (o.stage = .dispatched))

/-- Stage 8 (R33, R461, R873). -/
def stage8 (s : State) (o : Order) : Verdict :=
  if isNonce o.opcode ∨ o.slot < 4 then .pass
  else
    let pos := slotPos o.slot
    let st := (viewGet s pos).state
    if o.opcode = 0x0F ∧ st = .asleep then .ends 0
    else if o.opcode = 0x10 ∧ st = .active then .ends 0
    else if o.opcode = 0x10 ∧ st = .asleep then .pass
    else if o.opcode = 0x12 then
      match st with
      | .active | .incompatible | .recovery => .pass
      | .updating => if updRunning s pos then .ends 0x014 else .pass
      | x => satOutcome x
    else satOutcome st

/-- Fi codes that name a number (Table - Fi and Di codes): 7, 8, 14 and 15 are reserved. -/
def fiOk (c : Nat) : Bool := decide (c < 7) || (decide (9 ≤ c) && decide (c < 14))

/-- Di codes that name a number: 0 and 10 to 15 are reserved. -/
def diOk (c : Nat) : Bool := decide (1 ≤ c) && decide (c < 10)

/-- R543: what a PPS order needs. -/
def ppsPasses (c : Chars) (param : Nat) : Bool :=
  !c.specific && c.ppsOpen && fiOk (field param 4 4) && diOk (field param 0 4) &&
    (if bitAt param 8 then c.offerT1 else c.offerT0)

/-- R551: the level asked is one the card permits. -/
def stopPasses (c : Chars) (param : Nat) : Bool := if bitAt param 0 then bitAt c.xi 1 else bitAt c.xi 0

/-- Length of the error detection code in force. -/
def edcLen (s : State) (id : Nat) : Nat := if crcAt s id then 2 else 1

/-- Stage 9 of SAT_UPDATE (R873). -/
def stage9Update (s : State) (o : Order) : Verdict :=
  let x := storeSlot s (field o.param 0 1)
  let pos := slotPos o.slot
  let b := fun k => (tblGet 0xFF x.image k).toNat
  let powered := (slotsOf pos).any (fun id =>
    match (slotViewGet s id).st with
    | .rising | .atr | .ready | .busy | .asleep => true
    | _ => false)
  if s.sys.trial || !storeValid s (field o.param 0 1) then .ends 0x014
  else if powered && !bitAt o.param 1 then .ends 0x014
  else if (viewGet s pos).hwver < b 10 ∨ b 11 < (viewGet s pos).hwver ∨ b 24 < s.sys.ringMin ∨ s.sys.ringMax < b 24 then
    .ends 0x083
  else .pass

/-- Stage 9 (R347, R510, R543, R551, R562, R585, R616, R863). -/
def stage9 (s : State) (o : Order) : Verdict :=
  let st := slotStateAt s o.slot
  let c := chAt s o.slot
  let no : Verdict := if st = .empty then .ends 0x040 else .ends 0x014
  match o.opcode with
  | 0x01 | 0x09 => if st = .present then .pass else no
  | 0x02 => if st = .ready then .pass else no
  | 0x04 => if st = .ready then (if c.inForce = 0 then .ends 0x014 else .pass) else no
  | 0x05 =>
    if st = .ready then
      if c.inForce ≠ 2 then .ends 0x014
      else if o.length ≠ 3 + (chainByte s o 2).toNat + edcLen s o.slot then .ends 0x012
      else .pass
    else no
  | 0x06 => if st = .ready then (if ppsPasses c o.param then .pass else .ends 0x014) else no
  | 0x07 => if st = .ready then (if stopPasses c o.param then .pass else .ends 0x014) else no
  | 0x08 => if st = .asleep then .pass else no
  | 0x03 =>
    match st with
    | .present => .ends 0
    | .ready | .asleep | .tripped => .pass
    | .falling => .wait
    | .empty => if o.progress = 1 then .ends 0 else .ends 0x040
    | _ => .ends 0x014
  | 0x0A | 0x0C => if st = .ready then .pass else no
  | 0x0B =>
    if st = .ready then
      if (wpAt s o.slot && decide ((rigSlot s o.slot).wp = 0)) || csdProtects s o.slot then .ends 0x04C else .pass
    else no
  | 0x11 =>
    let r := (rigSat s (slotPos o.slot)).getD {}
    if r.grail0 || r.grail1 then .pass else .ends 0x014
  | 0x12 => stage9Update s o
  | 0x13 => if st = .present ∨ st = .ready then .pass else no
  | _ => .pass

/-- A write whose block is done and that waits for its run to close (R613): the next write of the run follows it. -/
def inRun (s : State) (o : Order) : Bool := isLocal o.slot && (slotGet s o.slot).sd.runDone.contains o.id

/-- An earlier unreturned order names one of the order's slots (R348). -/
def blocked (s : State) (o : Order) : Bool :=
  s.ord.orders.any (fun x => decide (x.id < o.id) && (orderSlots x).any (fun id => (orderSlots o).contains id) &&
    !(inRun s x && decide (o.opcode = 0x0B)))

/-! ### Dispatch -/

/-- PUT commands for `data` at a slot's order buffer, at most 252 bytes each (R465). -/
def putCmds (oid slot off : Nat) : Nat → List Byte → List HubCmd
  | 0, _ => []
  | _, [] => []
  | n + 1, l =>
    { code := 0x03, args := [byte slot] ++ arg2 off ++ l.take 252, order := oid } ::
      putCmds oid slot (off + 252) n (l.drop 252)

/-- The parcel bytes that dispatch reads and in which a single-bit or a double-bit error stands. -/
def eccAt (s : State) (o : Order) (kind : Nat) : List (Nat × Nat) :=
  (List.range o.length).filterMap (fun i =>
    let n := if i < 512 then o.parcel1 else o.parcel2
    if tblGet 0 (parcelGet s n).ecc (i % 512) = kind then some (n, i % 512) else none)

/-- A corrected read writes the byte back (R369). -/
def eccHeal (l : List (Nat × Nat)) (s : State) : State :=
  l.foldl (fun s e => modParcel e.1 (fun q => { q with ecc := tblSet 0 q.ecc e.2 0 }) s) s

/-- Errors that arise in the bytes of parcels. -/
def upset (l : List Upset) (s : State) : State :=
  l.foldl (fun s u => if u.parcel < 512 ∧ u.at_ < 512 then
    modParcel u.parcel (fun q => { q with ecc := tblSet 0 q.ecc u.at_ (if u.double then 2 else 1) }) s else s) s

/-- The hub reads an order's bytes from its parcels: corrected bytes are written back, the events are raised, and a double-bit
error stops the order (R369). -/
def readChain (o : Order) (s : State) : State × Bool :=
  let bad := eccAt s o 2
  let fix := eccAt s o 1
  (raiseMany .pcl ((if fix = [] then [] else [0]) ++ (if bad = [] then [] else [1])) (eccHeal fix s), decide (bad = []))

/-- The 16-bit order id of ORDER, DONE and DATA: never 0. -/
def wireId (id : Nat) : Nat := id % 65535 + 1

/-- The update flow powers the card in L0 and reads it: contacts as of an SD card, UPDATING (R477, R491, R863, R867). -/
def updatePower (run : Option Running) (s : State) : State :=
  modSlot 0 (fun x => { x with
    st := .updating, fallTo := none, run := run, cls := 0, tripInForce := x.cfg.trip, slowSeen := false
    pins := { vccOn := true, rst := true, clkRun := true, ioLow := false, aux1 := true }, sd := {} }) s

/-- Stage 11: the engine of a local slot gets the order, or its commands are queued for the satellite (R352, R465, R500).
SAT_*, NONCE, NONCE_FILL and UPD_FETCH begin with their own rows. -/
def dispatchOrder (o : Order) (s : State) : State :=
  let (s, good) := readChain o s
  if !good then cutOrder { o with stage := .admitted } 0x013 s
  else if s.lko.ripped.contains o.slot && !isNonce o.opcode && !isSatOp o.opcode then
    cutOrder { o with stage := .admitted } 0x085 s
  else
    let tick := s.sys.tick
    let s := modOrder o.id (fun x => { x with stage := .dispatched, dispatchTick := tick }) s
    if isNonce o.opcode || isSatOp o.opcode then s
    else if o.opcode = 0x13 then
      let run : Running := { opcode := 0x13, param := o.param, length := o.length, oid := o.id, since := tick, begun := true }
      if (slotGet s 0).st = .ready then
        modSlot 0 (fun x => { x with st := .updating, fallTo := some .ready, run := some run }) s
      else if !s.sup.vsl5Ok then endOrderId o.id 0x044 0 s
      else updatePower (some run) s
    else if isLocal o.slot then
      modSlot o.slot (fun x => { x with
        run := some { opcode := o.opcode, param := o.param, length := o.length, oid := o.id, since := tick }
        ch := { x.ch with ppsOpen := x.ch.ppsOpen && decide (o.opcode = 0x03) } }) s
    else
      let pos := slotPos o.slot
      let n := o.slot % 4
      if o.opcode = 0x03 ∧ slotStateAt s o.slot = .tripped then
        sendCmd pos { code := 0x08, args := [byte n], order := o.id } s
      else
        let s := modSlotView o.slot (fun v => { v with
          ch := { v.ch with ppsOpen := v.ch.ppsOpen && decide (o.opcode = 0x03) } }) s
        let cmds := putCmds o.id n 0 5 (chainBytes s o 0 o.length) ++
          [{ code := 0x04, args := [byte n, byte o.opcode] ++ arg2 o.length ++ arg2 o.param ++ arg2 (wireId o.id),
             order := o.id }]
        cmds.foldl (fun s c => sendCmd pos c s) s

/-- Orders leave stage 11 in RUN, and not while a power failure is declared (R152). -/
def mayDispatch (s : State) : Bool := decide (s.sys.state = .run) && !s.sup.pf

/-- Stage 10 has let the order pass: its lift is taken, and it is dispatched where it may be. -/
def admitOrder (o : Order) (s : State) : State :=
  let s := modOrder o.id (fun x => { x with stage := .admitted }) (takeLift o.opcode o.slot s)
  if mayDispatch s then dispatchOrder o s else s

/-- A job of the update engine runs (R837): a host staging until its image is written or discarded, an UPD_FETCH, a
SAT_UPDATE, or the card flow of RECOVERY. -/
def jobRuns (s : State) : Bool :=
  inRange s.upd.phase 1 3 || s.ord.orders.any (fun o => (decide (o.opcode = 0x12) || decide (o.opcode = 0x13)) &&
    (decide (o.stage = .admitted) || decide (o.stage = .dispatched)))

/-- Stage 10 (R644 to R650, R654); nonce orders wait for their own rows. -/
def tryAdmit (o : Order) (s : State) : State :=
  let s := modOrder o.id (fun x => { x with stage := .waiting }) s
  if isNonce o.opcode then s
  else if (o.opcode = 0x12 ∧ s.sys.alarm = true) ∨ ((o.opcode = 0x12 ∨ o.opcode = 0x13) ∧ jobRuns s = true) then s
  else
    let s := if o.opcode = 0x01 ∨ o.opcode = 0x09 then alarmRelief o.slot s else s
    match judgeLift s o.opcode o.slot with
    | .grant => admitOrder o s
    | .wait => s
    | .refuse => cutOrder o 0x022 s
    | .noBallast => cutOrder o 0x022 (raise .ldg 4 s)

/-- Move a queued order on: stage 8, its turn at the slot, stages 9 and 10 (R26, R348). -/
def advance (o : Order) (s : State) : State :=
  match o.stage with
  | .queued =>
    match if o.past8 then Verdict.pass else stage8 s o with
    | .ends code => cutOrder o code s
    | .wait => s
    | .pass =>
      let s := modOrder o.id (fun x => { x with past8 := true }) s
      let o := { o with past8 := true }
      if blocked s o then s
      else
        match stage9 s o with
        | .ends code => cutOrder o code s
        | .wait => modOrder o.id (fun x => { x with progress := 1 }) s
        | .pass => tryAdmit o s
  | .admitted => if mayDispatch s then dispatchOrder o s else s
  | _ => s

/-- Orders held at stage 11 are dispatched in push order (R158). -/
def dispatchHeld (s : State) : State :=
  (s.ord.orders.filter (fun o => decide (o.stage = .admitted))).foldl (fun s o =>
    match orderGet s o.id with
    | some x => advance x s
    | none => s) s

/-! ### Pushing (R338 to R343, R356 to R359, R967) -/

/-- Occupied places: unreturned orders and unread returns of the port (R338); an internal order takes none. -/
def placesUsed (s : State) (p : Port) : Nat :=
  (s.ord.orders.filter (fun o => decide (o.port = p) && !o.internal && !o.discard)).length +
    (perPortGet s.ord.banks p).ring.length

/-- The port is absent (R320). -/
def isAbsent (s : State) (p : Port) : Bool := decide ((perPortGet s.ports p).presence = .absent)

/-- The order that the staging words spell. -/
def pushedOrder (s : State) (p : Port) : Order :=
  let d := fun k => (((perPortGet s.ord.banks p).desc).getD k 0).toNat
  { id := s.ord.nextId, port := p, opcode := field (d 0) 0 5, prio := field (d 0) 8 2, slot := d 1, tag := d 2,
    length := d 3, parcel1 := d 4, parcel2 := d 5,
    timeout := if d 6 = 0 then s.rig.running.site.ordTimeout else d 6, param := d 7, pushTick := s.sys.tick }

/-- An unreturned order of the port with the tag; tag 0 matches none. -/
def inFlight (s : State) (p : Port) (tag : Nat) : Option Order :=
  if tag = 0 then none
  else s.ord.orders.find? (fun o => decide (o.port = p) && decide (o.tag = tag) && !o.internal && !o.discard)

/-- The newest window entry of the port with the tag. -/
def inWindow (s : State) (p : Port) (tag : Nat) : Option Ret :=
  if tag = 0 then none else (perPortGet s.ord.banks p).window.find? (fun r => decide (r.tag = tag))

/-- Count a repeated push. -/
def countDup (p : Port) (s : State) : State := modBank p (fun b => { b with dupcnt := satInc b.dupcnt }) s

/-- Withdraw every undispatched order that `f` picks. -/
def withdrawAll (f : Order → Bool) (s : State) : State :=
  (s.ord.orders.filter (fun o => f o && decide (o.stage ≠ .dispatched))).foldl (fun s o => cutOrder o 0x080 s) s

/-- The BLOCK_RESET reaction of the ORD block (R372). -/
def ordReset (s : State) : State :=
  let s := withdrawAll (fun o => !o.internal) s
  let s := modBank .a (fun b => { b with desc := List.replicate 8 0 }) (modBank .b (fun b => { b with desc := List.replicate 8 0 }) s)
  setBank (.ord .a) { s.fb.ordA with resetting := true } (setBank (.ord .b) { s.fb.ordB with resetting := true } s)

/-- An order with an uncorrectable descriptor word: WITHDRAWN without a stage and outside the tag window; its TAG and SLOT
as read, 0 where themselves uncorrectable (R967). The event's reaction follows its code. -/
def descLost (p : Port) (o : Order) (single : Bool) (bad : BitVec 8) (s : State) : State :=
  let r : Ret := { tag := if bad.getLsbD 2 then 0 else o.tag, code := 0x080, length := 0,
                   slot := if bad.getLsbD 1 then 0 else o.slot }
  let c := codeOf (bankGet s.fb (.ord p)) 2
  let s := raiseMany (.ord p) ((if single then [1] else []) ++ [2]) (postRet p r s)
  if c = 3 ∧ s.sys.state ≠ .fatal then ordReset s else s

/-- A refused push (R342): ORD_REFUSE names the cause, PLACES_FULL is raised. -/
def refusePush (p : Port) (why : Nat) (s : State) : State :=
  raise (.ord p) 0 (modBank p (fun b => { b with refuse := why + 4 * p.bit }) s)

/-- Why a push is refused: 1 places full, 2 port absent, 0 not (R342). -/
def pushRefusal (s : State) (p : Port) : Nat :=
  if isAbsent s p then 2 else if 64 ≤ placesUsed s p then 1 else 0

/-- Stages 1 to 8, and what follows at once, of a pushed order. -/
def pushStages (p : Port) (o : Order) (s : State) : State :=
  match inFlight s p o.tag with
  | some x => countDup p (modOrder x.id (fun y => { y with seen := true }) s)
  | none =>
    match inWindow s p o.tag with
    | some r =>
      countDup p (postRet p { r with code := if r.code = 0 then 1 else r.code, seen := false, dup := true } s)
    | none =>
      let s := { s with ord := { s.ord with orders := s.ord.orders ++ [o], nextId := o.id + 1 } }
      match earlyStages s o with
      | some code => cutOrder o code s
      | none => advance o s

/-- A push that is not refused (R341, R31). -/
def pushOrder (p : Port) (eccSingle : Bool) (bad : BitVec 8) (s : State) : State :=
  let s := coreWake 0 s
  let o := pushedOrder s p
  if bad ≠ 0 then descLost p o eccSingle bad s
  else pushStages p o (if eccSingle then raise (.ord p) 1 s else s)

/-! ### The rows of this family -/

/-- ORDER_ADVANCE (R348): the first unreturned order at the slot moves on; `upsets` are errors that its dispatch finds. -/
def execOrderAdvance (slot : Nat) (upsets : List Upset) (s : State) : Res :=
  let s := upset upsets s
  match s.ord.orders.find? (fun o => (orderSlots o).contains slot && !inRun s o) with
  | some o => .next (advance o s)
  | none => .next s

/-- A higher-ranked waiting order that fits now stands before this one (R647: priority, then push order). -/
def outranked (s : State) (o : Order) : Bool :=
  s.ord.orders.any (fun x => decide (x.stage = .waiting) && !isNonce x.opcode &&
    (decide (o.prio < x.prio) || (decide (x.prio = o.prio) && decide (x.id < o.id))) &&
    decide (judgeLift s x.opcode x.slot = .grant))

/-- ORDER_ADMISSION (R644 to R648). -/
def execOrderAdmission (id : Nat) (upsets : List Upset) (s : State) : Res :=
  let s := upset upsets s
  match orderGet s id with
  | some o => .next (if o.stage = .waiting ∧ !outranked s o then tryAdmit o s else s)
  | none => .next s

/-- ORDER_QUEUE_TIMEOUT (R27, R351). -/
def execOrderQueueTimeout (id : Nat) (s : State) : Res :=
  match orderGet s id with
  | some o => .next (if o.stage ≠ .dispatched ∧ o.internal = false then cutOrder o 0x081 s else s)
  | none => .next s

/-- Unread returns stay from ORD_RTAIL to ORD_RHEAD; writing a value forward consumes (R354). -/
def rtailStep (b : OrdBank) (v : Nat) : Option Nat :=
  let n := (v + 128 - b.rtail) % 128
  if n ≤ b.ring.length then some n else none

/-- Consume `n` returns. -/
def consumeRets (p : Port) (n : Nat) (s : State) : State :=
  modBank p (fun b => { b with ring := b.ring.drop n, rtail := (b.rtail + n) % 128 }) s

/-- ORD_CANCEL (R371): a nonzero tag. -/
def cancelTag (p : Port) (tag : Nat) (s : State) : State :=
  match inFlight s p tag with
  | none => modBank p (fun b => { b with cancst := 3 }) s
  | some o =>
    if o.stage = .dispatched then modBank p (fun b => { b with cancst := 2 }) s
    else modBank p (fun b => { b with cancst := 1 }) (cutOrder o 0x080 s)

/-! ### Parcels (R360 to R370) -/

/-- The lowest-numbered free parcel. -/
def freeParcel (s : State) : Option Nat := (List.range 512).find? (fun n => decide ((parcelGet s n).owner = none))

/-- PCL_ALLOC (R360, R361, R381): index and state after. -/
def allocParcel (p : Port) (s : State) : Nat × State :=
  match freeParcel s with
  | none => (0x3FF, s)
  | some n => (n, modParcel n (fun _ => { owner := some p }) s)

/-- Why a release is refused: 1 not the owner, 2 named by an unreturned order; 0: it is not (R363). -/
def releaseRefusal (s : State) (p : Port) (n : Nat) : Nat :=
  if (parcelGet s n).owner = none then 0
  else if (parcelGet s n).owner ≠ some p then 1
  else if parcelNamed s n then 2 else 0

/-- Why a window write is refused: 3, or 0 (R364). -/
def pclWriteRefusal (s : State) (p : Port) (n : Nat) : Nat :=
  if (parcelGet s n).owner ≠ some p ∨ parcelNamed s n = true then 3 else 0

/-- Record a refusal in PCL_REFUSE. -/
def pclRefused (p : Port) (why : Nat) (s : State) : State :=
  { s with ord := { s.ord with pclRefuse := why, pclRefusePort := p } }

/-- A window write (R365): the byte, its fill and end mark. -/
def writeParcel (n off : Nat) (w : Word) (s : State) : State :=
  modParcel n (fun q => { q with
    bytes := tblSet 0 q.bytes off (w.setWidth 8)
    ecc := tblSet 0 q.ecc off 0
    fill := if w.getLsbD 9 then off + 1 else max q.fill (off + 1)
    last := w.getLsbD 9 || q.last }) s

/-- A window read's word (Table - Parcel window word, R369). -/
def parcelWord (q : Parcel) (off : Nat) : Word :=
  let last := q.last && decide (off + 1 = q.fill)
  if tblGet 0 q.ecc off = 2 then toWord (512 * bit last)
  else toWord ((tblGet 0 q.bytes off).toNat + 256 * bit (decide (off < q.fill)) + 512 * bit last)

/-- The events of reading byte `off` of a parcel (R369). -/
def readParcelEcc (n off : Nat) (s : State) : State :=
  let e := tblGet 0 (parcelGet s n).ecc off
  if e = 1 then raise .pcl 0 (eccHeal [(n, off)] s) else if e = 2 then raise .pcl 1 s else s

/-- Every parcel of a port becomes free, or waits for the order that names it (R370). -/
def freeParcels (p : Port) (s : State) : State :=
  (s.ord.parcels.filter (fun e => decide (e.2.owner = some p))).foldl (fun s e =>
    if parcelNamed s e.1 then modParcel e.1 (fun q => { q with freeLater := true }) s else parcelFree e.1 s) s

end Machine
end Sys2Proof
end

