-- ==== Sys2Proof/Machine/SlotOps.lean ====
section
/-!
DEFINITION. What the slot engines of the hub and of the ZG4 share (13, 14): results that a satellite sends, its character
traces, its own fault word, and the end of an order at a slot. A slot is named by its place; places 0 to 3 are the hub's.
-/
namespace Sys2Proof
namespace Machine

/-- The satellite to whose place a slot's place belongs. -/
def satOfSlot (k : Nat) : Nat := k / 4

/-- The places of a satellite's four slots. -/
def satSlots (sat : Nat) : List Nat := [4 * sat, 4 * sat + 1, 4 * sat + 2, 4 * sat + 3]

/-! ### Results -/

/-- A satellite sends one RESULT at a time and inverts S for each new one (R404); it needs a position to send from
(R397). -/
def nextResult (x : Sat) : Sat :=
  if x.position = 0 then x
  else match x.sending, x.results with
  | none, r :: rest => sendResult { x with sending := some r, results := rest, togS := !x.togS }
  | _, _ => x

/-- Queue a RESULT at a satellite. -/
def satResult (sat : Nat) (r : SatResult) (s : State) : State :=
  modSat sat (fun x => nextResult { x with results := x.results ++ [r] }) s

/-- Queue a RESULT ahead of any other not yet begun (R459). -/
def satResultFirst (sat : Nat) (r : SatResult) (s : State) : State :=
  modSat sat (fun x => nextResult { x with results := r :: x.results }) s

/-- A slot event wakes a satellite in ASLEEP, with WOKEN ahead of any other result (R459). -/
def satStir (sat : Nat) (s : State) : State :=
  if sat ≠ 0 ∧ (satGet s sat).cond = .asleep then
    satResultFirst sat { kind := 0x07 } (modSat sat (fun x => { x with cond := .running }) s)
  else s

/-! ### Traces (R463, R464) -/

/-- Add an entry to a trace at a satellite tick; a gap beyond 20 bits goes into a time-extension entry before it. A triggered
trace takes no more entries than are left to its 64. -/
def traceEntry (tick kind data : Nat) (t : Trace) : Trace :=
  if t.frozen || decide (t.remaining = some 0) then t
  else
    let gap := tick - t.lastTick
    let ext : List TraceEntry :=
      if 0xFFFFF < gap then [{ kind := 7, data := gap / 2 ^ 40 % 512, delta := gap / 2 ^ 20 % 2 ^ 20 }] else []
    let new := ext ++ [{ kind := kind, data := data, delta := gap % 2 ^ 20 }]
    let new := match t.remaining with
      | some n => new.take n
      | none => new
    let all := t.entries ++ new
    { t with entries := all.drop (all.length - 508), written := t.written + new.length, lastTick := tick,
             remaining := t.remaining.map (fun n => n - new.length) }

/-- Record one character event of a satellite slot; a satellite without lock, and the hub, record nothing. -/
def traceAdd (k kind data : Nat) (s : State) : State :=
  let x := satGet s (satOfSlot k)
  if isLocal k ∨ x.lock = .none then s
  else modSlot k (fun y => { y with trace := traceEntry x.tick kind data y.trace }) s

/-- Several entries in order. -/
def traceAll (k : Nat) (l : List (Nat × Nat)) (s : State) : State := l.foldl (fun s e => traceAdd k e.1 e.2 s) s

/-- Trigger a trace: it freezes after 64 further entries (R464); `cause` of Table - Trace header. -/
def traceTrigger (k cause : Nat) (s : State) : State :=
  if isLocal k then s
  else modSlot k (fun y =>
    if y.trace.frozen || y.trace.remaining.isSome then y
    else { y with trace := { y.trace with trigger := (y.trace.written - 1) % 508, cause := cause,
                                          remaining := some 64 } }) s

/-- Four bytes of an entry (Table - Trace entry). -/
def entryBytes (e : TraceEntry) : List Byte := natLe 4 (e.delta + e.data * 2 ^ 20 + e.kind * 2 ^ 29)

/-- The 2048 bytes of a slot's trace: header, then the ring of 508 entries by index. -/
def traceBytes (x : Slot) : List Byte :=
  let t := x.trace
  let o := if t.written ≤ 508 then 0 else t.written % 508
  let ring := t.entries.drop (508 - o) ++ t.entries.take (508 - o)
  natLe 8 t.anchor ++ natLe 2 (min t.written 0xFFFF) ++ natLe 2 o ++ natLe 2 t.trigger ++ [byte t.cause] ++
    [byte (kindCode x.cfg.kind + 4 * bit t.frozen)] ++ (ring.map entryBytes).flatten ++
    List.replicate (4 * (508 - ring.length)) 0

/-! ### The end of an order at a slot -/

/-- DONE and the DATA results that follow it (R465): at most 248, then 250 bytes each. -/
def dataResults (oid slot off : Nat) : Nat → List Byte → List SatResult
  | 0, _ => []
  | _, [] => []
  | n + 1, l =>
    { kind := 0x02, slot := slot, payload := arg2 oid ++ arg2 off ++ l.take 250 } ::
      dataResults oid slot (off + 250) n (l.drop 250)

/-- A satellite reports an order's outcome: OVERFLOW beyond 1024 bytes (R466). -/
def satDone (k : Nat) (r : Running) (code : Nat) (kept : List Byte) (full : Nat) (s : State) : State :=
  let st := if 1024 < full then 0x04B else code
  let data := kept.take 1024
  let done : SatResult := { kind := 0x01, slot := k % 4,
                            payload := arg2 r.oid ++ [byte st] ++ natLe 3 (min full 0xFFFFFF) ++ data.take 248 }
  let s := (done :: dataResults r.oid (k % 4) 248 4 (data.drop 248)).foldl (fun s x => satResult (satOfSlot k) x s) s
  let s := traceAdd k 6 (256 + st) s
  if 0x041 ≤ st ∧ st ≤ 0x04D then traceTrigger k 1 s else s

/-- The slot's order ends with a status and a response of `full` bytes of which `kept` stand: returned by the hub for a
local slot, reported in DONE and DATA by a satellite (R465, R562). -/
def endRun (k code : Nat) (kept : List Byte) (full : Nat) (s : State) : State :=
  match (slotGet s k).run with
  | none => s
  | some r =>
    let s := modSlot k (fun x => { x with run := none, x := {}, line := {} }) s
    if isLocal k then endOrderDataId r.oid code kept full s else satDone k r code kept full s

/-- The order ends and the slot is READY. -/
def endReady (k code : Nat) (kept : List Byte) (full : Nat) (s : State) : State :=
  endRun k code kept full (modSlot k (fun x => { x with st := .ready }) s)

/-- The order ends with normal deactivation: its return waits for the end of FALLING (R494, R969). -/
def endFall (k code : Nat) (s : State) : State :=
  traceAll k [(3, 7), (3, 8), (3, 9), (3, 10)] (fallNormal k code s)

/-- An order of one of the opcodes stands at the slot and has not begun. -/
def toBegin (s : State) (k : Nat) (ops : List Nat) : Option Running :=
  match (slotGet s k).run with
  | some r => if ops.contains r.opcode && !r.begun then some r else none
  | none => none

/-- The order's engine begins. -/
def begin_ (k : Nat) (s : State) : State :=
  let op := (((slotGet s k).run).map (fun r => r.opcode)).getD 0
  let tick := s.sys.tick
  traceAdd k 6 op (modSlot k (fun x => { x with run := x.run.map (fun r => { r with begun := true, beganAt := tick }) }) s)

/-- The bytes an order sends: the parcels' for a local slot, the order buffer's for a satellite slot (R366, R465). -/
def runBytes (s : State) (k : Nat) (r : Running) : List Byte :=
  if isLocal k then
    match orderGet s r.oid with
    | some o => chainBytes s o 0 r.length
    | none => []
  else tblBytes 0 (slotGet s k).buf 0 r.length

/-- The recorder takes an input of a local slot at this tick (R891). -/
def takeInput (k : Nat) (e : RecIn) (s : State) : State :=
  if isLocal k then modSlot k (fun x => { x with taken := x.taken ++ [e] }) s else s

/-- The bytes of an SD card, 32 at most in an entry (Table - Entry kinds). -/
def takeBytes (k : Nat) : Nat → List Byte → State → State
  | 0, _, s => s
  | n + 1, l, s =>
    if l = [] then s
    else takeBytes k n (l.drop 32)
      (takeInput k { kind := 8, sub := k, payload := byte (min 32 l.length) :: l.take 32 } s)

/-- The levels that I/O takes one after another, as the recorder's entries: one for each change. -/
def takeLevels (k : Nat) (high : Bool) : List Bool → State → State
  | [], s => s
  | b :: l, s =>
    takeLevels k b l (if b = high then s else takeInput k { kind := 7, sub := k + 4 * bit b, payload := [] } s)

/-- ACT_N of a ZG4, low while some slot's VCC is on (Table - ZG4 pins). -/
def actN (s : State) (sat : Nat) : Bool := !(satSlots sat).any (fun k => (slotGet s k).pins.vccOn)

/-- The DISABLED, EMPTY or PRESENT state by kind and DET. -/
def idleState (x : Slot) : SlotState :=
  if x.cfg.kind = .disabled then .disabled else if x.det then .present else .empty

/-! ### Fields a slot's session starts from -/

/-- The fields of the ACTIVATION record as they reach a slot: the hub's rig, or SET_SAT (R519). -/
def isoDivOf (s : State) (k : Nat) : Nat :=
  if isLocal k then s.rig.running.activation.div else (satGet s (satOfSlot k)).cfg.isoDiv

/-- SD_DIV. -/
def sdDivOf (s : State) (k : Nat) : Nat :=
  if isLocal k then s.rig.running.activation.sdDiv else (satGet s (satOfSlot k)).cfg.sdDiv

/-- F of an Fi code (Table - Fi and Di codes). -/
def fOf (c : Nat) : Nat := [372, 372, 558, 744, 1116, 1488, 1860, 372, 372, 512, 768, 1024, 1536, 2048].getD c 372

/-- D of a Di code. -/
def dOf (c : Nat) : Nat := [1, 1, 2, 4, 8, 16, 32, 64, 12, 20].getD c 1

/-- E = round(256 F N / D), halves up (R89). -/
def etuOf (fi di n : Nat) : Nat := (512 * fOf fi * n + dOf di) / (2 * dOf di)

/-- BWT in ticks (R577). -/
def bwtTicks (e bwi n : Nat) : Nat := 11 * e / 256 + 2 ^ bwi * 357120 * n

/-- Put codes or a divider in force: E and BWT follow (R517, R577). -/
def retime (fi di n : Nat) (x : Slot) : Slot :=
  let e := etuOf fi di n
  { x with ch := { x.ch with fi := fi, di := di, div := n, etu := e, renew := false }
           tr := { x.tr with bwt := min 0xFFFFF (bwtTicks e x.tr.bwi n / 80000) } }

/-- A start edge, sent or received: the E of a divider written since the last one takes effect (R517, R557). -/
def startEdge (x : Slot) : Slot := if x.ch.renew then retime x.ch.fi x.ch.di x.ch.div x else x

/-- Protocol words when the slot is off: reset values, the divider from the rig. -/
def chOff (s : State) (k : Nat) : Chars := { div := isoDivOf s k }

/-- Protocol words at a cold or warm reset: defaults in force at the ACTIVATION divider `n` (R516, R547). -/
def chStart (n : Nat) : Chars := { div := n, etu := etuOf 1 1 n, ppsOpen := true }

/-- A slot of a satellite can be powered while the satellite has its clock and its position (R93, R98, R447). -/
def satPowers (s : State) (k : Nat) : Bool :=
  isLocal k ||
    (decide ((satGet s (satOfSlot k)).cond = .running) && decide ((satGet s (satOfSlot k)).lock ≠ .none))

/-! ### The satellite's own faults (R755, R756, R771) -/

/-- Contained sources of a ZG4. -/
def satContained : BitVec 9 := 0x022

/-- An order that stands at a satellite slot without a session, and has not begun, ends with SAFE_STATE (R35, R98). -/
def dropSatRun (k : Nat) (s : State) : State :=
  match (slotGet s k).run with
  | some r =>
    if r.begun || inSession (slotGet s k) || decide ((slotGet s k).st = .falling) then s else endRun k 0x085 [] 0 s
  | none => s

/-- Emergency deactivation of slots of a satellite by its local ripcord. -/
def localRipcord (sat : Nat) (mask : Nat) (s : State) : State :=
  (satSlots sat).foldl (fun s k =>
    if bitAt mask (k % 4) then
      let s := traceAdd k 4 5 (dropSatRun k s)
      traceTrigger k 3 (fallSlot k 7 true false none (some 0x085) s)
    else s) s

/-- R448: a restart that is not a power-on deactivates every slot, keeps position, lock and module rails, sets both
toggles to 0 and reports RESTARTED; until it is configured again, FLT_N is asserted. -/
def satRestart (sat cause : Nat) (s : State) : State :=
  let s := (satSlots sat).foldl (fun s k => fallSlot k 7 true false none none (modSlot k (fun x => { x with run := none }) s)) s
  modSat sat (fun x => sendResult { x with
    setSat := false, setSlots := 0, lastH := false, cack := 0, togS := false, fltN := false,
    sending := some { kind := 0x06, payload := [byte cause] }, results := [], receiving := false, erasing := false,
    cond := match x.cond with
      | .running | .asleep | .loader => if x.imageState = 0 then .running else .loader
      | c => c }) s

/-- Report the own fault word. -/
def satFaultResult (sat : Nat) (s : State) : State :=
  satResult sat { kind := 0x0B, payload := arg2 (satGet s sat).fault.fst.toNat } s

/-- R454, R756: a fatal source ripcords every slot and restarts the satellite; its bit stays, and is reported behind
RESTARTED. -/
def satFatal (sat : Nat) (s : State) : State := satFaultResult sat (satRestart sat 3 (localRipcord sat 0xF s))

/-- Take the reaction of a code (Table - Reactions in a ZG4). -/
def satReact (sat code : Nat) (s : State) : State :=
  if code = 3 then localRipcord sat 0xF s
  else if code = 4 then satRestart sat 5 s
  else if 6 ≤ code then localRipcord sat 0xF (modSat sat (fun x => { x with fltN := false }) s)
  else s

/-- One event in a satellite's own fault word. -/
def satRaise (sat k : Nat) (s : State) : State :=
  let f := (satGet s sat).fault
  let set := fun (g : FaultBank) => modSat sat (fun x => { x with fault := g }) s
  if 6 ≤ k then satFatal sat (set (stickSet f (srcBit k)))
  else if satContained.getLsbD k then
    if uPend satContained f then satFatal sat (set (stickSet f (srcBit k)))
    else satReact sat (codeOf f k) (satFaultResult sat (set (stickSet f (srcBit k))))
  else
    satReact sat (codeOf f k) (satFaultResult sat (set (correctedEvent satContained f (srcBit k)).1))

end Machine
end Sys2Proof
end

