-- ==== Sys2Proof/Machine/Slots.lean ====
section
/-!
DEFINITION. Activating and deactivating cards (14): card detect, class trials, trips, the end of FALLING, the release of
TRIPPED.
-/
namespace Sys2Proof
namespace Machine

/-! ### Activation -/

/-- Class trial order: ORDER 0 C, B, A; 1 A, B, C (Table - SLOT body). -/
def trialOrder (order : Nat) : List Nat := if order = 0 then [3, 2, 1] else [1, 2, 3]

/-- Classes an ACTIVATE tries, in order (R485). -/
def classesToTry (c : SlotCfg) (param : Nat) : List Nat :=
  let m := if param = 0 then c.classes else Nat.land (field param 0 3) c.classes
  (trialOrder c.order).filter (fun k => bitAt m (k - 1))

/-- Switch VCC on for one class trial (R489 step 1; R511). -/
def trialOn (cls : Nat) (todo : List Nat) (anyAtr : Bool) (ch : Chars) (x : Slot) : Slot :=
  { x with st := .rising, cls := cls, tried := Nat.lor x.tried (2 ^ (cls - 1)), tripInForce := x.cfg.trip,
           pins := { vccOn := true }, act := some { todo := todo, anyAtr := anyAtr, div := ch.div }, ch := ch, tr := {},
           line := {} }

/-- Steps 2 to 4 of Table - Cold activation have passed, or the RST_CLKS cycles of a warm reset (R492): RST is high and the
slot awaits its ATR. They take no command of their own. -/
def riseToAtr (k : Nat) (s : State) : State :=
  let x := slotGet s k
  match x.st, x.act with
  | .rising, some a =>
    if x.cfg.kind = .iso ∧ a.waiting = false then
      traceAll k [(3, 4), (3, 5), (3, 6)] (modSlot k (fun x => { x with
        st := .atr, act := some { a with good := true }, line := { mode := .atr }
        pins := { vccOn := true, rst := true, clkRun := true, ioLow := false } }) s)
    else s
  | .atr, some a =>
    if a.warm && !x.pins.rst then traceAdd k 3 6 (modSlot k (fun x => { x with pins := { x.pins with rst := true } }) s)
    else s
  | _, _ => s

/-- VCC has been judged good and no deactivation has started, so the trips of R480 and R481 are judged (R481, R482). While
the slot is RISING the command says so, unless the state shows it. -/
def vccGood (x : Slot) (good : Bool) : Bool :=
  x.pins.vccOn && (decide (x.st ≠ .rising) || good || x.sd.polled)

/-- An activation ends without VCC having been switched on: the slot stays as it is, and what it reserved is released. -/
def endCold (k code : Nat) (s : State) : State := endRun k code [] 0 (if isLocal k then releaseLift k s else s)

/-- The supply of a local slot is unusable until VSL5 has risen above its rising threshold (R142). -/
def noSupply (s : State) (k : Nat) : Bool := isLocal k && !s.sup.vsl5Ok

/-- ACTIVATE (R485): with no class left CLASS_NONE returns, and without VSL5 VCC_FAIL (R142); VCC stays off. -/
def activateSlot (k : Nat) (r : Running) (s : State) : State :=
  if noSupply s k then endCold k 0x044 s
  else match classesToTry (slotGet s k).cfg r.param with
  | [] => endCold k 0x047 s
  | c :: rest =>
    let ch := chStart (isoDivOf s k)
    traceAdd k 3 (c - 1) (modSlot k (fun x =>
      trialOn c rest false ch { x with tried := 0, atrClasses := 0, indicated := false, slowSeen := false }) s)

/-- ACTIVATE; in FATAL no local order begins, and on a satellite none without lock or position (R93, R98). -/
def execActivate (slot : Nat) (s : State) : Res :=
  match toBegin s slot [0x01] with
  | some r =>
    .next (if (slotGet s slot).st = .present ∧ satPowers s slot = true then activateSlot slot r (begin_ slot s) else s)
  | none => .next s

/-- No further class, or the next after VCC has been off (R486, R487, R493). `gaveAtr`: this class gave an ATR. -/
def nextTrial (k : Nat) (gaveAtr : Bool) (s : State) : State :=
  match (slotGet s k).act with
  | none => s
  | some a =>
    let any := a.anyAtr || gaveAtr
    if a.warm then endFall k 0x045 s
    else if a.todo = [] then endFall k (if any then 0x047 else 0x045) s
    else
      traceAll k [(3, 7), (3, 8), (3, 9), (3, 10)] (modSlot k (fun x => { x with
        st := .rising, pins := contactsOff, line := {}, cause := 8, emergency := false, second := false,
        act := some { a with anyAtr := any, waiting := true, good := false } }) s)

/-- ATR_TIMEOUT (R486, R493): no ATR start bit within ATR_MAX. -/
def execAtrTimeout (slot : Nat) (s : State) : Res :=
  let s' := riseToAtr slot s
  let x := slotGet s' slot
  .next (if x.st = .atr ∧ x.line.rx = [] then nextTrial slot false s' else s)

/-- CLASS_TRIAL_WAIT_END (R487): VCC has been below 0.4 V for 10 ms; the next class is tried. -/
def execClassTrialWaitEnd (slot : Nat) (s : State) : Res :=
  let x := slotGet s slot
  .next (match x.st, x.act with
    | .rising, some a =>
      match a.waiting, a.todo with
      | true, c :: rest =>
        let ch := chStart a.div
        traceAdd slot 3 (c - 1) (modSlot slot (trialOn c rest a.anyAtr ch) s)
      | _, _ => s
    | _, _ => s)

/-- WARM_RESET (R492): VCC and class stay, RST goes low for RST_CLKS cycles, every protocol word returns to its default. -/
def execWarmReset (slot : Nat) (s : State) : Res :=
  match toBegin s slot [0x02] with
  | some _ =>
    let ch := chStart (isoDivOf s slot)
    .next (if (slotGet s slot).st = .ready then
        traceAdd slot 3 7 (modSlot slot (fun x => { x with
          st := .atr, act := some { good := true, warm := true, div := ch.div }, ch := ch, tr := {}, line := { mode := .atr }
          pins := { vccOn := true, rst := false, clkRun := true, ioLow := false } }) (begin_ slot s))
      else s)
  | none => .next s

/-! ### Deactivation -/

/-- A TRIPPED slot is released to PRESENT or EMPTY by its DET (R500). -/
def releaseTripped (k : Nat) (s : State) : State := modSlot k (fun x => { x with st := idleState x }) s

/-- DEACTIVATE (R494, R500): SLT_CAUSE 1; OK when FALLING ends, or at once on a release. -/
def execDeactivate (slot : Nat) (s : State) : Res :=
  match toBegin s slot [0x03] with
  | some _ =>
    let s' := begin_ slot s
    .next (match (slotGet s slot).st with
      | .tripped => endRun slot 0 [] 0 (releaseTripped slot s')
      | .ready | .asleep =>
        traceAll slot [(3, 7), (3, 8), (3, 9), (3, 10)] (fallSlot slot 1 false false none (some 0) s')
      | .present | .empty => endRun slot 0 [] 0 s'
      | _ => s)
  | none => .next s

/-- The highest-ranked of several causes. -/
def topCause (own : Nat) (others : List Nat) : Nat :=
  others.foldl (fun a c => if causeRank c < causeRank a then c else a) own

/-- Order status of a cause (Table - Emergency causes). -/
def causeStatus (writing : Bool) (c : Nat) : Nat := match c with
  | 2 => if writing then 0x042 else 0x041
  | 3 | 9 => 0x043
  | 4 | 5 | 6 => 0x044
  | _ => 0x085

/-- State after FALLING of a cause: TRIPPED, or by DET. -/
def causeEnd (c : Nat) : Option SlotState := match c with
  | 3 | 4 | 5 | 9 => some .tripped
  | _ => none

/-- The SLOT event of a cause (Table - RESULT kinds); a ripcord names none. -/
def causeEvent (writing : Bool) (c : Nat) : Option Nat := match c with
  | 2 => some (if writing then 4 else 1)
  | 3 | 9 => some 2
  | 4 | 5 | 6 => some 3
  | _ => none

/-- What a cause counts at a slot. -/
def causeCounts (k c : Nat) (s : State) : State :=
  if c = 2 then modSlot k (fun x => { x with removals := satInc x.removals }) s
  else if c = 3 ∨ c = 4 then modSlot k (fun x => { x with trips := satInc x.trips }) s
  else s

/-- The sources that the causes of one tick raise: SLT's at a local slot, SLOT_TRIP of a ZG4 (R741; Table - SLT fault
sources). -/
def causeFaults (k : Nat) (cs : List Nat) (s : State) : State :=
  let trip := cs.contains 3 || cs.contains 4 || cs.contains 9
  if isLocal k then
    raiseMany .slt ((if trip then [0] else []) ++ (if cs.contains 5 then [1] else []) ++ (if cs.contains 2 then [2] else [])) s
  else if trip then satRaise (satOfSlot k) 0 s
  else s

/-- The slot began to fall by emergency at this tick: a further cause of the tick acts in that deactivation (R968). -/
def fallsNow (s : State) (x : Slot) : Bool :=
  decide (x.st = .falling) && x.emergency && decide (x.fallTick = s.sys.tick)

/-- The trace code of a cause (Table - Trace entry): that of its SLOT event, 5 for a ripcord. -/
def causeTrace (writing : Bool) (c : Nat) : Nat := (causeEvent writing c).getD 5

/-- One emergency deactivation of a slot in session (R496 to R498, R506, R507, R968): the order there ends with the status of
the highest-ranked cause, SAFE_STATE where a ripcord acts. -/
def emergency (k : Nat) (causes : List Nat) (s : State) : State :=
  let x := slotGet s k
  match causes with
  | [] => s
  | own :: others =>
    if !inSession x && !fallsNow s x then s
    else
      let top := topCause own others
      let rip := causes.contains 7
      let writing := x.sd.writing || !x.sd.runDone.isEmpty
      let status := if rip then 0x085 else causeStatus writing top
      let vcc := x.pins.vccOn || fallsNow s x
      let s := satStir (satOfSlot k) s
      let s := fallSlot k top true (decide (1 < causes.length)) (causeEnd top) (some status) s
      let s := causes.foldl (fun s c => traceAdd k 4 (causeTrace writing c) s) s
      let s := if isLocal k then s
        else match causeEvent writing top with
          | some _ => traceTrigger k 2 s
          | none => s
      let counted := causes.filter (fun c => !(decide (c = 2) && !vcc))
      causeFaults k counted (counted.foldl (fun s c => causeCounts k c s) s)

/-- A satellite records and reports a change of a slot's DET with the state that the slot is in (R449, R470). -/
def detResult (k event : Nat) (s : State) : State :=
  let s := traceTrigger k 2 (traceAdd k 4 event (satStir (satOfSlot k) s))
  satResult (satOfSlot k)
    { kind := 0x03, slot := k % 4, payload := [byte event, byte (slotCode (slotGet s k).st)] } s

/-- CARD_INSERTED (R478, R509): DET reads present; an EMPTY slot becomes PRESENT, and nothing else happens. -/
def execCardInserted (slot : Nat) (s : State) : Res :=
  let s := if slot = 0 then { s with upd := { s.upd with flowRan := false } } else s
  let s := modSlot slot (fun x => { x with det := true, st := if x.st = .empty then .present else x.st }) s
  .next (if isLocal slot then s else detResult slot 0 s)

/-- CARD_REMOVED (R498, R506): DET reads absent; a slot in session is deactivated with emergency timing, and an activation
that was dispatched and has not switched VCC on ends with REMOVED. -/
def execCardRemoved (slot : Nat) (others : List Nat) (s : State) : Res :=
  let x := slotGet s slot
  let s := modSlot slot (fun x => { x with det := false, st := if x.st = .present then .empty else x.st }) s
  if inSession x || fallsNow s x then .next (emergency slot (2 :: others) s)
  else
    let s := if x.st = .present ∧ (toBegin s slot [0x01, 0x09]).isSome = true then endCold slot 0x041 s else s
    .next (if isLocal slot then s else detResult slot 1 s)

/-- WP_CHANGE (R113, R445, R615): L0_WP, or Sn_AUX2 of a ZG4 slot; L1 to L3 have no tab input. -/
def execWpChange (slot : Nat) (level : Bool) (s : State) : Res :=
  .next (if slot = 0 ∨ 4 ≤ slot then modSlot slot (fun x => { x with wpTab := level }) s else s)

/-- A trip of the tick at which the slot began to fall by emergency is still judged. -/
def tripJudged (s : State) (k : Nat) (good : Bool) : Bool :=
  vccGood (slotGet s k) good || (fallsNow s (slotGet s k) && good)

/-- The recorder takes a local slot's comparator (Table - Edge codes). -/
def comparatorEdge (code k : Nat) (s : State) : State := takeInput k { kind := 6, sub := 0, payload := [byte (code + k), 1] } s

/-- CURRENT_TRIP (R480): judged once VCC is good (R482), `good` saying so while the slot is RISING; not between two class
trials, where VCC is off. -/
def execCurrentTrip (slot : Nat) (good : Bool) (others : List Nat) (s : State) : Res :=
  .next (comparatorEdge 0x18 slot (if tripJudged s slot good then emergency slot (3 :: others) s else s))

/-- UNDERVOLTAGE_TRIP (R481, R482, R508): on a local slot not while VSL5 is below its threshold. -/
def execUndervoltageTrip (slot : Nat) (good : Bool) (others : List Nat) (s : State) : Res :=
  .next (comparatorEdge 0x1C slot
    (if tripJudged s slot good && (!isLocal slot || s.sup.vsl5Ok) then emergency slot (4 :: others) s else s))

/-- VCC_WIN_EXPIRY (R489): VCC is not good within VCC_WIN of a trial's start. -/
def execVccWinExpiry (slot : Nat) (others : List Nat) (s : State) : Res :=
  let x := slotGet s slot
  .next (if x.st = .rising ∧ x.pins.vccOn = true ∧ x.sd.polled = false then emergency slot (5 :: others) s else s)

/-- The slot has left FALLING: its session's words return to their reset values. -/
def sessionOver (s : State) (k : Nat) (x : Slot) : Slot :=
  { x with
    st := match x.fallTo with
      | some t => t
      | none => idleState x
    fallTo := none, fallStatus := none, cls := 0, tripInForce := x.cfg.trip, vcc := 0x3FF, icc := 0x3FF
    ch := chOff s k, tr := {}, sd := {}, line := {}, act := none }

/-- A write of a run whose closing the fall cut returns; REMOVED_IN_WRITE with its block number (Table - Status codes). -/
def runCut (oid code : Nat) (s : State) : State :=
  match orderGet s oid with
  | none => s
  | some o => if code = 0x042 then endOrderData o code (chainBytes s o 0 4) 4 s else endOrder o code 0 s

/-- VCC_DISCHARGED (R498, R504, R969): VCC is below 0.4 V, the slot leaves FALLING, its reservation ends, and the order
that the deactivation ended returns. -/
def execVccDischarged (slot : Nat) (s : State) : Res :=
  let x := slotGet s slot
  .next (if x.st = .falling then
      let s := modSlot slot (sessionOver s slot) (traceAdd slot 3 11 s)
      let s := if isLocal slot then releaseLift slot s else s
      let st := (slotGet s slot).st
      let tell := fun (e : Nat) (s : State) =>
        satResult (satOfSlot slot) { kind := 0x03, slot := slot % 4, payload := [byte e, byte (slotCode st)] } s
      let s := if isLocal slot ∨ x.fallStatus = none then s
        else match if x.emergency then causeEvent (decide (x.fallStatus = some 0x042)) x.cause else none with
          | some e => tell e s
          | none => if x.run.isNone then tell (if x.det then 0 else 1) s else s
      let s := x.sd.runDone.foldl (fun s oid => runCut oid (x.fallStatus.getD 0) s) s
      match x.fallStatus with
      | none => s
      | some code =>
        if code = 0x042 ∧ ((x.run.map (fun r => r.begun)).getD false) = true then endRun slot code (natLe 4 x.sd.block) 4 s
        else endRun slot (if code = 0x042 then 0x041 else code) [] 0 s
    else traceAdd slot 3 11 s)

/-- DISCHARGE_SLOW (R779): VCC is not below 0.4 V 100 µs after switch-off; at most one event per switch-off. -/
def execDischargeSlow (slot : Nat) (s : State) : Res :=
  let x := slotGet s slot
  .next (if isLocal slot && (decide (x.st = .falling) || decide (x.st = .rising ∧ x.pins.vccOn = false)) && !x.slowSeen then
      raise .slt 3 (modSlot slot (fun x => { x with slowSeen := true }) s)
    else s)

end Machine
end Sys2Proof
end

