-- ==== Sys2Proof/Machine/Chars.lean ====
section
/-!
DEFINITION. The ATR and PPS (15): what the interface bytes say, when an ATR is complete, when it is bad, what it puts in
force; and the character events that carry them. T=0 and T=1 stand in Machine/Blocks.lean.
-/
namespace Sys2Proof
namespace Machine

/-! ### One character -/

/-- The eight levels of a byte in reverse order and inverted: inverse convention (R536). -/
def inverseByte (v : Nat) : Nat :=
  (List.range 8).foldl (fun a i => a + (if bitAt v i then 0 else 2 ^ (7 - i))) 0

/-- Byte and parity of the nine levels after the start bit, first level in bit 0 (R525). -/
def decodeChar (inverse : Bool) (v : BitVec 9) : Byte × Bool :=
  let lv := v.toNat % 256
  let ones := (List.range 9).foldl (fun a i => a + (if xor inverse (v.getLsbD i) then 1 else 0)) 0
  (byte (if inverse then inverseByte lv else lv), decide (ones % 2 = 0))

/-- The parity bit that goes with a byte: even parity. -/
def parityBit (b : Byte) : Nat := bit (oddOnes b)

/-- Trace DATA of a byte: the byte and its parity bit. -/
def traceByte (b : Byte) : Nat := b.toNat + 256 * parityBit b

/-! ### The ATR (R536 to R542, Table - ATR fields interpreted) -/

/-- What the interface bytes say. -/
structure Atr where
  ta1 : Option Nat := none
  tc1 : Option Nat := none
  ta2 : Option Nat := none
  tc2 : Option Nat := none
  /-- Protocols that TDi bytes name, in order, 15 among them. -/
  named : List Nat := []
  /-- First TA after a TDi naming T=15; first TA, TB, TC after a TDi naming T=1. -/
  ta15 : Option Nat := none
  taT1 : Option Nat := none
  tbT1 : Option Nat := none
  tcT1 : Option Nat := none
  deriving DecidableEq, Repr

/-- Keep the first value. -/
def firstOf (a : Option Nat) (v : Nat) : Option Nat := match a with | some x => some x | none => some v

/-- The meaning of one interface byte: which letter (0 TA, 1 TB, 2 TC), group number, protocol of the TD before it. -/
def atrByte (letter group : Nat) (proto : Nat) (v : Nat) (a : Atr) : Atr :=
  match group, letter with
  | 1, 0 => { a with ta1 := some v }
  | 1, 2 => { a with tc1 := some v }
  | 1, _ => a
  | 2, 0 => { a with ta2 := some v }
  | 2, 2 => { a with tc2 := some v }
  | 2, _ => a
  | _, 0 => if proto = 15 then { a with ta15 := firstOf a.ta15 v }
      else if proto = 1 then { a with taT1 := firstOf a.taT1 v } else a
  | _, 1 => if proto = 1 then { a with tbT1 := firstOf a.tbT1 v } else a
  | _, _ => if proto = 1 then { a with tcT1 := firstOf a.tcT1 v } else a

/-- Interface bytes of one group from `y` (bit 0 TA, 1 TB, 2 TC), letters from `letter` on; `none`: bytes are missing. -/
def atrGroup (group proto y : Nat) : Nat → Nat → List Byte → Atr → Option (List Byte × Atr)
  | 0, _, l, a => some (l, a)
  | n + 1, letter, l, a =>
    if bitAt y letter then
      match l with
      | [] => none
      | b :: t => atrGroup group proto y n (letter + 1) t (atrByte letter group proto b.toNat a)
    else atrGroup group proto y n (letter + 1) l a

/-- All groups, `fuel` of them at most: the rest after the last interface byte. -/
def atrGroups : Nat → Nat → Nat → Nat → List Byte → Atr → Option (List Byte × Atr)
  | 0, _, _, _, l, a => some (l, a)
  | fuel + 1, group, proto, y, l, a =>
    match atrGroup group proto y 3 0 l a with
    | none => none
    | some (l, a) =>
      if bitAt y 3 then
        match l with
        | [] => none
        | td :: t =>
          let p := td.toNat % 16
          atrGroups fuel (group + 1) p (td.toNat / 16) t { a with named := a.named ++ [p] }
      else some (l, a)

/-- The ATR's interface bytes and how many characters it still lacks; `none`: interface bytes are missing. -/
def atrParse (rx : List Byte) : Option (Atr × Nat) :=
  match rx with
  | _ :: t0 :: rest =>
    match atrGroups 32 1 0 (t0.toNat / 16) rest {} with
    | none => none
    | some (l, a) =>
      let want := t0.toNat % 16 + bit (a.named.any (fun p => decide (p ≠ 0)))
      some (a, want - l.length)
  | _ => none

/-- Protocols the ATR offers: T=0 where no TD names one (Table - ATR fields interpreted). -/
def atrOffers (a : Atr) : List Nat := if a.named = [] then [0] else a.named.filter (fun p => decide (p ≠ 15))

/-- A complete ATR is bad (R538); TS, parity and framing are judged as its characters come. -/
def atrBad (rx : List Byte) (a : Atr) : Bool :=
  let ta1 := a.ta1.getD 0x11
  (a.named.any (fun p => decide (p ≠ 0)) && decide (xorAll (rx.drop 1) ≠ 0)) || decide (a.tc2 = some 0) ||
    (match a.ta2 with
      | some v => bitAt v 4 || decide (1 < v % 16) || !fiOk (ta1 / 16) || !diOk (ta1 % 16)
      | none => false) ||
    !((atrOffers a).any (fun p => decide (p ≤ 1)))

/-- The class indicator UI, where the ATR carries one. -/
def atrUi (a : Atr) : Option Nat := a.ta15.map (fun v => v % 64)

/-- Protocol in force by its number: SLT_PROT.IN_FORCE. -/
def inForceOf (p : Nat) : Nat := if p = 0 then 1 else if p = 1 then 2 else 0

/-- Character words after a good ATR (R541, R542). -/
def atrChars (rx : List Byte) (a : Atr) (c : Chars) : Chars :=
  let offers := atrOffers a
  { c with
    ta1 := a.ta1.getD 0x11, ta1Present := a.ta1.isSome
    offerT0 := offers.contains 0, offerT1 := offers.contains 1
    inForce := match a.ta2 with
      | some v => inForceOf (v % 16)
      | none => inForceOf (offers.headD 0)
    specific := a.ta2.isSome, ppsOpen := a.ta2.isNone
    xi := a.ta15.getD 0 / 64, guard := a.tc1.getD 0, wi := a.tc2.getD 10
    cwi := match a.tbT1 with
      | some v => v % 16
      | none => 13
    atrLen := rx.length
    inverse := decide (rx.headD 0 = 0x3F) }

/-- Transport words after a good ATR (R574, R577). -/
def atrTrans (a : Atr) : Trans :=
  let i := a.taT1.getD 32
  let b := (a.tbT1.getD 0x4D) / 16
  let sub := decide (i = 0) || decide (i = 255)
  { crc := bitAt (a.tcT1.getD 0) 0, ifsc := if sub then 32 else i, ifscAtr := if sub then 32 else i, ifscSub := sub
    bwi := min b 9, bwiSub := decide (9 < b) }

/-- Put a good ATR in force on a slot: in specific mode TA1's codes too (R542). -/
def atrForce (rx : List Byte) (a : Atr) (x : Slot) : Slot :=
  let ta1 := a.ta1.getD 0x11
  let x := { x with ch := atrChars rx a x.ch, tr := atrTrans a
                    indicated := a.ta15.isSome, atrClasses := (atrUi a).getD 0 % 8 }
  if a.ta2.isSome then retime (ta1 / 16) (ta1 % 16) x.ch.div x else retime 1 1 x.ch.div x

/-- An activation or warm reset ends with ATR_BAD, by normal deactivation (R538). -/
def atrFail (k : Nat) (s : State) : State := endFall k 0x046 s

/-- A complete ATR is judged (R486, R538): bad, for another class, or accepted. -/
def atrDone (k : Nat) (a : Atr) (s : State) : State :=
  let x := slotGet s k
  let rx := x.line.rx
  let warm := ((x.act).map (fun t => t.warm)).getD false
  if atrBad rx a then atrFail k s
  else if !warm && (match atrUi a with
      | some u => !bitAt u (x.cls - 1)
      | none => false) then
    nextTrial k true (modSlot k (fun x => { x with indicated := true, atrClasses := (atrUi a).getD 0 % 8 }) s)
  else
    let s := modSlot k (fun x => atrForce rx a { x with act := none }) s
    let s := if isLocal k then activationDone k s else s
    endReady k 0 rx rx.length s

/-- One character of the ATR, already decoded; `good`: parity and framing hold. -/
def atrChar (k : Nat) (b : Byte) (good : Bool) (s : State) : State :=
  let s := modSlot k (fun x => { x with line := { x.line with rx := x.line.rx ++ [b] } }) s
  let rx := (slotGet s k).line.rx
  if !good then atrFail k s
  else if rx.headD 0 ≠ 0x3B ∧ rx.headD 0 ≠ 0x3F then atrFail k s
  else
    match atrParse rx with
    | some (a, 0) => atrDone k a s
    | _ => if 33 ≤ rx.length then atrFail k s else s

/-! ### PPS (R543 to R547) -/

/-- The request PPSS, PPS0, PPS1, PCK. -/
def ppsRequest (param : Nat) : List Byte :=
  let p0 := 0x10 + bit (bitAt param 8)
  [0xFF, byte p0, byte (field param 0 8), xorAll [0xFF, byte p0, byte (field param 0 8)]]

/-- Length of a PPS response by its PPS0. -/
def ppsLen (p0 : Nat) : Nat := 3 + bit (bitAt p0 4) + bit (bitAt p0 5) + bit (bitAt p0 6)

/-- PPS fails and the card is deactivated (Table - PPS outcomes). -/
def ppsFail (k : Nat) (s : State) : State := endFall k 0x048 s

/-- A whole response is judged (R545). -/
def ppsJudge (k param : Nat) (rx : List Byte) (s : State) : State :=
  let prot := bit (bitAt param 8)
  let p0 := (rx.getD 1 0).toNat
  let force := fun fi di => modSlot k (fun x =>
    let x := retime fi di x.ch.div x
    { x with ch := { x.ch with inForce := inForceOf prot } }) s
  if rx = ppsRequest param then
    endReady k 0 [] 0 (traceAdd k 5 (256 + field param 0 8) (force (field param 4 4) (field param 0 4)))
  else if rx.headD 0 = 0xFF ∧ bitAt p0 4 = false ∧ p0 % 16 = prot ∧ xorAll rx = 0 then
    endReady k 0x048 [] 0 (traceAdd k 5 (256 + 0x11) (force 1 1))
  else ppsFail k s

/-- One character of a PPS response. -/
def ppsChar (k param : Nat) (b : Byte) (good : Bool) (s : State) : State :=
  let s := modSlot k (fun x => { x with line := { x.line with rx := x.line.rx ++ [b] } }) s
  let rx := (slotGet s k).line.rx
  if !good then ppsFail k s
  else if 2 ≤ rx.length ∧ ppsLen (rx.getD 1 0).toNat ≤ rx.length then ppsJudge k param rx s
  else s

/-- PPS (R544): the request is put on the line. -/
def execPps (slot : Nat) (s : State) : Res :=
  match toBegin s slot [0x06] with
  | some r =>
    .next (if (slotGet s slot).st = .ready then
        modSlot slot (fun x => { x with st := .busy, line := { mode := .pps, tx := ppsRequest r.param } })
          (begin_ slot s)
      else s)
  | none => .next s

/-- A character of the card came at this very tick: it is taken first, and a wait for it has not expired (R591). -/
def heardNow (s : State) (x : Slot) : Bool := decide (x.line.heardAt = some s.sys.tick)

/-- PPS_CHARACTER_TIMEOUT (R544, R545): a character of the response is missing after 9600 etu. -/
def execPpsCharacterTimeout (slot : Nat) (s : State) : Res :=
  let x := slotGet s slot
  .next (if x.line.mode = .pps ∧ x.st = .busy ∧ x.line.tx = [] ∧ heardNow s x = false then ppsFail slot s else s)

/-- ATR_CHARACTER_TIMEOUT (R537, R538): a further ATR character is missing after 9600 etu. -/
def execAtrCharacterTimeout (slot : Nat) (s : State) : Res :=
  let x := slotGet s slot
  .next (if x.line.mode = .atr ∧ x.st = .atr ∧ x.line.rx ≠ [] ∧ heardNow s x = false then atrFail slot s else s)

/-! ### Clock stop (R551 to R553, R560) -/

/-- CLOCK_STOP: the stop waits for 1860 idle cycles. -/
def execClockStop (slot : Nat) (s : State) : Res :=
  match toBegin s slot [0x07] with
  | some r =>
    .next (if (slotGet s slot).st = .ready then
        modSlot slot (fun x => { x with st := .busy, line := { stopWait := some (bitAt r.param 0) } }) (begin_ slot s)
      else s)
  | none => .next s

/-- CLOCK_STOP_IDLE_REACHED (R552): the clock stops at the named level, the slot is ASLEEP, the order returns OK. -/
def execClockStopIdleReached (slot : Nat) (s : State) : Res :=
  let x := slotGet s slot
  .next (match x.line.stopWait with
    | some hi =>
      if x.st = .busy then
        endRun slot 0 [] 0 (traceAdd slot 5 (bit hi) (modSlot slot (fun x => { x with
          st := .asleep, pins := { x.pins with clkRun := false, clkHigh := hi }
          ch := { x.ch with stopped := true } }) s))
      else s
    | none => s)

/-- CLOCK_RESUME (R553): the clock runs again; the order returns 700 cycles later. -/
def execClockResume (slot : Nat) (s : State) : Res :=
  match toBegin s slot [0x08] with
  | some _ =>
    .next (if (slotGet s slot).st = .asleep then
        traceAdd slot 5 2 (modSlot slot (fun x => { x with
          st := .busy, pins := { x.pins with clkRun := true, clkHigh := false }
          ch := { x.ch with stopped := false } }) (begin_ slot s))
      else s)
  | none => .next s

/-- CLOCK_RESUME_SETTLED (R553): 700 clock cycles have passed. -/
def execClockResumeSettled (slot : Nat) (s : State) : Res :=
  let x := slotGet s slot
  .next (match x.run with
    | some r => if r.opcode = 0x08 ∧ r.begun = true ∧ x.st = .busy then endReady slot 0 [] 0 s else s
    | none => s)

/-! ### The divider (R518, R554) -/

/-- A CLOCK_STOP of this tick waits for its idle cycles: a divider change of the same tick comes before it (R106). -/
def stopsNow (s : State) (x : Slot) : Bool :=
  decide (x.st = .busy) && x.line.stopWait.isSome && x.run.any (fun r => decide (r.beganAt = s.sys.tick))

/-- Why an SLT_DIV commit is refused: not an ISO slot, not READY or ASLEEP, claimed by the other port, or a satellite
slot (R554). -/
def divRefused (s : State) (p : Port) (id : Nat) : Bool :=
  let x := slotGet s id
  !isLocal id || decide (x.cfg.kind ≠ .iso) || decide (claimOf s id = some p.other) ||
    !(decide (x.st = .ready) || decide (x.st = .asleep) || stopsNow s x)

/-- N in force from the next phase on (R518); E follows at the next start edge (R517, R557). -/
def setDivider (id n : Nat) (s : State) : State :=
  traceAdd id 5 3 (modSlot id (fun x => { x with ch := { x.ch with div := n, renew := true } }) s)

end Machine
end Sys2Proof
end

