-- ==== Sys2Proof/Machine/Blocks.lean ====
section
/-!
DEFINITION. Block transport and APDU exchange (16): T=0 procedure bytes, T=1 blocks and their recovery ladder, raw blocks;
and the character events of a slot (15) that feed them.
-/
namespace Sys2Proof
namespace Machine

/-- Change the exchange of a slot. -/
def modX (k : Nat) (f : Xfer → Xfer) (s : State) : State := modSlot k (fun x => { x with x := f x.x }) s

/-- Change the transport words of a slot. -/
def modTr (k : Nat) (f : Trans → Trans) (s : State) : State := modSlot k (fun x => { x with tr := f x.tr }) s

/-- Put bytes on the line after what is there. -/
def lineSend (k : Nat) (l : List Byte) (s : State) : State :=
  modSlot k (fun x => { x with line := { x.line with tx := x.line.tx ++ l } }) s

/-! ### T=0 (R564 to R569) -/

/-- The header sent: CLA INS P1 P2 P3, P3 0x00 in case 1 (Table - Command cases). -/
def t0Header (apdu : List Byte) : List Byte := apdu.take 4 ++ [if apdu.length = 4 then 0 else apdu.getD 4 0]

/-- Le of a P3: 0x00 means 256. -/
def leOf (p3 : Nat) : Nat := if p3 = 0 then 256 else p3

/-- A T=0 exchange begins (R565). -/
def startT0 (k : Nat) (apdu : List Byte) (s : State) : State :=
  let c := t0Case apdu.length (apdu.getD 4 0).toNat
  let lc := (apdu.getD 4 0).toNat
  let s := modTr k (fun t => { t with apdu := c, t0resent := false }) s
  modSlot k (fun x => { x with
    st := .busy
    x := { apdu := apdu, case := c, due := if c = 2 then leOf lc else if c = 3 ∨ c = 4 then lc else 0
           unsent := if c = 3 ∨ c = 4 then slice apdu 5 lc else [] }
    line := { mode := .t0, tx := t0Header apdu } }) s

/-- SW1 (Table - Procedure bytes). -/
def isSw1 (v : Nat) : Bool := (decide (0x61 ≤ v) && decide (v ≤ 0x6F)) || (decide (0x90 ≤ v) && decide (v ≤ 0x9F))

/-- SW2 has come: the one resend of case 2S, or the response (R567, R569). -/
def t0Finish (k sw1 : Nat) (sw2 : Byte) (s : State) : State :=
  let x := (slotGet s k).x
  let s := modTr k (fun t => { t with t0sw2 := sw2.toNat }) s
  if x.case = 2 ∧ sw1 = 0x6C ∧ x.anyData = false ∧ x.resent = false then
    let s := modTr k (fun t => { t with t0resent := true }) s
    lineSend k ((x.apdu.take 4) ++ [sw2])
      (modX k (fun y => { y with sw1 := none, resent := true, due := leOf sw2.toNat }) s)
  else
    let resp := x.resp ++ [byte sw1, sw2]
    endReady k 0 resp resp.length s

/-- One byte from the card in T=0 (Table - Procedure bytes, R566). -/
def t0Byte (k : Nat) (b : Byte) (s : State) : State :=
  let x := (slotGet s k).x
  let v := b.toNat
  let ins := x.apdu.getD 1 0
  match x.sw1 with
  | some w => t0Finish k w b s
  | none =>
    if 0 < x.expect then
      modX k (fun y => { y with resp := y.resp ++ [b], expect := y.expect - 1, due := y.due - 1, anyData := true }) s
    else
      let s := modTr k (fun t => { t with t0last := v }) s
      if v = 0x60 then s
      else if isSw1 v then modX k (fun y => { y with sw1 := some v }) s
      else if b = ins then
        if x.due = 0 then endFall k 0x04A s
        else if x.case = 2 then modX k (fun y => { y with expect := y.due }) s
        else lineSend k x.unsent (modX k (fun y => { y with unsent := [], due := 0 }) s)
      else if b = ins ^^^ 0xFF then
        if x.due = 0 then endFall k 0x04A s
        else if x.case = 2 then modX k (fun y => { y with expect := 1 }) s
        else lineSend k (x.unsent.take 1) (modX k (fun y => { y with unsent := y.unsent.drop 1, due := y.due - 1 }) s)
      else endFall k 0x04A s

/-! ### T=1 blocks (R570 to R573, R961) -/

/-- The error detection code of a block. -/
def edcOf (crc : Bool) (l : List Byte) : List Byte := if crc then natLe 2 (crc16T1 l) else [xorAll l]

/-- A block of the hub: NAD 0x00, PCB, LEN, INF, EDC. -/
def mkBlock (crc : Bool) (pcb : Nat) (inf : List Byte) : List Byte :=
  let l := [0, byte pcb, byte inf.length] ++ inf
  l ++ edcOf crc l

/-- Send a block and await the card's: `kind` is what the ladder takes it for. -/
def sendBlock (k pcb : Nat) (inf : List Byte) (kind : LastBlock) (s : State) : State :=
  let b := mkBlock (slotGet s k).tr.crc pcb inf
  modSlot k (fun x => { x with
    x := { x.x with lastSent := b, lastKind := kind }
    line := { x.line with mode := .t1, tx := x.line.tx ++ b, rx := [], rxBad := false } }) s

/-- Send an S-response: what the ladder would send again stays (R590). -/
def sendAnswer (k pcb : Nat) (inf : List Byte) (s : State) : State :=
  let b := mkBlock (slotGet s k).tr.crc pcb inf
  modSlot k (fun x => { x with line := { x.line with tx := x.line.tx ++ b, rx := [], rxBad := false } }) s

/-- The next I-block of the hub's chain: IFSC bytes, or the rest (R570, R572). -/
def sendNextI (k : Nat) (s : State) : State :=
  let x := slotGet s k
  let inf := x.x.unsent.take x.tr.ifsc
  let rest := x.x.unsent.drop x.tr.ifsc
  let more := decide (rest ≠ [])
  let pcb := 64 * bit x.tr.nsHub + 32 * bit more
  let s := sendBlock k pcb inf .iBlock s
  let s := modTr k (fun t => { t with nsHub := !t.nsHub }) s
  modX k (fun y => { y with unsent := rest, lastI := y.lastSent, lastIMore := more, chainDone := !more }) s

/-- S(IFS request) with IFSD 254 before the first I-block, or that I-block (R575). -/
def startApdu (k : Nat) (s : State) : State :=
  if (slotGet s k).tr.ifsDone then sendNextI k s else sendBlock k 0xC1 [0xFE] .ifsReq s

/-- Send S(RESYNCH request) once more (R581). -/
def sendResynch (k : Nat) (s : State) : State :=
  let s := modTr k (fun t => { t with resynchs := satInc t.resynchs }) s
  sendBlock k 0xC0 [] .resynchReq (modX k (fun y => { y with resynchTries := y.resynchTries + 1 }) s)

/-- A T=1 exchange begins: RESYNCH first on a DIRTY slot (R587). -/
def startT1 (k : Nat) (apdu : List Byte) (s : State) : State :=
  let dirty := (slotGet s k).tr.dirty
  let s := modTr k (fun t => { t with apdu := 0 }) s
  let s := modSlot k (fun x => { x with
    st := .busy, line := { mode := .t1 }, x := { apdu := apdu, unsent := apdu, resynchFirst := dirty } }) s
  if dirty then sendResynch k s else startApdu k s

/-- The hub reads a local slot's command from its parcels (R369); a satellite has its own copy. -/
def readCommand (slot : Nat) (r : Running) (s : State) : State × Bool :=
  match if isLocal slot then orderGet s r.oid else none with
  | some o => readChain o s
  | none => (s, true)

/-- EXCHANGE (R562): `upsets` are errors found in the command's bytes as it is taken up. -/
def execExchange (slot : Nat) (upsets : List Upset) (s : State) : Res :=
  match toBegin s slot [0x04] with
  | some r =>
    let (s, good) := readCommand slot r (upset upsets s)
    .next (if !good then endReady slot 0x013 [] 0 s
      else if (slotGet s slot).st = .ready then
        let l := runBytes s slot r
        let s := begin_ slot s
        let f := (slotGet s slot).ch.inForce
        if f = 1 then
          if t0Case l.length (l.getD 4 0).toNat = 5 then endReady slot 0x012 [] 0 s else startT0 slot l s
        else if f = 2 then startT1 slot l s
        else endReady slot 0x014 [] 0 s
      else s)
  | none => .next s

/-- RAW_BLOCK (R586, R587): the bytes as given, one reply; the slot is DIRTY from then on. -/
def execRawBlock (slot : Nat) (s : State) : Res :=
  match toBegin s slot [0x05] with
  | some r =>
    .next (if (slotGet s slot).st = .ready then
        let l := runBytes s slot r
        modSlot slot (fun x => { x with
          st := .busy, tr := { x.tr with dirty := true }, line := { mode := .t1, tx := l }
          x := { apdu := l, raw := true, lastKind := .other } }) (begin_ slot s)
      else s)
  | none => .next s

/-- The exchange ends with deactivation: RESYNCH without an answer (R582). -/
def resynchFailed (k : Nat) (s : State) : State :=
  let heard := (slotGet s k).x.heard
  endFall k (if heard then 0x04A else 0x049) (modTr k (fun t => { t with blast := 9 }) s)

/-- One consecutive failure (Table - Recovery ladder): `edc` an EDC error, `asked` a card's R-block asking again. -/
def t1Fail (k : Nat) (edc asked : Bool) (s : State) : State :=
  let x := (slotGet s k).x
  let again := fun (s : State) => modTr k (fun t => { t with retries := satInc t.retries }) s
  let repeat_ := fun (b : List Byte) (s : State) => modSlot k (fun y => { y with
    x := { y.x with lastSent := b }, line := { y.line with mode := .t1, tx := y.line.tx ++ b, rx := [], rxBad := false } }) s
  if x.lastKind = .resynchReq then
    if x.resynchTries < 3 then sendResynch k s else resynchFailed k s
  else
    let n := x.fails + 1
    let s := modX k (fun y => { y with fails := n }) s
    if 3 ≤ n then sendResynch k s
    else if x.lastKind = .ifsReq then repeat_ x.lastSent (again s)
    else if asked then
      modX k (fun y => { y with lastKind := .iBlock }) (repeat_ x.lastI (again s))
    else
      sendBlock k (0x80 + 16 * bit (slotGet s k).tr.nsCard + (if edc then 1 else 2)) [] .rBlock (again s)

/-! ### Judging a block (R571, Table - PCB encodings) -/

/-- N(S) of the hub's last I-block. -/
def lastNs (x : Slot) : Bool := !x.tr.nsHub

/-- Kinds of a valid block that the exchange acts on. -/
inductive T1Act where
  | iBlock (more : Bool) (inf : List Byte)
  | ack
  | asksAgain
  | ifsReq (v : Nat)
  | ifsResp
  | abortReq
  | wtxReq (m : Nat)
  | resynchResp
  | bad (edc : Bool)
  deriving DecidableEq, Repr

/-- The hub's chain has been sent to its last block. -/
def chainSent (x : Slot) : Bool := x.x.chainDone && decide (x.x.lastKind ≠ .ifsReq) && decide (x.x.lastKind ≠ .resynchReq)

/-- What a block received is (R571); `short`: CWT ended it before its length. -/
def judgeBlock (x : Slot) (l : List Byte) (rxBad : Bool) : T1Act :=
  let n := if x.tr.crc then 2 else 1
  let len := (l.getD 2 0).toNat
  let pcb := (l.getD 1 0).toNat
  let inf := slice l 3 len
  let body := l.take (l.length - n)
  let short := decide (l.length < 3 + len + n) || decide (l.length < 3 + n)
  let other : T1Act := .bad false
  if rxBad || (!short && decide (l.drop (3 + len) ≠ edcOf x.tr.crc body)) then .bad true
  else if short || decide (len = 255) || decide (x.tr.ifsd < len) || decide (l.headD 0 ≠ 0) then other
  else if pcb < 0x80 then
    let more := bitAt pcb 5
    if pcb % 32 ≠ 0 ∨ (more = true ∧ len = 0) ∨ chainSent x = false ∨ bitAt pcb 6 ≠ x.tr.nsCard then other
    else .iBlock more inf
  else if pcb < 0xC0 then
    let nr := bitAt pcb 4
    if bitAt pcb 5 ∨ bitAt pcb 3 ∨ bitAt pcb 2 ∨ pcb % 4 = 3 ∨ len ≠ 0 then other
    else if x.x.lastKind = .ifsReq ∨ x.x.lastKind = .resynchReq then .asksAgain
    else if x.x.chainDone then (if nr = lastNs x then .asksAgain else other)
    else if nr = lastNs x then .asksAgain else .ack
  else
    let v := (inf.headD 0).toNat
    match pcb with
    | 0xE0 => if x.x.lastKind = .resynchReq ∧ len = 0 then .resynchResp else other
    | 0xC1 => if len = 1 ∧ 1 ≤ v ∧ v ≤ 0xFE then .ifsReq v else other
    | 0xE1 => if x.x.lastKind = .ifsReq ∧ len = 1 ∧ v = 0xFE then .ifsResp else other
    | 0xC2 => if len = 0 then .abortReq else other
    | 0xC3 => if len = 1 ∧ 1 ≤ v then .wtxReq v else other
    | _ => other

/-- Last event of the T=1 layer (SLT_BLAST). -/
def setBlast (k n : Nat) (s : State) : State := modTr k (fun t => { t with blast := n }) s

/-- Act on a judged block. -/
def t1Act (k : Nat) (a : T1Act) (s : State) : State :=
  let clear := fun (s : State) => modX k (fun y => { y with fails := 0 }) s
  match a with
  | .bad true => t1Fail k true false (setBlast k 1 s)
  | .bad false => t1Fail k false false (setBlast k 2 s)
  | .asksAgain => t1Fail k false true (setBlast k 4 s)
  | .ack => sendNextI k (clear s)
  | .ifsReq v => sendAnswer k 0xE1 [byte v] (setBlast k 6 (modTr k (fun t => { t with ifsc := v }) s))
  | .wtxReq m =>
    let s := modTr k (fun t => { t with wtxs := satInc t.wtxs, blast := 5 }) s
    modX k (fun y => { y with wtx := m }) (sendAnswer k 0xE3 [byte m] s)
  | .abortReq =>
    let b := mkBlock (slotGet s k).tr.crc 0xE2 []
    let s := endReady k 0x04A [] 0 (setBlast k 7 s)
    lineSend k b s
  | .ifsResp => sendNextI k (clear (modTr k (fun t => { t with ifsd := 254, ifsDone := true }) s))
  | .resynchResp =>
    let first := (slotGet s k).x.resynchFirst
    let s := modTr k (fun t => { t with nsHub := false, nsCard := false, ifsc := t.ifscAtr, ifsd := 32, ifsDone := false,
                                        dirty := false, blast := 8 }) s
    if first then startApdu k (modX k (fun y => { y with fails := 0, resynchTries := 0, resynchFirst := false }) s)
    else endReady k 0x04A [] 0 s
  | .iBlock more inf =>
    let s := modTr k (fun t => { t with nsCard := !t.nsCard }) (clear s)
    let s := modX k (fun y => { y with resp := (y.resp ++ inf).take 1024, full := y.full + inf.length }) s
    if more then sendBlock k (0x80 + 16 * bit (slotGet s k).tr.nsCard) [] .rBlock s
    else
      let y := (slotGet s k).x
      endReady k 0 y.resp y.full s

/-- A block has ended at its length, or at CWT: a raw block is returned as it came (R586), any other is judged. -/
def blockEnds (k : Nat) (s : State) : State :=
  let x := slotGet s k
  let l := x.line.rx
  if x.x.raw then endReady k 0 l l.length s
  else t1Act k (judgeBlock x l x.line.rxBad) (modX k (fun y => { y with wtx := 1 }) s)

/-- The slot awaits a block: a T=1 exchange or raw block with nothing left to send. -/
def awaitsBlock (x : Slot) : Bool := decide (x.line.mode = .t1) && decide (x.st = .busy) && decide (x.line.tx = [])

/-- A block of the length its LEN says has come. -/
def blockWhole (x : Slot) : Bool :=
  let l := x.line.rx
  decide (3 ≤ l.length) && decide (3 + (l.getD 2 0).toNat + (if x.tr.crc then 2 else 1) ≤ l.length)

/-- BLOCK_RECEIVED (R571). -/
def execBlockReceived (slot : Nat) (s : State) : Res :=
  let x := slotGet s slot
  .next (if awaitsBlock x && blockWhole x then blockEnds slot s else s)

/-- CWT_EXPIRY (R549): the block ends at its last character received. -/
def execCwtExpiry (slot : Nat) (s : State) : Res :=
  let x := slotGet s slot
  .next (if awaitsBlock x && decide (x.line.rx ≠ []) && !heardNow s x then
      blockEnds slot (traceAdd slot 2 4 (modSlot slot (fun x => { x with ch := { x.ch with chLast := 4 } }) s))
    else s)

/-- BWT_EXPIRY (R578, R580, R586). -/
def execBwtExpiry (slot : Nat) (s : State) : Res :=
  let x := slotGet s slot
  .next (if awaitsBlock x && decide (x.line.rx = []) && !heardNow s x then
      if x.x.raw then endReady slot 0x049 [] 0 (setBlast slot 3 s)
      else t1Fail slot false false (setBlast slot 3 (modX slot (fun y => { y with wtx := 1 }) s))
    else s)

/-- WT_EXPIRY (R548). -/
def execWtExpiry (slot : Nat) (s : State) : Res :=
  let x := slotGet s slot
  .next (if x.line.mode = .t0 ∧ x.st = .busy ∧ heardNow s x = false then
      endFall slot 0x049 (traceAdd slot 2 4 (modSlot slot (fun x => { x with ch := { x.ch with chLast := 4 } }) s))
    else s)

/-- IO_LOW_WAIT_EXPIRY (R530): I/O stayed low past the bound while a character was due. -/
def execIoLowWaitExpiry (slot : Nat) (s : State) : Res :=
  let x := slotGet s slot
  .next (if x.st = .busy ∧ x.line.tx ≠ [] then endFall slot 0x049 s else s)

/-- CARD_TIME_LIMIT (R563): 120 s since the dispatch of an EXCHANGE or RAW_BLOCK. -/
def execCardTimeLimit (slot : Nat) (s : State) : Res :=
  let x := slotGet s slot
  .next (match x.run with
    | some r =>
      if (r.opcode = 0x04 ∨ r.opcode = 0x05) ∧ x.st = .busy then endFall slot 0x049 (setBlast slot 10 s) else s
    | none => s)

/-! ### Characters on the line (R520 to R535) -/

/-- CHARACTER_SEND (R527, R530, R532 to R534): the next character due is sent while I/O is high; a T=0 error signal makes
the hub send it again, at most five times in all. -/
def execCharacterSend (slot : Nat) (ioHigh errorSignal : Bool) (s : State) : Res :=
  let x := slotGet s slot
  .next (match x.line.tx with
    | [] => s
    | b :: rest =>
      if !ioHigh then s
      else
        let s := traceAdd slot 1 (traceByte b) (modSlot slot startEdge s)
        if errorSignal && decide (x.line.mode = .t0) then
          let s := traceAdd slot 2 1 (modSlot slot (fun x => { x with
            ch := { x.ch with parErr := satInc x.ch.parErr, chLast := 1 }
            line := { x.line with copies := x.line.copies + 1 } }) s)
          if 5 ≤ x.line.copies + 1 then
            endFall slot 0x04A (traceAdd slot 2 5 (modSlot slot (fun x => { x with ch := { x.ch with chLast := 5 } }) s))
          else modSlot slot (fun x => { x with ch := { x.ch with repeats := satInc x.ch.repeats } }) s
        else modSlot slot (fun x => { x with line := { x.line with tx := rest, copies := 0 } }) s)

/-- A T=0 character that fails parity: the error signal, and at the fifth copy the end of the order (R531, R534). -/
def t0Parity (k : Nat) (s : State) : State :=
  let n := (slotGet s k).line.badRun + 1
  let s := modSlot k (fun x => { x with line := { x.line with badRun := n } }) s
  if 5 ≤ n then
    endFall k 0x04A (traceAdd k 2 5 (modSlot k (fun x => { x with ch := { x.ch with chLast := 5 } }) s))
  else traceAdd k 2 0 s

/-- A character of the card, decoded: `par` parity holds, `frm` framing holds. -/
def takeChar (k : Nat) (b : Byte) (par frm : Bool) (s : State) : State :=
  let x := slotGet s k
  let s := modSlot k (fun x => { x with
    ch := { x.ch with
      parErr := if par then x.ch.parErr else satInc x.ch.parErr
      framErr := if frm then x.ch.framErr else satInc x.ch.framErr
      chLast := if !par then 1 else if !frm then 2 else x.ch.chLast }
    line := { x.line with waitRise := !frm } }) s
  let s := if frm then s else traceAdd k 2 2 s
  let s := if par || decide (x.line.mode ≠ .t0) then traceAdd k 0 (traceByte b) s else s
  match x.line.mode with
  | .atr => atrChar k b (par && frm) s
  | .pps => ppsChar k (((x.run).map (fun r => r.param)).getD 0) b (par && frm) s
  | .t0 =>
    if par then t0Byte k b (modSlot k (fun x => { x with line := { x.line with badRun := 0 } }) s) else t0Parity k s
  | .t1 => modSlot k (fun x => { x with
      x := { x.x with heard := true }
      line := { x.line with rx := x.line.rx ++ [b], rxBad := x.line.rxBad || !par || !frm } }) s
  | .idle => s

/-- A character while the clock is stopped: the clock resumes, the slot is READY (R560). -/
def stoppedChar (k : Nat) (s : State) : State :=
  traceAdd k 5 2 (modSlot k (fun x => { x with
    st := .ready, pins := { x.pins with clkRun := true, clkHigh := false }
    ch := { x.ch with stopped := false, framErr := satInc x.ch.framErr, chLast := 2 } }) s)

/-- The convention of an ATR's characters: fixed by TS, which is tried in both (R536). -/
def atrInverse (x : Slot) (v : BitVec 9) : Bool :=
  if x.line.mode = .atr then
    match x.line.rx with
    | [] => decide ((decodeChar false v).1 ≠ 0x3B) && decide ((decodeChar true v).1 = 0x3F)
    | ts :: _ => decide (ts = 0x3F)
  else x.ch.inverse

/-- The levels of I/O in a character: start bit, nine moments, the end; a glitch falls and rises. -/
def charLevels (glitch : Bool) (value : BitVec 9) (framingLow : Bool) : List Bool :=
  if glitch then [false, true]
  else false :: (List.range 9).map (fun k => value.getLsbD k) ++ (if framingLow then [] else [true])

/-- CHARACTER_RECEIVED (R520 to R526): the nine levels after a start edge, first in bit 0. Nothing is received while the
hub itself has characters to send (R526), or where the slot is not powered and clocked. `early`: the level was low as the
search for the ATR's start bit was armed, or fell before it; it is no start bit, and the search waits for I/O to rise
(R490). -/
def execCharacterReceived (slot : Nat) (glitch early : Bool) (value : BitVec 9) (framingLow : Bool) (s : State) : Res :=
  let low := (slotGet s slot).line.waitRise
  let s := takeLevels slot (!low) (true :: charLevels glitch value framingLow) s
  let s' := if glitch then s else riseToAtr slot (modSlot slot (fun x => { startEdge x with
    line := { x.line with heardAt := some s.sys.tick } }) s)
  let x := slotGet s' slot
  .next (if !x.pins.vccOn || decide (x.cfg.kind ≠ .iso) then s
    else if x.st = .asleep then (if glitch then s else stoppedChar slot s)
    else if !(decide (x.st = .atr) || decide (x.st = .busy) || decide (x.st = .ready)) then s
    else if glitch then
      traceAdd slot 2 3 (modSlot slot (fun x => { x with ch := { x.ch with chLast := 3 } }) s)
    else if x.line.tx ≠ [] then s
    else if early && decide (x.line.mode = .atr) && decide (x.line.rx = []) then
      modSlot slot (fun x => { x with line := { x.line with waitRise := true } }) s'
    else
      let (b, par) := decodeChar (atrInverse x value) value
      takeChar slot b par (!framingLow) s')

end Machine
end Sys2Proof
end

