-- ==== Sys2Proof/Machine/Log.lean ====
section
/-!
DEFINITION. Event log, snapshots, boot count journal and flash wear (23): the ring, retirement, the BOOT scan, fetches.
-/
namespace Sys2Proof
namespace Machine

/-! ### The ring -/

/-- A sector of the ring. -/
def ringGet (s : State) (i : Nat) : LogSector := tblGet {} s.log.ring i

/-- Replace a sector of the ring. -/
def ringSet (i : Nat) (x : LogSector) (s : State) : State :=
  { s with log := { s.log with ring := tblSet {} s.log.ring i x } }

/-- The ring's sectors in order behind `h`. -/
def ringSeq (h : Nat) : List Nat := (List.range 255).map (fun i => (h + 1 + i) % 256)

/-- Sectors behind `h` that the head can move to: in the ring, holding no snapshot (R793). -/
def ringFree (s : State) (h : Nat) : List Nat :=
  (ringSeq h).filter (fun i => !(ringGet s i).gone && !(ringGet s i).snap)

/-- The two sectors of the reserve: the first two behind the head (R154, R796). -/
def reserveSectors (s : State) : List Nat := (ringFree s s.log.head).take 2

/-- A sector is erased. -/
def erasedSector (s : State) (i : Nat) : Bool := decide (ringGet s i = {})

/-- The sector to erase when the head is full: the next one beyond the reserve (R793). -/
def eraseTarget (s : State) : Option Nat :=
  match (reserveSectors s).getLast? with
  | none => none
  | some r => ((ringSeq r).filter (fun i => !(ringGet s i).gone && decide (i ≠ s.log.head))).head?

/-- The head sector has no erased slot left. -/
def headFull (s : State) : Bool := decide (16 ≤ (ringGet s s.log.head).slots.length)

/-- Records are written at present: not while a power failure is declared (R152), not frozen (R801), not in RAM-only
logging (R805), not in RECOVERY (R796), and from RIGGING on, when the scan has ended; in FATAL too (R811). -/
def logWrites (s : State) : Bool :=
  !s.sup.pf && !s.log.frozen && !ramOnly s &&
    (match s.sys.state with
     | .off | .reset | .boot | .recovery | .replay => false
     | _ => true)

/-- An erase ahead of the head is due (R793). -/
def logErasing (s : State) : Bool :=
  logWrites s && headFull s && ((eraseTarget s).map (fun i => !erasedSector s i)).getD false

/-- The reserve is being completed (R154). -/
def reserveErasing (s : State) : Bool :=
  writesRecord s.sys.state && !s.sup.pf && !s.log.frozen && !ramOnly s && decide (s.sup.reserve < 2)

/-! ### Wear and retirement -/

/-- The physical sector behind an address: replacements are followed (R788, R803). -/
def physSector (s : State) : Nat → Nat → Nat
  | 0, k => k
  | n + 1, k =>
    match s.log.remap.find? (fun e => decide (e.1 = k)) with
    | none => k
    | some e => physSector s n e.2

/-- Wear of a sector. -/
def sectorGet (s : State) (k : Nat) : Sector := tblGet {} s.log.sectors k

/-- Change a sector's wear. -/
def modSector (k : Nat) (f : Sector → Sector) (s : State) : State :=
  { s with log := { s.log with sectors := tblSet {} s.log.sectors k (f (sectorGet s k)) } }

/-- The bytes of a wear table (Table - Wear table). -/
def wearBytes (w : WearTable) : List Byte :=
  let sec := fun (k : Nat) => tblGet {} w.sectors k
  let body := natLe 4 w.generation ++ natLe 4 (0xFFFFFFFF - w.generation) ++
    ((List.range 1024).map (fun k => natLe 3 (sec k).erases)).flatten ++
    (List.range 256).map (fun i => byte ((sec (4 * i)).status + 4 * (sec (4 * i + 1)).status + 16 * (sec (4 * i + 2)).status +
      64 * (sec (4 * i + 3)).status)) ++
    (List.range 164).flatMap (fun i => let e := w.remap.getD i (0xFFFF, 0xFFFF); natLe 2 e.1 ++ natLe 2 e.2) ++
    List.replicate 8 0xFF
  body ++ natLe 4 (crc32 body)

/-- The valid wear table of higher generation (R787). -/
def wearNewer (l : Log) : WearTable := if l.wearB.generation ≤ l.wearA.generation then l.wearA else l.wearB

/-- The wear table that holds the present counts, statuses and remap list, one generation above the newer one. -/
def wearNow (l : Log) : WearTable :=
  { generation := (wearNewer l).generation + 1, sectors := l.sectors, remap := l.remap }

/-- The wear table is written over the one of lower generation (R787); its sector is erased first. -/
def wearWrite (l : Log) : Log :=
  let tick := fun (k : Nat) => tblSet {} l.sectors k
    { tblGet {} l.sectors k with erases := min 0xFFFFFF ((tblGet {} l.sectors k).erases + 1) }
  if l.wearB.generation ≤ l.wearA.generation then
    { l with sectors := tick 857, wearB := wearNow { l with sectors := tick 857 }, wearDue := false }
  else { l with sectors := tick 856, wearA := wearNow { l with sectors := tick 856 }, wearDue := false }

/-- Write the wear table (R787); while a power failure is declared the write waits for its release (R152). -/
def wearSave (s : State) : State :=
  { s with log := if s.sup.pf then { s.log with wearDue := true } else wearWrite s.log }

/-- A flash operation of this tick: an erase or a program, its sector, its retries, whether it went well (R891). -/
def noteFlash (erase : Bool) (k retries : Nat) (good : Bool) (s : State) : State :=
  { s with log := { s.log with ops := s.log.ops ++ [(erase, k, retries, good)] } }

/-- One more erase of a sector. -/
def bumpErase (k : Nat) (s : State) : State :=
  modSector k (fun x => { x with erases := min 0xFFFFFF (x.erases + 1) }) s

/-- Count an erase that needed no retry. -/
def countErase (k : Nat) (s : State) : State := noteFlash true k 0 true (bumpErase k s)

/-- More than one retry: the sector is tired and LOG_WEAR is raised (R802). -/
def tireSector (k retries : Nat) (s : State) : State :=
  let s := if (sectorGet s k).status = 0 then
      wearSave (queueRec 9 [k, retries, 1, 0xFFFF] (modSector k (fun x => { x with status := 1 }) s)) else s
  raise .log 0 s

/-- The lowest free spare sector. -/
def freeSpare (s : State) : Option Nat :=
  ((List.range 164).map (fun i => 860 + i)).find? (fun k => decide ((sectorGet s k).status = 0))

/-- SECTOR_RETIRED, with RAM_ONLY where the retirement sets it (R776, R777). -/
def raiseRetired (ramBefore : Bool) (s : State) : State :=
  if (stickyBits s.fb.log &&& 0x00C) ≠ 0 then s
  else if ramOnly s && !ramBefore then raiseMany .log [1, 2] s
  else raise .log 1 s

/-- A sector that still fails after eight retries is retired (R803); answers whether the write went on in a spare. A log
sector without a spare leaves the ring (R804). -/
def retireSector (k : Nat) (s : State) : State × Bool :=
  let before := ramOnly s
  match freeSpare s with
  | some r =>
    let s := modSector r (fun x => { x with status := 3 }) (modSector k (fun x => { x with status := 2 }) s)
    let s := { s with log := { s.log with remap := s.log.remap ++ [(k, r)] } }
    (raiseRetired before (wearSave (queueRec 9 [k, 8, 2, r] s)), true)
  | none =>
    let s := modSector k (fun x => { x with status := 2 }) s
    let s := if 344 ≤ k ∧ k < 600 then ringSet (k - 344) { gone := true } s else s
    (raiseRetired before (wearSave (queueRec 9 [k, 8, 2, 0xFFFF] s)), false)

/-- The wear tables and the boot count journal are never retired (R788, R791). -/
def neverRetired (k : Nat) : Bool := decide (856 ≤ k) && decide (k ≤ 859)

/-- A program or an erase at sector address `k` that took `retries` retries (9: still failing after eight). -/
def flashOp (erase : Bool) (k retries : Nat) (s : State) : State × Bool :=
  let p := physSector s 164 k
  let s := noteFlash erase p (min retries 8) (decide (retries ≤ 8)) s
  if retries ≤ 1 then (s, true)
  else if retries ≤ 8 ∨ neverRetired k = true then (tireSector p retries s, true)
  else retireSector p s

/-- A program. -/
def flashAt (k retries : Nat) (s : State) : State × Bool := flashOp false k retries s

/-- An erase, which is counted. -/
def eraseAt (k retries : Nat) (s : State) : State × Bool := flashOp true k retries (bumpErase (physSector s 164 k) s)

/-- Several such results, in order: whether all went on. -/
def flashAll : List (Nat × Nat) → State → State × Bool
  | [], s => (s, true)
  | e :: l, s =>
    let (s, ok) := flashAt e.1 e.2 s
    let (s, ok') := flashAll l s
    (s, ok && ok')

/-! ### Boot count journal (R789 to R791) -/

/-- Bytes 0 to 6 of the entry of a count (Table - Journal entry): the count, its complement, the check byte. -/
def journalBody (n : Nat) : List Byte :=
  let b := natLe 3 n ++ natLe 3 (0xFFFFFF - n % 2 ^ 24)
  b ++ [BitVec.ofNat 8 (crc8 48 (beNat b))]

/-- The entry of a count, its mark programmed. -/
def journalEntry (n : Nat) : List Byte := journalBody n ++ [0xA5]

/-- An entry that failed its verify: no valid mark (R790). -/
def journalBad (n : Nat) : List Byte := journalBody n ++ [0xFF]

/-- The count of an entry, where it is valid (R789). -/
def journalCount (e : List Byte) : Option Nat :=
  let n := leNat (e.take 3)
  if e = journalEntry n then some n else none

/-- The stored boot count: the highest valid entry, or 0. -/
def storedBoot (s : State) : Nat :=
  (s.log.journalA ++ s.log.journalB).foldl (fun a e => max a ((journalCount e).getD 0)) 0

/-- Sector A holds the newest valid entry. -/
def journalOnA (s : State) : Bool :=
  decide (storedBoot s = 0) || s.log.journalA.contains (journalEntry (storedBoot s))

/-- Append one journal entry to the active sector; with no erased entry left, to the other one, and the sector that no
longer holds the newest valid entry is erased after the first commit into it (R790, R791). -/
def journalAppend (e : List Byte) (s : State) : State :=
  let l := s.log
  let valid := (journalCount e).isSome
  if journalOnA s then
    if l.journalA.length < 512 then { s with log := { l with journalA := l.journalA ++ [e] } }
    else if valid then countErase 858 { s with log := { l with journalA := [], journalB := l.journalB ++ [e] } }
    else { s with log := { l with journalB := l.journalB ++ [e] } }
  else if l.journalB.length < 512 then { s with log := { l with journalB := l.journalB ++ [e] } }
  else if valid then countErase 859 { s with log := { l with journalB := [], journalA := l.journalA ++ [e] } }
  else { s with log := { l with journalA := l.journalA ++ [e] } }

/-- In RUN the sector that does not hold the newest valid entry is erased where the BOOT scan found it not fully erased
(R791). -/
def journalTidy (s : State) : State :=
  if journalOnA s then
    if s.log.journalB = [] then s else countErase 859 { s with log := { s.log with journalB := [] } }
  else if s.log.journalA = [] then s else countErase 858 { s with log := { s.log with journalA := [] } }

/-- Commit a boot count: `bad` entries fail verify after eight retries first, each raising LOG_WEAR (R790). -/
def commitBoot (n bad : Nat) (s : State) : State :=
  let s := (List.replicate bad (journalBad n)).foldl (fun s e => raise .log 0 (journalAppend e s)) s
  journalAppend (journalEntry n) s

/-! ### Scan, records, fetches -/

/-- Every valid record in the ring. -/
def ringRecords (s : State) : List LogRec := (s.log.ring.map (fun e => e.2.slots.filterMap id)).flatten

/-- One above the highest sequence number found in a valid record, 0 where there is none (R795). -/
def scanNext (s : State) : Nat :=
  ((ringRecords s).map (fun (r : LogRec) => r.seq + 1) ++
    s.log.snaps.map (fun (e : Nat × Nat × Snapshot) => e.2.2.seq + 1)).foldl max 0

/-- Oldest sequence number held, or the next number where nothing is held (LOG_OLDEST). -/
def logOldest (s : State) : Nat :=
  let held := if ramOnly s then s.log.queue.map (fun r => r.seq)
    else (ringRecords s ++ s.log.queue).map (fun r => r.seq) ++ s.log.snaps.map (fun e => e.2.2.seq)
  (minNat held).getD s.log.next

/-- The latest valid snapshot: the one with the highest sequence number (R800). -/
def latestSnap (s : State) : Option Snapshot :=
  s.log.snaps.foldl (fun a e => match a with
    | none => some e.2.2
    | some b => if b.seq < e.2.2.seq then some e.2.2 else a) none

/-- Number queued records afresh from `n`. -/
def renumber : Nat → List LogRec → List LogRec
  | _, [] => []
  | n, r :: l => { r with seq := n } :: renumber (n + 1) l

/-- The BOOT scan (R787, R795, R796): wear loaded, queued records numbered, the reserve judged; a record without its commit
marker is found invalid (R157). -/
def logScan (s : State) : State :=
  let n := scanNext s
  let lost := s.sup.partialRecord
  let s := { s with
    log := { s.log with
      queue := renumber n s.log.queue, next := n + s.log.queue.length, frozen := decide (0x3FFFFFFF < n),
      sectors := (wearNewer s.log).sectors, remap := (wearNewer s.log).remap }
    sup := { s.sup with partialRecord := false } }
  let s := { s with sup := { s.sup with reserve := ((reserveSectors s).filter (erasedSector s)).length } }
  if lost then raise .sys 3 s else s

/-- After a write at the head: a full head moves on at once where the sector beyond the reserve is erased (R793). -/
def headAdvance (s : State) : State :=
  if headFull s then
    match eraseTarget s, (reserveSectors s).head? with
    | some t, some r => if erasedSector s t && erasedSector s r then { s with log := { s.log with head := r } } else s
    | _, _ => s
  else s

/-- LOG_RECORD_WRITE (R792, R801 to R804): the oldest queued record goes into the next erased slot at the head. -/
def execLogRecordWrite (retries : Nat) (s : State) : Res :=
  match s.log.queue with
  | [] => .next s
  | r :: _ =>
    if logWrites s && !headFull s then
      let h := s.log.head
      let (s, ok) := flashAt (344 + h) retries s
      if ok then
        let s := ringSet h { ringGet s h with slots := (ringGet s h).slots ++ [some r] } s
        let s := { s with log := { s.log with queue := s.log.queue.filter (fun x => decide (x.seq ≠ r.seq)) } }
        let s := headAdvance s
        if r.seq = 0x3FFFFFFF then
          .next (raise .log 3 { s with log := { s.log with frozen := true } })
        else .next s
      else
        .next { s with log := { s.log with head := ((ringFree s h).head?).getD h }
                       sup := { s.sup with reserve := min s.sup.reserve 1 } }
    else .next s

/-- A fetch in progress reads sector `t` (R807). -/
def fetchReads (s : State) (t : Nat) : Bool :=
  [s.log.fetch.a, s.log.fetch.b].any (fun f => f.busy &&
    (match f.want with
     | some n => (ringGet s t).slots.any (fun e => decide (e.map (fun r => r.seq) = some n)) ||
         s.log.snaps.any (fun e => decide (e.2.2.seq = n) && (decide (e.1 = t) || decide (e.2.1 = t)))
     | none => s.log.snaps.any (fun e => decide (e.1 = t) || decide (e.2.1 = t))))

/-- LOG_SECTOR_ERASE (R793, R803, R808): the erase ahead of the head completes, and the head moves on. The missing sectors
of the reserve are erased ahead of it (R154). -/
def execLogSectorErase (retries : Nat) (s : State) : Res :=
  match eraseTarget s with
  | none => .next s
  | some t =>
    if logErasing s && !reserveErasing s && !fetchReads s t then
      let (s, ok) := eraseAt (344 + t) retries s
      if ok then
        let s := { s with log := { s.log with
          snaps := s.log.snaps.filter (fun e => decide (e.1 ≠ t) && decide (e.2.1 ≠ t)) } }
        .next (headAdvance (ringSet t {} s))
      else .next s
    else .next s

/-- The hourly write of the wear table takes some retries; one that fails leaves its table invalid, to be written again at its
next turn, and the other keeps the hub's knowledge (R787, R788). -/
def wearTurn (retries : Nat) (s : State) : State :=
  if s.sup.pf then wearSave s
  else
    let onB := decide (s.log.wearB.generation ≤ s.log.wearA.generation)
    let s := (flashOp false (if onB then 857 else 856) retries (wearSave s)).1
    if retries ≤ 8 then s
    else if onB then { s with log := { s.log with wearB := {} } } else { s with log := { s.log with wearA := {} } }

/-- WEAR_TABLE_WRITE (R787): in RUN and STANDBY once per hour. -/
def execWearTableWrite (retries : Nat) (s : State) : Res :=
  if s.sys.state = .run ∨ s.sys.state = .standby then .next (wearTurn retries s) else .next s

/-- LOG_CMD (R806, R807): 1 FETCH, 2 FETCH_PF. -/
def logFetchStart (p : Port) (want : Option Nat) (s : State) : State :=
  let f := perPortGet s.log.fetch p
  { s with log := { s.log with fetch := perPortSet s.log.fetch p { f with busy := true, want := want } } }

/-- What a fetch finds: the RAM queue, and the ring with its snapshots unless logging is RAM-only (R805, R806). -/
def fetchFind (s : State) (want : Option Nat) : Option (List Byte) :=
  match want with
  | none => (latestSnap s).map snapshotBytes
  | some n =>
    match ((if ramOnly s then [] else ringRecords s) ++ s.log.queue).find? (fun r => decide (r.seq = n)) with
    | some r => some (recordBytes r)
    | none =>
      if ramOnly s then none
      else (s.log.snaps.find? (fun e => decide (e.2.2.seq = n))).map (fun e => snapshotBytes e.2.2)

/-- RESULT of a fetch that finds nothing: NOT_FOUND outside the numbers held (R812), else NOT_AVAILABLE. -/
def fetchMiss (s : State) (want : Option Nat) : Nat :=
  match want with
  | none => 2
  | some n => if s.log.next ≤ n ∨ n < logOldest s then 2 else 3

/-- LOG_FETCH_DONE (R806): the buffer takes the record, RESULT and LOG_FLEN show the outcome. -/
def execLogFetchDone (p : Port) (s : State) : Res :=
  let f := perPortGet s.log.fetch p
  if f.busy then
    let f' : Fetch := match fetchFind s f.want with
      | some b => { busy := false, result := 1, len := b.length / 64, bytes := b, want := none }
      | none => { f with busy := false, result := fetchMiss s f.want, len := 0, bytes := [], want := none }
    .next { s with log := { s.log with fetch := perPortSet s.log.fetch p f' } }
  else .next s

end Machine
end Sys2Proof
end

