-- ==== Sys2Proof/Machine/SdCards.lean ====
section
/-!
DEFINITION. Memory cards in SPI mode (17): initialisation, single blocks, runs of a local slot, status registers.
-/
namespace Sys2Proof
namespace Machine

/-- Change the memory card engine of a slot. -/
def modSd (k : Nat) (f : Sd → Sd) (s : State) : State := modSlot k (fun x => { x with sd := f x.sd }) s

/-- An R1 byte that is an error (R599): bits [6:2], and outside SD_INIT bit 0. -/
def r1Bad (v : Byte) : Bool := decide (v &&& 0x7D ≠ 0)

/-- An R1 byte that ends SD_INIT. -/
def r1BadInit (v : Byte) : Bool := decide (v &&& 0x7C ≠ 0)

/-- End an order that carries no data, with a LENGTH. -/
def endRunLen (k code len : Nat) (s : State) : State :=
  match (slotGet s k).run with
  | none => s
  | some r =>
    let s := modSlot k (fun x => { x with run := none, x := {}, line := {} }) s
    if isLocal k then endOrderId r.oid code len s else satDone k r code [] 0 s

/-! ### On the wire (R595 to R603) -/

/-- The six bytes of a command (R595). -/
def sdCommand (index arg : Nat) : List Byte :=
  let l := byte (0x40 + index) :: natBe 4 arg
  l ++ [byte (2 * crc7 l + 1)]

/-- Bytes go to the card. -/
def sdSend (k : Nat) (l : List Byte) (s : State) : State := modSd k (fun d => { d with sent := d.sent ++ [l] }) s

/-- A command goes to the card. -/
def sdCmd (k index arg : Nat) (s : State) : State := sdSend k (sdCommand index arg) s

/-- A transaction begins: nothing has been sent in it. -/
def sdOpen (k : Nat) (s : State) : State := modSd k (fun d => { d with sent := [] }) s

/-- A response: the first byte with bit 7 clear, within so many bytes, and what follows it (R596). -/
def sdReply : Nat → List Byte → Option (Byte × List Byte)
  | 0, _ => none
  | _, [] => none
  | n + 1, b :: l => if b.getLsbD 7 then sdReply n l else some (b, l)

/-- The first `n` bytes; a DO line that is not driven reads high. -/
def sdBytes (n : Nat) (l : List Byte) : List Byte := (l ++ List.replicate n 0xFF).take n

/-- What a read data block is (R600, R601). -/
inductive SdBlock where
  | missing
  | error (token : Byte)
  | mismatch
  | good (data : List Byte)
  deriving DecidableEq, Repr

/-- A read data block of `n` bytes: start token, data, CRC-16; an error token; or no token yet (R600). -/
def sdBlock (n : Nat) : List Byte → SdBlock
  | [] => .missing
  | b :: l =>
    if b = 0xFE then
      let data := sdBytes n l
      if crc16Sd data = beNat (sdBytes 2 (l.drop n)) then .good data else .mismatch
    else if b.toNat / 16 = 0 ∧ b ≠ 0 then .error b
    else sdBlock n l

/-- A write data block after its R1: a byte of 0xFF, the token, the data, their CRC-16 (R602). -/
def sdWriteBlock (run : Bool) (data : List Byte) : List Byte :=
  let d := sdBytes 512 data
  [0xFF, if run then 0xFC else 0xFE] ++ d ++ natBe 2 (crc16Sd d)

/-- The address of a block: its number for SDHC and SDXC, 512 times it for SDSC (Table - Commands used). -/
def sdAddr (d : Sd) (n : Nat) : Nat := if d.type = 1 then 512 * n else n

/-- Between orders: CS and DI high, CS low inside an open run, SCLK stopped low (R597, R598). -/
def sdRest (x : Slot) : Slot :=
  { x with st := .ready, sd := { x.sd with phase := .idle, writing := false }
           pins := { x.pins with rst := !x.sd.run, clkRun := false, clkHigh := false, aux1 := true } }

/-- The hub clocks on with the card selected: for a token, or while the card is busy (R600, R603). -/
def sdWait (ph : SdPhase) (x : Slot) : Slot :=
  { x with st := if x.st = .rising then .rising else .busy, sd := { x.sd with phase := ph }
           pins := { x.pins with rst := false, clkRun := true } }

/-- Orders of a write run whose blocks are done return together (R613, R614). -/
def endRunDone (k code len : Nat) (s : State) : State :=
  let l := (slotGet s k).sd.runDone
  l.foldl (fun s oid => endOrderId oid code len s)
    (modSd k (fun d => { d with runDone := [], run := false, runWrite := false, runCount := 0 }) s)

/-- The order ends with SD_ERROR or TIMEOUT_CARD and the card is deactivated (R604); completed writes of its run return OK
(R614). -/
def sdFall (k last code : Nat) (s : State) : State :=
  let s := endRunDone k 0 512 (modSd k (fun d => { d with last := last, phase := .idle, writing := false }) s)
  endFall k code s

/-- The order ends with SD_ERROR and the slot stays READY (R599, R608, R609). -/
def sdError (k last : Nat) (s : State) : State :=
  endRunLen k 0x04D 0 (modSlot k sdRest (modSd k (fun d => { d with last := last }) s))

/-- The R1 of a command is taken (R596, R599): none ends the order with TIMEOUT_CARD; in SD_INIT an error deactivates the
card, and bit 0 is none. -/
def sdR1 (k : Nat) (init : Bool) (rx : List Byte) (go : List Byte → State → State) (s : State) : State :=
  match sdReply 8 rx with
  | none => sdFall k 5 0x049 s
  | some (v, rest) =>
    let s := modSd k (fun d => { d with r1 := v.toNat }) s
    if init then (if r1BadInit v then sdFall k 1 0x04D s else go rest s)
    else if r1Bad v then sdError k 1 s
    else go rest s

/-- A block is read: an error token ends the order, no token leaves it waiting (R600); at a CRC mismatch `reread` sends the
command again and `again` holds its response, and a second mismatch ends the order (R601). -/
def sdTake (k n : Nat) (init : Bool) (rx again : List Byte) (reread : State → State) (go : List Byte → State → State)
    (s : State) : State :=
  let failed := fun (b : Byte) (s : State) => sdFall k 2 0x04D (modSd k (fun d => { d with r1 := b.toNat }) s)
  let missed := fun (s : State) => modSd k (fun d => { d with crc := satInc d.crc, last := 4 }) s
  match sdBlock n rx with
  | .missing => modSlot k (sdWait .token) s
  | .error b => failed b s
  | .good l => go l s
  | .mismatch =>
    sdR1 k init again (fun rx s =>
      match sdBlock n rx with
      | .missing => modSlot k (sdWait .token) s
      | .error b => failed b s
      | .good l => go l s
      | .mismatch => sdFall k 4 0x04D (missed s)) (reread (missed s))

/-! ### Initialisation (R491, R605 to R607) -/

/-- The slot is powered at 3.3 V and clocked at N = 2000 (R491). -/
def sdPower (k : Nat) (s : State) : State :=
  traceAll k [(3, 3), (3, 4), (3, 5), (5, 5)] (modSlot k (fun x => { x with
    st := .rising, cls := 0, tripInForce := x.cfg.trip, slowSeen := false
    pins := { vccOn := true, rst := true, clkRun := true, ioLow := false, aux1 := true }
    sd := { div := sdDivOf s k }, ch := { x.ch with div := 2000 } }) s)

/-- CMD0, sent so often at most while the R1 is not 0x01 (R605); `go` follows an R1 of 0x01. -/
def sdReset (k : Nat) (go : State → State) : Nat → List (List Byte) → State → State
  | 0, _, s => sdFall k 1 0x04D s
  | n + 1, l, s =>
    let s := sdCmd k 0 0 s
    match sdReply 8 (l.headD []) with
    | none => sdFall k 5 0x049 s
    | some (v, _) =>
      let s := modSd k (fun d => { d with r1 := v.toNat }) s
      if v = 0x01 then go s else sdReset k go n (l.drop 1) s

/-- CMD8 (R605): an illegal command means version 1; an R7 that does not echo ends the initialisation. -/
def sdVersion (k : Nat) (rx : List Byte) (s : State) : State :=
  let s := sdCmd k 8 0x1AA s
  match sdReply 8 rx with
  | none => sdFall k 5 0x049 s
  | some (v, rest) =>
    let s := modSd k (fun d => { d with r1 := v.toNat }) s
    let l := sdBytes 4 rest
    if v.getLsbD 2 then modSd k (fun d => { d with v2 := false, arg41 := 0, phase := .acmd41 }) s
    else if r1BadInit v then sdFall k 1 0x04D s
    else if l.getD 2 0 ≠ 0x01 ∨ l.getD 3 0 ≠ 0xAA then sdFall k 8 0x04D s
    else modSd k (fun d => { d with v2 := true, arg41 := 0x40000000, phase := .acmd41 }) s

/-- SD_INIT (R605): power, CMD0 up to three times, CMD8. `cmd0` holds the bytes after each sending of CMD0, `cmd8` those
after CMD8. Without VSL5 a local slot cannot be powered (R142). -/
def execSdInit (slot : Nat) (cmd0 : List (List Byte)) (cmd8 : List Byte) (s : State) : Res :=
  match toBegin s slot [0x09] with
  | some _ =>
    let s := takeBytes slot 64 (cmd0.flatten ++ cmd8) s
    .next (if (slotGet s slot).st ≠ .present ∨ satPowers s slot = false then s
      else if noSupply s slot then endCold slot 0x044 (begin_ slot s)
      else sdReset slot (sdVersion slot cmd8) 3 cmd0 (sdPower slot (begin_ slot s)))
  | none => .next s

/-- Capacity in blocks of a CSD of structure 0 or 1 (R606). -/
def csdBlocks (csd : List Byte) : Option Nat :=
  let v := beNat csd
  match field v 126 2 with
  | 0 => some ((field v 62 12 + 1) * 2 ^ (field v 47 3 + 2) * 2 ^ field v 80 4 / 512)
  | 1 => some ((field v 48 22 + 1) * 1024)
  | _ => none

/-- The card is initialised: SD_DIV in force, READY, OK (R605, R607). -/
def sdReady (k : Nat) (s : State) : State :=
  let div := (slotGet s k).sd.div
  let s := modSlot k (fun x => { sdRest x with ch := { x.ch with div := div } }) s
  let s := if isLocal k then activationDone k s else s
  endReady k 0 [] 0 (traceAdd k 5 4 s)

/-- The CSD is judged (R605, R606); a standard-capacity card takes CMD16. -/
def sdCsd (k : Nat) (ocr : Nat) (cmd16 csd : List Byte) (s : State) : State :=
  match csdBlocks csd with
  | none => sdFall k 13 0x04D s
  | some cap =>
    let high := (slotGet s k).sd.v2 && bitAt ocr 30
    let type := if high then (if 67108864 < cap then 3 else 2) else 1
    let wp := bitAt (beNat csd) 12 || bitAt (beNat csd) 13
    let s := modSd k (fun d => { d with type := type, cap := cap, csdWp := wp }) s
    if high then sdReady k s else sdR1 k true cmd16 (fun _ s => sdReady k s) (sdCmd k 16 0x200 s)

/-- After ACMD41 has answered 0x00: CMD58, CMD9, CMD16 (R605). -/
def sdIdentify (k : Nat) (cmd58 cmd9 again cmd16 : List Byte) (s : State) : State :=
  sdR1 k true cmd58 (fun rx s =>
    let ocr := beNat (sdBytes 4 rx)
    if bitAt ocr 20 = false ∨ bitAt ocr 21 = false then sdFall k 9 0x04D s
    else sdR1 k true cmd9 (fun rx s => sdTake k 16 true rx again (sdCmd k 9 0) (sdCsd k ocr cmd16) s) (sdCmd k 9 0 s))
    (sdCmd k 58 0 s)

/-- SD_ACMD41_POLL (R605, R631): the 1 s limit is judged before each new ACMD41. The operands hold the bytes after each
command. -/
def execSdAcmd41Poll (slot : Nat) (cmd55 cmd41 cmd58 cmd9 again cmd16 : List Byte) (s : State) : Res :=
  let x := slotGet s slot
  let s := takeBytes slot 64 (cmd55 ++ cmd41 ++ cmd58 ++ cmd9 ++ again ++ cmd16) s
  let tick := s.sys.tick
  .next (if x.sd.phase = .acmd41 ∧ x.st = .rising then
      if x.sd.polled = true ∧ 800000000 < tick - x.sd.start41 then sdFall slot 10 0x04D s
      else
        let s := modSd slot (fun d => { d with
          polled := true, start41 := if d.polled then d.start41 else tick }) s
        sdR1 slot true cmd55 (fun _ s =>
          sdR1 slot true cmd41 (fun _ s =>
            if (slotGet s slot).sd.r1 = 0 then sdIdentify slot cmd58 cmd9 again cmd16 s else s)
            (sdCmd slot 41 x.sd.arg41 s)) (sdCmd slot 55 0 (sdOpen slot s))
    else s)

/-! ### Runs (R610 to R614) -/

/-- The block number of an order's bytes 0 to 3. -/
def blockNo (s : State) (k : Nat) (r : Running) : Nat := leNat ((runBytes s k r).take 4)

/-- The order that would reach stage 9 next at a local slot is of the same kind for the next block (R610). -/
def nextInRun (s : State) (k op block oid : Nat) : Bool :=
  isLocal k && (match s.ord.orders.find? (fun o => (orderSlots o).contains k && decide (oid < o.id)) with
    | some o => decide (o.opcode = op) && decide (leNat (chainBytes s o 0 4) = block)
    | none => false)

/-- Some order waits at the slot behind the one named. -/
def someNext (s : State) (k oid : Nat) : Bool :=
  s.ord.orders.any (fun o => (orderSlots o).contains k && decide (oid < o.id))

/-- A run of a local slot goes on behind the block just done: with the next block, or waiting for one (R610, R611). -/
def runStays (s : State) (k op block oid : Nat) : Bool :=
  let d := (slotGet s k).sd
  isLocal k && decide (d.runCount < 15) && (nextInRun s k op (block + 1) oid || (d.run && !someNext s k oid))

/-- Blocks of the run with one more. -/
def runGrow (k block : Nat) (write : Bool) (s : State) : State :=
  modSd k (fun d => { d with run := true, runWrite := write, nextBlock := block, runCount := d.runCount + 1 }) s

/-- An open read run closes with CMD12 (R612). -/
def closeRead (k : Nat) (s : State) : State :=
  if (slotGet s k).sd.run then
    sdCmd k 12 0 (modSlot k (fun x => { x with sd := { x.sd with run := false, runCount := 0 } }) s)
  else s

/-- The block is the next of the open run of its kind: it needs no command of its own. -/
def inOpenRun (d : Sd) (write : Bool) (block : Nat) : Bool :=
  d.run && decide (d.runWrite = write) && decide (d.nextBlock = block)

/-- An open write run must close before anything but its next block (R611, R613). -/
def mustClose (d : Sd) (write : Bool) (block : Nat) : Bool := d.run && d.runWrite && !inOpenRun d write block

/-- A read block has passed its checks (R601, R609, R612). -/
def readOk (k oid block : Nat) (data : List Byte) (s : State) : State :=
  let s := if runStays s k 0x0A block oid then runGrow k (block + 1) false s else closeRead k s
  endReady k 0 data data.length (modSlot k sdRest s)

/-- SD_READ (R608 to R612): `rx` holds the bytes after CMD17 or CMD18, or inside an open run those of its next block;
`again` those after the CMD17 that reads the block once more. -/
def execSdRead (slot : Nat) (rx again : List Byte) (s : State) : Res :=
  match toBegin s slot [0x0A] with
  | some r =>
    let s := takeBytes slot 64 (rx ++ again) s
    let n := blockNo s slot r
    let d := (slotGet s slot).sd
    .next (if (slotGet s slot).st = .ready ∧ mustClose d false n = false then
        let s := modSd slot (fun d => { d with block := n }) (sdOpen slot (begin_ slot s))
        let take := fun (rx : List Byte) (s : State) =>
          sdTake slot 512 false rx again (fun s => sdCmd slot 17 (sdAddr d n) (closeRead slot s)) (readOk slot r.oid n) s
        if d.cap ≤ n then sdError slot 11 (closeRead slot s)
        else if inOpenRun d false n then take rx s
        else
          let more := nextInRun s slot 0x0A (n + 1) r.oid
          sdR1 slot false rx take (sdCmd slot (if more then 18 else 17) (sdAddr d n) (closeRead slot s))
      else s)
  | none => .next s

/-- SD_TOKEN_TIMEOUT (R600). -/
def execSdTokenTimeout (slot : Nat) (s : State) : Res :=
  let x := slotGet s slot
  .next (if x.sd.phase = .token ∧ (x.st = .busy ∨ x.st = .rising) then sdFall slot 6 0x049 s else s)

/-- The block of a write goes to the card, and its data response is judged (R602): an accepted one leaves the card busy. -/
def writeBlock (k : Nat) (run : Bool) (data : List Byte) (response : Byte) (s : State) : State :=
  let s := modSd k (fun d => { d with r1 := response.toNat }) (sdSend k (sdWriteBlock run data) s)
  if response &&& 0x1F = 0x05 then modSlot k (fun x => { sdWait .busy x with
    sd := { x.sd with phase := .busy, writing := true } }) s
  else sdFall k 3 0x04D s

/-- SD_WRITE (R602, R608 to R613): `rx` holds the bytes after CMD24 or CMD25, none inside an open run. -/
def execSdWrite (slot : Nat) (rx : List Byte) (response : Byte) (s : State) : Res :=
  match toBegin s slot [0x0B] with
  | some r =>
    let s := takeBytes slot 64 (rx ++ [response]) s
    let n := blockNo s slot r
    let d := (slotGet s slot).sd
    .next (if (slotGet s slot).st = .ready ∧ mustClose d true n = false then
        let data := (runBytes s slot r).drop 4
        let s := modSd slot (fun d => { d with block := n }) (sdOpen slot (begin_ slot s))
        let more := nextInRun s slot 0x0B (n + 1) r.oid
        if d.cap ≤ n then sdError slot 11 (closeRead slot s)
        else if inOpenRun d true n then writeBlock slot true data response s
        else sdR1 slot false rx (fun _ s => writeBlock slot more data response s)
          (sdCmd slot (if more then 25 else 24) (sdAddr d n) (closeRead slot s))
      else s)
  | none => .next s

/-- A write, or a run of writes, closes (R609, R613): a run with the stop token first, then CMD13. Every order of it returns
together: OK when the R2 is 0x0000, SD_ERROR otherwise, TIMEOUT_CARD without one (R596). -/
def closeWrite (k : Nat) (rx : List Byte) (s : State) : State :=
  let s := if (slotGet s k).sd.run then sdSend k [0xFD, 0xFF] s else s
  let s := sdCmd k 13 0 s
  let ends := fun (code len : Nat) (s : State) =>
    let s := endRunDone k code len s
    if ((slotGet s k).run.map (fun r => r.begun)).getD false then endRunLen k code len (modSlot k sdRest s)
    else modSlot k sdRest s
  match sdReply 8 rx with
  | none => sdFall k 5 0x049 (endRunDone k 0x049 0 s)
  | some (a, rest) =>
    let b := (sdBytes 1 rest).headD 0
    let good := decide (a = 0) && decide (b = 0)
    let s := modSd k (fun d => { d with r1 := a.toNat, r2 := b.toNat, last := if good then d.last else 12 }) s
    if good then ends 0 512 s else ends 0x04D 0 s

/-- SD_BUSY_RELEASE (R603, R609 to R613): the write joins a run, or closes; `rx` holds the bytes after its CMD13. -/
def execSdBusyRelease (slot ms : Nat) (rx : List Byte) (s : State) : Res :=
  let x := slotGet s slot
  let s := takeBytes slot 64 rx s
  .next (if x.sd.phase = .busy ∧ x.st = .busy then
      let s := modSd slot (fun d => { d with busyMs := min ms 0x3FE }) s
      match x.run with
      | none => s
      | some r =>
        if runStays s slot 0x0B x.sd.block r.oid then
          let s := runGrow slot (x.sd.block + 1) true s
          modSlot slot (fun x => { sdRest x with run := none, x := {}, sd := { (sdRest x).sd with
            runDone := x.sd.runDone ++ [r.oid] } }) s
        else closeWrite slot rx s
    else s)

/-- SD_BUSY_TIMEOUT (R603, R614). -/
def execSdBusyTimeout (slot : Nat) (s : State) : Res :=
  let x := slotGet s slot
  .next (if x.sd.phase = .busy ∧ x.st = .busy then sdFall slot 7 0x049 s else s)

/-- SD_RUN_IDLE_CLOSE (R611 to R613): 1 ms without the next block, or another order, closes the run; `rx` holds the bytes
after the CMD13 of a write run. -/
def execSdRunIdleClose (slot : Nat) (rx : List Byte) (s : State) : Res :=
  let x := slotGet s slot
  let s := takeBytes slot 64 rx s
  .next (if x.sd.run = true ∧ x.st = .ready then
      if x.sd.runWrite then closeWrite slot rx (sdOpen slot s) else modSlot slot sdRest (closeRead slot (sdOpen slot s))
    else s)

/-! ### Status registers -/

/-- The command of an SD_STATUS by PARAM (Table - Opcodes, Table - Commands used). -/
def statusCommand (param : Nat) : Nat := [13, 9, 10, 58].getD (field param 0 2) 13

/-- SD_STATUS (R594, R599 to R601): CMD13 returns its R2, CMD58 the OCR, CMD9 and CMD10 a register's 16 bytes, read once more
at a CRC mismatch. -/
def execSdStatus (slot : Nat) (rx again : List Byte) (s : State) : Res :=
  match toBegin s slot [0x0C] with
  | some r =>
    let s := takeBytes slot 64 (rx ++ again) s
    .next (if (slotGet s slot).st = .ready then
        let c := statusCommand r.param
        let ends := fun (l : List Byte) (s : State) => endReady slot 0 l l.length (modSlot slot sdRest s)
        sdR1 slot false rx (fun rest s =>
          if c = 13 then
            let b := (sdBytes 1 rest).headD 0
            ends [BitVec.ofNat 8 (slotGet s slot).sd.r1, b] (modSd slot (fun d => { d with r2 := b.toNat }) s)
          else if c = 58 then ends (sdBytes 4 rest) s
          else sdTake slot 16 false rest again (sdCmd slot c 0) ends s)
          (sdCmd slot c 0 (closeRead slot (sdOpen slot (begin_ slot s))))
      else s)
  | none => .next s

end Machine
end Sys2Proof
end

