-- ==== Sys2Proof/Machine/Zg4.lean ====
section
/-!
DEFINITION. The ZG4 slot satellite (12, 13, 25): what each satellite does with what reaches it on the ring, with its own
supplies and converter, and with the hub's commands. `sat` is a place: tether x 64 + place from the OUT end.
-/
namespace Sys2Proof
namespace Machine

/-- A frame reaches a satellite (R383, R399): one for it is taken off the ring, and acts where it arrived valid; any other is
forwarded unjudged. -/
def onSat (sat : Nat) (mine : Bool) (f : RingFrame) (rx : Arrival) (g : State → State) (s : State) : State :=
  if !satHears (satGet s sat) then s
  else if mine then (if arrivesAs (frameOk f) (fun r => decide (r = f)) rx then g s else s)
  else modSat sat (satPass rx f) s

/-- A frame names the satellite's position. -/
def named (x : Sat) (rx : Arrival) : Bool := decide (rx.pos ≠ 0) && decide (x.position = rx.pos)

/-- A DIR 0 frame for a position. -/
def toSat (rx : Arrival) (seq : Bool) (type : Nat) (payload : List Byte) : RingFrame :=
  { pos := rx.pos, dir := false, seq := seq, type := type, payload := payload }

/-! ### Power, lock, silence -/

/-- Slots of a satellite out of power-on: unconfigured, off (R455). -/
def satSlotsReset (sat : Nat) (s : State) : State :=
  (satSlots sat).foldl (fun s k => modSlot k (fun x => { det := x.det, wpTab := x.wpTab }) s) s

/-- SAT_POWER_ON (R448, R869): out of its own power-on reset, unassigned, slots off, GEN low, FLT_N asserted; RCV high chooses
the ROM recovery loader, an invalid application the resident loader. -/
def execSatPowerOn (sat uid hwver ringver fw : Nat) (rcv : Bool) (s : State) : Res :=
  let old := satGet s sat
  .next (modSat sat (fun _ => {
    cond := .unlocked, uid := uid, hwver := hwver % 128, ringver := ringver, fwB := field fw 0 10, fwN := field fw 10 10,
    fwM := field fw 20 10, fltN := false
    imageState := if rcv then 4 else if old.imageState = 0 ∨ old.imageState = 4 then 0 else 1 }) (satSlotsReset sat s))

/-- A RESULT of kind WRAP: the lost pairs and the port of the fold. -/
def wrapResult (lostF lostK portB : Bool) : SatResult :=
  { kind := 0x04, payload := [byte (bit lostF + 2 * bit lostK), byte (bit portB)] }

/-- The fold forms at a port (R416 steps 4 and 5): the other input is joined to the onward output of the lost pair, and WRAP
tells it. -/
def formFold (sat : Nat) (portB : Bool) (s : State) : State :=
  satResult sat (wrapResult (!portB) portB portB) (modSat sat (fun x => { x with
    foldA := x.foldA || !portB, foldB := x.foldB || portB, lastPortB := portB, foldDue := none, unwrapped := false
    silent := true }) s)

/-- A fold that waited for a locked clock forms. -/
def dueFold (sat : Nat) (s : State) : State :=
  match (satGet s sat).foldDue with
  | some portB => formFold sat portB s
  | none => s

/-- SAT_PLL_LOCK (R92): the tick clock locks to incoming symbols; a fold that waited for it forms (R416). -/
def execSatPllLock (sat : Nat) (pairK : Bool) (s : State) : Res :=
  let x := satGet s sat
  .next (if x.cond ≠ .unpowered ∧ x.lock = .none then
      let s := modSat sat (fun x => { x with
        lock := if pairK then .k else .f, relockAt := some x.tick
        cond := if x.cond = .unlocked then .unassigned else x.cond }) s
      dueFold sat s
    else s)

/-- R447, R450, R451: position and toggles drop; ENUM is answered as unassigned, with ISOLATED set. -/
def isolateSat (x : Sat) : Sat :=
  { x with
    cond := .isolated, isoBit := true, position := 0, provisional := false, setSat := false, setSlots := 0, lastH := false, cack := 0, togS := false
    sending := none, results := [], ripcordAt := none, unwrapAt := none, fltN := false }

/-- RIPCORD_SYMBOL (R392, R450): every slot is deactivated; the silence time runs from this receipt; the K23.7 go on. -/
def execRipcordSymbol (sat : Nat) (pairK : Bool) (s : State) : Res :=
  .next (if (satGet s sat).lock = .none then s
    else modSat sat (fun x => modPair (onward x pairK) (passSyms x.tick [.ripcord, .ripcord]) { x with ripcordAt := some x.tick })
      (localRipcord sat 0xF s))

/-- ISOLATED keeps every slot off, and no order begins (R35; Table - Satellite conditions). -/
def isolateSlots (sat : Nat) (s : State) : State :=
  (satSlots sat).foldl (fun s k => fallSlot k 7 true false none (some 0x085) (dropSatRun k s)) s

/-- SAT_RIPCORD_ISOLATE (R450). -/
def execSatRipcordIsolate (sat : Nat) (s : State) : Res :=
  .next (if (satGet s sat).ripcordAt.isSome then modSat sat isolateSat (isolateSlots sat s) else s)

/-- SILENCE_TIMEOUT (R97, R451): no valid symbol for SILENCE: the slots are ripcorded, the satellite is ISOLATED and without
lock. -/
def execSilenceTimeout (sat : Nat) (s : State) : Res :=
  .next (if (satGet s sat).lock = .none then s
    else
      let s := satRaise sat 3 (localRipcord sat 0xF s)
      modSat sat (fun x => { isolateSat x with lock := .none, delayArmed := none }) s)

/-- WAKE_SYMBOL (R393, R459). -/
def execWakeSymbol (sat : Nat) (all : Bool) (position : Nat) (s : State) : Res :=
  let x := satGet s sat
  .next (if x.cond = .asleep ∧ (all = true ∨ x.position = position) then satStir sat s else s)

/-! ### Folding and healing (R416, R422 to R428) -/

/-- What the loss of an input does at once (R416 steps 1 and 2, R94, R438): idle symbols go on, the other output into the
segment falls silent, a pending unwrap is off, the clock holds over where the lost pair was its source. -/
def inputLost (pairK : Bool) (x : Sat) : Sat :=
  modPair pairK (passSyms x.tick [.idle]) { x with
    inLostF := x.inLostF || !pairK, inLostK := x.inLostK || pairK, silent := true, linkHeard := false, linkRx := false
    linkRxWrapped := false, unwrapAt := none
    lock := if (x.lock = .f ∧ pairK = false) ∨ (x.lock = .k ∧ pairK = true) then .holdover else x.lock }

/-- RING_INPUT_LOST (R416): F arrives at port A, K at port B; the fold forms at the port that lost its input, once the
satellite has a locked clock and a live input. -/
def execRingInputLost (sat : Nat) (pairK : Bool) (s : State) : Res :=
  let x := satGet s sat
  .next (if x.cond = .unpowered ∨ x.lock = .none then s
    else
      let s := modSat sat (inputLost pairK) s
      let y := satGet s sat
      if y.lock = .holdover ∨ (if pairK then y.inLostF else y.inLostK) = true then
        modSat sat (fun x => { x with foldDue := some pairK }) s
      else formFold sat pairK s)

/-- SAT_RELOCK (R94, R96, R416, R432): holdover ends on the pair that still carries symbols; a fold that waited forms, and the
change of lock source is reported. -/
def execSatRelock (sat : Nat) (s : State) : Res :=
  let x := satGet s sat
  .next (if x.lock = .holdover ∧ ¬ (x.inLostF = true ∧ x.inLostK = true) then
      let k := x.inLostF
      let s := modSat sat (fun x => { x with lock := if k then .k else .f, relockAt := some x.tick }) s
      satResult sat { kind := 0x0A, payload := [byte (bit k)] } (dueFold sat s)
    else s)

/-- A LINK frame on a pair: DIR names the pair, POS the sender (notes/assumptions/75.md). -/
def linkFrame (pos : Nat) (pairK receiving wrapped : Bool) : RingFrame :=
  { pos := pos, dir := pairK, type := 9, payload := [byte (bit receiving + 2 * bit wrapped)] }

/-- LINK frames of a wrapped satellite into the broken segment (R422): on F at port B, on K at port A; RECEIVING tells that it
hears its neighbour. -/
def sendLinks (x : Sat) : Sat :=
  let f := fun k => linkFrame x.position k x.linkHeard true
  let x := { x with answer := (f x.foldA).payload }
  let x := if x.foldB then satSend false (f false) x else x
  if x.foldA then satSend true (f true) x else x

/-- The hub end that stands in for a neighbour sends LINK frames as a neighbour does (R418). -/
def hubLinks (t : Nat) (s : State) : State :=
  let x := tetherGet s t
  let s := if x.linkOut.stands then hubSend t .outEnd (linkFrame 0 false x.linkOut.heard true) s else s
  if x.linkRet.stands then hubSend t .retEnd (linkFrame 0 true x.linkRet.heard true) s else s

/-- LINK_SEND (R418, R422). -/
def execLinkSend (sat : Nat) (s : State) : Res :=
  let x := satGet s sat
  .next (if posNo sat = 0 then hubLinks (posTether sat) s
    else if satHears x && (x.foldA || x.foldB) then modSat sat sendLinks s else s)

/-- What a LINK frame tells a satellite (R422, R423, R428): a wrapped one notes it at the port of its fold; one that has
unwrapped folds again on WRAPPED. -/
def linkTaken (sat : Nat) (pairK receiving wrapped : Bool) (s : State) : State :=
  let x := satGet s sat
  let note := modSat sat (fun x => { x with linkHeard := true, linkRx := receiving, linkRxWrapped := wrapped })
  if (if pairK then x.foldB else x.foldA) = true then note s
  else if x.unwrapped && wrapped && decide (x.lastPortB = pairK) then note (formFold sat pairK s)
  else s

/-- HEAL_READY_TIMER at a satellite (R423). -/
def satHealReady (sat : Nat) (s : State) : State :=
  let x := satGet s sat
  if satHears x && (x.foldA || x.foldB) && x.linkRx then satResult sat { kind := 0x05 } s else s

/-- HEAL_FRAME (R426, R427): the unwrap tick is taken, 0 cancels it, a repeat changes nothing; the answer is a HEAL frame. -/
def execHealFrame (sat unwrap : Nat) (rx : Arrival) (s : State) : Res :=
  .next (onSat sat (named (satGet s sat) rx) (toSat rx false 8 (natLe 8 unwrap)) rx (modSat sat (fun x =>
    if x.foldA || x.foldB then
      satAnswer rx 8 false [] { x with unwrapAt := if unwrap = 0 then none else some unwrap }
    else x)) s)

/-! ### Enumeration and time (R407 to R411, R429 to R432, R447) -/

/-- The identity answer: UID, hardware version with ISOLATED in [7], ring version, HOP. -/
def identity (x : Sat) (hop : Nat) : List Byte :=
  natLe 8 x.uid ++ [byte (x.hwver % 128 + 128 * bit x.isoBit), byte x.ringver, byte hop]

/-- ENUM_QUERY (R407, R411): an unassigned satellite takes a query with POS 0, an assigned one a query with its position; a
query that goes on has its HOP raised and its CRC made anew. -/
def execEnumQuery (sat hop : Nat) (rx : Arrival) (s : State) : Res :=
  let x := satGet s sat
  let f := fun h => toSat rx false 4 [byte h]
  let mine := decide (x.cond ≠ .parked) && decide (x.position = rx.pos)
  let whole := arrivesAs true (fun r => decide (r = f hop)) rx
  .next (if !mine && whole && satHears x then modSat sat (satPass { rx with raw := none } (f (hop + 1))) s
    else onSat sat mine (f hop) rx (modSat sat (fun x => satAnswer rx 4 false (identity x hop) x)) s)

/-- Condition of a satellite that holds a position, by the image it runs (R869). -/
def assignedCond (image : Nat) : SatCond := if image = 0 then .running else if image = 4 then .romLoader else .loader

/-- ASSIGN acts (R401, R410, R415, R447): position 0 parks; a changed position deactivates every slot. -/
def assigned (sat position : Nat) (prov : Bool) (rx : Arrival) (s : State) : State :=
  let x := satGet s sat
  let s := if x.position ≠ 0 ∧ x.position ≠ position then localRipcord sat 0xF s else s
  modSat sat (fun x => satAnswer rx 5 false [byte position] { x with
    position := position, provisional := prov && decide (position ≠ 0), isoBit := false
    cond := if position = 0 then .parked else assignedCond x.imageState
    lastH := false, cack := 0, togS := false, sending := none, results := [], setSat := false, setSlots := 0
    ripcordAt := none, fltN := false }) s

/-- ASSIGN (R407, R415): with POS 0 for the unassigned satellite whose UID it carries, otherwise for the addressed one. -/
def execAssign (sat uid position : Nat) (prov : Bool) (rx : Arrival) (s : State) : Res :=
  let x := satGet s sat
  let mine := decide (x.position = rx.pos) && (decide (rx.pos ≠ 0) || (decide (x.uid = uid) && decide (x.cond ≠ .parked)))
  .next (onSat sat mine (toSat rx false 5 (natLe 8 uid ++ [byte position, byte (bit prov)])) rx
    (fun s => if x.uid = uid then assigned sat position prov rx s else s) s)

/-- DELAY_FRAME (R430): armed for the next K28.1. -/
def execDelayFrame (sat : Nat) (rx : Arrival) (s : State) : Res :=
  .next (onSat sat (named (satGet s sat) rx) (toSat rx false 6 []) rx
    (modSat sat (fun x => { x with delayArmed := some x.tick, delayPairK := rx.pairK })) s)

/-- DELAY_MARKER_ECHO (R429, R430): the first K28.1 within 20 µs of the DELAY is echoed after c ticks on the pair that leads
back: the first symbol boundary (40 ticks apart) at least 64 ticks on, a place that is free (notes/assumptions/22.md). The
DELAY answer tells c. -/
def execDelayMarkerEcho (sat : Nat) (s : State) : Res :=
  let x := satGet s sat
  .next (match x.delayArmed with
    | none => s
    | some t =>
      let s := modSat sat (fun x => { x with delayArmed := none, markerTick := x.tick }) s
      if x.tick - t ≤ 16000 then
        let (v, s) := drawFree s
        modSat sat (fun x =>
          modPair (!x.delayPairK) (fun o => { o with echoes := o.echoes + 1 })
            (satAnswer { pairK := x.delayPairK } 6 false (natLe 2 (64 + v % 40)) x)) s
      else s)

/-- The satellite takes time-sync frames: not in holdover, nor for 10 µs after it relocked (R96). -/
def syncs (x : Sat) : Bool :=
  decide (x.lock ≠ .holdover) &&
    (match x.relockAt with
      | some r => decide (r + 8000 ≤ x.tick)
      | none => true)

/-- TSYNC (R96, R431): the tick counter would have read t5 + d, d in 1/16 tick rounded to the nearest tick, at the marker's
arrival. -/
def execTsync (sat t5 d : Nat) (rx : Arrival) (s : State) : Res :=
  .next (onSat sat (named (satGet s sat) rx) (toSat rx false 7 (natLe 8 t5 ++ natLe 3 d)) rx (modSat sat (fun x =>
    if syncs x then
      let n := (t5 + (d + 8) / 16 + (x.tick - x.markerTick)) % (tickLast + 1)
      satAnswer rx 7 false [] { x with
        tick := n, relockAt := none, outF := movePair x.tick n x.outF, outK := movePair x.tick n x.outK }
    else x)) s)

/-- A REARM asked for during a FETCH takes effect after the 16th TRACE result (R476). -/
def rearmNow (k : Nat) (s : State) : State :=
  let t := (satGet s (satOfSlot k)).tick
  modSlot k (fun x => { x with trace := { anchor := t, lastTick := t } }) s

/-- TRACE results of a slot that still wait. -/
def fetchWaits (x : Sat) (n : Nat) : Bool :=
  ((x.sending.toList) ++ x.results).any (fun r => decide (r.kind = 0x0C) && decide (r.slot = n))

/-- RACK (R404): an acknowledgment with the S of the RESULT under way; the next one follows. -/
def rackTaken (sat : Nat) (t : Bool) (s : State) : State :=
  let x := satGet s sat
  if x.sending.isSome ∧ x.togS = t then
      let s := modSat sat (fun x => nextResult { x with sending := none }) s
      match (satGet s sat).rearmAfterFetch with
      | some n =>
        if fetchWaits (satGet s sat) n then s
        else rearmNow (4 * sat + n) (modSat sat (fun x => { x with rearmAfterFetch := none }) s)
      | none => s
  else s

/-- RACK. -/
def execRack (sat : Nat) (t : Bool) (rx : Arrival) (s : State) : Res :=
  .next (onSat sat (named (satGet s sat) rx) (toSat rx t 2 []) rx (rackTaken sat t) s)

/-- RESULT_RESEND (R404): the RESULT under way is sent again unchanged. -/
def execResultResend (sat : Nat) (s : State) : Res := .next (modSat sat sendResult s)

/-! ### Commands (R402, R455, R458, Table - CMD codes, Table - CACK codes) -/

/-- The CACK of a CMD: the code kept from its execution (R402). -/
def sendCack (sat : Nat) (h : Bool) (rx : Arrival) (s : State) : State :=
  modSat sat (fun x => satAnswer rx 1 h [byte x.cack] x) s

/-- A CMD frame for the satellite: code and arguments. -/
def cmdFrame (rx : Arrival) (h : Bool) (code : Nat) (args : List Byte) : RingFrame := toSat rx h 1 (byte code :: args)

/-- Take a CMD: a repeat answers its cached CACK; in ASLEEP the hardware answers STATE; a loader takes only its own commands.
`run` answers the CACK code and the state after. -/
def takeCmd (sat : Nat) (h inLoader : Bool) (code : Nat) (args : List Byte) (rx : Arrival) (run : State → Nat × State)
    (s : State) : State :=
  onSat sat (named (satGet s sat) rx) (cmdFrame rx h code args) rx (fun s =>
    let x := satGet s sat
    let set := fun (c : Nat) (s : State) => sendCack sat h rx (modSat sat (fun x => { x with lastH := h, cack := c }) s)
    if h = x.lastH then sendCack sat h rx s
    else if x.cond = .asleep then set 3 s
    else if x.imageState ≠ 0 ∧ inLoader = false then set 3 s
    else
      let (c, s) := run s
      set c s) s

/-- FLT_N is released once every slot is configured and no reaction holds it (R455, Table - ZG4 pins). -/
def configured (x : Sat) : Sat :=
  { x with fltN := x.setSat && decide (x.setSlots = 0xF) &&
      !(bankCalls (fun c => decide (6 ≤ c)) false x.fault) }

/-- Odd parity of a 10-bit word in two bytes. -/
def frxOk (v : Nat) : Bool := oddOnes (toWord v)

/-- SET_SAT (Table - CMD codes): thirty bytes, each field in its range (R15). -/
def execSetSat (sat : Nat) (h : Bool) (args : List Byte) (rx : Arrival) (s : State) : Res :=
  let u := fun lo n => leNat (slice args lo n)
  let fr := fun i => u (24 + 2 * i) 2
  let ok := decide (args.length = 30) && decide (5 ≤ u 0 2 ∧ u 0 2 ≤ 1000) && decide (u 2 1 < 4) &&
    decide (u 3 2 ≤ 1023) && decide (u 7 2 ≤ 0x3FD) && decide (u 9 2 ≤ 0x3FD) &&
    decide (1 ≤ u 5 2 ∧ u 5 2 ≤ 1023) && decide (60 ≤ u 11 2 ∧ u 11 2 ≤ 480) && decide (50 ≤ u 13 2 ∧ u 13 2 ≤ 1000) &&
    decide (1 ≤ u 15 1 ∧ u 15 1 ≤ 100) && decide (400 ≤ u 16 2 ∧ u 16 2 ≤ 1023) && decide (10 ≤ u 18 2 ∧ u 18 2 ≤ 400) &&
    decide (40 ≤ u 20 2) && decide (32 ≤ u 22 2 ∧ u 22 2 ≤ 1023) && frxOk (fr 0) && frxOk (fr 1) && frxOk (fr 2)
  .next (takeCmd sat h false 0x01 args rx (fun s =>
    if ok then
      (0, modSat sat (fun x => configured { x with
        setSat := true
        cfg := { silence := u 0 2, grail0 := bitAt (u 2 1) 0, grail1 := bitAt (u 2 1) 1, gap := u 3 2, win := u 5 2,
                 min0 := u 7 2, min1 := u 9 2, ballastMin := u 11 2, vccWin := u 13 2, clkDelay := u 15 1,
                 rstClks := u 16 2, atrMax := u 18 2, isoDiv := u 20 2, sdDiv := u 22 2 }
        fault := { x.fault with frx0 := toWord (fr 0), frx1 := toWord (fr 1), frx2 := toWord (fr 2) } }) s)
    else (2, s)) s)

/-- SET_SLOT (R503): the slot's fields; a present card is reported as inserted. A TRIPPED slot stays so (R499). -/
def execSetSlot (sat : Nat) (h : Bool) (args : List Byte) (rx : Arrival) (s : State) : Res :=
  let u := fun lo n => leNat (slice args lo n)
  let n := u 0 1
  let k := 4 * sat + n
  let ok := decide (args.length = 7) && decide (n < 4) && decide (u 1 1 ≤ 2) && decide (u 2 1 < 8) && decide (u 3 1 ≤ 1) &&
    decide (10 ≤ u 4 2 ∧ u 4 2 ≤ 300) && decide (u 6 1 ≤ 1)
  .next (takeCmd sat h false 0x02 args rx (fun s =>
    if ok then
      let c : SlotCfg := { kind := kindOf (u 1 1), classes := u 2 1, order := u 3 1, trip := u 4 2, wp := u 6 1 }
      let s := modSlot k (fun x =>
        let y := { x with cfg := c }
        if inSession x || decide (x.st = .falling) || decide (x.st = .tripped) then y else { y with st := idleState y, tripInForce := c.trip }) s
      let s := modSat sat (fun x => configured { x with setSlots := x.setSlots ||| (1#4 <<< n) }) s
      let y := slotGet s k
      (0, if y.det && decide (c.kind ≠ .disabled) then
          satResult sat { kind := 0x03, slot := n, payload := [0, byte (slotCode y.st)] } s
        else s)
    else (2, s)) s)

/-- PUT (R472): into the slot's order buffer; RANGE beyond byte 1023, SLOT_BUSY while an order runs. -/
def execPut (sat : Nat) (h : Bool) (slot offset : Nat) (data : List Byte) (rx : Arrival) (s : State) : Res :=
  let k := 4 * sat + slot
  .next (takeCmd sat h false 0x03 (byte slot :: natLe 2 offset ++ data) rx (fun s =>
    if 4 ≤ slot ∨ data = [] ∨ 252 < data.length then (2, s)
    else if 1024 < offset + data.length then (5, s)
    else if (slotGet s k).run.isSome then (4, s)
    else (0, modSlot k (fun x => { x with buf := tblWriteBytes 0 x.buf offset data }) s)) s)

/-- The slot's own state admits the opcode (Table - Slot states accepted). -/
def slotAdmits (x : Slot) (op : Nat) : Bool :=
  match op with
  | 0x01 => decide (x.st = .present) && decide (x.cfg.kind = .iso)
  | 0x09 => decide (x.st = .present) && decide (x.cfg.kind = .sd)
  | 0x02 | 0x04 | 0x05 | 0x06 | 0x07 => decide (x.st = .ready) && decide (x.cfg.kind = .iso)
  | 0x08 => decide (x.st = .asleep)
  | 0x0A | 0x0B | 0x0C => decide (x.st = .ready) && decide (x.cfg.kind = .sd)
  | _ => decide (x.st = .present) || decide (x.st = .ready) || decide (x.st = .asleep) || decide (x.st = .tripped)

/-- Opcodes that a satellite slot runs. -/
def isSlotOp (op : Nat) : Bool := decide (1 ≤ op) && decide (op ≤ 0x0C)

/-- ORDER (R455, R465, R472): STATE before the configuration is complete or in a wrong slot state, SLOT_BUSY while an order
runs, ARG_BAD for a LENGTH that does not fit. -/
def execOrderCommand (sat : Nat) (h : Bool) (slot opcode length param oid : Nat) (rx : Arrival) (s : State) : Res :=
  let k := 4 * sat + slot
  .next (takeCmd sat h false 0x04 ([byte slot, byte opcode] ++ arg2 length ++ arg2 param ++ arg2 oid) rx (fun s =>
    let x := satGet s sat
    let tick := s.sys.tick
    if 4 ≤ slot ∨ isSlotOp opcode = false ∨ 1024 < length ∨ length < (lengthRange opcode).1 ∨
        (lengthRange opcode).2 < length then (2, s)
    else if x.setSat = false ∨ x.setSlots ≠ 0xF then (3, s)
    else if (slotGet s k).run.isSome then (4, s)
    else if !slotAdmits (slotGet s k) opcode then (3, s)
    else (0, modSlot k (fun y => { y with
      run := some { opcode := opcode, param := param, length := length, oid := oid, since := tick }
      ch := { y.ch with ppsOpen := y.ch.ppsOpen && decide (opcode = 0x03) } }) s)) s)

/-- Slot states in which a satellite may sleep (R457). -/
def sleeps (st : SlotState) : Bool :=
  match st with
  | .empty | .present | .asleep | .tripped | .disabled => true
  | _ => false

/-- SLEEP (R457). -/
def execSleepCommand (sat : Nat) (h : Bool) (rx : Arrival) (s : State) : Res :=
  .next (takeCmd sat h false 0x05 [] rx (fun s =>
    if (satSlots sat).all (fun k => sleeps (slotGet s k).st) then
      (0, modSat sat (fun x => { x with cond := .asleep }) s)
    else (3, s)) s)

/-! ### Module rails (R203 to R206) -/

/-- A RESULT of kind RAIL. -/
def railResult (x : Sat) : SatResult := { kind := 0x08, payload := [byte x.grail0, byte x.grail1] }

/-- Report the module rails. -/
def sendRails (sat : Nat) (s : State) : State := satResult sat (railResult (satGet s sat)) s

/-- A channel's state at its enable: a minimum of 0x000 makes it good at once. -/
def enabled (min now : Nat) : Nat := if now = 2 ∨ min = 0 then 2 else 1

/-- Start of a raise (R203): GRAIL0, or GRAIL1 where GRAIL0 is not declared. -/
def startRaise (x : Sat) : Sat :=
  if x.cfg.grail0 then
    let g := enabled x.cfg.min0 x.grail0
    { x with gen0 := true, grail0 := g, lowering := false, low0 := 0,
             gap := decide (g = 2) && x.cfg.grail1 && decide (x.grail1 ≠ 2) }
  else if x.cfg.grail1 then
    { x with gen1 := true, grail1 := enabled x.cfg.min1 x.grail1, lowering := false, low1 := 0 }
  else x

/-- Start of a lowering (R204): GRAIL1 first; without a declared GRAIL1 there is nothing to wait for, and GRAIL0 is off. -/
def startLower (x : Sat) : Sat :=
  { x with gen1 := false, grail1 := if x.grail1 = 3 then 3 else 0, gap := false,
           gen0 := x.gen0 && x.cfg.grail1, lowering := x.gen0 && x.cfg.grail1
           grail0 := if x.grail0 = 3 then 3 else if x.cfg.grail1 then x.grail0 else 0, low0 := 0, low1 := 0 }

/-- Both channels are at what a raise asks, or at what a lower asks. -/
def railsUp (x : Sat) : Bool := (!x.cfg.grail0 || decide (x.grail0 = 2)) && (!x.cfg.grail1 || decide (x.grail1 = 2))

/-- RAIL (R203, R204): STATE where no module rail is declared. -/
def execRailCommand (sat : Nat) (h : Bool) (action : Nat) (rx : Arrival) (s : State) : Res :=
  .next (takeCmd sat h false 0x06 [byte action] rx (fun s =>
    let x := satGet s sat
    if 1 < action then (2, s)
    else if !x.cfg.grail0 && !x.cfg.grail1 then (3, s)
    else if action = 1 then
      let s := modSat sat startRaise s
      (0, if railsUp (satGet s sat) then sendRails sat s else s)
    else
      let s := modSat sat startLower s
      (0, if (satGet s sat).lowering then s else sendRails sat s)) s)

/-- GRAIL_GAP_ELAPSED (R203): GRAIL1 is enabled; with a minimum of 0x000 the module rails are then up. -/
def execGrailGapElapsed (sat : Nat) (s : State) : Res :=
  .next (if (satGet s sat).gap then
      let s := modSat sat (fun x => { x with gap := false, gen1 := true, grail1 := enabled x.cfg.min1 0, low1 := 0 }) s
      if railsUp (satGet s sat) then sendRails sat s else s
    else s)

/-- Channels of a satellite have failed (R203, R205): they read so, both are lowered, GRAIL_FAIL is raised and the states are
reported. -/
def failGrails (sat : Nat) (f0 f1 : Bool) (s : State) : State :=
  let s := modSat sat (fun x => startLower { x with
    grail0 := if f0 then 3 else x.grail0, grail1 := if f1 then 3 else x.grail1 }) s
  satRaise sat 2 (sendRails sat s)

/-- SAT_GRAIL_FAIL (R203, R205): a rising channel misses its window, or a running one reads below its minimum four times. -/
def execSatGrailFail (sat rail : Nat) (s : State) : Res :=
  let x := satGet s sat
  .next (if rail = 0 ∧ (x.grail0 = 1 ∨ x.grail0 = 2) then failGrails sat true false s
    else if rail = 1 ∧ (x.grail1 = 1 ∨ x.grail1 = 2) then failGrails sat false true s
    else s)

/-- The end of a lowering: GRAIL0 off. -/
def lowerDone (sat : Nat) (s : State) : State :=
  sendRails sat (modSat sat (fun x => { x with
    gen0 := false, grail0 := if x.grail0 = 3 then 3 else 0, lowering := false }) s)

/-- GRAIL_LOWER_WINDOW_END (R204). -/
def execGrailLowerWindowEnd (sat : Nat) (s : State) : Res :=
  .next (if (satGet s sat).lowering then lowerDone sat s else s)

/-- A conversion judges the module rails (R203 to R205): rising channels that reach their minimum, running ones low on four
readings, GRAIL1 low enough for GRAIL0 to follow. -/
def judgeGrails (sat v0 v1 : Nat) (s : State) : State :=
  let x := satGet s sat
  let at0 := decide (x.cfg.min0 ≤ v0) && decide (v0 ≠ 0x3FF)
  let at1 := decide (x.cfg.min1 ≤ v1) && decide (v1 ≠ 0x3FF)
  let x1 := { x with
    low0 := if x.grail0 = 2 ∧ v0 < x.cfg.min0 then x.low0 + 1 else 0
    low1 := if x.grail1 = 2 ∧ v1 < x.cfg.min1 then x.low1 + 1 else 0
    grail0 := if x.grail0 = 1 ∧ at0 = true then 2 else x.grail0
    gap := x.gap || (decide (x.grail0 = 1) && at0 && x.cfg.grail1)
    grail1 := if x.grail1 = 1 ∧ at1 = true then 2 else x.grail1 }
  let s := modSat sat (fun _ => x1) s
  let s := if (x1.grail0 ≠ x.grail0 ∨ x1.grail1 ≠ x.grail1) ∧ railsUp x1 = true then sendRails sat s else s
  if 4 ≤ x1.low0 ∨ 4 ≤ x1.low1 then failGrails sat (decide (4 ≤ x1.low0)) (decide (4 ≤ x1.low1)) s
  else if x1.lowering ∧ v1 < x1.cfg.min1 / 4 then lowerDone sat s
  else s

/-- SAT_CONVERSION (R16, R203, R205, R779): fourteen codes in the order of the sweep report, a code above 0x3FD saturated;
above 125 °C raises OVERTEMP. -/
def execSatConversion (sat : Nat) (codes : List Nat) (s : State) : Res :=
  let x := satGet s sat
  .next (if !satHears x then s
    else
      let c := fun i => min (codes.getD i 0x3FF) 0x3FE
      let was := x.conv.getD 3 0x3FF
      let s := modSat sat (fun x => { x with
        conv := (List.range 14).map c
        holdLow := x.holdLow && decide (64 * c 1 < 100 * x.cfg.ballastMin) }) s
      let s := [0, 1, 2, 3].foldl (fun s n => modSlot (4 * sat + n) (fun y => { y with vcc := c (6 + n), icc := c (10 + n) }) s) s
      let s := judgeGrails sat (c 4) (c 5) s
      if 720 < c 3 ∧ c 3 < 0x3FE ∧ (was ≤ 720 ∨ was = 0x3FF) then satRaise sat 5 s else s)

/-- SAT_HOLD_LOW (R779): HOLD below BALLAST_MIN for 10 s; again only after it has been at or above it. -/
def execSatHoldLow (sat : Nat) (s : State) : Res :=
  .next (if (satGet s sat).holdLow then s else satRaise sat 4 (modSat sat (fun x => { x with holdLow := true }) s))

/-! ### Supplies (R452 to R454) -/

/-- Emergency deactivation of every slot by a supply fall. -/
def satSupplyFall (sat : Nat) (s : State) : State := (satSlots sat).foldl (fun s k => emergency k [6] s) s

/-- SAT_VIN_LOST (R206, R453, R475). -/
def execSatVinLost (sat : Nat) (s : State) : Res :=
  .next (if (satGet s sat).vinLost then s
    else
      let s := satSupplyFall sat (satStir sat s)
      let s := modSat sat (fun x => { x with vinLost := true, gen0 := false, gen1 := false, grail0 := 0, grail1 := 0,
                                             gap := false, lowering := false }) s
      satResult sat { kind := 0x0D, payload := [0] } s)

/-- SAT_VIN_BACK (R453). -/
def execSatVinBack (sat : Nat) (s : State) : Res :=
  .next (if (satGet s sat).vinLost then
      satResult sat { kind := 0x0D, payload := [1] } (modSat sat (fun x => { x with vinLost := false }) s)
    else s)

/-- SAT_VPS_LOW (R452): VPS_LOW is contained. -/
def execSatVpsLow (sat : Nat) (s : State) : Res :=
  .next (satRaise sat 1 (modSat sat (fun x => { x with vpsLow := true }) (satSupplyFall sat s)))

/-- SAT_TOTAL_OVERCURRENT (R452): the slot that draws the highest current. -/
def execSatTotalOvercurrent (sat slot : Nat) (s : State) : Res := .next (emergency (4 * sat + slot % 4) [9] s)

/-- SAT_FATAL_FAULT (R454): CODE_ECC, WDOG or RIPCORD_TEST. -/
def execSatFatalFault (sat bit : Nat) (s : State) : Res :=
  .next (if 6 ≤ bit ∧ bit ≤ 8 then satRaise sat bit s else s)

/-- SAT_RST_N (R448). -/
def execSatRstN (sat : Nat) (s : State) : Res := .next (satRestart sat 1 s)

/-! ### Traces, release, faults, restart, identity -/

/-- The sixteen TRACE results of a slot (R467). -/
def traceResults (n : Nat) (bytes : List Byte) : List SatResult :=
  (List.range 16).map (fun i => { kind := 0x0C, slot := n, payload := byte i :: slice bytes (128 * i) 128 })

/-- TRACE FETCH (R467). -/
def execTraceFetch (sat : Nat) (h : Bool) (slot : Nat) (rx : Arrival) (s : State) : Res :=
  .next (takeCmd sat h false 0x07 [byte slot, 1] rx (fun s =>
    if 4 ≤ slot then (2, s)
    else (0, (traceResults slot (traceBytes (slotGet s (4 * sat + slot)))).foldl (fun s r => satResult sat r s) s)) s)

/-- TRACE REARM (R476). -/
def execTraceRearm (sat : Nat) (h : Bool) (slot : Nat) (rx : Arrival) (s : State) : Res :=
  .next (takeCmd sat h false 0x07 [byte slot, 2] rx (fun s =>
    if 4 ≤ slot then (2, s)
    else if fetchWaits (satGet s sat) slot then (0, modSat sat (fun x => { x with rearmAfterFetch := some slot }) s)
    else (0, rearmNow (4 * sat + slot) s)) s)

/-- TRACE FREEZE (R464). -/
def execTraceFreeze (sat : Nat) (h : Bool) (slot : Nat) (rx : Arrival) (s : State) : Res :=
  .next (takeCmd sat h false 0x07 [byte slot, 3] rx (fun s => if 4 ≤ slot then (2, s) else (0, traceTrigger (4 * sat + slot) 4 s)) s)

/-- TRACE_FREEZE_COUNT (R464): the 64th further entry stands; the trace is frozen. -/
def execTraceFreezeCount (slot : Nat) (s : State) : Res :=
  .next (modSlot slot (fun x =>
    if x.trace.remaining = some 0 then { x with trace := { x.trace with frozen := true, remaining := none } } else x) s)

/-- SLOT_RELEASE (R500): a TRIPPED slot; the SLOT result shows the new state, as inserted or removed by DET. -/
def execSlotRelease (sat : Nat) (h : Bool) (slot : Nat) (rx : Arrival) (s : State) : Res :=
  let k := 4 * sat + slot
  .next (takeCmd sat h false 0x08 [byte slot] rx (fun s =>
    if 4 ≤ slot then (2, s)
    else if (slotGet s k).st ≠ .tripped then (3, s)
    else
      let s := releaseTripped k s
      let x := slotGet s k
      (0, satResult sat { kind := 0x03, slot := slot,
                          payload := [byte (if x.det then 0 else 1), byte (slotCode x.st)] } s)) s)

/-- FAULT_ACK (R755). -/
def execFaultAckCommand (sat : Nat) (h : Bool) (bits : BitVec 9) (rx : Arrival) (s : State) : Res :=
  .next (takeCmd sat h false 0x09 (arg2 bits.toNat) rx (fun s =>
    (0, modSat sat (fun x => configured { x with fault := ackBits satContained x.fault bits 0 }) s)) s)

/-- RIPCORD command: local ripcord of the named slots. -/
def execRipcordCommand (sat : Nat) (h : Bool) (mask : BitVec 4) (rx : Arrival) (s : State) : Res :=
  .next (takeCmd sat h true 0x0A [byte mask.toNat] rx (fun s => (0, localRipcord sat mask.toNat s)) s)

/-- RESTART command (R448): acknowledged, then restarted; the restart leaves both toggles at 0. -/
def execRestartCommand (sat : Nat) (h : Bool) (rx : Arrival) (s : State) : Res :=
  let old := satGet s sat
  let s := takeCmd sat h true 0x0B [] rx (fun s => (0, s)) s
  let x := satGet s sat
  .next (if x.lastH ≠ old.lastH ∧ x.cack = 0 then satRestart sat 2 s else s)

/-- A RESULT of kind IDENT: part 0x004, version, image state. -/
def identResult (x : Sat) : SatResult :=
  { kind := 0x09, payload := arg2 0x004 ++ arg2 x.fwB ++ arg2 x.fwN ++ arg2 x.fwM ++ [byte x.imageState] }

/-- IDENT. -/
def execIdentCommand (sat : Nat) (h : Bool) (rx : Arrival) (s : State) : Res :=
  .next (takeCmd sat h true 0x0C [] rx (fun s => (0, satResult sat (identResult (satGet s sat)) s)) s)

/-- The loaded trace holds its slot's activation steps (R910). -/
def traceHasActivation (l : List Byte) : Bool :=
  (List.range 508).any (fun i =>
    let v := leNat (slice l (16 + 4 * i) 4)
    decide (v / 2 ^ 29 = 3) && decide (v / 2 ^ 20 % 512 ≤ 2))

/-- TRACE_REPLAY (R909, R910): chunks are stored; after chunk 15 the slot's engines run the trace. Whether they repeat it, and
where they first differ, is free (notes/assumptions/24.md); a trace without its activation gives status 2. -/
def execTraceReplayCommand (sat : Nat) (h : Bool) (slot chunk : Nat) (bytes : List Byte) (rx : Arrival) (s : State) : Res :=
  let st := (slotGet s (4 * sat + slot)).st
  .next (takeCmd sat h false 0x0D ([byte slot, byte chunk] ++ bytes) rx (fun s =>
    if 4 ≤ slot ∨ 16 ≤ chunk ∨ bytes.length ≠ 128 then (2, s)
    else if st ≠ .empty ∧ st ≠ .disabled then (3, s)
    else
      let s := modSat sat (fun x => { x with
        replaySlot := slot, replayBytes := (if chunk = 0 then [] else x.replayBytes.take (128 * chunk)) ++ bytes }) s
      if chunk < 15 then (0, s)
      else
        let out := fun (i code : Nat) (s : State) =>
          satResult sat { kind := 0x0E, slot := slot, payload := arg2 i ++ [byte code] } s
        if !traceHasActivation (satGet s sat).replayBytes then (0, out 0xFFFF 2 s)
        else
          let (v, s) := drawFree s
          (0, if v % 2 = 0 then out 0xFFFF 0 s else out (v / 2 % 508) 1 s)) s)

/-! ### The loaders (R869 to R872) -/

/-- UPD_BEGIN (Table - Update commands): the loader runs, every slot off, and erases. -/
def execUpdBegin (sat : Nat) (h : Bool) (args : List Byte) (rx : Arrival) (s : State) : Res :=
  let u := fun lo n => leNat (slice args lo n)
  .next (takeCmd sat h true 0x10 args rx (fun s =>
    if args.length ≠ 42 then (2, s)
    else
      let s := (satSlots sat).foldl (fun s k => fallSlot k 7 true false none none (modSlot k (fun x => { x with run := none }) s)) s
      (0, modSat sat (fun x => { x with
        cond := if x.imageState = 4 then .romLoader else .loader
        imageState := if x.imageState = 4 then 4 else 1
        erasing := true, receiving := false, imageStart := u 0 3, imageLen := u 3 3, imageHash := slice args 6 32
        imageVersion := u 38 4, image := [], setSat := false, setSlots := 0, fltN := false }) s)) s)

/-- SAT_LOADER_ERASE_DONE (R871): image state 2. -/
def execSatLoaderEraseDone (sat : Nat) (s : State) : Res :=
  .next (modSat sat (fun x => if x.erasing then { x with erasing := false, receiving := true, imageState := 2 } else x) s)

/-- UPD_DATA (R871): STATE while erasing or not receiving. -/
def execUpdData (sat : Nat) (h : Bool) (offset : Nat) (data : List Byte) (rx : Arrival) (s : State) : Res :=
  let x := satGet s sat
  .next (takeCmd sat h true 0x11 (natLe 3 offset ++ data) rx (fun s =>
    if data = [] ∨ 240 < data.length ∨ offset < x.imageStart ∨ x.imageStart + x.imageLen < offset + data.length then
      (if x.receiving then 2 else 3, s)
    else if !x.receiving then (3, s)
    else (0, modSat sat (fun x => { x with image := tblWriteBytes 0xFF x.image offset data }) s)) s)

/-- The bytes received. -/
def receivedBytes (x : Sat) : List Byte := tblBytes 0xFF x.image x.imageStart x.imageLen

/-- UPD_END (R872): acknowledged; on a match the application runs after a restart with RESTARTED cause 4, otherwise image
state 5. -/
def execUpdEnd (sat : Nat) (h : Bool) (rx : Arrival) (s : State) : Res :=
  let old := satGet s sat
  let s := takeCmd sat h true 0x12 [] rx (fun s => (if old.receiving then 0 else 3, s)) s
  let x := satGet s sat
  .next (if x.lastH ≠ old.lastH ∧ x.cack = 0 then
      if sha256 (receivedBytes x) = x.imageHash then
        satRestart sat 4 (modSat sat (fun x => { x with
          imageState := 0, cond := .running, receiving := false, fwB := field x.imageVersion 0 10,
          fwN := field x.imageVersion 10 10, fwM := field x.imageVersion 20 10 }) s)
      else modSat sat (fun x => { x with imageState := 5, receiving := false }) s
    else s)

/-- UPD_ABORT: stop receiving; the loader keeps running. -/
def execUpdAbort (sat : Nat) (h : Bool) (rx : Arrival) (s : State) : Res :=
  .next (takeCmd sat h true 0x13 [] rx (fun s =>
    (0, modSat sat (fun x => { x with receiving := false, erasing := false,
                                      imageState := if x.imageState = 2 then (if x.cond = .romLoader then 4 else 1) else x.imageState }) s)) s)

/-! ### Sweep (R456, Table - Sweep report) -/

/-- The 19 report words and the pad word; word 18 as R677 computes it. -/
def reportWords (s : State) (sat : Nat) : List Word :=
  let x := satGet s sat
  let c := fun i => x.conv.getD i 0x3FF
  let st := fun n => slotCode (slotGet s (4 * sat + n)).st
  let loader := decide (x.imageState ≠ 0)
  let vin := c 0
  let cur := c 2
  let power := if vin ≥ 0x3FE ∨ cur ≥ 0x3FE then (if vin = 0x3FF ∨ cur = 0x3FF then 0x3FF else 0x3FE)
    else let w := vin * 64 * (cur * 4) / 10000; if 1021 < w then 0x3FE else w
  let app : List Nat := (List.range 10).map (fun i => c (4 + i)) ++ [st 0 + 16 * st 1, st 2 + 16 * st 3,
    bit (decide (x.lock = .k)) + 2 * bit (decide (x.lock = .holdover)) + 4 * bit (x.foldA || x.foldB) +
      8 * bit (decide (x.cond = .asleep)) + 16 * x.grail0 + 64 * x.grail1 + 256 * bit (!x.vpsLow) +
      512 * bit ((satSlots sat).any (fun k => (slotGet s k).trace.frozen))]
  let body := [c 0, c 1, c 2, c 3] ++ (if loader then List.replicate 13 0x3FF else app) ++
    [x.fault.fst.toNat, if loader then 0x3FF else power]
  body.map toWord ++ [0]

/-- SWEEP_QUERY (R456): the report is latched and answered; `vpsGood` is what the satellite's VPS comparator shows. -/
def execSweepQuery (sat num : Nat) (vpsGood : Bool) (rx : Arrival) (s : State) : Res :=
  .next (onSat sat (named (satGet s sat) rx) (toSat rx false 3 (arg2 num)) rx (fun s =>
    let s := modSat sat (fun x => { x with vpsLow := !vpsGood }) s
    let w := reportWords s sat
    modSat sat (fun x => satAnswer rx 3 false (arg2 num ++ packWords 5 w) { x with report := w }) s) s)

end Machine
end Sys2Proof
end

