-- ==== Sys2Proof/Machine/RingWalk.lean ====
section
/-!
DEFINITION. The hub's side of a tether (12): walks and enumeration, the delay measurement, discarded frames, restarts.
Frames of satellites reach the hub where it commands its tethers: in ENUMERATE, RUN and STANDBY.
-/
namespace Sys2Proof
namespace Machine

/-- The hub commands its tethers and takes their frames (Table - What satellites see of each hub state). -/
def ringLive (s : State) : Bool :=
  match s.sys.state with
  | .enumerate | .run | .standby => true
  | _ => false

/-- What a row of the ring does at the hub; nothing where the hub does not take frames. -/
def onRing (f : State → State) (s : State) : Res := .next (if ringLive s then f s else s)

/-- A frame that cannot count: TTH_STALEn (R405). -/
def countStale (t : Nat) (s : State) : State := modTether t (fun x => { x with stale := satInc x.stale }) s

/-- A frame discarded as invalid: TTH_BADFn, and LINK_ERR at 16 within 1 ms (R399, R963). -/
def countBad (t : Nat) (s : State) : State :=
  let now := s.sys.tick
  let ticks := (now :: (tetherGet s t).badTicks).filter (fun k => decide (now - k ≤ 800000))
  let s := modTether t (fun x => { x with badF := satInc x.badF, badTicks := if 16 ≤ ticks.length then [] else ticks }) s
  if 16 ≤ ticks.length then raise .tth 4 s else s

/-- The recorder's entry of a line event at an end (Table - Entry kinds). -/
def lineInput (t : Nat) (retEnd pairK : Bool) (event fraction : Nat) : RecIn :=
  { kind := 5, sub := t % 4 + 4 * bit retEnd + 8 * bit pairK, payload := [byte (event + 16 * fraction)] }

/-- A frame of a tether reaches the hub (R399, R442): an undeclared tether carries none, an invalid frame is counted. -/
def received (t : Nat) (f : RingFrame) (rx : Arrival) (g : State → State) (s : State) : State :=
  let came := ringInput t (!rx.pairK) (rx.raw.getD ((packFrame f).map Sym.d))
  let s := if (rigTether s t).isNone then s else modTether t (fun x => { x with taken := x.taken ++ [came] }) s
  if (rigTether s t).isNone then s
  else if arrivesBad (frameOk f) rx then countBad t s
  else if arrivesAs (frameOk f) (fun r => decide (r = f)) rx then g s
  else s

/-- R419: on a wrapped tether a position is reached by the end at which its frames arrive: K ends at the OUT end. -/
def heardFrom (pos : Nat) (rx : Arrival) (s : State) : State :=
  if (tetherGet s (posTether pos)).mode = 3 then
    modView pos (fun v => { v with path := if rx.pairK then .outEnd else .retEnd }) s
  else s

/-- A frame of a position reaches the hub. -/
def receivedOf (pos : Nat) (seq : Bool) (type : Nat) (payload : List Byte) (rx : Arrival) (g : State → State) (s : State) :
    State :=
  received (posTether pos) { pos := posNo pos, dir := true, seq := seq, type := type, payload := payload } rx
    (fun s => g (heardFrom pos rx s)) s

/-! ### Walks (R407 to R410, R414, R436, R437) -/

/-- An ENUM query leaves an end, for the next unassigned satellite or for a position. -/
def sendQuery (t : Nat) (e : RingEnd) (pos : Nat) (s : State) : State := hubSend t e (hubFrame pos false 4 [0]) s

/-- Start a walk of a declared tether from its OUT end; MODE reads enumerating until it first becomes intact. -/
def startWalk (t : Nat) (s : State) : State :=
  if (rigTether s t).isNone ∨ (tetherGet s t).walk.isSome then s
  else
    let now := s.sys.tick
    sendQuery t .outEnd 0
      (modTether t (fun x => { x with mode := if x.mode = 0 then 1 else x.mode, walk := some {}, lastWalk := now }) s)

/-- The highest declared position number of a tether. -/
def topPosition (s : State) (t : Nat) : Nat := ((tetherPositions s t).map posNo).foldl max 0

/-- The position number that Table - Position assignment gives. -/
def givenPosition (s : State) (t : Nat) (from_ : RingEnd) (uid hop : Nat) : Nat :=
  match (tetherPositions s t).find? (fun p =>
      match rigSat s p with
      | some r => r.pinned && decide (r.uid = uid)
      | none => false) with
  | some p => posNo p
  | none => if from_ = .outEnd then hop + 1 else topPosition s t - hop

/-- The position is held by a satellite the hub still counts as assigned. -/
def positionHeld (v : SatView) : Bool :=
  match v.state with
  | .absent | .lost | .isolated => v.assigning
  | _ => true

/-- R410, R436: a satellite found for position number `p` is parked. -/
def parks (s : State) (t uid p : Nat) : Bool :=
  match rigSat s (64 * t + p) with
  | none => true
  | some r => decide (p = 0) || decide (63 < p) || (r.pinned && decide (r.uid ≠ uid)) || positionHeld (viewGet s (64 * t + p))

/-- An ASSIGN leaves an end: `at_` is the position it addresses, 0 for an unassigned satellite. -/
def sendAssign (t : Nat) (e : RingEnd) (at_ uid p : Nat) (prov : Bool) (s : State) : State :=
  hubSend t e (hubFrame at_ false 5 (natLe 8 uid ++ [byte p, byte (bit prov)])) s

/-- Park a satellite: ASSIGN with position 0, ENUM_CONFLICT. -/
def park (t : Nat) (e : RingEnd) (at_ uid : Nat) (s : State) : State :=
  raise .tth 2 (sendAssign t e at_ uid 0 false
    (modTether t (fun x => { x with parked := if x.parked.contains uid then x.parked else uid :: x.parked }) s))

/-- Where a satellite stands in the chain, by the query that found it. -/
def placeOf (s : State) (t : Nat) (from_ : RingEnd) (hop : Nat) : Nat :=
  if from_ = .outEnd then hop + 1 else topPosition s t - hop

/-- Give a found satellite its position: the identity words, ISOLATED where it says so (R34, R447); the ASSIGN is sent. -/
def assign (t : Nat) (from_ : RingEnd) (at_ uid hwver ringver hop p : Nat) (s : State) : State :=
  let pos := 64 * t + p
  let pinned := ((rigSat s pos).map (fun r => r.pinned)).getD false
  let place := placeOf s t from_ hop
  let prov := decide (from_ = .retEnd) && !pinned
  sendAssign t from_ at_ uid p prov (modView pos (fun v => { v with
    state := if bitAt hwver 7 then .isolated else v.state
    uid := uid, hwver := hwver % 128, ringver := ringver, hop := place, path := from_, prov := prov, assigning := true }) s)

/-- The walk goes on with a satellite found (R408, R409). -/
def walkFound (t : Nat) (w : Walk) (uid hwver ringver hop : Nat) (s : State) : State :=
  let p := givenPosition s t w.from_ uid hop
  let s := if w.from_ = .outEnd then modTether t (fun x => { x with chain := max x.chain (hop + 1) }) s else s
  if parks s t uid p then sendQuery t w.from_ 0 (park t w.from_ 0 uid s)
  else
    let s := modTether t (fun x => { x with
      walk := some { w with hop := hop, given := p :: w.given, current := some (64 * t + p) } }) s
    assign t w.from_ 0 uid hwver ringver hop p s

/-- R415: a PROVISIONAL satellite whose HOP + 1 is its position is confirmed; any other loses its position and is assigned
anew. -/
def provisionalCheck (t pos uid hwver ringver hop : Nat) (s : State) : State :=
  if posNo pos = hop + 1 then modView pos (fun v => { v with prov := false, hop := hop + 1, path := .outEnd }) s
  else
    let s := forgetSat pos s
    let s := modView pos (fun v => { restarts := v.restarts, resends := v.resends }) s
    let s := raise .tth 3 (cutSatOrders pos 0x082 false (showSlots pos .unreachable s))
    let s := (slotsOf pos).foldl (fun s id => releaseLift id s) s
    let p := givenPosition s t .outEnd uid hop
    if parks s t uid p then park t .outEnd pos uid s else assign t .outEnd pos uid hwver ringver hop p s

/-- An identity is taken (R407 to R412, R415): the addressed one of a heal is judged, any other is the walk's. -/
def enumAnswer (t uid hwver ringver hop pos : Nat) (s : State) : State :=
  let v := viewGet s (64 * t + pos)
  if pos ≠ 0 then
    if v.provQuery && decide (v.uid = uid) && positionHeld v then
      provisionalCheck t (64 * t + pos) uid hwver ringver hop
        (modView (64 * t + pos) (fun v => { v with provQuery := false }) s)
    else s
  else
    match (tetherGet s t).walk with
    | some w => if w.current.isSome then s else walkFound t w uid hwver ringver hop s
    | none => s

/-- ENUM_ANSWER: POS is the sender's position, 0 while it has none. -/
def execEnumAnswer (tether uid hwver ringver hop : Nat) (rx : Arrival) (s : State) : Res :=
  onRing (received tether
    { pos := rx.pos, dir := true, type := 4, payload := natLe 8 uid ++ [byte hwver, byte ringver, byte hop] } rx
    (enumAnswer tether uid hwver ringver hop rx.pos)) s

/-- The walk from one end is over: the RET end's follows the OUT end's, except on an intact tether (R408, R437). A satellite
that had not acknowledged its position has none. -/
def walkEnds (t : Nat) (intact : Bool) (s : State) : State :=
  match (tetherGet s t).walk with
  | none => s
  | some w =>
    let s := match w.current with
      | some pos => modView pos (fun v => { v with assigning := false }) s
      | none => s
    if w.from_ = .outEnd ∧ intact = false then
      sendQuery t .retEnd 0
        (modTether t (fun x => { x with walk := some { from_ := .retEnd, given := w.given, outDone := true } }) s)
    else modTether t (fun x => { x with walk := none }) s

/-- ENUM_WALK_TIMEOUT (R408, R437): a frame of the walk went unanswered for 100 µs. -/
def execEnumWalkTimeout (tether : Nat) (s : State) : Res := onRing (walkEnds tether false) s

/-- Measure a tether's loops: the delays are the cable's, so free values (notes/assumptions/25.md); SKEW beyond ±51. -/
def measureLoops (t : Nat) (s : State) : State :=
  let (f, s) := drawFree s
  let (k, s) := drawFree s
  let (d, s) := drawFree s
  let skew : Int := (d % 1024 : Nat) - 512
  let s := modTether t (fun x => { x with loopF := f % 1023, loopK := k % 1023, skew := skew }) s
  if 51 < skew.natAbs then raise .tth 5 s else s

/-- The tether is found intact (R408): every frame leaves its OUT end (R382); measured when it first becomes so. -/
def becomeIntact (t : Nat) (s : State) : State :=
  let x := tetherGet s t
  let s := walkEnds t true s
  if x.mode = 3 then s
  else
    let s := modTether t (fun x => { x with mode := 2 }) s
    let s := (tetherPositions s t).foldl (fun s p => modView p (fun v => { v with path := .outEnd }) s) s
    if x.loopF = 0x3FF then measureLoops t s else s

/-- The hub's own query came back at the end that sent it: the tether is wrapped. A first walk has passed every satellite on
its side, so the break stands after the last one (R420); later the WRAP results tell it. -/
def foundWrapped (t : Nat) (s : State) : State :=
  modTether t (fun x =>
    let b := if x.mode = 1 ∧ x.brkA = 0 ∧ x.brkB = 0 then x.chain + 1 else 0
    { x with mode := 3, brkA := if b = 0 then x.brkA else b, brkB := if b = 0 then x.brkB else b }) s

/-- DIR0_FRAME_RETURNED (R400, R408): the hub's own ENUM query at the far end shows the tether intact, at the end that sent it
a wrap; any other frame that returns was for a position not on that loop. -/
def execDir0FrameReturned (tether : Nat) (enumQuery farEnd : Bool) (s : State) : Res :=
  onRing (fun s =>
    let x := tetherGet s tether
    let atRet := match x.walk with
      | some w => xor (decide (w.from_ = .retEnd)) farEnd
      | none => farEnd
    let l := if enumQuery then (packFrame { hubFrame 0 false 4 [byte x.chain] with pos := 0 }).map Sym.d else x.txOut
    let s := modTether tether (fun x => { x with taken := x.taken ++ [ringInput tether atRet l] }) s
    match (tetherGet s tether).walk with
    | some w =>
      if w.current.isSome || !enumQuery then s
      else if farEnd then becomeIntact tether s
      else walkEnds tether false (foundWrapped tether s)
    | none => s) s

/-- TETHER_REWALK (R414). -/
def execTetherRewalk (tether : Nat) (s : State) : Res :=
  .next (if (s.sys.state = .run ∨ s.sys.state = .standby) ∧
      (tetherPositions s tether).any (fun p => decide ((viewGet s p).state = .absent)) = true then startWalk tether s
    else s)

/-! ### One satellite (R401, R413, R429 to R432, R455) -/

/-- The hub's commands begin afresh: both toggles 0. -/
def freshToggles (v : SatView) : SatView := { v with toggleH := false, lastS := false, out := none, queue := [] }

/-- Start a delay measurement (R429): DELAY, and the marker that leaves at this tick. -/
def startDelay (pos : Nat) (s : State) : State :=
  let t1 := 16 * s.sys.tick
  hubTo pos false 6 [] (modView pos (fun v => { v with t1 := some t1, t4 := none }) s)

/-- ASSIGN_ACK (R401, R413): ENUMERATING, toggles 0, no card powered; the delay measurement begins. -/
def assignAck (pos : Nat) (s : State) : State :=
  if (viewGet s pos).assigning then
    let s := forgetSat pos s
    let s := modView pos (fun v => { freshToggles v with state := .enumerating, zfst := 0x200, railsSeen := false }) s
    let s := modTether (posTether pos) (fun x => { x with
      walk := x.walk.map (fun w => { w with current := some pos }) }) s
    let s := (slotsOf pos).foldl (fun s id => releaseLift id (modSlotView id (fun v =>
      { st := .empty, trips := v.trips, removals := v.removals, cause := v.cause, emergency := v.emergency }) s)) s
    startDelay pos s
  else s

/-- ASSIGN_ACK. -/
def execAssignAck (pos : Nat) (rx : Arrival) (s : State) : Res :=
  onRing (receivedOf pos false 5 [byte (posNo pos)] rx (assignAck pos)) s

/-- DELAY_ECHO_ARRIVAL (R429 step 4): stamped to 1/16 tick. -/
def execDelayEchoArrival (pos t4 : Nat) (s : State) : Res :=
  let t := posTether pos
  let ret := decide ((viewGet s pos).path = .outEnd)
  onRing (fun s => modView pos (fun v => if v.t1.isSome ∧ v.t4 = none then { v with t4 := some t4 } else v)
    (modTether t (fun x => { x with taken := x.taken ++ [lineInput t ret (!ret) 2 (t4 % 16)] }) s)) s

/-- d in 1/16 tick: (t4 - t1 - c) / 2, halves up (R429 step 5). -/
def delayOf (t1 t4 c : Nat) : Nat := (t4 - t1 - 16 * c + 1) / 2

/-- A K28.1 leaves the hub: counted; it is the time marker of the satellites it reaches (R389, R431). -/
def sendMarker (t : Nat) (s : State) : State :=
  let s := modTether t (fun x => { x with beacons := x.beacons + 1, sent := x.sent ++ [(.outEnd, [.beacon])] }) s
  { s with sat := { s.sat with sats := s.sat.sats.map (fun (e : Nat × Sat) =>
      if posTether e.1 = t then (e.1, { e.2 with markerTick := e.2.tick }) else e) } }

/-- DELAY_ANSWER (R429, R431): d is known; a marker and the TSYNC with its tick follow. -/
def delayAnswer (pos c : Nat) (s : State) : State :=
  match (viewGet s pos).t1, (viewGet s pos).t4 with
  | some t1, some t4 =>
    let d := delayOf t1 t4 c % 2 ^ 20
    let s := sendMarker (posTether pos) (modView pos (fun v => { v with delay := d, t1 := none, t4 := none }) s)
    hubTo pos false 7 (natLe 8 s.sys.tick ++ natLe 3 d) s
  | _, _ => s

/-- DELAY_ANSWER. -/
def execDelayAnswer (pos c : Nat) (rx : Arrival) (s : State) : Res :=
  onRing (receivedOf pos false 6 (natLe 2 c) rx (delayAnswer pos c)) s

/-- The steps of R413 are over for the satellite that a walk found: the next query is sent. -/
def walkNext (pos : Nat) (s : State) : State :=
  let t := posTether pos
  match (tetherGet s t).walk with
  | some w =>
    if w.current = some pos then
      sendQuery t w.from_ 0 (modTether t (fun x => { x with walk := some { w with current := none } }) s)
    else s
  | none => s

/-- R412: its ring protocol version or hardware lies outside the running firmware's range. -/
def outsideRange (s : State) (v : SatView) : Bool :=
  decide (v.ringver < s.sys.ringMin) || decide (s.sys.ringMax < v.ringver) || decide (v.hwver < s.sys.hwMin) ||
    decide (s.sys.hwMax < v.hwver)

/-- TSYNC_ANSWER (R412, R413, R455): INCOMPATIBLE, or configured. -/
def tsyncAnswer (pos : Nat) (s : State) : State :=
  let v := viewGet s pos
  if v.state = .enumerating ∧ v.out = none ∧ v.queue = [] then
    if outsideRange s v then
      let s := modView pos (fun v => { v with state := .incompatible }) s
      raise .sat 2 (sendCmd pos { code := 0x0C, args := [] } (showSlots pos .unreachable (walkNext pos s)))
    else sendSetup pos s
  else s

/-- TSYNC_ANSWER. -/
def execTsyncAnswer (pos : Nat) (rx : Arrival) (s : State) : Res := onRing (receivedOf pos false 7 [] rx (tsyncAnswer pos)) s

/-- LOST_SILENCE_RELEASE (R504, R667). -/
def execLostSilenceRelease (pos : Nat) (s : State) : Res :=
  .next (if (viewGet s pos).state = .lost then (slotsOf pos).foldl (fun s id => releaseLift id s) s else s)

/-- A delay measurement waits for its echo on a pair (R430): on K where the marker left the OUT end. -/
def echoDue (s : State) (t : Nat) (pairK : Bool) : Bool :=
  (tetherPositions s t).any (fun p =>
    let v := viewGet s p
    decide (v.path = if pairK then .outEnd else .retEnd) && v.t4.isNone &&
      (match v.t1 with
        | some t1 => decide (s.sys.tick ≤ t1 / 16 + 16000)
        | none => false))

/-- BEACON_SEND (R389, R430): none goes on a pair that carries an echo. -/
def execBeaconSend (tether : Nat) (pairK : Bool) (s : State) : Res :=
  .next (if (tetherGet s tether).transmit && !echoDue s tether pairK then sendMarker tether s else s)

end Machine
end Sys2Proof
end

