-- ==== Sys2Proof/Machine/RingCmds.lean ====
section
/-!
DEFINITION. Commands of the hub to its satellites and their results (12, 13, 25): acknowledgments, resendings, orders at
satellites, updates, module rails. A RESULT is taken when its S differs from the last one taken (R404).
-/
namespace Sys2Proof
namespace Machine

/-! ### Orders at a satellite -/

/-- The dispatched order of one of the opcodes that names a satellite. -/
def satOrder (s : State) (pos op : Nat) : Option Order :=
  s.ord.orders.find? (fun o => decide (o.stage = .dispatched) && decide (o.opcode = op) && decide (4 ≤ o.slot) &&
    decide (slotPos o.slot = pos))

/-- The dispatched order at a satellite slot with ORDER's 16-bit id. -/
def slotOrder (s : State) (id oid : Nat) : Option Order :=
  s.ord.orders.find? (fun o => decide (o.stage = .dispatched) && decide (o.slot = id) && decide (wireId o.id = oid) &&
    !isSatOp o.opcode)

/-- End the order of an opcode that names the satellite. -/
def endSatOrder (pos op code : Nat) (s : State) : State :=
  match satOrder s pos op with
  | some o => endOrder o code 0 s
  | none => s

/-- A status by which a refused PUT or ORDER ends its order: LENGTH_BAD on ARG_BAD and RANGE, else STATE_BAD. -/
def cackStatus (code : Nat) : Nat := if code = 2 ∨ code = 5 then 0x012 else 0x014

/-! ### Satellite updates (R870 to R874) -/

/-- Payload offset from which a satellite is sent the image (R870). -/
def updStart (v : SatView) : Nat := if v.imageState = 4 then 0 else 8192

/-- The view shows the slot's card powered. -/
def viewPowered (v : SlotView) : Bool :=
  match v.st with
  | .rising | .atr | .ready | .busy | .asleep => true
  | _ => false

/-- UPD_BEGIN for an order (Table - Update commands). -/
def updBegin (o : Order) (s : State) : State :=
  let pos := slotPos o.slot
  let x := (if bitAt o.param 0 then s.upd.store1 else s.upd.store0).image
  let start := updStart (viewGet s pos)
  let n := payloadLen x - start
  let s := { s with upd := { s.upd with satPos := 4 * pos, satPhase := 1, satStart := start, nextAt := none } }
  sendCmd pos { code := 0x10, args := natLe 3 start ++ natLe 3 n ++ sha256 (payload x start n) ++ natLe 4 (imageVersion x),
                order := o.id } (modOrder o.id (fun x => { x with progress := 2 }) s)

/-- SAT_UPDATE (R873): with FORCE, powered slots are deactivated first; then UPD_BEGIN. One satellite at a time. -/
def satUpdate (o : Order) (s : State) : State :=
  let pos := slotPos o.slot
  let powered := (slotsOf pos).filter (fun id => viewPowered (slotViewGet s id))
  if s.upd.satPos ≠ 0x3FF ∨ 1 < o.progress then s
  else if powered = [] then updBegin o s
  else if o.progress = 0 then
    powered.foldl (fun s id => sendCmd pos
      { code := 0x04, args := [byte (id % 4), 0x03] ++ arg2 0 ++ arg2 0 ++ arg2 0, order := o.id } s)
      (modOrder o.id (fun x => { x with progress := 1 }) s)
  else s

/-- The next UPD_DATA of a transfer, or UPD_END with the IDENT that shows how it ended (R870 to R872). -/
def updNext (pos : Nat) (s : State) : State :=
  match satOrder s pos 0x12 with
  | none => s
  | some o =>
    let x := (updImage s pos).image
    let start := s.upd.satStart
    let done := o.progress - 2
    let left := payloadLen x - start - done
    if left = 0 then
      let s := { s with upd := { s.upd with satPhase := 3 } }
      sendCmd pos { code := 0x0C, args := [], order := o.id } (sendCmd pos { code := 0x12, args := [], order := o.id } s)
    else
      let n := min 240 left
      sendCmd pos { code := 0x11, args := natLe 3 (start + done) ++ payload x (start + done) n, order := o.id }
        (modOrder o.id (fun x => { x with progress := x.progress + n }) s)

/-- An UPD_DATA has been acknowledged: UPD_END follows where all is sent, the next UPD_DATA 100 µs later (R871). -/
def updAcked (pos : Nat) (s : State) : State :=
  match satOrder s pos 0x12 with
  | none => s
  | some o =>
    if payloadLen (updImage s pos).image ≤ s.upd.satStart + (o.progress - 2) then updNext pos s
    else { s with upd := { s.upd with nextAt := some (s.sys.tick + 80000) } }

/-- The tick from which the next UPD_DATA may go has come. -/
def updPace (s : State) : State :=
  match s.upd.nextAt with
  | none => s
  | some t =>
    if t ≤ s.sys.tick ∧ ringLive s = true then
      let s := { s with upd := { s.upd with nextAt := none } }
      if s.upd.satPos = 0x3FF then s else updNext (s.upd.satPos / 4) s
    else s

/-- The satellite enters UPDATING (R36, R874): other orders return WITHDRAWN, no slot is powered. -/
def showUpdating (pos : Nat) (s : State) : State :=
  let s := cutSatOrders pos 0x080 true (modView pos (fun v => { v with state := .updating }) s)
  (slotsOf pos).foldl (fun s id => releaseLift id s) (showSlots pos .updating s)

/-- An update ends with PROTOCOL and SAT_FAIL (R874). -/
def updProtocol (pos : Nat) (s : State) : State := endSatOrder pos 0x12 0x04A (updFails pos s)

/-! ### Acknowledgments (R402, R403, R405) -/

/-- What the acknowledgment of a command does for whom it served. -/
def ackEffect (pos : Nat) (c : HubCmd) (code : Nat) (s : State) : State :=
  let refuse := fun (st : Nat) (s : State) => match orderGet s c.order with
    | some o => cutOrder { o with stage := .admitted } st s
    | none => s
  match c.code with
  | 0x01 | 0x02 => if code = 0 then modView pos (fun v => { v with setup := v.setup - 1 }) s else s
  | 0x03 | 0x04 => if code = 0 ∨ c.order = 0 ∨ (satOrder s pos 0x12).isSome then s else refuse (cackStatus code) s
  | 0x05 =>
    if code = 0 then endSatOrder pos 0x0F 0 (modView pos (fun v => { v with state := .asleep }) s)
    else refuse 0x014 s
  | 0x06 =>
    if code = 0 then
      if c.args = [1] then modView pos (fun v => { v with
        grail0 := if v.grail0 = 3 then 1 else v.grail0, grail1 := if v.grail1 = 3 then 1 else v.grail1 }) s
      else s
    else if c.order = 0 then
      { s with rls := { s.rls with raiseTurn := s.rls.raiseTurn.setIfInBounds (posTether pos) 0 } }
    else refuse 0x014 s
  | 0x08 => if code = 0 then s else refuse 0x014 s
  | 0x10 => if code = 0 then showUpdating pos s else s
  | 0x11 =>
    if code = 0 then updAcked pos s
    else if code = 3 then
      modOrder c.order (fun o => { o with progress := o.progress - (c.args.length - 3) })
        { s with upd := { s.upd with satPhase := 1 } }
    else s
  | _ => s

/-- A host's command (SAT_CMD) as SAT_CMDST shows it: a trace replay runs on until its REPLAY result (R910). -/
def hostAck (c : HubCmd) (code : Nat) (v : SatView) : SatView :=
  if !c.fromHost then v
  else if code ≠ 0 then { v with cmdSt := 3, cackCode := code, queue := v.queue.filter (fun x => !x.fromHost) }
  else { v with cmdSt := if c.code = 0x0D then 1 else 2, cackCode := 0 }

/-- CACK (R402, R405): of the outstanding command, by its H; any other is stale. -/
def cackTaken (pos : Nat) (h : Bool) (code : Nat) (s : State) : State :=
  let v := viewGet s pos
  match v.out with
  | some c =>
    if h = v.toggleH then
      let s := modView pos (fun v => hostAck c code { v with out := none }) s
      let s := if c.fromHost && decide (c.code = 0x07) && decide (code ≠ 0) then
          { s with sat := { s.sat with trFetching := false } } else s
      nextCmd pos (ackEffect pos c code s)
    else countStale (posTether pos) s
  | none => countStale (posTether pos) s

/-- CACK. -/
def execCack (pos : Nat) (h : Bool) (code : Nat) (rx : Arrival) (s : State) : Res :=
  onRing (receivedOf pos h 1 [byte code] rx (cackTaken pos h code)) s

/-- CMD_RESEND (R403): four sendings on one path, four on the other where the tether is wrapped, then LOST. -/
def cmdResend (pos : Nat) (s : State) : State :=
  match (viewGet s pos).out with
  | none => s
  | some c =>
    let wrapped := decide ((tetherGet s (posTether pos)).mode = 3)
    if c.sends1 < 4 ∨ (wrapped = true ∧ c.sends2 < 4) then
      let c' := if c.sends1 < 4 then { c with sends1 := c.sends1 + 1 } else { c with sends2 := c.sends2 + 1 }
      let e := (viewGet s pos).path
      putCmd pos (if c.sends1 < 4 then e else e.other) c
        (modTether (posTether pos) (fun x => { x with retry := satInc x.retry })
          (modView pos (fun v => { v with out := some c', resends := satInc v.resends }) s))
    else satLost pos s

/-- CMD_RESEND. -/
def execCmdResend (pos : Nat) (s : State) : Res := onRing (cmdResend pos) s

/-- A WAKE leaves an end: K28.3 and a D symbol with the position (R393). -/
def sendWake (pos : Nat) (e : RingEnd) (s : State) : State :=
  modTether (posTether pos) (hubPut e [.wake, .d (byte (posNo pos))]) s

/-- WAKE_RESEND (R462): at most four sendings on each path that reaches the satellite, then LOST. -/
def wakeResend (pos : Nat) (s : State) : State :=
  let v := viewGet s pos
  if v.wakes = 0 then s
  else if v.wakes < (if (tetherGet s (posTether pos)).mode = 3 then 8 else 4) then
    sendWake pos (if v.wakes < 4 then v.path else v.path.other) (modView pos (fun v => { v with wakes := v.wakes + 1 }) s)
  else satLost pos s

/-- WAKE_RESEND. -/
def execWakeResend (pos : Nat) (s : State) : Res := onRing (wakeResend pos) s

/-! ### Taking results (R404, R405) -/

/-- States from which RESULTs are taken (R405). -/
def takesFrom (s : State) (pos : Nat) : Bool :=
  (rigSat s pos).isSome &&
    match (viewGet s pos).state with
    | .absent | .lost | .isolated => false
    | _ => true

/-- What a RESULT does at the hub (R405): stale, a repeat, or taken; one that Table - STANDBY does not list wakes the cores
(R724). -/
def resultTaken (pos : Nat) (t wakes : Bool) (f : State → State) (s : State) : State :=
  if !takesFrom s pos then countStale (posTether pos) s
  else if (viewGet s pos).lastS = t then s
  else
    let s := modView pos (fun v => { v with lastS := t }) s
    f (if wakes then coreWake 6 s else s)

/-- A RESULT frame of a position (R404): every valid one is acknowledged with its S. -/
def resultFrame (pos : Nat) (t : Bool) (kind slot : Nat) (payload : List Byte) (rx : Arrival) (f : State → State)
    (s : State) : State :=
  receivedOf pos t 2 ([byte kind, byte slot] ++ payload) rx (fun s => f (hubTo pos t 2 [] s)) s

/-- Take a RESULT. -/
def takeResult (pos : Nat) (t wakes : Bool) (kind slot : Nat) (payload : List Byte) (rx : Arrival) (f : State → State)
    (s : State) : Res :=
  onRing (resultFrame pos t kind slot payload rx (resultTaken pos t wakes f)) s

/-- Status codes a satellite may report in DONE; any other counts as PROTOCOL. -/
def doneStatus (c : Nat) : Nat :=
  if c = 0 ∨ c = 0x012 ∨ c = 0x014 ∨ (0x041 ≤ c ∧ c ≤ 0x04D) ∨ c = 0x085 then c else 0x04A

/-- The slot's state after DONE (R502): what the order's outcome leaves; `none`: no change, or off by DET. -/
def afterDone (op code : Nat) (t1 : Bool) : Option SlotState :=
  match code with
  | 0 => if op = 0x03 then none else if op = 0x07 then some .asleep else some .ready
  | 0x04B | 0x048 | 0x04C => some .ready
  | 0x04A => if t1 then some .ready else none
  | 0x049 => if op = 0x05 then some .ready else none
  | 0x04D => if op = 0x09 then none else some .ready
  | _ => none

/-- Protocol words of a slot whose ATR the hub has taken with the return (R541, R574, R577). -/
def viewAtr (div : Nat) (rx : List Byte) (v : SlotView) : SlotView :=
  match atrParse rx with
  | none => v
  | some (a, _) =>
    let x := atrForce rx a { ch := { div := div, ppsOpen := true } }
    { v with ch := x.ch, crc := x.tr.crc, ifsc := x.tr.ifsc, bwi := x.tr.bwi, bwt := x.tr.bwt, indicated := x.indicated,
             atrClasses := x.atrClasses }

/-- PPS as the hub knows it from the order and its status (Table - PPS outcomes). -/
def viewPps (param : Nat) (ok : Bool) (v : SlotView) : SlotView :=
  let fi := if ok then field param 4 4 else 1
  let di := if ok then field param 0 4 else 1
  { v with ch := { v.ch with fi := fi, di := di, etu := etuOf fi di v.ch.div, inForce := inForceOf (bit (bitAt param 8)) } }

/-- The hub's view of a slot after DONE. -/
def viewDone (s : State) (o : Order) (code : Nat) (v : SlotView) : SlotView :=
  let off : SlotView := { v with
    st := if v.st = .tripped then .tripped else if v.det then .present else .empty
    cls := 0, ch := {}, crc := false, ifsc := 32, bwi := 4, bwt := 0
    cause := if viewPowered v then (if o.opcode = 0x03 then 1 else if code = 0x085 then 7 else 8) else v.cause
    emergency := if viewPowered v then decide (code = 0x085) else v.emergency }
  if code = 0x012 ∨ code = 0x014 then v
  else match afterDone o.opcode code (decide (v.ch.inForce = 2)) with
    | none => off
    | some st =>
      let v := { v with st := st }
      if code = 0 ∧ (o.opcode = 0x01 ∨ o.opcode = 0x02) then viewAtr s.rig.running.activation.div o.data v
      else if o.opcode = 0x06 then viewPps o.param (decide (code = 0)) v
      else if o.opcode = 0x07 ∨ o.opcode = 0x08 then { v with ch := { v.ch with stopped := decide (o.opcode = 0x07) } }
      else v

/-- DONE and every DATA of an order have been taken (R465 to R467): the return, with its data. -/
def finishOrder (o : Order) (s : State) : State :=
  match o.done with
  | none => s
  | some (status, full) =>
    if o.data.length < min full 1024 then s
    else
      let code := doneStatus status
      let s := modSlotView o.slot (viewDone s o code) s
      let s := if viewPowered (slotViewGet s o.slot) then
          (if o.opcode ≤ 0x02 ∨ o.opcode = 0x09 then activationDone o.slot s else s)
        else if code = 0x012 ∨ code = 0x014 then s
        else releaseLift o.slot s
      if o.opcode = 0x0B ∧ code = 0 then endOrder o 0 512 s
      else endOrderData o code (o.data.take 1024) full s

/-- DONE_RESULT (R465 to R467, R379). -/
def doneTaken (pos slot oid status full : Nat) (first : List Byte) (s : State) : State :=
  let id := slotOf pos (slot % 4)
  match slotOrder s id oid with
  | none => countStale (posTether pos) s
  | some o =>
    let o := { o with done := some (status, full), data := o.data ++ first }
    finishOrder o (modOrder o.id (fun _ => o) s)

/-- DONE_RESULT. -/
def execDoneResult (pos : Nat) (t : Bool) (slot oid status full : Nat) (first : List Byte) (rx : Arrival) (s : State) : Res :=
  takeResult pos t true 0x01 slot (arg2 oid ++ [byte status] ++ natLe 3 full ++ first) rx (doneTaken pos slot oid status full first) s

/-- DATA_RESULT (R465, R467): in offset order. -/
def dataTaken (pos slot oid offset : Nat) (data : List Byte) (s : State) : State :=
  match slotOrder s (slotOf pos (slot % 4)) oid with
  | none => countStale (posTether pos) s
  | some o =>
    if offset = o.data.length then
      let o := { o with data := o.data ++ data }
      finishOrder o (modOrder o.id (fun _ => o) s)
    else s

/-- DATA_RESULT. -/
def execDataResult (pos : Nat) (t : Bool) (slot oid offset : Nat) (data : List Byte) (rx : Arrival) (s : State) : Res :=
  takeResult pos t true 0x02 slot (arg2 oid ++ arg2 offset ++ data) rx (dataTaken pos slot oid offset data) s

/-- SLT_CAUSE.CAUSE that a SLOT event and the state it leaves tell; `none`: the event ends no session. `live`: the view shows
a session, or an order is at the slot; `rising`: that order activates the card. A result cannot tell a slot's trip from the
total-current trip (3, 9), nor an undervoltage trip in an activation from VCC not good (4, 5): there `pick` chooses (log
entry 72). -/
def eventCause (event : Nat) (st : SlotState) (live rising pick : Bool) (v : SlotView) : Option Nat :=
  if st = .falling then none
  else match event with
  | 4 => some 2
  | 2 => some (if pick then 9 else 3)
  | 3 => some (if st = .tripped then (if rising && pick then 5 else 4) else 6)
  | 1 => if live then some 2 else if v.st = .falling then some 7 else none
  | _ => if viewPowered v ∨ v.st = .falling then some 7 else none

/-- The hub's view of a slot after a SLOT result (R502); `cause` as above. -/
def viewSlot (event : Nat) (st : SlotState) (cause : Option Nat) (v : SlotView) : SlotView :=
  { v with
    st := if v.st = .updating then .updating else st
    det := if event = 1 ∨ event = 4 then false else if event = 0 then true else v.det
    cause := cause.getD v.cause
    emergency := if cause.isSome then true else v.emergency
    trips := if cause = some 3 ∨ cause = some 4 then satInc v.trips else v.trips
    removals := if cause = some 2 then satInc v.removals else v.removals }

/-- Status of the order at the slot, as the event tells it (Table - Emergency causes). -/
def eventStatus (event : Nat) : Nat :=
  match event with | 1 => 0x041 | 4 => 0x042 | 2 => 0x043 | 3 => 0x044 | _ => 0

/-- SLOT_RESULT (R500, R502 to R504): recorded in the log; a reservation ends with FALLING; a release returns OK. -/
def slotTaken (pos slot event code : Nat) (s : State) : State :=
  let id := slotOf pos (slot % 4)
  match slotStateOf code with
  | none | some .unreachable => s
  | some st =>
    let v := slotViewGet s id
    let was := v.st
    let at_ := s.ord.orders.filter (fun o => decide (o.stage = .dispatched) && decide (o.slot = id) && !isSatOp o.opcode)
    let held := decide (at_ ≠ [])
    let rising := at_.any (fun o => decide (o.opcode = 0x01) || decide (o.opcode = 0x09))
    let (n, s) := drawFree s
    let cause := eventCause event st (viewPowered v || held) rising (decide (n % 2 = 1)) v
    let s := modSlotView id (viewSlot event st cause) s
    let v := slotViewGet s id
    let s := queueRec 4 [id, v.cause + 16 * bit v.emergency, if held then eventStatus event else 0] s
    let s := if viewPowered v ∨ v.st = .falling then s else releaseLift id s
    match s.ord.orders.find? (fun o => decide (o.stage = .dispatched) && decide (o.slot = id) && decide (o.opcode = 0x03)) with
    | some o => if was = .tripped ∧ v.st ≠ .tripped then endOrder o 0 0 s else s
    | none => s

/-- SLOT_RESULT. -/
def execSlotResult (pos : Nat) (t : Bool) (slot event state : Nat) (rx : Arrival) (s : State) : Res :=
  takeResult pos t true 0x03 slot [byte event, byte state] rx (slotTaken pos slot event state) s

/-- RESTARTED_RESULT (R36, R401, R406, R448, R874): taken whatever its S; toggles 0; the satellite's orders return WITHDRAWN;
it is configured afresh. -/
def restartedTaken (pos cause : Nat) (s : State) : State :=
  if (rigSat s pos).isNone then s
  else
    let s := coreWake 6 s
    let upd := decide (cause = 4) && decide (s.upd.satPos = 4 * pos)
    let s := if upd then s else updFails pos s
    let keep := s.upd
    let s := forgetSat pos s
    let s := if upd then { s with upd := { keep with satPhase := 4 } } else s
    let s := modView pos (fun v => { freshToggles v with restarts := satInc v.restarts }) s
    let s := raise .sat 1 (cutSatOrders pos 0x080 upd s)
    match (viewGet s pos).state with
    | .absent | .lost | .isolated => s
    | .incompatible => sendCmd pos { code := 0x0C, args := [] } s
    | _ =>
      let s := modView pos (fun v => { v with state := .enumerating }) s
      let s := (slotsOf pos).foldl (fun s id => releaseLift id (modSlotView id (fun v =>
        { st := .empty, trips := v.trips, removals := v.removals, cause := v.cause, emergency := v.emergency }) s)) s
      sendSetup pos s

/-- RESTARTED_RESULT. -/
def execRestartedResult (pos : Nat) (t : Bool) (cause : Nat) (rx : Arrival) (s : State) : Res :=
  onRing (resultFrame pos t 0x06 0xFF [byte cause] rx (restartedTaken pos cause)) s

/-- WOKEN_RESULT (R459, R461, R462): ACTIVE; SAT_WAKE returns OK; rig fields changed meanwhile are sent now. -/
def wokenTaken (pos : Nat) (s : State) : State :=
  let v := viewGet s pos
  let s := modView pos (fun v => { v with
    state := if v.state = .asleep then .active else v.state, waking := false, wakes := 0 }) s
  let s := endSatOrder pos 0x10 0 s
  if v.state = .asleep ∧ v.setup ≠ 0 then sendSetup pos s else s

/-- WOKEN_RESULT. -/
def execWokenResult (pos : Nat) (t : Bool) (rx : Arrival) (s : State) : Res := takeResult pos t true 0x07 0xFF [] rx (wokenTaken pos) s

/-- Declared module rails all read one of the states `ok`. -/
def railsAt (r : SatRec) (v : SatView) (ok : Nat → Bool) : Bool := (!r.grail0 || ok v.grail0) && (!r.grail1 || ok v.grail1)

/-- Module rail states as a RAIL result or a sweep report shows them; up or failed, they wait for no raise (R207). -/
def railsShown (r : SatRec) (g0 g1 : Nat) (v : SatView) : SatView :=
  let v := { v with grail0 := g0, grail1 := g1, railsSeen := true }
  { v with raiseDue := v.raiseDue && !railsAt r v (fun g => decide (g = 2)) && decide (g0 ≠ 3) && decide (g1 ≠ 3) }

/-- RAIL_RESULT (R207, R208, R214, Table - SAT_RAIL outcomes). -/
def railTaken (pos g0 g1 : Nat) (s : State) : State :=
  let r := (rigSat s pos).getD {}
  let old := viewGet s pos
  let failed := (decide (g0 = 3) && decide (old.grail0 ≠ 3)) || (decide (g1 = 3) && decide (old.grail1 ≠ 3))
  let s := modView pos (railsShown r (g0 % 4) (g1 % 4)) s
  let s := if failed then raise .rls 3 s else s
  let v := viewGet s pos
  let up := railsAt r v (fun g => decide (g = 2))
  let bad := decide (g0 = 3) || decide (g1 = 3)
  let t := posTether pos
  let s := if s.rls.raiseTurn.toList.getD t 0 = posNo pos ∧ (up || bad) = true then
      { s with rls := { s.rls with raiseTurn := s.rls.raiseTurn.setIfInBounds t 0 } } else s
  match satOrder s pos 0x11 with
  | none => s
  | some o =>
    if failed then endOrder o 0x044 0 s
    else if bitAt o.param 0 then (if bad then endOrder o 0x044 0 s else if up then endOrder o 0 0 s else s)
    else if railsAt r v (fun g => decide (g = 0) || decide (g = 3)) then endOrder o 0 0 s else s

/-- RAIL_RESULT. -/
def execRailResult (pos : Nat) (t : Bool) (g0 g1 : Nat) (rx : Arrival) (s : State) : Res := takeResult pos t true 0x08 0xFF [byte g0, byte g1] rx (railTaken pos g0 g1) s

/-- MODULE_RAIL_RAISE (R207): the next satellite of the tether that has reached ACTIVE and reports module rails neither up nor
failed; the hub waits for a first report, so that a channel that failed before a start of the hub stays off (R208; DEDUCED,
log entry 73). -/
def moduleRaise (t : Nat) (s : State) : State :=
  if s.rls.raiseTurn.toList.getD t 0 ≠ 0 ∨ 4 ≤ t then s
  else
    match (tetherPositions s t).find? (fun p =>
        let r := (rigSat s p).getD {}
        let v := viewGet s p
        (r.grail0 || r.grail1) && decide (v.state = .active) && v.raiseDue && v.railsSeen) with
    | none => s
    | some p =>
      sendCmd p { code := 0x06, args := [1] } <| modView p (fun v => { v with raiseDue := false })
        { s with rls := { s.rls with raiseTurn := s.rls.raiseTurn.setIfInBounds t (posNo p) } }

/-- MODULE_RAIL_RAISE. -/
def execModuleRailRaise (tether : Nat) (s : State) : Res := onRing (moduleRaise tether) s

/-- A satellite that runs its application and has taken its configuration becomes ACTIVE (R413, R455, R503); the update that
brought it there returns OK (R874). -/
def becomeActive (pos : Nat) (s : State) : State :=
  let r := (rigSat s pos).getD {}
  let s := walkNext pos (modView pos (fun v => { v with
    state := .active
    raiseDue := !v.railsSeen || !(railsAt r v (fun g => decide (g = 2)) || decide (v.grail0 = 3) || decide (v.grail1 = 3)) }) s)
  match satOrder s pos 0x12 with
  | none => s
  | some o =>
    let v := viewGet s pos
    if s.upd.satPos = 4 * pos ∧ v.fwB + 1024 * v.fwN + 1048576 * v.fwM = imageVersion (updImage s pos).image then
      endOrder o 0 0 (queueSatUpdate pos 5 { s with upd := { s.upd with
        satPos := 0x3FF, satPhase := 0, reason := 0, resTarget := 3 } })
    else s

/-- IDENT_RESULT (Table - Satellite image states, R871 to R874). -/
def identTaken (pos part build minor major image : Nat) (s : State) : State :=
  let s := modView pos (fun v => { v with
    part := part, fwB := build, fwN := minor, fwM := major, imageState := image }) s
  let v := viewGet s pos
  match v.state with
  | .enumerating =>
    if image = 0 then (if v.setup = 0 then becomeActive pos s else s)
    else if image = 4 then
      showSlots pos .updating (cutSatOrders pos 0x080 false (updFails pos
        (walkNext pos (modView pos (fun v => { v with state := .recovery }) s))))
    else if image ≤ 5 then
      let s := showUpdating pos (walkNext pos s)
      if image = 5 ∧ s.upd.satPos = 4 * pos then updProtocol pos s else s
    else s
  | .updating =>
    if s.upd.satPos ≠ 4 * pos then s
    else if image = 5 then updProtocol pos s
    else if image = 2 ∧ s.upd.satPhase = 1 then updNext pos { s with upd := { s.upd with satPhase := 2 } }
    else s
  | _ => s

/-- IDENT_RESULT. -/
def execIdentResult (pos : Nat) (t : Bool) (part build minor major image : Nat) (rx : Arrival) (s : State) : Res :=
  takeResult pos t true 0x09 0xFF (arg2 part ++ arg2 build ++ arg2 minor ++ arg2 major ++ [byte image]) rx (identTaken pos part build minor major image) s

/-- LOCKSRC_RESULT (R432): the satellite is synchronized again. -/
def execLocksrcResult (pos : Nat) (t : Bool) (srcK : Bool) (rx : Arrival) (s : State) : Res :=
  takeResult pos t false 0x0A 0xFF [byte (bit srcK)] rx (fun s => startDelay pos (modView pos (fun v => { v with lockK := srcK }) s)) s

/-- FAULT_RESULT (R755): SAT_ZFST, and SAT ZG4_FAULT. -/
def execFaultResult (pos : Nat) (t : Bool) (word : Word) (rx : Arrival) (s : State) : Res :=
  takeResult pos t true 0x0B 0xFF (arg2 word.toNat) rx (fun s => raise .sat 0 (modView pos (fun v => { v with zfst := word }) s)) s

/-- TRACE_RESULT (R467): sixteen chunks fill the trace buffer. -/
def execTraceResult (pos : Nat) (t : Bool) (slot chunk : Nat) (bytes : List Byte) (rx : Arrival) (s : State) : Res :=
  takeResult pos t true 0x0C slot (byte chunk :: bytes) rx (fun s =>
    if s.sat.trFetching && decide (s.sat.trSlot = slotOf pos (slot % 4)) && decide (chunk < 16) then
      { s with sat := { s.sat with
        trBytes := tblWriteBytes 0 s.sat.trBytes (128 * chunk) (bytes.take 128)
        trValid := decide (chunk = 15), trFetching := decide (chunk ≠ 15) } }
    else s) s

/-- POWER_RESULT (R206, R453): a satellite without VIN has its module rails off. -/
def execPowerResult (pos : Nat) (t : Bool) (back : Bool) (rx : Arrival) (s : State) : Res :=
  takeResult pos t true 0x0D 0xFF [byte (bit back)] rx (modView pos (fun v => { v with
    vinLost := !back, grail0 := if back then v.grail0 else 0, grail1 := if back then v.grail1 else 0 })) s

/-- REPLAY_RESULT (R910): SAT_CMDST then reads done. -/
def execReplayResult (pos : Nat) (t : Bool) (slot entry status : Nat) (rx : Arrival) (s : State) : Res :=
  takeResult pos t true 0x0E slot (arg2 entry ++ [byte status]) rx (modView pos (fun v => { v with cmdSt := if v.cmdSt = 1 then 2 else v.cmdSt })) s

/-! ### Orders that name a satellite (R461, R462, R873) -/

/-- A dispatched order of an opcode that has not begun. -/
def satBegin (id op : Nat) (f : Order → State → State) (s : State) : Res :=
  .next (match orderGet s id with
    | some o =>
      if o.stage = .dispatched ∧ o.opcode = op ∧ o.progress = 0 ∧ ringLive s = true then
        f o (modOrder id (fun x => { x with progress := 1 }) s)
      else s
    | none => s)

/-- SAT_SLEEP (R457, R461). -/
def execSatSleep (id : Nat) (s : State) : Res :=
  satBegin id 0x0F (fun o s => sendCmd (slotPos o.slot) { code := 0x05, args := [], order := o.id } s) s

/-- SAT_WAKE (R462): the first WAKE. -/
def execSatWake (id : Nat) (s : State) : Res :=
  satBegin id 0x10 (fun o s =>
    let pos := slotPos o.slot
    sendWake pos (viewGet s pos).path (modView pos (fun v => { v with wakes := 1, waking := true }) s)) s

/-- SAT_RAIL (R203, R204). -/
def execSatRail (id : Nat) (s : State) : Res :=
  satBegin id 0x11 (fun o s => sendCmd (slotPos o.slot) { code := 0x06, args := [byte (field o.param 0 1)], order := o.id } s) s

/-- SAT_UPDATE (R870 to R874). -/
def execSatUpdate (id : Nat) (s : State) : Res :=
  .next (match orderGet s id with
    | some o => if o.stage = .dispatched ∧ o.opcode = 0x12 ∧ ringLive s = true then satUpdate o s else s
    | none => s)

/-- UPD_IDENT_POLL (R871). -/
def execUpdIdentPoll (pos : Nat) (s : State) : Res :=
  onRing (fun s => if s.upd.satPos = 4 * pos ∧ s.upd.satPhase = 1 ∧ (viewGet s pos).out = none then
      sendCmd pos { code := 0x0C, args := [] } s else s) s

/-- SAT_UPDATE_TIMEOUT (R874): 2 s without the restart; none once the satellite has restarted. -/
def execSatUpdateTimeout (pos : Nat) (s : State) : Res :=
  onRing (fun s => if s.upd.satPos = 4 * pos ∧ s.upd.satPhase ≤ 3 then updProtocol pos s else s) s

/-! ### Host commands to a satellite (R469, R755, R909) -/

/-- A SAT_CMD write is refused (R469, R909); so is, for a satellite in INCOMPATIBLE, a command that R876 keeps from it (DESIGN
CHOICE, log entry 74). -/
def satCmdRefused (s : State) (pos cmd : Nat) : Bool :=
  decide ((viewGet s pos).cmdSt = 1) || (decide ((viewGet s pos).state = .incompatible) && decide (3 ≤ cmd)) ||
    (decide (cmd = 3) && s.sat.trFetching) || (decide (cmd = 6) && !s.sat.trValid)

/-- A SAT_CMD write that is accepted: the commands it sends. -/
def satCmd (pos slot cmd : Nat) (s : State) : State :=
  let host := fun (code : Nat) (args : List Byte) => ({ code := code, args := args, fromHost := true } : HubCmd)
  let n := byte slot
  let run := fun (l : List HubCmd) (s : State) =>
    l.foldl (fun s c => sendCmd pos c s) (modView pos (fun v => { v with cmdSt := 1, cackCode := 0 }) s)
  match cmd with
  | 1 => run [host 0x0B []] s
  | 2 => run [host 0x0A [0x0F]] s
  | 3 => run [host 0x07 [n, 1]] { s with sat := { s.sat with
      trFetching := true, trValid := false, trSlot := slotOf pos slot, trBytes := [] } }
  | 4 => run [host 0x07 [n, 2]] s
  | 5 => run [host 0x07 [n, 3]] s
  | 6 => run ((List.range 16).map (fun i => host 0x0D ([n, byte i] ++ tblBytes 0 s.sat.trBytes (128 * i) 128))) s
  | _ => s

/-- SAT_ZFACK: FAULT_ACK is sent (R755). -/
def satZfack (pos : Nat) (bits : Nat) (s : State) : State := sendCmd pos { code := 0x09, args := arg2 bits } s

end Machine
end Sys2Proof
end

