-- ==== Sys2Proof/Machine/Heal.lean ====
section
/-!
DEFINITION. Breaks, wraps and heals of a tether as the hub takes them (12, R416 to R428, R435, R438).
-/
namespace Sys2Proof
namespace Machine

/-- Every satellite of the tether that the hub knows as assigned, with its view. -/
def assignedOn (s : State) (t : Nat) : List Nat :=
  (tetherPositions s t).filter (fun p => positionHeld (viewGet s p) && !(viewGet s p).assigning)

/-- R419: a satellite on the OUT side of the break is reached from the OUT end, one on the RET side from the RET end. -/
def routeAround (t : Nat) (s : State) : State :=
  let x := tetherGet s t
  (assignedOn s t).foldl (fun s p => modView p (fun v => { v with path :=
    if x.brkA ≠ 0 ∧ v.hop < x.brkA then .outEnd
    else if x.brkB ≠ 0 ∧ x.brkB ≤ v.hop then .retEnd else v.path }) s) s

/-- R421: differing break segments make the satellites between them LOST; `ks` are the tether faults of the same tick. -/
def doubleCheck (t : Nat) (ks : List Nat) (s : State) : State :=
  let x := tetherGet s t
  if x.brkA = 0 ∨ x.brkB = 0 ∨ x.brkA = x.brkB then raiseMany .tth ks s
  else
    let was := x.double
    let s := modTether t (fun x => { x with double := true, heal := none }) s
    let s := if was then s else queueTether t 2 0 s
    satsLost (ks ++ (if was then [] else [1])) ((assignedOn s t).filter (fun p =>
      decide (min x.brkA x.brkB ≤ (viewGet s p).hop) && decide ((viewGet s p).hop < max x.brkA x.brkB))) s

/-- The wraps at a segment within 60 s (R425). -/
def wrapsAt (x : Tether) (now seg : Nat) : Nat :=
  (x.wrapLog.filter (fun e => decide (e.1 = seg) && decide (now - e.2 ≤ 60 * 800000000))).length

/-- A tether with a break seen from one side: the side's segment and pairs (R420); where that segment was just healed, both
neighbours stand at it again, the one that did not unwrap with its old pairs (R428). A heal is off (R438). -/
def withBreak (now : Nat) (sideB new : Bool) (seg pairs : Nat) (x : Tether) : Tether :=
  let x := match x.healed with
    | some (g, a, b) =>
      if x.mode = 2 ∧ g = seg then { x with brkA := g, brkAPairs := a, brkB := g, brkBPairs := b } else x
    | none => x
  let x := if sideB then { x with brkA := seg, brkAPairs := if x.brkA = seg then Nat.lor x.brkAPairs pairs else pairs }
    else { x with brkB := seg, brkBPairs := if x.brkB = seg then Nat.lor x.brkBPairs pairs else pairs }
  let x := { quietEnd x with
    mode := 3, heal := none, healReadyA := false, healReadyB := false, wraps := if new then satInc x.wraps else x.wraps
    wrapLog := if new then (seg, now) :: x.wrapLog.filter (fun e => decide (now - e.2 ≤ 60 * 800000000)) else x.wrapLog }
  { x with held := x.held || (new && decide (3 ≤ wrapsAt x now seg)) }

/-- A break is seen from one side (R417, R420): MODE wrapped; WRAP, TTH_WRAPSn and the record once for each segment; a walk
from one end ends (R437). -/
def breakSeen (t : Nat) (sideB : Bool) (seg pairs : Nat) (s : State) : State :=
  let now := s.sys.tick
  let x := tetherGet s t
  let new := (decide (x.brkA ≠ seg) || decide (x.brkAPairs = 0)) && (decide (x.brkB ≠ seg) || decide (x.brkBPairs = 0))
  let s := modTether t (withBreak now sideB new seg pairs) s
  let s := if new then queueTether t 0 0 (walkEnds t false s) else s
  doubleCheck t (if new then [0] else []) (routeAround t s)

/-- WRAP_RESULT (R420): a fold at port B has the break after it, one at port A before it. -/
def wrapTaken (pos : Nat) (lostF lostK portB : Bool) (s : State) : State :=
  let h := (viewGet s pos).hop
  let s := modView pos (fun v => { v with folded := true }) s
  breakSeen (posTether pos) portB (if portB then h + 1 else h) (bit lostF + 2 * bit lostK) s

/-- WRAP_RESULT. -/
def execWrapResult (pos : Nat) (t : Bool) (lostF lostK portB : Bool) (rx : Arrival) (s : State) : Res :=
  takeResult pos t false 0x04 0xFF [byte (bit lostF + 2 * bit lostK), byte (bit portB)] rx (wrapTaken pos lostF lostK portB) s

/-- The last segment of a tether: after the last satellite that walks have found. -/
def lastSegment (s : State) (t : Nat) : Nat :=
  max (tetherGet s t).chain (((assignedOn s t).map (fun p => (viewGet s p).hop)).foldl max 0) + 1

/-- A hub end stands in for the missing neighbour of a break at its own segment (R418): the OUT end receives K, the RET end
F. -/
def endLost (t : Nat) (retSide : Bool) (s : State) : State :=
  if (rigTether s t).isNone then s
  else if retSide then
    breakSeen t false (lastSegment s t) 1
      (modTether t (fun x => { x with retLost := true, linkRet := { stands := true } }) s)
  else breakSeen t true 1 2 (modTether t (fun x => { x with outLost := true, linkOut := { stands := true } }) s)

/-- The recorder takes an input lost or regained at a hub end: K at the OUT end, F at the RET end. -/
def endLine (t : Nat) (retSide : Bool) (event : Nat) (s : State) : State :=
  modTether t (fun x => { x with taken := x.taken ++ [lineInput t retSide (!retSide) event 0] }) s

/-- HUB_RING_INPUT_LOST (R418). -/
def execHubRingInputLost (tether : Nat) (retSide : Bool) (s : State) : Res :=
  onRing (endLost tether retSide) (endLine tether retSide 0 s)

/-- Valid symbols again at a satellite: a fold that had not formed is not needed. -/
def inputBack (pairK : Bool) (x : Sat) : Sat :=
  let x := if pairK then { x with inLostK := false } else { x with inLostF := false }
  { x with foldDue := if x.foldDue = some pairK then none else x.foldDue }

/-- RING_INPUT_REGAINED (R394): valid symbols again; the fold stays until a heal (R424). -/
def execRingInputRegained (place : Nat) (pairK : Bool) (s : State) : Res :=
  .next (if posNo place = 0 then
      modTether (posTether place) (fun x => if pairK then { x with outLost := false } else { x with retLost := false })
        (endLine (posTether place) (!pairK) 1 s)
    else modSat place (inputBack pairK) s)

/-! ### Healing (R423 to R428) -/

/-- The hub's OUT end, or RET end, is itself the neighbour of the break (R418). -/
def hubNeighbour (x : Tether) (sideB : Bool) : Bool := if sideB then x.linkRet.stands else x.linkOut.stands

/-- TTH_STATn.HOLDING (R425): TTH_HOLD, or the third wrap at the same segment within 60 s until HEAL_NOW. -/
def healHeld (s : State) (t : Nat) : Bool := bitAt s.tth.hold t || (tetherGet s t).held

/-- TTH_STATn.HEAL_READY: both neighbours report it. -/
def bothReady (x : Tether) : Bool := x.healReadyA && x.healReadyB

/-- The neighbour of the break on the OUT side, or on the RET side, where it is a satellite. -/
def neighbour (s : State) (t : Nat) (sideB : Bool) : Option Nat :=
  let x := tetherGet s t
  (assignedOn s t).find? (fun p =>
    let h := (viewGet s p).hop
    if sideB then decide (h = x.brkB) else decide (h + 1 = x.brkA))

/-- HEAL goes to the neighbours that have not answered it (R424, R426, R427). -/
def sendHeals (t : Nat) (s : State) : State :=
  match (tetherGet s t).heal with
  | none => s
  | some h =>
    let tick := natLe 8 (if h.cancelling then 0 else h.tick)
    let send := fun (sideB answered : Bool) (e : RingEnd) (s : State) =>
      match neighbour s t sideB with
      | some p => if answered then s else hubSend t e (hubFrame p false 8 tick) s
      | none => s
    send true h.answeredB .retEnd (send false h.answeredA .outEnd s)

/-- Send HEAL to both neighbours (R424): the unwrap tick lies at least 200 µs ahead; how much further is free
(notes/assumptions/26.md). From 20 µs before it until 20 µs after it the hub starts no frame. -/
def startHeal (t : Nat) (s : State) : State :=
  let (v, s) := drawFree s
  let tick := s.sys.tick + 160000 + v % 640000
  sendHeals t (modTether t (fun x => { x with
    quiet := some tick
    heal := some { tick := tick, answeredA := hubNeighbour x false, answeredB := hubNeighbour x true } }) s)

/-- Heal where both neighbours are ready, one break stands and nothing withholds it (R424, R425). -/
def tryHeal (t : Nat) (s : State) : State :=
  let x := tetherGet s t
  if x.mode = 3 ∧ x.heal = none ∧ bothReady x = true ∧ x.double = false ∧ healHeld s t = false then startHeal t s else s

/-- HEAL_READY_RESULT: by the satellite's place it is the neighbour on the OUT or on the RET side of the break. -/
def healReadyTaken (pos : Nat) (s : State) : State :=
  let t := posTether pos
  let h := (viewGet s pos).hop
  let x := tetherGet s t
  if x.mode ≠ 3 then s
  else if h + 1 = x.brkA then tryHeal t (modTether t (fun x => { x with healReadyA := true }) s)
  else if h = x.brkB then tryHeal t (modTether t (fun x => { x with healReadyB := true }) s)
  else s

/-- HEAL_READY_RESULT. -/
def execHealReadyResult (pos : Nat) (t : Bool) (rx : Arrival) (s : State) : Res :=
  takeResult pos t false 0x05 0xFF [] rx (healReadyTaken pos) s

/-- A hub end that stands in is ready when its LINK frames have come with RECEIVING set (R418, R423). -/
def hubReady (t : Nat) (s : State) : State :=
  let x := tetherGet s t
  if x.mode ≠ 3 then s
  else
    tryHeal t (modTether t (fun x => { x with
      healReadyA := x.healReadyA || (x.linkOut.stands && x.linkOut.rx)
      healReadyB := x.healReadyB || (x.linkRet.stands && x.linkRet.rx) }) s)

/-- HEAL_READY_TIMER: of a satellite, or of a hub end that stands in. -/
def execHealReadyTimer (sat : Nat) (s : State) : Res :=
  .next (if posNo sat = 0 then (if ringLive s then hubReady (posTether sat) s else s) else satHealReady sat s)

/-- A LINK frame at a hub end (R418): noted where the end stands in; on WRAPPED at an end whose segment was just healed the
break stands again (R428). -/
def hubLink (t : Nat) (pairK receiving wrapped : Bool) (s : State) : State :=
  let x := tetherGet s t
  let note := fun (e : LinkEnd) => { e with heard := true, rx := receiving }
  let healedAt := fun (g : Nat) => decide (x.mode = 2) && wrapped && decide (x.healed.map (fun e => e.1) = some g)
  if pairK then
    if x.linkOut.stands then modTether t (fun x => { x with linkOut := note x.linkOut }) s
    else if healedAt 1 then endLost t false s else s
  else if x.linkRet.stands then modTether t (fun x => { x with linkRet := note x.linkRet }) s
  else if healedAt (lastSegment s t) then endLost t true s else s

/-- LINK_FRAME (R418, R423, R428). -/
def execLinkFrame (sat : Nat) (receiving wrapped : Bool) (rx : Arrival) (s : State) : Res :=
  let f := linkFrame rx.pos rx.pairK receiving wrapped
  .next (if posNo sat = 0 then
      (if ringLive s then received (posTether sat) f rx (hubLink (posTether sat) rx.pairK receiving wrapped) s else s)
    else onSat sat true f rx (linkTaken sat rx.pairK receiving wrapped) s)

/-- HEAL_ANSWER (R426, R427): of the neighbour A or B, with the unwrap tick it has; both cancels answered start a new heal. -/
def healAnswer (t : Nat) (fromB : Bool) (unwrap : Nat) (s : State) : State :=
  match (tetherGet s t).heal with
  | none => s
  | some h =>
    if unwrap = (if h.cancelling then 0 else h.tick) then
      let h' := if fromB then { h with answeredB := true } else { h with answeredA := true }
      let s := modTether t (fun x => { x with heal := some h' }) s
      if h'.cancelling && h'.answeredA && h'.answeredB then tryHeal t (modTether t (fun x => { x with heal := none }) s) else s
    else s

/-- HEAL_ANSWER. -/
def execHealAnswer (tether : Nat) (fromB : Bool) (unwrap : Nat) (rx : Arrival) (s : State) : Res :=
  onRing (received tether { pos := rx.pos, dir := true, type := 8 } rx (healAnswer tether fromB unwrap)) s

/-- HEAL_RESEND (R426): an unanswered HEAL is sent again unchanged, but none later than 60 µs before the unwrap tick. -/
def execHealResend (tether : Nat) (s : State) : Res :=
  onRing (fun s =>
    match (tetherGet s tether).heal with
    | some h => if h.cancelling || decide (s.sys.tick + 48000 ≤ h.tick) then sendHeals tether s else s
    | none => s) s

/-- The HEAL with tick 0 that takes an unwrap back (R427); the hub's frames need not wait for that tick any more. -/
def cancelHeal (x : Tether) : Tether :=
  match x.heal with
  | some h =>
    if h.cancelling || (h.answeredA && h.answeredB) then x
    else { quietEnd x with
      heal := some { h with cancelling := true, answeredA := hubNeighbour x false, answeredB := hubNeighbour x true } }
  | none => x

/-- HEAL_CANCEL (R427): 60 µs before the unwrap an answer is missing. -/
def execHealCancel (tether : Nat) (s : State) : Res :=
  onRing (fun s =>
    let t := modTether tether cancelHeal s
    if (tetherGet t tether).heal = (tetherGet s tether).heal then t else sendHeals tether t) s

/-- A neighbour unfolds (R424): its LINK exchange is over, and it watches for a neighbour that did not (R428). -/
def unfold (x : Sat) : Sat :=
  { x with foldA := false, foldB := false, unwrapAt := none, linkHeard := false, linkRx := false, linkRxWrapped := false
           silent := false, unwrapped := true }

/-- Both neighbours unfold; one that has no unwrap tick stays as it is. -/
def unfoldSats (t : Nat) (s : State) : State :=
  { s with sat := { s.sat with sats := s.sat.sats.map (fun (e : Nat × Sat) =>
      if posTether e.1 = t ∧ e.2.unwrapAt.isSome = true then (e.1, unfold e.2) else e) } }

/-- A tether that the hub has healed: intact, with the segment kept in case the heal collapses (R428). -/
def healedTether (x : Tether) : Tether :=
  { x with
    mode := 2, double := false, healed := some (x.brkA, x.brkAPairs, x.brkBPairs), brkA := 0, brkAPairs := 0, brkB := 0
    brkBPairs := 0, healReadyA := false, healReadyB := false, heal := none, outLost := false, retLost := false
    linkOut := {}, linkRet := {} }

/-- After a heal a satellite is reached from the OUT end and synchronized again (R382, R432); a PROVISIONAL one is queried for
the judgment of its position (R415). -/
def afterHeal (t pos : Nat) (s : State) : State :=
  let prov := (viewGet s pos).prov
  let s := startDelay pos (modView pos (fun v => { v with path := .outEnd, folded := false, provQuery := prov }) s)
  if prov then sendQuery t .outEnd pos s else s

/-- UNWRAP (R414, R415, R424, R432): the tether is intact; it is measured, walked afresh, its satellites resynchronized. -/
def unwrap (t : Nat) (s : State) : State :=
  match (tetherGet s t).heal with
  | none => s
  | some h =>
    if h.cancelling || !h.answeredA || !h.answeredB then s
    else
      let s := modTether t healedTether (queueTether t 1 0 s)
      startWalk t (measureLoops t ((assignedOn s t).foldl (fun s p => afterHeal t p s) s))

/-- UNWRAP: the satellites that hold an unwrap tick unfold, whether or not the hub counts on it (R428). -/
def execUnwrap (tether : Nat) (s : State) : Res := onRing (unwrap tether) (unfoldSats tether s)

/-! ### TTH_CMD and TTH_HOLD (R414, R425, R432, R435) -/

/-- Why a TTH_CMD write is refused: 1 not declared, 2 walk in progress, 3 nothing to heal; 0 not refused (R435). -/
def tthRefusal (s : State) (t cmd : Nat) : Nat :=
  if (rigTether s t).isNone then 1
  else if cmd = 1 ∧ (tetherGet s t).walk.isSome = true then 2
  else if cmd = 3 ∧ (tetherGet s t).mode ≠ 3 then 3 else 0

/-- A TTH_CMD that is accepted: SEARCH, RESYNC, HEAL_NOW. -/
def tthCmd (t cmd : Nat) (s : State) : State :=
  match cmd with
  | 1 => startWalk t s
  | 2 => (assignedOn s t).foldl (fun s p => startDelay p s) s
  | 3 => tryHeal t (modTether t (fun x => { x with held := false }) s)
  | _ => s

/-- A TTH_HOLD write: tethers no longer withheld may heal. -/
def tthHold (v : Nat) (s : State) : State :=
  [0, 1, 2, 3].foldl (fun s t => tryHeal t s) { s with tth := { s.tth with hold := v } }

end Machine
end Sys2Proof
end

