-- ==== Sys2Proof/Machine/Resets.lean ====
section
/-!
DEFINITION. Entering RESET (R32, R38, R170, R216, R228, R230, R760): what every cause returns to its reset value, and the
effects by cause.
-/
namespace Sys2Proof
namespace Machine

/-- The update block at a start: a job is discarded with ABORTED, flash content stays (R866). -/
def resetUpd (u : Upd) : Upd :=
  { bankA := u.bankA, bankB := u.bankB, store0 := u.store0, store1 := u.store1, setA := u.setA, setB := u.setB,
    settings := u.settings, setFrom := u.setFrom,
    reason := if inRange u.phase 1 3 || decide (u.satPos ≠ 0x3FF) then 0x15 else 0
    resTarget := if u.fetch ≠ [] then ((u.fetch.head?).map (fun t => (tblGet 0xFF t 6).toNat)).getD 0 else if inRange u.phase 1 3 then u.target
      else if u.satPos ≠ 0x3FF then 3 else 0 }

/-- A STORE or an APPLY_LIVE runs. -/
def rigWrites (r : RigBlock) : Bool := r.job.any (fun j => decide (j.cmd = 4) || decide (j.cmd = 5))

/-- The rig block at a start: staging free, a command ended; the banks stay, and the running rig until BOOT loads one. A
STORE or APPLY_LIVE that the start cuts leaves the bank it writes without a trailer, so the running rig is loaded again
(R75); the model takes the write to have begun (DESIGN CHOICE, log entry 67). -/
def resetRig (r : RigBlock) : RigBlock :=
  { bankA := if rigWrites r && decide (r.bank = 1) then {} else r.bankA
    bankB := if rigWrites r && decide (r.bank ≠ 1) then {} else r.bankB
    running := r.running, bank := r.bank, migrated := r.migrated, loaded := r.loaded }

/-- The log at a start: the flash stays; the RAM queue is kept for the BOOT scan, but is lost after RECOVERY (R796). -/
def resetLog (st : HubState) (l : Log) : Log :=
  { l with queue := if st = .recovery then [] else l.queue, dropped := 0, fetch := ⟨{}, {}⟩, wearDue := false }

/-- The random source at a start: not ready, its pool empty; OTP and a running OTP command stay. -/
def resetRnd (r : Rnd) : Rnd :=
  { otp := r.otp, otpCmd := r.otpCmd, otpBusy := r.otpBusy, tap := r.tap }

/-- The recorder at RESET entry: recording stops, its words stay (R888); an enabled freeze has been taken before. -/
def resetRec (r : Rec) : Rec := { r with recording := false, replaying := false }

/-- The rail block as RESET is entered: its registers, lock and ENn stay (R117, R170), and a shutdown or a pending WARN
shutdown goes on; a rising program has no place in RESET, BOOT and RIGGING (Table - Rails by hub state and event) and ends
(DEDUCED, log entry 69). The turns of the module rails start afresh with the walk of ENUMERATE. -/
def restartRails (r : Rails) : Rails :=
  { r with rising := false, scanFails := [], raiseTurn := Vector.replicate 4 0 }

/-- Everything that a RESET of any cause returns to its reset value; the rail block is left as it is (R170), its fault word
with its marks too (R760). -/
def resetBlocks (s : State) : State :=
  let st := s.sys.state
  { s with
    fb := { rls := { (({} : FaultBanks).rls) with fst := s.fb.rls.fst, raised := s.fb.rls.raised } }
    rls := restartRails s.rls
    ports := ⟨{}, {}⟩
    mor := {}
    ord := { nextId := s.ord.nextId }
    tth := { tethers := Vector.replicate 4 { ripcordSent := true } }
    sat := { sats := s.sat.sats }
    ldg := {}
    mea := {}
    lko := {}
    log := resetLog st s.log
    rnd := resetRnd s.rnd
    upd := resetUpd s.upd
    rig := resetRig s.rig
    rcd := resetRec s.rcd
    sup := { s.sup with holdc := 0x3FF, holde := 0x3FF, checking := false, vPf := 55 }
    start := { cold := s.start.cold, cause := s.start.cause, block := s.start.block, upms := s.start.upms,
               recovReq := s.start.recovReq, streak := s.start.streak, count := s.start.count,
               exitTick := s.start.exitTick, resetHold := s.start.resetHold }
    sys := { s.sys with state := .reset, trial := false, fwMaj := 0, fwMin := 0, fwBld := 0, ringMin := 0, ringMax := 0 } }

/-- A start that ends before RUN counts toward STREAK (R230). -/
def streakAfter (st : HubState) (n : Nat) : Nat :=
  match st with
  | .boot | .rigging | .rising | .enumerate => min 8 (n + 1)
  | _ => n

/-- Slots, tethers and recorder as RESET is entered (R32, R895). -/
def resetSafe (s : State) : State :=
  trimsOff (ripcordLocals (ripcordTethers true (recFreeze 2 (bitAt s.rcd.cfg 0) false s)))

/-- Enter RESET by any cause but power-on reset, from a state other than OFF, RESET and FATAL (R28): `cause` and `block`
are what SYS_CAUSE shows from RESET exit. -/
def warmReset (cause block : Nat) (hold : ResetHold) (s : State) : State :=
  let st := s.sys.state
  let s := resetBlocks (resetSafe s)
  { s with start := { s.start with
      streak := streakAfter st s.start.streak, count := min 63 (s.start.count + 1), nextCause := cause,
      nextBlock := block, resetHold := hold } }

/-- RESET may be entered warm: not from OFF, RESET or FATAL (R28, R964). -/
def canWarm (s : State) : Bool :=
  decide (s.sys.state ≠ .off) && decide (s.sys.state ≠ .reset) && decide (s.sys.state ≠ .fatal)

/-- A warm restart (R228): host restart, CHIP_RESET, trial expiry, the end of RECOVERY or of replay, a failed rise. In RESET
it adds nothing to the reset in progress (R964). -/
def warmRestart (cause block : Nat) (s : State) : State :=
  if canWarm s then warmReset cause block .none s else s

/-- A power-fail record in progress ends and is invalid (R157, R165, R167); its sectors are no longer erased. -/
def endRecord (s : State) : State :=
  if s.sup.pfrBusy then { s with sup := { s.sup with pfrBusy := false, snapshot := none, reserve := 0 } } else s

/-- The rail block after a power-on reset (R140, R170): every ENn low, every word at its reset value. -/
def railsOff (s : State) : State :=
  { s with rls := {}, pins := { s.pins with en := 0, trmZ := 0xFF }
           fb := { s.fb with rls := ({} : FaultBanks).rls } }

/-- Enter RESET by power-on reset, from any state (R28, R140, R235): the tick counter is cleared and stops until the PLL
locks (R81), the recorder's RAM and words are cleared (R229). -/
def powerOn (s : State) : State :=
  let s := endRecord s
  let s := railsOff (resetBlocks (resetSafe s))
  { s with
    sys := { s.sys with tick := 0, tickRunning := false, pllLocked := false, slips := 0 }
    start := { s.start with streak := 0, count := 0, nextCause := 0, nextBlock := 0, resetHold := .por }
    sup := { s.sup with por := true, pfcnt := 0, charger := false, retireDue := [] }
    log := { s.log with queue := [] }
    rcd := { area0 := s.rcd.area0, area1 := s.rcd.area1, armed0 := s.rcd.armed0 && !s.rcd.dumping,
             armed1 := s.rcd.armed1 && !s.rcd.dumping } }

/-- A RESET_N held 10 µs (R115, R202): the record in progress ends (R165), every enabled rail is lowered, and RESET holds
until the shutdown has ended. In a RESET that another cause began it governs, but for power-on reset (R130, R235). DESIGN
CHOICE (log entry 64): in a RESET that power-on reset began and has released, SYS_CAUSE shows CAUSE 1, COLD reads 0 and
SYS_WARMS.COUNT stays. -/
def fullReset (s : State) : State :=
  let s := endRecord s
  let s := if canWarm s then warmReset 1 0 .none s
    else { s with start := { s.start with nextCause := 1, nextBlock := 0, tmodeStuck := false } }
  let s := if s.rls.falling then s else startShutdown s
  { s with start := { s.start with resetHold := if s.rls.falling then .shutdown else .none } }

/-- End of a replay (R908): REC_RSTAT shows why, and the hub enters RESET with cause 4. -/
def replayEnd (why : Nat) (s : State) : State :=
  if s.sys.state = .replay then warmRestart 4 0 { s with rcd := { s.rcd with rstat := why } } else s

end Machine
end Sys2Proof
end

