-- ==== Sys2Proof/Machine/Moorings.lean ====
section
/-!
DEFINITION. Two hosts with equal rights (10): moorings, claims, heartbeats, absence, port reset, the alarm state.
-/
namespace Sys2Proof
namespace Machine

/-! ### The alarm state (R298, R331, R332) -/

/-- ALARM_WAKE_ALL (R460, R670): WAKE with ALL reaches every satellite in ASLEEP; its demand is added at this tick. -/
def alarmWakeAll (s : State) : State :=
  let all := [Sym.wake, .d 0x40]
  let s := [0, 1, 2, 3].foldl (fun s t =>
    if (rigTether s t).isSome then modTether t (fun x => hubPut .retEnd all (hubPut .outEnd all x)) s else s) s
  (positions s).foldl (fun s p => modView p (fun v => if v.state = .asleep then { v with waking := true } else v) s) s

/-- States in which the hub runs its rig with hosts. -/
def inService (s : State) : Bool :=
  match s.sys.state with
  | .enumerate | .run | .standby => true
  | _ => false

/-- The alarm state follows ALM and the two requests (R298); at its beginning satellites are woken (R460), trims ramp to 0
(R199), the recorder may freeze (R895), the ledger decides (R655) and the cores wake (R724). -/
def alarmUpdate (s : State) : State :=
  let on := alarmOn s
  if on = s.sys.alarm then s
  else
    let s := setIevtBoth 0x001 { s with sys := { s.sys with alarm := on } }
    if s.sys.state = .fatal ∨ s.sys.state = .off ∨ s.sys.state = .reset then s
    else
      let s := if on then
          recFreeze 5 (bitAt s.rcd.cfg 3) true (rampTrims none (if ringLive s then alarmWakeAll s else s))
        else s
      let s := if on then coreWake 3 s else s
      if inService s then alarmLedger on s else s

/-- A port's own alarm request (SYS_ALARM.REQ). -/
def setAlarmReq (p : Port) (on : Bool) (s : State) : State :=
  alarmUpdate { s with sys := { s.sys with alarmReq := perPortSet s.sys.alarmReq p on } }

/-- ALM_FILTER_CHANGE (R114): ALM has held a level for 1 ms. The filter runs from RESET exit (R237). -/
def execAlmFilterChange (level : Bool) (s : State) : Res :=
  .next (if s.pins.vioOk = false then s
    else if s.sys.state = .off ∨ s.sys.state = .reset then { s with pins := { s.pins with almRaw := level } }
    else alarmUpdate { s with pins := { s.pins with alm := level, almRaw := level } })

/-! ### Ties (R307) -/

/-- This tick has decided a tie: the priority bit alternates once it is over. -/
def flipPrio (s : State) : State := { s with sys := { s.sys with tied := true } }

/-! ### Moorings (R308 to R313) -/

/-- The holder of a mooring. -/
def mooringOf (s : State) (n : Nat) : Option Port := tblGet none s.mor.holder n

/-- Put a mooring's holder. -/
def setMooring (n : Nat) (h : Option Port) (s : State) : State :=
  { s with mor := { s.mor with holder := tblSet none s.mor.holder n h } }

/-- What a port reads of a mooring without taking it (R309). -/
def mooringWord (s : State) (p : Port) (n : Nat) : Word := if mooringOf s n = some p then 1 else 0

/-- A take (R308, R313, R325). -/
def takeMooring (p : Port) (n : Nat) (s : State) : Word × State :=
  if isAbsent s p then (0, s)
  else if mooringOf s n = none then
    (1, setMooring n (some p) s)
  else (mooringWord s p n, s)

/-- Release every mooring that `f` names and the port holds; the other port's MOOR event once (R312). -/
def releaseMoorings (p : Port) (f : Nat → Bool) (s : State) : State :=
  let held := (List.range 16).filter (fun n => f n && decide (mooringOf s n = some p))
  if held = [] then s else setIevt p.other 0x020 (held.foldl (fun s n => setMooring n none s) s)

/-- A refused MOR write (R316). -/
def morRefused (p : Port) (why : Nat) (s : State) : State := { s with mor := { s.mor with refuseReason := why, refusePort := p } }

/-! ### Claims (R314 to R319, R337) -/

/-- The identifier names a declared slot that is not DISABLED. -/
def claimable (s : State) (id : Nat) : Bool := declaredSlot s id && decide ((rigSlot s id).kind ≠ .disabled)

/-- Put a slot's claim. -/
def setClaim (id : Nat) (c : Option Port) (s : State) : State :=
  { s with mor := { s.mor with claims := tblSet none s.mor.claims id c } }

/-- An order of the port to the slot is pushed and not yet returned. -/
def orderAt (s : State) (p : Port) (id : Nat) : Bool :=
  s.ord.orders.any (fun o => decide (o.port = p) && !o.internal && (orderSlots o).contains id)

/-- Why a MOR_CLAIM is refused, in the order of R316; 0: it is not. -/
def claimRefusal (s : State) (p : Port) (id : Nat) : Nat :=
  if isAbsent s p then 4
  else if !claimable s id then 1
  else if claimOf s id = some p.other then 2
  else if orderAt s p.other id then 3 else 0

/-- Why a MOR_FREE is refused; 0: it is not. -/
def freeRefusal (s : State) (p : Port) (id : Nat) : Nat :=
  if isAbsent s p then 4 else if !claimable s id then 1 else if claimOf s id = some p.other then 2 else 0

/-- Slots a port claims (MOR_NCLAIM). -/
def claimCount (s : State) (p : Port) : Nat := (s.mor.claims.filter (fun e => decide (e.2 = some p))).length

/-- Claims at the end of RIGGING, from the SLOT records. -/
def rigClaims (s : State) : State :=
  (allSlots s).foldl (fun s id =>
    let r := rigSlot s id
    if r.kind = .disabled then s
    else setClaim id (if r.claim = 1 then some .a else if r.claim = 2 then some .b else none) s) s

/-! ### Absence and port reset (R268, R320 to R330, R333, R334) -/

/-- Withdraw the port's undispatched orders without a return, counted in MOR_WDRN. -/
def withdrawSilent (p : Port) (s : State) : State :=
  (s.ord.orders.filter (fun o => decide (o.port = p) && !o.internal && decide (o.stage ≠ .dispatched))).foldl (fun s o =>
    let s := dropOrder o (undoLift o s)
    { s with mor := { s.mor with wdrn := bumpPort s.mor.wdrn p } }) s

/-- The port's claims pass to the other port, or become free. -/
def passClaims (p : Port) (s : State) : State :=
  let heir := if (perPortGet s.rig.running.hosts p).absentFree || isAbsent s p.other then none else some p.other
  let pass : Tbl (Option Port) := if heir.isNone then s.mor.claims.filter (fun e => decide (e.2 ≠ some p))
    else s.mor.claims.map (fun (e : Nat × Option Port) => if e.2 = some p then (e.1, heir) else e)
  { s with mor := { s.mor with claims := pass } }

/-- R72: the port's rig staging buffer is released, at the end of a command of its that runs. DESIGN CHOICE (log entry 58):
RIG_PAGE returns to 0 with it; RIG_CMD OPEN and CLOSE keep it. -/
def dropStaging (p : Port) (s : State) : State :=
  if s.rig.owner = some p then
    match s.rig.job with
    | some j => { s with rig := { s.rig with job := some { j with releaseAfter := true } } }
    | none => { s with rig := { s.rig with owner := none, staging := [], page := 0 } }
  else s

/-- The update staging buffer is released (R856). -/
def updClear (u : Upd) : Upd :=
  { u with phase := 0, owner := .none, room := 64, window := [], image := [], count := 0, fetch := [], eraseDue := false }

/-- The port's update staging is discarded with reason ABORTED, where its image is not written yet (R72, R856). -/
def updDrop (u : Upd) : Upd :=
  updClear (if inRange u.phase 1 3 then { u with reason := 0x15, resTarget := u.target } else u)

/-- R72 for the update staging buffer. -/
def dropUpdate (p : Port) (s : State) : State :=
  if s.upd.owner = .port p then { s with upd := updDrop s.upd } else s

/-- Table - Effects of absence and port reset, the part that holds for both. -/
def clearPort (p : Port) (s : State) : State :=
  let s := withdrawSilent p s
  let l := s.ord.orders.map (fun o => if o.port = p ∧ o.internal = false then { o with discard := true } else o)
  let s := { s with ord := { s.ord with orders := l } }
  let s := modBank p (fun b => { b with rtail := (b.rtail + b.ring.length) % 128, ring := [], window := [] }) s
  let s := freeParcels p s
  let s := { s with mea := { s.mea with pins := perPortSet s.mea.pins p none } }
  rampTrims (some p) (dropUpdate p <| dropStaging p (passClaims p (releaseMoorings p (fun _ => true) s)))

/-- The fault source of a port's absence. -/
def absentSource (p : Port) : Nat := p.bit

/-- The HOST record (Table - Event types): 0 absent, 1 present, 2 port reset. -/
def queueHost (p : Port) (kind : Nat) (s : State) : State := queueRec 7 [p.bit, kind] s

/-- A supervised port becomes absent (R320, R323, R327), but for the fault. -/
def becomeAbsent (p : Port) (s : State) : State :=
  let s := modPort p (fun h => { h with presence := .absent }) s
  queueHost p 0 (setIevt p.other 0x004 (clearPort p s))

/-- Ports lapse at one tick, in this order; ABSENT_A and ABSENT_B are one event (R741), and the cores wake (R724). -/
def lapse (ps : List Port) (s : State) : State :=
  if ps = [] then s
  else
    let s := ps.foldl (fun s p => becomeAbsent p s) s
    coreWake 1 (raiseMany .mor ([0, 1].filter (fun k => ps.any (fun p => decide (absentSource p = k)))) s)

/-- The port is supervised and present. -/
def supervised (s : State) (p : Port) : Bool := decide ((perPortGet s.ports p).presence = .present)

/-- The port is supervised and HB_WIN x 10 ms have passed since its window started (R320); a heartbeat of this tick has started
it afresh (R322). -/
def windowOver (s : State) (p : Port) : Bool :=
  supervised s p &&
    decide ((perPortGet s.rig.running.hosts p).hbWin * 8000000 ≤ s.sys.tick - (perPortGet s.ports p).hbStart)

/-- HEARTBEAT_LAPSE (R320, R322, R334): in RUN and STANDBY; with `tie` both ports lapse at this tick, that with the priority first,
and no claim outlives it. -/
def execHeartbeatLapse (p : Port) (tie : Bool) (s : State) : Res :=
  .next (if s.sys.state ≠ .run ∧ s.sys.state ≠ .standby then s
    else if tie && windowOver s p && windowOver s p.other then
      let s := lapse [s.sys.prio, s.sys.prio.other] s
      flipPrio { s with mor := { s.mor with claims := [] } }
    else lapse ([p].filter (windowOver s)) s)

/-- HST_HBEAT (R321, R324): the window restarts; an absent port is present again, which the other port sees in PEER. -/
def heartbeat (p : Port) (s : State) : State :=
  let was := (perPortGet s.ports p).presence
  let now := s.sys.tick
  let s := modPort p (fun h => { h with
    hbStart := now, presence := if h.presence = .absent then .present else h.presence }) s
  if was = .absent then queueHost p 1 (setIevt p.other 0x004 s) else s

/-- HST_HBLEFT: whole 10 ms units left, rounded up (R320). -/
def hbLeft (s : State) (p : Port) : Nat :=
  let h := perPortGet s.ports p
  match h.presence with
  | .unsupervised => 0x3FF
  | .absent => 0
  | .present =>
    ceilDiv ((perPortGet s.rig.running.hosts p).hbWin * 8000000 - (s.sys.tick - h.hbStart)) 8000000

/-- Supervision starts at RUN entry (R221, R320). -/
def startHeartbeats (s : State) : State :=
  let now := s.sys.tick
  [Port.a, Port.b].foldl (fun s p =>
    let req := (perPortGet s.rig.running.hosts p).hbReq
    modPort p (fun h => { h with presence := if req then .present else .unsupervised, hbStart := now }) s) s

/-- A live change of HB_WIN or HB_REQ (R326). -/
def liveHost (p : Port) (old new : HostRec) (s : State) : State :=
  if old.hbWin = new.hbWin ∧ old.hbReq = new.hbReq then s
  else
    let now := s.sys.tick
    let was := (perPortGet s.ports p).presence
    let s := modPort p (fun h => { h with
      hbStart := now
      presence := if new.hbReq = false then .unsupervised else if was = .absent then .absent else .present }) s
    if new.hbReq = false ∧ was = .absent then queueHost p 1 (setIevt p.other 0x004 s) else s

/-- RECOVERY ends when an image has been written, no staging is held and HOLD has not been written (R868). -/
def recoveryCheck (s : State) : State :=
  if s.sys.state = .recovery ∧ s.upd.wrote = true ∧ s.upd.owner = .none ∧ s.upd.hold = false ∧ jobRuns s = false then
    warmRestart 3 0 s else s

/-- Port reset (R268, R269): the port's HST words return to their reset values but for the fault bank, its latch is empty, its
heartbeat window restarts; the response owed is void. A lapse at this tick is an absence first (R333). The staging buffer
it releases may end RECOVERY (R868). DESIGN CHOICE (log entry 65): in the very assertion after it HST_AGAIN reads zeros, the
words' reset values, not the response of the assertion before. -/
def portReset (p : Port) (s : State) : State :=
  let s := if (s.sys.state = .run ∨ s.sys.state = .standby) ∧ windowOver s p = true then lapse [p] s else s
  let now := s.sys.tick
  recoveryCheck (modPort p (fun h => { h with
    owed := {}, sent := { stat := .ok, addr := 0, data := 0 }, latch := none, shadow := none,
    keys := [], ievt := 0, ien0 := 0, ien1 := 0, ieven := 0
    refuseAddr := 0, refuseReason := 0, refuseBurst := false, crcErr := 0, hbStart := now }) (queueHost p 2 (clearPort p s)))

/-- MOR_PEERALM (R331, R332). -/
def peerAlarmClear (p : Port) (s : State) : State := setAlarmReq p.other false s

end Machine
end Sys2Proof
end

