-- ==== Sys2Proof/Machine/Lookout.lean ====
section
/-!
DEFINITION. The lookout (20): rules, filters, actions; STANDBY.
-/
namespace Sys2Proof
namespace Machine

/-! ### Rules (R708 to R716) -/

/-- Word `k` of a rule. -/
def ruleWord (r : LkoRule) (k : Nat) : Nat := (r.words.getD k 0).toNat

/-- SRC: 0 CHANNEL, 1 SWEEP, 2 FAULT, 3 SIGNAL. -/
def ruleSrc (r : LkoRule) : Nat := field (ruleWord r 0) 8 2

/-- INDEX. -/
def ruleIndex (r : LkoRule) : Nat := field (ruleWord r 0) 0 8

/-- MODE IIR. -/
def ruleIir (r : LkoRule) : Bool := bitAt (ruleWord r 1) 9

/-- PARAM: n or k. -/
def ruleParam (r : LkoRule) : Nat := field (ruleWord r 1) 0 9

/-- THRESH. -/
def ruleThresh (r : LkoRule) : Nat := ruleWord r 2

/-- COMPARE: 0 ABOVE, 1 BELOW, 2 EDGE. -/
def ruleCompare (r : LkoRule) : Nat := field (ruleWord r 3) 8 2

/-- ACTIONS bit `k`. -/
def ruleAct (r : LkoRule) (k : Nat) : Bool := bitAt (ruleWord r 3) k

/-- The condition of R714 on a value against a threshold of the same scale. -/
def ruleCond (r : LkoRule) (v th : Nat) : Bool := if ruleCompare r = 0 then decide (th < v) else decide (v < th)

/-- Debounce (R714). -/
def stepDebounce (r : LkoRule) (v : Nat) : LkoRule :=
  let c := ruleCond r v (ruleThresh r)
  if c = r.active then { r with count := 0, value := v }
  else if ruleParam r ≤ r.count + 1 then { r with active := c, count := 0, value := v }
  else { r with count := r.count + 1, value := v }

/-- IIR (R715): y + k (v - y) / 1024, rounded half up to 2^-10. -/
def stepIir (r : LkoRule) (v : Nat) : LkoRule :=
  let k := ruleParam r
  let y := if r.hasY then (1024 * r.y + k * (1024 * v) + 512 - k * r.y) / 1024 else 1024 * v
  { r with y := y, hasY := true, active := ruleCond r y (1024 * ruleThresh r), value := (y + 512) / 1024 }

/-- Edge detection (R716). The first value settled has no previous one to differ from. -/
def stepEdge (r : LkoRule) (v : Nat) : LkoRule :=
  let m := Nat.land v (ruleThresh r)
  let n := if r.hasCandidate ∧ r.candidate = m then min 511 (r.count + 1) else 1
  let r := { r with candidate := m, hasCandidate := true, count := n, value := v }
  if n < ruleParam r ∨ r.settled = some m then r
  else
    let rises := match r.settled with
      | some p => decide (m - Nat.land m p ≠ 0)
      | none => false
    { r with settled := some m, active := decide (m ≠ 0) && (r.active || rises) }

/-- One evaluation (R712 to R716); 0x3FF is none. Rises of ACTIVE are counted. -/
def stepRule (r : LkoRule) (v : Nat) : LkoRule :=
  if v = 0x3FF then r
  else
    let q := if ruleCompare r = 2 then stepEdge r v else if ruleIir r then stepIir r v else stepDebounce r v
    { q with fires := if q.active && !r.active then satInc r.fires else r.fires }

/-- A rule. -/
def ruleGet (s : State) (n : Nat) : LkoRule := tblGet {} s.lko.rules n

/-- Change a rule. -/
def modRule (n : Nat) (f : LkoRule → LkoRule) (s : State) : State :=
  { s with lko := { s.lko with rules := tblSet {} s.lko.rules n (f (ruleGet s n)) } }

/-- A rule that is loaded and not held at reset. -/
def ruleLive (r : LkoRule) : Bool := decide (r.words ≠ []) && !r.held

/-- PFW_N's lookout source: some rule with PFW has ACTIVE at 1 (R717). -/
def pfwFollow (s : State) : State :=
  { s with lko := { s.lko with pfw := s.lko.rules.any (fun e => ruleLive e.2 && e.2.active && ruleAct e.2 3) } }

/-- States in which the rules are evaluated (R708). -/
def lkoRuns (s : State) : Bool :=
  match s.sys.state with
  | .rising | .enumerate | .run | .standby => true
  | _ => false

/-- States in which WAKE, RIPCORD, RAILS and ACK act (Table - Actions). -/
def lkoActs (s : State) : Bool := decide (s.sys.state = .run) || decide (s.sys.state = .standby)

/-! ### Inputs (R711, R713) -/

/-- The fault words of a block number; both banks of a banked block. -/
def blksOf (n : Nat) : List FBlk :=
  match blkOfNumber n .a, blkOfNumber n .b with
  | some x, some y => if x = y then [x] else [x, y]
  | _, _ => []

/-- FST [8:0] of a block number. -/
def faultInput (s : State) (n : Nat) : Nat :=
  (blksOf n).foldl (fun a b => Nat.lor a (stickyBits (bankGet s.fb b)).toNat) 0

/-- Table - Signals. -/
def signalOn (s : State) (n : Nat) : Bool :=
  match n with
  | 0 => s.pins.alm | 1 => s.sys.alarm | 2 => s.sup.pf | 3 => s.sup.vsl5Ok
  | 4 => isAbsent s .a | 5 => isAbsent s .b | 6 => hokHigh s | 7 => trapOn s
  | _ => s.mea.published && bitAt s.mea.latest.stat 0

/-- A SWEEP rule's tethers: one, or all. -/
def sweepTethers (r : LkoRule) : List Nat := if bitAt (ruleIndex r) 5 then [0, 1, 2, 3] else [field (ruleIndex r) 6 2]

/-- The report word a SWEEP rule reads of every reported position on its tethers. -/
def sweepWords (r : LkoRule) (b : SweepBuf) : List (Nat × Nat) :=
  b.rows.filterMap (fun e => match e.2 with
    | some l =>
      if (sweepTethers r).contains (posTether e.1) ∧ (l.getD 0 0x3FF).toNat ≤ 1 then
        some (e.1, (l.getD (1 + field (ruleIndex r) 0 5) 0x3FF).toNat)
      else none
    | none => none)

/-- The aggregate of R713. -/
def sweepInput (r : LkoRule) (b : SweepBuf) : Nat :=
  match (sweepWords r b).map (fun e => e.2) with
  | [] => 0x3FF
  | x :: l => l.foldl (if ruleCompare r = 0 then max else if ruleCompare r = 1 then min else Nat.lor) x

/-! ### Actions (R717 to R721, R728) -/

/-- A rule's LOG action falls within 100 ms of its last record (R718). -/
def logLimited (n : Nat) (s : State) : Bool :=
  match (ruleGet s n).lastLog with
  | some t => decide (s.sys.tick - t < 80000000)
  | none => false

/-- LOG (R718): one record of a rule in any 100 ms; what is left out is counted. -/
def actLog (n : Nat) (s : State) : State :=
  let r := ruleGet s n
  let now := s.sys.tick
  if logLimited n s then { s with lko := { s.lko with logSkip := satInc s.lko.logSkip } }
  else queueRec 2 [n, r.value, field (ruleWord r 3) 0 8] (modRule n (fun r => { r with lastLog := some now }) s)

/-- WAKE: LKO_WAKERULE keeps the lowest rule; the cores wake in STANDBY. -/
def actWake (n : Nat) (s : State) : State :=
  let low := match s.lko.wakeRule with
    | some m => min m n
    | none => n
  coreWake 2 { s with lko := { s.lko with wakeRule := some low } }

/-- The word met the rule's comparison at a position. -/
def wordMet (r : LkoRule) (w : Nat) : Bool :=
  if ruleCompare r = 2 then decide (Nat.land w (ruleThresh r) ≠ 0) else decide (w ≠ 0x3FF) && ruleCond r w (ruleThresh r)

/-- Slots that a RIPCORD action names at this tick (R730). -/
def ripSlots (ids : List Nat) (s : State) : State := { s with lko := { s.lko with ripped := s.lko.ripped ++ ids } }

/-- RIPCORD (R720). -/
def actRipcord (n : Nat) (s : State) : State :=
  let r := ruleGet s n
  let i := ruleIndex r
  if ruleSrc r = 0 then
    if 0x10 ≤ i ∧ i ≤ 0x17 then
      fallSlot (i % 4) 7 true false none (some 0x085) (dropRun (i % 4) (ripSlots [i % 4] s))
    else s
  else
    let w := field i 0 5
    let mask := if 6 ≤ w ∧ w ≤ 13 then 2 ^ ((w - 6) % 4) else 0xF
    (sweepWords r s.mea.latest).foldl (fun s e =>
      if wordMet r e.2 then
        sendCmd e.1 { code := 0x0A, args := [byte mask] }
          (ripSlots (([0, 1, 2, 3].filter (fun k => bitAt mask k)).map (slotOf e.1)) s)
      else s) s

/-- RAILS (R719). -/
def actRails (s : State) : State := if s.rls.falling || s.rls.warning then s else startShutdown s

/-- Acknowledge bits of a block's fault words, but for levels that hold (R746). -/
def ackBlock (b : FBlk) (bits : Nat) (s : State) : State :=
  setBank b (ackBits (containedMask b) (bankGet s.fb b) (BitVec.ofNat 9 bits) (levelHolds s b)) s

/-- Bits of a block whose fault records have been queued at this very tick. -/
def freshBits (s : State) (n : Nat) : Nat :=
  s.log.faults.foldl (fun a e => if e.1 = n then Nat.lor a (2 ^ e.2.1) else a) 0

/-- ACK (R721): at once, and at the next tick where a bit's record was queued at this one. -/
def actAck (n : Nat) (s : State) : State :=
  let r := ruleGet s n
  let i := ruleIndex r
  let later := Nat.land (ruleThresh r) (freshBits s i)
  let s := (blksOf i).foldl (fun s b => ackBlock b (Nat.xor (ruleThresh r) later) s) s
  if later = 0 then s else { s with lko := { s.lko with ackDue := s.lko.ackDue ++ [(i, later)] } }

/-- The acknowledgments that waited for this tick. -/
def dueAcks (s : State) : State :=
  let l := s.lko.ackDue
  if l = [] then s
  else
    let s := { s with lko := { s.lko with ackDue := [] } }
    if lkoActs s then l.foldl (fun s e => (blksOf e.1).foldl (fun s b => ackBlock b e.2 s) s) s else s

/-- The actions of a rule whose ACTIVE has risen. -/
def ruleActions (n : Nat) (s : State) : State :=
  let r := ruleGet s n
  let s := modRule n (fun r => { r with acted := true }) s
  let s := if ruleAct r 0 then actLog n s else s
  let s := if ruleAct r 1 then modRule n (fun r => { r with hit := true, hitNew := true }) s else s
  if lkoActs s then
    let s := if ruleAct r 2 then actWake n s else s
    let s := if ruleAct r 4 then actRipcord n s else s
    let s := if ruleAct r 5 then actRails s else s
    if ruleAct r 6 then actAck n s else s
  else s

/-- Evaluate one rule on a value: filter, then the actions of a rise. Answers also whether its LOG action was left out. -/
def evalRule (n v : Nat) (s : State) : State × Bool :=
  let r := ruleGet s n
  let s := pfwFollow (modRule n (fun r => stepRule r v) s)
  if (ruleGet s n).active && !r.active then (ruleActions n s, ruleAct r 0 && logLimited n s) else (s, false)

/-- Evaluate every loaded rule that `pick` gives a value, in ascending rule number (R728); LOG_LIMIT is one event of the tick
(R718, R741). -/
def evalRules (pick : State → LkoRule → Option Nat) (s : State) : State :=
  if lkoRuns s then
    let (s, skipped) := (List.range 32).foldl (fun (a : State × Bool) n =>
      let (s, skipped) := a
      let r := ruleGet s n
      if ruleLive r && lkoRuns s then
        match pick s r with
        | some v =>
          let (s, skip) := evalRule n v s
          (s, skipped || skip)
        | none => (s, skipped)
      else (s, skipped)) (s, false)
    if skipped then raise .lko 0 s else s
  else s

/-- The evaluations of a channel's sample (R711). -/
def evalChannel (c v : Nat) (s : State) : State :=
  evalRules (fun _ r => if ruleSrc r = 0 ∧ ruleIndex r = c then some v else none) s

/-- The evaluations at the last tick of a µs (R711). -/
def evalMicro (s : State) : State :=
  evalRules (fun s r => if ruleSrc r = 2 then some (faultInput s (ruleIndex r))
    else if ruleSrc r = 3 then some (if signalOn s (ruleIndex r) then 1 else 2) else none) s

/-- The evaluations at a sweep publication (R711, R713). -/
def evalSweep (s : State) : State :=
  evalRules (fun s r => if ruleSrc r = 1 then some (sweepInput r s.mea.latest) else none) s

/-- RULE_ECC: the rule is held at reset. -/
def ruleEcc (n : Nat) (s : State) : State :=
  raise .lko 1 (pfwFollow (modRule n (fun r => { ruleAtReset r with held := true }) s))

/-- Load every rule from the running rig, at the end of RIGGING. -/
def loadRules (s : State) : State :=
  { s with lko := { s.lko with
    rules := (s.rig.running.rules.filter (fun e => e.2.isSome)).map (fun e => (e.1, { words := e.2.getD [] }))
    evaluating := true, pfw := false } }

/-- A rule changed by APPLY_LIVE restarts, its hit bit kept (R727). -/
def reloadRule (n : Nat) (s : State) : State :=
  pfwFollow (modRule n (fun r => { words := (tblGet none s.rig.running.rules n).getD [], hit := r.hit, hitNew := r.hitNew, fires := r.fires }) s)

/-! ### STANDBY (R722 to R725, R729) -/

/-- A rig command, an update or a trim ramp is running. -/
def busyEngines (s : State) : Bool :=
  s.rig.job.isSome || jobRuns s || s.sys.trial || trimBusy s

/-- Why the completing write of LKO_SLEEP is refused (LKO_REFUSE); 0: it is not. A wake source of the same tick leaves the hub
in RUN (R729). -/
def sleepRefusal (s : State) : Nat :=
  if s.sys.state ≠ .run ∨ s.lko.sourced = true then 1
  else if s.sys.alarm then 2
  else if s.ord.orders.any (fun o => !o.internal) then 3
  else if busyEngines s then 4
  else if s.sup.pf then 5
  else if s.rls.rising || s.rls.falling || s.rls.warning then 6 else 0

/-- STANDBY entry: LKO_WAKESRC and LKO_WAKERULE are cleared; the wear table is written before it (R787). -/
def enterStandby (s : State) : State :=
  let s := wearSave s
  { s with
    sys := { s.sys with state := .standby }
    lko := { s.lko with standby := true, wakeSrc := 0, wakeRule := none, sbyCnt := satInc s.lko.sbyCnt } }

/-- LKO_WAKE, 0x001: the cores wake (R724). -/
def hostWake (s : State) : State := coreWake 5 s

end Machine
end Sys2Proof
end

