-- ==== Sys2Proof/Machine/Faults.lean ====
section
/-!
DEFINITION. Faults that no other chapter raises (21, 22): word parity, lockstep, code ECC, the ripcord's checks; the SAFE
reaction of a source that is not fatal, and the end of a block reset.
-/
namespace Sys2Proof
namespace Machine

/-! ### The SAFE reaction (R750, R751) -/

/-- The ripcord action of a non-fatal source: RIPCORD on every tether, the local slots, every trim; every satellite is shown
LOST at once. The hub stays in its state. -/
def safeAction (s : State) : State :=
  let s := trimsOff (ripcordLocals (ripcordTethers false s))
  let s := satsLost [] (positions s) s
  { s with tth := { s.tth with safeSince := some s.sys.tick } }

/-- Take the further action of code 6 or 7 once the event has been raised and did not lead to FATAL (Table - Reaction
effects). -/
def safeReaction (b : FBlk) (k : Nat) (s : State) : State :=
  if 6 ≤ codeOf (bankGet s.fb b) k ∧ s.sys.state ≠ .fatal ∧ s.sys.state ≠ .off then safeAction s else s

/-- The longest SILENCE of the declared tethers, in ticks (R751). -/
def longestSilence (s : State) : Nat :=
  800000 * ([0, 1, 2, 3].map (fun t => ((rigTether s t).map (fun r => r.silence)).getD 0)).foldl max 0

/-- The silence time after a SAFE reaction has passed: every declared tether is walked afresh. -/
def safeRewalk (s : State) : State :=
  [0, 1, 2, 3].foldl (fun s t => startWalk t s) { s with tth := { s.tth with safeSince := none } }

/-- The longest SILENCE has passed since the RIPCORD of the last SAFE reaction (R751, R766). -/
def silencePassed (s : State) : Bool := s.tth.safeSince.any (fun t => decide (t + longestSilence s ≤ s.sys.tick))

/-- SAFE_REWALK (R751). -/
def execSafeRewalk (s : State) : Res := .next (if silencePassed s && ringLive s then safeRewalk s else s)

/-! ### Fatal detections (R736, R740, R752) -/

/-- A block watches its words from the release of RESET on (R736). -/
def watches (s : State) : Bool :=
  decide (s.sys.state ≠ .off) && decide (s.sys.state ≠ .reset) && (decide (s.sys.state ≠ .fatal) || s.fatal.now)

/-- Words of a bank by kind: 0 FST, 1 to 3 FRX0 to FRX2. -/
def putFaultWord (f : FaultBank) (kind : Nat) (w : Word) : FaultBank :=
  if kind = 0 then { f with fst := w } else if kind = 1 then { f with frx0 := w }
  else if kind = 2 then { f with frx1 := w } else { f with frx2 := w }

/-- The block has the word: FST, and an FRXn for every third source (Table - Default reaction words). -/
def hasFaultWord (b : FBlk) (kind : Nat) : Bool := decide (kind = 0) || (decide (kind ≤ 3) && decide (3 * (kind - 1) < sourceCount b))

/-- SYS_FATAL1.KIND and FRX of a word parity detection (Table - SYS_FATAL1 fields). -/
def parityKind (kind : Nat) : Nat × Nat := if kind = 0 then (3, 0) else (4, kind - 1)

/-- A word of a block stands with an even number of ones (R736): FATAL, with no reaction of that block run first. -/
def parityFail (b : FBlk) (kind : Nat) (w : Word) (s : State) : State :=
  fatalEnter (blkNumber b) 0 (parityKind kind).1 (parityKind kind).2 (setBank b (putFaultWord (bankGet s.fb b) kind w) s)

/-- WORD_PARITY_FAIL: `blk` is the block's number, plus 32 for HPB's bank of a banked block. -/
def execWordParityFail (blk kind : Nat) (word : Word) (s : State) : Res :=
  match blkOfNumber (blk % 32) (if blk < 32 then .a else .b) with
  | some b => .next (if watches s && hasFaultWord b kind && !oddOnes word then parityFail b kind word s else s)
  | none => .next s

/-- LOCKSTEP_MISMATCH (R740). -/
def execLockstepMismatch (s : State) : Res := .next (if watches s then raise .sys 4 s else s)

/-- CODE_ECC_ERROR (R740). -/
def execCodeEccError (s : State) : Res := .next (if watches s then raise .sys 5 s else s)

/-- States in which the ripcord's continuity is checked (R752). -/
def checksRipcord (s : State) : Bool :=
  match s.sys.state with
  | .rising | .enumerate | .run | .standby => true
  | _ => false

/-- RIPCORD_CONTINUITY_CHECK (R752). -/
def execRipcordContinuityCheck (ok : Bool) (s : State) : Res :=
  .next (if checksRipcord s && !ok then raise .sys 6 s else s)

/-! ### Block reset (R757) -/

/-- End of a block's reset. -/
def blockResetDone (b : FBlk) (s : State) : State := setBank b { bankGet s.fb b with resetting := false } s

/-- BLOCK_RESET_DONE (R757), for a block by its number. -/
def execBlockResetDone (blk : Nat) (s : State) : Res :=
  .next ((blksOf blk).foldl (fun s b => blockResetDone b s) s)

end Machine
end Sys2Proof
end

