-- ==== Sys2Proof/Machine/Random.lean ====
section
/-!
DEFINITION. The random source, nonces, the key store and the debug port (24).
-/
namespace Sys2Proof
namespace Machine

/-! ### Nonces (R818 to R824, R350) -/

/-- The in-boot counter has run through its 24 bits: the next NONCE needs a new boot count (R819). -/
def rollNeeded (s : State) : Bool := decide (0x1000000 ≤ s.rnd.ncount)

/-- The boot count is at its end (R820): the value in use is 0xFFFFFF, or that which the commit now needed would produce. -/
def bootEnd (s : State) : Bool :=
  decide (s.rnd.nboot = 0xFFFFFF) || (rollNeeded s && decide (s.rnd.nboot = 0xFFFFFE))

/-- The 8 bytes of a nonce (Table - Nonce layout), least significant first. -/
def nonceBytes (random count boot : Nat) : List Byte := natLe 8 (random + count * 0x10000 + boot * 0x10000000000)

/-- The first nonce order in push order: the one whose turn it is (R350). -/
def nonceTurn (s : State) : Option Order := s.ord.orders.find? (fun o => isNonce o.opcode)

/-- Take the pool's oldest bytes. -/
def poolDrop (n : Nat) (s : State) : State := { s with rnd := { s.rnd with pool := s.rnd.pool.drop n } }

/-- A NONCE order leaves stage 10 (R822): its nonce goes into bytes 0 to 7 of PARCEL1. -/
def issueNonce (o : Order) (s : State) : State :=
  let n := nonceBytes (leNat (s.rnd.pool.take 2)) s.rnd.ncount s.rnd.nboot
  let s := poolDrop 2 s
  endOrderData o 0 n 8 { s with rnd := { s.rnd with ncount := s.rnd.ncount + 1 } }

/-- A NONCE_FILL returns OK with the `n` bytes that stand in its parcels, and their marks with it (R355, R824). -/
def fillEnds (o : Order) (n : Nat) (s : State) : State :=
  endOrder o 0 (retLen n) (if n = 0 ∨ o.discard = true then s else chainMark o n s)

/-- A NONCE_FILL that has left stage 10 takes what the pool holds (R823). -/
def fillTake (o : Order) (s : State) : State :=
  let d := s.rnd.pool.take (o.length - o.progress)
  let n := o.progress + d.length
  let s := poolDrop d.length s
  let s := if o.discard then s else chainPut o o.progress d s
  let s := modOrder o.id (fun x => { x with progress := n }) s
  if n < o.length then s else fillEnds o n s

/-- What the nonce order whose turn it is does now: nothing, where its condition does not hold. -/
def serveTurn (o : Order) (s : State) : State :=
  if o.opcode = 0x0D then
    if o.stage ≠ .waiting then s
    else if bootEnd s then cutOrder o 0x084 s
    else if rollNeeded s then { s with rnd := { s.rnd with rolling := true } }
    else if s.rnd.ready && decide (2 ≤ s.rnd.pool.length) && mayDispatch s then issueNonce o s
    else s
  else
    let o' := { o with stage := .dispatched }
    if o.stage = .dispatched then fillTake o s
    else if o.stage = .waiting && s.rnd.ready && mayDispatch s then
      fillTake o' (modOrder o.id (fun _ => o') s)
    else s

/-- Serve nonce orders in push order while the one whose turn it is ends: `n` of them at most. -/
def serveNonces : Nat → State → State
  | 0, s => s
  | n + 1, s =>
    match nonceTurn s with
    | none => s
    | some o =>
      let s' := serveTurn o s
      if (nonceTurn s').map (fun x => x.id) = some o.id then s' else serveNonces n s'

/-- Serve every nonce order that can be served now. -/
def serveAll (s : State) : State := serveNonces s.ord.orders.length s

/-- NONCE and NONCE_FILL: the order of that id moves when its turn has come. -/
def nonceStep (op id : Nat) (s : State) : State :=
  match nonceTurn s with
  | some o => if o.id = id ∧ o.opcode = op then serveAll s else s
  | none => s


/-- NONCE_FILL (R823): a later one also leaves stage 10 when READY is 1, and waits for its turn. -/
def fillLeaves (id : Nat) (s : State) : State :=
  match orderGet s id with
  | some o =>
    if o.opcode = 0x0E && decide (o.stage = .waiting) && s.rnd.ready && mayDispatch s then
      serveAll (modOrder id (fun x => { x with stage := .dispatched }) s)
    else s
  | none => s

/-- NONCE_FILL. -/
def execNonceFill (id : Nat) (s : State) : Res := .next (fillLeaves id s)

/-- The commit of R819 completes; it waits while a power failure is declared. -/
def rollBoot (bad : Nat) (s : State) : State :=
  let n := s.rnd.nboot + 1
  let s := commitBoot n bad s
  serveAll { s with rnd := { s.rnd with rolling := false, nboot := n, ncount := 0 } }

/-- BOOT_COUNT_ROLL (R819, R790). -/
def execBootCountRoll (bad : Nat) (s : State) : Res :=
  .next (if s.rnd.rolling && !s.sup.pf then rollBoot bad s else s)

/-! ### The source (R813 to R817) -/

/-- The source works: the hub is powered, out of RESET and not in FATAL. -/
def sourceRuns (s : State) : Bool :=
  match s.sys.state with
  | .off | .reset | .fatal => false
  | _ => true

/-- One raw bit through the two health tests of R813: the tests after it; `none`: one of them fails. -/
def healthBit (h : Health) (b : Bool) : Option Health :=
  let run := if 0 < h.run ∧ h.last = b then h.run + 1 else 1
  let first := if h.pos = 0 then b else h.first
  let same := (if h.pos = 0 then 0 else h.same) + bit (decide (first = b))
  if 41 ≤ run ∨ 794 ≤ same then none
  else some { last := b, run := run, first := first, pos := (h.pos + 1) % 1024, same := same }

/-- Raw bits through the tests. -/
def healthRun (h : Health) : List Bool → Option Health
  | [] => some h
  | b :: l =>
    match healthBit h b with
    | none => none
    | some h => healthRun h l

/-- The raw bits of bytes, the first in bit 7 of the first. -/
def rawBits (l : List Byte) : List Bool := (l.map (fun b => bitsMsb 8 b.toNat)).flatten

/-- The start-up tests end on their raw bits (R814, R815). -/
def startupEnds (raw : List Byte) (s : State) : State :=
  match healthRun {} (rawBits raw) with
  | some h =>
    { s with rnd := { s.rnd with ready := true, testing := false, health := h }, start := { s.start with rnd := true } }
  | none => raise .rnd 0 { s with rnd := { s.rnd with testing := false, fails := satInc s.rnd.fails } }

/-- RND_STARTUP_PASS: `raw` holds the 4096 raw bits. -/
def execRndStartupPass (raw : List Byte) (s : State) : Res :=
  .next (if s.rnd.testing && sourceRuns s then startupEnds raw s else s)

/-- RND_STARTUP_RETRY (R815). -/
def execRndStartupRetry (s : State) : Res :=
  .next (if sourceRuns s && !s.rnd.ready && !s.rnd.testing then { s with rnd := { s.rnd with testing := true } } else s)

/-- READY falls (R816, R824): every NONCE_FILL that has left stage 10 returns what stands in its parcels. -/
def sourceFails (s : State) : State :=
  let s := { s with rnd := { s.rnd with ready := false, testing := true, pool := [], fails := satInc s.rnd.fails } }
  let s := (s.ord.orders.filter (fun o => decide (o.opcode = 0x0E) && decide (o.stage = .dispatched))).foldl (fun s o =>
    fillEnds o o.progress s) s
  raise .rnd 1 s

/-- Raw bits of a block not yet formed go through the continuous tests: a failure ends READY (R816). -/
def judgeRaw (raw : List Byte) (s : State) : State :=
  if s.rnd.ready && sourceRuns s && (healthRun s.rnd.health (rawBits raw)).isNone then sourceFails s else s

/-- RND_CONTINUOUS_FAIL: `raw` holds the bits since the last block, among them those that fail. -/
def execRndContinuousFail (raw : List Byte) (s : State) : Res := .next (judgeRaw raw s)

/-- NONCE (R820, R822): a continuous test that fails on `raw` at this tick is applied first (R834). -/
def execNonce (id : Nat) (raw : List Byte) (s : State) : Res := .next (nonceStep 0x0D id (judgeRaw raw s))

/-- 1024 raw bits pass the tests: their SHA-256 goes into the pool of 64 bytes; bits that fail discard the block. -/
def formBlock (raw : List Byte) (s : State) : State :=
  match healthRun s.rnd.health (rawBits raw) with
  | none => sourceFails s
  | some h => serveAll { s with rnd := { s.rnd with health := h, pool := (s.rnd.pool ++ sha256 raw).take 64 } }

/-- RND_BLOCK_FORMED: `raw` holds the block's 1024 raw bits. -/
def execRndBlockFormed (raw : List Byte) (s : State) : Res :=
  .next (if s.rnd.ready && sourceRuns s then formBlock raw s else s)

/-- What a single-frame read of RND_DATA takes (R817). -/
def randomRead (s : State) : Word × State :=
  match s.rnd.pool with
  | b :: rest =>
    if s.rnd.ready then (toWord (b.toNat + 256), { s with rnd := { s.rnd with pool := rest } })
    else (0, { s with rnd := { s.rnd with under := satInc s.rnd.under } })
  | [] => (0, { s with rnd := { s.rnd with under := satInc s.rnd.under } })

/-! ### The key store (R825 to R828, R836) -/

/-- The store is armed for a port: for 100 ms, of which the tick at which they end is no part (R825, R836). -/
def otpArmed (s : State) (p : Port) : Bool := decide (s.rnd.armed = some p) && decide (s.sys.tick < s.rnd.armAt + 80000000)

/-- Why an RND_OTPCMD write is refused (R826, RND_REFUSE); 0: it is not. -/
def otpRefusal (s : State) (p : Port) (cmd : Nat) : Nat :=
  let o := s.rnd.otp
  if otpArmed s p = false then 1
  else if (cmd = 1 ∧ o.hash0 ≠ 0) ∨ (cmd = 2 ∧ o.hash1 ≠ 0) then 2
  else if (cmd = 3 ∧ slotUsable o 1 = false) ∨ (cmd = 4 ∧ slotUsable o 0 = false) then 3
  else if cmd = 6 ∧ (o.hash0 ≠ 0 ∨ o.hash1 ≠ 0) then 4
  else if s.sys.alarm then 5
  else if s.sup.pf then 6
  else if s.rnd.otpBusy then 7 else 0

/-- A command is accepted. -/
def otpStart (cmd : Nat) (s : State) : State :=
  { s with rnd := { s.rnd with otpBusy := true, otpCmd := some (cmd, leNat s.rnd.hashWin) } }

/-- A refused RND write. -/
def rndRefused (p : Port) (why : Nat) (s : State) : State :=
  { s with rnd := { s.rnd with refuseReason := why, refusePort := p } }

/-- What a command programs: bits move from 0 to 1 only. -/
def otpApply (cmd hash : Nat) (o : Otp) : Otp :=
  match cmd with
  | 1 => { o with hash0 := hash }
  | 2 => { o with hash1 := hash }
  | 3 => { o with revoked0 := true }
  | 4 => { o with revoked1 := true }
  | 5 => { o with rigSigReq := true }
  | _ => { o with debugOpen := true }

/-- The item whose word a command programs: 0 and 1 the key slots, 3 the rig-signature bit, 4 the debug bit. -/
def otpItem (cmd : Nat) : Nat :=
  match cmd with
  | 1 | 3 => 0
  | 2 | 4 => 1
  | 5 => 3
  | _ => 4

/-- A rig that was pending is no longer valid once its key is revoked (R887). -/
def dropPending (s : State) : State :=
  let other := if s.rig.bank = 0 then s.rig.bankB else s.rig.bankA
  if s.rig.pending && !rigBankValid s other then { s with rig := { s.rig with pending := false } } else s

/-- An OTP program ends and its word is read back (R825, R828). -/
def otpDone (cmd hash : Nat) (ok : Bool) (s : State) : State :=
  let o := otpApply cmd hash s.rnd.otp
  let o := if ok || o.failed.contains (otpItem cmd) then o else { o with failed := otpItem cmd :: o.failed }
  let s := { s with rnd := { s.rnd with otpBusy := false, otpCmd := none, armed := none, otp := o } }
  let s := if otpItem cmd ≤ 1 then dropPending s else s
  if ok then s else raise .rnd 3 s

/-- OTP_PROGRAM_DONE. -/
def execOtpProgramDone (checkOk : Bool) (s : State) : Res :=
  .next (match s.rnd.otpCmd with
    | some (cmd, hash) => otpDone cmd hash checkOk s
    | none => s)

/-- OTP_ARM_EXPIRY (R825). -/
def execOtpArmExpiry (s : State) : Res := .next { s with rnd := { s.rnd with armed := none } }

/-! ### The debug port (R831, R832) -/

/-- TAP_INSTRUCTION: `code` 0 BYPASS, 1 IDCODE, 2 SAMPLE/PRELOAD, 3 EXTEST, others none of these. -/
def tapLoad (code : Nat) (s : State) : State :=
  if s.rnd.otp.debugOpen then
    let c := if code = 3 ∧ s.sys.state ≠ .recovery then 2 else if code ≤ 3 then code else 0
    { s with rnd := { s.rnd with tap := c } }
  else
    let s := { s with rnd := { s.rnd with tap := 0 } }
    if code = 0 then s else raise .rnd 4 s

/-- The TAP's device identification register, where IDCODE stands in its instruction register (R832). -/
def tapIdcode (s : State) : Option Nat := if s.rnd.tap = 1 then some 0x103F4A5D else none

/-- TAP_INSTRUCTION. -/
def execTapInstruction (code : Nat) (s : State) : Res := .next (if s.sys.state = .off ∨ s.pins.vioOk = false then s else tapLoad code s)

end Machine
end Sys2Proof
end

