-- ==== Sys2Proof/Machine/Rails.lean ====
section
/-!
DEFINITION. Board rails (06): raising, judging, lowering, the lock, margining; entry to RISING and to ENUMERATE.
-/
namespace Sys2Proof
namespace Machine

/-! ### Entry to ENUMERATE and RISING (R176, R182, R219) -/

/-- ENUMERATE is entered: every declared tether is walked (R408). -/
def enterEnumerate (s : State) : State :=
  [0, 1, 2, 3].foldl (fun s t => startWalk t s) { s with
    sys := { s.sys with state := .enumerate }
    start := { s.start with rails := true } }

/-- The rising program ends when every declared rail is good; in RISING the hub goes on to ENUMERATE (R176). -/
def risingEnds (s : State) : State :=
  if s.rls.rising && allGood s then
    let s := { s with rls := { s.rls with rising := false, done := true } }
    if s.sys.state = .rising then enterEnumerate s else s
  else s

/-- At the end of RIGGING every declared channel reads OFF until it is raised; undeclared ones read UNDECLARED (R169). -/
def declareRails (s : State) : State :=
  railNos.foldl (fun s n => modRail n (fun r =>
    { r with state := if (rigRail s n).isNone then 0 else if r.state = 0 then 1 else r.state }) s) s

/-! ### Lowering (R177 to R181) -/

/-- A shutdown is at its end: RISING is left for RESET (R181), a full reset goes on (R202), other states stay. -/
def shutdownEnds (s : State) : State :=
  if s.sys.state = .rising then warmRestart 5 0 s
  else if s.sys.state = .reset ∧ s.start.resetHold = .shutdown then { s with start := { s.start with resetHold := .none } }
  else s

/-- Start a reverse shutdown. -/
def beginShutdown (s : State) : State :=
  let s := startShutdown s
  if s.rls.falling then s else shutdownEnds s

/-- Each rail just disabled reads below its off level of GOOD_MIN / 4 codes, rounded down (R177, R212). -/
def offLevels (s : State) : Bool :=
  (railNos.filter (fun n => (railGet s n).lowering)).all (fun n =>
    decide ((railGet s n).sns < ((rigRail s n).map (fun r => r.goodMin)).getD 0 / 4))

/-- SHUTDOWN_STEP_ADVANCE (R177, R178): by the off levels, or by the longest window. -/
def execShutdownStepAdvance (byWindow : Bool) (s : State) : Res :=
  .next (if !s.rls.falling || s.rls.frozen || (!byWindow && !offLevels s) then s
    else
      let s := if byWindow then raise .rls 2 s else s
      if s.sys.state = .fatal then s
      else
        let s := lowerTop (stepDown s)
        if s.rls.falling then s else shutdownEnds s)

/-- WARN_SHUTDOWN_START (R193): T_WARN after a WARN failure. -/
def execWarnShutdownStart (s : State) : Res :=
  .next (if s.rls.warning && !s.rls.frozen then beginShutdown s else s)

/-! ### Raising (R171 to R175, R180) -/

/-- RAIL_ENABLE (R171): DELAY has passed since the step group before became good. A power failure holds it back only where it
aborts the program, in RISING (R152). -/
def execRailEnable (rail : Nat) (s : State) : Res :=
  .next (if s.rls.rising && !s.rls.frozen && decide (rail < 8) && (rigRail s rail).isSome &&
      decide ((railGet s rail).state = 2) && decide (nextRiseStep s = some (railStep s rail)) then
      let now := s.sys.tick
      let s := setEn rail true (modRail rail (fun r => { r with state := 3, enabledAt := now, count := 0, confirm := false }) s)
      { s with rls := { s.rls with step := railStep s rail } }
    else s)

/-- Set the lock (R180, R192). -/
def setLock (cause rail : Nat) (s : State) : State :=
  { s with rls := { s.rls with locked := true, lockCause := cause, lockRail := rail } }

/-- A rail fails while the rising program is in progress: RISE_FAIL, the lock, a reverse shutdown (R180). -/
def riseFails (n : Nat) (s : State) : State :=
  let s := raise .rls 0 (setLock 1 n (modRail n (fun r => { r with state := 5, good := false }) s))
  if s.sys.state = .fatal then s else beginShutdown s

/-- RAIL_RISE_WINDOW_END (R173). -/
def execRailRiseWindowEnd (rail : Nat) (s : State) : Res :=
  .next (if s.rls.rising && !s.rls.frozen && decide (rail < 8) && decide ((railGet s rail).state = 3) then
      riseFails rail s else s)

/-- A rising program begins; the rail whose failure ended a replay fails to rise in it (R195). -/
def beginRising (restart : Bool) (s : State) : State :=
  let t := startRising restart s
  match s.rls.replayFail with
  | none => risingEnds t
  | some n => riseFails n { t with rls := { t.rls with replayFail := none } }

/-- RISING is entered (R171, R182): with the lock set nothing is raised; during a power failure the program waits for the
release (R159). Where a lookout's shutdown that began before a restart still runs, the rising program and the shutdown go on
side by side, and the hub restarts when the shutdown ends in RISING (R181; DESIGN CHOICE, log entry 62). -/
def enterRising (s : State) : State :=
  let s := { s with sys := { s.sys with state := .rising } }
  if s.rls.locked then enterEnumerate { s with rls := { s.rls with replayFail := none } }
  else if s.sup.pf then s
  else beginRising false s

/-! ### Judging (R186 to R195) -/

/-- The hub judges rails (R188). -/
def judgesRails (s : State) : Bool :=
  match s.sys.state with
  | .rising | .enumerate | .run | .standby | .replay => true
  | _ => false

/-- The most severe mode among the failures of a scan: SEQ before WARN before LOG (R189). -/
def worstMode (l : List (Nat × Nat)) : Nat := l.foldl (fun a e => max a e.2) 0

/-- The first rail of a scan's failures with its most severe mode. -/
def worstRail (l : List (Nat × Nat)) : Nat :=
  ((l.find? (fun e => decide (e.2 = worstMode l))).map (fun e => e.1)).getD 0

/-- The RLS_RAILn words of failed rails show it (R190). -/
def markFailed (l : List (Nat × Nat)) (s : State) : State :=
  l.foldl (fun s e => modRail e.1 (fun r => { r with state := 5, good := false }) s)
    { s with rls := { s.rls with done := false } }

/-- A LOG-mode excursion is under way: the rail is judged again only after FILTER scans within its limits (R191). -/
def markLog (l : List (Nat × Nat)) (s : State) : State :=
  l.foldl (fun s e => if e.2 = 0 then modRail e.1 (fun r => { r with failedLog := true, recover := 0 }) s else s) s

/-- A WARN or SEQ failure outside a rising program: the lock, trims off, RUN_FAIL, and the shutdown at once or T_WARN later
(R192, R193, Table - Reaction modes). -/
def runFails (mode n : Nat) (s : State) : State :=
  let s := trimsOff (setLock (if mode = 1 then 3 else 2) n s)
  let s := if mode = 1 then { s with rls := { s.rls with warning := true, pfwWarn := true, warnRail := n } } else s
  let s := raise .rls 1 s
  if mode = 1 ∨ s.sys.state = .fatal then s else beginShutdown s

/-- The running failures of one scan period, as one event (R189, R190, R195, Table - Reaction modes). -/
def railsFail (l : List (Nat × Nat)) (s : State) : State :=
  let mode := worstMode l
  let n := worstRail l
  if s.rls.falling then markFailed l s
  else if s.rls.warning then (if mode = 2 then beginShutdown (markFailed l s) else markFailed l s)
  else if s.rls.rising then riseFails n (markFailed l s)
  else if mode = 0 then raise .rls 6 (markLog l s)
  else if s.sys.state = .replay then replayEnd 5 { s with rls := { s.rls with replayFail := some n } }
  else runFails mode n (markFailed (l.filter (fun e => decide (e.2 ≠ 0))) (markLog l s))

/-- A scan period ends: what failed in it is acted on (R189). -/
def railScanEnd (s : State) : State :=
  let l := s.rls.scanFails
  let s := { s with rls := { s.rls with scanFails := [] } }
  if l = [] ∨ judgesRails s = false ∨ s.rls.frozen = true then s else railsFail l s

/-- Judge a running rail on a sample (R186, R191); a failure waits for the end of the scan period (R189). -/
def judgeRunning (n : Nat) (r : RailRec) (ok : Bool) (s : State) : State :=
  let x := railGet s n
  if ok then
    modRail n (fun x => { x with
      count := 0
      recover := if x.failedLog then x.recover + 1 else 0
      failedLog := x.failedLog && decide (x.recover + 1 < r.filter) }) s
  else
    let c := min 8 (x.count + 1)
    let s := modRail n (fun x => { x with count := c, recover := 0 }) s
    if r.filter ≤ c ∧ x.failedLog = false then
      { s with rls := { s.rls with scanFails := s.rls.scanFails ++ [(n, r.mode)] } }
    else s

/-- A rail's reading in a scan (R172, R174, R186). -/
def railSample (n v : Nat) (s : State) : State :=
  match rigRail s n with
  | none => s
  | some r =>
    let ok := railWithin r v
    let s := modRail n (fun x => { x with sns := v, good := ok }) s
    if !judgesRails s || s.rls.frozen then s
    else
      let x := railGet s n
      if x.state = 3 ∧ s.rls.rising = true then
        if ok then
          let t := (s.sys.tick - x.enabledAt) / 80000
          let s := modRail n (fun x => { x with
            state := 4, count := 0, recover := 0, failedLog := false
            rise := if x.confirm then x.rise else if 1021 < t then 0x3FE else t }) s
          risingEnds { s with rls := { s.rls with step := (nextRiseStep s).getD s.rls.step } }
        else s
      else if x.state = 4 then judgeRunning n r ok s
      else s

/-! ### The lock (R183, R184, R210) -/

/-- RISE_FAIL or RUN_FAIL is unacknowledged. -/
def railFaultOpen (s : State) : Bool := s.fb.rls.fst.getLsbD 0 || s.fb.rls.fst.getLsbD 1

/-- Why the completing write of RLS_RELEASE is refused (RLS_REFUSE); 0: it is not. -/
def releaseRefused (s : State) : Nat :=
  if s.sup.pf then 3
  else if s.rls.falling then 5
  else if railFaultOpen s then 6
  else if s.sys.state ≠ .run ∧ s.sys.state ≠ .standby then 7 else 0

/-- A refused RLS write. -/
def rlsRefused (p : Port) (why : Nat) (s : State) : State :=
  { s with rls := { s.rls with refuseReason := why, refusePort := p } }

/-- The lock is released and a rising program starts (R183). -/
def railRelease (s : State) : State :=
  risingEnds (startRising false { s with rls := { s.rls with locked := false, lockCause := 0, lockRail := 0 } })

/-! ### Margining (R196 to R200) -/

/-- Why a trim write is refused (R196); 0: it is not. A zero trim never is. -/
def trimRefused (s : State) (n mag : Nat) : Nat :=
  let r := railGet s n
  if mag = 0 then 0
  else if !(((rigRail s n).map (fun r => r.margin)).getD false) then 1
  else if s.sys.alarm then 2
  else if s.sup.pf then 3
  else if r.state ≠ 4 ∨ r.good = false then 4
  else if s.rls.locked || s.rls.falling || s.rls.warning then 5
  else if s.sys.state ≠ .run then 7 else 0

/-- A trim write that is accepted sets the target; a nonzero one makes the port the trim's owner, and ends a ramp. -/
def setTrimTarget (p : Port) (n mag : Nat) (sink : Bool) (s : State) : State :=
  modRail n (fun r => { r with
    targetMag := mag, targetSink := sink && decide (mag ≠ 0), trimPort := if mag = 0 then r.trimPort else some p
    ramping := r.ramping && decide (mag = 0) }) s

/-- The reading lies less than 4 codes inside a limit (R198). -/
def nearLimit (q : RailRec) (v : Nat) : Bool := decide (v < q.goodMin + 4) || decide (q.goodMax < v + 4)

/-- The step last made came too near a limit: it is judged on the rail's reading when the next one is due. A ramp back to 0
(R199) is not held (DESIGN CHOICE, log entry 70). -/
def stepTooNear (s : State) (n : Nat) : Bool :=
  let r := railGet s n
  decide (r.trimLast ≠ 0) && !r.ramping && ((rigRail s n).map (fun q => nearLimit q r.sns)).getD false

/-- The last step is taken back, and the trim is held there (R198). -/
def takeBack (n : Nat) (s : State) : State :=
  let r := railGet s n
  let v := trimValue r.trimMag r.trimSink - r.trimLast
  let s := modRail n (fun r => { r with targetMag := v.natAbs, targetSink := decide (v < 0), trimLast := 0 }) (setTrim n v s)
  { s with rls := { s.rls with mrglim := s.rls.mrglim ||| (1#8 <<< n), mrglimNew := s.rls.mrglimNew ||| (1#8 <<< n) } }

/-- One trim: its last step is judged (R198), then it moves one step toward its target (R197). -/
def trimStep (n : Nat) (s : State) : State :=
  if stepTooNear s n then takeBack n s
  else
    let r := railGet s n
    let v := trimValue r.trimMag r.trimSink
    let t := trimValue r.targetMag r.targetSink
    let d : Int := if v = t then 0 else if v < t then 1 else -1
    let s := modRail n (fun r => { r with trimLast := d, ramping := r.ramping && decide (d ≠ 0) }) s
    if d = 0 then s else setTrim n (v + d) s

/-- TRIM_STEP: every trim moves one 0.5 µA step toward its target. -/
def execTrimStep (s : State) : Res := .next (railNos.foldl (fun s n => trimStep n s) s)

/-- TRIM_FAULT (R200). -/
def execTrimFault (rail : Nat) (s : State) : Res :=
  .next (if 8 ≤ rail ∨ (railGet s rail).trimMag = 0 then s
    else raise .rls 5 (setTrim rail 0 (modRail rail (fun r => { r with
      targetMag := 0, targetSink := false, trimLast := 0, ramping := false }) s)))

end Machine
end Sys2Proof
end

