-- ==== Sys2Proof/Machine/Measure.lean ====
section
/-!
DEFINITION. The hub's converter and the sweeps of satellite reports (19, R148, R433, R434).
-/
namespace Sys2Proof
namespace Machine

/-! ### Scan lists (R185, R679, R680, R684) -/

/-- The boot list: VIN, HOLD, PRE, VSL5, TEMP. -/
def bootList : List Nat := [0x0B, 0x0C, 0x0A, 0x0D, 0x0E]

/-- The default list (R680). -/
def defaultList : List Nat := bootList ++ [0x10, 0x14, 0x11, 0x15, 0x12, 0x16, 0x13, 0x17]

/-- The working list of a rig (R185). An SNSn of a rail without a RAIL record that the rig's SCAN list names stays in it and
is scanned as any other channel, though R169 has the hub not scan it (DESIGN CHOICE, log entry 61). -/
def workingList (g : Rig) : List Nat :=
  let sns := railNos.filter (fun n => (tblGet none g.rails n).isSome)
  (sns ++ (g.scan.getD defaultList).filter (fun c => !sns.contains c)).take 24

/-- Change a channel. -/
def modChan (k : Nat) (f : Channel → Channel) (s : State) : State :=
  { s with mea := { s.mea with channels := tblSet {} s.mea.channels k (f (chanGet s k)) } }

/-- The registers outside this chapter that show a channel's reading. -/
def mirror (c v : Nat) (s : State) : State :=
  if c < 8 then modRail c (fun r => { r with sns := v }) s
  else if c = 0x0B then { s with sup := { s.sup with vin := v } }
  else if c = 0x0C then { s with sup := { s.sup with hold := v } }
  else if 0x10 ≤ c ∧ c < 0x14 then modSlot (c - 0x10) (fun x => { x with vcc := v }) s
  else if 0x14 ≤ c ∧ c < 0x18 then modSlot (c - 0x14) (fun x => { x with icc := v }) s
  else s

/-- Put a list in force: channels it does not name read 0x3FF (R683), every filtered view restarts (R684, R685). -/
def putList (l : List Nat) (boot : Bool) (s : State) : State :=
  let s := (List.range 24).foldl (fun s c => if l.contains c then s else mirror c 0x3FF s) s
  { s with mea := { s.mea with
    running := true, bootList := boot, list := l, nextList := none, nextReady := false, scanPos := 0, scanGot := []
    channels := (s.mea.channels.filter (fun e => l.contains e.1)).map (fun (e : Nat × Channel) => (e.1, { last := e.2.last })) } }

/-! ### Hold-up energy (R148) -/

/-- SYS_HOLDE from SYS_HOLDC and the HOLD reading: capacity x (HOLD^2 - 36 V^2) / 2 in 0.1 mJ, rounded down. -/
def holdEnergy (c hold : Nat) : Nat :=
  if c = 0x3FF ∨ hold = 0x3FF then 0x3FF else min 0x3FE (c * (4096 * hold * hold - 36000000) / 100000000)

/-- Recompute SYS_HOLDE. -/
def holdUpdate (s : State) : State := { s with sup := { s.sup with holde := holdEnergy s.sup.holdc s.sup.hold } }

/-! ### Samples (R675, R678, R685, R686) -/

/-- A sample in a channel's views: 0x3FF is left out of the extremes, 0x3FE is the highest. -/
def chanSample (v : Nat) (c : Channel) : Channel :=
  { last := v, recent := (v :: c.recent).take 8
    hi := if v = 0x3FF then c.hi else if c.hi = 0x3FF then v else max c.hi v
    lo := if v = 0x3FF then c.lo else if c.lo = 0x3FF then v else min c.lo v }

/-- MEA_AVG (R685). -/
def chanAvg (c : Channel) : Nat :=
  if c.recent.length < 8 ∨ c.recent.contains 0x3FF then 0x3FF
  else if c.recent.contains 0x3FE then 0x3FE
  else (sumNat c.recent + 4) / 8

/-- OVERTEMP (R779, Table - MEA fault sources): above 0x2D0 on 4 consecutive scans, again only after 4 at or below 0x2BC. Its
code SAFE is taken where the event is raised (R750). -/
def tempSample (v : Nat) (s : State) : State :=
  let hot := decide (0x2D0 < v) && decide (v ≠ 0x3FF)
  let cool := decide (v ≤ 0x2BC)
  let m := s.mea
  let h := if hot then m.hotScans + 1 else 0
  let c := if cool then m.coolScans + 1 else 0
  let fires := m.hotArmed && decide (4 ≤ h)
  let s := { s with mea := { m with
    hotScans := min 4 h, coolScans := min 4 c, hotArmed := (m.hotArmed || decide (4 ≤ c)) && !fires } }
  if fires then safeReaction .mea 1 (raise .mea 1 s) else s

/-- A sample of a channel becomes visible (R678). -/
def takeSample (c v : Nat) (s : State) : State :=
  let s := modChan c (chanSample v) (mirror c v s)
  let s := if c = 0x0C then holdUpdate s else s
  let s := if c = 0x0E then tempSample v s else s
  evalChannel c v (if c < 8 then railSample c v s else s)

/-- The list position moves on; at the end of the scan period the rails that failed in it are acted on (R189), and a new
list is taken at a scan's start (R684). -/
def scanNextPos (s : State) : State :=
  let m := s.mea
  if m.scanPos + 1 < m.list.length then { s with mea := { m with scanPos := m.scanPos + 1 } }
  else
    let whole : RecEntry := { tick := m.scanTick, kind := 1, list := m.list, readings := m.scanGot }
    let s := railScanEnd { s with mea := { m with scanPos := 0, scanGot := [], scanned := some whole } }
    match s.mea.nextList with
    | some l => if s.mea.nextReady then putList l false s else s
    | none => s

/-- One sample of the scan, a conversion fault, and the evaluations of its µs. -/
def scanSample (code : Nat) (done : Bool) (ecc : Option Nat) (s : State) : State :=
  match s.mea.list[s.mea.scanPos]? with
  | none => s
  | some c =>
    let s := if done then s else raise .mea 2 s
    if s.sys.state = .fatal then s
    else
      let v := if done then min code 0x3FE else 0x3FF
      let s := takeSample c v { s with mea := { s.mea with
        scanTick := if s.mea.scanPos = 0 then s.sys.tick else s.mea.scanTick
        scanGot := if s.mea.scanPos = 0 then [v] else s.mea.scanGot ++ [v] } }
      let s := match ecc with
        | some n => if n < 32 then ruleEcc n s else s
        | none => s
      let s := evalMicro s
      if s.mea.running then scanNextPos s else s

/-- SCAN_SAMPLE (R678): the sample at the list's position, its code, whether the conversion was complete within its µs, and
the rule whose stored words were found uncorrectable at this µs, if any. -/
def execScanSample (code : Nat) (done : Bool) (ruleEcc : Option Nat) (s : State) : Res :=
  .next (if s.mea.running then scanSample code done ruleEcc s else s)

/-! ### Sweeps (R433, R434, R687 to R693) -/

/-- States in which a satellite is queried (R688). -/
def sweepQueries (st : SatState) : Bool :=
  match st with
  | .active | .asleep | .updating | .recovery | .incompatible => true
  | _ => false

/-- A row of 20 words: the status, and report words. -/
def sweepRow (status : Nat) (words : List Word) : List Word :=
  toWord status :: (words.take 19 ++ List.replicate (19 - words.length) 0x3FF)

/-- The buffer of an opening sweep: undeclared positions NOT_DECLARED by the table's default; the others NOT_QUERIED or, until
a report comes, LOST. -/
def openBuf (s : State) (num : Nat) : SweepBuf :=
  { num := num % 1022, stat := 0, miss := 0
    rows := (positions s).foldl (fun t p =>
      tblSet none t p (some (sweepRow (if sweepQueries (viewGet s p).state then 2 else 3) []))) [] }

/-- A published row; positions the rig does not declare read 0xF and 0x3FF. -/
def closedRows (b : SweepBuf) : Tbl (Option (List Word)) :=
  (List.range 252).foldl (fun t i =>
    let p := i / 63 * 64 + i % 63 + 1
    if (tblGet none t p).isSome then t else tblSet none t p (some (sweepRow 0xF []))) b.rows

/-- Rows with a status. -/
def rowsWith (b : SweepBuf) (st : Nat) : Nat :=
  (b.rows.filter (fun e => match e.2 with
    | some l => decide ((l.getD 0 0x3FF).toNat = st)
    | none => false)).length

/-- Words of a report that the hub's records keep: HOLD, input power, ballast, lock, fold, frozen traces, fault word. -/
def viewReport (s : State) (pos : Nat) (w : List Word) (v : SatView) : SatView :=
  let g := fun k => (w.getD k 0x3FF).toNat
  let r := (rigSat s pos).getD {}
  { v with
    hold := g 1, power := g 18, ballast := decide (g 1 ≠ 0x3FF) && decide (100 * r.ballastMin ≤ 64 * g 1)
    lockK := if g 16 = 0x3FF then v.lockK else bitAt (g 16) 0
    folded := if g 16 = 0x3FF then v.folded else bitAt (g 16) 2
    traceFrozen := decide (g 16 ≠ 0x3FF) && bitAt (g 16) 9
    zfst := if g 17 = 0x3FF then v.zfst else toWord (g 17) }

/-- One power reading of each powered slot of a reported satellite, and of each local slot (R637). -/
def sweepReadings (s : State) : State :=
  let s := s.mea.latest.rows.foldl (fun s e => match e.2 with
    | some l =>
      if (l.getD 0 0x3FF).toNat ≤ 1 then
        [0, 1, 2, 3].foldl (fun s n =>
          let id := slotOf e.1 n
          let r := rigSlot s id
          let g := fun k => (l.getD k 0x3FF).toNat
          addReading id (readingPower r.trip (nominalMv r.kind (slotViewGet s id).cls) (g (7 + n)) (g (11 + n))) s) s
      else s
    | none => s) s
  [0, 1, 2, 3].foldl (fun s k =>
    let x := slotGet s k
    addReading k (readingPower x.tripInForce (nominalMv x.cfg.kind x.cls) x.vcc x.icc) s) s

/-- The reports of the published sweep, by position. -/
def sweepReports (s : State) : List (Nat × List Word) :=
  s.mea.latest.rows.filterMap (fun e => match e.2 with
    | some l => if (l.getD 0 0x3FF).toNat ≤ 1 then some (e.1, l) else none
    | none => none)

/-- Word 16 of a report in the table (R694), module rail states. -/
def reportRails (l : List Word) : Nat := (l.getD 17 0x3FF).toNat

/-- A report shows a module rail newly failed. -/
def railNews (s : State) (e : Nat × List Word) : Bool :=
  let w := reportRails e.2
  let v := viewGet s e.1
  decide (w ≠ 0x3FF) && ((decide (field w 4 2 = 3) && decide (v.grail0 ≠ 3)) || (decide (field w 6 2 = 3) && decide (v.grail1 ≠ 3)))

/-- A report shows a trace newly frozen. -/
def traceNews (s : State) (e : Nat × List Word) : Bool :=
  let w := reportRails e.2
  decide (w ≠ 0x3FF) && bitAt w 9 && !(viewGet s e.1).traceFrozen

/-- The hub's records take the published reports. -/
def takeReports (s : State) : State :=
  (sweepReports s).foldl (fun s e =>
    let w := reportRails e.2
    let s := modView e.1 (viewReport s e.1 (e.2.drop 1)) s
    if w = 0x3FF then s else modView e.1 (railsShown ((rigSat s e.1).getD {}) (field w 4 2) (field w 6 2)) s) s

/-- Module rail failures and new trace freezes that the published reports show, each one event (R741; Table - RLS fault
sources, Table - SAT block fault sources); a SAT_RAIL order to a satellite whose failure is first seen so ends (R214). -/
def sweepNews (s : State) : State :=
  let rails := (sweepReports s).any (railNews s)
  let traces := (sweepReports s).any (traceNews s)
  let bad := ((sweepReports s).filter (railNews s)).map (fun e => e.1)
  let s := bad.foldl (fun s pos => endSatOrder pos 0x11 0x044 s) (takeReports s)
  raiseMany .sat (if traces then [3] else []) (raiseMany .rls (if rails then [3] else []) s)

/-- Publication at the close (R692): the table, the SWEEP events, the readings, the lookout, the ledger's decision. -/
def publish (s : State) : State :=
  let b := s.mea.filling
  let miss := rowsWith b 2
  let stat := bit (decide (miss ≠ 0)) + 2 * bit (decide (rowsWith b 1 ≠ 0)) + 4 * bit (s.mea.queried.isEmpty)
  let buf : SweepBuf := { num := b.num, stat := stat, miss := miss, rows := closedRows b }
  let turned := decide (miss ≠ 0) && !s.mea.lastPartial
  let s := { s with
    mea := { s.mea with latest := buf, filling := {}, open_ := false, queried := [], published := true,
                        lastPartial := decide (miss ≠ 0) }
    start := { s.start with sweep := true }
    ldg := { s.ldg with declared := false } }
  let s := setIevtBoth 0x002 s
  let s := if turned then raise .mea 0 s else s
  let s := sweepNews s
  let high := measHighs s
  let s := evalSweep (sweepReadings s)
  if s.sys.state = .fatal then s
  else decideWith (if (measHighs s).all (fun id => high.contains id) then [] else [3]) (drainBattery s)

/-- The decision of a sweep that would change what the ledger has set wakes the cores first (R724). -/
def publishWake (s : State) : State :=
  let t := publish s
  if s.sys.state = .standby ∧ (t.ldg.shedLevel ≠ s.ldg.shedLevel ∨ shedCount s < shedCount t ∨
      (t.fb.ldg.fst &&& ~~~s.fb.ldg.fst &&& 0x1FF) ≠ 0) then publish (coreWake 7 s) else t

/-- The next sweep opens (R687 to R689); a sweep still open is closed first (R691, R692). -/
def sweepStart (s : State) : State :=
  if s.sys.state ≠ .run ∧ s.sys.state ≠ .standby then s
  else
    let s := if s.mea.open_ then publishWake s else s
    let n := s.mea.sweepNum
    let ps := (positions s).filter (fun p => sweepQueries (viewGet s p).state)
    let s := { s with mea := { s.mea with
      open_ := true, openAt := s.sys.tick, curNum := n, sweepNum := n + 1, sweepMs := s.rig.running.sweepMs
      filling := openBuf s n, nextReady := s.mea.nextList.isSome
      queried := ps.foldl (fun t p => tblSet 0 t p 1) [] } }
    ps.foldl (fun s p => hubTo p false 3 (arg2 n) s) s

/-- SWEEP_START. -/
def execSweepStart (s : State) : Res := .next (sweepStart s)

/-- SWEEP_REPORT (R399, R690): a report of the open sweep from a queried position without one yet; any other is dropped. -/
def sweepReport (pos num : Nat) (words : List Word) (s : State) : State :=
  let q := tblGet 0 s.mea.queried pos
  if s.mea.open_ ∧ num = s.mea.curNum % 65536 ∧ (q = 1 ∨ q = 2) then
    { s with mea := { s.mea with
      queried := tblSet 0 s.mea.queried pos (q + 2)
      filling := { s.mea.filling with rows := tblSet none s.mea.filling.rows pos (some (sweepRow (q - 1) words)) } } }
  else { s with mea := { s.mea with drop := satInc s.mea.drop } }

/-- SWEEP_REPORT: nineteen words and the pad word behind the sweep's number. -/
def execSweepReport (pos num : Nat) (words : List Word) (rx : Arrival) (s : State) : Res :=
  onRing (receivedOf pos false 3 (arg2 num ++ packWords 5 (words ++ [0])) rx (sweepReport pos num words)) s

/-- SWEEP_RESEND (R433): once in a sweep, with at least 500 µs of its period left. -/
def execSweepResend (pos : Nat) (s : State) : Res :=
  onRing (fun s =>
    if s.mea.open_ ∧ tblGet 0 s.mea.queried pos = 1 ∧ s.sys.tick + 400000 ≤ s.mea.openAt + s.mea.sweepMs * 800000 then
      hubTo pos false 3 (arg2 s.mea.curNum)
        (modTether (posTether pos) (fun x => { x with retry := satInc x.retry })
          { s with mea := { s.mea with queried := tblSet 0 s.mea.queried pos 2 } })
    else s) s

/-- Every queried satellite's report has been taken, or the tick of the next sweep's start has come (R691). -/
def sweepOver (s : State) : Bool :=
  s.mea.queried.all (fun e => decide (3 ≤ e.2)) || decide (s.mea.openAt + s.mea.sweepMs * 800000 ≤ s.sys.tick)

/-- SWEEP_CLOSE (R434, R691). -/
def execSweepClose (s : State) : Res :=
  .next (if s.mea.open_ ∧ sweepOver s = true ∧ (s.sys.state = .run ∨ s.sys.state = .standby) then publishWake s else s)

/-! ### Windows (R694 to R699) -/

/-- The buffer a port reads (R697). -/
def portBuf (s : State) (p : Port) : SweepBuf := (perPortGet s.mea.pins p).getD s.mea.latest

/-- A pin or its release (R696). -/
def setPin (p : Port) (on : Bool) (s : State) : State :=
  { s with mea := { s.mea with pins := perPortSet s.mea.pins p (if on then some s.mea.latest else none) } }

/-- Word `k` of the sweep window 0x4C0 to 0x4D6 for a port (R697, R699). -/
def windowWord (s : State) (p : Port) (k : Nat) : Word :=
  let b := portBuf s p
  let pos := slotPos (perPortGet s.ports p).swpSel
  if k = 0 then toWord b.num else if k = 1 then toWord b.stat else if k = 2 then toWord b.miss
  else if posNo pos = 0 then (if k = 3 then 0x00F else 0x3FF)
  else match tblGet none b.rows pos with
    | some l => l.getD (k - 3) 0x3FF
    | none => 0x3FF

end Machine
end Sys2Proof
end

