-- ==== Sys2Proof/Machine/Update.lean ====
section
/-!
DEFINITION. The update engine (25): staging from a host, fetching from the service card, writing banks, stores and rigs, the
choice in BOOT, the trial, settings, RECOVERY.
-/
namespace Sys2Proof
namespace Machine

/-! ### Records and results -/

/-- The UPDATE record (R878). -/
def queueUpdate (kind target version reason : Nat) (s : State) : State :=
  queueRec 0x0A [kind, target, version, reason, 0x3FF] s

/-- UPD_RESULT of a job that has ended. -/
def jobResult (reason target : Nat) (s : State) : State :=
  { s with upd := { s.upd with reason := reason, resTarget := target } }

/-- RND_SIGLAST after the checks of an image ended at step `r` (0: none failed). -/
def imageSig (r : Nat) (s : State) : State :=
  if 0 < r ∧ r < 7 then s
  else { s with rnd := { s.rnd with sigLast := if r = 7 then 3 else if r = 8 then 2 else 1 } }

/-- An image fails a check (R841): IMAGE_REJECT, and the record. -/
def rejectImage (t : Tbl Byte) (r : Nat) (s : State) : State :=
  raise .upd 0 (queueUpdate 1 (imageTarget t) (imageVersion t) r (jobResult r (imageTarget t) s))

/-- A request that needs the signature engine wakes the cores (R830). -/
def wakeEngine (s : State) : State :=
  if s.sys.state = .standby then
    setIevtBoth 0x008 { s with
      sys := { s.sys with state := .run }, lko := { s.lko with standby := false, woken := true, sourced := true } }
  else s

/-! ### Target areas (R843, R862, R867, R64) -/

/-- In RECOVERY the invalid bank, or else the one of lower generation (R867). -/
def recoveryPick (validA validB : Bool) (genA genB : Nat) : Nat :=
  if !validA then 0 else if !validB then 1 else if genB < genA then 1 else 0

/-- The firmware bank that an image is written into. -/
def fwTarget (s : State) : Nat :=
  if s.sys.state = .recovery then
    recoveryPick (fwValid s 0) (fwValid s 1) s.upd.bankA.generation s.upd.bankB.generation
  else 1 - s.upd.runBank

/-- The rig bank that a rig is written into. -/
def rigTarget (s : State) : Nat :=
  if s.sys.state = .recovery then
    recoveryPick (rigBankValid s s.rig.bankA) (rigBankValid s s.rig.bankB) s.rig.bankA.generation s.rig.bankB.generation
  else 1 - s.rig.bank

/-- The store slot that a satellite image is written into (R862). -/
def storeTarget (s : State) : Nat :=
  if !storeValid s 0 then 0 else if !storeValid s 1 then 1
  else if imageVersion s.upd.store1.image < imageVersion s.upd.store0.image then 1 else 0

/-- Replace a firmware bank. -/
def setFwBank (n : Nat) (b : FwBank) (s : State) : State :=
  { s with upd := if n = 0 then { s.upd with bankA := b } else { s.upd with bankB := b } }

/-- Replace a rig bank. -/
def setRigBank (n : Nat) (b : RigBank) (s : State) : State :=
  { s with rig := if n = 0 then { s.rig with bankA := b } else { s.rig with bankB := b } }

/-- Replace a store slot. -/
def setStore (n : Nat) (b : StoreSlot) (s : State) : State :=
  { s with upd := if n = 0 then { s.upd with store0 := b } else { s.upd with store1 := b } }

/-- Count the erase of `n` sectors from `first`, and of the sector of a trailer beyond them. -/
def eraseSectors (first n last : Nat) (s : State) : State :=
  ((List.range n).map (fun i => first + i) ++ (if last < first + n then [] else [last])).foldl
    (fun s k => countErase (physSector s 164 k) s) s

/-- Sectors that `n` bytes take. -/
def sectorsOf (n : Nat) : Nat := (n + 4095) / 4096

/-- Erase a rig bank for a stream of `n` bytes. -/
def eraseRig (n : Nat) (s : State) : State :=
  let k := rigTarget s
  setRigBank k {} (eraseSectors (256 + 8 * k) (sectorsOf n) (263 + 8 * k) s)

/-- Erase the target area of an image. -/
def eraseArea (t : Tbl Byte) (s : State) : State :=
  let n := 1024 + payloadLen t
  match imageTarget t with
  | 3 =>
    let k := storeTarget s
    setStore k {} (eraseSectors (280 + 32 * k) (sectorsOf n) (280 + 32 * k) s)
  | 4 => eraseRig (payloadLen t) s
  | _ =>
    let k := fwTarget s
    setFwBank k {} (eraseSectors (128 * k) (sectorsOf n) (128 * k + 127) s)

/-- The target area of an image is erased before its first page is programmed (R858): at once, or after the release of a
power failure (R152, R866). -/
def eraseTargetOf (t : Tbl Byte) (s : State) : State :=
  if s.sup.pf then { s with upd := { s.upd with eraseDue := true } } else eraseArea t s

/-- A generation one above the higher valid one of two trailers (R64, R844). -/
def nextGen (ga ca gb cb : Nat) : Nat :=
  max (if trailerOk ga ca then ga else 0) (if trailerOk gb cb then gb else 0) + 1

/-- Write a firmware bank and mark it written (R843, R844): 0, or FLASH where no generation is left. -/
def writeFw (t : Tbl Byte) (s : State) : State × Nat :=
  let u := s.upd
  let g := nextGen u.bankA.generation u.bankA.complement u.bankB.generation u.bankB.complement
  if 0xFFFFFFFF ≤ g then (s, 0x12)
  else (setFwBank (fwTarget s) { image := t, generation := g, complement := 0xFFFFFFFF - g, written := true } s, 0)

/-- Write a rig bank, its trailer last (R64). -/
def writeRig (words : List Word) (s : State) : State × Nat :=
  let r := s.rig
  let g := nextGen r.bankA.generation r.bankA.complement r.bankB.generation r.bankB.complement
  if 0xFFFFFFFF ≤ g then (s, 0x12)
  else (setRigBank (rigTarget s) { words := words, generation := g, complement := 0xFFFFFFFF - g } s, 0)

/-! ### Settings (R854, R855) -/

/-- The settings format range of the running image. -/
def setRange (s : State) : Nat × Nat :=
  let t := (fwBank s s.upd.runBank).image
  (imgField t 28 1, imgField t 29 1)

/-- RIGGING loads the settings: the valid bank of higher generation in a format that the firmware reads. -/
def loadSettings (s : State) : State :=
  let (lo, hi) := setRange s
  let ok := fun (b : SetBank) => b.valid && inRange b.format lo hi
  let a := s.upd.setA
  let b := s.upd.setB
  if ok b && (!ok a || decide (a.generation < b.generation)) then
    { s with upd := { s.upd with settings := b.records, setFrom := 1, setDefault := false } }
  else if ok a then { s with upd := { s.upd with settings := a.records, setFrom := 0, setDefault := false } }
  else { s with upd := { s.upd with settings := [], setFrom := 1, setDefault := true } }

/-- Write the settings into the bank not loaded from; none while TRIAL is 1. -/
def writeSettings (s : State) : State :=
  if s.sys.trial then s
  else
    let u := s.upd
    let g := max (if u.setA.valid then u.setA.generation else 0) (if u.setB.valid then u.setB.generation else 0) + 1
    let b : SetBank := { valid := true, format := (setRange s).2, generation := g, records := u.settings }
    { s with upd := if u.setFrom = 1 then { u with setA := b } else { u with setB := b } }

/-- Put a record of the firmware's own into the settings. -/
def putSetting (k : Nat) (v : List Byte) (s : State) : State :=
  { s with upd := { s.upd with settings := (k, v) :: s.upd.settings.filter (fun e => decide (e.1 ≠ k)) } }

/-! ### Steps 12 to 14 and the write (R858) -/

/-- The last steps of an image whose bytes are all there: what is written, and the reason where one fails (0: none). -/
def completeImage (t : Tbl Byte) (s : State) : State × Nat :=
  if !hashOk t then (s, 0x0C)
  else
    match imageTarget t with
    | 1 => writeFw t s
    | 2 =>
      match rebuild s t with
      | none => (s, 0x0D)
      | some x => writeFw x s
    | 3 => (setStore (storeTarget s) { image := t, written := true } s, 0)
    | _ =>
      let words := rigWords t
      let c := checkRig s words.length 0x3FF words
      let s := if c.sig = 0 then s else { s with rnd := { s.rnd with sigLast := c.sig } }
      if c.reason ≠ 0 then (s, 0x0E)
      else
        let (s, r) := writeRig words s
        (if r = 0 then { s with rig := { s.rig with pending := true } } else s, r)

/-- One image is checked to its end and written; a reason below 0x10 is a rejection, FLASH is not (R841, R844). -/
def finishImage (t : Tbl Byte) (s : State) : State × Nat :=
  let (s, r) := completeImage t s
  if r = 0 then
    let s := if imageTarget t = 3 then writeSettings (putSetting 1 (natLe 4 (imageVersion t)) s) else s
    let s := if s.sys.state = .recovery then { s with upd := { s.upd with wrote := true } } else s
    (queueUpdate (if s.sys.state = .recovery then 8 else 0) (imageTarget t) (imageVersion t) 0 (jobResult 0 (imageTarget t) s), 0)
  else if r = 0x12 then (jobResult r (imageTarget t) s, r)
  else (rejectImage t r s, r)

/-! ### Host staging (R856 to R860, R864, R879, R882) -/

/-- Targets that a host may stage in a hub state (R860). -/
def hostTarget (st : HubState) (t : Nat) : Bool :=
  match st with
  | .run | .standby => inRange t 1 4
  | .recovery => decide (t = 1) || decide (t = 4)
  | _ => false

/-- Why an OPEN is refused (UPD_REFUSE); 0: it is not. -/
def openRefusal (s : State) (p : Port) (t : Nat) : Nat :=
  if s.sys.trial || !hostTarget s.sys.state t then 0x14
  else if s.sys.alarm && decide (s.sys.state ≠ .recovery) then 0x10
  else if jobRuns s || (decide (s.upd.owner ≠ .none) && decide (s.upd.owner ≠ .port p)) then 0x13 else 0

/-- OPEN. -/
def updOpen (p : Port) (t : Nat) (s : State) : State :=
  { s with upd := { updClear s.upd with phase := 1, owner := .port p, target := t } }

/-- CLOSE: an image not yet written is discarded (ABORTED). -/
def updClose (s : State) : State := recoveryCheck { s with upd := updDrop s.upd }

/-- A bank in the state PENDING (Table - Firmware bank states): pending, and not the one that runs on trial. -/
def pendingBank (s : State) : Option Nat :=
  [0, 1].find? (fun n => bankPending s n && !(s.start.fw && decide (s.upd.runBank = n)))

/-- DISCARD: REJECTED is programmed in the PENDING bank, after the release of a power failure (R152). -/
def updDiscard (s : State) : State :=
  match pendingBank s with
  | some n =>
    if s.sup.pf then { s with upd := { s.upd with discardDue := true } }
    else setFwBank n { fwBank s n with rejected := true } s
  | none => s

/-- Why a push of `n` bytes is refused (R857); 0: it is not. -/
def pushRefused (s : State) (p : Port) (n : Nat) : Nat :=
  let u := s.upd
  if u.owner ≠ .port p then 0x11
  else if u.phase ≠ 1 then 0x14
  else if u.room = 0 ∨ (List.range n).any (fun k => !(tblGet 0 u.window k).getLsbD 8) then 0x14
  else if 1024 ≤ u.count ∧ 1024 + payloadLen u.image < u.count + n then 0x06 else 0

/-- The early header check of a staged image (R858): it goes on, or ends. The image's target is the one that was opened. -/
def earlyCheck (s : State) : State :=
  let s := wakeEngine s
  let t := s.upd.image
  let target := s.upd.target
  let r := headerSteps s (fun k => decide (k = target)) t
  let s := imageSig r s
  if r = 0 then eraseTargetOf t s
  else
    let s := rejectImage t r s
    { s with upd := { s.upd with phase := 0, image := [], count := 0, room := 64 } }

/-- A push (R857): the bytes join the image; the header is checked at its 1024th byte, and the last byte starts steps 12 to
14 (R882). A place is free again once its bytes are written: not before the header has passed, nor during a power failure. -/
def updPush (n : Nat) (s : State) : State :=
  let u := s.upd
  let bytes := (List.range n).map (fun k => (tblGet 0 u.window k).setWidth 8)
  let had := u.count
  let s := { s with upd := { u with
    image := tblWriteBytes 0xFF u.image had bytes, count := had + n, room := u.room - 1 } }
  let s := if had < 1024 ∧ 1024 ≤ had + n then earlyCheck s else s
  if s.upd.phase ≠ 1 ∨ s.upd.count < 1024 then s
  else
    let whole := 1024 + payloadLen s.upd.image
    let s := if s.sup.pf then s else { s with upd := { s.upd with room := 64 } }
    if whole ≤ s.upd.count then
      { s with upd := { s.upd with
        phase := 2, count := whole, image := s.upd.image.filter (fun e => decide (e.1 < whole)) } }
    else s

/-- EXIT ends RECOVERY (R868). -/
def updExit (s : State) : State := warmRestart 3 0 s

/-- HOLD. -/
def updHold (s : State) : State := { s with upd := { s.upd with hold := true } }

/-- A refused UPD write. -/
def updRefused (p : Port) (why : Nat) (s : State) : State :=
  { s with upd := { s.upd with refuse := why, refusePort := p } }

/-! ### The service card (R623 to R627, R860 to R863, R867) -/

/-- A 512-byte block as the card gives it. -/
def mediaBlock (m : List (Nat × List Byte)) (n : Nat) : List Byte :=
  match m.find? (fun e => decide (e.1 = n)) with
  | some e => (e.2 ++ List.replicate (512 - e.2.length) 0).take 512
  | none => List.replicate 512 0

/-- `n` bytes from the start of block `b`. -/
def mediaBytes (m : List (Nat × List Byte)) (b n : Nat) : List Byte :=
  (((List.range ((n + 511) / 512)).map (fun i => mediaBlock m (b + i))).flatten).take n

/-- A partition table header at block `b` is valid (R624, the UEFI specification's layout). -/
def gptValid (m : List (Nat × List Byte)) (b : Nat) : Bool :=
  let h := mediaBlock m b
  let f := fun (lo n : Nat) => leNat (slice h lo n)
  let size := f 12 4
  let count := f 80 4
  decide (h.take 8 = [0x45, 0x46, 0x49, 0x20, 0x50, 0x41, 0x52, 0x54]) && decide (f 8 4 = 0x00010000) &&
    inRange size 92 512 &&
    decide (crc32 (h.take 16 ++ List.replicate 4 0 ++ slice h 20 (size - 20)) = f 16 4) &&
    decide (f 24 8 = b) && decide (f 84 4 = 128) && inRange count 1 128 &&
    decide (crc32 (mediaBytes m (f 72 8) (128 * count)) = f 88 4)

/-- The partition type GUID as stored (R626). -/
def partGuid : List Byte :=
  [0x30, 0x7E, 0x1A, 0x5C, 0xB4, 0x92, 0x6F, 0x4D, 0x8E, 0x15, 0xC4, 0xA0, 0xF9, 0x37, 0x2B, 0x68]

/-- First and last block of the update partition under a header at block `b` (R625). -/
def gptPartition (m : List (Nat × List Byte)) (b : Nat) : Option (Nat × Nat) :=
  let h := mediaBlock m b
  let f := fun (lo n : Nat) => leNat (slice h lo n)
  let l := mediaBytes m (f 72 8) (128 * f 80 4)
  ((List.range (f 80 4)).map (fun i => slice l (128 * i) 128)).findSome? (fun e =>
    let first := leNat (slice e 32 8)
    let last := leNat (slice e 40 8)
    if e.take 16 = partGuid ∧ f 40 8 ≤ first ∧ last ≤ f 48 8 ∧ first ≤ last then some (first, last) else none)

/-- The update partition of a card of `cap` blocks (R623, R627). -/
def findPartition (cap : Nat) (m : List (Nat × List Byte)) : Option (Nat × Nat) :=
  if gptValid m 1 then gptPartition m 1 else if gptValid m (cap - 1) then gptPartition m (cap - 1) else none

/-- Images of a partition from block `b` to `last`, `n` at most (R861): block and header. -/
def scanImages (m : List (Nat × List Byte)) (last : Nat) : Nat → Nat → List (Nat × Tbl Byte)
  | 0, _ => []
  | n + 1, b =>
    if last < b ∨ (mediaBlock m b).take 4 ≠ [0x9C, 0x47, 0x31, 0xE5] then []
    else
      let t := imageOf (mediaBytes m b 1024)
      (b, t) :: scanImages m last n (b + (1024 + payloadLen t + 511) / 512)

/-- The eligible image of a target with the highest VERSION (R862), read whole. -/
def bestImage (s : State) (m : List (Nat × List Byte)) (last target : Nat) (l : List (Nat × Tbl Byte)) : Option (Tbl Byte) :=
  let ok := l.filter (fun e => decide (e.1 + (1024 + payloadLen e.2 + 511) / 512 ≤ last + 1) &&
    decide (headerSteps s (fun k => decide (k = target)) e.2 = 0))
  let best := ok.foldl (fun (a : Option (Nat × Tbl Byte)) e => match a with
    | none => some e
    | some x => if imageVersion x.2 < imageVersion e.2 then some e else a) none
  best.map (fun e => imageOf (mediaBytes m e.1 (1024 + payloadLen e.2)))

/-- Words of UPD_FSUM. -/
def fsumScan (n : Nat) : Nat := 16 * min n 31

/-- End of an UPD_FETCH: L0 is left READY and the order returns `code`, or the card is deactivated where it was PRESENT at
dispatch, and the order returns when FALLING ends (R863, R969). -/
def endFetch (code : Nat) (s : State) : State :=
  let s := { s with upd := { s.upd with phase := if s.upd.phase = 3 then 0 else s.upd.phase, fetch := [] } }
  let x := slotGet s 0
  if x.st ≠ .updating then s
  else if x.fallTo = some .ready then endReady 0 code [] 0 (modSlot 0 (fun x => { x with fallTo := none }) s)
  else endFall 0 code s

/-- PARAM of UPD_FETCH selects a target: 0x000 selects all three. -/
def fetchSelects (param k : Nat) : Bool := decide (param % 8 = 0) || bitAt param k

/-- The images that an UPD_FETCH takes (R862): hub, satellite, rig; with what UPD_FSUM shows of the scan, and whether a hub
image found is not newer than the running one. -/
def fetchTakes (s : State) (param cap : Nat) (m : List (Nat × List Byte)) : Nat × Bool × List (Tbl Byte) :=
  match findPartition cap m with
  | none => (1, false, [])
  | some (first, last) =>
    let l := scanImages m last 32 first
    let pick := fun (k target : Nat) => if fetchSelects param k then (bestImage s m last target l).toList else []
    let hub := pick 0 1
    let newer := hub.filter (fun t => decide (runVersion s < imageVersion t))
    (fsumScan l.length, decide (newer.length < hub.length), newer ++ pick 1 3 ++ pick 2 4)

/-- UPD_FETCH reads the card: the images it takes are then written. -/
def updFetch (o : Order) (cap fault : Nat) (m : List (Nat × List Byte)) (s : State) : State :=
  if fault ≠ 0 then endFetch (if fault = 1 then 0x04D else 0x049) s
  else
    let (sum, same, l) := fetchTakes s o.param cap m
    let s := { s with upd := { s.upd with fsum := sum, fetchSame := same } }
    if l = [] then endFetch 0 (jobResult (if same then 0x16 else 0) (if same then 1 else 0) s)
    else
      let s := l.foldl (fun s t => eraseTargetOf t (imageSig 0 s)) s
      { s with upd := { s.upd with phase := 3, fetch := l } }

/-- UPD_FETCH: `cap` is the card's number of blocks, `media` the blocks it gives; `fault` 1 the card fails with SD_ERROR, 2
it does not answer in time. -/
def execUpdFetch (id cap fault : Nat) (media : List (Nat × List Byte)) (s : State) : Res :=
  .next (match orderGet s id with
    | some o =>
      if o.opcode = 0x13 ∧ o.stage = .dispatched ∧ s.upd.phase ≠ 3 ∧ (slotGet s 0).st = .updating then
        updFetch o cap fault media s
      else s
    | none => s)

/-- The card flow of RECOVERY has ended: the card is deactivated. -/
def endFlow (s : State) : State := fallNormal 0 0 s

/-- The card flow of RECOVERY (R867): the card is powered and read; with nothing eligible it is deactivated. -/
def cardFlow (cap fault : Nat) (m : List (Nat × List Byte)) (s : State) : State :=
  let s := updatePower none { s with upd := { s.upd with flowRan := true } }
  match (if fault = 0 then findPartition cap m else none) with
  | none => endFlow s
  | some (first, last) =>
    let l := scanImages m last 32 first
    let l := (bestImage s m last 1 l).toList ++ (bestImage s m last 4 l).toList
    if l = [] then endFlow s
    else
      let s := l.foldl (fun s t => eraseTargetOf t (imageSig 0 s)) s
      { s with upd := { s.upd with phase := 3, owner := .card, fetch := l, fetchSame := false } }

/-- RECOVERY_CARD_FLOW, with the operands of UPD_FETCH; not without VSL5 (R142), and once for RECOVERY's entry or an
insertion in L0 (R867, R868). -/
def execRecoveryCardFlow (cap fault : Nat) (media : List (Nat × List Byte)) (s : State) : Res :=
  .next (if s.sys.state = .recovery ∧ (slotGet s 0).st = .present ∧ s.sup.vsl5Ok = true ∧ jobRuns s = false ∧
      s.upd.owner = .none ∧ s.upd.flowRan = false then
      cardFlow cap fault media s else s)

/-! ### The write ends (R858, R859, R844, R866) -/

/-- An image write fails for want of a spare sector: WRITE_FAIL, reason FLASH (R804). -/
def writeFails (target : Nat) (s : State) : State := raise .upd 2 (jobResult 0x12 target s)

/-- A host's staged image is complete: written and STAGED, or ended. -/
def hostWritten (ok : Bool) (s : State) : State :=
  let t := s.upd.image
  let idle := fun (s : State) => { s with upd := { s.upd with phase := 0, image := [], count := 0, room := 64 } }
  if !ok then idle (writeFails (imageTarget t) s)
  else
    let (s, r) := finishImage t s
    if r = 0 then { s with upd := { s.upd with phase := 4 } } else idle s

/-- Which bit of UPD_FSUM an image taken sets. -/
def fsumBit (target : Nat) : Nat := if target = 3 then 4 else if target = 4 then 8 else 2

/-- The images of a fetch or of the card flow are written one after the other; UPD_RESULT shows the first failure, or SAME
where nothing failed and the hub image found was not newer (R862). -/
def fetchWritten (ok : Bool) (s : State) : State :=
  let l := s.upd.fetch
  let last := ((l.getLast?).map imageTarget).getD 0
  let s := if !ok then writeFails last s
    else
      let (s, r) := l.foldl (fun (a : State × Nat) t =>
        let (s, r) := finishImage t a.1
        let s := if r = 0 then { s with upd := { s.upd with fsum := Nat.lor s.upd.fsum (fsumBit (imageTarget t)) } } else s
        (s, if a.2 = 0 then r else a.2)) (s, 0)
      if r ≠ 0 then { s with upd := { s.upd with reason := r } }
      else if s.upd.fetchSame then jobResult 0x16 1 s else s
  if s.upd.owner = .card then
    recoveryCheck (endFlow { s with upd := { s.upd with phase := 0, owner := .none, fetch := [] } })
  else endFetch 0 s

/-- IMAGE_WRITE_DONE: `wear` are the sectors that needed retries, with how many (R802, R803). It waits while a power failure
is declared (R866). -/
def execImageWriteDone (wear : List (Nat × Nat)) (s : State) : Res :=
  .next (if s.sup.pf ∨ (s.upd.phase ≠ 2 ∧ s.upd.phase ≠ 3) then s
    else
      let (s, ok) := flashAll wear s
      if s.upd.phase = 2 then hostWritten ok s else fetchWritten ok s)

/-! ### The choice in BOOT (R846, R847, R65) -/

/-- A bank whose trial was abandoned by expiry and not reported yet (R847, step 2). -/
def abandoned (b : FwBank) : Bool := b.rejected && decide (1 ≤ b.trials) && !b.confirmed && !b.fallbackSeen

/-- Version of a bank's image. -/
def bankVersion (b : FwBank) : Nat := imageVersion b.image

/-- Steps 2 to 6 of R847: the bank to run and whether on trial; `none`: RECOVERY. -/
def bootBank (s : State) : State × Option (Nat × Bool) :=
  let old := [0, 1].filter (fun n => abandoned (fwBank s n))
  let s := old.foldl (fun s n =>
    queueUpdate 4 1 (bankVersion (fwBank s n)) 0 (setFwBank n { fwBank s n with fallbackSeen := true } s)) s
  let report := fun (more : Bool) (s : State) => if old ≠ [] ∨ more = true then raise .upd 1 s else s
  let pick := fun (s : State) =>
    let good := [0, 1].filter (fun n => fwValid s n && (fwBank s n).confirmed)
    match good with
    | [a, b] => some (if (fwBank s a).generation < (fwBank s b).generation then b else a)
    | [a] => some a
    | _ => none
  match [0, 1].find? (bankPending s) with
  | some n =>
    let b := fwBank s n
    if b.trials < 3 then
      (queueUpdate 2 1 (bankVersion b) 0 (report false (setFwBank n { b with trials := b.trials + 1 } s)), some (n, true))
    else
      let s := queueUpdate 4 1 (bankVersion b) 0
        (report true (setFwBank n { b with rejected := true, fallbackSeen := true } s))
      (s, (pick s).map (fun n => (n, false)))
  | none => (report false s, (pick s).map (fun n => (n, false)))

/-- A firmware bank runs: IDN_FW and IDN_RING show it. The range of satellite hardware it accepts is its own (R412). -/
def runFirmware (n : Nat) (trial : Bool) (s : State) : State :=
  let t := (fwBank s n).image
  let v := imageVersion t
  { s with
    sys := { s.sys with
      trial := trial, fwMaj := v / 1048576, fwMin := v / 1024 % 1024, fwBld := v % 1024,
      ringMin := imgField t 24 1, ringMax := imgField t 25 1, hwMin := Config.satHwMin v, hwMax := Config.satHwMax v }
    start := { s.start with fw := true, fwBank := n }
    upd := { s.upd with runBank := n }
    rnd := { s.rnd with sigLast := 1 } }

/-- The rig banks whose trailer is valid, in the order in which BOOT tries them (R65). -/
def rigOrder (s : State) : List Nat :=
  let ok := [0, 1].filter (fun n => trailerOk (rigBank s n).generation (rigBank s n).complement)
  match ok with
  | [a, b] => if (rigBank s a).generation < (rigBank s b).generation then [b, a] else [a, b]
  | l => l

/-- The rig that BOOT loads: the first of them whose stream passes; BANK_BAD where the first tried does not. -/
def bootRig (s : State) : State × Bool :=
  let tried := (rigOrder s).map (fun n => (n, checkRig s rigMax 0x3FF (rigBank s n).words))
  let bad := (tried.head?).any (fun e => decide (e.2.reason ≠ 0))
  let s := if bad then raise .rig 0 s else s
  match tried.find? (fun e => decide (e.2.reason = 0)) with
  | some (n, c) =>
    let s := if c.sig = 0 then s else { s with rnd := { s.rnd with sigLast := c.sig } }
    ({ s with rig := { s.rig with
        running := c.rig, bank := n, loaded := true, migrated := decide (c.rig.schema < (schemaRange s).2) } }, true)
  | none => (s, false)

/-! ### The trial (R848 to R853, R880) -/

/-- UPD_TRIALLEFT. -/
def trialLeft (s : State) : Nat :=
  if !s.sys.trial then 0x3FF
  else if s.upd.deferred then 0
  else
    match s.upd.trialStart with
    | none => s.rig.running.site.trialS
    | some t => s.rig.running.site.trialS - (s.sys.tick - t + 799999999) / 800000000

/-- Raise the version floor (R852): the next empty of the 16 entries. -/
def raiseFloor (v : Nat) (s : State) : State :=
  let o := s.rnd.otp
  if v ≤ versionFloor o ∨ 16 ≤ o.floors.length then s
  else queueUpdate 7 1 v 0 { s with rnd := { s.rnd with otp := { o with floors := o.floors ++ [v] } } }

/-- The confirmation takes effect (R849). -/
def confirmNow (s : State) : State :=
  let n := s.upd.runBank
  let b := fwBank s n
  let s := setFwBank n { b with confirmed := true } s
  let s := { s with sys := { s.sys with trial := false }, upd := { s.upd with trialStart := none, deferred := false } }
  let s := queueUpdate 3 1 (bankVersion b) 0 s
  let s := writeSettings (putSetting 3 (natLe 4 (bankVersion b)) s)
  if imgField b.image 7 1 % 2 = 1 then raiseFloor (bankVersion b) s else s

/-- The host confirms (R849). The marks cannot be programmed while a power failure is declared (R152): the confirmation then
takes effect at its release, and no window ends the trial in the meantime (DESIGN CHOICE, log entry 68). -/
def confirmTrial (s : State) : State :=
  if s.sup.pf then { s with upd := { s.upd with confirmDue := true } } else confirmNow s

/-- The trial is over (R850): REJECTED in the running bank, and a warm restart. -/
def abandonTrial (s : State) : State :=
  let n := s.upd.runBank
  let b := fwBank s n
  warmRestart 2 0x1A (queueUpdate 9 1 (bankVersion b) 0 (setFwBank n { b with rejected := true } s))

/-- TRIAL_EXPIRY (R850, R851): during the alarm state the restart waits for its end. So it does while a power failure is
declared, when REJECTED cannot be programmed (R152; DESIGN CHOICE, log entry 68). `confirmed`: a confirmation's completing write takes
effect at this tick; it is applied first, so the window's end does nothing (R880). -/
def execTrialExpiry (confirmed : Bool) (s : State) : Res :=
  .next (if !confirmed && s.sys.trial && s.upd.trialStart.isSome && !s.upd.deferred && !s.upd.confirmDue then
      (if s.sys.alarm || s.sup.pf then { s with upd := { s.upd with deferred := true } } else abandonTrial s)
    else s)

/-- The deferred restart may start (R851). -/
def trialEndDue (s : State) : Bool := s.upd.deferred && s.sys.trial && !s.sys.alarm && !s.sup.pf && !s.upd.confirmDue

/-- DEFERRED_TRIAL_RESTART (R851). -/
def execDeferredTrialRestart (s : State) : Res := .next (if trialEndDue s then abandonTrial s else s)

/-- The update engine goes on after the release of a power failure (R866): image bytes are written again, an erase is made,
a DISCARD, a confirmation or the end of the trial that waited takes effect. -/
def updResume (s : State) : State :=
  let u := s.upd
  let s := { s with upd := { u with
    room := if 1024 ≤ u.count then 64 else u.room, eraseDue := false, discardDue := false, confirmDue := false } }
  let s := if u.eraseDue then (if u.phase = 3 then u.fetch else [u.image]).foldl (fun s t => eraseArea t s) s else s
  let s := if u.discardDue then updDiscard s else s
  let s := if u.confirmDue && s.sys.trial then confirmNow s else s
  if trialEndDue s then abandonTrial s else s

/-- UPD_COMPAT (R877): ACTIVE satellites outside the staged hub image's ring range. -/
def updCompat (s : State) : Nat :=
  if s.upd.phase = 4 ∧ hubTarget s.upd.target then
    let t := (fwBank s (1 - s.upd.runBank)).image
    ((positions s).filter (fun p => decide ((viewGet s p).state = .active) &&
      !inRange (viewGet s p).ringver (imgField t 24 1) (imgField t 25 1))).length
  else 0

end Machine
end Sys2Proof
end

