-- ==== Sys2Proof/Machine/RigCmds.lean ====
section
/-!
DEFINITION. The rig commands of the hosts (02): OPEN, CLOSE, VALIDATE, STORE, APPLY_LIVE, their end, and what an APPLY_LIVE
puts into effect.
-/
namespace Sys2Proof
namespace Machine

/-! ### RIG_CMD (R70, R71, R73) -/

/-- RIG_RESULT and RIG_ERRPOS of a command. -/
def rigResult (cmd reason pos : Nat) (s : State) : State :=
  { s with rig := { s.rig with cmd := cmd, reason := reason, errPos := pos } }

/-- HST_IEVT.RIG_DONE on the port whose rig command completed. -/
def rigDone (p : Port) (s : State) : State := setIevt p 0x010 s

/-- OPEN takes the buffer and fills it with 0x000. -/
def rigOpen (p : Port) (s : State) : State :=
  rigDone p (rigResult 1 0 0 { s with rig := { s.rig with owner := some p, staging := [] } })

/-- CLOSE discards it. -/
def rigClose (p : Port) (s : State) : State :=
  rigDone p (rigResult 2 0 0 { s with rig := { s.rig with owner := none, staging := [] } })

/-- A command with a duration starts on the staged words as they stand (R68, R72). A signed rig needs the signature engine,
which wakes the cores (R830). -/
def rigStart (p : Port) (c : Nat) (s : State) : State :=
  let words := s.rig.staging
  let s := if (tblGet 0 words 8).getLsbD 0 then wakeEngine s else s
  rigResult c 0 0 { s with rig := { s.rig with job := some { cmd := c, port := p, words := words } } }

/-- A RIG_CMD write of code `c`, 1 to 5: whether it is accepted, and the state after (R70, R71, R73). DESIGN CHOICE (log
entry 59): a port without the buffer is told NOT_OWNER also while the alarm state holds, and a STORE or APPLY_LIVE of the
owner while BUSY is 1 leaves RIG_RESULT as it is. -/
def rigCommand (p : Port) (c : Nat) (s : State) : Bool × State :=
  if c = 1 then
    if s.rig.job.isSome || decide (s.rig.owner = some p.other) then (false, s) else (true, rigOpen p s)
  else if s.rig.owner ≠ some p then
    (false, if s.rig.job.isSome then { s with rig := { s.rig with reason := 0x15 } } else rigResult c 0x15 0 s)
  else if s.rig.job.isSome then (false, s)
  else if c = 2 then (true, rigClose p s)
  else if (c = 4 ∨ c = 5) ∧ s.sys.alarm = true then (false, rigResult c 0x14 0 s)
  else (true, rigStart p c s)

/-! ### The stream and its checks -/

/-- The staged words from word `k` on as a list; what lies beyond reads 0x000. -/
def stagedFrom (k : Nat) : Tbl Word → List Word
  | [] => []
  | (i, w) :: t => List.replicate (i - k) 0 ++ w :: stagedFrom (i + 1) t

/-- The staged words of the stream: those beyond the header's stream length are ignored (R76). -/
def stagedWords (t : Tbl Word) : List Word :=
  let l := stagedFrom 0 t
  l.take (max 16 (streamAt 0 l 6 + 1024 * (streamAt 0 l 7 % 32)))

/-- Some restart-only field differs, or a record declares something else (R58). -/
def needsRestart (a b : Rig) : Bool :=
  let (t, p, l, r, w) := restartView a
  let (t', p', l', r', w') := restartView b
  decide (t ≠ t') || decide (p ≠ p') || decide (l ≠ l') || decide (r ≠ r') || decide (w ≠ w')

/-- The words a bank holds after the write: the stream, completed with pad words (R44). -/
def bankWords (l : List Word) : List Word :=
  streamTake 0 l (groupUp (streamAt 0 l 6 + 1024 * (streamAt 0 l 7 % 32)))

/-! ### What APPLY_LIVE puts into effect (R59, Table - When live changes bite) -/

/-- The configuration of the local slots' logic, from the running rig. -/
def localSlots (s : State) : State :=
  [0, 1, 2, 3].foldl (fun s k =>
    let r := rigSlot s k
    modSlot k (fun x => { x with
      cfg := { kind := r.kind, classes := r.classes, order := r.order, trip := r.trip, wp := r.wp } }) s) s

/-- The configuration commands of a satellite under a rig. -/
def setupCmds (s : State) (pos : Nat) : List HubCmd := setSatCmd s pos :: (slotsOf pos).map (setSlotCmd s)

/-- A satellite whose configuration has changed gets it: at once, or when it wakes (R462). -/
def liveSat (old : State) (pos : Nat) (s : State) : State :=
  if setupCmds old pos = setupCmds s pos then s
  else
    match (viewGet s pos).state with
    | .active | .enumerating => sendSetup pos s
    | .asleep => modView pos (fun v => { v with setup := 5 }) s
    | _ => s

/-- LOOKOUT rules that the new rig gives other words restart (R727). -/
def liveRules (old : Rig) (s : State) : State :=
  (List.range 32).foldl (fun s n =>
    if tblGet none old.rules n = tblGet none s.rig.running.rules n then s else reloadRule n s) s

/-- SCAN: the list is taken by the first scan after the next sweep has started (R684). -/
def liveScan (old : Rig) (s : State) : State :=
  if old.scan = s.rig.running.scan then s
  else { s with mea := { s.mea with nextList := some (workingList s.rig.running), nextReady := false } }

/-- A change of the LEDGER record or of SAT.LIFT starts a decision (R671). -/
def liveLedger (old : Rig) (s : State) : State :=
  let lifts := fun (g : Rig) => g.sats.map (fun (e : Nat × Option SatRec) => e.2.map (fun r => r.lift))
  if old.ledger = s.rig.running.ledger ∧ lifts old = lifts s.rig.running then s else decide18 (followBattery s)

/-- Every changed live field takes effect at one tick (R59). DESIGN CHOICE (log entry 57): from then on the bank just
written is the one the running rig counts as loaded from, so the next write goes to the other bank. -/
def applyLive (new : Rig) (bank : Nat) (s : State) : State :=
  let old := s.rig.running
  let was := s
  let s := { s with
    rig := { s.rig with running := new, bank := bank, pending := false, migrated := decide (new.schema < (schemaRange s).2) }
    sup := { s.sup with vPf := new.site.vPf } }
  let s := localSlots s
  let s := (positions s).foldl (fun s p => liveSat was p s) s
  let s := liveScan old (liveRules old s)
  let s := [Port.a, Port.b].foldl (fun s p => liveHost p (perPortGet old.hosts p) (perPortGet new.hosts p) s) s
  liveLedger old s

/-! ### The end of a command (R58, R64, R68, R69, R72) -/

/-- The command ends: its result, its event, and the buffer of a port that is gone. -/
def endRigJob (j : RigJob) (reason pos : Nat) (s : State) : State :=
  let s := rigResult j.cmd reason pos { s with rig := { s.rig with job := none } }
  let s := if j.releaseAfter then { s with rig := { s.rig with owner := none, staging := [], page := 0 } } else s
  rigDone j.port s

/-- A STORE or an APPLY_LIVE reaches its bank write with a rig that passed (R64, R69, R152, R778). Of `wear` the sectors of
the bank count. -/
def rigWrite (j : RigJob) (words : List Word) (new : Rig) (wear : List (Nat × Nat)) (s : State) : State :=
  if s.sup.pf then endRigJob j 0x16 0 s
  else
    let target := rigTarget s
    let wear := wear.filter (fun e => inRange e.1 (256 + 8 * target) (263 + 8 * target))
    let r := s.rig
    let g := nextGen r.bankA.generation r.bankA.complement r.bankB.generation r.bankB.complement
    if 0xFFFFFFFF ≤ g then endRigJob j 0x16 0 s
    else
      let bank : RigBank := { words := bankWords words, generation := g, complement := 0xFFFFFFFF - g }
      let s := eraseRig (5 * ((bankWords words).length / 4)) s
      let (s, ok) := flashAll wear s
      if !ok then raise .rig 1 (endRigJob j 0x16 0 s)
      else
        let s := setRigBank target bank s
        let s := if j.cmd = 4 then applyLive new target s else { s with rig := { s.rig with pending := true } }
        endRigJob j 0 0 s

/-- A rig command ends: validation first, then for APPLY_LIVE the restart-only fields, then the write. -/
def finishRig (j : RigJob) (wear : List (Nat × Nat)) (s : State) : State :=
  let words := stagedWords j.words
  let c := checkRig s rigMax 0 words
  let s := if c.sig = 0 then s else { s with rnd := { s.rnd with sigLast := c.sig } }
  if c.reason ≠ 0 then endRigJob j c.reason c.pos s
  else if j.cmd = 3 then endRigJob j 0 0 s
  else if j.cmd = 4 ∧ needsRestart c.rig s.rig.running = true then endRigJob j 0x13 0 s
  else rigWrite j words c.rig wear s

/-- RIG_COMMAND_DONE: `wear` are the sectors that needed retries, with how many (R802, R803). -/
def execRigCommandDone (wear : List (Nat × Nat)) (s : State) : Res :=
  .next (match s.rig.job with
    | some j => if s.sys.state = .run ∨ s.sys.state = .standby then finishRig j wear s else s
    | none => s)

/-- A power failure is declared while a STORE or an APPLY_LIVE runs (R152): `writing` says whether its bank write is
running. Then it ends with FLASH at this tick, and the bank it wrote has no trailer (R75); otherwise its validation goes on
and RIG_COMMAND_DONE ends it. -/
def rigPowerFail (writing : Bool) (s : State) : State :=
  match s.rig.job with
  | some j =>
    if j.cmd = 3 ∨ writing = false then s
    else
      let c := checkRig s rigMax 0 (stagedWords j.words)
      if c.reason ≠ 0 ∨ (j.cmd = 4 ∧ needsRestart c.rig s.rig.running = true) then s
      else endRigJob j 0x16 0 (setRigBank (rigTarget s) {} s)
  | none => s

end Machine
end Sys2Proof
end

