-- ==== Sys2Proof/Machine/Recorder.lean ====
section
/-!
DEFINITION. The flight recorder (26): seeds, freezing, dumps, rearming, and the course of a replay.
-/
namespace Sys2Proof
namespace Machine

/-! ### Entries and blocks (R889 to R892) -/

/-- The TIME entry of a tick. -/
def timeBytes (t : Nat) : List Byte := 0x00 :: natLe 8 t

/-- A TIME entry stands before an entry that comes more than 65 535 ticks after the one before it. -/
def farOff (before : Nat) (e : RecEntry) : Bool := decide (65535 < e.tick - before)

/-- The bytes of an entry behind one of tick `before` (R890). -/
def recBytes (before : Nat) (e : RecEntry) : List Byte :=
  (if farOff before e then timeBytes e.tick else []) ++ [byte (16 * e.kind + e.sub % 16)] ++
    natLe 2 (if farOff before e then 0 else e.tick - before) ++ e.payload

/-- The entries of a block, oldest first, behind one of tick `before`. -/
def entriesBytes (before : Nat) : List RecEntry → List Byte
  | [] => []
  | e :: l => recBytes before e ++ entriesBytes e.tick l

/-- The 4096 bytes of a block: TIME, its entries, the pad (R889). -/
def blockBytes (b : RecBlock) : List Byte :=
  let l := timeBytes b.time ++ entriesBytes b.time b.entries.reverse
  l ++ List.replicate (4096 - l.length) 0xF0

/-- An entry at the end of a block. -/
def addEntry (e : RecEntry) (b : RecBlock) : RecBlock :=
  { b with entries := e :: b.entries, size := b.size + (recBytes b.last e).length, last := e.tick }

/-- The entry fits into the block (R889: whole entries only). -/
def entryFits (e : RecEntry) (b : RecBlock) : Bool := decide (b.size + (recBytes b.last e).length ≤ 4096)

/-- A block that begins with an entry. -/
def blockWith (e : RecEntry) : RecBlock := addEntry e { time := e.tick, last := e.tick }

/-- An entry goes to the end of the ring of 128 blocks, newest first: the oldest block is overwritten whole. -/
def putEntry (e : RecEntry) (l : List RecBlock) : List RecBlock :=
  match l with
  | [] => [blockWith e]
  | b :: rest => if entryFits e b then addEntry e b :: rest else (blockWith e :: l).take 128

/-- TIME tick of the oldest block. -/
def oldestTime (l : List RecBlock) : Nat := ((l.getLast?).map (fun b => b.time)).getD 0

/-- The nibble of a reading against the entry's previous one (R892): 8 is the escape. -/
def scanNibble (old new : Nat) : Nat :=
  if 0x3FE ≤ new ∨ new + 7 < old ∨ old + 7 < new then 8 else (new + 16 - old) % 16

/-- Nibbles in bytes, the even ones low. -/
def nibbleBytes : List Nat → List Byte
  | [] => []
  | [a] => [byte a]
  | a :: b :: l => byte (a + 16 * b) :: nibbleBytes l

/-- A SCAN entry: the changes, then the readings of the escaped samples. -/
def scanEntry (x : RecEntry) (old : List Nat) : RecEntry :=
  let l := List.zipWith (fun a b => (scanNibble a b, b)) old x.readings
  { tick := x.tick, kind := 1
    payload := nibbleBytes (l.map (fun e => e.1)) ++
      ((l.filter (fun e => decide (e.1 = 8))).map (fun e => natLe 2 e.2)).flatten }

/-- A SCANFULL entry. -/
def scanFull (x : RecEntry) : RecEntry :=
  let n := x.readings.length
  { tick := x.tick, kind := 2, payload := byte n :: packWords ((n + 3) / 4) (x.readings.map toWord) }

/-- A scan is written: whole as the first of its block or after a change of the list, else by its changes (R891). -/
def putScan (x : RecEntry) (r : Rec) : Rec :=
  let full := scanFull x
  let e := match r.ram.blocks.head?, r.lastScan with
    | some b, some (l, old) =>
      let d := scanEntry x old
      if l = x.list ∧ b.entries.any (fun e => decide (e.kind = 1) || decide (e.kind = 2)) = true ∧ entryFits d b = true then d
      else full
    | _, _ => full
  { r with ram := { r.ram with blocks := putEntry e r.ram.blocks }, lastScan := some (x.list, x.readings) }

/-- An entry of the input queue is written. -/
def putItem (r : Rec) (e : RecEntry) : Rec :=
  if e.kind = 1 then putScan e r else { r with ram := { r.ram with blocks := putEntry e r.ram.blocks } }

/-! ### Recording (R888, R893, R894, R899) -/

/-- A MARK entry of this tick. -/
def recMark (code arg : Nat) (r : Rec) : Rec := { r with marks := r.marks ++ [(code, arg)] }

/-- A new recording starts: the ring and the seeds are empty. -/
def recStart (s : State) : State :=
  { s with rcd := { recMark 0 0 s.rcd with
    recording := decide (s.sys.state ≠ .replay) && decide (s.sys.state ≠ .fatal), frozen := false, closing := false
    seeds := [], ram := {}, queue := [], lost := 0, lastScan := none, seen := none, since := s.sys.tick } }

/-- Recording resumes after the dump of a RESET entry's freeze (R899): in the same ring, behind a recording-start mark. -/
def recGoOn (s : State) : State :=
  { s with rcd := { recMark 0 0 s.rcd with
    recording := decide (s.sys.state ≠ .replay) && decide (s.sys.state ≠ .fatal), frozen := false, closing := false
    seen := none, since := s.sys.tick } }

/-- A seed is taken into the buffer that does not hold the newest; its MARK entry. -/
def recSeed (s : State) : State :=
  let n := match s.rcd.seeds with
    | x :: _ => 1 - x.buffer
    | [] => 0
  { s with rcd := { recMark 3 n s.rcd with
    seeds := ({ tick := s.sys.tick, ready := s.rnd.ready, buffer := n } :: s.rcd.seeds).take 2 } }

/-- RECORDER_SEED (R894): one due at the tick of a freeze is still taken (R915). -/
def execRecorderSeed (s : State) : Res :=
  .next (if (s.rcd.recording || s.rcd.closing) && (decide (s.sys.state = .run) || decide (s.sys.state = .standby)) then recSeed s
    else s)

/-- RECORDER_FREEZE_DELAY_END (R895, R912): the freeze tick is the one fixed at the cause. -/
def execRecorderFreezeDelayEnd (s : State) : Res :=
  .next (if s.rcd.delaying then
      let t := s.rcd.ftick
      let s := recStand s.rcd.fcause s
      { s with rcd := { s.rcd with ftick := t } }
    else s)

/-! ### Dumps (R897 to R900) -/

/-- Erase a dump area: it becomes the armed one. -/
def armArea (n : Nat) (s : State) : State :=
  let first := if n = 0 then 600 else 728
  let s := eraseSectors first 128 first s
  { s with rcd := if n = 0 then { s.rcd with area0 := {}, armed0 := true } else { s.rcd with area1 := {}, armed1 := true } }

/-- The area dumped to. -/
def dumpArea (s : State) : Nat := if s.rcd.armed0 then 0 else 1

/-- The other area is erased where REC_KEEP does not protect it. -/
def armOther (n : Nat) (s : State) : State := if bitAt s.rcd.keep (1 - n) then s else armArea (1 - n) s

/-- The seed that a dump takes: the older where its tick is at or after the oldest dumped block's (R900). -/
def dumpSeed (seeds : List Seed) (oldest : Nat) : Option Seed :=
  match seeds with
  | [] => none
  | [a] => some a
  | a :: b :: _ => if oldest ≤ b.tick then some b else some a

/-- The bytes of a dump's header (Table - Dump header). -/
def dumpHeader (r : Recording) : List Byte :=
  let oldest := oldestTime r.blocks
  let seedTick := (r.seed.map (fun x => x.tick)).getD 0
  let body := [0x7E, 0x3C, 0x9D, 0x51, 0x01, byte r.cause] ++ natLe 2 r.blocks.length ++ natLe 8 r.ftick ++ natLe 8 seedTick ++
    natLe 8 oldest ++ natLe 4 r.version ++ natLe 4 r.rigVersion ++ natLe 4 r.rigCrc ++ [1, byte r.state] ++
    natLe 3 r.boot ++ natLe 2 r.site ++
    [byte ((r.blocks.reverse.filter (fun b => decide (b.time < seedTick))).length)] ++ natLe 4 r.seedCrc ++
    natLe 4 (crc32 ((r.blocks.reverse.map blockBytes).flatten)) ++ List.replicate 4032 0
  body ++ natLe 4 (crc32 body)

/-- What an area holds after its dump: the 115 newest blocks and one seed (R900). The CRC-32 of a seed is a free value: what it
holds is no state of this model. -/
def dumpOf (s : State) : Recording × State :=
  let r := s.rcd
  let l := r.ram.blocks.take 115
  let (n, s) := drawFree s
  ({ r.ram with valid := true, erased := false, blocks := l, seed := dumpSeed r.seeds (oldestTime l), seedCrc := n % 2 ^ 32 }, s)

/-- The dump ends: its header is written, or not. -/
def dumpEnds (ok : Bool) (s : State) : State :=
  let n := dumpArea s
  let (area, s) := if ok then dumpOf s else (({ erased := false } : Recording), s)
  let r := { s.rcd with dumping := false, armed0 := false, armed1 := false }
  let s := { s with rcd := if n = 0 then { r with area0 := area } else { r with area1 := area } }
  let s := if ok then armOther n s else s
  let s := if s.rcd.fcause = 2 then recGoOn s else s
  if ok then s else raise .rcd 2 s

/-- RAM_UNCORR has the code CHIP_RESET in the running rig (R772). -/
def ramReset (s : State) : State :=
  if codeOf s.fb.rcd 1 = 4 ∧ s.fb.rcd.fst.getLsbD 1 = true then warmRestart 2 0x1E s else s

/-- Errors of the recorder's RAM, seen by the read of the dump: blocks of the ring, the oldest 0, found uncorrectable become
gaps (REC registers). -/
def ramErrors (corr : Bool) (uncorr : List Nat) (s : State) : State :=
  let s := raiseMany .rcd ((if corr then [0] else []) ++ (if uncorr = [] then [] else [1])) s
  if uncorr = [] then s else ramReset s

/-- Blocks found uncorrectable. -/
def markGaps (bad : List Nat) (s : State) : State :=
  let l := s.rcd.ram.blocks
  { s with rcd := { s.rcd with ram := { s.rcd.ram with
      blocks := ((List.range l.length).zip l).map (fun (e : Nat × RecBlock) =>
        if bad.contains (l.length - 1 - e.1) then { e.2 with gap := true } else e.2) } } }

/-- RECORDER_DUMP_DONE (R897 to R899): `ok` all was written, `ramCorr` a single-bit error and `ramUncorr` the blocks with a
double-bit one read from the RAM, `wear` the sectors that needed retries. -/
def execRecorderDumpDone (ok ramCorr : Bool) (ramUncorr : List Nat) (wear : List (Nat × Nat)) (s : State) : Res :=
  .next (if s.rcd.dumping && !s.sup.pf && decide (s.sys.state ≠ .off) then
      let (s, good) := flashAll wear (markGaps ramUncorr s)
      ramErrors ramCorr ramUncorr (dumpEnds (ok && good) s)
    else s)

/-- At RESET exit: the dump after a RESET entry runs, or recording goes on (R888, R899). -/
def recResume (s : State) : State :=
  let r := s.rcd
  let s := if r.armed0 || r.armed1 || r.dumping then s
    else if r.area0.erased then { s with rcd := { r with armed0 := true } }
    else if r.area1.erased then { s with rcd := { r with armed1 := true } }
    else s
  let r := s.rcd
  if r.frozen then { s with rcd := { r with dumping := r.dumping || (decide (r.fcause = 2) && (r.armed0 || r.armed1)) } }
  else
    { s with rcd := { recMark 0 0 r with
      recording := true, since := s.sys.tick, seen := none, ram := if s.start.cold then {} else r.ram } }

/-! ### REC_CMD (R895, R899, R908) -/

/-- A refused REC write. -/
def recRefused (p : Port) (why : Nat) (s : State) : State :=
  { s with rcd := { s.rcd with refuseReason := why, refusePort := p } }

/-- Why ARM is refused; 0: it is not. -/
def armRefusal (s : State) : Nat := if s.rcd.dumping then 6 else 0

/-- ARM: frozen content is discarded. -/
def recArm (s : State) : State := if s.rcd.frozen then recStart s else s

/-- FREEZE. -/
def recFreezeCmd (s : State) : State := recFreeze 6 true false s

/-- STOP. -/
def recStop (s : State) : State := replayEnd 4 s

/-! ### Replay (R901 to R908) -/

/-- The source that REC_DSEL names: its recording and its seed. -/
def replaySource (s : State) (sel : Nat) : Option (Recording × Seed) :=
  if sel = 0 then (if s.rcd.frozen then s.rcd.seeds.head?.map (fun t => (s.rcd.ram, t)) else none)
  else
    let a := if sel = 1 then s.rcd.area0 else s.rcd.area1
    if a.valid then a.seed.map (fun t => (a, t)) else none

/-- The entries of a recording that follow a tick, oldest first; a block that cannot be read is a gap. -/
def entriesAfter (l : List RecBlock) (tick : Nat) : List RecEntry :=
  ((l.reverse.map (fun b => if b.gap then [{ tick := b.time, kind := 0xB, sub := 1, payload := [0] }] else b.entries.reverse)).flatten).filter
    (fun e => decide (tick < e.tick))

/-- Free values for the words of one replay tick: 8192 of them from the key on. -/
def newKey (s : State) : State := { s with rcd := { s.rcd with play := { s.rcd.play with key := s.free } }, free := s.free + 8192 }

/-- The source was recorded under what runs now (R901); there is one stepping. -/
def sameVersions (s : State) (r : Recording) : Bool :=
  decide (r.version = fwVersion s) && decide (r.rigVersion = rigVersion s) && decide (r.rigCrc = rigCrc s)

/-- Why the completing write of REC_REPLAY is refused (REC_REFUSE); 0: it is not. -/
def replayRefusal (s : State) (sel : Nat) : Nat :=
  if s.sys.alarm then 1
  else if s.ord.orders.any (fun o => !o.internal) then 2
  else if s.sys.state ≠ .run ∨ s.rig.job.isSome = true ∨ s.sys.trial = true then 3
  else if s.rcd.dumping then 6
  else match replaySource s sel with
    | none => 4
    | some (r, _) => if sameVersions s r then 0 else 5

/-- REPLAY is entered (R902, R905): RIPCORD on every tether, the local slots deactivated; the words of the last replay are
cleared. -/
def enterReplay (sel : Nat) (s : State) : State :=
  let source := replaySource s sel
  let start := (source.map (fun e => e.2.tick)).getD 0
  let play : Replay := {
    source := (source.map (fun e => entriesAfter e.1.blocks e.2.tick)).getD [], ready := (source.map (fun e => e.2.ready)).getD false }
  let s := trimsOff (ripcordLocals (ripcordTethers false s))
  newKey { s with
    sys := { s.sys with state := .replay }
    rcd := { s.rcd with
      recording := false, replaying := true, rstat := 0, rtick := start, divt := 0, divcls := 0,
      sigRec := 0, sigRep := 0, divcnt := 0, play := play } }

/-! ### The output signature (R906 to R908, R914) -/

/-- Put an element before the first that comes after it. -/
def insertWith {α : Type} (before : α → α → Bool) (e : α) : List α → List α
  | [] => [e]
  | x :: l => if before e x then e :: x :: l else x :: insertWith before e l

/-- Class order, and source order within a class. -/
def outBefore (a b : OutEvent) : Bool := decide (a.cls < b.cls) || (decide (a.cls = b.cls) && decide (a.src < b.src))

/-- Output events in their order. -/
def outSorted (l : List OutEvent) : List OutEvent := l.foldl (fun a e => insertWith outBefore e a) []

/-- CRC-16 and saturated count of the output events of a tick; none where there is no event. -/
def signature (l : List OutEvent) : Option (Nat × Nat) :=
  if l = [] then none
  else
    let bytes := ((outSorted l).map (fun e => byte e.cls :: e.value)).flatten
    some (crc16 ((bytes.map (fun b => bitsMsb 8 b.toNat)).flatten), min 255 l.length)

/-- The lowest class with an event. -/
def lowestClass (l : List OutEvent) : Nat := (l.map (fun e => e.cls)).foldl min 8

/-- The SIG entry among the entries of a tick. -/
def recordedSig (l : List RecEntry) : Option (Nat × Nat) :=
  (l.find? (fun e => decide (e.kind = 0xC))).map (fun e => (leNat (e.payload.take 2), ((e.payload.getD 2 0).toNat)))

/-- A CRC that one side of a divergence does not have is a free value. -/
def sigCrc (a : Option (Nat × Nat)) (s : State) : Nat × State :=
  match a with
  | some e => (e.1 % 65536, s)
  | none =>
    let (n, s) := drawFree s
    (n % 65536, s)

/-- The class of a divergence: where the replayed hub has no event at the tick, what the recorded ones were is not known and
the class is a free one. -/
def divClass (outs : List OutEvent) (s : State) : Nat × State :=
  if outs = [] then
    let (n, s) := drawFree s
    (1 + n % 8, s)
  else (lowestClass outs, s)

/-- The replay diverges at its tick (R907, R908). -/
def diverge (a : Option (Nat × Nat)) (outs : List OutEvent) (s : State) : State :=
  let n := satInc s.rcd.divcnt
  if s.rcd.divcnt = 0 then
    let (x, s) := sigCrc a s
    let (y, s) := sigCrc (signature outs) s
    let (c, s) := divClass outs s
    { s with rcd := { s.rcd with divcnt := n, divt := s.rcd.rtick, divcls := c, sigRec := x, sigRep := y } }
  else { s with rcd := { s.rcd with divcnt := n } }

/-- The replay takes the entries of its tick: inputs, and READY by RND entries (R903, R911). -/
def takeEntries (now rest : List RecEntry) (p : Replay) : Replay :=
  { p with
    source := rest, fed := p.fed || now.any (fun e => decide (e.kind ≠ 0xB) && decide (e.kind ≠ 0xC))
    ready := (((now.reverse.find? (fun e => decide (e.kind = 0xA))).map (fun e => bitAt e.sub 0)).getD p.ready) }

/-- Why a replay that goes on past its tick ends there: a gap, or the last entry. -/
def sourceEnds (now rest : List RecEntry) (s : State) : State :=
  if now.any (fun e => decide (e.kind = 0xB ∧ e.sub = 1)) then replayEnd 3 s else if rest = [] then replayEnd 1 s else s

/-- One tick of the replay, with the replayed hub's output events. -/
def replayStep (outs : List OutEvent) (s : State) : State :=
  let t := nextTick s.rcd.rtick
  let src := s.rcd.play.source
  let now := src.takeWhile (fun e => decide (e.tick ≤ t))
  let rest := src.dropWhile (fun e => decide (e.tick ≤ t))
  let s := newKey { s with rcd := { s.rcd with rtick := t, play := takeEntries now rest s.rcd.play } }
  if recordedSig now = signature outs then sourceEnds now rest s
  else
    let s := diverge (recordedSig now) outs s
    if bitAt s.rcd.cfg 4 then sourceEnds now rest s else replayEnd 2 s

/-- REPLAY_TICK (R905 to R908, R914): `outs` are the replayed hub's output events of the tick. -/
def execReplayTick (outs : List OutEvent) (s : State) : Res := .next (if s.sys.state = .replay then replayStep outs s else s)

end Machine
end Sys2Proof
end

