-- ==== Sys2Proof/Machine/Supply.lean ====
section
/-!
DEFINITION. Supply (05) and timebase (03): supervisors, power-on reset, the power-fail record, the hold-up self-check, the
PLL, VIO.
-/
namespace Sys2Proof
namespace Machine

/-! ### VSL5 (R142) -/

/-- VSL5 fell: every active local slot is deactivated with emergency timing, its order ends with VCC_FAIL. -/
def vslFall (s : State) : State :=
  let on := [0, 1, 2, 3].any (fun k => (slotGet s k).pins.vccOn)
  let s := [0, 1, 2, 3].foldl (fun s k => emergency k [6] s) { s with sup := { s.sup with vsl5Ok := false } }
  if on then raise .slt 4 s else s

/-- VSL5_FALL. -/
def execVsl5Fall (s : State) : Res := .next (if s.sup.vsl5Ok then vslFall s else s)

/-- VSL5_RISE. -/
def execVsl5Rise (s : State) : Res := .next { s with sup := { s.sup with vsl5Ok := true } }

/-! ### Power failure (R150 to R159, R163 to R168) -/

/-- The two reserve sectors of the record hold part of it until its commit marker stands (R157). -/
def soilReserve (s : State) : State := (reserveSectors s).foldl (fun s i => ringSet i { dirty := true } s) s

/-- The snapshot is captured and its record begins (R153 to R156): it takes the log's next sequence number, and the two
reserve sectors are no longer erased (R154). -/
def beginRecord (s : State) : State :=
  let x : Snapshot := { seq := s.log.next, tick := s.sys.tick, boot := s.sys.bootCount,
                        site := s.rig.running.site.siteId, words := snapshotWords s }
  let s := soilReserve s
  { s with
    sup := { s.sup with pfrBusy := true, partialRecord := true, snapshot := some x, reserve := 0 }
    log := { s.log with next := s.log.next + 1 } }

/-- A step in progress in RISING is aborted (R152): the rails enabled are held. -/
def abortStep (s : State) : State :=
  if s.sys.state = .rising ∧ s.rls.rising = true then
    raise .rls 4 { s with rls := { s.rls with rising := false, aborted := true } }
  else s

/-- A power failure is declared (Table - Hub at power-fail declaration, R163, R199, R895): `writing` says whether the bank
write of a rig command is running. -/
def declarePf (writing : Bool) (s : State) : State :=
  let s := { s with sup := { s.sup with
    pf := true, holdPath := true, charger := false, checking := false, pfcnt := satInc s.sup.pfcnt } }
  let s := if pfrArmed s && decide (s.log.next ≤ 0x3FFFFFFF) then beginRecord s else s
  let s := recFreeze 4 (bitAt s.rcd.cfg 2) true (rampTrims none (rigPowerFail writing s))
  abortStep s

/-- POWER_FAIL_DECLARE. -/
def execPowerFailDeclare (writing : Bool) (s : State) : Res :=
  .next (if s.sup.pf || s.sup.por || decide (s.sys.state = .off) then s else declarePf writing s)

/-- The commit marker is programmed (R156): the snapshot stands in the two reserve sectors. -/
def commitRecord (x : Snapshot) (s : State) : State :=
  let l := reserveSectors s
  let a := l.headD 0
  let b := (l.getLast?).getD 0
  let s := ringSet b { snap := true } (ringSet a { snap := true } s)
  let s := { s with
    log := { s.log with snaps := s.log.snaps ++ [(a, b, x)] }
    sup := { s.sup with pfrBusy := false, pfrDone := s.sup.pf, partialRecord := false, snapshot := none } }
  if x.seq = 0x3FFFFFFF then raise .log 3 { s with log := { s.log with frozen := true } } else s

/-- A program of the record took some retries at ring sector `i` (R802, R809): answers whether it went on. A sector to be
retired is retired after release. -/
def recordProgram (i retries : Nat) (s : State) : State × Bool :=
  if retries ≤ 8 then flashAt (344 + i) retries s
  else ({ s with sup := { s.sup with retireDue := s.sup.retireDue ++ [344 + i] } }, false)

/-- The record's programs in its first and second sector, with the retries of each. -/
def programRecord (first second : Nat) (s : State) : State × Bool :=
  let l := reserveSectors s
  let (s, ok) := recordProgram (l.headD 0) first s
  if ok then recordProgram ((l.getLast?).getD 0) second s else (s, false)

/-- POWER_FAIL_RECORD_COMMIT: the record's programming ends; in any state it goes on without firmware (R965). `first` and
`second` are the retries that its two sectors needed. A program that still fails after eight ends the record, which stays
without its commit marker (R809). -/
def execPowerFailRecordCommit (first second : Nat) (s : State) : Res :=
  .next (match s.sup.snapshot with
    | some x =>
      if s.sup.pfrBusy then
        let (t, ok) := programRecord first second s
        if ok then commitRecord x t else endRecord t
      else s
    | none => s)

/-- The rising program that the declaration aborted, or held back, starts from its beginning (R159, R236). -/
def resumeRising (s : State) : State :=
  if s.sys.state = .rising && !s.rls.locked && !s.rls.rising && !s.rls.falling then
    beginRising s.rls.aborted s
  else s

/-- Flash writes that the power failure held back begin (R152, R158, R809, R866). -/
def resumeFlash (s : State) : State :=
  let l := s.sup.retireDue
  let s := { s with sup := { s.sup with retireDue := [] } }
  let s := l.foldl (fun s k => (flashAt k 9 s).1) s
  updResume (if s.log.wearDue then wearSave s else s)

/-- The power failure is released (R158): orders are dispatched again, image bytes are written again. -/
def releasePf (s : State) : State :=
  let s := resumeFlash
    { s with sup := { s.sup with pf := false, holdPath := false, charger := true, pfrDone := false } }
  resumeRising (if s.sys.state = .run then dispatchHeld s else s)

/-- POWER_FAIL_RELEASE: not before the record of the declaration is committed (R150). -/
def execPowerFailRelease (s : State) : Res :=
  .next (if s.sup.pf && !s.sup.pfrBusy then releasePf s else s)

/-- A missing sector of the reserve is erased, with the retries it took (R802 to R804). -/
def eraseReserve (s : State) (e : Nat × Nat) : State :=
  let (s, good) := eraseAt (344 + e.1) e.2 s
  if good then ringSet e.1 {} s else s

/-- The missing sectors of the reserve are erased (R154, R810); a full head moves on. -/
def fillReserve (first second : Nat) (s : State) : State :=
  let l := (reserveSectors s).filter (fun i => !erasedSector s i)
  let s := (l.zip [first, second]).foldl eraseReserve s
  headAdvance { s with sup := { s.sup with reserve := ((reserveSectors s).filter (erasedSector s)).length } }

/-- PFR_RESERVE_COMPLETE: `first` and `second` are the retries of the erases. -/
def execPfrReserveComplete (first second : Nat) (s : State) : Res :=
  .next (if reserveErasing s then fillReserve first second s else s)

/-! ### The hold-up self-check (R146 to R149) -/

/-- States from RISING onward in which the rig is in force. -/
def pastRigging (s : State) : Bool :=
  match s.sys.state with
  | .rising | .enumerate | .run | .standby | .replay => true
  | _ => false

/-- A self-check may start: the first once the hub has entered RISING, later ones in RUN; never in the alarm state or during
a power failure (R147). -/
def mayCheck (s : State) : Bool :=
  !s.sup.checking && !s.sup.pf && !s.sys.alarm && (if s.start.holdc then decide (s.sys.state = .run) else pastRigging s)

/-- HOLD_SELF_CHECK_START. -/
def execHoldSelfCheckStart (s : State) : Res :=
  .next (if mayCheck s then { s with sup := { s.sup with checking := true, charger := false } } else s)

/-- SYS_HOLDC of a fall of 1.00 V in some ticks at 18 mA: 2 µF units, 0x3FE from 250 ms. -/
def holdCap (ticks : Nat) : Nat := if 200000000 ≤ ticks then 0x3FE else min 0x3FE (ticks * 9 / 800000)

/-- HOLD_SELF_CHECK_DONE. -/
def execHoldSelfCheckDone (ticks : Nat) (s : State) : Res :=
  .next (if s.sup.checking then
      { s with
        sup := { s.sup with checking := false, charger := true, holdc := holdCap ticks }
        start := { s.start with holdc := true } }
    else s)

/-- HOLD_LOW (R149). -/
def execHoldLow (s : State) : Res :=
  .next (if pastRigging s && !s.sup.pf && !holdOk s then raise .sys 2 s else s)

/-! ### Buck, power-on reset, OFF (R28, R139, R140, R160, R162, R217) -/

/-- BUCK_START: from OFF, PRE rises and RESET is entered under power-on reset. -/
def execBuckStart (s : State) : Res :=
  .next (
    let s := { s with sup := { s.sup with buck := true } }
    if s.sys.state = .off then powerOn s else s)

/-- BUCK_STOP: PRE is discharged; what follows comes with its own fall (POWER_ON_RESET, PRE_COLLAPSE). -/
def execBuckStop (s : State) : Res := .next { s with sup := { s.sup with buck := false, charger := false } }

/-- Which supervisor fell: 0 PRE, 1 V18C, 2 VDC. -/
def supplyFalls (rail : Nat) (u : Supply) : Supply :=
  if rail = 0 then { u with preOk := false } else if rail = 1 then { u with v18cOk := false } else { u with vdcOk := false }

/-- POWER_ON_RESET (R139, R140): not in OFF; the FATAL latch stays. -/
def execPowerOnReset (rail : Nat) (s : State) : Res :=
  .next (if s.sys.state = .off ∨ 3 ≤ rail then s else powerOn { s with sup := supplyFalls rail s.sup })

/-- POWER_ON_RESET_RELEASE (R139): PRE, V18C and VDC are above their rising thresholds; the charger of HOLD starts. -/
def execPowerOnResetRelease (s : State) : Res :=
  .next (if s.sup.por && s.sup.buck && decide (s.sys.state = .reset) then
      { s with
        sup := { s.sup with por := false, preOk := true, v18cOk := true, vdcOk := true, charger := !s.sup.pf }
        start := { s.start with resetHold := .none } }
    else s)

/-- A slot without supply: only its inputs' levels stay. -/
def unpoweredSlot (x : Slot) : Slot := { det := x.det, wpTab := x.wpTab }

/-- PRE_COLLAPSE (R28): everything but flash, OTP and the FATAL latch's domain is lost. -/
def collapse (s : State) : State :=
  let s := powerOn { s with sup := { s.sup with preOk := false, v18cOk := false, vdcOk := false, buck := false } }
  let s := [0, 1, 2, 3].foldl (fun s k => modSlot k unpoweredSlot s) s
  { s with
    sys := { s.sys with state := .off, alarm := false, alarmReq := ⟨false, false⟩ }
    sup := { s.sup with pf := false, holdPath := false, charger := false, pfrDone := false } }

/-- PRE_COLLAPSE. -/
def execPreCollapse (s : State) : Res := .next (if s.sys.state = .off then s else collapse s)

/-- FATAL_LATCH_CLEAR (R160): PRE has stayed below 1.0 V for 50 ms. -/
def execFatalLatchClear (s : State) : Res := .next (if s.sys.state = .off then { s with fatal := {} } else s)

/-! ### The PLL (R79 to R81, R99 to R104) -/

/-- PLL_LOCK: the tick counter counts from here on. -/
def execPllLock (s : State) : Res :=
  .next (if s.sys.state = .reset ∧ s.sup.por = false ∧ s.sys.pllLocked = false then
      { s with sys := { s.sys with pllLocked := true, refOk := true, tickRunning := true } }
    else s)

/-- PLL_LOCK_RETRY: the attempt starts afresh; the hub stays in RESET. -/
def execPllLockRetry (s : State) : Res := .next s

/-- PLL_SLIP (R99, R104). -/
def execPllSlip (s : State) : Res :=
  .next (if s.sys.pllLocked && decide (s.sys.state ≠ .off) && decide (s.sys.state ≠ .fatal) then
      raise .sys 0 { s with sys := { s.sys with slips := min 15 (s.sys.slips + 1) } }
    else s)

/-- PLL_UNLOCK (R100): `refLost` the reference's edges are absent (SYS_CLK.REF_OK). -/
def execPllUnlock (refLost : Bool) (s : State) : Res :=
  .next (if s.sys.pllLocked && decide (s.sys.state ≠ .off) && decide (s.sys.state ≠ .fatal) then
      raise .sys 1 { s with sys := { s.sys with pllLocked := false, refOk := !refLost } }
    else s)

/-! ### VIO and RESET_N (R115, R129, R134, R202, R234) -/

/-- VIO_LOSS: host, control and test-access inputs are ignored. -/
def execVioLoss (s : State) : Res := .next { s with pins := { s.pins with vioOk := false } }

/-- VIO_RESTORE. -/
def execVioRestore (s : State) : Res := .next { s with pins := { s.pins with vioOk := true } }

/-- RESET_N_ASSERT (R115): not in OFF or FATAL, and a power-on reset governs (R235). -/
def execResetNAssert (s : State) : Res :=
  .next (if s.sys.state = .off ∨ s.sys.state = .fatal ∨ s.sup.por = true ∨ s.pins.vioOk = false then s else fullReset s)

end Machine
end Sys2Proof
end

