-- ==== Sys2Proof/Machine/Start.lean ====
section
/-!
DEFINITION. The start stages (07): RESET exit, BOOT, RIGGING, the entry to RUN, and RECOVERY entry.
-/
namespace Sys2Proof
namespace Machine

/-! ### RESET exit (R122, R123, R161, R216, R225) -/

/-- The conditions of R216. -/
def resetDone (s : State) : Bool :=
  decide (s.sys.state = .reset) && decide (s.start.resetHold = .none) && !s.sup.por && s.sys.pllLocked &&
    !s.start.tmodeStuck

/-- Both ports answer frames from here on, with nothing owed (R272). -/
def portsAnswer (s : State) : State :=
  { s with ports := { a := { s.ports.a with answering := true, owed := {} }
                      b := { s.ports.b with answering := true, owed := {} } } }

/-- What SYS_CAUSE, SYS_START.COLD and SYS_UPMS show from RESET exit. -/
def exitWords (s : State) : State :=
  { s with start := { s.start with
      cause := s.start.nextCause, block := s.start.nextBlock, cold := decide (s.start.nextCause = 0), recovReq := false,
      upms := 0x3FF, exitTick := s.sys.tick } }

/-- The local slots off, with nothing but their inputs' levels. -/
def slotsOff (s : State) : State := [0, 1, 2, 3].foldl (fun s k => modSlot k unpoweredSlot s) s

/-- FATAL is entered from RESET with the latch set (R161): the counter stops, the rails stay as they are, alarm requests end
(R331) and HPA holds the priority (R307). -/
def exitToFatal (s : State) : State :=
  queueStart (portsAnswer (exitWords { s with
    sys := { s.sys with
      state := .fatal, tickRunning := false, alarmReq := ⟨false, false⟩, alarm := false, prio := .a, tied := false }
    pins := { s.pins with alm := false }
    rls := { s.rls with frozen := true } }))

/-- BOOT is entered: idle symbols on every tether, the source's tests, the boot list, the ALM filter, the recorder. -/
def exitToBoot (recov : Bool) (s : State) : State :=
  let s := { s with
    sys := { s.sys with state := .boot, alarmReq := ⟨false, false⟩, alarm := false, prio := .a, tied := false }
    pins := { s.pins with recov := recov, tmode := false, alm := false }
    tth := { tethers := Vector.replicate 4 { transmit := true } }
    rnd := { s.rnd with testing := true } }
  recResume (putList bootList true (slotsOff (portsAnswer (exitWords s))))

/-- RESET_EXIT: the straps as sampled at this tick. -/
def execResetExit (recov tmode : Bool) (s : State) : Res :=
  if !resetDone s then .next s
  else if s.fatal.latch then .next (exitToFatal s)
  else if tmode then
    if s.rnd.otp.testClosed then
      .next { s with
        pins := { s.pins with recov := recov, tmode := true }
        start := { s.start with tmodeStuck := true } }
    else .fault .factoryTest
  else .next (exitToBoot recov s)

/-! ### BOOT (R65, R157, R218, R219, R230, R231, R752, R846, R867) -/

/-- RECOVERY is entered: the ROM runs alone, L0 is an SD slot. -/
def enterRecovery (req : Bool) (s : State) : State :=
  let s := { s with
    sys := { s.sys with state := .recovery, trial := false, fwMaj := 0, fwMin := 0, fwBld := 0, ringMin := 0, ringMax := 0 }
    start := { s.start with fw := false, fwBank := 0, streak := 0, recovReq := req }
    upd := { s.upd with hold := false, wrote := false, flowRan := false } }
  modSlot 0 (fun x => { x with
    cfg := { kind := .sd, trip := 250 }, tripInForce := 250, st := if x.det then .present else .empty }) s

/-- The boot count is advanced and committed, but for one at its end (R219, R820). -/
def bootCountUp (bad : Nat) (s : State) : State :=
  let n := storedBoot s
  if n = 0xFFFFFF then { s with sys := { s.sys with bootCount := n }, rnd := { s.rnd with nboot := n, ncount := 0 } }
  else
    let s := commitBoot (n + 1) bad s
    { s with sys := { s.sys with bootCount := n + 1 }, rnd := { s.rnd with nboot := n + 1, ncount := 0 } }

/-- The banks are chosen; RIGGING, or RECOVERY (R231). -/
def bootChoice (bad : Nat) (s : State) : State :=
  if s.pins.recov then enterRecovery true s
  else if 8 ≤ s.start.streak then enterRecovery false s
  else
    match bootBank s with
    | (s, none) => enterRecovery false s
    | (s, some (n, trial)) =>
      let (s, ok) := bootRig (runFirmware n trial s)
      if !ok then enterRecovery false s
      else
        let s := bootCountUp bad s
        queueStart { s with sys := { s.sys with state := .rigging } }

/-- Every OTP word is checked against its check bytes (R828): the items that fail from now on, beside those that did. -/
def checkOtp (bad : List Nat) (s : State) : State :=
  let o := s.rnd.otp
  let s := { s with rnd := { s.rnd with otp := { o with failed := bad.filter (fun i => !o.failed.contains i) ++ o.failed } } }
  if s.rnd.otp.failed = [] then s else raise .rnd 3 s

/-- The work of BOOT: OTP check, ripcord test, log scan, choice. -/
def boot (ripcordOk : Bool) (bad : Nat) (otpBad : List Nat) (s : State) : State :=
  let s := checkOtp otpBad s
  let s := if ripcordOk then s else raise .sys 6 s
  if s.sys.state = .fatal then s else bootChoice bad (logScan s)

/-- BOOT can end: not while a power-fail record is written (R965), nor, on the way to RIGGING, while a power failure is
declared (R219). DESIGN CHOICE (log entry 63): only RECOV high and STREAK 8 tell before the work of BOOT that it leads to
RECOVERY; a BOOT that will enter RECOVERY for want of a valid bank waits for the release as well. -/
def bootEnds (s : State) : Bool :=
  decide (s.sys.state = .boot) && !s.sup.pfrBusy && (!s.sup.pf || s.pins.recov || decide (8 ≤ s.start.streak))

/-- BOOT_COMPLETE: `ripcordOk` the outcome of the ripcord's test, `bad` the journal entries that failed, `otpBad` the OTP
items whose words fail their check: 0 and 1 the key slots, 2 the version floor, 3 to 5 the three bits. -/
def execBootComplete (ripcordOk : Bool) (bad : Nat) (otpBad : List Nat) (s : State) : Res :=
  .next (if bootEnds s then boot ripcordOk bad otpBad s else s)

/-! ### RIGGING (R61, R67, R119, R182, R215) -/

/-- A reaction word of the rig, or the default that stands. -/
def frxWord (g : Rig) (blk i : Nat) (d : Word) : Word := (tblGet none g.react (8 * blk + i)).getD d

/-- Every reaction word is loaded from its REACT record or keeps its default (R61). -/
def loadReactions (s : State) : State :=
  let g := s.rig.running
  allBlks.foldl (fun s b =>
    let f := bankGet s.fb b
    let n := blkNumber b
    setBank b { f with frx0 := frxWord g n 0 f.frx0, frx1 := frxWord g n 1 f.frx1, frx2 := frxWord g n 2 f.frx2 } s) s

/-- The local slots take the rig's configuration and read EMPTY, PRESENT or DISABLED. -/
def rigSlots (s : State) : State :=
  let s := localSlots s
  [0, 1, 2, 3].foldl (fun s k =>
    let ch := chOff s k
    modSlot k (fun x => { x with st := idleState x, tripInForce := x.cfg.trip, ch := ch }) s) s

/-- The work of RIGGING. -/
def rigging (s : State) : State :=
  let s := loadReactions (loadSettings s)
  let s := { s with
    sup := { s.sup with vPf := s.rig.running.site.vPf }
    start := { s.start with rig := true }
    mea := { s.mea with sweepMs := s.rig.running.sweepMs }
    rig := { s.rig with locked := true } }
  let s := rigSlots (rigClaims (declareRails (loadRules s)))
  followBattery (putList (workingList s.rig.running) false s)

/-- RIGGING_COMPLETE: the rig is in force, and RISING is entered. -/
def execRiggingComplete (s : State) : Res := .next (if s.sys.state = .rigging then enterRising (rigging s) else s)

/-! ### RUN (R220, R221, R230, R320, R820, R848) -/

/-- SYS_UPMS. -/
def upms (s : State) : Nat := min 0x3FE ((s.sys.tick - s.start.exitTick) / 800000)

/-- RUN is entered. -/
def enterRun (s : State) : State :=
  let s := { s with
    sys := { s.sys with state := .run }
    start := { s.start with enumDone := true, upms := upms s, streak := 0 }
    upd := { s.upd with trialStart := if s.sys.trial then some s.sys.tick else none } }
  let s := queueStart (startHeartbeats s)
  let s := if s.sys.alarm then alarmLedger true s else s
  let s := if bootEnd s then raise .rnd 2 s else s
  sweepStart (journalTidy s)

/-- ENUMERATE_COMPLETE: every declared tether is walked, or 250 ms have passed (R220, R239). -/
def execEnumerateComplete (s : State) : Res := .next (if s.sys.state = .enumerate then enterRun s else s)

end Machine
end Sys2Proof
end

