-- ==== Sys2Proof/Machine/RegMap.lean ====
section
/-!
DEFINITION. The register space (09): the access code of every address, the groups, the fault words, and who may read or
write what in each hub state.
-/
namespace Sys2Proof
namespace Machine

/-- Access codes (Table - Register access codes), with reserved addresses (R294), reaction words locked by the rig (R61,
R296) and the factory test range (R295). -/
inductive Acc where
  | reserved | ro | rc | rw | w1c | wo | wk | frx | test
  deriving DecidableEq, Repr

/-- Runs of addresses with their access code, by block: first, last, code. -/
abbrev AccRows := List (Nat × Nat × Acc)

/-- IDN and SYS (09, 21, 03, 04, 05, 07). -/
def accIdnSys : AccRows := [
  (0x000, 0x008, .ro), (0x010, 0x017, .ro), (0x018, 0x01A, .ro), (0x040, 0x040, .ro), (0x041, 0x041, .rw),
  (0x042, 0x042, .ro), (0x043, 0x043, .wk), (0x044, 0x045, .ro), (0x050, 0x050, .ro), (0x051, 0x051, .wo),
  (0x052, 0x054, .frx), (0x060, 0x06F, .ro)]

/-- HST and MOR (08, 10). -/
def accHstMor : AccRows := [
  (0x080, 0x082, .ro), (0x083, 0x083, .w1c), (0x084, 0x086, .rw), (0x088, 0x088, .wo), (0x089, 0x08B, .ro),
  (0x08D, 0x08D, .rc), (0x08F, 0x08F, .wk), (0x090, 0x094, .ro), (0x0A0, 0x0A0, .ro), (0x0A1, 0x0A1, .wo),
  (0x0A2, 0x0A2, .frx), (0x0C0, 0x0CF, .rw), (0x0D0, 0x0D3, .ro), (0x0D4, 0x0D4, .wo), (0x0E0, 0x0E1, .wo),
  (0x0E2, 0x0E4, .ro), (0x0E8, 0x0E8, .ro), (0x0E9, 0x0EC, .rc), (0x0F0, 0x0F0, .wk), (0x0F8, 0x0F8, .ro),
  (0x0F9, 0x0F9, .wo), (0x0FA, 0x0FA, .frx)]

/-- ORD and PCL (11). -/
def accOrdPcl : AccRows := [
  (0x100, 0x107, .rw), (0x108, 0x108, .wo), (0x110, 0x114, .ro), (0x115, 0x115, .rw), (0x116, 0x117, .ro),
  (0x118, 0x118, .wo), (0x119, 0x11C, .ro), (0x11D, 0x11D, .rc), (0x11E, 0x11E, .ro), (0x120, 0x120, .ro),
  (0x121, 0x121, .wo), (0x122, 0x122, .frx), (0x180, 0x180, .ro), (0x181, 0x181, .wo), (0x182, 0x184, .ro),
  (0x188, 0x189, .rw), (0x18A, 0x18B, .ro), (0x190, 0x190, .ro), (0x191, 0x191, .wo), (0x192, 0x192, .frx),
  (0x1C0, 0x1FF, .rw)]

/-- SLT (14 to 17). -/
def accSlt : AccRows := [
  (0x200, 0x200, .rw), (0x201, 0x207, .ro), (0x208, 0x209, .rc), (0x220, 0x221, .rw), (0x222, 0x22C, .ro),
  (0x22D, 0x22F, .rc), (0x230, 0x230, .ro), (0x240, 0x245, .ro), (0x246, 0x248, .rc), (0x249, 0x24C, .ro),
  (0x260, 0x267, .ro), (0x268, 0x268, .rc), (0x269, 0x269, .ro), (0x278, 0x278, .ro), (0x279, 0x279, .wo),
  (0x27A, 0x27B, .frx)]

/-- TTH and SAT (12, 13). -/
def accTthSat : AccRows := [
  (0x280, 0x287, .ro), (0x288, 0x28A, .rc), (0x28B, 0x28B, .ro), (0x290, 0x297, .ro), (0x298, 0x29A, .rc),
  (0x29B, 0x29B, .ro), (0x2A0, 0x2A7, .ro), (0x2A8, 0x2AA, .rc), (0x2AB, 0x2AB, .ro), (0x2B0, 0x2B7, .ro),
  (0x2B8, 0x2BA, .rc), (0x2BB, 0x2BB, .ro), (0x2C0, 0x2C0, .wo), (0x2C1, 0x2C1, .rw), (0x2C2, 0x2C2, .ro),
  (0x2F0, 0x2F0, .ro), (0x2F1, 0x2F1, .wo), (0x2F2, 0x2F4, .frx), (0x300, 0x300, .rw), (0x301, 0x314, .ro),
  (0x315, 0x316, .wo), (0x317, 0x317, .ro), (0x318, 0x319, .rc), (0x330, 0x331, .ro), (0x332, 0x332, .rw),
  (0x338, 0x338, .ro), (0x339, 0x339, .wo), (0x33A, 0x33B, .frx), (0x340, 0x37F, .ro)]

/-- LDG and RLS (18, 06). -/
def accLdgRls : AccRows := [
  (0x380, 0x380, .ro), (0x381, 0x381, .rw), (0x382, 0x384, .ro), (0x385, 0x388, .rw), (0x389, 0x38D, .ro),
  (0x390, 0x390, .rw), (0x391, 0x39A, .ro), (0x3F0, 0x3F0, .ro), (0x3F1, 0x3F1, .wo), (0x3F2, 0x3F3, .frx),
  (0x400, 0x401, .ro), (0x402, 0x402, .wk), (0x403, 0x403, .ro), (0x404, 0x404, .w1c), (0x408, 0x417, .ro),
  (0x418, 0x41F, .rw), (0x420, 0x427, .ro), (0x430, 0x430, .ro), (0x431, 0x431, .wo), (0x432, 0x434, .frx)]

/-- MEA and LKO (19, 20); 0x4AF is reserved. -/
def accMeaLko : AccRows := [
  (0x480, 0x482, .ro), (0x484, 0x49B, .ro), (0x49C, 0x49C, .rw), (0x49D, 0x49D, .ro), (0x49E, 0x49F, .rc),
  (0x4A0, 0x4AE, .ro), (0x4B0, 0x4B7, .ro), (0x4B8, 0x4B8, .ro), (0x4B9, 0x4B9, .wo), (0x4BA, 0x4BA, .frx),
  (0x4BC, 0x4BD, .rw), (0x4BE, 0x4BE, .rc), (0x4C0, 0x4D6, .ro), (0x500, 0x500, .ro), (0x501, 0x501, .wk),
  (0x502, 0x502, .wo), (0x503, 0x506, .ro), (0x508, 0x50B, .ro), (0x50C, 0x50F, .w1c), (0x510, 0x510, .rw),
  (0x511, 0x516, .ro), (0x517, 0x518, .rc), (0x570, 0x570, .ro), (0x571, 0x571, .wo), (0x572, 0x572, .frx)]

/-- LOG and RND (23, 24). -/
def accLogRnd : AccRows := [
  (0x580, 0x58E, .ro), (0x58F, 0x58F, .rc), (0x590, 0x592, .rw), (0x593, 0x593, .wo), (0x594, 0x594, .rw),
  (0x595, 0x595, .ro), (0x596, 0x596, .rw), (0x597, 0x599, .ro), (0x5A0, 0x5A0, .ro), (0x5A1, 0x5A1, .wo),
  (0x5A2, 0x5A3, .frx), (0x5C0, 0x5FF, .ro), (0x600, 0x601, .ro), (0x602, 0x603, .rc), (0x604, 0x604, .ro),
  (0x608, 0x60D, .ro), (0x610, 0x610, .ro), (0x611, 0x611, .wk), (0x612, 0x612, .wo), (0x613, 0x616, .ro),
  (0x617, 0x617, .rw), (0x618, 0x618, .ro), (0x620, 0x63F, .rw), (0x640, 0x65F, .ro), (0x678, 0x678, .ro),
  (0x679, 0x679, .wo), (0x67A, 0x67B, .frx)]

/-- UPD, RIG and REC (25, 02, 26). -/
def accUpdRec : AccRows := [
  (0x680, 0x681, .ro), (0x682, 0x682, .wo), (0x683, 0x685, .ro), (0x687, 0x687, .wk), (0x688, 0x68B, .ro),
  (0x690, 0x695, .ro), (0x6A0, 0x6A6, .ro), (0x6A8, 0x6AD, .ro), (0x6B8, 0x6B8, .ro), (0x6B9, 0x6B9, .wo),
  (0x6BA, 0x6BB, .frx), (0x6BF, 0x6BF, .wo), (0x6C0, 0x6FF, .rw), (0x700, 0x709, .ro), (0x70A, 0x70A, .wo),
  (0x70B, 0x70B, .rw), (0x710, 0x710, .ro), (0x711, 0x711, .wo), (0x712, 0x712, .frx), (0x740, 0x77F, .rw),
  (0x780, 0x780, .ro), (0x781, 0x782, .rw), (0x783, 0x783, .wo), (0x784, 0x784, .wk), (0x785, 0x785, .ro),
  (0x786, 0x787, .rw), (0x788, 0x78E, .ro), (0x78F, 0x78F, .rc), (0x790, 0x795, .ro), (0x7A0, 0x7A6, .ro),
  (0x7A8, 0x7B3, .ro), (0x7F0, 0x7F0, .ro), (0x7F1, 0x7F1, .wo), (0x7F2, 0x7F3, .frx)]

/-- The rows that hold an address. -/
def accRows (a : Nat) : AccRows :=
  if a < 0x080 then accIdnSys else if a < 0x100 then accHstMor else if a < 0x200 then accOrdPcl
  else if a < 0x280 then accSlt else if a < 0x380 then accTthSat else if a < 0x480 then accLdgRls
  else if a < 0x580 then accMeaLko else if a < 0x680 then accLogRnd else accUpdRec

/-- The access code of an address (R277, R294, R295). -/
def accOf (a : Nat) : Acc :=
  if 0xF00 ≤ a then .test
  else match (accRows a).find? (fun r => decide (r.1 ≤ a) && decide (a ≤ r.2.1)) with
    | some r => r.2.2
    | none => .reserved

/-- Groups: lowest address and number of words (R284, Table - Register index and the chapters' register tables). -/
def groupRows : List (Nat × Nat) := [
  (0x004, 3), (0x010, 8), (0x018, 3), (0x044, 2), (0x060, 6), (0x08A, 2), (0x090, 3), (0x0D0, 4), (0x110, 4), (0x11A, 3),
  (0x220, 2), (0x228, 4), (0x244, 2), (0x261, 4), (0x304, 8), (0x30E, 3), (0x312, 2), (0x385, 2), (0x4C0, 23),
  (0x508, 4), (0x581, 3), (0x584, 3), (0x587, 3), (0x590, 3)] ++ [
  (0x597, 2), (0x608, 3), (0x60B, 3), (0x614, 3), (0x684, 2), (0x690, 3), (0x693, 3), (0x6A1, 3), (0x6A4, 3),
  (0x702, 2), (0x704, 3), (0x788, 6), (0x790, 6), (0x7A1, 6), (0x7A8, 6), (0x7AF, 4)]

/-- The group of an address: lowest address and size. -/
def groupOf (a : Nat) : Option (Nat × Nat) :=
  groupRows.find? (fun g => decide (g.1 ≤ a) && decide (a < g.1 + g.2))

/-- Block number of an address: its block's base address divided by 64 (R277). -/
def blkNoOf (a : Nat) : Nat := if a < 0x100 then a / 64 else a / 128 * 2

/-- The fault word bank that an address belongs to; a banked block by the port. -/
def blkOfAddr (p : Port) (a : Nat) : Option FBlk := blkOfNumber (blkNoOf a) p

/-- Address of a block's FST; FACK follows it, then the FRXn (register tables of the chapters). -/
def fstAddr : FBlk → Nat
  | .sys => 0x050 | .hst _ => 0x0A0 | .mor => 0x0F8 | .ord _ => 0x120 | .pcl => 0x190 | .slt => 0x278 | .tth => 0x2F0
  | .sat => 0x338 | .ldg => 0x3F0 | .rls => 0x430 | .mea => 0x4B8 | .lko => 0x570 | .log => 0x5A0 | .rnd => 0x678
  | .upd => 0x6B8 | .rig => 0x710 | .rcd => 0x7F0

/-- A fault word, acknowledge word or reaction word: its bank and its place from FST on (0 FST, 1 FACK, 2 to 4 FRXn). -/
def faultWordAt (p : Port) (a : Nat) : Option (FBlk × Nat) :=
  match blkOfAddr p a with
  | some b =>
    if a = fstAddr b ∨ a = fstAddr b + 1 ∨ (fstAddr b + 2 ≤ a ∧ a < fstAddr b + 5 ∧ accOf a = .frx) then
      some (b, a - fstAddr b)
    else none
  | none => none

/-! ### Rights of the hub state (R30, Table - Host access by hub state) -/

/-- The port takes frames: it answers since BOOT, and VIO is in its range (R134, R272). -/
def heard (s : State) (p : Port) : Bool :=
  (perPortGet s.ports p).answering && s.pins.vioOk && decide (s.sys.state ≠ .off) && decide (s.sys.state ≠ .reset)

/-- IDN and SYS. -/
def idnSys (a : Nat) : Bool := decide (a < 0x080)

/-- UPD words that RECOVERY has: all but UPD_CONFIRM and UPD_TRIALLEFT. -/
def updInRecovery (a : Nat) : Bool :=
  decide (0x680 ≤ a) && decide (a < 0x700) && decide (a ≠ 0x687) && decide (a ≠ 0x688)

/-- What a frame meets in a hub state: `none`, it is admitted; else BUSY or REFUSED. -/
def hostRights (st : HubState) (write : Bool) (a : Nat) : Option Stat :=
  match st with
  | .run | .standby => none
  | .recovery => if updInRecovery a || (idnSys a && !write) then none else some .busy
  | .replay =>
    if !write || (decide (0x040 ≤ a) && decide (a < 0x080)) || (decide (0x780 ≤ a) && decide (a < 0x800)) then none
    else some .refused
  | .fatal => if idnSys a && !write then none else some .refused
  | _ => if idnSys a && !write then none else some .busy

/-- Blocks whose words show live values in REPLAY (R904). -/
def liveInReplay (a : Nat) : Bool :=
  idnSys a || (decide (0x400 ≤ a) && decide (a < 0x480)) || (decide (0x780 ≤ a) && decide (a < 0x800))

end Machine
end Sys2Proof
end

