-- ==== Sys2Proof/Machine/RegRead.lean ====
section
/-!
DEFINITION. What every word of the register space reads, block by block from the chapters' register tables, without the side
effects of a single-frame read.
-/
namespace Sys2Proof
namespace Machine

/-- A port's words. -/
def portGet (s : State) (p : Port) : HostPort := perPortGet s.ports p

/-- A refusal word: a reason of `n` bits with the port above it. -/
def refuseWord (n reason : Nat) (p : Port) : Nat := reason + 2 ^ n * p.bit

/-- A two's complement number in 10 bits. -/
def signedWord (v : Int) : Word := BitVec.ofInt 10 v

/-- Bits of a list of flags, the first in [0]. -/
def flagBits : List Bool → Nat
  | [] => 0
  | b :: l => bit b + 2 * flagBits l

/-- A port in two bits: 0 none, 1 HPA, 2 HPB. -/
def portCode : Option Port → Nat
  | none => 0
  | some .a => 1
  | some .b => 2

/-! ### IDN, SYS (09, 03, 04, 05, 07, 21) -/

/-- IDN. -/
def readIdn (s : State) (a : Nat) : Word :=
  if a = 0x000 then 0x3F4 else if a = 0x001 then 0x2A7 else if a = 0x002 ∨ a = 0x003 then 0x001
  else if a = 0x004 then toWord s.sys.fwBld else if a = 0x005 then toWord s.sys.fwMin
  else if a = 0x006 then toWord s.sys.fwMaj else if a = 0x007 then toWord s.sys.ringMin
  else if a = 0x008 then toWord s.sys.ringMax
  else if a < 0x018 then toWord (Config.hubUid / 256 ^ (a - 0x010) % 256)
  else groupWord s.sys.bootCount (a - 0x018)

/-- SYS_PIN (Table - SYS_PIN fields). -/
def sysPinWord (s : State) : Nat :=
  flagBits [s.pins.almRaw, s.pins.alm, s.pins.recov, s.pins.tmode, hokHigh s, pfwLow s, trapOn s, irqOn s .a, irqOn s .b]

/-- SYS. -/
def readSys (s : State) (p : Port) (a : Nat) : Word :=
  if a = 0x040 then toWord (sysStateWord s)
  else if a = 0x041 then toWord (bit (perPortGet s.sys.alarmReq p))
  else if a = 0x042 then toWord (flagBits [s.pins.alm, s.sys.alarmReq.a, s.sys.alarmReq.b, s.sys.alarm])
  else if a = 0x044 then s.fatal.fatal0 else if a = 0x045 then s.fatal.fatal1
  else if a < 0x066 then groupWord s.sys.tick (a - 0x060)
  else if a = 0x066 then toWord (flagBits [s.sys.pllLocked, s.sys.refOk] + 4 * s.sys.slips)
  else if a = 0x067 then toWord (sysPinWord s) else if a = 0x068 then toWord (sysPwrWord s)
  else if a = 0x069 then toWord s.sup.holdc else if a = 0x06A then toWord s.sup.holde
  else if a = 0x06B then toWord s.sup.pfcnt else if a = 0x06C then toWord (startWord s)
  else if a = 0x06D then toWord (causeWord s) else if a = 0x06E then toWord s.start.upms
  else toWord (s.start.streak + 16 * s.start.count)

/-! ### HST, MOR (08, 10) -/

/-- Words 0 to 2 of HST_AGAIN: the response carried in the assertion before the present one (R263). -/
def againWords (r : Response) : List Word :=
  let st := match r.stat with
    | .ok => 0 | .crcBad => 1 | .refused => 2 | .busy => 3
  [r.data, toWord r.addr, toWord (r.addr / 1024 + 4 * st)]

/-- HST. -/
def readHst (s : State) (p : Port) (a : Nat) : Word :=
  let h := portGet s p
  if a = 0x080 then toWord p.bit else if a = 0x081 then isrc0 s p else if a = 0x082 then isrc1 s p
  else if a = 0x083 then h.ievt else if a = 0x084 then h.ien0 else if a = 0x085 then h.ien1
  else if a = 0x086 then h.ieven else if a = 0x089 then toWord (hbLeft s p)
  else if a = 0x08A then toWord h.refuseAddr
  else if a = 0x08B then toWord (h.refuseAddr / 1024 + 4 * h.refuseReason + 64 * bit h.refuseBurst)
  else if a = 0x08D then toWord h.crcErr
  else if a < 0x093 then (againWords h.sent).getD (a - 0x090) 0
  else match h.latch with
    | none => 0
    | some l => if a = 0x093 then toWord l.base else toWord (l.base / 1024 + 4)

/-- Moorings that a port holds, from `lo` on, `n` of them. -/
def heldBits (s : State) (p : Port) (lo n : Nat) : Word :=
  toWord (flagBits ((List.range n).map (fun k => decide (mooringOf s (lo + k) = some p))))

/-- MOR_PEER's code of a port. -/
def presenceCode : Presence → Nat
  | .unsupervised => 0
  | .present => 1
  | .absent => 2

/-- MOR. -/
def readMor (s : State) (p : Port) (a : Nat) : Word :=
  if a < 0x0D0 then mooringWord s p (a - 0x0C0)
  else if a = 0x0D0 then heldBits s .a 0 10 else if a = 0x0D1 then heldBits s .a 10 6
  else if a = 0x0D2 then heldBits s .b 0 10 else if a = 0x0D3 then heldBits s .b 10 6
  else if a = 0x0E2 then toWord (refuseWord 3 s.mor.refuseReason s.mor.refusePort)
  else if a = 0x0E3 then toWord (claimCount s .a) else if a = 0x0E4 then toWord (claimCount s .b)
  else if a = 0x0E8 then
    toWord (presenceCode s.ports.a.presence + 4 * presenceCode s.ports.b.presence + 16 * s.sys.prio.bit)
  else if a = 0x0E9 then toWord s.mor.wdrn.a else if a = 0x0EA then toWord s.mor.wdrn.b
  else if a = 0x0EB then toWord s.mor.disc.a else toWord s.mor.disc.b

/-! ### ORD, PCL (11) -/

/-- A return's four words (Table - Return). -/
def retWords (r : Ret) : List Word :=
  [toWord r.tag, toWord (r.code + 256 * bit r.seen + 512 * bit r.dup), toWord r.length, toWord r.slot]

/-- ORD. -/
def readOrd (s : State) (p : Port) (a : Nat) : Word :=
  let b := perPortGet s.ord.banks p
  if a < 0x108 then b.desc.getD (a - 0x100) 0
  else if a < 0x114 then
    match b.ring with
    | [] => 0
    | r :: _ => (retWords r).getD (a - 0x110) 0
  else if a = 0x114 then toWord ((b.rtail + b.ring.length) % 128) else if a = 0x115 then toWord b.rtail
  else if a = 0x116 then toWord b.ring.length else if a = 0x117 then toWord (placesUsed s p)
  else if a = 0x119 then toWord b.cancst
  else if a = 0x11A then groupWord b.ovlLen 0 else if a = 0x11B then groupWord b.ovlLen 1
  else if a = 0x11C then toWord b.ovlTag else if a = 0x11D then toWord b.dupcnt else toWord b.refuse

/-- Parcels that a port owns; `none`: owned by either. -/
def parcelsOwned (s : State) (p : Option Port) : Nat :=
  (s.ord.parcels.filter (fun e => match p with
    | none => e.2.owner.isSome
    | some q => decide (e.2.owner = some q))).length

/-- PCL. A read of PCL_ALLOC that allocates nothing returns 0x3FF (R360). -/
def readPcl (s : State) (p : Port) (a : Nat) : Word :=
  let h := portGet s p
  let q := parcelGet s h.pclSel
  if a = 0x180 then 0x3FF
  else if a = 0x182 then toWord (512 - parcelsOwned s none) else if a = 0x183 then toWord (parcelsOwned s (some p))
  else if a = 0x184 then toWord (refuseWord 2 s.ord.pclRefuse s.ord.pclRefusePort)
  else if a = 0x188 then toWord h.pclSel else if a = 0x189 then toWord h.pclPage
  else if a = 0x18A then toWord q.fill
  else if a = 0x18B then toWord (portCode q.owner + 4 * bit q.last + 8 * bit (parcelNamed s h.pclSel))
  else parcelWord q (64 * h.pclPage + (a - 0x1C0))

/-! ### SLT (14 to 17) -/

/-- A satellite slot's VCC (`k` 0) or current (`k` 1) in the latest published sweep. -/
def sweptSlot (s : State) (id k : Nat) : Word :=
  match tblGet none s.mea.latest.rows (slotPos id) with
  | none => 0x3FF
  | some l => l.getD (7 + 4 * k + id % 4) 0x3FF

/-- SLT_STATE (Table - SLT_STATE fields). -/
def sltStateWord (s : State) (id : Nat) : Nat :=
  let det := if isLocal id then (slotGet s id).det else (slotViewGet s id).det
  slotCode (slotStateAt s id) + 16 * portCode (claimOf s id) + 64 * bit det + 128 * bit (wpAt s id) +
    256 * bit (decide ((ldgGet s id).res ≠ 0))

/-- SLT_CFG (Table - SLT_CFG fields). -/
def sltCfgWord (s : State) (id : Nat) : Nat :=
  let r := rigSlot s id
  kindCode r.kind + 4 * r.classes + 32 * r.order + 64 * r.wp + 128 * r.prio

/-- The power words 0x201 to 0x209 of a declared slot. -/
def sltPower (s : State) (id a : Nat) : Word :=
  let x := slotGet s id
  let v := slotViewGet s id
  let l := isLocal id
  if a = 0x201 then toWord (sltStateWord s id) else if a = 0x202 then toWord (sltCfgWord s id)
  else if a = 0x203 then
    toWord (if l then x.cls + 4 * x.tried + 32 * x.atrClasses + 256 * bit x.indicated
      else v.cls + 4 * v.tried + 32 * v.atrClasses + 256 * bit v.indicated)
  else if a = 0x204 then toWord (if l then x.tripInForce else v.trip)
  else if a = 0x205 then (if l then toWord x.vcc else sweptSlot s id 0)
  else if a = 0x206 then (if l then toWord x.icc else sweptSlot s id 1)
  else if a = 0x207 then
    toWord (if l then x.cause + 16 * bit x.emergency + 32 * bit x.second else v.cause + 16 * bit v.emergency)
  else if a = 0x208 then toWord (if l then x.trips else v.trips)
  else toWord (if l then x.removals else v.removals)

/-- SLT_PROT (Table - SLT_PROT fields). -/
def protWord (c : Chars) : Nat :=
  bit c.offerT0 + 2 * bit c.offerT1 + 4 * c.inForce + 16 * bit c.specific + 32 * bit c.ppsOpen + 64 * c.xi +
    256 * bit c.stopped

/-- The character words 0x220 to 0x230; the counts of a satellite slot read 0x000, and its divider is that of the ACTIVATION
record (R519). -/
def sltChars (s : State) (id a : Nat) : Word :=
  let c := chAt s id
  let div := if isLocal id then c.div else s.rig.running.activation.div
  if a = 0x220 then groupWord div 0 else if a = 0x221 then groupWord div 1
  else if a = 0x222 then toWord (c.fi + 16 * c.di + 256 * bit c.inverse)
  else if a = 0x223 then toWord (c.ta1 + 256 * bit c.ta1Present)
  else if a = 0x224 then toWord (protWord c) else if a = 0x225 then toWord c.guard
  else if a = 0x226 then toWord c.wi else if a = 0x227 then toWord c.cwi
  else if a < 0x22C then groupWord c.etu (a - 0x228)
  else if a = 0x22C then toWord c.atrLen
  else if !isLocal id then (if a = 0x230 then toWord c.chLast else 0)
  else if a = 0x22D then toWord c.parErr else if a = 0x22E then toWord c.framErr
  else if a = 0x22F then toWord c.repeats else toWord c.chLast

/-- The transport words 0x240 to 0x24C; a satellite slot shows IFSC, BWI and BWT only. -/
def sltTrans (s : State) (id a : Nat) : Word :=
  if isLocal id then
    let t := (slotGet s id).tr
    if a = 0x240 then toWord (flagBits [t.nsHub, t.nsCard, t.ifsDone, t.dirty, t.crc, t.ifscSub, t.bwiSub])
    else if a = 0x241 then toWord t.ifsc else if a = 0x242 then toWord t.ifsd else if a = 0x243 then toWord t.bwi
    else if a = 0x244 then groupWord t.bwt 0 else if a = 0x245 then groupWord t.bwt 1
    else if a = 0x246 then toWord t.retries else if a = 0x247 then toWord t.resynchs
    else if a = 0x248 then toWord t.wtxs else if a = 0x249 then toWord t.blast
    else if a = 0x24A then toWord (t.t0last + 256 * bit t.t0resent) else if a = 0x24B then toWord t.t0sw2
    else toWord t.apdu
  else
    let v := slotViewGet s id
    if a = 0x241 then toWord v.ifsc else if a = 0x243 then toWord v.bwi
    else if a = 0x244 then groupWord v.bwt 0 else if a = 0x245 then groupWord v.bwt 1 else 0

/-- The memory card words 0x260 to 0x269; 0x000 for a satellite slot. -/
def sltSd (s : State) (id a : Nat) : Word :=
  let d := (slotGet s id).sd
  if !isLocal id then 0
  else if a = 0x260 then toWord (d.type + 4 * bit d.v2 + 8 * bit d.csdWp + 16 * bit d.run + 32 * bit d.runWrite)
  else if a < 0x265 then groupWord d.cap (a - 0x261)
  else if a = 0x265 then toWord d.last else if a = 0x266 then toWord d.r1 else if a = 0x267 then toWord d.r2
  else if a = 0x268 then toWord d.crc else toWord d.busyMs

/-- SLT: the selector, and the window of the slot it names (R279, R280, R505). -/
def readSlt (s : State) (p : Port) (a : Nat) : Word :=
  let id := (portGet s p).sltSel
  if a = 0x200 then toWord id
  else if !declaredSlot s id then (if a = 0x201 then 0x200 else if a = 0x205 ∨ a = 0x206 then 0x3FF else 0)
  else if a < 0x220 then sltPower s id a else if a < 0x240 then sltChars s id a
  else if a < 0x260 then sltTrans s id a else sltSd s id a

/-! ### TTH, SAT (12, 13) -/

/-- TTH_STATn (Table - TTH_STATn fields). -/
def tthStatWord (s : State) (t : Nat) : Nat :=
  let x := tetherGet s t
  x.mode + 4 * bit x.double + 8 * bit ((assignedOn s t).any (fun p => (viewGet s p).prov)) + 16 * bit (healHeld s t) +
    32 * bit (bothReady x)

/-- The words of one tether. -/
def readTether (s : State) (t k : Nat) : Word :=
  let x := tetherGet s t
  if k = 0 then toWord (tthStatWord s t) else if k = 1 then toWord (brkWord x.brkA x.brkAPairs)
  else if k = 2 then toWord (brkWord x.brkB x.brkBPairs) else if k = 3 then toWord (assignedOn s t).length
  else if k = 4 then toWord x.parked.length else if k = 5 then toWord x.loopF else if k = 6 then toWord x.loopK
  else if k = 7 then signedWord x.skew else if k = 8 then toWord x.badF else if k = 9 then toWord x.retry
  else if k = 10 then toWord x.stale else toWord x.wraps

/-- TTH. -/
def readTth (s : State) (a : Nat) : Word :=
  if a < 0x2C0 then readTether s ((a - 0x280) / 16) (a % 16)
  else if a = 0x2C1 then toWord s.tth.hold else toWord (refuseWord 2 s.tth.refuseReason s.tth.refusePort)

/-- The position that a SAT window shows, where it is declared (R468). -/
def satWindow (s : State) (p : Port) : Option Nat :=
  let pos := slotPos (portGet s p).satSel
  if posNo pos ≠ 0 ∧ (rigSat s pos).isSome then some pos else none

/-- The SAT window's words of a declared position. -/
def readSatView (s : State) (pos a : Nat) : Word :=
  let v := viewGet s pos
  if a = 0x301 then toWord (satStateWord s pos) else if a = 0x302 then toWord v.hop
  else if a = 0x303 then toWord (bit (decide (v.path = .retEnd)))
  else if a < 0x30C then toWord (v.uid / 256 ^ (a - 0x304) % 256)
  else if a = 0x30C then toWord v.hwver else if a = 0x30D then toWord v.ringver
  else if a = 0x30E then toWord v.fwB else if a = 0x30F then toWord v.fwN else if a = 0x310 then toWord v.fwM
  else if a = 0x311 then toWord v.part
  else if a = 0x312 then groupWord v.delay 0 else if a = 0x313 then groupWord v.delay 1
  else if a = 0x314 then v.zfst
  else if a = 0x317 then toWord (v.cmdSt + 4 * v.cackCode)
  else if a = 0x318 then toWord v.restarts else toWord v.resends

/-- SAT. -/
def readSat (s : State) (p : Port) (a : Nat) : Word :=
  let h := portGet s p
  if a = 0x300 then toWord h.satSel
  else if a < 0x330 then
    match satWindow s p with
    | some pos => readSatView s pos a
    | none => if a = 0x301 then 0x00F else if a = 0x312 ∨ a = 0x313 then 0x3FF else 0
  else if a = 0x330 then toWord (flagBits [s.sat.trValid, s.sat.trFetching])
  else if a = 0x331 then toWord s.sat.trSlot else if a = 0x332 then toWord h.trPage
  else
    toWord ((tblGet 0 s.sat.trBytes (64 * h.trPage + (a - 0x340))).toNat + 256 * bit s.sat.trValid)

/-! ### LDG, RLS (18, 06) -/

/-- A measurement in a unit of `u`, rounded up; 0x3FE where it does not fit (R635, R16). -/
def unitWord (v u : Nat) : Word := toWord (min 0x3FE (ceilDiv v u))

/-- Some order waits at stage 10 for the slot. -/
def waitsAt (s : State) (id : Nat) : Bool :=
  s.ord.orders.any (fun o => decide (o.stage = .waiting) && (orderSlots o).contains id)

/-- The LDG window 0x391 to 0x39A of a declared slot. -/
def readLdgSlot (s : State) (id a : Nat) : Word :=
  let l := ldgGet s id
  let pos := slotPos id
  let t := posTether pos
  if a = 0x391 then unitWord (effCost s id) 1
  else if a = 0x392 then (if l.readings = [] then 0x3FF else unitWord (measured l) 1)
  else if a = 0x393 then unitWord l.res 1
  else if a = 0x394 then
    toWord (flagBits [decide (l.res ≠ 0), l.shed, waitsAt s id, l.activating] + 16 * (rigSlot s id).prio)
  else if isLocal id then 0x3FF
  else if a = 0x395 then unitWord (satLoad s pos) 10
  else if a = 0x396 then toWord (satLimit s pos / 10)
  else if a = 0x397 then
    toWord (satActs s pos + 8 * bit (ballastOk s pos) + 16 * bit (decide ((viewGet s pos).hold ≠ 0x3FF)))
  else if a = 0x398 then unitWord (tetherLoad s t) 100 else if a = 0x399 then toWord (tetherLimit s t / 100)
  else toWord (tetherActs s t)

/-- LDG. -/
def readLdg (s : State) (p : Port) (a : Nat) : Word :=
  let sel := (portGet s p).ldgSel
  if a = 0x380 then toWord (ldgStat s) else if a = 0x381 then toWord (bit s.ldg.battery)
  else if a = 0x382 then toWord (globalLift s) else if a = 0x383 then toWord (ldgLoadWord s)
  else if a = 0x384 then toWord (s.ord.orders.filter (fun o => decide (o.stage = .waiting))).length
  else if a = 0x385 then groupWord s.ldg.battRem 0 else if a = 0x386 then groupWord s.ldg.battRem 1
  else if a = 0x387 then toWord s.ldg.xstby else if a = 0x388 then toWord s.ldg.xalm
  else if a = 0x389 then toWord s.ldg.fcast else if a = 0x38A then signedWord s.ldg.margin
  else if a = 0x38B then toWord (min 0x3FF (battTicks s * 10 / hourTicks))
  else if a = 0x38C then toWord (shedCount s)
  else if a = 0x38D then toWord (refuseWord 2 s.ldg.refuseReason s.ldg.refusePort)
  else if a = 0x390 then toWord sel
  else if declaredSlot s sel then readLdgSlot s sel a else 0x3FF

/-- RLS. -/
def readRls (s : State) (a : Nat) : Word :=
  if a = 0x400 then toWord (rlsStatWord s) else if a = 0x401 then toWord (rlsLockWord s)
  else if a = 0x403 then toWord (refuseWord 3 s.rls.refuseReason s.rls.refusePort)
  else if a = 0x404 then s.rls.mrglim.setWidth 10
  else if a < 0x410 then toWord (rlsRailWord s (a - 0x408))
  else if a < 0x418 then toWord (railGet s (a - 0x410)).sns
  else if a < 0x420 then
    toWord ((railGet s (a - 0x418)).trimMag + 256 * bit (railGet s (a - 0x418)).trimSink)
  else toWord (railGet s (a - 0x420)).rise

/-! ### MEA, LKO (19, 20) -/

/-- MEA. -/
def readMea (s : State) (p : Port) (a : Nat) : Word :=
  let h := portGet s p
  let m := s.mea
  let c := chanGet s h.meaChsel
  if a = 0x480 then toWord (flagBits [m.bootList, m.running, m.open_, m.published])
  else if a = 0x481 then (if m.running then toWord m.list.length else 0x3FF)
  else if a = 0x482 then toWord m.sweepMs
  else if a < 0x49C then toWord (m.list.getD (a - 0x484) 0x3FF)
  else if a = 0x49C then toWord h.meaChsel else if a = 0x49D then toWord (chanAvg c)
  else if a = 0x49E then toWord c.hi else if a = 0x49F then toWord c.lo
  else if a < 0x4B8 then toWord (chanGet s (a - 0x4A0)).last
  else if a = 0x4BC then toWord h.swpSel else if a = 0x4BD then toWord (bit (perPortGet m.pins p).isSome)
  else if a = 0x4BE then toWord m.drop
  else windowWord s p (a - 0x4C0)

/-- A flag of ten rules in a word: rules 10k to 10k + 9. -/
def ruleFlags (s : State) (f : LkoRule → Bool) (k : Nat) : Word :=
  toWord (flagBits ((List.range 10).map (fun j => decide (10 * k + j < 32) && f (ruleGet s (10 * k + j)))))

/-- LKO. -/
def readLko (s : State) (p : Port) (a : Nat) : Word :=
  let sel := (portGet s p).lkoSel
  let r := ruleGet s sel
  if a = 0x500 then toWord (flagBits [s.lko.standby, s.lko.evaluating, s.rig.running.site.lkoAck, s.lko.pfw])
  else if a = 0x503 then toWord s.lko.wakeSrc
  else if a = 0x504 then
    match s.lko.wakeRule with
    | none => 0
    | some n => toWord (n + 32)
  else if a = 0x505 then toWord (refuseWord 3 s.lko.refuseReason s.lko.refusePort)
  else if a = 0x506 then toWord s.lko.sbyCnt
  else if a < 0x50C then ruleFlags s (fun r => r.active) (a - 0x508)
  else if a < 0x510 then ruleFlags s (fun r => r.hit) (a - 0x50C)
  else if a = 0x510 then toWord sel
  else if a < 0x515 then r.words.getD (a - 0x511) 0
  else if a = 0x515 then toWord r.value else if a = 0x516 then toWord r.count
  else if a = 0x517 then toWord r.fires else toWord s.lko.logSkip

/-! ### LOG, RND (23, 24) -/

/-- LOG_STAT (Table - LOG_STAT fields). -/
def logStatWord (s : State) (p : Port) : Nat :=
  let f := perPortGet s.log.fetch p
  flagBits [ramOnly s, s.log.frozen, decide (s.sup.reserve = 2), f.busy] + 16 * f.result +
    64 * bit (logErasing s || reserveErasing s) + 128 * bit (latestSnap s).isSome

/-- Sectors of the flash with a status. -/
def sectorsWith (s : State) (st : Nat) : Nat := (s.log.sectors.filter (fun e => decide (e.2.status = st))).length

/-- LOG. -/
def readLog (s : State) (p : Port) (a : Nat) : Word :=
  let h := portGet s p
  let f := perPortGet s.log.fetch p
  if a = 0x580 then toWord (logStatWord s p)
  else if a < 0x584 then groupWord s.log.next (a - 0x581) else if a < 0x587 then groupWord (logOldest s) (a - 0x584)
  else if a < 0x58A then groupWord (((latestSnap s).map (fun x => x.seq)).getD 0) (a - 0x587)
  else if a = 0x58A then toWord (logGood s) else if a = 0x58B then toWord (spareLeft s)
  else if a = 0x58C then toWord (sectorsWith s 1) else if a = 0x58D then toWord (sectorsWith s 2)
  else if a = 0x58E then toWord s.log.queue.length else if a = 0x58F then toWord s.log.dropped
  else if a < 0x593 then groupWord h.logSeqSel (a - 0x590)
  else if a = 0x594 then toWord h.logPage else if a = 0x595 then toWord f.len
  else if a = 0x596 then toWord h.logSecSel
  else if a < 0x599 then groupWord (sectorGet s h.logSecSel).erases (a - 0x597)
  else if a = 0x599 then toWord (sectorGet s h.logSecSel).status
  else match f.bytes[64 * h.logPage + (a - 0x5C0)]? with
    | some b => toWord (b.toNat + 256)
    | none => 0

/-- RND_OTPSTAT. -/
def otpStatWord (o : Otp) : Nat :=
  flagBits [decide (o.hash0 ≠ 0), o.revoked0 || o.failed.contains 0, decide (o.hash1 ≠ 0),
    o.revoked1 || o.failed.contains 1, o.rigSigReq, o.debugOpen, o.testClosed]

/-- RND. -/
def readRnd (s : State) (p : Port) (a : Nat) : Word :=
  let sel := (portGet s p).rndKsel
  let r := s.rnd
  if a = 0x600 then toWord (flagBits [r.ready, r.testing, bootEnd s, r.rolling, r.otpBusy])
  else if a = 0x601 then 0
  else if a = 0x602 then toWord r.under else if a = 0x603 then toWord r.fails else if a = 0x604 then toWord r.pool.length
  else if a < 0x60B then groupWord r.nboot (a - 0x608) else if a < 0x60E then groupWord (r.ncount % 2 ^ 24) (a - 0x60B)
  else if a = 0x610 then toWord (otpStatWord r.otp)
  else if a = 0x613 then toWord (refuseWord 3 s.rnd.refuseReason s.rnd.refusePort)
  else if a < 0x617 then groupWord (versionFloor r.otp) (a - 0x614)
  else if a = 0x617 then toWord sel else if a = 0x618 then toWord r.sigLast
  else if a < 0x640 then (r.hashWin.getD (a - 0x620) 0).setWidth 10
  else toWord ((if sel = 0 then r.otp.hash0 else r.otp.hash1) / 256 ^ (a - 0x640) % 256)

/-! ### UPD, RIG, REC (25, 02, 26) -/

/-- SET_DEFAULT and FLOOR_FULL. -/
def floorFull (s : State) : Bool := decide (16 ≤ s.rnd.otp.floors.length)

/-- UPD_STAT (Table - UPD_STAT fields). -/
def updStatWord (s : State) : Nat :=
  let own := match s.upd.owner with
    | .none => 0 | .port .a => 1 | .port .b => 2 | .card => 3
  s.upd.phase + 8 * own + 32 * bit (pendingBank s).isSome + 64 * bit (!fwValid s 0 && !fwValid s 1) +
    128 * bit (!rigBankValid s s.rig.bankA && !rigBankValid s s.rig.bankB) +
    256 * bit (decide (s.sys.state = .recovery)) + 512 * bit (s.upd.setDefault || floorFull s)

/-- UPD_BSTATA and UPD_BSTATB (Table - UPD_BSTATA and UPD_BSTATB fields). -/
def bstatWord (s : State) (n : Nat) : Nat :=
  let b := fwBank s n
  bit (fwValid s n) + 2 * bit b.confirmed + 4 * bit b.rejected + 8 * b.trials +
    32 * bit (s.start.fw && decide (s.upd.runBank = n)) + 64 * bit (decide (pendingBank s = some n)) +
    (if n = 0 then 256 * bit s.upd.setDefault + 512 * bit (floorFull s) else 0)

/-- UPD. -/
def readUpd (s : State) (a : Nat) : Word :=
  let u := s.upd
  if a = 0x680 then toWord (updStatWord s)
  else if a = 0x681 then toWord (u.reason + 32 * u.resTarget + 256 * bit (jobRuns s))
  else if a = 0x683 then toWord u.room
  else if a < 0x686 then groupWord u.count (a - 0x684)
  else if a = 0x688 then toWord (trialLeft s)
  else if a = 0x689 then toWord (if s.start.fw then (fwBank s u.runBank).trials else 0)
  else if a < 0x68C then toWord (bstatWord s (a - 0x68A))
  else if a < 0x693 then groupWord (bankVersion u.bankA) (a - 0x690)
  else if a < 0x696 then groupWord (bankVersion u.bankB) (a - 0x693)
  else if a = 0x6A0 then toWord (flagBits [storeValid s 0, storeValid s 1])
  else if a < 0x6A4 then groupWord (imageVersion u.store0.image) (a - 0x6A1)
  else if a < 0x6A7 then groupWord (imageVersion u.store1.image) (a - 0x6A4)
  else if a = 0x6A8 then toWord u.satPos else if a = 0x6A9 then toWord u.satPhase else if a = 0x6AA then toWord u.fsum
  else if a = 0x6AB then toWord s.rnd.otp.floors.length
  else if a = 0x6AC then toWord (refuseWord 5 u.refuse u.refusePort)
  else if a = 0x6AD then toWord (updCompat s)
  else tblGet 0 u.window (a - 0x6C0)

/-- RIG_STAT (Table - RIG_STAT fields). -/
def rigStatWord (s : State) : Nat :=
  let r := s.rig
  bit (decide (r.bank = 1)) + 2 * bit r.migrated + 4 * bit r.locked + 8 * bit r.pending + 16 * bit r.running.signed +
    32 * portCode r.owner

/-- RIG; words 32 to 63 of page 409 lie beyond the staged stream and read 0x000 (R76). -/
def readRig (s : State) (a : Nat) : Word :=
  let r := s.rig
  if a = 0x700 then toWord (rigStatWord s)
  else if a = 0x701 then toWord (r.reason + 64 * r.cmd + 512 * bit r.job.isSome)
  else if a = 0x702 then groupWord r.errPos 0 else if a = 0x703 then groupWord r.errPos 1
  else if a = 0x704 then toWord r.running.verBld else if a = 0x705 then toWord r.running.verMin
  else if a = 0x706 then toWord r.running.verMaj else if a = 0x707 then toWord r.running.schema
  else if a = 0x708 then toWord (schemaRange s).1 else if a = 0x709 then toWord (schemaRange s).2
  else if a = 0x70B then toWord r.page
  else tblGet 0 r.staging (64 * r.page + (a - 0x740))

/-- REC. -/
def readRec (s : State) (p : Port) (a : Nat) : Word :=
  let r := s.rcd
  if a = 0x780 then
    toWord (flagBits [r.recording, r.frozen, r.delaying, r.dumping, r.armed0, r.armed1, r.area0.valid, r.area1.valid,
      r.replaying])
  else if a = 0x781 then toWord r.cfg else if a = 0x782 then toWord r.post
  else if a = 0x785 then toWord (refuseWord 3 r.refuseReason r.refusePort)
  else if a = 0x786 then toWord r.keep else if a = 0x787 then toWord (portGet s p).recDsel
  else if a < 0x78E then groupWord r.ftick (a - 0x788)
  else if a = 0x78E then toWord r.fcause else if a = 0x78F then toWord r.missed
  else if a < 0x796 then groupWord (oldestTime r.ram.blocks) (a - 0x790)
  else if a = 0x7A0 then toWord r.rstat
  else if a < 0x7A7 then groupWord r.rtick (a - 0x7A1)
  else if a < 0x7AE then groupWord r.divt (a - 0x7A8)
  else if a = 0x7AE then toWord r.divcls
  else if a = 0x7AF then groupWord r.sigRec 0 else if a = 0x7B0 then groupWord r.sigRec 1
  else if a = 0x7B1 then groupWord r.sigRep 0 else if a = 0x7B2 then groupWord r.sigRep 1
  else toWord r.divcnt

/-! ### The whole space -/

/-- A word of the fault banks: FST or FRXn; FACK reads 0x000. -/
def readFault (f : FaultBank) (k : Nat) : Word :=
  if k = 0 then f.fst else if k = 2 then f.frx0 else if k = 3 then f.frx1 else if k = 4 then f.frx2 else 0

/-- A readable word of its own behaviour: not reserved, not WO, not WK, not a fault word. -/
def readOwn (s : State) (p : Port) (a : Nat) : Word :=
  if a < 0x040 then readIdn s a else if a < 0x080 then readSys s p a else if a < 0x0C0 then readHst s p a
  else if a < 0x100 then readMor s p a else if a < 0x180 then readOrd s p a else if a < 0x200 then readPcl s p a
  else if a < 0x280 then readSlt s p a else if a < 0x300 then readTth s a else if a < 0x380 then readSat s p a
  else if a < 0x400 then readLdg s p a else if a < 0x480 then readRls s a else if a < 0x500 then readMea s p a
  else if a < 0x580 then readLko s p a else if a < 0x600 then readLog s p a else if a < 0x680 then readRnd s p a
  else if a < 0x700 then readUpd s a else if a < 0x780 then readRig s a else readRec s p a

/-- What an address holds for a port (Table - Register access codes; R278, R294). -/
def regRead (s : State) (p : Port) (a : Nat) : Word :=
  match accOf a with
  | .reserved | .wo | .wk | .test => 0
  | _ =>
    match faultWordAt p a with
    | some (b, k) => readFault (bankGet s.fb b) k
    | none => readOwn s p a

end Machine
end Sys2Proof
end

