-- ==== Sys2Proof/Machine/RegWrite.lean ====
section
/-!
DEFINITION. What a write to every word of the register space does, block by block from the chapters: its access code, its
field ranges, its key sequence and its block rule, as one function that answers a refusal reason and the state after.
-/
namespace Sys2Proof
namespace Machine

/-- A write's answer: 0 and the state after it, or the reason of HST_REFUSE1 (Table - HST_REFUSE1 fields) and the state with
what the refusal records in its block. -/
abbrev Wr := Nat × State

/-- Reason 2: a field out of its range (R12, R14). -/
def outOfRange (s : State) : Wr := (2, s)

/-- The write is taken where `ok`; else a field is out of range. -/
def ranged (ok : Bool) (s s' : State) : Wr := if ok then (0, s') else outOfRange s

/-- Reason 9, block rule: `why` is not 0; the refusal is recorded. -/
def ruled (why : Nat) (refused ok : State) : Wr := if why = 0 then (0, ok) else (9, refused)

/-! ### Key sequences (R10) -/

/-- The port's progress through a key sequence restarts. -/
def dropKey (p : Port) (a : Nat) (s : State) : State := modPort p (fun h => { h with keys := h.keys.filter (fun k => decide (k ≠ a)) }) s

/-- The port has written the first step of the sequence at `a`. -/
def keyHeld (s : State) (p : Port) (a : Nat) : Bool := (portGet s p).keys.contains a

/-- A write to a WK word: a first step, a completing step, or a mismatch. -/
def keyWrite (p : Port) (a v k1 k2 : Nat) (fin : State → Wr) (s : State) : Wr :=
  if keyHeld s p a then if v = k2 then fin (dropKey p a s) else (5, dropKey p a s)
  else if v = k1 then (0, modPort p (fun h => { h with keys := a :: h.keys }) s) else (5, s)

/-! ### Groups written through the shadow (R289 to R293) -/

/-- Lowest addresses of the groups that a host writes: SLT_DIV, LDG_BATTREM, LOG_SEQSEL. -/
def writeGroup (a : Nat) : Option Nat :=
  if a = 0x220 ∨ a = 0x221 then some 0x220 else if a = 0x385 ∨ a = 0x386 then some 0x385
  else if a = 0x590 ∨ a = 0x591 ∨ a = 0x592 then some 0x590 else none

/-- A word of a writable group other than its lowest. -/
def shadowWord (a : Nat) : Bool := match writeGroup a with
  | some g => decide (a ≠ g)
  | none => false

/-- The value that a shadow takes: reserved bits are ignored (R11). -/
def shadowValue (a v : Nat) : Nat := if a = 0x221 then v % 64 else if a = 0x386 then v % 16 else v

/-- The window instance of a group: the slot that SLT_SEL names for the divider. -/
def groupInst (s : State) (p : Port) (g : Nat) : Nat := if g = 0x220 then (portGet s p).sltSel else 0

/-- Place a value in the port's shadow; words of another group or instance are dropped. -/
def placeShadow (p : Port) (g a v : Nat) (s : State) : State :=
  let inst := groupInst s p g
  modPort p (fun h =>
    let old : Tbl (Option Word) := match h.shadow with
      | some x => if x.base = g ∧ x.inst = inst then x.words else []
      | none => []
    { h with shadow := some { base := g, inst := inst, words := tblSet none old a (some (toWord v)) } }) s

/-- The shadowed value of a word, or the value the word keeps. -/
def shadowed (s : State) (p : Port) (g a keep : Nat) : Nat :=
  match (portGet s p).shadow with
  | some x => if x.base = g ∧ x.inst = groupInst s p g then
      match tblGet none x.words a with
      | some w => w.toNat
      | none => keep
    else keep
  | none => keep

/-- The shadow of group `g` is emptied. -/
def emptyShadow (p : Port) (g : Nat) (s : State) : State :=
  modPort p (fun h => { h with shadow := match h.shadow with
    | some x => if x.base = g then none else some x
    | none => none }) s

/-! ### SYS, HST, MOR -/

/-- SYS_ALARM and SYS_RESTART (R298 to R300). -/
def writeSys (p : Port) (a v : Nat) (s : State) : Wr :=
  if a = 0x041 then (0, setAlarmReq p (bitAt v 0) s)
  else keyWrite p a v 0x0C3 0x33C (fun s => if s.sup.pfrBusy then (9, s)
    else (0, if s.sys.state = .replay then replayEnd 4 s else warmRestart 6 0 s)) s

/-- HST (08). -/
def writeHst (p : Port) (a v : Nat) (s : State) : Wr :=
  if a = 0x083 then (0, modPort p (fun h => { h with ievt := (h.ievt &&& ~~~ toWord v) ||| h.ievtNew }) s)
  else if a = 0x084 then (0, modPort p (fun h => { h with ien0 := toWord v }) s)
  else if a = 0x085 then (0, modPort p (fun h => { h with ien1 := toWord (v % 256) }) s)
  else if a = 0x086 then (0, modPort p (fun h => { h with ieven := toWord (v % 64) }) s)
  else if a = 0x088 then (0, heartbeat p s)
  else keyWrite p a v 0x2A5 0x15A (fun s => (0, portReset p s)) s

/-- A write of 0x000 to MOR_TAKEn (R310). -/
def releaseOne (p : Port) (n : Nat) (s : State) : Wr :=
  if mooringOf s n = some p.other then (9, morRefused p 5 s) else (0, releaseMoorings p (fun k => decide (k = n)) s)

/-- MOR (10). -/
def writeMor (p : Port) (a v : Nat) (s : State) : Wr :=
  if a < 0x0D0 then if v = 0 then releaseOne p (a - 0x0C0) s else outOfRange s
  else if a = 0x0D4 then ranged (decide (v = 0x3FF)) s (releaseMoorings p (fun _ => true) s)
  else if a = 0x0E0 then ruled (claimRefusal s p v) (morRefused p (claimRefusal s p v) s) (setClaim v (some p) s)
  else if a = 0x0E1 then
    ruled (freeRefusal s p v) (morRefused p (freeRefusal s p v) s) (if claimOf s v = some p then setClaim v none s else s)
  else keyWrite p a v 0x1C7 0x238 (fun s =>
    if isAbsent s p.other then (0, peerAlarmClear p s) else (9, morRefused p 6 s)) s

/-! ### ORD, PCL -/

/-- ORD_PUSH of 0x001 (R341, R342); `ecc`: a corrected error of the staging descriptor, `bad`: its words with an
uncorrectable one. -/
def writePush (p : Port) (v : Nat) (ecc : Bool) (bad : BitVec 8) (s : State) : Wr :=
  if v = 1 then ruled (pushRefusal s p) (refusePush p (pushRefusal s p) s) (pushOrder p ecc bad s) else outOfRange s

/-- ORD_RTAIL (R354). -/
def writeRtail (p : Port) (v : Nat) (s : State) : Wr :=
  match rtailStep (perPortGet s.ord.banks p) (v % 128) with
  | some n => (0, consumeRets p n s)
  | none => (9, modBank p (fun b => { b with refuse := 3 + 4 * p.bit }) s)

/-- ORD (11). Reserved bits of ORD_DESC0 are ignored. -/
def writeOrd (p : Port) (a v : Nat) (s : State) : Wr :=
  if a < 0x108 then
    let w : Word := if a = 0x100 then toWord v &&& 0x31F else toWord v
    (0, modBank p (fun b => { b with desc := b.desc.set (a - 0x100) w }) s)
  else if a = 0x108 then writePush p v false 0 s
  else if a = 0x115 then writeRtail p v s
  else if v = 0 then outOfRange s else (0, cancelTag p v s)

/-- PCL_RELEASE (R363): an index; a free parcel stays free. -/
def writeRelease (p : Port) (v : Nat) (s : State) : Wr :=
  if 512 ≤ v then outOfRange s
  else ruled (releaseRefusal s p v) (pclRefused p (releaseRefusal s p v) s)
    (if (parcelGet s v).owner = some p then parcelFree v s else s)

/-- A parcel window write (R364, R365). -/
def writeWindow (p : Port) (a v : Nat) (s : State) : Wr :=
  let h := portGet s p
  let why := pclWriteRefusal s p h.pclSel
  if bitAt v 8 then
    ruled why (pclRefused p why s) (writeParcel h.pclSel (64 * h.pclPage + (a - 0x1C0)) (toWord v) s)
  else outOfRange s

/-- PCL (11). -/
def writePcl (p : Port) (a v : Nat) (s : State) : Wr :=
  if a = 0x181 then writeRelease p v s
  else if a = 0x188 then ranged (decide (v < 512)) s (modPort p (fun h => { h with pclSel := v }) s)
  else if a = 0x189 then ranged (decide (v < 8)) s (modPort p (fun h => { h with pclPage := v }) s)
  else writeWindow p a v s

/-! ### SLT, TTH, SAT -/

/-- SLT_SEL: a shadowed divider is dropped (R292). -/
def writeSltSel (p : Port) (v : Nat) (s : State) : State :=
  modPort p (fun h => { h with sltSel := v }) (emptyShadow p 0x220 s)

/-- The divider that a write of SLT_DIV0 commits (R290). -/
def committedDiv (s : State) (p : Port) (v : Nat) : Nat :=
  v + 1024 * shadowed s p 0x220 0x221 ((chAt s (portGet s p).sltSel).div / 1024)

/-- SLT_DIV0 (R291, R518, R554): the shadow is emptied whether the commit is taken or refused. -/
def commitDiv (p : Port) (v : Nat) (s : State) : Wr :=
  let id := (portGet s p).sltSel
  let n := committedDiv s p v
  let s := emptyShadow p 0x220 s
  if !inRange n 40 65535 then outOfRange s
  else if !declaredSlot s id || divRefused s p id then (9, s)
  else (0, setDivider id n s)

/-- SLT (14, 15). -/
def writeSlt (p : Port) (a v : Nat) (s : State) : Wr :=
  if a = 0x200 then (0, writeSltSel p v s)
  else if a = 0x220 then commitDiv p v s
  else if declaredSlot s (portGet s p).sltSel then (0, placeShadow p 0x220 a (v % 64) s) else (9, s)

/-- TTH_CMD (R414, R425, R432, R435). -/
def writeTthCmd (p : Port) (v : Nat) (s : State) : Wr :=
  let cmd := v / 4 % 4
  let t := v % 4
  if cmd = 0 then outOfRange s
  else ruled (tthRefusal s t cmd)
    { s with tth := { s.tth with refuseReason := tthRefusal s t cmd, refusePort := p } } (tthCmd t cmd s)

/-- TTH (12). -/
def writeTth (p : Port) (a v : Nat) (s : State) : Wr :=
  if a = 0x2C0 then writeTthCmd p v s else (0, tthHold (v % 16) s)

/-- SAT_CMD and SAT_ZFACK on the position that SAT_SEL names (R281, R469, R755). R876 keeps FAULT_ACK from a satellite in
INCOMPATIBLE: the write is refused (DESIGN CHOICE, log entry 74). -/
def writeSatWindow (p : Port) (a v : Nat) (s : State) : Wr :=
  match satWindow s p with
  | none => (9, s)
  | some pos =>
    if a = 0x315 then (if (viewGet s pos).state = .incompatible then (9, s) else (0, satZfack pos (v % 512) s))
    else if satCmdRefused s pos (v % 8) then (9, s) else (0, satCmd pos (v / 8 % 4) (v % 8) s)

/-- SAT (13). -/
def writeSat (p : Port) (a v : Nat) (s : State) : Wr :=
  if a = 0x300 then ranged (decide (v % 4 = 0)) s (modPort p (fun h => { h with satSel := v }) s)
  else if a = 0x332 then ranged (decide (v < 32)) s (modPort p (fun h => { h with trPage := v }) s)
  else if a = 0x316 && !inRange (v % 8) 1 6 then outOfRange s
  else writeSatWindow p a v s

/-! ### LDG, RLS, MEA, LKO -/

/-- LDG_BATTREM0 commits (R291, R664); a value out of range is recorded in LDG_REFUSE. -/
def commitBatt (p : Port) (v : Nat) (s : State) : Wr :=
  let n := v + 1024 * shadowed s p 0x385 0x386 (s.ldg.battRem / 1024)
  let s := emptyShadow p 0x385 s
  if n ≤ 10230 then (0, writeBattRem n s)
  else outOfRange { s with ldg := { s.ldg with refuseReason := 1, refusePort := p } }

/-- LDG (18). -/
def writeLdg (p : Port) (a v : Nat) (s : State) : Wr :=
  if a = 0x381 then (0, writeSource (bitAt v 0) s)
  else if a = 0x385 then commitBatt p v s
  else if a = 0x386 then (0, placeShadow p 0x385 a (v % 16) s)
  else if a = 0x387 then (0, { s with ldg := { s.ldg with xstby := v } })
  else if a = 0x388 then (0, { s with ldg := { s.ldg with xalm := v } })
  else (0, modPort p (fun h => { h with ldgSel := v }) s)

/-- RLS (06). -/
def writeRls (p : Port) (a v : Nat) (s : State) : Wr :=
  if a = 0x402 then keyWrite p a v 0x0F0 0x30F (fun s =>
    let why := if s.rls.released = some p.other then 5 else releaseRefused s
    ruled why (rlsRefused p why s) (railRelease { s with rls := { s.rls with released := some p } })) s
  else if a = 0x404 then (0, { s with rls := { s.rls with mrglim := (s.rls.mrglim &&& ~~~ BitVec.ofNat 8 v) ||| s.rls.mrglimNew } })
  else
    let n := a - 0x418
    let why := trimRefused s n (v % 256)
    ruled why (rlsRefused p why s) (setTrimTarget p n (v % 256) (bitAt v 8) s)

/-- MEA (19). -/
def writeMea (p : Port) (a v : Nat) (s : State) : Wr :=
  if a = 0x49C then ranged (decide (v ≤ 0x17) && decide (v ≠ 0x0F)) s (modPort p (fun h => { h with meaChsel := v }) s)
  else if a = 0x4BC then ranged (decide (v % 4 = 0)) s (modPort p (fun h => { h with swpSel := v }) s)
  else (0, setPin p (bitAt v 0) s)

/-- LKO_HITk: hits of rules 10k to 10k + 9 are cleared, but for those of this tick (R8). -/
def clearHits (k v : Nat) (s : State) : State :=
  (List.range 10).foldl (fun s j =>
    if bitAt v j && decide (10 * k + j < 32) then modRule (10 * k + j) (fun r => { r with hit := r.hitNew }) s else s) s

/-- LKO (20). -/
def writeLko (p : Port) (a v : Nat) (s : State) : Wr :=
  if a = 0x501 then keyWrite p a v 0x2D2 0x12D (fun s =>
    ruled (sleepRefusal s) { s with lko := { s.lko with refuseReason := sleepRefusal s, refusePort := p } }
      (enterStandby s)) s
  else if a = 0x502 then ranged (decide (v = 1)) s (hostWake s)
  else if a = 0x510 then ranged (decide (v < 32)) s (modPort p (fun h => { h with lkoSel := v }) s)
  else (0, clearHits (a - 0x50C) v s)

/-! ### LOG, RND -/

/-- LOG_CMD (R806): refused while the port's fetch runs. -/
def writeLogCmd (p : Port) (v : Nat) (s : State) : Wr :=
  let c := v % 4
  if !inRange c 1 2 then outOfRange s
  else if (perPortGet s.log.fetch p).busy then (9, s)
  else (0, logFetchStart p (if c = 1 then some (portGet s p).logSeqSel else none) s)

/-- LOG_SEQSEL0 commits the 30-bit number (R290). -/
def commitSeq (p : Port) (v : Nat) (s : State) : State :=
  let old := (portGet s p).logSeqSel
  let n := v + 1024 * shadowed s p 0x590 0x591 (old / 1024 % 1024) + 1048576 * shadowed s p 0x590 0x592 (old / 1048576)
  modPort p (fun h => { h with logSeqSel := n }) (emptyShadow p 0x590 s)

/-- LOG (23). -/
def writeLog (p : Port) (a v : Nat) (s : State) : Wr :=
  if a = 0x590 then (0, commitSeq p v s)
  else if a = 0x591 ∨ a = 0x592 then (0, placeShadow p 0x590 a v s)
  else if a = 0x593 then writeLogCmd p v s
  else if a = 0x594 then ranged (decide (v < 128)) s (modPort p (fun h => { h with logPage := v }) s)
  else (0, modPort p (fun h => { h with logSecSel := v }) s)

/-- RND_OTPCMD (R826). -/
def writeOtpCmd (p : Port) (v : Nat) (s : State) : Wr :=
  let c := v % 8
  if inRange c 1 6 then ruled (otpRefusal s p c) (rndRefused p (otpRefusal s p c) s) (otpStart c s) else outOfRange s

/-- RND_HASHWIN (R826): not while the other port's arming stands. -/
def writeHash (p : Port) (k v : Nat) (s : State) : Wr :=
  if s.rnd.armed = some p.other then (9, s)
  else (0, { s with rnd := { s.rnd with hashWin := s.rnd.hashWin.set k (byte v) } })

/-- RND (24). -/
def writeRnd (p : Port) (a v : Nat) (s : State) : Wr :=
  if a = 0x611 then keyWrite p a v 0x0B4 0x34B (fun s => (0, { s with rnd := { s.rnd with armed := some p, armAt := s.sys.tick } })) s
  else if a = 0x612 then writeOtpCmd p v s
  else if a = 0x617 then ranged (decide (v < 2)) s (modPort p (fun h => { h with rndKsel := v }) s)
  else writeHash p (a - 0x620) v s

/-! ### UPD, RIG, REC -/

/-- UPD_CMD (R856, R864, R868, R879). -/
def writeUpdCmd (p : Port) (v : Nat) (s : State) : Wr :=
  let c := v % 8
  let t := v / 8 % 8
  if c = 1 then
    if inRange t 1 4 then ruled (openRefusal s p t) (updRefused p (openRefusal s p t) s) (updOpen p t s) else outOfRange s
  else if c = 2 then if s.upd.owner = .port p then (0, updClose s) else (9, updRefused p 0x11 s)
  else if c = 3 then if (pendingBank s).isSome then (0, updDiscard s) else (9, updRefused p 0x14 s)
  else if c = 4 then if s.sys.state = .recovery then (0, updExit s) else (9, updRefused p 0x14 s)
  else if c = 5 then if s.sys.state = .recovery then (0, updHold s) else (9, updRefused p 0x14 s)
  else outOfRange s

/-- UPD_PUSH of `n` bytes (R857). DESIGN CHOICE (log entry 66): a repeated write appends the bytes again, as its own push; R262
does not hold for it. -/
def writeUpdPush (p : Port) (n : Nat) (s : State) : Wr :=
  if inRange n 1 64 then ruled (pushRefused s p n) (updRefused p (pushRefused s p n) s) (updPush n s) else outOfRange s

/-- UPD (25). -/
def writeUpd (p : Port) (a v : Nat) (s : State) : Wr :=
  if a = 0x682 then writeUpdCmd p v s
  else if a = 0x687 then keyWrite p a v 0x25A 0x1A5 (fun s =>
    if s.sys.trial = true ∧ s.sys.state = .run then (0, confirmTrial s) else (9, updRefused p 0x14 s)) s
  else if a = 0x6BF then writeUpdPush p v s
  else if s.upd.owner = .port p then
    (0, { s with upd := { s.upd with window := tblSet 0 s.upd.window (a - 0x6C0) (toWord (v % 512)) } })
  else (9, updRefused p 0x11 s)

/-- RIG_WIN (R70, R71, R76): a word beyond the staged stream is not there. -/
def writeRigWin (k v : Nat) (s : State) : State :=
  let i := 64 * s.rig.page + k
  if i < 26208 then { s with rig := { s.rig with staging := tblSet 0 s.rig.staging i (toWord v) } } else s

/-- RIG (02). -/
def writeRigBlock (p : Port) (a v : Nat) (s : State) : Wr :=
  if a = 0x70A then
    if inRange (v % 8) 1 5 then
      match rigCommand p (v % 8) s with
      | (true, s') => (0, s')
      | (false, s') => (9, s')
    else outOfRange s
  else if a = 0x70B then
    if 409 < v then outOfRange s
    else if s.rig.owner = some p then (0, { s with rig := { s.rig with page := v } }) else (9, s)
  else if s.rig.owner = some p then (0, writeRigWin (a - 0x740) v s) else (9, s)

/-- REC_CMD (R895, R899, R908). -/
def writeRecCmd (p : Port) (v : Nat) (s : State) : Wr :=
  let c := v % 4
  if c = 1 then ruled (armRefusal s) (recRefused p (armRefusal s) s) (recArm s)
  else if c = 2 then (0, recFreezeCmd s) else if c = 3 then (0, recStop s) else outOfRange s

/-- REC (26). -/
def writeRec (p : Port) (a v : Nat) (s : State) : Wr :=
  if a = 0x781 then (0, { s with rcd := { s.rcd with cfg := v % 32 } })
  else if a = 0x782 then ranged (decide (v ≤ 500)) s { s with rcd := { s.rcd with post := v } }
  else if a = 0x783 then writeRecCmd p v s
  else if a = 0x784 then keyWrite p a v 0x1E1 0x21E (fun s =>
    let sel := (portGet s p).recDsel
    ruled (replayRefusal s sel) (recRefused p (replayRefusal s sel) s) (enterReplay sel s)) s
  else if a = 0x786 then (0, { s with rcd := { s.rcd with keep := v % 4 } })
  else ranged (decide (v ≤ 2)) s (modPort p (fun h => { h with recDsel := v }) s)

/-! ### The whole space -/

/-- A write to a word of its own behaviour: RW, W1C, WO or WK, but no fault acknowledge. -/
def writeOwn (p : Port) (a v : Nat) (s : State) : Wr :=
  if a < 0x080 then writeSys p a v s else if a < 0x0C0 then writeHst p a v s else if a < 0x100 then writeMor p a v s
  else if a < 0x180 then writeOrd p a v s else if a < 0x200 then writePcl p a v s else if a < 0x280 then writeSlt p a v s
  else if a < 0x300 then writeTth p a v s else if a < 0x380 then writeSat p a v s else if a < 0x400 then writeLdg p a v s
  else if a < 0x480 then writeRls p a v s else if a < 0x500 then writeMea p a v s else if a < 0x580 then writeLko p a v s
  else if a < 0x600 then writeLog p a v s else if a < 0x680 then writeRnd p a v s else if a < 0x700 then writeUpd p a v s
  else if a < 0x780 then writeRigBlock p a v s else writeRec p a v s

/-- The block of an address is being reset (R757). -/
def blockResets (s : State) (p : Port) (a : Nat) : Bool :=
  match blkOfAddr p a with
  | some b => (bankGet s.fb b).resetting
  | none => false

/-- A write that its access code admits: FACK or the block's own rule; a block that is being reset refuses it (R757). -/
def writeOpen (p : Port) (a v : Nat) (own : State → Wr) (s : State) : Wr :=
  let r := match faultWordAt p a with
    | some (b, _) => (0, ackBlock b v s)
    | none => own s
  if blockResets s p a && (decide (r.1 = 0) || decide (r.1 = 9)) then (9, dropKey p a s) else r

/-- Step 6 of Table - Judging a transaction for a write, and its effect; `own`: what the word's block does. -/
def writeJudged (p : Port) (a v : Nat) (own : State → Wr) (s : State) : Wr :=
  match accOf a with
  | .test => (10, s)
  | .reserved => (3, s)
  | .ro | .rc => (1, s)
  | .frx => (4, s)
  | _ => writeOpen p a v own s

/-- A write of one word. -/
def writeWord (p : Port) (a v : Nat) (s : State) : Wr := writeJudged p a v (writeOwn p a v) s

end Machine
end Sys2Proof
end

