-- ==== Sys2Proof/Machine/HostFrames.lean ====
section
/-!
DEFINITION. The frames of the two host ports (08, 09): how a transaction is judged and answered, single reads and writes,
groups, bursts, ties; and the rows of the table that are frames to a word.
-/
namespace Sys2Proof
namespace Machine

/-! ### Responses (R247, R263, R962) -/

/-- Code of STAT (Table - Response to the host). -/
def statCode : Stat → Nat
  | .ok => 0 | .crcBad => 1 | .refused => 2 | .busy => 3

/-- Bits [31:8] of a frame either way: OP or STAT, ADDR, DATA (R243, R247). -/
def frameBits (op a d : Nat) : Nat := (op % 4 * 4096 + a % 4096) * 1024 + d % 1024

/-- The 32 bits of a frame: CRC-8 over [31:8] behind them (R244). -/
def withCrc (n : Nat) : BitVec 32 := BitVec.ofNat 32 (256 * n + crc8 24 n)

/-- The bits of a response. -/
def responseBits (r : Response) : BitVec 32 := withCrc (frameBits (statCode r.stat) r.addr r.data.toNat)

/-- The output event of a response (R906): STAT, ADDR, and DATA unless it is of a read that R906 leaves out. -/
def responseEvent (p : Port) (data : Bool) (r : Response) : OutEvent :=
  { cls := 4, src := p.bit
    value := [byte (statCode r.stat)] ++ natLe 2 r.addr ++ (if data then natLe 2 r.data.toNat else []) }

/-- Words whose reads' DATA the output signature leaves out (Table - Output classes): PCL_WIN, LOG_WIN, SAT_TRWIN, UPD_WIN,
RND_DATA, RND_KEYHASH. -/
def unsignedRead (a : Nat) : Bool :=
  inRange a 0x1C0 0x1FF || inRange a 0x5C0 0x5FF || inRange a 0x340 0x37F || inRange a 0x6C0 0x6FF || decide (a = 0x601) ||
    inRange a 0x640 0x65F

/-- A transaction's assertion carries the response to the one before (R247), and the next will carry its own; a port that
answers no more owes none (R272); `signed`: the output signature takes its DATA. -/
def respondAs (p : Port) (signed : Bool) (r : Response) (s : State) : State :=
  if (portGet s p).answering then
    modPort p (fun h => { h with
      sent := h.owed, sdo := responseBits h.owed, owed := r, said := h.said ++ [responseEvent p signed r] }) s
  else s

/-- A response whose DATA the output signature takes. -/
def respond (p : Port) (r : Response) (s : State) : State := respondAs p true r s

/-- The recorder takes a transaction: its rising edges and what SDI carried (R891). -/
def takeSdi (p : Port) (edges : Nat) (bits : List Bool) (s : State) : State :=
  modPort p (fun h => { h with
    taken := h.taken ++ [{ kind := 3, sub := p.bit, payload := natLe 2 edges ++ packBits ((edges + 7) / 8) bits }] }) s

/-- The 32 bits of a header or a single frame on SDI, with its own CRC-8. -/
def sdiHead (op a d : Nat) : List Bool := bitsMsb 32 (withCrc (frameBits op a d)).toNat

/-- HST_REFUSE: the refused transaction, its reason, and whether it was a burst. -/
def noteRefusal (p : Port) (a reason : Nat) (burst : Bool) (s : State) : State :=
  modPort p (fun h => { h with refuseAddr := a, refuseReason := reason, refuseBurst := burst }) s

/-- A CRC_BAD answer, counted for LINK_ERR; `more`: further sources of the port's fault word at this tick. -/
def crcBad (p : Port) (a : Nat) (d : Word) (more : List Nat) (s : State) : State :=
  let now := s.sys.tick
  let ticks := (now :: (portGet s p).crcTicks).filter (fun k => decide (now - k ≤ 800000))
  let s := modPort p (fun h => { h with
    crcErr := satInc h.crcErr, crcTicks := if 16 ≤ ticks.length then [] else ticks }) s
  raiseMany (.hst p) ((if 16 ≤ ticks.length then [0] else []) ++ more)
    (respond p { stat := .crcBad, addr := a, data := d } s)

/-! ### Reading (R283 to R288, R904) -/

/-- In REPLAY, a word of a block that is not live shows the replayed hub's state: a free value (R904). -/
def replayed (s : State) (a : Nat) : Bool :=
  decide (s.sys.state = .replay) && !liveInReplay a &&
    (match accOf a with
      | .reserved | .wo | .wk | .test => false
      | _ => true)

/-- Words that exist once per port (R278). -/
def banked (a : Nat) : Bool :=
  inRange a 0x080 0x0BF || inRange a 0x100 0x17F || [0x041, 0x188, 0x189, 0x200, 0x300, 0x332, 0x390, 0x49C, 0x4BC, 0x4BD,
    0x510, 0x590, 0x591, 0x592, 0x593, 0x594, 0x596, 0x617, 0x787].contains a

/-- What the replayed hub shows of a word at the replay tick: a free value, the same for both ports and every read of the
tick. What R911 fixes stands: pool bytes and parcels not yet written read 0x00, flash data 0xFF, READY follows the RND
entries; MOR_TAKEn reads as R309 (R313). -/
def replayedWord (s : State) (p : Port) (a : Nat) : Word :=
  let r := s.rcd.play
  let n := Config.freeNat (r.key + a + (if banked a then 4096 * p.bit else 0))
  if inRange a 0x0C0 0x0CF then (if n % 3 = 1 + p.bit then 1 else 0)
  else if a = 0x600 then toWord (2 * (n % 16) + bit r.ready)
  else if a = 0x601 then (if r.ready then toWord (256 * (n % 2)) else 0)
  else if inRange a 0x1C0 0x1FF && !r.fed then toWord (256 * (n % 4))
  else if inRange a 0x5C0 0x5FF then toWord (256 * (n % 2) + 0xFF)
  else toWord n

/-- The word that an address shows at this tick, without the side effects of a single-frame read. -/
def shownWord (p : Port) (a : Nat) (s : State) : Word := if replayed s a then replayedWord s p a else regRead s p a

/-- `n` words from an address on, all of one tick (R254, R284). -/
def shownWords (p : Port) (a n : Nat) (s : State) : List Word := (List.range n).map (fun k => shownWord p (a + k) s)

/-- What the single-frame read of an RC word clears (R9); the words of the selected instance for a window. -/
def clearSlot (id a : Nat) (s : State) : State :=
  if a < 0x220 then
    if isLocal id then modSlot id (fun x => if a = 0x208 then { x with trips := 0 } else { x with removals := 0 }) s
    else modSlotView id (fun v => if a = 0x208 then { v with trips := 0 } else { v with removals := 0 }) s
  else if isLocal id then modSlot id (fun x =>
      if a = 0x22D then { x with ch := { x.ch with parErr := 0 } }
      else if a = 0x22E then { x with ch := { x.ch with framErr := 0 } }
      else if a = 0x22F then { x with ch := { x.ch with repeats := 0 } }
      else if a = 0x246 then { x with tr := { x.tr with retries := 0 } }
      else if a = 0x247 then { x with tr := { x.tr with resynchs := 0 } }
      else if a = 0x248 then { x with tr := { x.tr with wtxs := 0 } }
      else { x with sd := { x.sd with crc := 0 } }) s
  else s

/-- RC words of the tethers. -/
def clearTether (a : Nat) (s : State) : State :=
  let k := a % 16
  modTether ((a - 0x280) / 16) (fun x =>
    if k = 8 then { x with badF := 0 } else if k = 9 then { x with retry := 0 } else { x with stale := 0 }) s

/-- RC words of the MOR block. -/
def clearMor (a : Nat) (s : State) : State :=
  let m := s.mor
  { s with mor :=
    if a = 0x0E9 then { m with wdrn := perPortSet m.wdrn .a 0 } else if a = 0x0EA then { m with wdrn := perPortSet m.wdrn .b 0 }
    else if a = 0x0EB then { m with disc := perPortSet m.disc .a 0 } else { m with disc := perPortSet m.disc .b 0 } }

/-- RC words of the measurement block. -/
def clearMea (p : Port) (a : Nat) (s : State) : State :=
  if a = 0x49E then modChan (portGet s p).meaChsel (fun c => { c with hi := 0x3FF }) s
  else if a = 0x49F then modChan (portGet s p).meaChsel (fun c => { c with lo := 0x3FF }) s
  else { s with mea := { s.mea with drop := 0 } }

/-- RC words of the satellite window: none while the selected position is not declared. -/
def clearSat (p : Port) (a : Nat) (s : State) : State :=
  match satWindow s p with
  | some pos => modView pos (fun v => if a = 0x318 then { v with restarts := 0 } else { v with resends := 0 }) s
  | none => s

/-- The clear of an RC word's single-frame read (Table - Register access codes). -/
def clearRc (p : Port) (a : Nat) (s : State) : State :=
  if a = 0x08D then modPort p (fun h => { h with crcErr := 0 }) s
  else if a < 0x100 then clearMor a s
  else if a = 0x11D then modBank p (fun b => { b with dupcnt := 0 }) s
  else if a < 0x280 then if declaredSlot s (portGet s p).sltSel then clearSlot (portGet s p).sltSel a s else s
  else if a < 0x300 then clearTether a s
  else if a < 0x380 then clearSat p a s
  else if a < 0x500 then clearMea p a s
  else if a = 0x517 then modRule (portGet s p).lkoSel (fun r => { r with fires := 0 }) s
  else if a = 0x518 then { s with lko := { s.lko with logSkip := 0 } }
  else if a = 0x58F then { s with log := { s.log with dropped := 0 } }
  else if a = 0x602 then { s with rnd := { s.rnd with under := 0 } }
  else if a = 0x603 then { s with rnd := { s.rnd with fails := 0 } }
  else { s with rcd := { s.rcd with missed := 0 } }

/-- A read whose word acts on being read: MOR_TAKEn, PCL_ALLOC, PCL_WIN, RND_DATA and the RC words. -/
def actingRead (p : Port) (a : Nat) (s : State) : Word × State :=
  if inRange a 0x0C0 0x0CF then takeMooring p (a - 0x0C0) s
  else if a = 0x180 then
    let (n, s) := allocParcel p s
    (toWord n, s)
  else if inRange a 0x1C0 0x1FF then
    let h := portGet s p
    (regRead s p a, readParcelEcc h.pclSel (64 * h.pclPage + (a - 0x1C0)) s)
  else if a = 0x601 then randomRead s
  else if accOf a = .rc then (regRead s p a, clearRc p a s)
  else (regRead s p a, s)

/-- A read of a group's lowest word: the whole group goes to the port's latch (R284). -/
def latchRead (p : Port) (g n : Nat) (s : State) : Word × State :=
  let l := shownWords p g n s
  (l.getD 0 0, modPort p (fun h => { h with latch := some { base := g, words := l } }) s)

/-- A read of another word of a group: the latched copy, or the live value (R285). -/
def latchedRead (p : Port) (g a : Nat) (s : State) : Word × State :=
  match (portGet s p).latch with
  | some l => (if l.base = g then l.words.getD (a - g) 0 else shownWord p a s, s)
  | none => (shownWord p a s, s)

/-- A single-frame read that is answered OK. -/
def singleRead (p : Port) (a : Nat) (s : State) : Word × State :=
  match groupOf a with
  | some (g, n) => if a = g then latchRead p g n s else latchedRead p g a s
  | none => if replayed s a then (replayedWord s p a, s) else actingRead p a s

/-- A single-frame read (Table - Judging a transaction). -/
def readFrame (p : Port) (a : Nat) (s : State) : State :=
  if heard s p then
    let s := takeSdi p 32 (sdiHead 0 a 0) s
    match hostRights s.sys.state false a with
    | some st =>
      respond p { stat := st, addr := a, data := 0 } (if st = .refused then noteRefusal p a 6 false s else s)
    | none =>
      if 0xF00 ≤ a then respond p { stat := .refused, addr := a, data := 0 } (noteRefusal p a 10 false s)
      else
        let (w, s) := singleRead p a s
        respondAs p (!unsignedRead a) { stat := .ok, addr := a, data := w } s
  else s

/-! ### Writing -/

/-- DATA of a write that is refused or busy: the word unchanged, 0x000 where its read would be refused or busy. -/
def keptWord (p : Port) (a : Nat) (s : State) : Word :=
  if hostRights s.sys.state false a = none ∧ a < 0xF00 then shownWord p a s else 0

/-- DATA of a write answered OK: the value after it; the placed value for a shadowed word; 0x000 for WO and WK. -/
def writtenWord (p : Port) (a v : Nat) (s : State) : Word :=
  if shadowWord a then toWord (shadowValue a v) else shownWord p a s

/-- The write completes the port reset: its response is void (R268). -/
def presetDone (s : State) (p : Port) (a v : Nat) : Bool := decide (a = 0x08F) && decide (v = 0x15A) && keyHeld s p a

/-- A write answered BUSY or REFUSED: `reason` of HST_REFUSE1 for a refusal. -/
def turnDown (p : Port) (a : Nat) (st : Stat) (reason : Nat) (s : State) : State :=
  respond p { stat := st, addr := a, data := keptWord p a s } (if st = .refused then noteRefusal p a reason false s else s)

/-- A single-frame write; `judge`: step 6 of Table - Judging a transaction with the write's effect. -/
def writeFrame (p : Port) (a v : Nat) (judge : State → Wr) (s : State) : State :=
  if heard s p then
    let s := takeSdi p 32 (sdiHead 1 a v) s
    match hostRights s.sys.state true a with
    | some st => turnDown p a st 6 (dropKey p a s)
    | none =>
      match judge s with
      | (0, t) =>
        if presetDone s p a v then t
        else
          respond p { stat := .ok, addr := a, data := writtenWord p a v t } t
      | (n + 1, t) => turnDown p a .refused (n + 1) t
  else s

/-- A write of one word. -/
def wordFrame (p : Port) (a : Nat) (w : Word) (s : State) : State := writeFrame p a w.toNat (writeWord p a w.toNat) s

/-- A frame whose CRC-8 is not that of its bits is answered CRC_BAD (R244, R250 step 2). -/
def checked (p : Port) (op a : Nat) (d : Word) (crc : Byte) (f : State → State) (s : State) : State :=
  if crc8 24 (frameBits op a d.toNat) = crc.toNat then f s
  else if heard s p then
    let edges := if op < 2 then 32 else if op = 2 then 64 + 10 * d.toNat else 48 + 10 * d.toNat
    crcBad p a d [] (takeSdi p edges (bitsMsb 32 (256 * frameBits op a d.toNat + crc.toNat)) s)
  else s

/-! ### Bursts (R252 to R260, R282, R293) -/

/-- The addresses of a burst that lie in the space; its header's address where the count is 0. -/
def burstAddrs (a n : Nat) : List Nat := (List.range (max n 1)).filterMap (fun k => if a + k ≤ 0xFFF then some (a + k) else none)

/-- Rights of a burst: those of every word in it. -/
def burstRights (st : HubState) (write : Bool) (l : List Nat) : Option Stat := l.findSome? (fun a => hostRights st write a)

/-- Count and range (R257). -/
def burstFits (a n : Nat) : Bool := decide (n ≠ 0) && decide (a + n ≤ 0x1000)

/-- The refusal of a burst: no data. -/
def burstDown (p : Port) (a n : Nat) (st : Stat) (reason : Nat) (s : State) : State :=
  respond p { stat := st, addr := a, data := toWord n } (if st = .refused then noteRefusal p a reason true s else s)

/-- What a refused or busy burst read sends: zeros and the complement of their CRC-16 (R256). -/
def noWords (n : Nat) (r : Response) : Response :=
  let l := List.replicate n (0 : Word)
  { r with burst := l, crc16 := Nat.xor (crc16Words l) 0xFFFF }

/-- The owed response gets the refused read's words. -/
def withZeros (p : Port) (n : Nat) (s : State) : State :=
  if (portGet s p).answering then modPort p (fun h => { h with owed := noWords n h.owed }) s else s

/-- Why a burst read is refused at its range (R257, R295). -/
def burstReadReason (a n : Nat) : Nat :=
  if !burstFits a n then 7 else if 0xF00 ≤ a then 10 else if 0xF00 < a + n then 8 else 0

/-- ECC events of the parcel window's words in a burst read (R369). -/
def burstEcc (p : Port) (l : List Nat) (s : State) : State :=
  (l.filter (fun a => inRange a 0x1C0 0x1FF && !replayed s a)).foldl (fun s a =>
    readParcelEcc (portGet s p).pclSel (64 * (portGet s p).pclPage + (a - 0x1C0)) s) s

/-- A burst read with a good header. -/
def burstReadFrame (p : Port) (a n : Nat) (s : State) : State :=
  let s := takeSdi p (64 + 10 * n) (sdiHead 2 a n) s
  match burstRights s.sys.state false (burstAddrs a n) with
  | some st => withZeros p n (burstDown p a n st 6 s)
  | none =>
    if burstReadReason a n ≠ 0 then withZeros p n (burstDown p a n .refused (burstReadReason a n) s)
    else
      let l := shownWords p a n s
      respond p { stat := .ok, addr := a, data := toWord n, burst := l, crc16 := crc16Words l }
        (burstEcc p (burstAddrs a n) s)

/-- Selectors, and RIG_PAGE: they act before the words of their windows (R282). -/
def selectorWord (a : Nat) : Bool :=
  [0x188, 0x189, 0x200, 0x300, 0x332, 0x390, 0x49C, 0x4BC, 0x510, 0x594, 0x596, 0x617, 0x70B, 0x787].contains a

/-- Where a word of a burst write stands in its order of application: selectors, shadowed words, others, WO and WK last. -/
def burstRank (a : Nat) : Nat :=
  if accOf a = .wo ∨ accOf a = .wk then 3 else if selectorWord a then 0 else if shadowWord a then 1 else 2

/-- The words of a burst write in their order of application. -/
def burstOrder (l : List (Nat × Word)) : List (Nat × Word) :=
  ([0, 1, 2, 3].map (fun r => l.filter (fun e => decide (burstRank e.1 = r)))).flatten

/-- Write the words; `none`: one of them is refused. -/
def burstApply (p : Port) : List (Nat × Word) → State → Option State
  | [], s => some s
  | (a, w) :: l, s =>
    match writeWord p a w.toNat s with
    | (0, t) => burstApply p l t
    | _ => none

/-- Key sequences of the WK words of a refused burst restart (R10). -/
def dropKeys (p : Port) (l : List Nat) (s : State) : State := l.foldl (fun s a => dropKey p a s) s

/-- The CRC-16 behind a burst's words is theirs (R253). -/
def burstCrcOk (l : List Word) (crc : BitVec 16) : Bool := decide (crc16Words l = crc.toNat)

/-- A burst write with a good header; `crc` is what stood behind its words. -/
def burstWriteFrame (p : Port) (a n : Nat) (words : List Word) (crc : BitVec 16) (s : State) : State :=
  let s := takeSdi p (48 + 10 * n)
    (sdiHead 3 a n ++ (words.map (fun w => bitsMsb 10 w.toNat)).flatten ++ bitsMsb 16 crc.toNat) s
  let addrs := burstAddrs a n
  let l := addrs.zip words
  match burstRights s.sys.state true addrs with
  | some st => burstDown p a n st 6 (dropKeys p addrs s)
  | none =>
    if !burstFits a n then burstDown p a n .refused 7 s
    else if !burstCrcOk words crc then crcBad p a (toWord n) [] s
    else if 0xF00 ≤ a then burstDown p a n .refused 10 s
    else
      match burstApply p (burstOrder l) s with
      | none => burstDown p a n .refused 8 (dropKeys p addrs s)
      | some t =>
        if l.any (fun e => presetDone s p e.1 e.2.toNat) then t
        else respond p { stat := .ok, addr := a, data := toWord n } t

/-! ### Both ports at one tick (R9, R261, R307) -/

/-- The two ports' frames to `a` touch one word: it is neither banked nor placed in a shadow, and in a window both select one
instance. -/
def oneWord (s : State) (a : Nat) : Bool :=
  let x := s.ports.a
  let y := s.ports.b
  if banked a || shadowWord a then false
  else if inRange a 0x1C0 0x1FF then decide (x.pclSel = y.pclSel) && decide (x.pclPage = y.pclPage)
  else if inRange a 0x201 0x269 then decide (x.sltSel = y.sltSel)
  else if inRange a 0x301 0x319 then decide (x.satSel = y.satSel)
  else if inRange a 0x49D 0x49F then decide (x.meaChsel = y.meaChsel)
  else if inRange a 0x511 0x517 then decide (x.lkoSel = y.lkoSel)
  else true

/-- What a read or a write (`some` value) of a port touches beyond its own bank (R307). -/
def touches (s : State) (p : Port) (e : Nat × Option Nat) : List Thing :=
  let own : List Thing := if oneWord s e.1 then [.word e.1] else []
  let h := portGet s p
  own ++ (match e with
    | (a, none) => if a = 0x180 then [.freeParcels] else if inRange a 0x1C0 0x1FF then [.parcel h.pclSel] else []
    | (a, some v) =>
      if a = 0x108 then
        let o := pushedOrder s p
        (orderSlots o).map .slot ++ (orderParcels o).map .parcel ++ (if isNonce o.opcode then [.pool] else [])
      else if a = 0x0E0 ∨ a = 0x0E1 then [.slot v]
      else if a = 0x181 then [.parcel v, .freeParcels]
      else if inRange a 0x1C0 0x1FF then [.parcel h.pclSel]
      else if a = 0x0D4 ∨ a = 0x08F then (List.range 16).map (fun n => .word (0x0C0 + n))
      else if a = 0x041 then [.alarm p]
      else if a = 0x0F0 then [.alarm p.other]
      else [])

/-- The words of a transaction, with what it writes. -/
def frameItems : HostFrame → List (Nat × Option Nat)
  | .read a => [(a.toNat, none)]
  | .write a w => [(a.toNat, some w.toNat)]
  | .burstRead a n => (burstAddrs a.toNat n).map (fun k => (k, none))
  | .burstWrite a l => ((burstAddrs a.toNat l.length).zip l).map (fun e => (e.1, some e.2.toNat))

/-- Everything a transaction touches. -/
def frameThings (s : State) (p : Port) (x : HostFrame) : List Thing := ((frameItems x).map (touches s p)).flatten

/-- The transactions of the two ports contend for one shared thing. -/
def contend (s : State) (p : Port) (x y : HostFrame) : Bool :=
  (frameThings s p x).any (fun t => (frameThings s p.other y).contains t)

/-- The response to a single write that was taken, where the other port's transaction writes its word too, carries the value
after both (R261). -/
def carry (q : Port) (x y : HostFrame) (s : State) : State :=
  match x with
  | .write a w =>
    if oneWord s a.toNat && (frameItems y).any (fun e => decide (e.1 = a.toNat) && e.2.isSome) &&
        decide ((portGet s q).owed.stat = .ok) then
      let d := writtenWord q a.toNat w.toNat s
      modPort q (fun h => { h with owed := { h.owed with data := d } }) s
    else s
  | _ => s

/-- A transaction of port `p`, run by `f`, and one of the other port at the same tick, run by `g`: in the order of the priority;
a tie, where they contend for a thing and the outcome depends on the order, alternates it (R261, R307). -/
def together (p : Port) (x y : HostFrame) (f g : State → State) (s : State) : State :=
  let run := fun (first : Port) => carry p x y (carry p.other y x (if first = p then g (f s) else f (g s)))
  let t := run s.sys.prio
  if contend s p x y && decide (t ≠ run s.sys.prio.other) then flipPrio t else t

/-- A transaction that arrived whole. -/
def runFrame (p : Port) (x : HostFrame) (s : State) : State :=
  match x with
  | .read a => readFrame p a.toNat s
  | .write a w => wordFrame p a.toNat w s
  | .burstRead a n => if heard s p then burstReadFrame p a.toNat n s else s
  | .burstWrite a l => if heard s p then burstWriteFrame p a.toNat l.length l (BitVec.ofNat 16 (crc16Words l)) s else s

/-- A row's transaction, run by `f`, and the other port's at the same tick if there is one. -/
def withTie (p : Port) (x : HostFrame) (tie : Option HostFrame) (f : State → State) (s : State) : State :=
  match tie with
  | none => f s
  | some y => together p x y f (runFrame p.other y) s

/-- Factory test is open in OTP and a frame reaches its range, whose words the manual does not give. -/
def testOpen (s : State) (p : Port) (a n : Nat) (write : Bool) : Bool :=
  heard s p && !s.rnd.otp.testClosed && decide (0xF00 < a + n) && decide (hostRights s.sys.state write a = none)

/-- Such a frame among the transactions of the tick. -/
def frameTest (s : State) (p : Port) (x : HostFrame) : Bool :=
  match x with
  | .read a => testOpen s p a.toNat 1 false
  | .write a _ => testOpen s p a.toNat 1 true
  | .burstRead a n => testOpen s p a.toNat n false
  | .burstWrite a l => testOpen s p a.toNat l.length true

/-- Frames at addresses that the hosts choose: the row's, and the other port's. -/
def framed (s : State) (p : Port) (x : HostFrame) (tie : Option HostFrame) (t : State) : Res :=
  if frameTest s p x || tie.any (frameTest s p.other) then .fault .factoryTest else .next t

/-- A row at an address of its own: only the other port's frame may reach the test range. -/
def atOwn (s : State) (p : Port) (x : HostFrame) (tie : Option HostFrame) (f : State → State) : Res :=
  if tie.any (frameTest s p.other) then .fault .factoryTest else .next (withTie p x tie f s)

/-! ### The rows: frames at any address -/

/-- REGISTER_WRITE. -/
def execRegisterWrite (p : Port) (addr : Addr) (data : Word) (crc : Byte) (tie : Option HostFrame) (s : State) : Res :=
  let x := HostFrame.write addr data
  framed s p x tie (withTie p x tie (checked p 1 addr.toNat data crc (runFrame p x)) s)

/-- BURST_READ. -/
def execBurstRead (p : Port) (addr : Addr) (count : Nat) (crc : Byte) (upsets : List Upset) (tie : Option HostFrame)
    (s : State) : Res :=
  let s := upset upsets s
  let x := HostFrame.burstRead addr count
  framed s p x tie (withTie p x tie (checked p 2 addr.toNat (toWord count) crc (runFrame p x)) s)

/-- A malformed transaction is discarded; that of a burst write is a BURST_ABORT (R249, R260). -/
def malformed (p : Port) (burstWrite : Bool) (edges : Nat) (bits : List Bool) (s : State) : State :=
  if heard s p then crcBad p 0xFFF 0x3FF (if burstWrite then [1] else []) (takeSdi p edges bits s) else s

/-- MALFORMED_TRANSACTION: `edges` rising SCK edges and the bits of SDI, first in bit 7 of the first byte. -/
def execMalformedTransaction (p : Port) (burstWrite : Bool) (edges : Nat) (bits : List Byte) (s : State) : Res :=
  .next (malformed p burstWrite edges (rawBits bits) s)

/-- BURST_WRITE; a burst with another number of words than its count is malformed. -/
def execBurstWrite (p : Port) (addr : Addr) (count : Nat) (crc : Byte) (words : List Word) (crc16 : BitVec 16)
    (tie : Option HostFrame) (s : State) : Res :=
  let x := HostFrame.burstWrite addr words
  if words.length ≠ count then
    .next (malformed p true (48 + 10 * words.length)
      (bitsMsb 32 (256 * frameBits 3 addr.toNat count + crc.toNat) ++ (words.map (fun w => bitsMsb 10 w.toNat)).flatten ++
        bitsMsb 16 crc16.toNat) s)
  else framed s p x tie (withTie p x tie (checked p 3 addr.toNat (toWord count) crc (fun s =>
    if heard s p then burstWriteFrame p addr.toNat count words crc16 s else s)) s)

/-- GROUP_LATCH_READ (R284): a single-frame read. -/
def execGroupLatchRead (p : Port) (addr : Addr) (data : Word) (crc : Byte) (tie : Option HostFrame) (s : State) : Res :=
  let x := HostFrame.read addr
  framed s p x tie (withTie p x tie (checked p 0 addr.toNat data crc (runFrame p x)) s)

/-- GROUP_SHADOW_WRITE (R289): a single-frame write. -/
def execGroupShadowWrite (p : Port) (addr : Addr) (data : Word) (s : State) : Res :=
  framed s p (.write addr data) none (wordFrame p addr.toNat data s)

/-- GROUP_COMMIT (R290, R302). -/
def execGroupCommit (p : Port) (addr : Addr) (data : Word) (tie : Option HostFrame) (s : State) : Res :=
  let x := HostFrame.write addr data
  framed s p x tie (withTie p x tie (runFrame p x) s)

/-- RC_READ (R9). -/
def execRcRead (p : Port) (addr : Addr) (tie : Option HostFrame) (s : State) : Res :=
  let x := HostFrame.read addr
  framed s p x tie (withTie p x tie (runFrame p x) s)

/-- FAULT_ACK (R745): a write to a FACK word. -/
def execFaultAck (p : Port) (addr : Addr) (data : Word) (s : State) : Res :=
  framed s p (.write addr data) none (wordFrame p addr.toNat data s)

/-! ### The rows: frames at one address -/

/-- HST_AGAIN_READ (R263). -/
def execHstAgainRead (p : Port) (s : State) : Res := .next (readFrame p 0x090 s)

/-- HST_HBEAT_WRITE (R324). -/
def execHstHbeatWrite (p : Port) (data : Word) (s : State) : Res := .next (wordFrame p 0x088 data s)

/-- PORT_RESET (R268). -/
def execPortReset (p : Port) (data : Word) (tie : Option HostFrame) (s : State) : Res :=
  let x := HostFrame.write 0x08F data
  atOwn s p x tie (runFrame p x)

/-- SYS_ALARM_WRITE (R298). -/
def execSysAlarmWrite (p : Port) (data : Word) (s : State) : Res := .next (wordFrame p 0x041 data s)

/-- SYS_RESTART (R299). -/
def execSysRestart (p : Port) (data : Word) (s : State) : Res := .next (wordFrame p 0x043 data s)

/-- RLS_RELEASE (R183). -/
def execRlsRelease (p : Port) (data : Word) (tie : Option HostFrame) (s : State) : Res :=
  let x := HostFrame.write 0x402 data
  atOwn s p x tie (runFrame p x)

/-- RLS_TRIM_WRITE (R196). -/
def execRlsTrimWrite (p : Port) (rail : Nat) (data : Word) (tie : Option HostFrame) (s : State) : Res :=
  let x := HostFrame.write (BitVec.ofNat 12 (0x418 + rail)) data
  atOwn s p x tie (runFrame p x)

/-- SWP_PIN_WRITE (R696). -/
def execSwpPinWrite (p : Port) (data : Word) (s : State) : Res := .next (wordFrame p 0x4BD data s)

/-- MOR_TAKE (R308, R311). -/
def execMorTake (p : Port) (n : Nat) (tie : Option HostFrame) (s : State) : Res :=
  let x := HostFrame.read (BitVec.ofNat 12 (0x0C0 + n))
  atOwn s p x tie (runFrame p x)

/-- MOR_RELEASE (R310). -/
def execMorRelease (p : Port) (n : Nat) (data : Word) (tie : Option HostFrame) (s : State) : Res :=
  let x := HostFrame.write (BitVec.ofNat 12 (0x0C0 + n)) data
  atOwn s p x tie (runFrame p x)

/-- MOR_RELALL (R312). -/
def execMorRelall (p : Port) (data : Word) (tie : Option HostFrame) (s : State) : Res :=
  let x := HostFrame.write 0x0D4 data
  atOwn s p x tie (runFrame p x)

/-- MOR_CLAIM (R315, R318, R319). -/
def execMorClaim (p : Port) (data : Word) (tie : Option HostFrame) (s : State) : Res :=
  let x := HostFrame.write 0x0E0 data
  atOwn s p x tie (runFrame p x)

/-- MOR_FREE (R316). -/
def execMorFree (p : Port) (data : Word) (tie : Option HostFrame) (s : State) : Res :=
  let x := HostFrame.write 0x0E1 data
  atOwn s p x tie (runFrame p x)

/-- MOR_PEERALM (R332). -/
def execMorPeeralm (p : Port) (data : Word) (s : State) : Res := .next (wordFrame p 0x0F0 data s)

/-- One push frame. -/
def pushFrame (p : Port) (data : Word) (ecc : Bool) (bad : BitVec 8) (s : State) : State :=
  writeFrame p 0x108 data.toNat (writeJudged p 0x108 data.toNat (writePush p data.toNat ecc bad)) s

/-- ORD_PUSH (R341): `eccSingle`, `eccBad` are errors of the port's own staging descriptor. -/
def execOrdPush (p : Port) (data : Word) (eccSingle : Bool) (eccBad : BitVec 8) (upsets : List Upset)
    (tie : Option HostFrame) (s : State) : Res :=
  let s := upset upsets s
  atOwn s p (.write 0x108 data) tie (pushFrame p data eccSingle eccBad)

/-- ORD_RTAIL_WRITE (R354). -/
def execOrdRtailWrite (p : Port) (data : Word) (s : State) : Res := .next (wordFrame p 0x115 data s)

/-- ORD_CANCEL (R371). -/
def execOrdCancel (p : Port) (data : Word) (s : State) : Res := .next (wordFrame p 0x118 data s)

/-- PCL_ALLOC (R360, R361). -/
def execPclAlloc (p : Port) (tie : Option HostFrame) (s : State) : Res :=
  let x := HostFrame.read 0x180
  atOwn s p x tie (runFrame p x)

/-- PCL_RELEASE (R363). -/
def execPclRelease (p : Port) (data : Word) (tie : Option HostFrame) (s : State) : Res :=
  let x := HostFrame.write 0x181 data
  atOwn s p x tie (runFrame p x)

/-- PCL_WIN_WRITE (R365). -/
def execPclWinWrite (p : Port) (k : Nat) (data : Word) (tie : Option HostFrame) (s : State) : Res :=
  let x := HostFrame.write (BitVec.ofNat 12 (0x1C0 + k)) data
  atOwn s p x tie (runFrame p x)

/-- The addressed byte of the port's parcel window stands in error: 1 single-bit, 2 double-bit. -/
def markEcc (p : Port) (k err : Nat) (s : State) : State :=
  let h := portGet s p
  if heard s p && (decide (s.sys.state = .run) || decide (s.sys.state = .standby)) && inRange err 1 2 then
    modParcel h.pclSel (fun q => { q with ecc := tblSet 0 q.ecc (64 * h.pclPage + k) err }) s
  else s

/-- PCL_WIN_READ (R369). -/
def execPclWinRead (p : Port) (k err : Nat) (tie : Option HostFrame) (s : State) : Res :=
  let x := HostFrame.read (BitVec.ofNat 12 (0x1C0 + k))
  atOwn s p x tie (fun s => runFrame p x (markEcc p k err s))

/-- SLT_DIV_COMMIT (R518). -/
def execSltDivCommit (p : Port) (data : Word) (s : State) : Res := .next (wordFrame p 0x220 data s)

/-- LDG_SOURCE_WRITE (R651, R666). -/
def execLdgSourceWrite (p : Port) (data : Word) (tie : Option HostFrame) (s : State) : Res :=
  let x := HostFrame.write 0x381 data
  atOwn s p x tie (runFrame p x)

/-- LDG_BATTREM_WRITE (R664). -/
def execLdgBattremWrite (p : Port) (data : Word) (s : State) : Res := .next (wordFrame p 0x385 data s)

/-- LKO_SLEEP (R722): `waking` says that a wake source acts at the same tick (R729). -/
def execLkoSleep (p : Port) (data : Word) (waking : Bool) (s : State) : Res :=
  .next (wordFrame p 0x501 data
    (if waking && decide (s.sys.state = .run) then { s with lko := { s.lko with sourced := true } } else s))

/-- LKO_WAKE (R724). -/
def execLkoWake (p : Port) (data : Word) (s : State) : Res := .next (wordFrame p 0x502 data s)

/-- A command word with its code in the field of 2^`lo` times `2^n`; the other bits as the host writes them. -/
def withCode (lo n code : Nat) (data : Word) : Word :=
  let d := data.toNat
  toWord (d % 2 ^ lo + 2 ^ lo * code + d / 2 ^ (lo + n) * 2 ^ (lo + n))

/-- LOG_FETCH (R806). -/
def execLogFetch (p : Port) (data : Word) (s : State) : Res := .next (wordFrame p 0x593 (withCode 0 2 1 data) s)

/-- LOG_FETCH_PF. -/
def execLogFetchPf (p : Port) (data : Word) (s : State) : Res := .next (wordFrame p 0x593 (withCode 0 2 2 data) s)

/-- RND_DATA_READ (R817, R833). -/
def execRndDataRead (p : Port) (tie : Option HostFrame) (s : State) : Res :=
  let x := HostFrame.read 0x601
  atOwn s p x tie (runFrame p x)

/-- RND_OTPARM (R825). -/
def execRndOtparm (p : Port) (data : Word) (s : State) : Res := .next (wordFrame p 0x611 data s)

/-- PROGRAM_SLOT0 (R826). -/
def execProgramSlot0 (p : Port) (s : State) : Res := .next (wordFrame p 0x612 1 s)

/-- PROGRAM_SLOT1. -/
def execProgramSlot1 (p : Port) (s : State) : Res := .next (wordFrame p 0x612 2 s)

/-- REVOKE_SLOT0. -/
def execRevokeSlot0 (p : Port) (s : State) : Res := .next (wordFrame p 0x612 3 s)

/-- REVOKE_SLOT1. -/
def execRevokeSlot1 (p : Port) (s : State) : Res := .next (wordFrame p 0x612 4 s)

/-- REQUIRE_RIG_SIG. -/
def execRequireRigSig (p : Port) (s : State) : Res := .next (wordFrame p 0x612 5 s)

/-- OPEN_DEBUG. -/
def execOpenDebug (p : Port) (s : State) : Res := .next (wordFrame p 0x612 6 s)

/-- UPD_OPEN (R856): TARGET stands in [5:3]. -/
def execUpdOpen (p : Port) (data : Word) (tie : Option HostFrame) (s : State) : Res :=
  let x := HostFrame.write 0x682 (withCode 0 3 1 data)
  atOwn s p x tie (runFrame p x)

/-- UPD_CLOSE. -/
def execUpdClose (p : Port) (s : State) : Res := .next (wordFrame p 0x682 2 s)

/-- UPD_DISCARD (R879). -/
def execUpdDiscard (p : Port) (s : State) : Res := .next (wordFrame p 0x682 3 s)

/-- UPD_EXIT (R868). -/
def execUpdExit (p : Port) (s : State) : Res := .next (wordFrame p 0x682 4 s)

/-- UPD_HOLD. -/
def execUpdHold (p : Port) (s : State) : Res := .next (wordFrame p 0x682 5 s)

/-- UPD_PUSH (R857). -/
def execUpdPush (p : Port) (data : Word) (s : State) : Res := .next (wordFrame p 0x6BF data s)

/-- UPD_CONFIRM (R849). -/
def execUpdConfirm (p : Port) (data : Word) (s : State) : Res := .next (wordFrame p 0x687 data s)

/-- RIG_OPEN (R71). -/
def execRigOpen (p : Port) (tie : Option HostFrame) (s : State) : Res :=
  let x := HostFrame.write 0x70A 1
  atOwn s p x tie (runFrame p x)

/-- RIG_CLOSE. -/
def execRigClose (p : Port) (s : State) : Res := .next (wordFrame p 0x70A 2 s)

/-- RIG_VALIDATE (R57). -/
def execRigValidate (p : Port) (s : State) : Res := .next (wordFrame p 0x70A 3 s)

/-- RIG_APPLY_LIVE (R58). -/
def execRigApplyLive (p : Port) (s : State) : Res := .next (wordFrame p 0x70A 4 s)

/-- RIG_STORE (R64). -/
def execRigStore (p : Port) (s : State) : Res := .next (wordFrame p 0x70A 5 s)

/-- REC_ARM (R899). -/
def execRecArm (p : Port) (s : State) : Res := .next (wordFrame p 0x783 1 s)

/-- REC_FREEZE (R895). -/
def execRecFreeze (p : Port) (s : State) : Res := .next (wordFrame p 0x783 2 s)

/-- REC_STOP (R908). -/
def execRecStop (p : Port) (s : State) : Res := .next (wordFrame p 0x783 3 s)

/-- REC_REPLAY (R901). -/
def execRecReplay (p : Port) (data : Word) (s : State) : Res := .next (wordFrame p 0x784 data s)

/-- TTH_SEARCH (R414, R435): TETHER stands in [1:0]. -/
def execTthSearch (p : Port) (data : Word) (s : State) : Res := .next (wordFrame p 0x2C0 (withCode 2 2 1 data) s)

/-- TTH_RESYNC (R432). -/
def execTthResync (p : Port) (data : Word) (s : State) : Res := .next (wordFrame p 0x2C0 (withCode 2 2 2 data) s)

/-- TTH_HEAL_NOW (R425). -/
def execTthHealNow (p : Port) (data : Word) (s : State) : Res := .next (wordFrame p 0x2C0 (withCode 2 2 3 data) s)

/-- SAT_CMD_RESTART (R469). -/
def execSatCmdRestart (p : Port) (data : Word) (s : State) : Res := .next (wordFrame p 0x316 (withCode 0 3 1 data) s)

/-- SAT_CMD_RIPCORD. -/
def execSatCmdRipcord (p : Port) (data : Word) (s : State) : Res := .next (wordFrame p 0x316 (withCode 0 3 2 data) s)

/-- SAT_CMD_TRACE_FETCH. -/
def execSatCmdTraceFetch (p : Port) (data : Word) (s : State) : Res := .next (wordFrame p 0x316 (withCode 0 3 3 data) s)

/-- SAT_CMD_TRACE_REARM. -/
def execSatCmdTraceRearm (p : Port) (data : Word) (s : State) : Res := .next (wordFrame p 0x316 (withCode 0 3 4 data) s)

/-- SAT_CMD_TRACE_FREEZE. -/
def execSatCmdTraceFreeze (p : Port) (data : Word) (s : State) : Res := .next (wordFrame p 0x316 (withCode 0 3 5 data) s)

/-- SAT_CMD_TRACE_REPLAY (R909). -/
def execSatCmdTraceReplay (p : Port) (data : Word) (s : State) : Res := .next (wordFrame p 0x316 (withCode 0 3 6 data) s)

/-- SAT_ZFACK_WRITE (R755). -/
def execSatZfackWrite (p : Port) (data : Word) (s : State) : Res := .next (wordFrame p 0x315 data s)

end Machine
end Sys2Proof
end

