-- ==== Sys2Proof/Machine/Dispatch.lean ====
section
/-!
DEFINITION. One arm per command: a direct call of its meaning, or its refusal by name.
-/
namespace Sys2Proof
namespace Machine

def exec (i : Instr) (s : State) : Host.Outcome State Fault Refusal :=
  match i with
  | .powerOnReset rail => Sys2Proof.Machine.execPowerOnReset rail s
  | .powerOnResetRelease => Sys2Proof.Machine.execPowerOnResetRelease s
  | .preCollapse => Sys2Proof.Machine.execPreCollapse s
  | .fatalLatchClear => Sys2Proof.Machine.execFatalLatchClear s
  | .pllLock => Sys2Proof.Machine.execPllLock s
  | .pllLockRetry => Sys2Proof.Machine.execPllLockRetry s
  | .pllSlip => Sys2Proof.Machine.execPllSlip s
  | .pllUnlock refLost => Sys2Proof.Machine.execPllUnlock refLost s
  | .resetNAssert => Sys2Proof.Machine.execResetNAssert s
  | .resetExit recov tmode => Sys2Proof.Machine.execResetExit recov tmode s
  | .bootComplete ripcordOk bad otpBad => Sys2Proof.Machine.execBootComplete ripcordOk bad otpBad s
  | .riggingComplete => Sys2Proof.Machine.execRiggingComplete s
  | .enumerateComplete => Sys2Proof.Machine.execEnumerateComplete s
  | .powerFailDeclare writing => Sys2Proof.Machine.execPowerFailDeclare writing s
  | .powerFailRelease => Sys2Proof.Machine.execPowerFailRelease s
  | .powerFailRecordCommit first second => Sys2Proof.Machine.execPowerFailRecordCommit first second s
  | .pfrReserveComplete first second => Sys2Proof.Machine.execPfrReserveComplete first second s
  | .vsl5Fall => Sys2Proof.Machine.execVsl5Fall s
  | .vsl5Rise => Sys2Proof.Machine.execVsl5Rise s
  | .vioLoss => Sys2Proof.Machine.execVioLoss s
  | .holdSelfCheckStart => Sys2Proof.Machine.execHoldSelfCheckStart s
  | .holdSelfCheckDone ticks => Sys2Proof.Machine.execHoldSelfCheckDone ticks s
  | .holdLow => Sys2Proof.Machine.execHoldLow s
  | .almFilterChange level => Sys2Proof.Machine.execAlmFilterChange level s
  | .sysAlarmWrite p data => Sys2Proof.Machine.execSysAlarmWrite p data s
  | .cardInserted slot => Sys2Proof.Machine.execCardInserted slot s
  | .cardRemoved slot others => Sys2Proof.Machine.execCardRemoved slot others s
  | .wpChange slot level => Sys2Proof.Machine.execWpChange slot level s
  | .currentTrip slot good others => Sys2Proof.Machine.execCurrentTrip slot good others s
  | .undervoltageTrip slot good others => Sys2Proof.Machine.execUndervoltageTrip slot good others s
  | .vccWinExpiry slot others => Sys2Proof.Machine.execVccWinExpiry slot others s
  | .atrTimeout slot => Sys2Proof.Machine.execAtrTimeout slot s
  | .classTrialWaitEnd slot => Sys2Proof.Machine.execClassTrialWaitEnd slot s
  | .vccDischarged slot => Sys2Proof.Machine.execVccDischarged slot s
  | .dischargeSlow slot => Sys2Proof.Machine.execDischargeSlow slot s
  | .railEnable rail => Sys2Proof.Machine.execRailEnable rail s
  | .railRiseWindowEnd rail => Sys2Proof.Machine.execRailRiseWindowEnd rail s
  | .shutdownStepAdvance byWindow => Sys2Proof.Machine.execShutdownStepAdvance byWindow s
  | .warnShutdownStart => Sys2Proof.Machine.execWarnShutdownStart s
  | .rlsRelease p data tie => Sys2Proof.Machine.execRlsRelease p data tie s
  | .rlsTrimWrite p rail data tie => Sys2Proof.Machine.execRlsTrimWrite p rail data tie s
  | .trimStep => Sys2Proof.Machine.execTrimStep s
  | .trimFault rail => Sys2Proof.Machine.execTrimFault rail s
  | .moduleRailRaise tether => Sys2Proof.Machine.execModuleRailRaise tether s
  | .grailGapElapsed sat => Sys2Proof.Machine.execGrailGapElapsed sat s
  | .satGrailFail sat rail => Sys2Proof.Machine.execSatGrailFail sat rail s
  | .scanSample code done ruleEcc => Sys2Proof.Machine.execScanSample code done ruleEcc s
  | .sweepStart => Sys2Proof.Machine.execSweepStart s
  | .sweepQuery sat num vpsGood rx => Sys2Proof.Machine.execSweepQuery sat num vpsGood rx s
  | .sweepReport pos num words rx => Sys2Proof.Machine.execSweepReport pos num words rx s
  | .sweepResend pos => Sys2Proof.Machine.execSweepResend pos s
  | .sweepClose => Sys2Proof.Machine.execSweepClose s
  | .swpPinWrite p data => Sys2Proof.Machine.execSwpPinWrite p data s
  | .registerWrite p addr data crc tie => Sys2Proof.Machine.execRegisterWrite p addr data crc tie s
  | .burstRead p addr count crc upsets tie => Sys2Proof.Machine.execBurstRead p addr count crc upsets tie s
  | .burstWrite p addr count crc words crc16 tie => Sys2Proof.Machine.execBurstWrite p addr count crc words crc16 tie s
  | .malformedTransaction p burstWrite edges bits => Sys2Proof.Machine.execMalformedTransaction p burstWrite edges bits s
  | .groupLatchRead p addr data crc tie => Sys2Proof.Machine.execGroupLatchRead p addr data crc tie s
  | .groupShadowWrite p addr data => Sys2Proof.Machine.execGroupShadowWrite p addr data s
  | .groupCommit p addr data tie => Sys2Proof.Machine.execGroupCommit p addr data tie s
  | .rcRead p addr tie => Sys2Proof.Machine.execRcRead p addr tie s
  | .hstAgainRead p => Sys2Proof.Machine.execHstAgainRead p s
  | .hstHbeatWrite p data => Sys2Proof.Machine.execHstHbeatWrite p data s
  | .heartbeatLapse p tie => Sys2Proof.Machine.execHeartbeatLapse p tie s
  | .portReset p data tie => Sys2Proof.Machine.execPortReset p data tie s
  | .sysRestart p data => Sys2Proof.Machine.execSysRestart p data s
  | .morTake p n tie => Sys2Proof.Machine.execMorTake p n tie s
  | .morRelease p n data tie => Sys2Proof.Machine.execMorRelease p n data tie s
  | .morRelall p data tie => Sys2Proof.Machine.execMorRelall p data tie s
  | .morClaim p data tie => Sys2Proof.Machine.execMorClaim p data tie s
  | .morFree p data tie => Sys2Proof.Machine.execMorFree p data tie s
  | .morPeeralm p data => Sys2Proof.Machine.execMorPeeralm p data s
  | .ordPush p data eccSingle eccBad upsets tie => Sys2Proof.Machine.execOrdPush p data eccSingle eccBad upsets tie s
  | .orderAdvance slot upsets => Sys2Proof.Machine.execOrderAdvance slot upsets s
  | .orderAdmission id upsets => Sys2Proof.Machine.execOrderAdmission id upsets s
  | .orderQueueTimeout id => Sys2Proof.Machine.execOrderQueueTimeout id s
  | .ordRtailWrite p data => Sys2Proof.Machine.execOrdRtailWrite p data s
  | .ordCancel p data => Sys2Proof.Machine.execOrdCancel p data s
  | .pclAlloc p tie => Sys2Proof.Machine.execPclAlloc p tie s
  | .pclRelease p data tie => Sys2Proof.Machine.execPclRelease p data tie s
  | .pclWinWrite p k data tie => Sys2Proof.Machine.execPclWinWrite p k data tie s
  | .pclWinRead p k err tie => Sys2Proof.Machine.execPclWinRead p k err tie s
  | .activate slot => Sys2Proof.Machine.execActivate slot s
  | .warmReset slot => Sys2Proof.Machine.execWarmReset slot s
  | .deactivate slot => Sys2Proof.Machine.execDeactivate slot s
  | .exchange slot upsets => Sys2Proof.Machine.execExchange slot upsets s
  | .rawBlock slot => Sys2Proof.Machine.execRawBlock slot s
  | .pps slot => Sys2Proof.Machine.execPps slot s
  | .clockStop slot => Sys2Proof.Machine.execClockStop slot s
  | .clockStopIdleReached slot => Sys2Proof.Machine.execClockStopIdleReached slot s
  | .clockResume slot => Sys2Proof.Machine.execClockResume slot s
  | .clockResumeSettled slot => Sys2Proof.Machine.execClockResumeSettled slot s
  | .sdInit slot cmd0 cmd8 => Sys2Proof.Machine.execSdInit slot cmd0 cmd8 s
  | .sdRead slot rx again => Sys2Proof.Machine.execSdRead slot rx again s
  | .sdWrite slot rx response => Sys2Proof.Machine.execSdWrite slot rx response s
  | .sdStatus slot rx again => Sys2Proof.Machine.execSdStatus slot rx again s
  | .nonce id raw => Sys2Proof.Machine.execNonce id raw s
  | .nonceFill id => Sys2Proof.Machine.execNonceFill id s
  | .satSleep id => Sys2Proof.Machine.execSatSleep id s
  | .satWake id => Sys2Proof.Machine.execSatWake id s
  | .satRail id => Sys2Proof.Machine.execSatRail id s
  | .satUpdate id => Sys2Proof.Machine.execSatUpdate id s
  | .updFetch id cap fault media => Sys2Proof.Machine.execUpdFetch id cap fault media s
  | .characterSend slot ioHigh errorSignal => Sys2Proof.Machine.execCharacterSend slot ioHigh errorSignal s
  | .characterReceived slot glitch early value framingLow => Sys2Proof.Machine.execCharacterReceived slot glitch early value framingLow s
  | .ioLowWaitExpiry slot => Sys2Proof.Machine.execIoLowWaitExpiry slot s
  | .atrCharacterTimeout slot => Sys2Proof.Machine.execAtrCharacterTimeout slot s
  | .wtExpiry slot => Sys2Proof.Machine.execWtExpiry slot s
  | .cwtExpiry slot => Sys2Proof.Machine.execCwtExpiry slot s
  | .blockReceived slot => Sys2Proof.Machine.execBlockReceived slot s
  | .bwtExpiry slot => Sys2Proof.Machine.execBwtExpiry slot s
  | .cardTimeLimit slot => Sys2Proof.Machine.execCardTimeLimit slot s
  | .sltDivCommit p data => Sys2Proof.Machine.execSltDivCommit p data s
  | .sdBusyRelease slot ms rx => Sys2Proof.Machine.execSdBusyRelease slot ms rx s
  | .sdBusyTimeout slot => Sys2Proof.Machine.execSdBusyTimeout slot s
  | .sdTokenTimeout slot => Sys2Proof.Machine.execSdTokenTimeout slot s
  | .sdAcmd41Poll slot cmd55 cmd41 cmd58 cmd9 again cmd16 => Sys2Proof.Machine.execSdAcmd41Poll slot cmd55 cmd41 cmd58 cmd9 again cmd16 s
  | .sdRunIdleClose slot rx => Sys2Proof.Machine.execSdRunIdleClose slot rx s
  | .ldgSourceWrite p data tie => Sys2Proof.Machine.execLdgSourceWrite p data tie s
  | .ldgBattremWrite p data => Sys2Proof.Machine.execLdgBattremWrite p data s
  | .lkoSleep p data waking => Sys2Proof.Machine.execLkoSleep p data waking s
  | .lkoWake p data => Sys2Proof.Machine.execLkoWake p data s
  | .faultAck p addr data => Sys2Proof.Machine.execFaultAck p addr data s
  | .wordParityFail blk kind word => Sys2Proof.Machine.execWordParityFail blk kind word s
  | .lockstepMismatch => Sys2Proof.Machine.execLockstepMismatch s
  | .codeEccError => Sys2Proof.Machine.execCodeEccError s
  | .blockResetDone blk => Sys2Proof.Machine.execBlockResetDone blk s
  | .ripcordContinuityCheck ok => Sys2Proof.Machine.execRipcordContinuityCheck ok s
  | .safeRewalk => Sys2Proof.Machine.execSafeRewalk s
  | .logRecordWrite retries => Sys2Proof.Machine.execLogRecordWrite retries s
  | .logSectorErase retries => Sys2Proof.Machine.execLogSectorErase retries s
  | .wearTableWrite retries => Sys2Proof.Machine.execWearTableWrite retries s
  | .logFetch p data => Sys2Proof.Machine.execLogFetch p data s
  | .logFetchPf p data => Sys2Proof.Machine.execLogFetchPf p data s
  | .logFetchDone p => Sys2Proof.Machine.execLogFetchDone p s
  | .rndStartupPass raw => Sys2Proof.Machine.execRndStartupPass raw s
  | .rndStartupRetry => Sys2Proof.Machine.execRndStartupRetry s
  | .rndContinuousFail raw => Sys2Proof.Machine.execRndContinuousFail raw s
  | .rndDataRead p tie => Sys2Proof.Machine.execRndDataRead p tie s
  | .bootCountRoll bad => Sys2Proof.Machine.execBootCountRoll bad s
  | .rndOtparm p data => Sys2Proof.Machine.execRndOtparm p data s
  | .otpArmExpiry => Sys2Proof.Machine.execOtpArmExpiry s
  | .programSlot0 p => Sys2Proof.Machine.execProgramSlot0 p s
  | .programSlot1 p => Sys2Proof.Machine.execProgramSlot1 p s
  | .revokeSlot0 p => Sys2Proof.Machine.execRevokeSlot0 p s
  | .revokeSlot1 p => Sys2Proof.Machine.execRevokeSlot1 p s
  | .requireRigSig p => Sys2Proof.Machine.execRequireRigSig p s
  | .openDebug p => Sys2Proof.Machine.execOpenDebug p s
  | .otpProgramDone checkOk => Sys2Proof.Machine.execOtpProgramDone checkOk s
  | .tapInstruction code => Sys2Proof.Machine.execTapInstruction code s
  | .updOpen p data tie => Sys2Proof.Machine.execUpdOpen p data tie s
  | .updClose p => Sys2Proof.Machine.execUpdClose p s
  | .updDiscard p => Sys2Proof.Machine.execUpdDiscard p s
  | .updExit p => Sys2Proof.Machine.execUpdExit p s
  | .updHold p => Sys2Proof.Machine.execUpdHold p s
  | .updPush p data => Sys2Proof.Machine.execUpdPush p data s
  | .imageWriteDone wear => Sys2Proof.Machine.execImageWriteDone wear s
  | .recoveryCardFlow cap fault media => Sys2Proof.Machine.execRecoveryCardFlow cap fault media s
  | .updConfirm p data => Sys2Proof.Machine.execUpdConfirm p data s
  | .trialExpiry confirmed => Sys2Proof.Machine.execTrialExpiry confirmed s
  | .deferredTrialRestart => Sys2Proof.Machine.execDeferredTrialRestart s
  | .rigOpen p tie => Sys2Proof.Machine.execRigOpen p tie s
  | .rigClose p => Sys2Proof.Machine.execRigClose p s
  | .rigValidate p => Sys2Proof.Machine.execRigValidate p s
  | .rigStore p => Sys2Proof.Machine.execRigStore p s
  | .rigApplyLive p => Sys2Proof.Machine.execRigApplyLive p s
  | .rigCommandDone wear => Sys2Proof.Machine.execRigCommandDone wear s
  | .recorderSeed => Sys2Proof.Machine.execRecorderSeed s
  | .recorderFreezeDelayEnd => Sys2Proof.Machine.execRecorderFreezeDelayEnd s
  | .recorderDumpDone ok ramCorr ramUncorr wear => Sys2Proof.Machine.execRecorderDumpDone ok ramCorr ramUncorr wear s
  | .recArm p => Sys2Proof.Machine.execRecArm p s
  | .recFreeze p => Sys2Proof.Machine.execRecFreeze p s
  | .recStop p => Sys2Proof.Machine.execRecStop p s
  | .recReplay p data => Sys2Proof.Machine.execRecReplay p data s
  | .replayTick outs => Sys2Proof.Machine.execReplayTick outs s
  | .beaconSend tether pairK => Sys2Proof.Machine.execBeaconSend tether pairK s
  | .ripcordSymbol sat pairK => Sys2Proof.Machine.execRipcordSymbol sat pairK s
  | .satRipcordIsolate sat => Sys2Proof.Machine.execSatRipcordIsolate sat s
  | .wakeSymbol sat all position => Sys2Proof.Machine.execWakeSymbol sat all position s
  | .ringInputLost sat pairK => Sys2Proof.Machine.execRingInputLost sat pairK s
  | .satRelock sat => Sys2Proof.Machine.execSatRelock sat s
  | .satPllLock sat pairK => Sys2Proof.Machine.execSatPllLock sat pairK s
  | .silenceTimeout sat => Sys2Proof.Machine.execSilenceTimeout sat s
  | .enumQuery sat hop rx => Sys2Proof.Machine.execEnumQuery sat hop rx s
  | .enumAnswer tether uid hwver ringver hop rx => Sys2Proof.Machine.execEnumAnswer tether uid hwver ringver hop rx s
  | .enumWalkTimeout tether => Sys2Proof.Machine.execEnumWalkTimeout tether s
  | .assign sat uid position prov rx => Sys2Proof.Machine.execAssign sat uid position prov rx s
  | .assignAck pos rx => Sys2Proof.Machine.execAssignAck pos rx s
  | .delayFrame sat rx => Sys2Proof.Machine.execDelayFrame sat rx s
  | .delayMarkerEcho sat => Sys2Proof.Machine.execDelayMarkerEcho sat s
  | .delayEchoArrival pos t4 => Sys2Proof.Machine.execDelayEchoArrival pos t4 s
  | .delayAnswer pos c rx => Sys2Proof.Machine.execDelayAnswer pos c rx s
  | .tsync sat t5 d rx => Sys2Proof.Machine.execTsync sat t5 d rx s
  | .cack pos h code rx => Sys2Proof.Machine.execCack pos h code rx s
  | .cmdResend pos => Sys2Proof.Machine.execCmdResend pos s
  | .rack sat tg rx => Sys2Proof.Machine.execRack sat tg rx s
  | .resultResend sat => Sys2Proof.Machine.execResultResend sat s
  | .wakeResend pos => Sys2Proof.Machine.execWakeResend pos s
  | .doneResult pos tg slot oid status full first rx => Sys2Proof.Machine.execDoneResult pos tg slot oid status full first rx s
  | .dataResult pos tg slot oid offset data rx => Sys2Proof.Machine.execDataResult pos tg slot oid offset data rx s
  | .slotResult pos tg slot event state rx => Sys2Proof.Machine.execSlotResult pos tg slot event state rx s
  | .wrapResult pos tg lostF lostK portB rx => Sys2Proof.Machine.execWrapResult pos tg lostF lostK portB rx s
  | .healReadyResult pos tg rx => Sys2Proof.Machine.execHealReadyResult pos tg rx s
  | .restartedResult pos tg cause rx => Sys2Proof.Machine.execRestartedResult pos tg cause rx s
  | .wokenResult pos tg rx => Sys2Proof.Machine.execWokenResult pos tg rx s
  | .railResult pos tg g0 g1 rx => Sys2Proof.Machine.execRailResult pos tg g0 g1 rx s
  | .identResult pos tg part build minor major image rx => Sys2Proof.Machine.execIdentResult pos tg part build minor major image rx s
  | .locksrcResult pos tg srcK rx => Sys2Proof.Machine.execLocksrcResult pos tg srcK rx s
  | .faultResult pos tg word rx => Sys2Proof.Machine.execFaultResult pos tg word rx s
  | .traceResult pos tg slot chunk bytes rx => Sys2Proof.Machine.execTraceResult pos tg slot chunk bytes rx s
  | .powerResult pos tg back rx => Sys2Proof.Machine.execPowerResult pos tg back rx s
  | .replayResult pos tg slot entry status rx => Sys2Proof.Machine.execReplayResult pos tg slot entry status rx s
  | .linkSend sat => Sys2Proof.Machine.execLinkSend sat s
  | .linkFrame sat receiving wrapped rx => Sys2Proof.Machine.execLinkFrame sat receiving wrapped rx s
  | .healReadyTimer sat => Sys2Proof.Machine.execHealReadyTimer sat s
  | .healFrame sat unwrap rx => Sys2Proof.Machine.execHealFrame sat unwrap rx s
  | .healAnswer tether fromB unwrap rx => Sys2Proof.Machine.execHealAnswer tether fromB unwrap rx s
  | .healResend tether => Sys2Proof.Machine.execHealResend tether s
  | .healCancel tether => Sys2Proof.Machine.execHealCancel tether s
  | .unwrap tether => Sys2Proof.Machine.execUnwrap tether s
  | .tetherRewalk tether => Sys2Proof.Machine.execTetherRewalk tether s
  | .tthSearch p data => Sys2Proof.Machine.execTthSearch p data s
  | .tthResync p data => Sys2Proof.Machine.execTthResync p data s
  | .tthHealNow p data => Sys2Proof.Machine.execTthHealNow p data s
  | .setSat sat h args rx => Sys2Proof.Machine.execSetSat sat h args rx s
  | .setSlot sat h args rx => Sys2Proof.Machine.execSetSlot sat h args rx s
  | .put sat h slot offset data rx => Sys2Proof.Machine.execPut sat h slot offset data rx s
  | .orderCommand sat h slot opcode length param oid rx => Sys2Proof.Machine.execOrderCommand sat h slot opcode length param oid rx s
  | .sleepCommand sat h rx => Sys2Proof.Machine.execSleepCommand sat h rx s
  | .railCommand sat h action rx => Sys2Proof.Machine.execRailCommand sat h action rx s
  | .traceFetch sat h slot rx => Sys2Proof.Machine.execTraceFetch sat h slot rx s
  | .traceRearm sat h slot rx => Sys2Proof.Machine.execTraceRearm sat h slot rx s
  | .traceFreeze sat h slot rx => Sys2Proof.Machine.execTraceFreeze sat h slot rx s
  | .traceFreezeCount slot => Sys2Proof.Machine.execTraceFreezeCount slot s
  | .slotRelease sat h slot rx => Sys2Proof.Machine.execSlotRelease sat h slot rx s
  | .faultAckCommand sat h bits rx => Sys2Proof.Machine.execFaultAckCommand sat h bits rx s
  | .ripcordCommand sat h mask rx => Sys2Proof.Machine.execRipcordCommand sat h mask rx s
  | .restartCommand sat h rx => Sys2Proof.Machine.execRestartCommand sat h rx s
  | .identCommand sat h rx => Sys2Proof.Machine.execIdentCommand sat h rx s
  | .traceReplayCommand sat h slot chunk bytes rx => Sys2Proof.Machine.execTraceReplayCommand sat h slot chunk bytes rx s
  | .updBegin sat h args rx => Sys2Proof.Machine.execUpdBegin sat h args rx s
  | .updData sat h offset data rx => Sys2Proof.Machine.execUpdData sat h offset data rx s
  | .updEnd sat h rx => Sys2Proof.Machine.execUpdEnd sat h rx s
  | .updAbort sat h rx => Sys2Proof.Machine.execUpdAbort sat h rx s
  | .satUpdateTimeout pos => Sys2Proof.Machine.execSatUpdateTimeout pos s
  | .satCmdRestart p data => Sys2Proof.Machine.execSatCmdRestart p data s
  | .satCmdRipcord p data => Sys2Proof.Machine.execSatCmdRipcord p data s
  | .satCmdTraceFetch p data => Sys2Proof.Machine.execSatCmdTraceFetch p data s
  | .satCmdTraceRearm p data => Sys2Proof.Machine.execSatCmdTraceRearm p data s
  | .satCmdTraceFreeze p data => Sys2Proof.Machine.execSatCmdTraceFreeze p data s
  | .satCmdTraceReplay p data => Sys2Proof.Machine.execSatCmdTraceReplay p data s
  | .satZfackWrite p data => Sys2Proof.Machine.execSatZfackWrite p data s
  | .satVinLost sat => Sys2Proof.Machine.execSatVinLost sat s
  | .satVinBack sat => Sys2Proof.Machine.execSatVinBack sat s
  | .satVpsLow sat => Sys2Proof.Machine.execSatVpsLow sat s
  | .satTotalOvercurrent sat slot => Sys2Proof.Machine.execSatTotalOvercurrent sat slot s
  | .satFatalFault sat bit => Sys2Proof.Machine.execSatFatalFault sat bit s
  | .satRstN sat => Sys2Proof.Machine.execSatRstN sat s
  | .buckStart => Sys2Proof.Machine.execBuckStart s
  | .buckStop => Sys2Proof.Machine.execBuckStop s
  | .vioRestore => Sys2Proof.Machine.execVioRestore s
  | .hubRingInputLost tether retSide => Sys2Proof.Machine.execHubRingInputLost tether retSide s
  | .ringInputRegained place pairK => Sys2Proof.Machine.execRingInputRegained place pairK s
  | .dir0FrameReturned tether enumQuery farEnd => Sys2Proof.Machine.execDir0FrameReturned tether enumQuery farEnd s
  | .tsyncAnswer pos rx => Sys2Proof.Machine.execTsyncAnswer pos rx s
  | .satPowerOn sat uid hwver ringver fw rcv => Sys2Proof.Machine.execSatPowerOn sat uid hwver ringver fw rcv s
  | .satConversion sat codes => Sys2Proof.Machine.execSatConversion sat codes s
  | .grailLowerWindowEnd sat => Sys2Proof.Machine.execGrailLowerWindowEnd sat s
  | .satHoldLow sat => Sys2Proof.Machine.execSatHoldLow sat s
  | .lostSilenceRelease pos => Sys2Proof.Machine.execLostSilenceRelease pos s
  | .rndBlockFormed raw => Sys2Proof.Machine.execRndBlockFormed raw s
  | .ppsCharacterTimeout slot => Sys2Proof.Machine.execPpsCharacterTimeout slot s
  | .satLoaderEraseDone sat => Sys2Proof.Machine.execSatLoaderEraseDone sat s
  | .updIdentPoll pos => Sys2Proof.Machine.execUpdIdentPoll pos s

end Machine
end Sys2Proof
end

