-- ==== Sys2Proof/Machine/Ticks.lean ====
section
/-!
DEFINITION. The end of a tick: what the flight recorder writes of it (26, R888 to R893, R906), the rail words of a power-fail
record declared in it (R209), and the counters' advance.
-/
namespace Sys2Proof
namespace Machine

/-! ### What a tick has shown -/

/-- Input levels by their codes (Table - Edge codes): the levels this model holds. -/
def edgeLevels (s : State) : List (Nat × Bool) :=
  [(0x00, s.pins.almRaw)] ++ [0, 1, 2, 3].map (fun k => (0x02 + k, (slotGet s k).det)) ++
    [(0x06, (slotGet s 0).wpTab), (0x10, s.sup.pf), (0x11, s.sup.buck), (0x12, s.sup.vsl5Ok), (0x13, s.pins.vioOk),
     (0x14, s.sys.refOk), (0x15, s.sys.pllLocked)]

/-- The levels of output classes 1 and 2: HOK, PFW_N, TRAP_N, the two IRQ_N, ENn, TRMn; the local slots' contacts. -/
def outLevels (s : State) : List OutEvent :=
  [{ cls := 1, src := 0, value := [byte (bit (hokHigh s))] }, { cls := 1, src := 1, value := [byte (bit (!pfwLow s))] },
   { cls := 1, src := 2, value := [byte (bit (!trapOn s))] }, { cls := 1, src := 3, value := [byte (bit (!irqOn s .a))] },
   { cls := 1, src := 4, value := [byte (bit (!irqOn s .b))] }] ++
  railNos.map (fun n => { cls := 1, src := 5 + n, value := [byte (bit (railEn s n))] }) ++
  railNos.map (fun n => { cls := 1, src := 13 + n
                          value := natLe 2 ((railGet s n).trimMag + 256 * bit (railGet s n).trimSink) }) ++
  ([0, 1, 2, 3].map (fun k =>
    let x := slotGet s k
    let out := fun (i v : Nat) => ({ cls := 2, src := 8 * k + i, value := natLe 2 v } : OutEvent)
    [out 0 (bit x.pins.vccOn), out 1 (bit x.pins.rst), out 2 (bit x.pins.clkRun + 2 * bit x.pins.clkHigh), out 3 x.ch.div,
     out 4 (bit x.pins.ioLow), out 5 (bit x.pins.aux1)])).flatten

/-- ORD_RHEAD. -/
def returnHead (s : State) (p : Port) : Nat :=
  let b := perPortGet s.ord.banks p
  (b.rtail + b.ring.length) % 128

/-- What the next tick is compared with. -/
def seenNow (s : State) : Seen :=
  { edges := edgeLevels s, outs := outLevels s, rheadA := returnHead s .a, rheadB := returnHead s .b, ready := s.rnd.ready
    state := s.sys.state }

/-- The payload of a frame that the output signature takes: not the parcel bytes of a PUT command (Table - Output classes). -/
def signedSyms (l : List Sym) : List Byte :=
  let bytes := l.filterMap (fun y => match y with
    | .d b => some b
    | .beacon => some 0x3C
    | .ripcord => some 0xF7
    | .wake => some 0x7C
    | _ => none)
  if (bytes.getD 1 0).toNat / 16 = 1 ∧ bytes.getD 3 0 = 0x03 then bytes.take 7 ++ bytes.drop (bytes.length - 2) else bytes

/-- The returns of a port posted since its write index stood at `before`. -/
def postedSince (s : State) (p : Port) (before : Nat) : List Ret :=
  let l := (perPortGet s.ord.banks p).ring
  l.drop (l.length - (returnHead s p + 128 - before) % 128)

/-- The four words of a return, in bytes. -/
def returnBytes (r : Ret) : List Byte :=
  natLe 2 r.tag ++ natLe 2 (r.code + 256 * bit r.seen + 512 * bit r.dup) ++ natLe 2 r.length ++ natLe 2 r.slot

/-- The output events of the tick (Table - Output classes). -/
def tickOuts (s : State) (x : Seen) : List OutEvent :=
  let tethers := s.tth.tethers.toList
  (outLevels s).filter (fun e => !x.outs.contains e) ++
  ((List.range 4).map (fun t => ((tethers.getD t {}).sent).map (fun e =>
    ({ cls := 3, src := 2 * t + bit (decide (e.1 = .retEnd)), value := signedSyms e.2 } : OutEvent)))).flatten ++
  s.ports.a.said ++ s.ports.b.said ++
  (postedSince s .a x.rheadA).map (fun r => { cls := 5, src := 0, value := returnBytes r }) ++
  (postedSince s .b x.rheadB).map (fun r => { cls := 5, src := 1, value := returnBytes r }) ++
  s.log.ops.map (fun e => { cls := 6, src := e.2.1, value := natLe 2 e.2.1 }) ++
  s.log.faults.map (fun e => { cls := 7, src := 16 * e.1 + e.2.1, value := [byte e.1, byte e.2.1, byte e.2.2] }) ++
  (s.lko.rules.filter (fun e => e.2.acted)).map (fun e =>
    { cls := 8, src := e.1, value := [byte e.1, byte (field (ruleWord e.2 3) 0 8)] })

/-! ### The recorder's tick (R888 to R893) -/

/-- An input as an entry of the tick. -/
def entryOf (tick : Nat) (e : RecIn) : RecEntry := { tick := tick, kind := e.kind, sub := e.sub, payload := e.payload }

/-- A scan belongs to the recording that runs. -/
def scanOf (s : State) : List RecEntry :=
  match s.mea.scanned with
  | some x => if s.rcd.since ≤ x.tick then [x] else []
  | none => []

/-- The entries of the tick, in the order of their kinds (Table - Entry kinds). -/
def tickEntries (s : State) (x : Seen) : List RecEntry :=
  let t := s.sys.tick
  let slots := ([0, 1, 2, 3].map (fun k => (slotGet s k).taken)).flatten
  let rings := (s.tth.tethers.toList.map (fun x => x.taken)).flatten
  let kindIn := fun (k : Nat) (l : List RecIn) => (l.filter (fun e => decide (e.kind = k))).map (entryOf t)
  let edges := ((edgeLevels s).filter (fun e => !x.edges.contains e)).map (fun e =>
    ({ tick := t, kind := 6, payload := [byte e.1, byte (bit e.2)] } : RecEntry))
  let mark := fun (e : Nat × Nat) => ({ tick := t, kind := 0xB, sub := e.1, payload := [byte e.2] } : RecEntry)
  scanOf s ++ kindIn 3 (s.ports.a.taken ++ s.ports.b.taken) ++ kindIn 4 rings ++ kindIn 5 rings ++ edges ++ kindIn 6 slots ++
    kindIn 7 slots ++ kindIn 8 slots ++
    s.log.ops.map (fun e => { tick := t, kind := 9, sub := bit e.1
                              payload := natLe 2 e.2.1 ++ [byte e.2.2.1, byte (bit (!e.2.2.2))] }) ++
    (if s.rnd.ready = x.ready then [] else [{ tick := t, kind := 0xA, sub := bit s.rnd.ready }]) ++
    s.rcd.marks.map mark ++ (if s.sys.state = x.state then [] else [mark (4, hubCode s.sys.state)]) ++
    (match signature (tickOuts s x) with
      | some (crc, n) => [{ tick := t, kind := 0xC, payload := natLe 2 crc ++ [byte n] }]
      | none => [])

/-- The source of an entry within its kind. -/
def entrySource (e : RecEntry) : Nat :=
  match e.kind with
  | 4 => e.sub % 8
  | 5 => e.sub % 8
  | 6 => (e.payload.headD 0).toNat
  | 7 => e.sub % 4
  | _ => e.sub

/-- The order of entries: tick, kind, source (R891). -/
def entryBefore (a b : RecEntry) : Bool :=
  decide (a.tick < b.tick) || (decide (a.tick = b.tick) && (decide (a.kind < b.kind) ||
    (decide (a.kind = b.kind) && decide (entrySource a < entrySource b))))

/-- An entry arrives at the input queue of 256 entries; at a full one it is lost (R893). -/
def arrive (r : Rec) (e : RecEntry) : Rec :=
  if r.queue.length < 256 then { r with queue := insertWith entryBefore e r.queue } else { r with lost := r.lost + 1 }

/-- The queue is written; a gap is marked where entries had been lost. -/
def drain (tick : Nat) (r : Rec) : Rec :=
  let r := { r.queue.foldl putItem r with queue := [] }
  if r.lost = 0 then r
  else { putItem r { tick := tick, kind := 0xB, sub := 1, payload := [byte (min 255 r.lost)] } with lost := 0 }

/-- A scan under way keeps the queue: its entry stands at the tick of its first sample (log entry 46). -/
def scanOpen (s : State) : Bool := s.mea.running && decide (s.mea.scanGot ≠ []) && decide (s.rcd.since ≤ s.mea.scanTick)

/-- The recorder takes the tick: nothing but its levels at a recording's first (R888); at a freeze the tick is still written. -/
def recordTick (s : State) : State :=
  let r := s.rcd
  if r.recording || r.closing then
    let r := (tickEntries s (r.seen.getD (seenNow s))).foldl arrive r
    let wait := scanOpen s && !r.closing
    let gap := !wait && decide (0 < r.lost)
    let r := if wait then r else drain s.sys.tick r
    let s := { s with rcd := { r with closing := false, seen := if r.recording then some (seenNow s) else none } }
    if gap then raise .rcd 3 s else s
  else s

/-! ### The tick -/

/-- R209: a power-fail record declared in the tick shows the rails and their lock as they stand after it. -/
def lateSnapshot (s : State) : State :=
  match s.sup.snapshot with
  | some x =>
    if s.sup.pfrBusy && decide (x.tick = s.sys.tick) then
      let w := x.words.take 5831 ++ snapshotRails s ++ x.words.drop (5831 + (snapshotRails s).length)
      { s with sup := { s.sup with snapshot := some { x with words := w } } }
    else s
  | none => s

/-- A tick of the block on which no command waits. -/
def tickStep (s : State) : State := dueAcks (updPace (idleTick (recordTick (lateSnapshot s))))

end Machine
end Sys2Proof
end

