-- ==== Sys2Proof/WellFormed.lean ====
section
/-!
DEFINITION. Well-formed commands: every operand lies in the range the manual gives it. Operands that are words, bits or
ports are in range by their type; checks here are those a type does not make.
-/
namespace Sys2Proof

/-- A slot by its place: a local slot 0 to 3, or a satellite's slot at place 1 to 63 of tether 0 to 3 (R19 to R21). -/
def slotOk (slot : Nat) : Bool := decide (slot < 1024) && (decide (slot < 4) || decide (slot / 4 % 64 ≠ 0))

/-- A satellite by its place, or a position: 1 to 63 on tether 0 to 3 (R384, R409). -/
def placeOk (sat : Nat) : Bool := decide (sat < 256) && decide (sat % 64 ≠ 0)

/-- As `placeOk`, or place 0: the hub's own end of a tether. -/
def placeOk0 (place : Nat) : Bool := decide (place < 256)

/-- How a ring frame arrived: a position of a tether in its header, and no more symbols than a frame can hold (R397). -/
def Arrival.wellFormed (rx : Arrival) : Bool := decide (rx.pos < 64) &&
  decide ((rx.raw.getD []).length ≤ 1023)

/-- An upset names a byte of a parcel (R369). -/
def Upset.wellFormed (u : Upset) : Bool := decide (u.parcel < 512) && decide (u.at_ < 512)

/-- A burst's count fits its 10 bits (Table - Frame from the host). -/
def HostFrame.wellFormed : HostFrame → Bool
  | .read _ => true
  | .write _ _ => true
  | .burstRead _ count => decide (count < 1024)
  | .burstWrite _ words => decide (words.length < 1024)

/-- A command whose operands are all in range. -/
def Instr.wellFormed : Instr → Bool
  | .powerOnReset rail => decide (rail < 8)
  | .powerOnResetRelease => true
  | .preCollapse => true
  | .fatalLatchClear => true
  | .pllLock => true
  | .pllLockRetry => true
  | .pllSlip => true
  | .pllUnlock _ => true
  | .resetNAssert => true
  | .resetExit _ _ => true
  | .bootComplete _ _ otpBad => otpBad.all (fun i => decide (i < 6))
  | .riggingComplete => true
  | .enumerateComplete => true
  | .powerFailDeclare _ => true
  | .powerFailRelease => true
  | .powerFailRecordCommit first second => decide (first ≤ 9) && decide (second ≤ 9)
  | .pfrReserveComplete first second => decide (first ≤ 9) && decide (second ≤ 9)
  | .vsl5Fall => true
  | .vsl5Rise => true
  | .vioLoss => true
  | .holdSelfCheckStart => true
  | .holdSelfCheckDone _ => true
  | .holdLow => true
  | .almFilterChange _ => true
  | .sysAlarmWrite _ _ => true
  | .cardInserted slot => slotOk slot
  | .cardRemoved slot _ => slotOk slot
  | .wpChange slot _ => slotOk slot
  | .currentTrip slot _ _ => slotOk slot
  | .undervoltageTrip slot _ _ => slotOk slot
  | .vccWinExpiry slot _ => slotOk slot
  | .atrTimeout slot => slotOk slot
  | .classTrialWaitEnd slot => slotOk slot
  | .vccDischarged slot => slotOk slot
  | .dischargeSlow slot => slotOk slot
  | .railEnable rail => decide (rail < 8)
  | .railRiseWindowEnd rail => decide (rail < 8)
  | .shutdownStepAdvance _ => true
  | .warnShutdownStart => true
  | .rlsRelease _ _ tie => tie.all HostFrame.wellFormed
  | .rlsTrimWrite _ rail _ tie => decide (rail < 8) && tie.all HostFrame.wellFormed
  | .trimStep => true
  | .trimFault rail => decide (rail < 8)
  | .moduleRailRaise tether => decide (tether < 4)
  | .grailGapElapsed sat => placeOk sat
  | .satGrailFail sat rail => placeOk sat && decide (rail < 2)
  | .scanSample code _ _ => decide (code < 1024)
  | .sweepStart => true
  | .sweepQuery sat num _ rx => placeOk sat && decide (num < 65536) && rx.wellFormed
  | .sweepReport pos num words rx => placeOk pos && decide (num < 65536) && decide (words.length = 19) && rx.wellFormed
  | .sweepResend pos => placeOk pos
  | .sweepClose => true
  | .swpPinWrite _ _ => true
  | .registerWrite _ _ _ _ tie => tie.all HostFrame.wellFormed
  | .burstRead _ _ count _ upsets tie => decide (count < 1024) && upsets.all Upset.wellFormed && tie.all HostFrame.wellFormed
  | .burstWrite _ _ count _ words _ tie =>
    decide (count < 1024) && decide (words.length = count) && tie.all HostFrame.wellFormed
  | .malformedTransaction _ _ edges bits => decide (bits.length ≤ edges)
  | .groupLatchRead _ _ _ _ tie => tie.all HostFrame.wellFormed
  | .groupShadowWrite _ _ _ => true
  | .groupCommit _ _ _ tie => tie.all HostFrame.wellFormed
  | .rcRead _ _ tie => tie.all HostFrame.wellFormed
  | .hstAgainRead _ => true
  | .hstHbeatWrite _ _ => true
  | .heartbeatLapse _ _ => true
  | .portReset _ _ tie => tie.all HostFrame.wellFormed
  | .sysRestart _ _ => true
  | .morTake _ n tie => decide (n < 16) && tie.all HostFrame.wellFormed
  | .morRelease _ n _ tie => decide (n < 16) && tie.all HostFrame.wellFormed
  | .morRelall _ _ tie => tie.all HostFrame.wellFormed
  | .morClaim _ _ tie => tie.all HostFrame.wellFormed
  | .morFree _ _ tie => tie.all HostFrame.wellFormed
  | .morPeeralm _ _ => true
  | .ordPush _ _ _ _ upsets tie => upsets.all Upset.wellFormed && tie.all HostFrame.wellFormed
  | .orderAdvance slot upsets => slotOk slot && upsets.all Upset.wellFormed
  | .orderAdmission _ upsets => upsets.all Upset.wellFormed
  | .orderQueueTimeout _ => true
  | .ordRtailWrite _ _ => true
  | .ordCancel _ _ => true
  | .pclAlloc _ tie => tie.all HostFrame.wellFormed
  | .pclRelease _ _ tie => tie.all HostFrame.wellFormed
  | .pclWinWrite _ k _ tie => decide (k < 64) && tie.all HostFrame.wellFormed
  | .pclWinRead _ k _ tie => decide (k < 64) && tie.all HostFrame.wellFormed
  | .activate slot => slotOk slot
  | .warmReset slot => slotOk slot
  | .deactivate slot => slotOk slot
  | .exchange slot upsets => slotOk slot && upsets.all Upset.wellFormed
  | .rawBlock slot => slotOk slot
  | .pps slot => slotOk slot
  | .clockStop slot => slotOk slot
  | .clockStopIdleReached slot => slotOk slot
  | .clockResume slot => slotOk slot
  | .clockResumeSettled slot => slotOk slot
  | .sdInit slot _ _ => slotOk slot
  | .sdRead slot _ _ => slotOk slot
  | .sdWrite slot _ _ => slotOk slot
  | .sdStatus slot _ _ => slotOk slot
  | .nonce _ raw => decide (raw.length ≤ 128)
  | .nonceFill _ => true
  | .satSleep _ => true
  | .satWake _ => true
  | .satRail _ => true
  | .satUpdate _ => true
  | .updFetch _ _ _ _ => true
  | .characterSend slot _ _ => slotOk slot
  | .characterReceived slot _ _ _ _ => slotOk slot
  | .ioLowWaitExpiry slot => slotOk slot
  | .atrCharacterTimeout slot => slotOk slot
  | .wtExpiry slot => slotOk slot
  | .cwtExpiry slot => slotOk slot
  | .blockReceived slot => slotOk slot
  | .bwtExpiry slot => slotOk slot
  | .cardTimeLimit slot => slotOk slot
  | .sltDivCommit _ _ => true
  | .sdBusyRelease slot _ _ => slotOk slot
  | .sdBusyTimeout slot => slotOk slot
  | .sdTokenTimeout slot => slotOk slot
  | .sdAcmd41Poll slot _ _ _ _ _ _ => slotOk slot
  | .sdRunIdleClose slot _ => slotOk slot
  | .ldgSourceWrite _ _ tie => tie.all HostFrame.wellFormed
  | .ldgBattremWrite _ _ => true
  | .lkoSleep _ _ _ => true
  | .lkoWake _ _ => true
  | .faultAck _ _ _ => true
  | .wordParityFail _ _ _ => true
  | .lockstepMismatch => true
  | .codeEccError => true
  | .blockResetDone _ => true
  | .ripcordContinuityCheck _ => true
  | .safeRewalk => true
  | .logRecordWrite _ => true
  | .logSectorErase _ => true
  | .wearTableWrite retries => decide (retries ≤ 9)
  | .logFetch _ _ => true
  | .logFetchPf _ _ => true
  | .logFetchDone _ => true
  | .rndStartupPass raw => decide (raw.length = 512)
  | .rndStartupRetry => true
  | .rndContinuousFail raw => decide (raw.length ≤ 128)
  | .rndDataRead _ tie => tie.all HostFrame.wellFormed
  | .bootCountRoll _ => true
  | .rndOtparm _ _ => true
  | .otpArmExpiry => true
  | .programSlot0 _ => true
  | .programSlot1 _ => true
  | .revokeSlot0 _ => true
  | .revokeSlot1 _ => true
  | .requireRigSig _ => true
  | .openDebug _ => true
  | .otpProgramDone _ => true
  | .tapInstruction code => decide (code < 256)
  | .updOpen _ _ tie => tie.all HostFrame.wellFormed
  | .updClose _ => true
  | .updDiscard _ => true
  | .updExit _ => true
  | .updHold _ => true
  | .updPush _ _ => true
  | .imageWriteDone _ => true
  | .recoveryCardFlow _ _ _ => true
  | .updConfirm _ _ => true
  | .trialExpiry _ => true
  | .deferredTrialRestart => true
  | .rigOpen _ tie => tie.all HostFrame.wellFormed
  | .rigClose _ => true
  | .rigValidate _ => true
  | .rigStore _ => true
  | .rigApplyLive _ => true
  | .rigCommandDone _ => true
  | .recorderSeed => true
  | .recorderFreezeDelayEnd => true
  | .recorderDumpDone _ _ _ _ => true
  | .recArm _ => true
  | .recFreeze _ => true
  | .recStop _ => true
  | .recReplay _ _ => true
  | .replayTick _ => true
  | .beaconSend tether _ => decide (tether < 4)
  | .ripcordSymbol sat _ => placeOk sat
  | .satRipcordIsolate sat => placeOk sat
  | .wakeSymbol sat _ position => placeOk sat && decide (position < 64)
  | .ringInputLost sat _ => placeOk sat
  | .satRelock sat => placeOk sat
  | .satPllLock sat _ => placeOk sat
  | .silenceTimeout sat => placeOk sat
  | .enumQuery sat hop rx => placeOk sat && decide (hop < 256) && rx.wellFormed
  | .enumAnswer tether uid _ _ hop rx => decide (tether < 4) && decide (uid < 2 ^ 64) && decide (hop < 256) && rx.wellFormed
  | .enumWalkTimeout tether => decide (tether < 4)
  | .assign sat uid position _ rx => placeOk sat && decide (uid < 2 ^ 64) && decide (position < 64) && rx.wellFormed
  | .assignAck pos rx => placeOk pos && rx.wellFormed
  | .delayFrame sat rx => placeOk sat && rx.wellFormed
  | .delayMarkerEcho sat => placeOk sat
  | .delayEchoArrival pos _ => placeOk pos
  | .delayAnswer pos _ rx => placeOk pos && rx.wellFormed
  | .tsync sat _ _ rx => placeOk sat && rx.wellFormed
  | .cack pos _ code rx => placeOk pos && decide (code < 256) && rx.wellFormed
  | .cmdResend pos => placeOk pos
  | .rack sat _ rx => placeOk sat && rx.wellFormed
  | .resultResend sat => placeOk sat
  | .wakeResend pos => placeOk pos
  | .doneResult pos _ slot oid status _ _ rx =>
    placeOk pos && decide (slot < 4) && decide (oid < 65536) && decide (status < 256) && rx.wellFormed
  | .dataResult pos _ slot oid offset data rx =>
    placeOk pos && decide (slot < 4) && decide (oid < 65536) && decide (offset < 2 ^ 24) &&
      decide (data.length < 257) && rx.wellFormed
  | .slotResult pos _ slot _ _ rx => placeOk pos && decide (slot < 4) && rx.wellFormed
  | .wrapResult pos _ _ _ _ rx => placeOk pos && rx.wellFormed
  | .healReadyResult pos _ rx => placeOk pos && rx.wellFormed
  | .restartedResult pos _ _ rx => placeOk pos && rx.wellFormed
  | .wokenResult pos _ rx => placeOk pos && rx.wellFormed
  | .railResult pos _ _ _ rx => placeOk pos && rx.wellFormed
  | .identResult pos _ _ _ _ _ _ rx => placeOk pos && rx.wellFormed
  | .locksrcResult pos _ _ rx => placeOk pos && rx.wellFormed
  | .faultResult pos _ _ rx => placeOk pos && rx.wellFormed
  | .traceResult pos _ slot chunk _ rx => placeOk pos && decide (slot < 4) && decide (chunk < 16) && rx.wellFormed
  | .powerResult pos _ _ rx => placeOk pos && rx.wellFormed
  | .replayResult pos _ slot _ status rx => placeOk pos && decide (slot < 4) && decide (status < 256) && rx.wellFormed
  | .linkSend sat => placeOk0 sat
  | .linkFrame sat _ _ rx => placeOk0 sat && rx.wellFormed
  | .healReadyTimer sat => placeOk0 sat
  | .healFrame sat _ rx => placeOk sat && rx.wellFormed
  | .healAnswer tether _ _ rx => decide (tether < 4) && rx.wellFormed
  | .healResend tether => decide (tether < 4)
  | .healCancel tether => decide (tether < 4)
  | .unwrap tether => decide (tether < 4)
  | .tetherRewalk tether => decide (tether < 4)
  | .tthSearch _ _ => true
  | .tthResync _ _ => true
  | .tthHealNow _ _ => true
  | .setSat sat _ _ rx => placeOk sat && rx.wellFormed
  | .setSlot sat _ _ rx => placeOk sat && rx.wellFormed
  | .put sat _ slot offset data rx =>
    placeOk sat && decide (slot < 4) && decide (offset < 2 ^ 24) && decide (data.length < 257) && rx.wellFormed
  | .orderCommand sat _ slot opcode length param oid rx =>
    placeOk sat && decide (slot < 4) && decide (opcode < 256) && decide (length < 65536) &&
      decide (param < 65536) && decide (oid < 65536) && rx.wellFormed
  | .sleepCommand sat _ rx => placeOk sat && rx.wellFormed
  | .railCommand sat _ _ rx => placeOk sat && rx.wellFormed
  | .traceFetch sat _ slot rx => placeOk sat && decide (slot < 4) && rx.wellFormed
  | .traceRearm sat _ slot rx => placeOk sat && decide (slot < 4) && rx.wellFormed
  | .traceFreeze sat _ slot rx => placeOk sat && decide (slot < 4) && rx.wellFormed
  | .traceFreezeCount slot => slotOk slot
  | .slotRelease sat _ slot rx => placeOk sat && decide (slot < 4) && rx.wellFormed
  | .faultAckCommand sat _ _ rx => placeOk sat && rx.wellFormed
  | .ripcordCommand sat _ _ rx => placeOk sat && rx.wellFormed
  | .restartCommand sat _ rx => placeOk sat && rx.wellFormed
  | .identCommand sat _ rx => placeOk sat && rx.wellFormed
  | .traceReplayCommand sat _ slot chunk _ rx => placeOk sat && decide (slot < 4) && decide (chunk < 16) && rx.wellFormed
  | .updBegin sat _ _ rx => placeOk sat && rx.wellFormed
  | .updData sat _ offset data rx => placeOk sat && decide (offset < 2 ^ 24) && decide (data.length < 257) && rx.wellFormed
  | .updEnd sat _ rx => placeOk sat && rx.wellFormed
  | .updAbort sat _ rx => placeOk sat && rx.wellFormed
  | .satUpdateTimeout pos => placeOk pos
  | .satCmdRestart _ _ => true
  | .satCmdRipcord _ _ => true
  | .satCmdTraceFetch _ _ => true
  | .satCmdTraceRearm _ _ => true
  | .satCmdTraceFreeze _ _ => true
  | .satCmdTraceReplay _ _ => true
  | .satZfackWrite _ _ => true
  | .satVinLost sat => placeOk sat
  | .satVinBack sat => placeOk sat
  | .satVpsLow sat => placeOk sat
  | .satTotalOvercurrent sat slot => placeOk sat && decide (slot < 4)
  | .satFatalFault sat bit => placeOk sat && decide (bit < 9)
  | .satRstN sat => placeOk sat
  | .buckStart => true
  | .buckStop => true
  | .vioRestore => true
  | .hubRingInputLost tether _ => decide (tether < 4)
  | .ringInputRegained place _ => placeOk0 place
  | .dir0FrameReturned tether _ _ => decide (tether < 4)
  | .tsyncAnswer pos rx => placeOk pos && rx.wellFormed
  | .satPowerOn sat uid _ _ _ _ => placeOk sat && decide (uid < 2 ^ 64)
  | .satConversion sat _ => placeOk sat
  | .grailLowerWindowEnd sat => placeOk sat
  | .satHoldLow sat => placeOk sat
  | .lostSilenceRelease pos => placeOk pos
  | .rndBlockFormed raw => decide (raw.length = 128)
  | .ppsCharacterTimeout slot => slotOk slot
  | .satLoaderEraseDone sat => placeOk sat
  | .updIdentPoll pos => placeOk pos

end Sys2Proof
end

