-- ==== Sys2Proof/Safety.lean ====
section
/-!
DEFINITION. What counts as a safe state and a safe step, in the terms the statements use: the invariant that every step
keeps, the one-time store, completion, fault events, entry to FATAL, port answers, and what stays unchanged.
-/
namespace Sys2Proof
namespace Safety

open Sys2Proof.Machine

/-! ### The invariant -/

/-- The tick counter holds 60 bits (R81). -/
def TickOk (s : State) : Prop := s.sys.tick ≤ 0xFFFFFFFFFFFFFFF

/-- OTP holds 16 version floor entries (R852). -/
def FloorsOk (s : State) : Prop := s.rnd.otp.floors.length ≤ 16

/-- A key slot that is being programmed is empty (R826). -/
def ProgramOk (s : State) : Prop :=
  match s.rnd.otpCmd with
  | some (1, _) => s.rnd.otp.hash0 = 0
  | some (2, _) => s.rnd.otp.hash1 = 0
  | _ => True

/-- Every waiting command is well formed. -/
def QueueOk (s : State) : Prop := ∀ c ∈ s.pending, c.wellFormed = true

/-- The invariant that every step keeps. -/
structure Inv (s : State) : Prop where
  tick : TickOk s
  floors : FloorsOk s
  program : ProgramOk s
  queue : QueueOk s

/-- OTP bits move from 0 to 1 only: what was programmed stays (R825). -/
structure OtpKept (a b : Otp) : Prop where
  hash0 : a.hash0 ≠ 0 → b.hash0 = a.hash0
  hash1 : a.hash1 ≠ 0 → b.hash1 = a.hash1
  revoked0 : a.revoked0 = true → b.revoked0 = true
  revoked1 : a.revoked1 = true → b.revoked1 = true
  rigSigReq : a.rigSigReq = true → b.rigSigReq = true
  debugOpen : a.debugOpen = true → b.debugOpen = true
  testClosed : b.testClosed = a.testClosed
  floors : a.floors <+: b.floors

/-! ### Completion -/

/-- The command is carried out: it answers a next state, and `P` holds of that state. -/
def Completes (r : Res) (P : State → Prop) : Prop := ∃ t, r = .next t ∧ P t

/-! ### Fault events (21) -/

/-- The hub takes faults: it is neither unpowered nor in FATAL. -/
abbrev Live (s : State) : Prop := s.sys.state ≠ .off ∧ s.sys.state ≠ .fatal

/-- No unacknowledged event of contained class, or held at that class, stands in the bank (R743). -/
abbrev NoneContained (s : State) (b : FBlk) : Prop := uPend (containedMask b) (bankGet s.fb b) = false

/-- An event of the source does not lead to FATAL (R737 to R743). -/
abbrev StaysContained (s : State) (b : FBlk) (k : Nat) : Prop :=
  classOf b k = .corrected ∨ (classOf b k = .contained ∧ NoneContained s b)

/-- What a fault event may touch besides its own bank: the log queue, the recorder's freeze, the wake of the cores. -/
def FaultFrame (s t : State) : Prop :=
  t = { s with
    fb := t.fb, log := t.log, rcd := t.rcd, lko := t.lko, ports := t.ports
    sys := { s.sys with state := t.sys.state } }

/-- Source `k` of a block has been raised between `s` and `t` and the hub stays out of FATAL: its sticky bit is set, the word
keeps its parity, reaction words and the other banks stay, and the hub state changes only from STANDBY to RUN. -/
structure Raised (b : FBlk) (k : Nat) (s t : State) : Prop where
  bits : stickyBits (bankGet t.fb b) = stickyBits (bankGet s.fb b) ||| srcBit k
  parity : oddOnes (bankGet t.fb b).fst = true
  frx0 : (bankGet t.fb b).frx0 = (bankGet s.fb b).frx0
  frx1 : (bankGet t.fb b).frx1 = (bankGet s.fb b).frx1
  frx2 : (bankGet t.fb b).frx2 = (bankGet s.fb b).frx2
  others : ∀ c, c ≠ b → bankGet t.fb c = bankGet s.fb c
  hub : t.sys.state = s.sys.state ∨ (s.sys.state = .standby ∧ t.sys.state = .run)
  frame : FaultFrame s t

/-- FATAL has been entered: latch and SYS_FATAL words, counter stopped, rails frozen with every ENn as it was, trims at high
impedance (R201, R753). -/
structure FatalEntered (number k kind : Nat) (s t : State) : Prop where
  hub : t.sys.state = .fatal
  latch : t.fatal.latch = true
  fatal0 : t.fatal.fatal0 = toWord (number + 32 * k)
  fatal1 : t.fatal.fatal1 = toWord kind
  stopped : t.sys.tickRunning = false
  tick : t.sys.tick = s.sys.tick
  frozen : t.rls.frozen = true
  en : t.pins.en = s.pins.en
  trims : t.pins.trmZ = 0xFF

/-! ### Port answers (08, 09) -/

/-- A frame of the port to the address is taken up: the port answers, VIO is up, the hub state admits it (R30, R134, R272). -/
abbrev Admitted (s : State) (p : Port) (write : Bool) (a : Nat) : Prop :=
  heard s p = true ∧ hostRights s.sys.state write a = none

/-- A write of a word whose block is not being reset (R757). -/
abbrev WriteAdmitted (s : State) (p : Port) (a : Nat) : Prop := Admitted s p true a ∧ blockResets s p a = false

/-- The CRC-8 at a frame's end is that of its OP, ADDR and DATA (R244). -/
abbrev GoodCrc (op : Nat) (a : Addr) (d : Word) (crc : Byte) : Prop := crc8 24 (frameBits op a.toNat d.toNat) = crc.toNat

/-- The state as a burst write of the port finds it: the recorder has noted the transaction's bits (R891). -/
def burstSeen (p : Port) (a : Addr) (words : List Word) (crc16 : BitVec 16) (s : State) : State :=
  takeSdi p (48 + 10 * words.length)
    (sdiHead 3 a.toNat words.length ++ (words.map (fun w => bitsMsb 10 w.toNat)).flatten ++ bitsMsb 16 crc16.toNat) s

/-- A frame to the address belongs to no replayed block (R904). -/
abbrev NotReplayed (s : State) : Prop := s.sys.state ≠ .replay

/-- The response that the port's next assertion carries. -/
def Owes (t : State) (p : Port) (st : Stat) (a : Nat) (d : Word) : Prop :=
  (portGet t p).owed = { stat := st, addr := a, data := d }

/-- What a frame that acts elsewhere leaves of the port words: only the port's responses move, and what the recorder notes of
its frames in the tick. -/
def PortsAnswer (s t : State) (p : Port) : Prop :=
  t.ports = perPortSet s.ports p { portGet s p with
    sent := (portGet t p).sent, sdo := (portGet t p).sdo, owed := (portGet t p).owed, taken := (portGet t p).taken
    said := (portGet t p).said }

/-! ### Slots and satellites (13, 14) -/

/-- The slot's deactivation has begun between `s` and `t` (R494 to R498): contacts off, FALLING, with its cause, whether it is
an emergency, and what the order there, which stays at the slot until then, will end with. -/
structure Falls (k cause : Nat) (emergency : Bool) (status : Option Nat) (s t : State) : Prop where
  st : (slotGet t k).st = .falling
  cause : (slotGet t k).cause = cause
  emergency : (slotGet t k).emergency = emergency
  status : (slotGet t k).fallStatus = status
  pins : (slotGet t k).pins = contactsOff
  since : (slotGet t k).fallTick = s.sys.tick
  run : ((slotGet t k).run).map Running.oid = ((slotGet s k).run).map Running.oid

/-- Between `s` and `t` the slot became `x`, but for the character trace that a satellite slot keeps and the inputs that the
recorder notes at a local slot; nothing else moved. -/
def SlotIs (k : Nat) (x : Slot) (s t : State) : Prop :=
  slotGet t k = { x with trace := (slotGet t k).trace, taken := (slotGet t k).taken } ∧
  (isLocal k = true → (slotGet t k).trace = (slotGet s k).trace) ∧
  (∀ j, j ≠ k → slotGet t j = slotGet s j) ∧ t = { s with slots := t.slots }

/-- A satellite sends, or has waiting, a RESULT. -/
def Sends (x : Sat) (r : SatResult) : Prop := x.sending = some r ∨ r ∈ x.results

/-- A return with this tag and code has been posted on the port's ring. -/
def Returned (t : State) (p : Port) (tag code : Nat) : Prop :=
  ∃ r, (perPortGet t.ord.banks p).ring.getLast? = some r ∧ r.tag = tag ∧ r.code = code

/-- An order has ended between `s` and `t` with a code: no order of the hub has its id any more, and unless it was the
ledger's own or its return is discarded (R327), its return is the last on its port's ring. -/
structure OrderEnds (o : Order) (code : Nat) (t : State) : Prop where
  gone : orderGet t o.id = none
  ret : o.internal = false → o.discard = false → Returned t o.port o.tag code

/-- The engine of a slot ends the order it runs with a code and no data: the hub's order ends (local slot), or the satellite
reports DONE with the order id, the code and length 0. -/
structure RunEnds (k : Nat) (r : Running) (code : Nat) (s t : State) : Prop where
  free : (slotGet t k).run = none
  hub : isLocal k = true → ∀ o, orderGet s r.oid = some o → OrderEnds o code t
  done : isLocal k = false →
    Sends (satGet t (k / 4)) { kind := 0x01, slot := k % 4, payload := arg2 r.oid ++ [byte code, 0, 0, 0] }

/-- What arrived is taken as the frame, whether it came as it was sent or as symbols that make it (R399). -/
abbrev Arrives (f : RingFrame) (rx : Arrival) : Prop := arrivesAs (frameOk f) (fun r => decide (r = f)) rx = true

/-- A satellite takes a frame: it has a clock, holds the position named, and the frame arrived valid (R383, R399). -/
abbrev TakesFrame (x : Sat) (f : RingFrame) (rx : Arrival) : Prop :=
  satHears x = true ∧ named x rx = true ∧ Arrives f rx

/-- A satellite takes a command with toggle `h`: its frame arrived, H is new, and the satellite is awake (R402, R458). -/
abbrev TakesAny (x : Sat) (h : Bool) (code : Nat) (args : List Byte) (rx : Arrival) : Prop :=
  TakesFrame x (cmdFrame rx h code args) rx ∧ h ≠ x.lastH ∧ x.cond ≠ .asleep

/-- The same of a satellite that runs its application (R869). -/
abbrev TakesCmd (x : Sat) (h : Bool) (code : Nat) (args : List Byte) (rx : Arrival) : Prop :=
  TakesAny x h code args rx ∧ x.imageState = 0

/-- A satellite that has answered a command with toggle `h` by a CACK with a code (R402). -/
def cacked (h : Bool) (code : Nat) (rx : Arrival) (x : Sat) : Sat :=
  satAnswer rx 1 h [byte code] { x with lastH := h, cack := code }

/-- The reaction of a satellite's own source, where it is raised, ends at its sticky bit and its report (Table - Reactions in a
ZG4: codes 0 to 2 and 5). -/
abbrev MildSource (x : Sat) (k : Nat) : Prop := codeOf x.fault k ≤ 2 ∨ codeOf x.fault k = 5

/-- A frame from a position of a tether toward the hub. -/
def upFrame (pos : Nat) (seq : Bool) (type : Nat) (payload : List Byte) : RingFrame :=
  { pos := posNo pos, dir := true, seq := seq, type := type, payload := payload }

/-- The hub takes a frame that a tether carries: the tether is declared, and the frame arrived valid (R399, R442). -/
abbrev HubTakes (s : State) (t : Nat) (f : RingFrame) (rx : Arrival) : Prop :=
  ringLive s = true ∧ (rigTether s t).isSome = true ∧ Arrives f rx

/-- The identity answer of a satellite (R407). -/
def identFrame (rx : Arrival) (uid hwver ringver hop : Nat) : RingFrame :=
  { pos := rx.pos, dir := true, type := 4, payload := natLe 8 uid ++ [byte hwver, byte ringver, byte hop] }

/-- The record of a position whose frame the hub has taken: on a wrapped tether it is reached by the end where the frame came
in (R419). -/
def heardView (pos : Nat) (rx : Arrival) (s : State) : SatView :=
  { viewGet s pos with
    path := if (tetherGet s (posTether pos)).mode = 3 then (if rx.pairK then .outEnd else .retEnd)
      else (viewGet s pos).path }

/-- Between `s` and `t` a tether's record became `x`, but for the frames that it carried; every other tether's stays. -/
def Carries (k : Nat) (x : Tether) (s t : State) : Prop :=
  tetherGet t k = { x with
    taken := (tetherGet t k).taken, sent := (tetherGet t k).sent, txOut := (tetherGet t k).txOut
    txRet := (tetherGet t k).txRet, txWait := (tetherGet t k).txWait } ∧
  ∀ j, j ≠ k → tetherGet t j = tetherGet s j

/-- The frame is the last that the hub sent from an end, unless the quiet time of a heal holds it back (R424). -/
def Leaves (k : Nat) (e : RingEnd) (f : RingFrame) (s t : State) : Prop :=
  quietNow s.sys.tick (tetherGet s k) = false → (tetherGet t k).sent.getLast? = some (e, frameSyms f)

/-- What taking a frame of a position changes whatever the frame tells. -/
def Heard (pos : Nat) (rx : Arrival) (s t : State) : Prop :=
  tetherGet t (posTether pos) = { tetherGet s (posTether pos) with taken := (tetherGet t (posTether pos)).taken } ∧
  (∀ j, j ≠ posTether pos → tetherGet t j = tetherGet s j) ∧ viewGet t pos = heardView pos rx s ∧
  ∀ q, q ≠ pos → viewGet t q = viewGet s q

/-- The hub takes a RESULT with toggle `b`, a kind, a slot and its payload from a position (R404, R405). -/
abbrev TakesResult (s : State) (pos : Nat) (b : Bool) (kind slot : Nat) (payload : List Byte) (rx : Arrival) : Prop :=
  HubTakes s (posTether pos) (upFrame pos b 2 ([byte kind, byte slot] ++ payload)) rx ∧ takesFrom s pos = true ∧
  (viewGet s pos).lastS ≠ b

/-- A RESULT frame as a row brings it to the hub. -/
structure ResultIn where
  pos : Nat
  s : Bool
  kind : Nat
  slot : Nat := 0xFF
  payload : List Byte
  rx : Arrival
  deriving DecidableEq, Repr

/-- The RESULT that a row brings (Table - RESULT kinds), but for RESTARTED. -/
def resultOf : Instr → Option ResultIn
  | .doneResult p b n oid status full l rx => some ⟨p, b, 1, n, arg2 oid ++ [byte status] ++ natLe 3 full ++ l, rx⟩
  | .dataResult p b n oid off l rx => some ⟨p, b, 2, n, arg2 oid ++ arg2 off ++ l, rx⟩
  | .slotResult p b n event st rx => some ⟨p, b, 3, n, [byte event, byte st], rx⟩
  | .wrapResult p b f k portB rx => some ⟨p, b, 4, 0xFF, [byte (bit f + 2 * bit k), byte (bit portB)], rx⟩
  | .healReadyResult p b rx => some ⟨p, b, 5, 0xFF, [], rx⟩
  | .wokenResult p b rx => some ⟨p, b, 7, 0xFF, [], rx⟩
  | .railResult p b g0 g1 rx => some ⟨p, b, 8, 0xFF, [byte g0, byte g1], rx⟩
  | .identResult p b part build minor major image rx =>
    some ⟨p, b, 9, 0xFF, arg2 part ++ arg2 build ++ arg2 minor ++ arg2 major ++ [byte image], rx⟩
  | .locksrcResult p b k rx => some ⟨p, b, 0x0A, 0xFF, [byte (bit k)], rx⟩
  | .faultResult p b w rx => some ⟨p, b, 0x0B, 0xFF, arg2 w.toNat, rx⟩
  | .traceResult p b n chunk l rx => some ⟨p, b, 0x0C, n, byte chunk :: l, rx⟩
  | .powerResult p b back rx => some ⟨p, b, 0x0D, 0xFF, [byte (bit back)], rx⟩
  | .replayResult p b n entry status rx => some ⟨p, b, 0x0E, n, arg2 entry ++ [byte status], rx⟩
  | _ => none

/-- A RESULT is acknowledged with its S by the end that reaches the position (R404). -/
abbrev Racks (pos : Nat) (b : Bool) (rx : Arrival) (s t : State) : Prop :=
  Leaves (posTether pos) (heardView pos rx s).path (hubFrame pos b 2 []) s t

/-- A CMD frame as a row brings it to a satellite. -/
structure CmdIn where
  sat : Nat
  h : Bool
  code : Nat
  args : List Byte
  rx : Arrival
  deriving DecidableEq, Repr

/-- The CMD that a row brings (Table - CMD codes). -/
def cmdOf : Instr → Option CmdIn
  | .setSat k h l rx => some ⟨k, h, 0x01, l, rx⟩
  | .setSlot k h l rx => some ⟨k, h, 0x02, l, rx⟩
  | .put k h n off l rx => some ⟨k, h, 0x03, byte n :: natLe 2 off ++ l, rx⟩
  | .orderCommand k h n op len param oid rx =>
    some ⟨k, h, 0x04, [byte n, byte op] ++ arg2 len ++ arg2 param ++ arg2 oid, rx⟩
  | .sleepCommand k h rx => some ⟨k, h, 0x05, [], rx⟩
  | .railCommand k h a rx => some ⟨k, h, 0x06, [byte a], rx⟩
  | .traceFetch k h n rx => some ⟨k, h, 0x07, [byte n, 1], rx⟩
  | .traceRearm k h n rx => some ⟨k, h, 0x07, [byte n, 2], rx⟩
  | .traceFreeze k h n rx => some ⟨k, h, 0x07, [byte n, 3], rx⟩
  | .slotRelease k h n rx => some ⟨k, h, 0x08, [byte n], rx⟩
  | .faultAckCommand k h bits rx => some ⟨k, h, 0x09, arg2 bits.toNat, rx⟩
  | .ripcordCommand k h mask rx => some ⟨k, h, 0x0A, [byte mask.toNat], rx⟩
  | .restartCommand k h rx => some ⟨k, h, 0x0B, [], rx⟩
  | .identCommand k h rx => some ⟨k, h, 0x0C, [], rx⟩
  | .traceReplayCommand k h n c l rx => some ⟨k, h, 0x0D, [byte n, byte c] ++ l, rx⟩
  | .updBegin k h l rx => some ⟨k, h, 0x10, l, rx⟩
  | .updData k h off l rx => some ⟨k, h, 0x11, natLe 3 off ++ l, rx⟩
  | .updEnd k h rx => some ⟨k, h, 0x12, [], rx⟩
  | .updAbort k h rx => some ⟨k, h, 0x13, [], rx⟩
  | _ => none

/-- The hub has nothing outstanding or queued for a satellite. -/
abbrev NothingSent (s : State) (pos : Nat) : Prop := (viewGet s pos).out = none ∧ (viewGet s pos).queue = []

/-- Every slot of a satellite that was in session falls by its local ripcord. -/
def SlotsFall (sat : Nat) (s t : State) : Prop :=
  ∀ n, n < 4 → inSession (slotGet s (4 * sat + n)) = true → Falls (4 * sat + n) 7 true (some 0x085) s t

/-- Every order that stood at a slot of a satellite without a session, and had not begun, ends with SAFE_STATE (R35). -/
def RunsCut (sat : Nat) (s t : State) : Prop :=
  ∀ n, n < 4 → ∀ r, (slotGet s (4 * sat + n)).run = some r → r.begun = false → inSession (slotGet s (4 * sat + n)) = false →
    (slotGet s (4 * sat + n)).st ≠ .falling → RunEnds (4 * sat + n) r 0x085 s t

/-! ### What stays -/

/-- Flash and OTP contents, and the satellites themselves, as no reset of the hub changes them. -/
structure FlashKept (s t : State) : Prop where
  otp : t.rnd.otp = s.rnd.otp
  bankA : t.upd.bankA = s.upd.bankA
  bankB : t.upd.bankB = s.upd.bankB
  store0 : t.upd.store0 = s.upd.store0
  store1 : t.upd.store1 = s.upd.store1
  setA : t.upd.setA = s.upd.setA
  setB : t.upd.setB = s.upd.setB
  rigA : rigWrites s.rig = false → t.rig.bankA = s.rig.bankA
  rigB : rigWrites s.rig = false → t.rig.bankB = s.rig.bankB
  ring : t.log.ring = s.log.ring
  snaps : t.log.snaps = s.log.snaps
  sats : t.sat.sats = s.sat.sats

/-- Every slot but `k` is unchanged. -/
def SlotsBut (k : Nat) (s t : State) : Prop := ∀ j, j ≠ k → slotGet t j = slotGet s j

/-- Every satellite but that at place `k` is unchanged. -/
def SatsBut (k : Nat) (s t : State) : Prop := ∀ j, j ≠ k → satGet t j = satGet s j

/-- Between `s` and `t` the satellite at place `k` became `x`; nothing else moved. -/
def SatIs (k : Nat) (x : Sat) (s t : State) : Prop :=
  satGet t k = x ∧ (∀ j, j ≠ k → satGet t j = satGet s j) ∧ t = { s with sat := { s.sat with sats := t.sat.sats } }

/-- Between `s` and `t` the satellite at place `k` became `x`, but for the frames on its outputs; nothing else moved. -/
def SatOuts (k : Nat) (x : Sat) (s t : State) : Prop :=
  SatIs k { x with outF := (satGet t k).outF, outK := (satGet t k).outK } s t

/-- Between `s` and `t` the satellite at place `k` became `x`, but for what it sends, and has a RESULT to send; nothing else
moved. -/
def SatReports (k : Nat) (x : Sat) (r : SatResult) (s t : State) : Prop :=
  SatIs k { x with
    sending := (satGet t k).sending, results := (satGet t k).results, togS := (satGet t k).togS
    outF := (satGet t k).outF, outK := (satGet t k).outK } s t ∧
  Sends (satGet t k) r

/-- The hub's record of every position but `p` is unchanged. -/
def ViewsBut (p : Nat) (s t : State) : Prop := ∀ q, q ≠ p → viewGet t q = viewGet s q

/-- Every tether's record but that of `k` is unchanged. -/
def TethersBut (k : Nat) (s t : State) : Prop := ∀ j, j ≠ k → tetherGet t j = tetherGet s j

/-- Every rail's record but that of `n` is unchanged. -/
def RailsBut (n : Nat) (s t : State) : Prop := ∀ j, j ≠ n → railGet t j = railGet s j

/-- Every parcel but `n` is unchanged. -/
def ParcelsBut (n : Nat) (s t : State) : Prop := ∀ j, j ≠ n → parcelGet t j = parcelGet s j

/-- Between `s` and `t` the hub's record of position `p` became `x`; nothing else moved. -/
def ViewIs (p : Nat) (x : SatView) (s t : State) : Prop :=
  viewGet t p = x ∧ (∀ q, q ≠ p → viewGet t q = viewGet s q) ∧
  t = { s with sat := { s.sat with views := t.sat.views } }

/-- What an RND_OTPCMD write with command `c` leaves: the store programs, or the write is refused (R826). -/
abbrev OtpAnswers (s : State) (p : Port) (c : Nat) (t : State) : Prop :=
  (portGet t p).owed.addr = 0x612 ∧ portGet t p.other = portGet s p.other ∧
  (otpRefusal s p c = 0 → (portGet t p).owed.stat = .ok ∧ (portGet t p).owed.data = 0 ∧
    t = { s with rnd := { s.rnd with otpBusy := true, otpCmd := some (c, leNat s.rnd.hashWin) }, ports := t.ports }) ∧
  (otpRefusal s p c ≠ 0 → (portGet t p).owed.stat = .refused ∧ (portGet t p).refuseAddr = 0x612 ∧
    (portGet t p).refuseReason = 9 ∧
    t = { s with rnd := { s.rnd with refuseReason := otpRefusal s p c, refusePort := p }, ports := t.ports })

/-- A write frame of the port is refused for a reason of HST_REFUSE1 and acts on nothing but that port's words and a block's
own record of refusals. -/
structure Refused (s t : State) (p : Port) (a reason : Nat) : Prop where
  stat : (portGet t p).owed.stat = .refused
  addr : (portGet t p).owed.addr = a
  noted : (portGet t p).refuseAddr = a ∧ (portGet t p).refuseReason = reason
  other : portGet t p.other = portGet s p.other

/-- An UPD_CMD write refused for a reason of UPD_REFUSE (R864). -/
abbrev UpdRefuses (s : State) (p : Port) (why : Nat) (t : State) : Prop :=
  Refused s t p 0x682 9 ∧ t = { s with upd := { s.upd with refuse := why, refusePort := p }, ports := t.ports }

/-- A trial has ended unconfirmed (R850): REJECTED in the running bank, and a warm restart. -/
structure TrialAbandoned (s t : State) : Prop where
  hub : t.sys.state = .reset
  cause : t.start.nextCause = 2 ∧ t.start.nextBlock = 0x1A
  trial : t.sys.trial = false
  bank : fwBank t s.upd.runBank = { fwBank s s.upd.runBank with rejected := true }
  other : fwBank t (1 - s.upd.runBank) = fwBank s (1 - s.upd.runBank)
  otp : t.rnd.otp = s.rnd.otp

/-- A RIG_CMD write of code `c`, 3 to 5 (R70 to R73): it starts on the staged words, or is refused. -/
abbrev RigAnswers (s : State) (p : Port) (c : Nat) (t : State) : Prop :=
  (s.rig.owner = some p → s.rig.job = none → c = 3 ∨ s.sys.alarm = false →
    t.rig = { s.rig with cmd := c, reason := 0, errPos := 0, job := some { cmd := c, port := p, words := s.rig.staging } } ∧
    Owes t p .ok 0x70A 0 ∧ PortsAnswer s t p ∧ t = { s with rig := t.rig, ports := t.ports }) ∧
  (s.rig.owner = some p → s.rig.job = none → c ≠ 3 → s.sys.alarm = true →
    t.rig = { s.rig with cmd := c, reason := 0x14, errPos := 0 } ∧ Refused s t p 0x70A 9) ∧
  (s.rig.owner ≠ some p → t.rig.reason = 0x15 ∧ t.rig.job = s.rig.job ∧ t.rig.staging = s.rig.staging ∧
    Refused s t p 0x70A 9)

/-! ### The hub's frames -/

/-- The frame of a new command to a position leaves by the end that reaches it, with its H inverted, unless the quiet time of
a heal holds it back (R382, R402, R424). -/
def PutsCmd (pos : Nat) (c : HubCmd) (s t : State) : Prop :=
  (posTether pos < 4 → quietNow s.sys.tick (tetherGet s (posTether pos)) = false →
    tetherGet t (posTether pos) = hubPut (viewGet s pos).path
      (frameSyms (hubFrame pos (!(viewGet s pos).toggleH) 1 (byte c.code :: c.args))) (tetherGet s (posTether pos))) ∧
  TethersBut (posTether pos) s t

/-- A command goes to a satellite to which nothing was outstanding. -/
def CmdGoes (pos : Nat) (c : HubCmd) (s t : State) : Prop :=
  viewGet t pos = { viewGet s pos with out := some c, toggleH := !(viewGet s pos).toggleH } ∧ ViewsBut pos s t ∧
  PutsCmd pos c s t

/-- SAT_CMD sends a command to a satellite to which nothing was outstanding (R469); `fetch`: it is a trace fetch. -/
def HostCmd (p : Port) (pos code : Nat) (args : List Byte) (fetch : Bool) (s t : State) : Prop :=
  viewGet t pos = { viewGet s pos with
    cmdSt := 1, cackCode := 0, toggleH := !(viewGet s pos).toggleH
    out := some { code := code, args := args, fromHost := true } } ∧
  ViewsBut pos s t ∧ PutsCmd pos { code := code, args := args } s t ∧
  t.sat.trFetching = (s.sat.trFetching || fetch) ∧ Owes t p .ok 0x316 0 ∧ PortsAnswer s t p ∧
  t = { s with sat := t.sat, tth := t.tth, ports := t.ports }

/-! ### Replay -/

/-- The recorded entries that a replay takes at its next tick. -/
def replayNow (s : State) : List RecEntry := s.rcd.play.source.takeWhile (fun e => decide (e.tick ≤ nextTick s.rcd.rtick))

/-- Those it then still has to take. -/
def replayRest (s : State) : List RecEntry := s.rcd.play.source.dropWhile (fun e => decide (e.tick ≤ nextTick s.rcd.rtick))

/-- A gap stands among the entries of the next tick (R893). -/
def replayGap (s : State) : Bool := (replayNow s).any (fun e => decide (e.kind = 0xB ∧ e.sub = 1))

end Safety
end Sys2Proof
end

