-- ==== Sys2Proof/Certificates/Slice0/Obligations.lean ====
section
/-!
DEFINITION. The statements for the provers, from the numbered rules of spec/: whole-machine rules first, then the commands
family by family in the order of spec/opcode_table.json.
-/
open Sys2Proof Sys2Proof.Machine Sys2Proof.Safety

/-- A step takes the command at the front of the queue and runs it on the state with the queue's rest. -/
def Obligations.StepRunsFront : Prop :=
  ∀ (c : Instr) (rest : List Instr) (s : State),
    step { s with pending := c :: rest } = exec c { s with pending := rest }

/-- On an empty queue the block idles for one tick (R81, R82, R92, R307; that an idle step is one tick is the model's choice,
log entry 52): the hub's counter advances where it runs, a satellite's where it has a clock, and the priority alternates where
the tick decided a tie. Where nothing is due at the tick's end (no recording, no record to complete, no acknowledgment and no
update data), what was kept for the tick alone is dropped and nothing else changes. -/
def Obligations.IdleStepTicks : Prop :=
  (∀ s : State, s.pending = [] →
    Completes (step s) fun t =>
      (s.sys.tickRunning = true → s.sys.tick < 0xFFFFFFFFFFFFFFF → t.sys.tick = s.sys.tick + 1) ∧
      (s.sys.tickRunning = true → s.sys.tick = 0xFFFFFFFFFFFFFFF → t.sys.tick = 0) ∧
      (s.sys.tickRunning = false → t.sys.tick = s.sys.tick) ∧
      t.sys.prio = (if s.sys.tied then s.sys.prio.other else s.sys.prio) ∧ t.sys.tied = false ∧
      (∀ k, (satGet s k).lock = .none → (satGet t k).tick = (satGet s k).tick) ∧
      (∀ k, (satGet s k).lock ≠ .none → (satGet s k).tick < 0xFFFFFFFFFFFFFFF →
        (satGet t k).tick = (satGet s k).tick + 1)) ∧
  (∀ s : State, s.pending = [] → s.rcd.recording = false → s.rcd.closing = false → s.sup.snapshot = none →
    s.upd.nextAt = none → s.lko.ackDue = [] →
    Completes (step s) fun t =>
      (∀ b, bankGet t.fb b = { bankGet s.fb b with now := none }) ∧
      (∀ p, portGet t p = { portGet s p with ievtNew := 0, taken := [], said := [] }) ∧
      (∀ k, slotGet t k = { slotGet s k with taken := if k < 4 then [] else (slotGet s k).taken }) ∧
      (∀ k, satGet t k = { satGet s k with
        fault := { (satGet s k).fault with now := none }, tick := (satGet t k).tick, outF := (satGet t k).outF
        outK := (satGet t k).outK }) ∧
      (∀ k, (satGet s k).lock = .none → (satGet t k).outF = (satGet s k).outF ∧ (satGet t k).outK = (satGet s k).outK) ∧
      (∀ k, k < 4 → (tetherGet s k).quiet = none → tetherGet t k = { tetherGet s k with taken := [], sent := [] }) ∧
      (∀ k, tblGet {} t.lko.rules k = { tblGet {} s.lko.rules k with hitNew := false, acted := false }) ∧
      t = { s with
        sys := { s.sys with tick := t.sys.tick, prio := t.sys.prio, tied := false }
        fb := t.fb, fatal := { s.fatal with now := false }, ports := t.ports, slots := t.slots
        sat := { s.sat with sats := t.sat.sats }, tth := t.tth, rls := { s.rls with mrglimNew := 0, released := none }
        mea := { s.mea with scanned := none }, log := { s.log with ops := [], faults := [] }
        rcd := { s.rcd with marks := [] }
        lko := { s.lko with sourced := false, woken := false, ripped := [], rules := t.lko.rules } })

/-- Reset values of the register tables, as either port would read them: SYS_CAUSE, SYS_UPMS, SYS_START, SYS_WARMS, SYS_HOLDC,
SYS_HOLDE, SYS_PFCNT, RLS_RAILn and RLS_RISEn, SAT_DELAY0, the fault words with their parity, the default reaction words;
every latch and queue empty. -/
def Obligations.ResetValues : Prop :=
  State.reset.pending = [] ∧ State.reset.sys.tick = 0 ∧ State.reset.ord.orders = [] ∧
  ∀ p : Port,
    regRead State.reset p 0x06C = 0x100 ∧ regRead State.reset p 0x06D = 0 ∧ regRead State.reset p 0x06E = 0x3FF ∧
    regRead State.reset p 0x06F = 0 ∧ regRead State.reset p 0x083 = 0 ∧ regRead State.reset p 0x08D = 0 ∧
    regRead State.reset p 0x050 = 0x200 ∧ regRead State.reset p 0x0A0 = 0x200 ∧ regRead State.reset p 0x0F8 = 0x200 ∧
    regRead State.reset p 0x120 = 0x200 ∧ regRead State.reset p 0x430 = 0x200 ∧ regRead State.reset p 0x052 = 0x271 ∧
    regRead State.reset p 0x053 = 0x3B0 ∧ regRead State.reset p 0x054 = 0x206 ∧ regRead State.reset p 0x420 = 0x3FF ∧
    regRead State.reset p 0x300 = 0x004 ∧ regRead State.reset p 0x11D = 0 ∧ regRead State.reset p 0x583 = 0

/-- The invariant of `StepKeepsInv` holds at reset. -/
def Obligations.ResetIsSafe : Prop := Inv State.reset

/-- Every step keeps the invariant (R81, R826, R852). -/
def Obligations.StepKeepsInv : Prop := ∀ s t : State, Inv s → step s = .next t → Inv t

/-- OTP is one-time: no step clears what is programmed (R825, R826, R852). -/
def Obligations.StepKeepsOtp : Prop :=
  ∀ s t : State, Inv s → step s = .next t → OtpKept s.rnd.otp t.rnd.otp

/-- A command's effect is on everything but the queue of waiting commands. -/
def Obligations.ExecLeavesQueue : Prop :=
  ∀ (c : Instr) (s t : State), exec c s = .next t → t.pending = s.pending

/-- The tick counter is cleared by a power-on reset only (R81, R82); between ticks no command moves it. -/
def Obligations.OnlyPowerOnClearsTick : Prop :=
  ∀ (c : Instr) (s t : State), exec c s = .next t →
    t.sys.tick = s.sys.tick ∨
      (t.sys.tick = 0 ∧ ((∃ rail, c = .powerOnReset rail) ∨ c = .preCollapse ∨ c = .buckStart))

/-- A fault event that does not lead to FATAL (R734, R738, R742, R743, R744): `raise` sets the bit, keeps the parity, and
marks it held higher exactly where a corrected event of the block stood unacknowledged. -/
def Obligations.FaultEventRaised : Prop :=
  ∀ (b : FBlk) (k : Nat) (s : State), Live s → StaysContained s b k →
    Raised b k s (raise b k s) ∧
    (bankGet (raise b k s).fb b).raised =
      (if classOf b k = .corrected ∧ cPend (containedMask b) (bankGet s.fb b) = true then
        (bankGet s.fb b).raised ||| srcBit k else (bankGet s.fb b).raised)

/-- The ways from a source to FATAL (R737, R743, R753): a source of fatal class (kind 1), and a contained source while a
contained event of its block stands (kind 2). -/
def Obligations.FaultEventFatal : Prop :=
  (∀ (b : FBlk) (k : Nat) (s : State), Live s → classOf b k = .fatal →
    FatalEntered (blkNumber b) k 1 s (raise b k s)) ∧
  (∀ (b : FBlk) (k : Nat) (s : State), Live s → classOf b k = .contained →
    uPend (containedMask b) (bankGet s.fb b) = true → FatalEntered (blkNumber b) k 2 s (raise b k s))

/-- R129: in FATAL, RESET_N changes nothing. -/
def Obligations.FatalIgnoresResetN : Prop :=
  ∀ s : State, s.sys.state = .fatal → exec .resetNAssert s = .next s

/-- Supplies (R28, R81, R139, R140, R142, R134, R160, R162, R217). -/
def Obligations.SupplyCommands : Prop :=
  (∀ (rail : Nat) (s : State), s.sys.state ≠ .off → rail < 3 →
    Completes (exec (.powerOnReset rail) s) fun t =>
      t.sys.state = .reset ∧ t.sup.por = true ∧ t.sys.tick = 0 ∧ t.sys.tickRunning = false ∧ t.sys.pllLocked = false ∧
      t.rls = {} ∧ t.pins.en = 0 ∧ t.pins.trmZ = 0xFF ∧ t.ports = ⟨{}, {}⟩ ∧ t.mor = {} ∧ t.ord.orders = [] ∧
      t.start.nextCause = 0 ∧ t.start.streak = 0 ∧ t.start.count = 0 ∧ t.fatal = s.fatal ∧ FlashKept s t) ∧
  (∀ s : State, s.sup.por = true → s.sup.buck = true → s.sys.state = .reset →
    Completes (exec .powerOnResetRelease s) fun t =>
      t.sup.por = false ∧ t.sup.preOk = true ∧ t.sup.v18cOk = true ∧ t.sup.vdcOk = true ∧
      t.sup.charger = !s.sup.pf ∧ t.start = { s.start with resetHold := .none } ∧
      t = { s with sup := t.sup, start := t.start }) ∧
  (∀ s : State, s.sys.state ≠ .off →
    Completes (exec .preCollapse s) fun t =>
      t.sys.state = .off ∧ t.sup.preOk = false ∧ t.sup.buck = false ∧ t.sup.pf = false ∧ t.sys.tick = 0 ∧
      t.sys.alarm = false ∧ t.rls = {} ∧ t.fatal = s.fatal ∧ FlashKept s t) ∧
  (∀ s : State, s.sys.state = .off →
    Completes (exec .fatalLatchClear s) fun t => t.fatal.latch = false ∧ t = { s with fatal := {} }) ∧
  (∀ s : State, s.sys.state = .off →
    Completes (exec .buckStart s) fun t =>
      t.sys.state = .reset ∧ t.sup.buck = true ∧ t.sup.por = true ∧ t.fatal = s.fatal ∧ FlashKept s t) ∧
  (∀ s : State, s.sys.state ≠ .off →
    Completes (exec .buckStart s) fun t => t = { s with sup := { s.sup with buck := true } }) ∧
  (∀ s : State,
    Completes (exec .buckStop s) fun t => t = { s with sup := { s.sup with buck := false, charger := false } }) ∧
  (∀ s : State, s.sup.vsl5Ok = true → Live s → NoneContained s .slt →
    Completes (exec .vsl5Fall s) fun t =>
      (∀ k, k < 4 → inSession (slotGet s k) = true →
        (slotGet t k).st = .falling ∧ (slotGet t k).cause = 6 ∧ (slotGet t k).emergency = true ∧
        (slotGet t k).pins = contactsOff ∧ (slotGet t k).fallStatus = some 0x044) ∧
      (∀ k, 4 ≤ k ∨ (inSession (slotGet s k) = false ∧ fallsNow s (slotGet s k) = false) → slotGet t k = slotGet s k) ∧
      ((slotGet s 0).st ≠ .updating → t.upd = s.upd) ∧
      ((∀ k, k < 4 → (slotGet s k).pins.vccOn = false) → t.fb = s.fb) ∧
      ((∃ k, k < 4 ∧ (slotGet s k).pins.vccOn = true) →
        stickyBits t.fb.slt = stickyBits s.fb.slt ||| srcBit 4) ∧
      FaultFrame { s with sup := { s.sup with vsl5Ok := false }, slots := t.slots, upd := t.upd } t) ∧
  (∀ s : State,
    Completes (exec .vsl5Rise s) fun t => t = { s with sup := { s.sup with vsl5Ok := true } }) ∧
  (∀ s : State,
    Completes (exec .vioLoss s) fun t => t = { s with pins := { s.pins with vioOk := false } }) ∧
  (∀ s : State,
    Completes (exec .vioRestore s) fun t => t = { s with pins := { s.pins with vioOk := true } })

/-- The clock and RESET (R79 to R81, R99, R100, R104, R115, R123, R161, R202, R216, R272). -/
def Obligations.ClockAndReset : Prop :=
  (∀ s : State, s.sys.state = .reset → s.sup.por = false → s.sys.pllLocked = false →
    Completes (exec .pllLock s) fun t =>
      t.sys.pllLocked = true ∧ t.sys.tickRunning = true ∧ t.sys.tick = s.sys.tick ∧
      t = { s with sys := { s.sys with pllLocked := true, refOk := true, tickRunning := true } }) ∧
  (∀ s : State, Completes (exec .pllLockRetry s) fun t => t = s) ∧
  (∀ s : State, s.sys.pllLocked = true → Live s →
    Completes (exec .pllSlip s) fun t =>
      t.sys.slips = min 15 (s.sys.slips + 1) ∧
      Raised .sys 0 { s with sys := { s.sys with slips := min 15 (s.sys.slips + 1) } } t) ∧
  (∀ (refLost : Bool) (s : State), s.sys.pllLocked = true → Live s →
    Completes (exec (.pllUnlock refLost) s) fun t =>
      FatalEntered 0x01 1 1 s t ∧ t.sys.pllLocked = false ∧ t.sys.refOk = !refLost) ∧
  (∀ s : State, Live s → s.sup.por = false → s.pins.vioOk = true →
    Completes (exec .resetNAssert s) fun t =>
      t.sys.state = .reset ∧ t.start.nextCause = 1 ∧
      (s.sys.state ≠ .reset ∨ s.rls.falling = false → t.rls.rising = false) ∧
      (t.start.resetHold = .shutdown ↔ t.rls.falling = true) ∧ t.sys.tick = s.sys.tick ∧ t.fatal = s.fatal ∧
      (s.sys.state ≠ .reset → t.ports = ⟨{}, {}⟩ ∧ t.ord.orders = []) ∧ t.rnd.otp = s.rnd.otp) ∧
  (∀ (recov tmode : Bool) (s : State), resetDone s = true → s.fatal.latch = true →
    Completes (exec (.resetExit recov tmode) s) fun t =>
      t.sys.state = .fatal ∧ t.sys.tickRunning = false ∧ t.rls.frozen = true ∧
      t.pins = { s.pins with alm := false } ∧ t.sys.alarmReq = ⟨false, false⟩ ∧ t.sys.prio = .a ∧ t.fatal = s.fatal ∧
      t.ports.a.answering = true ∧ t.ports.b.answering = true) ∧
  (∀ (recov : Bool) (s : State), resetDone s = true → s.fatal.latch = false → s.rnd.otp.testClosed = true →
    Completes (exec (.resetExit recov true) s) fun t =>
      t.start.tmodeStuck = true ∧ t.ports = s.ports ∧
      t = { s with pins := t.pins, start := { s.start with tmodeStuck := true } }) ∧
  (∀ (recov : Bool) (s : State), resetDone s = true → s.fatal.latch = false →
    Completes (exec (.resetExit recov false) s) fun t =>
      t.sys.state = .boot ∧ t.pins.recov = recov ∧ t.start.cause = s.start.nextCause ∧
      t.start.cold = decide (s.start.nextCause = 0) ∧ t.start.upms = 0x3FF ∧ t.start.exitTick = s.sys.tick ∧
      t.ports.a.answering = true ∧ t.ports.b.answering = true ∧ t.ports.a.owed = {} ∧ t.ports.b.owed = {} ∧
      t.rnd.testing = true ∧ t.sys.tick = s.sys.tick ∧ t.fatal = s.fatal ∧ t.rls = s.rls ∧ FlashKept s t) ∧
  (∀ (recov : Bool) (s : State), resetDone s = true → s.fatal.latch = false → s.rnd.otp.testClosed = false →
    exec (.resetExit recov true) s = .fault .factoryTest)

/-- The start stages (R61, R119, R182, R195, R215, R218 to R221, R230, R231, R752, R828). -/
def Obligations.StartStages : Prop :=
  (∀ (bad : Nat) (otpBad : List Nat) (s : State), bootEnds s = true → NoneContained s .rnd → s.pins.recov = true →
    Completes (exec (.bootComplete true bad otpBad) s) fun t =>
      t.sys.state = .recovery ∧ t.start.recovReq = true ∧ t.start.fw = false ∧ t.start.streak = 0 ∧
      (slotGet t 0).cfg.kind = .sd ∧ t.upd.flowRan = false ∧ t.sys.tick = s.sys.tick ∧
      (∀ i, i ∈ t.rnd.otp.failed ↔ i ∈ otpBad ∨ i ∈ s.rnd.otp.failed) ∧
      (t.rnd.otp.failed ≠ [] → stickyBits t.fb.rnd = stickyBits s.fb.rnd ||| srcBit 3)) ∧
  (∀ (bad : Nat) (otpBad : List Nat) (s : State), bootEnds s = true → NoneContained s .rnd → s.pins.recov = false →
    8 ≤ s.start.streak →
    Completes (exec (.bootComplete true bad otpBad) s) fun t =>
      t.sys.state = .recovery ∧ t.start.recovReq = false ∧ t.start.streak = 0) ∧
  (∀ (bad : Nat) (otpBad : List Nat) (s : State), bootEnds s = true → NoneContained s .rnd →
    Completes (exec (.bootComplete false bad otpBad) s) fun t => FatalEntered 0x01 6 1 s t) ∧
  (∀ (bad n : Nat) (trial : Bool) (s u : State), bootEnds s = true → s.rnd.otp.failed = [] → s.pins.recov = false →
    s.start.streak < 8 → bootBank (logScan s) = (u, some (n, trial)) → (bootRig (runFirmware n trial u)).2 = true →
    Completes (exec (.bootComplete true bad []) s) fun t =>
      t.sys.state = .rigging ∧ t.start.fw = true ∧ t.start.fwBank = n ∧ t.sys.trial = trial) ∧
  (∀ s : State, s.sys.state = .rigging → s.rls.replayFail = none →
    Completes (exec .riggingComplete s) fun t =>
      (t.sys.state = .rising ∨ t.sys.state = .enumerate) ∧ (s.rls.locked = true → t.sys.state = .enumerate) ∧
      t.start.rig = true ∧ t.rig.locked = true ∧ t.sup.vPf = s.rig.running.site.vPf ∧
      (∀ b, (bankGet t.fb b).frx0 = frxWord s.rig.running (blkNumber b) 0 (bankGet s.fb b).frx0 ∧
        (bankGet t.fb b).frx1 = frxWord s.rig.running (blkNumber b) 1 (bankGet s.fb b).frx1 ∧
        (bankGet t.fb b).frx2 = frxWord s.rig.running (blkNumber b) 2 (bankGet s.fb b).frx2)) ∧
  (∀ (n : Nat) (s : State), s.sys.state = .rigging → s.rls.replayFail = some n → s.rls.locked = false →
    s.rls.frozen = false → s.sup.pf = false → n < 8 → NoneContained s .rls →
    Completes (exec .riggingComplete s) fun t =>
      t.rls.locked = true ∧ t.rls.lockCause = 1 ∧ t.rls.lockRail = n ∧ t.rls.replayFail = none ∧ t.rls.rising = false) ∧
  (∀ s : State, s.sys.state = .enumerate → s.sys.alarm = false → (∀ b ∈ allBlks, NoneContained s b) →
    Completes (exec .enumerateComplete s) fun t =>
      t.sys.state = .run ∧ t.start.enumDone = true ∧ t.start.streak = 0 ∧
      t.start.upms = min 0x3FE ((s.sys.tick - s.start.exitTick) / 800000) ∧
      t.upd.trialStart = (if s.sys.trial then some s.sys.tick else none) ∧ t.sys.tick = s.sys.tick)

/-- Power failure (R150 to R159, R163, R164, R199). -/
def Obligations.PowerFailCommands : Prop :=
  (∀ (writing : Bool) (s : State), s.sup.pf = false → s.sup.por = false → s.sys.state ≠ .off → NoneContained s .rls →
    Completes (exec (.powerFailDeclare writing) s) fun t =>
      t.sup.pf = true ∧ t.sup.checking = false ∧ t.sup.holdPath = true ∧ t.sup.charger = false ∧
      t.sup.pfcnt = satInc s.sup.pfcnt ∧
      (∀ n, n < 8 → (railGet t n).targetMag = 0 ∧ (railGet t n).trimMag = (railGet s n).trimMag) ∧ t.pins = s.pins ∧
      (pfrArmed s = true → s.log.next ≤ 0x3FFFFFFF →
        t.sup.pfrBusy = true ∧ t.sup.partialRecord = true ∧ (t.sup.snapshot.map (fun x => x.seq)) = some s.log.next ∧
        (t.sup.snapshot.map (fun x => x.tick)) = some s.sys.tick ∧ t.sup.reserve = 0) ∧
      (pfrArmed s = false → t.sup.pfrBusy = s.sup.pfrBusy) ∧
      (s.sys.state = .rising → s.rls.rising = true → t.rls.rising = false ∧ t.rls.aborted = true) ∧
      (s.sys.state ≠ .rising → t.rls.rising = s.rls.rising) ∧ t.sys.tick = s.sys.tick) ∧
  (∀ s : State, s.sup.pf = true → s.sup.pfrBusy = false →
    Completes (exec .powerFailRelease s) fun t =>
      t.sup.pf = false ∧ t.sup.holdPath = false ∧ t.sup.charger = true ∧ t.sup.pfrDone = false ∧
      t.sup.pfcnt = s.sup.pfcnt ∧ t.rnd.otp = s.rnd.otp) ∧
  (∀ (first second : Nat) (x : Snapshot) (s : State), s.sup.snapshot = some x → s.sup.pfrBusy = true → first ≤ 1 →
    second ≤ 1 →
    Completes (exec (.powerFailRecordCommit first second) s) fun t =>
      t.sup.pfrBusy = false ∧ t.sup.pfrDone = s.sup.pf ∧ t.sup.snapshot = none ∧ t.sup.partialRecord = false ∧
      t.log.snaps.map (fun e => e.2.2) = s.log.snaps.map (fun e => e.2.2) ++ [x] ∧
      (x.seq ≠ 0x3FFFFFFF → t = { s with sup := t.sup, log := t.log }) ∧
      (x.seq = 0x3FFFFFFF → t.log.frozen = true)) ∧
  (∀ (first second : Nat) (x : Snapshot) (s : State), s.sup.snapshot = some x → s.sup.pfrBusy = true → 8 < first →
    Completes (exec (.powerFailRecordCommit first second) s) fun t =>
      t.log = s.log ∧ t = { s with sup := { s.sup with
        pfrBusy := false, snapshot := none, reserve := 0
        retireDue := s.sup.retireDue ++ [344 + (reserveSectors s).headD 0] } }) ∧
  (∀ (first second : Nat) (s : State), reserveErasing s = true → first ≤ 1 → second ≤ 1 →
    Completes (exec (.pfrReserveComplete first second) s) fun t =>
      t.sup = { s.sup with reserve := (reserveSectors s).length } ∧
      (∀ i, i ∈ reserveSectors s → erasedSector t i = true) ∧ t.sys = s.sys ∧ t.slots = s.slots ∧ t.ports = s.ports)

/-- Hold-up and alarm (R114, R146 to R149, R298). -/
def Obligations.HoldAndAlarm : Prop :=
  (∀ s : State, mayCheck s = true →
    Completes (exec .holdSelfCheckStart s) fun t =>
      t = { s with sup := { s.sup with checking := true, charger := false } }) ∧
  (∀ (ticks : Nat) (s : State), s.sup.checking = true →
    Completes (exec (.holdSelfCheckDone ticks) s) fun t =>
      t.sup.holdc = (if 200000000 ≤ ticks then 0x3FE else min 0x3FE (ticks * 9 / 800000)) ∧ t.sup.checking = false ∧
      t.sup.charger = true ∧ t.start.holdc = true ∧
      t = { s with sup := t.sup, start := { s.start with holdc := true } }) ∧
  (∀ s : State, pastRigging s = true → s.sup.pf = false → holdOk s = false → NoneContained s .sys →
    Completes (exec .holdLow s) fun t => Raised .sys 2 s t) ∧
  (∀ (level : Bool) (s : State), s.pins.vioOk = true → s.sys.state ≠ .off → s.sys.state ≠ .reset →
    Completes (exec (.almFilterChange level) s) fun t =>
      t.pins.alm = level ∧ t.sys.alarm = (level || s.sys.alarmReq.a || s.sys.alarmReq.b) ∧
      (t.sys.alarm ≠ s.sys.alarm → t.ports.a.ievt.getLsbD 0 = true ∧ t.ports.b.ievt.getLsbD 0 = true) ∧
      (t.sys.alarm = s.sys.alarm → t = { s with pins := { s.pins with alm := level, almRaw := level } }) ∧
      t.sys.alarmReq = s.sys.alarmReq ∧ t.sys.tick = s.sys.tick) ∧
  (∀ (p : Port) (data : Word) (s : State), WriteAdmitted s p 0x041 →
    Completes (exec (.sysAlarmWrite p data) s) fun t =>
      t.sys.alarmReq = perPortSet s.sys.alarmReq p (data.getLsbD 0) ∧
      t.sys.alarm = (s.pins.alm || t.sys.alarmReq.a || t.sys.alarmReq.b) ∧
      (t.sys.alarm ≠ s.sys.alarm → t.ports.a.ievt.getLsbD 0 = true ∧ t.ports.b.ievt.getLsbD 0 = true) ∧
      t.pins.alm = s.pins.alm ∧ t.sys.tick = s.sys.tick ∧ Owes t p .ok 0x041 (regRead t p 0x041))

/-- Card detect and the write-protect input (R113, R445, R449, R478, R498, R506, R509, R615; that the card flow of RECOVERY is
open again after an insertion at L0, R867). -/
def Obligations.CardDetect : Prop :=
  (∀ (slot : Nat) (s : State), slot < 4 →
    Completes (exec (.cardInserted slot) s) fun t =>
      slotGet t slot = { slotGet s slot with
        det := true, st := if (slotGet s slot).st = .empty then .present else (slotGet s slot).st } ∧
      SlotsBut slot s t ∧
      t = { s with slots := t.slots, upd := { s.upd with flowRan := s.upd.flowRan && decide (slot ≠ 0) } }) ∧
  (∀ (slot : Nat) (s : State), 4 ≤ slot →
    Completes (exec (.cardInserted slot) s) fun t =>
      (slotGet t slot).det = true ∧
      (slotGet t slot).st = (if (slotGet s slot).st = .empty then .present else (slotGet s slot).st) ∧
      slotGet t slot = { slotGet s slot with det := true, st := (slotGet t slot).st, trace := (slotGet t slot).trace } ∧
      SlotsBut slot s t ∧ (satGet t (slot / 4)).cond ≠ .asleep ∧
      Sends (satGet t (slot / 4))
        { kind := 0x03, slot := slot % 4, payload := [0, byte (slotCode (slotGet t slot).st)] } ∧
      SatsBut (slot / 4) s t ∧ t = { s with slots := t.slots, sat := { s.sat with sats := t.sat.sats } }) ∧
  (∀ (slot : Nat) (others : List Nat) (s : State), inSession (slotGet s slot) = true →
    (slot < 4 → NoneContained s .slt) → (4 ≤ slot → MildSource (satGet s (slot / 4)) 0) →
    Completes (exec (.cardRemoved slot others) s) fun t =>
      (slotGet t slot).det = false ∧
      Falls slot 2 true (some (if others.contains 7 then 0x085
        else if (slotGet s slot).sd.writing || !(slotGet s slot).sd.runDone.isEmpty then 0x042 else 0x041)) s t ∧
      (slotGet t slot).second = !others.isEmpty ∧
      ((slotGet s slot).pins.vccOn = true → others = [] →
        (slotGet t slot).removals = satInc (slotGet s slot).removals ∧ (slotGet t slot).trips = (slotGet s slot).trips)) ∧
  (∀ (slot : Nat) (others : List Nat) (s : State), slot < 4 → inSession (slotGet s slot) = false →
    fallsNow s (slotGet s slot) = false → (slotGet s slot).st ≠ .present ∨ (slotGet s slot).run = none →
    Completes (exec (.cardRemoved slot others) s) fun t =>
      slotGet t slot = { slotGet s slot with
        det := false, st := if (slotGet s slot).st = .present then .empty else (slotGet s slot).st } ∧
      SlotsBut slot s t ∧ t = { s with slots := t.slots }) ∧
  (∀ (slot : Nat) (others : List Nat) (r : Running) (o : Order) (s : State), slot < 4 → (slotGet s slot).st = .present →
    toBegin s slot [0x01, 0x09] = some r → orderGet s r.oid = some o →
    Completes (exec (.cardRemoved slot others) s) fun t =>
      (slotGet t slot).det = false ∧ (slotGet t slot).st = .empty ∧ (slotGet t slot).run = none ∧ OrderEnds o 0x041 t ∧
      SlotsBut slot s t) ∧
  (∀ (slot : Nat) (others : List Nat) (s : State), 4 ≤ slot → inSession (slotGet s slot) = false →
    fallsNow s (slotGet s slot) = false →
    Completes (exec (.cardRemoved slot others) s) fun t =>
      (slotGet t slot).det = false ∧
      (slotGet t slot).st = (if (slotGet s slot).st = .present then .empty else (slotGet s slot).st) ∧
      SlotsBut slot s t ∧ (satGet t (slot / 4)).cond ≠ .asleep ∧
      Sends (satGet t (slot / 4))
        { kind := 0x03, slot := slot % 4, payload := [1, byte (slotCode (slotGet t slot).st)] } ∧
      SatsBut (slot / 4) s t) ∧
  (∀ (slot : Nat) (level : Bool) (s : State), slot = 0 ∨ 4 ≤ slot →
    Completes (exec (.wpChange slot level) s) fun t =>
      (slotGet t slot) = { slotGet s slot with wpTab := level } ∧ SlotsBut slot s t ∧ t = { s with slots := t.slots }) ∧
  (∀ (slot : Nat) (level : Bool) (s : State), 1 ≤ slot → slot < 4 →
    Completes (exec (.wpChange slot level) s) fun t => t = s)

/-- Trips, judged once VCC is good (R480, R481, R482, R489, R498, R508, R513), the end of FALLING (R504, R969),
DISCHARGE_SLOW (R779). -/
def Obligations.SlotTrips : Prop :=
  (∀ (slot : Nat) (good : Bool) (s : State), inSession (slotGet s slot) = true → vccGood (slotGet s slot) good = true →
    (slot < 4 → NoneContained s .slt) → (4 ≤ slot → MildSource (satGet s (slot / 4)) 0) →
    Completes (exec (.currentTrip slot good []) s) fun t =>
      Falls slot 3 true (some 0x043) s t ∧ (slotGet t slot).fallTo = some .tripped ∧
      (slotGet t slot).trips = satInc (slotGet s slot).trips ∧ (slotGet t slot).second = false) ∧
  (∀ (slot : Nat) (good : Bool) (s : State), inSession (slotGet s slot) = true → vccGood (slotGet s slot) good = true →
    (slot < 4 → s.sup.vsl5Ok = true ∧ NoneContained s .slt) → (4 ≤ slot → MildSource (satGet s (slot / 4)) 0) →
    Completes (exec (.undervoltageTrip slot good []) s) fun t =>
      Falls slot 4 true (some 0x044) s t ∧ (slotGet t slot).fallTo = some .tripped ∧
      (slotGet t slot).trips = satInc (slotGet s slot).trips) ∧
  (∀ (slot : Nat) (others : List Nat) (s : State), (slotGet s slot).st = .rising → (slotGet s slot).sd.polled = false →
    fallsNow s (slotGet s slot) = false →
    Completes (exec (.currentTrip slot false others) s) fun t =>
      slotGet t slot = { slotGet s slot with taken := (slotGet t slot).taken } ∧ SlotsBut slot s t ∧
      t = { s with slots := t.slots }) ∧
  (∀ (slot : Nat) (s : State), (slotGet s slot).st = .rising → (slotGet s slot).pins.vccOn = true →
    (slotGet s slot).sd.polled = false → (slot < 4 → NoneContained s .slt) →
    Completes (exec (.vccWinExpiry slot []) s) fun t =>
      Falls slot 5 true (some 0x044) s t ∧ (slotGet t slot).fallTo = some .tripped ∧
      (slotGet t slot).trips = (slotGet s slot).trips) ∧
  (∀ (slot : Nat) (s : State), (slotGet s slot).st = .falling →
    Completes (exec (.vccDischarged slot) s) fun t =>
      (slotGet t slot).st = ((slotGet s slot).fallTo).getD (idleState (slotGet s slot)) ∧
      (slotGet t slot).cls = 0 ∧ (slotGet t slot).tr = {} ∧ (slotGet t slot).sd = {} ∧
      (slotGet t slot).vcc = 0x3FF ∧ (slotGet t slot).icc = 0x3FF ∧
      (slot < 4 → (ldgGet t slot).res = 0 ∧ (ldgGet t slot).activating = false) ∧ SlotsBut slot s t) ∧
  (∀ (slot code : Nat) (r : Running) (o : Order) (s : State), slot < 4 → (slotGet s slot).st = .falling →
    (slotGet s slot).run = some r → (slotGet s slot).sd.runDone = [] → (slotGet s slot).fallStatus = some code →
    code ≠ 0x042 → orderGet s r.oid = some o →
    Completes (exec (.vccDischarged slot) s) fun t => OrderEnds o code t ∧ (slotGet t slot).run = none) ∧
  (∀ (slot : Nat) (s : State), slot < 4 → (slotGet s slot).st = .falling → (slotGet s slot).slowSeen = false → Live s →
    NoneContained s .slt →
    Completes (exec (.dischargeSlow slot) s) fun t =>
      Raised .slt 3 (modSlot slot (fun x => { x with slowSeen := true }) s) t)

/-- ATR_TIMEOUT and CLASS_TRIAL_WAIT_END (R485 to R489, R493). -/
def Obligations.ClassTrials : Prop :=
  (∀ (slot : Nat) (a : Activation) (s : State), (slotGet s slot).act = some a →
    ((slotGet s slot).st = .atr ∧ (slotGet s slot).line.rx = []) ∨
      ((slotGet s slot).st = .rising ∧ (slotGet s slot).cfg.kind = .iso ∧ a.waiting = false) →
    a.warm = false → a.todo ≠ [] →
    Completes (exec (.atrTimeout slot) s) fun t =>
      (slotGet t slot).st = .rising ∧ (slotGet t slot).pins = contactsOff ∧
      (slotGet t slot).act = some { a with waiting := true, good := false } ∧
      (slotGet t slot).run = (slotGet s slot).run ∧
      SlotsBut slot s t ∧ t = { s with slots := t.slots }) ∧
  (∀ (slot : Nat) (a : Activation) (s : State), (slotGet s slot).act = some a →
    ((slotGet s slot).st = .atr ∧ (slotGet s slot).line.rx = []) ∨
      ((slotGet s slot).st = .rising ∧ (slotGet s slot).cfg.kind = .iso ∧ a.waiting = false) →
    a.warm = true ∨ a.todo = [] →
    Completes (exec (.atrTimeout slot) s) fun t =>
      Falls slot 8 false (some (if a.warm = false ∧ a.anyAtr = true then 0x047 else 0x045)) s t ∧ SlotsBut slot s t) ∧
  (∀ (slot c : Nat) (rest : List Nat) (a : Activation) (s : State), (slotGet s slot).st = .rising →
    (slotGet s slot).act = some a → a.waiting = true → a.todo = c :: rest →
    Completes (exec (.classTrialWaitEnd slot) s) fun t =>
      (slotGet t slot).st = .rising ∧ (slotGet t slot).cls = c ∧ (slotGet t slot).pins = { vccOn := true } ∧
      (slotGet t slot).tried = Nat.lor (slotGet s slot).tried (2 ^ (c - 1)) ∧
      (slotGet t slot).act = some { todo := rest, anyAtr := a.anyAtr, div := a.div } ∧
      (slotGet t slot).ch.ppsOpen = true ∧
      SlotsBut slot s t ∧ t = { s with slots := t.slots })

/-- RAIL_ENABLE and RAIL_RISE_WINDOW_END (R171 to R173, R177, R180). -/
def Obligations.RailsRise : Prop :=
  (∀ (rail : Nat) (s : State), s.rls.rising = true → s.rls.frozen = false → rail < 8 →
    (rigRail s rail).isSome = true → (railGet s rail).state = 2 → nextRiseStep s = some (railStep s rail) →
    Completes (exec (.railEnable rail) s) fun t =>
      t.pins.en = s.pins.en ||| (1#8 <<< rail) ∧
      railGet t rail = { railGet s rail with state := 3, enabledAt := s.sys.tick, count := 0, confirm := false } ∧
      RailsBut rail s t ∧ t.rls.step = railStep s rail ∧
      t = { s with pins := { s.pins with en := t.pins.en }, rls := { s.rls with rails := t.rls.rails, step := t.rls.step } }) ∧
  (∀ (rail : Nat) (s : State), s.rls.rising = true → s.rls.frozen = false → rail < 8 →
    (railGet s rail).state = 3 → railEn s rail = true → Live s → NoneContained s .rls →
    Completes (exec (.railRiseWindowEnd rail) s) fun t =>
      t.rls.locked = true ∧ t.rls.lockCause = 1 ∧ t.rls.lockRail = rail ∧ t.rls.rising = false ∧ t.rls.falling = true ∧
      (railGet t rail).good = false ∧ (railGet t rail).state = 5 ∧ t.fb.rls.fst.getLsbD 0 = true ∧
      (∀ n, n < 8 → railEn t n = (railEn s n && decide (some (railStep s n) ≠ topStep s))))

/-- SHUTDOWN_STEP_ADVANCE and WARN_SHUTDOWN_START (R177, R178, R181, R193). -/
def Obligations.RailsFall : Prop :=
  (∀ (byWindow : Bool) (k : Nat) (s : State), s.rls.falling = true → s.rls.frozen = false → Live s →
    NoneContained s .rls → byWindow = true ∨ offLevels s = true → topStep s = some k →
    Completes (exec (.shutdownStepAdvance byWindow) s) fun t =>
      t.rls.falling = true ∧ t.rls.step = k ∧
      (∀ n, n < 8 → railEn t n = (railEn s n && decide (railStep s n ≠ k))) ∧
      (∀ n, n < 8 → railEn s n = true → railStep s n = k →
        (railGet t n).state = if (railGet s n).state = 5 then 5 else 6) ∧
      (byWindow = true → t.fb.rls.fst.getLsbD 2 = true) ∧
      (byWindow = false → t = { s with rls := t.rls, pins := { s.pins with en := t.pins.en } })) ∧
  (∀ (byWindow : Bool) (s : State), s.rls.falling = true → s.rls.frozen = false → Live s → NoneContained s .rls →
    byWindow = true ∨ offLevels s = true → topStep s = none →
    Completes (exec (.shutdownStepAdvance byWindow) s) fun t =>
      t.rls.falling = false ∧ t.rls.pfwWarn = false ∧ t.pins.en = s.pins.en ∧
      (s.sys.state = .rising → t.sys.state = .reset ∧ t.start.nextCause = 5) ∧
      (s.sys.state = .reset → s.start.resetHold = .shutdown → t.start.resetHold = .none)) ∧
  (∀ (k : Nat) (s : State), s.rls.warning = true → s.rls.frozen = false → topStep s = some k →
    Completes (exec .warnShutdownStart s) fun t =>
      t.rls.warning = false ∧ t.rls.falling = true ∧ t.rls.rising = false ∧ t.rls.done = false ∧ t.rls.step = k ∧
      (∀ n, n < 8 → railEn t n = (railEn s n && decide (railStep s n ≠ k))) ∧
      t = { s with rls := t.rls, pins := { s.pins with en := t.pins.en } })

/-- RLS_TRIM_WRITE, TRIM_STEP, TRIM_FAULT (R196 to R200). -/
def Obligations.RailTrims : Prop :=
  (∀ (p : Port) (rail : Nat) (data : Word) (s : State), rail < 8 → WriteAdmitted s p (0x418 + rail) →
    trimRefused s rail (data.toNat % 256) = 0 → NotReplayed s →
    Completes (exec (.rlsTrimWrite p rail data none) s) fun t =>
      (railGet t rail).targetMag = data.toNat % 256 ∧
      (railGet t rail).targetSink = (data.getLsbD 8 && decide (data.toNat % 256 ≠ 0)) ∧
      (data.toNat % 256 ≠ 0 → (railGet t rail).trimPort = some p) ∧
      (railGet t rail).trimMag = (railGet s rail).trimMag ∧ RailsBut rail s t ∧ PortsAnswer s t p ∧
      Owes t p .ok (0x418 + rail) (regRead t p (0x418 + rail)) ∧
      t = { s with rls := { s.rls with rails := t.rls.rails }, ports := t.ports }) ∧
  (∀ s : State,
    Completes (exec .trimStep s) fun t =>
      (∀ n, n < 8 →
        let v := trimValue (railGet s n).trimMag (railGet s n).trimSink
        let w := trimValue (railGet s n).targetMag (railGet s n).targetSink
        let u := trimValue (railGet t n).trimMag (railGet t n).trimSink
        (stepTooNear s n = false → t.rls.mrglim.getLsbD n = s.rls.mrglim.getLsbD n ∧
          (railGet t n).targetMag = (railGet s n).targetMag ∧ (railGet t n).trimLast = u - v ∧
          (v = w → u = v) ∧ (v < w → u = v + 1) ∧ (w < v → u = v - 1)) ∧
        (stepTooNear s n = true → u = v - (railGet s n).trimLast ∧ (railGet t n).targetMag = u.natAbs ∧
          t.rls.mrglim.getLsbD n = true) ∧
        (u ≠ v → t.pins.trmZ.getLsbD n = decide (u = 0))) ∧
      t = { s with
        rls := { s.rls with rails := t.rls.rails, mrglim := t.rls.mrglim, mrglimNew := t.rls.mrglimNew }
        pins := { s.pins with trmZ := t.pins.trmZ } }) ∧
  (∀ (rail : Nat) (s : State), rail < 8 → (railGet s rail).trimMag ≠ 0 → Live s → NoneContained s .rls →
    Completes (exec (.trimFault rail) s) fun t =>
      (railGet t rail).trimMag = 0 ∧ (railGet t rail).targetMag = 0 ∧ RailsBut rail s t ∧
      t.pins.trmZ = s.pins.trmZ ||| (1#8 <<< rail) ∧ t.pins.en = s.pins.en ∧ t.fb.rls.fst.getLsbD 5 = true) ∧
  (∀ (rail : Nat) (s : State), 8 ≤ rail ∨ (railGet s rail).trimMag = 0 → exec (.trimFault rail) s = .next s)

/-- RLS_RELEASE with its key sequence (R10, R183, R184, R210). -/
def Obligations.RailRelease : Prop :=
  (∀ (p : Port) (s : State), WriteAdmitted s p 0x402 → keyHeld s p 0x402 = false →
    Completes (exec (.rlsRelease p 0x0F0 none) s) fun t =>
      keyHeld t p 0x402 = true ∧ Owes t p .ok 0x402 0 ∧ t = { s with ports := t.ports }) ∧
  (∀ (p : Port) (s : State), WriteAdmitted s p 0x402 → keyHeld s p 0x402 = true → releaseRefused s = 0 →
    s.rls.released = none →
    Completes (exec (.rlsRelease p 0x30F none) s) fun t =>
      t.rls.locked = false ∧ t.rls.lockCause = 0 ∧ t.rls.lockRail = 0 ∧ (t.rls.rising = true ∨ t.rls.done = true) ∧
      keyHeld t p 0x402 = false ∧ Owes t p .ok 0x402 0 ∧ t.sys = s.sys ∧ t.fb = s.fb) ∧
  (∀ (p : Port) (s : State), WriteAdmitted s p 0x402 → WriteAdmitted s p.other 0x402 → keyHeld s p 0x402 = true →
    keyHeld s p.other 0x402 = true → releaseRefused s = 0 → s.rls.released = none →
    Completes (exec (.rlsRelease p 0x30F (some (.write 0x402 0x30F))) s) fun t =>
      t.rls.locked = false ∧ Owes t s.sys.prio .ok 0x402 0 ∧ Owes t s.sys.prio.other .refused 0x402 0 ∧
      t.rls.refuseReason = 5 ∧ t.rls.refusePort = s.sys.prio.other ∧ t.sys = { s.sys with tied := true }) ∧
  (∀ (p : Port) (s : State), WriteAdmitted s p 0x402 → keyHeld s p 0x402 = true → releaseRefused s ≠ 0 →
    s.rls.released = none →
    Completes (exec (.rlsRelease p 0x30F none) s) fun t =>
      t.rls = { s.rls with refuseReason := releaseRefused s, refusePort := p } ∧ keyHeld t p 0x402 = false ∧
      Owes t p .refused 0x402 0 ∧ (portGet t p).refuseReason = 9 ∧ t = { s with rls := t.rls, ports := t.ports })

/-- Module rails of a ZG4 (R203 to R205): raising, the gap, lowering, a failure. -/
def Obligations.ModuleRails : Prop :=
  (∀ (sat : Nat) (h : Bool) (rx : Arrival) (s : State), TakesCmd (satGet s sat) h 0x06 [1] rx →
    (satGet s sat).cfg.grail0 = true →
    Completes (exec (.railCommand sat h 1 rx) s) fun t =>
      (satGet t sat).gen0 = true ∧
      (satGet t sat).grail0 = (if (satGet s sat).grail0 = 2 ∨ (satGet s sat).cfg.min0 = 0 then 2 else 1) ∧
      (satGet t sat).gap = (decide ((satGet t sat).grail0 = 2) && (satGet s sat).cfg.grail1 &&
        decide ((satGet s sat).grail1 ≠ 2)) ∧
      (satGet t sat).gen1 = (satGet s sat).gen1 ∧ (satGet t sat).grail1 = (satGet s sat).grail1 ∧
      (satGet t sat).cack = 0 ∧ (satGet t sat).lastH = h ∧ SatsBut sat s t ∧
      t = { s with sat := { s.sat with sats := t.sat.sats } }) ∧
  (∀ (sat : Nat) (h : Bool) (rx : Arrival) (s : State), TakesCmd (satGet s sat) h 0x06 [1] rx →
    (satGet s sat).cfg.grail0 = false → (satGet s sat).cfg.grail1 = true →
    Completes (exec (.railCommand sat h 1 rx) s) fun t =>
      (satGet t sat).gen1 = true ∧
      (satGet t sat).grail1 = (if (satGet s sat).grail1 = 2 ∨ (satGet s sat).cfg.min1 = 0 then 2 else 1) ∧
      (satGet t sat).gen0 = (satGet s sat).gen0 ∧ (satGet t sat).cack = 0 ∧ (satGet t sat).lastH = h ∧
      SatsBut sat s t ∧ t = { s with sat := { s.sat with sats := t.sat.sats } }) ∧
  (∀ (sat : Nat) (h : Bool) (rx : Arrival) (s : State), TakesCmd (satGet s sat) h 0x06 [0] rx →
    (satGet s sat).cfg.grail0 = true ∨ (satGet s sat).cfg.grail1 = true →
    Completes (exec (.railCommand sat h 0 rx) s) fun t =>
      (satGet t sat).gen1 = false ∧ (satGet t sat).grail1 = (if (satGet s sat).grail1 = 3 then 3 else 0) ∧
      (satGet t sat).gen0 = ((satGet s sat).gen0 && (satGet s sat).cfg.grail1) ∧
      (satGet t sat).lowering = (satGet t sat).gen0 ∧ (satGet t sat).gap = false ∧ (satGet t sat).cack = 0 ∧
      SatsBut sat s t ∧ t = { s with sat := { s.sat with sats := t.sat.sats } }) ∧
  (∀ (sat : Nat) (h : Bool) (action : Nat) (rx : Arrival) (s : State),
    TakesCmd (satGet s sat) h 0x06 [byte action] rx → action ≤ 1 →
    (satGet s sat).cfg.grail0 = false → (satGet s sat).cfg.grail1 = false →
    Completes (exec (.railCommand sat h action rx) s) fun t => SatIs sat (cacked h 3 rx (satGet s sat)) s t) ∧
  (∀ (sat : Nat) (s : State), (satGet s sat).gap = true →
    Completes (exec (.grailGapElapsed sat) s) fun t =>
      (satGet t sat).gap = false ∧ (satGet t sat).gen1 = true ∧
      (satGet t sat).grail1 = (if (satGet s sat).cfg.min1 = 0 then 2 else 1) ∧
      (satGet t sat).gen0 = (satGet s sat).gen0 ∧ (satGet t sat).grail0 = (satGet s sat).grail0 ∧
      (railsUp (satGet t sat) = true → Sends (satGet t sat) (railResult (satGet t sat))) ∧ SatsBut sat s t ∧
      t = { s with sat := { s.sat with sats := t.sat.sats } }) ∧
  (∀ (sat rail : Nat) (s : State),
    (rail = 0 ∧ ((satGet s sat).grail0 = 1 ∨ (satGet s sat).grail0 = 2)) ∨
      (rail = 1 ∧ ((satGet s sat).grail1 = 1 ∨ (satGet s sat).grail1 = 2)) → MildSource (satGet s sat) 2 →
    Completes (exec (.satGrailFail sat rail) s) fun t =>
      (rail = 0 → (satGet t sat).grail0 = 3) ∧ (rail = 1 → (satGet t sat).grail1 = 3) ∧ (satGet t sat).gen1 = false ∧
      (satGet t sat).gen0 = ((satGet s sat).gen0 && (satGet s sat).cfg.grail1) ∧
      (satGet t sat).lowering = (satGet t sat).gen0 ∧ (satGet t sat).fault.fst.getLsbD 2 = true ∧
      Sends (satGet t sat) (railResult (satGet t sat)) ∧ SatsBut sat s t ∧
      t = { s with sat := { s.sat with sats := t.sat.sats } }) ∧
  (∀ (sat : Nat) (s : State), (satGet s sat).lowering = true →
    Completes (exec (.grailLowerWindowEnd sat) s) fun t =>
      (satGet t sat).gen0 = false ∧ (satGet t sat).grail0 = (if (satGet s sat).grail0 = 3 then 3 else 0) ∧
      (satGet t sat).lowering = false ∧ Sends (satGet t sat) (railResult (satGet t sat)) ∧ SatsBut sat s t ∧
      t = { s with sat := { s.sat with sats := t.sat.sats } })

/-- A ZG4's own supplies, converter, faults and restarts (R16, R203, R206, R448, R452 to R454, R779). -/
def Obligations.SatelliteSupplies : Prop :=
  (∀ (sat : Nat) (codes : List Nat) (s : State), satHears (satGet s sat) = true →
    Completes (exec (.satConversion sat codes) s) fun t =>
      (satGet t sat).conv = (List.range 14).map (fun i => min (codes.getD i 0x3FF) 0x3FE) ∧
      (satGet t sat).vpsLow = (satGet s sat).vpsLow ∧
      (∀ n, n < 4 → (slotGet t (4 * sat + n)).vcc = min (codes.getD (6 + n) 0x3FF) 0x3FE ∧
        (slotGet t (4 * sat + n)).icc = min (codes.getD (10 + n) 0x3FF) 0x3FE) ∧ SatsBut sat s t) ∧
  (∀ (sat : Nat) (s : State), 1 ≤ sat → (satGet s sat).vinLost = false →
    Completes (exec (.satVinLost sat) s) fun t =>
      (satGet t sat).vinLost = true ∧ (satGet t sat).gen0 = false ∧ (satGet t sat).gen1 = false ∧
      (satGet t sat).grail0 = 0 ∧ (satGet t sat).grail1 = 0 ∧ (satGet t sat).cond ≠ .asleep ∧
      (∀ n, n < 4 → inSession (slotGet s (4 * sat + n)) = true → Falls (4 * sat + n) 6 true (some 0x044) s t) ∧
      Sends (satGet t sat) { kind := 0x0D, payload := [0] } ∧ SatsBut sat s t) ∧
  (∀ (sat : Nat) (s : State), (satGet s sat).vinLost = true →
    Completes (exec (.satVinBack sat) s) fun t =>
      (satGet t sat).vinLost = false ∧ Sends (satGet t sat) { kind := 0x0D, payload := [1] } ∧
      (satGet t sat).cond = (satGet s sat).cond ∧ SatsBut sat s t ∧
      t = { s with sat := { s.sat with sats := t.sat.sats } }) ∧
  (∀ (sat : Nat) (s : State), 1 ≤ sat →
    Completes (exec (.satVpsLow sat) s) fun t =>
      (satGet t sat).fault.fst.getLsbD 1 = true ∧ (satGet t sat).vpsLow = true ∧
      (∀ n, n < 4 → inSession (slotGet s (4 * sat + n)) = true →
        (slotGet t (4 * sat + n)).st = .falling ∧ (slotGet t (4 * sat + n)).pins = contactsOff) ∧ SatsBut sat s t) ∧
  (∀ (sat slot : Nat) (s : State), 1 ≤ sat → inSession (slotGet s (4 * sat + slot % 4)) = true →
    MildSource (satGet s sat) 0 →
    Completes (exec (.satTotalOvercurrent sat slot) s) fun t =>
      Falls (4 * sat + slot % 4) 9 true (some 0x043) s t ∧ (slotGet t (4 * sat + slot % 4)).fallTo = some .tripped ∧
      (satGet t sat).fault.fst.getLsbD 0 = true ∧ SlotsBut (4 * sat + slot % 4) s t ∧ SatsBut sat s t) ∧
  (∀ (sat : Nat) (s : State), (satGet s sat).holdLow = false →
    Completes (exec (.satHoldLow sat) s) fun t =>
      (satGet t sat).holdLow = true ∧ (satGet t sat).fault.fst.getLsbD 4 = true ∧ SatsBut sat s t) ∧
  (∀ (sat bit : Nat) (s : State), 6 ≤ bit → bit ≤ 8 →
    Completes (exec (.satFatalFault sat bit) s) fun t =>
      (satGet t sat).fault.fst.getLsbD bit = true ∧ (satGet t sat).sending = some { kind := 0x06, payload := [3] } ∧
      { kind := 0x0B, payload := arg2 (satGet t sat).fault.fst.toNat } ∈ (satGet t sat).results ∧
      (satGet t sat).setSat = false ∧ (satGet t sat).lastH = false ∧ (satGet t sat).togS = false ∧
      (satGet t sat).position = (satGet s sat).position ∧ SatsBut sat s t ∧
      (∀ n, n < 4 → inSession (slotGet t (4 * sat + n)) = false ∧ (slotGet t (4 * sat + n)).run = none)) ∧
  (∀ (sat : Nat) (s : State),
    Completes (exec (.satRstN sat) s) fun t =>
      (satGet t sat).sending = some { kind := 0x06, payload := [1] } ∧ (satGet t sat).results = [] ∧
      (satGet t sat).setSat = false ∧ (satGet t sat).lastH = false ∧ (satGet t sat).togS = false ∧
      (satGet t sat).position = (satGet s sat).position ∧ (satGet t sat).lock = (satGet s sat).lock ∧
      (satGet t sat).gen0 = (satGet s sat).gen0 ∧ (satGet t sat).fltN = false ∧ SatsBut sat s t) ∧
  (∀ (sat uid hwver ringver fw : Nat) (rcv : Bool) (s : State),
    Completes (exec (.satPowerOn sat uid hwver ringver fw rcv) s) fun t =>
      (satGet t sat).cond = .unlocked ∧ (satGet t sat).position = 0 ∧ (satGet t sat).uid = uid ∧
      (satGet t sat).lock = .none ∧ (satGet t sat).fltN = false ∧ (satGet t sat).gen0 = false ∧
      (rcv = true → (satGet t sat).imageState = 4) ∧
      (∀ n, n < 4 → (slotGet t (4 * sat + n)).st = .disabled ∧ (slotGet t (4 * sat + n)).pins = {} ∧
        (slotGet t (4 * sat + n)).det = (slotGet s (4 * sat + n)).det) ∧
      SatsBut sat s t ∧ t = { s with slots := t.slots, sat := { s.sat with sats := t.sat.sats } })

/-- SCAN_SAMPLE (R185, R678, R684, R686). -/
def Obligations.ScanSamples : Prop :=
  (∀ (code c : Nat) (s : State), s.mea.running = true → s.mea.list[s.mea.scanPos]? = some c → s.lko.rules = [] →
    s.mea.nextList = none → s.rls.scanFails = [] → s.sys.state ≠ .fatal → 8 ≤ c → c ≠ 0x0E ∨ code ≤ 0x2D0 →
    Completes (exec (.scanSample code true none) s) fun t =>
      (chanGet t c).last = min code 0x3FE ∧ (chanGet t c).hi ≠ 0x3FF ∧
      (c = 0x0B → t.sup.vin = min code 0x3FE) ∧
      (c = 0x0C → t.sup.hold = min code 0x3FE ∧ t.sup.holde = holdEnergy s.sup.holdc (min code 0x3FE)) ∧
      (0x10 ≤ c → c < 0x14 → (slotGet t (c - 0x10)).vcc = min code 0x3FE) ∧
      (0x14 ≤ c → c < 0x18 → (slotGet t (c - 0x14)).icc = min code 0x3FE) ∧
      (s.mea.scanPos + 1 < s.mea.list.length → t.mea.scanPos = s.mea.scanPos + 1) ∧
      (s.mea.list.length = s.mea.scanPos + 1 → t.mea.scanPos = 0) ∧ t.rls.rails = s.rls.rails ∧ t.sys = s.sys) ∧
  (∀ (code c : Nat) (s : State), s.mea.running = true → s.mea.list[s.mea.scanPos]? = some c → s.lko.rules = [] →
    s.mea.nextList = none → s.sys.state ≠ .fatal → c < 8 →
    Completes (exec (.scanSample code true none) s) fun t => (railGet t c).sns = min code 0x3FE) ∧
  (∀ (code c : Nat) (s : State), s.mea.running = true → s.mea.list[s.mea.scanPos]? = some c → s.lko.rules = [] →
    s.mea.nextList = none → s.rls.scanFails = [] → Live s → NoneContained s .mea → 8 ≤ c →
    Completes (exec (.scanSample code false none) s) fun t =>
      (chanGet t c).last = 0x3FF ∧ t.fb.mea.fst.getLsbD 2 = true ∧ (chanGet t c).hi = (chanGet s c).hi)

/-- SWEEP_START, QUERY, REPORT, RESEND, CLOSE (R433, R434, R456, R687 to R692). -/
def Obligations.Sweeps : Prop :=
  (∀ s : State, s.sys.state = .run ∨ s.sys.state = .standby → s.mea.open_ = false →
    Completes (exec .sweepStart s) fun t =>
      t.mea.open_ = true ∧ t.mea.openAt = s.sys.tick ∧ t.mea.curNum = s.mea.sweepNum ∧
      t.mea.sweepNum = s.mea.sweepNum + 1 ∧
      (∀ pos, tblGet 0 t.mea.queried pos =
        if pos ∈ positions s ∧ sweepQueries (viewGet s pos).state = true then 1 else 0) ∧
      t.mea.latest = s.mea.latest ∧ t = { s with mea := t.mea, tth := t.tth }) ∧
  (∀ (sat num : Nat) (vpsGood : Bool) (rx : Arrival) (s : State),
    TakesFrame (satGet s sat) (toSat rx false 3 (arg2 num)) rx →
    Completes (exec (.sweepQuery sat num vpsGood rx) s) fun t =>
      (satGet t sat).report = reportWords (modSat sat (fun x => { x with vpsLow := !vpsGood }) s) sat ∧
      (satGet t sat).report.length = 20 ∧
      SatIs sat (satAnswer rx 3 false (arg2 num ++ packWords 5 (satGet t sat).report)
        { satGet s sat with vpsLow := !vpsGood, report := (satGet t sat).report }) s t) ∧
  (∀ (pos num : Nat) (words : List Word) (rx : Arrival) (s : State),
    HubTakes s (posTether pos) (upFrame pos false 3 (arg2 num ++ packWords 5 (words ++ [0]))) rx → s.mea.open_ = true →
    num = s.mea.curNum % 65536 → tblGet 0 s.mea.queried pos = 1 ∨ tblGet 0 s.mea.queried pos = 2 →
    Completes (exec (.sweepReport pos num words rx) s) fun t =>
      tblGet none t.mea.filling.rows pos = some (sweepRow (tblGet 0 s.mea.queried pos - 1) words) ∧
      (∀ q, q ≠ pos → tblGet none t.mea.filling.rows q = tblGet none s.mea.filling.rows q) ∧
      tblGet 0 t.mea.queried pos = tblGet 0 s.mea.queried pos + 2 ∧ t.mea.drop = s.mea.drop ∧
      t.mea.latest = s.mea.latest ∧ Heard pos rx s t ∧
      t = { s with mea := t.mea, tth := t.tth, sat := { s.sat with views := t.sat.views } }) ∧
  (∀ (pos num : Nat) (words : List Word) (rx : Arrival) (s : State),
    HubTakes s (posTether pos) (upFrame pos false 3 (arg2 num ++ packWords 5 (words ++ [0]))) rx →
    s.mea.open_ = false ∨ num ≠ s.mea.curNum % 65536 ∨
      (tblGet 0 s.mea.queried pos ≠ 1 ∧ tblGet 0 s.mea.queried pos ≠ 2) →
    Completes (exec (.sweepReport pos num words rx) s) fun t =>
      Heard pos rx s t ∧ t = { s with
        mea := { s.mea with drop := satInc s.mea.drop }, tth := t.tth, sat := { s.sat with views := t.sat.views } }) ∧
  (∀ (pos num : Nat) (words : List Word) (rx : Arrival) (s : State), ringLive s = true →
    (rigTether s (posTether pos)).isSome = true → posTether pos < 4 →
    arrivesBad (frameOk (upFrame pos false 3 (arg2 num ++ packWords 5 (words ++ [0])))) rx = true →
    Completes (exec (.sweepReport pos num words rx) s) fun t =>
      t.mea = s.mea ∧ (tetherGet t (posTether pos)).badF = satInc (tetherGet s (posTether pos)).badF ∧
      TethersBut (posTether pos) s t) ∧
  (∀ (pos num : Nat) (words : List Word) (rx : Arrival) (s : State), (rigTether s (posTether pos)).isSome = false →
    exec (.sweepReport pos num words rx) s = .next s) ∧
  (∀ (pos : Nat) (s : State), ringLive s = true → s.mea.open_ = true → tblGet 0 s.mea.queried pos = 1 → pos < 256 →
    s.sys.tick + 400000 ≤ s.mea.openAt + s.mea.sweepMs * 800000 →
    Completes (exec (.sweepResend pos) s) fun t =>
      tblGet 0 t.mea.queried pos = 2 ∧
      (tetherGet t (posTether pos)).retry = satInc (tetherGet s (posTether pos)).retry ∧
      TethersBut (posTether pos) s t ∧ t = { s with mea := { s.mea with queried := t.mea.queried }, tth := t.tth }) ∧
  (∀ s : State, s.sys.state = .run → s.mea.open_ = true → sweepOver s = true → s.lko.rules = [] →
    Completes (exec .sweepClose s) fun t =>
      t.mea.open_ = false ∧ t.mea.published = true ∧ t.start.sweep = true ∧ t.ldg.declared = false ∧
      t.mea.latest.num = s.mea.filling.num ∧ t.mea.latest.miss = rowsWith s.mea.filling 2 ∧ t.mea.pins = s.mea.pins ∧
      t.ports.a.ievt.getLsbD 1 = true ∧ t.ports.b.ievt.getLsbD 1 = true) ∧
  (∀ (p : Port) (data : Word) (s : State), WriteAdmitted s p 0x4BD →
    Completes (exec (.swpPinWrite p data) s) fun t =>
      perPortGet t.mea.pins p = (if data.getLsbD 0 then some s.mea.latest else none) ∧
      perPortGet t.mea.pins p.other = perPortGet s.mea.pins p.other ∧ PortsAnswer s t p ∧
      Owes t p .ok 0x4BD (regRead t p 0x4BD) ∧
      t = { s with mea := { s.mea with pins := t.mea.pins }, ports := t.ports })

/-- GROUP_LATCH_READ, RC_READ, HST_AGAIN_READ, BURST_READ (R9, R254, R255, R263, R284). -/
def Obligations.ReadFrames : Prop :=
  (∀ (p : Port) (addr : Addr) (data : Word) (crc : Byte) (n : Nat) (s : State), Admitted s p false addr.toNat →
    NotReplayed s → GoodCrc 0 addr data crc → groupOf addr.toNat = some (addr.toNat, n) →
    Completes (exec (.groupLatchRead p addr data crc none) s) fun t =>
      (portGet t p).latch = some { base := addr.toNat, words := (List.range n).map (fun i => regRead s p (addr.toNat + i)) } ∧
      Owes t p .ok addr.toNat (regRead s p addr.toNat) ∧ portGet t p.other = portGet s p.other ∧
      t = { s with ports := t.ports }) ∧
  (∀ (p : Port) (addr : Addr) (s : State), Admitted s p false addr.toNat → NotReplayed s → accOf addr.toNat = .rc →
    declaredSlot s (portGet s p).sltSel = true → isLocal (portGet s p).sltSel = true →
    Completes (exec (.rcRead p addr none) s) fun t =>
      Owes t p .ok addr.toNat (regRead s p addr.toNat) ∧
      regRead t p addr.toNat = (if addr.toNat = 0x49E ∨ addr.toNat = 0x49F then 0x3FF else 0) ∧
      t.sys = s.sys ∧ t.fb = s.fb ∧ portGet t p.other = portGet s p.other) ∧
  (∀ (p : Port) (s : State), Admitted s p false 0x090 → NotReplayed s →
    Completes (exec (.hstAgainRead p) s) fun t =>
      (portGet t p).latch = some { base := 0x090, words := [regRead s p 0x090, regRead s p 0x091, regRead s p 0x092] } ∧
      Owes t p .ok 0x090 (regRead s p 0x090) ∧ portGet t p.other = portGet s p.other ∧ t = { s with ports := t.ports }) ∧
  (∀ (p : Port) (addr : Addr) (n : Nat) (crc : Byte) (s : State), GoodCrc 2 addr (toWord n) crc → heard s p = true →
    s.sys.state = .run ∨ s.sys.state = .standby →
    1 ≤ n → addr.toNat + n ≤ 0xF00 → addr.toNat + n ≤ 0x1C0 ∨ 0x200 ≤ addr.toNat →
    Completes (exec (.burstRead p addr n crc [] none) s) fun t =>
      (portGet t p).owed.stat = .ok ∧ (portGet t p).owed.addr = addr.toNat ∧ (portGet t p).owed.data = toWord n ∧
      (portGet t p).owed.burst = (List.range n).map (fun i => regRead s p (addr.toNat + i)) ∧
      (portGet t p).owed.crc16 = crc16Words ((List.range n).map (fun i => regRead s p (addr.toNat + i))) ∧
      PortsAnswer s t p ∧ t = { s with ports := t.ports }) ∧
  (∀ (p : Port) (addr : Addr) (n : Nat) (crc : Byte) (s : State), GoodCrc 2 addr (toWord n) crc → heard s p = true →
    s.sys.state = .run ∨ s.sys.state = .standby →
    n = 0 ∨ 0x1000 < addr.toNat + n → s.rnd.otp.testClosed = true →
    Completes (exec (.burstRead p addr n crc [] none) s) fun t =>
      (portGet t p).owed.stat = .refused ∧ (portGet t p).refuseReason = 7 ∧
      (portGet t p).owed.burst = List.replicate n 0 ∧ t = { s with ports := t.ports })

/-- REGISTER_WRITE, BURST_WRITE, MALFORMED_TRANSACTION (R7, R62, R244 to R249, R257 to R260, R294, R296). -/
def Obligations.WriteFrames : Prop :=
  (∀ (p : Port) (addr : Addr) (data : Word) (crc : Byte) (s u : State), WriteAdmitted s p addr.toNat → NotReplayed s →
    GoodCrc 1 addr data crc → addr.toNat < 0xF00 →
    writeWord p addr.toNat data.toNat (takeSdi p 32 (sdiHead 1 addr.toNat data.toNat) s) = (0, u) →
    presetDone s p addr.toNat data.toNat = false → shadowWord addr.toNat = false → (portGet u p).answering = true →
    Completes (exec (.registerWrite p addr data crc none) s) fun t =>
      Owes t p .ok addr.toNat (shownWord p addr.toNat u) ∧ t = { u with ports := t.ports } ∧
      portGet t p.other = portGet u p.other) ∧
  (∀ (p : Port) (data : Word) (crc : Byte) (s : State), WriteAdmitted s p 0x084 → GoodCrc 1 0x084 data crc →
    Completes (exec (.registerWrite p 0x084 data crc none) s) fun t =>
      (portGet t p).ien0 = data ∧ Owes t p .ok 0x084 data ∧ portGet t p.other = portGet s p.other ∧
      t = { s with ports := t.ports }) ∧
  (∀ (p : Port) (addr : Addr) (data : Word) (crc : Byte) (s : State), Admitted s p true addr.toNat → NotReplayed s →
    GoodCrc 1 addr data crc → addr.toNat < 0xF00 → accOf addr.toNat = .ro ∨ accOf addr.toNat = .rc ∨
    accOf addr.toNat = .reserved ∨
      accOf addr.toNat = .frx →
    Completes (exec (.registerWrite p addr data crc none) s) fun t =>
      (portGet t p).owed.stat = .refused ∧ (portGet t p).owed.addr = addr.toNat ∧
      (portGet t p).refuseAddr = addr.toNat ∧ (portGet t p).refuseBurst = false ∧
      (portGet t p).refuseReason = (match accOf addr.toNat with
        | .reserved => 3
        | .frx => 4
        | _ => 1) ∧
      portGet t p.other = portGet s p.other ∧ t = { s with ports := t.ports }) ∧
  (∀ (p : Port) (addr : Addr) (data : Word) (crc : Byte) (s : State), heard s p = true → s.rnd.otp.testClosed = true →
    ¬ GoodCrc 1 addr data crc →
    Completes (exec (.registerWrite p addr data crc none) s) fun t =>
      Owes t p .crcBad addr.toNat data ∧ (portGet t p).crcErr = satInc (portGet s p).crcErr ∧ FaultFrame s t) ∧
  (∀ (p : Port) (addr : Addr) (words : List Word) (crc : Byte) (crc16 : BitVec 16) (s : State),
    GoodCrc 3 addr (toWord words.length) crc → crc16Words words = crc16.toNat → heard s p = true →
    s.rnd.otp.testClosed = true →
    burstRights s.sys.state true (burstAddrs addr.toNat words.length) = none → words ≠ [] →
    addr.toNat + words.length ≤ 0x1000 → addr.toNat < 0xF00 →
    burstApply p (burstOrder ((burstAddrs addr.toNat words.length).zip words)) (burstSeen p addr words crc16 s) = none →
    Completes (exec (.burstWrite p addr words.length crc words crc16 none) s) fun t =>
      (portGet t p).owed.stat = .refused ∧ (portGet t p).refuseReason = 8 ∧ (portGet t p).refuseBurst = true ∧
      portGet t p.other = portGet s p.other ∧ t = { s with ports := t.ports }) ∧
  (∀ (p : Port) (words : List Word) (crc : Byte) (crc16 : BitVec 16) (s : State), WriteAdmitted s p 0x084 →
    words.length = 2 → GoodCrc 3 0x084 2 crc → crc16Words words = crc16.toNat →
    (s.sys.state = .run ∨ s.sys.state = .standby) →
    Completes (exec (.burstWrite p 0x084 2 crc words crc16 none) s) fun t =>
      (portGet t p).ien0 = words.getD 0 0 ∧ (portGet t p).ien1 = toWord ((words.getD 1 0).toNat % 256) ∧
      (portGet t p).owed.stat = .ok ∧ (portGet t p).owed.data = 2 ∧ t = { s with ports := t.ports }) ∧
  (∀ (p : Port) (words : List Word) (crc : Byte) (crc16 : BitVec 16) (s : State), WriteAdmitted s p 0x084 →
    words.length = 2 → GoodCrc 3 0x084 2 crc → crc16Words words ≠ crc16.toNat → Live s →
    (s.sys.state = .run ∨ s.sys.state = .standby) →
    Completes (exec (.burstWrite p 0x084 2 crc words crc16 none) s) fun t =>
      Owes t p .crcBad 0x084 2 ∧ (portGet t p).ien0 = (portGet s p).ien0 ∧
      (portGet t p).crcErr = satInc (portGet s p).crcErr ∧ FaultFrame s t) ∧
  (∀ (p : Port) (burst : Bool) (edges : Nat) (bits : List Byte) (s : State), heard s p = true →
    Completes (exec (.malformedTransaction p burst edges bits) s) fun t =>
      Owes t p .crcBad 0xFFF 0x3FF ∧ (portGet t p).crcErr = satInc (portGet s p).crcErr ∧
      (burst = true → s.sys.state ≠ .fatal → (bankGet t.fb (.hst p)).fst.getLsbD 1 = true) ∧ FaultFrame s t)

/-- GROUP_SHADOW_WRITE and GROUP_COMMIT (R289, R290). -/
def Obligations.GroupWrites : Prop :=
  (∀ (p : Port) (addr : Addr) (data : Word) (s : State), WriteAdmitted s p addr.toNat → s.sys.state ≠ .replay →
    shadowWord addr.toNat = true → (addr.toNat = 0x221 → declaredSlot s (portGet s p).sltSel = true) →
    Completes (exec (.groupShadowWrite p addr data) s) fun t =>
      regRead t p addr.toNat = regRead s p addr.toNat ∧
      (∃ x, (portGet t p).shadow = some x ∧ tblGet none x.words addr.toNat = some (toWord (shadowValue addr.toNat data.toNat))) ∧
      Owes t p .ok addr.toNat (toWord (shadowValue addr.toNat data.toNat)) ∧ portGet t p.other = portGet s p.other ∧
      t = { s with ports := t.ports }) ∧
  (∀ (p : Port) (w0 w1 w2 : Word) (x : Shadow) (s : State), WriteAdmitted s p 0x590 → (portGet s p).shadow = some x →
    x.base = 0x590 → x.inst = 0 → tblGet none x.words 0x591 = some w1 → tblGet none x.words 0x592 = some w2 →
    Completes (exec (.groupCommit p 0x590 w0 none) s) fun t =>
      (portGet t p).logSeqSel = w0.toNat + 1024 * w1.toNat + 1048576 * w2.toNat ∧ (portGet t p).shadow = none ∧
      Owes t p .ok 0x590 w0 ∧ portGet t p.other = portGet s p.other ∧ t = { s with ports := t.ports })

/-- HST_HBEAT, HEARTBEAT_LAPSE, HST_PRESET, SYS_RESTART (R268, R299, R300, R320 to R334). -/
def Obligations.HeartbeatsAndResets : Prop :=
  (∀ (p : Port) (data : Word) (s : State), WriteAdmitted s p 0x088 →
    Completes (exec (.hstHbeatWrite p data) s) fun t =>
      (portGet t p).hbStart = s.sys.tick ∧
      (portGet t p).presence = (if (portGet s p).presence = .absent then .present else (portGet s p).presence) ∧
      (portGet t p.other).ievt =
        (if (portGet s p).presence = .absent then (portGet s p.other).ievt ||| 0x004 else (portGet s p.other).ievt) ∧
      Owes t p .ok 0x088 0 ∧ ((portGet s p).presence ≠ .absent → t = { s with ports := t.ports })) ∧
  (∀ (p : Port) (s : State), s.sys.state = .run ∨ s.sys.state = .standby → windowOver s p = true →
    NoneContained s .mor →
    Completes (exec (.heartbeatLapse p false) s) fun t =>
      (portGet t p).presence = .absent ∧ t.sys.state = .run ∧ (∀ n, n < 16 → mooringOf t n ≠ some p) ∧
      (∀ id, claimOf t id ≠ some p) ∧ (perPortGet t.ord.banks p).ring = [] ∧ (perPortGet t.ord.banks p).window = [] ∧
      (∀ o ∈ t.ord.orders, o.port = p → o.internal = false → o.stage = .dispatched ∧ o.discard = true) ∧
      (portGet t p.other).ievt.getLsbD 2 = true ∧ t.fb.mor.fst.getLsbD p.bit = true ∧
      perPortGet t.mea.pins p = none) ∧
  (∀ (p : Port) (s : State), s.sys.state = .run ∨ s.sys.state = .standby → windowOver s p = true →
    windowOver s p.other = true → NoneContained s .mor →
    Completes (exec (.heartbeatLapse p true) s) fun t =>
      t.ports.a.presence = .absent ∧ t.ports.b.presence = .absent ∧ t.mor.claims = [] ∧ t.sys.tied = true ∧
      t.sys.prio = s.sys.prio ∧
      t.sys.state = .run) ∧
  (∀ (p : Port) (tie : Bool) (s : State), windowOver s p = false → windowOver s p.other = false →
    exec (.heartbeatLapse p tie) s = .next s) ∧
  (∀ (p : Port) (s : State), WriteAdmitted s p 0x08F → keyHeld s p 0x08F = false →
    Completes (exec (.portReset p 0x2A5 none) s) fun t =>
      keyHeld t p 0x08F = true ∧ Owes t p .ok 0x08F 0 ∧ t = { s with ports := t.ports }) ∧
  (∀ (p : Port) (s : State), WriteAdmitted s p 0x08F → keyHeld s p 0x08F = true → windowOver s p = false →
    s.sys.state ≠ .recovery →
    Completes (exec (.portReset p 0x15A none) s) fun t =>
      (portGet t p).owed = {} ∧ (portGet t p).latch = none ∧ (portGet t p).shadow = none ∧ (portGet t p).ievt = 0 ∧
      (portGet t p).ien0 = 0 ∧ (portGet t p).ien1 = 0 ∧ (portGet t p).ieven = 0 ∧ (portGet t p).crcErr = 0 ∧
      (portGet t p).hbStart = s.sys.tick ∧ (portGet t p).presence = (portGet s p).presence ∧
      (∀ n, n < 16 → mooringOf t n ≠ some p) ∧ (∀ id, claimOf t id ≠ some p) ∧ t.fb = s.fb ∧ t.sys = s.sys) ∧
  (∀ (p : Port) (s : State), WriteAdmitted s p 0x043 → keyHeld s p 0x043 = true → s.sup.pfrBusy = false →
    s.sys.state ≠ .replay →
    Completes (exec (.sysRestart p 0x33C) s) fun t =>
      t.sys.state = .reset ∧ t.start.nextCause = 6 ∧ t.ports = ⟨{}, {}⟩ ∧ t.ord.orders = [] ∧ t.sys.tick = s.sys.tick ∧
      t.fatal = s.fatal ∧ t.pins.en = s.pins.en ∧ FlashKept s t) ∧
  (∀ (p : Port) (s : State), WriteAdmitted s p 0x043 → keyHeld s p 0x043 = true → s.sup.pfrBusy = true →
    Completes (exec (.sysRestart p 0x33C) s) fun t =>
      (portGet t p).owed.stat = .refused ∧ (portGet t p).refuseReason = 9 ∧ t = { s with ports := t.ports })

/-- MOR_TAKE to MOR_PEERALM (R307 to R319, R325, R331, R332). -/
def Obligations.MooringsAndClaims : Prop :=
  (∀ (p : Port) (n : Nat) (s : State), n < 16 → Admitted s p false (0x0C0 + n) → NotReplayed s → isAbsent s p = false →
    Completes (exec (.morTake p n none) s) fun t =>
      mooringOf t n = (if mooringOf s n = none then some p else mooringOf s n) ∧
      (∀ m, m ≠ n → mooringOf t m = mooringOf s m) ∧
      Owes t p .ok (0x0C0 + n) (if mooringOf s n = some p.other then 0 else 1) ∧ PortsAnswer s t p ∧
      t = { s with mor := { s.mor with holder := t.mor.holder }, ports := t.ports }) ∧
  (∀ (p : Port) (n : Nat) (s : State), n < 16 → Admitted s p false (0x0C0 + n) → NotReplayed s → isAbsent s p = true →
    Completes (exec (.morTake p n none) s) fun t =>
      Owes t p .ok (0x0C0 + n) 0 ∧ t = { s with ports := t.ports }) ∧
  (∀ (p : Port) (n : Nat) (s : State), n < 16 → Admitted s .a false (0x0C0 + n) → Admitted s .b false (0x0C0 + n) →
    NotReplayed s → isAbsent s .a = false → isAbsent s .b = false → mooringOf s n = none →
    Completes (exec (.morTake p n (some (.read (BitVec.ofNat 12 (0x0C0 + n))))) s) fun t =>
      mooringOf t n = some s.sys.prio ∧ t.sys = { s.sys with tied := true } ∧ Owes t s.sys.prio .ok (0x0C0 + n) 1 ∧
      Owes t s.sys.prio.other .ok (0x0C0 + n) 0 ∧ (∀ m, m ≠ n → mooringOf t m = mooringOf s m)) ∧
  (∀ (p : Port) (n : Nat) (s : State), n < 16 → WriteAdmitted s p (0x0C0 + n) → mooringOf s n ≠ some p.other →
    Completes (exec (.morRelease p n 0 none) s) fun t =>
      mooringOf t n = none ∧ (∀ m, m ≠ n → mooringOf t m = mooringOf s m) ∧ Owes t p .ok (0x0C0 + n) 0 ∧
      (portGet t p.other).ievt =
        (if mooringOf s n = some p then (portGet s p.other).ievt ||| 0x020 else (portGet s p.other).ievt) ∧
      t = { s with mor := { s.mor with holder := t.mor.holder }, ports := t.ports }) ∧
  (∀ (p : Port) (n : Nat) (s : State), n < 16 → WriteAdmitted s p (0x0C0 + n) → mooringOf s n = some p.other →
    Completes (exec (.morRelease p n 0 none) s) fun t =>
      (portGet t p).owed.stat = .refused ∧ (portGet t p).refuseReason = 9 ∧
      t = { s with mor := { s.mor with refuseReason := 5, refusePort := p }, ports := t.ports }) ∧
  (∀ (p : Port) (n : Nat) (s : State), n < 16 → WriteAdmitted s p (0x0C0 + n) → Admitted s p.other false (0x0C0 + n) →
    NotReplayed s → isAbsent s p.other = false → mooringOf s n = some p →
    Completes (exec (.morRelease p n 0 (some (.read (BitVec.ofNat 12 (0x0C0 + n))))) s) fun t =>
      mooringOf t n = (if s.sys.prio = p then some p.other else none) ∧
      Owes t p.other .ok (0x0C0 + n) (if s.sys.prio = p then 1 else 0) ∧ t.sys = { s.sys with tied := true } ∧
      ∀ m, m ≠ n → mooringOf t m = mooringOf s m) ∧
  (∀ (p : Port) (s : State), WriteAdmitted s p 0x0D4 →
    Completes (exec (.morRelall p 0x3FF none) s) fun t =>
      (∀ n, n < 16 → mooringOf t n = if mooringOf s n = some p then none else mooringOf s n) ∧ Owes t p .ok 0x0D4 0 ∧
      t = { s with mor := { s.mor with holder := t.mor.holder }, ports := t.ports }) ∧
  (∀ (p : Port) (data : Word) (s : State), WriteAdmitted s p 0x0E0 → claimRefusal s p data.toNat = 0 →
    Completes (exec (.morClaim p data none) s) fun t =>
      claimOf t data.toNat = some p ∧ (∀ id, id ≠ data.toNat → claimOf t id = claimOf s id) ∧ Owes t p .ok 0x0E0 0 ∧
      PortsAnswer s t p ∧ t = { s with mor := { s.mor with claims := t.mor.claims }, ports := t.ports }) ∧
  (∀ (p : Port) (data : Word) (s : State), WriteAdmitted s p 0x0E0 → claimRefusal s p data.toNat ≠ 0 →
    Completes (exec (.morClaim p data none) s) fun t =>
      (portGet t p).owed.stat = .refused ∧ (portGet t p).refuseReason = 9 ∧
      t = { s with mor := { s.mor with refuseReason := claimRefusal s p data.toNat, refusePort := p }, ports := t.ports }) ∧
  (∀ (p : Port) (data : Word) (s : State), WriteAdmitted s p 0x0E1 → freeRefusal s p data.toNat = 0 →
    Completes (exec (.morFree p data none) s) fun t =>
      claimOf t data.toNat = none ∧ (∀ id, id ≠ data.toNat → claimOf t id = claimOf s id) ∧ Owes t p .ok 0x0E1 0 ∧
      PortsAnswer s t p ∧ t = { s with mor := { s.mor with claims := t.mor.claims }, ports := t.ports }) ∧
  (∀ (p : Port) (s : State), WriteAdmitted s p 0x0F0 → keyHeld s p 0x0F0 = true → isAbsent s p.other = true →
    Completes (exec (.morPeeralm p 0x238) s) fun t =>
      perPortGet t.sys.alarmReq p.other = false ∧ perPortGet t.sys.alarmReq p = perPortGet s.sys.alarmReq p ∧
      t.sys.alarm = (s.pins.alm || perPortGet s.sys.alarmReq p) ∧ t.mor = s.mor ∧ Owes t p .ok 0x0F0 0) ∧
  (∀ (p : Port) (s : State), WriteAdmitted s p 0x0F0 → keyHeld s p 0x0F0 = true → isAbsent s p.other = false →
    Completes (exec (.morPeeralm p 0x238) s) fun t =>
      (portGet t p).owed.stat = .refused ∧ (portGet t p).refuseReason = 9 ∧
      t = { s with mor := { s.mor with refuseReason := 6, refusePort := p }, ports := t.ports })

/-- ORD_PUSH (R31, R338 to R343, R356 to R358). -/
def Obligations.OrderPushes : Prop :=
  (∀ (p : Port) (s : State), WriteAdmitted s p 0x108 → pushRefusal s p = 0 → inFlight s p (pushedOrder s p).tag = none →
    inWindow s p (pushedOrder s p).tag = none →
    (pushedOrder s p).opcode = 0 ∨ 0x14 ≤ (pushedOrder s p).opcode →
    (∀ o ∈ s.ord.orders, o.id ≠ s.ord.nextId) →
    Completes (exec (.ordPush p 1 false 0 [] none) s) fun t =>
      Returned t p (pushedOrder s p).tag 0x010 ∧ t.ord.orders = s.ord.orders ∧
      (perPortGet t.ord.banks p.other) = (perPortGet s.ord.banks p.other) ∧ Owes t p .ok 0x108 0 ∧
      (s.sys.state = .standby → t.sys.state = .run)) ∧
  (∀ (p : Port) (o : Order) (s : State), WriteAdmitted s p 0x108 → pushRefusal s p = 0 →
    inFlight s p (pushedOrder s p).tag = some o →
    Completes (exec (.ordPush p 1 false 0 [] none) s) fun t =>
      t.ord.orders = s.ord.orders.map (fun x => if x.id = o.id then { x with seen := true } else x) ∧
      t.ord.banks = perPortSet s.ord.banks p { perPortGet s.ord.banks p with
        dupcnt := satInc (perPortGet s.ord.banks p).dupcnt } ∧ Owes t p .ok 0x108 0) ∧
  (∀ (p : Port) (r : Ret) (s : State), WriteAdmitted s p 0x108 → pushRefusal s p = 0 →
    inFlight s p (pushedOrder s p).tag = none → inWindow s p (pushedOrder s p).tag = some r →
    Completes (exec (.ordPush p 1 false 0 [] none) s) fun t =>
      (perPortGet t.ord.banks p).ring.getLast? =
        some { r with code := if r.code = 0 then 1 else r.code, seen := false, dup := true } ∧
      (perPortGet t.ord.banks p).dupcnt = satInc (perPortGet s.ord.banks p).dupcnt ∧ t.ord.orders = s.ord.orders) ∧
  (∀ (p : Port) (s : State), WriteAdmitted s p 0x108 → pushRefusal s p = 0 → inFlight s p (pushedOrder s p).tag = none →
    inWindow s p (pushedOrder s p).tag = none → isNonce (pushedOrder s p).opcode = true →
    parcelsBad s (pushedOrder s p) = false → lengthBad s (pushedOrder s p) = false →
    (∀ o ∈ s.ord.orders, o.id < s.ord.nextId) →
    Completes (exec (.ordPush p 1 false 0 [] none) s) fun t =>
      (∃ o, orderGet t s.ord.nextId = some o ∧ o.stage = .waiting ∧ o.port = p ∧ o.opcode = (pushedOrder s p).opcode ∧
        o.pushTick = s.sys.tick) ∧ t.ord.banks = s.ord.banks ∧ t.ord.nextId = s.ord.nextId + 1) ∧
  (∀ (p : Port) (s : State), WriteAdmitted s p 0x108 → pushRefusal s p ≠ 0 →
    Completes (exec (.ordPush p 1 false 0 [] none) s) fun t =>
      (portGet t p).owed.stat = .refused ∧ (portGet t p).refuseReason = 9 ∧
      (perPortGet t.ord.banks p).refuse = pushRefusal s p + 4 * p.bit ∧ t.ord.orders = s.ord.orders ∧
      (bankGet t.fb (.ord p)).fst.getLsbD 0 = true)

/-- ORDER_ADVANCE, ORDER_ADMISSION, ORDER_QUEUE_TIMEOUT, ORD_RTAIL, ORD_CANCEL (R26, R27, R347, R348, R352, R354, R371,
R643 to R647). -/
def Obligations.OrderCourse : Prop :=
  (∀ (slot code : Nat) (o : Order) (s : State),
    s.ord.orders.find? (fun o => (orderSlots o).contains slot && !inRun s o) = some o → o.stage = .queued →
    o.past8 = true →
    blocked s o = false → stage9 s o = .ends code →
    Completes (exec (.orderAdvance slot []) s) fun t => OrderEnds o code t ∧ t.sys = s.sys ∧ t.fb = s.fb ∧
    t.slots = s.slots) ∧
  (∀ (slot : Nat) (o : Order) (s : State), slot < 4 →
    s.ord.orders.find? (fun o => (orderSlots o).contains slot && !inRun s o) = some o → o.stage = .admitted →
    o.slot = slot → 1 ≤ o.opcode → o.opcode ≤ 0x0C → s.sys.state = .run → s.sup.pf = false → eccAt s o 1 = [] →
    eccAt s o 2 = [] →
    Completes (exec (.orderAdvance slot []) s) fun t =>
      (slotGet t slot).run = some { opcode := o.opcode, param := o.param, length := o.length, oid := o.id,
                                    since := s.sys.tick } ∧
      t.ord.orders = s.ord.orders.map (fun x => if x.id = o.id then
        { x with stage := .dispatched, dispatchTick := s.sys.tick } else x) ∧
      (slotGet t slot).st = (slotGet s slot).st ∧ SlotsBut slot s t ∧
      t = { s with ord := { s.ord with orders := t.ord.orders }, slots := t.slots }) ∧
  (∀ (o : Order) (s : State), orderGet s o.id = some o → o.stage = .waiting → outranked s o = false →
    o.opcode = 0x01 ∨ o.opcode = 0x09 → s.sys.alarm = false → judgeLift s o.opcode o.slot = .grant →
    s.sys.state ≠ .run →
    Completes (exec (.orderAdmission o.id []) s) fun t =>
      orderGet t o.id = some { o with stage := .admitted } ∧
      (ldgGet t o.slot).res = (if (ldgGet s o.slot).res = 0 then (rigSlot s o.slot).cost else (ldgGet s o.slot).res) ∧
      (ldgGet t o.slot).activating = true ∧ (∀ id, id ≠ o.slot → ldgGet t id = ldgGet s id) ∧
      t = { s with ord := { s.ord with orders := t.ord.orders }, ldg := t.ldg }) ∧
  (∀ (o : Order) (s : State), orderGet s o.id = some o → o.stage = .waiting → outranked s o = false →
    o.opcode = 0x01 ∨ o.opcode = 0x09 → s.sys.alarm = false → judgeLift s o.opcode o.slot = .refuse →
    Completes (exec (.orderAdmission o.id []) s) fun t => OrderEnds o 0x022 t ∧ t.ldg = s.ldg) ∧
  (∀ (o : Order) (s : State), orderGet s o.id = some o → o.stage ≠ .dispatched → o.internal = false →
    Completes (exec (.orderQueueTimeout o.id) s) fun t => OrderEnds o 0x081 t ∧ t.sys = s.sys ∧ t.slots = s.slots) ∧
  (∀ (p : Port) (n : Nat) (data : Word) (s : State), WriteAdmitted s p 0x115 →
    rtailStep (perPortGet s.ord.banks p) (data.toNat % 128) = some n → (perPortGet s.ord.banks p).rtail < 128 →
    Completes (exec (.ordRtailWrite p data) s) fun t =>
      (perPortGet t.ord.banks p).ring = (perPortGet s.ord.banks p).ring.drop n ∧
      (perPortGet t.ord.banks p).rtail = data.toNat % 128 ∧
      perPortGet t.ord.banks p.other = perPortGet s.ord.banks p.other ∧ PortsAnswer s t p ∧
      Owes t p .ok 0x115 (toWord (data.toNat % 128)) ∧
      t = { s with ord := { s.ord with banks := t.ord.banks }, ports := t.ports }) ∧
  (∀ (p : Port) (data : Word) (s : State), WriteAdmitted s p 0x115 →
    rtailStep (perPortGet s.ord.banks p) (data.toNat % 128) = none →
    Completes (exec (.ordRtailWrite p data) s) fun t =>
      (portGet t p).owed.stat = .refused ∧ (portGet t p).refuseReason = 9 ∧
      perPortGet t.ord.banks p = { perPortGet s.ord.banks p with refuse := 3 + 4 * p.bit } ∧
      t = { s with ord := { s.ord with banks := t.ord.banks }, ports := t.ports }) ∧
  (∀ (p : Port) (data : Word) (s : State), WriteAdmitted s p 0x118 → data ≠ 0 →
    Completes (exec (.ordCancel p data) s) fun t =>
      Owes t p .ok 0x118 0 ∧
      (inFlight s p data.toNat = none → (perPortGet t.ord.banks p).cancst = 3 ∧ t.ord.orders = s.ord.orders) ∧
      (∀ o, inFlight s p data.toNat = some o → o.stage = .dispatched →
        (perPortGet t.ord.banks p).cancst = 2 ∧ t.ord.orders = s.ord.orders) ∧
      (∀ o, inFlight s p data.toNat = some o → o.stage ≠ .dispatched →
        (perPortGet t.ord.banks p).cancst = 1 ∧ OrderEnds o 0x080 t))

/-- R362: whatever the parcel held before, after its allocation every byte reads 0x000, fill is 0 and end is clear. -/
def Obligations.NewParcelIsEmpty : Prop :=
  ∀ (p : Port) (n : Nat) (s : State), Admitted s p false 0x180 → NotReplayed s → freeParcel s = some n →
    Completes (exec (.pclAlloc p none) s) fun t =>
      (∀ i, parcelWord (parcelGet t n) i = 0) ∧ (parcelGet t n).fill = 0 ∧ (parcelGet t n).last = false

/-- PCL_ALLOC, PCL_RELEASE, the parcel window (R360 to R365, R369, R381). -/
def Obligations.Parcels : Prop :=
  (∀ (p : Port) (n : Nat) (s : State), Admitted s p false 0x180 → NotReplayed s → freeParcel s = some n →
    Completes (exec (.pclAlloc p none) s) fun t =>
      (parcelGet s n).owner = none ∧ (∀ m, m < n → (parcelGet s m).owner ≠ none) ∧
      parcelGet t n = { owner := some p } ∧ ParcelsBut n s t ∧ Owes t p .ok 0x180 (toWord n) ∧ PortsAnswer s t p ∧
      t = { s with ord := { s.ord with parcels := t.ord.parcels }, ports := t.ports }) ∧
  (∀ (p : Port) (s : State), Admitted s p false 0x180 → NotReplayed s → freeParcel s = none →
    Completes (exec (.pclAlloc p none) s) fun t => Owes t p .ok 0x180 0x3FF ∧ t = { s with ports := t.ports }) ∧
  (∀ (p : Port) (n : Nat) (s : State), Admitted s .a false 0x180 → Admitted s .b false 0x180 → NotReplayed s →
    freeParcel s = some n →
    Completes (exec (.pclAlloc p (some (.read 0x180))) s) fun t =>
      Owes t s.sys.prio .ok 0x180 (toWord n) ∧ (portGet t s.sys.prio.other).owed.data ≠ toWord n ∧
      (parcelGet t n).owner = some s.sys.prio ∧ t.sys = { s.sys with tied := true }) ∧
  (∀ (p : Port) (data : Word) (s : State), WriteAdmitted s p 0x181 → data.toNat < 512 →
    (parcelGet s data.toNat).owner = some p → parcelNamed s data.toNat = false →
    Completes (exec (.pclRelease p data none) s) fun t =>
      parcelGet t data.toNat = {} ∧ ParcelsBut data.toNat s t ∧ Owes t p .ok 0x181 0 ∧ PortsAnswer s t p ∧
      t = { s with ord := { s.ord with parcels := t.ord.parcels }, ports := t.ports }) ∧
  (∀ (p : Port) (data : Word) (s : State), WriteAdmitted s p 0x181 → data.toNat < 512 →
    releaseRefusal s p data.toNat ≠ 0 →
    Completes (exec (.pclRelease p data none) s) fun t =>
      (portGet t p).owed.stat = .refused ∧ (portGet t p).refuseReason = 9 ∧
      t = { s with ord := { s.ord with pclRefuse := releaseRefusal s p data.toNat, pclRefusePort := p }, ports := t.ports }) ∧
  (∀ (p : Port) (k : Nat) (data : Word) (s : State), k < 64 → WriteAdmitted s p (0x1C0 + k) → data.getLsbD 8 = true →
    (parcelGet s (portGet s p).pclSel).owner = some p → parcelNamed s (portGet s p).pclSel = false →
    Completes (exec (.pclWinWrite p k data none) s) fun t =>
      let n := (portGet s p).pclSel
      let off := 64 * (portGet s p).pclPage + k
      tblGet 0 (parcelGet t n).bytes off = data.setWidth 8 ∧
      (∀ i, i ≠ off → tblGet 0 (parcelGet t n).bytes i = tblGet 0 (parcelGet s n).bytes i) ∧
      (parcelGet t n).fill = (if data.getLsbD 9 then off + 1 else max (parcelGet s n).fill (off + 1)) ∧
      (parcelGet t n).last = (data.getLsbD 9 || (parcelGet s n).last) ∧ (parcelGet t n).owner = some p ∧
      ParcelsBut n s t ∧ Owes t p .ok (0x1C0 + k) (parcelWord (parcelGet t n) off) ∧ PortsAnswer s t p ∧
      t = { s with ord := { s.ord with parcels := t.ord.parcels }, ports := t.ports }) ∧
  (∀ (p : Port) (k : Nat) (data : Word) (s : State), k < 64 → WriteAdmitted s p (0x1C0 + k) → data.getLsbD 8 = true →
    (parcelGet s (portGet s p).pclSel).owner ≠ some p ∨ parcelNamed s (portGet s p).pclSel = true →
    Completes (exec (.pclWinWrite p k data none) s) fun t =>
      (portGet t p).owed.stat = .refused ∧ (portGet t p).refuseReason = 9 ∧ t.ord.parcels = s.ord.parcels ∧
      t = { s with ord := { s.ord with pclRefuse := 3, pclRefusePort := p }, ports := t.ports }) ∧
  (∀ (p : Port) (k : Nat) (s : State), k < 64 → Admitted s p false (0x1C0 + k) → NotReplayed s →
    tblGet 0 (parcelGet s (portGet s p).pclSel).ecc (64 * (portGet s p).pclPage + k) = 0 →
    Completes (exec (.pclWinRead p k 0 none) s) fun t =>
      Owes t p .ok (0x1C0 + k) (parcelWord (parcelGet s (portGet s p).pclSel) (64 * (portGet s p).pclPage + k)) ∧
      PortsAnswer s t p ∧ t = { s with ports := t.ports }) ∧
  (∀ (p : Port) (k : Nat) (s : State), k < 64 → Admitted s p false (0x1C0 + k) →
    s.sys.state = .run ∨ s.sys.state = .standby → NoneContained s .pcl →
    Completes (exec (.pclWinRead p k 2 none) s) fun t =>
      (portGet t p).owed.stat = .ok ∧ (portGet t p).owed.data &&& 0x1FF = 0 ∧ t.fb.pcl.fst.getLsbD 1 = true)

/-- R513: at 0x3FF the counts stand, and the sources TRIP (bit 0) and PULLED (bit 2) of SLT_FST are set all the same. -/
def Obligations.CountersSaturate : Prop :=
  (∀ (slot : Nat) (good : Bool) (s : State), slot < 4 → inSession (slotGet s slot) = true →
    vccGood (slotGet s slot) good = true → Live s → (slotGet s slot).trips = 0x3FF →
    Completes (exec (.currentTrip slot good []) s) fun t =>
      (slotGet t slot).trips = 0x3FF ∧ t.fb.slt.fst.getLsbD 0 = true) ∧
  (∀ (slot : Nat) (good : Bool) (s : State), slot < 4 → inSession (slotGet s slot) = true →
    vccGood (slotGet s slot) good = true → Live s → (slotGet s slot).trips = 0x3FF → s.sup.vsl5Ok = true →
    Completes (exec (.undervoltageTrip slot good []) s) fun t =>
      (slotGet t slot).trips = 0x3FF ∧ t.fb.slt.fst.getLsbD 0 = true) ∧
  (∀ (slot : Nat) (s : State), slot < 4 → inSession (slotGet s slot) = true → Live s →
    (slotGet s slot).removals = 0x3FF →
    Completes (exec (.cardRemoved slot []) s) fun t =>
      (slotGet t slot).removals = 0x3FF ∧ t.fb.slt.fst.getLsbD 2 = true)

/-- ACTIVATE (R142, R485, R489), WARM_RESET (R492), DEACTIVATE (R494, R500). -/
def Obligations.Activations : Prop :=
  (∀ (slot c : Nat) (rest : List Nat) (r : Running) (s : State), toBegin s slot [0x01] = some r →
    (slotGet s slot).st = .present → satPowers s slot = true → noSupply s slot = false →
    classesToTry (slotGet s slot).cfg r.param = c :: rest →
    Completes (exec (.activate slot) s) fun t =>
      SlotIs slot { slotGet s slot with
        st := .rising, cls := c, tried := 2 ^ (c - 1), tripInForce := (slotGet s slot).cfg.trip, atrClasses := 0
        indicated := false, slowSeen := false, pins := { vccOn := true }, act := some { todo := rest, div := isoDivOf s slot }
        ch := { div := isoDivOf s slot, etu := etuOf 1 1 (isoDivOf s slot), ppsOpen := true }, tr := {}, line := {}
        run := some { r with begun := true, beganAt := s.sys.tick } } s t) ∧
  (∀ (slot : Nat) (r : Running) (s : State), toBegin s slot [0x01] = some r → (slotGet s slot).st = .present →
    satPowers s slot = true → noSupply s slot = true ∨ classesToTry (slotGet s slot).cfg r.param = [] →
    Completes (exec (.activate slot) s) fun t =>
      (slotGet t slot).st = .present ∧ (slotGet t slot).pins = (slotGet s slot).pins ∧
      RunEnds slot r (if noSupply s slot then 0x044 else 0x047) s t ∧ SlotsBut slot s t ∧ t.sys = s.sys ∧ t.fb = s.fb) ∧
  (∀ (slot : Nat) (r : Running) (s : State), toBegin s slot [0x02] = some r → (slotGet s slot).st = .ready →
    Completes (exec (.warmReset slot) s) fun t =>
      SlotIs slot { slotGet s slot with
        st := .atr, act := some { good := true, warm := true, div := isoDivOf s slot }
        ch := { div := isoDivOf s slot, etu := etuOf 1 1 (isoDivOf s slot), ppsOpen := true }, tr := {}
        line := { mode := .atr }, pins := { vccOn := true, rst := false, clkRun := true, ioLow := false }
        run := some { r with begun := true, beganAt := s.sys.tick } } s t) ∧
  (∀ (slot : Nat) (r : Running) (s : State), toBegin s slot [0x03] = some r →
    (slotGet s slot).st = .ready ∨ (slotGet s slot).st = .asleep →
    Completes (exec (.deactivate slot) s) fun t =>
      Falls slot 1 false (some 0) s t ∧ SlotsBut slot s t ∧ t = { s with slots := t.slots, log := t.log }) ∧
  (∀ (slot : Nat) (r : Running) (s : State), toBegin s slot [0x03] = some r →
    (slotGet s slot).st = .tripped ∨ (slotGet s slot).st = .present →
    Completes (exec (.deactivate slot) s) fun t =>
      (slotGet t slot).st = (if (slotGet s slot).st = .tripped then idleState (slotGet s slot) else .present) ∧
      RunEnds slot r 0 s t ∧ SlotsBut slot s t)

/-- CHARACTER_SEND (R527, R532 to R534), CHARACTER_RECEIVED (R520 to R526, R531, R534, R538, R560), IO_LOW_WAIT_EXPIRY
(R530). -/
def Obligations.Characters : Prop :=
  (∀ (slot : Nat) (b : Byte) (rest : List Byte) (err : Bool) (s : State), (slotGet s slot).line.tx = b :: rest →
    err = false ∨ (slotGet s slot).line.mode ≠ .t0 →
    Completes (exec (.characterSend slot true err) s) fun t =>
      SlotIs slot { startEdge (slotGet s slot) with line := { (slotGet s slot).line with tx := rest, copies := 0 } } s t) ∧
  (∀ (slot : Nat) (err : Bool) (s : State), Completes (exec (.characterSend slot false err) s) fun t => t = s) ∧
  (∀ (slot : Nat) (s : State), (slotGet s slot).line.tx ≠ [] → (slotGet s slot).line.mode = .t0 →
    (slotGet s slot).line.copies < 4 →
    Completes (exec (.characterSend slot true true) s) fun t =>
      SlotIs slot { startEdge (slotGet s slot) with
        ch := { (startEdge (slotGet s slot)).ch with parErr := satInc (slotGet s slot).ch.parErr, chLast := 1
                                                     repeats := satInc (slotGet s slot).ch.repeats }
        line := { (slotGet s slot).line with copies := (slotGet s slot).line.copies + 1 } } s t) ∧
  (∀ (slot : Nat) (s : State), (slotGet s slot).line.tx ≠ [] → (slotGet s slot).line.mode = .t0 →
    4 ≤ (slotGet s slot).line.copies → (slotGet s slot).st = .busy →
    Completes (exec (.characterSend slot true true) s) fun t =>
      Falls slot 8 false (some 0x04A) s t ∧ (slotGet t slot).ch.chLast = 5 ∧ SlotsBut slot s t) ∧
  (∀ (slot : Nat) (early : Bool) (v : BitVec 9) (low : Bool) (s : State), (slotGet s slot).st = .busy →
    (slotGet s slot).pins.vccOn = true → (slotGet s slot).cfg.kind = .iso → (slotGet s slot).line.tx = [] →
    (slotGet s slot).line.mode = .t1 →
    Completes (exec (.characterReceived slot false early v low) s) fun t =>
      let c := decodeChar (slotGet s slot).ch.inverse v
      (slotGet t slot).line.rx = (slotGet s slot).line.rx ++ [c.1] ∧
      (slotGet t slot).line.rxBad = ((slotGet s slot).line.rxBad || !c.2 || low) ∧
      (slotGet t slot).line.heardAt = some s.sys.tick ∧ (slotGet t slot).line.waitRise = low ∧
      (slotGet t slot).st = .busy ∧ SlotsBut slot s t ∧ t = { s with slots := t.slots }) ∧
  (∀ (slot : Nat) (early : Bool) (v : BitVec 9) (low : Bool) (s : State), (slotGet s slot).st = .busy →
    (slotGet s slot).pins.vccOn = true → (slotGet s slot).cfg.kind = .iso → (slotGet s slot).line.tx ≠ [] →
    Completes (exec (.characterReceived slot false early v low) s) fun t => SlotIs slot (slotGet s slot) s t) ∧
  (∀ (slot : Nat) (early : Bool) (v : BitVec 9) (low : Bool) (s : State), (slotGet s slot).st = .busy →
    (slotGet s slot).pins.vccOn = true → (slotGet s slot).cfg.kind = .iso → (slotGet s slot).line.tx = [] →
    (slotGet s slot).line.mode = .t0 → (decodeChar (slotGet s slot).ch.inverse v).2 = false →
    Completes (exec (.characterReceived slot false early v low) s) fun t =>
      (slotGet t slot).ch.parErr = satInc (slotGet s slot).ch.parErr ∧ SlotsBut slot s t ∧
      ((slotGet s slot).line.badRun < 4 → (slotGet t slot).ch.chLast = 1 ∧ (slotGet t slot).st = .busy ∧
        (slotGet t slot).line.badRun = (slotGet s slot).line.badRun + 1) ∧
      (4 ≤ (slotGet s slot).line.badRun → Falls slot 8 false (some 0x04A) s t ∧ (slotGet t slot).ch.chLast = 5)) ∧
  (∀ (slot : Nat) (early : Bool) (v : BitVec 9) (low : Bool) (s : State),
    (slotGet s slot).st = .busy ∨ (slotGet s slot).st = .ready ∨ (slotGet s slot).st = .atr →
    (slotGet s slot).pins.vccOn = true → (slotGet s slot).cfg.kind = .iso →
    Completes (exec (.characterReceived slot true early v low) s) fun t =>
      SlotIs slot { slotGet s slot with ch := { (slotGet s slot).ch with chLast := 3 } } s t) ∧
  (∀ (slot : Nat) (early : Bool) (v : BitVec 9) (low : Bool) (s : State), (slotGet s slot).st = .asleep →
    (slotGet s slot).pins.vccOn = true → (slotGet s slot).cfg.kind = .iso →
    Completes (exec (.characterReceived slot false early v low) s) fun t =>
      SlotIs slot { slotGet s slot with
        st := .ready, pins := { (slotGet s slot).pins with clkRun := true, clkHigh := false }
        ch := { (slotGet s slot).ch with stopped := false, framErr := satInc (slotGet s slot).ch.framErr, chLast := 2 } }
        s t) ∧
  (∀ (slot : Nat) (early : Bool) (v : BitVec 9) (low : Bool) (s : State), (slotGet s slot).st = .atr →
    (slotGet s slot).pins.vccOn = true → (slotGet s slot).cfg.kind = .iso → (slotGet s slot).line.tx = [] →
    (slotGet s slot).line.mode = .atr → early = false ∨ (slotGet s slot).line.rx ≠ [] →
    low = true ∨ (decodeChar (atrInverse (slotGet s slot) v) v).2 = false →
    Completes (exec (.characterReceived slot false early v low) s) fun t => Falls slot 8 false (some 0x046) s t ∧
      SlotsBut slot s t) ∧
  (∀ (slot : Nat) (v : BitVec 9) (low : Bool) (s : State), (slotGet s slot).st = .atr →
    (slotGet s slot).pins.vccOn = true → (slotGet s slot).pins.rst = true → (slotGet s slot).cfg.kind = .iso →
    (slotGet s slot).line.tx = [] → (slotGet s slot).line.mode = .atr → (slotGet s slot).line.rx = [] →
    Completes (exec (.characterReceived slot false true v low) s) fun t =>
      SlotIs slot { startEdge (slotGet s slot) with
        line := { (slotGet s slot).line with heardAt := some s.sys.tick, waitRise := true } } s t) ∧
  (∀ (slot : Nat) (s : State), (slotGet s slot).st = .busy → (slotGet s slot).line.tx ≠ [] →
    Completes (exec (.ioLowWaitExpiry slot) s) fun t => Falls slot 8 false (some 0x049) s t ∧ SlotsBut slot s t)

/-- A complete ATR that is not bad (R486, R536 to R542, R574). -/
def Obligations.AtrInForce : Prop :=
  ∀ (slot : Nat) (v : BitVec 9) (a : Atr) (act : Activation) (r : Running) (s : State), (slotGet s slot).st = .atr →
    (slotGet s slot).pins.vccOn = true → (slotGet s slot).pins.rst = true → (slotGet s slot).cfg.kind = .iso →
    (slotGet s slot).line.tx = [] →
    (slotGet s slot).line.mode = .atr → (slotGet s slot).act = some act → (slotGet s slot).run = some r →
    (decodeChar (atrInverse (slotGet s slot) v) v).2 = true →
    let rx := (slotGet s slot).line.rx ++ [(decodeChar (atrInverse (slotGet s slot) v) v).1]
    (rx.headD 0 = 0x3B ∨ rx.headD 0 = 0x3F) → atrParse rx = some (a, 0) → atrBad rx a = false →
    (act.warm = true ∨ ∀ u, atrUi a = some u → bitAt u ((slotGet s slot).cls - 1) = true) →
    Completes (exec (.characterReceived slot false false v false) s) fun t =>
      (slotGet t slot).st = .ready ∧ (slotGet t slot).act = none ∧ (slotGet t slot).run = none ∧
      (slotGet t slot).ch.ta1 = a.ta1.getD 0x11 ∧ (slotGet t slot).ch.wi = a.tc2.getD 10 ∧
      (slotGet t slot).ch.atrLen = rx.length ∧ (slotGet t slot).ch.specific = a.ta2.isSome ∧
      (slotGet t slot).ch.fi = (if a.ta2.isSome then a.ta1.getD 0x11 / 16 else 1) ∧
      (slotGet t slot).ch.di = (if a.ta2.isSome then a.ta1.getD 0x11 % 16 else 1) ∧
      (slotGet t slot).tr.ifsc = (if a.taT1 = some 0 ∨ a.taT1 = some 255 then 32 else a.taT1.getD 32) ∧
      (slotGet t slot).pins = (slotGet s slot).pins ∧ SlotsBut slot s t ∧ t.sys = s.sys ∧ t.fb = s.fb

/-- EXCHANGE (R562, R564 to R572, R575, R587), RAW_BLOCK (R586), BLOCK_RECEIVED (R571 to R590), CWT_EXPIRY (R549),
BWT_EXPIRY (R578, R580), WT_EXPIRY (R548), CARD_TIME_LIMIT (R563). -/
def Obligations.Exchanges : Prop :=
  (∀ (slot : Nat) (r : Running) (s : State), toBegin s slot [0x04] = some r → (slotGet s slot).st = .ready →
    readCommand slot r s = (s, true) →
    (slotGet s slot).ch.inForce = 1 →
    let l := runBytes s slot r
    t0Case l.length (l.getD 4 0).toNat ≠ 5 →
    Completes (exec (.exchange slot []) s) fun t =>
      (slotGet t slot).st = .busy ∧ (slotGet t slot).line = { mode := .t0, tx := t0Header l } ∧
      (slotGet t slot).x.apdu = l ∧ (slotGet t slot).run = some { r with begun := true, beganAt := s.sys.tick } ∧
      SlotsBut slot s t ∧
      t = { s with slots := t.slots }) ∧
  (∀ (slot : Nat) (r : Running) (s : State), toBegin s slot [0x04] = some r → (slotGet s slot).st = .ready →
    readCommand slot r s = (s, true) →
    let l := runBytes s slot r
    (slotGet s slot).ch.inForce = 1 ∧ t0Case l.length (l.getD 4 0).toNat = 5 ∨
      ((slotGet s slot).ch.inForce ≠ 1 ∧ (slotGet s slot).ch.inForce ≠ 2) →
    Completes (exec (.exchange slot []) s) fun t =>
      (slotGet t slot).st = .ready ∧ RunEnds slot r (if (slotGet s slot).ch.inForce = 1 then 0x012 else 0x014) s t ∧
      SlotsBut slot s t) ∧
  (∀ (slot : Nat) (r : Running) (s : State), toBegin s slot [0x04] = some r → (slotGet s slot).st = .ready →
    readCommand slot r s = (s, true) →
    (slotGet s slot).ch.inForce = 2 →
    Completes (exec (.exchange slot []) s) fun t =>
      let l := runBytes s slot r
      let y := (slotGet s slot).tr
      (slotGet t slot).st = .busy ∧ (slotGet t slot).line.mode = .t1 ∧ (slotGet t slot).x.apdu = l ∧
      (slotGet t slot).run = some { r with begun := true, beganAt := s.sys.tick } ∧ SlotsBut slot s t ∧
      t = { s with slots := t.slots } ∧
      (slotGet t slot).line.tx =
        (if y.dirty then mkBlock y.crc 0xC0 []
         else if y.ifsDone then
           mkBlock y.crc (64 * bit y.nsHub + 32 * bit (decide (l.drop y.ifsc ≠ []))) (l.take y.ifsc)
         else mkBlock y.crc 0xC1 [0xFE])) ∧
  (∀ (slot : Nat) (r : Running) (s : State), toBegin s slot [0x05] = some r → (slotGet s slot).st = .ready →
    Completes (exec (.rawBlock slot) s) fun t =>
      SlotIs slot { slotGet s slot with
        st := .busy, tr := { (slotGet s slot).tr with dirty := true }
        line := { mode := .t1, tx := runBytes s slot r }
        x := { apdu := runBytes s slot r, raw := true, lastKind := .other }, run := some { r with begun := true, beganAt := s.sys.tick } } s t) ∧
  (∀ (slot : Nat) (r : Running) (o : Order) (s : State), slot < 4 → awaitsBlock (slotGet s slot) = true →
    blockWhole (slotGet s slot) = true → (slotGet s slot).x.raw = true → (slotGet s slot).run = some r →
    orderGet s r.oid = some o → (slotGet s slot).line.rx.length ≤ orderRoom o →
    Completes (exec (.blockReceived slot) s) fun t =>
      (slotGet t slot).st = .ready ∧ (slotGet t slot).run = none ∧ OrderEnds o 0 t ∧ SlotsBut slot s t ∧ t.fb = s.fb) ∧
  (∀ (slot m : Nat) (s : State), awaitsBlock (slotGet s slot) = true → blockWhole (slotGet s slot) = true →
    (slotGet s slot).x.raw = false → judgeBlock (slotGet s slot) (slotGet s slot).line.rx (slotGet s slot).line.rxBad =
      .wtxReq m →
    Completes (exec (.blockReceived slot) s) fun t =>
      (slotGet t slot).line.tx = mkBlock (slotGet s slot).tr.crc 0xE3 [byte m] ∧ (slotGet t slot).x.wtx = m ∧
      (slotGet t slot).tr = { (slotGet s slot).tr with wtxs := satInc (slotGet s slot).tr.wtxs, blast := 5 } ∧
      (slotGet t slot).st = .busy ∧ SlotsBut slot s t ∧ t = { s with slots := t.slots }) ∧
  (∀ (slot v : Nat) (s : State), awaitsBlock (slotGet s slot) = true → blockWhole (slotGet s slot) = true →
    (slotGet s slot).x.raw = false → judgeBlock (slotGet s slot) (slotGet s slot).line.rx (slotGet s slot).line.rxBad =
      .ifsReq v →
    Completes (exec (.blockReceived slot) s) fun t =>
      (slotGet t slot).line.tx = mkBlock (slotGet s slot).tr.crc 0xE1 [byte v] ∧
      (slotGet t slot).tr = { (slotGet s slot).tr with ifsc := v, blast := 6 } ∧ SlotsBut slot s t) ∧
  (∀ (slot : Nat) (edc : Bool) (s : State), awaitsBlock (slotGet s slot) = true → blockWhole (slotGet s slot) = true →
    (slotGet s slot).x.raw = false → judgeBlock (slotGet s slot) (slotGet s slot).line.rx (slotGet s slot).line.rxBad =
      .bad edc → (slotGet s slot).x.lastKind ≠ .ifsReq → (slotGet s slot).x.lastKind ≠ .resynchReq →
    Completes (exec (.blockReceived slot) s) fun t =>
      (slotGet t slot).tr.blast = (if edc then 1 else 2) ∧ (slotGet t slot).x.fails = (slotGet s slot).x.fails + 1 ∧
      (slotGet t slot).st = .busy ∧ SlotsBut slot s t ∧
      (slotGet t slot).line.tx =
        (if (slotGet s slot).x.fails < 2 then
          mkBlock (slotGet s slot).tr.crc (0x80 + 16 * bit (slotGet s slot).tr.nsCard + (if edc then 1 else 2)) []
         else mkBlock (slotGet s slot).tr.crc 0xC0 [])) ∧
  (∀ (slot : Nat) (inf : List Byte) (r : Running) (s : State), awaitsBlock (slotGet s slot) = true →
    blockWhole (slotGet s slot) = true → (slotGet s slot).x.raw = false → (slotGet s slot).run = some r →
    judgeBlock (slotGet s slot) (slotGet s slot).line.rx (slotGet s slot).line.rxBad = .iBlock false inf →
    Completes (exec (.blockReceived slot) s) fun t =>
      (slotGet t slot).st = .ready ∧ (slotGet t slot).run = none ∧
      (slotGet t slot).tr.nsCard = !(slotGet s slot).tr.nsCard ∧ SlotsBut slot s t) ∧
  (∀ (slot : Nat) (s : State), awaitsBlock (slotGet s slot) = true → (slotGet s slot).line.rx ≠ [] →
    blockWhole (slotGet s slot) = false → (slotGet s slot).line.rxBad = false → (slotGet s slot).x.raw = false →
    (slotGet s slot).x.lastKind ≠ .ifsReq → (slotGet s slot).x.lastKind ≠ .resynchReq → (slotGet s slot).x.fails < 2 →
    heardNow s (slotGet s slot) = false →
    Completes (exec (.cwtExpiry slot) s) fun t =>
      (slotGet t slot).ch.chLast = 4 ∧ (slotGet t slot).tr.blast = 2 ∧
      (slotGet t slot).line.tx = mkBlock (slotGet s slot).tr.crc (0x82 + 16 * bit (slotGet s slot).tr.nsCard) [] ∧
      SlotsBut slot s t) ∧
  (∀ (slot : Nat) (r : Running) (s : State), awaitsBlock (slotGet s slot) = true → (slotGet s slot).line.rx = [] →
    (slotGet s slot).x.raw = true → (slotGet s slot).run = some r →
    heardNow s (slotGet s slot) = false →
    Completes (exec (.bwtExpiry slot) s) fun t =>
      (slotGet t slot).st = .ready ∧ (slotGet t slot).tr.blast = 3 ∧ RunEnds slot r 0x049 s t ∧ SlotsBut slot s t) ∧
  (∀ (slot : Nat) (s : State), awaitsBlock (slotGet s slot) = true → (slotGet s slot).line.rx = [] →
    (slotGet s slot).x.lastKind = .resynchReq → (slotGet s slot).x.raw = false → 3 ≤ (slotGet s slot).x.resynchTries →
    heardNow s (slotGet s slot) = false →
    Completes (exec (.bwtExpiry slot) s) fun t =>
      Falls slot 8 false (some (if (slotGet s slot).x.heard then 0x04A else 0x049)) s t ∧
      (slotGet t slot).tr.blast = 9 ∧ SlotsBut slot s t) ∧
  (∀ (slot : Nat) (s : State), (slotGet s slot).line.mode = .t0 → (slotGet s slot).st = .busy →
    heardNow s (slotGet s slot) = false →
    Completes (exec (.wtExpiry slot) s) fun t =>
      Falls slot 8 false (some 0x049) s t ∧ (slotGet t slot).ch.chLast = 4 ∧ SlotsBut slot s t) ∧
  (∀ (slot : Nat) (r : Running) (s : State), (slotGet s slot).run = some r → r.opcode = 0x04 ∨ r.opcode = 0x05 →
    (slotGet s slot).st = .busy →
    Completes (exec (.cardTimeLimit slot) s) fun t =>
      Falls slot 8 false (some 0x049) s t ∧ (slotGet t slot).tr.blast = 10 ∧ SlotsBut slot s t)

/-- PPS (R544, R545), ATR_CHARACTER_TIMEOUT (R537), CLOCK_STOP and CLOCK_RESUME (R551 to R553), SLT_DIV (R291, R518,
R554). -/
def Obligations.PpsAndClock : Prop :=
  (∀ (slot : Nat) (r : Running) (s : State), toBegin s slot [0x06] = some r → (slotGet s slot).st = .ready →
    Completes (exec (.pps slot) s) fun t =>
      SlotIs slot { slotGet s slot with
        st := .busy, line := { mode := .pps, tx := ppsRequest r.param }, run := some { r with begun := true, beganAt := s.sys.tick } } s t) ∧
  (∀ (slot : Nat) (s : State), (slotGet s slot).line.mode = .pps → (slotGet s slot).st = .busy →
    (slotGet s slot).line.tx = [] →
    heardNow s (slotGet s slot) = false →
    Completes (exec (.ppsCharacterTimeout slot) s) fun t => Falls slot 8 false (some 0x048) s t ∧ SlotsBut slot s t) ∧
  (∀ (slot : Nat) (s : State), (slotGet s slot).line.mode = .atr → (slotGet s slot).st = .atr →
    (slotGet s slot).line.rx ≠ [] →
    heardNow s (slotGet s slot) = false →
    Completes (exec (.atrCharacterTimeout slot) s) fun t => Falls slot 8 false (some 0x046) s t ∧ SlotsBut slot s t) ∧
  (∀ (slot : Nat) (r : Running) (s : State), toBegin s slot [0x07] = some r → (slotGet s slot).st = .ready →
    Completes (exec (.clockStop slot) s) fun t =>
      SlotIs slot { slotGet s slot with
        st := .busy, line := { stopWait := some (bitAt r.param 0) }, run := some { r with begun := true, beganAt := s.sys.tick } } s t) ∧
  (∀ (slot : Nat) (hi : Bool) (r : Running) (s : State), (slotGet s slot).line.stopWait = some hi →
    (slotGet s slot).st = .busy → (slotGet s slot).run = some r →
    Completes (exec (.clockStopIdleReached slot) s) fun t =>
      (slotGet t slot).st = .asleep ∧
      (slotGet t slot).pins = { (slotGet s slot).pins with clkRun := false, clkHigh := hi } ∧
      (slotGet t slot).ch = { (slotGet s slot).ch with stopped := true } ∧ RunEnds slot r 0 s t ∧ SlotsBut slot s t) ∧
  (∀ (slot : Nat) (r : Running) (s : State), toBegin s slot [0x08] = some r → (slotGet s slot).st = .asleep →
    Completes (exec (.clockResume slot) s) fun t =>
      SlotIs slot { slotGet s slot with
        st := .busy, pins := { (slotGet s slot).pins with clkRun := true, clkHigh := false }
        ch := { (slotGet s slot).ch with stopped := false }, run := some { r with begun := true, beganAt := s.sys.tick } } s t) ∧
  (∀ (slot : Nat) (r : Running) (s : State), (slotGet s slot).run = some r → r.opcode = 0x08 → r.begun = true →
    (slotGet s slot).st = .busy →
    Completes (exec (.clockResumeSettled slot) s) fun t =>
      (slotGet t slot).st = .ready ∧ RunEnds slot r 0 s t ∧ SlotsBut slot s t) ∧
  (∀ (p : Port) (data : Word) (s : State), WriteAdmitted s p 0x220 → NotReplayed s → (portGet s p).sltSel < 4 →
    (slotGet s (portGet s p).sltSel).cfg.kind = .iso → claimOf s (portGet s p).sltSel ≠ some p.other →
    (slotGet s (portGet s p).sltSel).st = .ready ∨ (slotGet s (portGet s p).sltSel).st = .asleep →
    (portGet s p).shadow = none → inRange (committedDiv s p data.toNat) 40 65535 = true →
    Completes (exec (.sltDivCommit p data) s) fun t =>
      let k := (portGet s p).sltSel
      let x := slotGet s k
      let n := committedDiv s p data.toNat
      slotGet t k = { x with ch := { x.ch with div := n, renew := true } } ∧
      SlotsBut k s t ∧ PortsAnswer s t p ∧ (portGet t p).owed.stat = .ok ∧
      t = { s with slots := t.slots, ports := t.ports }) ∧
  (∀ (slot : Nat) (b : Byte) (rest : List Byte) (s : State), (slotGet s slot).line.tx = b :: rest →
    (slotGet s slot).ch.renew = true →
    Completes (exec (.characterSend slot true false) s) fun t =>
      let c := (slotGet s slot).ch
      (slotGet t slot).ch = { c with etu := etuOf c.fi c.di c.div, renew := false } ∧
      (slotGet t slot).tr.bwt = min 0xFFFFF (bwtTicks (etuOf c.fi c.di c.div) (slotGet s slot).tr.bwi c.div / 80000)) ∧
  (∀ (p : Port) (data : Word) (s : State), WriteAdmitted s p 0x220 → NotReplayed s →
    inRange (committedDiv s p data.toNat) 40 65535 = false ∨ divRefused s p (portGet s p).sltSel = true →
    Completes (exec (.sltDivCommit p data) s) fun t =>
      Refused s t p 0x220 (if inRange (committedDiv s p data.toNat) 40 65535 then 9 else 2) ∧
      (∀ x, (portGet t p).shadow = some x → x.base ≠ 0x220) ∧
      t = { s with ports := t.ports })

/-- SD_INIT (R491, R595, R605), SD_ACMD41_POLL (R605 to R607), SD_READ (R599 to R601, R608, R609), SD_WRITE (R602, R603,
R609), timeouts (R600, R603, R604), runs (R610 to R613), SD_STATUS (R594, R599). -/
def Obligations.SdCards : Prop :=
  (∀ (slot i : Nat) (v : Byte) (rest0 rest : List Byte) (cmd0 : List (List Byte)) (cmd8 : List Byte) (r : Running)
    (s : State), toBegin s slot [0x09] = some r → (slotGet s slot).st = .present → satPowers s slot = true →
    noSupply s slot = false → i < 3 →
    (cmd0.take i).all (fun l => (sdReply 8 l).any (fun w => decide (w.1 ≠ 0x01))) = true →
    sdReply 8 (cmd0.getD i []) = some (0x01, rest0) → sdReply 8 cmd8 = some (v, rest) →
    v.getLsbD 2 = true ∨
      (r1BadInit v = false ∧ (sdBytes 4 rest).getD 2 0 = 0x01 ∧ (sdBytes 4 rest).getD 3 0 = 0xAA) →
    Completes (exec (.sdInit slot cmd0 cmd8) s) fun t =>
      SlotIs slot { slotGet s slot with
        st := .rising, cls := 0, tripInForce := (slotGet s slot).cfg.trip, slowSeen := false
        pins := { vccOn := true, rst := true, clkRun := true, ioLow := false, aux1 := true }
        sd := { phase := .acmd41, r1 := v.toNat, v2 := !v.getLsbD 2
                arg41 := if v.getLsbD 2 then 0 else 0x40000000, div := sdDivOf s slot
                sent := List.replicate (i + 1) (sdCommand 0 0) ++ [sdCommand 8 0x1AA] }
        ch := { (slotGet s slot).ch with div := 2000 }, run := some { r with begun := true, beganAt := s.sys.tick } }
        s t) ∧
  (∀ (slot i : Nat) (cmd0 : List (List Byte)) (cmd8 : List Byte) (r : Running) (s : State),
    toBegin s slot [0x09] = some r → (slotGet s slot).st = .present → satPowers s slot = true →
    noSupply s slot = false → i ≤ 3 →
    (cmd0.take i).all (fun l => (sdReply 8 l).any (fun w => decide (w.1 ≠ 0x01))) = true →
    (i = 3 ∧ 3 ≤ cmd0.length) ∨ (i < 3 ∧ sdReply 8 (cmd0.getD i []) = none) →
    Completes (exec (.sdInit slot cmd0 cmd8) s) fun t =>
      Falls slot 8 false (some (if i = 3 then 0x04D else 0x049)) s t ∧
      (slotGet t slot).sd.last = (if i = 3 then 1 else 5) ∧ SlotsBut slot s t) ∧
  (∀ (slot : Nat) (w v : Byte) (cmd55 cmd41 cmd58 cmd9 again cmd16 l m : List Byte) (s : State),
    (slotGet s slot).sd.phase = .acmd41 → (slotGet s slot).st = .rising → (slotGet s slot).sd.polled = false →
    sdReply 8 cmd55 = some (w, l) → r1BadInit w = false → sdReply 8 cmd41 = some (v, m) → r1BadInit v = false → v ≠ 0 →
    Completes (exec (.sdAcmd41Poll slot cmd55 cmd41 cmd58 cmd9 again cmd16) s) fun t =>
      SlotIs slot { slotGet s slot with
        sd := { (slotGet s slot).sd with
          polled := true, start41 := s.sys.tick, r1 := v.toNat
          sent := [sdCommand 55 0, sdCommand 41 (slotGet s slot).sd.arg41] } } s t) ∧
  (∀ (slot : Nat) (cmd55 cmd41 cmd58 cmd9 again cmd16 : List Byte) (s : State),
    (slotGet s slot).sd.phase = .acmd41 → (slotGet s slot).st = .rising → (slotGet s slot).sd.polled = true →
    800000000 < s.sys.tick - (slotGet s slot).sd.start41 →
    Completes (exec (.sdAcmd41Poll slot cmd55 cmd41 cmd58 cmd9 again cmd16) s) fun t =>
      Falls slot 8 false (some 0x04D) s t ∧ (slotGet t slot).sd.last = 10 ∧ SlotsBut slot s t) ∧
  (∀ (slot cap : Nat) (w v u : Byte) (cmd55 cmd41 cmd58 cmd9 again cmd16 l m ocr rest csd : List Byte) (r : Running)
    (s : State), (slotGet s slot).sd.phase = .acmd41 → (slotGet s slot).st = .rising →
    (slotGet s slot).sd.polled = false → sdReply 8 cmd55 = some (w, l) → r1BadInit w = false →
    sdReply 8 cmd41 = some (0, m) → sdReply 8 cmd58 = some (v, ocr) → r1BadInit v = false →
    bitAt (beNat (sdBytes 4 ocr)) 20 = true → bitAt (beNat (sdBytes 4 ocr)) 21 = true →
    sdReply 8 cmd9 = some (u, rest) → r1BadInit u = false → sdBlock 16 rest = .good csd → csdBlocks csd = some cap →
    (slotGet s slot).sd.v2 = true → bitAt (beNat (sdBytes 4 ocr)) 30 = true → (slotGet s slot).run = some r →
    Completes (exec (.sdAcmd41Poll slot cmd55 cmd41 cmd58 cmd9 again cmd16) s) fun t =>
      (slotGet t slot).st = .ready ∧ (slotGet t slot).sd.cap = cap ∧
      (slotGet t slot).sd.type = (if 67108864 < cap then 3 else 2) ∧
      (slotGet t slot).ch.div = (slotGet s slot).sd.div ∧ RunEnds slot r 0 s t ∧ SlotsBut slot s t) ∧
  (∀ (slot : Nat) (rx again : List Byte) (r : Running) (s : State), toBegin s slot [0x0A] = some r →
    (slotGet s slot).st = .ready → mustClose (slotGet s slot).sd false (blockNo s slot r) = false →
    (slotGet s slot).sd.cap ≤ blockNo s slot r →
    Completes (exec (.sdRead slot rx again) s) fun t =>
      (slotGet t slot).st = .ready ∧ (slotGet t slot).sd.last = 11 ∧ RunEnds slot r 0x04D s t ∧ SlotsBut slot s t) ∧
  (∀ (slot : Nat) (v : Byte) (rx again rest data : List Byte) (r : Running) (o : Order) (s : State), slot < 4 →
    toBegin s slot [0x0A] = some r → (slotGet s slot).st = .ready → blockNo s slot r < (slotGet s slot).sd.cap →
    (slotGet s slot).sd.run = false → sdReply 8 rx = some (v, rest) → r1Bad v = false →
    sdBlock 512 rest = .good data → orderGet s r.oid = some o → data.length ≤ orderRoom o →
    Completes (exec (.sdRead slot rx again) s) fun t =>
      (slotGet t slot).st = .ready ∧ (slotGet t slot).sd.r1 = v.toNat ∧ (slotGet t slot).sd.phase = .idle ∧
      (slotGet t slot).sd.sent =
        [sdCommand (if nextInRun s slot 0x0A (blockNo s slot r + 1) r.oid then 18 else 17)
          (sdAddr (slotGet s slot).sd (blockNo s slot r))] ∧
      OrderEnds o 0 t ∧ SlotsBut slot s t) ∧
  (∀ (slot : Nat) (v u : Byte) (rx again rest more data : List Byte) (r : Running) (o : Order) (s : State), slot < 4 →
    toBegin s slot [0x0A] = some r → (slotGet s slot).st = .ready → blockNo s slot r < (slotGet s slot).sd.cap →
    (slotGet s slot).sd.run = false → sdReply 8 rx = some (v, rest) → r1Bad v = false →
    sdBlock 512 rest = .mismatch → sdReply 8 again = some (u, more) → r1Bad u = false →
    sdBlock 512 more = .good data → orderGet s r.oid = some o → data.length ≤ orderRoom o →
    Completes (exec (.sdRead slot rx again) s) fun t =>
      (slotGet t slot).st = .ready ∧ (slotGet t slot).sd.crc = satInc (slotGet s slot).sd.crc ∧
      (slotGet t slot).sd.last = 4 ∧ OrderEnds o 0 t ∧ SlotsBut slot s t) ∧
  (∀ (slot : Nat) (rx again : List Byte) (r : Running) (s : State),
    toBegin s slot [0x0A] = some r → (slotGet s slot).st = .ready → blockNo s slot r < (slotGet s slot).sd.cap →
    (slotGet s slot).sd.run = false → sdReply 8 rx = none →
    Completes (exec (.sdRead slot rx again) s) fun t =>
      Falls slot 8 false (some 0x049) s t ∧ (slotGet t slot).sd.last = 5 ∧ SlotsBut slot s t) ∧
  (∀ (slot : Nat) (v response : Byte) (rx rest : List Byte) (r : Running) (s : State), toBegin s slot [0x0B] = some r →
    (slotGet s slot).st = .ready → blockNo s slot r < (slotGet s slot).sd.cap → (slotGet s slot).sd.run = false →
    sdReply 8 rx = some (v, rest) → r1Bad v = false →
    Completes (exec (.sdWrite slot rx response) s) fun t =>
      (slotGet t slot).sd.r1 = response.toNat ∧ (slotGet t slot).sd.block = blockNo s slot r ∧ SlotsBut slot s t ∧
      (response &&& 0x1F = 0x05 → (slotGet t slot).st = .busy ∧ (slotGet t slot).sd.phase = .busy ∧
        (slotGet t slot).sd.writing = true ∧
        (slotGet t slot).sd.sent =
          (let more := nextInRun s slot 0x0B (blockNo s slot r + 1) r.oid
           [sdCommand (if more then 25 else 24) (sdAddr (slotGet s slot).sd (blockNo s slot r)),
            sdWriteBlock more ((runBytes s slot r).drop 4)]) ∧ t = { s with slots := t.slots }) ∧
      (response &&& 0x1F ≠ 0x05 → Falls slot 8 false (some 0x04D) s t ∧ (slotGet t slot).sd.last = 3)) ∧
  (∀ (slot : Nat) (response : Byte) (rx : List Byte) (r : Running) (s : State), toBegin s slot [0x0B] = some r →
    (slotGet s slot).st = .ready → blockNo s slot r < (slotGet s slot).sd.cap →
    inOpenRun (slotGet s slot).sd true (blockNo s slot r) = true → response &&& 0x1F = 0x05 →
    Completes (exec (.sdWrite slot rx response) s) fun t =>
      (slotGet t slot).st = .busy ∧ (slotGet t slot).sd.phase = .busy ∧ (slotGet t slot).sd.writing = true ∧
      (slotGet t slot).sd.sent = [sdWriteBlock true ((runBytes s slot r).drop 4)] ∧ SlotsBut slot s t ∧
      t = { s with slots := t.slots }) ∧
  (∀ (slot ms : Nat) (a : Byte) (rx rest : List Byte) (r : Running) (s : State), 4 ≤ slot →
    (slotGet s slot).sd.phase = .busy → (slotGet s slot).st = .busy → (slotGet s slot).run = some r → r.begun = true →
    sdReply 8 rx = some (a, rest) → a ≠ 0 ∨ (sdBytes 1 rest).headD 0 ≠ 0 →
    Completes (exec (.sdBusyRelease slot ms rx) s) fun t =>
      (slotGet t slot).st = .ready ∧ (slotGet t slot).sd.busyMs = min ms 0x3FE ∧ (slotGet t slot).sd.r1 = a.toNat ∧
      (slotGet t slot).sd.r2 = ((sdBytes 1 rest).headD 0).toNat ∧ (slotGet t slot).sd.last = 12 ∧
      (slotGet t slot).sd.writing = false ∧ RunEnds slot r 0x04D s t ∧ SlotsBut slot s t) ∧
  (∀ (slot ms : Nat) (rx rest : List Byte) (r : Running) (o : Order) (s : State), slot < 4 →
    (slotGet s slot).sd.phase = .busy → (slotGet s slot).st = .busy → (slotGet s slot).run = some r → r.begun = true →
    (slotGet s slot).sd.run = false → runStays s slot 0x0B (slotGet s slot).sd.block r.oid = false →
    (slotGet s slot).sd.runDone = [] → sdReply 8 rx = some (0, rest) → (sdBytes 1 rest).headD 0 = 0 →
    orderGet s r.oid = some o →
    Completes (exec (.sdBusyRelease slot ms rx) s) fun t =>
      (slotGet t slot).st = .ready ∧ (slotGet t slot).sd.writing = false ∧ (slotGet t slot).run = none ∧
      OrderEnds o 0 t ∧ SlotsBut slot s t) ∧
  (∀ (slot : Nat) (s : State), (slotGet s slot).sd.phase = .busy → (slotGet s slot).st = .busy →
    Completes (exec (.sdBusyTimeout slot) s) fun t =>
      Falls slot 8 false (some 0x049) s t ∧ (slotGet t slot).sd.last = 7 ∧ SlotsBut slot s t) ∧
  (∀ (slot : Nat) (s : State), (slotGet s slot).sd.phase = .token →
    (slotGet s slot).st = .busy ∨ (slotGet s slot).st = .rising →
    Completes (exec (.sdTokenTimeout slot) s) fun t =>
      Falls slot 8 false (some 0x049) s t ∧ (slotGet t slot).sd.last = 6 ∧ SlotsBut slot s t) ∧
  (∀ (slot : Nat) (rx : List Byte) (s : State), (slotGet s slot).sd.run = true →
    (slotGet s slot).sd.runWrite = false → (slotGet s slot).st = .ready →
    Completes (exec (.sdRunIdleClose slot rx) s) fun t =>
      SlotIs slot { slotGet s slot with
        pins := { (slotGet s slot).pins with rst := true, clkRun := false, clkHigh := false, aux1 := true }
        sd := { (slotGet s slot).sd with
          run := false, runCount := 0, phase := .idle, writing := false, sent := [sdCommand 12 0] } } s t) ∧
  (∀ (slot : Nat) (rx rest : List Byte) (o : Order) (s : State), slot < 4 → (slotGet s slot).sd.run = true →
    (slotGet s slot).sd.runWrite = true → (slotGet s slot).st = .ready → (slotGet s slot).run = none →
    (slotGet s slot).sd.runDone = [o.id] → orderGet s o.id = some o → sdReply 8 rx = some (0, rest) →
    (sdBytes 1 rest).headD 0 = 0 →
    Completes (exec (.sdRunIdleClose slot rx) s) fun t =>
      (slotGet t slot).sd.run = false ∧ (slotGet t slot).sd.runDone = [] ∧ (slotGet t slot).st = .ready ∧
      (slotGet t slot).sd.sent = [[0xFD, 0xFF], sdCommand 13 0] ∧ OrderEnds o 0 t ∧ SlotsBut slot s t) ∧
  (∀ (slot : Nat) (v : Byte) (rx again rest : List Byte) (r : Running) (o : Order) (s : State), slot < 4 →
    toBegin s slot [0x0C] = some r → (slotGet s slot).st = .ready → statusCommand r.param = 13 →
    sdReply 8 rx = some (v, rest) → r1Bad v = false → orderGet s r.oid = some o → 2 ≤ orderRoom o →
    Completes (exec (.sdStatus slot rx again) s) fun t =>
      (slotGet t slot).st = .ready ∧ (slotGet t slot).sd.r1 = v.toNat ∧
      (slotGet t slot).sd.r2 = ((sdBytes 1 rest).headD 0).toNat ∧ OrderEnds o 0 t ∧ SlotsBut slot s t) ∧
  (∀ (slot : Nat) (v : Byte) (rx again rest data : List Byte) (r : Running) (o : Order) (s : State), slot < 4 →
    toBegin s slot [0x0C] = some r → (slotGet s slot).st = .ready →
    statusCommand r.param = 9 ∨ statusCommand r.param = 10 → sdReply 8 rx = some (v, rest) → r1Bad v = false →
    sdBlock 16 rest = .good data → orderGet s r.oid = some o → 16 ≤ orderRoom o →
    Completes (exec (.sdStatus slot rx again) s) fun t =>
      (slotGet t slot).st = .ready ∧ OrderEnds o 0 t ∧ SlotsBut slot s t) ∧
  (∀ (slot : Nat) (rx again : List Byte) (r : Running) (s : State), toBegin s slot [0x0C] = some r →
    (slotGet s slot).st = .ready → sdReply 8 rx = none →
    Completes (exec (.sdStatus slot rx again) s) fun t =>
      Falls slot 8 false (some 0x049) s t ∧ (slotGet t slot).sd.last = 5 ∧ SlotsBut slot s t)

/-- NONCE, NONCE_FILL (R818 to R823, R350), the source (R813 to R817, R824, R833). -/
def Obligations.RandomSource : Prop :=
  (∀ (o : Order) (raw : List Byte) (s : State),
    (healthRun s.rnd.health (rawBits raw)).isSome = true → nonceTurn s = some o → o.opcode = 0x0D →
    o.stage = .waiting → bootEnd s = false →
    rollNeeded s = false → s.rnd.ready = true → 2 ≤ s.rnd.pool.length → mayDispatch s = true → o.parcel1 < 512 →
    o.discard = false → (parcelGet s o.parcel1).freeLater = false →
    (∀ x ∈ s.ord.orders, isNonce x.opcode = true → x.id = o.id) →
    Completes (exec (.nonce o.id raw) s) fun t =>
      OrderEnds o 0 t ∧ t.rnd = { s.rnd with pool := s.rnd.pool.drop 2, ncount := s.rnd.ncount + 1 } ∧
      (∀ i, i < 8 → tblGet 0 (parcelGet t o.parcel1).bytes i =
        (nonceBytes (leNat (s.rnd.pool.take 2)) s.rnd.ncount s.rnd.nboot).getD i 0) ∧
      t = { s with ord := t.ord, rnd := t.rnd }) ∧
  (∀ (o : Order) (raw : List Byte) (s : State),
    (healthRun s.rnd.health (rawBits raw)).isSome = true → nonceTurn s = some o → o.opcode = 0x0D →
    o.stage = .waiting → bootEnd s = true →
    (∀ x ∈ s.ord.orders, isNonce x.opcode = true → x.id = o.id) →
    Completes (exec (.nonce o.id raw) s) fun t => OrderEnds o 0x084 t ∧ t.rnd = s.rnd ∧ t.slots = s.slots) ∧
  (∀ (o : Order) (raw : List Byte) (s : State),
    (healthRun s.rnd.health (rawBits raw)).isSome = true → nonceTurn s = some o → o.opcode = 0x0D →
    o.stage = .waiting → bootEnd s = false →
    rollNeeded s = true →
    Completes (exec (.nonce o.id raw) s) fun t => t = { s with rnd := { s.rnd with rolling := true } }) ∧
  (∀ (o : Order) (raw : List Byte) (s : State), s.rnd.ready = true → sourceRuns s = true →
    healthRun s.rnd.health (rawBits raw) = none → nonceTurn s = some o → orderGet s o.id = some o → o.opcode = 0x0D →
    o.stage = .waiting → bootEnd s = false → rollNeeded s = false →
    (∀ x ∈ s.ord.orders, x.opcode = 0x0E → x.stage ≠ .dispatched) →
    Completes (exec (.nonce o.id raw) s) fun t =>
      orderGet t o.id = some o ∧ t.rnd.ncount = s.rnd.ncount ∧ t.rnd.ready = false ∧ t.rnd.pool = []) ∧
  (∀ (o : Order) (s : State), nonceTurn s = some o → orderGet s o.id = some o → o.opcode = 0x0E → o.stage = .waiting →
    o.progress = 0 → s.rnd.ready = true → mayDispatch s = true → o.length ≤ s.rnd.pool.length →
    (∀ x ∈ s.ord.orders, isNonce x.opcode = true → x.id = o.id) →
    Completes (exec (.nonceFill o.id) s) fun t =>
      OrderEnds o 0 t ∧ t.rnd = { s.rnd with pool := s.rnd.pool.drop o.length } ∧
      t = { s with ord := t.ord, rnd := t.rnd, mor := t.mor }) ∧
  (∀ (id : Nat) (s : State), s.rnd.ready = false → Completes (exec (.nonceFill id) s) fun t => t = s) ∧
  (∀ (bad : Nat) (s : State), s.rnd.rolling = true → s.sup.pf = false →
    (∀ x ∈ s.ord.orders, isNonce x.opcode = false) →
    Completes (exec (.bootCountRoll bad) s) fun t =>
      t.rnd = { s.rnd with rolling := false, nboot := s.rnd.nboot + 1, ncount := 0 } ∧ t.ord = s.ord ∧
      (bad = 0 → journalEntry (s.rnd.nboot + 1) ∈ t.log.journalA ∨ journalEntry (s.rnd.nboot + 1) ∈ t.log.journalB)) ∧
  (∀ (raw : List Byte) (h : Health) (s : State), s.rnd.testing = true → sourceRuns s = true →
    healthRun {} (rawBits raw) = some h →
    Completes (exec (.rndStartupPass raw) s) fun t =>
      t = { s with rnd := { s.rnd with ready := true, testing := false, health := h }, start := { s.start with rnd := true } }) ∧
  (∀ (raw : List Byte) (s : State), s.rnd.testing = true → sourceRuns s = true →
    healthRun {} (rawBits raw) = none →
    Completes (exec (.rndStartupPass raw) s) fun t =>
      Raised .rnd 0 { s with rnd := { s.rnd with testing := false, fails := satInc s.rnd.fails } } t) ∧
  (∀ s : State, sourceRuns s = true → s.rnd.ready = false → s.rnd.testing = false →
    Completes (exec .rndStartupRetry s) fun t => t = { s with rnd := { s.rnd with testing := true } }) ∧
  (∀ (raw : List Byte) (s : State), s.rnd.ready = true → sourceRuns s = true →
    healthRun s.rnd.health (rawBits raw) = none →
    (∀ o ∈ s.ord.orders, ¬ (o.opcode = 0x0E ∧ o.stage = .dispatched)) →
    Completes (exec (.rndContinuousFail raw) s) fun t =>
      Raised .rnd 1 { s with rnd := { s.rnd with
        ready := false, testing := true, pool := [], fails := satInc s.rnd.fails } } t) ∧
  (∀ (o : Order) (raw : List Byte) (s : State), s.rnd.ready = true → sourceRuns s = true →
    healthRun s.rnd.health (rawBits raw) = none →
    s.ord.orders.filter (fun o => decide (o.opcode = 0x0E) && decide (o.stage = .dispatched)) = [o] →
    Completes (exec (.rndContinuousFail raw) s) fun t =>
      OrderEnds o 0 t ∧ t.rnd.ready = false ∧ t.rnd.pool = [] ∧ t.fb.rnd.fst.getLsbD 1 = true) ∧
  (∀ (raw : List Byte) (h : Health) (s : State), s.rnd.ready = true → sourceRuns s = true →
    healthRun s.rnd.health (rawBits raw) = some h → (∀ x ∈ s.ord.orders, isNonce x.opcode = false) →
    Completes (exec (.rndBlockFormed raw) s) fun t =>
      t = { s with rnd := { s.rnd with health := h, pool := (s.rnd.pool ++ sha256 raw).take 64 } }) ∧
  (∀ (raw : List Byte) (s : State), s.rnd.ready = true → sourceRuns s = true →
    healthRun s.rnd.health (rawBits raw) = none →
    Completes (exec (.rndBlockFormed raw) s) fun t => exec (.rndContinuousFail raw) s = .next t) ∧
  (∀ (p : Port) (b : Byte) (rest : List Byte) (s : State), Admitted s p false 0x601 → NotReplayed s →
    s.rnd.ready = true → s.rnd.pool = b :: rest →
    Completes (exec (.rndDataRead p none) s) fun t =>
      Owes t p .ok 0x601 (toWord (b.toNat + 256)) ∧ PortsAnswer s t p ∧
      t = { s with rnd := { s.rnd with pool := rest }, ports := t.ports }) ∧
  (∀ (p : Port) (s : State), Admitted s p false 0x601 → NotReplayed s → s.rnd.ready = false ∨ s.rnd.pool = [] →
    Completes (exec (.rndDataRead p none) s) fun t =>
      Owes t p .ok 0x601 0 ∧ PortsAnswer s t p ∧
      t = { s with rnd := { s.rnd with under := satInc s.rnd.under }, ports := t.ports }) ∧
  (∀ (p : Port) (b c : Byte) (rest : List Byte) (s : State), Admitted s .a false 0x601 → Admitted s .b false 0x601 →
    NotReplayed s → s.rnd.ready = true → s.rnd.pool = b :: c :: rest →
    Completes (exec (.rndDataRead p (some (.read 0x601))) s) fun t =>
      Owes t s.sys.prio .ok 0x601 (toWord (b.toNat + 256)) ∧
      Owes t s.sys.prio.other .ok 0x601 (toWord (c.toNat + 256)) ∧
      t.rnd = { s.rnd with pool := rest } ∧ t.sys = { s.sys with tied := true })

/-- RND_OTPARM, RND_OTPCMD (R825, R826), OTP_PROGRAM_DONE (R828), TAP_INSTRUCTION (R831, R832). -/
def Obligations.OneTimeStore : Prop :=
  (∀ (p : Port) (s : State), WriteAdmitted s p 0x611 → keyHeld s p 0x611 = false →
    Completes (exec (.rndOtparm p 0x0B4) s) fun t =>
      keyHeld t p 0x611 = true ∧ Owes t p .ok 0x611 0 ∧ t = { s with ports := t.ports }) ∧
  (∀ (p : Port) (s : State), WriteAdmitted s p 0x611 → keyHeld s p 0x611 = true →
    Completes (exec (.rndOtparm p 0x34B) s) fun t =>
      keyHeld t p 0x611 = false ∧ Owes t p .ok 0x611 0 ∧
      t = { s with rnd := { s.rnd with armed := some p, armAt := s.sys.tick }, ports := t.ports }) ∧
  (∀ (p : Port) (data : Word) (s : State), WriteAdmitted s p 0x611 →
    data ≠ (if keyHeld s p 0x611 then 0x34B else 0x0B4) →
    Completes (exec (.rndOtparm p data) s) fun t =>
      Refused s t p 0x611 5 ∧ keyHeld t p 0x611 = false ∧ t = { s with ports := t.ports }) ∧
  (∀ s : State, Completes (exec .otpArmExpiry s) fun t => t = { s with rnd := { s.rnd with armed := none } }) ∧
  (∀ (p : Port) (s : State), WriteAdmitted s p 0x612 →
    Completes (exec (.programSlot0 p) s) (OtpAnswers s p 1) ∧ Completes (exec (.programSlot1 p) s) (OtpAnswers s p 2) ∧
    Completes (exec (.revokeSlot0 p) s) (OtpAnswers s p 3) ∧ Completes (exec (.revokeSlot1 p) s) (OtpAnswers s p 4) ∧
    Completes (exec (.requireRigSig p) s) (OtpAnswers s p 5) ∧ Completes (exec (.openDebug p) s) (OtpAnswers s p 6)) ∧
  (∀ (c h : Nat) (s : State), s.rnd.otpCmd = some (c, h) →
    Completes (exec (.otpProgramDone true) s) fun t =>
      t = { s with rnd := { s.rnd with otpBusy := false, otpCmd := none, armed := none, otp := otpApply c h s.rnd.otp }
                   rig := { s.rig with pending := t.rig.pending } } ∧
      t.rig.pending = (s.rig.pending && (decide (1 < otpItem c) ||
        rigBankValid t (if s.rig.bank = 0 then s.rig.bankB else s.rig.bankA)))) ∧
  (∀ (c h : Nat) (s : State), s.rnd.otpCmd = some (c, h) → Live s → NoneContained s .rnd →
    Completes (exec (.otpProgramDone false) s) fun t =>
      t.rnd.otp.failed.contains (otpItem c) = true ∧ t.rnd.otpBusy = false ∧ t.rnd.otpCmd = none ∧
      t.rnd.otp.hash0 = (otpApply c h s.rnd.otp).hash0 ∧ t.rnd.otp.hash1 = (otpApply c h s.rnd.otp).hash1 ∧
      t.fb.rnd.fst.getLsbD 3 = true ∧ t.sys.tick = s.sys.tick ∧ t.ord = s.ord ∧ t.slots = s.slots) ∧
  (∀ (code : Nat) (s : State), s.sys.state ≠ .off → s.pins.vioOk = true → s.rnd.otp.debugOpen = true →
    Completes (exec (.tapInstruction code) s) fun t =>
      t = { s with rnd := { s.rnd with tap :=
        if code = 3 ∧ s.sys.state ≠ .recovery then 2 else if code ≤ 3 then code else 0 } }) ∧
  (∀ (code : Nat) (s : State), Live s → s.pins.vioOk = true → s.rnd.otp.debugOpen = false →
    Completes (exec (.tapInstruction code) s) fun t =>
      t.rnd = { s.rnd with tap := 0 } ∧ (code = 0 → t = { s with rnd := t.rnd }) ∧
      (code ≠ 0 → Raised .rnd 4 { s with rnd := t.rnd } t))

/-- LDG_SOURCE (R651), LDG_BATTREM (R291, R664), LKO_SLEEP (R722, R723), LKO_WAKE (R724, R725). -/
def Obligations.LedgerAndStandby : Prop :=
  (∀ (p : Port) (data : Word) (s : State), WriteAdmitted s p 0x381 → NotReplayed s →
    data.getLsbD 0 = s.ldg.battery →
    Completes (exec (.ldgSourceWrite p data none) s) fun t =>
      (portGet t p).owed.stat = .ok ∧ PortsAnswer s t p ∧ t = { s with ports := t.ports }) ∧
  (∀ (p : Port) (data : Word) (s : State), WriteAdmitted s p 0x381 → NotReplayed s →
    data.getLsbD 0 ≠ s.ldg.battery →
    Completes (exec (.ldgSourceWrite p data none) s) fun t =>
      t.ldg.battery = data.getLsbD 0 ∧ t.ldg.sourceSince = s.sys.tick ∧ t.ldg.alarmTicks = 0 ∧
      (portGet t p).owed.stat = .ok ∧ t.sys.tick = s.sys.tick) ∧
  (∀ (p : Port) (data : Word) (s : State), WriteAdmitted s p 0x385 → NotReplayed s → (portGet s p).shadow = none →
    data.toNat + 1024 * (s.ldg.battRem / 1024) ≤ 10230 →
    Completes (exec (.ldgBattremWrite p data) s) fun t =>
      t = { s with
        ldg := { s.ldg with battRem := data.toNat + 1024 * (s.ldg.battRem / 1024), battFrac := 0, battWritten := true }
        ports := t.ports } ∧ PortsAnswer s t p ∧ (portGet t p).owed.stat = .ok) ∧
  (∀ (p : Port) (data : Word) (s : State), WriteAdmitted s p 0x385 → NotReplayed s → (portGet s p).shadow = none →
    10230 < data.toNat + 1024 * (s.ldg.battRem / 1024) →
    Completes (exec (.ldgBattremWrite p data) s) fun t =>
      Refused s t p 0x385 2 ∧ t = { s with ldg := { s.ldg with refuseReason := 1, refusePort := p }, ports := t.ports }) ∧
  (∀ (p : Port) (s : State), WriteAdmitted s p 0x501 → keyHeld s p 0x501 = false →
    Completes (exec (.lkoSleep p 0x2D2 false) s) fun t =>
      keyHeld t p 0x501 = true ∧ Owes t p .ok 0x501 0 ∧ t = { s with ports := t.ports }) ∧
  (∀ (p : Port) (s : State), WriteAdmitted s p 0x501 → keyHeld s p 0x501 = true → sleepRefusal s = 0 →
    Completes (exec (.lkoSleep p 0x12D false) s) fun t =>
      t.sys = { s.sys with state := .standby } ∧ keyHeld t p 0x501 = false ∧ Owes t p .ok 0x501 0 ∧
      t.lko = { s.lko with standby := true, wakeSrc := 0, wakeRule := none, sbyCnt := satInc s.lko.sbyCnt } ∧
      t.log = wearWrite s.log ∧
      t = { s with sys := t.sys, lko := t.lko, log := t.log, ports := t.ports }) ∧
  (∀ (p : Port) (s : State), WriteAdmitted s p 0x501 → keyHeld s p 0x501 = true → sleepRefusal s ≠ 0 →
    Completes (exec (.lkoSleep p 0x12D false) s) fun t =>
      Refused s t p 0x501 9 ∧ keyHeld t p 0x501 = false ∧
      t = { s with lko := { s.lko with refuseReason := sleepRefusal s, refusePort := p }, ports := t.ports }) ∧
  (∀ (p : Port) (s : State), WriteAdmitted s p 0x501 → keyHeld s p 0x501 = true → s.sys.state = .run →
    Completes (exec (.lkoSleep p 0x12D true) s) fun t =>
      Refused s t p 0x501 9 ∧ keyHeld t p 0x501 = false ∧
      t = { s with lko := { s.lko with refuseReason := 1, refusePort := p, sourced := true }, ports := t.ports }) ∧
  (∀ (p : Port) (s : State), WriteAdmitted s p 0x502 → s.sys.state = .standby →
    Completes (exec (.lkoWake p 1) s) fun t =>
      t.sys = { s.sys with state := .run } ∧
      t.lko = { s.lko with standby := false, woken := true, sourced := true, wakeSrc := Nat.lor s.lko.wakeSrc 32 } ∧
      (portGet t .a).ievt.getLsbD 3 = true ∧ (portGet t .b).ievt.getLsbD 3 = true ∧ Owes t p .ok 0x502 0 ∧
      t = { s with sys := t.sys, lko := t.lko, ports := t.ports }) ∧
  (∀ (p : Port) (data : Word) (s : State), WriteAdmitted s p 0x502 → data ≠ 1 →
    Completes (exec (.lkoWake p data) s) fun t => Refused s t p 0x502 2 ∧ t = { s with ports := t.ports })

/-- WORD_PARITY_FAIL (R736), LOCKSTEP_MISMATCH and CODE_ECC_ERROR (R740), RIPCORD_CONTINUITY_CHECK (R752), FAULT_ACK (R745,
R746), BLOCK_RESET_DONE (R757), SAFE_REWALK (R751). -/
def Obligations.HubFaults : Prop :=
  (∀ (blk kind : Nat) (w : Word) (b : FBlk) (s : State),
    blkOfNumber (blk % 32) (if blk < 32 then .a else .b) = some b → watches s = true → hasFaultWord b kind = true →
    oddOnes w = false →
    Completes (exec (.wordParityFail blk kind w) s) fun t =>
      FatalEntered (blkNumber b) 0 (if kind = 0 then 3 else 4 + 8 * (kind - 1)) s t) ∧
  (∀ (blk kind : Nat) (w : Word) (s : State), oddOnes w = true →
    Completes (exec (.wordParityFail blk kind w) s) fun t => t = s) ∧
  (∀ s : State, watches s = true → Completes (exec .lockstepMismatch s) fun t => FatalEntered 1 4 1 s t) ∧
  (∀ s : State, watches s = true → Completes (exec .codeEccError s) fun t => FatalEntered 1 5 1 s t) ∧
  (∀ s : State, checksRipcord s = true →
    Completes (exec (.ripcordContinuityCheck false) s) fun t => FatalEntered 1 6 1 s t) ∧
  (∀ s : State, Completes (exec (.ripcordContinuityCheck true) s) fun t => t = s) ∧
  (∀ (p : Port) (addr : Addr) (b : FBlk) (data : Word) (s : State), addr.toNat < 0xF00 →
    faultWordAt p addr.toNat = some (b, 1) → accOf addr.toNat = .wo → WriteAdmitted s p addr.toNat →
    Completes (exec (.faultAck p addr data) s) fun t =>
      stickyBits (bankGet t.fb b) = stickyBits (bankGet s.fb b) &&& ~~~(data.setWidth 9 &&& ~~~levelHolds s b) ∧
      (bankGet t.fb b).raised = (bankGet s.fb b).raised &&& ~~~(data.setWidth 9 &&& ~~~levelHolds s b) ∧
      oddOnes (bankGet t.fb b).fst = true ∧ (∀ c, c ≠ b → bankGet t.fb c = bankGet s.fb c) ∧
      (bankGet t.fb b).frx0 = (bankGet s.fb b).frx0 ∧ Owes t p .ok addr.toNat 0 ∧ PortsAnswer s t p ∧
      t = { s with fb := t.fb, ports := t.ports }) ∧
  (∀ (blk : Nat) (s : State),
    Completes (exec (.blockResetDone blk) s) fun t =>
      (∀ b, bankGet t.fb b = if b ∈ blksOf blk then { bankGet s.fb b with resetting := false } else bankGet s.fb b) ∧
      t = { s with fb := t.fb }) ∧
  (∀ s : State, silencePassed s = true → ringLive s = true →
    Completes (exec .safeRewalk s) fun t =>
      t.tth.safeSince = none ∧
      (∀ k, k < 4 → (tetherGet t k).walk.isSome = ((rigTether s k).isSome || (tetherGet s k).walk.isSome)) ∧
      t = { s with tth := t.tth })

/-- LOG_RECORD_WRITE (R792, R801 to R803), LOG_SECTOR_ERASE (R793), WEAR_TABLE_WRITE (R787), fetches (R806, R807). -/
def Obligations.EventLog : Prop :=
  (∀ (r : LogRec) (l : List LogRec) (retries : Nat) (s : State), s.log.queue = r :: l → logWrites s = true →
    headFull s = false → retries ≤ 1 → r.seq ≠ 0x3FFFFFFF →
    Completes (exec (.logRecordWrite retries) s) fun t =>
      (ringGet t s.log.head).slots = (ringGet s s.log.head).slots ++ [some r] ∧
      (∀ x ∈ t.log.queue, x.seq ≠ r.seq) ∧ (∀ i, i ≠ s.log.head → ringGet t i = ringGet s i) ∧
      t.log.next = s.log.next ∧ t = { s with log := t.log }) ∧
  (∀ (r : LogRec) (l : List LogRec) (s : State), s.log.queue = r :: l → logWrites s = true → headFull s = false →
    Live s → NoneContained s .log → r.seq = 0x3FFFFFFF →
    Completes (exec (.logRecordWrite 0) s) fun t =>
      t.log.frozen = true ∧ t.fb.log.fst.getLsbD 3 = true ∧ t.sys.tick = s.sys.tick) ∧
  (∀ (r : LogRec) (l : List LogRec) (retries : Nat) (s : State), s.log.queue = r :: l → logWrites s = true →
    headFull s = false → 2 ≤ retries → retries ≤ 8 → Live s → r.seq ≠ 0x3FFFFFFF →
    Completes (exec (.logRecordWrite retries) s) fun t =>
      some r ∈ (ringGet t s.log.head).slots ∧ t.fb.log.fst.getLsbD 0 = true ∧
      ((sectorGet s (physSector s 164 (344 + s.log.head))).status = 0 →
        (sectorGet t (physSector s 164 (344 + s.log.head))).status = 1)) ∧
  (∀ (r : LogRec) (l : List LogRec) (retries k : Nat) (s : State), s.log.queue = r :: l → logWrites s = true →
    headFull s = false → 8 < retries → freeSpare s = some k → k ≠ physSector s 164 (344 + s.log.head) →
    Live s → NoneContained s .log → r.seq ≠ 0x3FFFFFFF →
    Completes (exec (.logRecordWrite retries) s) fun t =>
      some r ∈ (ringGet t s.log.head).slots ∧
      t.log.remap = s.log.remap ++ [(physSector s 164 (344 + s.log.head), k)] ∧
      (sectorGet t k).status = 3 ∧ (sectorGet t (physSector s 164 (344 + s.log.head))).status = 2) ∧
  (∀ (i retries : Nat) (s : State), eraseTarget s = some i → logErasing s = true → reserveErasing s = false →
    fetchReads s i = false →
    retries ≤ 1 →
    Completes (exec (.logSectorErase retries) s) fun t =>
      ringGet t i = {} ∧ (∀ j, j ≠ i → ringGet t j = ringGet s j) ∧
      t.log.snaps = s.log.snaps.filter (fun e => decide (e.1 ≠ i) && decide (e.2.1 ≠ i)) ∧
      (sectorGet t (physSector s 164 (344 + i))).erases =
        min 0xFFFFFF ((sectorGet s (physSector s 164 (344 + i))).erases + 1) ∧
      t.log.queue = s.log.queue ∧ t = { s with log := t.log }) ∧
  (∀ (retries : Nat) (s : State), s.sys.state = .run ∨ s.sys.state = .standby → s.sup.pf = false → retries ≤ 1 →
    Completes (exec (.wearTableWrite retries) s) fun t =>
      t = { s with log := { wearWrite s.log with ops := t.log.ops } }) ∧
  (∀ (retries : Nat) (s : State), s.sys.state = .run ∨ s.sys.state = .standby → s.sup.pf = true →
    Completes (exec (.wearTableWrite retries) s) fun t => t = { s with log := { s.log with wearDue := true } }) ∧
  (∀ (p : Port) (data : Word) (s : State), WriteAdmitted s p 0x593 → (perPortGet s.log.fetch p).busy = false →
    (Completes (exec (.logFetch p data) s) fun t =>
      perPortGet t.log.fetch p = { perPortGet s.log.fetch p with busy := true, want := some (portGet s p).logSeqSel } ∧
      perPortGet t.log.fetch p.other = perPortGet s.log.fetch p.other ∧ Owes t p .ok 0x593 0 ∧ PortsAnswer s t p ∧
      t = { s with log := { s.log with fetch := t.log.fetch }, ports := t.ports }) ∧
    (Completes (exec (.logFetchPf p data) s) fun t =>
      perPortGet t.log.fetch p = { perPortGet s.log.fetch p with busy := true, want := none } ∧
      perPortGet t.log.fetch p.other = perPortGet s.log.fetch p.other ∧ Owes t p .ok 0x593 0 ∧ PortsAnswer s t p ∧
      t = { s with log := { s.log with fetch := t.log.fetch }, ports := t.ports })) ∧
  (∀ (p : Port) (data : Word) (s : State), WriteAdmitted s p 0x593 → (perPortGet s.log.fetch p).busy = true →
    Completes (exec (.logFetch p data) s) fun t => Refused s t p 0x593 9 ∧ t = { s with ports := t.ports }) ∧
  (∀ (p : Port) (b : List Byte) (s : State), (perPortGet s.log.fetch p).busy = true →
    fetchFind s (perPortGet s.log.fetch p).want = some b →
    Completes (exec (.logFetchDone p) s) fun t =>
      perPortGet t.log.fetch p = { result := 1, len := b.length / 64, bytes := b } ∧
      perPortGet t.log.fetch p.other = perPortGet s.log.fetch p.other ∧
      t = { s with log := { s.log with fetch := t.log.fetch } }) ∧
  (∀ (p : Port) (s : State), (perPortGet s.log.fetch p).busy = true →
    fetchFind s (perPortGet s.log.fetch p).want = none →
    Completes (exec (.logFetchDone p) s) fun t =>
      perPortGet t.log.fetch p =
        { perPortGet s.log.fetch p with busy := false, result := fetchMiss s (perPortGet s.log.fetch p).want
                                        len := 0, bytes := [], want := none } ∧
      perPortGet t.log.fetch p.other = perPortGet s.log.fetch p.other)

/-- UPD_CMD (R856, R860, R868, R879), UPD_PUSH (R857, R882), IMAGE_WRITE_DONE (R841, R843, R844, R858, R866). -/
def Obligations.UpdateStaging : Prop :=
  (∀ (p : Port) (data : Word) (s : State), WriteAdmitted s p 0x682 → inRange (data.toNat / 8 % 8) 1 4 = true →
    openRefusal s p (data.toNat / 8 % 8) = 0 →
    Completes (exec (.updOpen p data none) s) fun t =>
      t = { s with
        upd := { s.upd with phase := 1, owner := .port p, target := data.toNat / 8 % 8, room := 64, window := []
                            image := [], count := 0, fetch := [], eraseDue := false }
        ports := t.ports } ∧ PortsAnswer s t p ∧ Owes t p .ok 0x682 0) ∧
  (∀ (p : Port) (data : Word) (s : State), WriteAdmitted s p 0x682 →
    inRange (data.toNat / 8 % 8) 1 4 = false ∨ openRefusal s p (data.toNat / 8 % 8) ≠ 0 →
    Completes (exec (.updOpen p data none) s) fun t =>
      Refused s t p 0x682 (if inRange (data.toNat / 8 % 8) 1 4 then 9 else 2) ∧
      t = { s with ports := t.ports, upd := t.upd } ∧
      t.upd = (if inRange (data.toNat / 8 % 8) 1 4 then
        { s.upd with refuse := openRefusal s p (data.toNat / 8 % 8), refusePort := p } else s.upd)) ∧
  (∀ (p : Port) (s : State), WriteAdmitted s p 0x682 → s.upd.owner = .port p → s.sys.state ≠ .recovery →
    Completes (exec (.updClose p) s) fun t =>
      t = { s with upd := t.upd, ports := t.ports } ∧ t.upd.owner = .none ∧ t.upd.phase = 0 ∧ t.upd.image = [] ∧
      (inRange s.upd.phase 1 3 = true → t.upd.reason = 0x15 ∧ t.upd.resTarget = s.upd.target) ∧
      Owes t p .ok 0x682 0) ∧
  (∀ (p : Port) (s : State), WriteAdmitted s p 0x682 → s.upd.owner = .port p → s.sys.state = .recovery →
    s.upd.wrote = true → s.upd.hold = false → s.ord.orders = [] →
    Completes (exec (.updClose p) s) fun t => t.sys.state = .reset ∧ t.start.nextCause = 3 ∧ FlashKept s t) ∧
  (∀ (p : Port) (s : State), WriteAdmitted s p 0x682 → s.upd.owner ≠ .port p →
    Completes (exec (.updClose p) s) fun t => UpdRefuses s p 0x11 t) ∧
  (∀ (p : Port) (s : State), WriteAdmitted s p 0x682 → pendingBank s = none →
    Completes (exec (.updDiscard p) s) fun t => UpdRefuses s p 0x14 t) ∧
  (∀ (p : Port) (s : State), WriteAdmitted s p 0x682 → s.sys.state ≠ .recovery →
    (Completes (exec (.updExit p) s) fun t => UpdRefuses s p 0x14 t) ∧
    (Completes (exec (.updHold p) s) fun t => UpdRefuses s p 0x14 t)) ∧
  (∀ (p : Port) (n : Nat) (s : State), WriteAdmitted s p 0x682 → pendingBank s = some n → s.sup.pf = false →
    Completes (exec (.updDiscard p) s) fun t =>
      fwBank t n = { fwBank s n with rejected := true } ∧ fwBank t (1 - n) = fwBank s (1 - n) ∧
      t = { s with upd := { s.upd with bankA := t.upd.bankA, bankB := t.upd.bankB }, ports := t.ports } ∧
      Owes t p .ok 0x682 0) ∧
  (∀ (p : Port) (n : Nat) (s : State), WriteAdmitted s p 0x682 → pendingBank s = some n → s.sup.pf = true →
    Completes (exec (.updDiscard p) s) fun t =>
      t = { s with upd := { s.upd with discardDue := true }, ports := t.ports } ∧ Owes t p .ok 0x682 0) ∧
  (∀ (p : Port) (s : State), WriteAdmitted s p 0x682 → s.sys.state = .recovery →
    (Completes (exec (.updExit p) s) fun t => t.sys.state = .reset ∧ t.start.nextCause = 3 ∧ FlashKept s t) ∧
    (Completes (exec (.updHold p) s) fun t =>
      t = { s with upd := { s.upd with hold := true }, ports := t.ports } ∧ Owes t p .ok 0x682 0)) ∧
  (∀ (p : Port) (data : Word) (s : State), WriteAdmitted s p 0x6BF → inRange data.toNat 1 64 = true →
    pushRefused s p data.toNat = 0 → s.upd.count + data.toNat < 1024 →
    Completes (exec (.updPush p data) s) fun t =>
      t = { s with
        upd := { s.upd with
          count := s.upd.count + data.toNat, room := s.upd.room - 1
          image := tblWriteBytes 0xFF s.upd.image s.upd.count
            ((List.range data.toNat).map (fun k => (tblGet 0 s.upd.window k).setWidth 8)) }
        ports := t.ports } ∧ PortsAnswer s t p ∧ Owes t p .ok 0x6BF 0) ∧
  (∀ (p : Port) (data : Word) (s : State), WriteAdmitted s p 0x6BF → inRange data.toNat 1 64 = true →
    pushRefused s p data.toNat = 0 → 1024 ≤ s.upd.count → s.upd.count + data.toNat = 1024 + payloadLen s.upd.image →
    Completes (exec (.updPush p data) s) fun t =>
      t.upd.phase = 2 ∧ t.upd.count = s.upd.count + data.toNat ∧ t.upd.owner = s.upd.owner ∧ Owes t p .ok 0x6BF 0 ∧
      (s.sup.pf = false → t.upd.room = 64) ∧ (s.sup.pf = true → t.upd.room = s.upd.room - 1) ∧
      t = { s with upd := t.upd, ports := t.ports }) ∧
  (∀ (p : Port) (data : Word) (s : State), WriteAdmitted s p 0x6BF → inRange data.toNat 1 64 = true →
    pushRefused s p data.toNat ≠ 0 →
    Completes (exec (.updPush p data) s) fun t =>
      Refused s t p 0x6BF 9 ∧
      t = { s with upd := { s.upd with refuse := pushRefused s p data.toNat, refusePort := p }, ports := t.ports }) ∧
  (∀ s : State, s.upd.phase = 2 → s.sup.pf = false → s.sys.state ≠ .recovery → hashOk s.upd.image = true →
    imageTarget s.upd.image = 1 →
    nextGen s.upd.bankA.generation s.upd.bankA.complement s.upd.bankB.generation s.upd.bankB.complement < 0xFFFFFFFF →
    Completes (exec (.imageWriteDone []) s) fun t =>
      let g := nextGen s.upd.bankA.generation s.upd.bankA.complement s.upd.bankB.generation s.upd.bankB.complement
      t.upd.phase = 4 ∧ t.upd.reason = 0 ∧
      (s.upd.runBank ≤ 1 → fwBank t (1 - s.upd.runBank) =
          { image := s.upd.image, generation := g, complement := 0xFFFFFFFF - g, written := true } ∧
        fwBank t s.upd.runBank = fwBank s s.upd.runBank) ∧
      t = { s with upd := t.upd, log := t.log }) ∧
  (∀ s : State, s.upd.phase = 2 → s.sup.pf = false → hashOk s.upd.image = false → Live s →
    Completes (exec (.imageWriteDone []) s) fun t =>
      t.upd.phase = 0 ∧ t.upd.reason = 0x0C ∧ t.upd.image = [] ∧ t.upd.bankA = s.upd.bankA ∧ t.upd.bankB = s.upd.bankB ∧
      t.fb.upd.fst.getLsbD 0 = true) ∧
  (∀ (wear : List (Nat × Nat)) (s : State), s.sup.pf = true ∨ (s.upd.phase ≠ 2 ∧ s.upd.phase ≠ 3) →
    Completes (exec (.imageWriteDone wear) s) fun t => t = s)

/-- UPD_CONFIRM (R849, R852), trials (R850, R851, R880), UPD_FETCH and the card flow (R862, R863, R867), SAT_UPDATE (R870 to
R874), the satellite's erase (R870, R871). What waits while a power failure is declared is the model's choice (log entry 68). -/
def Obligations.TrialsAndFetches : Prop :=
  (∀ s : State, s.sys.trial = true → s.upd.trialStart ≠ none → s.upd.deferred = false → s.upd.confirmDue = false →
    s.sys.alarm = true ∨ s.sup.pf = true →
    Completes (exec (.trialExpiry false) s) fun t => t = { s with upd := { s.upd with deferred := true } }) ∧
  (∀ s : State, s.sys.trial = true → s.sys.alarm = false → s.sup.pf = false → s.upd.confirmDue = false →
    canWarm s = true →
    s.upd.runBank ≤ 1 → s.upd.trialStart ≠ none → s.upd.deferred = false →
    Completes (exec (.trialExpiry false) s) fun t => TrialAbandoned s t) ∧
  (∀ s : State, Completes (exec (.trialExpiry true) s) fun t => t = s) ∧
  (∀ s : State, s.sys.trial = true → s.sys.alarm = false → s.sup.pf = false → s.upd.confirmDue = false →
    canWarm s = true →
    s.upd.runBank ≤ 1 → s.upd.deferred = true →
    Completes (exec .deferredTrialRestart s) fun t => TrialAbandoned s t) ∧
  (∀ (p : Port) (s : State), WriteAdmitted s p 0x687 → keyHeld s p 0x687 = false →
    Completes (exec (.updConfirm p 0x25A) s) fun t =>
      keyHeld t p 0x687 = true ∧ Owes t p .ok 0x687 0 ∧ t = { s with ports := t.ports }) ∧
  (∀ (p : Port) (s : State), WriteAdmitted s p 0x687 → keyHeld s p 0x687 = true → s.sys.trial = true →
    s.sys.state = .run → s.sup.pf = false → s.upd.runBank ≤ 1 →
    Completes (exec (.updConfirm p 0x1A5) s) fun t =>
      t.sys = { s.sys with trial := false } ∧ t.upd.trialStart = none ∧ t.upd.deferred = false ∧
      fwBank t s.upd.runBank = { fwBank s s.upd.runBank with confirmed := true } ∧
      fwBank t (1 - s.upd.runBank) = fwBank s (1 - s.upd.runBank) ∧ OtpKept s.rnd.otp t.rnd.otp ∧
      Owes t p .ok 0x687 0 ∧ t = { s with sys := t.sys, upd := t.upd, log := t.log, rnd := t.rnd, ports := t.ports }) ∧
  (∀ (p : Port) (s : State), WriteAdmitted s p 0x687 → keyHeld s p 0x687 = true → s.sys.trial = true →
    s.sys.state = .run → s.sup.pf = true →
    Completes (exec (.updConfirm p 0x1A5) s) fun t =>
      t = { s with upd := { s.upd with confirmDue := true }, ports := t.ports } ∧ Owes t p .ok 0x687 0) ∧
  (∀ (p : Port) (s : State), WriteAdmitted s p 0x687 → keyHeld s p 0x687 = true →
    s.sys.trial = false ∨ s.sys.state ≠ .run →
    Completes (exec (.updConfirm p 0x1A5) s) fun t =>
      Refused s t p 0x687 9 ∧ t = { s with upd := { s.upd with refuse := 0x14, refusePort := p }, ports := t.ports }) ∧
  (∀ (cap fault : Nat) (m : List (Nat × List Byte)) (o : Order) (r : Running) (s : State), orderGet s o.id = some o →
    o.opcode = 0x13 → o.stage = .dispatched → s.upd.phase ≠ 3 → (slotGet s 0).st = .updating →
    (slotGet s 0).fallTo = some .ready → (slotGet s 0).run = some r → r.oid = o.id →
    fault ≠ 0 ∨ (fetchTakes s o.param cap m).2.2 = [] →
    Completes (exec (.updFetch o.id cap fault m) s) fun t =>
      OrderEnds o (if fault = 0 then 0 else if fault = 1 then 0x04D else 0x049) t ∧ t.upd.fetch = [] ∧
      (fault = 0 → t.upd.fsum = (fetchTakes s o.param cap m).1) ∧
      (slotGet t 0).st = .ready ∧ SlotsBut 0 s t ∧ t.rnd = s.rnd ∧ t.sys = s.sys) ∧
  (∀ (cap fault : Nat) (m : List (Nat × List Byte)) (o : Order) (s : State), orderGet s o.id = some o →
    o.opcode = 0x13 → o.stage = .dispatched → s.upd.phase ≠ 3 → (slotGet s 0).st = .updating →
    (slotGet s 0).fallTo = none → fault ≠ 0 ∨ (fetchTakes s o.param cap m).2.2 = [] →
    Completes (exec (.updFetch o.id cap fault m) s) fun t =>
      Falls 0 8 false (some (if fault = 0 then 0 else if fault = 1 then 0x04D else 0x049)) s t ∧ SlotsBut 0 s t ∧
      t.upd.fetch = [] ∧ t.ord = s.ord ∧ t.rnd = s.rnd ∧ t.sys = s.sys) ∧
  (∀ (cap : Nat) (m : List (Nat × List Byte)) (o : Order) (s : State), orderGet s o.id = some o → o.opcode = 0x13 →
    o.stage = .dispatched → s.upd.phase ≠ 3 → (slotGet s 0).st = .updating → (fetchTakes s o.param cap m).2.2 ≠ [] →
    Completes (exec (.updFetch o.id cap 0 m) s) fun t =>
      t.upd.phase = 3 ∧ t.upd.fetch = (fetchTakes s o.param cap m).2.2 ∧ t.upd.fsum = (fetchTakes s o.param cap m).1 ∧
      t.ord = s.ord ∧ t.slots = s.slots) ∧
  (∀ (cap first last : Nat) (m : List (Nat × List Byte)) (s : State), s.sys.state = .recovery →
    (slotGet s 0).st = .present → s.sup.vsl5Ok = true → jobRuns s = false → s.upd.owner = .none → s.upd.flowRan = false →
    findPartition cap m = some (first, last) →
    let l := scanImages m last 32 first
    (bestImage s m last 1 l).toList ++ (bestImage s m last 4 l).toList ≠ [] →
    Completes (exec (.recoveryCardFlow cap 0 m) s) fun t =>
      t.upd.phase = 3 ∧ t.upd.owner = .card ∧ t.upd.flowRan = true ∧
      t.upd.fetch = (bestImage s m last 1 l).toList ++ (bestImage s m last 4 l).toList ∧
      (slotGet t 0).st = .updating ∧ (slotGet t 0).pins.vccOn = true ∧ SlotsBut 0 s t ∧ t.sys = s.sys ∧ t.ord = s.ord) ∧
  (∀ (cap fault : Nat) (m : List (Nat × List Byte)) (s : State), s.sys.state = .recovery →
    (slotGet s 0).st = .present → s.sup.vsl5Ok = true → jobRuns s = false → s.upd.owner = .none → s.upd.flowRan = false →
    fault ≠ 0 ∨ findPartition cap m = none →
    Completes (exec (.recoveryCardFlow cap fault m) s) fun t =>
      (slotGet t 0).st = .falling ∧ (slotGet t 0).pins = contactsOff ∧ (slotGet t 0).cause = 8 ∧ SlotsBut 0 s t ∧
      t.upd = { s.upd with flowRan := true } ∧ t.sys = s.sys ∧ t.ord = s.ord) ∧
  (∀ (cap fault : Nat) (m : List (Nat × List Byte)) (s : State),
    s.sys.state ≠ .recovery ∨ (slotGet s 0).st ≠ .present ∨ s.sup.vsl5Ok = false ∨ jobRuns s = true ∨
      s.upd.flowRan = true →
    Completes (exec (.recoveryCardFlow cap fault m) s) fun t => t = s) ∧
  (∀ (o : Order) (s : State), orderGet s o.id = some o → o.opcode = 0x12 → o.stage = .dispatched → o.progress ≤ 1 →
    ringLive s = true → s.upd.satPos = 0x3FF → NothingSent s (slotPos o.slot) →
    (∀ id ∈ slotsOf (slotPos o.slot), viewPowered (slotViewGet s id) = false) →
    Completes (exec (.satUpdate o.id) s) fun t =>
      let pos := slotPos o.slot
      let x := (if bitAt o.param 0 then s.upd.store1 else s.upd.store0).image
      let start := updStart (viewGet s pos)
      let args := natLe 3 start ++ natLe 3 (payloadLen x - start) ++ sha256 (payload x start (payloadLen x - start)) ++
        natLe 4 (imageVersion x)
      t.upd.satPos = 4 * pos ∧ t.upd.satPhase = 1 ∧ t.upd.satStart = start ∧
      CmdGoes pos { code := 0x10, args := args, order := o.id } s t ∧ t.sys = s.sys) ∧
  (∀ (pos : Nat) (s : State), ringLive s = true → s.upd.satPos = 4 * pos → s.upd.satPhase = 1 → NothingSent s pos →
    Completes (exec (.updIdentPoll pos) s) fun t =>
      CmdGoes pos { code := 0x0C, args := [] } s t ∧ t = { s with sat := t.sat, tth := t.tth }) ∧
  (∀ (pos : Nat) (o : Order) (s : State), ringLive s = true → s.upd.satPos = 4 * pos → s.upd.satPhase ≤ 3 →
    satOrder s pos 0x12 = some o →
    Completes (exec (.satUpdateTimeout pos) s) fun t =>
      OrderEnds o 0x04A t ∧ t.upd.satPos = 0x3FF ∧ t.upd.satPhase = 0 ∧ t.fb.upd.fst.getLsbD 3 = true) ∧
  (∀ (sat : Nat) (s : State), (satGet s sat).erasing = true →
    Completes (exec (.satLoaderEraseDone sat) s) fun t =>
      SatIs sat { satGet s sat with erasing := false, receiving := true, imageState := 2 } s t)

/-- RIG_CMD (R70 to R73), RIG_COMMAND_DONE (R57 to R59, R64, R68, R69, R152). Which bank counts as loaded from after an
APPLY_LIVE is the model's choice (log entry 57). -/
def Obligations.RigCommands : Prop :=
  (∀ (p : Port) (s : State), WriteAdmitted s p 0x70A → s.rig.job = none → s.rig.owner ≠ some p.other →
    Completes (exec (.rigOpen p none) s) fun t =>
      t.rig = { s.rig with owner := some p, staging := [], cmd := 1, reason := 0, errPos := 0 } ∧
      (portGet t p).ievt = (portGet s p).ievt ||| 0x010 ∧ portGet t p.other = portGet s p.other ∧
      Owes t p .ok 0x70A 0 ∧ t = { s with rig := t.rig, ports := t.ports }) ∧
  (∀ (p : Port) (s : State), WriteAdmitted s p 0x70A → s.rig.job ≠ none ∨ s.rig.owner = some p.other →
    Completes (exec (.rigOpen p none) s) fun t => Refused s t p 0x70A 9 ∧ t = { s with ports := t.ports }) ∧
  (∀ (p : Port) (s : State), WriteAdmitted s .a 0x70A → WriteAdmitted s .b 0x70A → s.rig.job = none →
    s.rig.owner = none →
    Completes (exec (.rigOpen p (some (.write 0x70A 1))) s) fun t =>
      t.rig.owner = some s.sys.prio ∧ Owes t s.sys.prio .ok 0x70A 0 ∧
      (portGet t s.sys.prio.other).owed.stat = .refused ∧ t.sys = { s.sys with tied := true }) ∧
  (∀ (p : Port) (s : State), WriteAdmitted s p 0x70A → s.rig.job = none → s.rig.owner = some p →
    Completes (exec (.rigClose p) s) fun t =>
      t.rig = { s.rig with owner := none, staging := [], cmd := 2, reason := 0, errPos := 0 } ∧
      (portGet t p).ievt = (portGet s p).ievt ||| 0x010 ∧ Owes t p .ok 0x70A 0 ∧
      t = { s with rig := t.rig, ports := t.ports }) ∧
  (∀ (p : Port) (s : State), WriteAdmitted s p 0x70A → s.sys.state = .run →
    (Completes (exec (.rigValidate p) s) fun t => RigAnswers s p 3 t) ∧
    (Completes (exec (.rigApplyLive p) s) fun t => RigAnswers s p 4 t) ∧
    (Completes (exec (.rigStore p) s) fun t => RigAnswers s p 5 t)) ∧
  (∀ (j : RigJob) (wear : List (Nat × Nat)) (s : State), s.rig.job = some j →
    s.sys.state = .run ∨ s.sys.state = .standby → j.releaseAfter = false →
    let c := checkRig s rigMax 0 (stagedWords j.words)
    c.reason ≠ 0 ∨ j.cmd = 3 →
    Completes (exec (.rigCommandDone wear) s) fun t =>
      t.rig = { s.rig with job := none, cmd := j.cmd, reason := c.reason, errPos := if c.reason = 0 then 0 else c.pos } ∧
      (portGet t j.port).ievt = (portGet s j.port).ievt ||| 0x010 ∧
      t = { s with rig := t.rig, ports := t.ports, rnd := { s.rnd with sigLast := t.rnd.sigLast } }) ∧
  (∀ (j : RigJob) (s : State), s.rig.job = some j → s.sys.state = .run ∨ s.sys.state = .standby → j.cmd = 5 →
    j.releaseAfter = false →
    (checkRig s rigMax 0 (stagedWords j.words)).reason = 0 → s.sup.pf = false → s.rig.bank ≤ 1 →
    nextGen s.rig.bankA.generation s.rig.bankA.complement s.rig.bankB.generation s.rig.bankB.complement < 0xFFFFFFFF →
    Completes (exec (.rigCommandDone []) s) fun t =>
      let g := nextGen s.rig.bankA.generation s.rig.bankA.complement s.rig.bankB.generation s.rig.bankB.complement
      t.rig.job = none ∧ t.rig.reason = 0 ∧ t.rig.pending = true ∧ t.rig.running = s.rig.running ∧
      rigBank t (1 - s.rig.bank) = { words := bankWords (stagedWords j.words), generation := g, complement := 0xFFFFFFFF - g } ∧
      rigBank t s.rig.bank = rigBank s s.rig.bank ∧
      (portGet t j.port).ievt = (portGet s j.port).ievt ||| 0x010 ∧ t.sys = s.sys) ∧
  (∀ (j : RigJob) (wear : List (Nat × Nat)) (s : State), s.rig.job = some j → s.sys.state = .run → j.cmd = 4 →
    j.releaseAfter = false →
    let c := checkRig s rigMax 0 (stagedWords j.words)
    c.reason = 0 → needsRestart c.rig s.rig.running = true →
    Completes (exec (.rigCommandDone wear) s) fun t =>
      t.rig = { s.rig with job := none, cmd := 4, reason := 0x13, errPos := 0 } ∧
      (portGet t j.port).ievt = (portGet s j.port).ievt ||| 0x010 ∧
      t = { s with rig := t.rig, ports := t.ports, rnd := { s.rnd with sigLast := t.rnd.sigLast } }) ∧
  (∀ (j : RigJob) (s : State), s.rig.job = some j → s.sys.state = .run → j.cmd = 4 → j.releaseAfter = false →
    let c := checkRig s rigMax 0 (stagedWords j.words)
    c.reason = 0 → needsRestart c.rig s.rig.running = false → s.sup.pf = false → s.rig.bank ≤ 1 →
    nextGen s.rig.bankA.generation s.rig.bankA.complement s.rig.bankB.generation s.rig.bankB.complement < 0xFFFFFFFF →
    Completes (exec (.rigCommandDone []) s) fun t =>
      let g := nextGen s.rig.bankA.generation s.rig.bankA.complement s.rig.bankB.generation s.rig.bankB.complement
      t.rig.job = none ∧ t.rig.reason = 0 ∧ t.rig.running = c.rig ∧ t.rig.bank = 1 - s.rig.bank ∧ t.rig.pending = false ∧
      rigBank t (1 - s.rig.bank) = { words := bankWords (stagedWords j.words), generation := g, complement := 0xFFFFFFFF - g } ∧
      rigBank t s.rig.bank = rigBank s s.rig.bank ∧ t.sup.vPf = c.rig.site.vPf) ∧
  (∀ (j : RigJob) (wear : List (Nat × Nat)) (s : State), s.rig.job = some j →
    s.sys.state = .run ∨ s.sys.state = .standby → j.cmd = 5 →
    (checkRig s rigMax 0 (stagedWords j.words)).reason = 0 → s.sup.pf = true →
    Completes (exec (.rigCommandDone wear) s) fun t =>
      t.rig.job = none ∧ t.rig.reason = 0x16 ∧ t.rig.bankA = s.rig.bankA ∧ t.rig.bankB = s.rig.bankB ∧
      t.rig.running = s.rig.running)

/-- RECORDER_SEED (R894), freezing (R895 to R899, R912), dumps (R897 to R900), REC_REPLAY (R901 to R904, R911), REPLAY_TICK
(R905 to R908, R914). -/
def Obligations.RecorderAndReplay : Prop :=
  (∀ s : State, s.rcd.recording = true → s.sys.state = .run ∨ s.sys.state = .standby →
    Completes (exec .recorderSeed s) fun t =>
      let n := (s.rcd.seeds.head?.map (fun x => 1 - x.buffer)).getD 0
      t = { s with rcd := { s.rcd with
        seeds := ({ tick := s.sys.tick, ready := s.rnd.ready, buffer := n } :: s.rcd.seeds).take 2
        marks := s.rcd.marks ++ [(3, n)] } }) ∧
  (∀ s : State, s.rcd.delaying = true →
    Completes (exec .recorderFreezeDelayEnd s) fun t =>
      t.rcd.delaying = false ∧ t.rcd.frozen = true ∧ t.rcd.recording = false ∧ t.rcd.ftick = s.rcd.ftick ∧
      t.rcd.fcause = s.rcd.fcause ∧ t.rcd.seeds = s.rcd.seeds ∧ t.rcd.ram.blocks = s.rcd.ram.blocks ∧
      t = { s with rcd := t.rcd }) ∧
  (∀ (p : Port) (s : State), WriteAdmitted s p 0x783 → s.rcd.recording = true → s.rcd.frozen = false →
    s.rcd.delaying = false →
    Completes (exec (.recFreeze p) s) fun t =>
      t.rcd.frozen = true ∧ t.rcd.recording = false ∧ t.rcd.fcause = 6 ∧ t.rcd.ftick = s.sys.tick ∧
      t.rcd.dumping = (s.rcd.armed0 || s.rcd.armed1) ∧ t.rcd.ram.blocks = s.rcd.ram.blocks ∧ Owes t p .ok 0x783 0 ∧
      PortsAnswer s t p ∧ t = { s with rcd := t.rcd, ports := t.ports }) ∧
  (∀ (p : Port) (s : State), WriteAdmitted s p 0x783 → s.rcd.frozen = true → s.rcd.causeTick ≠ s.sys.tick →
    Completes (exec (.recFreeze p) s) fun t =>
      t = { s with rcd := { s.rcd with missed := satInc s.rcd.missed }, ports := t.ports } ∧ Owes t p .ok 0x783 0) ∧
  (∀ (p : Port) (s : State), WriteAdmitted s p 0x783 → s.rcd.frozen = true → s.rcd.dumping = false →
    Completes (exec (.recArm p) s) fun t =>
      t.rcd.recording = (decide (s.sys.state ≠ .replay) && decide (s.sys.state ≠ .fatal)) ∧ t.rcd.frozen = false ∧
      t.rcd.seeds = [] ∧ t.rcd.ram.blocks = [] ∧ t.rcd.queue = [] ∧ t.rcd.marks = s.rcd.marks ++ [(0, 0)] ∧
      t.rcd.area0 = s.rcd.area0 ∧ t.rcd.area1 = s.rcd.area1 ∧ Owes t p .ok 0x783 0 ∧
      t = { s with rcd := t.rcd, ports := t.ports }) ∧
  (∀ (p : Port) (s : State), WriteAdmitted s p 0x783 → s.rcd.dumping = true →
    Completes (exec (.recArm p) s) fun t =>
      Refused s t p 0x783 9 ∧ t = { s with rcd := { s.rcd with refuseReason := 6, refusePort := p }, ports := t.ports }) ∧
  (∀ (p : Port) (s : State), WriteAdmitted s p 0x783 →
    Completes (exec (.recStop p) s) fun t =>
      (s.sys.state ≠ .replay → t = { s with ports := t.ports } ∧ Owes t p .ok 0x783 0) ∧
      (s.sys.state = .replay → t.sys.state = .reset ∧ t.start.nextCause = 4 ∧ t.rcd.rstat = 4 ∧
        t.rcd.replaying = false ∧ FlashKept s t)) ∧
  (∀ s : State, s.rcd.dumping = true → s.sup.pf = false → s.sys.state ≠ .off → s.rcd.armed0 = true → s.rcd.fcause ≠ 2 →
    Completes (exec (.recorderDumpDone true false [] []) s) fun t =>
      let l := s.rcd.ram.blocks.take 115
      t.rcd.dumping = false ∧ t.rcd.area0.valid = true ∧ t.rcd.area0.blocks = l ∧
      t.rcd.area0.seed = dumpSeed s.rcd.seeds (oldestTime l) ∧ t.rcd.area0.ftick = s.rcd.ram.ftick ∧
      t.rcd.area0.cause = s.rcd.ram.cause ∧ t.rcd.armed0 = false ∧ t.rcd.armed1 = !bitAt s.rcd.keep 1 ∧
      t.rcd.frozen = s.rcd.frozen ∧ t.fb = s.fb ∧ t.sys = s.sys) ∧
  (∀ s : State, s.rcd.dumping = true → s.sup.pf = false → Live s → s.sys.state ≠ .replay → s.rcd.armed0 = true →
    s.rcd.fcause = 2 →
    Completes (exec (.recorderDumpDone true false [] []) s) fun t =>
      t.rcd.dumping = false ∧ t.rcd.area0.valid = true ∧ t.rcd.recording = true ∧ t.rcd.frozen = false) ∧
  (∀ s : State, s.rcd.dumping = true → s.sup.pf = false → Live s → s.rcd.armed0 = true →
    Completes (exec (.recorderDumpDone false false [] []) s) fun t =>
      t.rcd.dumping = false ∧ t.rcd.area0.valid = false ∧ t.rcd.armed0 = false ∧ t.fb.rcd.fst.getLsbD 2 = true) ∧
  (∀ (n : Nat) (s : State), s.rcd.dumping = true → s.sup.pf = false → Live s → s.rcd.armed0 = true →
    codeOf s.fb.rcd 1 ≠ 4 → n < s.rcd.ram.blocks.length → s.rcd.ram.blocks.length ≤ 115 →
    Completes (exec (.recorderDumpDone true false [n] []) s) fun t =>
      t.fb.rcd.fst.getLsbD 1 = true ∧ t.rcd.area0.valid = true ∧
      (t.rcd.area0.blocks.reverse.map (fun b => b.gap)).getD n false = true) ∧
  (∀ (p : Port) (s : State), WriteAdmitted s p 0x784 → keyHeld s p 0x784 = false →
    Completes (exec (.recReplay p 0x1E1) s) fun t =>
      keyHeld t p 0x784 = true ∧ Owes t p .ok 0x784 0 ∧ t = { s with ports := t.ports }) ∧
  (∀ (p : Port) (s : State), WriteAdmitted s p 0x784 → keyHeld s p 0x784 = true →
    replayRefusal s (portGet s p).recDsel ≠ 0 →
    Completes (exec (.recReplay p 0x21E) s) fun t =>
      Refused s t p 0x784 9 ∧
      t = { s with rcd := { s.rcd with refuseReason := replayRefusal s (portGet s p).recDsel, refusePort := p }
                   ports := t.ports }) ∧
  (∀ (p : Port) (r : Recording) (x : Seed) (s : State), WriteAdmitted s p 0x784 → keyHeld s p 0x784 = true →
    replayRefusal s (portGet s p).recDsel = 0 → replaySource s (portGet s p).recDsel = some (r, x) →
    Completes (exec (.recReplay p 0x21E) s) fun t =>
      t.sys = { s.sys with state := .replay } ∧ t.rcd.replaying = true ∧ t.rcd.recording = false ∧ t.rcd.rtick = x.tick ∧
      t.rcd.play.source = entriesAfter r.blocks x.tick ∧ t.rcd.play.ready = x.ready ∧
      t.rcd.divcnt = 0 ∧ t.rcd.rstat = 0 ∧ t.pins.trmZ = 0xFF ∧ t.pins.en = s.pins.en ∧
      (∀ k, k < 4 → inSession (slotGet s k) = true → Falls k 7 true (some 0x085) s t) ∧ Owes t p .ok 0x784 0 ∧
      t.sat = s.sat ∧ (s.upd.phase ≠ 3 → t.upd = s.upd)) ∧
  (∀ (outs : List OutEvent) (s : State), s.sys.state = .replay → recordedSig (replayNow s) = signature outs →
    replayGap s = false → replayRest s ≠ [] →
    Completes (exec (.replayTick outs) s) fun t =>
      t.rcd = { s.rcd with rtick := nextTick s.rcd.rtick, play := t.rcd.play } ∧ t.rcd.play.source = replayRest s ∧
      t = { s with rcd := t.rcd, free := t.free }) ∧
  (∀ (outs : List OutEvent) (s : State), s.sys.state = .replay → recordedSig (replayNow s) ≠ signature outs →
    s.rcd.divcnt = 0 →
    Completes (exec (.replayTick outs) s) fun t =>
      t.rcd.divcnt = 1 ∧ t.rcd.divt = nextTick s.rcd.rtick ∧ (outs ≠ [] → t.rcd.divcls = lowestClass outs) ∧
      (∀ e, recordedSig (replayNow s) = some e → t.rcd.sigRec = e.1 % 65536) ∧
      (∀ e, signature outs = some e → t.rcd.sigRep = e.1 % 65536) ∧
      (bitAt s.rcd.cfg 4 = false → t.sys.state = .reset ∧ t.start.nextCause = 4 ∧ t.rcd.rstat = 2) ∧
      (bitAt s.rcd.cfg 4 = true → replayGap s = false → replayRest s ≠ [] → t.sys = s.sys)) ∧
  (∀ (outs : List OutEvent) (s : State), s.sys.state = .replay → recordedSig (replayNow s) = signature outs →
    replayGap s = true ∨ replayRest s = [] →
    Completes (exec (.replayTick outs) s) fun t =>
      t.sys.state = .reset ∧ t.start.nextCause = 4 ∧ t.rcd.rstat = (if replayGap s then 3 else 1)) ∧
  (∀ (outs : List OutEvent) (s : State), s.sys.state ≠ .replay →
    Completes (exec (.replayTick outs) s) fun t => t = s)

/-- BEACON_SEND (R389, R430, R431), RIPCORD_SYMBOL and SAT_RIPCORD_ISOLATE (R35, R392, R450), WAKE_SYMBOL (R393),
RING_INPUT_LOST (R416), HUB_RING_INPUT_LOST (R418), SAT_RELOCK (R94, R432), SILENCE_TIMEOUT (R451), LOST_SILENCE_RELEASE
(R667). -/
def Obligations.RingSymbols : Prop :=
  (∀ (k : Nat) (pairK : Bool) (s : State), k < 4 → (tetherGet s k).transmit = true → echoDue s k pairK = false →
    Completes (exec (.beaconSend k pairK) s) fun t =>
      tetherGet t k = { tetherGet s k with
        beacons := (tetherGet s k).beacons + 1, sent := (tetherGet s k).sent ++ [(.outEnd, [.beacon])] } ∧
        TethersBut k s t ∧
      (∀ j, satGet t j = if posTether j = k then { satGet s j with markerTick := (satGet s j).tick } else satGet s j) ∧
      t = { s with tth := t.tth, sat := { s.sat with sats := t.sat.sats } }) ∧
  (∀ (k : Nat) (pairK : Bool) (s : State), (tetherGet s k).transmit = false ∨ echoDue s k pairK = true →
    Completes (exec (.beaconSend k pairK) s) fun t => t = s) ∧
  (∀ (sat : Nat) (pairK : Bool) (s : State), (satGet s sat).lock ≠ .none →
    Completes (exec (.ripcordSymbol sat pairK) s) fun t =>
      (satGet t sat).ripcordAt = some (satGet s sat).tick ∧ (satGet t sat).cond = (satGet s sat).cond ∧
      (satGet t sat).position = (satGet s sat).position ∧ (satGet t sat).lock = (satGet s sat).lock ∧ SatsBut sat s t ∧
      SlotsFall sat s t ∧ RunsCut sat s t ∧ (∀ j, j / 4 ≠ sat → slotGet t j = slotGet s j)) ∧
  (∀ (sat : Nat) (pairK : Bool) (s : State), (satGet s sat).lock = .none →
    Completes (exec (.ripcordSymbol sat pairK) s) fun t => t = s) ∧
  (∀ (sat : Nat) (s : State), (satGet s sat).ripcordAt ≠ none →
    Completes (exec (.satRipcordIsolate sat) s) fun t =>
      (satGet t sat).position = 0 ∧ (satGet t sat).ripcordAt = none ∧ (satGet t sat).fltN = false ∧
      (satGet t sat).cond = .isolated ∧ (satGet t sat).isoBit = true ∧ (satGet t sat).sending = none ∧
      (satGet t sat).results = [] ∧ (satGet t sat).lock = (satGet s sat).lock ∧ SatsBut sat s t ∧ SlotsFall sat s t ∧
      (∀ j, j / 4 ≠ sat → slotGet t j = slotGet s j)) ∧
  (∀ (sat position : Nat) (all : Bool) (s : State), sat ≠ 0 → (satGet s sat).cond = .asleep →
    all = true ∨ (satGet s sat).position = position →
    Completes (exec (.wakeSymbol sat all position) s) fun t =>
      (satGet t sat).cond = .running ∧ Sends (satGet t sat) { kind := 0x07 } ∧ SatsBut sat s t ∧ t.slots = s.slots) ∧
  (∀ (sat position : Nat) (s : State), (satGet s sat).position ≠ position →
    Completes (exec (.wakeSymbol sat false position) s) fun t => t = s) ∧
  (∀ (sat : Nat) (pairK : Bool) (s : State), (satGet s sat).cond ≠ .unpowered → (satGet s sat).lock ≠ .none →
    Completes (exec (.ringInputLost sat pairK) s) fun t =>
      let x := satGet s sat
      let y := satGet t sat
      y.inLostF = (x.inLostF || !pairK) ∧ y.inLostK = (x.inLostK || pairK) ∧ y.unwrapAt = none ∧ y.silent = true ∧
      y.lock = (if x.lock = (if pairK then .k else .f) then .holdover else x.lock) ∧
      (y.lock ≠ .holdover → (if pairK then x.inLostF else x.inLostK) = false →
        y.foldA = (x.foldA || !pairK) ∧ y.foldB = (x.foldB || pairK) ∧ y.foldDue = none ∧
        Sends y { kind := 0x04, payload := [byte (bit (!pairK) + 2 * bit pairK), byte (bit pairK)] }) ∧
      (y.lock = .holdover ∨ (if pairK then x.inLostF else x.inLostK) = true →
        y.foldA = x.foldA ∧ y.foldB = x.foldB ∧ y.foldDue = some pairK ∧ y.sending = x.sending ∧ y.results = x.results) ∧
      SatsBut sat s t ∧ t = { s with sat := { s.sat with sats := t.sat.sats } }) ∧
  (∀ (sat : Nat) (s : State), (satGet s sat).lock = .holdover →
    ¬ ((satGet s sat).inLostF = true ∧ (satGet s sat).inLostK = true) →
    Completes (exec (.satRelock sat) s) fun t =>
      let x := satGet s sat
      let y := satGet t sat
      y.lock = (if x.inLostF then .k else .f) ∧ y.relockAt = some x.tick ∧ y.foldDue = none ∧
      Sends y { kind := 0x0A, payload := [byte (bit x.inLostF)] } ∧
      (∀ b, x.foldDue = some b → y.foldA = (x.foldA || !b) ∧ y.foldB = (x.foldB || b) ∧
        Sends y { kind := 0x04, payload := [byte (bit (!b) + 2 * bit b), byte (bit b)] }) ∧
      (x.foldDue = none → y.foldA = x.foldA ∧ y.foldB = x.foldB) ∧ SatsBut sat s t ∧
      t = { s with sat := { s.sat with sats := t.sat.sats } }) ∧
  (∀ (sat : Nat) (pairK : Bool) (s : State), (satGet s sat).cond ≠ .unpowered → (satGet s sat).lock = .none →
    (satGet s sat).foldDue = none →
    Completes (exec (.satPllLock sat pairK) s) fun t =>
      SatIs sat { satGet s sat with
        lock := if pairK then .k else .f, relockAt := some (satGet s sat).tick
        cond := if (satGet s sat).cond = .unlocked then .unassigned else (satGet s sat).cond } s t) ∧
  (∀ (sat : Nat) (s : State), (satGet s sat).lock ≠ .none → codeOf (satGet s sat).fault 3 ≠ 4 →
    Completes (exec (.silenceTimeout sat) s) fun t =>
      (satGet t sat).lock = .none ∧ (satGet t sat).position = 0 ∧ (satGet t sat).sending = none ∧
      (satGet t sat).results = [] ∧ (satGet t sat).cond = .isolated ∧ (satGet t sat).isoBit = true ∧
      (satGet t sat).fault.fst.getLsbD 3 = true ∧ SlotsFall sat s t ∧ SatsBut sat s t) ∧
  (∀ (k : Nat) (s : State), k < 4 → ringLive s = true → (rigTether s k).isSome = true → (tetherGet s k).brkB = 0 →
    Completes (exec (.hubRingInputLost k false) s) fun t =>
      (tetherGet t k).outLost = true ∧ (tetherGet t k).linkOut = { stands := true } ∧ (tetherGet t k).mode = 3 ∧
      (tetherGet t k).brkA = 1 ∧ ((tetherGet s k).brkA ≠ 1 → t.fb.tth.fst.getLsbD 0 = true) ∧ TethersBut k s t) ∧
  (∀ (k : Nat) (s : State), k < 4 → ringLive s = true → (rigTether s k).isSome = true → (tetherGet s k).brkA = 0 →
    Completes (exec (.hubRingInputLost k true) s) fun t =>
      (tetherGet t k).retLost = true ∧ (tetherGet t k).linkRet = { stands := true } ∧ (tetherGet t k).mode = 3 ∧
      (tetherGet t k).brkB = lastSegment s k ∧ TethersBut k s t) ∧
  (∀ (place : Nat) (pairK : Bool) (s : State), posNo place ≠ 0 →
    Completes (exec (.ringInputRegained place pairK) s) fun t =>
      let x := satGet s place
      SatIs place { x with
        inLostK := x.inLostK && !pairK, inLostF := x.inLostF && pairK
        foldDue := if x.foldDue = some pairK then none else x.foldDue } s t) ∧
  (∀ (place : Nat) (pairK : Bool) (s : State), place < 256 → posNo place = 0 →
    Completes (exec (.ringInputRegained place pairK) s) fun t =>
      tetherGet t (posTether place) = { tetherGet s (posTether place) with
        outLost := (tetherGet s (posTether place)).outLost && !pairK
        retLost := (tetherGet s (posTether place)).retLost && pairK, taken := (tetherGet t (posTether place)).taken } ∧
      TethersBut (posTether place) s t ∧ t = { s with tth := t.tth }) ∧
  (∀ (pos : Nat) (s : State), (viewGet s pos).state = .lost →
    Completes (exec (.lostSilenceRelease pos) s) fun t =>
      (∀ id, ldgGet t id = if id ∈ slotsOf pos then
        { ldgGet s id with res := 0, readings := [], activating := false, measHigh := false } else ldgGet s id) ∧
      t = { s with ldg := { s.ldg with slots := t.ldg.slots } })

/-- ENUM_QUERY, ENUM_ANSWER (R407 to R411), walks (R408, R414, R437), ASSIGN (R401, R410, R447), DELAY (R429, R430), TSYNC
(R96, R431), TSYNC_ANSWER (R412, R455), forwarding (R383). -/
def Obligations.Enumeration : Prop :=
  (∀ (sat hop : Nat) (rx : Arrival) (s : State), satHears (satGet s sat) = true → (satGet s sat).cond ≠ .parked →
    (satGet s sat).position = rx.pos → Arrives (toSat rx false 4 [byte hop]) rx →
    Completes (exec (.enumQuery sat hop rx) s) fun t =>
      SatIs sat (satAnswer rx 4 false (identity (satGet s sat) hop) (satGet s sat)) s t) ∧
  (∀ (sat hop : Nat) (rx : Arrival) (s : State), satHears (satGet s sat) = true →
    (satGet s sat).cond = .parked ∨ (satGet s sat).position ≠ rx.pos → rx.raw = none →
    Completes (exec (.enumQuery sat hop rx) s) fun t =>
      SatIs sat (satPass { rx with raw := none } (toSat rx false 4 [byte (hop + 1)]) (satGet s sat)) s t) ∧
  (∀ (sat hop : Nat) (rx : Arrival) (s : State), satHears (satGet s sat) = false →
    Completes (exec (.enumQuery sat hop rx) s) fun t => t = s) ∧
  (∀ (k uid hwver ringver hop : Nat) (rx : Arrival) (s : State), k < 4 → ringLive s = true →
    (rigTether s k).isSome = true → arrivesBad (frameOk (identFrame rx uid hwver ringver hop)) rx = true →
    Completes (exec (.enumAnswer k uid hwver ringver hop rx) s) fun t =>
      (tetherGet t k).badF = satInc (tetherGet s k).badF ∧ (tetherGet t k).walk = (tetherGet s k).walk ∧
      (((tetherGet s k).badTicks.filter (fun n => decide (s.sys.tick - n ≤ 800000))).length = 15 →
        t.fb.tth.fst.getLsbD 4 = true) ∧
      TethersBut k s t ∧ t.sat = s.sat) ∧
  (∀ (k uid hwver ringver hop : Nat) (rx : Arrival) (s : State), (rigTether s k).isSome = false →
    Completes (exec (.enumAnswer k uid hwver ringver hop rx) s) fun t => t = s) ∧
  (∀ (k uid hwver ringver hop : Nat) (rx : Arrival) (w : Walk) (s : State), k < 4 →
    HubTakes s k (identFrame rx uid hwver ringver hop) rx → rx.pos = 0 → (tetherGet s k).walk = some w →
    w.current = none →
    let p := givenPosition s k w.from_ uid hop
    Completes (exec (.enumAnswer k uid hwver ringver hop rx) s) fun t =>
      (parks s k uid p = false →
        (viewGet t (64 * k + p)).uid = uid ∧ (viewGet t (64 * k + p)).ringver = ringver ∧
        (viewGet t (64 * k + p)).hwver = hwver % 128 ∧ (viewGet t (64 * k + p)).assigning = true ∧
        (viewGet t (64 * k + p)).path = w.from_ ∧
        (bitAt hwver 7 = true → (viewGet t (64 * k + p)).state = .isolated) ∧ ViewsBut (64 * k + p) s t ∧
        (tetherGet t k).walk = some { w with hop := hop, given := p :: w.given, current := some (64 * k + p) } ∧
        Leaves k w.from_ (hubFrame 0 false 5 (natLe 8 uid ++ [byte p, byte (bit (viewGet t (64 * k + p)).prov)])) s t ∧
        TethersBut k s t ∧ t.fb = s.fb) ∧
      (parks s k uid p = true →
        uid ∈ (tetherGet t k).parked ∧ t.fb.tth.fst.getLsbD 2 = true ∧ t.sat = s.sat ∧
        (tetherGet t k).walk = some w ∧ Leaves k w.from_ (hubFrame 0 false 4 [0]) s t ∧ TethersBut k s t)) ∧
  (∀ (k : Nat) (w : Walk) (s : State), k < 4 → ringLive s = true → (tetherGet s k).walk = some w →
    Completes (exec (.enumWalkTimeout k) s) fun t =>
      let w' : Option Walk := if w.from_ = .outEnd then some { from_ := .retEnd, given := w.given, outDone := true } else none
      Carries k { tetherGet s k with walk := w' } s t ∧
      (w.from_ = .outEnd → Leaves k .retEnd (hubFrame 0 false 4 [0]) s t) ∧
      (w.current = none → t.sat = s.sat) ∧
      (∀ pos, w.current = some pos → (viewGet t pos).assigning = false ∧ ViewsBut pos s t) ∧
      t = { s with tth := t.tth, sat := t.sat }) ∧
  (∀ (k : Nat) (w : Walk) (s : State), k < 4 → ringLive s = true → (tetherGet s k).walk = some w → w.current = none →
    Completes (exec (.dir0FrameReturned k true true) s) fun t =>
      (tetherGet t k).walk = none ∧ (tetherGet t k).mode = (if (tetherGet s k).mode = 3 then 3 else 2) ∧
      ((tetherGet s k).mode ≠ 3 → ∀ p ∈ tetherPositions s k, (viewGet t p).path = .outEnd) ∧ TethersBut k s t) ∧
  (∀ (k : Nat) (w : Walk) (s : State), k < 4 → ringLive s = true → (tetherGet s k).walk = some w → w.current = none →
    w.from_ = .outEnd →
    Completes (exec (.dir0FrameReturned k true false) s) fun t =>
      (tetherGet t k).mode = 3 ∧ (tetherGet t k).walk = some { from_ := .retEnd, given := w.given, outDone := true } ∧
      ((tetherGet s k).mode = 1 → (tetherGet s k).brkA = 0 → (tetherGet s k).brkB = 0 →
        (tetherGet t k).brkA = (tetherGet s k).chain + 1 ∧ (tetherGet t k).brkB = (tetherGet s k).chain + 1) ∧
      ((tetherGet s k).mode ≠ 1 → (tetherGet t k).brkA = (tetherGet s k).brkA ∧
      (tetherGet t k).brkB = (tetherGet s k).brkB) ∧
      TethersBut k s t ∧ t = { s with tth := t.tth }) ∧
  (∀ (k : Nat) (farEnd : Bool) (s : State), k < 4 →
    Completes (exec (.dir0FrameReturned k false farEnd) s) fun t =>
      Carries k (tetherGet s k) s t ∧ t = { s with tth := t.tth }) ∧
  (∀ (k : Nat) (s : State), k < 4 → s.sys.state = .run ∨ s.sys.state = .standby → (rigTether s k).isSome = true →
    (tetherGet s k).walk = none → (∃ p ∈ tetherPositions s k, (viewGet s p).state = .absent) →
    Completes (exec (.tetherRewalk k) s) fun t =>
      (tetherGet t k).walk = some {} ∧ (tetherGet t k).lastWalk = s.sys.tick ∧
      Leaves k .outEnd (hubFrame 0 false 4 [0]) s t ∧ TethersBut k s t ∧ t = { s with tth := t.tth }) ∧
  (∀ (sat position : Nat) (prov : Bool) (rx : Arrival) (s : State), satHears (satGet s sat) = true →
    (satGet s sat).position = rx.pos → rx.pos ≠ 0 ∨ (satGet s sat).cond ≠ .parked →
    Arrives (toSat rx false 5 (natLe 8 (satGet s sat).uid ++ [byte position, byte (bit prov)])) rx →
    Completes (exec (.assign sat (satGet s sat).uid position prov rx) s) fun t =>
      (satGet t sat).position = position ∧ (satGet t sat).provisional = (prov && decide (position ≠ 0)) ∧
      (satGet t sat).isoBit = false ∧
      (satGet t sat).cond = (if position = 0 then .parked else assignedCond (satGet s sat).imageState) ∧
      (satGet t sat).lastH = false ∧ (satGet t sat).togS = false ∧ (satGet t sat).setSat = false ∧
      (satGet t sat).setSlots = 0 ∧ (satGet t sat).sending = none ∧ (satGet t sat).answer = [byte position] ∧
      SatsBut sat s t ∧
      ((satGet s sat).position = 0 ∨ (satGet s sat).position = position → t.slots = s.slots) ∧
      ((satGet s sat).position ≠ 0 → (satGet s sat).position ≠ position → SlotsFall sat s t)) ∧
  (∀ (sat uid position : Nat) (prov : Bool) (rx : Arrival) (s : State), satHears (satGet s sat) = true →
    (satGet s sat).position ≠ rx.pos ∨ (rx.pos = 0 ∧ (satGet s sat).uid ≠ uid) →
    Completes (exec (.assign sat uid position prov rx) s) fun t =>
      SatIs sat (satPass rx (toSat rx false 5 (natLe 8 uid ++ [byte position, byte (bit prov)])) (satGet s sat)) s t) ∧
  (∀ (sat uid position : Nat) (prov : Bool) (rx : Arrival) (s : State), (satGet s sat).position = rx.pos → rx.pos ≠ 0 →
    (satGet s sat).uid ≠ uid →
    Completes (exec (.assign sat uid position prov rx) s) fun t => t = s) ∧
  (∀ (pos : Nat) (rx : Arrival) (s : State), pos < 256 →
    HubTakes s (posTether pos) (upFrame pos false 5 [byte (posNo pos)]) rx → (viewGet s pos).assigning = true →
    Completes (exec (.assignAck pos rx) s) fun t =>
      (viewGet t pos).state = .enumerating ∧ (viewGet t pos).toggleH = false ∧ (viewGet t pos).lastS = false ∧
      NothingSent t pos ∧ (viewGet t pos).assigning = false ∧ (viewGet t pos).t1 = some (16 * s.sys.tick) ∧
      (viewGet t pos).t4 = none ∧ (∀ id ∈ slotsOf pos, (slotViewGet t id).st = .empty ∧ (ldgGet t id).res = 0) ∧
      Leaves (posTether pos) (heardView pos rx s).path (hubFrame pos false 6 []) s t ∧
      ViewsBut pos s t ∧ t.sys = s.sys ∧ t.ord = s.ord) ∧
  (∀ (sat : Nat) (rx : Arrival) (s : State), TakesFrame (satGet s sat) (toSat rx false 6 []) rx →
    Completes (exec (.delayFrame sat rx) s) fun t =>
      SatIs sat { satGet s sat with delayArmed := some (satGet s sat).tick, delayPairK := rx.pairK } s t) ∧
  (∀ (sat n : Nat) (s : State), (satGet s sat).delayArmed = some n →
    Completes (exec (.delayMarkerEcho sat) s) fun t =>
      (satGet t sat).delayArmed = none ∧ (satGet t sat).markerTick = (satGet s sat).tick ∧ SatsBut sat s t ∧
      ((satGet s sat).tick - n ≤ 16000 → ∃ c, 64 ≤ c ∧ c < 104 ∧ (satGet t sat).answer = natLe 2 c) ∧
      (16000 < (satGet s sat).tick - n → (satGet t sat).answer = (satGet s sat).answer)) ∧
  (∀ (pos n t4 : Nat) (s : State), pos < 256 → ringLive s = true → (viewGet s pos).t1 = some n →
    (viewGet s pos).t4 = none →
    Completes (exec (.delayEchoArrival pos t4) s) fun t =>
      viewGet t pos = { viewGet s pos with t4 := some t4 } ∧ ViewsBut pos s t ∧
      Carries (posTether pos) (tetherGet s (posTether pos)) s t) ∧
  (∀ (pos a b c : Nat) (rx : Arrival) (s : State), pos < 256 →
    HubTakes s (posTether pos) (upFrame pos false 6 (natLe 2 c)) rx → (viewGet s pos).t1 = some a →
    (viewGet s pos).t4 = some b →
    Completes (exec (.delayAnswer pos c rx) s) fun t =>
      let d := (b - a - 16 * c + 1) / 2 % 2 ^ 20
      viewGet t pos = { heardView pos rx s with delay := d, t1 := none, t4 := none } ∧ ViewsBut pos s t ∧
      (tetherGet t (posTether pos)).beacons = (tetherGet s (posTether pos)).beacons + 1 ∧
      Leaves (posTether pos) (heardView pos rx s).path (hubFrame pos false 7 (natLe 8 s.sys.tick ++ natLe 3 d)) s t) ∧
  (∀ (sat t5 d : Nat) (rx : Arrival) (s : State),
    TakesFrame (satGet s sat) (toSat rx false 7 (natLe 8 t5 ++ natLe 3 d)) rx → syncs (satGet s sat) = true →
    Completes (exec (.tsync sat t5 d rx) s) fun t =>
      SatOuts sat { satGet s sat with
        tick := (t5 + (d + 8) / 16 + ((satGet s sat).tick - (satGet s sat).markerTick)) % 2 ^ 60, relockAt := none
        answer := [] } s t) ∧
  (∀ (sat t5 d : Nat) (rx : Arrival) (s : State),
    TakesFrame (satGet s sat) (toSat rx false 7 (natLe 8 t5 ++ natLe 3 d)) rx → syncs (satGet s sat) = false →
    Completes (exec (.tsync sat t5 d rx) s) fun t => SatIs sat (satGet s sat) s t) ∧
  (∀ (pos : Nat) (rx : Arrival) (s : State), pos < 256 → HubTakes s (posTether pos) (upFrame pos false 7 []) rx →
    (viewGet s pos).state = .enumerating → NothingSent s pos →
    Completes (exec (.tsyncAnswer pos rx) s) fun t =>
      (outsideRange s (viewGet s pos) = true →
        (viewGet t pos).state = .incompatible ∧ (viewGet t pos).out = some { code := 0x0C, args := [] } ∧
        (∀ id ∈ slotsOf pos, (slotViewGet t id).st = .unreachable) ∧ t.fb.sat.fst.getLsbD 2 = true ∧ ViewsBut pos s t) ∧
      (outsideRange s (viewGet s pos) = false →
        (viewGet t pos).state = .enumerating ∧ (viewGet t pos).setup = 5 ∧
        (viewGet t pos).out = some (setSatCmd s pos) ∧
        (viewGet t pos).queue = (slotsOf pos).map (setSlotCmd s) ++ [{ code := 0x0C, args := [] }] ∧ ViewsBut pos s t ∧
        t = { s with sat := { s.sat with views := t.sat.views }, tth := t.tth }))

/-- CACK (R402, R405), CMD_RESEND (R403), WAKE_RESEND (R462), RACK and RESULT_RESEND (R404), invalid frames (R399). -/
def Obligations.CommandTransport : Prop :=
  (∀ (pos code : Nat) (h : Bool) (rx : Arrival) (s : State), pos < 256 →
    HubTakes s (posTether pos) (upFrame pos h 1 [byte code]) rx →
    (viewGet s pos).out = none ∨ h ≠ (viewGet s pos).toggleH →
    Completes (exec (.cack pos h code rx) s) fun t =>
      (tetherGet t (posTether pos)).stale = satInc (tetherGet s (posTether pos)).stale ∧ TethersBut (posTether pos) s t ∧
      viewGet t pos = heardView pos rx s ∧ ViewsBut pos s t ∧
      t = { s with tth := t.tth, sat := { s.sat with views := t.sat.views } }) ∧
  (∀ (pos code : Nat) (h : Bool) (rx : Arrival) (s : State), pos < 256 → ringLive s = true →
    (rigTether s (posTether pos)).isSome = true → arrivesBad (frameOk (upFrame pos h 1 [byte code])) rx = true →
    Completes (exec (.cack pos h code rx) s) fun t =>
      (tetherGet t (posTether pos)).badF = satInc (tetherGet s (posTether pos)).badF ∧ TethersBut (posTether pos) s t ∧
      t.sat = s.sat) ∧
  (∀ (pos : Nat) (rx : Arrival) (c d : HubCmd) (rest : List HubCmd) (s : State), pos < 256 →
    HubTakes s (posTether pos) (upFrame pos (viewGet s pos).toggleH 1 [0]) rx → (viewGet s pos).out = some c →
    (viewGet s pos).queue = d :: rest → c.code = 0x01 ∨ c.code = 0x02 → c.fromHost = false →
    Completes (exec (.cack pos (viewGet s pos).toggleH 0 rx) s) fun t =>
      viewGet t pos = { heardView pos rx s with
        out := some d, queue := rest, toggleH := !(viewGet s pos).toggleH, setup := (viewGet s pos).setup - 1 } ∧
      Leaves (posTether pos) (heardView pos rx s).path
        (hubFrame pos (!(viewGet s pos).toggleH) 1 (byte d.code :: d.args)) s t ∧
      Carries (posTether pos) (tetherGet s (posTether pos)) s t ∧ ViewsBut pos s t ∧
      t = { s with tth := t.tth, sat := { s.sat with views := t.sat.views } }) ∧
  (∀ (pos code : Nat) (rx : Arrival) (c : HubCmd) (s : State), pos < 256 → code < 256 →
    HubTakes s (posTether pos) (upFrame pos (viewGet s pos).toggleH 1 [byte code]) rx → (viewGet s pos).out = some c →
    (viewGet s pos).queue = [] → c.fromHost = true → c.code = 0x0A ∨ c.code = 0x0B →
    Completes (exec (.cack pos (viewGet s pos).toggleH code rx) s) fun t =>
      viewGet t pos = { heardView pos rx s with
        out := none, cmdSt := if code = 0 then 2 else 3, cackCode := code } ∧ ViewsBut pos s t ∧
      Carries (posTether pos) (tetherGet s (posTether pos)) s t ∧
      t = { s with tth := t.tth, sat := { s.sat with views := t.sat.views } }) ∧
  (∀ (pos : Nat) (rx : Arrival) (c : HubCmd) (o : Order) (s : State), pos < 256 →
    HubTakes s (posTether pos) (upFrame pos (viewGet s pos).toggleH 1 [0]) rx → (viewGet s pos).out = some c →
    (viewGet s pos).queue = [] → c.fromHost = false → c.code = 0x05 → satOrder s pos 0x0F = some o →
    Completes (exec (.cack pos (viewGet s pos).toggleH 0 rx) s) fun t =>
      (viewGet t pos).state = .asleep ∧ (viewGet t pos).out = none ∧ OrderEnds o 0 t ∧ ViewsBut pos s t ∧
      t.sys = s.sys ∧ t.fb = s.fb) ∧
  (∀ (pos : Nat) (rx : Arrival) (c : HubCmd) (o : Order) (s : State), pos < 256 →
    HubTakes s (posTether pos) (upFrame pos (viewGet s pos).toggleH 1 [0]) rx → (viewGet s pos).out = some c →
    (viewGet s pos).queue = [] → c.fromHost = false → c.code = 0x11 → satOrder s pos 0x12 = some o →
    s.upd.satStart + (o.progress - 2) < payloadLen (updImage s pos).image →
    Completes (exec (.cack pos (viewGet s pos).toggleH 0 rx) s) fun t =>
      t.upd = { s.upd with nextAt := some (s.sys.tick + 80000) } ∧ (viewGet t pos).out = none ∧ ViewsBut pos s t) ∧
  (∀ (pos : Nat) (c : HubCmd) (s : State), ringLive s = true → pos < 256 → (viewGet s pos).out = some c →
    c.sends1 < 4 ∨ ((tetherGet s (posTether pos)).mode = 3 ∧ c.sends2 < 4) →
    Completes (exec (.cmdResend pos) s) fun t =>
      let first := decide (c.sends1 < 4)
      viewGet t pos = { viewGet s pos with
        out := some { c with sends1 := c.sends1 + bit first, sends2 := c.sends2 + bit (!first) }
        resends := satInc (viewGet s pos).resends } ∧ ViewsBut pos s t ∧
      Leaves (posTether pos) (if first then (viewGet s pos).path else (viewGet s pos).path.other)
        (hubFrame pos (viewGet s pos).toggleH 1 (byte c.code :: c.args)) s t ∧
      Carries (posTether pos) { tetherGet s (posTether pos) with retry := satInc (tetherGet s (posTether pos)).retry } s t ∧
      t = { s with sat := { s.sat with views := t.sat.views }, tth := t.tth }) ∧
  (∀ (pos : Nat) (c : HubCmd) (s : State), ringLive s = true → canLose s pos = true → (viewGet s pos).out = some c →
    4 ≤ c.sends1 → (tetherGet s (posTether pos)).mode ≠ 3 ∨ 4 ≤ c.sends2 →
    Completes (exec (.cmdResend pos) s) fun t =>
      (viewGet t pos).state = .lost ∧ (viewGet t pos).lostAt = s.sys.tick ∧ NothingSent t pos ∧
      (∀ id ∈ slotsOf pos, (slotViewGet t id).st = .unreachable) ∧ t.fb.tth.fst.getLsbD 6 = true ∧ ViewsBut pos s t ∧
      (∀ o ∈ t.ord.orders, namesPos o pos = true → o.past8 = false)) ∧
  (∀ (pos : Nat) (s : State), pos < 256 → ringLive s = true → (viewGet s pos).wakes ≠ 0 →
    (viewGet s pos).wakes < (if (tetherGet s (posTether pos)).mode = 3 then 8 else 4) →
    Completes (exec (.wakeResend pos) s) fun t =>
      viewGet t pos = { viewGet s pos with wakes := (viewGet s pos).wakes + 1 } ∧ ViewsBut pos s t ∧
      (tetherGet t (posTether pos)).sent.getLast? = some
        (if (viewGet s pos).wakes < 4 then (viewGet s pos).path else (viewGet s pos).path.other,
          [.wake, .d (byte (posNo pos))]) ∧
      Carries (posTether pos) (tetherGet s (posTether pos)) s t) ∧
  (∀ (pos : Nat) (s : State), ringLive s = true → canLose s pos = true → 8 ≤ (viewGet s pos).wakes →
    Completes (exec (.wakeResend pos) s) fun t =>
      (viewGet t pos).state = .lost ∧ (viewGet t pos).waking = false ∧ t.fb.tth.fst.getLsbD 6 = true ∧ ViewsBut pos s t) ∧
  (∀ (sat : Nat) (rx : Arrival) (s : State), TakesFrame (satGet s sat) (toSat rx (satGet s sat).togS 2 []) rx →
    (satGet s sat).sending ≠ none → (satGet s sat).rearmAfterFetch = none →
    Completes (exec (.rack sat (satGet s sat).togS rx) s) fun t =>
      ((satGet s sat).results = [] → SatIs sat { satGet s sat with sending := none } s t) ∧
      (∀ r, (satGet s sat).results.head? = some r →
        SatOuts sat { satGet s sat with
          sending := some r, results := (satGet s sat).results.tail, togS := !(satGet s sat).togS } s t)) ∧
  (∀ (sat : Nat) (b : Bool) (rx : Arrival) (s : State), TakesFrame (satGet s sat) (toSat rx b 2 []) rx →
    (satGet s sat).sending = none ∨ (satGet s sat).togS ≠ b →
    Completes (exec (.rack sat b rx) s) fun t => t = s) ∧
  (∀ (sat : Nat) (b : Bool) (rx : Arrival) (s : State), satHears (satGet s sat) = true → named (satGet s sat) rx = false →
    Completes (exec (.rack sat b rx) s) fun t => SatIs sat (satPass rx (toSat rx b 2 []) (satGet s sat)) s t) ∧
  (∀ (sat : Nat) (s : State),
    Completes (exec (.resultResend sat) s) fun t => SatOuts sat (satGet s sat) s t)

/-- SAT_CMD (R469, R909), SAT_ZFACK (R755, R876), SAT_SLEEP (R461), SAT_WAKE (R393, R462), SAT_RAIL (R203), MODULE_RAIL_RAISE
(R207). That SAT_CMD and SAT_ZFACK are refused for a satellite in INCOMPATIBLE is the model's choice (log entry 74). -/
def Obligations.HostsToSatellites : Prop :=
  (∀ (p : Port) (pos : Nat) (data : Word) (s : State), WriteAdmitted s p 0x316 → satWindow s p = some pos →
    NothingSent s pos →
    let n := byte (data.toNat / 8 % 4)
    (satCmdRefused s pos 1 = false → Completes (exec (.satCmdRestart p data) s) fun t => HostCmd p pos 0x0B [] false s t) ∧
    (satCmdRefused s pos 2 = false → Completes (exec (.satCmdRipcord p data) s) fun t => HostCmd p pos 0x0A [0x0F] false s t) ∧
    (satCmdRefused s pos 3 = false →
      Completes (exec (.satCmdTraceFetch p data) s) fun t => HostCmd p pos 0x07 [n, 1] true s t) ∧
    (satCmdRefused s pos 4 = false →
      Completes (exec (.satCmdTraceRearm p data) s) fun t => HostCmd p pos 0x07 [n, 2] false s t) ∧
    (satCmdRefused s pos 5 = false →
      Completes (exec (.satCmdTraceFreeze p data) s) fun t => HostCmd p pos 0x07 [n, 3] false s t)) ∧
  (∀ (p : Port) (pos : Nat) (data : Word) (s : State), WriteAdmitted s p 0x316 → satWindow s p = some pos →
    satCmdRefused s pos 6 = false → NothingSent s pos →
    Completes (exec (.satCmdTraceReplay p data) s) fun t =>
      let n := data.toNat / 8 % 4
      (viewGet t pos).cmdSt = 1 ∧ (viewGet t pos).queue.length = 15 ∧
      (viewGet t pos).out =
        some { code := 0x0D, args := [byte n, 0] ++ tblBytes 0 s.sat.trBytes 0 128, fromHost := true } ∧
      PutsCmd pos { code := 0x0D, args := [byte n, 0] ++ tblBytes 0 s.sat.trBytes 0 128 } s t ∧
      ViewsBut pos s t ∧ Owes t p .ok 0x316 0 ∧ t = { s with sat := t.sat, tth := t.tth, ports := t.ports }) ∧
  (∀ (p : Port) (data : Word) (s : State), WriteAdmitted s p 0x316 → satWindow s p = none →
    (Completes (exec (.satCmdRestart p data) s) fun t => Refused s t p 0x316 9 ∧ t = { s with ports := t.ports }) ∧
    (Completes (exec (.satCmdRipcord p data) s) fun t => Refused s t p 0x316 9 ∧ t = { s with ports := t.ports }) ∧
    (Completes (exec (.satCmdTraceFetch p data) s) fun t => Refused s t p 0x316 9 ∧ t = { s with ports := t.ports }) ∧
    (Completes (exec (.satCmdTraceRearm p data) s) fun t => Refused s t p 0x316 9 ∧ t = { s with ports := t.ports }) ∧
    (Completes (exec (.satCmdTraceFreeze p data) s) fun t => Refused s t p 0x316 9 ∧ t = { s with ports := t.ports }) ∧
    (Completes (exec (.satCmdTraceReplay p data) s) fun t => Refused s t p 0x316 9 ∧ t = { s with ports := t.ports })) ∧
  (∀ (p : Port) (pos : Nat) (data : Word) (s : State), WriteAdmitted s p 0x316 → satWindow s p = some pos →
    (satCmdRefused s pos 1 = true → Completes (exec (.satCmdRestart p data) s) fun t => Refused s t p 0x316 9 ∧
    t = { s with ports := t.ports }) ∧
    (satCmdRefused s pos 3 = true → Completes (exec (.satCmdTraceFetch p data) s) fun t => Refused s t p 0x316 9 ∧
    t = { s with ports := t.ports }) ∧
    (satCmdRefused s pos 6 = true → Completes (exec (.satCmdTraceReplay p data) s) fun t => Refused s t p 0x316 9 ∧
    t = { s with ports := t.ports })) ∧
  (∀ (p : Port) (pos : Nat) (data : Word) (s : State), WriteAdmitted s p 0x315 → satWindow s p = some pos →
    (viewGet s pos).state ≠ .incompatible → NothingSent s pos →
    Completes (exec (.satZfackWrite p data) s) fun t =>
      CmdGoes pos { code := 0x09, args := natLe 2 (data.toNat % 512) } s t ∧ Owes t p .ok 0x315 0 ∧
      t = { s with sat := { s.sat with views := t.sat.views }, tth := t.tth, ports := t.ports }) ∧
  (∀ (p : Port) (data : Word) (s : State), WriteAdmitted s p 0x315 →
    satWindow s p = none ∨ (viewGet s ((satWindow s p).getD 0)).state = .incompatible →
    Completes (exec (.satZfackWrite p data) s) fun t => Refused s t p 0x315 9 ∧ t = { s with ports := t.ports }) ∧
  (∀ (o : Order) (s : State), orderGet s o.id = some o → o.stage = .dispatched → o.progress = 0 → ringLive s = true →
    NothingSent s (slotPos o.slot) →
    let v := viewGet s (slotPos o.slot)
    let begun := fun (t : State) => orderGet t o.id = some { o with progress := 1 } ∧
      t = { s with sat := { s.sat with views := t.sat.views }, tth := t.tth, ord := { s.ord with orders := t.ord.orders } }
    (o.opcode = 0x0F → Completes (exec (.satSleep o.id) s) fun t =>
      CmdGoes (slotPos o.slot) { code := 0x05, args := [], order := o.id } s t ∧ begun t) ∧
    (o.opcode = 0x11 → Completes (exec (.satRail o.id) s) fun t =>
      CmdGoes (slotPos o.slot) { code := 0x06, args := [byte (o.param % 2)], order := o.id } s t ∧ begun t) ∧
    (o.opcode = 0x10 → Completes (exec (.satWake o.id) s) fun t =>
      viewGet t (slotPos o.slot) = { v with wakes := 1, waking := true } ∧ ViewsBut (slotPos o.slot) s t ∧ begun t ∧
      (posTether (slotPos o.slot) < 4 → (tetherGet t (posTether (slotPos o.slot))).sent.getLast? =
        some (v.path, [.wake, .d (byte (posNo (slotPos o.slot)))])))) ∧
  (∀ (k pos : Nat) (s : State), ringLive s = true → k < 4 → s.rls.raiseTurn.toList.getD k 0 = 0 →
    (tetherPositions s k).find? (fun p =>
      let r := (rigSat s p).getD {}
      let v := viewGet s p
      (r.grail0 || r.grail1) && decide (v.state = .active) && v.raiseDue && v.railsSeen) = some pos →
    NothingSent s pos →
    Completes (exec (.moduleRailRaise k) s) fun t =>
      (viewGet t pos).out = some { code := 0x06, args := [1] } ∧ (viewGet t pos).raiseDue = false ∧
      PutsCmd pos { code := 0x06, args := [1] } s t ∧ t.rls.raiseTurn.toList.getD k 0 = posNo pos ∧
      ViewsBut pos s t ∧ t = { s with sat := t.sat, tth := t.tth, rls := { s.rls with raiseTurn := t.rls.raiseTurn } }) ∧
  (∀ (k : Nat) (s : State), s.rls.raiseTurn.toList.getD k 0 ≠ 0 →
    Completes (exec (.moduleRailRaise k) s) fun t => t = s)

/-- DONE and DATA (R465, R467), SLOT (R502, R503), RESTARTED (R448), WOKEN (R459, R462), RAIL (R207, R208, R214), IDENT
(R871), LOCKSRC (R432), FAULT (R755), TRACE (R467), POWER (R453), REPLAY (R910), acknowledgments, repeats and stale results
(R404, R405). -/
def Obligations.ResultsTaken : Prop :=
  (∀ (i : Instr) (x : ResultIn) (s : State), resultOf i = some x → x.pos < 256 →
    HubTakes s (posTether x.pos) (upFrame x.pos x.s 2 ([byte x.kind, byte x.slot] ++ x.payload)) x.rx →
    Completes (exec i s) fun t =>
      let k := posTether x.pos
      (takesFrom s x.pos = true → (viewGet s x.pos).lastS = x.s →
        Racks x.pos x.s x.rx s t ∧ Carries k (tetherGet s k) s t ∧ viewGet t x.pos = heardView x.pos x.rx s ∧
        ViewsBut x.pos s t ∧ t = { s with tth := t.tth, sat := { s.sat with views := t.sat.views } }) ∧
      (takesFrom s x.pos = false →
        Racks x.pos x.s x.rx s t ∧ Carries k { tetherGet s k with stale := satInc (tetherGet s k).stale } s t ∧
        viewGet t x.pos = heardView x.pos x.rx s ∧ ViewsBut x.pos s t ∧
        t = { s with tth := t.tth, sat := { s.sat with views := t.sat.views } })) ∧
  (∀ (pos slot oid status : Nat) (b : Bool) (first : List Byte) (rx : Arrival) (o : Order) (s : State), pos < 256 →
    TakesResult s pos b 1 slot (arg2 oid ++ [byte status] ++ natLe 3 first.length ++ first) rx →
    slotOrder s (slotOf pos (slot % 4)) oid = some o → o.data = [] → first.length ≤ orderRoom o →
    Completes (exec (.doneResult pos b slot oid status first.length first rx) s) fun t =>
      OrderEnds o (doneStatus status) t ∧ (viewGet t pos).lastS = b ∧ ViewsBut pos s t ∧ Racks pos b rx s t) ∧
  (∀ (pos slot oid status full : Nat) (b : Bool) (first : List Byte) (rx : Arrival) (o : Order) (s : State), pos < 256 →
    TakesResult s pos b 1 slot (arg2 oid ++ [byte status] ++ natLe 3 full ++ first) rx →
    slotOrder s (slotOf pos (slot % 4)) oid = some o → o.data = [] → first.length < min full 1024 →
    Completes (exec (.doneResult pos b slot oid status full first rx) s) fun t =>
      orderGet t o.id = some { o with done := some (status, full), data := first } ∧
      viewGet t pos = { heardView pos rx s with lastS := b } ∧ t.ord.banks = s.ord.banks ∧ ViewsBut pos s t ∧
      Racks pos b rx s t) ∧
  (∀ (pos slot oid off status full : Nat) (b : Bool) (data : List Byte) (rx : Arrival) (o : Order) (s : State), pos < 256 →
    TakesResult s pos b 2 slot (arg2 oid ++ arg2 off ++ data) rx →
    slotOrder s (slotOf pos (slot % 4)) oid = some o → o.done = some (status, full) → off = o.data.length →
    min full 1024 ≤ off + data.length → full ≤ orderRoom o →
    Completes (exec (.dataResult pos b slot oid off data rx) s) fun t =>
      OrderEnds o (doneStatus status) t ∧ (viewGet t pos).lastS = b ∧ ViewsBut pos s t) ∧
  (∀ (pos slot oid off : Nat) (b : Bool) (data : List Byte) (rx : Arrival) (s : State), pos < 256 →
    TakesResult s pos b 2 slot (arg2 oid ++ arg2 off ++ data) rx → slotOrder s (slotOf pos (slot % 4)) oid = none →
    Completes (exec (.dataResult pos b slot oid off data rx) s) fun t =>
      (tetherGet t (posTether pos)).stale = satInc (tetherGet s (posTether pos)).stale ∧ t.ord = s.ord ∧
      t.slots = s.slots) ∧
  (∀ (pos slot event code : Nat) (b : Bool) (st : SlotState) (rx : Arrival) (s : State), pos < 256 →
    TakesResult s pos b 3 slot [byte event, byte code] rx → slotStateOf code = some st → st ≠ .unreachable →
    Completes (exec (.slotResult pos b slot event code rx) s) fun t =>
      let id := slotOf pos (slot % 4)
      (slotViewGet t id).st = (if (slotViewGet s id).st = .updating then .updating else st) ∧
      (slotViewGet t id).det = (if event = 1 ∨ event = 4 then false else if event = 0 then true else (slotViewGet s id).det) ∧
      (event = 4 → st ≠ .falling → (slotViewGet t id).cause = 2 ∧ (slotViewGet t id).emergency = true) ∧
      (event = 2 → st ≠ .falling → (slotViewGet t id).cause = 3 ∨ (slotViewGet t id).cause = 9) ∧
      (st = .falling → (slotViewGet t id).cause = (slotViewGet s id).cause) ∧
      (∀ j, j ≠ id → slotViewGet t j = slotViewGet s j) ∧ (viewGet t pos).lastS = b ∧ ViewsBut pos s t ∧
      t.slots = s.slots) ∧
  (∀ (pos cause : Nat) (b : Bool) (rx : Arrival) (s : State), pos < 256 →
    HubTakes s (posTether pos) (upFrame pos b 2 [6, 0xFF, byte cause]) rx → (rigSat s pos).isSome = true →
    (viewGet s pos).state = .active → cause ≠ 4 → (∀ o ∈ s.ord.orders, namesPos o pos = false) →
    Completes (exec (.restartedResult pos b cause rx) s) fun t =>
      (viewGet t pos).state = .enumerating ∧ (viewGet t pos).restarts = satInc (viewGet s pos).restarts ∧
      (viewGet t pos).lastS = false ∧ (viewGet t pos).toggleH = true ∧ (viewGet t pos).setup = 5 ∧
      (viewGet t pos).out = some (setSatCmd s pos) ∧ (∀ id ∈ slotsOf pos, (slotViewGet t id).st = .empty) ∧
      t.fb.sat.fst.getLsbD 1 = true ∧ ViewsBut pos s t ∧ t.ord = s.ord) ∧
  (∀ (pos : Nat) (b : Bool) (rx : Arrival) (o : Order) (s : State), pos < 256 → TakesResult s pos b 7 0xFF [] rx →
    (viewGet s pos).state = .asleep → (viewGet s pos).setup = 0 → satOrder s pos 0x10 = some o →
    Completes (exec (.wokenResult pos b rx) s) fun t =>
      viewGet t pos = { heardView pos rx s with state := .active, waking := false, wakes := 0, lastS := b } ∧
      OrderEnds o 0 t ∧ ViewsBut pos s t ∧ (s.sys.state = .standby → t.sys.state = .run)) ∧
  (∀ (pos g0 g1 : Nat) (b : Bool) (rx : Arrival) (o : Order) (s : State), pos < 256 →
    TakesResult s pos b 8 0xFF [byte g0, byte g1] rx → g0 < 4 → g1 < 4 → satOrder s pos 0x11 = some o →
    Completes (exec (.railResult pos b g0 g1 rx) s) fun t =>
      viewGet t pos = { heardView pos rx s with
        grail0 := g0, grail1 := g1, railsSeen := true, raiseDue := (viewGet t pos).raiseDue, lastS := b } ∧
      ViewsBut pos s t ∧
      ((g0 = 3 ∧ (viewGet s pos).grail0 ≠ 3) ∨ (g1 = 3 ∧ (viewGet s pos).grail1 ≠ 3) →
        t.fb.rls.fst.getLsbD 3 = true ∧ OrderEnds o 0x044 t) ∧
      (o.param % 2 = 1 → g0 = 3 ∨ g1 = 3 → OrderEnds o 0x044 t) ∧
      (o.param % 2 = 1 → g0 = 2 ∧ g1 = 2 → OrderEnds o 0 t) ∧ (o.param % 2 = 0 → g0 = 0 ∧ g1 = 0 → OrderEnds o 0 t)) ∧
  (∀ (pos part build minor major image : Nat) (b : Bool) (rx : Arrival) (s : State), pos < 256 →
    TakesResult s pos b 9 0xFF (arg2 part ++ arg2 build ++ arg2 minor ++ arg2 major ++ [byte image]) rx →
    (viewGet s pos).state = .active →
    Completes (exec (.identResult pos b part build minor major image rx) s) fun t =>
      viewGet t pos = { heardView pos rx s with
        part := part, fwB := build, fwN := minor, fwM := major, imageState := image, lastS := b } ∧ ViewsBut pos s t ∧
      Racks pos b rx s t ∧ t.ord = s.ord) ∧
  (∀ (pos : Nat) (b k : Bool) (rx : Arrival) (s : State), pos < 256 → TakesResult s pos b 0x0A 0xFF [byte (bit k)] rx →
    Completes (exec (.locksrcResult pos b k rx) s) fun t =>
      viewGet t pos = { heardView pos rx s with lockK := k, t1 := some (16 * s.sys.tick), t4 := none, lastS := b } ∧
      ViewsBut pos s t ∧ Leaves (posTether pos) (heardView pos rx s).path (hubFrame pos false 6 []) s t ∧
      Carries (posTether pos) (tetherGet s (posTether pos)) s t ∧
      t = { s with tth := t.tth, sat := { s.sat with views := t.sat.views } }) ∧
  (∀ (pos : Nat) (b : Bool) (w : Word) (rx : Arrival) (s : State), pos < 256 →
    TakesResult s pos b 0x0B 0xFF (arg2 w.toNat) rx →
    Completes (exec (.faultResult pos b w rx) s) fun t =>
      viewGet t pos = { heardView pos rx s with zfst := w, lastS := b } ∧ ViewsBut pos s t ∧ Racks pos b rx s t ∧
      t.fb.sat.fst.getLsbD 0 = true) ∧
  (∀ (pos slot chunk : Nat) (b : Bool) (bytes : List Byte) (rx : Arrival) (s : State), pos < 256 →
    TakesResult s pos b 0x0C slot (byte chunk :: bytes) rx → s.sat.trFetching = true →
    s.sat.trSlot = slotOf pos (slot % 4) → chunk < 16 → bytes.length = 128 →
    Completes (exec (.traceResult pos b slot chunk bytes rx) s) fun t =>
      (∀ i, tblGet 0 t.sat.trBytes i = if 128 * chunk ≤ i ∧ i < 128 * chunk + 128 then bytes.getD (i - 128 * chunk) 0
        else tblGet 0 s.sat.trBytes i) ∧
      t.sat.trValid = decide (chunk = 15) ∧ t.sat.trFetching = decide (chunk ≠ 15) ∧ ViewsBut pos s t) ∧
  (∀ (pos : Nat) (b back : Bool) (rx : Arrival) (s : State), pos < 256 →
    TakesResult s pos b 0x0D 0xFF [byte (bit back)] rx →
    Completes (exec (.powerResult pos b back rx) s) fun t =>
      viewGet t pos = { heardView pos rx s with
        vinLost := !back, grail0 := if back then (viewGet s pos).grail0 else 0
        grail1 := if back then (viewGet s pos).grail1 else 0, lastS := b } ∧ ViewsBut pos s t ∧ Racks pos b rx s t) ∧
  (∀ (pos slot entry status : Nat) (b : Bool) (rx : Arrival) (s : State), pos < 256 →
    TakesResult s pos b 0x0E slot (arg2 entry ++ [byte status]) rx → (viewGet s pos).cmdSt = 1 →
    Completes (exec (.replayResult pos b slot entry status rx) s) fun t =>
      viewGet t pos = { heardView pos rx s with cmdSt := 2, lastS := b } ∧ ViewsBut pos s t ∧ Racks pos b rx s t)

/-- WRAP_RESULT (R420, R428), HEAL_READY_RESULT (R424), LINK_SEND (R418, R422), LINK_FRAME (R418, R422, R428),
HEAL_READY_TIMER (R423), HEAL_FRAME, HEAL_ANSWER, HEAL_RESEND (R426), HEAL_CANCEL (R427), UNWRAP (R424), TTH_CMD (R414, R425,
R432, R435). The choice of the unwrap tick beyond 200 µs is the model's (notes/assumptions/26.md), and so are POS and DIR of a
LINK frame (notes/assumptions/75.md). -/
def Obligations.LinksAndHeals : Prop :=
  (∀ (pos : Nat) (b lf lk portB : Bool) (rx : Arrival) (s : State), pos < 256 →
    TakesResult s pos b 4 0xFF [byte (bit lf + 2 * bit lk), byte (bit portB)] rx → (viewGet s pos).hop ≠ 0 →
    (tetherGet s (posTether pos)).brkA = 0 → (tetherGet s (posTether pos)).brkB = 0 →
    (tetherGet s (posTether pos)).healed = none →
    Completes (exec (.wrapResult pos b lf lk portB rx) s) fun t =>
      let x := tetherGet t (posTether pos)
      (viewGet t pos).folded = true ∧ (viewGet t pos).lastS = b ∧ x.mode = 3 ∧ x.heal = none ∧
      x.wraps = satInc (tetherGet s (posTether pos)).wraps ∧ x.brkA = (if portB then (viewGet s pos).hop + 1 else 0) ∧
      x.brkB = (if portB then 0 else (viewGet s pos).hop) ∧
      (if portB then x.brkAPairs else x.brkBPairs) = lf.toNat + 2 * lk.toNat ∧ t.fb.tth.fst.getLsbD 0 = true ∧
      TethersBut (posTether pos) s t ∧ t.slots = s.slots ∧ t.ord = s.ord) ∧
  (∀ (pos m n : Nat) (b lf lk : Bool) (rx : Arrival) (s : State), pos < 256 →
    TakesResult s pos b 4 0xFF [byte (bit lf + 2 * bit lk), 1] rx → (tetherGet s (posTether pos)).mode = 2 →
    (tetherGet s (posTether pos)).healed = some ((viewGet s pos).hop + 1, m, n) →
    Completes (exec (.wrapResult pos b lf lk true rx) s) fun t =>
      let x := tetherGet t (posTether pos)
      x.mode = 3 ∧ x.brkA = (viewGet s pos).hop + 1 ∧ x.brkB = (viewGet s pos).hop + 1 ∧ x.brkBPairs = n ∧
      x.healReadyA = false ∧ x.healReadyB = false ∧ x.double = (tetherGet s (posTether pos)).double ∧
      TethersBut (posTether pos) s t) ∧
  (∀ (pos : Nat) (b : Bool) (rx : Arrival) (s : State), pos < 256 → TakesResult s pos b 5 0xFF [] rx →
    (tetherGet s (posTether pos)).mode = 3 → (tetherGet s (posTether pos)).heal = none →
    (viewGet s pos).hop + 1 = (tetherGet s (posTether pos)).brkA →
    Completes (exec (.healReadyResult pos b rx) s) fun t =>
      let x := tetherGet s (posTether pos)
      let y := tetherGet t (posTether pos)
      viewGet t pos = { heardView pos rx s with lastS := b } ∧ ViewsBut pos s t ∧ TethersBut (posTether pos) s t ∧
      y.healReadyA = true ∧
      (x.healReadyB = false ∨ x.double = true ∨ healHeld s (posTether pos) = true → y.heal = none) ∧
      (x.healReadyB = true → x.double = false → healHeld s (posTether pos) = false →
        ∃ h, y.heal = some h ∧ h.cancelling = false ∧ h.answeredA = x.linkOut.stands ∧ h.answeredB = x.linkRet.stands ∧
          s.sys.tick + 160000 ≤ h.tick ∧ y.quiet = some h.tick)) ∧
  (∀ (sat : Nat) (s : State), posNo sat ≠ 0 →
    Completes (exec (.linkSend sat) s) fun t =>
      let x := satGet s sat
      (satHears x = false ∨ (x.foldA = false ∧ x.foldB = false) → t = s) ∧
      (satHears x = true → x.foldA = true ∨ x.foldB = true →
        SatOuts sat { x with answer := [byte (bit x.linkHeard + 2)] } s t)) ∧
  (∀ (sat : Nat) (s : State), sat < 256 → posNo sat = 0 →
    Completes (exec (.linkSend sat) s) fun t =>
      let k := posTether sat
      let x := tetherGet s k
      Carries k x s t ∧ t = { s with tth := t.tth } ∧
      (x.linkOut.stands = false → x.linkRet.stands = false → t = s) ∧
      (x.linkOut.stands = true → x.linkRet.stands = false →
      Leaves k .outEnd (linkFrame 0 false x.linkOut.heard true) s t) ∧
      (x.linkRet.stands = true → Leaves k .retEnd (linkFrame 0 true x.linkRet.heard true) s t)) ∧
  (∀ (sat : Nat) (r w : Bool) (rx : Arrival) (s : State), posNo sat ≠ 0 → satHears (satGet s sat) = true →
    Arrives (linkFrame rx.pos rx.pairK r w) rx →
    Completes (exec (.linkFrame sat r w rx) s) fun t =>
      let x := satGet s sat
      let b := rx.pairK
      ((if b then x.foldB else x.foldA) = true →
        SatIs sat { x with linkHeard := true, linkRx := r, linkRxWrapped := w } s t) ∧
      ((if b then x.foldB else x.foldA) = false → x.unwrapped = true → w = true → x.lastPortB = b →
        SatReports sat { x with
            foldA := x.foldA || !b, foldB := x.foldB || b, foldDue := none, unwrapped := false, silent := true
            linkHeard := true, linkRx := r, linkRxWrapped := true }
          { kind := 0x04, payload := [byte (bit (!b) + 2 * bit b), byte (bit b)] } s t) ∧
      ((if b then x.foldB else x.foldA) = false → x.unwrapped = false ∨ w = false ∨ x.lastPortB ≠ b → t = s)) ∧
  (∀ (sat : Nat) (r w : Bool) (rx : Arrival) (s : State), sat < 256 → posNo sat = 0 →
    HubTakes s (posTether sat) (linkFrame rx.pos rx.pairK r w) rx →
    Completes (exec (.linkFrame sat r w rx) s) fun t =>
      let k := posTether sat
      let x := tetherGet s k
      let e : LinkEnd := { stands := true, heard := true, rx := r }
      (rx.pairK = true → x.linkOut.stands = true → Carries k { x with linkOut := e } s t ∧ t = { s with tth := t.tth }) ∧
      (rx.pairK = false → x.linkRet.stands = true → Carries k { x with linkRet := e } s t ∧ t = { s with tth := t.tth }) ∧
      (rx.pairK = true → x.linkOut.stands = false → x.mode = 2 → w = true → x.healed.map (fun g => g.1) = some 1 →
        (tetherGet t k).mode = 3 ∧ (tetherGet t k).brkA = 1 ∧ (tetherGet t k).brkB = 1 ∧
        (tetherGet t k).linkOut.stands = true)) ∧
  (∀ (sat : Nat) (s : State), posNo sat ≠ 0 → satHears (satGet s sat) = true → (satGet s sat).linkRx = true →
    (satGet s sat).foldA = true ∨ (satGet s sat).foldB = true →
    Completes (exec (.healReadyTimer sat) s) fun t => SatReports sat (satGet s sat) { kind := 0x05 } s t) ∧
  (∀ (sat : Nat) (s : State), posNo sat ≠ 0 → (satGet s sat).linkRx = false →
    Completes (exec (.healReadyTimer sat) s) fun t => t = s) ∧
  (∀ (sat : Nat) (s : State), sat < 256 → posNo sat = 0 → ringLive s = true → (tetherGet s (posTether sat)).mode = 3 →
    (tetherGet s (posTether sat)).linkOut.stands = true → (tetherGet s (posTether sat)).linkOut.rx = true →
    (tetherGet s (posTether sat)).linkRet.stands = false →
    Completes (exec (.healReadyTimer sat) s) fun t =>
      let k := posTether sat
      let x := tetherGet s k
      (x.healReadyB = false → tetherGet t k = { x with healReadyA := true } ∧ TethersBut k s t ∧
      t = { s with tth := t.tth }) ∧
      (x.healReadyB = true → x.heal = none → x.double = false → healHeld s k = false →
        ∃ h, (tetherGet t k).heal = some h ∧ h.cancelling = false ∧ h.answeredA = true ∧ h.answeredB = false ∧
          s.sys.tick + 160000 ≤ h.tick)) ∧
  (∀ (sat n : Nat) (rx : Arrival) (s : State), TakesFrame (satGet s sat) (toSat rx false 8 (natLe 8 n)) rx →
    Completes (exec (.healFrame sat n rx) s) fun t =>
      let x := satGet s sat
      (x.foldA = true ∨ x.foldB = true →
        SatIs sat (satAnswer rx 8 false [] { x with unwrapAt := if n = 0 then none else some n }) s t) ∧
      (x.foldA = false → x.foldB = false → SatIs sat x s t)) ∧
  (∀ (k n : Nat) (fromB : Bool) (rx : Arrival) (h : Heal) (s : State), k < 4 →
    HubTakes s k { pos := rx.pos, dir := true, type := 8 } rx → (tetherGet s k).heal = some h → h.cancelling = false →
    Completes (exec (.healAnswer k fromB n rx) s) fun t =>
      (n ≠ h.tick → Carries k (tetherGet s k) s t) ∧
      (n = h.tick → Carries k { tetherGet s k with
        heal := some { h with answeredA := h.answeredA || !fromB, answeredB := h.answeredB || fromB } } s t) ∧
      t = { s with tth := t.tth }) ∧
  (∀ (k : Nat) (fromB : Bool) (rx : Arrival) (h : Heal) (s : State), k < 4 →
    HubTakes s k { pos := rx.pos, dir := true, type := 8 } rx → (tetherGet s k).heal = some h →
    h.cancelling = true → (h.answeredA || !fromB) = true → (h.answeredB || fromB) = true → (tetherGet s k).mode = 3 →
    bothReady (tetherGet s k) = true → (tetherGet s k).double = false → healHeld s k = false →
    Completes (exec (.healAnswer k fromB 0 rx) s) fun t =>
      (∃ n, (tetherGet t k).heal = some n ∧ n.cancelling = false ∧ s.sys.tick + 160000 ≤ n.tick) ∧ TethersBut k s t) ∧
  (∀ (k : Nat) (s : State), k < 4 → ringLive s = true →
    Completes (exec (.healResend k) s) fun t =>
      Carries k (tetherGet s k) s t ∧ t = { s with tth := t.tth } ∧ ((tetherGet s k).heal = none → t = s) ∧
      (∀ h, (tetherGet s k).heal = some h →
        let due := h.cancelling = true ∨ s.sys.tick + 48000 ≤ h.tick
        let tick := natLe 8 (if h.cancelling then 0 else h.tick)
        (¬ due → t = s) ∧
        (∀ p, due → h.answeredB = false → neighbour s k true = some p → Leaves k .retEnd (hubFrame p false 8 tick) s t) ∧
        (∀ p, due → h.answeredB = true → h.answeredA = false → neighbour s k false = some p →
          Leaves k .outEnd (hubFrame p false 8 tick) s t))) ∧
  (∀ (k : Nat) (h : Heal) (s : State), ringLive s = true → k < 4 → (tetherGet s k).heal = some h → h.cancelling = false →
    Completes (exec (.healCancel k) s) fun t =>
      (h.answeredA = true ∧ h.answeredB = true → t = s) ∧
      (h.answeredA = false ∨ h.answeredB = false →
        Carries k { tetherGet s k with
          quiet := none
          heal := some { h with
            cancelling := true, answeredA := (tetherGet s k).linkOut.stands
            answeredB := (tetherGet s k).linkRet.stands } } s t ∧
        t = { s with tth := t.tth } ∧
        ∀ p, (tetherGet s k).linkRet.stands = false → neighbour s k true = some p →
          (tetherGet t k).sent.getLast? = some (.retEnd, frameSyms (hubFrame p false 8 (natLe 8 0))))) ∧
  (∀ (k : Nat) (h : Heal) (s : State), ringLive s = true → k < 4 → (rigTether s k).isSome = true →
    (tetherGet s k).heal = some h → h.cancelling = false → h.answeredA = true → h.answeredB = true →
    Completes (exec (.unwrap k) s) fun t =>
      (tetherGet t k).mode = 2 ∧ (tetherGet t k).brkA = 0 ∧ (tetherGet t k).brkB = 0 ∧ (tetherGet t k).heal = none ∧
      (tetherGet t k).walk ≠ none ∧ TethersBut k s t ∧ t.slots = s.slots ∧ t.ord = s.ord ∧
      (tetherGet t k).healed = some ((tetherGet s k).brkA, (tetherGet s k).brkAPairs, (tetherGet s k).brkBPairs) ∧
      (∀ p ∈ assignedOn s k, (viewGet t p).path = .outEnd ∧ (viewGet t p).folded = false) ∧
      (∀ p, posTether p = k → (satGet s p).unwrapAt ≠ none →
        (satGet t p).foldA = false ∧ (satGet t p).foldB = false ∧ (satGet t p).unwrapAt = none ∧
        (satGet t p).unwrapped = true ∧ (satGet t p).silent = false) ∧
      (∀ p, posTether p ≠ k → (satGet t p).foldA = (satGet s p).foldA ∧ (satGet t p).foldB = (satGet s p).foldB)) ∧
  (∀ (k : Nat) (s : State), ringLive s = false ∨ (tetherGet s k).heal = none ∨
      (tetherGet s k).heal.any (fun h => h.cancelling || !h.answeredA || !h.answeredB) = true →
    Completes (exec (.unwrap k) s) fun t =>
      (∀ p, satGet t p = if posTether p = k ∧ (satGet s p).unwrapAt ≠ none then
          { satGet s p with
            foldA := false, foldB := false, unwrapAt := none, linkHeard := false, linkRx := false, linkRxWrapped := false
            silent := false, unwrapped := true }
        else satGet s p) ∧
      t = { s with sat := { s.sat with sats := t.sat.sats } }) ∧
  (∀ (p : Port) (data : Word) (s : State), WriteAdmitted s p 0x2C0 →
    let k := data.toNat % 4
    (tthRefusal s k 1 = 0 → Completes (exec (.tthSearch p data) s) fun t =>
      (tetherGet t k).walk = some {} ∧ (tetherGet t k).lastWalk = s.sys.tick ∧ TethersBut k s t ∧
      Leaves k .outEnd (hubFrame 0 false 4 [0]) s t ∧ Owes t p .ok 0x2C0 0 ∧
      t = { s with tth := t.tth, ports := t.ports }) ∧
    (tthRefusal s k 2 = 0 → Completes (exec (.tthResync p data) s) fun t =>
      (∀ q ∈ assignedOn s k, viewGet t q = { viewGet s q with t1 := some (16 * s.sys.tick), t4 := none }) ∧
      (∀ q, q ∉ assignedOn s k → viewGet t q = viewGet s q) ∧ Owes t p .ok 0x2C0 0 ∧ Carries k (tetherGet s k) s t ∧
      t = { s with sat := { s.sat with views := t.sat.views }, tth := t.tth, ports := t.ports }) ∧
    (tthRefusal s k 3 = 0 → bitAt s.tth.hold k = false → bothReady (tetherGet s k) = true →
      (tetherGet s k).double = false → (tetherGet s k).heal = none →
      Completes (exec (.tthHealNow p data) s) fun t =>
        (∃ h, (tetherGet t k).heal = some h ∧ h.cancelling = false ∧ s.sys.tick + 160000 ≤ h.tick) ∧
        (tetherGet t k).held = false ∧ TethersBut k s t ∧ Owes t p .ok 0x2C0 0)) ∧
  (∀ (p : Port) (data : Word) (s : State), WriteAdmitted s p 0x2C0 →
    let k := data.toNat % 4
    let refused := fun (c : Nat) (t : State) =>
      Refused s t p 0x2C0 9 ∧ t = { s with
        tth := { s.tth with refuseReason := tthRefusal s k c, refusePort := p }, ports := t.ports }
    (tthRefusal s k 1 ≠ 0 → Completes (exec (.tthSearch p data) s) fun t => refused 1 t) ∧
    (tthRefusal s k 2 ≠ 0 → Completes (exec (.tthResync p data) s) fun t => refused 2 t) ∧
    (tthRefusal s k 3 ≠ 0 → Completes (exec (.tthHealNow p data) s) fun t => refused 3 t))

/-- Table - CMD codes, Table - CACK codes (R402, R448, R455, R457, R458, R464, R465, R467, R472, R476, R499, R500, R503, R755,
R909, R910), forwarding (R383), invalid frames (R399). -/
def Obligations.SatelliteCommands : Prop :=
  (∀ (i : Instr) (c : CmdIn) (s : State), cmdOf i = some c →
    Completes (exec i s) fun t =>
      let x := satGet s c.sat
      let f := cmdFrame c.rx c.h c.code c.args
      (satHears x = false → t = s) ∧
      (satHears x = true → named x c.rx = false → SatIs c.sat (satPass c.rx f x) s t) ∧
      (satHears x = true → named x c.rx = true → ¬ Arrives f c.rx → t = s) ∧
      (TakesFrame x f c.rx → x.lastH = c.h → SatIs c.sat (satAnswer c.rx 1 c.h [byte x.cack] x) s t) ∧
      (TakesFrame x f c.rx → x.lastH ≠ c.h → x.cond = .asleep → SatIs c.sat (cacked c.h 3 c.rx x) s t) ∧
      (TakesAny x c.h c.code c.args c.rx → x.imageState ≠ 0 → c.code < 0x0A ∨ c.code = 0x0D →
        SatIs c.sat (cacked c.h 3 c.rx x) s t)) ∧
  (∀ (sat : Nat) (h : Bool) (l : List Byte) (rx : Arrival) (s : State), TakesCmd (satGet s sat) h 0x01 l rx →
    let u := fun lo n => leNat (slice l lo n)
    l.length = 30 → 5 ≤ u 0 2 ∧ u 0 2 ≤ 1000 → u 2 1 < 4 → u 3 2 ≤ 1023 → 1 ≤ u 5 2 ∧ u 5 2 ≤ 1023 → u 7 2 ≤ 0x3FD →
    u 9 2 ≤ 0x3FD → 60 ≤ u 11 2 ∧ u 11 2 ≤ 480 → 50 ≤ u 13 2 ∧ u 13 2 ≤ 1000 → 1 ≤ u 15 1 ∧ u 15 1 ≤ 100 →
    400 ≤ u 16 2 ∧ u 16 2 ≤ 1023 → 10 ≤ u 18 2 ∧ u 18 2 ≤ 400 → 40 ≤ u 20 2 → 32 ≤ u 22 2 ∧ u 22 2 ≤ 1023 →
    frxOk (u 24 2) = true → frxOk (u 26 2) = true → frxOk (u 28 2) = true →
    Completes (exec (.setSat sat h l rx) s) fun t =>
      SatIs sat (cacked h 0 rx (configured { satGet s sat with
        setSat := true
        cfg := { silence := u 0 2, grail0 := bitAt (u 2 1) 0, grail1 := bitAt (u 2 1) 1, gap := u 3 2, win := u 5 2,
                 min0 := u 7 2, min1 := u 9 2, ballastMin := u 11 2, vccWin := u 13 2, clkDelay := u 15 1,
                 rstClks := u 16 2, atrMax := u 18 2, isoDiv := u 20 2, sdDiv := u 22 2 }
        fault := { (satGet s sat).fault with
          frx0 := toWord (u 24 2), frx1 := toWord (u 26 2), frx2 := toWord (u 28 2) } })) s t) ∧
  (∀ (sat : Nat) (h : Bool) (l : List Byte) (rx : Arrival) (s : State), TakesCmd (satGet s sat) h 0x01 l rx →
    l.length ≠ 30 ∨ 0x3FD < leNat (slice l 7 2) ∨ 0x3FD < leNat (slice l 9 2) ∨ 1023 < leNat (slice l 3 2) →
    Completes (exec (.setSat sat h l rx) s) fun t => SatIs sat (cacked h 2 rx (satGet s sat)) s t) ∧
  (∀ (sat n : Nat) (h : Bool) (l : List Byte) (rx : Arrival) (s : State), TakesCmd (satGet s sat) h 0x02 l rx →
    let u := fun lo n => leNat (slice l lo n)
    l.length = 7 → u 0 1 = n → n < 4 → u 1 1 ≤ 2 → u 2 1 < 8 → u 3 1 ≤ 1 → 10 ≤ u 4 2 ∧ u 4 2 ≤ 300 → u 6 1 ≤ 1 →
    Completes (exec (.setSlot sat h l rx) s) fun t =>
      let c : SlotCfg := { kind := kindOf (u 1 1), classes := u 2 1, order := u 3 1, trip := u 4 2, wp := u 6 1 }
      let x := slotGet s (4 * sat + n)
      let y := { x with cfg := c }
      (inSession x = false → x.st ≠ .falling → x.st ≠ .tripped →
        slotGet t (4 * sat + n) = { y with st := idleState y, tripInForce := c.trip } ∧
        (y.det = true → c.kind ≠ .disabled → Sends (satGet t sat) { kind := 0x03, slot := n, payload := [0, 1] })) ∧
      (inSession x = true ∨ x.st = .falling ∨ x.st = .tripped →
        slotGet t (4 * sat + n) = y ∧
        (y.det = true → c.kind ≠ .disabled →
          Sends (satGet t sat) { kind := 0x03, slot := n, payload := [0, byte (slotCode x.st)] })) ∧
      SlotsBut (4 * sat + n) s t ∧ SatsBut sat s t ∧
      (satGet t sat).setSlots = (satGet s sat).setSlots ||| (1#4 <<< n) ∧ (satGet t sat).lastH = h ∧
      (satGet t sat).cack = 0 ∧ t = { s with slots := t.slots, sat := { s.sat with sats := t.sat.sats } }) ∧
  (∀ (sat n off : Nat) (h : Bool) (l : List Byte) (rx : Arrival) (s : State),
    TakesCmd (satGet s sat) h 0x03 (byte n :: natLe 2 off ++ l) rx → n < 4 → l ≠ [] → l.length ≤ 252 →
    Completes (exec (.put sat h n off l rx) s) fun t =>
      (1024 < off + l.length → SatIs sat (cacked h 5 rx (satGet s sat)) s t) ∧
      (off + l.length ≤ 1024 → (slotGet s (4 * sat + n)).run ≠ none → SatIs sat (cacked h 4 rx (satGet s sat)) s t) ∧
      (off + l.length ≤ 1024 → (slotGet s (4 * sat + n)).run = none →
        satGet t sat = cacked h 0 rx (satGet s sat) ∧ SatsBut sat s t ∧
        (∀ i, tblGet 0 (slotGet t (4 * sat + n)).buf i =
          if off ≤ i ∧ i < off + l.length then l.getD (i - off) 0 else tblGet 0 (slotGet s (4 * sat + n)).buf i) ∧
        slotGet t (4 * sat + n) = { slotGet s (4 * sat + n) with buf := (slotGet t (4 * sat + n)).buf } ∧
        SlotsBut (4 * sat + n) s t)) ∧
  (∀ (sat n op len param oid : Nat) (h : Bool) (rx : Arrival) (s : State),
    TakesCmd (satGet s sat) h 0x04 ([byte n, byte op] ++ arg2 len ++ arg2 param ++ arg2 oid) rx → n < 4 →
    isSlotOp op = true → len ≤ 1024 → (lengthRange op).1 ≤ len → len ≤ (lengthRange op).2 →
    Completes (exec (.orderCommand sat h n op len param oid rx) s) fun t =>
      let x := satGet s sat
      let y := slotGet s (4 * sat + n)
      (x.setSat = false ∨ x.setSlots ≠ 0xF → SatIs sat (cacked h 3 rx x) s t) ∧
      (x.setSat = true → x.setSlots = 0xF → y.run ≠ none → SatIs sat (cacked h 4 rx x) s t) ∧
      (x.setSat = true → x.setSlots = 0xF → y.run = none → slotAdmits y op = false → SatIs sat (cacked h 3 rx x) s t) ∧
      (x.setSat = true → x.setSlots = 0xF → y.run = none → slotAdmits y op = true →
        satGet t sat = cacked h 0 rx x ∧ SatsBut sat s t ∧
        slotGet t (4 * sat + n) = { y with
          run := some { opcode := op, param := param, length := len, oid := oid, since := s.sys.tick }
          ch := { y.ch with ppsOpen := y.ch.ppsOpen && decide (op = 3) } } ∧ SlotsBut (4 * sat + n) s t)) ∧
  (∀ (sat : Nat) (h : Bool) (rx : Arrival) (s : State), TakesCmd (satGet s sat) h 0x05 [] rx →
    Completes (exec (.sleepCommand sat h rx) s) fun t =>
      ((∀ n, n < 4 → sleeps (slotGet s (4 * sat + n)).st = true) →
        SatIs sat (cacked h 0 rx { satGet s sat with cond := .asleep }) s t) ∧
      ((∃ n, n < 4 ∧ sleeps (slotGet s (4 * sat + n)).st = false) → SatIs sat (cacked h 3 rx (satGet s sat)) s t)) ∧
  (∀ (sat n : Nat) (h : Bool) (rx : Arrival) (s : State), TakesCmd (satGet s sat) h 0x07 [byte n, 1] rx → n < 4 →
    Completes (exec (.traceFetch sat h n rx) s) fun t =>
      (∀ i, i < 16 → Sends (satGet t sat)
        { kind := 0x0C, slot := n,
          payload := byte i :: slice (traceBytes (slotGet s (4 * sat + n))) (128 * i) 128 }) ∧
      (satGet t sat).lastH = h ∧ (satGet t sat).cack = 0 ∧ (satGet t sat).answer = [0] ∧ SatsBut sat s t ∧
      t.slots = s.slots) ∧
  (∀ (sat n : Nat) (h : Bool) (rx : Arrival) (s : State), TakesCmd (satGet s sat) h 0x07 [byte n, 2] rx → n < 4 →
    Completes (exec (.traceRearm sat h n rx) s) fun t =>
      (fetchWaits (satGet s sat) n = true →
        SatIs sat (cacked h 0 rx { satGet s sat with rearmAfterFetch := some n }) s t) ∧
      (fetchWaits (satGet s sat) n = false →
        satGet t sat = cacked h 0 rx (satGet s sat) ∧ SatsBut sat s t ∧ SlotsBut (4 * sat + n) s t ∧
        slotGet t (4 * sat + n) = { slotGet s (4 * sat + n) with
          trace := { anchor := (satGet s sat).tick, lastTick := (satGet s sat).tick } })) ∧
  (∀ (sat n : Nat) (h : Bool) (rx : Arrival) (s : State), TakesCmd (satGet s sat) h 0x07 [byte n, 3] rx → n < 4 →
    sat ≠ 0 →
    (slotGet s (4 * sat + n)).trace.frozen = false → (slotGet s (4 * sat + n)).trace.remaining = none →
    Completes (exec (.traceFreeze sat h n rx) s) fun t =>
      (slotGet t (4 * sat + n)).trace.remaining = some 64 ∧ (slotGet t (4 * sat + n)).trace.cause = 4 ∧
      (slotGet t (4 * sat + n)).trace.entries = (slotGet s (4 * sat + n)).trace.entries ∧
      satGet t sat = cacked h 0 rx (satGet s sat) ∧ SatsBut sat s t ∧ SlotsBut (4 * sat + n) s t) ∧
  (∀ (k : Nat) (s : State), (slotGet s k).trace.remaining = some 0 →
    Completes (exec (.traceFreezeCount k) s) fun t =>
      slotGet t k = { slotGet s k with trace := { (slotGet s k).trace with frozen := true, remaining := none } } ∧
      SlotsBut k s t ∧ t = { s with slots := t.slots }) ∧
  (∀ (sat n : Nat) (h : Bool) (rx : Arrival) (s : State), TakesCmd (satGet s sat) h 0x08 [byte n] rx → n < 4 →
    Completes (exec (.slotRelease sat h n rx) s) fun t =>
      let y := slotGet s (4 * sat + n)
      (y.st ≠ .tripped → SatIs sat (cacked h 3 rx (satGet s sat)) s t) ∧
      (y.st = .tripped → slotGet t (4 * sat + n) = { y with st := idleState y } ∧ SlotsBut (4 * sat + n) s t ∧
        (satGet t sat).lastH = h ∧ (satGet t sat).cack = 0 ∧ SatsBut sat s t ∧
        Sends (satGet t sat)
          { kind := 0x03, slot := n, payload := [if y.det then 0 else 1, byte (slotCode (idleState y))] })) ∧
  (∀ (sat : Nat) (h : Bool) (bits : BitVec 9) (rx : Arrival) (s : State),
    TakesCmd (satGet s sat) h 0x09 (arg2 bits.toNat) rx →
    Completes (exec (.faultAckCommand sat h bits rx) s) fun t =>
      stickyBits (satGet t sat).fault = stickyBits (satGet s sat).fault &&& ~~~bits ∧
      oddOnes (satGet t sat).fault.fst = true ∧ (satGet t sat).lastH = h ∧ (satGet t sat).cack = 0 ∧ SatsBut sat s t ∧
      t = { s with sat := { s.sat with sats := t.sat.sats } }) ∧
  (∀ (sat : Nat) (h : Bool) (mask : BitVec 4) (rx : Arrival) (s : State), sat ≠ 0 →
    TakesAny (satGet s sat) h 0x0A [byte mask.toNat] rx →
    Completes (exec (.ripcordCommand sat h mask rx) s) fun t =>
      (∀ n, n < 4 → mask.getLsbD n = true → inSession (slotGet s (4 * sat + n)) = true →
        Falls (4 * sat + n) 7 true (some 0x085) s t) ∧
      (∀ n, n < 4 → mask.getLsbD n = true → inSession (slotGet s (4 * sat + n)) = false →
        (slotGet s (4 * sat + n)).st ≠ .falling →
        ∀ r, (slotGet s (4 * sat + n)).run = some r → r.begun = false → RunEnds (4 * sat + n) r 0x085 s t) ∧
      (∀ n, n < 4 → mask.getLsbD n = false → slotGet t (4 * sat + n) = slotGet s (4 * sat + n)) ∧
      (∀ j, j / 4 ≠ sat → slotGet t j = slotGet s j) ∧ (satGet t sat).lastH = h ∧ (satGet t sat).cack = 0 ∧
      (satGet t sat).answer = [0] ∧ (satGet t sat).cond = (satGet s sat).cond ∧
      SatsBut sat s t ∧ t = { s with slots := t.slots, sat := { s.sat with sats := t.sat.sats } }) ∧
  (∀ (sat : Nat) (h : Bool) (rx : Arrival) (s : State), sat ≠ 0 → TakesAny (satGet s sat) h 0x0B [] rx →
    Completes (exec (.restartCommand sat h rx) s) fun t =>
      let x := satGet t sat
      x.sending = some { kind := 0x06, payload := [2] } ∧ x.results = [] ∧ x.lastH = false ∧ x.togS = false ∧
      x.setSat = false ∧ x.setSlots = 0 ∧ x.fltN = false ∧ x.position = (satGet s sat).position ∧
      x.lock = (satGet s sat).lock ∧ x.grail0 = (satGet s sat).grail0 ∧ x.grail1 = (satGet s sat).grail1 ∧
      SatsBut sat s t ∧ (∀ j, j / 4 ≠ sat → slotGet t j = slotGet s j) ∧
      (∀ n, n < 4 → (slotGet t (4 * sat + n)).run = none ∧ (inSession (slotGet s (4 * sat + n)) = true →
        (slotGet t (4 * sat + n)).st = .falling ∧ (slotGet t (4 * sat + n)).pins = contactsOff))) ∧
  (∀ (sat : Nat) (h : Bool) (rx : Arrival) (s : State), TakesAny (satGet s sat) h 0x0C [] rx →
    Completes (exec (.identCommand sat h rx) s) fun t =>
      let x := satGet s sat
      SatReports sat { x with lastH := h, cack := 0, answer := [0] }
        { kind := 0x09, payload := [4, 0] ++ natLe 2 x.fwB ++ natLe 2 x.fwN ++ natLe 2 x.fwM ++ [byte x.imageState] } s t) ∧
  (∀ (sat n c : Nat) (h : Bool) (l : List Byte) (rx : Arrival) (s : State),
    TakesCmd (satGet s sat) h 0x0D ([byte n, byte c] ++ l) rx → n < 4 → l.length = 128 →
    Completes (exec (.traceReplayCommand sat h n c l rx) s) fun t =>
      let st := (slotGet s (4 * sat + n)).st
      let kept := (if c = 0 then [] else (satGet s sat).replayBytes.take (128 * c)) ++ l
      (c < 16 → st ≠ .empty → st ≠ .disabled → SatIs sat (cacked h 3 rx (satGet s sat)) s t) ∧
      (c < 15 → st = .empty ∨ st = .disabled →
        SatIs sat (cacked h 0 rx { satGet s sat with replaySlot := n, replayBytes := kept }) s t) ∧
      (c = 15 → st = .empty ∨ st = .disabled →
        (satGet t sat).replayBytes = kept ∧ (satGet t sat).cack = 0 ∧ SatsBut sat s t ∧ t.slots = s.slots ∧
        (traceHasActivation kept = false →
          Sends (satGet t sat) { kind := 0x0E, slot := n, payload := [0xFF, 0xFF, 2] }) ∧
        (traceHasActivation kept = true →
          Sends (satGet t sat) { kind := 0x0E, slot := n, payload := [0xFF, 0xFF, 0] } ∨
          ∃ i, i < 508 ∧ Sends (satGet t sat) { kind := 0x0E, slot := n, payload := natLe 2 i ++ [1] })))

/-- UPD_BEGIN, UPD_DATA, UPD_END, UPD_ABORT (R869 to R872, Table - Update commands). -/
def Obligations.SatelliteLoaders : Prop :=
  (∀ (sat : Nat) (h : Bool) (l : List Byte) (rx : Arrival) (s : State), sat ≠ 0 → TakesAny (satGet s sat) h 0x10 l rx →
    Completes (exec (.updBegin sat h l rx) s) fun t =>
      let x := satGet s sat
      let rom := decide (x.imageState = 4)
      (l.length ≠ 42 → SatIs sat (cacked h 2 rx x) s t) ∧
      (l.length = 42 →
        satGet t sat = cacked h 0 rx { x with
          cond := if rom then .romLoader else .loader, imageState := if rom then 4 else 1, erasing := true
          receiving := false, imageStart := leNat (slice l 0 3), imageLen := leNat (slice l 3 3)
          imageHash := slice l 6 32, imageVersion := leNat (slice l 38 4), image := [], setSat := false, setSlots := 0
          fltN := false } ∧ SatsBut sat s t ∧
        (∀ n, n < 4 → (slotGet t (4 * sat + n)).run = none ∧ (inSession (slotGet s (4 * sat + n)) = true →
          (slotGet t (4 * sat + n)).st = .falling ∧ (slotGet t (4 * sat + n)).pins = contactsOff)) ∧
        (∀ j, j / 4 ≠ sat → slotGet t j = slotGet s j))) ∧
  (∀ (sat off : Nat) (h : Bool) (l : List Byte) (rx : Arrival) (s : State),
    TakesAny (satGet s sat) h 0x11 (natLe 3 off ++ l) rx → l ≠ [] → l.length ≤ 240 →
    Completes (exec (.updData sat h off l rx) s) fun t =>
      let x := satGet s sat
      let inside := x.imageStart ≤ off ∧ off + l.length ≤ x.imageStart + x.imageLen
      (x.receiving = false → SatIs sat (cacked h 3 rx x) s t) ∧
      (x.receiving = true → ¬ inside → SatIs sat (cacked h 2 rx x) s t) ∧
      (x.receiving = true → inside →
        SatIs sat (cacked h 0 rx { x with image := (satGet t sat).image }) s t ∧
        ∀ i, tblGet 0xFF (satGet t sat).image i =
          if off ≤ i ∧ i < off + l.length then l.getD (i - off) 0 else tblGet 0xFF x.image i)) ∧
  (∀ (sat : Nat) (h : Bool) (rx : Arrival) (s : State), sat ≠ 0 → TakesAny (satGet s sat) h 0x12 [] rx →
    Completes (exec (.updEnd sat h rx) s) fun t =>
      let x := satGet s sat
      (x.receiving = false → SatIs sat (cacked h 3 rx x) s t) ∧
      (x.receiving = true → sha256 (receivedBytes x) ≠ x.imageHash →
        SatIs sat { cacked h 0 rx x with imageState := 5, receiving := false } s t) ∧
      (x.receiving = true → sha256 (receivedBytes x) = x.imageHash →
        (satGet t sat).imageState = 0 ∧ (satGet t sat).cond = .running ∧ (satGet t sat).receiving = false ∧
        (satGet t sat).sending = some { kind := 0x06, payload := [4] } ∧ (satGet t sat).lastH = false ∧
        (satGet t sat).togS = false ∧ (satGet t sat).fwM = field x.imageVersion 20 10 ∧
        (satGet t sat).fwN = field x.imageVersion 10 10 ∧ (satGet t sat).fwB = field x.imageVersion 0 10 ∧
        SatsBut sat s t)) ∧
  (∀ (sat : Nat) (h : Bool) (rx : Arrival) (s : State), TakesAny (satGet s sat) h 0x13 [] rx →
    Completes (exec (.updAbort sat h rx) s) fun t =>
      let x := satGet s sat
      SatIs sat (cacked h 0 rx { x with
        receiving := false, erasing := false
        imageState := if x.imageState = 2 then (if x.cond = .romLoader then 4 else 1) else x.imageState }) s t)
end

