-- ==== Sys2Proof/Laws/State.lean ====
section
/-!
SUPPORT. The fields of State after the modifiers of one entry: `modPort`, `modSlot` and their kin change the field that holds
the entry, and every other field is as it was, by definition.
-/
namespace Sys2Proof
namespace Machine

/-! ### modPort -/

@[simp] theorem modPort_sys (p : Port) (f : HostPort → HostPort) (s : State) : (modPort p f s).sys = s.sys := rfl
@[simp] theorem modPort_fatal (p : Port) (f : HostPort → HostPort) (s : State) : (modPort p f s).fatal = s.fatal := rfl
@[simp] theorem modPort_pins (p : Port) (f : HostPort → HostPort) (s : State) : (modPort p f s).pins = s.pins := rfl
@[simp] theorem modPort_sup (p : Port) (f : HostPort → HostPort) (s : State) : (modPort p f s).sup = s.sup := rfl
@[simp] theorem modPort_start (p : Port) (f : HostPort → HostPort) (s : State) : (modPort p f s).start = s.start := rfl
@[simp] theorem modPort_fb (p : Port) (f : HostPort → HostPort) (s : State) : (modPort p f s).fb = s.fb := rfl
@[simp] theorem modPort_mor (p : Port) (f : HostPort → HostPort) (s : State) : (modPort p f s).mor = s.mor := rfl
@[simp] theorem modPort_ord (p : Port) (f : HostPort → HostPort) (s : State) : (modPort p f s).ord = s.ord := rfl
@[simp] theorem modPort_slots (p : Port) (f : HostPort → HostPort) (s : State) : (modPort p f s).slots = s.slots := rfl
@[simp] theorem modPort_tth (p : Port) (f : HostPort → HostPort) (s : State) : (modPort p f s).tth = s.tth := rfl
@[simp] theorem modPort_sat (p : Port) (f : HostPort → HostPort) (s : State) : (modPort p f s).sat = s.sat := rfl
@[simp] theorem modPort_ldg (p : Port) (f : HostPort → HostPort) (s : State) : (modPort p f s).ldg = s.ldg := rfl
@[simp] theorem modPort_rls (p : Port) (f : HostPort → HostPort) (s : State) : (modPort p f s).rls = s.rls := rfl
@[simp] theorem modPort_mea (p : Port) (f : HostPort → HostPort) (s : State) : (modPort p f s).mea = s.mea := rfl
@[simp] theorem modPort_lko (p : Port) (f : HostPort → HostPort) (s : State) : (modPort p f s).lko = s.lko := rfl
@[simp] theorem modPort_log (p : Port) (f : HostPort → HostPort) (s : State) : (modPort p f s).log = s.log := rfl
@[simp] theorem modPort_rnd (p : Port) (f : HostPort → HostPort) (s : State) : (modPort p f s).rnd = s.rnd := rfl
@[simp] theorem modPort_upd (p : Port) (f : HostPort → HostPort) (s : State) : (modPort p f s).upd = s.upd := rfl
@[simp] theorem modPort_rig (p : Port) (f : HostPort → HostPort) (s : State) : (modPort p f s).rig = s.rig := rfl
@[simp] theorem modPort_rcd (p : Port) (f : HostPort → HostPort) (s : State) : (modPort p f s).rcd = s.rcd := rfl
@[simp] theorem modPort_free (p : Port) (f : HostPort → HostPort) (s : State) : (modPort p f s).free = s.free := rfl
@[simp] theorem modPort_pending (p : Port) (f : HostPort → HostPort) (s : State) : (modPort p f s).pending = s.pending := rfl

/-! ### modBank -/

@[simp] theorem modBank_sys (p : Port) (f : OrdBank → OrdBank) (s : State) : (modBank p f s).sys = s.sys := rfl
@[simp] theorem modBank_fatal (p : Port) (f : OrdBank → OrdBank) (s : State) : (modBank p f s).fatal = s.fatal := rfl
@[simp] theorem modBank_pins (p : Port) (f : OrdBank → OrdBank) (s : State) : (modBank p f s).pins = s.pins := rfl
@[simp] theorem modBank_sup (p : Port) (f : OrdBank → OrdBank) (s : State) : (modBank p f s).sup = s.sup := rfl
@[simp] theorem modBank_start (p : Port) (f : OrdBank → OrdBank) (s : State) : (modBank p f s).start = s.start := rfl
@[simp] theorem modBank_fb (p : Port) (f : OrdBank → OrdBank) (s : State) : (modBank p f s).fb = s.fb := rfl
@[simp] theorem modBank_ports (p : Port) (f : OrdBank → OrdBank) (s : State) : (modBank p f s).ports = s.ports := rfl
@[simp] theorem modBank_mor (p : Port) (f : OrdBank → OrdBank) (s : State) : (modBank p f s).mor = s.mor := rfl
@[simp] theorem modBank_slots (p : Port) (f : OrdBank → OrdBank) (s : State) : (modBank p f s).slots = s.slots := rfl
@[simp] theorem modBank_tth (p : Port) (f : OrdBank → OrdBank) (s : State) : (modBank p f s).tth = s.tth := rfl
@[simp] theorem modBank_sat (p : Port) (f : OrdBank → OrdBank) (s : State) : (modBank p f s).sat = s.sat := rfl
@[simp] theorem modBank_ldg (p : Port) (f : OrdBank → OrdBank) (s : State) : (modBank p f s).ldg = s.ldg := rfl
@[simp] theorem modBank_rls (p : Port) (f : OrdBank → OrdBank) (s : State) : (modBank p f s).rls = s.rls := rfl
@[simp] theorem modBank_mea (p : Port) (f : OrdBank → OrdBank) (s : State) : (modBank p f s).mea = s.mea := rfl
@[simp] theorem modBank_lko (p : Port) (f : OrdBank → OrdBank) (s : State) : (modBank p f s).lko = s.lko := rfl
@[simp] theorem modBank_log (p : Port) (f : OrdBank → OrdBank) (s : State) : (modBank p f s).log = s.log := rfl
@[simp] theorem modBank_rnd (p : Port) (f : OrdBank → OrdBank) (s : State) : (modBank p f s).rnd = s.rnd := rfl
@[simp] theorem modBank_upd (p : Port) (f : OrdBank → OrdBank) (s : State) : (modBank p f s).upd = s.upd := rfl
@[simp] theorem modBank_rig (p : Port) (f : OrdBank → OrdBank) (s : State) : (modBank p f s).rig = s.rig := rfl
@[simp] theorem modBank_rcd (p : Port) (f : OrdBank → OrdBank) (s : State) : (modBank p f s).rcd = s.rcd := rfl
@[simp] theorem modBank_free (p : Port) (f : OrdBank → OrdBank) (s : State) : (modBank p f s).free = s.free := rfl
@[simp] theorem modBank_pending (p : Port) (f : OrdBank → OrdBank) (s : State) : (modBank p f s).pending = s.pending := rfl

/-! ### modSlot -/

@[simp] theorem modSlot_sys (k : Nat) (f : Slot → Slot) (s : State) : (modSlot k f s).sys = s.sys := rfl
@[simp] theorem modSlot_fatal (k : Nat) (f : Slot → Slot) (s : State) : (modSlot k f s).fatal = s.fatal := rfl
@[simp] theorem modSlot_pins (k : Nat) (f : Slot → Slot) (s : State) : (modSlot k f s).pins = s.pins := rfl
@[simp] theorem modSlot_sup (k : Nat) (f : Slot → Slot) (s : State) : (modSlot k f s).sup = s.sup := rfl
@[simp] theorem modSlot_start (k : Nat) (f : Slot → Slot) (s : State) : (modSlot k f s).start = s.start := rfl
@[simp] theorem modSlot_fb (k : Nat) (f : Slot → Slot) (s : State) : (modSlot k f s).fb = s.fb := rfl
@[simp] theorem modSlot_ports (k : Nat) (f : Slot → Slot) (s : State) : (modSlot k f s).ports = s.ports := rfl
@[simp] theorem modSlot_mor (k : Nat) (f : Slot → Slot) (s : State) : (modSlot k f s).mor = s.mor := rfl
@[simp] theorem modSlot_ord (k : Nat) (f : Slot → Slot) (s : State) : (modSlot k f s).ord = s.ord := rfl
@[simp] theorem modSlot_tth (k : Nat) (f : Slot → Slot) (s : State) : (modSlot k f s).tth = s.tth := rfl
@[simp] theorem modSlot_sat (k : Nat) (f : Slot → Slot) (s : State) : (modSlot k f s).sat = s.sat := rfl
@[simp] theorem modSlot_ldg (k : Nat) (f : Slot → Slot) (s : State) : (modSlot k f s).ldg = s.ldg := rfl
@[simp] theorem modSlot_rls (k : Nat) (f : Slot → Slot) (s : State) : (modSlot k f s).rls = s.rls := rfl
@[simp] theorem modSlot_mea (k : Nat) (f : Slot → Slot) (s : State) : (modSlot k f s).mea = s.mea := rfl
@[simp] theorem modSlot_lko (k : Nat) (f : Slot → Slot) (s : State) : (modSlot k f s).lko = s.lko := rfl
@[simp] theorem modSlot_log (k : Nat) (f : Slot → Slot) (s : State) : (modSlot k f s).log = s.log := rfl
@[simp] theorem modSlot_rnd (k : Nat) (f : Slot → Slot) (s : State) : (modSlot k f s).rnd = s.rnd := rfl
@[simp] theorem modSlot_upd (k : Nat) (f : Slot → Slot) (s : State) : (modSlot k f s).upd = s.upd := rfl
@[simp] theorem modSlot_rig (k : Nat) (f : Slot → Slot) (s : State) : (modSlot k f s).rig = s.rig := rfl
@[simp] theorem modSlot_rcd (k : Nat) (f : Slot → Slot) (s : State) : (modSlot k f s).rcd = s.rcd := rfl
@[simp] theorem modSlot_free (k : Nat) (f : Slot → Slot) (s : State) : (modSlot k f s).free = s.free := rfl
@[simp] theorem modSlot_pending (k : Nat) (f : Slot → Slot) (s : State) : (modSlot k f s).pending = s.pending := rfl

/-! ### modParcel -/

@[simp] theorem modParcel_sys (n : Nat) (f : Parcel → Parcel) (s : State) : (modParcel n f s).sys = s.sys := rfl
@[simp] theorem modParcel_fatal (n : Nat) (f : Parcel → Parcel) (s : State) : (modParcel n f s).fatal = s.fatal := rfl
@[simp] theorem modParcel_pins (n : Nat) (f : Parcel → Parcel) (s : State) : (modParcel n f s).pins = s.pins := rfl
@[simp] theorem modParcel_sup (n : Nat) (f : Parcel → Parcel) (s : State) : (modParcel n f s).sup = s.sup := rfl
@[simp] theorem modParcel_start (n : Nat) (f : Parcel → Parcel) (s : State) : (modParcel n f s).start = s.start := rfl
@[simp] theorem modParcel_fb (n : Nat) (f : Parcel → Parcel) (s : State) : (modParcel n f s).fb = s.fb := rfl
@[simp] theorem modParcel_ports (n : Nat) (f : Parcel → Parcel) (s : State) : (modParcel n f s).ports = s.ports := rfl
@[simp] theorem modParcel_mor (n : Nat) (f : Parcel → Parcel) (s : State) : (modParcel n f s).mor = s.mor := rfl
@[simp] theorem modParcel_slots (n : Nat) (f : Parcel → Parcel) (s : State) : (modParcel n f s).slots = s.slots := rfl
@[simp] theorem modParcel_tth (n : Nat) (f : Parcel → Parcel) (s : State) : (modParcel n f s).tth = s.tth := rfl
@[simp] theorem modParcel_sat (n : Nat) (f : Parcel → Parcel) (s : State) : (modParcel n f s).sat = s.sat := rfl
@[simp] theorem modParcel_ldg (n : Nat) (f : Parcel → Parcel) (s : State) : (modParcel n f s).ldg = s.ldg := rfl
@[simp] theorem modParcel_rls (n : Nat) (f : Parcel → Parcel) (s : State) : (modParcel n f s).rls = s.rls := rfl
@[simp] theorem modParcel_mea (n : Nat) (f : Parcel → Parcel) (s : State) : (modParcel n f s).mea = s.mea := rfl
@[simp] theorem modParcel_lko (n : Nat) (f : Parcel → Parcel) (s : State) : (modParcel n f s).lko = s.lko := rfl
@[simp] theorem modParcel_log (n : Nat) (f : Parcel → Parcel) (s : State) : (modParcel n f s).log = s.log := rfl
@[simp] theorem modParcel_rnd (n : Nat) (f : Parcel → Parcel) (s : State) : (modParcel n f s).rnd = s.rnd := rfl
@[simp] theorem modParcel_upd (n : Nat) (f : Parcel → Parcel) (s : State) : (modParcel n f s).upd = s.upd := rfl
@[simp] theorem modParcel_rig (n : Nat) (f : Parcel → Parcel) (s : State) : (modParcel n f s).rig = s.rig := rfl
@[simp] theorem modParcel_rcd (n : Nat) (f : Parcel → Parcel) (s : State) : (modParcel n f s).rcd = s.rcd := rfl
@[simp] theorem modParcel_free (n : Nat) (f : Parcel → Parcel) (s : State) : (modParcel n f s).free = s.free := rfl
@[simp] theorem modParcel_pending (n : Nat) (f : Parcel → Parcel) (s : State) : (modParcel n f s).pending = s.pending := rfl

/-! ### modTether -/

@[simp] theorem modTether_sys (t : Nat) (f : Tether → Tether) (s : State) : (modTether t f s).sys = s.sys := rfl
@[simp] theorem modTether_fatal (t : Nat) (f : Tether → Tether) (s : State) : (modTether t f s).fatal = s.fatal := rfl
@[simp] theorem modTether_pins (t : Nat) (f : Tether → Tether) (s : State) : (modTether t f s).pins = s.pins := rfl
@[simp] theorem modTether_sup (t : Nat) (f : Tether → Tether) (s : State) : (modTether t f s).sup = s.sup := rfl
@[simp] theorem modTether_start (t : Nat) (f : Tether → Tether) (s : State) : (modTether t f s).start = s.start := rfl
@[simp] theorem modTether_fb (t : Nat) (f : Tether → Tether) (s : State) : (modTether t f s).fb = s.fb := rfl
@[simp] theorem modTether_ports (t : Nat) (f : Tether → Tether) (s : State) : (modTether t f s).ports = s.ports := rfl
@[simp] theorem modTether_mor (t : Nat) (f : Tether → Tether) (s : State) : (modTether t f s).mor = s.mor := rfl
@[simp] theorem modTether_ord (t : Nat) (f : Tether → Tether) (s : State) : (modTether t f s).ord = s.ord := rfl
@[simp] theorem modTether_slots (t : Nat) (f : Tether → Tether) (s : State) : (modTether t f s).slots = s.slots := rfl
@[simp] theorem modTether_sat (t : Nat) (f : Tether → Tether) (s : State) : (modTether t f s).sat = s.sat := rfl
@[simp] theorem modTether_ldg (t : Nat) (f : Tether → Tether) (s : State) : (modTether t f s).ldg = s.ldg := rfl
@[simp] theorem modTether_rls (t : Nat) (f : Tether → Tether) (s : State) : (modTether t f s).rls = s.rls := rfl
@[simp] theorem modTether_mea (t : Nat) (f : Tether → Tether) (s : State) : (modTether t f s).mea = s.mea := rfl
@[simp] theorem modTether_lko (t : Nat) (f : Tether → Tether) (s : State) : (modTether t f s).lko = s.lko := rfl
@[simp] theorem modTether_log (t : Nat) (f : Tether → Tether) (s : State) : (modTether t f s).log = s.log := rfl
@[simp] theorem modTether_rnd (t : Nat) (f : Tether → Tether) (s : State) : (modTether t f s).rnd = s.rnd := rfl
@[simp] theorem modTether_upd (t : Nat) (f : Tether → Tether) (s : State) : (modTether t f s).upd = s.upd := rfl
@[simp] theorem modTether_rig (t : Nat) (f : Tether → Tether) (s : State) : (modTether t f s).rig = s.rig := rfl
@[simp] theorem modTether_rcd (t : Nat) (f : Tether → Tether) (s : State) : (modTether t f s).rcd = s.rcd := rfl
@[simp] theorem modTether_free (t : Nat) (f : Tether → Tether) (s : State) : (modTether t f s).free = s.free := rfl
@[simp] theorem modTether_pending (t : Nat) (f : Tether → Tether) (s : State) : (modTether t f s).pending = s.pending := rfl

/-! ### modView -/

@[simp] theorem modView_sys (k : Nat) (f : SatView → SatView) (s : State) : (modView k f s).sys = s.sys := rfl
@[simp] theorem modView_fatal (k : Nat) (f : SatView → SatView) (s : State) : (modView k f s).fatal = s.fatal := rfl
@[simp] theorem modView_pins (k : Nat) (f : SatView → SatView) (s : State) : (modView k f s).pins = s.pins := rfl
@[simp] theorem modView_sup (k : Nat) (f : SatView → SatView) (s : State) : (modView k f s).sup = s.sup := rfl
@[simp] theorem modView_start (k : Nat) (f : SatView → SatView) (s : State) : (modView k f s).start = s.start := rfl
@[simp] theorem modView_fb (k : Nat) (f : SatView → SatView) (s : State) : (modView k f s).fb = s.fb := rfl
@[simp] theorem modView_ports (k : Nat) (f : SatView → SatView) (s : State) : (modView k f s).ports = s.ports := rfl
@[simp] theorem modView_mor (k : Nat) (f : SatView → SatView) (s : State) : (modView k f s).mor = s.mor := rfl
@[simp] theorem modView_ord (k : Nat) (f : SatView → SatView) (s : State) : (modView k f s).ord = s.ord := rfl
@[simp] theorem modView_slots (k : Nat) (f : SatView → SatView) (s : State) : (modView k f s).slots = s.slots := rfl
@[simp] theorem modView_tth (k : Nat) (f : SatView → SatView) (s : State) : (modView k f s).tth = s.tth := rfl
@[simp] theorem modView_ldg (k : Nat) (f : SatView → SatView) (s : State) : (modView k f s).ldg = s.ldg := rfl
@[simp] theorem modView_rls (k : Nat) (f : SatView → SatView) (s : State) : (modView k f s).rls = s.rls := rfl
@[simp] theorem modView_mea (k : Nat) (f : SatView → SatView) (s : State) : (modView k f s).mea = s.mea := rfl
@[simp] theorem modView_lko (k : Nat) (f : SatView → SatView) (s : State) : (modView k f s).lko = s.lko := rfl
@[simp] theorem modView_log (k : Nat) (f : SatView → SatView) (s : State) : (modView k f s).log = s.log := rfl
@[simp] theorem modView_rnd (k : Nat) (f : SatView → SatView) (s : State) : (modView k f s).rnd = s.rnd := rfl
@[simp] theorem modView_upd (k : Nat) (f : SatView → SatView) (s : State) : (modView k f s).upd = s.upd := rfl
@[simp] theorem modView_rig (k : Nat) (f : SatView → SatView) (s : State) : (modView k f s).rig = s.rig := rfl
@[simp] theorem modView_rcd (k : Nat) (f : SatView → SatView) (s : State) : (modView k f s).rcd = s.rcd := rfl
@[simp] theorem modView_free (k : Nat) (f : SatView → SatView) (s : State) : (modView k f s).free = s.free := rfl
@[simp] theorem modView_pending (k : Nat) (f : SatView → SatView) (s : State) : (modView k f s).pending = s.pending := rfl

/-! ### modSlotView -/

@[simp] theorem modSlotView_sys (k : Nat) (f : SlotView → SlotView) (s : State) : (modSlotView k f s).sys = s.sys := rfl
@[simp] theorem modSlotView_fatal (k : Nat) (f : SlotView → SlotView) (s : State) : (modSlotView k f s).fatal = s.fatal := rfl
@[simp] theorem modSlotView_pins (k : Nat) (f : SlotView → SlotView) (s : State) : (modSlotView k f s).pins = s.pins := rfl
@[simp] theorem modSlotView_sup (k : Nat) (f : SlotView → SlotView) (s : State) : (modSlotView k f s).sup = s.sup := rfl
@[simp] theorem modSlotView_start (k : Nat) (f : SlotView → SlotView) (s : State) : (modSlotView k f s).start = s.start := rfl
@[simp] theorem modSlotView_fb (k : Nat) (f : SlotView → SlotView) (s : State) : (modSlotView k f s).fb = s.fb := rfl
@[simp] theorem modSlotView_ports (k : Nat) (f : SlotView → SlotView) (s : State) : (modSlotView k f s).ports = s.ports := rfl
@[simp] theorem modSlotView_mor (k : Nat) (f : SlotView → SlotView) (s : State) : (modSlotView k f s).mor = s.mor := rfl
@[simp] theorem modSlotView_ord (k : Nat) (f : SlotView → SlotView) (s : State) : (modSlotView k f s).ord = s.ord := rfl
@[simp] theorem modSlotView_slots (k : Nat) (f : SlotView → SlotView) (s : State) : (modSlotView k f s).slots = s.slots := rfl
@[simp] theorem modSlotView_tth (k : Nat) (f : SlotView → SlotView) (s : State) : (modSlotView k f s).tth = s.tth := rfl
@[simp] theorem modSlotView_ldg (k : Nat) (f : SlotView → SlotView) (s : State) : (modSlotView k f s).ldg = s.ldg := rfl
@[simp] theorem modSlotView_rls (k : Nat) (f : SlotView → SlotView) (s : State) : (modSlotView k f s).rls = s.rls := rfl
@[simp] theorem modSlotView_mea (k : Nat) (f : SlotView → SlotView) (s : State) : (modSlotView k f s).mea = s.mea := rfl
@[simp] theorem modSlotView_lko (k : Nat) (f : SlotView → SlotView) (s : State) : (modSlotView k f s).lko = s.lko := rfl
@[simp] theorem modSlotView_log (k : Nat) (f : SlotView → SlotView) (s : State) : (modSlotView k f s).log = s.log := rfl
@[simp] theorem modSlotView_rnd (k : Nat) (f : SlotView → SlotView) (s : State) : (modSlotView k f s).rnd = s.rnd := rfl
@[simp] theorem modSlotView_upd (k : Nat) (f : SlotView → SlotView) (s : State) : (modSlotView k f s).upd = s.upd := rfl
@[simp] theorem modSlotView_rig (k : Nat) (f : SlotView → SlotView) (s : State) : (modSlotView k f s).rig = s.rig := rfl
@[simp] theorem modSlotView_rcd (k : Nat) (f : SlotView → SlotView) (s : State) : (modSlotView k f s).rcd = s.rcd := rfl
@[simp] theorem modSlotView_free (k : Nat) (f : SlotView → SlotView) (s : State) : (modSlotView k f s).free = s.free := rfl
@[simp] theorem modSlotView_pending (k : Nat) (f : SlotView → SlotView) (s : State) : (modSlotView k f s).pending = s.pending := rfl

/-! ### modSat -/

@[simp] theorem modSat_sys (k : Nat) (f : Sat → Sat) (s : State) : (modSat k f s).sys = s.sys := rfl
@[simp] theorem modSat_fatal (k : Nat) (f : Sat → Sat) (s : State) : (modSat k f s).fatal = s.fatal := rfl
@[simp] theorem modSat_pins (k : Nat) (f : Sat → Sat) (s : State) : (modSat k f s).pins = s.pins := rfl
@[simp] theorem modSat_sup (k : Nat) (f : Sat → Sat) (s : State) : (modSat k f s).sup = s.sup := rfl
@[simp] theorem modSat_start (k : Nat) (f : Sat → Sat) (s : State) : (modSat k f s).start = s.start := rfl
@[simp] theorem modSat_fb (k : Nat) (f : Sat → Sat) (s : State) : (modSat k f s).fb = s.fb := rfl
@[simp] theorem modSat_ports (k : Nat) (f : Sat → Sat) (s : State) : (modSat k f s).ports = s.ports := rfl
@[simp] theorem modSat_mor (k : Nat) (f : Sat → Sat) (s : State) : (modSat k f s).mor = s.mor := rfl
@[simp] theorem modSat_ord (k : Nat) (f : Sat → Sat) (s : State) : (modSat k f s).ord = s.ord := rfl
@[simp] theorem modSat_slots (k : Nat) (f : Sat → Sat) (s : State) : (modSat k f s).slots = s.slots := rfl
@[simp] theorem modSat_tth (k : Nat) (f : Sat → Sat) (s : State) : (modSat k f s).tth = s.tth := rfl
@[simp] theorem modSat_ldg (k : Nat) (f : Sat → Sat) (s : State) : (modSat k f s).ldg = s.ldg := rfl
@[simp] theorem modSat_rls (k : Nat) (f : Sat → Sat) (s : State) : (modSat k f s).rls = s.rls := rfl
@[simp] theorem modSat_mea (k : Nat) (f : Sat → Sat) (s : State) : (modSat k f s).mea = s.mea := rfl
@[simp] theorem modSat_lko (k : Nat) (f : Sat → Sat) (s : State) : (modSat k f s).lko = s.lko := rfl
@[simp] theorem modSat_log (k : Nat) (f : Sat → Sat) (s : State) : (modSat k f s).log = s.log := rfl
@[simp] theorem modSat_rnd (k : Nat) (f : Sat → Sat) (s : State) : (modSat k f s).rnd = s.rnd := rfl
@[simp] theorem modSat_upd (k : Nat) (f : Sat → Sat) (s : State) : (modSat k f s).upd = s.upd := rfl
@[simp] theorem modSat_rig (k : Nat) (f : Sat → Sat) (s : State) : (modSat k f s).rig = s.rig := rfl
@[simp] theorem modSat_rcd (k : Nat) (f : Sat → Sat) (s : State) : (modSat k f s).rcd = s.rcd := rfl
@[simp] theorem modSat_free (k : Nat) (f : Sat → Sat) (s : State) : (modSat k f s).free = s.free := rfl
@[simp] theorem modSat_pending (k : Nat) (f : Sat → Sat) (s : State) : (modSat k f s).pending = s.pending := rfl

/-! ### modRail -/

@[simp] theorem modRail_sys (n : Nat) (f : Rail → Rail) (s : State) : (modRail n f s).sys = s.sys := rfl
@[simp] theorem modRail_fatal (n : Nat) (f : Rail → Rail) (s : State) : (modRail n f s).fatal = s.fatal := rfl
@[simp] theorem modRail_pins (n : Nat) (f : Rail → Rail) (s : State) : (modRail n f s).pins = s.pins := rfl
@[simp] theorem modRail_sup (n : Nat) (f : Rail → Rail) (s : State) : (modRail n f s).sup = s.sup := rfl
@[simp] theorem modRail_start (n : Nat) (f : Rail → Rail) (s : State) : (modRail n f s).start = s.start := rfl
@[simp] theorem modRail_fb (n : Nat) (f : Rail → Rail) (s : State) : (modRail n f s).fb = s.fb := rfl
@[simp] theorem modRail_ports (n : Nat) (f : Rail → Rail) (s : State) : (modRail n f s).ports = s.ports := rfl
@[simp] theorem modRail_mor (n : Nat) (f : Rail → Rail) (s : State) : (modRail n f s).mor = s.mor := rfl
@[simp] theorem modRail_ord (n : Nat) (f : Rail → Rail) (s : State) : (modRail n f s).ord = s.ord := rfl
@[simp] theorem modRail_slots (n : Nat) (f : Rail → Rail) (s : State) : (modRail n f s).slots = s.slots := rfl
@[simp] theorem modRail_tth (n : Nat) (f : Rail → Rail) (s : State) : (modRail n f s).tth = s.tth := rfl
@[simp] theorem modRail_sat (n : Nat) (f : Rail → Rail) (s : State) : (modRail n f s).sat = s.sat := rfl
@[simp] theorem modRail_ldg (n : Nat) (f : Rail → Rail) (s : State) : (modRail n f s).ldg = s.ldg := rfl
@[simp] theorem modRail_mea (n : Nat) (f : Rail → Rail) (s : State) : (modRail n f s).mea = s.mea := rfl
@[simp] theorem modRail_lko (n : Nat) (f : Rail → Rail) (s : State) : (modRail n f s).lko = s.lko := rfl
@[simp] theorem modRail_log (n : Nat) (f : Rail → Rail) (s : State) : (modRail n f s).log = s.log := rfl
@[simp] theorem modRail_rnd (n : Nat) (f : Rail → Rail) (s : State) : (modRail n f s).rnd = s.rnd := rfl
@[simp] theorem modRail_upd (n : Nat) (f : Rail → Rail) (s : State) : (modRail n f s).upd = s.upd := rfl
@[simp] theorem modRail_rig (n : Nat) (f : Rail → Rail) (s : State) : (modRail n f s).rig = s.rig := rfl
@[simp] theorem modRail_rcd (n : Nat) (f : Rail → Rail) (s : State) : (modRail n f s).rcd = s.rcd := rfl
@[simp] theorem modRail_free (n : Nat) (f : Rail → Rail) (s : State) : (modRail n f s).free = s.free := rfl
@[simp] theorem modRail_pending (n : Nat) (f : Rail → Rail) (s : State) : (modRail n f s).pending = s.pending := rfl

/-! ### modLdg -/

@[simp] theorem modLdg_sys (k : Nat) (f : LdgSlot → LdgSlot) (s : State) : (modLdg k f s).sys = s.sys := rfl
@[simp] theorem modLdg_fatal (k : Nat) (f : LdgSlot → LdgSlot) (s : State) : (modLdg k f s).fatal = s.fatal := rfl
@[simp] theorem modLdg_pins (k : Nat) (f : LdgSlot → LdgSlot) (s : State) : (modLdg k f s).pins = s.pins := rfl
@[simp] theorem modLdg_sup (k : Nat) (f : LdgSlot → LdgSlot) (s : State) : (modLdg k f s).sup = s.sup := rfl
@[simp] theorem modLdg_start (k : Nat) (f : LdgSlot → LdgSlot) (s : State) : (modLdg k f s).start = s.start := rfl
@[simp] theorem modLdg_fb (k : Nat) (f : LdgSlot → LdgSlot) (s : State) : (modLdg k f s).fb = s.fb := rfl
@[simp] theorem modLdg_ports (k : Nat) (f : LdgSlot → LdgSlot) (s : State) : (modLdg k f s).ports = s.ports := rfl
@[simp] theorem modLdg_mor (k : Nat) (f : LdgSlot → LdgSlot) (s : State) : (modLdg k f s).mor = s.mor := rfl
@[simp] theorem modLdg_ord (k : Nat) (f : LdgSlot → LdgSlot) (s : State) : (modLdg k f s).ord = s.ord := rfl
@[simp] theorem modLdg_slots (k : Nat) (f : LdgSlot → LdgSlot) (s : State) : (modLdg k f s).slots = s.slots := rfl
@[simp] theorem modLdg_tth (k : Nat) (f : LdgSlot → LdgSlot) (s : State) : (modLdg k f s).tth = s.tth := rfl
@[simp] theorem modLdg_sat (k : Nat) (f : LdgSlot → LdgSlot) (s : State) : (modLdg k f s).sat = s.sat := rfl
@[simp] theorem modLdg_rls (k : Nat) (f : LdgSlot → LdgSlot) (s : State) : (modLdg k f s).rls = s.rls := rfl
@[simp] theorem modLdg_mea (k : Nat) (f : LdgSlot → LdgSlot) (s : State) : (modLdg k f s).mea = s.mea := rfl
@[simp] theorem modLdg_lko (k : Nat) (f : LdgSlot → LdgSlot) (s : State) : (modLdg k f s).lko = s.lko := rfl
@[simp] theorem modLdg_log (k : Nat) (f : LdgSlot → LdgSlot) (s : State) : (modLdg k f s).log = s.log := rfl
@[simp] theorem modLdg_rnd (k : Nat) (f : LdgSlot → LdgSlot) (s : State) : (modLdg k f s).rnd = s.rnd := rfl
@[simp] theorem modLdg_upd (k : Nat) (f : LdgSlot → LdgSlot) (s : State) : (modLdg k f s).upd = s.upd := rfl
@[simp] theorem modLdg_rig (k : Nat) (f : LdgSlot → LdgSlot) (s : State) : (modLdg k f s).rig = s.rig := rfl
@[simp] theorem modLdg_rcd (k : Nat) (f : LdgSlot → LdgSlot) (s : State) : (modLdg k f s).rcd = s.rcd := rfl
@[simp] theorem modLdg_free (k : Nat) (f : LdgSlot → LdgSlot) (s : State) : (modLdg k f s).free = s.free := rfl
@[simp] theorem modLdg_pending (k : Nat) (f : LdgSlot → LdgSlot) (s : State) : (modLdg k f s).pending = s.pending := rfl

/-! ### setBank -/

@[simp] theorem setBank_sys (b : FBlk) (x : FaultBank) (s : State) : (setBank b x s).sys = s.sys := rfl
@[simp] theorem setBank_fatal (b : FBlk) (x : FaultBank) (s : State) : (setBank b x s).fatal = s.fatal := rfl
@[simp] theorem setBank_pins (b : FBlk) (x : FaultBank) (s : State) : (setBank b x s).pins = s.pins := rfl
@[simp] theorem setBank_sup (b : FBlk) (x : FaultBank) (s : State) : (setBank b x s).sup = s.sup := rfl
@[simp] theorem setBank_start (b : FBlk) (x : FaultBank) (s : State) : (setBank b x s).start = s.start := rfl
@[simp] theorem setBank_ports (b : FBlk) (x : FaultBank) (s : State) : (setBank b x s).ports = s.ports := rfl
@[simp] theorem setBank_mor (b : FBlk) (x : FaultBank) (s : State) : (setBank b x s).mor = s.mor := rfl
@[simp] theorem setBank_ord (b : FBlk) (x : FaultBank) (s : State) : (setBank b x s).ord = s.ord := rfl
@[simp] theorem setBank_slots (b : FBlk) (x : FaultBank) (s : State) : (setBank b x s).slots = s.slots := rfl
@[simp] theorem setBank_tth (b : FBlk) (x : FaultBank) (s : State) : (setBank b x s).tth = s.tth := rfl
@[simp] theorem setBank_sat (b : FBlk) (x : FaultBank) (s : State) : (setBank b x s).sat = s.sat := rfl
@[simp] theorem setBank_ldg (b : FBlk) (x : FaultBank) (s : State) : (setBank b x s).ldg = s.ldg := rfl
@[simp] theorem setBank_rls (b : FBlk) (x : FaultBank) (s : State) : (setBank b x s).rls = s.rls := rfl
@[simp] theorem setBank_mea (b : FBlk) (x : FaultBank) (s : State) : (setBank b x s).mea = s.mea := rfl
@[simp] theorem setBank_lko (b : FBlk) (x : FaultBank) (s : State) : (setBank b x s).lko = s.lko := rfl
@[simp] theorem setBank_log (b : FBlk) (x : FaultBank) (s : State) : (setBank b x s).log = s.log := rfl
@[simp] theorem setBank_rnd (b : FBlk) (x : FaultBank) (s : State) : (setBank b x s).rnd = s.rnd := rfl
@[simp] theorem setBank_upd (b : FBlk) (x : FaultBank) (s : State) : (setBank b x s).upd = s.upd := rfl
@[simp] theorem setBank_rig (b : FBlk) (x : FaultBank) (s : State) : (setBank b x s).rig = s.rig := rfl
@[simp] theorem setBank_rcd (b : FBlk) (x : FaultBank) (s : State) : (setBank b x s).rcd = s.rcd := rfl
@[simp] theorem setBank_free (b : FBlk) (x : FaultBank) (s : State) : (setBank b x s).free = s.free := rfl
@[simp] theorem setBank_pending (b : FBlk) (x : FaultBank) (s : State) : (setBank b x s).pending = s.pending := rfl

end Machine
end Sys2Proof
end

