-- ==== Sys2Proof/Laws/Tables.lean ====
section
/-!
SUPPORT. What reading a sparse table gives after a write, and that every write keeps the canonical form; the same for the
pair of ports and for lists of bytes written in a run.
-/
namespace Sys2Proof

theorem tblGet_tblPut {α : Type} (d v : α) (k i : Nat) (t : Tbl α) :
    tblGet d (tblPut k v t) i = if i = k then v else tblGet d t i := by
  induction t with
  | nil => simp [tblPut, tblGet]
  | cons e t ih =>
    obtain ⟨k', v'⟩ := e
    simp only [tblPut]
    split
    · simp [tblGet]
    · split
      · subst k
        simp only [tblGet]
        split <;> rfl
      · simp only [tblGet, ih]
        split
        · subst i
          rw [if_neg]
          omega
        · rfl

theorem tblGet_tblDel {α : Type} (d : α) (k i : Nat) (t : Tbl α) :
    tblGet d (tblDel k t) i = if i = k then d else tblGet d t i := by
  induction t with
  | nil => simp [tblDel, tblGet]
  | cons e t ih =>
    obtain ⟨k', v'⟩ := e
    simp only [tblDel, tblGet]
    split
    · subst k
      rw [ih]
      split <;> rfl
    · simp only [tblGet, ih]
      split
      · subst i
        rw [if_neg]
        omega
      · rfl

/-- A read after a write: the written value at its key, everything else as before. -/
@[simp] theorem tblGet_tblSet {α : Type} [DecidableEq α] (d v : α) (k i : Nat) (t : Tbl α) :
    tblGet d (tblSet d t k v) i = if i = k then v else tblGet d t i := by
  unfold tblSet
  split
  · subst v
    exact tblGet_tblDel d k i t
  · exact tblGet_tblPut d v k i t

theorem tblAbove_mono {α : Type} {j k : Nat} (h : j ≤ k) {t : Tbl α} (ht : tblAbove k t = true) : tblAbove j t = true := by
  induction t with
  | nil => rfl
  | cons e t ih =>
    obtain ⟨i, v⟩ := e
    simp only [tblAbove, Bool.and_eq_true, decide_eq_true_eq] at ht ⊢
    exact ⟨by omega, ih ht.2⟩

theorem tblAbove_tblPut {α : Type} {j k : Nat} (v : α) (h : j < k) {t : Tbl α} (ht : tblAbove j t = true) :
    tblAbove j (tblPut k v t) = true := by
  induction t with
  | nil => simp [tblPut, tblAbove, h]
  | cons e t ih =>
    obtain ⟨i, w⟩ := e
    simp only [tblAbove, Bool.and_eq_true, decide_eq_true_eq] at ht
    simp only [tblPut]
    split
    · simp [tblAbove, h, ht.1, ht.2]
    · split
      · simp [tblAbove, h, ht.2]
      · simp [tblAbove, ht.1, ih ht.2]

theorem tblAbove_tblDel {α : Type} {j : Nat} (k : Nat) {t : Tbl α} (ht : tblAbove j t = true) :
    tblAbove j (tblDel k t) = true := by
  induction t with
  | nil => rfl
  | cons e t ih =>
    obtain ⟨i, w⟩ := e
    simp only [tblAbove, Bool.and_eq_true, decide_eq_true_eq] at ht
    simp only [tblDel]
    split
    · exact ih ht.2
    · simp [tblAbove, ht.1, ih ht.2]

/-- Removing an entry keeps the canonical form. -/
theorem tblWf_tblDel {α : Type} [DecidableEq α] (d : α) (k : Nat) {t : Tbl α} (ht : tblWf d t = true) :
    tblWf d (tblDel k t) = true := by
  induction t with
  | nil => rfl
  | cons e t ih =>
    obtain ⟨i, w⟩ := e
    simp only [tblWf, Bool.and_eq_true] at ht
    simp only [tblDel]
    split
    · exact ih ht.2
    · simp only [tblWf, Bool.and_eq_true]
      exact ⟨⟨ht.1.1, tblAbove_tblDel k ht.1.2⟩, ih ht.2⟩

/-- Putting an entry that is not the default keeps the canonical form. -/
theorem tblWf_tblPut {α : Type} [DecidableEq α] (d : α) {v : α} (k : Nat) (hv : v ≠ d) {t : Tbl α}
    (ht : tblWf d t = true) : tblWf d (tblPut k v t) = true := by
  induction t with
  | nil => simp [tblPut, tblWf, tblAbove, hv]
  | cons e t ih =>
    obtain ⟨i, w⟩ := e
    simp only [tblWf, Bool.and_eq_true, decide_eq_true_eq] at ht
    simp only [tblPut]
    split
    · rename_i hk
      simp only [tblWf, tblAbove, Bool.and_eq_true, decide_eq_true_eq]
      exact ⟨⟨hv, hk, tblAbove_mono (Nat.le_of_lt hk) ht.1.2⟩, ⟨ht.1.1, ht.1.2⟩, ht.2⟩
    · split
      · rename_i hk
        subst hk
        simp [tblWf, hv, ht.1.2, ht.2]
      · have h : i < k := by omega
        simp [tblWf, ht.1.1, tblAbove_tblPut v h ht.1.2, ih ht.2]

/-- Every write keeps the canonical form. -/
theorem tblWf_tblSet {α : Type} [DecidableEq α] (d v : α) (k : Nat) {t : Tbl α} (ht : tblWf d t = true) :
    tblWf d (tblSet d t k v) = true := by
  unfold tblSet
  split
  · exact tblWf_tblDel d k ht
  · rename_i h
    exact tblWf_tblPut d k h ht

@[simp] theorem perPortGet_perPortSet_same {α : Type} (x : PerPort α) (p : Port) (v : α) :
    perPortGet (perPortSet x p v) p = v := by cases p <;> rfl

@[simp] theorem perPortGet_perPortSet_other {α : Type} (x : PerPort α) (p : Port) (v : α) :
    perPortGet (perPortSet x p v) p.other = perPortGet x p.other := by cases p <;> rfl

theorem perPortGet_perPortSet {α : Type} (x : PerPort α) (p q : Port) (v : α) :
    perPortGet (perPortSet x p v) q = if q = p then v else perPortGet x q := by
  cases p <;> cases q <;> rfl

namespace Machine

/-- Reading a byte after a run has been written. -/
theorem tblGet_tblWriteBytes (d : Byte) (l : List Byte) (t : Tbl Byte) (lo i : Nat) :
    tblGet d (tblWriteBytes d t lo l) i =
      if lo ≤ i ∧ i < lo + l.length then l.getD (i - lo) d else tblGet d t i := by
  induction l generalizing t lo with
  | nil => simp [tblWriteBytes]
  | cons b l ih =>
    simp only [tblWriteBytes, ih, tblGet_tblSet, List.length_cons]
    by_cases h : i = lo
    · subst h
      simp
    · by_cases h1 : lo ≤ i ∧ i < lo + (l.length + 1)
      · obtain ⟨n, hn⟩ : ∃ n, i - lo = n + 1 := ⟨i - lo - 1, by omega⟩
        have : i - (lo + 1) = n := by omega
        rw [if_pos ⟨by omega, by omega⟩, if_pos h1, this, hn, List.getD_cons_succ]
      · rw [if_neg (by omega), if_neg h, if_neg h1]

theorem tblWf_tblWriteBytes (d : Byte) (l : List Byte) {t : Tbl Byte} (lo : Nat) (ht : tblWf d t = true) :
    tblWf d (tblWriteBytes d t lo l) = true := by
  induction l generalizing t lo with
  | nil => exact ht
  | cons b l ih => exact ih _ (tblWf_tblSet d b lo ht)

end Machine
end Sys2Proof
end

