-- ==== Sys2Proof/Laws/Access.lean ====
section
/-!
SUPPORT. The accessors after the modifiers: what `modSlot` and its kin change is read back, and every other entry is as it was.
-/
namespace Sys2Proof
namespace Machine

/-! ### Reading back -/

@[simp] theorem slotGet_modSlot (k j : Nat) (f : Slot → Slot) (s : State) :
    slotGet (modSlot k f s) j = if j = k then f (slotGet s k) else slotGet s j := by
  simp [slotGet, modSlot]

@[simp] theorem satGet_modSat (k j : Nat) (f : Sat → Sat) (s : State) :
    satGet (modSat k f s) j = if j = k then f (satGet s k) else satGet s j := by
  simp [satGet, modSat]

@[simp] theorem viewGet_modView (k j : Nat) (f : SatView → SatView) (s : State) :
    viewGet (modView k f s) j = if j = k then f (viewGet s k) else viewGet s j := by
  simp [viewGet, modView]

@[simp] theorem slotViewGet_modSlotView (k j : Nat) (f : SlotView → SlotView) (s : State) :
    slotViewGet (modSlotView k f s) j = if j = k then f (slotViewGet s k) else slotViewGet s j := by
  simp [slotViewGet, modSlotView]

@[simp] theorem parcelGet_modParcel (k j : Nat) (f : Parcel → Parcel) (s : State) :
    parcelGet (modParcel k f s) j = if j = k then f (parcelGet s k) else parcelGet s j := by
  simp [parcelGet, modParcel]

@[simp] theorem ldgGet_modLdg (k j : Nat) (f : LdgSlot → LdgSlot) (s : State) :
    ldgGet (modLdg k f s) j = if j = k then f (ldgGet s k) else ldgGet s j := by
  simp [ldgGet, modLdg]

@[simp] theorem bankGet_bankSet (f : FaultBanks) (b c : FBlk) (x : FaultBank) :
    bankGet (bankSet f b x) c = if c = b then x else bankGet f c := by
  cases b with
  | hst p => cases p <;> cases c with
    | hst q => cases q <;> rfl
    | ord q => cases q <;> rfl
    | _ => rfl
  | ord p => cases p <;> cases c with
    | hst q => cases q <;> rfl
    | ord q => cases q <;> rfl
    | _ => rfl
  | _ => cases c with
    | hst q => cases q <;> rfl
    | ord q => cases q <;> rfl
    | _ => rfl

@[simp] theorem bankGet_setBank (b c : FBlk) (x : FaultBank) (s : State) :
    bankGet (setBank b x s).fb c = if c = b then x else bankGet s.fb c := bankGet_bankSet s.fb b c x

theorem railGet_modRail (n j : Nat) (f : Rail → Rail) (s : State) :
    railGet (modRail n f s) j = if j = n ∧ n < 8 then f (railGet s n) else railGet s j := by
  simp only [railGet, modRail, List.getD_eq_getElem?_getD, Vector.getElem?_toList]
  by_cases h : j = n
  · subst h
    by_cases h8 : j < 8 <;> simp [h8]
  · simp [h, Vector.getElem?_setIfInBounds_ne, Ne.symm h]

theorem tetherGet_modTether (n j : Nat) (f : Tether → Tether) (s : State) :
    tetherGet (modTether n f s) j = if j = n ∧ n < 4 then f (tetherGet s n) else tetherGet s j := by
  simp only [tetherGet, modTether, List.getD_eq_getElem?_getD, Vector.getElem?_toList]
  by_cases h : j = n
  · subst h
    by_cases h4 : j < 4 <;> simp [h4]
  · simp [h, Vector.getElem?_setIfInBounds_ne, Ne.symm h]

@[simp] theorem portGet_modPort_same (p : Port) (f : HostPort → HostPort) (s : State) :
    portGet (modPort p f s) p = f (portGet s p) := by cases p <;> rfl

@[simp] theorem portGet_modPort_other (p : Port) (f : HostPort → HostPort) (s : State) :
    portGet (modPort p f s) p.other = portGet s p.other := by cases p <;> rfl

/-! ### Reading past another modifier -/

@[simp] theorem slotGet_modPort (p : Port) (f : HostPort → HostPort) (i : Nat) (s : State) : slotGet (modPort p f s) i = slotGet s i := rfl
@[simp] theorem slotGet_modBank (p : Port) (f : OrdBank → OrdBank) (i : Nat) (s : State) : slotGet (modBank p f s) i = slotGet s i := rfl
@[simp] theorem slotGet_modParcel (n : Nat) (f : Parcel → Parcel) (i : Nat) (s : State) : slotGet (modParcel n f s) i = slotGet s i := rfl
@[simp] theorem slotGet_modTether (t : Nat) (f : Tether → Tether) (i : Nat) (s : State) : slotGet (modTether t f s) i = slotGet s i := rfl
@[simp] theorem slotGet_modView (k : Nat) (f : SatView → SatView) (i : Nat) (s : State) : slotGet (modView k f s) i = slotGet s i := rfl
@[simp] theorem slotGet_modSlotView (k : Nat) (f : SlotView → SlotView) (i : Nat) (s : State) : slotGet (modSlotView k f s) i = slotGet s i := rfl
@[simp] theorem slotGet_modSat (k : Nat) (f : Sat → Sat) (i : Nat) (s : State) : slotGet (modSat k f s) i = slotGet s i := rfl
@[simp] theorem slotGet_modRail (n : Nat) (f : Rail → Rail) (i : Nat) (s : State) : slotGet (modRail n f s) i = slotGet s i := rfl
@[simp] theorem slotGet_modLdg (k : Nat) (f : LdgSlot → LdgSlot) (i : Nat) (s : State) : slotGet (modLdg k f s) i = slotGet s i := rfl
@[simp] theorem slotGet_setBank (b : FBlk) (x : FaultBank) (i : Nat) (s : State) : slotGet (setBank b x s) i = slotGet s i := rfl
@[simp] theorem satGet_modPort (p : Port) (f : HostPort → HostPort) (i : Nat) (s : State) : satGet (modPort p f s) i = satGet s i := rfl
@[simp] theorem satGet_modBank (p : Port) (f : OrdBank → OrdBank) (i : Nat) (s : State) : satGet (modBank p f s) i = satGet s i := rfl
@[simp] theorem satGet_modSlot (k : Nat) (f : Slot → Slot) (i : Nat) (s : State) : satGet (modSlot k f s) i = satGet s i := rfl
@[simp] theorem satGet_modParcel (n : Nat) (f : Parcel → Parcel) (i : Nat) (s : State) : satGet (modParcel n f s) i = satGet s i := rfl
@[simp] theorem satGet_modTether (t : Nat) (f : Tether → Tether) (i : Nat) (s : State) : satGet (modTether t f s) i = satGet s i := rfl
@[simp] theorem satGet_modView (k : Nat) (f : SatView → SatView) (i : Nat) (s : State) : satGet (modView k f s) i = satGet s i := rfl
@[simp] theorem satGet_modSlotView (k : Nat) (f : SlotView → SlotView) (i : Nat) (s : State) : satGet (modSlotView k f s) i = satGet s i := rfl
@[simp] theorem satGet_modRail (n : Nat) (f : Rail → Rail) (i : Nat) (s : State) : satGet (modRail n f s) i = satGet s i := rfl
@[simp] theorem satGet_modLdg (k : Nat) (f : LdgSlot → LdgSlot) (i : Nat) (s : State) : satGet (modLdg k f s) i = satGet s i := rfl
@[simp] theorem satGet_setBank (b : FBlk) (x : FaultBank) (i : Nat) (s : State) : satGet (setBank b x s) i = satGet s i := rfl
@[simp] theorem viewGet_modPort (p : Port) (f : HostPort → HostPort) (i : Nat) (s : State) : viewGet (modPort p f s) i = viewGet s i := rfl
@[simp] theorem viewGet_modBank (p : Port) (f : OrdBank → OrdBank) (i : Nat) (s : State) : viewGet (modBank p f s) i = viewGet s i := rfl
@[simp] theorem viewGet_modSlot (k : Nat) (f : Slot → Slot) (i : Nat) (s : State) : viewGet (modSlot k f s) i = viewGet s i := rfl
@[simp] theorem viewGet_modParcel (n : Nat) (f : Parcel → Parcel) (i : Nat) (s : State) : viewGet (modParcel n f s) i = viewGet s i := rfl
@[simp] theorem viewGet_modTether (t : Nat) (f : Tether → Tether) (i : Nat) (s : State) : viewGet (modTether t f s) i = viewGet s i := rfl
@[simp] theorem viewGet_modSlotView (k : Nat) (f : SlotView → SlotView) (i : Nat) (s : State) : viewGet (modSlotView k f s) i = viewGet s i := rfl
@[simp] theorem viewGet_modSat (k : Nat) (f : Sat → Sat) (i : Nat) (s : State) : viewGet (modSat k f s) i = viewGet s i := rfl
@[simp] theorem viewGet_modRail (n : Nat) (f : Rail → Rail) (i : Nat) (s : State) : viewGet (modRail n f s) i = viewGet s i := rfl
@[simp] theorem viewGet_modLdg (k : Nat) (f : LdgSlot → LdgSlot) (i : Nat) (s : State) : viewGet (modLdg k f s) i = viewGet s i := rfl
@[simp] theorem viewGet_setBank (b : FBlk) (x : FaultBank) (i : Nat) (s : State) : viewGet (setBank b x s) i = viewGet s i := rfl
@[simp] theorem slotViewGet_modPort (p : Port) (f : HostPort → HostPort) (i : Nat) (s : State) : slotViewGet (modPort p f s) i = slotViewGet s i := rfl
@[simp] theorem slotViewGet_modBank (p : Port) (f : OrdBank → OrdBank) (i : Nat) (s : State) : slotViewGet (modBank p f s) i = slotViewGet s i := rfl
@[simp] theorem slotViewGet_modSlot (k : Nat) (f : Slot → Slot) (i : Nat) (s : State) : slotViewGet (modSlot k f s) i = slotViewGet s i := rfl
@[simp] theorem slotViewGet_modParcel (n : Nat) (f : Parcel → Parcel) (i : Nat) (s : State) : slotViewGet (modParcel n f s) i = slotViewGet s i := rfl
@[simp] theorem slotViewGet_modTether (t : Nat) (f : Tether → Tether) (i : Nat) (s : State) : slotViewGet (modTether t f s) i = slotViewGet s i := rfl
@[simp] theorem slotViewGet_modView (k : Nat) (f : SatView → SatView) (i : Nat) (s : State) : slotViewGet (modView k f s) i = slotViewGet s i := rfl
@[simp] theorem slotViewGet_modSat (k : Nat) (f : Sat → Sat) (i : Nat) (s : State) : slotViewGet (modSat k f s) i = slotViewGet s i := rfl
@[simp] theorem slotViewGet_modRail (n : Nat) (f : Rail → Rail) (i : Nat) (s : State) : slotViewGet (modRail n f s) i = slotViewGet s i := rfl
@[simp] theorem slotViewGet_modLdg (k : Nat) (f : LdgSlot → LdgSlot) (i : Nat) (s : State) : slotViewGet (modLdg k f s) i = slotViewGet s i := rfl
@[simp] theorem slotViewGet_setBank (b : FBlk) (x : FaultBank) (i : Nat) (s : State) : slotViewGet (setBank b x s) i = slotViewGet s i := rfl
@[simp] theorem parcelGet_modPort (p : Port) (f : HostPort → HostPort) (i : Nat) (s : State) : parcelGet (modPort p f s) i = parcelGet s i := rfl
@[simp] theorem parcelGet_modBank (p : Port) (f : OrdBank → OrdBank) (i : Nat) (s : State) : parcelGet (modBank p f s) i = parcelGet s i := rfl
@[simp] theorem parcelGet_modSlot (k : Nat) (f : Slot → Slot) (i : Nat) (s : State) : parcelGet (modSlot k f s) i = parcelGet s i := rfl
@[simp] theorem parcelGet_modTether (t : Nat) (f : Tether → Tether) (i : Nat) (s : State) : parcelGet (modTether t f s) i = parcelGet s i := rfl
@[simp] theorem parcelGet_modView (k : Nat) (f : SatView → SatView) (i : Nat) (s : State) : parcelGet (modView k f s) i = parcelGet s i := rfl
@[simp] theorem parcelGet_modSlotView (k : Nat) (f : SlotView → SlotView) (i : Nat) (s : State) : parcelGet (modSlotView k f s) i = parcelGet s i := rfl
@[simp] theorem parcelGet_modSat (k : Nat) (f : Sat → Sat) (i : Nat) (s : State) : parcelGet (modSat k f s) i = parcelGet s i := rfl
@[simp] theorem parcelGet_modRail (n : Nat) (f : Rail → Rail) (i : Nat) (s : State) : parcelGet (modRail n f s) i = parcelGet s i := rfl
@[simp] theorem parcelGet_modLdg (k : Nat) (f : LdgSlot → LdgSlot) (i : Nat) (s : State) : parcelGet (modLdg k f s) i = parcelGet s i := rfl
@[simp] theorem parcelGet_setBank (b : FBlk) (x : FaultBank) (i : Nat) (s : State) : parcelGet (setBank b x s) i = parcelGet s i := rfl
@[simp] theorem ldgGet_modPort (p : Port) (f : HostPort → HostPort) (i : Nat) (s : State) : ldgGet (modPort p f s) i = ldgGet s i := rfl
@[simp] theorem ldgGet_modBank (p : Port) (f : OrdBank → OrdBank) (i : Nat) (s : State) : ldgGet (modBank p f s) i = ldgGet s i := rfl
@[simp] theorem ldgGet_modSlot (k : Nat) (f : Slot → Slot) (i : Nat) (s : State) : ldgGet (modSlot k f s) i = ldgGet s i := rfl
@[simp] theorem ldgGet_modParcel (n : Nat) (f : Parcel → Parcel) (i : Nat) (s : State) : ldgGet (modParcel n f s) i = ldgGet s i := rfl
@[simp] theorem ldgGet_modTether (t : Nat) (f : Tether → Tether) (i : Nat) (s : State) : ldgGet (modTether t f s) i = ldgGet s i := rfl
@[simp] theorem ldgGet_modView (k : Nat) (f : SatView → SatView) (i : Nat) (s : State) : ldgGet (modView k f s) i = ldgGet s i := rfl
@[simp] theorem ldgGet_modSlotView (k : Nat) (f : SlotView → SlotView) (i : Nat) (s : State) : ldgGet (modSlotView k f s) i = ldgGet s i := rfl
@[simp] theorem ldgGet_modSat (k : Nat) (f : Sat → Sat) (i : Nat) (s : State) : ldgGet (modSat k f s) i = ldgGet s i := rfl
@[simp] theorem ldgGet_modRail (n : Nat) (f : Rail → Rail) (i : Nat) (s : State) : ldgGet (modRail n f s) i = ldgGet s i := rfl
@[simp] theorem ldgGet_setBank (b : FBlk) (x : FaultBank) (i : Nat) (s : State) : ldgGet (setBank b x s) i = ldgGet s i := rfl
@[simp] theorem railGet_modPort (p : Port) (f : HostPort → HostPort) (i : Nat) (s : State) : railGet (modPort p f s) i = railGet s i := rfl
@[simp] theorem railGet_modBank (p : Port) (f : OrdBank → OrdBank) (i : Nat) (s : State) : railGet (modBank p f s) i = railGet s i := rfl
@[simp] theorem railGet_modSlot (k : Nat) (f : Slot → Slot) (i : Nat) (s : State) : railGet (modSlot k f s) i = railGet s i := rfl
@[simp] theorem railGet_modParcel (n : Nat) (f : Parcel → Parcel) (i : Nat) (s : State) : railGet (modParcel n f s) i = railGet s i := rfl
@[simp] theorem railGet_modTether (t : Nat) (f : Tether → Tether) (i : Nat) (s : State) : railGet (modTether t f s) i = railGet s i := rfl
@[simp] theorem railGet_modView (k : Nat) (f : SatView → SatView) (i : Nat) (s : State) : railGet (modView k f s) i = railGet s i := rfl
@[simp] theorem railGet_modSlotView (k : Nat) (f : SlotView → SlotView) (i : Nat) (s : State) : railGet (modSlotView k f s) i = railGet s i := rfl
@[simp] theorem railGet_modSat (k : Nat) (f : Sat → Sat) (i : Nat) (s : State) : railGet (modSat k f s) i = railGet s i := rfl
@[simp] theorem railGet_modLdg (k : Nat) (f : LdgSlot → LdgSlot) (i : Nat) (s : State) : railGet (modLdg k f s) i = railGet s i := rfl
@[simp] theorem railGet_setBank (b : FBlk) (x : FaultBank) (i : Nat) (s : State) : railGet (setBank b x s) i = railGet s i := rfl
@[simp] theorem tetherGet_modPort (p : Port) (f : HostPort → HostPort) (i : Nat) (s : State) : tetherGet (modPort p f s) i = tetherGet s i := rfl
@[simp] theorem tetherGet_modBank (p : Port) (f : OrdBank → OrdBank) (i : Nat) (s : State) : tetherGet (modBank p f s) i = tetherGet s i := rfl
@[simp] theorem tetherGet_modSlot (k : Nat) (f : Slot → Slot) (i : Nat) (s : State) : tetherGet (modSlot k f s) i = tetherGet s i := rfl
@[simp] theorem tetherGet_modParcel (n : Nat) (f : Parcel → Parcel) (i : Nat) (s : State) : tetherGet (modParcel n f s) i = tetherGet s i := rfl
@[simp] theorem tetherGet_modView (k : Nat) (f : SatView → SatView) (i : Nat) (s : State) : tetherGet (modView k f s) i = tetherGet s i := rfl
@[simp] theorem tetherGet_modSlotView (k : Nat) (f : SlotView → SlotView) (i : Nat) (s : State) : tetherGet (modSlotView k f s) i = tetherGet s i := rfl
@[simp] theorem tetherGet_modSat (k : Nat) (f : Sat → Sat) (i : Nat) (s : State) : tetherGet (modSat k f s) i = tetherGet s i := rfl
@[simp] theorem tetherGet_modRail (n : Nat) (f : Rail → Rail) (i : Nat) (s : State) : tetherGet (modRail n f s) i = tetherGet s i := rfl
@[simp] theorem tetherGet_modLdg (k : Nat) (f : LdgSlot → LdgSlot) (i : Nat) (s : State) : tetherGet (modLdg k f s) i = tetherGet s i := rfl
@[simp] theorem tetherGet_setBank (b : FBlk) (x : FaultBank) (i : Nat) (s : State) : tetherGet (setBank b x s) i = tetherGet s i := rfl
@[simp] theorem portGet_modBank (p : Port) (f : OrdBank → OrdBank) (q : Port) (s : State) : portGet (modBank p f s) q = portGet s q := rfl
@[simp] theorem portGet_modSlot (k : Nat) (f : Slot → Slot) (q : Port) (s : State) : portGet (modSlot k f s) q = portGet s q := rfl
@[simp] theorem portGet_modParcel (n : Nat) (f : Parcel → Parcel) (q : Port) (s : State) : portGet (modParcel n f s) q = portGet s q := rfl
@[simp] theorem portGet_modTether (t : Nat) (f : Tether → Tether) (q : Port) (s : State) : portGet (modTether t f s) q = portGet s q := rfl
@[simp] theorem portGet_modView (k : Nat) (f : SatView → SatView) (q : Port) (s : State) : portGet (modView k f s) q = portGet s q := rfl
@[simp] theorem portGet_modSlotView (k : Nat) (f : SlotView → SlotView) (q : Port) (s : State) : portGet (modSlotView k f s) q = portGet s q := rfl
@[simp] theorem portGet_modSat (k : Nat) (f : Sat → Sat) (q : Port) (s : State) : portGet (modSat k f s) q = portGet s q := rfl
@[simp] theorem portGet_modRail (n : Nat) (f : Rail → Rail) (q : Port) (s : State) : portGet (modRail n f s) q = portGet s q := rfl
@[simp] theorem portGet_modLdg (k : Nat) (f : LdgSlot → LdgSlot) (q : Port) (s : State) : portGet (modLdg k f s) q = portGet s q := rfl
@[simp] theorem portGet_setBank (b : FBlk) (x : FaultBank) (q : Port) (s : State) : portGet (setBank b x s) q = portGet s q := rfl
@[simp] theorem orderGet_modPort (p : Port) (f : HostPort → HostPort) (i : Nat) (s : State) : orderGet (modPort p f s) i = orderGet s i := rfl
@[simp] theorem orderGet_modBank (p : Port) (f : OrdBank → OrdBank) (i : Nat) (s : State) : orderGet (modBank p f s) i = orderGet s i := rfl
@[simp] theorem orderGet_modSlot (k : Nat) (f : Slot → Slot) (i : Nat) (s : State) : orderGet (modSlot k f s) i = orderGet s i := rfl
@[simp] theorem orderGet_modParcel (n : Nat) (f : Parcel → Parcel) (i : Nat) (s : State) : orderGet (modParcel n f s) i = orderGet s i := rfl
@[simp] theorem orderGet_modTether (t : Nat) (f : Tether → Tether) (i : Nat) (s : State) : orderGet (modTether t f s) i = orderGet s i := rfl
@[simp] theorem orderGet_modView (k : Nat) (f : SatView → SatView) (i : Nat) (s : State) : orderGet (modView k f s) i = orderGet s i := rfl
@[simp] theorem orderGet_modSlotView (k : Nat) (f : SlotView → SlotView) (i : Nat) (s : State) : orderGet (modSlotView k f s) i = orderGet s i := rfl
@[simp] theorem orderGet_modSat (k : Nat) (f : Sat → Sat) (i : Nat) (s : State) : orderGet (modSat k f s) i = orderGet s i := rfl
@[simp] theorem orderGet_modRail (n : Nat) (f : Rail → Rail) (i : Nat) (s : State) : orderGet (modRail n f s) i = orderGet s i := rfl
@[simp] theorem orderGet_modLdg (k : Nat) (f : LdgSlot → LdgSlot) (i : Nat) (s : State) : orderGet (modLdg k f s) i = orderGet s i := rfl
@[simp] theorem orderGet_setBank (b : FBlk) (x : FaultBank) (i : Nat) (s : State) : orderGet (setBank b x s) i = orderGet s i := rfl

end Machine
end Sys2Proof
end

