-- ==== Sys2Proof/Laws/Images.lean ====
section
/-!
SUPPORT. Images as byte strings: what `imageOf` reads back, and CRC-32 taken piece by piece.
-/
namespace Sys2Proof
namespace Machine

/-- A byte of an image built from a byte string that starts at key `k`. -/
theorem tblGet_imageFrom (l : List Byte) (k i : Nat) :
    tblGet 0xFF (((l.zipIdx k).filter (fun e => decide (e.1 ≠ 0xFF))).map (fun e => (e.2, e.1))) i =
      if i < k then 0xFF else l.getD (i - k) 0xFF := by
  induction l generalizing k with
  | nil => simp [tblGet]
  | cons b l ih =>
    have step : (if i < k + 1 then (0xFF : Byte) else l.getD (i - (k + 1)) 0xFF) =
        if i < k then 0xFF else if i = k then 0xFF else (b :: l).getD (i - k) 0xFF := by
      by_cases h : i < k
      · rw [if_pos h, if_pos (by omega)]
      · by_cases h' : i = k
        · rw [if_pos (by omega), if_neg h, if_pos h']
        · rw [if_neg (by omega), if_neg h, if_neg h', show i - k = (i - (k + 1)) + 1 by omega]
          rfl
    rw [List.zipIdx_cons]
    by_cases hb : b = 0xFF
    · rw [List.filter_cons_of_neg (by simp [hb]), ih, step]
      by_cases h : i < k
      · rw [if_pos h, if_pos h]
      · rw [if_neg h, if_neg h]
        by_cases h' : i = k
        · rw [if_pos h', h', Nat.sub_self]; exact hb.symm
        · rw [if_neg h']
    · rw [List.filter_cons_of_pos (by simpa using hb)]
      show (if i = k then b else tblGet 0xFF _ i) = _
      rw [ih, step]
      by_cases h' : i = k
      · rw [if_pos h', h', if_neg (Nat.lt_irrefl k), Nat.sub_self]; rfl
      · rw [if_neg h', if_neg h']

/-- A byte of an image built from a byte string. -/
theorem tblGet_imageOf (l : List Byte) (i : Nat) : tblGet 0xFF (imageOf l) i = l.getD i 0xFF := by
  have h := tblGet_imageFrom l 0 i
  simpa [imageOf] using h

/-- Bytes of an image built from a byte string, inside it. -/
theorem tblBytes_imageOf (l : List Byte) (lo n : Nat) (h : lo + n ≤ l.length) :
    tblBytes 0xFF (imageOf l) lo n = slice l lo n := by
  induction n generalizing lo with
  | zero => simp [tblBytes, slice]
  | succ n ih =>
    have hl : lo < l.length := by omega
    rw [tblBytes, tblGet_imageOf, ih (lo + 1) (by omega), slice, slice, List.drop_eq_getElem_cons hl, List.take_succ_cons]
    congr 1
    simp [List.getD_eq_getElem?_getD, List.getElem?_eq_getElem hl]

/-- The state of CRC-32 after some bytes. -/
def crcRun (c : Nat) (l : List Byte) : Nat :=
  ((l.map (fun b => bitsLsb 8 b.toNat)).flatten).foldl (crcBitR 0xEDB88320) c

/-- CRC-32 by its running state. -/
theorem crc32_eq_crcRun (l : List Byte) : crc32 l = Nat.xor (crcRun 0xFFFFFFFF l) 0xFFFFFFFF := rfl

/-- The running state over two pieces. -/
theorem crcRun_append (c : Nat) (a b : List Byte) : crcRun c (a ++ b) = crcRun (crcRun c a) b := by
  simp [crcRun, List.foldl_append]

end Machine
end Sys2Proof
end

