-- ==== Sys2Proof/Laws/Shared.lean ====
section
/-!
SUPPORT. What each shared operation may touch, said once: the operation equals the state with just those blocks replaced;
after it every other block, and what is read through it, is as before.
-/
namespace Sys2Proof
namespace Machine

/-! ### queueRec -/

/-- A record touches the log block alone. -/
theorem queueRec_frame (ty : Nat) (l : List Nat) (s : State) :
    queueRec ty l s = { s with
      log := (queueRec ty l s).log } := by
  unfold queueRec; dsimp only; (repeat' split) <;> rfl

@[simp] theorem queueRec_sys (ty : Nat) (l : List Nat) (s : State) : (queueRec ty l s).sys = s.sys := by rw [queueRec_frame]
@[simp] theorem queueRec_fatal (ty : Nat) (l : List Nat) (s : State) : (queueRec ty l s).fatal = s.fatal := by rw [queueRec_frame]
@[simp] theorem queueRec_pins (ty : Nat) (l : List Nat) (s : State) : (queueRec ty l s).pins = s.pins := by rw [queueRec_frame]
@[simp] theorem queueRec_sup (ty : Nat) (l : List Nat) (s : State) : (queueRec ty l s).sup = s.sup := by rw [queueRec_frame]
@[simp] theorem queueRec_start (ty : Nat) (l : List Nat) (s : State) : (queueRec ty l s).start = s.start := by rw [queueRec_frame]
@[simp] theorem queueRec_fb (ty : Nat) (l : List Nat) (s : State) : (queueRec ty l s).fb = s.fb := by rw [queueRec_frame]
@[simp] theorem queueRec_ports (ty : Nat) (l : List Nat) (s : State) : (queueRec ty l s).ports = s.ports := by rw [queueRec_frame]
@[simp] theorem queueRec_mor (ty : Nat) (l : List Nat) (s : State) : (queueRec ty l s).mor = s.mor := by rw [queueRec_frame]
@[simp] theorem queueRec_ord (ty : Nat) (l : List Nat) (s : State) : (queueRec ty l s).ord = s.ord := by rw [queueRec_frame]
@[simp] theorem queueRec_slots (ty : Nat) (l : List Nat) (s : State) : (queueRec ty l s).slots = s.slots := by rw [queueRec_frame]
@[simp] theorem queueRec_tth (ty : Nat) (l : List Nat) (s : State) : (queueRec ty l s).tth = s.tth := by rw [queueRec_frame]
@[simp] theorem queueRec_sat (ty : Nat) (l : List Nat) (s : State) : (queueRec ty l s).sat = s.sat := by rw [queueRec_frame]
@[simp] theorem queueRec_ldg (ty : Nat) (l : List Nat) (s : State) : (queueRec ty l s).ldg = s.ldg := by rw [queueRec_frame]
@[simp] theorem queueRec_rls (ty : Nat) (l : List Nat) (s : State) : (queueRec ty l s).rls = s.rls := by rw [queueRec_frame]
@[simp] theorem queueRec_mea (ty : Nat) (l : List Nat) (s : State) : (queueRec ty l s).mea = s.mea := by rw [queueRec_frame]
@[simp] theorem queueRec_lko (ty : Nat) (l : List Nat) (s : State) : (queueRec ty l s).lko = s.lko := by rw [queueRec_frame]
@[simp] theorem queueRec_rnd (ty : Nat) (l : List Nat) (s : State) : (queueRec ty l s).rnd = s.rnd := by rw [queueRec_frame]
@[simp] theorem queueRec_upd (ty : Nat) (l : List Nat) (s : State) : (queueRec ty l s).upd = s.upd := by rw [queueRec_frame]
@[simp] theorem queueRec_rig (ty : Nat) (l : List Nat) (s : State) : (queueRec ty l s).rig = s.rig := by rw [queueRec_frame]
@[simp] theorem queueRec_rcd (ty : Nat) (l : List Nat) (s : State) : (queueRec ty l s).rcd = s.rcd := by rw [queueRec_frame]
@[simp] theorem queueRec_free (ty : Nat) (l : List Nat) (s : State) : (queueRec ty l s).free = s.free := by rw [queueRec_frame]
@[simp] theorem queueRec_pending (ty : Nat) (l : List Nat) (s : State) : (queueRec ty l s).pending = s.pending := by rw [queueRec_frame]
@[simp] theorem slotGet_queueRec (ty : Nat) (l : List Nat) (q : Nat) (s : State) : slotGet (queueRec ty l s) q = slotGet s q := by rw [queueRec_frame]; rfl
@[simp] theorem satGet_queueRec (ty : Nat) (l : List Nat) (q : Nat) (s : State) : satGet (queueRec ty l s) q = satGet s q := by rw [queueRec_frame]; rfl
@[simp] theorem viewGet_queueRec (ty : Nat) (l : List Nat) (q : Nat) (s : State) : viewGet (queueRec ty l s) q = viewGet s q := by rw [queueRec_frame]; rfl
@[simp] theorem slotViewGet_queueRec (ty : Nat) (l : List Nat) (q : Nat) (s : State) : slotViewGet (queueRec ty l s) q = slotViewGet s q := by rw [queueRec_frame]; rfl
@[simp] theorem parcelGet_queueRec (ty : Nat) (l : List Nat) (q : Nat) (s : State) : parcelGet (queueRec ty l s) q = parcelGet s q := by rw [queueRec_frame]; rfl
@[simp] theorem orderGet_queueRec (ty : Nat) (l : List Nat) (q : Nat) (s : State) : orderGet (queueRec ty l s) q = orderGet s q := by rw [queueRec_frame]; rfl
@[simp] theorem ldgGet_queueRec (ty : Nat) (l : List Nat) (q : Nat) (s : State) : ldgGet (queueRec ty l s) q = ldgGet s q := by rw [queueRec_frame]; rfl
@[simp] theorem railGet_queueRec (ty : Nat) (l : List Nat) (q : Nat) (s : State) : railGet (queueRec ty l s) q = railGet s q := by rw [queueRec_frame]; rfl
@[simp] theorem tetherGet_queueRec (ty : Nat) (l : List Nat) (q : Nat) (s : State) : tetherGet (queueRec ty l s) q = tetherGet s q := by rw [queueRec_frame]; rfl
@[simp] theorem portGet_queueRec (ty : Nat) (l : List Nat) (q : Port) (s : State) : portGet (queueRec ty l s) q = portGet s q := by rw [queueRec_frame]; rfl

/-! ### queueFault -/

/-- So does a fault record. -/
theorem queueFault_frame (b : FBlk) (k c : Nat) (e : Bool) (s : State) :
    queueFault b k c e s = { s with
      log := (queueFault b k c e s).log } := by
  unfold queueFault; rw [queueRec_frame]

@[simp] theorem queueFault_sys (b : FBlk) (k c : Nat) (e : Bool) (s : State) : (queueFault b k c e s).sys = s.sys := by rw [queueFault_frame]
@[simp] theorem queueFault_fatal (b : FBlk) (k c : Nat) (e : Bool) (s : State) : (queueFault b k c e s).fatal = s.fatal := by rw [queueFault_frame]
@[simp] theorem queueFault_pins (b : FBlk) (k c : Nat) (e : Bool) (s : State) : (queueFault b k c e s).pins = s.pins := by rw [queueFault_frame]
@[simp] theorem queueFault_sup (b : FBlk) (k c : Nat) (e : Bool) (s : State) : (queueFault b k c e s).sup = s.sup := by rw [queueFault_frame]
@[simp] theorem queueFault_start (b : FBlk) (k c : Nat) (e : Bool) (s : State) : (queueFault b k c e s).start = s.start := by rw [queueFault_frame]
@[simp] theorem queueFault_fb (b : FBlk) (k c : Nat) (e : Bool) (s : State) : (queueFault b k c e s).fb = s.fb := by rw [queueFault_frame]
@[simp] theorem queueFault_ports (b : FBlk) (k c : Nat) (e : Bool) (s : State) : (queueFault b k c e s).ports = s.ports := by rw [queueFault_frame]
@[simp] theorem queueFault_mor (b : FBlk) (k c : Nat) (e : Bool) (s : State) : (queueFault b k c e s).mor = s.mor := by rw [queueFault_frame]
@[simp] theorem queueFault_ord (b : FBlk) (k c : Nat) (e : Bool) (s : State) : (queueFault b k c e s).ord = s.ord := by rw [queueFault_frame]
@[simp] theorem queueFault_slots (b : FBlk) (k c : Nat) (e : Bool) (s : State) : (queueFault b k c e s).slots = s.slots := by rw [queueFault_frame]
@[simp] theorem queueFault_tth (b : FBlk) (k c : Nat) (e : Bool) (s : State) : (queueFault b k c e s).tth = s.tth := by rw [queueFault_frame]
@[simp] theorem queueFault_sat (b : FBlk) (k c : Nat) (e : Bool) (s : State) : (queueFault b k c e s).sat = s.sat := by rw [queueFault_frame]
@[simp] theorem queueFault_ldg (b : FBlk) (k c : Nat) (e : Bool) (s : State) : (queueFault b k c e s).ldg = s.ldg := by rw [queueFault_frame]
@[simp] theorem queueFault_rls (b : FBlk) (k c : Nat) (e : Bool) (s : State) : (queueFault b k c e s).rls = s.rls := by rw [queueFault_frame]
@[simp] theorem queueFault_mea (b : FBlk) (k c : Nat) (e : Bool) (s : State) : (queueFault b k c e s).mea = s.mea := by rw [queueFault_frame]
@[simp] theorem queueFault_lko (b : FBlk) (k c : Nat) (e : Bool) (s : State) : (queueFault b k c e s).lko = s.lko := by rw [queueFault_frame]
@[simp] theorem queueFault_rnd (b : FBlk) (k c : Nat) (e : Bool) (s : State) : (queueFault b k c e s).rnd = s.rnd := by rw [queueFault_frame]
@[simp] theorem queueFault_upd (b : FBlk) (k c : Nat) (e : Bool) (s : State) : (queueFault b k c e s).upd = s.upd := by rw [queueFault_frame]
@[simp] theorem queueFault_rig (b : FBlk) (k c : Nat) (e : Bool) (s : State) : (queueFault b k c e s).rig = s.rig := by rw [queueFault_frame]
@[simp] theorem queueFault_rcd (b : FBlk) (k c : Nat) (e : Bool) (s : State) : (queueFault b k c e s).rcd = s.rcd := by rw [queueFault_frame]
@[simp] theorem queueFault_free (b : FBlk) (k c : Nat) (e : Bool) (s : State) : (queueFault b k c e s).free = s.free := by rw [queueFault_frame]
@[simp] theorem queueFault_pending (b : FBlk) (k c : Nat) (e : Bool) (s : State) : (queueFault b k c e s).pending = s.pending := by rw [queueFault_frame]
@[simp] theorem slotGet_queueFault (b : FBlk) (k c : Nat) (e : Bool) (q : Nat) (s : State) : slotGet (queueFault b k c e s) q = slotGet s q := by rw [queueFault_frame]; rfl
@[simp] theorem satGet_queueFault (b : FBlk) (k c : Nat) (e : Bool) (q : Nat) (s : State) : satGet (queueFault b k c e s) q = satGet s q := by rw [queueFault_frame]; rfl
@[simp] theorem viewGet_queueFault (b : FBlk) (k c : Nat) (e : Bool) (q : Nat) (s : State) : viewGet (queueFault b k c e s) q = viewGet s q := by rw [queueFault_frame]; rfl
@[simp] theorem slotViewGet_queueFault (b : FBlk) (k c : Nat) (e : Bool) (q : Nat) (s : State) : slotViewGet (queueFault b k c e s) q = slotViewGet s q := by rw [queueFault_frame]; rfl
@[simp] theorem parcelGet_queueFault (b : FBlk) (k c : Nat) (e : Bool) (q : Nat) (s : State) : parcelGet (queueFault b k c e s) q = parcelGet s q := by rw [queueFault_frame]; rfl
@[simp] theorem orderGet_queueFault (b : FBlk) (k c : Nat) (e : Bool) (q : Nat) (s : State) : orderGet (queueFault b k c e s) q = orderGet s q := by rw [queueFault_frame]; rfl
@[simp] theorem ldgGet_queueFault (b : FBlk) (k c : Nat) (e : Bool) (q : Nat) (s : State) : ldgGet (queueFault b k c e s) q = ldgGet s q := by rw [queueFault_frame]; rfl
@[simp] theorem railGet_queueFault (b : FBlk) (k c : Nat) (e : Bool) (q : Nat) (s : State) : railGet (queueFault b k c e s) q = railGet s q := by rw [queueFault_frame]; rfl
@[simp] theorem tetherGet_queueFault (b : FBlk) (k c : Nat) (e : Bool) (q : Nat) (s : State) : tetherGet (queueFault b k c e s) q = tetherGet s q := by rw [queueFault_frame]; rfl
@[simp] theorem portGet_queueFault (b : FBlk) (k c : Nat) (e : Bool) (q : Port) (s : State) : portGet (queueFault b k c e s) q = portGet s q := by rw [queueFault_frame]; rfl

/-! ### queueStart -/

/-- So does the START record. -/
theorem queueStart_frame (s : State) :
    queueStart s = { s with
      log := (queueStart s).log } := by
  unfold queueStart; rw [queueRec_frame]

@[simp] theorem queueStart_sys (s : State) : (queueStart s).sys = s.sys := by rw [queueStart_frame]
@[simp] theorem queueStart_fatal (s : State) : (queueStart s).fatal = s.fatal := by rw [queueStart_frame]
@[simp] theorem queueStart_pins (s : State) : (queueStart s).pins = s.pins := by rw [queueStart_frame]
@[simp] theorem queueStart_sup (s : State) : (queueStart s).sup = s.sup := by rw [queueStart_frame]
@[simp] theorem queueStart_start (s : State) : (queueStart s).start = s.start := by rw [queueStart_frame]
@[simp] theorem queueStart_fb (s : State) : (queueStart s).fb = s.fb := by rw [queueStart_frame]
@[simp] theorem queueStart_ports (s : State) : (queueStart s).ports = s.ports := by rw [queueStart_frame]
@[simp] theorem queueStart_mor (s : State) : (queueStart s).mor = s.mor := by rw [queueStart_frame]
@[simp] theorem queueStart_ord (s : State) : (queueStart s).ord = s.ord := by rw [queueStart_frame]
@[simp] theorem queueStart_slots (s : State) : (queueStart s).slots = s.slots := by rw [queueStart_frame]
@[simp] theorem queueStart_tth (s : State) : (queueStart s).tth = s.tth := by rw [queueStart_frame]
@[simp] theorem queueStart_sat (s : State) : (queueStart s).sat = s.sat := by rw [queueStart_frame]
@[simp] theorem queueStart_ldg (s : State) : (queueStart s).ldg = s.ldg := by rw [queueStart_frame]
@[simp] theorem queueStart_rls (s : State) : (queueStart s).rls = s.rls := by rw [queueStart_frame]
@[simp] theorem queueStart_mea (s : State) : (queueStart s).mea = s.mea := by rw [queueStart_frame]
@[simp] theorem queueStart_lko (s : State) : (queueStart s).lko = s.lko := by rw [queueStart_frame]
@[simp] theorem queueStart_rnd (s : State) : (queueStart s).rnd = s.rnd := by rw [queueStart_frame]
@[simp] theorem queueStart_upd (s : State) : (queueStart s).upd = s.upd := by rw [queueStart_frame]
@[simp] theorem queueStart_rig (s : State) : (queueStart s).rig = s.rig := by rw [queueStart_frame]
@[simp] theorem queueStart_rcd (s : State) : (queueStart s).rcd = s.rcd := by rw [queueStart_frame]
@[simp] theorem queueStart_free (s : State) : (queueStart s).free = s.free := by rw [queueStart_frame]
@[simp] theorem queueStart_pending (s : State) : (queueStart s).pending = s.pending := by rw [queueStart_frame]
@[simp] theorem slotGet_queueStart (q : Nat) (s : State) : slotGet (queueStart s) q = slotGet s q := by rw [queueStart_frame]; rfl
@[simp] theorem satGet_queueStart (q : Nat) (s : State) : satGet (queueStart s) q = satGet s q := by rw [queueStart_frame]; rfl
@[simp] theorem viewGet_queueStart (q : Nat) (s : State) : viewGet (queueStart s) q = viewGet s q := by rw [queueStart_frame]; rfl
@[simp] theorem slotViewGet_queueStart (q : Nat) (s : State) : slotViewGet (queueStart s) q = slotViewGet s q := by rw [queueStart_frame]; rfl
@[simp] theorem parcelGet_queueStart (q : Nat) (s : State) : parcelGet (queueStart s) q = parcelGet s q := by rw [queueStart_frame]; rfl
@[simp] theorem orderGet_queueStart (q : Nat) (s : State) : orderGet (queueStart s) q = orderGet s q := by rw [queueStart_frame]; rfl
@[simp] theorem ldgGet_queueStart (q : Nat) (s : State) : ldgGet (queueStart s) q = ldgGet s q := by rw [queueStart_frame]; rfl
@[simp] theorem railGet_queueStart (q : Nat) (s : State) : railGet (queueStart s) q = railGet s q := by rw [queueStart_frame]; rfl
@[simp] theorem tetherGet_queueStart (q : Nat) (s : State) : tetherGet (queueStart s) q = tetherGet s q := by rw [queueStart_frame]; rfl
@[simp] theorem portGet_queueStart (q : Port) (s : State) : portGet (queueStart s) q = portGet s q := by rw [queueStart_frame]; rfl

/-! ### recStand -/

/-- The recorder stands: its own block alone. -/
theorem recStand_frame (c : Nat) (s : State) :
    recStand c s = { s with
      rcd := (recStand c s).rcd } := by
  rfl

@[simp] theorem recStand_sys (c : Nat) (s : State) : (recStand c s).sys = s.sys := by rw [recStand_frame]
@[simp] theorem recStand_fatal (c : Nat) (s : State) : (recStand c s).fatal = s.fatal := by rw [recStand_frame]
@[simp] theorem recStand_pins (c : Nat) (s : State) : (recStand c s).pins = s.pins := by rw [recStand_frame]
@[simp] theorem recStand_sup (c : Nat) (s : State) : (recStand c s).sup = s.sup := by rw [recStand_frame]
@[simp] theorem recStand_start (c : Nat) (s : State) : (recStand c s).start = s.start := by rw [recStand_frame]
@[simp] theorem recStand_fb (c : Nat) (s : State) : (recStand c s).fb = s.fb := by rw [recStand_frame]
@[simp] theorem recStand_ports (c : Nat) (s : State) : (recStand c s).ports = s.ports := by rw [recStand_frame]
@[simp] theorem recStand_mor (c : Nat) (s : State) : (recStand c s).mor = s.mor := by rw [recStand_frame]
@[simp] theorem recStand_ord (c : Nat) (s : State) : (recStand c s).ord = s.ord := by rw [recStand_frame]
@[simp] theorem recStand_slots (c : Nat) (s : State) : (recStand c s).slots = s.slots := by rw [recStand_frame]
@[simp] theorem recStand_tth (c : Nat) (s : State) : (recStand c s).tth = s.tth := by rw [recStand_frame]
@[simp] theorem recStand_sat (c : Nat) (s : State) : (recStand c s).sat = s.sat := by rw [recStand_frame]
@[simp] theorem recStand_ldg (c : Nat) (s : State) : (recStand c s).ldg = s.ldg := by rw [recStand_frame]
@[simp] theorem recStand_rls (c : Nat) (s : State) : (recStand c s).rls = s.rls := by rw [recStand_frame]
@[simp] theorem recStand_mea (c : Nat) (s : State) : (recStand c s).mea = s.mea := by rw [recStand_frame]
@[simp] theorem recStand_lko (c : Nat) (s : State) : (recStand c s).lko = s.lko := by rw [recStand_frame]
@[simp] theorem recStand_log (c : Nat) (s : State) : (recStand c s).log = s.log := by rw [recStand_frame]
@[simp] theorem recStand_rnd (c : Nat) (s : State) : (recStand c s).rnd = s.rnd := by rw [recStand_frame]
@[simp] theorem recStand_upd (c : Nat) (s : State) : (recStand c s).upd = s.upd := by rw [recStand_frame]
@[simp] theorem recStand_rig (c : Nat) (s : State) : (recStand c s).rig = s.rig := by rw [recStand_frame]
@[simp] theorem recStand_free (c : Nat) (s : State) : (recStand c s).free = s.free := by rw [recStand_frame]
@[simp] theorem recStand_pending (c : Nat) (s : State) : (recStand c s).pending = s.pending := by rw [recStand_frame]
@[simp] theorem slotGet_recStand (c : Nat) (q : Nat) (s : State) : slotGet (recStand c s) q = slotGet s q := by rw [recStand_frame]; rfl
@[simp] theorem satGet_recStand (c : Nat) (q : Nat) (s : State) : satGet (recStand c s) q = satGet s q := by rw [recStand_frame]; rfl
@[simp] theorem viewGet_recStand (c : Nat) (q : Nat) (s : State) : viewGet (recStand c s) q = viewGet s q := by rw [recStand_frame]; rfl
@[simp] theorem slotViewGet_recStand (c : Nat) (q : Nat) (s : State) : slotViewGet (recStand c s) q = slotViewGet s q := by rw [recStand_frame]; rfl
@[simp] theorem parcelGet_recStand (c : Nat) (q : Nat) (s : State) : parcelGet (recStand c s) q = parcelGet s q := by rw [recStand_frame]; rfl
@[simp] theorem orderGet_recStand (c : Nat) (q : Nat) (s : State) : orderGet (recStand c s) q = orderGet s q := by rw [recStand_frame]; rfl
@[simp] theorem ldgGet_recStand (c : Nat) (q : Nat) (s : State) : ldgGet (recStand c s) q = ldgGet s q := by rw [recStand_frame]; rfl
@[simp] theorem railGet_recStand (c : Nat) (q : Nat) (s : State) : railGet (recStand c s) q = railGet s q := by rw [recStand_frame]; rfl
@[simp] theorem tetherGet_recStand (c : Nat) (q : Nat) (s : State) : tetherGet (recStand c s) q = tetherGet s q := by rw [recStand_frame]; rfl
@[simp] theorem portGet_recStand (c : Nat) (q : Port) (s : State) : portGet (recStand c s) q = portGet s q := by rw [recStand_frame]; rfl

/-! ### recFreeze -/

/-- A freeze cause touches the recorder alone. -/
theorem recFreeze_frame (c : Nat) (e d : Bool) (s : State) :
    recFreeze c e d s = { s with
      rcd := (recFreeze c e d s).rcd } := by
  unfold recFreeze; dsimp only; (repeat' split) <;> rfl

@[simp] theorem recFreeze_sys (c : Nat) (e d : Bool) (s : State) : (recFreeze c e d s).sys = s.sys := by rw [recFreeze_frame]
@[simp] theorem recFreeze_fatal (c : Nat) (e d : Bool) (s : State) : (recFreeze c e d s).fatal = s.fatal := by rw [recFreeze_frame]
@[simp] theorem recFreeze_pins (c : Nat) (e d : Bool) (s : State) : (recFreeze c e d s).pins = s.pins := by rw [recFreeze_frame]
@[simp] theorem recFreeze_sup (c : Nat) (e d : Bool) (s : State) : (recFreeze c e d s).sup = s.sup := by rw [recFreeze_frame]
@[simp] theorem recFreeze_start (c : Nat) (e d : Bool) (s : State) : (recFreeze c e d s).start = s.start := by rw [recFreeze_frame]
@[simp] theorem recFreeze_fb (c : Nat) (e d : Bool) (s : State) : (recFreeze c e d s).fb = s.fb := by rw [recFreeze_frame]
@[simp] theorem recFreeze_ports (c : Nat) (e d : Bool) (s : State) : (recFreeze c e d s).ports = s.ports := by rw [recFreeze_frame]
@[simp] theorem recFreeze_mor (c : Nat) (e d : Bool) (s : State) : (recFreeze c e d s).mor = s.mor := by rw [recFreeze_frame]
@[simp] theorem recFreeze_ord (c : Nat) (e d : Bool) (s : State) : (recFreeze c e d s).ord = s.ord := by rw [recFreeze_frame]
@[simp] theorem recFreeze_slots (c : Nat) (e d : Bool) (s : State) : (recFreeze c e d s).slots = s.slots := by rw [recFreeze_frame]
@[simp] theorem recFreeze_tth (c : Nat) (e d : Bool) (s : State) : (recFreeze c e d s).tth = s.tth := by rw [recFreeze_frame]
@[simp] theorem recFreeze_sat (c : Nat) (e d : Bool) (s : State) : (recFreeze c e d s).sat = s.sat := by rw [recFreeze_frame]
@[simp] theorem recFreeze_ldg (c : Nat) (e d : Bool) (s : State) : (recFreeze c e d s).ldg = s.ldg := by rw [recFreeze_frame]
@[simp] theorem recFreeze_rls (c : Nat) (e d : Bool) (s : State) : (recFreeze c e d s).rls = s.rls := by rw [recFreeze_frame]
@[simp] theorem recFreeze_mea (c : Nat) (e d : Bool) (s : State) : (recFreeze c e d s).mea = s.mea := by rw [recFreeze_frame]
@[simp] theorem recFreeze_lko (c : Nat) (e d : Bool) (s : State) : (recFreeze c e d s).lko = s.lko := by rw [recFreeze_frame]
@[simp] theorem recFreeze_log (c : Nat) (e d : Bool) (s : State) : (recFreeze c e d s).log = s.log := by rw [recFreeze_frame]
@[simp] theorem recFreeze_rnd (c : Nat) (e d : Bool) (s : State) : (recFreeze c e d s).rnd = s.rnd := by rw [recFreeze_frame]
@[simp] theorem recFreeze_upd (c : Nat) (e d : Bool) (s : State) : (recFreeze c e d s).upd = s.upd := by rw [recFreeze_frame]
@[simp] theorem recFreeze_rig (c : Nat) (e d : Bool) (s : State) : (recFreeze c e d s).rig = s.rig := by rw [recFreeze_frame]
@[simp] theorem recFreeze_free (c : Nat) (e d : Bool) (s : State) : (recFreeze c e d s).free = s.free := by rw [recFreeze_frame]
@[simp] theorem recFreeze_pending (c : Nat) (e d : Bool) (s : State) : (recFreeze c e d s).pending = s.pending := by rw [recFreeze_frame]
@[simp] theorem slotGet_recFreeze (c : Nat) (e d : Bool) (q : Nat) (s : State) : slotGet (recFreeze c e d s) q = slotGet s q := by rw [recFreeze_frame]; rfl
@[simp] theorem satGet_recFreeze (c : Nat) (e d : Bool) (q : Nat) (s : State) : satGet (recFreeze c e d s) q = satGet s q := by rw [recFreeze_frame]; rfl
@[simp] theorem viewGet_recFreeze (c : Nat) (e d : Bool) (q : Nat) (s : State) : viewGet (recFreeze c e d s) q = viewGet s q := by rw [recFreeze_frame]; rfl
@[simp] theorem slotViewGet_recFreeze (c : Nat) (e d : Bool) (q : Nat) (s : State) : slotViewGet (recFreeze c e d s) q = slotViewGet s q := by rw [recFreeze_frame]; rfl
@[simp] theorem parcelGet_recFreeze (c : Nat) (e d : Bool) (q : Nat) (s : State) : parcelGet (recFreeze c e d s) q = parcelGet s q := by rw [recFreeze_frame]; rfl
@[simp] theorem orderGet_recFreeze (c : Nat) (e d : Bool) (q : Nat) (s : State) : orderGet (recFreeze c e d s) q = orderGet s q := by rw [recFreeze_frame]; rfl
@[simp] theorem ldgGet_recFreeze (c : Nat) (e d : Bool) (q : Nat) (s : State) : ldgGet (recFreeze c e d s) q = ldgGet s q := by rw [recFreeze_frame]; rfl
@[simp] theorem railGet_recFreeze (c : Nat) (e d : Bool) (q : Nat) (s : State) : railGet (recFreeze c e d s) q = railGet s q := by rw [recFreeze_frame]; rfl
@[simp] theorem tetherGet_recFreeze (c : Nat) (e d : Bool) (q : Nat) (s : State) : tetherGet (recFreeze c e d s) q = tetherGet s q := by rw [recFreeze_frame]; rfl
@[simp] theorem portGet_recFreeze (c : Nat) (e d : Bool) (q : Port) (s : State) : portGet (recFreeze c e d s) q = portGet s q := by rw [recFreeze_frame]; rfl

/-! ### setIevt -/

/-- A port event touches the ports. -/
theorem setIevt_frame (p : Port) (w : Word) (s : State) :
    setIevt p w s = { s with
      ports := (setIevt p w s).ports } := by
  rfl

@[simp] theorem setIevt_sys (p : Port) (w : Word) (s : State) : (setIevt p w s).sys = s.sys := by rw [setIevt_frame]
@[simp] theorem setIevt_fatal (p : Port) (w : Word) (s : State) : (setIevt p w s).fatal = s.fatal := by rw [setIevt_frame]
@[simp] theorem setIevt_pins (p : Port) (w : Word) (s : State) : (setIevt p w s).pins = s.pins := by rw [setIevt_frame]
@[simp] theorem setIevt_sup (p : Port) (w : Word) (s : State) : (setIevt p w s).sup = s.sup := by rw [setIevt_frame]
@[simp] theorem setIevt_start (p : Port) (w : Word) (s : State) : (setIevt p w s).start = s.start := by rw [setIevt_frame]
@[simp] theorem setIevt_fb (p : Port) (w : Word) (s : State) : (setIevt p w s).fb = s.fb := by rw [setIevt_frame]
@[simp] theorem setIevt_mor (p : Port) (w : Word) (s : State) : (setIevt p w s).mor = s.mor := by rw [setIevt_frame]
@[simp] theorem setIevt_ord (p : Port) (w : Word) (s : State) : (setIevt p w s).ord = s.ord := by rw [setIevt_frame]
@[simp] theorem setIevt_slots (p : Port) (w : Word) (s : State) : (setIevt p w s).slots = s.slots := by rw [setIevt_frame]
@[simp] theorem setIevt_tth (p : Port) (w : Word) (s : State) : (setIevt p w s).tth = s.tth := by rw [setIevt_frame]
@[simp] theorem setIevt_sat (p : Port) (w : Word) (s : State) : (setIevt p w s).sat = s.sat := by rw [setIevt_frame]
@[simp] theorem setIevt_ldg (p : Port) (w : Word) (s : State) : (setIevt p w s).ldg = s.ldg := by rw [setIevt_frame]
@[simp] theorem setIevt_rls (p : Port) (w : Word) (s : State) : (setIevt p w s).rls = s.rls := by rw [setIevt_frame]
@[simp] theorem setIevt_mea (p : Port) (w : Word) (s : State) : (setIevt p w s).mea = s.mea := by rw [setIevt_frame]
@[simp] theorem setIevt_lko (p : Port) (w : Word) (s : State) : (setIevt p w s).lko = s.lko := by rw [setIevt_frame]
@[simp] theorem setIevt_log (p : Port) (w : Word) (s : State) : (setIevt p w s).log = s.log := by rw [setIevt_frame]
@[simp] theorem setIevt_rnd (p : Port) (w : Word) (s : State) : (setIevt p w s).rnd = s.rnd := by rw [setIevt_frame]
@[simp] theorem setIevt_upd (p : Port) (w : Word) (s : State) : (setIevt p w s).upd = s.upd := by rw [setIevt_frame]
@[simp] theorem setIevt_rig (p : Port) (w : Word) (s : State) : (setIevt p w s).rig = s.rig := by rw [setIevt_frame]
@[simp] theorem setIevt_rcd (p : Port) (w : Word) (s : State) : (setIevt p w s).rcd = s.rcd := by rw [setIevt_frame]
@[simp] theorem setIevt_free (p : Port) (w : Word) (s : State) : (setIevt p w s).free = s.free := by rw [setIevt_frame]
@[simp] theorem setIevt_pending (p : Port) (w : Word) (s : State) : (setIevt p w s).pending = s.pending := by rw [setIevt_frame]
@[simp] theorem slotGet_setIevt (p : Port) (w : Word) (q : Nat) (s : State) : slotGet (setIevt p w s) q = slotGet s q := by rw [setIevt_frame]; rfl
@[simp] theorem satGet_setIevt (p : Port) (w : Word) (q : Nat) (s : State) : satGet (setIevt p w s) q = satGet s q := by rw [setIevt_frame]; rfl
@[simp] theorem viewGet_setIevt (p : Port) (w : Word) (q : Nat) (s : State) : viewGet (setIevt p w s) q = viewGet s q := by rw [setIevt_frame]; rfl
@[simp] theorem slotViewGet_setIevt (p : Port) (w : Word) (q : Nat) (s : State) : slotViewGet (setIevt p w s) q = slotViewGet s q := by rw [setIevt_frame]; rfl
@[simp] theorem parcelGet_setIevt (p : Port) (w : Word) (q : Nat) (s : State) : parcelGet (setIevt p w s) q = parcelGet s q := by rw [setIevt_frame]; rfl
@[simp] theorem orderGet_setIevt (p : Port) (w : Word) (q : Nat) (s : State) : orderGet (setIevt p w s) q = orderGet s q := by rw [setIevt_frame]; rfl
@[simp] theorem ldgGet_setIevt (p : Port) (w : Word) (q : Nat) (s : State) : ldgGet (setIevt p w s) q = ldgGet s q := by rw [setIevt_frame]; rfl
@[simp] theorem railGet_setIevt (p : Port) (w : Word) (q : Nat) (s : State) : railGet (setIevt p w s) q = railGet s q := by rw [setIevt_frame]; rfl
@[simp] theorem tetherGet_setIevt (p : Port) (w : Word) (q : Nat) (s : State) : tetherGet (setIevt p w s) q = tetherGet s q := by rw [setIevt_frame]; rfl

/-! ### setIevtBoth -/

/-- A port event touches the ports. -/
theorem setIevtBoth_frame (w : Word) (s : State) :
    setIevtBoth w s = { s with
      ports := (setIevtBoth w s).ports } := by
  rfl

@[simp] theorem setIevtBoth_sys (w : Word) (s : State) : (setIevtBoth w s).sys = s.sys := by rw [setIevtBoth_frame]
@[simp] theorem setIevtBoth_fatal (w : Word) (s : State) : (setIevtBoth w s).fatal = s.fatal := by rw [setIevtBoth_frame]
@[simp] theorem setIevtBoth_pins (w : Word) (s : State) : (setIevtBoth w s).pins = s.pins := by rw [setIevtBoth_frame]
@[simp] theorem setIevtBoth_sup (w : Word) (s : State) : (setIevtBoth w s).sup = s.sup := by rw [setIevtBoth_frame]
@[simp] theorem setIevtBoth_start (w : Word) (s : State) : (setIevtBoth w s).start = s.start := by rw [setIevtBoth_frame]
@[simp] theorem setIevtBoth_fb (w : Word) (s : State) : (setIevtBoth w s).fb = s.fb := by rw [setIevtBoth_frame]
@[simp] theorem setIevtBoth_mor (w : Word) (s : State) : (setIevtBoth w s).mor = s.mor := by rw [setIevtBoth_frame]
@[simp] theorem setIevtBoth_ord (w : Word) (s : State) : (setIevtBoth w s).ord = s.ord := by rw [setIevtBoth_frame]
@[simp] theorem setIevtBoth_slots (w : Word) (s : State) : (setIevtBoth w s).slots = s.slots := by rw [setIevtBoth_frame]
@[simp] theorem setIevtBoth_tth (w : Word) (s : State) : (setIevtBoth w s).tth = s.tth := by rw [setIevtBoth_frame]
@[simp] theorem setIevtBoth_sat (w : Word) (s : State) : (setIevtBoth w s).sat = s.sat := by rw [setIevtBoth_frame]
@[simp] theorem setIevtBoth_ldg (w : Word) (s : State) : (setIevtBoth w s).ldg = s.ldg := by rw [setIevtBoth_frame]
@[simp] theorem setIevtBoth_rls (w : Word) (s : State) : (setIevtBoth w s).rls = s.rls := by rw [setIevtBoth_frame]
@[simp] theorem setIevtBoth_mea (w : Word) (s : State) : (setIevtBoth w s).mea = s.mea := by rw [setIevtBoth_frame]
@[simp] theorem setIevtBoth_lko (w : Word) (s : State) : (setIevtBoth w s).lko = s.lko := by rw [setIevtBoth_frame]
@[simp] theorem setIevtBoth_log (w : Word) (s : State) : (setIevtBoth w s).log = s.log := by rw [setIevtBoth_frame]
@[simp] theorem setIevtBoth_rnd (w : Word) (s : State) : (setIevtBoth w s).rnd = s.rnd := by rw [setIevtBoth_frame]
@[simp] theorem setIevtBoth_upd (w : Word) (s : State) : (setIevtBoth w s).upd = s.upd := by rw [setIevtBoth_frame]
@[simp] theorem setIevtBoth_rig (w : Word) (s : State) : (setIevtBoth w s).rig = s.rig := by rw [setIevtBoth_frame]
@[simp] theorem setIevtBoth_rcd (w : Word) (s : State) : (setIevtBoth w s).rcd = s.rcd := by rw [setIevtBoth_frame]
@[simp] theorem setIevtBoth_free (w : Word) (s : State) : (setIevtBoth w s).free = s.free := by rw [setIevtBoth_frame]
@[simp] theorem setIevtBoth_pending (w : Word) (s : State) : (setIevtBoth w s).pending = s.pending := by rw [setIevtBoth_frame]
@[simp] theorem slotGet_setIevtBoth (w : Word) (q : Nat) (s : State) : slotGet (setIevtBoth w s) q = slotGet s q := by rw [setIevtBoth_frame]; rfl
@[simp] theorem satGet_setIevtBoth (w : Word) (q : Nat) (s : State) : satGet (setIevtBoth w s) q = satGet s q := by rw [setIevtBoth_frame]; rfl
@[simp] theorem viewGet_setIevtBoth (w : Word) (q : Nat) (s : State) : viewGet (setIevtBoth w s) q = viewGet s q := by rw [setIevtBoth_frame]; rfl
@[simp] theorem slotViewGet_setIevtBoth (w : Word) (q : Nat) (s : State) : slotViewGet (setIevtBoth w s) q = slotViewGet s q := by rw [setIevtBoth_frame]; rfl
@[simp] theorem parcelGet_setIevtBoth (w : Word) (q : Nat) (s : State) : parcelGet (setIevtBoth w s) q = parcelGet s q := by rw [setIevtBoth_frame]; rfl
@[simp] theorem orderGet_setIevtBoth (w : Word) (q : Nat) (s : State) : orderGet (setIevtBoth w s) q = orderGet s q := by rw [setIevtBoth_frame]; rfl
@[simp] theorem ldgGet_setIevtBoth (w : Word) (q : Nat) (s : State) : ldgGet (setIevtBoth w s) q = ldgGet s q := by rw [setIevtBoth_frame]; rfl
@[simp] theorem railGet_setIevtBoth (w : Word) (q : Nat) (s : State) : railGet (setIevtBoth w s) q = railGet s q := by rw [setIevtBoth_frame]; rfl
@[simp] theorem tetherGet_setIevtBoth (w : Word) (q : Nat) (s : State) : tetherGet (setIevtBoth w s) q = tetherGet s q := by rw [setIevtBoth_frame]; rfl

/-! ### coreWake -/

/-- A wake touches the hub state, LKO and the port events. -/
theorem coreWake_frame (n : Nat) (s : State) :
    coreWake n s = { s with
      sys := (coreWake n s).sys, lko := (coreWake n s).lko, ports := (coreWake n s).ports } := by
  unfold coreWake; split <;> rfl

@[simp] theorem coreWake_fatal (n : Nat) (s : State) : (coreWake n s).fatal = s.fatal := by rw [coreWake_frame]
@[simp] theorem coreWake_pins (n : Nat) (s : State) : (coreWake n s).pins = s.pins := by rw [coreWake_frame]
@[simp] theorem coreWake_sup (n : Nat) (s : State) : (coreWake n s).sup = s.sup := by rw [coreWake_frame]
@[simp] theorem coreWake_start (n : Nat) (s : State) : (coreWake n s).start = s.start := by rw [coreWake_frame]
@[simp] theorem coreWake_fb (n : Nat) (s : State) : (coreWake n s).fb = s.fb := by rw [coreWake_frame]
@[simp] theorem coreWake_mor (n : Nat) (s : State) : (coreWake n s).mor = s.mor := by rw [coreWake_frame]
@[simp] theorem coreWake_ord (n : Nat) (s : State) : (coreWake n s).ord = s.ord := by rw [coreWake_frame]
@[simp] theorem coreWake_slots (n : Nat) (s : State) : (coreWake n s).slots = s.slots := by rw [coreWake_frame]
@[simp] theorem coreWake_tth (n : Nat) (s : State) : (coreWake n s).tth = s.tth := by rw [coreWake_frame]
@[simp] theorem coreWake_sat (n : Nat) (s : State) : (coreWake n s).sat = s.sat := by rw [coreWake_frame]
@[simp] theorem coreWake_ldg (n : Nat) (s : State) : (coreWake n s).ldg = s.ldg := by rw [coreWake_frame]
@[simp] theorem coreWake_rls (n : Nat) (s : State) : (coreWake n s).rls = s.rls := by rw [coreWake_frame]
@[simp] theorem coreWake_mea (n : Nat) (s : State) : (coreWake n s).mea = s.mea := by rw [coreWake_frame]
@[simp] theorem coreWake_log (n : Nat) (s : State) : (coreWake n s).log = s.log := by rw [coreWake_frame]
@[simp] theorem coreWake_rnd (n : Nat) (s : State) : (coreWake n s).rnd = s.rnd := by rw [coreWake_frame]
@[simp] theorem coreWake_upd (n : Nat) (s : State) : (coreWake n s).upd = s.upd := by rw [coreWake_frame]
@[simp] theorem coreWake_rig (n : Nat) (s : State) : (coreWake n s).rig = s.rig := by rw [coreWake_frame]
@[simp] theorem coreWake_rcd (n : Nat) (s : State) : (coreWake n s).rcd = s.rcd := by rw [coreWake_frame]
@[simp] theorem coreWake_free (n : Nat) (s : State) : (coreWake n s).free = s.free := by rw [coreWake_frame]
@[simp] theorem coreWake_pending (n : Nat) (s : State) : (coreWake n s).pending = s.pending := by rw [coreWake_frame]
@[simp] theorem slotGet_coreWake (n : Nat) (q : Nat) (s : State) : slotGet (coreWake n s) q = slotGet s q := by rw [coreWake_frame]; rfl
@[simp] theorem satGet_coreWake (n : Nat) (q : Nat) (s : State) : satGet (coreWake n s) q = satGet s q := by rw [coreWake_frame]; rfl
@[simp] theorem viewGet_coreWake (n : Nat) (q : Nat) (s : State) : viewGet (coreWake n s) q = viewGet s q := by rw [coreWake_frame]; rfl
@[simp] theorem slotViewGet_coreWake (n : Nat) (q : Nat) (s : State) : slotViewGet (coreWake n s) q = slotViewGet s q := by rw [coreWake_frame]; rfl
@[simp] theorem parcelGet_coreWake (n : Nat) (q : Nat) (s : State) : parcelGet (coreWake n s) q = parcelGet s q := by rw [coreWake_frame]; rfl
@[simp] theorem orderGet_coreWake (n : Nat) (q : Nat) (s : State) : orderGet (coreWake n s) q = orderGet s q := by rw [coreWake_frame]; rfl
@[simp] theorem ldgGet_coreWake (n : Nat) (q : Nat) (s : State) : ldgGet (coreWake n s) q = ldgGet s q := by rw [coreWake_frame]; rfl
@[simp] theorem railGet_coreWake (n : Nat) (q : Nat) (s : State) : railGet (coreWake n s) q = railGet s q := by rw [coreWake_frame]; rfl
@[simp] theorem tetherGet_coreWake (n : Nat) (q : Nat) (s : State) : tetherGet (coreWake n s) q = tetherGet s q := by rw [coreWake_frame]; rfl

/-! ### wakeByFault -/

/-- A wake by a fault, the same. -/
theorem wakeByFault_frame (f : FaultBank) (k : Nat) (e : Bool) (s : State) :
    wakeByFault f k e s = { s with
      sys := (wakeByFault f k e s).sys, lko := (wakeByFault f k e s).lko, ports := (wakeByFault f k e s).ports } := by
  unfold wakeByFault; split; · rw [coreWake_frame]
  · rfl

@[simp] theorem wakeByFault_fatal (f : FaultBank) (k : Nat) (e : Bool) (s : State) : (wakeByFault f k e s).fatal = s.fatal := by rw [wakeByFault_frame]
@[simp] theorem wakeByFault_pins (f : FaultBank) (k : Nat) (e : Bool) (s : State) : (wakeByFault f k e s).pins = s.pins := by rw [wakeByFault_frame]
@[simp] theorem wakeByFault_sup (f : FaultBank) (k : Nat) (e : Bool) (s : State) : (wakeByFault f k e s).sup = s.sup := by rw [wakeByFault_frame]
@[simp] theorem wakeByFault_start (f : FaultBank) (k : Nat) (e : Bool) (s : State) : (wakeByFault f k e s).start = s.start := by rw [wakeByFault_frame]
@[simp] theorem wakeByFault_fb (f : FaultBank) (k : Nat) (e : Bool) (s : State) : (wakeByFault f k e s).fb = s.fb := by rw [wakeByFault_frame]
@[simp] theorem wakeByFault_mor (f : FaultBank) (k : Nat) (e : Bool) (s : State) : (wakeByFault f k e s).mor = s.mor := by rw [wakeByFault_frame]
@[simp] theorem wakeByFault_ord (f : FaultBank) (k : Nat) (e : Bool) (s : State) : (wakeByFault f k e s).ord = s.ord := by rw [wakeByFault_frame]
@[simp] theorem wakeByFault_slots (f : FaultBank) (k : Nat) (e : Bool) (s : State) : (wakeByFault f k e s).slots = s.slots := by rw [wakeByFault_frame]
@[simp] theorem wakeByFault_tth (f : FaultBank) (k : Nat) (e : Bool) (s : State) : (wakeByFault f k e s).tth = s.tth := by rw [wakeByFault_frame]
@[simp] theorem wakeByFault_sat (f : FaultBank) (k : Nat) (e : Bool) (s : State) : (wakeByFault f k e s).sat = s.sat := by rw [wakeByFault_frame]
@[simp] theorem wakeByFault_ldg (f : FaultBank) (k : Nat) (e : Bool) (s : State) : (wakeByFault f k e s).ldg = s.ldg := by rw [wakeByFault_frame]
@[simp] theorem wakeByFault_rls (f : FaultBank) (k : Nat) (e : Bool) (s : State) : (wakeByFault f k e s).rls = s.rls := by rw [wakeByFault_frame]
@[simp] theorem wakeByFault_mea (f : FaultBank) (k : Nat) (e : Bool) (s : State) : (wakeByFault f k e s).mea = s.mea := by rw [wakeByFault_frame]
@[simp] theorem wakeByFault_log (f : FaultBank) (k : Nat) (e : Bool) (s : State) : (wakeByFault f k e s).log = s.log := by rw [wakeByFault_frame]
@[simp] theorem wakeByFault_rnd (f : FaultBank) (k : Nat) (e : Bool) (s : State) : (wakeByFault f k e s).rnd = s.rnd := by rw [wakeByFault_frame]
@[simp] theorem wakeByFault_upd (f : FaultBank) (k : Nat) (e : Bool) (s : State) : (wakeByFault f k e s).upd = s.upd := by rw [wakeByFault_frame]
@[simp] theorem wakeByFault_rig (f : FaultBank) (k : Nat) (e : Bool) (s : State) : (wakeByFault f k e s).rig = s.rig := by rw [wakeByFault_frame]
@[simp] theorem wakeByFault_rcd (f : FaultBank) (k : Nat) (e : Bool) (s : State) : (wakeByFault f k e s).rcd = s.rcd := by rw [wakeByFault_frame]
@[simp] theorem wakeByFault_free (f : FaultBank) (k : Nat) (e : Bool) (s : State) : (wakeByFault f k e s).free = s.free := by rw [wakeByFault_frame]
@[simp] theorem wakeByFault_pending (f : FaultBank) (k : Nat) (e : Bool) (s : State) : (wakeByFault f k e s).pending = s.pending := by rw [wakeByFault_frame]
@[simp] theorem slotGet_wakeByFault (f : FaultBank) (k : Nat) (e : Bool) (q : Nat) (s : State) : slotGet (wakeByFault f k e s) q = slotGet s q := by rw [wakeByFault_frame]; rfl
@[simp] theorem satGet_wakeByFault (f : FaultBank) (k : Nat) (e : Bool) (q : Nat) (s : State) : satGet (wakeByFault f k e s) q = satGet s q := by rw [wakeByFault_frame]; rfl
@[simp] theorem viewGet_wakeByFault (f : FaultBank) (k : Nat) (e : Bool) (q : Nat) (s : State) : viewGet (wakeByFault f k e s) q = viewGet s q := by rw [wakeByFault_frame]; rfl
@[simp] theorem slotViewGet_wakeByFault (f : FaultBank) (k : Nat) (e : Bool) (q : Nat) (s : State) : slotViewGet (wakeByFault f k e s) q = slotViewGet s q := by rw [wakeByFault_frame]; rfl
@[simp] theorem parcelGet_wakeByFault (f : FaultBank) (k : Nat) (e : Bool) (q : Nat) (s : State) : parcelGet (wakeByFault f k e s) q = parcelGet s q := by rw [wakeByFault_frame]; rfl
@[simp] theorem orderGet_wakeByFault (f : FaultBank) (k : Nat) (e : Bool) (q : Nat) (s : State) : orderGet (wakeByFault f k e s) q = orderGet s q := by rw [wakeByFault_frame]; rfl
@[simp] theorem ldgGet_wakeByFault (f : FaultBank) (k : Nat) (e : Bool) (q : Nat) (s : State) : ldgGet (wakeByFault f k e s) q = ldgGet s q := by rw [wakeByFault_frame]; rfl
@[simp] theorem railGet_wakeByFault (f : FaultBank) (k : Nat) (e : Bool) (q : Nat) (s : State) : railGet (wakeByFault f k e s) q = railGet s q := by rw [wakeByFault_frame]; rfl
@[simp] theorem tetherGet_wakeByFault (f : FaultBank) (k : Nat) (e : Bool) (q : Nat) (s : State) : tetherGet (wakeByFault f k e s) q = tetherGet s q := by rw [wakeByFault_frame]; rfl

/-! ### ripcordTethers -/

/-- RIPCORD on the tethers. -/
theorem ripcordTethers_frame (b : Bool) (s : State) :
    ripcordTethers b s = { s with
      tth := (ripcordTethers b s).tth } := by
  rfl

@[simp] theorem ripcordTethers_sys (b : Bool) (s : State) : (ripcordTethers b s).sys = s.sys := by rw [ripcordTethers_frame]
@[simp] theorem ripcordTethers_fatal (b : Bool) (s : State) : (ripcordTethers b s).fatal = s.fatal := by rw [ripcordTethers_frame]
@[simp] theorem ripcordTethers_pins (b : Bool) (s : State) : (ripcordTethers b s).pins = s.pins := by rw [ripcordTethers_frame]
@[simp] theorem ripcordTethers_sup (b : Bool) (s : State) : (ripcordTethers b s).sup = s.sup := by rw [ripcordTethers_frame]
@[simp] theorem ripcordTethers_start (b : Bool) (s : State) : (ripcordTethers b s).start = s.start := by rw [ripcordTethers_frame]
@[simp] theorem ripcordTethers_fb (b : Bool) (s : State) : (ripcordTethers b s).fb = s.fb := by rw [ripcordTethers_frame]
@[simp] theorem ripcordTethers_ports (b : Bool) (s : State) : (ripcordTethers b s).ports = s.ports := by rw [ripcordTethers_frame]
@[simp] theorem ripcordTethers_mor (b : Bool) (s : State) : (ripcordTethers b s).mor = s.mor := by rw [ripcordTethers_frame]
@[simp] theorem ripcordTethers_ord (b : Bool) (s : State) : (ripcordTethers b s).ord = s.ord := by rw [ripcordTethers_frame]
@[simp] theorem ripcordTethers_slots (b : Bool) (s : State) : (ripcordTethers b s).slots = s.slots := by rw [ripcordTethers_frame]
@[simp] theorem ripcordTethers_sat (b : Bool) (s : State) : (ripcordTethers b s).sat = s.sat := by rw [ripcordTethers_frame]
@[simp] theorem ripcordTethers_ldg (b : Bool) (s : State) : (ripcordTethers b s).ldg = s.ldg := by rw [ripcordTethers_frame]
@[simp] theorem ripcordTethers_rls (b : Bool) (s : State) : (ripcordTethers b s).rls = s.rls := by rw [ripcordTethers_frame]
@[simp] theorem ripcordTethers_mea (b : Bool) (s : State) : (ripcordTethers b s).mea = s.mea := by rw [ripcordTethers_frame]
@[simp] theorem ripcordTethers_lko (b : Bool) (s : State) : (ripcordTethers b s).lko = s.lko := by rw [ripcordTethers_frame]
@[simp] theorem ripcordTethers_log (b : Bool) (s : State) : (ripcordTethers b s).log = s.log := by rw [ripcordTethers_frame]
@[simp] theorem ripcordTethers_rnd (b : Bool) (s : State) : (ripcordTethers b s).rnd = s.rnd := by rw [ripcordTethers_frame]
@[simp] theorem ripcordTethers_upd (b : Bool) (s : State) : (ripcordTethers b s).upd = s.upd := by rw [ripcordTethers_frame]
@[simp] theorem ripcordTethers_rig (b : Bool) (s : State) : (ripcordTethers b s).rig = s.rig := by rw [ripcordTethers_frame]
@[simp] theorem ripcordTethers_rcd (b : Bool) (s : State) : (ripcordTethers b s).rcd = s.rcd := by rw [ripcordTethers_frame]
@[simp] theorem ripcordTethers_free (b : Bool) (s : State) : (ripcordTethers b s).free = s.free := by rw [ripcordTethers_frame]
@[simp] theorem ripcordTethers_pending (b : Bool) (s : State) : (ripcordTethers b s).pending = s.pending := by rw [ripcordTethers_frame]
@[simp] theorem slotGet_ripcordTethers (b : Bool) (q : Nat) (s : State) : slotGet (ripcordTethers b s) q = slotGet s q := by rw [ripcordTethers_frame]; rfl
@[simp] theorem satGet_ripcordTethers (b : Bool) (q : Nat) (s : State) : satGet (ripcordTethers b s) q = satGet s q := by rw [ripcordTethers_frame]; rfl
@[simp] theorem viewGet_ripcordTethers (b : Bool) (q : Nat) (s : State) : viewGet (ripcordTethers b s) q = viewGet s q := by rw [ripcordTethers_frame]; rfl
@[simp] theorem slotViewGet_ripcordTethers (b : Bool) (q : Nat) (s : State) : slotViewGet (ripcordTethers b s) q = slotViewGet s q := by rw [ripcordTethers_frame]; rfl
@[simp] theorem parcelGet_ripcordTethers (b : Bool) (q : Nat) (s : State) : parcelGet (ripcordTethers b s) q = parcelGet s q := by rw [ripcordTethers_frame]; rfl
@[simp] theorem orderGet_ripcordTethers (b : Bool) (q : Nat) (s : State) : orderGet (ripcordTethers b s) q = orderGet s q := by rw [ripcordTethers_frame]; rfl
@[simp] theorem ldgGet_ripcordTethers (b : Bool) (q : Nat) (s : State) : ldgGet (ripcordTethers b s) q = ldgGet s q := by rw [ripcordTethers_frame]; rfl
@[simp] theorem railGet_ripcordTethers (b : Bool) (q : Nat) (s : State) : railGet (ripcordTethers b s) q = railGet s q := by rw [ripcordTethers_frame]; rfl
@[simp] theorem portGet_ripcordTethers (b : Bool) (q : Port) (s : State) : portGet (ripcordTethers b s) q = portGet s q := by rw [ripcordTethers_frame]; rfl

/-! ### trimsOff -/

/-- Trims off. -/
theorem trimsOff_frame (s : State) :
    trimsOff s = { s with
      rls := (trimsOff s).rls, pins := (trimsOff s).pins } := by
  rfl

@[simp] theorem trimsOff_sys (s : State) : (trimsOff s).sys = s.sys := by rw [trimsOff_frame]
@[simp] theorem trimsOff_fatal (s : State) : (trimsOff s).fatal = s.fatal := by rw [trimsOff_frame]
@[simp] theorem trimsOff_sup (s : State) : (trimsOff s).sup = s.sup := by rw [trimsOff_frame]
@[simp] theorem trimsOff_start (s : State) : (trimsOff s).start = s.start := by rw [trimsOff_frame]
@[simp] theorem trimsOff_fb (s : State) : (trimsOff s).fb = s.fb := by rw [trimsOff_frame]
@[simp] theorem trimsOff_ports (s : State) : (trimsOff s).ports = s.ports := by rw [trimsOff_frame]
@[simp] theorem trimsOff_mor (s : State) : (trimsOff s).mor = s.mor := by rw [trimsOff_frame]
@[simp] theorem trimsOff_ord (s : State) : (trimsOff s).ord = s.ord := by rw [trimsOff_frame]
@[simp] theorem trimsOff_slots (s : State) : (trimsOff s).slots = s.slots := by rw [trimsOff_frame]
@[simp] theorem trimsOff_tth (s : State) : (trimsOff s).tth = s.tth := by rw [trimsOff_frame]
@[simp] theorem trimsOff_sat (s : State) : (trimsOff s).sat = s.sat := by rw [trimsOff_frame]
@[simp] theorem trimsOff_ldg (s : State) : (trimsOff s).ldg = s.ldg := by rw [trimsOff_frame]
@[simp] theorem trimsOff_mea (s : State) : (trimsOff s).mea = s.mea := by rw [trimsOff_frame]
@[simp] theorem trimsOff_lko (s : State) : (trimsOff s).lko = s.lko := by rw [trimsOff_frame]
@[simp] theorem trimsOff_log (s : State) : (trimsOff s).log = s.log := by rw [trimsOff_frame]
@[simp] theorem trimsOff_rnd (s : State) : (trimsOff s).rnd = s.rnd := by rw [trimsOff_frame]
@[simp] theorem trimsOff_upd (s : State) : (trimsOff s).upd = s.upd := by rw [trimsOff_frame]
@[simp] theorem trimsOff_rig (s : State) : (trimsOff s).rig = s.rig := by rw [trimsOff_frame]
@[simp] theorem trimsOff_rcd (s : State) : (trimsOff s).rcd = s.rcd := by rw [trimsOff_frame]
@[simp] theorem trimsOff_free (s : State) : (trimsOff s).free = s.free := by rw [trimsOff_frame]
@[simp] theorem trimsOff_pending (s : State) : (trimsOff s).pending = s.pending := by rw [trimsOff_frame]
@[simp] theorem slotGet_trimsOff (q : Nat) (s : State) : slotGet (trimsOff s) q = slotGet s q := by rw [trimsOff_frame]; rfl
@[simp] theorem satGet_trimsOff (q : Nat) (s : State) : satGet (trimsOff s) q = satGet s q := by rw [trimsOff_frame]; rfl
@[simp] theorem viewGet_trimsOff (q : Nat) (s : State) : viewGet (trimsOff s) q = viewGet s q := by rw [trimsOff_frame]; rfl
@[simp] theorem slotViewGet_trimsOff (q : Nat) (s : State) : slotViewGet (trimsOff s) q = slotViewGet s q := by rw [trimsOff_frame]; rfl
@[simp] theorem parcelGet_trimsOff (q : Nat) (s : State) : parcelGet (trimsOff s) q = parcelGet s q := by rw [trimsOff_frame]; rfl
@[simp] theorem orderGet_trimsOff (q : Nat) (s : State) : orderGet (trimsOff s) q = orderGet s q := by rw [trimsOff_frame]; rfl
@[simp] theorem ldgGet_trimsOff (q : Nat) (s : State) : ldgGet (trimsOff s) q = ldgGet s q := by rw [trimsOff_frame]; rfl
@[simp] theorem tetherGet_trimsOff (q : Nat) (s : State) : tetherGet (trimsOff s) q = tetherGet s q := by rw [trimsOff_frame]; rfl
@[simp] theorem portGet_trimsOff (q : Port) (s : State) : portGet (trimsOff s) q = portGet s q := by rw [trimsOff_frame]; rfl

/-! ### cutFetch -/

/-- An update flow that L0 serves ends: its own block alone. -/
theorem cutFetch_frame (s : State) :
    cutFetch s = { s with
      upd := (cutFetch s).upd } := by
  unfold cutFetch; split <;> rfl

@[simp] theorem cutFetch_sys (s : State) : (cutFetch s).sys = s.sys := by rw [cutFetch_frame]
@[simp] theorem cutFetch_fatal (s : State) : (cutFetch s).fatal = s.fatal := by rw [cutFetch_frame]
@[simp] theorem cutFetch_pins (s : State) : (cutFetch s).pins = s.pins := by rw [cutFetch_frame]
@[simp] theorem cutFetch_sup (s : State) : (cutFetch s).sup = s.sup := by rw [cutFetch_frame]
@[simp] theorem cutFetch_start (s : State) : (cutFetch s).start = s.start := by rw [cutFetch_frame]
@[simp] theorem cutFetch_fb (s : State) : (cutFetch s).fb = s.fb := by rw [cutFetch_frame]
@[simp] theorem cutFetch_ports (s : State) : (cutFetch s).ports = s.ports := by rw [cutFetch_frame]
@[simp] theorem cutFetch_mor (s : State) : (cutFetch s).mor = s.mor := by rw [cutFetch_frame]
@[simp] theorem cutFetch_ord (s : State) : (cutFetch s).ord = s.ord := by rw [cutFetch_frame]
@[simp] theorem cutFetch_slots (s : State) : (cutFetch s).slots = s.slots := by rw [cutFetch_frame]
@[simp] theorem cutFetch_tth (s : State) : (cutFetch s).tth = s.tth := by rw [cutFetch_frame]
@[simp] theorem cutFetch_sat (s : State) : (cutFetch s).sat = s.sat := by rw [cutFetch_frame]
@[simp] theorem cutFetch_ldg (s : State) : (cutFetch s).ldg = s.ldg := by rw [cutFetch_frame]
@[simp] theorem cutFetch_rls (s : State) : (cutFetch s).rls = s.rls := by rw [cutFetch_frame]
@[simp] theorem cutFetch_mea (s : State) : (cutFetch s).mea = s.mea := by rw [cutFetch_frame]
@[simp] theorem cutFetch_lko (s : State) : (cutFetch s).lko = s.lko := by rw [cutFetch_frame]
@[simp] theorem cutFetch_log (s : State) : (cutFetch s).log = s.log := by rw [cutFetch_frame]
@[simp] theorem cutFetch_rnd (s : State) : (cutFetch s).rnd = s.rnd := by rw [cutFetch_frame]
@[simp] theorem cutFetch_rig (s : State) : (cutFetch s).rig = s.rig := by rw [cutFetch_frame]
@[simp] theorem cutFetch_rcd (s : State) : (cutFetch s).rcd = s.rcd := by rw [cutFetch_frame]
@[simp] theorem cutFetch_free (s : State) : (cutFetch s).free = s.free := by rw [cutFetch_frame]
@[simp] theorem cutFetch_pending (s : State) : (cutFetch s).pending = s.pending := by rw [cutFetch_frame]
@[simp] theorem slotGet_cutFetch (q : Nat) (s : State) : slotGet (cutFetch s) q = slotGet s q := by rw [cutFetch_frame]; rfl
@[simp] theorem satGet_cutFetch (q : Nat) (s : State) : satGet (cutFetch s) q = satGet s q := by rw [cutFetch_frame]; rfl
@[simp] theorem viewGet_cutFetch (q : Nat) (s : State) : viewGet (cutFetch s) q = viewGet s q := by rw [cutFetch_frame]; rfl
@[simp] theorem slotViewGet_cutFetch (q : Nat) (s : State) : slotViewGet (cutFetch s) q = slotViewGet s q := by rw [cutFetch_frame]; rfl
@[simp] theorem parcelGet_cutFetch (q : Nat) (s : State) : parcelGet (cutFetch s) q = parcelGet s q := by rw [cutFetch_frame]; rfl
@[simp] theorem orderGet_cutFetch (q : Nat) (s : State) : orderGet (cutFetch s) q = orderGet s q := by rw [cutFetch_frame]; rfl
@[simp] theorem ldgGet_cutFetch (q : Nat) (s : State) : ldgGet (cutFetch s) q = ldgGet s q := by rw [cutFetch_frame]; rfl
@[simp] theorem railGet_cutFetch (q : Nat) (s : State) : railGet (cutFetch s) q = railGet s q := by rw [cutFetch_frame]; rfl
@[simp] theorem tetherGet_cutFetch (q : Nat) (s : State) : tetherGet (cutFetch s) q = tetherGet s q := by rw [cutFetch_frame]; rfl
@[simp] theorem portGet_cutFetch (q : Port) (s : State) : portGet (cutFetch s) q = portGet s q := by rw [cutFetch_frame]; rfl

/-! ### fallSlot -/

/-- A deactivation touches the slots and, for a local slot, the log; for L0 in an update flow, UPD. -/
theorem fallSlot_frame (k c : Nat) (e d : Bool) (x : Option SlotState) (y : Option Nat) (s : State) :
    fallSlot k c e d x y s = { s with
      slots := (fallSlot k c e d x y s).slots, log := (fallSlot k c e d x y s).log, upd := (fallSlot k c e d x y s).upd } := by
  unfold fallSlot; simp only; split
  · rw [queueRec_frame]; split <;> [rw [cutFetch_frame]; skip] <;> rfl
  · split <;> [rw [cutFetch_frame]; skip] <;> rfl

@[simp] theorem fallSlot_sys (k c : Nat) (e d : Bool) (x : Option SlotState) (y : Option Nat) (s : State) : (fallSlot k c e d x y s).sys = s.sys := by rw [fallSlot_frame]
@[simp] theorem fallSlot_fatal (k c : Nat) (e d : Bool) (x : Option SlotState) (y : Option Nat) (s : State) : (fallSlot k c e d x y s).fatal = s.fatal := by rw [fallSlot_frame]
@[simp] theorem fallSlot_pins (k c : Nat) (e d : Bool) (x : Option SlotState) (y : Option Nat) (s : State) : (fallSlot k c e d x y s).pins = s.pins := by rw [fallSlot_frame]
@[simp] theorem fallSlot_sup (k c : Nat) (e d : Bool) (x : Option SlotState) (y : Option Nat) (s : State) : (fallSlot k c e d x y s).sup = s.sup := by rw [fallSlot_frame]
@[simp] theorem fallSlot_start (k c : Nat) (e d : Bool) (x : Option SlotState) (y : Option Nat) (s : State) : (fallSlot k c e d x y s).start = s.start := by rw [fallSlot_frame]
@[simp] theorem fallSlot_fb (k c : Nat) (e d : Bool) (x : Option SlotState) (y : Option Nat) (s : State) : (fallSlot k c e d x y s).fb = s.fb := by rw [fallSlot_frame]
@[simp] theorem fallSlot_ports (k c : Nat) (e d : Bool) (x : Option SlotState) (y : Option Nat) (s : State) : (fallSlot k c e d x y s).ports = s.ports := by rw [fallSlot_frame]
@[simp] theorem fallSlot_mor (k c : Nat) (e d : Bool) (x : Option SlotState) (y : Option Nat) (s : State) : (fallSlot k c e d x y s).mor = s.mor := by rw [fallSlot_frame]
@[simp] theorem fallSlot_ord (k c : Nat) (e d : Bool) (x : Option SlotState) (y : Option Nat) (s : State) : (fallSlot k c e d x y s).ord = s.ord := by rw [fallSlot_frame]
@[simp] theorem fallSlot_tth (k c : Nat) (e d : Bool) (x : Option SlotState) (y : Option Nat) (s : State) : (fallSlot k c e d x y s).tth = s.tth := by rw [fallSlot_frame]
@[simp] theorem fallSlot_sat (k c : Nat) (e d : Bool) (x : Option SlotState) (y : Option Nat) (s : State) : (fallSlot k c e d x y s).sat = s.sat := by rw [fallSlot_frame]
@[simp] theorem fallSlot_ldg (k c : Nat) (e d : Bool) (x : Option SlotState) (y : Option Nat) (s : State) : (fallSlot k c e d x y s).ldg = s.ldg := by rw [fallSlot_frame]
@[simp] theorem fallSlot_rls (k c : Nat) (e d : Bool) (x : Option SlotState) (y : Option Nat) (s : State) : (fallSlot k c e d x y s).rls = s.rls := by rw [fallSlot_frame]
@[simp] theorem fallSlot_mea (k c : Nat) (e d : Bool) (x : Option SlotState) (y : Option Nat) (s : State) : (fallSlot k c e d x y s).mea = s.mea := by rw [fallSlot_frame]
@[simp] theorem fallSlot_lko (k c : Nat) (e d : Bool) (x : Option SlotState) (y : Option Nat) (s : State) : (fallSlot k c e d x y s).lko = s.lko := by rw [fallSlot_frame]
@[simp] theorem fallSlot_rnd (k c : Nat) (e d : Bool) (x : Option SlotState) (y : Option Nat) (s : State) : (fallSlot k c e d x y s).rnd = s.rnd := by rw [fallSlot_frame]
@[simp] theorem fallSlot_rig (k c : Nat) (e d : Bool) (x : Option SlotState) (y : Option Nat) (s : State) : (fallSlot k c e d x y s).rig = s.rig := by rw [fallSlot_frame]
@[simp] theorem fallSlot_rcd (k c : Nat) (e d : Bool) (x : Option SlotState) (y : Option Nat) (s : State) : (fallSlot k c e d x y s).rcd = s.rcd := by rw [fallSlot_frame]
@[simp] theorem fallSlot_free (k c : Nat) (e d : Bool) (x : Option SlotState) (y : Option Nat) (s : State) : (fallSlot k c e d x y s).free = s.free := by rw [fallSlot_frame]
@[simp] theorem fallSlot_pending (k c : Nat) (e d : Bool) (x : Option SlotState) (y : Option Nat) (s : State) : (fallSlot k c e d x y s).pending = s.pending := by rw [fallSlot_frame]
@[simp] theorem satGet_fallSlot (k c : Nat) (e d : Bool) (x : Option SlotState) (y : Option Nat) (q : Nat) (s : State) : satGet (fallSlot k c e d x y s) q = satGet s q := by rw [fallSlot_frame]; rfl
@[simp] theorem viewGet_fallSlot (k c : Nat) (e d : Bool) (x : Option SlotState) (y : Option Nat) (q : Nat) (s : State) : viewGet (fallSlot k c e d x y s) q = viewGet s q := by rw [fallSlot_frame]; rfl
@[simp] theorem slotViewGet_fallSlot (k c : Nat) (e d : Bool) (x : Option SlotState) (y : Option Nat) (q : Nat) (s : State) : slotViewGet (fallSlot k c e d x y s) q = slotViewGet s q := by rw [fallSlot_frame]; rfl
@[simp] theorem parcelGet_fallSlot (k c : Nat) (e d : Bool) (x : Option SlotState) (y : Option Nat) (q : Nat) (s : State) : parcelGet (fallSlot k c e d x y s) q = parcelGet s q := by rw [fallSlot_frame]; rfl
@[simp] theorem orderGet_fallSlot (k c : Nat) (e d : Bool) (x : Option SlotState) (y : Option Nat) (q : Nat) (s : State) : orderGet (fallSlot k c e d x y s) q = orderGet s q := by rw [fallSlot_frame]; rfl
@[simp] theorem ldgGet_fallSlot (k c : Nat) (e d : Bool) (x : Option SlotState) (y : Option Nat) (q : Nat) (s : State) : ldgGet (fallSlot k c e d x y s) q = ldgGet s q := by rw [fallSlot_frame]; rfl
@[simp] theorem railGet_fallSlot (k c : Nat) (e d : Bool) (x : Option SlotState) (y : Option Nat) (q : Nat) (s : State) : railGet (fallSlot k c e d x y s) q = railGet s q := by rw [fallSlot_frame]; rfl
@[simp] theorem tetherGet_fallSlot (k c : Nat) (e d : Bool) (x : Option SlotState) (y : Option Nat) (q : Nat) (s : State) : tetherGet (fallSlot k c e d x y s) q = tetherGet s q := by rw [fallSlot_frame]; rfl
@[simp] theorem portGet_fallSlot (k c : Nat) (e d : Bool) (x : Option SlotState) (y : Option Nat) (q : Port) (s : State) : portGet (fallSlot k c e d x y s) q = portGet s q := by rw [fallSlot_frame]; rfl

/-! ### fallNormal -/

/-- A normal deactivation. -/
theorem fallNormal_frame (k c : Nat) (s : State) :
    fallNormal k c s = { s with
      slots := (fallNormal k c s).slots, log := (fallNormal k c s).log, upd := (fallNormal k c s).upd } := by
  exact fallSlot_frame ..

@[simp] theorem fallNormal_sys (k c : Nat) (s : State) : (fallNormal k c s).sys = s.sys := by rw [fallNormal_frame]
@[simp] theorem fallNormal_fatal (k c : Nat) (s : State) : (fallNormal k c s).fatal = s.fatal := by rw [fallNormal_frame]
@[simp] theorem fallNormal_pins (k c : Nat) (s : State) : (fallNormal k c s).pins = s.pins := by rw [fallNormal_frame]
@[simp] theorem fallNormal_sup (k c : Nat) (s : State) : (fallNormal k c s).sup = s.sup := by rw [fallNormal_frame]
@[simp] theorem fallNormal_start (k c : Nat) (s : State) : (fallNormal k c s).start = s.start := by rw [fallNormal_frame]
@[simp] theorem fallNormal_fb (k c : Nat) (s : State) : (fallNormal k c s).fb = s.fb := by rw [fallNormal_frame]
@[simp] theorem fallNormal_ports (k c : Nat) (s : State) : (fallNormal k c s).ports = s.ports := by rw [fallNormal_frame]
@[simp] theorem fallNormal_mor (k c : Nat) (s : State) : (fallNormal k c s).mor = s.mor := by rw [fallNormal_frame]
@[simp] theorem fallNormal_ord (k c : Nat) (s : State) : (fallNormal k c s).ord = s.ord := by rw [fallNormal_frame]
@[simp] theorem fallNormal_tth (k c : Nat) (s : State) : (fallNormal k c s).tth = s.tth := by rw [fallNormal_frame]
@[simp] theorem fallNormal_sat (k c : Nat) (s : State) : (fallNormal k c s).sat = s.sat := by rw [fallNormal_frame]
@[simp] theorem fallNormal_ldg (k c : Nat) (s : State) : (fallNormal k c s).ldg = s.ldg := by rw [fallNormal_frame]
@[simp] theorem fallNormal_rls (k c : Nat) (s : State) : (fallNormal k c s).rls = s.rls := by rw [fallNormal_frame]
@[simp] theorem fallNormal_mea (k c : Nat) (s : State) : (fallNormal k c s).mea = s.mea := by rw [fallNormal_frame]
@[simp] theorem fallNormal_lko (k c : Nat) (s : State) : (fallNormal k c s).lko = s.lko := by rw [fallNormal_frame]
@[simp] theorem fallNormal_rnd (k c : Nat) (s : State) : (fallNormal k c s).rnd = s.rnd := by rw [fallNormal_frame]
@[simp] theorem fallNormal_rig (k c : Nat) (s : State) : (fallNormal k c s).rig = s.rig := by rw [fallNormal_frame]
@[simp] theorem fallNormal_rcd (k c : Nat) (s : State) : (fallNormal k c s).rcd = s.rcd := by rw [fallNormal_frame]
@[simp] theorem fallNormal_free (k c : Nat) (s : State) : (fallNormal k c s).free = s.free := by rw [fallNormal_frame]
@[simp] theorem fallNormal_pending (k c : Nat) (s : State) : (fallNormal k c s).pending = s.pending := by rw [fallNormal_frame]
@[simp] theorem satGet_fallNormal (k c : Nat) (q : Nat) (s : State) : satGet (fallNormal k c s) q = satGet s q := by rw [fallNormal_frame]; rfl
@[simp] theorem viewGet_fallNormal (k c : Nat) (q : Nat) (s : State) : viewGet (fallNormal k c s) q = viewGet s q := by rw [fallNormal_frame]; rfl
@[simp] theorem slotViewGet_fallNormal (k c : Nat) (q : Nat) (s : State) : slotViewGet (fallNormal k c s) q = slotViewGet s q := by rw [fallNormal_frame]; rfl
@[simp] theorem parcelGet_fallNormal (k c : Nat) (q : Nat) (s : State) : parcelGet (fallNormal k c s) q = parcelGet s q := by rw [fallNormal_frame]; rfl
@[simp] theorem orderGet_fallNormal (k c : Nat) (q : Nat) (s : State) : orderGet (fallNormal k c s) q = orderGet s q := by rw [fallNormal_frame]; rfl
@[simp] theorem ldgGet_fallNormal (k c : Nat) (q : Nat) (s : State) : ldgGet (fallNormal k c s) q = ldgGet s q := by rw [fallNormal_frame]; rfl
@[simp] theorem railGet_fallNormal (k c : Nat) (q : Nat) (s : State) : railGet (fallNormal k c s) q = railGet s q := by rw [fallNormal_frame]; rfl
@[simp] theorem tetherGet_fallNormal (k c : Nat) (q : Nat) (s : State) : tetherGet (fallNormal k c s) q = tetherGet s q := by rw [fallNormal_frame]; rfl
@[simp] theorem portGet_fallNormal (k c : Nat) (q : Port) (s : State) : portGet (fallNormal k c s) q = portGet s q := by rw [fallNormal_frame]; rfl

/-! ### modOrder -/

/-- An order changes in the order block. -/
theorem modOrder_frame (i : Nat) (f : Order → Order) (s : State) :
    modOrder i f s = { s with
      ord := (modOrder i f s).ord } := by
  rfl

@[simp] theorem modOrder_sys (i : Nat) (f : Order → Order) (s : State) : (modOrder i f s).sys = s.sys := by rw [modOrder_frame]
@[simp] theorem modOrder_fatal (i : Nat) (f : Order → Order) (s : State) : (modOrder i f s).fatal = s.fatal := by rw [modOrder_frame]
@[simp] theorem modOrder_pins (i : Nat) (f : Order → Order) (s : State) : (modOrder i f s).pins = s.pins := by rw [modOrder_frame]
@[simp] theorem modOrder_sup (i : Nat) (f : Order → Order) (s : State) : (modOrder i f s).sup = s.sup := by rw [modOrder_frame]
@[simp] theorem modOrder_start (i : Nat) (f : Order → Order) (s : State) : (modOrder i f s).start = s.start := by rw [modOrder_frame]
@[simp] theorem modOrder_fb (i : Nat) (f : Order → Order) (s : State) : (modOrder i f s).fb = s.fb := by rw [modOrder_frame]
@[simp] theorem modOrder_ports (i : Nat) (f : Order → Order) (s : State) : (modOrder i f s).ports = s.ports := by rw [modOrder_frame]
@[simp] theorem modOrder_mor (i : Nat) (f : Order → Order) (s : State) : (modOrder i f s).mor = s.mor := by rw [modOrder_frame]
@[simp] theorem modOrder_slots (i : Nat) (f : Order → Order) (s : State) : (modOrder i f s).slots = s.slots := by rw [modOrder_frame]
@[simp] theorem modOrder_tth (i : Nat) (f : Order → Order) (s : State) : (modOrder i f s).tth = s.tth := by rw [modOrder_frame]
@[simp] theorem modOrder_sat (i : Nat) (f : Order → Order) (s : State) : (modOrder i f s).sat = s.sat := by rw [modOrder_frame]
@[simp] theorem modOrder_ldg (i : Nat) (f : Order → Order) (s : State) : (modOrder i f s).ldg = s.ldg := by rw [modOrder_frame]
@[simp] theorem modOrder_rls (i : Nat) (f : Order → Order) (s : State) : (modOrder i f s).rls = s.rls := by rw [modOrder_frame]
@[simp] theorem modOrder_mea (i : Nat) (f : Order → Order) (s : State) : (modOrder i f s).mea = s.mea := by rw [modOrder_frame]
@[simp] theorem modOrder_lko (i : Nat) (f : Order → Order) (s : State) : (modOrder i f s).lko = s.lko := by rw [modOrder_frame]
@[simp] theorem modOrder_log (i : Nat) (f : Order → Order) (s : State) : (modOrder i f s).log = s.log := by rw [modOrder_frame]
@[simp] theorem modOrder_rnd (i : Nat) (f : Order → Order) (s : State) : (modOrder i f s).rnd = s.rnd := by rw [modOrder_frame]
@[simp] theorem modOrder_upd (i : Nat) (f : Order → Order) (s : State) : (modOrder i f s).upd = s.upd := by rw [modOrder_frame]
@[simp] theorem modOrder_rig (i : Nat) (f : Order → Order) (s : State) : (modOrder i f s).rig = s.rig := by rw [modOrder_frame]
@[simp] theorem modOrder_rcd (i : Nat) (f : Order → Order) (s : State) : (modOrder i f s).rcd = s.rcd := by rw [modOrder_frame]
@[simp] theorem modOrder_free (i : Nat) (f : Order → Order) (s : State) : (modOrder i f s).free = s.free := by rw [modOrder_frame]
@[simp] theorem modOrder_pending (i : Nat) (f : Order → Order) (s : State) : (modOrder i f s).pending = s.pending := by rw [modOrder_frame]
@[simp] theorem slotGet_modOrder (i : Nat) (f : Order → Order) (q : Nat) (s : State) : slotGet (modOrder i f s) q = slotGet s q := by rw [modOrder_frame]; rfl
@[simp] theorem satGet_modOrder (i : Nat) (f : Order → Order) (q : Nat) (s : State) : satGet (modOrder i f s) q = satGet s q := by rw [modOrder_frame]; rfl
@[simp] theorem viewGet_modOrder (i : Nat) (f : Order → Order) (q : Nat) (s : State) : viewGet (modOrder i f s) q = viewGet s q := by rw [modOrder_frame]; rfl
@[simp] theorem slotViewGet_modOrder (i : Nat) (f : Order → Order) (q : Nat) (s : State) : slotViewGet (modOrder i f s) q = slotViewGet s q := by rw [modOrder_frame]; rfl
@[simp] theorem ldgGet_modOrder (i : Nat) (f : Order → Order) (q : Nat) (s : State) : ldgGet (modOrder i f s) q = ldgGet s q := by rw [modOrder_frame]; rfl
@[simp] theorem railGet_modOrder (i : Nat) (f : Order → Order) (q : Nat) (s : State) : railGet (modOrder i f s) q = railGet s q := by rw [modOrder_frame]; rfl
@[simp] theorem tetherGet_modOrder (i : Nat) (f : Order → Order) (q : Nat) (s : State) : tetherGet (modOrder i f s) q = tetherGet s q := by rw [modOrder_frame]; rfl
@[simp] theorem portGet_modOrder (i : Nat) (f : Order → Order) (q : Port) (s : State) : portGet (modOrder i f s) q = portGet s q := by rw [modOrder_frame]; rfl

/-! ### parcelFree -/

/-- A parcel is freed. -/
theorem parcelFree_frame (n : Nat) (s : State) :
    parcelFree n s = { s with
      ord := (parcelFree n s).ord } := by
  rfl

@[simp] theorem parcelFree_sys (n : Nat) (s : State) : (parcelFree n s).sys = s.sys := by rw [parcelFree_frame]
@[simp] theorem parcelFree_fatal (n : Nat) (s : State) : (parcelFree n s).fatal = s.fatal := by rw [parcelFree_frame]
@[simp] theorem parcelFree_pins (n : Nat) (s : State) : (parcelFree n s).pins = s.pins := by rw [parcelFree_frame]
@[simp] theorem parcelFree_sup (n : Nat) (s : State) : (parcelFree n s).sup = s.sup := by rw [parcelFree_frame]
@[simp] theorem parcelFree_start (n : Nat) (s : State) : (parcelFree n s).start = s.start := by rw [parcelFree_frame]
@[simp] theorem parcelFree_fb (n : Nat) (s : State) : (parcelFree n s).fb = s.fb := by rw [parcelFree_frame]
@[simp] theorem parcelFree_ports (n : Nat) (s : State) : (parcelFree n s).ports = s.ports := by rw [parcelFree_frame]
@[simp] theorem parcelFree_mor (n : Nat) (s : State) : (parcelFree n s).mor = s.mor := by rw [parcelFree_frame]
@[simp] theorem parcelFree_slots (n : Nat) (s : State) : (parcelFree n s).slots = s.slots := by rw [parcelFree_frame]
@[simp] theorem parcelFree_tth (n : Nat) (s : State) : (parcelFree n s).tth = s.tth := by rw [parcelFree_frame]
@[simp] theorem parcelFree_sat (n : Nat) (s : State) : (parcelFree n s).sat = s.sat := by rw [parcelFree_frame]
@[simp] theorem parcelFree_ldg (n : Nat) (s : State) : (parcelFree n s).ldg = s.ldg := by rw [parcelFree_frame]
@[simp] theorem parcelFree_rls (n : Nat) (s : State) : (parcelFree n s).rls = s.rls := by rw [parcelFree_frame]
@[simp] theorem parcelFree_mea (n : Nat) (s : State) : (parcelFree n s).mea = s.mea := by rw [parcelFree_frame]
@[simp] theorem parcelFree_lko (n : Nat) (s : State) : (parcelFree n s).lko = s.lko := by rw [parcelFree_frame]
@[simp] theorem parcelFree_log (n : Nat) (s : State) : (parcelFree n s).log = s.log := by rw [parcelFree_frame]
@[simp] theorem parcelFree_rnd (n : Nat) (s : State) : (parcelFree n s).rnd = s.rnd := by rw [parcelFree_frame]
@[simp] theorem parcelFree_upd (n : Nat) (s : State) : (parcelFree n s).upd = s.upd := by rw [parcelFree_frame]
@[simp] theorem parcelFree_rig (n : Nat) (s : State) : (parcelFree n s).rig = s.rig := by rw [parcelFree_frame]
@[simp] theorem parcelFree_rcd (n : Nat) (s : State) : (parcelFree n s).rcd = s.rcd := by rw [parcelFree_frame]
@[simp] theorem parcelFree_free (n : Nat) (s : State) : (parcelFree n s).free = s.free := by rw [parcelFree_frame]
@[simp] theorem parcelFree_pending (n : Nat) (s : State) : (parcelFree n s).pending = s.pending := by rw [parcelFree_frame]
@[simp] theorem slotGet_parcelFree (n : Nat) (q : Nat) (s : State) : slotGet (parcelFree n s) q = slotGet s q := by rw [parcelFree_frame]; rfl
@[simp] theorem satGet_parcelFree (n : Nat) (q : Nat) (s : State) : satGet (parcelFree n s) q = satGet s q := by rw [parcelFree_frame]; rfl
@[simp] theorem viewGet_parcelFree (n : Nat) (q : Nat) (s : State) : viewGet (parcelFree n s) q = viewGet s q := by rw [parcelFree_frame]; rfl
@[simp] theorem slotViewGet_parcelFree (n : Nat) (q : Nat) (s : State) : slotViewGet (parcelFree n s) q = slotViewGet s q := by rw [parcelFree_frame]; rfl
@[simp] theorem ldgGet_parcelFree (n : Nat) (q : Nat) (s : State) : ldgGet (parcelFree n s) q = ldgGet s q := by rw [parcelFree_frame]; rfl
@[simp] theorem railGet_parcelFree (n : Nat) (q : Nat) (s : State) : railGet (parcelFree n s) q = railGet s q := by rw [parcelFree_frame]; rfl
@[simp] theorem tetherGet_parcelFree (n : Nat) (q : Nat) (s : State) : tetherGet (parcelFree n s) q = tetherGet s q := by rw [parcelFree_frame]; rfl
@[simp] theorem portGet_parcelFree (n : Nat) (q : Port) (s : State) : portGet (parcelFree n s) q = portGet s q := by rw [parcelFree_frame]; rfl

/-! ### parcelRelease -/

/-- A parcel may be freed. -/
theorem parcelRelease_frame (n : Nat) (s : State) :
    parcelRelease n s = { s with
      ord := (parcelRelease n s).ord } := by
  unfold parcelRelease; split <;> rfl

@[simp] theorem parcelRelease_sys (n : Nat) (s : State) : (parcelRelease n s).sys = s.sys := by rw [parcelRelease_frame]
@[simp] theorem parcelRelease_fatal (n : Nat) (s : State) : (parcelRelease n s).fatal = s.fatal := by rw [parcelRelease_frame]
@[simp] theorem parcelRelease_pins (n : Nat) (s : State) : (parcelRelease n s).pins = s.pins := by rw [parcelRelease_frame]
@[simp] theorem parcelRelease_sup (n : Nat) (s : State) : (parcelRelease n s).sup = s.sup := by rw [parcelRelease_frame]
@[simp] theorem parcelRelease_start (n : Nat) (s : State) : (parcelRelease n s).start = s.start := by rw [parcelRelease_frame]
@[simp] theorem parcelRelease_fb (n : Nat) (s : State) : (parcelRelease n s).fb = s.fb := by rw [parcelRelease_frame]
@[simp] theorem parcelRelease_ports (n : Nat) (s : State) : (parcelRelease n s).ports = s.ports := by rw [parcelRelease_frame]
@[simp] theorem parcelRelease_mor (n : Nat) (s : State) : (parcelRelease n s).mor = s.mor := by rw [parcelRelease_frame]
@[simp] theorem parcelRelease_slots (n : Nat) (s : State) : (parcelRelease n s).slots = s.slots := by rw [parcelRelease_frame]
@[simp] theorem parcelRelease_tth (n : Nat) (s : State) : (parcelRelease n s).tth = s.tth := by rw [parcelRelease_frame]
@[simp] theorem parcelRelease_sat (n : Nat) (s : State) : (parcelRelease n s).sat = s.sat := by rw [parcelRelease_frame]
@[simp] theorem parcelRelease_ldg (n : Nat) (s : State) : (parcelRelease n s).ldg = s.ldg := by rw [parcelRelease_frame]
@[simp] theorem parcelRelease_rls (n : Nat) (s : State) : (parcelRelease n s).rls = s.rls := by rw [parcelRelease_frame]
@[simp] theorem parcelRelease_mea (n : Nat) (s : State) : (parcelRelease n s).mea = s.mea := by rw [parcelRelease_frame]
@[simp] theorem parcelRelease_lko (n : Nat) (s : State) : (parcelRelease n s).lko = s.lko := by rw [parcelRelease_frame]
@[simp] theorem parcelRelease_log (n : Nat) (s : State) : (parcelRelease n s).log = s.log := by rw [parcelRelease_frame]
@[simp] theorem parcelRelease_rnd (n : Nat) (s : State) : (parcelRelease n s).rnd = s.rnd := by rw [parcelRelease_frame]
@[simp] theorem parcelRelease_upd (n : Nat) (s : State) : (parcelRelease n s).upd = s.upd := by rw [parcelRelease_frame]
@[simp] theorem parcelRelease_rig (n : Nat) (s : State) : (parcelRelease n s).rig = s.rig := by rw [parcelRelease_frame]
@[simp] theorem parcelRelease_rcd (n : Nat) (s : State) : (parcelRelease n s).rcd = s.rcd := by rw [parcelRelease_frame]
@[simp] theorem parcelRelease_free (n : Nat) (s : State) : (parcelRelease n s).free = s.free := by rw [parcelRelease_frame]
@[simp] theorem parcelRelease_pending (n : Nat) (s : State) : (parcelRelease n s).pending = s.pending := by rw [parcelRelease_frame]
@[simp] theorem slotGet_parcelRelease (n : Nat) (q : Nat) (s : State) : slotGet (parcelRelease n s) q = slotGet s q := by rw [parcelRelease_frame]; rfl
@[simp] theorem satGet_parcelRelease (n : Nat) (q : Nat) (s : State) : satGet (parcelRelease n s) q = satGet s q := by rw [parcelRelease_frame]; rfl
@[simp] theorem viewGet_parcelRelease (n : Nat) (q : Nat) (s : State) : viewGet (parcelRelease n s) q = viewGet s q := by rw [parcelRelease_frame]; rfl
@[simp] theorem slotViewGet_parcelRelease (n : Nat) (q : Nat) (s : State) : slotViewGet (parcelRelease n s) q = slotViewGet s q := by rw [parcelRelease_frame]; rfl
@[simp] theorem ldgGet_parcelRelease (n : Nat) (q : Nat) (s : State) : ldgGet (parcelRelease n s) q = ldgGet s q := by rw [parcelRelease_frame]; rfl
@[simp] theorem railGet_parcelRelease (n : Nat) (q : Nat) (s : State) : railGet (parcelRelease n s) q = railGet s q := by rw [parcelRelease_frame]; rfl
@[simp] theorem tetherGet_parcelRelease (n : Nat) (q : Nat) (s : State) : tetherGet (parcelRelease n s) q = tetherGet s q := by rw [parcelRelease_frame]; rfl
@[simp] theorem portGet_parcelRelease (n : Nat) (q : Port) (s : State) : portGet (parcelRelease n s) q = portGet s q := by rw [parcelRelease_frame]; rfl

/-! ### dropOrder -/

theorem foldl_frame_release (l : List Nat) (s : State) :
    l.foldl (fun s n => parcelRelease n s) s = { s with ord := (l.foldl (fun s n => parcelRelease n s) s).ord } := by
  induction l generalizing s with
  | nil => rfl
  | cons j l ih => simp only [List.foldl_cons]; rw [ih, parcelRelease_frame]

/-- An order leaves. -/
theorem dropOrder_frame (o : Order) (s : State) :
    dropOrder o s = { s with
      ord := (dropOrder o s).ord } := by
  simp only [dropOrder]
  rw [foldl_frame_release]

@[simp] theorem dropOrder_sys (o : Order) (s : State) : (dropOrder o s).sys = s.sys := by rw [dropOrder_frame]
@[simp] theorem dropOrder_fatal (o : Order) (s : State) : (dropOrder o s).fatal = s.fatal := by rw [dropOrder_frame]
@[simp] theorem dropOrder_pins (o : Order) (s : State) : (dropOrder o s).pins = s.pins := by rw [dropOrder_frame]
@[simp] theorem dropOrder_sup (o : Order) (s : State) : (dropOrder o s).sup = s.sup := by rw [dropOrder_frame]
@[simp] theorem dropOrder_start (o : Order) (s : State) : (dropOrder o s).start = s.start := by rw [dropOrder_frame]
@[simp] theorem dropOrder_fb (o : Order) (s : State) : (dropOrder o s).fb = s.fb := by rw [dropOrder_frame]
@[simp] theorem dropOrder_ports (o : Order) (s : State) : (dropOrder o s).ports = s.ports := by rw [dropOrder_frame]
@[simp] theorem dropOrder_mor (o : Order) (s : State) : (dropOrder o s).mor = s.mor := by rw [dropOrder_frame]
@[simp] theorem dropOrder_slots (o : Order) (s : State) : (dropOrder o s).slots = s.slots := by rw [dropOrder_frame]
@[simp] theorem dropOrder_tth (o : Order) (s : State) : (dropOrder o s).tth = s.tth := by rw [dropOrder_frame]
@[simp] theorem dropOrder_sat (o : Order) (s : State) : (dropOrder o s).sat = s.sat := by rw [dropOrder_frame]
@[simp] theorem dropOrder_ldg (o : Order) (s : State) : (dropOrder o s).ldg = s.ldg := by rw [dropOrder_frame]
@[simp] theorem dropOrder_rls (o : Order) (s : State) : (dropOrder o s).rls = s.rls := by rw [dropOrder_frame]
@[simp] theorem dropOrder_mea (o : Order) (s : State) : (dropOrder o s).mea = s.mea := by rw [dropOrder_frame]
@[simp] theorem dropOrder_lko (o : Order) (s : State) : (dropOrder o s).lko = s.lko := by rw [dropOrder_frame]
@[simp] theorem dropOrder_log (o : Order) (s : State) : (dropOrder o s).log = s.log := by rw [dropOrder_frame]
@[simp] theorem dropOrder_rnd (o : Order) (s : State) : (dropOrder o s).rnd = s.rnd := by rw [dropOrder_frame]
@[simp] theorem dropOrder_upd (o : Order) (s : State) : (dropOrder o s).upd = s.upd := by rw [dropOrder_frame]
@[simp] theorem dropOrder_rig (o : Order) (s : State) : (dropOrder o s).rig = s.rig := by rw [dropOrder_frame]
@[simp] theorem dropOrder_rcd (o : Order) (s : State) : (dropOrder o s).rcd = s.rcd := by rw [dropOrder_frame]
@[simp] theorem dropOrder_free (o : Order) (s : State) : (dropOrder o s).free = s.free := by rw [dropOrder_frame]
@[simp] theorem dropOrder_pending (o : Order) (s : State) : (dropOrder o s).pending = s.pending := by rw [dropOrder_frame]
@[simp] theorem slotGet_dropOrder (o : Order) (q : Nat) (s : State) : slotGet (dropOrder o s) q = slotGet s q := by rw [dropOrder_frame]; rfl
@[simp] theorem satGet_dropOrder (o : Order) (q : Nat) (s : State) : satGet (dropOrder o s) q = satGet s q := by rw [dropOrder_frame]; rfl
@[simp] theorem viewGet_dropOrder (o : Order) (q : Nat) (s : State) : viewGet (dropOrder o s) q = viewGet s q := by rw [dropOrder_frame]; rfl
@[simp] theorem slotViewGet_dropOrder (o : Order) (q : Nat) (s : State) : slotViewGet (dropOrder o s) q = slotViewGet s q := by rw [dropOrder_frame]; rfl
@[simp] theorem ldgGet_dropOrder (o : Order) (q : Nat) (s : State) : ldgGet (dropOrder o s) q = ldgGet s q := by rw [dropOrder_frame]; rfl
@[simp] theorem railGet_dropOrder (o : Order) (q : Nat) (s : State) : railGet (dropOrder o s) q = railGet s q := by rw [dropOrder_frame]; rfl
@[simp] theorem tetherGet_dropOrder (o : Order) (q : Nat) (s : State) : tetherGet (dropOrder o s) q = tetherGet s q := by rw [dropOrder_frame]; rfl
@[simp] theorem portGet_dropOrder (o : Order) (q : Port) (s : State) : portGet (dropOrder o s) q = portGet s q := by rw [dropOrder_frame]; rfl

/-! ### postRet -/

/-- A return is posted. -/
theorem postRet_frame (p : Port) (r : Ret) (s : State) :
    postRet p r s = { s with
      ord := (postRet p r s).ord } := by
  rfl

@[simp] theorem postRet_sys (p : Port) (r : Ret) (s : State) : (postRet p r s).sys = s.sys := by rw [postRet_frame]
@[simp] theorem postRet_fatal (p : Port) (r : Ret) (s : State) : (postRet p r s).fatal = s.fatal := by rw [postRet_frame]
@[simp] theorem postRet_pins (p : Port) (r : Ret) (s : State) : (postRet p r s).pins = s.pins := by rw [postRet_frame]
@[simp] theorem postRet_sup (p : Port) (r : Ret) (s : State) : (postRet p r s).sup = s.sup := by rw [postRet_frame]
@[simp] theorem postRet_start (p : Port) (r : Ret) (s : State) : (postRet p r s).start = s.start := by rw [postRet_frame]
@[simp] theorem postRet_fb (p : Port) (r : Ret) (s : State) : (postRet p r s).fb = s.fb := by rw [postRet_frame]
@[simp] theorem postRet_ports (p : Port) (r : Ret) (s : State) : (postRet p r s).ports = s.ports := by rw [postRet_frame]
@[simp] theorem postRet_mor (p : Port) (r : Ret) (s : State) : (postRet p r s).mor = s.mor := by rw [postRet_frame]
@[simp] theorem postRet_slots (p : Port) (r : Ret) (s : State) : (postRet p r s).slots = s.slots := by rw [postRet_frame]
@[simp] theorem postRet_tth (p : Port) (r : Ret) (s : State) : (postRet p r s).tth = s.tth := by rw [postRet_frame]
@[simp] theorem postRet_sat (p : Port) (r : Ret) (s : State) : (postRet p r s).sat = s.sat := by rw [postRet_frame]
@[simp] theorem postRet_ldg (p : Port) (r : Ret) (s : State) : (postRet p r s).ldg = s.ldg := by rw [postRet_frame]
@[simp] theorem postRet_rls (p : Port) (r : Ret) (s : State) : (postRet p r s).rls = s.rls := by rw [postRet_frame]
@[simp] theorem postRet_mea (p : Port) (r : Ret) (s : State) : (postRet p r s).mea = s.mea := by rw [postRet_frame]
@[simp] theorem postRet_lko (p : Port) (r : Ret) (s : State) : (postRet p r s).lko = s.lko := by rw [postRet_frame]
@[simp] theorem postRet_log (p : Port) (r : Ret) (s : State) : (postRet p r s).log = s.log := by rw [postRet_frame]
@[simp] theorem postRet_rnd (p : Port) (r : Ret) (s : State) : (postRet p r s).rnd = s.rnd := by rw [postRet_frame]
@[simp] theorem postRet_upd (p : Port) (r : Ret) (s : State) : (postRet p r s).upd = s.upd := by rw [postRet_frame]
@[simp] theorem postRet_rig (p : Port) (r : Ret) (s : State) : (postRet p r s).rig = s.rig := by rw [postRet_frame]
@[simp] theorem postRet_rcd (p : Port) (r : Ret) (s : State) : (postRet p r s).rcd = s.rcd := by rw [postRet_frame]
@[simp] theorem postRet_free (p : Port) (r : Ret) (s : State) : (postRet p r s).free = s.free := by rw [postRet_frame]
@[simp] theorem postRet_pending (p : Port) (r : Ret) (s : State) : (postRet p r s).pending = s.pending := by rw [postRet_frame]
@[simp] theorem slotGet_postRet (p : Port) (r : Ret) (q : Nat) (s : State) : slotGet (postRet p r s) q = slotGet s q := by rw [postRet_frame]; rfl
@[simp] theorem satGet_postRet (p : Port) (r : Ret) (q : Nat) (s : State) : satGet (postRet p r s) q = satGet s q := by rw [postRet_frame]; rfl
@[simp] theorem viewGet_postRet (p : Port) (r : Ret) (q : Nat) (s : State) : viewGet (postRet p r s) q = viewGet s q := by rw [postRet_frame]; rfl
@[simp] theorem slotViewGet_postRet (p : Port) (r : Ret) (q : Nat) (s : State) : slotViewGet (postRet p r s) q = slotViewGet s q := by rw [postRet_frame]; rfl
@[simp] theorem ldgGet_postRet (p : Port) (r : Ret) (q : Nat) (s : State) : ldgGet (postRet p r s) q = ldgGet s q := by rw [postRet_frame]; rfl
@[simp] theorem railGet_postRet (p : Port) (r : Ret) (q : Nat) (s : State) : railGet (postRet p r s) q = railGet s q := by rw [postRet_frame]; rfl
@[simp] theorem tetherGet_postRet (p : Port) (r : Ret) (q : Nat) (s : State) : tetherGet (postRet p r s) q = tetherGet s q := by rw [postRet_frame]; rfl
@[simp] theorem portGet_postRet (p : Port) (r : Ret) (q : Port) (s : State) : portGet (postRet p r s) q = portGet s q := by rw [postRet_frame]; rfl

/-! ### enterWindow -/

/-- A return enters the tag window. -/
theorem enterWindow_frame (p : Port) (r : Ret) (s : State) :
    enterWindow p r s = { s with
      ord := (enterWindow p r s).ord } := by
  unfold enterWindow; split <;> rfl

@[simp] theorem enterWindow_sys (p : Port) (r : Ret) (s : State) : (enterWindow p r s).sys = s.sys := by rw [enterWindow_frame]
@[simp] theorem enterWindow_fatal (p : Port) (r : Ret) (s : State) : (enterWindow p r s).fatal = s.fatal := by rw [enterWindow_frame]
@[simp] theorem enterWindow_pins (p : Port) (r : Ret) (s : State) : (enterWindow p r s).pins = s.pins := by rw [enterWindow_frame]
@[simp] theorem enterWindow_sup (p : Port) (r : Ret) (s : State) : (enterWindow p r s).sup = s.sup := by rw [enterWindow_frame]
@[simp] theorem enterWindow_start (p : Port) (r : Ret) (s : State) : (enterWindow p r s).start = s.start := by rw [enterWindow_frame]
@[simp] theorem enterWindow_fb (p : Port) (r : Ret) (s : State) : (enterWindow p r s).fb = s.fb := by rw [enterWindow_frame]
@[simp] theorem enterWindow_ports (p : Port) (r : Ret) (s : State) : (enterWindow p r s).ports = s.ports := by rw [enterWindow_frame]
@[simp] theorem enterWindow_mor (p : Port) (r : Ret) (s : State) : (enterWindow p r s).mor = s.mor := by rw [enterWindow_frame]
@[simp] theorem enterWindow_slots (p : Port) (r : Ret) (s : State) : (enterWindow p r s).slots = s.slots := by rw [enterWindow_frame]
@[simp] theorem enterWindow_tth (p : Port) (r : Ret) (s : State) : (enterWindow p r s).tth = s.tth := by rw [enterWindow_frame]
@[simp] theorem enterWindow_sat (p : Port) (r : Ret) (s : State) : (enterWindow p r s).sat = s.sat := by rw [enterWindow_frame]
@[simp] theorem enterWindow_ldg (p : Port) (r : Ret) (s : State) : (enterWindow p r s).ldg = s.ldg := by rw [enterWindow_frame]
@[simp] theorem enterWindow_rls (p : Port) (r : Ret) (s : State) : (enterWindow p r s).rls = s.rls := by rw [enterWindow_frame]
@[simp] theorem enterWindow_mea (p : Port) (r : Ret) (s : State) : (enterWindow p r s).mea = s.mea := by rw [enterWindow_frame]
@[simp] theorem enterWindow_lko (p : Port) (r : Ret) (s : State) : (enterWindow p r s).lko = s.lko := by rw [enterWindow_frame]
@[simp] theorem enterWindow_log (p : Port) (r : Ret) (s : State) : (enterWindow p r s).log = s.log := by rw [enterWindow_frame]
@[simp] theorem enterWindow_rnd (p : Port) (r : Ret) (s : State) : (enterWindow p r s).rnd = s.rnd := by rw [enterWindow_frame]
@[simp] theorem enterWindow_upd (p : Port) (r : Ret) (s : State) : (enterWindow p r s).upd = s.upd := by rw [enterWindow_frame]
@[simp] theorem enterWindow_rig (p : Port) (r : Ret) (s : State) : (enterWindow p r s).rig = s.rig := by rw [enterWindow_frame]
@[simp] theorem enterWindow_rcd (p : Port) (r : Ret) (s : State) : (enterWindow p r s).rcd = s.rcd := by rw [enterWindow_frame]
@[simp] theorem enterWindow_free (p : Port) (r : Ret) (s : State) : (enterWindow p r s).free = s.free := by rw [enterWindow_frame]
@[simp] theorem enterWindow_pending (p : Port) (r : Ret) (s : State) : (enterWindow p r s).pending = s.pending := by rw [enterWindow_frame]
@[simp] theorem slotGet_enterWindow (p : Port) (r : Ret) (q : Nat) (s : State) : slotGet (enterWindow p r s) q = slotGet s q := by rw [enterWindow_frame]; rfl
@[simp] theorem satGet_enterWindow (p : Port) (r : Ret) (q : Nat) (s : State) : satGet (enterWindow p r s) q = satGet s q := by rw [enterWindow_frame]; rfl
@[simp] theorem viewGet_enterWindow (p : Port) (r : Ret) (q : Nat) (s : State) : viewGet (enterWindow p r s) q = viewGet s q := by rw [enterWindow_frame]; rfl
@[simp] theorem slotViewGet_enterWindow (p : Port) (r : Ret) (q : Nat) (s : State) : slotViewGet (enterWindow p r s) q = slotViewGet s q := by rw [enterWindow_frame]; rfl
@[simp] theorem ldgGet_enterWindow (p : Port) (r : Ret) (q : Nat) (s : State) : ldgGet (enterWindow p r s) q = ldgGet s q := by rw [enterWindow_frame]; rfl
@[simp] theorem railGet_enterWindow (p : Port) (r : Ret) (q : Nat) (s : State) : railGet (enterWindow p r s) q = railGet s q := by rw [enterWindow_frame]; rfl
@[simp] theorem tetherGet_enterWindow (p : Port) (r : Ret) (q : Nat) (s : State) : tetherGet (enterWindow p r s) q = tetherGet s q := by rw [enterWindow_frame]; rfl
@[simp] theorem portGet_enterWindow (p : Port) (r : Ret) (q : Port) (s : State) : portGet (enterWindow p r s) q = portGet s q := by rw [enterWindow_frame]; rfl

/-! ### endOrder -/

/-- The end of an order touches ORD, PCL and MOR alone. -/
theorem endOrder_frame (o : Order) (c l : Nat) (s : State) :
    endOrder o c l s = { s with
      ord := (endOrder o c l s).ord, mor := (endOrder o c l s).mor } := by
  unfold endOrder; dsimp only
  split
  · rw [dropOrder_frame]
  · split
    · rw [dropOrder_frame]
    · rw [enterWindow_frame, postRet_frame, dropOrder_frame]

@[simp] theorem endOrder_sys (o : Order) (c l : Nat) (s : State) : (endOrder o c l s).sys = s.sys := by rw [endOrder_frame]
@[simp] theorem endOrder_fatal (o : Order) (c l : Nat) (s : State) : (endOrder o c l s).fatal = s.fatal := by rw [endOrder_frame]
@[simp] theorem endOrder_pins (o : Order) (c l : Nat) (s : State) : (endOrder o c l s).pins = s.pins := by rw [endOrder_frame]
@[simp] theorem endOrder_sup (o : Order) (c l : Nat) (s : State) : (endOrder o c l s).sup = s.sup := by rw [endOrder_frame]
@[simp] theorem endOrder_start (o : Order) (c l : Nat) (s : State) : (endOrder o c l s).start = s.start := by rw [endOrder_frame]
@[simp] theorem endOrder_fb (o : Order) (c l : Nat) (s : State) : (endOrder o c l s).fb = s.fb := by rw [endOrder_frame]
@[simp] theorem endOrder_ports (o : Order) (c l : Nat) (s : State) : (endOrder o c l s).ports = s.ports := by rw [endOrder_frame]
@[simp] theorem endOrder_slots (o : Order) (c l : Nat) (s : State) : (endOrder o c l s).slots = s.slots := by rw [endOrder_frame]
@[simp] theorem endOrder_tth (o : Order) (c l : Nat) (s : State) : (endOrder o c l s).tth = s.tth := by rw [endOrder_frame]
@[simp] theorem endOrder_sat (o : Order) (c l : Nat) (s : State) : (endOrder o c l s).sat = s.sat := by rw [endOrder_frame]
@[simp] theorem endOrder_ldg (o : Order) (c l : Nat) (s : State) : (endOrder o c l s).ldg = s.ldg := by rw [endOrder_frame]
@[simp] theorem endOrder_rls (o : Order) (c l : Nat) (s : State) : (endOrder o c l s).rls = s.rls := by rw [endOrder_frame]
@[simp] theorem endOrder_mea (o : Order) (c l : Nat) (s : State) : (endOrder o c l s).mea = s.mea := by rw [endOrder_frame]
@[simp] theorem endOrder_lko (o : Order) (c l : Nat) (s : State) : (endOrder o c l s).lko = s.lko := by rw [endOrder_frame]
@[simp] theorem endOrder_log (o : Order) (c l : Nat) (s : State) : (endOrder o c l s).log = s.log := by rw [endOrder_frame]
@[simp] theorem endOrder_rnd (o : Order) (c l : Nat) (s : State) : (endOrder o c l s).rnd = s.rnd := by rw [endOrder_frame]
@[simp] theorem endOrder_upd (o : Order) (c l : Nat) (s : State) : (endOrder o c l s).upd = s.upd := by rw [endOrder_frame]
@[simp] theorem endOrder_rig (o : Order) (c l : Nat) (s : State) : (endOrder o c l s).rig = s.rig := by rw [endOrder_frame]
@[simp] theorem endOrder_rcd (o : Order) (c l : Nat) (s : State) : (endOrder o c l s).rcd = s.rcd := by rw [endOrder_frame]
@[simp] theorem endOrder_free (o : Order) (c l : Nat) (s : State) : (endOrder o c l s).free = s.free := by rw [endOrder_frame]
@[simp] theorem endOrder_pending (o : Order) (c l : Nat) (s : State) : (endOrder o c l s).pending = s.pending := by rw [endOrder_frame]
@[simp] theorem slotGet_endOrder (o : Order) (c l : Nat) (q : Nat) (s : State) : slotGet (endOrder o c l s) q = slotGet s q := by rw [endOrder_frame]; rfl
@[simp] theorem satGet_endOrder (o : Order) (c l : Nat) (q : Nat) (s : State) : satGet (endOrder o c l s) q = satGet s q := by rw [endOrder_frame]; rfl
@[simp] theorem viewGet_endOrder (o : Order) (c l : Nat) (q : Nat) (s : State) : viewGet (endOrder o c l s) q = viewGet s q := by rw [endOrder_frame]; rfl
@[simp] theorem slotViewGet_endOrder (o : Order) (c l : Nat) (q : Nat) (s : State) : slotViewGet (endOrder o c l s) q = slotViewGet s q := by rw [endOrder_frame]; rfl
@[simp] theorem ldgGet_endOrder (o : Order) (c l : Nat) (q : Nat) (s : State) : ldgGet (endOrder o c l s) q = ldgGet s q := by rw [endOrder_frame]; rfl
@[simp] theorem railGet_endOrder (o : Order) (c l : Nat) (q : Nat) (s : State) : railGet (endOrder o c l s) q = railGet s q := by rw [endOrder_frame]; rfl
@[simp] theorem tetherGet_endOrder (o : Order) (c l : Nat) (q : Nat) (s : State) : tetherGet (endOrder o c l s) q = tetherGet s q := by rw [endOrder_frame]; rfl
@[simp] theorem portGet_endOrder (o : Order) (c l : Nat) (q : Port) (s : State) : portGet (endOrder o c l s) q = portGet s q := by rw [endOrder_frame]; rfl

/-! ### endOrderId -/

/-- The same by id. -/
theorem endOrderId_frame (i c l : Nat) (s : State) :
    endOrderId i c l s = { s with
      ord := (endOrderId i c l s).ord, mor := (endOrderId i c l s).mor } := by
  unfold endOrderId; split <;> [rfl; exact endOrder_frame ..]

@[simp] theorem endOrderId_sys (i c l : Nat) (s : State) : (endOrderId i c l s).sys = s.sys := by rw [endOrderId_frame]
@[simp] theorem endOrderId_fatal (i c l : Nat) (s : State) : (endOrderId i c l s).fatal = s.fatal := by rw [endOrderId_frame]
@[simp] theorem endOrderId_pins (i c l : Nat) (s : State) : (endOrderId i c l s).pins = s.pins := by rw [endOrderId_frame]
@[simp] theorem endOrderId_sup (i c l : Nat) (s : State) : (endOrderId i c l s).sup = s.sup := by rw [endOrderId_frame]
@[simp] theorem endOrderId_start (i c l : Nat) (s : State) : (endOrderId i c l s).start = s.start := by rw [endOrderId_frame]
@[simp] theorem endOrderId_fb (i c l : Nat) (s : State) : (endOrderId i c l s).fb = s.fb := by rw [endOrderId_frame]
@[simp] theorem endOrderId_ports (i c l : Nat) (s : State) : (endOrderId i c l s).ports = s.ports := by rw [endOrderId_frame]
@[simp] theorem endOrderId_slots (i c l : Nat) (s : State) : (endOrderId i c l s).slots = s.slots := by rw [endOrderId_frame]
@[simp] theorem endOrderId_tth (i c l : Nat) (s : State) : (endOrderId i c l s).tth = s.tth := by rw [endOrderId_frame]
@[simp] theorem endOrderId_sat (i c l : Nat) (s : State) : (endOrderId i c l s).sat = s.sat := by rw [endOrderId_frame]
@[simp] theorem endOrderId_ldg (i c l : Nat) (s : State) : (endOrderId i c l s).ldg = s.ldg := by rw [endOrderId_frame]
@[simp] theorem endOrderId_rls (i c l : Nat) (s : State) : (endOrderId i c l s).rls = s.rls := by rw [endOrderId_frame]
@[simp] theorem endOrderId_mea (i c l : Nat) (s : State) : (endOrderId i c l s).mea = s.mea := by rw [endOrderId_frame]
@[simp] theorem endOrderId_lko (i c l : Nat) (s : State) : (endOrderId i c l s).lko = s.lko := by rw [endOrderId_frame]
@[simp] theorem endOrderId_log (i c l : Nat) (s : State) : (endOrderId i c l s).log = s.log := by rw [endOrderId_frame]
@[simp] theorem endOrderId_rnd (i c l : Nat) (s : State) : (endOrderId i c l s).rnd = s.rnd := by rw [endOrderId_frame]
@[simp] theorem endOrderId_upd (i c l : Nat) (s : State) : (endOrderId i c l s).upd = s.upd := by rw [endOrderId_frame]
@[simp] theorem endOrderId_rig (i c l : Nat) (s : State) : (endOrderId i c l s).rig = s.rig := by rw [endOrderId_frame]
@[simp] theorem endOrderId_rcd (i c l : Nat) (s : State) : (endOrderId i c l s).rcd = s.rcd := by rw [endOrderId_frame]
@[simp] theorem endOrderId_free (i c l : Nat) (s : State) : (endOrderId i c l s).free = s.free := by rw [endOrderId_frame]
@[simp] theorem endOrderId_pending (i c l : Nat) (s : State) : (endOrderId i c l s).pending = s.pending := by rw [endOrderId_frame]
@[simp] theorem slotGet_endOrderId (i c l : Nat) (q : Nat) (s : State) : slotGet (endOrderId i c l s) q = slotGet s q := by rw [endOrderId_frame]; rfl
@[simp] theorem satGet_endOrderId (i c l : Nat) (q : Nat) (s : State) : satGet (endOrderId i c l s) q = satGet s q := by rw [endOrderId_frame]; rfl
@[simp] theorem viewGet_endOrderId (i c l : Nat) (q : Nat) (s : State) : viewGet (endOrderId i c l s) q = viewGet s q := by rw [endOrderId_frame]; rfl
@[simp] theorem slotViewGet_endOrderId (i c l : Nat) (q : Nat) (s : State) : slotViewGet (endOrderId i c l s) q = slotViewGet s q := by rw [endOrderId_frame]; rfl
@[simp] theorem ldgGet_endOrderId (i c l : Nat) (q : Nat) (s : State) : ldgGet (endOrderId i c l s) q = ldgGet s q := by rw [endOrderId_frame]; rfl
@[simp] theorem railGet_endOrderId (i c l : Nat) (q : Nat) (s : State) : railGet (endOrderId i c l s) q = railGet s q := by rw [endOrderId_frame]; rfl
@[simp] theorem tetherGet_endOrderId (i c l : Nat) (q : Nat) (s : State) : tetherGet (endOrderId i c l s) q = tetherGet s q := by rw [endOrderId_frame]; rfl
@[simp] theorem portGet_endOrderId (i c l : Nat) (q : Port) (s : State) : portGet (endOrderId i c l s) q = portGet s q := by rw [endOrderId_frame]; rfl

/-! ### releaseLift -/

/-- A reservation ends. -/
theorem releaseLift_frame (k : Nat) (s : State) :
    releaseLift k s = { s with
      ldg := (releaseLift k s).ldg } := by
  rfl

@[simp] theorem releaseLift_sys (k : Nat) (s : State) : (releaseLift k s).sys = s.sys := by rw [releaseLift_frame]
@[simp] theorem releaseLift_fatal (k : Nat) (s : State) : (releaseLift k s).fatal = s.fatal := by rw [releaseLift_frame]
@[simp] theorem releaseLift_pins (k : Nat) (s : State) : (releaseLift k s).pins = s.pins := by rw [releaseLift_frame]
@[simp] theorem releaseLift_sup (k : Nat) (s : State) : (releaseLift k s).sup = s.sup := by rw [releaseLift_frame]
@[simp] theorem releaseLift_start (k : Nat) (s : State) : (releaseLift k s).start = s.start := by rw [releaseLift_frame]
@[simp] theorem releaseLift_fb (k : Nat) (s : State) : (releaseLift k s).fb = s.fb := by rw [releaseLift_frame]
@[simp] theorem releaseLift_ports (k : Nat) (s : State) : (releaseLift k s).ports = s.ports := by rw [releaseLift_frame]
@[simp] theorem releaseLift_mor (k : Nat) (s : State) : (releaseLift k s).mor = s.mor := by rw [releaseLift_frame]
@[simp] theorem releaseLift_ord (k : Nat) (s : State) : (releaseLift k s).ord = s.ord := by rw [releaseLift_frame]
@[simp] theorem releaseLift_slots (k : Nat) (s : State) : (releaseLift k s).slots = s.slots := by rw [releaseLift_frame]
@[simp] theorem releaseLift_tth (k : Nat) (s : State) : (releaseLift k s).tth = s.tth := by rw [releaseLift_frame]
@[simp] theorem releaseLift_sat (k : Nat) (s : State) : (releaseLift k s).sat = s.sat := by rw [releaseLift_frame]
@[simp] theorem releaseLift_rls (k : Nat) (s : State) : (releaseLift k s).rls = s.rls := by rw [releaseLift_frame]
@[simp] theorem releaseLift_mea (k : Nat) (s : State) : (releaseLift k s).mea = s.mea := by rw [releaseLift_frame]
@[simp] theorem releaseLift_lko (k : Nat) (s : State) : (releaseLift k s).lko = s.lko := by rw [releaseLift_frame]
@[simp] theorem releaseLift_log (k : Nat) (s : State) : (releaseLift k s).log = s.log := by rw [releaseLift_frame]
@[simp] theorem releaseLift_rnd (k : Nat) (s : State) : (releaseLift k s).rnd = s.rnd := by rw [releaseLift_frame]
@[simp] theorem releaseLift_upd (k : Nat) (s : State) : (releaseLift k s).upd = s.upd := by rw [releaseLift_frame]
@[simp] theorem releaseLift_rig (k : Nat) (s : State) : (releaseLift k s).rig = s.rig := by rw [releaseLift_frame]
@[simp] theorem releaseLift_rcd (k : Nat) (s : State) : (releaseLift k s).rcd = s.rcd := by rw [releaseLift_frame]
@[simp] theorem releaseLift_free (k : Nat) (s : State) : (releaseLift k s).free = s.free := by rw [releaseLift_frame]
@[simp] theorem releaseLift_pending (k : Nat) (s : State) : (releaseLift k s).pending = s.pending := by rw [releaseLift_frame]
@[simp] theorem slotGet_releaseLift (k : Nat) (q : Nat) (s : State) : slotGet (releaseLift k s) q = slotGet s q := by rw [releaseLift_frame]; rfl
@[simp] theorem satGet_releaseLift (k : Nat) (q : Nat) (s : State) : satGet (releaseLift k s) q = satGet s q := by rw [releaseLift_frame]; rfl
@[simp] theorem viewGet_releaseLift (k : Nat) (q : Nat) (s : State) : viewGet (releaseLift k s) q = viewGet s q := by rw [releaseLift_frame]; rfl
@[simp] theorem slotViewGet_releaseLift (k : Nat) (q : Nat) (s : State) : slotViewGet (releaseLift k s) q = slotViewGet s q := by rw [releaseLift_frame]; rfl
@[simp] theorem parcelGet_releaseLift (k : Nat) (q : Nat) (s : State) : parcelGet (releaseLift k s) q = parcelGet s q := by rw [releaseLift_frame]; rfl
@[simp] theorem orderGet_releaseLift (k : Nat) (q : Nat) (s : State) : orderGet (releaseLift k s) q = orderGet s q := by rw [releaseLift_frame]; rfl
@[simp] theorem railGet_releaseLift (k : Nat) (q : Nat) (s : State) : railGet (releaseLift k s) q = railGet s q := by rw [releaseLift_frame]; rfl
@[simp] theorem tetherGet_releaseLift (k : Nat) (q : Nat) (s : State) : tetherGet (releaseLift k s) q = tetherGet s q := by rw [releaseLift_frame]; rfl
@[simp] theorem portGet_releaseLift (k : Nat) (q : Port) (s : State) : portGet (releaseLift k s) q = portGet s q := by rw [releaseLift_frame]; rfl

/-! ### dropRun -/

/-- An order that has not begun ends. -/
theorem dropRun_frame (k : Nat) (s : State) :
    dropRun k s = { s with
      slots := (dropRun k s).slots, ord := (dropRun k s).ord, mor := (dropRun k s).mor, ldg := (dropRun k s).ldg } := by
  unfold dropRun; split
  · split
    · rfl
    · rw [releaseLift_frame, endOrderId_frame]; rfl
  · rfl

@[simp] theorem dropRun_sys (k : Nat) (s : State) : (dropRun k s).sys = s.sys := by rw [dropRun_frame]
@[simp] theorem dropRun_fatal (k : Nat) (s : State) : (dropRun k s).fatal = s.fatal := by rw [dropRun_frame]
@[simp] theorem dropRun_pins (k : Nat) (s : State) : (dropRun k s).pins = s.pins := by rw [dropRun_frame]
@[simp] theorem dropRun_sup (k : Nat) (s : State) : (dropRun k s).sup = s.sup := by rw [dropRun_frame]
@[simp] theorem dropRun_start (k : Nat) (s : State) : (dropRun k s).start = s.start := by rw [dropRun_frame]
@[simp] theorem dropRun_fb (k : Nat) (s : State) : (dropRun k s).fb = s.fb := by rw [dropRun_frame]
@[simp] theorem dropRun_ports (k : Nat) (s : State) : (dropRun k s).ports = s.ports := by rw [dropRun_frame]
@[simp] theorem dropRun_tth (k : Nat) (s : State) : (dropRun k s).tth = s.tth := by rw [dropRun_frame]
@[simp] theorem dropRun_sat (k : Nat) (s : State) : (dropRun k s).sat = s.sat := by rw [dropRun_frame]
@[simp] theorem dropRun_rls (k : Nat) (s : State) : (dropRun k s).rls = s.rls := by rw [dropRun_frame]
@[simp] theorem dropRun_mea (k : Nat) (s : State) : (dropRun k s).mea = s.mea := by rw [dropRun_frame]
@[simp] theorem dropRun_lko (k : Nat) (s : State) : (dropRun k s).lko = s.lko := by rw [dropRun_frame]
@[simp] theorem dropRun_log (k : Nat) (s : State) : (dropRun k s).log = s.log := by rw [dropRun_frame]
@[simp] theorem dropRun_rnd (k : Nat) (s : State) : (dropRun k s).rnd = s.rnd := by rw [dropRun_frame]
@[simp] theorem dropRun_upd (k : Nat) (s : State) : (dropRun k s).upd = s.upd := by rw [dropRun_frame]
@[simp] theorem dropRun_rig (k : Nat) (s : State) : (dropRun k s).rig = s.rig := by rw [dropRun_frame]
@[simp] theorem dropRun_rcd (k : Nat) (s : State) : (dropRun k s).rcd = s.rcd := by rw [dropRun_frame]
@[simp] theorem dropRun_free (k : Nat) (s : State) : (dropRun k s).free = s.free := by rw [dropRun_frame]
@[simp] theorem dropRun_pending (k : Nat) (s : State) : (dropRun k s).pending = s.pending := by rw [dropRun_frame]
@[simp] theorem satGet_dropRun (k : Nat) (q : Nat) (s : State) : satGet (dropRun k s) q = satGet s q := by rw [dropRun_frame]; rfl
@[simp] theorem viewGet_dropRun (k : Nat) (q : Nat) (s : State) : viewGet (dropRun k s) q = viewGet s q := by rw [dropRun_frame]; rfl
@[simp] theorem slotViewGet_dropRun (k : Nat) (q : Nat) (s : State) : slotViewGet (dropRun k s) q = slotViewGet s q := by rw [dropRun_frame]; rfl
@[simp] theorem railGet_dropRun (k : Nat) (q : Nat) (s : State) : railGet (dropRun k s) q = railGet s q := by rw [dropRun_frame]; rfl
@[simp] theorem tetherGet_dropRun (k : Nat) (q : Nat) (s : State) : tetherGet (dropRun k s) q = tetherGet s q := by rw [dropRun_frame]; rfl
@[simp] theorem portGet_dropRun (k : Nat) (q : Port) (s : State) : portGet (dropRun k s) q = portGet s q := by rw [dropRun_frame]; rfl

/-! ### ripcordLocals -/

theorem eq_of_fields_rip {s t : State} (h0 : t.sys = s.sys) (h1 : t.fatal = s.fatal) (h2 : t.pins = s.pins) (h3 : t.sup = s.sup) (h4 : t.start = s.start) (h5 : t.fb = s.fb) (h6 : t.ports = s.ports) (h7 : t.tth = s.tth) (h8 : t.sat = s.sat) (h9 : t.rls = s.rls) (h10 : t.mea = s.mea) (h11 : t.lko = s.lko) (h12 : t.rnd = s.rnd) (h13 : t.rig = s.rig) (h14 : t.rcd = s.rcd) (h15 : t.free = s.free) (h16 : t.pending = s.pending) :
    t = { s with slots := t.slots, log := t.log, upd := t.upd, ord := t.ord, mor := t.mor, ldg := t.ldg } := by
  cases s; cases t; simp_all

/-- The ripcord on the local slots. -/
theorem ripcordLocals_frame (s : State) :
    ripcordLocals s = { s with
      slots := (ripcordLocals s).slots, log := (ripcordLocals s).log, upd := (ripcordLocals s).upd
      ord := (ripcordLocals s).ord, mor := (ripcordLocals s).mor, ldg := (ripcordLocals s).ldg } := by
  apply eq_of_fields_rip <;> simp [ripcordLocals]

@[simp] theorem ripcordLocals_sys (s : State) : (ripcordLocals s).sys = s.sys := by rw [ripcordLocals_frame]
@[simp] theorem ripcordLocals_fatal (s : State) : (ripcordLocals s).fatal = s.fatal := by rw [ripcordLocals_frame]
@[simp] theorem ripcordLocals_pins (s : State) : (ripcordLocals s).pins = s.pins := by rw [ripcordLocals_frame]
@[simp] theorem ripcordLocals_sup (s : State) : (ripcordLocals s).sup = s.sup := by rw [ripcordLocals_frame]
@[simp] theorem ripcordLocals_start (s : State) : (ripcordLocals s).start = s.start := by rw [ripcordLocals_frame]
@[simp] theorem ripcordLocals_fb (s : State) : (ripcordLocals s).fb = s.fb := by rw [ripcordLocals_frame]
@[simp] theorem ripcordLocals_ports (s : State) : (ripcordLocals s).ports = s.ports := by rw [ripcordLocals_frame]
@[simp] theorem ripcordLocals_tth (s : State) : (ripcordLocals s).tth = s.tth := by rw [ripcordLocals_frame]
@[simp] theorem ripcordLocals_sat (s : State) : (ripcordLocals s).sat = s.sat := by rw [ripcordLocals_frame]
@[simp] theorem ripcordLocals_rls (s : State) : (ripcordLocals s).rls = s.rls := by rw [ripcordLocals_frame]
@[simp] theorem ripcordLocals_mea (s : State) : (ripcordLocals s).mea = s.mea := by rw [ripcordLocals_frame]
@[simp] theorem ripcordLocals_lko (s : State) : (ripcordLocals s).lko = s.lko := by rw [ripcordLocals_frame]
@[simp] theorem ripcordLocals_rnd (s : State) : (ripcordLocals s).rnd = s.rnd := by rw [ripcordLocals_frame]
@[simp] theorem ripcordLocals_rig (s : State) : (ripcordLocals s).rig = s.rig := by rw [ripcordLocals_frame]
@[simp] theorem ripcordLocals_rcd (s : State) : (ripcordLocals s).rcd = s.rcd := by rw [ripcordLocals_frame]
@[simp] theorem ripcordLocals_free (s : State) : (ripcordLocals s).free = s.free := by rw [ripcordLocals_frame]
@[simp] theorem ripcordLocals_pending (s : State) : (ripcordLocals s).pending = s.pending := by rw [ripcordLocals_frame]
@[simp] theorem satGet_ripcordLocals (q : Nat) (s : State) : satGet (ripcordLocals s) q = satGet s q := by rw [ripcordLocals_frame]; rfl
@[simp] theorem viewGet_ripcordLocals (q : Nat) (s : State) : viewGet (ripcordLocals s) q = viewGet s q := by rw [ripcordLocals_frame]; rfl
@[simp] theorem slotViewGet_ripcordLocals (q : Nat) (s : State) : slotViewGet (ripcordLocals s) q = slotViewGet s q := by rw [ripcordLocals_frame]; rfl
@[simp] theorem railGet_ripcordLocals (q : Nat) (s : State) : railGet (ripcordLocals s) q = railGet s q := by rw [ripcordLocals_frame]; rfl
@[simp] theorem tetherGet_ripcordLocals (q : Nat) (s : State) : tetherGet (ripcordLocals s) q = tetherGet s q := by rw [ripcordLocals_frame]; rfl
@[simp] theorem portGet_ripcordLocals (q : Port) (s : State) : portGet (ripcordLocals s) q = portGet s q := by rw [ripcordLocals_frame]; rfl

/-! ### holdRules -/

/-- Rules held. -/
theorem holdRules_frame (s : State) :
    holdRules s = { s with
      lko := (holdRules s).lko } := by
  rfl

@[simp] theorem holdRules_sys (s : State) : (holdRules s).sys = s.sys := by rw [holdRules_frame]
@[simp] theorem holdRules_fatal (s : State) : (holdRules s).fatal = s.fatal := by rw [holdRules_frame]
@[simp] theorem holdRules_pins (s : State) : (holdRules s).pins = s.pins := by rw [holdRules_frame]
@[simp] theorem holdRules_sup (s : State) : (holdRules s).sup = s.sup := by rw [holdRules_frame]
@[simp] theorem holdRules_start (s : State) : (holdRules s).start = s.start := by rw [holdRules_frame]
@[simp] theorem holdRules_fb (s : State) : (holdRules s).fb = s.fb := by rw [holdRules_frame]
@[simp] theorem holdRules_ports (s : State) : (holdRules s).ports = s.ports := by rw [holdRules_frame]
@[simp] theorem holdRules_mor (s : State) : (holdRules s).mor = s.mor := by rw [holdRules_frame]
@[simp] theorem holdRules_ord (s : State) : (holdRules s).ord = s.ord := by rw [holdRules_frame]
@[simp] theorem holdRules_slots (s : State) : (holdRules s).slots = s.slots := by rw [holdRules_frame]
@[simp] theorem holdRules_tth (s : State) : (holdRules s).tth = s.tth := by rw [holdRules_frame]
@[simp] theorem holdRules_sat (s : State) : (holdRules s).sat = s.sat := by rw [holdRules_frame]
@[simp] theorem holdRules_ldg (s : State) : (holdRules s).ldg = s.ldg := by rw [holdRules_frame]
@[simp] theorem holdRules_rls (s : State) : (holdRules s).rls = s.rls := by rw [holdRules_frame]
@[simp] theorem holdRules_mea (s : State) : (holdRules s).mea = s.mea := by rw [holdRules_frame]
@[simp] theorem holdRules_log (s : State) : (holdRules s).log = s.log := by rw [holdRules_frame]
@[simp] theorem holdRules_rnd (s : State) : (holdRules s).rnd = s.rnd := by rw [holdRules_frame]
@[simp] theorem holdRules_upd (s : State) : (holdRules s).upd = s.upd := by rw [holdRules_frame]
@[simp] theorem holdRules_rig (s : State) : (holdRules s).rig = s.rig := by rw [holdRules_frame]
@[simp] theorem holdRules_rcd (s : State) : (holdRules s).rcd = s.rcd := by rw [holdRules_frame]
@[simp] theorem holdRules_free (s : State) : (holdRules s).free = s.free := by rw [holdRules_frame]
@[simp] theorem holdRules_pending (s : State) : (holdRules s).pending = s.pending := by rw [holdRules_frame]
@[simp] theorem slotGet_holdRules (q : Nat) (s : State) : slotGet (holdRules s) q = slotGet s q := by rw [holdRules_frame]; rfl
@[simp] theorem satGet_holdRules (q : Nat) (s : State) : satGet (holdRules s) q = satGet s q := by rw [holdRules_frame]; rfl
@[simp] theorem viewGet_holdRules (q : Nat) (s : State) : viewGet (holdRules s) q = viewGet s q := by rw [holdRules_frame]; rfl
@[simp] theorem slotViewGet_holdRules (q : Nat) (s : State) : slotViewGet (holdRules s) q = slotViewGet s q := by rw [holdRules_frame]; rfl
@[simp] theorem parcelGet_holdRules (q : Nat) (s : State) : parcelGet (holdRules s) q = parcelGet s q := by rw [holdRules_frame]; rfl
@[simp] theorem orderGet_holdRules (q : Nat) (s : State) : orderGet (holdRules s) q = orderGet s q := by rw [holdRules_frame]; rfl
@[simp] theorem ldgGet_holdRules (q : Nat) (s : State) : ldgGet (holdRules s) q = ldgGet s q := by rw [holdRules_frame]; rfl
@[simp] theorem railGet_holdRules (q : Nat) (s : State) : railGet (holdRules s) q = railGet s q := by rw [holdRules_frame]; rfl
@[simp] theorem tetherGet_holdRules (q : Nat) (s : State) : tetherGet (holdRules s) q = tetherGet s q := by rw [holdRules_frame]; rfl
@[simp] theorem portGet_holdRules (q : Port) (s : State) : portGet (holdRules s) q = portGet s q := by rw [holdRules_frame]; rfl

/-! ### fatalEnter -/

theorem eq_of_fields_fatal {s t : State} (h0 : t.sup = s.sup) (h1 : t.start = s.start) (h2 : t.fb = s.fb) (h3 : t.sat = s.sat) (h4 : t.mea = s.mea) (h5 : t.rnd = s.rnd) (h6 : t.rig = s.rig) (h7 : t.free = s.free) (h8 : t.pending = s.pending) :
    t = { s with fatal := t.fatal, slots := t.slots, log := t.log, upd := t.upd, ord := t.ord, mor := t.mor, ldg := t.ldg, tth := t.tth, rls := t.rls, pins := t.pins, rcd := t.rcd, sys := t.sys, ports := t.ports, lko := t.lko } := by
  cases s; cases t; simp_all

/-- Entry to FATAL. -/
theorem fatalEnter_frame (n k c f : Nat) (s : State) :
    fatalEnter n k c f s = { s with
      fatal := (fatalEnter n k c f s).fatal, slots := (fatalEnter n k c f s).slots, log := (fatalEnter n k c f s).log
      upd := (fatalEnter n k c f s).upd, ord := (fatalEnter n k c f s).ord, mor := (fatalEnter n k c f s).mor
      ldg := (fatalEnter n k c f s).ldg, tth := (fatalEnter n k c f s).tth, rls := (fatalEnter n k c f s).rls
      pins := (fatalEnter n k c f s).pins, rcd := (fatalEnter n k c f s).rcd, sys := (fatalEnter n k c f s).sys
      ports := (fatalEnter n k c f s).ports, lko := (fatalEnter n k c f s).lko } := by
  unfold fatalEnter; dsimp only; split
  · rfl
  · split
    · split <;> rfl
    · apply eq_of_fields_fatal <;> simp

@[simp] theorem fatalEnter_sup (n k c f : Nat) (s : State) : (fatalEnter n k c f s).sup = s.sup := by rw [fatalEnter_frame]
@[simp] theorem fatalEnter_start (n k c f : Nat) (s : State) : (fatalEnter n k c f s).start = s.start := by rw [fatalEnter_frame]
@[simp] theorem fatalEnter_fb (n k c f : Nat) (s : State) : (fatalEnter n k c f s).fb = s.fb := by rw [fatalEnter_frame]
@[simp] theorem fatalEnter_sat (n k c f : Nat) (s : State) : (fatalEnter n k c f s).sat = s.sat := by rw [fatalEnter_frame]
@[simp] theorem fatalEnter_mea (n k c f : Nat) (s : State) : (fatalEnter n k c f s).mea = s.mea := by rw [fatalEnter_frame]
@[simp] theorem fatalEnter_rnd (n k c f : Nat) (s : State) : (fatalEnter n k c f s).rnd = s.rnd := by rw [fatalEnter_frame]
@[simp] theorem fatalEnter_rig (n k c f : Nat) (s : State) : (fatalEnter n k c f s).rig = s.rig := by rw [fatalEnter_frame]
@[simp] theorem fatalEnter_free (n k c f : Nat) (s : State) : (fatalEnter n k c f s).free = s.free := by rw [fatalEnter_frame]
@[simp] theorem fatalEnter_pending (n k c f : Nat) (s : State) : (fatalEnter n k c f s).pending = s.pending := by rw [fatalEnter_frame]
@[simp] theorem satGet_fatalEnter (n k c f : Nat) (q : Nat) (s : State) : satGet (fatalEnter n k c f s) q = satGet s q := by rw [fatalEnter_frame]; rfl
@[simp] theorem viewGet_fatalEnter (n k c f : Nat) (q : Nat) (s : State) : viewGet (fatalEnter n k c f s) q = viewGet s q := by rw [fatalEnter_frame]; rfl
@[simp] theorem slotViewGet_fatalEnter (n k c f : Nat) (q : Nat) (s : State) : slotViewGet (fatalEnter n k c f s) q = slotViewGet s q := by rw [fatalEnter_frame]; rfl

/-! ### raiseCorrected -/

theorem foldl_frame_wake (f : FaultBank) (e : Bool) (ks : List Nat) (s : State) :
    ks.foldl (fun s j => wakeByFault f j e s) s = { s with
      sys := (ks.foldl (fun s j => wakeByFault f j e s) s).sys, lko := (ks.foldl (fun s j => wakeByFault f j e s) s).lko
      ports := (ks.foldl (fun s j => wakeByFault f j e s) s).ports } := by
  induction ks generalizing s with
  | nil => rfl
  | cons j ks ih => simp only [List.foldl_cons]; rw [ih, wakeByFault_frame]

theorem foldl_frame_fault (b : FBlk) (c : Nat) (e : Bool) (ks : List Nat) (s : State) :
    ks.foldl (fun s j => queueFault b j c e s) s = { s with
      log := (ks.foldl (fun s j => queueFault b j c e s) s).log } := by
  induction ks generalizing s with
  | nil => rfl
  | cons j ks ih => simp only [List.foldl_cons]; rw [ih, queueFault_frame]

@[simp] theorem foldl_wakeByFault_fatal (f : FaultBank) (e : Bool) (ks : List Nat) (s : State) :
    (ks.foldl (fun s j => wakeByFault f j e s) s).fatal = s.fatal := by rw [foldl_frame_wake]
@[simp] theorem foldl_wakeByFault_pins (f : FaultBank) (e : Bool) (ks : List Nat) (s : State) :
    (ks.foldl (fun s j => wakeByFault f j e s) s).pins = s.pins := by rw [foldl_frame_wake]
@[simp] theorem foldl_wakeByFault_sup (f : FaultBank) (e : Bool) (ks : List Nat) (s : State) :
    (ks.foldl (fun s j => wakeByFault f j e s) s).sup = s.sup := by rw [foldl_frame_wake]
@[simp] theorem foldl_wakeByFault_start (f : FaultBank) (e : Bool) (ks : List Nat) (s : State) :
    (ks.foldl (fun s j => wakeByFault f j e s) s).start = s.start := by rw [foldl_frame_wake]
@[simp] theorem foldl_wakeByFault_fb (f : FaultBank) (e : Bool) (ks : List Nat) (s : State) :
    (ks.foldl (fun s j => wakeByFault f j e s) s).fb = s.fb := by rw [foldl_frame_wake]
@[simp] theorem foldl_wakeByFault_mor (f : FaultBank) (e : Bool) (ks : List Nat) (s : State) :
    (ks.foldl (fun s j => wakeByFault f j e s) s).mor = s.mor := by rw [foldl_frame_wake]
@[simp] theorem foldl_wakeByFault_ord (f : FaultBank) (e : Bool) (ks : List Nat) (s : State) :
    (ks.foldl (fun s j => wakeByFault f j e s) s).ord = s.ord := by rw [foldl_frame_wake]
@[simp] theorem foldl_wakeByFault_slots (f : FaultBank) (e : Bool) (ks : List Nat) (s : State) :
    (ks.foldl (fun s j => wakeByFault f j e s) s).slots = s.slots := by rw [foldl_frame_wake]
@[simp] theorem foldl_wakeByFault_tth (f : FaultBank) (e : Bool) (ks : List Nat) (s : State) :
    (ks.foldl (fun s j => wakeByFault f j e s) s).tth = s.tth := by rw [foldl_frame_wake]
@[simp] theorem foldl_wakeByFault_sat (f : FaultBank) (e : Bool) (ks : List Nat) (s : State) :
    (ks.foldl (fun s j => wakeByFault f j e s) s).sat = s.sat := by rw [foldl_frame_wake]
@[simp] theorem foldl_wakeByFault_ldg (f : FaultBank) (e : Bool) (ks : List Nat) (s : State) :
    (ks.foldl (fun s j => wakeByFault f j e s) s).ldg = s.ldg := by rw [foldl_frame_wake]
@[simp] theorem foldl_wakeByFault_rls (f : FaultBank) (e : Bool) (ks : List Nat) (s : State) :
    (ks.foldl (fun s j => wakeByFault f j e s) s).rls = s.rls := by rw [foldl_frame_wake]
@[simp] theorem foldl_wakeByFault_mea (f : FaultBank) (e : Bool) (ks : List Nat) (s : State) :
    (ks.foldl (fun s j => wakeByFault f j e s) s).mea = s.mea := by rw [foldl_frame_wake]
@[simp] theorem foldl_wakeByFault_log (f : FaultBank) (e : Bool) (ks : List Nat) (s : State) :
    (ks.foldl (fun s j => wakeByFault f j e s) s).log = s.log := by rw [foldl_frame_wake]
@[simp] theorem foldl_wakeByFault_rnd (f : FaultBank) (e : Bool) (ks : List Nat) (s : State) :
    (ks.foldl (fun s j => wakeByFault f j e s) s).rnd = s.rnd := by rw [foldl_frame_wake]
@[simp] theorem foldl_wakeByFault_upd (f : FaultBank) (e : Bool) (ks : List Nat) (s : State) :
    (ks.foldl (fun s j => wakeByFault f j e s) s).upd = s.upd := by rw [foldl_frame_wake]
@[simp] theorem foldl_wakeByFault_rig (f : FaultBank) (e : Bool) (ks : List Nat) (s : State) :
    (ks.foldl (fun s j => wakeByFault f j e s) s).rig = s.rig := by rw [foldl_frame_wake]
@[simp] theorem foldl_wakeByFault_rcd (f : FaultBank) (e : Bool) (ks : List Nat) (s : State) :
    (ks.foldl (fun s j => wakeByFault f j e s) s).rcd = s.rcd := by rw [foldl_frame_wake]
@[simp] theorem foldl_wakeByFault_free (f : FaultBank) (e : Bool) (ks : List Nat) (s : State) :
    (ks.foldl (fun s j => wakeByFault f j e s) s).free = s.free := by rw [foldl_frame_wake]
@[simp] theorem foldl_wakeByFault_pending (f : FaultBank) (e : Bool) (ks : List Nat) (s : State) :
    (ks.foldl (fun s j => wakeByFault f j e s) s).pending = s.pending := by rw [foldl_frame_wake]
@[simp] theorem foldl_queueFault_sys (b : FBlk) (c : Nat) (e : Bool) (ks : List Nat) (s : State) :
    (ks.foldl (fun s j => queueFault b j c e s) s).sys = s.sys := by rw [foldl_frame_fault]
@[simp] theorem foldl_queueFault_fatal (b : FBlk) (c : Nat) (e : Bool) (ks : List Nat) (s : State) :
    (ks.foldl (fun s j => queueFault b j c e s) s).fatal = s.fatal := by rw [foldl_frame_fault]
@[simp] theorem foldl_queueFault_pins (b : FBlk) (c : Nat) (e : Bool) (ks : List Nat) (s : State) :
    (ks.foldl (fun s j => queueFault b j c e s) s).pins = s.pins := by rw [foldl_frame_fault]
@[simp] theorem foldl_queueFault_sup (b : FBlk) (c : Nat) (e : Bool) (ks : List Nat) (s : State) :
    (ks.foldl (fun s j => queueFault b j c e s) s).sup = s.sup := by rw [foldl_frame_fault]
@[simp] theorem foldl_queueFault_start (b : FBlk) (c : Nat) (e : Bool) (ks : List Nat) (s : State) :
    (ks.foldl (fun s j => queueFault b j c e s) s).start = s.start := by rw [foldl_frame_fault]
@[simp] theorem foldl_queueFault_fb (b : FBlk) (c : Nat) (e : Bool) (ks : List Nat) (s : State) :
    (ks.foldl (fun s j => queueFault b j c e s) s).fb = s.fb := by rw [foldl_frame_fault]
@[simp] theorem foldl_queueFault_ports (b : FBlk) (c : Nat) (e : Bool) (ks : List Nat) (s : State) :
    (ks.foldl (fun s j => queueFault b j c e s) s).ports = s.ports := by rw [foldl_frame_fault]
@[simp] theorem foldl_queueFault_mor (b : FBlk) (c : Nat) (e : Bool) (ks : List Nat) (s : State) :
    (ks.foldl (fun s j => queueFault b j c e s) s).mor = s.mor := by rw [foldl_frame_fault]
@[simp] theorem foldl_queueFault_ord (b : FBlk) (c : Nat) (e : Bool) (ks : List Nat) (s : State) :
    (ks.foldl (fun s j => queueFault b j c e s) s).ord = s.ord := by rw [foldl_frame_fault]
@[simp] theorem foldl_queueFault_slots (b : FBlk) (c : Nat) (e : Bool) (ks : List Nat) (s : State) :
    (ks.foldl (fun s j => queueFault b j c e s) s).slots = s.slots := by rw [foldl_frame_fault]
@[simp] theorem foldl_queueFault_tth (b : FBlk) (c : Nat) (e : Bool) (ks : List Nat) (s : State) :
    (ks.foldl (fun s j => queueFault b j c e s) s).tth = s.tth := by rw [foldl_frame_fault]
@[simp] theorem foldl_queueFault_sat (b : FBlk) (c : Nat) (e : Bool) (ks : List Nat) (s : State) :
    (ks.foldl (fun s j => queueFault b j c e s) s).sat = s.sat := by rw [foldl_frame_fault]
@[simp] theorem foldl_queueFault_ldg (b : FBlk) (c : Nat) (e : Bool) (ks : List Nat) (s : State) :
    (ks.foldl (fun s j => queueFault b j c e s) s).ldg = s.ldg := by rw [foldl_frame_fault]
@[simp] theorem foldl_queueFault_rls (b : FBlk) (c : Nat) (e : Bool) (ks : List Nat) (s : State) :
    (ks.foldl (fun s j => queueFault b j c e s) s).rls = s.rls := by rw [foldl_frame_fault]
@[simp] theorem foldl_queueFault_mea (b : FBlk) (c : Nat) (e : Bool) (ks : List Nat) (s : State) :
    (ks.foldl (fun s j => queueFault b j c e s) s).mea = s.mea := by rw [foldl_frame_fault]
@[simp] theorem foldl_queueFault_lko (b : FBlk) (c : Nat) (e : Bool) (ks : List Nat) (s : State) :
    (ks.foldl (fun s j => queueFault b j c e s) s).lko = s.lko := by rw [foldl_frame_fault]
@[simp] theorem foldl_queueFault_rnd (b : FBlk) (c : Nat) (e : Bool) (ks : List Nat) (s : State) :
    (ks.foldl (fun s j => queueFault b j c e s) s).rnd = s.rnd := by rw [foldl_frame_fault]
@[simp] theorem foldl_queueFault_upd (b : FBlk) (c : Nat) (e : Bool) (ks : List Nat) (s : State) :
    (ks.foldl (fun s j => queueFault b j c e s) s).upd = s.upd := by rw [foldl_frame_fault]
@[simp] theorem foldl_queueFault_rig (b : FBlk) (c : Nat) (e : Bool) (ks : List Nat) (s : State) :
    (ks.foldl (fun s j => queueFault b j c e s) s).rig = s.rig := by rw [foldl_frame_fault]
@[simp] theorem foldl_queueFault_rcd (b : FBlk) (c : Nat) (e : Bool) (ks : List Nat) (s : State) :
    (ks.foldl (fun s j => queueFault b j c e s) s).rcd = s.rcd := by rw [foldl_frame_fault]
@[simp] theorem foldl_queueFault_free (b : FBlk) (c : Nat) (e : Bool) (ks : List Nat) (s : State) :
    (ks.foldl (fun s j => queueFault b j c e s) s).free = s.free := by rw [foldl_frame_fault]
@[simp] theorem foldl_queueFault_pending (b : FBlk) (c : Nat) (e : Bool) (ks : List Nat) (s : State) :
    (ks.foldl (fun s j => queueFault b j c e s) s).pending = s.pending := by rw [foldl_frame_fault]
theorem eq_of_fields_raise {s t : State} (h0 : t.sup = s.sup) (h1 : t.start = s.start) (h2 : t.sat = s.sat) (h3 : t.mea = s.mea) (h4 : t.rnd = s.rnd) (h5 : t.rig = s.rig) (h6 : t.free = s.free) (h7 : t.pending = s.pending) :
    t = { s with fb := t.fb, log := t.log, rcd := t.rcd, sys := t.sys, lko := t.lko, ports := t.ports, fatal := t.fatal, pins := t.pins, slots := t.slots, tth := t.tth, rls := t.rls, upd := t.upd, ord := t.ord, mor := t.mor, ldg := t.ldg } := by
  cases s; cases t; simp_all

theorem eq_of_fields_corr {s t : State} (h0 : t.fatal = s.fatal) (h1 : t.pins = s.pins) (h2 : t.sup = s.sup) (h3 : t.start = s.start) (h4 : t.mor = s.mor) (h5 : t.ord = s.ord) (h6 : t.slots = s.slots) (h7 : t.tth = s.tth) (h8 : t.sat = s.sat) (h9 : t.ldg = s.ldg) (h10 : t.rls = s.rls) (h11 : t.mea = s.mea) (h12 : t.rnd = s.rnd) (h13 : t.upd = s.upd) (h14 : t.rig = s.rig) (h15 : t.free = s.free) (h16 : t.pending = s.pending) :
    t = { s with fb := t.fb, log := t.log, rcd := t.rcd, sys := t.sys, lko := t.lko, ports := t.ports } := by
  cases s; cases t; simp_all

theorem setBank_frame (b : FBlk) (x : FaultBank) (s : State) : setBank b x s = { s with fb := (setBank b x s).fb } := rfl

/-- A corrected event: bank, log, recorder, wake. -/
theorem raiseCorrected_frame (b : FBlk) (ks : List Nat) (f : FaultBank) (s : State) :
    raiseCorrected b ks f s = { s with
      fb := (raiseCorrected b ks f s).fb, log := (raiseCorrected b ks f s).log, rcd := (raiseCorrected b ks f s).rcd
      sys := (raiseCorrected b ks f s).sys, lko := (raiseCorrected b ks f s).lko
      ports := (raiseCorrected b ks f s).ports } := by
  apply eq_of_fields_corr <;> simp [raiseCorrected]

@[simp] theorem raiseCorrected_fatal (b : FBlk) (ks : List Nat) (f : FaultBank) (s : State) : (raiseCorrected b ks f s).fatal = s.fatal := by rw [raiseCorrected_frame]
@[simp] theorem raiseCorrected_pins (b : FBlk) (ks : List Nat) (f : FaultBank) (s : State) : (raiseCorrected b ks f s).pins = s.pins := by rw [raiseCorrected_frame]
@[simp] theorem raiseCorrected_sup (b : FBlk) (ks : List Nat) (f : FaultBank) (s : State) : (raiseCorrected b ks f s).sup = s.sup := by rw [raiseCorrected_frame]
@[simp] theorem raiseCorrected_start (b : FBlk) (ks : List Nat) (f : FaultBank) (s : State) : (raiseCorrected b ks f s).start = s.start := by rw [raiseCorrected_frame]
@[simp] theorem raiseCorrected_mor (b : FBlk) (ks : List Nat) (f : FaultBank) (s : State) : (raiseCorrected b ks f s).mor = s.mor := by rw [raiseCorrected_frame]
@[simp] theorem raiseCorrected_ord (b : FBlk) (ks : List Nat) (f : FaultBank) (s : State) : (raiseCorrected b ks f s).ord = s.ord := by rw [raiseCorrected_frame]
@[simp] theorem raiseCorrected_slots (b : FBlk) (ks : List Nat) (f : FaultBank) (s : State) : (raiseCorrected b ks f s).slots = s.slots := by rw [raiseCorrected_frame]
@[simp] theorem raiseCorrected_tth (b : FBlk) (ks : List Nat) (f : FaultBank) (s : State) : (raiseCorrected b ks f s).tth = s.tth := by rw [raiseCorrected_frame]
@[simp] theorem raiseCorrected_sat (b : FBlk) (ks : List Nat) (f : FaultBank) (s : State) : (raiseCorrected b ks f s).sat = s.sat := by rw [raiseCorrected_frame]
@[simp] theorem raiseCorrected_ldg (b : FBlk) (ks : List Nat) (f : FaultBank) (s : State) : (raiseCorrected b ks f s).ldg = s.ldg := by rw [raiseCorrected_frame]
@[simp] theorem raiseCorrected_rls (b : FBlk) (ks : List Nat) (f : FaultBank) (s : State) : (raiseCorrected b ks f s).rls = s.rls := by rw [raiseCorrected_frame]
@[simp] theorem raiseCorrected_mea (b : FBlk) (ks : List Nat) (f : FaultBank) (s : State) : (raiseCorrected b ks f s).mea = s.mea := by rw [raiseCorrected_frame]
@[simp] theorem raiseCorrected_rnd (b : FBlk) (ks : List Nat) (f : FaultBank) (s : State) : (raiseCorrected b ks f s).rnd = s.rnd := by rw [raiseCorrected_frame]
@[simp] theorem raiseCorrected_upd (b : FBlk) (ks : List Nat) (f : FaultBank) (s : State) : (raiseCorrected b ks f s).upd = s.upd := by rw [raiseCorrected_frame]
@[simp] theorem raiseCorrected_rig (b : FBlk) (ks : List Nat) (f : FaultBank) (s : State) : (raiseCorrected b ks f s).rig = s.rig := by rw [raiseCorrected_frame]
@[simp] theorem raiseCorrected_free (b : FBlk) (ks : List Nat) (f : FaultBank) (s : State) : (raiseCorrected b ks f s).free = s.free := by rw [raiseCorrected_frame]
@[simp] theorem raiseCorrected_pending (b : FBlk) (ks : List Nat) (f : FaultBank) (s : State) : (raiseCorrected b ks f s).pending = s.pending := by rw [raiseCorrected_frame]
@[simp] theorem slotGet_raiseCorrected (b : FBlk) (ks : List Nat) (f : FaultBank) (q : Nat) (s : State) : slotGet (raiseCorrected b ks f s) q = slotGet s q := by rw [raiseCorrected_frame]; rfl
@[simp] theorem satGet_raiseCorrected (b : FBlk) (ks : List Nat) (f : FaultBank) (q : Nat) (s : State) : satGet (raiseCorrected b ks f s) q = satGet s q := by rw [raiseCorrected_frame]; rfl
@[simp] theorem viewGet_raiseCorrected (b : FBlk) (ks : List Nat) (f : FaultBank) (q : Nat) (s : State) : viewGet (raiseCorrected b ks f s) q = viewGet s q := by rw [raiseCorrected_frame]; rfl
@[simp] theorem slotViewGet_raiseCorrected (b : FBlk) (ks : List Nat) (f : FaultBank) (q : Nat) (s : State) : slotViewGet (raiseCorrected b ks f s) q = slotViewGet s q := by rw [raiseCorrected_frame]; rfl
@[simp] theorem parcelGet_raiseCorrected (b : FBlk) (ks : List Nat) (f : FaultBank) (q : Nat) (s : State) : parcelGet (raiseCorrected b ks f s) q = parcelGet s q := by rw [raiseCorrected_frame]; rfl
@[simp] theorem orderGet_raiseCorrected (b : FBlk) (ks : List Nat) (f : FaultBank) (q : Nat) (s : State) : orderGet (raiseCorrected b ks f s) q = orderGet s q := by rw [raiseCorrected_frame]; rfl
@[simp] theorem ldgGet_raiseCorrected (b : FBlk) (ks : List Nat) (f : FaultBank) (q : Nat) (s : State) : ldgGet (raiseCorrected b ks f s) q = ldgGet s q := by rw [raiseCorrected_frame]; rfl
@[simp] theorem railGet_raiseCorrected (b : FBlk) (ks : List Nat) (f : FaultBank) (q : Nat) (s : State) : railGet (raiseCorrected b ks f s) q = railGet s q := by rw [raiseCorrected_frame]; rfl
@[simp] theorem tetherGet_raiseCorrected (b : FBlk) (ks : List Nat) (f : FaultBank) (q : Nat) (s : State) : tetherGet (raiseCorrected b ks f s) q = tetherGet s q := by rw [raiseCorrected_frame]; rfl

/-! ### raiseContained -/

/-- A contained event, which may lead to FATAL. -/
theorem raiseContained_frame (b : FBlk) (ks : List Nat) (f : FaultBank) (s : State) :
    raiseContained b ks f s = { s with
      fb := (raiseContained b ks f s).fb, log := (raiseContained b ks f s).log, rcd := (raiseContained b ks f s).rcd
      sys := (raiseContained b ks f s).sys, lko := (raiseContained b ks f s).lko
      ports := (raiseContained b ks f s).ports, fatal := (raiseContained b ks f s).fatal
      pins := (raiseContained b ks f s).pins, slots := (raiseContained b ks f s).slots
      tth := (raiseContained b ks f s).tth, rls := (raiseContained b ks f s).rls, upd := (raiseContained b ks f s).upd
      ord := (raiseContained b ks f s).ord, mor := (raiseContained b ks f s).mor, ldg := (raiseContained b ks f s).ldg } := by
  simp only [raiseContained]
  split
  · rw [fatalEnter_frame, queueFault_frame, setBank_frame]
  · apply eq_of_fields_raise <;> simp

@[simp] theorem raiseContained_sup (b : FBlk) (ks : List Nat) (f : FaultBank) (s : State) : (raiseContained b ks f s).sup = s.sup := by rw [raiseContained_frame]
@[simp] theorem raiseContained_start (b : FBlk) (ks : List Nat) (f : FaultBank) (s : State) : (raiseContained b ks f s).start = s.start := by rw [raiseContained_frame]
@[simp] theorem raiseContained_sat (b : FBlk) (ks : List Nat) (f : FaultBank) (s : State) : (raiseContained b ks f s).sat = s.sat := by rw [raiseContained_frame]
@[simp] theorem raiseContained_mea (b : FBlk) (ks : List Nat) (f : FaultBank) (s : State) : (raiseContained b ks f s).mea = s.mea := by rw [raiseContained_frame]
@[simp] theorem raiseContained_rnd (b : FBlk) (ks : List Nat) (f : FaultBank) (s : State) : (raiseContained b ks f s).rnd = s.rnd := by rw [raiseContained_frame]
@[simp] theorem raiseContained_rig (b : FBlk) (ks : List Nat) (f : FaultBank) (s : State) : (raiseContained b ks f s).rig = s.rig := by rw [raiseContained_frame]
@[simp] theorem raiseContained_free (b : FBlk) (ks : List Nat) (f : FaultBank) (s : State) : (raiseContained b ks f s).free = s.free := by rw [raiseContained_frame]
@[simp] theorem raiseContained_pending (b : FBlk) (ks : List Nat) (f : FaultBank) (s : State) : (raiseContained b ks f s).pending = s.pending := by rw [raiseContained_frame]
@[simp] theorem satGet_raiseContained (b : FBlk) (ks : List Nat) (f : FaultBank) (q : Nat) (s : State) : satGet (raiseContained b ks f s) q = satGet s q := by rw [raiseContained_frame]; rfl
@[simp] theorem viewGet_raiseContained (b : FBlk) (ks : List Nat) (f : FaultBank) (q : Nat) (s : State) : viewGet (raiseContained b ks f s) q = viewGet s q := by rw [raiseContained_frame]; rfl
@[simp] theorem slotViewGet_raiseContained (b : FBlk) (ks : List Nat) (f : FaultBank) (q : Nat) (s : State) : slotViewGet (raiseContained b ks f s) q = slotViewGet s q := by rw [raiseContained_frame]; rfl

/-! ### raiseMany -/

/-- Fault events leave every block but these alone. -/
theorem raiseMany_frame (b : FBlk) (ks : List Nat) (s : State) :
    raiseMany b ks s = { s with
      fb := (raiseMany b ks s).fb, log := (raiseMany b ks s).log, rcd := (raiseMany b ks s).rcd
      sys := (raiseMany b ks s).sys, lko := (raiseMany b ks s).lko, ports := (raiseMany b ks s).ports
      fatal := (raiseMany b ks s).fatal, pins := (raiseMany b ks s).pins, slots := (raiseMany b ks s).slots
      tth := (raiseMany b ks s).tth, rls := (raiseMany b ks s).rls, upd := (raiseMany b ks s).upd
      ord := (raiseMany b ks s).ord, mor := (raiseMany b ks s).mor, ldg := (raiseMany b ks s).ldg } := by
  apply eq_of_fields_raise <;> (unfold raiseMany; (repeat' split) <;> (simp; try ((repeat' split) <;> simp)))

@[simp] theorem raiseMany_sup (b : FBlk) (ks : List Nat) (s : State) : (raiseMany b ks s).sup = s.sup := by rw [raiseMany_frame]
@[simp] theorem raiseMany_start (b : FBlk) (ks : List Nat) (s : State) : (raiseMany b ks s).start = s.start := by rw [raiseMany_frame]
@[simp] theorem raiseMany_sat (b : FBlk) (ks : List Nat) (s : State) : (raiseMany b ks s).sat = s.sat := by rw [raiseMany_frame]
@[simp] theorem raiseMany_mea (b : FBlk) (ks : List Nat) (s : State) : (raiseMany b ks s).mea = s.mea := by rw [raiseMany_frame]
@[simp] theorem raiseMany_rnd (b : FBlk) (ks : List Nat) (s : State) : (raiseMany b ks s).rnd = s.rnd := by rw [raiseMany_frame]
@[simp] theorem raiseMany_rig (b : FBlk) (ks : List Nat) (s : State) : (raiseMany b ks s).rig = s.rig := by rw [raiseMany_frame]
@[simp] theorem raiseMany_free (b : FBlk) (ks : List Nat) (s : State) : (raiseMany b ks s).free = s.free := by rw [raiseMany_frame]
@[simp] theorem raiseMany_pending (b : FBlk) (ks : List Nat) (s : State) : (raiseMany b ks s).pending = s.pending := by rw [raiseMany_frame]
@[simp] theorem satGet_raiseMany (b : FBlk) (ks : List Nat) (q : Nat) (s : State) : satGet (raiseMany b ks s) q = satGet s q := by rw [raiseMany_frame]; rfl
@[simp] theorem viewGet_raiseMany (b : FBlk) (ks : List Nat) (q : Nat) (s : State) : viewGet (raiseMany b ks s) q = viewGet s q := by rw [raiseMany_frame]; rfl
@[simp] theorem slotViewGet_raiseMany (b : FBlk) (ks : List Nat) (q : Nat) (s : State) : slotViewGet (raiseMany b ks s) q = slotViewGet s q := by rw [raiseMany_frame]; rfl

/-! ### raise -/

/-- One fault event, the same. -/
theorem raise_frame (b : FBlk) (k : Nat) (s : State) :
    raise b k s = { s with
      fb := (raise b k s).fb, log := (raise b k s).log, rcd := (raise b k s).rcd, sys := (raise b k s).sys
      lko := (raise b k s).lko, ports := (raise b k s).ports, fatal := (raise b k s).fatal, pins := (raise b k s).pins
      slots := (raise b k s).slots, tth := (raise b k s).tth, rls := (raise b k s).rls, upd := (raise b k s).upd
      ord := (raise b k s).ord, mor := (raise b k s).mor, ldg := (raise b k s).ldg } := by
  exact raiseMany_frame ..

@[simp] theorem raise_sup (b : FBlk) (k : Nat) (s : State) : (raise b k s).sup = s.sup := by rw [raise_frame]
@[simp] theorem raise_start (b : FBlk) (k : Nat) (s : State) : (raise b k s).start = s.start := by rw [raise_frame]
@[simp] theorem raise_sat (b : FBlk) (k : Nat) (s : State) : (raise b k s).sat = s.sat := by rw [raise_frame]
@[simp] theorem raise_mea (b : FBlk) (k : Nat) (s : State) : (raise b k s).mea = s.mea := by rw [raise_frame]
@[simp] theorem raise_rnd (b : FBlk) (k : Nat) (s : State) : (raise b k s).rnd = s.rnd := by rw [raise_frame]
@[simp] theorem raise_rig (b : FBlk) (k : Nat) (s : State) : (raise b k s).rig = s.rig := by rw [raise_frame]
@[simp] theorem raise_free (b : FBlk) (k : Nat) (s : State) : (raise b k s).free = s.free := by rw [raise_frame]
@[simp] theorem raise_pending (b : FBlk) (k : Nat) (s : State) : (raise b k s).pending = s.pending := by rw [raise_frame]
@[simp] theorem satGet_raise (b : FBlk) (k : Nat) (q : Nat) (s : State) : satGet (raise b k s) q = satGet s q := by rw [raise_frame]; rfl
@[simp] theorem viewGet_raise (b : FBlk) (k : Nat) (q : Nat) (s : State) : viewGet (raise b k s) q = viewGet s q := by rw [raise_frame]; rfl
@[simp] theorem slotViewGet_raise (b : FBlk) (k : Nat) (q : Nat) (s : State) : slotViewGet (raise b k s) q = slotViewGet s q := by rw [raise_frame]; rfl

/-! ### chainPut -/

/-- Bytes of a chain are written. -/
theorem chainPut_frame (o : Order) (n : Nat) (l : List Byte) (s : State) :
    chainPut o n l s = { s with
      ord := (chainPut o n l s).ord } := by
  unfold chainPut; dsimp only; (repeat' split) <;> rfl

@[simp] theorem chainPut_sys (o : Order) (n : Nat) (l : List Byte) (s : State) : (chainPut o n l s).sys = s.sys := by rw [chainPut_frame]
@[simp] theorem chainPut_fatal (o : Order) (n : Nat) (l : List Byte) (s : State) : (chainPut o n l s).fatal = s.fatal := by rw [chainPut_frame]
@[simp] theorem chainPut_pins (o : Order) (n : Nat) (l : List Byte) (s : State) : (chainPut o n l s).pins = s.pins := by rw [chainPut_frame]
@[simp] theorem chainPut_sup (o : Order) (n : Nat) (l : List Byte) (s : State) : (chainPut o n l s).sup = s.sup := by rw [chainPut_frame]
@[simp] theorem chainPut_start (o : Order) (n : Nat) (l : List Byte) (s : State) : (chainPut o n l s).start = s.start := by rw [chainPut_frame]
@[simp] theorem chainPut_fb (o : Order) (n : Nat) (l : List Byte) (s : State) : (chainPut o n l s).fb = s.fb := by rw [chainPut_frame]
@[simp] theorem chainPut_ports (o : Order) (n : Nat) (l : List Byte) (s : State) : (chainPut o n l s).ports = s.ports := by rw [chainPut_frame]
@[simp] theorem chainPut_mor (o : Order) (n : Nat) (l : List Byte) (s : State) : (chainPut o n l s).mor = s.mor := by rw [chainPut_frame]
@[simp] theorem chainPut_slots (o : Order) (n : Nat) (l : List Byte) (s : State) : (chainPut o n l s).slots = s.slots := by rw [chainPut_frame]
@[simp] theorem chainPut_tth (o : Order) (n : Nat) (l : List Byte) (s : State) : (chainPut o n l s).tth = s.tth := by rw [chainPut_frame]
@[simp] theorem chainPut_sat (o : Order) (n : Nat) (l : List Byte) (s : State) : (chainPut o n l s).sat = s.sat := by rw [chainPut_frame]
@[simp] theorem chainPut_ldg (o : Order) (n : Nat) (l : List Byte) (s : State) : (chainPut o n l s).ldg = s.ldg := by rw [chainPut_frame]
@[simp] theorem chainPut_rls (o : Order) (n : Nat) (l : List Byte) (s : State) : (chainPut o n l s).rls = s.rls := by rw [chainPut_frame]
@[simp] theorem chainPut_mea (o : Order) (n : Nat) (l : List Byte) (s : State) : (chainPut o n l s).mea = s.mea := by rw [chainPut_frame]
@[simp] theorem chainPut_lko (o : Order) (n : Nat) (l : List Byte) (s : State) : (chainPut o n l s).lko = s.lko := by rw [chainPut_frame]
@[simp] theorem chainPut_log (o : Order) (n : Nat) (l : List Byte) (s : State) : (chainPut o n l s).log = s.log := by rw [chainPut_frame]
@[simp] theorem chainPut_rnd (o : Order) (n : Nat) (l : List Byte) (s : State) : (chainPut o n l s).rnd = s.rnd := by rw [chainPut_frame]
@[simp] theorem chainPut_upd (o : Order) (n : Nat) (l : List Byte) (s : State) : (chainPut o n l s).upd = s.upd := by rw [chainPut_frame]
@[simp] theorem chainPut_rig (o : Order) (n : Nat) (l : List Byte) (s : State) : (chainPut o n l s).rig = s.rig := by rw [chainPut_frame]
@[simp] theorem chainPut_rcd (o : Order) (n : Nat) (l : List Byte) (s : State) : (chainPut o n l s).rcd = s.rcd := by rw [chainPut_frame]
@[simp] theorem chainPut_free (o : Order) (n : Nat) (l : List Byte) (s : State) : (chainPut o n l s).free = s.free := by rw [chainPut_frame]
@[simp] theorem chainPut_pending (o : Order) (n : Nat) (l : List Byte) (s : State) : (chainPut o n l s).pending = s.pending := by rw [chainPut_frame]
@[simp] theorem slotGet_chainPut (o : Order) (n : Nat) (l : List Byte) (q : Nat) (s : State) : slotGet (chainPut o n l s) q = slotGet s q := by rw [chainPut_frame]; rfl
@[simp] theorem satGet_chainPut (o : Order) (n : Nat) (l : List Byte) (q : Nat) (s : State) : satGet (chainPut o n l s) q = satGet s q := by rw [chainPut_frame]; rfl
@[simp] theorem viewGet_chainPut (o : Order) (n : Nat) (l : List Byte) (q : Nat) (s : State) : viewGet (chainPut o n l s) q = viewGet s q := by rw [chainPut_frame]; rfl
@[simp] theorem slotViewGet_chainPut (o : Order) (n : Nat) (l : List Byte) (q : Nat) (s : State) : slotViewGet (chainPut o n l s) q = slotViewGet s q := by rw [chainPut_frame]; rfl
@[simp] theorem ldgGet_chainPut (o : Order) (n : Nat) (l : List Byte) (q : Nat) (s : State) : ldgGet (chainPut o n l s) q = ldgGet s q := by rw [chainPut_frame]; rfl
@[simp] theorem railGet_chainPut (o : Order) (n : Nat) (l : List Byte) (q : Nat) (s : State) : railGet (chainPut o n l s) q = railGet s q := by rw [chainPut_frame]; rfl
@[simp] theorem tetherGet_chainPut (o : Order) (n : Nat) (l : List Byte) (q : Nat) (s : State) : tetherGet (chainPut o n l s) q = tetherGet s q := by rw [chainPut_frame]; rfl
@[simp] theorem portGet_chainPut (o : Order) (n : Nat) (l : List Byte) (q : Port) (s : State) : portGet (chainPut o n l s) q = portGet s q := by rw [chainPut_frame]; rfl

/-! ### chainMark -/

/-- Its fills and end marks are set. -/
theorem chainMark_frame (o : Order) (n : Nat) (s : State) :
    chainMark o n s = { s with
      ord := (chainMark o n s).ord } := by
  unfold chainMark; dsimp only; (repeat' split) <;> rfl

@[simp] theorem chainMark_sys (o : Order) (n : Nat) (s : State) : (chainMark o n s).sys = s.sys := by rw [chainMark_frame]
@[simp] theorem chainMark_fatal (o : Order) (n : Nat) (s : State) : (chainMark o n s).fatal = s.fatal := by rw [chainMark_frame]
@[simp] theorem chainMark_pins (o : Order) (n : Nat) (s : State) : (chainMark o n s).pins = s.pins := by rw [chainMark_frame]
@[simp] theorem chainMark_sup (o : Order) (n : Nat) (s : State) : (chainMark o n s).sup = s.sup := by rw [chainMark_frame]
@[simp] theorem chainMark_start (o : Order) (n : Nat) (s : State) : (chainMark o n s).start = s.start := by rw [chainMark_frame]
@[simp] theorem chainMark_fb (o : Order) (n : Nat) (s : State) : (chainMark o n s).fb = s.fb := by rw [chainMark_frame]
@[simp] theorem chainMark_ports (o : Order) (n : Nat) (s : State) : (chainMark o n s).ports = s.ports := by rw [chainMark_frame]
@[simp] theorem chainMark_mor (o : Order) (n : Nat) (s : State) : (chainMark o n s).mor = s.mor := by rw [chainMark_frame]
@[simp] theorem chainMark_slots (o : Order) (n : Nat) (s : State) : (chainMark o n s).slots = s.slots := by rw [chainMark_frame]
@[simp] theorem chainMark_tth (o : Order) (n : Nat) (s : State) : (chainMark o n s).tth = s.tth := by rw [chainMark_frame]
@[simp] theorem chainMark_sat (o : Order) (n : Nat) (s : State) : (chainMark o n s).sat = s.sat := by rw [chainMark_frame]
@[simp] theorem chainMark_ldg (o : Order) (n : Nat) (s : State) : (chainMark o n s).ldg = s.ldg := by rw [chainMark_frame]
@[simp] theorem chainMark_rls (o : Order) (n : Nat) (s : State) : (chainMark o n s).rls = s.rls := by rw [chainMark_frame]
@[simp] theorem chainMark_mea (o : Order) (n : Nat) (s : State) : (chainMark o n s).mea = s.mea := by rw [chainMark_frame]
@[simp] theorem chainMark_lko (o : Order) (n : Nat) (s : State) : (chainMark o n s).lko = s.lko := by rw [chainMark_frame]
@[simp] theorem chainMark_log (o : Order) (n : Nat) (s : State) : (chainMark o n s).log = s.log := by rw [chainMark_frame]
@[simp] theorem chainMark_rnd (o : Order) (n : Nat) (s : State) : (chainMark o n s).rnd = s.rnd := by rw [chainMark_frame]
@[simp] theorem chainMark_upd (o : Order) (n : Nat) (s : State) : (chainMark o n s).upd = s.upd := by rw [chainMark_frame]
@[simp] theorem chainMark_rig (o : Order) (n : Nat) (s : State) : (chainMark o n s).rig = s.rig := by rw [chainMark_frame]
@[simp] theorem chainMark_rcd (o : Order) (n : Nat) (s : State) : (chainMark o n s).rcd = s.rcd := by rw [chainMark_frame]
@[simp] theorem chainMark_free (o : Order) (n : Nat) (s : State) : (chainMark o n s).free = s.free := by rw [chainMark_frame]
@[simp] theorem chainMark_pending (o : Order) (n : Nat) (s : State) : (chainMark o n s).pending = s.pending := by rw [chainMark_frame]
@[simp] theorem slotGet_chainMark (o : Order) (n : Nat) (q : Nat) (s : State) : slotGet (chainMark o n s) q = slotGet s q := by rw [chainMark_frame]; rfl
@[simp] theorem satGet_chainMark (o : Order) (n : Nat) (q : Nat) (s : State) : satGet (chainMark o n s) q = satGet s q := by rw [chainMark_frame]; rfl
@[simp] theorem viewGet_chainMark (o : Order) (n : Nat) (q : Nat) (s : State) : viewGet (chainMark o n s) q = viewGet s q := by rw [chainMark_frame]; rfl
@[simp] theorem slotViewGet_chainMark (o : Order) (n : Nat) (q : Nat) (s : State) : slotViewGet (chainMark o n s) q = slotViewGet s q := by rw [chainMark_frame]; rfl
@[simp] theorem ldgGet_chainMark (o : Order) (n : Nat) (q : Nat) (s : State) : ldgGet (chainMark o n s) q = ldgGet s q := by rw [chainMark_frame]; rfl
@[simp] theorem railGet_chainMark (o : Order) (n : Nat) (q : Nat) (s : State) : railGet (chainMark o n s) q = railGet s q := by rw [chainMark_frame]; rfl
@[simp] theorem tetherGet_chainMark (o : Order) (n : Nat) (q : Nat) (s : State) : tetherGet (chainMark o n s) q = tetherGet s q := by rw [chainMark_frame]; rfl
@[simp] theorem portGet_chainMark (o : Order) (n : Nat) (q : Port) (s : State) : portGet (chainMark o n s) q = portGet s q := by rw [chainMark_frame]; rfl

/-! ### chainWrite -/

/-- Returned data are written to parcels. -/
theorem chainWrite_frame (o : Order) (n : Nat) (l : List Byte) (s : State) :
    chainWrite o n l s = { s with
      ord := (chainWrite o n l s).ord } := by
  unfold chainWrite; rw [chainMark_frame, chainPut_frame]

@[simp] theorem chainWrite_sys (o : Order) (n : Nat) (l : List Byte) (s : State) : (chainWrite o n l s).sys = s.sys := by rw [chainWrite_frame]
@[simp] theorem chainWrite_fatal (o : Order) (n : Nat) (l : List Byte) (s : State) : (chainWrite o n l s).fatal = s.fatal := by rw [chainWrite_frame]
@[simp] theorem chainWrite_pins (o : Order) (n : Nat) (l : List Byte) (s : State) : (chainWrite o n l s).pins = s.pins := by rw [chainWrite_frame]
@[simp] theorem chainWrite_sup (o : Order) (n : Nat) (l : List Byte) (s : State) : (chainWrite o n l s).sup = s.sup := by rw [chainWrite_frame]
@[simp] theorem chainWrite_start (o : Order) (n : Nat) (l : List Byte) (s : State) : (chainWrite o n l s).start = s.start := by rw [chainWrite_frame]
@[simp] theorem chainWrite_fb (o : Order) (n : Nat) (l : List Byte) (s : State) : (chainWrite o n l s).fb = s.fb := by rw [chainWrite_frame]
@[simp] theorem chainWrite_ports (o : Order) (n : Nat) (l : List Byte) (s : State) : (chainWrite o n l s).ports = s.ports := by rw [chainWrite_frame]
@[simp] theorem chainWrite_mor (o : Order) (n : Nat) (l : List Byte) (s : State) : (chainWrite o n l s).mor = s.mor := by rw [chainWrite_frame]
@[simp] theorem chainWrite_slots (o : Order) (n : Nat) (l : List Byte) (s : State) : (chainWrite o n l s).slots = s.slots := by rw [chainWrite_frame]
@[simp] theorem chainWrite_tth (o : Order) (n : Nat) (l : List Byte) (s : State) : (chainWrite o n l s).tth = s.tth := by rw [chainWrite_frame]
@[simp] theorem chainWrite_sat (o : Order) (n : Nat) (l : List Byte) (s : State) : (chainWrite o n l s).sat = s.sat := by rw [chainWrite_frame]
@[simp] theorem chainWrite_ldg (o : Order) (n : Nat) (l : List Byte) (s : State) : (chainWrite o n l s).ldg = s.ldg := by rw [chainWrite_frame]
@[simp] theorem chainWrite_rls (o : Order) (n : Nat) (l : List Byte) (s : State) : (chainWrite o n l s).rls = s.rls := by rw [chainWrite_frame]
@[simp] theorem chainWrite_mea (o : Order) (n : Nat) (l : List Byte) (s : State) : (chainWrite o n l s).mea = s.mea := by rw [chainWrite_frame]
@[simp] theorem chainWrite_lko (o : Order) (n : Nat) (l : List Byte) (s : State) : (chainWrite o n l s).lko = s.lko := by rw [chainWrite_frame]
@[simp] theorem chainWrite_log (o : Order) (n : Nat) (l : List Byte) (s : State) : (chainWrite o n l s).log = s.log := by rw [chainWrite_frame]
@[simp] theorem chainWrite_rnd (o : Order) (n : Nat) (l : List Byte) (s : State) : (chainWrite o n l s).rnd = s.rnd := by rw [chainWrite_frame]
@[simp] theorem chainWrite_upd (o : Order) (n : Nat) (l : List Byte) (s : State) : (chainWrite o n l s).upd = s.upd := by rw [chainWrite_frame]
@[simp] theorem chainWrite_rig (o : Order) (n : Nat) (l : List Byte) (s : State) : (chainWrite o n l s).rig = s.rig := by rw [chainWrite_frame]
@[simp] theorem chainWrite_rcd (o : Order) (n : Nat) (l : List Byte) (s : State) : (chainWrite o n l s).rcd = s.rcd := by rw [chainWrite_frame]
@[simp] theorem chainWrite_free (o : Order) (n : Nat) (l : List Byte) (s : State) : (chainWrite o n l s).free = s.free := by rw [chainWrite_frame]
@[simp] theorem chainWrite_pending (o : Order) (n : Nat) (l : List Byte) (s : State) : (chainWrite o n l s).pending = s.pending := by rw [chainWrite_frame]
@[simp] theorem slotGet_chainWrite (o : Order) (n : Nat) (l : List Byte) (q : Nat) (s : State) : slotGet (chainWrite o n l s) q = slotGet s q := by rw [chainWrite_frame]; rfl
@[simp] theorem satGet_chainWrite (o : Order) (n : Nat) (l : List Byte) (q : Nat) (s : State) : satGet (chainWrite o n l s) q = satGet s q := by rw [chainWrite_frame]; rfl
@[simp] theorem viewGet_chainWrite (o : Order) (n : Nat) (l : List Byte) (q : Nat) (s : State) : viewGet (chainWrite o n l s) q = viewGet s q := by rw [chainWrite_frame]; rfl
@[simp] theorem slotViewGet_chainWrite (o : Order) (n : Nat) (l : List Byte) (q : Nat) (s : State) : slotViewGet (chainWrite o n l s) q = slotViewGet s q := by rw [chainWrite_frame]; rfl
@[simp] theorem ldgGet_chainWrite (o : Order) (n : Nat) (l : List Byte) (q : Nat) (s : State) : ldgGet (chainWrite o n l s) q = ldgGet s q := by rw [chainWrite_frame]; rfl
@[simp] theorem railGet_chainWrite (o : Order) (n : Nat) (l : List Byte) (q : Nat) (s : State) : railGet (chainWrite o n l s) q = railGet s q := by rw [chainWrite_frame]; rfl
@[simp] theorem tetherGet_chainWrite (o : Order) (n : Nat) (l : List Byte) (q : Nat) (s : State) : tetherGet (chainWrite o n l s) q = tetherGet s q := by rw [chainWrite_frame]; rfl
@[simp] theorem portGet_chainWrite (o : Order) (n : Nat) (l : List Byte) (q : Port) (s : State) : portGet (chainWrite o n l s) q = portGet s q := by rw [chainWrite_frame]; rfl

/-! ### endOrderData -/

theorem modBank_frame (p : Port) (f : OrdBank → OrdBank) (s : State) :
    modBank p f s = { s with ord := (modBank p f s).ord } := rfl

/-- The end of an order with data. -/
theorem endOrderData_frame (o : Order) (c : Nat) (l : List Byte) (n : Nat) (s : State) :
    endOrderData o c l n s = { s with
      ord := (endOrderData o c l n s).ord, mor := (endOrderData o c l n s).mor } := by
  unfold endOrderData; dsimp only
  rw [endOrder_frame]
  (repeat' split) <;> first | rfl | rw [modBank_frame, chainWrite_frame] | rw [chainWrite_frame]

@[simp] theorem endOrderData_sys (o : Order) (c : Nat) (l : List Byte) (n : Nat) (s : State) : (endOrderData o c l n s).sys = s.sys := by rw [endOrderData_frame]
@[simp] theorem endOrderData_fatal (o : Order) (c : Nat) (l : List Byte) (n : Nat) (s : State) : (endOrderData o c l n s).fatal = s.fatal := by rw [endOrderData_frame]
@[simp] theorem endOrderData_pins (o : Order) (c : Nat) (l : List Byte) (n : Nat) (s : State) : (endOrderData o c l n s).pins = s.pins := by rw [endOrderData_frame]
@[simp] theorem endOrderData_sup (o : Order) (c : Nat) (l : List Byte) (n : Nat) (s : State) : (endOrderData o c l n s).sup = s.sup := by rw [endOrderData_frame]
@[simp] theorem endOrderData_start (o : Order) (c : Nat) (l : List Byte) (n : Nat) (s : State) : (endOrderData o c l n s).start = s.start := by rw [endOrderData_frame]
@[simp] theorem endOrderData_fb (o : Order) (c : Nat) (l : List Byte) (n : Nat) (s : State) : (endOrderData o c l n s).fb = s.fb := by rw [endOrderData_frame]
@[simp] theorem endOrderData_ports (o : Order) (c : Nat) (l : List Byte) (n : Nat) (s : State) : (endOrderData o c l n s).ports = s.ports := by rw [endOrderData_frame]
@[simp] theorem endOrderData_slots (o : Order) (c : Nat) (l : List Byte) (n : Nat) (s : State) : (endOrderData o c l n s).slots = s.slots := by rw [endOrderData_frame]
@[simp] theorem endOrderData_tth (o : Order) (c : Nat) (l : List Byte) (n : Nat) (s : State) : (endOrderData o c l n s).tth = s.tth := by rw [endOrderData_frame]
@[simp] theorem endOrderData_sat (o : Order) (c : Nat) (l : List Byte) (n : Nat) (s : State) : (endOrderData o c l n s).sat = s.sat := by rw [endOrderData_frame]
@[simp] theorem endOrderData_ldg (o : Order) (c : Nat) (l : List Byte) (n : Nat) (s : State) : (endOrderData o c l n s).ldg = s.ldg := by rw [endOrderData_frame]
@[simp] theorem endOrderData_rls (o : Order) (c : Nat) (l : List Byte) (n : Nat) (s : State) : (endOrderData o c l n s).rls = s.rls := by rw [endOrderData_frame]
@[simp] theorem endOrderData_mea (o : Order) (c : Nat) (l : List Byte) (n : Nat) (s : State) : (endOrderData o c l n s).mea = s.mea := by rw [endOrderData_frame]
@[simp] theorem endOrderData_lko (o : Order) (c : Nat) (l : List Byte) (n : Nat) (s : State) : (endOrderData o c l n s).lko = s.lko := by rw [endOrderData_frame]
@[simp] theorem endOrderData_log (o : Order) (c : Nat) (l : List Byte) (n : Nat) (s : State) : (endOrderData o c l n s).log = s.log := by rw [endOrderData_frame]
@[simp] theorem endOrderData_rnd (o : Order) (c : Nat) (l : List Byte) (n : Nat) (s : State) : (endOrderData o c l n s).rnd = s.rnd := by rw [endOrderData_frame]
@[simp] theorem endOrderData_upd (o : Order) (c : Nat) (l : List Byte) (n : Nat) (s : State) : (endOrderData o c l n s).upd = s.upd := by rw [endOrderData_frame]
@[simp] theorem endOrderData_rig (o : Order) (c : Nat) (l : List Byte) (n : Nat) (s : State) : (endOrderData o c l n s).rig = s.rig := by rw [endOrderData_frame]
@[simp] theorem endOrderData_rcd (o : Order) (c : Nat) (l : List Byte) (n : Nat) (s : State) : (endOrderData o c l n s).rcd = s.rcd := by rw [endOrderData_frame]
@[simp] theorem endOrderData_free (o : Order) (c : Nat) (l : List Byte) (n : Nat) (s : State) : (endOrderData o c l n s).free = s.free := by rw [endOrderData_frame]
@[simp] theorem endOrderData_pending (o : Order) (c : Nat) (l : List Byte) (n : Nat) (s : State) : (endOrderData o c l n s).pending = s.pending := by rw [endOrderData_frame]
@[simp] theorem slotGet_endOrderData (o : Order) (c : Nat) (l : List Byte) (n : Nat) (q : Nat) (s : State) : slotGet (endOrderData o c l n s) q = slotGet s q := by rw [endOrderData_frame]; rfl
@[simp] theorem satGet_endOrderData (o : Order) (c : Nat) (l : List Byte) (n : Nat) (q : Nat) (s : State) : satGet (endOrderData o c l n s) q = satGet s q := by rw [endOrderData_frame]; rfl
@[simp] theorem viewGet_endOrderData (o : Order) (c : Nat) (l : List Byte) (n : Nat) (q : Nat) (s : State) : viewGet (endOrderData o c l n s) q = viewGet s q := by rw [endOrderData_frame]; rfl
@[simp] theorem slotViewGet_endOrderData (o : Order) (c : Nat) (l : List Byte) (n : Nat) (q : Nat) (s : State) : slotViewGet (endOrderData o c l n s) q = slotViewGet s q := by rw [endOrderData_frame]; rfl
@[simp] theorem ldgGet_endOrderData (o : Order) (c : Nat) (l : List Byte) (n : Nat) (q : Nat) (s : State) : ldgGet (endOrderData o c l n s) q = ldgGet s q := by rw [endOrderData_frame]; rfl
@[simp] theorem railGet_endOrderData (o : Order) (c : Nat) (l : List Byte) (n : Nat) (q : Nat) (s : State) : railGet (endOrderData o c l n s) q = railGet s q := by rw [endOrderData_frame]; rfl
@[simp] theorem tetherGet_endOrderData (o : Order) (c : Nat) (l : List Byte) (n : Nat) (q : Nat) (s : State) : tetherGet (endOrderData o c l n s) q = tetherGet s q := by rw [endOrderData_frame]; rfl
@[simp] theorem portGet_endOrderData (o : Order) (c : Nat) (l : List Byte) (n : Nat) (q : Port) (s : State) : portGet (endOrderData o c l n s) q = portGet s q := by rw [endOrderData_frame]; rfl

/-! ### endOrderDataId -/

/-- The same by id. -/
theorem endOrderDataId_frame (i c : Nat) (l : List Byte) (n : Nat) (s : State) :
    endOrderDataId i c l n s = { s with
      ord := (endOrderDataId i c l n s).ord, mor := (endOrderDataId i c l n s).mor } := by
  unfold endOrderDataId; split <;> [rfl; exact endOrderData_frame ..]

@[simp] theorem endOrderDataId_sys (i c : Nat) (l : List Byte) (n : Nat) (s : State) : (endOrderDataId i c l n s).sys = s.sys := by rw [endOrderDataId_frame]
@[simp] theorem endOrderDataId_fatal (i c : Nat) (l : List Byte) (n : Nat) (s : State) : (endOrderDataId i c l n s).fatal = s.fatal := by rw [endOrderDataId_frame]
@[simp] theorem endOrderDataId_pins (i c : Nat) (l : List Byte) (n : Nat) (s : State) : (endOrderDataId i c l n s).pins = s.pins := by rw [endOrderDataId_frame]
@[simp] theorem endOrderDataId_sup (i c : Nat) (l : List Byte) (n : Nat) (s : State) : (endOrderDataId i c l n s).sup = s.sup := by rw [endOrderDataId_frame]
@[simp] theorem endOrderDataId_start (i c : Nat) (l : List Byte) (n : Nat) (s : State) : (endOrderDataId i c l n s).start = s.start := by rw [endOrderDataId_frame]
@[simp] theorem endOrderDataId_fb (i c : Nat) (l : List Byte) (n : Nat) (s : State) : (endOrderDataId i c l n s).fb = s.fb := by rw [endOrderDataId_frame]
@[simp] theorem endOrderDataId_ports (i c : Nat) (l : List Byte) (n : Nat) (s : State) : (endOrderDataId i c l n s).ports = s.ports := by rw [endOrderDataId_frame]
@[simp] theorem endOrderDataId_slots (i c : Nat) (l : List Byte) (n : Nat) (s : State) : (endOrderDataId i c l n s).slots = s.slots := by rw [endOrderDataId_frame]
@[simp] theorem endOrderDataId_tth (i c : Nat) (l : List Byte) (n : Nat) (s : State) : (endOrderDataId i c l n s).tth = s.tth := by rw [endOrderDataId_frame]
@[simp] theorem endOrderDataId_sat (i c : Nat) (l : List Byte) (n : Nat) (s : State) : (endOrderDataId i c l n s).sat = s.sat := by rw [endOrderDataId_frame]
@[simp] theorem endOrderDataId_ldg (i c : Nat) (l : List Byte) (n : Nat) (s : State) : (endOrderDataId i c l n s).ldg = s.ldg := by rw [endOrderDataId_frame]
@[simp] theorem endOrderDataId_rls (i c : Nat) (l : List Byte) (n : Nat) (s : State) : (endOrderDataId i c l n s).rls = s.rls := by rw [endOrderDataId_frame]
@[simp] theorem endOrderDataId_mea (i c : Nat) (l : List Byte) (n : Nat) (s : State) : (endOrderDataId i c l n s).mea = s.mea := by rw [endOrderDataId_frame]
@[simp] theorem endOrderDataId_lko (i c : Nat) (l : List Byte) (n : Nat) (s : State) : (endOrderDataId i c l n s).lko = s.lko := by rw [endOrderDataId_frame]
@[simp] theorem endOrderDataId_log (i c : Nat) (l : List Byte) (n : Nat) (s : State) : (endOrderDataId i c l n s).log = s.log := by rw [endOrderDataId_frame]
@[simp] theorem endOrderDataId_rnd (i c : Nat) (l : List Byte) (n : Nat) (s : State) : (endOrderDataId i c l n s).rnd = s.rnd := by rw [endOrderDataId_frame]
@[simp] theorem endOrderDataId_upd (i c : Nat) (l : List Byte) (n : Nat) (s : State) : (endOrderDataId i c l n s).upd = s.upd := by rw [endOrderDataId_frame]
@[simp] theorem endOrderDataId_rig (i c : Nat) (l : List Byte) (n : Nat) (s : State) : (endOrderDataId i c l n s).rig = s.rig := by rw [endOrderDataId_frame]
@[simp] theorem endOrderDataId_rcd (i c : Nat) (l : List Byte) (n : Nat) (s : State) : (endOrderDataId i c l n s).rcd = s.rcd := by rw [endOrderDataId_frame]
@[simp] theorem endOrderDataId_free (i c : Nat) (l : List Byte) (n : Nat) (s : State) : (endOrderDataId i c l n s).free = s.free := by rw [endOrderDataId_frame]
@[simp] theorem endOrderDataId_pending (i c : Nat) (l : List Byte) (n : Nat) (s : State) : (endOrderDataId i c l n s).pending = s.pending := by rw [endOrderDataId_frame]
@[simp] theorem slotGet_endOrderDataId (i c : Nat) (l : List Byte) (n : Nat) (q : Nat) (s : State) : slotGet (endOrderDataId i c l n s) q = slotGet s q := by rw [endOrderDataId_frame]; rfl
@[simp] theorem satGet_endOrderDataId (i c : Nat) (l : List Byte) (n : Nat) (q : Nat) (s : State) : satGet (endOrderDataId i c l n s) q = satGet s q := by rw [endOrderDataId_frame]; rfl
@[simp] theorem viewGet_endOrderDataId (i c : Nat) (l : List Byte) (n : Nat) (q : Nat) (s : State) : viewGet (endOrderDataId i c l n s) q = viewGet s q := by rw [endOrderDataId_frame]; rfl
@[simp] theorem slotViewGet_endOrderDataId (i c : Nat) (l : List Byte) (n : Nat) (q : Nat) (s : State) : slotViewGet (endOrderDataId i c l n s) q = slotViewGet s q := by rw [endOrderDataId_frame]; rfl
@[simp] theorem ldgGet_endOrderDataId (i c : Nat) (l : List Byte) (n : Nat) (q : Nat) (s : State) : ldgGet (endOrderDataId i c l n s) q = ldgGet s q := by rw [endOrderDataId_frame]; rfl
@[simp] theorem railGet_endOrderDataId (i c : Nat) (l : List Byte) (n : Nat) (q : Nat) (s : State) : railGet (endOrderDataId i c l n s) q = railGet s q := by rw [endOrderDataId_frame]; rfl
@[simp] theorem tetherGet_endOrderDataId (i c : Nat) (l : List Byte) (n : Nat) (q : Nat) (s : State) : tetherGet (endOrderDataId i c l n s) q = tetherGet s q := by rw [endOrderDataId_frame]; rfl
@[simp] theorem portGet_endOrderDataId (i c : Nat) (l : List Byte) (n : Nat) (q : Port) (s : State) : portGet (endOrderDataId i c l n s) q = portGet s q := by rw [endOrderDataId_frame]; rfl

/-! ### satResult -/

/-- A RESULT is queued. -/
theorem satResult_frame (n : Nat) (r : SatResult) (s : State) :
    satResult n r s = { s with
      sat := (satResult n r s).sat } := by
  rfl

@[simp] theorem satResult_sys (n : Nat) (r : SatResult) (s : State) : (satResult n r s).sys = s.sys := by rw [satResult_frame]
@[simp] theorem satResult_fatal (n : Nat) (r : SatResult) (s : State) : (satResult n r s).fatal = s.fatal := by rw [satResult_frame]
@[simp] theorem satResult_pins (n : Nat) (r : SatResult) (s : State) : (satResult n r s).pins = s.pins := by rw [satResult_frame]
@[simp] theorem satResult_sup (n : Nat) (r : SatResult) (s : State) : (satResult n r s).sup = s.sup := by rw [satResult_frame]
@[simp] theorem satResult_start (n : Nat) (r : SatResult) (s : State) : (satResult n r s).start = s.start := by rw [satResult_frame]
@[simp] theorem satResult_fb (n : Nat) (r : SatResult) (s : State) : (satResult n r s).fb = s.fb := by rw [satResult_frame]
@[simp] theorem satResult_ports (n : Nat) (r : SatResult) (s : State) : (satResult n r s).ports = s.ports := by rw [satResult_frame]
@[simp] theorem satResult_mor (n : Nat) (r : SatResult) (s : State) : (satResult n r s).mor = s.mor := by rw [satResult_frame]
@[simp] theorem satResult_ord (n : Nat) (r : SatResult) (s : State) : (satResult n r s).ord = s.ord := by rw [satResult_frame]
@[simp] theorem satResult_slots (n : Nat) (r : SatResult) (s : State) : (satResult n r s).slots = s.slots := by rw [satResult_frame]
@[simp] theorem satResult_tth (n : Nat) (r : SatResult) (s : State) : (satResult n r s).tth = s.tth := by rw [satResult_frame]
@[simp] theorem satResult_ldg (n : Nat) (r : SatResult) (s : State) : (satResult n r s).ldg = s.ldg := by rw [satResult_frame]
@[simp] theorem satResult_rls (n : Nat) (r : SatResult) (s : State) : (satResult n r s).rls = s.rls := by rw [satResult_frame]
@[simp] theorem satResult_mea (n : Nat) (r : SatResult) (s : State) : (satResult n r s).mea = s.mea := by rw [satResult_frame]
@[simp] theorem satResult_lko (n : Nat) (r : SatResult) (s : State) : (satResult n r s).lko = s.lko := by rw [satResult_frame]
@[simp] theorem satResult_log (n : Nat) (r : SatResult) (s : State) : (satResult n r s).log = s.log := by rw [satResult_frame]
@[simp] theorem satResult_rnd (n : Nat) (r : SatResult) (s : State) : (satResult n r s).rnd = s.rnd := by rw [satResult_frame]
@[simp] theorem satResult_upd (n : Nat) (r : SatResult) (s : State) : (satResult n r s).upd = s.upd := by rw [satResult_frame]
@[simp] theorem satResult_rig (n : Nat) (r : SatResult) (s : State) : (satResult n r s).rig = s.rig := by rw [satResult_frame]
@[simp] theorem satResult_rcd (n : Nat) (r : SatResult) (s : State) : (satResult n r s).rcd = s.rcd := by rw [satResult_frame]
@[simp] theorem satResult_free (n : Nat) (r : SatResult) (s : State) : (satResult n r s).free = s.free := by rw [satResult_frame]
@[simp] theorem satResult_pending (n : Nat) (r : SatResult) (s : State) : (satResult n r s).pending = s.pending := by rw [satResult_frame]
@[simp] theorem slotGet_satResult (n : Nat) (r : SatResult) (q : Nat) (s : State) : slotGet (satResult n r s) q = slotGet s q := by rw [satResult_frame]; rfl
@[simp] theorem parcelGet_satResult (n : Nat) (r : SatResult) (q : Nat) (s : State) : parcelGet (satResult n r s) q = parcelGet s q := by rw [satResult_frame]; rfl
@[simp] theorem orderGet_satResult (n : Nat) (r : SatResult) (q : Nat) (s : State) : orderGet (satResult n r s) q = orderGet s q := by rw [satResult_frame]; rfl
@[simp] theorem ldgGet_satResult (n : Nat) (r : SatResult) (q : Nat) (s : State) : ldgGet (satResult n r s) q = ldgGet s q := by rw [satResult_frame]; rfl
@[simp] theorem railGet_satResult (n : Nat) (r : SatResult) (q : Nat) (s : State) : railGet (satResult n r s) q = railGet s q := by rw [satResult_frame]; rfl
@[simp] theorem tetherGet_satResult (n : Nat) (r : SatResult) (q : Nat) (s : State) : tetherGet (satResult n r s) q = tetherGet s q := by rw [satResult_frame]; rfl
@[simp] theorem portGet_satResult (n : Nat) (r : SatResult) (q : Port) (s : State) : portGet (satResult n r s) q = portGet s q := by rw [satResult_frame]; rfl

/-! ### satResultFirst -/

/-- A RESULT is queued first. -/
theorem satResultFirst_frame (n : Nat) (r : SatResult) (s : State) :
    satResultFirst n r s = { s with
      sat := (satResultFirst n r s).sat } := by
  rfl

@[simp] theorem satResultFirst_sys (n : Nat) (r : SatResult) (s : State) : (satResultFirst n r s).sys = s.sys := by rw [satResultFirst_frame]
@[simp] theorem satResultFirst_fatal (n : Nat) (r : SatResult) (s : State) : (satResultFirst n r s).fatal = s.fatal := by rw [satResultFirst_frame]
@[simp] theorem satResultFirst_pins (n : Nat) (r : SatResult) (s : State) : (satResultFirst n r s).pins = s.pins := by rw [satResultFirst_frame]
@[simp] theorem satResultFirst_sup (n : Nat) (r : SatResult) (s : State) : (satResultFirst n r s).sup = s.sup := by rw [satResultFirst_frame]
@[simp] theorem satResultFirst_start (n : Nat) (r : SatResult) (s : State) : (satResultFirst n r s).start = s.start := by rw [satResultFirst_frame]
@[simp] theorem satResultFirst_fb (n : Nat) (r : SatResult) (s : State) : (satResultFirst n r s).fb = s.fb := by rw [satResultFirst_frame]
@[simp] theorem satResultFirst_ports (n : Nat) (r : SatResult) (s : State) : (satResultFirst n r s).ports = s.ports := by rw [satResultFirst_frame]
@[simp] theorem satResultFirst_mor (n : Nat) (r : SatResult) (s : State) : (satResultFirst n r s).mor = s.mor := by rw [satResultFirst_frame]
@[simp] theorem satResultFirst_ord (n : Nat) (r : SatResult) (s : State) : (satResultFirst n r s).ord = s.ord := by rw [satResultFirst_frame]
@[simp] theorem satResultFirst_slots (n : Nat) (r : SatResult) (s : State) : (satResultFirst n r s).slots = s.slots := by rw [satResultFirst_frame]
@[simp] theorem satResultFirst_tth (n : Nat) (r : SatResult) (s : State) : (satResultFirst n r s).tth = s.tth := by rw [satResultFirst_frame]
@[simp] theorem satResultFirst_ldg (n : Nat) (r : SatResult) (s : State) : (satResultFirst n r s).ldg = s.ldg := by rw [satResultFirst_frame]
@[simp] theorem satResultFirst_rls (n : Nat) (r : SatResult) (s : State) : (satResultFirst n r s).rls = s.rls := by rw [satResultFirst_frame]
@[simp] theorem satResultFirst_mea (n : Nat) (r : SatResult) (s : State) : (satResultFirst n r s).mea = s.mea := by rw [satResultFirst_frame]
@[simp] theorem satResultFirst_lko (n : Nat) (r : SatResult) (s : State) : (satResultFirst n r s).lko = s.lko := by rw [satResultFirst_frame]
@[simp] theorem satResultFirst_log (n : Nat) (r : SatResult) (s : State) : (satResultFirst n r s).log = s.log := by rw [satResultFirst_frame]
@[simp] theorem satResultFirst_rnd (n : Nat) (r : SatResult) (s : State) : (satResultFirst n r s).rnd = s.rnd := by rw [satResultFirst_frame]
@[simp] theorem satResultFirst_upd (n : Nat) (r : SatResult) (s : State) : (satResultFirst n r s).upd = s.upd := by rw [satResultFirst_frame]
@[simp] theorem satResultFirst_rig (n : Nat) (r : SatResult) (s : State) : (satResultFirst n r s).rig = s.rig := by rw [satResultFirst_frame]
@[simp] theorem satResultFirst_rcd (n : Nat) (r : SatResult) (s : State) : (satResultFirst n r s).rcd = s.rcd := by rw [satResultFirst_frame]
@[simp] theorem satResultFirst_free (n : Nat) (r : SatResult) (s : State) : (satResultFirst n r s).free = s.free := by rw [satResultFirst_frame]
@[simp] theorem satResultFirst_pending (n : Nat) (r : SatResult) (s : State) : (satResultFirst n r s).pending = s.pending := by rw [satResultFirst_frame]
@[simp] theorem slotGet_satResultFirst (n : Nat) (r : SatResult) (q : Nat) (s : State) : slotGet (satResultFirst n r s) q = slotGet s q := by rw [satResultFirst_frame]; rfl
@[simp] theorem parcelGet_satResultFirst (n : Nat) (r : SatResult) (q : Nat) (s : State) : parcelGet (satResultFirst n r s) q = parcelGet s q := by rw [satResultFirst_frame]; rfl
@[simp] theorem orderGet_satResultFirst (n : Nat) (r : SatResult) (q : Nat) (s : State) : orderGet (satResultFirst n r s) q = orderGet s q := by rw [satResultFirst_frame]; rfl
@[simp] theorem ldgGet_satResultFirst (n : Nat) (r : SatResult) (q : Nat) (s : State) : ldgGet (satResultFirst n r s) q = ldgGet s q := by rw [satResultFirst_frame]; rfl
@[simp] theorem railGet_satResultFirst (n : Nat) (r : SatResult) (q : Nat) (s : State) : railGet (satResultFirst n r s) q = railGet s q := by rw [satResultFirst_frame]; rfl
@[simp] theorem tetherGet_satResultFirst (n : Nat) (r : SatResult) (q : Nat) (s : State) : tetherGet (satResultFirst n r s) q = tetherGet s q := by rw [satResultFirst_frame]; rfl
@[simp] theorem portGet_satResultFirst (n : Nat) (r : SatResult) (q : Port) (s : State) : portGet (satResultFirst n r s) q = portGet s q := by rw [satResultFirst_frame]; rfl

/-! ### satStir -/

/-- A satellite wakes. -/
theorem satStir_frame (n : Nat) (s : State) :
    satStir n s = { s with
      sat := (satStir n s).sat } := by
  unfold satStir; split <;> rfl

@[simp] theorem satStir_sys (n : Nat) (s : State) : (satStir n s).sys = s.sys := by rw [satStir_frame]
@[simp] theorem satStir_fatal (n : Nat) (s : State) : (satStir n s).fatal = s.fatal := by rw [satStir_frame]
@[simp] theorem satStir_pins (n : Nat) (s : State) : (satStir n s).pins = s.pins := by rw [satStir_frame]
@[simp] theorem satStir_sup (n : Nat) (s : State) : (satStir n s).sup = s.sup := by rw [satStir_frame]
@[simp] theorem satStir_start (n : Nat) (s : State) : (satStir n s).start = s.start := by rw [satStir_frame]
@[simp] theorem satStir_fb (n : Nat) (s : State) : (satStir n s).fb = s.fb := by rw [satStir_frame]
@[simp] theorem satStir_ports (n : Nat) (s : State) : (satStir n s).ports = s.ports := by rw [satStir_frame]
@[simp] theorem satStir_mor (n : Nat) (s : State) : (satStir n s).mor = s.mor := by rw [satStir_frame]
@[simp] theorem satStir_ord (n : Nat) (s : State) : (satStir n s).ord = s.ord := by rw [satStir_frame]
@[simp] theorem satStir_slots (n : Nat) (s : State) : (satStir n s).slots = s.slots := by rw [satStir_frame]
@[simp] theorem satStir_tth (n : Nat) (s : State) : (satStir n s).tth = s.tth := by rw [satStir_frame]
@[simp] theorem satStir_ldg (n : Nat) (s : State) : (satStir n s).ldg = s.ldg := by rw [satStir_frame]
@[simp] theorem satStir_rls (n : Nat) (s : State) : (satStir n s).rls = s.rls := by rw [satStir_frame]
@[simp] theorem satStir_mea (n : Nat) (s : State) : (satStir n s).mea = s.mea := by rw [satStir_frame]
@[simp] theorem satStir_lko (n : Nat) (s : State) : (satStir n s).lko = s.lko := by rw [satStir_frame]
@[simp] theorem satStir_log (n : Nat) (s : State) : (satStir n s).log = s.log := by rw [satStir_frame]
@[simp] theorem satStir_rnd (n : Nat) (s : State) : (satStir n s).rnd = s.rnd := by rw [satStir_frame]
@[simp] theorem satStir_upd (n : Nat) (s : State) : (satStir n s).upd = s.upd := by rw [satStir_frame]
@[simp] theorem satStir_rig (n : Nat) (s : State) : (satStir n s).rig = s.rig := by rw [satStir_frame]
@[simp] theorem satStir_rcd (n : Nat) (s : State) : (satStir n s).rcd = s.rcd := by rw [satStir_frame]
@[simp] theorem satStir_free (n : Nat) (s : State) : (satStir n s).free = s.free := by rw [satStir_frame]
@[simp] theorem satStir_pending (n : Nat) (s : State) : (satStir n s).pending = s.pending := by rw [satStir_frame]
@[simp] theorem slotGet_satStir (n : Nat) (q : Nat) (s : State) : slotGet (satStir n s) q = slotGet s q := by rw [satStir_frame]; rfl
@[simp] theorem parcelGet_satStir (n : Nat) (q : Nat) (s : State) : parcelGet (satStir n s) q = parcelGet s q := by rw [satStir_frame]; rfl
@[simp] theorem orderGet_satStir (n : Nat) (q : Nat) (s : State) : orderGet (satStir n s) q = orderGet s q := by rw [satStir_frame]; rfl
@[simp] theorem ldgGet_satStir (n : Nat) (q : Nat) (s : State) : ldgGet (satStir n s) q = ldgGet s q := by rw [satStir_frame]; rfl
@[simp] theorem railGet_satStir (n : Nat) (q : Nat) (s : State) : railGet (satStir n s) q = railGet s q := by rw [satStir_frame]; rfl
@[simp] theorem tetherGet_satStir (n : Nat) (q : Nat) (s : State) : tetherGet (satStir n s) q = tetherGet s q := by rw [satStir_frame]; rfl
@[simp] theorem portGet_satStir (n : Nat) (q : Port) (s : State) : portGet (satStir n s) q = portGet s q := by rw [satStir_frame]; rfl

/-! ### traceAdd -/

/-- A trace entry. -/
theorem traceAdd_frame (k a b : Nat) (s : State) :
    traceAdd k a b s = { s with
      slots := (traceAdd k a b s).slots } := by
  unfold traceAdd; dsimp only; split <;> rfl

@[simp] theorem traceAdd_sys (k a b : Nat) (s : State) : (traceAdd k a b s).sys = s.sys := by rw [traceAdd_frame]
@[simp] theorem traceAdd_fatal (k a b : Nat) (s : State) : (traceAdd k a b s).fatal = s.fatal := by rw [traceAdd_frame]
@[simp] theorem traceAdd_pins (k a b : Nat) (s : State) : (traceAdd k a b s).pins = s.pins := by rw [traceAdd_frame]
@[simp] theorem traceAdd_sup (k a b : Nat) (s : State) : (traceAdd k a b s).sup = s.sup := by rw [traceAdd_frame]
@[simp] theorem traceAdd_start (k a b : Nat) (s : State) : (traceAdd k a b s).start = s.start := by rw [traceAdd_frame]
@[simp] theorem traceAdd_fb (k a b : Nat) (s : State) : (traceAdd k a b s).fb = s.fb := by rw [traceAdd_frame]
@[simp] theorem traceAdd_ports (k a b : Nat) (s : State) : (traceAdd k a b s).ports = s.ports := by rw [traceAdd_frame]
@[simp] theorem traceAdd_mor (k a b : Nat) (s : State) : (traceAdd k a b s).mor = s.mor := by rw [traceAdd_frame]
@[simp] theorem traceAdd_ord (k a b : Nat) (s : State) : (traceAdd k a b s).ord = s.ord := by rw [traceAdd_frame]
@[simp] theorem traceAdd_tth (k a b : Nat) (s : State) : (traceAdd k a b s).tth = s.tth := by rw [traceAdd_frame]
@[simp] theorem traceAdd_sat (k a b : Nat) (s : State) : (traceAdd k a b s).sat = s.sat := by rw [traceAdd_frame]
@[simp] theorem traceAdd_ldg (k a b : Nat) (s : State) : (traceAdd k a b s).ldg = s.ldg := by rw [traceAdd_frame]
@[simp] theorem traceAdd_rls (k a b : Nat) (s : State) : (traceAdd k a b s).rls = s.rls := by rw [traceAdd_frame]
@[simp] theorem traceAdd_mea (k a b : Nat) (s : State) : (traceAdd k a b s).mea = s.mea := by rw [traceAdd_frame]
@[simp] theorem traceAdd_lko (k a b : Nat) (s : State) : (traceAdd k a b s).lko = s.lko := by rw [traceAdd_frame]
@[simp] theorem traceAdd_log (k a b : Nat) (s : State) : (traceAdd k a b s).log = s.log := by rw [traceAdd_frame]
@[simp] theorem traceAdd_rnd (k a b : Nat) (s : State) : (traceAdd k a b s).rnd = s.rnd := by rw [traceAdd_frame]
@[simp] theorem traceAdd_upd (k a b : Nat) (s : State) : (traceAdd k a b s).upd = s.upd := by rw [traceAdd_frame]
@[simp] theorem traceAdd_rig (k a b : Nat) (s : State) : (traceAdd k a b s).rig = s.rig := by rw [traceAdd_frame]
@[simp] theorem traceAdd_rcd (k a b : Nat) (s : State) : (traceAdd k a b s).rcd = s.rcd := by rw [traceAdd_frame]
@[simp] theorem traceAdd_free (k a b : Nat) (s : State) : (traceAdd k a b s).free = s.free := by rw [traceAdd_frame]
@[simp] theorem traceAdd_pending (k a b : Nat) (s : State) : (traceAdd k a b s).pending = s.pending := by rw [traceAdd_frame]
@[simp] theorem satGet_traceAdd (k a b : Nat) (q : Nat) (s : State) : satGet (traceAdd k a b s) q = satGet s q := by rw [traceAdd_frame]; rfl
@[simp] theorem viewGet_traceAdd (k a b : Nat) (q : Nat) (s : State) : viewGet (traceAdd k a b s) q = viewGet s q := by rw [traceAdd_frame]; rfl
@[simp] theorem slotViewGet_traceAdd (k a b : Nat) (q : Nat) (s : State) : slotViewGet (traceAdd k a b s) q = slotViewGet s q := by rw [traceAdd_frame]; rfl
@[simp] theorem parcelGet_traceAdd (k a b : Nat) (q : Nat) (s : State) : parcelGet (traceAdd k a b s) q = parcelGet s q := by rw [traceAdd_frame]; rfl
@[simp] theorem orderGet_traceAdd (k a b : Nat) (q : Nat) (s : State) : orderGet (traceAdd k a b s) q = orderGet s q := by rw [traceAdd_frame]; rfl
@[simp] theorem ldgGet_traceAdd (k a b : Nat) (q : Nat) (s : State) : ldgGet (traceAdd k a b s) q = ldgGet s q := by rw [traceAdd_frame]; rfl
@[simp] theorem railGet_traceAdd (k a b : Nat) (q : Nat) (s : State) : railGet (traceAdd k a b s) q = railGet s q := by rw [traceAdd_frame]; rfl
@[simp] theorem tetherGet_traceAdd (k a b : Nat) (q : Nat) (s : State) : tetherGet (traceAdd k a b s) q = tetherGet s q := by rw [traceAdd_frame]; rfl
@[simp] theorem portGet_traceAdd (k a b : Nat) (q : Port) (s : State) : portGet (traceAdd k a b s) q = portGet s q := by rw [traceAdd_frame]; rfl

/-! ### traceAll -/

/-- Trace entries. -/
theorem traceAll_frame (k : Nat) (l : List (Nat × Nat)) (s : State) :
    traceAll k l s = { s with
      slots := (traceAll k l s).slots } := by
  unfold traceAll
  induction l generalizing s with
  | nil => rfl
  | cons e l ih => simp only [List.foldl_cons]; rw [ih, traceAdd_frame]

@[simp] theorem traceAll_sys (k : Nat) (l : List (Nat × Nat)) (s : State) : (traceAll k l s).sys = s.sys := by rw [traceAll_frame]
@[simp] theorem traceAll_fatal (k : Nat) (l : List (Nat × Nat)) (s : State) : (traceAll k l s).fatal = s.fatal := by rw [traceAll_frame]
@[simp] theorem traceAll_pins (k : Nat) (l : List (Nat × Nat)) (s : State) : (traceAll k l s).pins = s.pins := by rw [traceAll_frame]
@[simp] theorem traceAll_sup (k : Nat) (l : List (Nat × Nat)) (s : State) : (traceAll k l s).sup = s.sup := by rw [traceAll_frame]
@[simp] theorem traceAll_start (k : Nat) (l : List (Nat × Nat)) (s : State) : (traceAll k l s).start = s.start := by rw [traceAll_frame]
@[simp] theorem traceAll_fb (k : Nat) (l : List (Nat × Nat)) (s : State) : (traceAll k l s).fb = s.fb := by rw [traceAll_frame]
@[simp] theorem traceAll_ports (k : Nat) (l : List (Nat × Nat)) (s : State) : (traceAll k l s).ports = s.ports := by rw [traceAll_frame]
@[simp] theorem traceAll_mor (k : Nat) (l : List (Nat × Nat)) (s : State) : (traceAll k l s).mor = s.mor := by rw [traceAll_frame]
@[simp] theorem traceAll_ord (k : Nat) (l : List (Nat × Nat)) (s : State) : (traceAll k l s).ord = s.ord := by rw [traceAll_frame]
@[simp] theorem traceAll_tth (k : Nat) (l : List (Nat × Nat)) (s : State) : (traceAll k l s).tth = s.tth := by rw [traceAll_frame]
@[simp] theorem traceAll_sat (k : Nat) (l : List (Nat × Nat)) (s : State) : (traceAll k l s).sat = s.sat := by rw [traceAll_frame]
@[simp] theorem traceAll_ldg (k : Nat) (l : List (Nat × Nat)) (s : State) : (traceAll k l s).ldg = s.ldg := by rw [traceAll_frame]
@[simp] theorem traceAll_rls (k : Nat) (l : List (Nat × Nat)) (s : State) : (traceAll k l s).rls = s.rls := by rw [traceAll_frame]
@[simp] theorem traceAll_mea (k : Nat) (l : List (Nat × Nat)) (s : State) : (traceAll k l s).mea = s.mea := by rw [traceAll_frame]
@[simp] theorem traceAll_lko (k : Nat) (l : List (Nat × Nat)) (s : State) : (traceAll k l s).lko = s.lko := by rw [traceAll_frame]
@[simp] theorem traceAll_log (k : Nat) (l : List (Nat × Nat)) (s : State) : (traceAll k l s).log = s.log := by rw [traceAll_frame]
@[simp] theorem traceAll_rnd (k : Nat) (l : List (Nat × Nat)) (s : State) : (traceAll k l s).rnd = s.rnd := by rw [traceAll_frame]
@[simp] theorem traceAll_upd (k : Nat) (l : List (Nat × Nat)) (s : State) : (traceAll k l s).upd = s.upd := by rw [traceAll_frame]
@[simp] theorem traceAll_rig (k : Nat) (l : List (Nat × Nat)) (s : State) : (traceAll k l s).rig = s.rig := by rw [traceAll_frame]
@[simp] theorem traceAll_rcd (k : Nat) (l : List (Nat × Nat)) (s : State) : (traceAll k l s).rcd = s.rcd := by rw [traceAll_frame]
@[simp] theorem traceAll_free (k : Nat) (l : List (Nat × Nat)) (s : State) : (traceAll k l s).free = s.free := by rw [traceAll_frame]
@[simp] theorem traceAll_pending (k : Nat) (l : List (Nat × Nat)) (s : State) : (traceAll k l s).pending = s.pending := by rw [traceAll_frame]
@[simp] theorem satGet_traceAll (k : Nat) (l : List (Nat × Nat)) (q : Nat) (s : State) : satGet (traceAll k l s) q = satGet s q := by rw [traceAll_frame]; rfl
@[simp] theorem viewGet_traceAll (k : Nat) (l : List (Nat × Nat)) (q : Nat) (s : State) : viewGet (traceAll k l s) q = viewGet s q := by rw [traceAll_frame]; rfl
@[simp] theorem slotViewGet_traceAll (k : Nat) (l : List (Nat × Nat)) (q : Nat) (s : State) : slotViewGet (traceAll k l s) q = slotViewGet s q := by rw [traceAll_frame]; rfl
@[simp] theorem parcelGet_traceAll (k : Nat) (l : List (Nat × Nat)) (q : Nat) (s : State) : parcelGet (traceAll k l s) q = parcelGet s q := by rw [traceAll_frame]; rfl
@[simp] theorem orderGet_traceAll (k : Nat) (l : List (Nat × Nat)) (q : Nat) (s : State) : orderGet (traceAll k l s) q = orderGet s q := by rw [traceAll_frame]; rfl
@[simp] theorem ldgGet_traceAll (k : Nat) (l : List (Nat × Nat)) (q : Nat) (s : State) : ldgGet (traceAll k l s) q = ldgGet s q := by rw [traceAll_frame]; rfl
@[simp] theorem railGet_traceAll (k : Nat) (l : List (Nat × Nat)) (q : Nat) (s : State) : railGet (traceAll k l s) q = railGet s q := by rw [traceAll_frame]; rfl
@[simp] theorem tetherGet_traceAll (k : Nat) (l : List (Nat × Nat)) (q : Nat) (s : State) : tetherGet (traceAll k l s) q = tetherGet s q := by rw [traceAll_frame]; rfl
@[simp] theorem portGet_traceAll (k : Nat) (l : List (Nat × Nat)) (q : Port) (s : State) : portGet (traceAll k l s) q = portGet s q := by rw [traceAll_frame]; rfl

/-! ### traceTrigger -/

/-- A trace trigger. -/
theorem traceTrigger_frame (k c : Nat) (s : State) :
    traceTrigger k c s = { s with
      slots := (traceTrigger k c s).slots } := by
  unfold traceTrigger; split <;> rfl

@[simp] theorem traceTrigger_sys (k c : Nat) (s : State) : (traceTrigger k c s).sys = s.sys := by rw [traceTrigger_frame]
@[simp] theorem traceTrigger_fatal (k c : Nat) (s : State) : (traceTrigger k c s).fatal = s.fatal := by rw [traceTrigger_frame]
@[simp] theorem traceTrigger_pins (k c : Nat) (s : State) : (traceTrigger k c s).pins = s.pins := by rw [traceTrigger_frame]
@[simp] theorem traceTrigger_sup (k c : Nat) (s : State) : (traceTrigger k c s).sup = s.sup := by rw [traceTrigger_frame]
@[simp] theorem traceTrigger_start (k c : Nat) (s : State) : (traceTrigger k c s).start = s.start := by rw [traceTrigger_frame]
@[simp] theorem traceTrigger_fb (k c : Nat) (s : State) : (traceTrigger k c s).fb = s.fb := by rw [traceTrigger_frame]
@[simp] theorem traceTrigger_ports (k c : Nat) (s : State) : (traceTrigger k c s).ports = s.ports := by rw [traceTrigger_frame]
@[simp] theorem traceTrigger_mor (k c : Nat) (s : State) : (traceTrigger k c s).mor = s.mor := by rw [traceTrigger_frame]
@[simp] theorem traceTrigger_ord (k c : Nat) (s : State) : (traceTrigger k c s).ord = s.ord := by rw [traceTrigger_frame]
@[simp] theorem traceTrigger_tth (k c : Nat) (s : State) : (traceTrigger k c s).tth = s.tth := by rw [traceTrigger_frame]
@[simp] theorem traceTrigger_sat (k c : Nat) (s : State) : (traceTrigger k c s).sat = s.sat := by rw [traceTrigger_frame]
@[simp] theorem traceTrigger_ldg (k c : Nat) (s : State) : (traceTrigger k c s).ldg = s.ldg := by rw [traceTrigger_frame]
@[simp] theorem traceTrigger_rls (k c : Nat) (s : State) : (traceTrigger k c s).rls = s.rls := by rw [traceTrigger_frame]
@[simp] theorem traceTrigger_mea (k c : Nat) (s : State) : (traceTrigger k c s).mea = s.mea := by rw [traceTrigger_frame]
@[simp] theorem traceTrigger_lko (k c : Nat) (s : State) : (traceTrigger k c s).lko = s.lko := by rw [traceTrigger_frame]
@[simp] theorem traceTrigger_log (k c : Nat) (s : State) : (traceTrigger k c s).log = s.log := by rw [traceTrigger_frame]
@[simp] theorem traceTrigger_rnd (k c : Nat) (s : State) : (traceTrigger k c s).rnd = s.rnd := by rw [traceTrigger_frame]
@[simp] theorem traceTrigger_upd (k c : Nat) (s : State) : (traceTrigger k c s).upd = s.upd := by rw [traceTrigger_frame]
@[simp] theorem traceTrigger_rig (k c : Nat) (s : State) : (traceTrigger k c s).rig = s.rig := by rw [traceTrigger_frame]
@[simp] theorem traceTrigger_rcd (k c : Nat) (s : State) : (traceTrigger k c s).rcd = s.rcd := by rw [traceTrigger_frame]
@[simp] theorem traceTrigger_free (k c : Nat) (s : State) : (traceTrigger k c s).free = s.free := by rw [traceTrigger_frame]
@[simp] theorem traceTrigger_pending (k c : Nat) (s : State) : (traceTrigger k c s).pending = s.pending := by rw [traceTrigger_frame]
@[simp] theorem satGet_traceTrigger (k c : Nat) (q : Nat) (s : State) : satGet (traceTrigger k c s) q = satGet s q := by rw [traceTrigger_frame]; rfl
@[simp] theorem viewGet_traceTrigger (k c : Nat) (q : Nat) (s : State) : viewGet (traceTrigger k c s) q = viewGet s q := by rw [traceTrigger_frame]; rfl
@[simp] theorem slotViewGet_traceTrigger (k c : Nat) (q : Nat) (s : State) : slotViewGet (traceTrigger k c s) q = slotViewGet s q := by rw [traceTrigger_frame]; rfl
@[simp] theorem parcelGet_traceTrigger (k c : Nat) (q : Nat) (s : State) : parcelGet (traceTrigger k c s) q = parcelGet s q := by rw [traceTrigger_frame]; rfl
@[simp] theorem orderGet_traceTrigger (k c : Nat) (q : Nat) (s : State) : orderGet (traceTrigger k c s) q = orderGet s q := by rw [traceTrigger_frame]; rfl
@[simp] theorem ldgGet_traceTrigger (k c : Nat) (q : Nat) (s : State) : ldgGet (traceTrigger k c s) q = ldgGet s q := by rw [traceTrigger_frame]; rfl
@[simp] theorem railGet_traceTrigger (k c : Nat) (q : Nat) (s : State) : railGet (traceTrigger k c s) q = railGet s q := by rw [traceTrigger_frame]; rfl
@[simp] theorem tetherGet_traceTrigger (k c : Nat) (q : Nat) (s : State) : tetherGet (traceTrigger k c s) q = tetherGet s q := by rw [traceTrigger_frame]; rfl
@[simp] theorem portGet_traceTrigger (k c : Nat) (q : Port) (s : State) : portGet (traceTrigger k c s) q = portGet s q := by rw [traceTrigger_frame]; rfl

/-! ### satDone -/

theorem foldl_frame_result (n : Nat) (l : List SatResult) (s : State) :
    l.foldl (fun s x => satResult n x s) s = { s with sat := (l.foldl (fun s x => satResult n x s) s).sat } := by
  induction l generalizing s with
  | nil => rfl
  | cons j l ih => simp only [List.foldl_cons]; rw [ih, satResult_frame]

@[simp] theorem foldl_satResult_sys (n : Nat) (l : List SatResult) (s : State) :
    (l.foldl (fun s x => satResult n x s) s).sys = s.sys := by rw [foldl_frame_result]
@[simp] theorem foldl_satResult_fatal (n : Nat) (l : List SatResult) (s : State) :
    (l.foldl (fun s x => satResult n x s) s).fatal = s.fatal := by rw [foldl_frame_result]
@[simp] theorem foldl_satResult_pins (n : Nat) (l : List SatResult) (s : State) :
    (l.foldl (fun s x => satResult n x s) s).pins = s.pins := by rw [foldl_frame_result]
@[simp] theorem foldl_satResult_sup (n : Nat) (l : List SatResult) (s : State) :
    (l.foldl (fun s x => satResult n x s) s).sup = s.sup := by rw [foldl_frame_result]
@[simp] theorem foldl_satResult_start (n : Nat) (l : List SatResult) (s : State) :
    (l.foldl (fun s x => satResult n x s) s).start = s.start := by rw [foldl_frame_result]
@[simp] theorem foldl_satResult_fb (n : Nat) (l : List SatResult) (s : State) :
    (l.foldl (fun s x => satResult n x s) s).fb = s.fb := by rw [foldl_frame_result]
@[simp] theorem foldl_satResult_ports (n : Nat) (l : List SatResult) (s : State) :
    (l.foldl (fun s x => satResult n x s) s).ports = s.ports := by rw [foldl_frame_result]
@[simp] theorem foldl_satResult_mor (n : Nat) (l : List SatResult) (s : State) :
    (l.foldl (fun s x => satResult n x s) s).mor = s.mor := by rw [foldl_frame_result]
@[simp] theorem foldl_satResult_ord (n : Nat) (l : List SatResult) (s : State) :
    (l.foldl (fun s x => satResult n x s) s).ord = s.ord := by rw [foldl_frame_result]
@[simp] theorem foldl_satResult_slots (n : Nat) (l : List SatResult) (s : State) :
    (l.foldl (fun s x => satResult n x s) s).slots = s.slots := by rw [foldl_frame_result]
@[simp] theorem foldl_satResult_tth (n : Nat) (l : List SatResult) (s : State) :
    (l.foldl (fun s x => satResult n x s) s).tth = s.tth := by rw [foldl_frame_result]
@[simp] theorem foldl_satResult_ldg (n : Nat) (l : List SatResult) (s : State) :
    (l.foldl (fun s x => satResult n x s) s).ldg = s.ldg := by rw [foldl_frame_result]
@[simp] theorem foldl_satResult_rls (n : Nat) (l : List SatResult) (s : State) :
    (l.foldl (fun s x => satResult n x s) s).rls = s.rls := by rw [foldl_frame_result]
@[simp] theorem foldl_satResult_mea (n : Nat) (l : List SatResult) (s : State) :
    (l.foldl (fun s x => satResult n x s) s).mea = s.mea := by rw [foldl_frame_result]
@[simp] theorem foldl_satResult_lko (n : Nat) (l : List SatResult) (s : State) :
    (l.foldl (fun s x => satResult n x s) s).lko = s.lko := by rw [foldl_frame_result]
@[simp] theorem foldl_satResult_log (n : Nat) (l : List SatResult) (s : State) :
    (l.foldl (fun s x => satResult n x s) s).log = s.log := by rw [foldl_frame_result]
@[simp] theorem foldl_satResult_rnd (n : Nat) (l : List SatResult) (s : State) :
    (l.foldl (fun s x => satResult n x s) s).rnd = s.rnd := by rw [foldl_frame_result]
@[simp] theorem foldl_satResult_upd (n : Nat) (l : List SatResult) (s : State) :
    (l.foldl (fun s x => satResult n x s) s).upd = s.upd := by rw [foldl_frame_result]
@[simp] theorem foldl_satResult_rig (n : Nat) (l : List SatResult) (s : State) :
    (l.foldl (fun s x => satResult n x s) s).rig = s.rig := by rw [foldl_frame_result]
@[simp] theorem foldl_satResult_rcd (n : Nat) (l : List SatResult) (s : State) :
    (l.foldl (fun s x => satResult n x s) s).rcd = s.rcd := by rw [foldl_frame_result]
@[simp] theorem foldl_satResult_free (n : Nat) (l : List SatResult) (s : State) :
    (l.foldl (fun s x => satResult n x s) s).free = s.free := by rw [foldl_frame_result]
@[simp] theorem foldl_satResult_pending (n : Nat) (l : List SatResult) (s : State) :
    (l.foldl (fun s x => satResult n x s) s).pending = s.pending := by rw [foldl_frame_result]
theorem eq_of_fields_done {s t : State} (h0 : t.sys = s.sys) (h1 : t.fatal = s.fatal) (h2 : t.pins = s.pins) (h3 : t.sup = s.sup) (h4 : t.start = s.start) (h5 : t.fb = s.fb) (h6 : t.ports = s.ports) (h7 : t.mor = s.mor) (h8 : t.ord = s.ord) (h9 : t.tth = s.tth) (h10 : t.ldg = s.ldg) (h11 : t.rls = s.rls) (h12 : t.mea = s.mea) (h13 : t.lko = s.lko) (h14 : t.log = s.log) (h15 : t.rnd = s.rnd) (h16 : t.upd = s.upd) (h17 : t.rig = s.rig) (h18 : t.rcd = s.rcd) (h19 : t.free = s.free) (h20 : t.pending = s.pending) :
    t = { s with sat := t.sat, slots := t.slots } := by
  cases s; cases t; simp_all

/-- A satellite reports an outcome. -/
theorem satDone_frame (k : Nat) (r : Running) (c : Nat) (l : List Byte) (n : Nat) (s : State) :
    satDone k r c l n s = { s with
      sat := (satDone k r c l n s).sat, slots := (satDone k r c l n s).slots } := by
  unfold satDone; dsimp only
  (repeat' split) <;> (apply eq_of_fields_done <;> simp)

@[simp] theorem satDone_sys (k : Nat) (r : Running) (c : Nat) (l : List Byte) (n : Nat) (s : State) : (satDone k r c l n s).sys = s.sys := by rw [satDone_frame]
@[simp] theorem satDone_fatal (k : Nat) (r : Running) (c : Nat) (l : List Byte) (n : Nat) (s : State) : (satDone k r c l n s).fatal = s.fatal := by rw [satDone_frame]
@[simp] theorem satDone_pins (k : Nat) (r : Running) (c : Nat) (l : List Byte) (n : Nat) (s : State) : (satDone k r c l n s).pins = s.pins := by rw [satDone_frame]
@[simp] theorem satDone_sup (k : Nat) (r : Running) (c : Nat) (l : List Byte) (n : Nat) (s : State) : (satDone k r c l n s).sup = s.sup := by rw [satDone_frame]
@[simp] theorem satDone_start (k : Nat) (r : Running) (c : Nat) (l : List Byte) (n : Nat) (s : State) : (satDone k r c l n s).start = s.start := by rw [satDone_frame]
@[simp] theorem satDone_fb (k : Nat) (r : Running) (c : Nat) (l : List Byte) (n : Nat) (s : State) : (satDone k r c l n s).fb = s.fb := by rw [satDone_frame]
@[simp] theorem satDone_ports (k : Nat) (r : Running) (c : Nat) (l : List Byte) (n : Nat) (s : State) : (satDone k r c l n s).ports = s.ports := by rw [satDone_frame]
@[simp] theorem satDone_mor (k : Nat) (r : Running) (c : Nat) (l : List Byte) (n : Nat) (s : State) : (satDone k r c l n s).mor = s.mor := by rw [satDone_frame]
@[simp] theorem satDone_ord (k : Nat) (r : Running) (c : Nat) (l : List Byte) (n : Nat) (s : State) : (satDone k r c l n s).ord = s.ord := by rw [satDone_frame]
@[simp] theorem satDone_tth (k : Nat) (r : Running) (c : Nat) (l : List Byte) (n : Nat) (s : State) : (satDone k r c l n s).tth = s.tth := by rw [satDone_frame]
@[simp] theorem satDone_ldg (k : Nat) (r : Running) (c : Nat) (l : List Byte) (n : Nat) (s : State) : (satDone k r c l n s).ldg = s.ldg := by rw [satDone_frame]
@[simp] theorem satDone_rls (k : Nat) (r : Running) (c : Nat) (l : List Byte) (n : Nat) (s : State) : (satDone k r c l n s).rls = s.rls := by rw [satDone_frame]
@[simp] theorem satDone_mea (k : Nat) (r : Running) (c : Nat) (l : List Byte) (n : Nat) (s : State) : (satDone k r c l n s).mea = s.mea := by rw [satDone_frame]
@[simp] theorem satDone_lko (k : Nat) (r : Running) (c : Nat) (l : List Byte) (n : Nat) (s : State) : (satDone k r c l n s).lko = s.lko := by rw [satDone_frame]
@[simp] theorem satDone_log (k : Nat) (r : Running) (c : Nat) (l : List Byte) (n : Nat) (s : State) : (satDone k r c l n s).log = s.log := by rw [satDone_frame]
@[simp] theorem satDone_rnd (k : Nat) (r : Running) (c : Nat) (l : List Byte) (n : Nat) (s : State) : (satDone k r c l n s).rnd = s.rnd := by rw [satDone_frame]
@[simp] theorem satDone_upd (k : Nat) (r : Running) (c : Nat) (l : List Byte) (n : Nat) (s : State) : (satDone k r c l n s).upd = s.upd := by rw [satDone_frame]
@[simp] theorem satDone_rig (k : Nat) (r : Running) (c : Nat) (l : List Byte) (n : Nat) (s : State) : (satDone k r c l n s).rig = s.rig := by rw [satDone_frame]
@[simp] theorem satDone_rcd (k : Nat) (r : Running) (c : Nat) (l : List Byte) (n : Nat) (s : State) : (satDone k r c l n s).rcd = s.rcd := by rw [satDone_frame]
@[simp] theorem satDone_free (k : Nat) (r : Running) (c : Nat) (l : List Byte) (n : Nat) (s : State) : (satDone k r c l n s).free = s.free := by rw [satDone_frame]
@[simp] theorem satDone_pending (k : Nat) (r : Running) (c : Nat) (l : List Byte) (n : Nat) (s : State) : (satDone k r c l n s).pending = s.pending := by rw [satDone_frame]
@[simp] theorem parcelGet_satDone (k : Nat) (r : Running) (c : Nat) (l : List Byte) (n : Nat) (q : Nat) (s : State) : parcelGet (satDone k r c l n s) q = parcelGet s q := by rw [satDone_frame]; rfl
@[simp] theorem orderGet_satDone (k : Nat) (r : Running) (c : Nat) (l : List Byte) (n : Nat) (q : Nat) (s : State) : orderGet (satDone k r c l n s) q = orderGet s q := by rw [satDone_frame]; rfl
@[simp] theorem ldgGet_satDone (k : Nat) (r : Running) (c : Nat) (l : List Byte) (n : Nat) (q : Nat) (s : State) : ldgGet (satDone k r c l n s) q = ldgGet s q := by rw [satDone_frame]; rfl
@[simp] theorem railGet_satDone (k : Nat) (r : Running) (c : Nat) (l : List Byte) (n : Nat) (q : Nat) (s : State) : railGet (satDone k r c l n s) q = railGet s q := by rw [satDone_frame]; rfl
@[simp] theorem tetherGet_satDone (k : Nat) (r : Running) (c : Nat) (l : List Byte) (n : Nat) (q : Nat) (s : State) : tetherGet (satDone k r c l n s) q = tetherGet s q := by rw [satDone_frame]; rfl
@[simp] theorem portGet_satDone (k : Nat) (r : Running) (c : Nat) (l : List Byte) (n : Nat) (q : Port) (s : State) : portGet (satDone k r c l n s) q = portGet s q := by rw [satDone_frame]; rfl

/-! ### endRun -/

/-- The end of what a slot runs. -/
theorem endRun_frame (k c : Nat) (l : List Byte) (n : Nat) (s : State) :
    endRun k c l n s = { s with
      ord := (endRun k c l n s).ord, mor := (endRun k c l n s).mor, sat := (endRun k c l n s).sat
      slots := (endRun k c l n s).slots } := by
  unfold endRun
  split
  · rfl
  · dsimp only
    split
    · rw [endOrderDataId_frame]; rfl
    · rw [satDone_frame]; rfl

@[simp] theorem endRun_sys (k c : Nat) (l : List Byte) (n : Nat) (s : State) : (endRun k c l n s).sys = s.sys := by rw [endRun_frame]
@[simp] theorem endRun_fatal (k c : Nat) (l : List Byte) (n : Nat) (s : State) : (endRun k c l n s).fatal = s.fatal := by rw [endRun_frame]
@[simp] theorem endRun_pins (k c : Nat) (l : List Byte) (n : Nat) (s : State) : (endRun k c l n s).pins = s.pins := by rw [endRun_frame]
@[simp] theorem endRun_sup (k c : Nat) (l : List Byte) (n : Nat) (s : State) : (endRun k c l n s).sup = s.sup := by rw [endRun_frame]
@[simp] theorem endRun_start (k c : Nat) (l : List Byte) (n : Nat) (s : State) : (endRun k c l n s).start = s.start := by rw [endRun_frame]
@[simp] theorem endRun_fb (k c : Nat) (l : List Byte) (n : Nat) (s : State) : (endRun k c l n s).fb = s.fb := by rw [endRun_frame]
@[simp] theorem endRun_ports (k c : Nat) (l : List Byte) (n : Nat) (s : State) : (endRun k c l n s).ports = s.ports := by rw [endRun_frame]
@[simp] theorem endRun_tth (k c : Nat) (l : List Byte) (n : Nat) (s : State) : (endRun k c l n s).tth = s.tth := by rw [endRun_frame]
@[simp] theorem endRun_ldg (k c : Nat) (l : List Byte) (n : Nat) (s : State) : (endRun k c l n s).ldg = s.ldg := by rw [endRun_frame]
@[simp] theorem endRun_rls (k c : Nat) (l : List Byte) (n : Nat) (s : State) : (endRun k c l n s).rls = s.rls := by rw [endRun_frame]
@[simp] theorem endRun_mea (k c : Nat) (l : List Byte) (n : Nat) (s : State) : (endRun k c l n s).mea = s.mea := by rw [endRun_frame]
@[simp] theorem endRun_lko (k c : Nat) (l : List Byte) (n : Nat) (s : State) : (endRun k c l n s).lko = s.lko := by rw [endRun_frame]
@[simp] theorem endRun_log (k c : Nat) (l : List Byte) (n : Nat) (s : State) : (endRun k c l n s).log = s.log := by rw [endRun_frame]
@[simp] theorem endRun_rnd (k c : Nat) (l : List Byte) (n : Nat) (s : State) : (endRun k c l n s).rnd = s.rnd := by rw [endRun_frame]
@[simp] theorem endRun_upd (k c : Nat) (l : List Byte) (n : Nat) (s : State) : (endRun k c l n s).upd = s.upd := by rw [endRun_frame]
@[simp] theorem endRun_rig (k c : Nat) (l : List Byte) (n : Nat) (s : State) : (endRun k c l n s).rig = s.rig := by rw [endRun_frame]
@[simp] theorem endRun_rcd (k c : Nat) (l : List Byte) (n : Nat) (s : State) : (endRun k c l n s).rcd = s.rcd := by rw [endRun_frame]
@[simp] theorem endRun_free (k c : Nat) (l : List Byte) (n : Nat) (s : State) : (endRun k c l n s).free = s.free := by rw [endRun_frame]
@[simp] theorem endRun_pending (k c : Nat) (l : List Byte) (n : Nat) (s : State) : (endRun k c l n s).pending = s.pending := by rw [endRun_frame]
@[simp] theorem ldgGet_endRun (k c : Nat) (l : List Byte) (n : Nat) (q : Nat) (s : State) : ldgGet (endRun k c l n s) q = ldgGet s q := by rw [endRun_frame]; rfl
@[simp] theorem railGet_endRun (k c : Nat) (l : List Byte) (n : Nat) (q : Nat) (s : State) : railGet (endRun k c l n s) q = railGet s q := by rw [endRun_frame]; rfl
@[simp] theorem tetherGet_endRun (k c : Nat) (l : List Byte) (n : Nat) (q : Nat) (s : State) : tetherGet (endRun k c l n s) q = tetherGet s q := by rw [endRun_frame]; rfl
@[simp] theorem portGet_endRun (k c : Nat) (l : List Byte) (n : Nat) (q : Port) (s : State) : portGet (endRun k c l n s) q = portGet s q := by rw [endRun_frame]; rfl

/-! ### endReady -/

/-- The same, and READY. -/
theorem endReady_frame (k c : Nat) (l : List Byte) (n : Nat) (s : State) :
    endReady k c l n s = { s with
      ord := (endReady k c l n s).ord, mor := (endReady k c l n s).mor, sat := (endReady k c l n s).sat
      slots := (endReady k c l n s).slots } := by
  unfold endReady; rw [endRun_frame]; rfl

@[simp] theorem endReady_sys (k c : Nat) (l : List Byte) (n : Nat) (s : State) : (endReady k c l n s).sys = s.sys := by rw [endReady_frame]
@[simp] theorem endReady_fatal (k c : Nat) (l : List Byte) (n : Nat) (s : State) : (endReady k c l n s).fatal = s.fatal := by rw [endReady_frame]
@[simp] theorem endReady_pins (k c : Nat) (l : List Byte) (n : Nat) (s : State) : (endReady k c l n s).pins = s.pins := by rw [endReady_frame]
@[simp] theorem endReady_sup (k c : Nat) (l : List Byte) (n : Nat) (s : State) : (endReady k c l n s).sup = s.sup := by rw [endReady_frame]
@[simp] theorem endReady_start (k c : Nat) (l : List Byte) (n : Nat) (s : State) : (endReady k c l n s).start = s.start := by rw [endReady_frame]
@[simp] theorem endReady_fb (k c : Nat) (l : List Byte) (n : Nat) (s : State) : (endReady k c l n s).fb = s.fb := by rw [endReady_frame]
@[simp] theorem endReady_ports (k c : Nat) (l : List Byte) (n : Nat) (s : State) : (endReady k c l n s).ports = s.ports := by rw [endReady_frame]
@[simp] theorem endReady_tth (k c : Nat) (l : List Byte) (n : Nat) (s : State) : (endReady k c l n s).tth = s.tth := by rw [endReady_frame]
@[simp] theorem endReady_ldg (k c : Nat) (l : List Byte) (n : Nat) (s : State) : (endReady k c l n s).ldg = s.ldg := by rw [endReady_frame]
@[simp] theorem endReady_rls (k c : Nat) (l : List Byte) (n : Nat) (s : State) : (endReady k c l n s).rls = s.rls := by rw [endReady_frame]
@[simp] theorem endReady_mea (k c : Nat) (l : List Byte) (n : Nat) (s : State) : (endReady k c l n s).mea = s.mea := by rw [endReady_frame]
@[simp] theorem endReady_lko (k c : Nat) (l : List Byte) (n : Nat) (s : State) : (endReady k c l n s).lko = s.lko := by rw [endReady_frame]
@[simp] theorem endReady_log (k c : Nat) (l : List Byte) (n : Nat) (s : State) : (endReady k c l n s).log = s.log := by rw [endReady_frame]
@[simp] theorem endReady_rnd (k c : Nat) (l : List Byte) (n : Nat) (s : State) : (endReady k c l n s).rnd = s.rnd := by rw [endReady_frame]
@[simp] theorem endReady_upd (k c : Nat) (l : List Byte) (n : Nat) (s : State) : (endReady k c l n s).upd = s.upd := by rw [endReady_frame]
@[simp] theorem endReady_rig (k c : Nat) (l : List Byte) (n : Nat) (s : State) : (endReady k c l n s).rig = s.rig := by rw [endReady_frame]
@[simp] theorem endReady_rcd (k c : Nat) (l : List Byte) (n : Nat) (s : State) : (endReady k c l n s).rcd = s.rcd := by rw [endReady_frame]
@[simp] theorem endReady_free (k c : Nat) (l : List Byte) (n : Nat) (s : State) : (endReady k c l n s).free = s.free := by rw [endReady_frame]
@[simp] theorem endReady_pending (k c : Nat) (l : List Byte) (n : Nat) (s : State) : (endReady k c l n s).pending = s.pending := by rw [endReady_frame]
@[simp] theorem ldgGet_endReady (k c : Nat) (l : List Byte) (n : Nat) (q : Nat) (s : State) : ldgGet (endReady k c l n s) q = ldgGet s q := by rw [endReady_frame]; rfl
@[simp] theorem railGet_endReady (k c : Nat) (l : List Byte) (n : Nat) (q : Nat) (s : State) : railGet (endReady k c l n s) q = railGet s q := by rw [endReady_frame]; rfl
@[simp] theorem tetherGet_endReady (k c : Nat) (l : List Byte) (n : Nat) (q : Nat) (s : State) : tetherGet (endReady k c l n s) q = tetherGet s q := by rw [endReady_frame]; rfl
@[simp] theorem portGet_endReady (k c : Nat) (l : List Byte) (n : Nat) (q : Port) (s : State) : portGet (endReady k c l n s) q = portGet s q := by rw [endReady_frame]; rfl

/-! ### endFall -/

/-- The order ends with deactivation. -/
theorem endFall_frame (k c : Nat) (s : State) :
    endFall k c s = { s with
      slots := (endFall k c s).slots, log := (endFall k c s).log, upd := (endFall k c s).upd } := by
  unfold endFall; rw [traceAll_frame, fallNormal_frame]

@[simp] theorem endFall_sys (k c : Nat) (s : State) : (endFall k c s).sys = s.sys := by rw [endFall_frame]
@[simp] theorem endFall_fatal (k c : Nat) (s : State) : (endFall k c s).fatal = s.fatal := by rw [endFall_frame]
@[simp] theorem endFall_pins (k c : Nat) (s : State) : (endFall k c s).pins = s.pins := by rw [endFall_frame]
@[simp] theorem endFall_sup (k c : Nat) (s : State) : (endFall k c s).sup = s.sup := by rw [endFall_frame]
@[simp] theorem endFall_start (k c : Nat) (s : State) : (endFall k c s).start = s.start := by rw [endFall_frame]
@[simp] theorem endFall_fb (k c : Nat) (s : State) : (endFall k c s).fb = s.fb := by rw [endFall_frame]
@[simp] theorem endFall_ports (k c : Nat) (s : State) : (endFall k c s).ports = s.ports := by rw [endFall_frame]
@[simp] theorem endFall_mor (k c : Nat) (s : State) : (endFall k c s).mor = s.mor := by rw [endFall_frame]
@[simp] theorem endFall_ord (k c : Nat) (s : State) : (endFall k c s).ord = s.ord := by rw [endFall_frame]
@[simp] theorem endFall_tth (k c : Nat) (s : State) : (endFall k c s).tth = s.tth := by rw [endFall_frame]
@[simp] theorem endFall_sat (k c : Nat) (s : State) : (endFall k c s).sat = s.sat := by rw [endFall_frame]
@[simp] theorem endFall_ldg (k c : Nat) (s : State) : (endFall k c s).ldg = s.ldg := by rw [endFall_frame]
@[simp] theorem endFall_rls (k c : Nat) (s : State) : (endFall k c s).rls = s.rls := by rw [endFall_frame]
@[simp] theorem endFall_mea (k c : Nat) (s : State) : (endFall k c s).mea = s.mea := by rw [endFall_frame]
@[simp] theorem endFall_lko (k c : Nat) (s : State) : (endFall k c s).lko = s.lko := by rw [endFall_frame]
@[simp] theorem endFall_rnd (k c : Nat) (s : State) : (endFall k c s).rnd = s.rnd := by rw [endFall_frame]
@[simp] theorem endFall_rig (k c : Nat) (s : State) : (endFall k c s).rig = s.rig := by rw [endFall_frame]
@[simp] theorem endFall_rcd (k c : Nat) (s : State) : (endFall k c s).rcd = s.rcd := by rw [endFall_frame]
@[simp] theorem endFall_free (k c : Nat) (s : State) : (endFall k c s).free = s.free := by rw [endFall_frame]
@[simp] theorem endFall_pending (k c : Nat) (s : State) : (endFall k c s).pending = s.pending := by rw [endFall_frame]
@[simp] theorem satGet_endFall (k c : Nat) (q : Nat) (s : State) : satGet (endFall k c s) q = satGet s q := by rw [endFall_frame]; rfl
@[simp] theorem viewGet_endFall (k c : Nat) (q : Nat) (s : State) : viewGet (endFall k c s) q = viewGet s q := by rw [endFall_frame]; rfl
@[simp] theorem slotViewGet_endFall (k c : Nat) (q : Nat) (s : State) : slotViewGet (endFall k c s) q = slotViewGet s q := by rw [endFall_frame]; rfl
@[simp] theorem parcelGet_endFall (k c : Nat) (q : Nat) (s : State) : parcelGet (endFall k c s) q = parcelGet s q := by rw [endFall_frame]; rfl
@[simp] theorem orderGet_endFall (k c : Nat) (q : Nat) (s : State) : orderGet (endFall k c s) q = orderGet s q := by rw [endFall_frame]; rfl
@[simp] theorem ldgGet_endFall (k c : Nat) (q : Nat) (s : State) : ldgGet (endFall k c s) q = ldgGet s q := by rw [endFall_frame]; rfl
@[simp] theorem railGet_endFall (k c : Nat) (q : Nat) (s : State) : railGet (endFall k c s) q = railGet s q := by rw [endFall_frame]; rfl
@[simp] theorem tetherGet_endFall (k c : Nat) (q : Nat) (s : State) : tetherGet (endFall k c s) q = tetherGet s q := by rw [endFall_frame]; rfl
@[simp] theorem portGet_endFall (k c : Nat) (q : Port) (s : State) : portGet (endFall k c s) q = portGet s q := by rw [endFall_frame]; rfl

/-! ### begin_ -/

/-- The engine begins. -/
theorem begin_frame (k : Nat) (s : State) :
    begin_ k s = { s with
      slots := (begin_ k s).slots } := by
  unfold begin_; dsimp only; rw [traceAdd_frame]; rfl

@[simp] theorem begin_sys (k : Nat) (s : State) : (begin_ k s).sys = s.sys := by rw [begin_frame]
@[simp] theorem begin_fatal (k : Nat) (s : State) : (begin_ k s).fatal = s.fatal := by rw [begin_frame]
@[simp] theorem begin_pins (k : Nat) (s : State) : (begin_ k s).pins = s.pins := by rw [begin_frame]
@[simp] theorem begin_sup (k : Nat) (s : State) : (begin_ k s).sup = s.sup := by rw [begin_frame]
@[simp] theorem begin_start (k : Nat) (s : State) : (begin_ k s).start = s.start := by rw [begin_frame]
@[simp] theorem begin_fb (k : Nat) (s : State) : (begin_ k s).fb = s.fb := by rw [begin_frame]
@[simp] theorem begin_ports (k : Nat) (s : State) : (begin_ k s).ports = s.ports := by rw [begin_frame]
@[simp] theorem begin_mor (k : Nat) (s : State) : (begin_ k s).mor = s.mor := by rw [begin_frame]
@[simp] theorem begin_ord (k : Nat) (s : State) : (begin_ k s).ord = s.ord := by rw [begin_frame]
@[simp] theorem begin_tth (k : Nat) (s : State) : (begin_ k s).tth = s.tth := by rw [begin_frame]
@[simp] theorem begin_sat (k : Nat) (s : State) : (begin_ k s).sat = s.sat := by rw [begin_frame]
@[simp] theorem begin_ldg (k : Nat) (s : State) : (begin_ k s).ldg = s.ldg := by rw [begin_frame]
@[simp] theorem begin_rls (k : Nat) (s : State) : (begin_ k s).rls = s.rls := by rw [begin_frame]
@[simp] theorem begin_mea (k : Nat) (s : State) : (begin_ k s).mea = s.mea := by rw [begin_frame]
@[simp] theorem begin_lko (k : Nat) (s : State) : (begin_ k s).lko = s.lko := by rw [begin_frame]
@[simp] theorem begin_log (k : Nat) (s : State) : (begin_ k s).log = s.log := by rw [begin_frame]
@[simp] theorem begin_rnd (k : Nat) (s : State) : (begin_ k s).rnd = s.rnd := by rw [begin_frame]
@[simp] theorem begin_upd (k : Nat) (s : State) : (begin_ k s).upd = s.upd := by rw [begin_frame]
@[simp] theorem begin_rig (k : Nat) (s : State) : (begin_ k s).rig = s.rig := by rw [begin_frame]
@[simp] theorem begin_rcd (k : Nat) (s : State) : (begin_ k s).rcd = s.rcd := by rw [begin_frame]
@[simp] theorem begin_free (k : Nat) (s : State) : (begin_ k s).free = s.free := by rw [begin_frame]
@[simp] theorem begin_pending (k : Nat) (s : State) : (begin_ k s).pending = s.pending := by rw [begin_frame]
@[simp] theorem satGet_begin (k : Nat) (q : Nat) (s : State) : satGet (begin_ k s) q = satGet s q := by rw [begin_frame]; rfl
@[simp] theorem viewGet_begin (k : Nat) (q : Nat) (s : State) : viewGet (begin_ k s) q = viewGet s q := by rw [begin_frame]; rfl
@[simp] theorem slotViewGet_begin (k : Nat) (q : Nat) (s : State) : slotViewGet (begin_ k s) q = slotViewGet s q := by rw [begin_frame]; rfl
@[simp] theorem parcelGet_begin (k : Nat) (q : Nat) (s : State) : parcelGet (begin_ k s) q = parcelGet s q := by rw [begin_frame]; rfl
@[simp] theorem orderGet_begin (k : Nat) (q : Nat) (s : State) : orderGet (begin_ k s) q = orderGet s q := by rw [begin_frame]; rfl
@[simp] theorem ldgGet_begin (k : Nat) (q : Nat) (s : State) : ldgGet (begin_ k s) q = ldgGet s q := by rw [begin_frame]; rfl
@[simp] theorem railGet_begin (k : Nat) (q : Nat) (s : State) : railGet (begin_ k s) q = railGet s q := by rw [begin_frame]; rfl
@[simp] theorem tetherGet_begin (k : Nat) (q : Nat) (s : State) : tetherGet (begin_ k s) q = tetherGet s q := by rw [begin_frame]; rfl
@[simp] theorem portGet_begin (k : Nat) (q : Port) (s : State) : portGet (begin_ k s) q = portGet s q := by rw [begin_frame]; rfl

end Machine
end Sys2Proof
end

