-- ==== Sys2Proof/Tests/Slice0.lean ====
section
/-!
SUPPORT. Tests of the model: ill-formed commands that the check refuses, worked cases of the spec, and for every statement
of Certificates/Slice0/Obligations.lean that has hypotheses a state and operands that meet them.
-/
namespace Sys2Proof
namespace Tests

set_option Elab.async false

open Sys2Proof.Machine Sys2Proof.Safety

/-! ### Small states -/

def uSys (f : Sys → Sys) (s : State) : State := { s with sys := f s.sys }
def uSup (f : Supply → Supply) (s : State) : State := { s with sup := f s.sup }
def uPins (f : Pins → Pins) (s : State) : State := { s with pins := f s.pins }
def uStart (f : Start → Start) (s : State) : State := { s with start := f s.start }
def uFb (f : FaultBanks → FaultBanks) (s : State) : State := { s with fb := f s.fb }
def uMor (f : Mor → Mor) (s : State) : State := { s with mor := f s.mor }
def uOrd (f : OrdBlock → OrdBlock) (s : State) : State := { s with ord := f s.ord }
def uTth (f : Tth → Tth) (s : State) : State := { s with tth := f s.tth }
def uSat (f : SatBlock → SatBlock) (s : State) : State := { s with sat := f s.sat }
def uLdg (f : Ldg → Ldg) (s : State) : State := { s with ldg := f s.ldg }
def uRls (f : Rails → Rails) (s : State) : State := { s with rls := f s.rls }
def uMea (f : Mea → Mea) (s : State) : State := { s with mea := f s.mea }
def uLko (f : Lko → Lko) (s : State) : State := { s with lko := f s.lko }
def uLog (f : Log → Log) (s : State) : State := { s with log := f s.log }
def uRnd (f : Rnd → Rnd) (s : State) : State := { s with rnd := f s.rnd }
def uUpd (f : Upd → Upd) (s : State) : State := { s with upd := f s.upd }
def uRig (f : RigBlock → RigBlock) (s : State) : State := { s with rig := f s.rig }
def uRcd (f : Rec → Rec) (s : State) : State := { s with rcd := f s.rcd }

/-- The rig of the tests: one tether with three positions, rails 0 and 1. -/
def rig0 : Rig :=
  { tethers := [(0, some {})]
    sats := [(1, some { grail0 := true, grail1 := true }), (2, some {}), (3, some {})]
    slots := [(1, some { kind := .iso, classes := 7 }), (4, some { kind := .iso, classes := 7 })]
    rails := [(0, some { goodMax := 900 }), (1, some { step := 1, goodMax := 900 })] }

/-- The hub in RUN with both ports up and that rig. -/
def hub : State :=
  { sys := { state := .run, tick := 5000000, tickRunning := true, pllLocked := true, refOk := true }
    pins := { vioOk := true }
    sup := { preOk := true, v18cOk := true, vdcOk := true, por := false, buck := true, vsl5Ok := true, charger := true }
    start := { resetHold := .none }
    ports := ⟨{ answering := true }, { answering := true }⟩
    rig := { running := rig0, loaded := true } }

/-- The hub in another state. -/
def inState (x : HubState) (s : State) : State := uSys (fun y => { y with state := x }) s

/-- A slot. -/
def slot (k : Nat) (x : Slot) (s : State) : State := modSlot k (fun _ => x) s

/-- A satellite. -/
def zg (k : Nat) (x : Sat) (s : State) : State := modSat k (fun _ => x) s

/-- A satellite that takes commands. -/
def zg0 : Sat := { cond := .running, position := 1, lock := .f, setSat := true, setSlots := 0xF }

/-- The hub's record of a position. -/
def view (p : Nat) (x : SatView) (s : State) : State := modView p (fun _ => x) s

/-- A tether's record. -/
def teth (k : Nat) (x : Tether) (s : State) : State := modTether k (fun _ => x) s

/-- An order in flight. -/
def order (o : Order) (s : State) : State :=
  uOrd (fun x => { x with orders := o :: x.orders.filter (fun y => decide (y.id ≠ o.id)) }) s

/-- An order of port A. -/
def order0 : Order :=
  { id := 9, port := .a, opcode := 1, prio := 0, slot := 4, tag := 7, length := 0, parcel1 := 0x3FF, parcel2 := 0x3FF
    timeout := 1000, param := 0, pushTick := 0 }

/-- The CRC-8 of a frame, and the CRC-16 of a burst's words. -/
def goodCrc (op a d : Nat) : Byte := BitVec.ofNat 8 (crc8 24 (frameBits op a d))
def goodCrc16 (l : List Word) : BitVec 16 := BitVec.ofNat 16 (crc16Words l)

/-- A rail's record. -/
def rail (n : Nat) (x : Rail) (s : State) : State := modRail n (fun _ => x) s

/-- A parcel. -/
def parcel (n : Nat) (x : Parcel) (s : State) : State := modParcel n (fun _ => x) s

/-- The ledger's record of a slot. -/
def ldgSlot (n : Nat) (x : LdgSlot) (s : State) : State := modLdg n (fun _ => x) s

/-- A port's words. -/
def port (p : Port) (f : HostPort → HostPort) (s : State) : State := modPort p f s

/-- An opcode at a slot, of order 9. -/
def runs (op : Nat) : Running := { opcode := op, param := 0, length := 0, oid := 9 }

/-- Order 9 at slot 1 with parcel 5. -/
def order1 : Order := { order0 with slot := 1, parcel1 := 5, stage := .dispatched }

/-- A slot in session with T=1 in force that awaits a block. -/
def t1Slot (rx : List Byte) : Slot :=
  { st := .busy, pins := { vccOn := true }, cfg := { kind := .iso, classes := 7 }, line := { mode := .t1, rx := rx }
    run := some { runs 4 with begun := true }, x := { chainDone := true, lastKind := .iBlock } }
/-- Bytes of a firmware image: target 1, version 5, one payload byte, in slot 0 the key whose secret is 1, signed. -/
def fwBytes : List Byte :=
  [156, 71, 49, 229, 1, 0, 1, 0, 244, 3, 1, 1, 5, 0, 0, 0, 0, 0, 0, 0, 1, 0, 0, 0, 1, 1, 1, 1, 1, 1, 0, 0] ++
  [202, 53, 135, 88, 246, 210, 126, 108, 244, 82, 114, 147, 121, 119, 167, 72, 253, 136, 57, 29, 182, 121, 206, 218, 125, 199, 191, 31, 0, 94, 232, 121] ++
  [107, 23, 209, 242, 225, 44, 66, 71, 248, 188, 230, 229, 99, 164, 64, 242, 119, 3, 125, 129, 45, 235, 51, 160, 244, 161, 57, 69, 216, 152, 194, 150,
   79, 227, 66, 226, 254, 26, 127, 155, 142, 231, 235, 74, 124, 15, 158, 22, 43, 206, 51, 87, 107, 49, 94, 206, 203, 182, 64, 104, 55, 191, 81, 245] ++
  [124, 242, 123, 24, 141, 3, 79, 126, 138, 82, 56, 3, 4, 181, 26, 195, 192, 137, 105, 226, 119, 242, 27, 53, 166, 11, 72, 252, 71, 102, 153, 120,
   187, 250, 159, 143, 27, 131, 31, 125, 74, 248, 194, 48, 154, 127, 101, 94, 59, 44, 228, 31, 167, 168, 32, 255, 253, 67, 67, 165, 204, 189, 235, 146] ++
  List.replicate 828 0 ++ [106, 231, 221, 118, 7]

/-- That image. -/
def fwImage : Tbl Byte := imageOf fwBytes

/-- OTP with the SHA-256 of that key in slot 0. -/
def fwOtp : Otp := { hash0 := 71941966651439181731255131253748476600071339345811457704479305079427371333080 }

/-- A bank that holds that image. -/
def fwBank0 : FwBank := { image := fwImage, generation := 1, complement := 0xFFFFFFFE, written := true }

/-- A staged image with LENGTH 0 and TARGET 1; the hash is that of no bytes. -/
def emptyImage : Tbl Byte := [(6, 1), (20, 0), (21, 0), (22, 0), (23, 0)] ++
  imageOf (List.replicate 32 0xFF ++ [227, 176, 196, 66, 152, 252, 28, 20, 154, 251, 244, 200, 153, 111, 185, 36, 39, 174, 65, 228, 100, 155, 147, 76, 164, 149, 153, 27, 120, 82, 184, 85])

/-- Words of the smallest rig stream: header and END. -/
def rigStream : Tbl Word :=
  [(0, 713), (1, 310), (2, 1), (6, 18), (9, 1), (10, 172), (11, 131), (12, 117), (13, 4), (14, 1012), (16, 1023)]

/-- A card whose update partition, blocks 34 to 40, holds that image. -/
def card : List (Nat × List Byte) :=
  [(1, [69, 70, 73, 32, 80, 65, 82, 84, 0, 0, 1, 0, 92, 0, 0, 0, 100, 243, 126, 142, 0, 0, 0, 0, 1] ++
      List.replicate 15 0 ++ [34] ++ List.replicate 7 0 ++ [50] ++ List.replicate 23 0 ++ [2] ++
      List.replicate 7 0 ++ [1, 0, 0, 0, 128, 0, 0, 0, 235, 133, 16, 251]),
   (2, [48, 126, 26, 92, 180, 146, 111, 77, 142, 21, 196, 160, 249, 55, 43, 104] ++ List.replicate 16 0 ++
      [34] ++ List.replicate 7 0 ++ [40] ++ List.replicate 7 0),
   (34, fwBytes.take 512), (35, (fwBytes.drop 512).take 512), (36, fwBytes.drop 1024)]

/-! ### Well-formedness refuses every operand out of range -/

theorem test_illformed_1 : ([
      .powerOnReset 8, .bootComplete true 1 [6], .powerFailRecordCommit 10 1, .powerFailRecordCommit 1 10,
      .pfrReserveComplete 10 1, .pfrReserveComplete 1 10, .cardInserted 1024, .cardInserted 256,
      .cardRemoved 1024 [], .cardRemoved 256 [], .wpChange 1024 true, .wpChange 256 true, .currentTrip 1024 true [],
      .currentTrip 256 true [], .undervoltageTrip 1024 true [], .undervoltageTrip 256 true [], .vccWinExpiry 1024 [],
      .vccWinExpiry 256 [], .atrTimeout 1024, .atrTimeout 256, .classTrialWaitEnd 1024, .classTrialWaitEnd 256,
      .vccDischarged 1024, .vccDischarged 256, .dischargeSlow 1024, .dischargeSlow 256, .railEnable 8,
      .railRiseWindowEnd 8, .rlsRelease .a 0 (some (.burstRead 0 1024)), .rlsTrimWrite .a 8 0 none,
      .rlsTrimWrite .a 1 0 (some (.burstRead 0 1024)), .trimFault 8, .moduleRailRaise 4, .grailGapElapsed 256,
      .grailGapElapsed 64, .satGrailFail 256 1, .satGrailFail 64 1, .satGrailFail 1 2, .scanSample 1024 true none,
      .sweepQuery 256 1 true { pos := 1 }, .sweepQuery 64 1 true { pos := 1 }, .sweepQuery 1 65536 true { pos := 1 },
      .sweepQuery 1 1 true { pos := 64 }, .sweepReport 256 1 (List.replicate 19 0) { pos := 1 },
      .sweepReport 64 1 (List.replicate 19 0) { pos := 1 }] : List Instr).all (fun i => !i.wellFormed) = true := by decide +kernel

theorem test_illformed_2 : ([
      .sweepReport 1 65536 (List.replicate 19 0) { pos := 1 }, .sweepReport 1 1 (List.replicate 18 0) { pos := 1 },
      .sweepReport 1 1 (List.replicate 19 0) { pos := 64 }, .sweepResend 256, .sweepResend 64,
      .registerWrite .a 0 0 0 (some (.burstRead 0 1024)), .burstRead .a 0 1024 0 [] none,
      .burstRead .a 0 1 0 [⟨512, 0, true⟩] none, .burstRead .a 0 1 0 [] (some (.burstRead 0 1024)),
      .burstWrite .a 0 1024 0 [0] 0 none, .burstWrite .a 0 1 0 [0, 0] 0 none,
      .burstWrite .a 0 1 0 [0] 0 (some (.burstRead 0 1024)), .malformedTransaction .a true 1 [0, 0],
      .groupLatchRead .a 0 0 0 (some (.burstRead 0 1024)), .groupCommit .a 0 0 (some (.burstRead 0 1024)),
      .rcRead .a 0 (some (.burstRead 0 1024)), .portReset .a 0 (some (.burstRead 0 1024)), .morTake .a 16 none,
      .morTake .a 1 (some (.burstRead 0 1024)), .morRelease .a 16 0 none,
      .morRelease .a 1 0 (some (.burstRead 0 1024)), .morRelall .a 0 (some (.burstRead 0 1024)),
      .morClaim .a 0 (some (.burstRead 0 1024)), .morFree .a 0 (some (.burstRead 0 1024)),
      .ordPush .a 0 true 0 [⟨512, 0, true⟩] none, .ordPush .a 0 true 0 [] (some (.burstRead 0 1024)),
      .orderAdvance 1024 [], .orderAdvance 256 [], .orderAdvance 1 [⟨512, 0, true⟩],
      .orderAdmission 1 [⟨512, 0, true⟩], .pclAlloc .a (some (.burstRead 0 1024)),
      .pclRelease .a 0 (some (.burstRead 0 1024)), .pclWinWrite .a 64 0 none,
      .pclWinWrite .a 1 0 (some (.burstRead 0 1024)), .pclWinRead .a 64 1 none,
      .pclWinRead .a 1 1 (some (.burstRead 0 1024)), .activate 1024, .activate 256, .warmReset 1024, .warmReset 256,
      .deactivate 1024, .deactivate 256, .exchange 1024 [], .exchange 256 [], .exchange 1 [⟨512, 0, true⟩]] : List Instr).all (fun i => !i.wellFormed) = true := by decide +kernel

theorem test_illformed_3 : ([
      .rawBlock 1024, .rawBlock 256, .pps 1024, .pps 256, .clockStop 1024, .clockStop 256,
      .clockStopIdleReached 1024, .clockStopIdleReached 256, .clockResume 1024, .clockResume 256,
      .clockResumeSettled 1024, .clockResumeSettled 256, .sdInit 1024 [] [], .sdInit 256 [] [], .sdRead 1024 [] [],
      .sdRead 256 [] [], .sdWrite 1024 [] 0, .sdWrite 256 [] 0, .sdStatus 1024 [] [], .sdStatus 256 [] [],
      .nonce 1 (List.replicate 129 0), .characterSend 1024 true true, .characterSend 256 true true,
      .characterReceived 1024 true true 0 true, .characterReceived 256 true true 0 true, .ioLowWaitExpiry 1024,
      .ioLowWaitExpiry 256, .atrCharacterTimeout 1024, .atrCharacterTimeout 256, .wtExpiry 1024, .wtExpiry 256,
      .cwtExpiry 1024, .cwtExpiry 256, .blockReceived 1024, .blockReceived 256, .bwtExpiry 1024, .bwtExpiry 256,
      .cardTimeLimit 1024, .cardTimeLimit 256, .sdBusyRelease 1024 1 [], .sdBusyRelease 256 1 [],
      .sdBusyTimeout 1024, .sdBusyTimeout 256, .sdTokenTimeout 1024, .sdTokenTimeout 256] : List Instr).all (fun i => !i.wellFormed) = true := by decide +kernel

theorem test_illformed_4 : ([
      .sdAcmd41Poll 1024 [] [] [] [] [] [], .sdAcmd41Poll 256 [] [] [] [] [] [], .sdRunIdleClose 1024 [],
      .sdRunIdleClose 256 [], .ldgSourceWrite .a 0 (some (.burstRead 0 1024)), .wearTableWrite 10,
      .rndStartupPass (List.replicate 511 0), .rndContinuousFail (List.replicate 129 0),
      .rndDataRead .a (some (.burstRead 0 1024)), .tapInstruction 256, .updOpen .a 0 (some (.burstRead 0 1024)),
      .rigOpen .a (some (.burstRead 0 1024)), .beaconSend 4 true, .ripcordSymbol 256 true, .ripcordSymbol 64 true,
      .satRipcordIsolate 256, .satRipcordIsolate 64, .wakeSymbol 256 true 1, .wakeSymbol 64 true 1,
      .wakeSymbol 1 true 64, .ringInputLost 256 true, .ringInputLost 64 true, .satRelock 256, .satRelock 64,
      .satPllLock 256 true, .satPllLock 64 true, .silenceTimeout 256, .silenceTimeout 64,
      .enumQuery 256 1 { pos := 1 }, .enumQuery 64 1 { pos := 1 }, .enumQuery 1 256 { pos := 1 },
      .enumQuery 1 1 { pos := 64 }, .enumAnswer 4 1 1 1 1 { pos := 1 }, .enumAnswer 1 (2 ^ 64) 1 1 1 { pos := 1 },
      .enumAnswer 1 1 1 1 256 { pos := 1 }, .enumAnswer 1 1 1 1 1 { pos := 64 }, .enumWalkTimeout 4,
      .assign 256 1 1 true { pos := 1 }, .assign 64 1 1 true { pos := 1 }, .assign 1 (2 ^ 64) 1 true { pos := 1 },
      .assign 1 1 64 true { pos := 1 }, .assign 1 1 1 true { pos := 64 }, .assignAck 256 { pos := 1 },
      .assignAck 64 { pos := 1 }, .assignAck 1 { pos := 64 }] : List Instr).all (fun i => !i.wellFormed) = true := by decide +kernel

theorem test_illformed_5 : ([
      .delayFrame 256 { pos := 1 }, .delayFrame 64 { pos := 1 }, .delayFrame 1 { pos := 64 }, .delayMarkerEcho 256,
      .delayMarkerEcho 64, .delayEchoArrival 256 1, .delayEchoArrival 64 1, .delayAnswer 256 1 { pos := 1 },
      .delayAnswer 64 1 { pos := 1 }, .delayAnswer 1 1 { pos := 64 }, .tsync 256 1 1 { pos := 1 },
      .tsync 64 1 1 { pos := 1 }, .tsync 1 1 1 { pos := 64 }, .cack 256 true 1 { pos := 1 },
      .cack 64 true 1 { pos := 1 }, .cack 1 true 256 { pos := 1 }, .cack 1 true 1 { pos := 64 }, .cmdResend 256,
      .cmdResend 64, .rack 256 true { pos := 1 }, .rack 64 true { pos := 1 }, .rack 1 true { pos := 64 },
      .resultResend 256, .resultResend 64, .wakeResend 256, .wakeResend 64,
      .doneResult 256 true 1 1 1 1 [] { pos := 1 }, .doneResult 64 true 1 1 1 1 [] { pos := 1 },
      .doneResult 1 true 4 1 1 1 [] { pos := 1 }, .doneResult 1 true 1 65536 1 1 [] { pos := 1 },
      .doneResult 1 true 1 1 256 1 [] { pos := 1 }, .doneResult 1 true 1 1 1 1 [] { pos := 64 },
      .dataResult 256 true 1 1 1 [] { pos := 1 }, .dataResult 64 true 1 1 1 [] { pos := 1 },
      .dataResult 1 true 4 1 1 [] { pos := 1 }, .dataResult 1 true 1 65536 1 [] { pos := 1 },
      .dataResult 1 true 1 1 (2 ^ 24) [] { pos := 1 }, .dataResult 1 true 1 1 1 (List.replicate 257 0) { pos := 1 },
      .dataResult 1 true 1 1 1 [] { pos := 64 }, .slotResult 256 true 1 1 1 { pos := 1 },
      .slotResult 64 true 1 1 1 { pos := 1 }, .slotResult 1 true 4 1 1 { pos := 1 },
      .slotResult 1 true 1 1 1 { pos := 64 }, .wrapResult 256 true true true true { pos := 1 },
      .wrapResult 64 true true true true { pos := 1 }] : List Instr).all (fun i => !i.wellFormed) = true := by decide +kernel

theorem test_illformed_6 : ([
      .wrapResult 1 true true true true { pos := 64 }, .healReadyResult 256 true { pos := 1 },
      .healReadyResult 64 true { pos := 1 }, .healReadyResult 1 true { pos := 64 },
      .restartedResult 256 true 1 { pos := 1 }, .restartedResult 64 true 1 { pos := 1 },
      .restartedResult 1 true 1 { pos := 64 }, .wokenResult 256 true { pos := 1 }, .wokenResult 64 true { pos := 1 },
      .wokenResult 1 true { pos := 64 }, .railResult 256 true 1 1 { pos := 1 }, .railResult 64 true 1 1 { pos := 1 },
      .railResult 1 true 1 1 { pos := 64 }, .identResult 256 true 1 1 1 1 1 { pos := 1 },
      .identResult 64 true 1 1 1 1 1 { pos := 1 }, .identResult 1 true 1 1 1 1 1 { pos := 64 },
      .locksrcResult 256 true true { pos := 1 }, .locksrcResult 64 true true { pos := 1 },
      .locksrcResult 1 true true { pos := 64 }, .faultResult 256 true 0 { pos := 1 },
      .faultResult 64 true 0 { pos := 1 }, .faultResult 1 true 0 { pos := 64 },
      .traceResult 256 true 1 1 [] { pos := 1 }, .traceResult 64 true 1 1 [] { pos := 1 },
      .traceResult 1 true 4 1 [] { pos := 1 }, .traceResult 1 true 1 16 [] { pos := 1 },
      .traceResult 1 true 1 1 [] { pos := 64 }, .powerResult 256 true true { pos := 1 },
      .powerResult 64 true true { pos := 1 }, .powerResult 1 true true { pos := 64 },
      .replayResult 256 true 1 1 1 { pos := 1 }, .replayResult 64 true 1 1 1 { pos := 1 },
      .replayResult 1 true 4 1 1 { pos := 1 }, .replayResult 1 true 1 1 256 { pos := 1 },
      .replayResult 1 true 1 1 1 { pos := 64 }, .linkSend 256, .linkFrame 256 true true { pos := 1 },
      .linkFrame 1 true true { pos := 64 }, .healReadyTimer 256, .healFrame 256 1 { pos := 1 },
      .healFrame 64 1 { pos := 1 }, .healFrame 1 1 { pos := 64 }, .healAnswer 4 true 1 { pos := 1 },
      .healAnswer 1 true 1 { pos := 64 }, .healResend 4] : List Instr).all (fun i => !i.wellFormed) = true := by decide +kernel

theorem test_illformed_7 : ([
      .healCancel 4, .unwrap 4, .tetherRewalk 4, .setSat 256 true [] { pos := 1 }, .setSat 64 true [] { pos := 1 },
      .setSat 1 true [] { pos := 64 }, .setSlot 256 true [] { pos := 1 }, .setSlot 64 true [] { pos := 1 },
      .setSlot 1 true [] { pos := 64 }, .put 256 true 1 1 [] { pos := 1 }, .put 64 true 1 1 [] { pos := 1 },
      .put 1 true 4 1 [] { pos := 1 }, .put 1 true 1 (2 ^ 24) [] { pos := 1 },
      .put 1 true 1 1 (List.replicate 257 0) { pos := 1 }, .put 1 true 1 1 [] { pos := 64 },
      .orderCommand 256 true 1 1 1 1 1 { pos := 1 }, .orderCommand 64 true 1 1 1 1 1 { pos := 1 },
      .orderCommand 1 true 4 1 1 1 1 { pos := 1 }, .orderCommand 1 true 1 256 1 1 1 { pos := 1 },
      .orderCommand 1 true 1 1 65536 1 1 { pos := 1 }, .orderCommand 1 true 1 1 1 65536 1 { pos := 1 },
      .orderCommand 1 true 1 1 1 1 65536 { pos := 1 }, .orderCommand 1 true 1 1 1 1 1 { pos := 64 },
      .sleepCommand 256 true { pos := 1 }, .sleepCommand 64 true { pos := 1 }, .sleepCommand 1 true { pos := 64 },
      .railCommand 256 true 1 { pos := 1 }, .railCommand 64 true 1 { pos := 1 }, .railCommand 1 true 1 { pos := 64 },
      .traceFetch 256 true 1 { pos := 1 }, .traceFetch 64 true 1 { pos := 1 }, .traceFetch 1 true 4 { pos := 1 },
      .traceFetch 1 true 1 { pos := 64 }, .traceRearm 256 true 1 { pos := 1 }, .traceRearm 64 true 1 { pos := 1 },
      .traceRearm 1 true 4 { pos := 1 }, .traceRearm 1 true 1 { pos := 64 }, .traceFreeze 256 true 1 { pos := 1 },
      .traceFreeze 64 true 1 { pos := 1 }, .traceFreeze 1 true 4 { pos := 1 }, .traceFreeze 1 true 1 { pos := 64 },
      .traceFreezeCount 1024, .traceFreezeCount 256, .slotRelease 256 true 1 { pos := 1 },
      .slotRelease 64 true 1 { pos := 1 }] : List Instr).all (fun i => !i.wellFormed) = true := by decide +kernel

theorem test_illformed_8 : ([
      .slotRelease 1 true 4 { pos := 1 }, .slotRelease 1 true 1 { pos := 64 },
      .faultAckCommand 256 true 0 { pos := 1 }, .faultAckCommand 64 true 0 { pos := 1 },
      .faultAckCommand 1 true 0 { pos := 64 }, .ripcordCommand 256 true 0 { pos := 1 },
      .ripcordCommand 64 true 0 { pos := 1 }, .ripcordCommand 1 true 0 { pos := 64 },
      .restartCommand 256 true { pos := 1 }, .restartCommand 64 true { pos := 1 },
      .restartCommand 1 true { pos := 64 }, .identCommand 256 true { pos := 1 }, .identCommand 64 true { pos := 1 },
      .identCommand 1 true { pos := 64 }, .traceReplayCommand 256 true 1 1 [] { pos := 1 },
      .traceReplayCommand 64 true 1 1 [] { pos := 1 }, .traceReplayCommand 1 true 4 1 [] { pos := 1 },
      .traceReplayCommand 1 true 1 16 [] { pos := 1 }, .traceReplayCommand 1 true 1 1 [] { pos := 64 },
      .updBegin 256 true [] { pos := 1 }, .updBegin 64 true [] { pos := 1 }, .updBegin 1 true [] { pos := 64 },
      .updData 256 true 1 [] { pos := 1 }, .updData 64 true 1 [] { pos := 1 },
      .updData 1 true (2 ^ 24) [] { pos := 1 }, .updData 1 true 1 (List.replicate 257 0) { pos := 1 },
      .updData 1 true 1 [] { pos := 64 }, .updEnd 256 true { pos := 1 }, .updEnd 64 true { pos := 1 },
      .updEnd 1 true { pos := 64 }, .updAbort 256 true { pos := 1 }, .updAbort 64 true { pos := 1 },
      .updAbort 1 true { pos := 64 }, .satUpdateTimeout 256, .satUpdateTimeout 64, .satVinLost 256, .satVinLost 64,
      .satVinBack 256, .satVinBack 64, .satVpsLow 256, .satVpsLow 64, .satTotalOvercurrent 256 1,
      .satTotalOvercurrent 64 1, .satTotalOvercurrent 1 4, .satFatalFault 256 1] : List Instr).all (fun i => !i.wellFormed) = true := by decide +kernel

theorem test_illformed_9 : ([
      .satFatalFault 64 1, .satFatalFault 1 9, .satRstN 256, .satRstN 64, .hubRingInputLost 4 true,
      .ringInputRegained 256 true, .dir0FrameReturned 4 true true, .tsyncAnswer 256 { pos := 1 },
      .tsyncAnswer 64 { pos := 1 }, .tsyncAnswer 1 { pos := 64 }, .satPowerOn 256 1 1 1 1 true,
      .satPowerOn 64 1 1 1 1 true, .satPowerOn 1 (2 ^ 64) 1 1 1 true, .satConversion 256 [], .satConversion 64 [],
      .grailLowerWindowEnd 256, .grailLowerWindowEnd 64, .satHoldLow 256, .satHoldLow 64, .lostSilenceRelease 256,
      .lostSilenceRelease 64, .rndBlockFormed (List.replicate 127 0), .ppsCharacterTimeout 1024,
      .ppsCharacterTimeout 256, .satLoaderEraseDone 256, .satLoaderEraseDone 64, .updIdentPoll 256, .updIdentPoll 64] : List Instr).all (fun i => !i.wellFormed) = true := by decide +kernel

theorem test_wellformed_1 : ([
      .powerOnReset 1, .bootComplete true 1 [], .powerFailRecordCommit 1 1, .pfrReserveComplete 1 1, .cardInserted 1,
      .cardRemoved 1 [], .wpChange 1 true, .currentTrip 1 true [], .undervoltageTrip 1 true [], .vccWinExpiry 1 [],
      .atrTimeout 1, .classTrialWaitEnd 1, .vccDischarged 1, .dischargeSlow 1, .railEnable 1, .railRiseWindowEnd 1,
      .rlsRelease .a 0 none, .rlsTrimWrite .a 1 0 none, .trimFault 1, .moduleRailRaise 1, .grailGapElapsed 1,
      .satGrailFail 1 1, .scanSample 1 true none, .sweepQuery 1 1 true { pos := 1 },
      .sweepReport 1 1 (List.replicate 19 0) { pos := 1 }, .sweepResend 1, .registerWrite .a 0 0 0 none,
      .burstRead .a 0 1 0 [] none, .burstWrite .a 0 1 0 [0] 0 none, .malformedTransaction .a true 1 [],
      .groupLatchRead .a 0 0 0 none, .groupCommit .a 0 0 none, .rcRead .a 0 none, .portReset .a 0 none,
      .morTake .a 1 none, .morRelease .a 1 0 none, .morRelall .a 0 none, .morClaim .a 0 none, .morFree .a 0 none,
      .ordPush .a 0 true 0 [] none, .orderAdvance 1 [], .orderAdmission 1 [], .pclAlloc .a none,
      .pclRelease .a 0 none, .pclWinWrite .a 1 0 none, .pclWinRead .a 1 1 none, .activate 1, .warmReset 1,
      .deactivate 1, .exchange 1 []] : List Instr).all Instr.wellFormed = true := by decide +kernel

theorem test_wellformed_2 : ([
      .rawBlock 1, .pps 1, .clockStop 1, .clockStopIdleReached 1, .clockResume 1, .clockResumeSettled 1,
      .sdInit 1 [] [], .sdRead 1 [] [], .sdWrite 1 [] 0, .sdStatus 1 [] [], .nonce 1 [], .characterSend 1 true true,
      .characterReceived 1 true true 0 true, .ioLowWaitExpiry 1, .atrCharacterTimeout 1, .wtExpiry 1, .cwtExpiry 1,
      .blockReceived 1, .bwtExpiry 1, .cardTimeLimit 1, .sdBusyRelease 1 1 [], .sdBusyTimeout 1, .sdTokenTimeout 1,
      .sdAcmd41Poll 1 [] [] [] [] [] [], .sdRunIdleClose 1 [], .ldgSourceWrite .a 0 none, .wearTableWrite 1,
      .rndStartupPass (List.replicate 512 0), .rndContinuousFail [], .rndDataRead .a none, .tapInstruction 1,
      .updOpen .a 0 none, .rigOpen .a none, .beaconSend 1 true, .ripcordSymbol 1 true, .satRipcordIsolate 1,
      .wakeSymbol 1 true 1, .ringInputLost 1 true, .satRelock 1, .satPllLock 1 true, .silenceTimeout 1,
      .enumQuery 1 1 { pos := 1 }, .enumAnswer 1 1 1 1 1 { pos := 1 }, .enumWalkTimeout 1,
      .assign 1 1 1 true { pos := 1 }, .assignAck 1 { pos := 1 }, .delayFrame 1 { pos := 1 }, .delayMarkerEcho 1,
      .delayEchoArrival 1 1, .delayAnswer 1 1 { pos := 1 }] : List Instr).all Instr.wellFormed = true := by decide +kernel

theorem test_wellformed_3 : ([
      .tsync 1 1 1 { pos := 1 }, .cack 1 true 1 { pos := 1 }, .cmdResend 1, .rack 1 true { pos := 1 },
      .resultResend 1, .wakeResend 1, .doneResult 1 true 1 1 1 1 [] { pos := 1 },
      .dataResult 1 true 1 1 1 [] { pos := 1 }, .slotResult 1 true 1 1 1 { pos := 1 },
      .wrapResult 1 true true true true { pos := 1 }, .healReadyResult 1 true { pos := 1 },
      .restartedResult 1 true 1 { pos := 1 }, .wokenResult 1 true { pos := 1 }, .railResult 1 true 1 1 { pos := 1 },
      .identResult 1 true 1 1 1 1 1 { pos := 1 }, .locksrcResult 1 true true { pos := 1 },
      .faultResult 1 true 0 { pos := 1 }, .traceResult 1 true 1 1 [] { pos := 1 },
      .powerResult 1 true true { pos := 1 }, .replayResult 1 true 1 1 1 { pos := 1 }, .linkSend 1,
      .linkFrame 1 true true { pos := 1 }, .healReadyTimer 1, .healFrame 1 1 { pos := 1 },
      .healAnswer 1 true 1 { pos := 1 }, .healResend 1, .healCancel 1, .unwrap 1, .tetherRewalk 1,
      .setSat 1 true [] { pos := 1 }, .setSlot 1 true [] { pos := 1 }, .put 1 true 1 1 [] { pos := 1 },
      .orderCommand 1 true 1 1 1 1 1 { pos := 1 }, .sleepCommand 1 true { pos := 1 },
      .railCommand 1 true 1 { pos := 1 }, .traceFetch 1 true 1 { pos := 1 }, .traceRearm 1 true 1 { pos := 1 },
      .traceFreeze 1 true 1 { pos := 1 }, .traceFreezeCount 1, .slotRelease 1 true 1 { pos := 1 },
      .faultAckCommand 1 true 0 { pos := 1 }, .ripcordCommand 1 true 0 { pos := 1 },
      .restartCommand 1 true { pos := 1 }, .identCommand 1 true { pos := 1 },
      .traceReplayCommand 1 true 1 1 [] { pos := 1 }, .updBegin 1 true [] { pos := 1 },
      .updData 1 true 1 [] { pos := 1 }, .updEnd 1 true { pos := 1 }, .updAbort 1 true { pos := 1 },
      .satUpdateTimeout 1] : List Instr).all Instr.wellFormed = true := by decide +kernel

theorem test_wellformed_4 : ([
      .satVinLost 1, .satVinBack 1, .satVpsLow 1, .satTotalOvercurrent 1 1, .satFatalFault 1 1, .satRstN 1,
      .hubRingInputLost 1 true, .ringInputRegained 1 true, .dir0FrameReturned 1 true true,
      .tsyncAnswer 1 { pos := 1 }, .satPowerOn 1 1 1 1 1 true, .satConversion 1 [], .grailLowerWindowEnd 1,
      .satHoldLow 1, .lostSilenceRelease 1, .rndBlockFormed (List.replicate 128 0), .ppsCharacterTimeout 1,
      .satLoaderEraseDone 1, .updIdentPoll 1] : List Instr).all Instr.wellFormed = true := by decide +kernel

/-! ### Worked cases of the spec, one step or one computation each -/

/-- The response a step leaves for the port's next assertion. -/
def owedAfter (r : Host.Outcome State Fault Refusal) (p : Port) : Option Response :=
  match r with
  | .next t => some (portGet t p).owed
  | _ => none

/-- 08, worked case, steps 3 and 4: SYS_PIN reads 0x010 in RUN. -/
theorem test_read_sysPin : owedAfter (exec (.groupLatchRead .a 0x067 0 (goodCrc 0 0x067 0) none) hub) .a =
    some { stat := .ok, addr := 0x067, data := 0x010 } := by decide +kernel

/-- A hub whose last response on port A carried SYS_STATE's neighbour 0x08D with data 3. -/
def lostResponse : State := port .a (fun x => { x with sent := { stat := .ok, addr := 0x08D, data := 3 } }) hub

/-- 08, steps 6 to 8: HST_AGAIN0 reads 0x003, HST_AGAIN1 0x08D, HST_AGAIN2 0x000. -/
theorem test_again_recovers : (owedAfter (exec (.hstAgainRead .a) lostResponse) .a).map (fun r => r.data) = some 0x003 ∧
    (againWords { stat := .ok, addr := 0x08D, data := 3 }) = [0x003, 0x08D, 0x000] := by decide +kernel

/-- A hub at the tick of the worked case of 09. -/
def atTick : State := uSys (fun x => { x with tick := 3941812037 }) hub

/-- 09, step 1: the read of SYS_TICK0 answers 0x345 and fills the latch. -/
theorem test_tick_latched : (match exec (.groupLatchRead .a 0x060 0 (goodCrc 0 0x060 0) none) atTick with
    | .next t => decide ((portGet t .a).owed.data = 0x345 ∧ regRead t .a 0x093 = 0x060 ∧ regRead t .a 0x094 = 0x004)
    | _ => false) = true := by decide +kernel

/-- 09, steps 2 and 4: the latch answers SYS_TICK1 and SYS_TICK3 once it holds the group. -/
theorem test_latch_answers : (owedAfter (exec (.groupLatchRead .a 0x063 0 (goodCrc 0 0x063 0) none)
      (port .a (fun x => { x with latch := some { base := 0x060, words := [0x345, 0x0D1, 0x2AF, 0x003, 0, 0] } }) hub)) .a).map
      (fun r => r.data) = some 0x003 := by decide +kernel

/-- The ATR of the worked case of 15. -/
def atrBytes : List Byte := [0x3B, 0x92, 0x13, 0x81, 0x1F, 0xC3, 0x31, 0xC0, 0x2D]

/-- 15, steps 1 and 2: the ATR is complete and good; SLT_PROT reads 0x0EA, SLT_TA1 0x113, SLT_ATRLEN 9, CWI is 13, classes are
A and B. -/
theorem test_atr_words : (match atrParse atrBytes with
    | some (a, n) =>
      let x := atrForce atrBytes a { ch := { div := 200 } }
      decide (n = 0 ∧ atrBad atrBytes a = false ∧ protWord x.ch = 0x0EA ∧ x.ch.ta1 = 0x13 ∧ x.ch.ta1Present = true ∧
        x.ch.atrLen = 9 ∧ x.ch.cwi = 13 ∧ x.atrClasses = 3 ∧ x.ch.etu = 256 * 74400)
    | none => false) = true := by decide +kernel

/-- 15, step 5: F = 372, D = 4 and N = 200 give E = 4 761 600. -/
theorem test_etu : etuOf 1 3 200 = 4761600 ∧
    (List.range 4).map (groupWord (etuOf 1 3 200)) = [0x000, 0x22A, 0x004, 0x000] := by decide +kernel

/-- 16, step 1: BWT in ticks, and the words of SLT_BWT. -/
theorem test_bwt : bwtTicks 4761600 4 200 = 1142988600 ∧
    (let x := retime 1 3 200 { tr := { bwi := 4 } }
     [groupWord x.tr.bwt 0, groupWord x.tr.bwt 1] = [0x3CF, 0x00D]) := by decide +kernel

/-- 16, steps 2, 3 and 9: the check bytes of its blocks. -/
theorem test_lrc : edcOf false [0x00, 0xC1, 0x01, 0xFE] = [0x3E] ∧ edcOf false [0x00, 0xE1, 0x01, 0xFE] = [0x1E] ∧
    edcOf false [0x00, 0x00, 0x02, 0x90, 0x00] = [0x92] := by decide

/-- 24, step 1: the bytes of a nonce. -/
theorem test_nonce_bytes : nonceBytes 0xB61C 0x2F 0x3A7 = [0x1C, 0xB6, 0x2F, 0, 0, 0xA7, 3, 0] := by decide

/-- 21: PCL_FRX0 reads 0x008 under the defaults, and PCL_FST 0x001 after one corrected event. -/
theorem test_pcl_words : regRead hub .a 0x192 = 0x008 ∧ (raise .pcl 0 hub).fb.pcl.fst = 0x001 := by decide +kernel

/-- 21, steps 2 and 3: with bit 0 held contained, ECC_UNCORR takes the hub to FATAL with PCL_FST 0x203, SYS_FATAL0 0x026 and
SYS_FATAL1 0x002. -/
theorem test_fatal_words :
    (let later := uFb (fun f => { f with pcl := { f.pcl with now := none } })
     let t := raise .pcl 1 (later (raise .pcl 0 (later (raise .pcl 0 hub))))
     t.sys.state = .fatal ∧ t.fb.pcl.fst = 0x203 ∧ regRead t .a 0x044 = 0x026 ∧ regRead t .a 0x045 = 0x002) := by decide +kernel

/-- 08, steps 2 and 4: the CRC-8 of a frame to SYS_PIN is 0x5D, and that of its response 0x2D. -/
theorem test_crc8 : goodCrc 0 0x067 0 = 0x5D ∧ withCrc 0x019C00 = 0x019C005D ∧ withCrc 0x019C10 = 0x019C102D := by decide +kernel

/-- 12, step 5: the delay of position 20 is 19 783 sixteenths of a tick, with the bytes 0x47, 0x4D, 0x00. -/
theorem test_delay : (16 * 2559 + 13 - 16 * 87 + 1) / 2 = 19783 ∧ natLe 3 19783 = [0x47, 0x4D, 0x00] := by decide

/-- 12, step 7: the counter would have read 5 000 101 236 at the marker. -/
theorem test_tsync : (match exec (.tsync 20 5000100000 19783 { pos := 20 })
      (zg 20 { zg0 with position := 20, tick := 812345, markerTick := 812345 } hub) with
    | .next t => decide ((satGet t 20).tick = 5000101236 ∧ (satGet t 20).answer = [])
    | _ => false) = true := by decide +kernel

/-- 25, step 7: the words of floor entry 2. -/
theorem test_floor : [groupWord 0x201000 0, groupWord 0x201000 1, groupWord 0x201000 2] = [0x000, 0x004, 0x002] := by decide

/-- 12: a frame is read as it was packed, and a wrong CRC byte makes it invalid (R398, R399). -/
theorem test_frame : (let f := hubFrame 20 true 1 [0x0C]
    parseFrame ((packFrame f).map Sym.d) = some f ∧ parseFrame (((packFrame f).dropLast ++ [0]).map Sym.d) = none) := by
  decide +kernel

/-! ### Invariants: states that meet their hypotheses -/

/-- A hub with a command waiting. -/
def waiting : State := { hub with pending := [.vioLoss, .pllSlip] }

theorem waiting_inv : Inv waiting :=
  ⟨by unfold TickOk; decide +kernel, by unfold FloorsOk; decide +kernel, trivial, by unfold QueueOk; decide +kernel⟩

/-- The hypotheses of `Obligations.StepKeepsInv` and `Obligations.StepKeepsOtp` are met. -/
theorem witness_StepKeepsInv : ∃ s t : State, Inv s ∧ step s = .next t := ⟨waiting, _, waiting_inv, rfl⟩

/-- The hypotheses of `Obligations.StepKeepsOtp` are met by a state whose key slot 0 is programmed. -/
theorem witness_StepKeepsOtp : ∃ s t : State, Inv s ∧ s.rnd.otp.hash0 ≠ 0 ∧ step s = .next t :=
  ⟨uRnd (fun x => { x with otp := { hash0 := 5 } }) waiting, _,
    ⟨by unfold TickOk; decide +kernel, by unfold FloorsOk; decide +kernel, trivial,
      by unfold QueueOk; decide +kernel⟩, by decide +kernel, rfl⟩

/-- The hypothesis of `Obligations.ExecLeavesQueue` is met by a state in which a command waits. -/
theorem witness_ExecLeavesQueue : ∃ (c : Instr) (s t : State), s.pending ≠ [] ∧ exec c s = .next t :=
  ⟨.vioLoss, waiting, _, by decide +kernel, rfl⟩

/-- The hypothesis of `Obligations.OnlyPowerOnClearsTick` is met, by a command that clears the counter too. -/
theorem witness_OnlyPowerOnClearsTick : ∃ (c : Instr) (s t : State), s.sys.tick ≠ 0 ∧ exec c s = .next t ∧ t.sys.tick = 0 :=
  ⟨.powerOnReset 0, hub, _, by decide +kernel, rfl, by decide +kernel⟩

/-! ### Hypotheses that are met -/

set_option maxRecDepth 100000

/-- The hypotheses of `Obligations.IdleStepTicks` are met, and in each of its cases those of that case. -/
theorem witness_IdleStepTicks :
    (∃ (s : State), s.pending = [] ∧ s.sys.tickRunning = true ∧ s.sys.tick < 0xFFFFFFFFFFFFFFF) ∧
    (∃ (s : State), s.pending = [] ∧ s.sys.tickRunning = true ∧ s.sys.tick = 0xFFFFFFFFFFFFFFF) ∧
    (∃ (s : State), s.pending = [] ∧ s.sys.tickRunning = false) ∧
    (∃ (s : State), s.pending = [] ∧ s.rcd.recording = false ∧ s.rcd.closing = false ∧ s.sup.snapshot = none ∧
      s.upd.nextAt = none ∧ s.lko.ackDue = []) :=
  ⟨
    ⟨hub, by decide +kernel⟩,
    ⟨uSys (fun x => { x with tick := 0xFFFFFFFFFFFFFFF }) hub, by decide +kernel⟩,
    ⟨uSys (fun x => { x with tickRunning := false }) hub, by decide +kernel⟩,
    ⟨hub, by decide +kernel⟩⟩

/-- The hypotheses of `Obligations.FaultEventRaised` are met. -/
theorem witness_FaultEventRaised :
    ∃ (b : FBlk) (k : Nat) (s : State), Live s ∧ StaysContained s b k :=
    ⟨.sys, 0, hub, by decide +kernel⟩

/-- The hypotheses of `Obligations.FaultEventFatal` are met, and in each of its cases those of that case. -/
theorem witness_FaultEventFatal :
    (∃ (b : FBlk) (k : Nat) (s : State), Live s ∧ classOf b k = .fatal) ∧
    (∃ (b : FBlk) (k : Nat) (s : State), Live s ∧ classOf b k = .contained ∧ uPend (containedMask b) (bankGet s.fb b)
      = true) :=
  ⟨
    ⟨.sys, 1, hub, by decide +kernel⟩,
    ⟨.sys, 2, uFb (fun f => { f with sys := { f.sys with fst := 0x004 } }) hub, by decide +kernel⟩⟩

/-- The hypotheses of `Obligations.FatalIgnoresResetN` are met. -/
theorem witness_FatalIgnoresResetN :
    ∃ (s : State), s.sys.state = .fatal :=
    ⟨inState .fatal hub, by decide +kernel⟩

/-- The hypotheses of `Obligations.SupplyCommands` are met, and in each of its cases those of that case. -/
theorem witness_SupplyCommands :
    (∃ (rail : Nat) (s : State), s.sys.state ≠ .off ∧ rail < 3) ∧
    (∃ (s : State), s.sup.por = true ∧ s.sup.buck = true ∧ s.sys.state = .reset) ∧
    (∃ (s : State), s.sys.state ≠ .off) ∧
    (∃ (s : State), s.sys.state = .off) ∧
    (∃ (s : State), s.sys.state = .off) ∧
    (∃ (s : State), s.sys.state ≠ .off) ∧
    (∃ (s : State), s.sup.vsl5Ok = true ∧ Live s ∧ NoneContained s .slt ∧ (slotGet s 0).st ≠ .updating) ∧
    (∃ (s : State), s.sup.vsl5Ok = true ∧ Live s ∧ NoneContained s .slt ∧ ((∀ k, k < 4 → (slotGet s k).pins.vccOn =
      false))) ∧
    (∃ (s : State), s.sup.vsl5Ok = true ∧ Live s ∧ NoneContained s .slt ∧ ((∃ k, k < 4 ∧ (slotGet s k).pins.vccOn =
      true))) :=
  ⟨
    ⟨2, hub, by decide +kernel⟩,
    ⟨uSup (fun x => { x with por := true }) (inState .reset hub), by decide +kernel⟩,
    ⟨hub, by decide +kernel⟩,
    ⟨inState .off hub, by decide +kernel⟩,
    ⟨inState .off hub, by decide +kernel⟩,
    ⟨hub, by decide +kernel⟩,
    ⟨slot 3 { st := .ready } hub, by decide +kernel⟩,
    ⟨slot 3 { st := .ready } hub, by decide +kernel⟩,
    ⟨slot 3 { st := .ready, pins := { vccOn := true } } hub, by decide +kernel⟩⟩

/-- The hypotheses of `Obligations.ClockAndReset` are met, and in each of its cases those of that case. -/
theorem witness_ClockAndReset :
    (∃ (s : State), s.sys.state = .reset ∧ s.sup.por = false ∧ s.sys.pllLocked = false) ∧
    (∃ (s : State), s.sys.pllLocked = true ∧ Live s) ∧
    (∃ (s : State), s.sys.pllLocked = true ∧ Live s) ∧
    (∃ (s : State), Live s ∧ s.sup.por = false ∧ s.pins.vioOk = true ∧ (s.sys.state ≠ .reset ∨ s.rls.falling = false)) ∧
    (∃ (s : State), Live s ∧ s.sup.por = false ∧ s.pins.vioOk = true ∧ s.sys.state ≠ .reset) ∧
    (∃ (s : State), resetDone s = true ∧ s.fatal.latch = true) ∧
    (∃ (s : State), resetDone s = true ∧ s.fatal.latch = false ∧ s.rnd.otp.testClosed = true) ∧
    (∃ (s : State), resetDone s = true ∧ s.fatal.latch = false) ∧
    (∃ (s : State), resetDone s = true ∧ s.fatal.latch = false ∧ s.rnd.otp.testClosed = false) :=
  ⟨
    ⟨uSys (fun x => { x with pllLocked := false }) (inState .reset hub), by decide +kernel⟩,
    ⟨hub, by decide +kernel⟩,
    ⟨hub, by decide +kernel⟩,
    ⟨hub, by decide +kernel⟩,
    ⟨hub, by decide +kernel⟩,
    ⟨{ inState .reset hub with fatal := { latch := true } }, by decide +kernel⟩,
    ⟨inState .reset hub, by decide +kernel⟩,
    ⟨inState .reset hub, by decide +kernel⟩,
    ⟨uRnd (fun x => { x with otp := { x.otp with testClosed := false } }) (inState .reset hub), by decide +kernel⟩⟩

/-- The hypotheses of `Obligations.StartStages` are met, and in each of its cases those of that case. -/
theorem witness_StartStages :
    (∃ (s : State), bootEnds s = true ∧ NoneContained s .rnd ∧ s.pins.recov = true) ∧
    (∃ (s : State), bootEnds s = true ∧ NoneContained s .rnd ∧ s.pins.recov = false ∧ 8 ≤ s.start.streak) ∧
    (∃ (s : State), bootEnds s = true ∧ NoneContained s .rnd) ∧
    (∃ (s : State), s.sys.state = .rigging ∧ s.rls.replayFail = none ∧ s.rls.locked = true) ∧
    (∃ (n : Nat) (s : State), s.sys.state = .rigging ∧ s.rls.replayFail = some n ∧ s.rls.locked = false ∧ s.rls.frozen
      = false ∧ s.sup.pf = false ∧ n < 8 ∧ NoneContained s .rls) ∧
    (∃ (s : State), s.sys.state = .enumerate ∧ s.sys.alarm = false ∧ (∀ b ∈ allBlks, NoneContained s b)) :=
  ⟨
    ⟨uPins (fun x => { x with recov := true }) (uRnd (fun x => { x with testing := false, ready := true }) (inState
      .boot hub)), by decide +kernel⟩,
    ⟨uStart (fun x => { x with streak := 8 }) (uRnd (fun x => { x with testing := false, ready := true }) (inState
      .boot hub)), by decide +kernel⟩,
    ⟨uRnd (fun x => { x with testing := false, ready := true }) (inState .boot hub), by decide +kernel⟩,
    ⟨uRls (fun x => { x with locked := true }) (inState .rigging hub), by decide +kernel⟩,
    ⟨1, uRls (fun x => { x with replayFail := some 1 }) (inState .rigging hub), by decide +kernel⟩,
    ⟨inState .enumerate hub, by decide +kernel⟩⟩

/-- The hypotheses of `Obligations.PowerFailCommands` are met, and in each of its cases those of that case. -/
theorem witness_PowerFailCommands :
    (∃ (s : State), s.sup.pf = false ∧ s.sup.por = false ∧ s.sys.state ≠ .off ∧ NoneContained s .rls ∧ pfrArmed s =
      true ∧ s.log.next ≤ 0x3FFFFFFF) ∧
    (∃ (s : State), s.sup.pf = false ∧ s.sup.por = false ∧ s.sys.state ≠ .off ∧ NoneContained s .rls ∧ pfrArmed s =
      false) ∧
    (∃ (s : State), s.sup.pf = false ∧ s.sup.por = false ∧ s.sys.state ≠ .off ∧ NoneContained s .rls ∧ s.sys.state =
      .rising ∧ s.rls.rising = true) ∧
    (∃ (s : State), s.sup.pf = false ∧ s.sup.por = false ∧ s.sys.state ≠ .off ∧ NoneContained s .rls ∧ s.sys.state ≠
      .rising) ∧
    (∃ (s : State), s.sup.pf = true ∧ s.sup.pfrBusy = false) ∧
    (∃ (first : Nat) (second : Nat) (x : Snapshot) (s : State), s.sup.snapshot = some x ∧ s.sup.pfrBusy = true ∧ first
      ≤ 1 ∧ second ≤ 1 ∧ x.seq ≠ 0x3FFFFFFF) ∧
    (∃ (first : Nat) (second : Nat) (x : Snapshot) (s : State), s.sup.snapshot = some x ∧ s.sup.pfrBusy = true ∧ first
      ≤ 1 ∧ second ≤ 1 ∧ x.seq = 0x3FFFFFFF) ∧
    (∃ (first : Nat) (x : Snapshot) (s : State), s.sup.snapshot = some x ∧ s.sup.pfrBusy = true ∧ 8 < first) ∧
    (∃ (first : Nat) (second : Nat) (s : State), reserveErasing s = true ∧ first ≤ 1 ∧ second ≤ 1) :=
  ⟨
    ⟨uSup (fun x => { x with reserve := (reserveSectors hub).length }) hub, by decide +kernel⟩,
    ⟨hub, by decide +kernel⟩,
    ⟨uRls (fun x => { x with rising := true }) (inState .rising hub), by decide +kernel⟩,
    ⟨hub, by decide +kernel⟩,
    ⟨uSup (fun x => { x with pf := true }) hub, by decide +kernel⟩,
    ⟨1, 1, { seq := 4, tick := 0, boot := 0, site := 0, words := [] }, uSup (fun y =>
      { y with pfrBusy := true, snapshot := some { seq := 4, tick := 0, boot := 0, site := 0, words := [] } }) hub,
      by decide +kernel⟩,
    ⟨1, 1, { seq := 0x3FFFFFFF, tick := 0, boot := 0, site := 0, words := [] }, uSup (fun y =>
      { y with pfrBusy := true, snapshot := some { seq := 0x3FFFFFFF, tick := 0, boot := 0, site := 0, words := [] } })
      hub, by decide +kernel⟩,
    ⟨9, { seq := 4, tick := 0, boot := 0, site := 0, words := [] }, uSup (fun y =>
      { y with pfrBusy := true, snapshot := some { seq := 4, tick := 0, boot := 0, site := 0, words := [] } }) hub,
      by decide +kernel⟩,
    ⟨1, 1, hub, by decide +kernel⟩⟩

/-- The hypotheses of `Obligations.HoldAndAlarm` are met, and in each of its cases those of that case. -/
theorem witness_HoldAndAlarm :
    (∃ (s : State), mayCheck s = true) ∧
    (∃ (s : State), s.sup.checking = true) ∧
    (∃ (s : State), pastRigging s = true ∧ s.sup.pf = false ∧ holdOk s = false ∧ NoneContained s .sys) ∧
    (∃ (s : State), s.pins.vioOk = true ∧ s.sys.state ≠ .off ∧ s.sys.state ≠ .reset) ∧
    (∃ (p : Port) (s : State), WriteAdmitted s p 0x041) :=
  ⟨
    ⟨uSup (fun x => { x with holde := 200, hold := 200, reserve := 2 }) hub, by decide +kernel⟩,
    ⟨uSup (fun x => { x with checking := true }) hub, by decide +kernel⟩,
    ⟨hub, by decide +kernel⟩,
    ⟨hub, by decide +kernel⟩,
    ⟨.b, hub, by decide +kernel⟩⟩

/-- The hypotheses of `Obligations.CardDetect` are met, and in each of its cases those of that case. -/
theorem witness_CardDetect :
    (∃ (slot : Nat), slot < 4) ∧
    (∃ (slot : Nat), 4 ≤ slot) ∧
    (∃ (slot : Nat) (others : List Nat) (s : State), inSession (slotGet s slot) = true ∧ ((slot < 4 → NoneContained s
      .slt)) ∧ ((4 ≤ slot → MildSource (satGet s (slot / 4)) 0)) ∧ (slotGet s slot).pins.vccOn = true ∧ others = []) ∧
    (∃ (slot : Nat) (s : State), slot < 4 ∧ inSession (slotGet s slot) = false ∧ fallsNow s (slotGet s slot) = false ∧
      ((slotGet s slot).st ≠ .present ∨ (slotGet s slot).run = none)) ∧
    (∃ (slot : Nat) (r : Running) (o : Order) (s : State), slot < 4 ∧ (slotGet s slot).st = .present ∧ toBegin s slot
      [0x01, 0x09] = some r ∧ orderGet s r.oid = some o) ∧
    (∃ (slot : Nat) (s : State), 4 ≤ slot ∧ inSession (slotGet s slot) = false ∧ fallsNow s (slotGet s slot) = false) ∧
    (∃ (slot : Nat), (slot = 0 ∨ 4 ≤ slot)) ∧
    (∃ (slot : Nat), 1 ≤ slot ∧ slot < 4) :=
  ⟨
    ⟨3, by decide +kernel⟩,
    ⟨5, by decide +kernel⟩,
    ⟨0, [], slot 0 { st := .ready, pins := { vccOn := true } } hub, by decide +kernel⟩,
    ⟨3, slot 3 { st := .present } hub, by decide +kernel⟩,
    ⟨3, { opcode := 1, param := 0, length := 0, oid := 9 }, { order0 with slot := 3 }, slot 3
      { st := .present, run := some { opcode := 1, param := 0, length := 0, oid := 9 } } (order
      { order0 with slot := 3 } hub), by decide +kernel⟩,
    ⟨4, slot 4 { st := .present } (zg 1 zg0 hub), by decide +kernel⟩,
    ⟨0, by decide +kernel⟩,
    ⟨3, by decide +kernel⟩⟩

/-- The hypotheses of `Obligations.SlotTrips` are met, and in each of its cases those of that case. -/
theorem witness_SlotTrips :
    (∃ (slot : Nat) (good : Bool) (s : State), inSession (slotGet s slot) = true ∧ vccGood (slotGet s slot) good =
      true ∧ ((slot < 4 → NoneContained s .slt)) ∧ ((4 ≤ slot → MildSource (satGet s (slot / 4)) 0))) ∧
    (∃ (slot : Nat) (good : Bool) (s : State), inSession (slotGet s slot) = true ∧ vccGood (slotGet s slot) good =
      true ∧ ((slot < 4 → s.sup.vsl5Ok = true ∧ NoneContained s .slt)) ∧ ((4 ≤ slot → MildSource (satGet s (slot / 4))
      0))) ∧
    (∃ (slot : Nat) (s : State), (slotGet s slot).st = .rising ∧ (slotGet s slot).sd.polled = false ∧ fallsNow s
      (slotGet s slot) = false) ∧
    (∃ (slot : Nat) (s : State), (slotGet s slot).st = .rising ∧ (slotGet s slot).pins.vccOn = true ∧ (slotGet s
      slot).sd.polled = false ∧ ((slot < 4 → NoneContained s .slt))) ∧
    (∃ (slot : Nat) (s : State), (slotGet s slot).st = .falling ∧ slot < 4) ∧
    (∃ (slot : Nat) (code : Nat) (r : Running) (o : Order) (s : State), slot < 4 ∧ (slotGet s slot).st = .falling ∧
      (slotGet s slot).run = some r ∧ (slotGet s slot).sd.runDone = [] ∧ (slotGet s slot).fallStatus = some code ∧
      code ≠ 0x042 ∧ orderGet s r.oid = some o) ∧
    (∃ (slot : Nat) (s : State), slot < 4 ∧ (slotGet s slot).st = .falling ∧ (slotGet s slot).slowSeen = false ∧ Live
      s ∧ NoneContained s .slt) :=
  ⟨
    ⟨0, true, slot 0 { st := .ready, pins := { vccOn := true } } hub, by decide +kernel⟩,
    ⟨3, true, slot 3 { st := .busy, pins := { vccOn := true } } hub, by decide +kernel⟩,
    ⟨1, slot 1 { st := .rising, pins := { vccOn := true } } hub, by decide +kernel⟩,
    ⟨1, slot 1 { st := .rising, pins := { vccOn := true } } hub, by decide +kernel⟩,
    ⟨3, slot 3 { st := .falling, cls := 2 } hub, by decide +kernel⟩,
    ⟨1, 0x041, { opcode := 7, param := 0, length := 5, oid := 9 }, { order0 with slot := 1 }, slot 1
      { st := .falling, fallStatus := some 0x041, run := some { opcode := 7, param := 0, length := 5, oid := 9 } }
      (order { order0 with slot := 1 } hub), by decide +kernel⟩,
    ⟨3, slot 3 { st := .falling } hub, by decide +kernel⟩⟩

/-- The hypotheses of `Obligations.ClassTrials` are met, and in each of its cases those of that case. -/
theorem witness_ClassTrials :
    (∃ (slot : Nat) (a : Activation) (s : State), (slotGet s slot).act = some a ∧ (((slotGet s slot).st = .atr ∧
      (slotGet s slot).line.rx = []) ∨ ((slotGet s slot).st = .rising ∧ (slotGet s slot).cfg.kind = .iso ∧ a.waiting =
      false)) ∧ a.warm = false ∧ a.todo ≠ []) ∧
    (∃ (slot : Nat) (a : Activation) (s : State), (slotGet s slot).act = some a ∧ (((slotGet s slot).st = .atr ∧
      (slotGet s slot).line.rx = []) ∨ ((slotGet s slot).st = .rising ∧ (slotGet s slot).cfg.kind = .iso ∧ a.waiting =
      false)) ∧ (a.warm = true ∨ a.todo = [])) ∧
    (∃ (slot : Nat) (c : Nat) (rest : List Nat) (a : Activation) (s : State), (slotGet s slot).st = .rising ∧ (slotGet
      s slot).act = some a ∧ a.waiting = true ∧ a.todo = c :: rest) :=
  ⟨
    ⟨1, { todo := [2] }, slot 1 { st := .atr, act := some { todo := [2] } } hub, by decide +kernel⟩,
    ⟨1, { anyAtr := true }, slot 1 { st := .atr, act := some { anyAtr := true } } hub, by decide +kernel⟩,
    ⟨1, 3, [], { todo := [3], waiting := true }, slot 1
      { st := .rising, act := some { todo := [3], waiting := true } } hub, by decide +kernel⟩⟩

/-- The hypotheses of `Obligations.RailsRise` are met, and in each of its cases those of that case. -/
theorem witness_RailsRise :
    (∃ (rail : Nat) (s : State), s.rls.rising = true ∧ s.rls.frozen = false ∧ rail < 8 ∧ (rigRail s rail).isSome =
      true ∧ (railGet s rail).state = 2 ∧ nextRiseStep s = some (railStep s rail)) ∧
    (∃ (rail : Nat) (s : State), s.rls.rising = true ∧ s.rls.frozen = false ∧ rail < 8 ∧ (railGet s rail).state = 3 ∧
      railEn s rail = true ∧ Live s ∧ NoneContained s .rls) :=
  ⟨
    ⟨0, uRls (fun x => { x with rising := true }) (rail 0 { state := 2 } (rail 1 { state := 2 } hub)),
      by decide +kernel⟩,
    ⟨1, uPins (fun x => { x with en := 3 }) (uRls (fun x => { x with rising := true }) (rail 1 { state := 3 } hub)),
      by decide +kernel⟩⟩

/-- The hypotheses of `Obligations.RailsFall` are met, and in each of its cases those of that case. -/
theorem witness_RailsFall :
    (∃ (byWindow : Bool) (k : Nat) (s : State), s.rls.falling = true ∧ s.rls.frozen = false ∧ Live s ∧ NoneContained s
      .rls ∧ (byWindow = true ∨ offLevels s = true) ∧ topStep s = some k ∧ byWindow = true) ∧
    (∃ (byWindow : Bool) (k : Nat) (s : State), s.rls.falling = true ∧ s.rls.frozen = false ∧ Live s ∧ NoneContained s
      .rls ∧ (byWindow = true ∨ offLevels s = true) ∧ topStep s = some k ∧ byWindow = false) ∧
    (∃ (byWindow : Bool) (s : State), s.rls.falling = true ∧ s.rls.frozen = false ∧ Live s ∧ NoneContained s .rls ∧
      (byWindow = true ∨ offLevels s = true) ∧ topStep s = none ∧ s.sys.state = .rising) ∧
    (∃ (byWindow : Bool) (s : State), s.rls.falling = true ∧ s.rls.frozen = false ∧ Live s ∧ NoneContained s .rls ∧
      (byWindow = true ∨ offLevels s = true) ∧ topStep s = none ∧ s.sys.state = .reset ∧ s.start.resetHold =
      .shutdown) ∧
    (∃ (k : Nat) (s : State), s.rls.warning = true ∧ s.rls.frozen = false ∧ topStep s = some k) :=
  ⟨
    ⟨true, 1, uPins (fun x => { x with en := 3 }) (uRls (fun x => { x with falling := true }) hub), by decide +kernel⟩,
    ⟨false, 1, uPins (fun x => { x with en := 3 }) (uRls (fun x => { x with falling := true, step := 2 }) hub),
      by decide +kernel⟩,
    ⟨true, uPins (fun x => { x with en := 0 }) (uRls (fun x => { x with falling := true }) (inState .rising hub)),
      by decide +kernel⟩,
    ⟨true, uStart (fun x => { x with resetHold := .shutdown }) (uPins (fun x => { x with en := 0 }) (uRls (fun x =>
      { x with falling := true }) (inState .reset hub))), by decide +kernel⟩,
    ⟨1, uPins (fun x => { x with en := 3 }) (uRls (fun x => { x with warning := true }) hub), by decide +kernel⟩⟩

/-- The hypotheses of `Obligations.RailTrims` are met, and in each of its cases those of that case. -/
theorem witness_RailTrims :
    (∃ (p : Port) (rail : Nat) (data : Word) (s : State), rail < 8 ∧ WriteAdmitted s p (0x418 + rail) ∧ trimRefused s
      rail (data.toNat % 256) = 0 ∧ NotReplayed s ∧ data.toNat % 256 ≠ 0) ∧
    (∃ (rail : Nat) (s : State), rail < 8 ∧ (railGet s rail).trimMag ≠ 0 ∧ Live s ∧ NoneContained s .rls) ∧
    (∃ (rail : Nat) (s : State), (8 ≤ rail ∨ (railGet s rail).trimMag = 0)) :=
  ⟨
    ⟨.a, 0, 0x105, rail 0 { state := 4, good := true } (uRig (fun x =>
      { x with running := { rig0 with rails := [(0, some { goodMax := 900, margin := true })] } }) hub),
      by decide +kernel⟩,
    ⟨7, rail 7 { trimMag := 3, targetMag := 5 } hub, by decide +kernel⟩,
    ⟨2, hub, by decide +kernel⟩⟩

/-- The hypotheses of `Obligations.RailRelease` are met, and in each of its cases those of that case. -/
theorem witness_RailRelease :
    (∃ (p : Port) (s : State), WriteAdmitted s p 0x402 ∧ keyHeld s p 0x402 = false) ∧
    (∃ (p : Port) (s : State), WriteAdmitted s p 0x402 ∧ keyHeld s p 0x402 = true ∧ releaseRefused s = 0 ∧
      s.rls.released = none) ∧
    (∃ (p : Port) (s : State), WriteAdmitted s p 0x402 ∧ WriteAdmitted s p.other 0x402 ∧ keyHeld s p 0x402 = true ∧
      keyHeld s p.other 0x402 = true ∧ releaseRefused s = 0 ∧ s.rls.released = none) ∧
    (∃ (p : Port) (s : State), WriteAdmitted s p 0x402 ∧ keyHeld s p 0x402 = true ∧ releaseRefused s ≠ 0 ∧
      s.rls.released = none) :=
  ⟨
    ⟨.a, hub, by decide +kernel⟩,
    ⟨.b, port .b (fun x => { x with keys := [0x402] }) hub, by decide +kernel⟩,
    ⟨.a, port .b (fun x => { x with keys := [0x402] }) (port .a (fun x => { x with keys := [0x402] }) hub),
      by decide +kernel⟩,
    ⟨.a, port .a (fun x => { x with keys := [0x402] }) (uSup (fun x => { x with pf := true }) hub), by decide +kernel⟩⟩

/-- The hypotheses of `Obligations.ModuleRails` are met, and in each of its cases those of that case. -/
theorem witness_ModuleRails :
    (∃ (sat : Nat) (h : Bool) (rx : Arrival) (s : State), TakesCmd (satGet s sat) h 0x06 [1] rx ∧ (satGet s
      sat).cfg.grail0 = true) ∧
    (∃ (sat : Nat) (h : Bool) (rx : Arrival) (s : State), TakesCmd (satGet s sat) h 0x06 [1] rx ∧ (satGet s
      sat).cfg.grail0 = false ∧ (satGet s sat).cfg.grail1 = true) ∧
    (∃ (sat : Nat) (h : Bool) (rx : Arrival) (s : State), TakesCmd (satGet s sat) h 0x06 [0] rx ∧ ((satGet s
      sat).cfg.grail0 = true ∨ (satGet s sat).cfg.grail1 = true)) ∧
    (∃ (sat : Nat) (h : Bool) (action : Nat) (rx : Arrival) (s : State), TakesCmd (satGet s sat) h 0x06 [byte action]
      rx ∧ action ≤ 1 ∧ (satGet s sat).cfg.grail0 = false ∧ (satGet s sat).cfg.grail1 = false) ∧
    (∃ (sat : Nat) (s : State), (satGet s sat).gap = true) ∧
    (∃ (sat : Nat) (rail : Nat) (s : State), ((rail = 0 ∧ ((satGet s sat).grail0 = 1 ∨ (satGet s sat).grail0 = 2)) ∨
      (rail = 1 ∧ ((satGet s sat).grail1 = 1 ∨ (satGet s sat).grail1 = 2))) ∧ MildSource (satGet s sat) 2 ∧ rail = 0) ∧
    (∃ (sat : Nat) (rail : Nat) (s : State), ((rail = 0 ∧ ((satGet s sat).grail0 = 1 ∨ (satGet s sat).grail0 = 2)) ∨
      (rail = 1 ∧ ((satGet s sat).grail1 = 1 ∨ (satGet s sat).grail1 = 2))) ∧ MildSource (satGet s sat) 2 ∧ rail = 1) ∧
    (∃ (sat : Nat) (s : State), (satGet s sat).lowering = true) :=
  ⟨
    ⟨1, true, { pos := 1 }, zg 1 { zg0 with cfg := { grail0 := true, grail1 := true } } hub, by decide +kernel⟩,
    ⟨1, true, { pos := 1 }, zg 1 { zg0 with cfg := { grail1 := true } } hub, by decide +kernel⟩,
    ⟨1, true, { pos := 1 }, zg 1
      { zg0 with gen0 := true, gen1 := true, grail1 := 2, cfg := { grail0 := true, grail1 := true } } hub,
      by decide +kernel⟩,
    ⟨1, true, 1, { pos := 1 }, zg 1 zg0 hub, by decide +kernel⟩,
    ⟨1, zg 1 { zg0 with gap := true } hub, by decide +kernel⟩,
    ⟨1, 0, zg 1 { zg0 with grail0 := 1 } hub, by decide +kernel⟩,
    ⟨1, 1, zg 1 { zg0 with grail1 := 2 } hub, by decide +kernel⟩,
    ⟨1, zg 1 { zg0 with lowering := true, grail0 := 2, gen0 := true } hub, by decide +kernel⟩⟩

/-- The hypotheses of `Obligations.SatelliteSupplies` are met, and in each of its cases those of that case. -/
theorem witness_SatelliteSupplies :
    (∃ (sat : Nat) (s : State), satHears (satGet s sat) = true) ∧
    (∃ (sat : Nat) (s : State), 1 ≤ sat ∧ (satGet s sat).vinLost = false) ∧
    (∃ (sat : Nat) (s : State), (satGet s sat).vinLost = true) ∧
    (∃ (sat : Nat), 1 ≤ sat) ∧
    (∃ (sat : Nat) (slot : Nat) (s : State), 1 ≤ sat ∧ inSession (slotGet s (4 * sat + slot % 4)) = true ∧ MildSource
      (satGet s sat) 0) ∧
    (∃ (sat : Nat) (s : State), (satGet s sat).holdLow = false) ∧
    (∃ (bit : Nat), 6 ≤ bit ∧ bit ≤ 8) ∧
    (∃ (rcv : Bool), rcv = true) :=
  ⟨
    ⟨1, zg 1 zg0 hub, by decide +kernel⟩,
    ⟨1, zg 1 { zg0 with cond := .asleep, gen0 := true } hub, by decide +kernel⟩,
    ⟨1, zg 1 { zg0 with vinLost := true } hub, by decide +kernel⟩,
    ⟨3, by decide +kernel⟩,
    ⟨1, 3, slot 7 { st := .ready } (zg 1 zg0 hub), by decide +kernel⟩,
    ⟨1, zg 1 zg0 hub, by decide +kernel⟩,
    ⟨8, by decide +kernel⟩,
    ⟨true, by decide +kernel⟩⟩

/-- The hypotheses of `Obligations.ScanSamples` are met, and in each of its cases those of that case. -/
theorem witness_ScanSamples :
    (∃ (code : Nat) (c : Nat) (s : State), s.mea.running = true ∧ s.mea.list[s.mea.scanPos]? = some c ∧ s.lko.rules =
      [] ∧ s.mea.nextList = none ∧ s.rls.scanFails = [] ∧ s.sys.state ≠ .fatal ∧ 8 ≤ c ∧ (c ≠ 0x0E ∨ code ≤ 0x2D0) ∧ c
      = 0x0B) ∧
    (∃ (code : Nat) (c : Nat) (s : State), s.mea.running = true ∧ s.mea.list[s.mea.scanPos]? = some c ∧ s.lko.rules =
      [] ∧ s.mea.nextList = none ∧ s.rls.scanFails = [] ∧ s.sys.state ≠ .fatal ∧ 8 ≤ c ∧ (c ≠ 0x0E ∨ code ≤ 0x2D0) ∧ c
      = 0x0C) ∧
    (∃ (code : Nat) (c : Nat) (s : State), s.mea.running = true ∧ s.mea.list[s.mea.scanPos]? = some c ∧ s.lko.rules =
      [] ∧ s.mea.nextList = none ∧ s.rls.scanFails = [] ∧ s.sys.state ≠ .fatal ∧ 8 ≤ c ∧ (c ≠ 0x0E ∨ code ≤ 0x2D0) ∧
      0x10 ≤ c ∧ c < 0x14) ∧
    (∃ (code : Nat) (c : Nat) (s : State), s.mea.running = true ∧ s.mea.list[s.mea.scanPos]? = some c ∧ s.lko.rules =
      [] ∧ s.mea.nextList = none ∧ s.rls.scanFails = [] ∧ s.sys.state ≠ .fatal ∧ 8 ≤ c ∧ (c ≠ 0x0E ∨ code ≤ 0x2D0) ∧
      0x14 ≤ c ∧ c < 0x18) ∧
    (∃ (code : Nat) (c : Nat) (s : State), s.mea.running = true ∧ s.mea.list[s.mea.scanPos]? = some c ∧ s.lko.rules =
      [] ∧ s.mea.nextList = none ∧ s.rls.scanFails = [] ∧ s.sys.state ≠ .fatal ∧ 8 ≤ c ∧ (c ≠ 0x0E ∨ code ≤ 0x2D0) ∧
      s.mea.scanPos + 1 < s.mea.list.length) ∧
    (∃ (code : Nat) (c : Nat) (s : State), s.mea.running = true ∧ s.mea.list[s.mea.scanPos]? = some c ∧ s.lko.rules =
      [] ∧ s.mea.nextList = none ∧ s.rls.scanFails = [] ∧ s.sys.state ≠ .fatal ∧ 8 ≤ c ∧ (c ≠ 0x0E ∨ code ≤ 0x2D0) ∧
      s.mea.list.length = s.mea.scanPos + 1) ∧
    (∃ (c : Nat) (s : State), s.mea.running = true ∧ s.mea.list[s.mea.scanPos]? = some c ∧ s.lko.rules = [] ∧
      s.mea.nextList = none ∧ s.sys.state ≠ .fatal ∧ c < 8) ∧
    (∃ (c : Nat) (s : State), s.mea.running = true ∧ s.mea.list[s.mea.scanPos]? = some c ∧ s.lko.rules = [] ∧
      s.mea.nextList = none ∧ s.rls.scanFails = [] ∧ Live s ∧ NoneContained s .mea ∧ 8 ≤ c) :=
  ⟨
    ⟨1, 0x0B, uMea (fun x => { x with running := true, list := [0x0B, 3] }) hub, by decide +kernel⟩,
    ⟨1, 0x0C, uMea (fun x => { x with running := true, list := [0x0C] }) hub, by decide +kernel⟩,
    ⟨1, 0x10, uMea (fun x => { x with running := true, list := [0x10, 3] }) hub, by decide +kernel⟩,
    ⟨1, 0x14, uMea (fun x => { x with running := true, list := [0x14, 3] }) hub, by decide +kernel⟩,
    ⟨1, 0x0B, uMea (fun x => { x with running := true, list := [0x0B, 3] }) hub, by decide +kernel⟩,
    ⟨1, 0x0C, uMea (fun x => { x with running := true, list := [0x0C] }) hub, by decide +kernel⟩,
    ⟨1, uMea (fun x => { x with running := true, list := [1, 0x0B] }) hub, by decide +kernel⟩,
    ⟨0x0B, uMea (fun x => { x with running := true, list := [0x0B] }) hub, by decide +kernel⟩⟩

/-- The hypotheses of `Obligations.Sweeps` are met, and in each of its cases those of that case. -/
theorem witness_Sweeps :
    (∃ (s : State), (s.sys.state = .run ∨ s.sys.state = .standby) ∧ s.mea.open_ = false) ∧
    (∃ (sat : Nat) (num : Nat) (rx : Arrival) (s : State), TakesFrame (satGet s sat) (toSat rx false 3 (arg2 num)) rx) ∧
    (∃ (pos : Nat) (num : Nat) (words : List Word) (rx : Arrival) (s : State), HubTakes s (posTether pos) (upFrame pos
      false 3 (arg2 num ++ packWords 5 (words ++ [0]))) rx ∧ s.mea.open_ = true ∧ num = s.mea.curNum % 65536 ∧ (tblGet
      0 s.mea.queried pos = 1 ∨ tblGet 0 s.mea.queried pos = 2)) ∧
    (∃ (pos : Nat) (num : Nat) (words : List Word) (rx : Arrival) (s : State), HubTakes s (posTether pos) (upFrame pos
      false 3 (arg2 num ++ packWords 5 (words ++ [0]))) rx ∧ (s.mea.open_ = false ∨ num ≠ s.mea.curNum % 65536 ∨
      (tblGet 0 s.mea.queried pos ≠ 1 ∧ tblGet 0 s.mea.queried pos ≠ 2))) ∧
    (∃ (pos : Nat) (num : Nat) (words : List Word) (rx : Arrival) (s : State), ringLive s = true ∧ (rigTether s
      (posTether pos)).isSome = true ∧ posTether pos < 4 ∧ arrivesBad (frameOk (upFrame pos false 3 (arg2 num ++
      packWords 5 (words ++ [0])))) rx = true) ∧
    (∃ (pos : Nat) (s : State), (rigTether s (posTether pos)).isSome = false) ∧
    (∃ (pos : Nat) (s : State), ringLive s = true ∧ s.mea.open_ = true ∧ tblGet 0 s.mea.queried pos = 1 ∧ pos < 256 ∧
      s.sys.tick + 400000 ≤ s.mea.openAt + s.mea.sweepMs * 800000) ∧
    (∃ (s : State), s.sys.state = .run ∧ s.mea.open_ = true ∧ sweepOver s = true ∧ s.lko.rules = []) ∧
    (∃ (p : Port) (s : State), WriteAdmitted s p 0x4BD) :=
  ⟨
    ⟨view 1 { state := .active } (inState .standby hub), by decide +kernel⟩,
    ⟨1, 1, { pos := 1 }, zg 1 zg0 hub, by decide +kernel⟩,
    ⟨1, 4, List.replicate 19 0x2FF, { pos := 1 }, uMea (fun x =>
      { x with open_ := true, curNum := 4, queried := [(1, 2)] }) hub, by decide +kernel⟩,
    ⟨2, 4, List.replicate 19 0x2FF, { pos := 1 }, uMea (fun x =>
      { x with open_ := true, curNum := 5, queried := [(2, 1)] }) hub, by decide +kernel⟩,
    ⟨2, 4, [], { pos := 2, raw := some [] }, hub, by decide +kernel⟩,
    ⟨2, uRig (fun x => { x with running := { rig0 with tethers := [] } }) hub, by decide +kernel⟩,
    ⟨1, uMea (fun x => { x with open_ := true, openAt := 5000000, queried := [(1, 1)] }) hub, by decide +kernel⟩,
    ⟨uMea (fun x =>
      { x with open_ := true, filling := { num := 3, rows := [(1, some (sweepRow 2 [])), (2, some (sweepRow 0 (List.replicate 19 0x2FF)))] } })
      hub, by decide +kernel⟩,
    ⟨.b, hub, by decide +kernel⟩⟩

/-- The hypotheses of `Obligations.ReadFrames` are met, and in each of its cases those of that case. -/
theorem witness_ReadFrames :
    (∃ (p : Port) (addr : Addr) (data : Word) (crc : Byte) (n : Nat) (s : State), Admitted s p false addr.toNat ∧
      NotReplayed s ∧ GoodCrc 0 addr data crc ∧ groupOf addr.toNat = some (addr.toNat, n)) ∧
    (∃ (p : Port) (addr : Addr) (s : State), Admitted s p false addr.toNat ∧ NotReplayed s ∧ accOf addr.toNat = .rc ∧
      declaredSlot s (portGet s p).sltSel = true ∧ isLocal (portGet s p).sltSel = true) ∧
    (∃ (p : Port) (s : State), Admitted s p false 0x090 ∧ NotReplayed s) ∧
    (∃ (p : Port) (addr : Addr) (n : Nat) (crc : Byte) (s : State), GoodCrc 2 addr (toWord n) crc ∧ heard s p = true ∧
      (s.sys.state = .run ∨ s.sys.state = .standby) ∧ 1 ≤ n ∧ addr.toNat + n ≤ 0xF00 ∧ (addr.toNat + n ≤ 0x1C0 ∨ 0x200
      ≤ addr.toNat)) ∧
    (∃ (p : Port) (addr : Addr) (n : Nat) (crc : Byte) (s : State), GoodCrc 2 addr (toWord n) crc ∧ heard s p = true ∧
      (s.sys.state = .run ∨ s.sys.state = .standby) ∧ (n = 0 ∨ 0x1000 < addr.toNat + n) ∧ s.rnd.otp.testClosed = true) :=
  ⟨
    ⟨.a, 0x090, 1, goodCrc 0 0x090 1, 3, hub, by decide +kernel⟩,
    ⟨.a, 0x209, slot 1 { removals := 4 } (port .a (fun x => { x with sltSel := 1 }) hub), by decide +kernel⟩,
    ⟨.b, hub, by decide +kernel⟩,
    ⟨.a, 0xEFF, 1, goodCrc 2 0xEFF 1, hub, by decide +kernel⟩,
    ⟨.a, 0xFFF, 2, goodCrc 2 0xFFF 2, hub, by decide +kernel⟩⟩

/-- The hypotheses of `Obligations.WriteFrames` are met, and in each of its cases those of that case. -/
theorem witness_WriteFrames :
    (∃ (p : Port) (addr : Addr) (data : Word) (crc : Byte) (s : State) (u : State), WriteAdmitted s p addr.toNat ∧
      NotReplayed s ∧ GoodCrc 1 addr data crc ∧ addr.toNat < 0xF00 ∧ writeWord p addr.toNat data.toNat (takeSdi p 32
      (sdiHead 1 addr.toNat data.toNat) s) = (0, u) ∧ presetDone s p addr.toNat data.toNat = false ∧ shadowWord
      addr.toNat = false ∧ (portGet u p).answering = true) ∧
    (∃ (p : Port) (data : Word) (crc : Byte) (s : State), WriteAdmitted s p 0x084 ∧ GoodCrc 1 0x084 data crc) ∧
    (∃ (p : Port) (addr : Addr) (data : Word) (crc : Byte) (s : State), Admitted s p true addr.toNat ∧ NotReplayed s ∧
      GoodCrc 1 addr data crc ∧ addr.toNat < 0xF00 ∧ (accOf addr.toNat = .ro ∨ accOf addr.toNat = .rc ∨ accOf
      addr.toNat = .reserved ∨ accOf addr.toNat = .frx)) ∧
    (∃ (p : Port) (addr : Addr) (data : Word) (crc : Byte) (s : State), heard s p = true ∧ s.rnd.otp.testClosed = true
      ∧ (¬ GoodCrc 1 addr data crc)) ∧
    (∃ (p : Port) (addr : Addr) (words : List Word) (crc : Byte) (crc16 : BitVec 16) (s : State), GoodCrc 3 addr
      (toWord words.length) crc ∧ crc16Words words = crc16.toNat ∧ heard s p = true ∧ s.rnd.otp.testClosed = true ∧
      burstRights s.sys.state true (burstAddrs addr.toNat words.length) = none ∧ words ≠ [] ∧ addr.toNat +
      words.length ≤ 0x1000 ∧ addr.toNat < 0xF00 ∧ burstApply p (burstOrder ((burstAddrs addr.toNat words.length).zip
      words)) (burstSeen p addr words crc16 s) = none) ∧
    (∃ (p : Port) (words : List Word) (crc : Byte) (crc16 : BitVec 16) (s : State), WriteAdmitted s p 0x084 ∧
      words.length = 2 ∧ GoodCrc 3 0x084 2 crc ∧ crc16Words words = crc16.toNat ∧ ((s.sys.state = .run ∨ s.sys.state =
      .standby))) ∧
    (∃ (p : Port) (words : List Word) (crc : Byte) (crc16 : BitVec 16) (s : State), WriteAdmitted s p 0x084 ∧
      words.length = 2 ∧ GoodCrc 3 0x084 2 crc ∧ crc16Words words ≠ crc16.toNat ∧ Live s ∧ ((s.sys.state = .run ∨
      s.sys.state = .standby))) ∧
    (∃ (p : Port) (burst : Bool) (s : State), heard s p = true ∧ burst = true ∧ s.sys.state ≠ .fatal) :=
  ⟨
    ⟨.a, 0x084, 5, goodCrc 1 0x084 5, hub, (writeWord .a 0x084 5 (takeSdi .a 32 (sdiHead 1 0x084 5) hub)).2,
      by decide +kernel⟩,
    ⟨.a, 1, goodCrc 1 0x084 1, hub, by decide +kernel⟩,
    ⟨.a, 0x080, 1, goodCrc 1 0x080 1, hub, by decide +kernel⟩,
    ⟨.b, 0, 0x001, 0, hub, by decide +kernel⟩,
    ⟨.a, 0x080, [1], goodCrc 3 0x080 1, goodCrc16 [1], hub, by decide +kernel⟩,
    ⟨.a, [0x3FF, 0x3FF], goodCrc 3 0x084 2, goodCrc16 [0x3FF, 0x3FF], hub, by decide +kernel⟩,
    ⟨.a, [0x3FF, 0x3FF], goodCrc 3 0x084 2, goodCrc16 [0x3FF, 0x3FF] + 1, hub, by decide +kernel⟩,
    ⟨.b, true, hub, by decide +kernel⟩⟩

/-- The hypotheses of `Obligations.GroupWrites` are met, and in each of its cases those of that case. -/
theorem witness_GroupWrites :
    (∃ (p : Port) (addr : Addr) (s : State), WriteAdmitted s p addr.toNat ∧ s.sys.state ≠ .replay ∧ shadowWord
      addr.toNat = true ∧ ((addr.toNat = 0x221 → declaredSlot s (portGet s p).sltSel = true))) ∧
    (∃ (p : Port) (w1 : Word) (w2 : Word) (x : Shadow) (s : State), WriteAdmitted s p 0x590 ∧ (portGet s p).shadow =
      some x ∧ x.base = 0x590 ∧ x.inst = 0 ∧ tblGet none x.words 0x591 = some w1 ∧ tblGet none x.words 0x592 = some
      w2) :=
  ⟨
    ⟨.a, 0x591, hub, by decide +kernel⟩,
    ⟨.a, 1, 2, { base := 0x590, inst := 0, words := [(0x591, some 1), (0x592, some 2)] }, port .a (fun y =>
      { y with shadow := some { base := 0x590, inst := 0, words := [(0x591, some 1), (0x592, some 2)] } }) hub,
      by decide +kernel⟩⟩

/-- The hypotheses of `Obligations.HeartbeatsAndResets` are met, and in each of its cases those of that case. -/
theorem witness_HeartbeatsAndResets :
    (∃ (p : Port) (s : State), WriteAdmitted s p 0x088 ∧ (portGet s p).presence ≠ .absent) ∧
    (∃ (p : Port) (s : State), (s.sys.state = .run ∨ s.sys.state = .standby) ∧ windowOver s p = true ∧ NoneContained s
      .mor) ∧
    (∃ (p : Port) (s : State), (s.sys.state = .run ∨ s.sys.state = .standby) ∧ windowOver s p = true ∧ windowOver s
      p.other = true ∧ NoneContained s .mor) ∧
    (∃ (p : Port) (s : State), windowOver s p = false ∧ windowOver s p.other = false) ∧
    (∃ (p : Port) (s : State), WriteAdmitted s p 0x08F ∧ keyHeld s p 0x08F = false) ∧
    (∃ (p : Port) (s : State), WriteAdmitted s p 0x08F ∧ keyHeld s p 0x08F = true ∧ windowOver s p = false ∧
      s.sys.state ≠ .recovery) ∧
    (∃ (p : Port) (s : State), WriteAdmitted s p 0x043 ∧ keyHeld s p 0x043 = true ∧ s.sup.pfrBusy = false ∧
      s.sys.state ≠ .replay) ∧
    (∃ (p : Port) (s : State), WriteAdmitted s p 0x043 ∧ keyHeld s p 0x043 = true ∧ s.sup.pfrBusy = true) :=
  ⟨
    ⟨.a, port .a (fun x => { x with presence := .present }) hub, by decide +kernel⟩,
    ⟨.a, uMor (fun x => { x with holder := [(0, some .a), (3, some .b)], claims := [(4, some .a)] }) (uSys (fun x =>
      { x with tick := 5000000000 }) (port .a (fun x => { x with presence := .present }) (order
      { order0 with stage := .waiting } (order { order0 with id := 4, stage := .dispatched } hub)))),
      by decide +kernel⟩,
    ⟨.b, uSys (fun x => { x with tick := 5000000000 }) (port .a (fun x => { x with presence := .present }) (port .b
      (fun x => { x with presence := .present }) hub)), by decide +kernel⟩,
    ⟨.b, port .a (fun x => { x with presence := .present, hbStart := 5000000 }) hub, by decide +kernel⟩,
    ⟨.a, hub, by decide +kernel⟩,
    ⟨.b, port .b (fun x => { x with keys := [0x08F] }) hub, by decide +kernel⟩,
    ⟨.a, port .a (fun x => { x with keys := [0x043] }) hub, by decide +kernel⟩,
    ⟨.a, port .a (fun x => { x with keys := [0x043] }) (uSup (fun x => { x with pfrBusy := true }) hub),
      by decide +kernel⟩⟩

/-- The hypotheses of `Obligations.MooringsAndClaims` are met, and in each of its cases those of that case. -/
theorem witness_MooringsAndClaims :
    (∃ (p : Port) (n : Nat) (s : State), n < 16 ∧ Admitted s p false (0x0C0 + n) ∧ NotReplayed s ∧ isAbsent s p =
      false) ∧
    (∃ (p : Port) (n : Nat) (s : State), n < 16 ∧ Admitted s p false (0x0C0 + n) ∧ NotReplayed s ∧ isAbsent s p =
      true) ∧
    (∃ (n : Nat) (s : State), n < 16 ∧ Admitted s .a false (0x0C0 + n) ∧ Admitted s .b false (0x0C0 + n) ∧ NotReplayed
      s ∧ isAbsent s .a = false ∧ isAbsent s .b = false ∧ mooringOf s n = none) ∧
    (∃ (p : Port) (n : Nat) (s : State), n < 16 ∧ WriteAdmitted s p (0x0C0 + n) ∧ mooringOf s n ≠ some p.other) ∧
    (∃ (p : Port) (n : Nat) (s : State), n < 16 ∧ WriteAdmitted s p (0x0C0 + n) ∧ mooringOf s n = some p.other) ∧
    (∃ (p : Port) (n : Nat) (s : State), n < 16 ∧ WriteAdmitted s p (0x0C0 + n) ∧ Admitted s p.other false (0x0C0 + n)
      ∧ NotReplayed s ∧ isAbsent s p.other = false ∧ mooringOf s n = some p) ∧
    (∃ (p : Port) (s : State), WriteAdmitted s p 0x0D4) ∧
    (∃ (p : Port) (data : Word) (s : State), WriteAdmitted s p 0x0E0 ∧ claimRefusal s p data.toNat = 0) ∧
    (∃ (p : Port) (data : Word) (s : State), WriteAdmitted s p 0x0E0 ∧ claimRefusal s p data.toNat ≠ 0) ∧
    (∃ (p : Port) (data : Word) (s : State), WriteAdmitted s p 0x0E1 ∧ freeRefusal s p data.toNat = 0) ∧
    (∃ (p : Port) (s : State), WriteAdmitted s p 0x0F0 ∧ keyHeld s p 0x0F0 = true ∧ isAbsent s p.other = true) ∧
    (∃ (p : Port) (s : State), WriteAdmitted s p 0x0F0 ∧ keyHeld s p 0x0F0 = true ∧ isAbsent s p.other = false) :=
  ⟨
    ⟨.a, 15, hub, by decide +kernel⟩,
    ⟨.a, 0, port .a (fun x => { x with presence := .absent }) hub, by decide +kernel⟩,
    ⟨15, hub, by decide +kernel⟩,
    ⟨.b, 0, uMor (fun x => { x with holder := [(0, some .b)] }) hub, by decide +kernel⟩,
    ⟨.b, 3, uMor (fun x => { x with holder := [(3, some .a)] }) hub, by decide +kernel⟩,
    ⟨.a, 3, uMor (fun x => { x with holder := [(3, some .a)] }) hub, by decide +kernel⟩,
    ⟨.a, uMor (fun x => { x with holder := [(0, some .a), (3, some .b)] }) hub, by decide +kernel⟩,
    ⟨.a, 4, uMor (fun x => { x with claims := [] }) hub, by decide +kernel⟩,
    ⟨.a, 4, uMor (fun x => { x with claims := [(4, some .b)] }) hub, by decide +kernel⟩,
    ⟨.b, 4, uMor (fun x => { x with claims := [(4, some .b)] }) hub, by decide +kernel⟩,
    ⟨.a, port .b (fun x => { x with presence := .absent }) (port .a (fun x => { x with keys := [0x0F0] }) (uSys (fun x
      => { x with alarmReq := ⟨false, true⟩, alarm := true }) hub)), by decide +kernel⟩,
    ⟨.a, port .a (fun x => { x with keys := [0x0F0] }) hub, by decide +kernel⟩⟩

/-- The hypotheses of `Obligations.OrderPushes` are met, and in each of its cases those of that case. -/
theorem witness_OrderPushes :
    (∃ (p : Port) (s : State), WriteAdmitted s p 0x108 ∧ pushRefusal s p = 0 ∧ inFlight s p (pushedOrder s p).tag =
      none ∧ inWindow s p (pushedOrder s p).tag = none ∧ ((pushedOrder s p).opcode = 0 ∨ 0x14 ≤ (pushedOrder s
      p).opcode) ∧ (∀ o ∈ s.ord.orders, o.id ≠ s.ord.nextId) ∧ s.sys.state = .standby) ∧
    (∃ (p : Port) (o : Order) (s : State), WriteAdmitted s p 0x108 ∧ pushRefusal s p = 0 ∧ inFlight s p (pushedOrder s
      p).tag = some o) ∧
    (∃ (p : Port) (r : Ret) (s : State), WriteAdmitted s p 0x108 ∧ pushRefusal s p = 0 ∧ inFlight s p (pushedOrder s
      p).tag = none ∧ inWindow s p (pushedOrder s p).tag = some r) ∧
    (∃ (p : Port) (s : State), WriteAdmitted s p 0x108 ∧ pushRefusal s p = 0 ∧ inFlight s p (pushedOrder s p).tag =
      none ∧ inWindow s p (pushedOrder s p).tag = none ∧ isNonce (pushedOrder s p).opcode = true ∧ parcelsBad s
      (pushedOrder s p) = false ∧ lengthBad s (pushedOrder s p) = false ∧ (∀ o ∈ s.ord.orders, o.id < s.ord.nextId)) ∧
    (∃ (p : Port) (s : State), WriteAdmitted s p 0x108 ∧ pushRefusal s p ≠ 0) :=
  ⟨
    ⟨.a, modBank .a (fun b => { b with desc := [0x14, 4, 77, 0, 0x3FF, 0x3FF, 0, 0] }) (inState .standby hub),
      by decide +kernel⟩,
    ⟨.b, { order0 with port := .b }, modBank .b (fun b => { b with desc := [1, 4, 7, 0, 0x3FF, 0x3FF, 0, 0] }) (order
      { order0 with port := .b } hub), by decide +kernel⟩,
    ⟨.a, { tag := 77, code := 0, length := 2, slot := 4 }, modBank .a (fun b =>
      { b with desc := [1, 4, 77, 0, 0x3FF, 0x3FF, 0, 0], window := [{ tag := 77, code := 0, length := 2, slot := 4 }] })
      hub, by decide +kernel⟩,
    ⟨.a, parcel 5 { owner := some .a } (modBank .a (fun b => { b with desc := [0x0D, 0, 8, 0, 5, 0x3FF, 0, 16] })
      hub), by decide +kernel⟩,
    ⟨.b, port .b (fun x => { x with presence := .absent }) hub, by decide +kernel⟩⟩

/-- The hypotheses of `Obligations.OrderCourse` are met, and in each of its cases those of that case. -/
theorem witness_OrderCourse :
    (∃ (slot : Nat) (code : Nat) (o : Order) (s : State), s.ord.orders.find? (fun o => (orderSlots o).contains slot &&
      !inRun s o) = some o ∧ o.stage = .queued ∧ o.past8 = true ∧ blocked s o = false ∧ stage9 s o = .ends code) ∧
    (∃ (slot : Nat) (o : Order) (s : State), slot < 4 ∧ s.ord.orders.find? (fun o => (orderSlots o).contains slot &&
      !inRun s o) = some o ∧ o.stage = .admitted ∧ o.slot = slot ∧ 1 ≤ o.opcode ∧ o.opcode ≤ 0x0C ∧ s.sys.state = .run
      ∧ s.sup.pf = false ∧ eccAt s o 1 = [] ∧ eccAt s o 2 = []) ∧
    (∃ (o : Order) (s : State), orderGet s o.id = some o ∧ o.stage = .waiting ∧ outranked s o = false ∧ (o.opcode =
      0x01 ∨ o.opcode = 0x09) ∧ s.sys.alarm = false ∧ judgeLift s o.opcode o.slot = .grant ∧ s.sys.state ≠ .run) ∧
    (∃ (o : Order) (s : State), orderGet s o.id = some o ∧ o.stage = .waiting ∧ outranked s o = false ∧ (o.opcode =
      0x01 ∨ o.opcode = 0x09) ∧ s.sys.alarm = false ∧ judgeLift s o.opcode o.slot = .refuse) ∧
    (∃ (o : Order) (s : State), orderGet s o.id = some o ∧ o.stage ≠ .dispatched ∧ o.internal = false) ∧
    (∃ (p : Port) (n : Nat) (data : Word) (s : State), WriteAdmitted s p 0x115 ∧ rtailStep (perPortGet s.ord.banks p)
      (data.toNat % 128) = some n ∧ (perPortGet s.ord.banks p).rtail < 128) ∧
    (∃ (p : Port) (data : Word) (s : State), WriteAdmitted s p 0x115 ∧ rtailStep (perPortGet s.ord.banks p)
      (data.toNat % 128) = none) ∧
    (∃ (p : Port) (data : Word) (s : State), WriteAdmitted s p 0x118 ∧ data ≠ 0 ∧ inFlight s p data.toNat = none) :=
  ⟨
    ⟨4, 0x014, { order0 with stage := .queued, past8 := true }, order { order0 with stage := .queued, past8 := true }
      (uSat (fun x => { x with slotViews := [(4, { st := .ready })] }) hub), by decide +kernel⟩,
    ⟨1, { order0 with slot := 1, stage := .admitted, past8 := true }, order
      { order0 with slot := 1, stage := .admitted, past8 := true } hub, by decide +kernel⟩,
    ⟨{ order0 with slot := 1, stage := .waiting }, order { order0 with slot := 1, stage := .waiting } (inState
      .standby hub), by decide +kernel⟩,
    ⟨{ order0 with slot := 1, stage := .waiting }, order { order0 with slot := 1, stage := .waiting } (uRig (fun x =>
      { x with running := { rig0 with ledger := { liftMains := 1 } } }) hub), by decide +kernel⟩,
    ⟨{ order0 with stage := .waiting }, order { order0 with stage := .waiting } hub, by decide +kernel⟩,
    ⟨.a, 1, 1, modBank .a (fun b => { b with ring := [{ tag := 1, code := 0, length := 2, slot := 4 }] }) hub,
      by decide +kernel⟩,
    ⟨.b, 1, hub, by decide +kernel⟩,
    ⟨.a, 7, hub, by decide +kernel⟩⟩

/-- The hypotheses of `Obligations.NewParcelIsEmpty` are met. -/
theorem witness_NewParcelIsEmpty :
    ∃ (p : Port) (n : Nat) (s : State), Admitted s p false 0x180 ∧ NotReplayed s ∧ freeParcel s = some n :=
    ⟨.a, 0, parcel 0 { fill := 6, bytes := [(3, 4)] } hub, by decide +kernel⟩

/-- The hypotheses of `Obligations.Parcels` are met, and in each of its cases those of that case. -/
theorem witness_Parcels :
    (∃ (p : Port) (n : Nat) (s : State), Admitted s p false 0x180 ∧ NotReplayed s ∧ freeParcel s = some n) ∧
    (∃ (p : Port) (s : State), Admitted s p false 0x180 ∧ NotReplayed s ∧ freeParcel s = none) ∧
    (∃ (n : Nat) (s : State), Admitted s .a false 0x180 ∧ Admitted s .b false 0x180 ∧ NotReplayed s ∧ freeParcel s =
      some n) ∧
    (∃ (p : Port) (data : Word) (s : State), WriteAdmitted s p 0x181 ∧ data.toNat < 512 ∧ (parcelGet s
      data.toNat).owner = some p ∧ parcelNamed s data.toNat = false) ∧
    (∃ (p : Port) (data : Word) (s : State), WriteAdmitted s p 0x181 ∧ data.toNat < 512 ∧ releaseRefusal s p
      data.toNat ≠ 0) ∧
    (∃ (p : Port) (k : Nat) (data : Word) (s : State), k < 64 ∧ WriteAdmitted s p (0x1C0 + k) ∧ data.getLsbD 8 = true
      ∧ (parcelGet s (portGet s p).pclSel).owner = some p ∧ parcelNamed s (portGet s p).pclSel = false) ∧
    (∃ (p : Port) (k : Nat) (data : Word) (s : State), k < 64 ∧ WriteAdmitted s p (0x1C0 + k) ∧ data.getLsbD 8 = true
      ∧ ((parcelGet s (portGet s p).pclSel).owner ≠ some p ∨ parcelNamed s (portGet s p).pclSel = true)) ∧
    (∃ (p : Port) (k : Nat) (s : State), k < 64 ∧ Admitted s p false (0x1C0 + k) ∧ NotReplayed s ∧ tblGet 0 (parcelGet
      s (portGet s p).pclSel).ecc (64 * (portGet s p).pclPage + k) = 0) ∧
    (∃ (p : Port) (k : Nat) (s : State), k < 64 ∧ Admitted s p false (0x1C0 + k) ∧ (s.sys.state = .run ∨ s.sys.state =
      .standby) ∧ NoneContained s .pcl) :=
  ⟨
    ⟨.b, 1, parcel 0 { owner := some .a } hub, by decide +kernel⟩,
    ⟨.b, uOrd (fun x => { x with parcels := (List.range 512).map (fun i => (i, { owner := some .a })) }) hub,
      by decide +kernel⟩,
    ⟨0, hub, by decide +kernel⟩,
    ⟨.a, 511, parcel 511 { owner := some .a, fill := 4 } hub, by decide +kernel⟩,
    ⟨.b, 0, parcel 0 { owner := some .a } hub, by decide +kernel⟩,
    ⟨.a, 63, 0x3AA, port .a (fun x => { x with pclSel := 9, pclPage := 7 }) (parcel 9 { owner := some .a } hub),
      by decide +kernel⟩,
    ⟨.a, 0, 0x1AA, port .a (fun x => { x with pclSel := 9 }) (parcel 9 { owner := some .b } hub), by decide +kernel⟩,
    ⟨.a, 63, port .a (fun x => { x with pclSel := 9 }) (parcel 9 { owner := some .b, fill := 64, bytes := [(63, 8)] }
      hub), by decide +kernel⟩,
    ⟨.a, 63, hub, by decide +kernel⟩⟩

/-- The hypotheses of `Obligations.CountersSaturate` are met, and in each of its cases those of that case. -/
theorem witness_CountersSaturate :
    (∃ (slot : Nat) (good : Bool) (s : State), slot < 4 ∧ inSession (slotGet s slot) = true ∧ vccGood (slotGet s slot)
      good = true ∧ Live s ∧ (slotGet s slot).trips = 0x3FF) ∧
    (∃ (slot : Nat) (good : Bool) (s : State), slot < 4 ∧ inSession (slotGet s slot) = true ∧ vccGood (slotGet s slot)
      good = true ∧ Live s ∧ (slotGet s slot).trips = 0x3FF ∧ s.sup.vsl5Ok = true) ∧
    (∃ (slot : Nat) (s : State), slot < 4 ∧ inSession (slotGet s slot) = true ∧ Live s ∧ (slotGet s slot).removals =
      0x3FF) :=
  ⟨
    ⟨3, true, slot 3 { st := .ready, pins := { vccOn := true }, trips := 0x3FF } hub, by decide +kernel⟩,
    ⟨3, true, slot 3 { st := .ready, pins := { vccOn := true }, trips := 0x3FF } hub, by decide +kernel⟩,
    ⟨0, slot 0 { st := .ready, pins := { vccOn := true }, removals := 0x3FF } hub, by decide +kernel⟩⟩

/-- The hypotheses of `Obligations.Activations` are met, and in each of its cases those of that case. -/
theorem witness_Activations :
    (∃ (slot : Nat) (c : Nat) (rest : List Nat) (r : Running) (s : State), toBegin s slot [0x01] = some r ∧ (slotGet s
      slot).st = .present ∧ satPowers s slot = true ∧ noSupply s slot = false ∧ classesToTry (slotGet s slot).cfg
      r.param = c :: rest) ∧
    (∃ (slot : Nat) (r : Running) (s : State), toBegin s slot [0x01] = some r ∧ (slotGet s slot).st = .present ∧
      satPowers s slot = true ∧ (noSupply s slot = true ∨ classesToTry (slotGet s slot).cfg r.param = [])) ∧
    (∃ (slot : Nat) (r : Running) (s : State), toBegin s slot [0x02] = some r ∧ (slotGet s slot).st = .ready) ∧
    (∃ (slot : Nat) (r : Running) (s : State), toBegin s slot [0x03] = some r ∧ ((slotGet s slot).st = .ready ∨
      (slotGet s slot).st = .asleep)) ∧
    (∃ (slot : Nat) (r : Running) (s : State), toBegin s slot [0x03] = some r ∧ ((slotGet s slot).st = .tripped ∨
      (slotGet s slot).st = .present)) :=
  ⟨
    ⟨1, 3, [2, 1], runs 1, slot 1 { st := .present, cfg := { kind := .iso, classes := 7 }, run := some (runs 1) } hub,
      by decide +kernel⟩,
    ⟨1, runs 1, uSup (fun x => { x with vsl5Ok := false }) (order order1 (slot 1
      { st := .present, cfg := { kind := .iso, classes := 7 }, run := some (runs 1) } hub)), by decide +kernel⟩,
    ⟨1, runs 2, slot 1 { st := .ready, run := some (runs 2) } hub, by decide +kernel⟩,
    ⟨1, runs 3, slot 1 { st := .asleep, run := some (runs 3) } hub, by decide +kernel⟩,
    ⟨1, runs 3, order order1 (slot 1 { st := .tripped, run := some (runs 3) } hub), by decide +kernel⟩⟩

/-- The hypotheses of `Obligations.Characters` are met, and in each of its cases those of that case. -/
theorem witness_Characters :
    (∃ (slot : Nat) (b : Byte) (rest : List Byte) (err : Bool) (s : State), (slotGet s slot).line.tx = b :: rest ∧
      (err = false ∨ (slotGet s slot).line.mode ≠ .t0)) ∧
    (∃ (slot : Nat) (s : State), (slotGet s slot).line.tx ≠ [] ∧ (slotGet s slot).line.mode = .t0 ∧ (slotGet s
      slot).line.copies < 4) ∧
    (∃ (slot : Nat) (s : State), (slotGet s slot).line.tx ≠ [] ∧ (slotGet s slot).line.mode = .t0 ∧ 4 ≤ (slotGet s
      slot).line.copies ∧ (slotGet s slot).st = .busy) ∧
    (∃ (slot : Nat) (s : State), (slotGet s slot).st = .busy ∧ (slotGet s slot).pins.vccOn = true ∧ (slotGet s
      slot).cfg.kind = .iso ∧ (slotGet s slot).line.tx = [] ∧ (slotGet s slot).line.mode = .t1) ∧
    (∃ (slot : Nat) (s : State), (slotGet s slot).st = .busy ∧ (slotGet s slot).pins.vccOn = true ∧ (slotGet s
      slot).cfg.kind = .iso ∧ (slotGet s slot).line.tx ≠ []) ∧
    (∃ (slot : Nat) (v : BitVec 9) (s : State), (slotGet s slot).st = .busy ∧ (slotGet s slot).pins.vccOn = true ∧
      (slotGet s slot).cfg.kind = .iso ∧ (slotGet s slot).line.tx = [] ∧ (slotGet s slot).line.mode = .t0 ∧
      (decodeChar (slotGet s slot).ch.inverse v).2 = false ∧ (slotGet s slot).line.badRun < 4) ∧
    (∃ (slot : Nat) (v : BitVec 9) (s : State), (slotGet s slot).st = .busy ∧ (slotGet s slot).pins.vccOn = true ∧
      (slotGet s slot).cfg.kind = .iso ∧ (slotGet s slot).line.tx = [] ∧ (slotGet s slot).line.mode = .t0 ∧
      (decodeChar (slotGet s slot).ch.inverse v).2 = false ∧ 4 ≤ (slotGet s slot).line.badRun) ∧
    (∃ (slot : Nat) (s : State), ((slotGet s slot).st = .busy ∨ (slotGet s slot).st = .ready ∨ (slotGet s slot).st =
      .atr) ∧ (slotGet s slot).pins.vccOn = true ∧ (slotGet s slot).cfg.kind = .iso) ∧
    (∃ (slot : Nat) (s : State), (slotGet s slot).st = .asleep ∧ (slotGet s slot).pins.vccOn = true ∧ (slotGet s
      slot).cfg.kind = .iso) ∧
    (∃ (slot : Nat) (early : Bool) (v : BitVec 9) (low : Bool) (s : State), (slotGet s slot).st = .atr ∧ (slotGet s
      slot).pins.vccOn = true ∧ (slotGet s slot).cfg.kind = .iso ∧ (slotGet s slot).line.tx = [] ∧ (slotGet s
      slot).line.mode = .atr ∧ (early = false ∨ (slotGet s slot).line.rx ≠ []) ∧ (low = true ∨ (decodeChar (atrInverse
      (slotGet s slot) v) v).2 = false)) ∧
    (∃ (slot : Nat) (s : State), (slotGet s slot).st = .atr ∧ (slotGet s slot).pins.vccOn = true ∧ (slotGet s
      slot).pins.rst = true ∧ (slotGet s slot).cfg.kind = .iso ∧ (slotGet s slot).line.tx = [] ∧ (slotGet s
      slot).line.mode = .atr ∧ (slotGet s slot).line.rx = []) ∧
    (∃ (slot : Nat) (s : State), (slotGet s slot).st = .busy ∧ (slotGet s slot).line.tx ≠ []) :=
  ⟨
    ⟨1, 5, [6], false, slot 1 { line := { tx := [5, 6] } } hub, by decide +kernel⟩,
    ⟨1, slot 1 { line := { tx := [5, 6], mode := .t0, copies := 3 } } hub, by decide +kernel⟩,
    ⟨1, slot 1 { st := .busy, line := { tx := [5, 6], mode := .t0, copies := 4 } } hub, by decide +kernel⟩,
    ⟨1, slot 1 (t1Slot [0, 0x40]) hub, by decide +kernel⟩,
    ⟨1, slot 1 { t1Slot [] with line := { tx := [4] } } hub, by decide +kernel⟩,
    ⟨1, 0x001, slot 1 { t1Slot [] with line := { mode := .t0, badRun := 3 } } hub, by decide +kernel⟩,
    ⟨1, 0x001, slot 1 { t1Slot [] with line := { mode := .t0, badRun := 4 } } hub, by decide +kernel⟩,
    ⟨1, slot 1 (t1Slot []) hub, by decide +kernel⟩,
    ⟨1, slot 1 { t1Slot [] with st := .asleep } hub, by decide +kernel⟩,
    ⟨1, false, 0x03B, true, slot 1 { t1Slot [] with st := .atr, line := { mode := .atr } } hub, by decide +kernel⟩,
    ⟨1, slot 1 { t1Slot [] with st := .atr, pins := { vccOn := true, rst := true }, line := { mode := .atr } } hub,
      by decide +kernel⟩,
    ⟨1, slot 1 { t1Slot [] with line := { tx := [4] } } hub, by decide +kernel⟩⟩

/-- The hypotheses of `Obligations.AtrInForce` are met. -/
theorem witness_AtrInForce :
    ∃ (slot : Nat) (v : BitVec 9) (a : Atr) (act : Activation) (r : Running) (s : State), (slotGet s slot).st = .atr ∧
      (slotGet s slot).pins.vccOn = true ∧ (slotGet s slot).pins.rst = true ∧ (slotGet s slot).cfg.kind = .iso ∧
      (slotGet s slot).line.tx = [] ∧ (slotGet s slot).line.mode = .atr ∧ (slotGet s slot).act = some act ∧ (slotGet s
      slot).run = some r ∧ (decodeChar (atrInverse (slotGet s slot) v) v).2 = true ∧ ((((slotGet s slot).line.rx ++
      [(decodeChar (atrInverse (slotGet s slot) v) v).1]).headD 0 = 0x3B ∨ ((slotGet s slot).line.rx ++ [(decodeChar
      (atrInverse (slotGet s slot) v) v).1]).headD 0 = 0x3F)) ∧ atrParse ((slotGet s slot).line.rx ++ [(decodeChar
      (atrInverse (slotGet s slot) v) v).1]) = some (a, 0) ∧ atrBad ((slotGet s slot).line.rx ++ [(decodeChar
      (atrInverse (slotGet s slot) v) v).1]) a = false ∧ ((act.warm = true ∨ ∀ u, atrUi a = some u → bitAt u ((slotGet
      s slot).cls - 1) = true)) :=
    ⟨1, 0x000, {}, { good := true }, runs 1, slot 1
      { t1Slot [] with st := .atr, pins := { vccOn := true, rst := true }, cls := 1, line := { mode := .atr, rx := [0x3B] }, act := some { good := true }, run := some (runs 1) }
      hub, by decide +kernel⟩

/-- The hypotheses of `Obligations.Exchanges` are met, and in each of its cases those of that case. -/
theorem witness_Exchanges :
    (∃ (slot : Nat) (r : Running) (s : State), toBegin s slot [0x04] = some r ∧ (slotGet s slot).st = .ready ∧
      readCommand slot r s = (s, true) ∧ (slotGet s slot).ch.inForce = 1 ∧ t0Case (runBytes s slot r).length
      ((runBytes s slot r).getD 4 0).toNat ≠ 5) ∧
    (∃ (slot : Nat) (r : Running) (s : State), toBegin s slot [0x04] = some r ∧ (slotGet s slot).st = .ready ∧
      readCommand slot r s = (s, true) ∧ (t0Case (runBytes s slot r).length ((runBytes s slot r).getD 4 0).toNat = 5 ∨
      ((slotGet s slot).ch.inForce ≠ 1 ∧ (slotGet s slot).ch.inForce ≠ 2))) ∧
    (∃ (slot : Nat) (r : Running) (s : State), toBegin s slot [0x04] = some r ∧ (slotGet s slot).st = .ready ∧
      readCommand slot r s = (s, true) ∧ (slotGet s slot).ch.inForce = 2) ∧
    (∃ (slot : Nat) (r : Running) (s : State), toBegin s slot [0x05] = some r ∧ (slotGet s slot).st = .ready) ∧
    (∃ (slot : Nat) (r : Running) (o : Order) (s : State), slot < 4 ∧ awaitsBlock (slotGet s slot) = true ∧ blockWhole
      (slotGet s slot) = true ∧ (slotGet s slot).x.raw = true ∧ (slotGet s slot).run = some r ∧ orderGet s r.oid =
      some o ∧ (slotGet s slot).line.rx.length ≤ orderRoom o) ∧
    (∃ (slot : Nat) (m : Nat) (s : State), awaitsBlock (slotGet s slot) = true ∧ blockWhole (slotGet s slot) = true ∧
      (slotGet s slot).x.raw = false ∧ judgeBlock (slotGet s slot) (slotGet s slot).line.rx (slotGet s
      slot).line.rxBad = .wtxReq m) ∧
    (∃ (slot : Nat) (v : Nat) (s : State), awaitsBlock (slotGet s slot) = true ∧ blockWhole (slotGet s slot) = true ∧
      (slotGet s slot).x.raw = false ∧ judgeBlock (slotGet s slot) (slotGet s slot).line.rx (slotGet s
      slot).line.rxBad = .ifsReq v) ∧
    (∃ (slot : Nat) (edc : Bool) (s : State), awaitsBlock (slotGet s slot) = true ∧ blockWhole (slotGet s slot) = true
      ∧ (slotGet s slot).x.raw = false ∧ judgeBlock (slotGet s slot) (slotGet s slot).line.rx (slotGet s
      slot).line.rxBad = .bad edc ∧ (slotGet s slot).x.lastKind ≠ .ifsReq ∧ (slotGet s slot).x.lastKind ≠ .resynchReq) ∧
    (∃ (slot : Nat) (inf : List Byte) (r : Running) (s : State), awaitsBlock (slotGet s slot) = true ∧ blockWhole
      (slotGet s slot) = true ∧ (slotGet s slot).x.raw = false ∧ (slotGet s slot).run = some r ∧ judgeBlock (slotGet s
      slot) (slotGet s slot).line.rx (slotGet s slot).line.rxBad = .iBlock false inf) ∧
    (∃ (slot : Nat) (s : State), awaitsBlock (slotGet s slot) = true ∧ (slotGet s slot).line.rx ≠ [] ∧ blockWhole
      (slotGet s slot) = false ∧ (slotGet s slot).line.rxBad = false ∧ (slotGet s slot).x.raw = false ∧ (slotGet s
      slot).x.lastKind ≠ .ifsReq ∧ (slotGet s slot).x.lastKind ≠ .resynchReq ∧ (slotGet s slot).x.fails < 2 ∧ heardNow
      s (slotGet s slot) = false) ∧
    (∃ (slot : Nat) (r : Running) (s : State), awaitsBlock (slotGet s slot) = true ∧ (slotGet s slot).line.rx = [] ∧
      (slotGet s slot).x.raw = true ∧ (slotGet s slot).run = some r ∧ heardNow s (slotGet s slot) = false) ∧
    (∃ (slot : Nat) (s : State), awaitsBlock (slotGet s slot) = true ∧ (slotGet s slot).line.rx = [] ∧ (slotGet s
      slot).x.lastKind = .resynchReq ∧ (slotGet s slot).x.raw = false ∧ 3 ≤ (slotGet s slot).x.resynchTries ∧ heardNow
      s (slotGet s slot) = false) ∧
    (∃ (slot : Nat) (s : State), (slotGet s slot).line.mode = .t0 ∧ (slotGet s slot).st = .busy ∧ heardNow s (slotGet
      s slot) = false) ∧
    (∃ (slot : Nat) (r : Running) (s : State), (slotGet s slot).run = some r ∧ (r.opcode = 0x04 ∨ r.opcode = 0x05) ∧
      (slotGet s slot).st = .busy) :=
  ⟨
    ⟨1, { runs 4 with length := 5 }, slot 1
      { st := .ready, ch := { inForce := 1 }, run := some { runs 4 with length := 5 } } (parcel 5
      { owner := some .a, bytes := [(1, 0xB0), (4, 9)] } (order { order1 with length := 5 } hub)), by decide +kernel⟩,
    ⟨1, { runs 4 with length := 7 }, slot 1
      { st := .ready, ch := { inForce := 1 }, run := some { runs 4 with length := 7 } } (parcel 5 { owner := some .a }
      (order { order1 with length := 7 } hub)), by decide +kernel⟩,
    ⟨1, { runs 4 with length := 5 }, slot 1
      { st := .ready, ch := { inForce := 2 }, tr := { ifsDone := true, ifsc := 4, nsHub := true }, run := some { runs 4 with length := 5 } }
      (parcel 5 { owner := some .a, bytes := [(1, 0xB0), (4, 9)] } (order { order1 with length := 5 } hub)),
      by decide +kernel⟩,
    ⟨4, { runs 5 with length := 4 }, slot 4
      { st := .ready, ch := { inForce := 2 }, run := some { runs 5 with length := 4 } } (zg 1 zg0 hub),
      by decide +kernel⟩,
    ⟨1, runs 5, order1, slot 1 { t1Slot [0, 0x40, 0, 0x40] with x := { raw := true }, run := some (runs 5) } (order
      order1 hub), by decide +kernel⟩,
    ⟨1, 3, slot 1 (t1Slot [0, 0xC3, 1, 3, 0xC1]) hub, by decide +kernel⟩,
    ⟨1, 0xFE, slot 1 (t1Slot [0, 0xC1, 1, 0xFE, 0x3E]) hub, by decide +kernel⟩,
    ⟨1, true, slot 1 (t1Slot [0, 0x40, 0, 0x41]) hub, by decide +kernel⟩,
    ⟨1, [0x90, 0], { runs 4 with begun := true }, slot 1 (t1Slot [0, 0, 2, 0x90, 0, 0x92]) (order order1 hub),
      by decide +kernel⟩,
    ⟨1, slot 1 (t1Slot [0, 0x40]) hub, by decide +kernel⟩,
    ⟨1, runs 5, slot 1 { t1Slot [] with x := { raw := true }, run := some (runs 5) } (order order1 hub),
      by decide +kernel⟩,
    ⟨1, slot 1 { t1Slot [] with x := { lastKind := .resynchReq, resynchTries := 3, heard := true } } (order order1
      hub), by decide +kernel⟩,
    ⟨1, slot 1 { t1Slot [] with line := { mode := .t0 } } hub, by decide +kernel⟩,
    ⟨1, runs 5, slot 1 { t1Slot [] with run := some (runs 5) } hub, by decide +kernel⟩⟩

/-- The hypotheses of `Obligations.PpsAndClock` are met, and in each of its cases those of that case. -/
theorem witness_PpsAndClock :
    (∃ (slot : Nat) (r : Running) (s : State), toBegin s slot [0x06] = some r ∧ (slotGet s slot).st = .ready) ∧
    (∃ (slot : Nat) (s : State), (slotGet s slot).line.mode = .pps ∧ (slotGet s slot).st = .busy ∧ (slotGet s
      slot).line.tx = [] ∧ heardNow s (slotGet s slot) = false) ∧
    (∃ (slot : Nat) (s : State), (slotGet s slot).line.mode = .atr ∧ (slotGet s slot).st = .atr ∧ (slotGet s
      slot).line.rx ≠ [] ∧ heardNow s (slotGet s slot) = false) ∧
    (∃ (slot : Nat) (r : Running) (s : State), toBegin s slot [0x07] = some r ∧ (slotGet s slot).st = .ready) ∧
    (∃ (slot : Nat) (hi : Bool) (r : Running) (s : State), (slotGet s slot).line.stopWait = some hi ∧ (slotGet s
      slot).st = .busy ∧ (slotGet s slot).run = some r) ∧
    (∃ (slot : Nat) (r : Running) (s : State), toBegin s slot [0x08] = some r ∧ (slotGet s slot).st = .asleep) ∧
    (∃ (slot : Nat) (r : Running) (s : State), (slotGet s slot).run = some r ∧ r.opcode = 0x08 ∧ r.begun = true ∧
      (slotGet s slot).st = .busy) ∧
    (∃ (p : Port) (data : Word) (s : State), WriteAdmitted s p 0x220 ∧ NotReplayed s ∧ (portGet s p).sltSel < 4 ∧
      (slotGet s (portGet s p).sltSel).cfg.kind = .iso ∧ claimOf s (portGet s p).sltSel ≠ some p.other ∧ ((slotGet s
      (portGet s p).sltSel).st = .ready ∨ (slotGet s (portGet s p).sltSel).st = .asleep) ∧ (portGet s p).shadow = none
      ∧ inRange (committedDiv s p data.toNat) 40 65535 = true) ∧
    (∃ (slot : Nat) (b : Byte) (rest : List Byte) (s : State), (slotGet s slot).line.tx = b :: rest ∧ (slotGet s
      slot).ch.renew = true) ∧
    (∃ (p : Port) (data : Word) (s : State), WriteAdmitted s p 0x220 ∧ NotReplayed s ∧ (inRange (committedDiv s p
      data.toNat) 40 65535 = false ∨ divRefused s p (portGet s p).sltSel = true)) :=
  ⟨
    ⟨1, { runs 6 with param := 0x196 }, slot 1 { st := .ready, run := some { runs 6 with param := 0x196 } } hub,
      by decide +kernel⟩,
    ⟨1, slot 1 { t1Slot [] with line := { mode := .pps } } hub, by decide +kernel⟩,
    ⟨1, slot 1 { t1Slot [] with st := .atr, line := { mode := .atr, rx := [0x3B] } } hub, by decide +kernel⟩,
    ⟨1, { runs 7 with param := 1 }, slot 1 { st := .ready, run := some { runs 7 with param := 1 } } hub,
      by decide +kernel⟩,
    ⟨1, true, runs 7, slot 1 { t1Slot [] with line := { stopWait := some true }, run := some (runs 7) } (order order1
      hub), by decide +kernel⟩,
    ⟨1, runs 8, slot 1 { st := .asleep, run := some (runs 8) } hub, by decide +kernel⟩,
    ⟨1, { runs 8 with begun := true }, slot 1 { st := .busy, run := some { runs 8 with begun := true } } (order order1
      hub), by decide +kernel⟩,
    ⟨.a, 40, slot 1 { st := .ready, cfg := { kind := .iso } } (port .a (fun x => { x with sltSel := 1 }) hub),
      by decide +kernel⟩,
    ⟨1, 5, [6], slot 1 { ch := { renew := true }, line := { tx := [5, 6] } } hub, by decide +kernel⟩,
    ⟨.a, 40, slot 1 { st := .present, cfg := { kind := .iso } } (port .a (fun x =>
      { x with sltSel := 1, shadow := some { base := 0x220, inst := 1, words := [(0x221, some 0)] } }) hub),
      by decide +kernel⟩⟩

/-- The hypotheses of `Obligations.SdCards` are met, and in each of its cases those of that case. -/
theorem witness_SdCards :
    (∃ (slot : Nat) (i : Nat) (v : Byte) (rest0 : List Byte) (rest : List Byte) (cmd0 : List (List Byte)) (cmd8 : List
      Byte) (r : Running) (s : State), toBegin s slot [0x09] = some r ∧ (slotGet s slot).st = .present ∧ satPowers s
      slot = true ∧ noSupply s slot = false ∧ i < 3 ∧ (cmd0.take i).all (fun l => (sdReply 8 l).any (fun w => decide
      (w.1 ≠ 0x01))) = true ∧ sdReply 8 (cmd0.getD i []) = some (0x01, rest0) ∧ sdReply 8 cmd8 = some (v, rest) ∧
      (v.getLsbD 2 = true ∨ (r1BadInit v = false ∧ (sdBytes 4 rest).getD 2 0 = 0x01 ∧ (sdBytes 4 rest).getD 3 0 =
      0xAA))) ∧
    (∃ (slot : Nat) (i : Nat) (cmd0 : List (List Byte)) (r : Running) (s : State), toBegin s slot [0x09] = some r ∧
      (slotGet s slot).st = .present ∧ satPowers s slot = true ∧ noSupply s slot = false ∧ i ≤ 3 ∧ (cmd0.take i).all
      (fun l => (sdReply 8 l).any (fun w => decide (w.1 ≠ 0x01))) = true ∧ ((i = 3 ∧ 3 ≤ cmd0.length) ∨ (i < 3 ∧
      sdReply 8 (cmd0.getD i []) = none))) ∧
    (∃ (slot : Nat) (w : Byte) (v : Byte) (cmd55 : List Byte) (cmd41 : List Byte) (l : List Byte) (m : List Byte) (s :
      State), (slotGet s slot).sd.phase = .acmd41 ∧ (slotGet s slot).st = .rising ∧ (slotGet s slot).sd.polled = false
      ∧ sdReply 8 cmd55 = some (w, l) ∧ r1BadInit w = false ∧ sdReply 8 cmd41 = some (v, m) ∧ r1BadInit v = false ∧ v
      ≠ 0) ∧
    (∃ (slot : Nat) (s : State), (slotGet s slot).sd.phase = .acmd41 ∧ (slotGet s slot).st = .rising ∧ (slotGet s
      slot).sd.polled = true ∧ 800000000 < s.sys.tick - (slotGet s slot).sd.start41) ∧
    (∃ (slot : Nat) (cap : Nat) (w : Byte) (v : Byte) (u : Byte) (cmd55 : List Byte) (cmd41 : List Byte) (cmd58 : List
      Byte) (cmd9 : List Byte) (l : List Byte) (m : List Byte) (ocr : List Byte) (rest : List Byte) (csd : List Byte)
      (r : Running) (s : State), (slotGet s slot).sd.phase = .acmd41 ∧ (slotGet s slot).st = .rising ∧ (slotGet s
      slot).sd.polled = false ∧ sdReply 8 cmd55 = some (w, l) ∧ r1BadInit w = false ∧ sdReply 8 cmd41 = some (0, m) ∧
      sdReply 8 cmd58 = some (v, ocr) ∧ r1BadInit v = false ∧ bitAt (beNat (sdBytes 4 ocr)) 20 = true ∧ bitAt (beNat
      (sdBytes 4 ocr)) 21 = true ∧ sdReply 8 cmd9 = some (u, rest) ∧ r1BadInit u = false ∧ sdBlock 16 rest = .good csd
      ∧ csdBlocks csd = some cap ∧ (slotGet s slot).sd.v2 = true ∧ bitAt (beNat (sdBytes 4 ocr)) 30 = true ∧ (slotGet
      s slot).run = some r) ∧
    (∃ (slot : Nat) (r : Running) (s : State), toBegin s slot [0x0A] = some r ∧ (slotGet s slot).st = .ready ∧
      mustClose (slotGet s slot).sd false (blockNo s slot r) = false ∧ (slotGet s slot).sd.cap ≤ blockNo s slot r) ∧
    (∃ (slot : Nat) (v : Byte) (rx : List Byte) (rest : List Byte) (data : List Byte) (r : Running) (o : Order) (s :
      State), slot < 4 ∧ toBegin s slot [0x0A] = some r ∧ (slotGet s slot).st = .ready ∧ blockNo s slot r < (slotGet s
      slot).sd.cap ∧ (slotGet s slot).sd.run = false ∧ sdReply 8 rx = some (v, rest) ∧ r1Bad v = false ∧ sdBlock 512
      rest = .good data ∧ orderGet s r.oid = some o ∧ data.length ≤ orderRoom o) ∧
    (∃ (slot : Nat) (v : Byte) (u : Byte) (rx : List Byte) (again : List Byte) (rest : List Byte) (more : List Byte)
      (data : List Byte) (r : Running) (o : Order) (s : State), slot < 4 ∧ toBegin s slot [0x0A] = some r ∧ (slotGet s
      slot).st = .ready ∧ blockNo s slot r < (slotGet s slot).sd.cap ∧ (slotGet s slot).sd.run = false ∧ sdReply 8 rx
      = some (v, rest) ∧ r1Bad v = false ∧ sdBlock 512 rest = .mismatch ∧ sdReply 8 again = some (u, more) ∧ r1Bad u =
      false ∧ sdBlock 512 more = .good data ∧ orderGet s r.oid = some o ∧ data.length ≤ orderRoom o) ∧
    (∃ (slot : Nat) (rx : List Byte) (r : Running) (s : State), toBegin s slot [0x0A] = some r ∧ (slotGet s slot).st =
      .ready ∧ blockNo s slot r < (slotGet s slot).sd.cap ∧ (slotGet s slot).sd.run = false ∧ sdReply 8 rx = none) ∧
    (∃ (slot : Nat) (v : Byte) (response : Byte) (rx : List Byte) (rest : List Byte) (r : Running) (s : State),
      toBegin s slot [0x0B] = some r ∧ (slotGet s slot).st = .ready ∧ blockNo s slot r < (slotGet s slot).sd.cap ∧
      (slotGet s slot).sd.run = false ∧ sdReply 8 rx = some (v, rest) ∧ r1Bad v = false ∧ response &&& 0x1F = 0x05) ∧
    (∃ (slot : Nat) (v : Byte) (response : Byte) (rx : List Byte) (rest : List Byte) (r : Running) (s : State),
      toBegin s slot [0x0B] = some r ∧ (slotGet s slot).st = .ready ∧ blockNo s slot r < (slotGet s slot).sd.cap ∧
      (slotGet s slot).sd.run = false ∧ sdReply 8 rx = some (v, rest) ∧ r1Bad v = false ∧ response &&& 0x1F ≠ 0x05) ∧
    (∃ (slot : Nat) (response : Byte) (r : Running) (s : State), toBegin s slot [0x0B] = some r ∧ (slotGet s slot).st
      = .ready ∧ blockNo s slot r < (slotGet s slot).sd.cap ∧ inOpenRun (slotGet s slot).sd true (blockNo s slot r) =
      true ∧ response &&& 0x1F = 0x05) ∧
    (∃ (slot : Nat) (a : Byte) (rx : List Byte) (rest : List Byte) (r : Running) (s : State), 4 ≤ slot ∧ (slotGet s
      slot).sd.phase = .busy ∧ (slotGet s slot).st = .busy ∧ (slotGet s slot).run = some r ∧ r.begun = true ∧ sdReply
      8 rx = some (a, rest) ∧ (a ≠ 0 ∨ (sdBytes 1 rest).headD 0 ≠ 0)) ∧
    (∃ (slot : Nat) (rx : List Byte) (rest : List Byte) (r : Running) (o : Order) (s : State), slot < 4 ∧ (slotGet s
      slot).sd.phase = .busy ∧ (slotGet s slot).st = .busy ∧ (slotGet s slot).run = some r ∧ r.begun = true ∧ (slotGet
      s slot).sd.run = false ∧ runStays s slot 0x0B (slotGet s slot).sd.block r.oid = false ∧ (slotGet s
      slot).sd.runDone = [] ∧ sdReply 8 rx = some (0, rest) ∧ (sdBytes 1 rest).headD 0 = 0 ∧ orderGet s r.oid = some
      o) ∧
    (∃ (slot : Nat) (s : State), (slotGet s slot).sd.phase = .busy ∧ (slotGet s slot).st = .busy) ∧
    (∃ (slot : Nat) (s : State), (slotGet s slot).sd.phase = .token ∧ ((slotGet s slot).st = .busy ∨ (slotGet s
      slot).st = .rising)) ∧
    (∃ (slot : Nat) (s : State), (slotGet s slot).sd.run = true ∧ (slotGet s slot).sd.runWrite = false ∧ (slotGet s
      slot).st = .ready) ∧
    (∃ (slot : Nat) (rx : List Byte) (rest : List Byte) (o : Order) (s : State), slot < 4 ∧ (slotGet s slot).sd.run =
      true ∧ (slotGet s slot).sd.runWrite = true ∧ (slotGet s slot).st = .ready ∧ (slotGet s slot).run = none ∧
      (slotGet s slot).sd.runDone = [o.id] ∧ orderGet s o.id = some o ∧ sdReply 8 rx = some (0, rest) ∧ (sdBytes 1
      rest).headD 0 = 0) ∧
    (∃ (slot : Nat) (v : Byte) (rx : List Byte) (rest : List Byte) (r : Running) (o : Order) (s : State), slot < 4 ∧
      toBegin s slot [0x0C] = some r ∧ (slotGet s slot).st = .ready ∧ statusCommand r.param = 13 ∧ sdReply 8 rx = some
      (v, rest) ∧ r1Bad v = false ∧ orderGet s r.oid = some o ∧ 2 ≤ orderRoom o) ∧
    (∃ (slot : Nat) (v : Byte) (rx : List Byte) (rest : List Byte) (data : List Byte) (r : Running) (o : Order) (s :
      State), slot < 4 ∧ toBegin s slot [0x0C] = some r ∧ (slotGet s slot).st = .ready ∧ (statusCommand r.param = 9 ∨
      statusCommand r.param = 10) ∧ sdReply 8 rx = some (v, rest) ∧ r1Bad v = false ∧ sdBlock 16 rest = .good data ∧
      orderGet s r.oid = some o ∧ 16 ≤ orderRoom o) ∧
    (∃ (slot : Nat) (rx : List Byte) (r : Running) (s : State), toBegin s slot [0x0C] = some r ∧ (slotGet s slot).st =
      .ready ∧ sdReply 8 rx = none) :=
  ⟨
    ⟨0, 1, 1, [], [0, 0, 1, 0xAA], [[0xFF, 0], [0xFF, 1]], [1, 0, 0, 1, 0xAA], runs 9, slot 0
      { st := .present, cfg := { kind := .sd }, run := some (runs 9) } hub, by decide +kernel⟩,
    ⟨0, 3, [[0], [0], [0], [1]], runs 9, slot 0 { st := .present, cfg := { kind := .sd }, run := some (runs 9) } hub,
      by decide +kernel⟩,
    ⟨0, 1, 1, [1], [0xFF, 1], [], [], slot 0 { st := .rising, sd := { phase := .acmd41 } } hub, by decide +kernel⟩,
    ⟨0, slot 0 { st := .rising, sd := { phase := .acmd41, polled := true, start41 := 0 } } (uSys (fun x =>
      { x with tick := 900000000 }) hub), by decide +kernel⟩,
    ⟨0, 1024, 1, 0, 0, [1], [0], [0, 0x40, 0x30, 0, 0], [0, 0xFE] ++ (0x40 :: List.replicate 15 0) ++ natBe 2 (crc16Sd
      (0x40 :: List.replicate 15 0)), [], [], [0x40, 0x30, 0, 0], ([0, 0xFE] ++ (0x40 :: List.replicate 15 0) ++ natBe
      2 (crc16Sd (0x40 :: List.replicate 15 0))).drop 1, 0x40 :: List.replicate 15 0, runs 9, slot 0
      { st := .rising, sd := { phase := .acmd41, v2 := true }, run := some (runs 9) } (order { order1 with slot := 0 }
      hub), by decide +kernel⟩,
    ⟨0, runs 0x0A, slot 0 { st := .ready, run := some (runs 0x0A) } (order { order1 with slot := 0 } hub),
      by decide +kernel⟩,
    ⟨0, 0, [0xFF, 0, 0xFF] ++ (0xFE :: (List.replicate 512 7 ++ natBe 2 (crc16Sd (List.replicate 512 7)))), 0xFF ::
      (0xFE :: (List.replicate 512 7 ++ natBe 2 (crc16Sd (List.replicate 512 7)))), List.replicate 512 7, runs 0x0A,
      { order1 with slot := 0, opcode := 0x0A, parcel2 := 6 }, slot 0
      { st := .ready, sd := { cap := 8 }, run := some (runs 0x0A) } (order
      { order1 with slot := 0, opcode := 0x0A, parcel2 := 6 } hub), by decide +kernel⟩,
    ⟨0, 0, 0, [0, 0xFE], [0] ++ (0xFE :: (List.replicate 512 7 ++ natBe 2 (crc16Sd (List.replicate 512 7)))), [0xFE],
      0xFE :: (List.replicate 512 7 ++ natBe 2 (crc16Sd (List.replicate 512 7))), List.replicate 512 7, runs 0x0A,
      { order1 with slot := 0, opcode := 0x0A, parcel2 := 6 }, slot 0
      { st := .ready, sd := { cap := 8 }, run := some (runs 0x0A) } (order
      { order1 with slot := 0, opcode := 0x0A, parcel2 := 6 } hub), by decide +kernel⟩,
    ⟨0, [], runs 0x0A, slot 0 { st := .ready, sd := { cap := 8 }, run := some (runs 0x0A) } (order
      { order1 with slot := 0 } hub), by decide +kernel⟩,
    ⟨0, 0, 0xE5, [0], [], runs 0x0B, slot 0 { st := .ready, sd := { cap := 8 }, run := some (runs 0x0B) } (order
      { order1 with slot := 0 } hub), by decide +kernel⟩,
    ⟨0, 0, 0x0B, [0], [], runs 0x0B, slot 0 { st := .ready, sd := { cap := 8 }, run := some (runs 0x0B) } (order
      { order1 with slot := 0 } hub), by decide +kernel⟩,
    ⟨0, 0xE5, runs 0x0B, slot 0
      { st := .ready, sd := { cap := 8, run := true, runWrite := true, nextBlock := 0 }, run := some (runs 0x0B) }
      (order { order1 with slot := 0 } hub), by decide +kernel⟩,
    ⟨4, 0, [0, 1], [1], { runs 0x0B with begun := true }, slot 4
      { st := .busy, sd := { cap := 8, phase := .busy, writing := true }, run := some { runs 0x0B with begun := true } }
      (zg 1 zg0 hub), by decide +kernel⟩,
    ⟨0, [0, 0], [0], { runs 0x0B with begun := true }, { order1 with slot := 0 }, slot 0
      { st := .busy, sd := { cap := 8, phase := .busy, writing := true }, run := some { runs 0x0B with begun := true } }
      (order { order1 with slot := 0 } hub), by decide +kernel⟩,
    ⟨0, slot 0 { st := .busy, sd := { cap := 8, phase := .busy, writing := true }, run := some (runs 0x0B) } hub,
      by decide +kernel⟩,
    ⟨0, slot 0 { st := .busy, sd := { cap := 8, phase := .token }, run := some (runs 0x0A) } hub, by decide +kernel⟩,
    ⟨0, slot 0 { st := .ready, sd := { cap := 8, run := true, runCount := 3 } } hub, by decide +kernel⟩,
    ⟨0, [0, 0], [0], { order1 with slot := 0 }, slot 0
      { st := .ready, sd := { cap := 8, run := true, runWrite := true, runCount := 3, runDone := [9] } } (order
      { order1 with slot := 0 } hub), by decide +kernel⟩,
    ⟨0, 0, [0, 5], [5], runs 0x0C, { order1 with slot := 0, parcel2 := 6 }, slot 0
      { st := .ready, sd := { cap := 8 }, run := some (runs 0x0C) } (order { order1 with slot := 0, parcel2 := 6 }
      hub), by decide +kernel⟩,
    ⟨0, 0, [0, 0xFE] ++ (0x40 :: List.replicate 15 0) ++ natBe 2 (crc16Sd (0x40 :: List.replicate 15 0)), ([0, 0xFE]
      ++ (0x40 :: List.replicate 15 0) ++ natBe 2 (crc16Sd (0x40 :: List.replicate 15 0))).drop 1, 0x40 ::
      List.replicate 15 0, { runs 0x0C with param := 2 }, { order1 with slot := 0, parcel2 := 6 }, slot 0
      { st := .ready, sd := { cap := 8 }, run := some { runs 0x0C with param := 2 } } (order
      { order1 with slot := 0, parcel2 := 6 } hub), by decide +kernel⟩,
    ⟨0, [], runs 0x0C, slot 0 { st := .ready, sd := { cap := 8 }, run := some (runs 0x0C) } (order
      { order1 with slot := 0 } hub), by decide +kernel⟩⟩

/-- The hypotheses of `Obligations.RandomSource` are met, and in each of its cases those of that case. -/
theorem witness_RandomSource :
    (∃ (o : Order) (raw : List Byte) (s : State), (healthRun s.rnd.health (rawBits raw)).isSome = true ∧ nonceTurn s =
      some o ∧ o.opcode = 0x0D ∧ o.stage = .waiting ∧ bootEnd s = false ∧ rollNeeded s = false ∧ s.rnd.ready = true ∧
      2 ≤ s.rnd.pool.length ∧ mayDispatch s = true ∧ o.parcel1 < 512 ∧ o.discard = false ∧ (parcelGet s
      o.parcel1).freeLater = false ∧ ((∀ x ∈ s.ord.orders, isNonce x.opcode = true → x.id = o.id))) ∧
    (∃ (o : Order) (raw : List Byte) (s : State), (healthRun s.rnd.health (rawBits raw)).isSome = true ∧ nonceTurn s =
      some o ∧ o.opcode = 0x0D ∧ o.stage = .waiting ∧ bootEnd s = true ∧ ((∀ x ∈ s.ord.orders, isNonce x.opcode = true
      → x.id = o.id))) ∧
    (∃ (o : Order) (raw : List Byte) (s : State), (healthRun s.rnd.health (rawBits raw)).isSome = true ∧ nonceTurn s =
      some o ∧ o.opcode = 0x0D ∧ o.stage = .waiting ∧ bootEnd s = false ∧ rollNeeded s = true) ∧
    (∃ (o : Order) (raw : List Byte) (s : State), s.rnd.ready = true ∧ sourceRuns s = true ∧ healthRun s.rnd.health
      (rawBits raw) = none ∧ nonceTurn s = some o ∧ orderGet s o.id = some o ∧ o.opcode = 0x0D ∧ o.stage = .waiting ∧
      bootEnd s = false ∧ rollNeeded s = false ∧ ((∀ x ∈ s.ord.orders, x.opcode = 0x0E → x.stage ≠ .dispatched))) ∧
    (∃ (o : Order) (s : State), nonceTurn s = some o ∧ orderGet s o.id = some o ∧ o.opcode = 0x0E ∧ o.stage = .waiting
      ∧ o.progress = 0 ∧ s.rnd.ready = true ∧ mayDispatch s = true ∧ o.length ≤ s.rnd.pool.length ∧ ((∀ x ∈
      s.ord.orders, isNonce x.opcode = true → x.id = o.id))) ∧
    (∃ (s : State), s.rnd.ready = false) ∧
    (∃ (bad : Nat) (s : State), s.rnd.rolling = true ∧ s.sup.pf = false ∧ (∀ x ∈ s.ord.orders, isNonce x.opcode =
      false) ∧ bad = 0) ∧
    (∃ (raw : List Byte) (h : Health) (s : State), s.rnd.testing = true ∧ sourceRuns s = true ∧ healthRun {} (rawBits
      raw) = some h) ∧
    (∃ (raw : List Byte) (s : State), s.rnd.testing = true ∧ sourceRuns s = true ∧ healthRun {} (rawBits raw) = none) ∧
    (∃ (s : State), sourceRuns s = true ∧ s.rnd.ready = false ∧ s.rnd.testing = false) ∧
    (∃ (raw : List Byte) (s : State), s.rnd.ready = true ∧ sourceRuns s = true ∧ healthRun s.rnd.health (rawBits raw)
      = none ∧ ((∀ o ∈ s.ord.orders, ¬ (o.opcode = 0x0E ∧ o.stage = .dispatched)))) ∧
    (∃ (o : Order) (raw : List Byte) (s : State), s.rnd.ready = true ∧ sourceRuns s = true ∧ healthRun s.rnd.health
      (rawBits raw) = none ∧ s.ord.orders.filter (fun o => decide (o.opcode = 0x0E) && decide (o.stage = .dispatched))
      = [o]) ∧
    (∃ (raw : List Byte) (h : Health) (s : State), s.rnd.ready = true ∧ sourceRuns s = true ∧ healthRun s.rnd.health
      (rawBits raw) = some h ∧ (∀ x ∈ s.ord.orders, isNonce x.opcode = false)) ∧
    (∃ (raw : List Byte) (s : State), s.rnd.ready = true ∧ sourceRuns s = true ∧ healthRun s.rnd.health (rawBits raw)
      = none) ∧
    (∃ (p : Port) (b : Byte) (rest : List Byte) (s : State), Admitted s p false 0x601 ∧ NotReplayed s ∧ s.rnd.ready =
      true ∧ s.rnd.pool = b :: rest) ∧
    (∃ (p : Port) (s : State), Admitted s p false 0x601 ∧ NotReplayed s ∧ (s.rnd.ready = false ∨ s.rnd.pool = [])) ∧
    (∃ (b : Byte) (c : Byte) (rest : List Byte) (s : State), Admitted s .a false 0x601 ∧ Admitted s .b false 0x601 ∧
      NotReplayed s ∧ s.rnd.ready = true ∧ s.rnd.pool = b :: c :: rest) :=
  ⟨
    ⟨{ order0 with stage := .waiting, opcode := 0x0D, parcel1 := 5, length := 0 }, [0x55], uRnd (fun x =>
      { x with ready := true, rolling := false, nboot := 3, ncount := 258, pool := [7, 9, 11] }) (parcel 5
      { owner := some .a } (order { order0 with stage := .waiting, opcode := 0x0D, parcel1 := 5, length := 0 } hub)),
      by decide +kernel⟩,
    ⟨{ order0 with stage := .waiting, opcode := 0x0D, parcel1 := 5 }, [0x55], uRnd (fun x =>
      { x with ready := true, nboot := 0xFFFFFF, pool := [7, 9, 11] }) (order
      { order0 with stage := .waiting, opcode := 0x0D, parcel1 := 5 } hub), by decide +kernel⟩,
    ⟨{ order0 with stage := .waiting, opcode := 0x0D, parcel1 := 5 }, [0x55], uRnd (fun x =>
      { x with ready := true, ncount := 0x1000000, pool := [7, 9, 11] }) (order
      { order0 with stage := .waiting, opcode := 0x0D, parcel1 := 5 } hub), by decide +kernel⟩,
    ⟨{ order0 with stage := .waiting, opcode := 0x0D, parcel1 := 5, length := 0 }, List.replicate 6 0, uRnd (fun x =>
      { x with ready := true, rolling := false, nboot := 3, ncount := 258, pool := [7, 9, 11] }) (parcel 5
      { owner := some .a } (order { order0 with stage := .waiting, opcode := 0x0D, parcel1 := 5, length := 0 } hub)),
      by decide +kernel⟩,
    ⟨{ order0 with stage := .waiting, opcode := 0x0E, parcel1 := 5, length := 2 }, uRnd (fun x =>
      { x with ready := true, pool := [7, 9, 11] }) (parcel 5 { owner := some .a } (order
      { order0 with stage := .waiting, opcode := 0x0E, parcel1 := 5, length := 2 } hub)), by decide +kernel⟩,
    ⟨uRnd (fun x => { x with ready := false }) (order { order0 with opcode := 0x0E, parcel1 := 5, length := 2 } hub),
      by decide +kernel⟩,
    ⟨0, uRnd (fun x => { x with rolling := true, nboot := 4, ncount := 0x1000000 }) hub, by decide +kernel⟩,
    ⟨[0x55], ((healthRun {} (rawBits [0x55])).getD {}), uRnd (fun x => { x with testing := true, ready := false })
      hub, by decide +kernel⟩,
    ⟨List.replicate 6 0, uRnd (fun x => { x with testing := true, ready := false }) hub, by decide +kernel⟩,
    ⟨uRnd (fun x => { x with testing := false, ready := false }) hub, by decide +kernel⟩,
    ⟨List.replicate 6 0, uRnd (fun x => { x with ready := true, pool := [3] }) hub, by decide +kernel⟩,
    ⟨{ order0 with opcode := 0x0E, stage := .dispatched, length := 40, progress := 3 }, List.replicate 6 0, uRnd (fun
      x => { x with ready := true, pool := [3] }) (order
      { order0 with opcode := 0x0E, stage := .dispatched, length := 40, progress := 3 } hub), by decide +kernel⟩,
    ⟨[0x55], ((healthRun {} (rawBits [0x55])).getD {}), uRnd (fun x => { x with ready := true, pool := [3] }) hub,
      by decide +kernel⟩,
    ⟨List.replicate 6 0, uRnd (fun x => { x with ready := true, pool := [3] }) hub, by decide +kernel⟩,
    ⟨.b, 3, [4], uRnd (fun x => { x with ready := true, pool := [3, 4] }) hub, by decide +kernel⟩,
    ⟨.b, uRnd (fun x => { x with ready := true, pool := [] }) hub, by decide +kernel⟩,
    ⟨3, 255, [4], uRnd (fun x => { x with ready := true, pool := [3, 255, 4] }) hub, by decide +kernel⟩⟩

/-- The hypotheses of `Obligations.OneTimeStore` are met, and in each of its cases those of that case. -/
theorem witness_OneTimeStore :
    (∃ (p : Port) (s : State), WriteAdmitted s p 0x611 ∧ keyHeld s p 0x611 = false) ∧
    (∃ (p : Port) (s : State), WriteAdmitted s p 0x611 ∧ keyHeld s p 0x611 = true) ∧
    (∃ (p : Port) (data : Word) (s : State), WriteAdmitted s p 0x611 ∧ data ≠ (if keyHeld s p 0x611 then 0x34B else
      0x0B4)) ∧
    (∃ (p : Port) (s : State), WriteAdmitted s p 0x612) ∧
    (∃ (c : Nat) (h : Nat) (s : State), s.rnd.otpCmd = some (c, h)) ∧
    (∃ (c : Nat) (h : Nat) (s : State), s.rnd.otpCmd = some (c, h) ∧ Live s ∧ NoneContained s .rnd) ∧
    (∃ (s : State), s.sys.state ≠ .off ∧ s.pins.vioOk = true ∧ s.rnd.otp.debugOpen = true) ∧
    (∃ (code : Nat) (s : State), Live s ∧ s.pins.vioOk = true ∧ s.rnd.otp.debugOpen = false ∧ code = 0) ∧
    (∃ (code : Nat) (s : State), Live s ∧ s.pins.vioOk = true ∧ s.rnd.otp.debugOpen = false ∧ code ≠ 0) :=
  ⟨
    ⟨.a, hub, by decide +kernel⟩,
    ⟨.a, port .a (fun x => { x with keys := [0x611] }) hub, by decide +kernel⟩,
    ⟨.a, 0x0B4, port .a (fun x => { x with keys := [0x611] }) hub, by decide +kernel⟩,
    ⟨.a, uRnd (fun x => { x with armed := some .a, armAt := 5000000, hashWin := List.replicate 32 5 }) hub,
      by decide +kernel⟩,
    ⟨1, 77, uRnd (fun x => { x with armed := some .a, otpCmd := some (1, 77), otpBusy := true }) hub,
      by decide +kernel⟩,
    ⟨4, 77, uRnd (fun x => { x with armed := some .a, otpCmd := some (4, 77), otpBusy := true }) hub,
      by decide +kernel⟩,
    ⟨uRnd (fun x => { x with otp := { debugOpen := true } }) hub, by decide +kernel⟩,
    ⟨0, hub, by decide +kernel⟩,
    ⟨1, hub, by decide +kernel⟩⟩

/-- The hypotheses of `Obligations.LedgerAndStandby` are met, and in each of its cases those of that case. -/
theorem witness_LedgerAndStandby :
    (∃ (p : Port) (data : Word) (s : State), WriteAdmitted s p 0x381 ∧ NotReplayed s ∧ data.getLsbD 0 = s.ldg.battery) ∧
    (∃ (p : Port) (data : Word) (s : State), WriteAdmitted s p 0x381 ∧ NotReplayed s ∧ data.getLsbD 0 ≠ s.ldg.battery) ∧
    (∃ (p : Port) (data : Word) (s : State), WriteAdmitted s p 0x385 ∧ NotReplayed s ∧ (portGet s p).shadow = none ∧
      data.toNat + 1024 * (s.ldg.battRem / 1024) ≤ 10230) ∧
    (∃ (p : Port) (data : Word) (s : State), WriteAdmitted s p 0x385 ∧ NotReplayed s ∧ (portGet s p).shadow = none ∧
      10230 < data.toNat + 1024 * (s.ldg.battRem / 1024)) ∧
    (∃ (p : Port) (s : State), WriteAdmitted s p 0x501 ∧ keyHeld s p 0x501 = false) ∧
    (∃ (p : Port) (s : State), WriteAdmitted s p 0x501 ∧ keyHeld s p 0x501 = true ∧ sleepRefusal s = 0) ∧
    (∃ (p : Port) (s : State), WriteAdmitted s p 0x501 ∧ keyHeld s p 0x501 = true ∧ sleepRefusal s ≠ 0) ∧
    (∃ (p : Port) (s : State), WriteAdmitted s p 0x501 ∧ keyHeld s p 0x501 = true ∧ s.sys.state = .run) ∧
    (∃ (p : Port) (s : State), WriteAdmitted s p 0x502 ∧ s.sys.state = .standby) ∧
    (∃ (p : Port) (data : Word) (s : State), WriteAdmitted s p 0x502 ∧ data ≠ 1) :=
  ⟨
    ⟨.a, 1, uLdg (fun x => { x with battery := true }) hub, by decide +kernel⟩,
    ⟨.a, 0, uLdg (fun x => { x with battery := true }) hub, by decide +kernel⟩,
    ⟨.b, 1014, uLdg (fun x => { x with battRem := 9217 }) hub, by decide +kernel⟩,
    ⟨.b, 1015, uLdg (fun x => { x with battRem := 9217 }) hub, by decide +kernel⟩,
    ⟨.b, hub, by decide +kernel⟩,
    ⟨.b, port .b (fun x => { x with keys := [0x501, 0x611] }) hub, by decide +kernel⟩,
    ⟨.b, inState .standby (port .b (fun x => { x with keys := [0x501, 0x611] }) hub), by decide +kernel⟩,
    ⟨.b, port .b (fun x => { x with keys := [0x501, 0x611] }) hub, by decide +kernel⟩,
    ⟨.b, inState .standby hub, by decide +kernel⟩,
    ⟨.b, 3, hub, by decide +kernel⟩⟩

/-- The hypotheses of `Obligations.HubFaults` are met, and in each of its cases those of that case. -/
theorem witness_HubFaults :
    (∃ (blk : Nat) (kind : Nat) (w : Word) (b : FBlk) (s : State), blkOfNumber (blk % 32) (if blk < 32 then .a else
      .b) = some b ∧ watches s = true ∧ hasFaultWord b kind = true ∧ oddOnes w = false) ∧
    (∃ (w : Word), oddOnes w = true) ∧
    (∃ (s : State), watches s = true) ∧
    (∃ (s : State), watches s = true) ∧
    (∃ (s : State), checksRipcord s = true) ∧
    (∃ (p : Port) (addr : Addr) (b : FBlk) (s : State), addr.toNat < 0xF00 ∧ faultWordAt p addr.toNat = some (b, 1) ∧
      accOf addr.toNat = .wo ∧ WriteAdmitted s p addr.toNat) ∧
    (∃ (s : State), silencePassed s = true ∧ ringLive s = true) :=
  ⟨
    ⟨1, 0, 3, .sys, hub, by decide +kernel⟩,
    ⟨7, by decide +kernel⟩,
    ⟨hub, by decide +kernel⟩,
    ⟨hub, by decide +kernel⟩,
    ⟨hub, by decide +kernel⟩,
    ⟨.a, 0x0A1, .hst .a, hub, by decide +kernel⟩,
    ⟨uTth (fun x => { x with safeSince := some 3 }) (uSys (fun x => { x with tick := 5000000000 }) hub),
      by decide +kernel⟩⟩

/-- The hypotheses of `Obligations.EventLog` are met, and in each of its cases those of that case. -/
theorem witness_EventLog :
    (∃ (r : LogRec) (l : List LogRec) (retries : Nat) (s : State), s.log.queue = r :: l ∧ logWrites s = true ∧
      headFull s = false ∧ retries ≤ 1 ∧ r.seq ≠ 0x3FFFFFFF) ∧
    (∃ (r : LogRec) (l : List LogRec) (s : State), s.log.queue = r :: l ∧ logWrites s = true ∧ headFull s = false ∧
      Live s ∧ NoneContained s .log ∧ r.seq = 0x3FFFFFFF) ∧
    (∃ (r : LogRec) (l : List LogRec) (retries : Nat) (s : State), s.log.queue = r :: l ∧ logWrites s = true ∧
      headFull s = false ∧ 2 ≤ retries ∧ retries ≤ 8 ∧ Live s ∧ r.seq ≠ 0x3FFFFFFF ∧ (sectorGet s (physSector s 164
      (344 + s.log.head))).status = 0) ∧
    (∃ (r : LogRec) (l : List LogRec) (retries : Nat) (k : Nat) (s : State), s.log.queue = r :: l ∧ logWrites s = true
      ∧ headFull s = false ∧ 8 < retries ∧ freeSpare s = some k ∧ k ≠ physSector s 164 (344 + s.log.head) ∧ Live s ∧
      NoneContained s .log ∧ r.seq ≠ 0x3FFFFFFF) ∧
    (∃ (i : Nat) (retries : Nat) (s : State), eraseTarget s = some i ∧ logErasing s = true ∧ reserveErasing s = false
      ∧ fetchReads s i = false ∧ retries ≤ 1) ∧
    (∃ (retries : Nat) (s : State), (s.sys.state = .run ∨ s.sys.state = .standby) ∧ s.sup.pf = false ∧ retries ≤ 1) ∧
    (∃ (s : State), (s.sys.state = .run ∨ s.sys.state = .standby) ∧ s.sup.pf = true) ∧
    (∃ (p : Port) (s : State), WriteAdmitted s p 0x593 ∧ (perPortGet s.log.fetch p).busy = false) ∧
    (∃ (p : Port) (s : State), WriteAdmitted s p 0x593 ∧ (perPortGet s.log.fetch p).busy = true) ∧
    (∃ (p : Port) (b : List Byte) (s : State), (perPortGet s.log.fetch p).busy = true ∧ fetchFind s (perPortGet
      s.log.fetch p).want = some b) ∧
    (∃ (p : Port) (s : State), (perPortGet s.log.fetch p).busy = true ∧ fetchFind s (perPortGet s.log.fetch p).want =
      none) :=
  ⟨
    ⟨{ seq := 0, type := 1, tick := 4 }, [], 1, uLog (fun x =>
      { x with next := 1, queue := [{ seq := 0, type := 1, tick := 4 }] }) hub, by decide +kernel⟩,
    ⟨{ seq := 0x3FFFFFFF, type := 1, tick := 4 }, [], uLog (fun x =>
      { x with next := 1, queue := [{ seq := 0x3FFFFFFF, type := 1, tick := 4 }] }) hub, by decide +kernel⟩,
    ⟨{ seq := 0, type := 1, tick := 4 }, [], 2, uLog (fun x =>
      { x with next := 1, queue := [{ seq := 0, type := 1, tick := 4 }] }) hub, by decide +kernel⟩,
    ⟨{ seq := 0, type := 1, tick := 4 }, [], 9, 860, uLog (fun x =>
      { x with next := 1, queue := [{ seq := 0, type := 1, tick := 4 }] }) hub, by decide +kernel⟩,
    ⟨3, 1, uSup (fun x => { x with reserve := 2 }) (uLog (fun x =>
      { x with ring := [(0, { slots := List.replicate 16 none }), (3, { snap := true }), (4, { snap := true }), (5, { slots := [none] })], snaps := [(3, 4, { seq := 1, tick := 2, boot := 0, site := 0, words := [] })] })
      hub), by decide +kernel⟩,
    ⟨0, hub, by decide +kernel⟩,
    ⟨uSup (fun x => { x with pf := true }) hub, by decide +kernel⟩,
    ⟨.a, hub, by decide +kernel⟩,
    ⟨.a, uLog (fun x => { x with fetch := ⟨{ busy := true }, {}⟩ }) hub, by decide +kernel⟩,
    ⟨.a, recordBytes { seq := 5, type := 1, tick := 4 }, uLog (fun x =>
      { x with fetch := ⟨{ busy := true, want := some 5 }, {}⟩, queue := [{ seq := 5, type := 1, tick := 4 }] }) hub,
      by decide +kernel⟩,
    ⟨.a, uLog (fun x => { x with fetch := ⟨{ busy := true, want := some 5 }, {}⟩ }) hub, by decide +kernel⟩⟩

/-- The hypotheses of `Obligations.UpdateStaging` are met, and in each of its cases those of that case. -/
theorem witness_UpdateStaging :
    (∃ (p : Port) (data : Word) (s : State), WriteAdmitted s p 0x682 ∧ inRange (data.toNat / 8 % 8) 1 4 = true ∧
      openRefusal s p (data.toNat / 8 % 8) = 0) ∧
    (∃ (p : Port) (data : Word) (s : State), WriteAdmitted s p 0x682 ∧ (inRange (data.toNat / 8 % 8) 1 4 = false ∨
      openRefusal s p (data.toNat / 8 % 8) ≠ 0)) ∧
    (∃ (p : Port) (s : State), WriteAdmitted s p 0x682 ∧ s.upd.owner = .port p ∧ s.sys.state ≠ .recovery ∧ inRange
      s.upd.phase 1 3 = true) ∧
    (∃ (p : Port) (s : State), WriteAdmitted s p 0x682 ∧ s.upd.owner = .port p ∧ s.sys.state = .recovery ∧ s.upd.wrote
      = true ∧ s.upd.hold = false ∧ s.ord.orders = []) ∧
    (∃ (p : Port) (s : State), WriteAdmitted s p 0x682 ∧ s.upd.owner ≠ .port p) ∧
    (∃ (p : Port) (s : State), WriteAdmitted s p 0x682 ∧ pendingBank s = none) ∧
    (∃ (p : Port) (s : State), WriteAdmitted s p 0x682 ∧ s.sys.state ≠ .recovery) ∧
    (∃ (p : Port) (s : State), WriteAdmitted s p 0x682 ∧ s.sys.state = .recovery) ∧
    (∃ (p : Port) (data : Word) (s : State), WriteAdmitted s p 0x6BF ∧ inRange data.toNat 1 64 = true ∧ pushRefused s
      p data.toNat = 0 ∧ s.upd.count + data.toNat < 1024) ∧
    (∃ (p : Port) (data : Word) (s : State), WriteAdmitted s p 0x6BF ∧ inRange data.toNat 1 64 = true ∧ pushRefused s
      p data.toNat = 0 ∧ 1024 ≤ s.upd.count ∧ s.upd.count + data.toNat = 1024 + payloadLen s.upd.image ∧ s.sup.pf =
      false) ∧
    (∃ (p : Port) (data : Word) (s : State), WriteAdmitted s p 0x6BF ∧ inRange data.toNat 1 64 = true ∧ pushRefused s
      p data.toNat = 0 ∧ 1024 ≤ s.upd.count ∧ s.upd.count + data.toNat = 1024 + payloadLen s.upd.image ∧ s.sup.pf =
      true) ∧
    (∃ (p : Port) (data : Word) (s : State), WriteAdmitted s p 0x6BF ∧ inRange data.toNat 1 64 = true ∧ pushRefused s
      p data.toNat ≠ 0) ∧
    (∃ (s : State), s.upd.phase = 2 ∧ s.sup.pf = false ∧ s.sys.state ≠ .recovery ∧ hashOk s.upd.image = true ∧
      imageTarget s.upd.image = 1 ∧ nextGen s.upd.bankA.generation s.upd.bankA.complement s.upd.bankB.generation
      s.upd.bankB.complement < 0xFFFFFFFF ∧ s.upd.runBank ≤ 1) ∧
    (∃ (s : State), s.upd.phase = 2 ∧ s.sup.pf = false ∧ hashOk s.upd.image = false ∧ Live s) ∧
    (∃ (s : State), (s.sup.pf = true ∨ (s.upd.phase ≠ 2 ∧ s.upd.phase ≠ 3))) :=
  ⟨
    ⟨.a, 0x08, hub, by decide +kernel⟩,
    ⟨.a, 0x08, uUpd (fun x => { x with owner := .card }) hub, by decide +kernel⟩,
    ⟨.a, uUpd (fun x => { x with owner := .port .a, phase := 1, image := [(0, 1)], count := 5, target := 3 }) hub,
      by decide +kernel⟩,
    ⟨.b, uUpd (fun x => { x with owner := .port .b, phase := 4, wrote := true }) (inState .recovery hub),
      by decide +kernel⟩,
    ⟨.b, hub, by decide +kernel⟩,
    ⟨.b, hub, by decide +kernel⟩,
    ⟨.b, hub, by decide +kernel⟩,
    ⟨.b, inState .recovery hub, by decide +kernel⟩,
    ⟨.b, 0x001, uUpd (fun x =>
      { x with owner := .port .b, phase := 1, count := 5, room := 3, window := [(0, 0x145), (1, 0x1FF)], image := [(0, 3), (4, 9)] })
      hub, by decide +kernel⟩,
    ⟨.b, 2, uUpd (fun x =>
      { x with owner := .port .b, phase := 1, count := 1024, room := 3, window := [(0, 0x145), (1, 0x1FF)], image := [(0, 3), (20, 2), (21, 0), (22, 0), (23, 0)] })
      hub, by decide +kernel⟩,
    ⟨.b, 2, uSup (fun x => { x with pf := true }) (uUpd (fun x =>
      { x with owner := .port .b, phase := 1, count := 1024, room := 3, window := [(0, 0x145), (1, 0x1FF)], image := [(0, 3), (20, 2), (21, 0), (22, 0), (23, 0)] })
      hub), by decide +kernel⟩,
    ⟨.b, 2, uUpd (fun x =>
      { x with owner := .port .b, phase := 1, count := 1024, room := 3, window := [(0, 0x145), (1, 0x1FF)], image := [(0, 3), (20, 1), (21, 0), (22, 0), (23, 0)] })
      hub, by decide +kernel⟩,
    ⟨uUpd (fun x =>
      { x with owner := .port .b, phase := 2, count := 1024, image := emptyImage, bankA := { generation := 3, complement := 0xFFFFFFFC } })
      hub, by decide +kernel⟩,
    ⟨uUpd (fun x =>
      { x with owner := .port .b, phase := 2, count := 1024, image := [(6, 1), (20, 0), (21, 0), (22, 0), (23, 0)] })
      hub, by decide +kernel⟩,
    ⟨uSup (fun x => { x with pf := true }) (uUpd (fun x => { x with owner := .port .b, phase := 2 }) hub),
      by decide +kernel⟩⟩

/-- The hypotheses of `Obligations.TrialsAndFetches` are met, and in each of its cases those of that case. -/
theorem witness_TrialsAndFetches :
    (∃ (s : State), s.sys.trial = true ∧ s.upd.trialStart ≠ none ∧ s.upd.deferred = false ∧ s.upd.confirmDue = false ∧
      (s.sys.alarm = true ∨ s.sup.pf = true)) ∧
    (∃ (s : State), s.sys.trial = true ∧ s.sys.alarm = false ∧ s.sup.pf = false ∧ s.upd.confirmDue = false ∧ canWarm s
      = true ∧ s.upd.runBank ≤ 1 ∧ s.upd.trialStart ≠ none ∧ s.upd.deferred = false) ∧
    (∃ (s : State), s.sys.trial = true ∧ s.sys.alarm = false ∧ s.sup.pf = false ∧ s.upd.confirmDue = false ∧ canWarm s
      = true ∧ s.upd.runBank ≤ 1 ∧ s.upd.deferred = true) ∧
    (∃ (p : Port) (s : State), WriteAdmitted s p 0x687 ∧ keyHeld s p 0x687 = false) ∧
    (∃ (p : Port) (s : State), WriteAdmitted s p 0x687 ∧ keyHeld s p 0x687 = true ∧ s.sys.trial = true ∧ s.sys.state =
      .run ∧ s.sup.pf = false ∧ s.upd.runBank ≤ 1) ∧
    (∃ (p : Port) (s : State), WriteAdmitted s p 0x687 ∧ keyHeld s p 0x687 = true ∧ s.sys.trial = true ∧ s.sys.state =
      .run ∧ s.sup.pf = true) ∧
    (∃ (p : Port) (s : State), WriteAdmitted s p 0x687 ∧ keyHeld s p 0x687 = true ∧ (s.sys.trial = false ∨ s.sys.state
      ≠ .run)) ∧
    (∃ (cap : Nat) (fault : Nat) (m : List (Nat × List Byte)) (o : Order) (r : Running) (s : State), orderGet s o.id =
      some o ∧ o.opcode = 0x13 ∧ o.stage = .dispatched ∧ s.upd.phase ≠ 3 ∧ (slotGet s 0).st = .updating ∧ (slotGet s
      0).fallTo = some .ready ∧ (slotGet s 0).run = some r ∧ r.oid = o.id ∧ (fault ≠ 0 ∨ (fetchTakes s o.param cap
      m).2.2 = []) ∧ fault = 0) ∧
    (∃ (cap : Nat) (fault : Nat) (m : List (Nat × List Byte)) (o : Order) (s : State), orderGet s o.id = some o ∧
      o.opcode = 0x13 ∧ o.stage = .dispatched ∧ s.upd.phase ≠ 3 ∧ (slotGet s 0).st = .updating ∧ (slotGet s 0).fallTo
      = none ∧ (fault ≠ 0 ∨ (fetchTakes s o.param cap m).2.2 = [])) ∧
    (∃ (cap : Nat) (fault : Nat) (m : List (Nat × List Byte)) (s : State), s.sys.state = .recovery ∧ (slotGet s 0).st
      = .present ∧ s.sup.vsl5Ok = true ∧ jobRuns s = false ∧ s.upd.owner = .none ∧ s.upd.flowRan = false ∧ (fault ≠ 0
      ∨ findPartition cap m = none)) ∧
    (∃ (s : State), (s.sys.state ≠ .recovery ∨ (slotGet s 0).st ≠ .present ∨ s.sup.vsl5Ok = false ∨ jobRuns s = true ∨
      s.upd.flowRan = true)) ∧
    (∃ (o : Order) (s : State), orderGet s o.id = some o ∧ o.opcode = 0x12 ∧ o.stage = .dispatched ∧ o.progress ≤ 1 ∧
      ringLive s = true ∧ s.upd.satPos = 0x3FF ∧ NothingSent s (slotPos o.slot) ∧ (∀ id ∈ slotsOf (slotPos o.slot),
      viewPowered (slotViewGet s id) = false)) ∧
    (∃ (pos : Nat) (s : State), ringLive s = true ∧ s.upd.satPos = 4 * pos ∧ s.upd.satPhase = 1 ∧ NothingSent s pos) ∧
    (∃ (pos : Nat) (o : Order) (s : State), ringLive s = true ∧ s.upd.satPos = 4 * pos ∧ s.upd.satPhase ≤ 3 ∧ satOrder
      s pos 0x12 = some o) ∧
    (∃ (sat : Nat) (s : State), (satGet s sat).erasing = true) :=
  ⟨
    ⟨uSys (fun x => { x with trial := true, alarm := true }) (uUpd (fun x =>
      { x with trialStart := some 5, deferred := false }) hub), by decide +kernel⟩,
    ⟨uSys (fun x => { x with trial := true, alarm := false }) (uUpd (fun x =>
      { x with trialStart := some 5, deferred := false }) hub), by decide +kernel⟩,
    ⟨uSys (fun x => { x with trial := true, alarm := false }) (uUpd (fun x =>
      { x with trialStart := some 5, deferred := true }) hub), by decide +kernel⟩,
    ⟨.b, hub, by decide +kernel⟩,
    ⟨.b, port .b (fun x => { x with keys := [0x687] }) (uSys (fun x => { x with trial := true }) (uUpd (fun x =>
      { x with trialStart := some 5, bankA := { image := [(7, 1), (12, 9), (13, 0), (14, 0), (15, 0)], written := true } })
      hub)), by decide +kernel⟩,
    ⟨.b, uSup (fun x => { x with pf := true }) (port .b (fun x => { x with keys := [0x687] }) (uSys (fun x =>
      { x with trial := true }) (uUpd (fun x =>
      { x with trialStart := some 5, bankA := { image := [(7, 1), (12, 9), (13, 0), (14, 0), (15, 0)], written := true } })
      hub))), by decide +kernel⟩,
    ⟨.b, port .b (fun x => { x with keys := [0x687] }) hub, by decide +kernel⟩,
    ⟨64, 0, [], { order0 with opcode := 0x13, slot := 0, stage := .dispatched },
      { opcode := 0x13, param := 0, length := 0, oid := order0.id, begun := true }, order
      { order0 with opcode := 0x13, slot := 0, stage := .dispatched } (slot 0
      { st := .updating, fallTo := some .ready, run := some ({ opcode := 0x13, param := 0, length := 0, oid := order0.id, begun := true }), cfg := { kind := .sd }, pins := { vccOn := true } }
      hub), by decide +kernel⟩,
    ⟨64, 1, [], { order0 with opcode := 0x13, slot := 0, stage := .dispatched }, order
      { order0 with opcode := 0x13, slot := 0, stage := .dispatched } (slot 0
      { st := .updating, run := some ({ opcode := 0x13, param := 0, length := 0, oid := order0.id, begun := true }), cfg := { kind := .sd }, pins := { vccOn := true } }
      hub), by decide +kernel⟩,
    ⟨64, 1, [], uSup (fun x => { x with vsl5Ok := true }) (slot 0
      { st := .present, det := true, cfg := { kind := .sd } } (inState .recovery hub)), by decide +kernel⟩,
    ⟨hub, by decide +kernel⟩,
    ⟨{ order0 with opcode := 0x12, slot := 4, stage := .dispatched }, uUpd (fun x =>
      { x with store0 := { image := [(20, 3), (21, 0), (22, 0), (23, 0)], written := true } }) (view 1
      { state := .active, uid := 5 } (zg 1 zg0 (order { order0 with opcode := 0x12, slot := 4, stage := .dispatched }
      hub))), by decide +kernel⟩,
    ⟨1, uUpd (fun x => { x with satPos := 4, satPhase := 1 }) (view 1 { state := .active, uid := 5 } (zg 1 zg0 hub)),
      by decide +kernel⟩,
    ⟨1, { order0 with opcode := 0x12, slot := 4, stage := .dispatched }, uUpd (fun x =>
      { x with satPos := 4, satPhase := 1 }) (view 1 { state := .active, uid := 5 } (zg 1 zg0 (order
      { order0 with opcode := 0x12, slot := 4, stage := .dispatched } hub))), by decide +kernel⟩,
    ⟨1, zg 1 { zg0 with erasing := true } hub, by decide +kernel⟩⟩

/-- The hypotheses of `Obligations.RigCommands` are met, and in each of its cases those of that case. -/
theorem witness_RigCommands :
    (∃ (p : Port) (s : State), WriteAdmitted s p 0x70A ∧ s.rig.job = none ∧ s.rig.owner ≠ some p.other) ∧
    (∃ (p : Port) (s : State), WriteAdmitted s p 0x70A ∧ (s.rig.job ≠ none ∨ s.rig.owner = some p.other)) ∧
    (∃ (s : State), WriteAdmitted s .a 0x70A ∧ WriteAdmitted s .b 0x70A ∧ s.rig.job = none ∧ s.rig.owner = none) ∧
    (∃ (p : Port) (s : State), WriteAdmitted s p 0x70A ∧ s.rig.job = none ∧ s.rig.owner = some p) ∧
    (∃ (p : Port) (s : State), WriteAdmitted s p 0x70A ∧ s.sys.state = .run) ∧
    (∃ (j : RigJob) (s : State), s.rig.job = some j ∧ (s.sys.state = .run ∨ s.sys.state = .standby) ∧ j.releaseAfter =
      false ∧ ((checkRig s rigMax 0 (stagedWords j.words)).reason ≠ 0 ∨ j.cmd = 3)) ∧
    (∃ (j : RigJob) (s : State), s.rig.job = some j ∧ (s.sys.state = .run ∨ s.sys.state = .standby) ∧ j.cmd = 5 ∧
      j.releaseAfter = false ∧ (checkRig s rigMax 0 (stagedWords j.words)).reason = 0 ∧ s.sup.pf = false ∧ s.rig.bank
      ≤ 1 ∧ nextGen s.rig.bankA.generation s.rig.bankA.complement s.rig.bankB.generation s.rig.bankB.complement <
      0xFFFFFFFF) ∧
    (∃ (j : RigJob) (s : State), s.rig.job = some j ∧ s.sys.state = .run ∧ j.cmd = 4 ∧ j.releaseAfter = false ∧
      (checkRig s rigMax 0 (stagedWords j.words)).reason = 0 ∧ needsRestart (checkRig s rigMax 0 (stagedWords
      j.words)).rig s.rig.running = true) ∧
    (∃ (j : RigJob) (s : State), s.rig.job = some j ∧ s.sys.state = .run ∧ j.cmd = 4 ∧ j.releaseAfter = false ∧
      (checkRig s rigMax 0 (stagedWords j.words)).reason = 0 ∧ needsRestart (checkRig s rigMax 0 (stagedWords
      j.words)).rig s.rig.running = false ∧ s.sup.pf = false ∧ s.rig.bank ≤ 1 ∧ nextGen s.rig.bankA.generation
      s.rig.bankA.complement s.rig.bankB.generation s.rig.bankB.complement < 0xFFFFFFFF) ∧
    (∃ (j : RigJob) (s : State), s.rig.job = some j ∧ (s.sys.state = .run ∨ s.sys.state = .standby) ∧ j.cmd = 5 ∧
      (checkRig s rigMax 0 (stagedWords j.words)).reason = 0 ∧ s.sup.pf = true) :=
  ⟨
    ⟨.b, uRig (fun x => { x with staging := [(3, 4)] }) hub, by decide +kernel⟩,
    ⟨.b, uRig (fun x => { x with owner := some .a, staging := [(3, 4)] }) hub, by decide +kernel⟩,
    ⟨hub, by decide +kernel⟩,
    ⟨.b, uRig (fun x => { x with owner := some .b, staging := [(3, 4)] }) hub, by decide +kernel⟩,
    ⟨.b, uRig (fun x => { x with owner := some .b, staging := rigStream }) hub, by decide +kernel⟩,
    ⟨{ cmd := 3, port := .b, words := rigStream }, uRig (fun x =>
      { x with owner := some .b, job := some { cmd := 3, port := .b, words := rigStream } }) hub, by decide +kernel⟩,
    ⟨{ cmd := 5, port := .b, words := rigStream }, uRig (fun x =>
      { x with owner := some .b, job := some { cmd := 5, port := .b, words := rigStream } }) hub, by decide +kernel⟩,
    ⟨{ cmd := 4, port := .b, words := rigStream }, uRig (fun x =>
      { x with owner := some .b, job := some { cmd := 4, port := .b, words := rigStream } }) hub, by decide +kernel⟩,
    ⟨{ cmd := 4, port := .b, words := rigStream }, uRig (fun x =>
      { x with running := (checkRig hub rigMax 0 (stagedWords rigStream)).rig, owner := some .b, job := some { cmd := 4, port := .b, words := rigStream } })
      hub, by decide +kernel⟩,
    ⟨{ cmd := 5, port := .b, words := rigStream }, uSup (fun x => { x with pf := true }) (uRig (fun x =>
      { x with owner := some .b, job := some { cmd := 5, port := .b, words := rigStream } }) hub), by decide +kernel⟩⟩

/-- The hypotheses of `Obligations.RecorderAndReplay` are met, and in each of its cases those of that case. -/
theorem witness_RecorderAndReplay :
    (∃ (s : State), s.rcd.recording = true ∧ (s.sys.state = .run ∨ s.sys.state = .standby)) ∧
    (∃ (s : State), s.rcd.delaying = true) ∧
    (∃ (p : Port) (s : State), WriteAdmitted s p 0x783 ∧ s.rcd.recording = true ∧ s.rcd.frozen = false ∧
      s.rcd.delaying = false) ∧
    (∃ (p : Port) (s : State), WriteAdmitted s p 0x783 ∧ s.rcd.frozen = true ∧ s.rcd.causeTick ≠ s.sys.tick) ∧
    (∃ (p : Port) (s : State), WriteAdmitted s p 0x783 ∧ s.rcd.frozen = true ∧ s.rcd.dumping = false) ∧
    (∃ (p : Port) (s : State), WriteAdmitted s p 0x783 ∧ s.rcd.dumping = true) ∧
    (∃ (p : Port) (s : State), WriteAdmitted s p 0x783 ∧ s.sys.state ≠ .replay) ∧
    (∃ (p : Port) (s : State), WriteAdmitted s p 0x783 ∧ s.sys.state = .replay) ∧
    (∃ (s : State), s.rcd.dumping = true ∧ s.sup.pf = false ∧ s.sys.state ≠ .off ∧ s.rcd.armed0 = true ∧ s.rcd.fcause
      ≠ 2) ∧
    (∃ (s : State), s.rcd.dumping = true ∧ s.sup.pf = false ∧ Live s ∧ s.sys.state ≠ .replay ∧ s.rcd.armed0 = true ∧
      s.rcd.fcause = 2) ∧
    (∃ (s : State), s.rcd.dumping = true ∧ s.sup.pf = false ∧ Live s ∧ s.rcd.armed0 = true) ∧
    (∃ (n : Nat) (s : State), s.rcd.dumping = true ∧ s.sup.pf = false ∧ Live s ∧ s.rcd.armed0 = true ∧ codeOf s.fb.rcd
      1 ≠ 4 ∧ n < s.rcd.ram.blocks.length ∧ s.rcd.ram.blocks.length ≤ 115) ∧
    (∃ (p : Port) (s : State), WriteAdmitted s p 0x784 ∧ keyHeld s p 0x784 = false) ∧
    (∃ (p : Port) (s : State), WriteAdmitted s p 0x784 ∧ keyHeld s p 0x784 = true ∧ replayRefusal s (portGet s
      p).recDsel ≠ 0) ∧
    (∃ (p : Port) (r : Recording) (x : Seed) (s : State), WriteAdmitted s p 0x784 ∧ keyHeld s p 0x784 = true ∧
      replayRefusal s (portGet s p).recDsel = 0 ∧ replaySource s (portGet s p).recDsel = some (r, x) ∧ s.upd.phase ≠
      3) ∧
    (∃ (outs : List OutEvent) (s : State), s.sys.state = .replay ∧ recordedSig (replayNow s) = signature outs ∧
      replayGap s = false ∧ replayRest s ≠ []) ∧
    (∃ (outs : List OutEvent) (s : State), s.sys.state = .replay ∧ recordedSig (replayNow s) ≠ signature outs ∧
      s.rcd.divcnt = 0 ∧ outs ≠ []) ∧
    (∃ (outs : List OutEvent) (s : State), s.sys.state = .replay ∧ recordedSig (replayNow s) ≠ signature outs ∧
      s.rcd.divcnt = 0 ∧ bitAt s.rcd.cfg 4 = false) ∧
    (∃ (outs : List OutEvent) (s : State), s.sys.state = .replay ∧ recordedSig (replayNow s) ≠ signature outs ∧
      s.rcd.divcnt = 0 ∧ bitAt s.rcd.cfg 4 = true ∧ replayGap s = false ∧ replayRest s ≠ []) ∧
    (∃ (outs : List OutEvent) (s : State), s.sys.state = .replay ∧ recordedSig (replayNow s) = signature outs ∧
      (replayGap s = true ∨ replayRest s = [])) ∧
    (∃ (s : State), s.sys.state ≠ .replay) :=
  ⟨
    ⟨uRcd (fun x => { x with recording := true, seeds := [{ tick := 5 }, { tick := 3 }] }) hub, by decide +kernel⟩,
    ⟨uRcd (fun x => { x with delaying := true, recording := true, ftick := 44, fcause := 3, armed0 := true }) hub,
      by decide +kernel⟩,
    ⟨.b, uRcd (fun x => { x with recording := true, frozen := false, delaying := false, armed0 := true }) hub,
      by decide +kernel⟩,
    ⟨.b, uRcd (fun x => { x with recording := false, frozen := true, missed := 4 }) hub, by decide +kernel⟩,
    ⟨.b, uRcd (fun x => { x with recording := false, frozen := true, seeds := [{ tick := 4 }] }) hub,
      by decide +kernel⟩,
    ⟨.b, uRcd (fun x => { x with recording := false, frozen := true, dumping := true }) hub, by decide +kernel⟩,
    ⟨.b, hub, by decide +kernel⟩,
    ⟨.b, inState .replay hub, by decide +kernel⟩,
    ⟨uRcd (fun x =>
      { x with frozen := true, dumping := true, armed0 := true, seeds := [{ tick := 9, buffer := 1 }, { tick := 8 }], fcause := 3 })
      hub, by decide +kernel⟩,
    ⟨uRcd (fun x =>
      { x with frozen := true, dumping := true, armed0 := true, seeds := [{ tick := 9, buffer := 1 }, { tick := 8 }], fcause := 2 })
      hub, by decide +kernel⟩,
    ⟨uRcd (fun x =>
      { x with frozen := true, dumping := true, armed0 := true, seeds := [{ tick := 9, buffer := 1 }, { tick := 8 }], fcause := 3 })
      hub, by decide +kernel⟩,
    ⟨1, uRcd (fun x =>
      { x with frozen := true, dumping := true, armed0 := true, fcause := 3, ram := { blocks := [{ time := 9, last := 9 }, { time := 4, last := 5 }] } })
      hub, by decide +kernel⟩,
    ⟨.b, hub, by decide +kernel⟩,
    ⟨.b, port .b (fun x => { x with keys := [0x784] }) hub, by decide +kernel⟩,
    ⟨.b, { valid := true, erased := false, seed := some { tick := 6 }, version := 0 }, { tick := 6 }, slot 1
      { st := .ready } (slot 4 {} (port .b (fun x => { x with keys := [0x784], recDsel := 1 }) (uRcd (fun x =>
      { x with area0 := { valid := true, erased := false, seed := some { tick := 6 }, version := 0 } }) hub))),
      by decide +kernel⟩,
    ⟨[{ cls := 3, src := 0, value := [1] }], uRcd (fun x =>
      { x with rtick := 4, play := { source := [{ tick := 5, kind := 0xC, payload := natLe 2 (((signature [{ cls := 3, src := 0, value := [1] }]).getD (0, 0)).1) ++ [1] }, { tick := 9, kind := 3 }] } })
      (inState .replay hub), by decide +kernel⟩,
    ⟨[{ cls := 3, src := 0, value := [1] }], uRcd (fun x =>
      { x with rtick := 4, play := { source := [{ tick := 5, kind := 0xC, payload := natLe 2 (7) ++ [1] }, { tick := 9, kind := 3 }] } })
      (inState .replay hub), by decide +kernel⟩,
    ⟨[{ cls := 3, src := 0, value := [1] }], uRcd (fun x =>
      { x with rtick := 4, play := { source := [{ tick := 5, kind := 0xC, payload := natLe 2 (7) ++ [1] }, { tick := 9, kind := 3 }] } })
      (inState .replay hub), by decide +kernel⟩,
    ⟨[{ cls := 3, src := 0, value := [1] }], uRcd (fun x =>
      { x with rtick := 4, cfg := 0x010, play := { source := [{ tick := 5, kind := 0xC, payload := natLe 2 (7) ++ [1] }, { tick := 9, kind := 3 }] } })
      (inState .replay hub), by decide +kernel⟩,
    ⟨[{ cls := 3, src := 0, value := [1] }], uRcd (fun x =>
      { x with rtick := 4, play := { source := [{ tick := 5, kind := 0xC, payload := natLe 2 (((signature [{ cls := 3, src := 0, value := [1] }]).getD (0, 0)).1) ++ [1] }] } })
      (inState .replay hub), by decide +kernel⟩,
    ⟨hub, by decide +kernel⟩⟩

/-- The hypotheses of `Obligations.RingSymbols` are met, and in each of its cases those of that case. -/
theorem witness_RingSymbols :
    (∃ (k : Nat) (pairK : Bool) (s : State), k < 4 ∧ (tetherGet s k).transmit = true ∧ echoDue s k pairK = false) ∧
    (∃ (k : Nat) (pairK : Bool) (s : State), ((tetherGet s k).transmit = false ∨ echoDue s k pairK = true)) ∧
    (∃ (sat : Nat) (s : State), (satGet s sat).lock ≠ .none) ∧
    (∃ (sat : Nat) (s : State), (satGet s sat).lock = .none) ∧
    (∃ (sat : Nat) (s : State), (satGet s sat).ripcordAt ≠ none) ∧
    (∃ (sat : Nat) (position : Nat) (all : Bool) (s : State), sat ≠ 0 ∧ (satGet s sat).cond = .asleep ∧ (all = true ∨
      (satGet s sat).position = position)) ∧
    (∃ (sat : Nat) (position : Nat) (s : State), (satGet s sat).position ≠ position) ∧
    (∃ (sat : Nat) (s : State), (satGet s sat).cond ≠ .unpowered ∧ (satGet s sat).lock ≠ .none) ∧
    (∃ (sat : Nat) (s : State), (satGet s sat).lock = .holdover ∧ (¬ ((satGet s sat).inLostF = true ∧ (satGet s
      sat).inLostK = true)) ∧ (satGet s sat).foldDue = none) ∧
    (∃ (sat : Nat) (s : State), (satGet s sat).cond ≠ .unpowered ∧ (satGet s sat).lock = .none ∧ (satGet s
      sat).foldDue = none) ∧
    (∃ (sat : Nat) (s : State), (satGet s sat).lock ≠ .none ∧ codeOf (satGet s sat).fault 3 ≠ 4) ∧
    (∃ (k : Nat) (s : State), k < 4 ∧ ringLive s = true ∧ (rigTether s k).isSome = true ∧ (tetherGet s k).brkB = 0 ∧
      (tetherGet s k).brkA ≠ 1) ∧
    (∃ (k : Nat) (s : State), k < 4 ∧ ringLive s = true ∧ (rigTether s k).isSome = true ∧ (tetherGet s k).brkA = 0) ∧
    (∃ (place : Nat), posNo place ≠ 0) ∧
    (∃ (place : Nat), place < 256 ∧ posNo place = 0) ∧
    (∃ (pos : Nat) (s : State), (viewGet s pos).state = .lost) :=
  ⟨
    ⟨0, true, teth 0 { transmit := true, beacons := 7 } (zg 1 { zg0 with tick := 44 } (zg 65 { zg0 with tick := 45 }
      hub)), by decide +kernel⟩,
    ⟨1, true, hub, by decide +kernel⟩,
    ⟨1, zg 1 { zg0 with tick := 44 } (slot 5 { st := .present, run := some (runs 1) } (slot 4 (t1Slot []) hub)),
      by decide +kernel⟩,
    ⟨9, hub, by decide +kernel⟩,
    ⟨1, zg 1 { zg0 with ripcordAt := some 4 } hub, by decide +kernel⟩,
    ⟨1, 9, true, zg 1 { zg0 with cond := .asleep } hub, by decide +kernel⟩,
    ⟨1, 9, zg 1 { zg0 with cond := .asleep } hub, by decide +kernel⟩,
    ⟨1, zg 1 { zg0 with lock := .k, unwrapAt := some 3 } hub, by decide +kernel⟩,
    ⟨1, zg 1 { zg0 with lock := .holdover, inLostF := true } hub, by decide +kernel⟩,
    ⟨1, zg 1 { zg0 with cond := .unlocked, lock := .none } hub, by decide +kernel⟩,
    ⟨1, zg 1 { zg0 with sending := some { kind := 3 }, results := [{ kind := 4 }] } (slot 4 (t1Slot []) hub),
      by decide +kernel⟩,
    ⟨0, teth 0 { mode := 2, transmit := true } hub, by decide +kernel⟩,
    ⟨0, teth 0 { mode := 2, transmit := true } hub, by decide +kernel⟩,
    ⟨1, by decide +kernel⟩,
    ⟨192, by decide +kernel⟩,
    ⟨1, view 1 { state := .lost } (ldgSlot 5 { res := 33, readings := [3], measHigh := true } hub), by decide +kernel⟩⟩

/-- The hypotheses of `Obligations.Enumeration` are met, and in each of its cases those of that case. -/
theorem witness_Enumeration :
    (∃ (sat : Nat) (hop : Nat) (rx : Arrival) (s : State), satHears (satGet s sat) = true ∧ (satGet s sat).cond ≠
      .parked ∧ (satGet s sat).position = rx.pos ∧ Arrives (toSat rx false 4 [byte hop]) rx) ∧
    (∃ (sat : Nat) (rx : Arrival) (s : State), satHears (satGet s sat) = true ∧ ((satGet s sat).cond = .parked ∨
      (satGet s sat).position ≠ rx.pos) ∧ rx.raw = none) ∧
    (∃ (sat : Nat) (s : State), satHears (satGet s sat) = false) ∧
    (∃ (k : Nat) (uid : Nat) (hwver : Nat) (ringver : Nat) (hop : Nat) (rx : Arrival) (s : State), k < 4 ∧ ringLive s
      = true ∧ (rigTether s k).isSome = true ∧ arrivesBad (frameOk (identFrame rx uid hwver ringver hop)) rx = true ∧
      ((tetherGet s k).badTicks.filter (fun n => decide (s.sys.tick - n ≤ 800000))).length = 15) ∧
    (∃ (k : Nat) (s : State), (rigTether s k).isSome = false) ∧
    (∃ (k : Nat) (uid : Nat) (hwver : Nat) (ringver : Nat) (hop : Nat) (rx : Arrival) (w : Walk) (s : State), k < 4 ∧
      HubTakes s k (identFrame rx uid hwver ringver hop) rx ∧ rx.pos = 0 ∧ (tetherGet s k).walk = some w ∧ w.current =
      none ∧ parks s k uid (givenPosition s k w.from_ uid hop) = false) ∧
    (∃ (k : Nat) (uid : Nat) (hwver : Nat) (ringver : Nat) (hop : Nat) (rx : Arrival) (w : Walk) (s : State), k < 4 ∧
      HubTakes s k (identFrame rx uid hwver ringver hop) rx ∧ rx.pos = 0 ∧ (tetherGet s k).walk = some w ∧ w.current =
      none ∧ parks s k uid (givenPosition s k w.from_ uid hop) = true) ∧
    (∃ (k : Nat) (w : Walk) (s : State), k < 4 ∧ ringLive s = true ∧ (tetherGet s k).walk = some w ∧ w.from_ =
      .outEnd) ∧
    (∃ (k : Nat) (w : Walk) (s : State), k < 4 ∧ ringLive s = true ∧ (tetherGet s k).walk = some w ∧ w.current = none) ∧
    (∃ (k : Nat) (w : Walk) (s : State), k < 4 ∧ ringLive s = true ∧ (tetherGet s k).walk = some w ∧ w.current = none
      ∧ (tetherGet s k).mode ≠ 3) ∧
    (∃ (k : Nat) (w : Walk) (s : State), k < 4 ∧ ringLive s = true ∧ (tetherGet s k).walk = some w ∧ w.current = none
      ∧ w.from_ = .outEnd ∧ (tetherGet s k).mode = 1 ∧ (tetherGet s k).brkA = 0 ∧ (tetherGet s k).brkB = 0) ∧
    (∃ (k : Nat) (w : Walk) (s : State), k < 4 ∧ ringLive s = true ∧ (tetherGet s k).walk = some w ∧ w.current = none
      ∧ w.from_ = .outEnd ∧ (tetherGet s k).mode ≠ 1) ∧
    (∃ (k : Nat), k < 4) ∧
    (∃ (k : Nat) (s : State), k < 4 ∧ (s.sys.state = .run ∨ s.sys.state = .standby) ∧ (rigTether s k).isSome = true ∧
      (tetherGet s k).walk = none ∧ (∃ p ∈ tetherPositions s k, (viewGet s p).state = .absent)) ∧
    (∃ (sat : Nat) (position : Nat) (prov : Bool) (rx : Arrival) (s : State), satHears (satGet s sat) = true ∧ (satGet
      s sat).position = rx.pos ∧ (rx.pos ≠ 0 ∨ (satGet s sat).cond ≠ .parked) ∧ Arrives (toSat rx false 5 (natLe 8
      (satGet s sat).uid ++ [byte position, byte (bit prov)])) rx ∧ ((satGet s sat).position = 0 ∨ (satGet s
      sat).position = position)) ∧
    (∃ (sat : Nat) (position : Nat) (prov : Bool) (rx : Arrival) (s : State), satHears (satGet s sat) = true ∧ (satGet
      s sat).position = rx.pos ∧ (rx.pos ≠ 0 ∨ (satGet s sat).cond ≠ .parked) ∧ Arrives (toSat rx false 5 (natLe 8
      (satGet s sat).uid ++ [byte position, byte (bit prov)])) rx ∧ (satGet s sat).position ≠ 0 ∧ (satGet s
      sat).position ≠ position) ∧
    (∃ (sat : Nat) (uid : Nat) (rx : Arrival) (s : State), satHears (satGet s sat) = true ∧ ((satGet s sat).position ≠
      rx.pos ∨ (rx.pos = 0 ∧ (satGet s sat).uid ≠ uid))) ∧
    (∃ (sat : Nat) (uid : Nat) (rx : Arrival) (s : State), (satGet s sat).position = rx.pos ∧ rx.pos ≠ 0 ∧ (satGet s
      sat).uid ≠ uid) ∧
    (∃ (pos : Nat) (rx : Arrival) (s : State), pos < 256 ∧ HubTakes s (posTether pos) (upFrame pos false 5 [byte
      (posNo pos)]) rx ∧ (viewGet s pos).assigning = true) ∧
    (∃ (sat : Nat) (rx : Arrival) (s : State), TakesFrame (satGet s sat) (toSat rx false 6 []) rx) ∧
    (∃ (sat : Nat) (n : Nat) (s : State), (satGet s sat).delayArmed = some n ∧ (satGet s sat).tick - n ≤ 16000) ∧
    (∃ (sat : Nat) (n : Nat) (s : State), (satGet s sat).delayArmed = some n ∧ 16000 < (satGet s sat).tick - n) ∧
    (∃ (pos : Nat) (n : Nat) (s : State), pos < 256 ∧ ringLive s = true ∧ (viewGet s pos).t1 = some n ∧ (viewGet s
      pos).t4 = none) ∧
    (∃ (pos : Nat) (a : Nat) (b : Nat) (c : Nat) (rx : Arrival) (s : State), pos < 256 ∧ HubTakes s (posTether pos)
      (upFrame pos false 6 (natLe 2 c)) rx ∧ (viewGet s pos).t1 = some a ∧ (viewGet s pos).t4 = some b) ∧
    (∃ (sat : Nat) (t5 : Nat) (d : Nat) (rx : Arrival) (s : State), TakesFrame (satGet s sat) (toSat rx false 7 (natLe
      8 t5 ++ natLe 3 d)) rx ∧ syncs (satGet s sat) = true) ∧
    (∃ (sat : Nat) (t5 : Nat) (d : Nat) (rx : Arrival) (s : State), TakesFrame (satGet s sat) (toSat rx false 7 (natLe
      8 t5 ++ natLe 3 d)) rx ∧ syncs (satGet s sat) = false) ∧
    (∃ (pos : Nat) (rx : Arrival) (s : State), pos < 256 ∧ HubTakes s (posTether pos) (upFrame pos false 7 []) rx ∧
      (viewGet s pos).state = .enumerating ∧ NothingSent s pos ∧ outsideRange s (viewGet s pos) = true) ∧
    (∃ (pos : Nat) (rx : Arrival) (s : State), pos < 256 ∧ HubTakes s (posTether pos) (upFrame pos false 7 []) rx ∧
      (viewGet s pos).state = .enumerating ∧ NothingSent s pos ∧ outsideRange s (viewGet s pos) = false) :=
  ⟨
    ⟨1, 3, { pos := 1 }, zg 1 { zg0 with uid := 7 } hub, by decide +kernel⟩,
    ⟨1, { pos := 2 }, zg 1 { zg0 with uid := 7 } hub, by decide +kernel⟩,
    ⟨9, hub, by decide +kernel⟩,
    ⟨0, 1, 1, 1, 1, { pos := 0, raw := some [.d 4, .bad] }, uSys (fun x => { x with tick := 800000 }) (teth 0
      { badTicks := List.replicate 15 0 } hub), by decide +kernel⟩,
    ⟨0, {}, by decide +kernel⟩,
    ⟨0, 4, 1, 1, 1, { pos := 0 }, {}, teth 0 { walk := some {} } (view 1 {} hub), by decide +kernel⟩,
    ⟨0, 4, 1, 1, 1, { pos := 0 }, {}, teth 0 { walk := some {} } (view 2 { state := .active } hub), by decide +kernel⟩,
    ⟨0, {}, teth 0 { walk := some {} } hub, by decide +kernel⟩,
    ⟨0, {}, teth 0 { walk := some {} } hub, by decide +kernel⟩,
    ⟨0, {}, teth 0 { walk := some {} } hub, by decide +kernel⟩,
    ⟨0, {}, teth 0 { walk := some {}, mode := 1 } hub, by decide +kernel⟩,
    ⟨0, {}, teth 0 { walk := some {}, mode := 2 } hub, by decide +kernel⟩,
    ⟨0, by decide +kernel⟩,
    ⟨0, view 2 {} (teth 0 { mode := 2 } hub), by decide +kernel⟩,
    ⟨1, 1, true, { pos := 1 }, zg 1 { zg0 with uid := 6, isoBit := true, lastH := true } (slot 4 (t1Slot []) hub),
      by decide +kernel⟩,
    ⟨1, 3, true, { pos := 1 }, zg 1 { zg0 with uid := 6, isoBit := true, lastH := true } (slot 4 (t1Slot []) hub),
      by decide +kernel⟩,
    ⟨1, 5, { pos := 2 }, zg 1 { zg0 with uid := 6 } hub, by decide +kernel⟩,
    ⟨1, 5, { pos := 1 }, zg 1 { zg0 with uid := 6 } hub, by decide +kernel⟩,
    ⟨1, {}, view 1 { assigning := true, uid := 4, toggleH := true, out := some { code := 3, args := [] } } (ldgSlot 5
      { res := 33 } hub), by decide +kernel⟩,
    ⟨1, { pos := 1 }, zg 1 { zg0 with tick := 6 } hub, by decide +kernel⟩,
    ⟨1, 4, zg 1 { zg0 with tick := 600, delayArmed := some 4 } hub, by decide +kernel⟩,
    ⟨1, 4, zg 1 { zg0 with tick := 16005, delayArmed := some 4 } hub, by decide +kernel⟩,
    ⟨1, 16, view 1 { t1 := some 16 } hub, by decide +kernel⟩,
    ⟨1, 16, 4000, 64, {}, view 1 { t1 := some 16, t4 := some 4000 } hub, by decide +kernel⟩,
    ⟨1, 100, 33, { pos := 1 }, zg 1 { zg0 with tick := 60, markerTick := 40 } hub, by decide +kernel⟩,
    ⟨1, 1, 1, { pos := 1 }, zg 1 { zg0 with tick := 60, markerTick := 40, lock := .holdover } hub, by decide +kernel⟩,
    ⟨1, {}, view 1 { state := .enumerating, ringver := 2 } (uSys (fun x =>
      { x with ringMin := 1, ringMax := 1, hwMin := 0, hwMax := 9 }) hub), by decide +kernel⟩,
    ⟨1, {}, view 1 { state := .enumerating, ringver := 1 } (uSys (fun x =>
      { x with ringMin := 1, ringMax := 1, hwMin := 0, hwMax := 9 }) hub), by decide +kernel⟩⟩

/-- The hypotheses of `Obligations.CommandTransport` are met, and in each of its cases those of that case. -/
theorem witness_CommandTransport :
    (∃ (pos : Nat) (code : Nat) (h : Bool) (rx : Arrival) (s : State), pos < 256 ∧ HubTakes s (posTether pos) (upFrame
      pos h 1 [byte code]) rx ∧ ((viewGet s pos).out = none ∨ h ≠ (viewGet s pos).toggleH)) ∧
    (∃ (pos : Nat) (code : Nat) (h : Bool) (rx : Arrival) (s : State), pos < 256 ∧ ringLive s = true ∧ (rigTether s
      (posTether pos)).isSome = true ∧ arrivesBad (frameOk (upFrame pos h 1 [byte code])) rx = true) ∧
    (∃ (pos : Nat) (rx : Arrival) (c : HubCmd) (d : HubCmd) (rest : List HubCmd) (s : State), pos < 256 ∧ HubTakes s
      (posTether pos) (upFrame pos (viewGet s pos).toggleH 1 [0]) rx ∧ (viewGet s pos).out = some c ∧ (viewGet s
      pos).queue = d :: rest ∧ (c.code = 0x01 ∨ c.code = 0x02) ∧ c.fromHost = false) ∧
    (∃ (pos : Nat) (code : Nat) (rx : Arrival) (c : HubCmd) (s : State), pos < 256 ∧ code < 256 ∧ HubTakes s
      (posTether pos) (upFrame pos (viewGet s pos).toggleH 1 [byte code]) rx ∧ (viewGet s pos).out = some c ∧ (viewGet
      s pos).queue = [] ∧ c.fromHost = true ∧ (c.code = 0x0A ∨ c.code = 0x0B)) ∧
    (∃ (pos : Nat) (rx : Arrival) (c : HubCmd) (o : Order) (s : State), pos < 256 ∧ HubTakes s (posTether pos)
      (upFrame pos (viewGet s pos).toggleH 1 [0]) rx ∧ (viewGet s pos).out = some c ∧ (viewGet s pos).queue = [] ∧
      c.fromHost = false ∧ c.code = 0x05 ∧ satOrder s pos 0x0F = some o) ∧
    (∃ (pos : Nat) (rx : Arrival) (c : HubCmd) (o : Order) (s : State), pos < 256 ∧ HubTakes s (posTether pos)
      (upFrame pos (viewGet s pos).toggleH 1 [0]) rx ∧ (viewGet s pos).out = some c ∧ (viewGet s pos).queue = [] ∧
      c.fromHost = false ∧ c.code = 0x11 ∧ satOrder s pos 0x12 = some o ∧ s.upd.satStart + (o.progress - 2) <
      payloadLen (updImage s pos).image) ∧
    (∃ (pos : Nat) (c : HubCmd) (s : State), ringLive s = true ∧ pos < 256 ∧ (viewGet s pos).out = some c ∧ (c.sends1
      < 4 ∨ ((tetherGet s (posTether pos)).mode = 3 ∧ c.sends2 < 4))) ∧
    (∃ (pos : Nat) (c : HubCmd) (s : State), ringLive s = true ∧ canLose s pos = true ∧ (viewGet s pos).out = some c ∧
      4 ≤ c.sends1 ∧ ((tetherGet s (posTether pos)).mode ≠ 3 ∨ 4 ≤ c.sends2)) ∧
    (∃ (pos : Nat) (s : State), pos < 256 ∧ ringLive s = true ∧ (viewGet s pos).wakes ≠ 0 ∧ (viewGet s pos).wakes <
      (if (tetherGet s (posTether pos)).mode = 3 then 8 else 4)) ∧
    (∃ (pos : Nat) (s : State), ringLive s = true ∧ canLose s pos = true ∧ 8 ≤ (viewGet s pos).wakes) ∧
    (∃ (sat : Nat) (rx : Arrival) (s : State), TakesFrame (satGet s sat) (toSat rx (satGet s sat).togS 2 []) rx ∧
      (satGet s sat).sending ≠ none ∧ (satGet s sat).rearmAfterFetch = none ∧ (satGet s sat).results = []) ∧
    (∃ (sat : Nat) (b : Bool) (rx : Arrival) (s : State), TakesFrame (satGet s sat) (toSat rx b 2 []) rx ∧ ((satGet s
      sat).sending = none ∨ (satGet s sat).togS ≠ b)) ∧
    (∃ (sat : Nat) (rx : Arrival) (s : State), satHears (satGet s sat) = true ∧ named (satGet s sat) rx = false) :=
  ⟨
    ⟨1, 1, true, {}, view 1 { state := .active } hub, by decide +kernel⟩,
    ⟨1, 1, true, { raw := some [.bad] }, view 1 { state := .active } hub, by decide +kernel⟩,
    ⟨1, {}, { code := 1, args := [] }, { code := 2, args := [] }, [{ code := 7, args := [] }], view 1
      { state := .active, setup := 5, out := some { code := 1, args := [] }, queue := [{ code := 2, args := [] }, { code := 7, args := [] }] }
      hub, by decide +kernel⟩,
    ⟨1, 0, {}, { code := 0x0A, args := [], fromHost := true }, view 1
      { state := .active, toggleH := true, out := some { code := 0x0A, args := [], fromHost := true } } hub,
      by decide +kernel⟩,
    ⟨1, {}, { code := 5, args := [], order := 9 },
      { order0 with opcode := 0x0F, stage := .dispatched, past8 := true }, order
      { order0 with opcode := 0x0F, stage := .dispatched, past8 := true } (view 1
      { state := .active, out := some { code := 5, args := [], order := 9 } } hub), by decide +kernel⟩,
    ⟨1, {}, { code := 0x11, args := [], order := 9 },
      { order0 with opcode := 0x12, slot := 4, stage := .dispatched, progress := 242 }, uUpd (fun x =>
      { x with satPos := 4, satPhase := 2, satStart := 0, store0 := { image := [(20, 254), (21, 3), (22, 0), (23, 0)], written := true } })
      (order { order0 with opcode := 0x12, slot := 4, stage := .dispatched, progress := 242 } (view 1
      { state := .active, out := some { code := 0x11, args := [], order := 9 } } hub)), by decide +kernel⟩,
    ⟨1, { code := 5, args := [], sends1 := 3 }, view 1
      { state := .active, out := some { code := 5, args := [], sends1 := 3 } } hub, by decide +kernel⟩,
    ⟨1, { code := 5, args := [], sends1 := 4 }, order
      { order0 with opcode := 0x01, stage := .dispatched, past8 := true } (view 1
      { state := .active, out := some { code := 5, args := [], sends1 := 4 } } hub), by decide +kernel⟩,
    ⟨1, view 1 { state := .asleep, wakes := 3, waking := true } hub, by decide +kernel⟩,
    ⟨1, view 1 { state := .asleep, wakes := 8, waking := true } hub, by decide +kernel⟩,
    ⟨1, { pos := 1 }, zg 1 { zg0 with sending := some { kind := 4 }, togS := true } hub, by decide +kernel⟩,
    ⟨1, true, { pos := 1 }, zg 1 zg0 hub, by decide +kernel⟩,
    ⟨1, { pos := 7 }, zg 1 zg0 hub, by decide +kernel⟩⟩

/-- The hypotheses of `Obligations.HostsToSatellites` are met, and in each of its cases those of that case. -/
theorem witness_HostsToSatellites :
    (∃ (p : Port) (pos : Nat) (s : State), WriteAdmitted s p 0x316 ∧ satWindow s p = some pos ∧ NothingSent s pos ∧
      satCmdRefused s pos 1 = false) ∧
    (∃ (p : Port) (pos : Nat) (s : State), WriteAdmitted s p 0x316 ∧ satWindow s p = some pos ∧ NothingSent s pos ∧
      satCmdRefused s pos 2 = false) ∧
    (∃ (p : Port) (pos : Nat) (s : State), WriteAdmitted s p 0x316 ∧ satWindow s p = some pos ∧ NothingSent s pos ∧
      satCmdRefused s pos 3 = false) ∧
    (∃ (p : Port) (pos : Nat) (s : State), WriteAdmitted s p 0x316 ∧ satWindow s p = some pos ∧ NothingSent s pos ∧
      satCmdRefused s pos 4 = false) ∧
    (∃ (p : Port) (pos : Nat) (s : State), WriteAdmitted s p 0x316 ∧ satWindow s p = some pos ∧ NothingSent s pos ∧
      satCmdRefused s pos 5 = false) ∧
    (∃ (p : Port) (pos : Nat) (s : State), WriteAdmitted s p 0x316 ∧ satWindow s p = some pos ∧ satCmdRefused s pos 6
      = false ∧ NothingSent s pos) ∧
    (∃ (p : Port) (s : State), WriteAdmitted s p 0x316 ∧ satWindow s p = none) ∧
    (∃ (p : Port) (pos : Nat) (s : State), WriteAdmitted s p 0x316 ∧ satWindow s p = some pos ∧ satCmdRefused s pos 1
      = true) ∧
    (∃ (p : Port) (pos : Nat) (s : State), WriteAdmitted s p 0x316 ∧ satWindow s p = some pos ∧ satCmdRefused s pos 3
      = true) ∧
    (∃ (p : Port) (pos : Nat) (s : State), WriteAdmitted s p 0x316 ∧ satWindow s p = some pos ∧ satCmdRefused s pos 6
      = true) ∧
    (∃ (p : Port) (pos : Nat) (s : State), WriteAdmitted s p 0x315 ∧ satWindow s p = some pos ∧ (viewGet s pos).state
      ≠ .incompatible ∧ NothingSent s pos) ∧
    (∃ (p : Port) (s : State), WriteAdmitted s p 0x315 ∧ (satWindow s p = none ∨ (viewGet s ((satWindow s p).getD
      0)).state = .incompatible)) ∧
    (∃ (o : Order) (s : State), orderGet s o.id = some o ∧ o.stage = .dispatched ∧ o.progress = 0 ∧ ringLive s = true
      ∧ NothingSent s (slotPos o.slot) ∧ o.opcode = 0x0F) ∧
    (∃ (o : Order) (s : State), orderGet s o.id = some o ∧ o.stage = .dispatched ∧ o.progress = 0 ∧ ringLive s = true
      ∧ NothingSent s (slotPos o.slot) ∧ o.opcode = 0x11) ∧
    (∃ (o : Order) (s : State), orderGet s o.id = some o ∧ o.stage = .dispatched ∧ o.progress = 0 ∧ ringLive s = true
      ∧ NothingSent s (slotPos o.slot) ∧ o.opcode = 0x10) ∧
    (∃ (k : Nat) (pos : Nat) (s : State), ringLive s = true ∧ k < 4 ∧ s.rls.raiseTurn.toList.getD k 0 = 0 ∧
      (tetherPositions s k).find? (fun p => let r := (rigSat s p).getD {}; let v := viewGet s p; (r.grail0 ||
      r.grail1) && decide (v.state = .active) && v.raiseDue && v.railsSeen) = some pos ∧ NothingSent s pos) ∧
    (∃ (k : Nat) (s : State), s.rls.raiseTurn.toList.getD k 0 ≠ 0) :=
  ⟨
    ⟨.b, 1, port .b (fun x => { x with satSel := 4 }) (view 1 { state := .active } hub), by decide +kernel⟩,
    ⟨.b, 1, port .b (fun x => { x with satSel := 4 }) (view 1 { state := .active } hub), by decide +kernel⟩,
    ⟨.b, 1, port .b (fun x => { x with satSel := 4 }) (view 1 { state := .active } hub), by decide +kernel⟩,
    ⟨.b, 1, port .b (fun x => { x with satSel := 4 }) (view 1 { state := .active } hub), by decide +kernel⟩,
    ⟨.b, 1, port .b (fun x => { x with satSel := 4 }) (view 1 { state := .active } hub), by decide +kernel⟩,
    ⟨.b, 1, port .b (fun x => { x with satSel := 4 }) (view 1 { state := .active } (uSat (fun x =>
      { x with trValid := true, trBytes := [(3, 5)] }) hub)), by decide +kernel⟩,
    ⟨.b, port .b (fun x => { x with satSel := 0x3FF }) hub, by decide +kernel⟩,
    ⟨.b, 1, port .b (fun x => { x with satSel := 4 }) (view 1 { state := .active, cmdSt := 1 } hub),
      by decide +kernel⟩,
    ⟨.b, 1, port .b (fun x => { x with satSel := 4 }) (view 1 { state := .active, cmdSt := 1 } hub),
      by decide +kernel⟩,
    ⟨.b, 1, port .b (fun x => { x with satSel := 4 }) (view 1 { state := .active, cmdSt := 1 } hub),
      by decide +kernel⟩,
    ⟨.b, 1, port .b (fun x => { x with satSel := 4 }) (view 1 { state := .active } hub), by decide +kernel⟩,
    ⟨.b, port .b (fun x => { x with satSel := 4 }) (view 1 { state := .incompatible } hub), by decide +kernel⟩,
    ⟨{ order0 with opcode := 0x0F, stage := .dispatched }, view 1 { state := .active } (order
      { order0 with opcode := 0x0F, stage := .dispatched } hub), by decide +kernel⟩,
    ⟨{ order0 with opcode := 0x11, stage := .dispatched }, view 1 { state := .active } (order
      { order0 with opcode := 0x11, stage := .dispatched } hub), by decide +kernel⟩,
    ⟨{ order0 with opcode := 0x10, stage := .dispatched }, view 1 { state := .active } (order
      { order0 with opcode := 0x10, stage := .dispatched } hub), by decide +kernel⟩,
    ⟨0, 1, view 1 { state := .active, raiseDue := true, railsSeen := true } hub, by decide +kernel⟩,
    ⟨0, uRls (fun x => { x with raiseTurn := #v[1, 0, 0, 0] }) hub, by decide +kernel⟩⟩

/-- The hypotheses of `Obligations.ResultsTaken` are met, and in each of its cases those of that case. -/
theorem witness_ResultsTaken :
    (∃ (i : Instr) (x : ResultIn) (s : State), resultOf i = some x ∧ x.pos < 256 ∧ HubTakes s (posTether x.pos)
      (upFrame x.pos x.s 2 ([byte x.kind, byte x.slot] ++ x.payload)) x.rx ∧ takesFrom s x.pos = true ∧ (viewGet s
      x.pos).lastS = x.s) ∧
    (∃ (i : Instr) (x : ResultIn) (s : State), resultOf i = some x ∧ x.pos < 256 ∧ HubTakes s (posTether x.pos)
      (upFrame x.pos x.s 2 ([byte x.kind, byte x.slot] ++ x.payload)) x.rx ∧ takesFrom s x.pos = false) ∧
    (∃ (pos : Nat) (slot : Nat) (oid : Nat) (status : Nat) (b : Bool) (first : List Byte) (rx : Arrival) (o : Order)
      (s : State), pos < 256 ∧ TakesResult s pos b 1 slot (arg2 oid ++ [byte status] ++ natLe 3 first.length ++ first)
      rx ∧ slotOrder s (slotOf pos (slot % 4)) oid = some o ∧ o.data = [] ∧ first.length ≤ orderRoom o) ∧
    (∃ (pos : Nat) (slot : Nat) (oid : Nat) (status : Nat) (full : Nat) (b : Bool) (first : List Byte) (rx : Arrival)
      (o : Order) (s : State), pos < 256 ∧ TakesResult s pos b 1 slot (arg2 oid ++ [byte status] ++ natLe 3 full ++
      first) rx ∧ slotOrder s (slotOf pos (slot % 4)) oid = some o ∧ o.data = [] ∧ first.length < min full 1024) ∧
    (∃ (pos : Nat) (slot : Nat) (oid : Nat) (off : Nat) (status : Nat) (full : Nat) (b : Bool) (data : List Byte) (rx
      : Arrival) (o : Order) (s : State), pos < 256 ∧ TakesResult s pos b 2 slot (arg2 oid ++ arg2 off ++ data) rx ∧
      slotOrder s (slotOf pos (slot % 4)) oid = some o ∧ o.done = some (status, full) ∧ off = o.data.length ∧ min full
      1024 ≤ off + data.length ∧ full ≤ orderRoom o) ∧
    (∃ (pos : Nat) (slot : Nat) (oid : Nat) (off : Nat) (b : Bool) (data : List Byte) (rx : Arrival) (s : State), pos
      < 256 ∧ TakesResult s pos b 2 slot (arg2 oid ++ arg2 off ++ data) rx ∧ slotOrder s (slotOf pos (slot % 4)) oid =
      none) ∧
    (∃ (pos : Nat) (slot : Nat) (event : Nat) (code : Nat) (b : Bool) (st : SlotState) (rx : Arrival) (s : State), pos
      < 256 ∧ TakesResult s pos b 3 slot [byte event, byte code] rx ∧ slotStateOf code = some st ∧ st ≠ .unreachable ∧
      event = 4 ∧ st ≠ .falling) ∧
    (∃ (pos : Nat) (slot : Nat) (event : Nat) (code : Nat) (b : Bool) (st : SlotState) (rx : Arrival) (s : State), pos
      < 256 ∧ TakesResult s pos b 3 slot [byte event, byte code] rx ∧ slotStateOf code = some st ∧ st ≠ .unreachable ∧
      event = 2 ∧ st ≠ .falling) ∧
    (∃ (pos : Nat) (slot : Nat) (event : Nat) (code : Nat) (b : Bool) (st : SlotState) (rx : Arrival) (s : State), pos
      < 256 ∧ TakesResult s pos b 3 slot [byte event, byte code] rx ∧ slotStateOf code = some st ∧ st ≠ .unreachable ∧
      st = .falling) ∧
    (∃ (pos : Nat) (cause : Nat) (b : Bool) (rx : Arrival) (s : State), pos < 256 ∧ HubTakes s (posTether pos)
      (upFrame pos b 2 [6, 0xFF, byte cause]) rx ∧ (rigSat s pos).isSome = true ∧ (viewGet s pos).state = .active ∧
      cause ≠ 4 ∧ (∀ o ∈ s.ord.orders, namesPos o pos = false)) ∧
    (∃ (pos : Nat) (b : Bool) (rx : Arrival) (o : Order) (s : State), pos < 256 ∧ TakesResult s pos b 7 0xFF [] rx ∧
      (viewGet s pos).state = .asleep ∧ (viewGet s pos).setup = 0 ∧ satOrder s pos 0x10 = some o ∧ s.sys.state =
      .standby) ∧
    (∃ (pos : Nat) (g0 : Nat) (g1 : Nat) (b : Bool) (rx : Arrival) (o : Order) (s : State), pos < 256 ∧ TakesResult s
      pos b 8 0xFF [byte g0, byte g1] rx ∧ g0 < 4 ∧ g1 < 4 ∧ satOrder s pos 0x11 = some o ∧ ((g0 = 3 ∧ (viewGet s
      pos).grail0 ≠ 3) ∨ (g1 = 3 ∧ (viewGet s pos).grail1 ≠ 3))) ∧
    (∃ (pos : Nat) (g0 : Nat) (g1 : Nat) (b : Bool) (rx : Arrival) (o : Order) (s : State), pos < 256 ∧ TakesResult s
      pos b 8 0xFF [byte g0, byte g1] rx ∧ g0 < 4 ∧ g1 < 4 ∧ satOrder s pos 0x11 = some o ∧ o.param % 2 = 1 ∧ (g0 = 3
      ∨ g1 = 3)) ∧
    (∃ (pos : Nat) (g0 : Nat) (g1 : Nat) (b : Bool) (rx : Arrival) (o : Order) (s : State), pos < 256 ∧ TakesResult s
      pos b 8 0xFF [byte g0, byte g1] rx ∧ g0 < 4 ∧ g1 < 4 ∧ satOrder s pos 0x11 = some o ∧ o.param % 2 = 1 ∧ (g0 = 2
      ∧ g1 = 2)) ∧
    (∃ (pos : Nat) (g0 : Nat) (g1 : Nat) (b : Bool) (rx : Arrival) (o : Order) (s : State), pos < 256 ∧ TakesResult s
      pos b 8 0xFF [byte g0, byte g1] rx ∧ g0 < 4 ∧ g1 < 4 ∧ satOrder s pos 0x11 = some o ∧ o.param % 2 = 0 ∧ (g0 = 0
      ∧ g1 = 0)) ∧
    (∃ (pos : Nat) (part : Nat) (build : Nat) (minor : Nat) (major : Nat) (image : Nat) (b : Bool) (rx : Arrival) (s :
      State), pos < 256 ∧ TakesResult s pos b 9 0xFF (arg2 part ++ arg2 build ++ arg2 minor ++ arg2 major ++ [byte
      image]) rx ∧ (viewGet s pos).state = .active) ∧
    (∃ (pos : Nat) (b : Bool) (k : Bool) (rx : Arrival) (s : State), pos < 256 ∧ TakesResult s pos b 0x0A 0xFF [byte
      (bit k)] rx) ∧
    (∃ (pos : Nat) (b : Bool) (w : Word) (rx : Arrival) (s : State), pos < 256 ∧ TakesResult s pos b 0x0B 0xFF (arg2
      w.toNat) rx) ∧
    (∃ (pos : Nat) (slot : Nat) (chunk : Nat) (b : Bool) (bytes : List Byte) (rx : Arrival) (s : State), pos < 256 ∧
      TakesResult s pos b 0x0C slot (byte chunk :: bytes) rx ∧ s.sat.trFetching = true ∧ s.sat.trSlot = slotOf pos
      (slot % 4) ∧ chunk < 16 ∧ bytes.length = 128) ∧
    (∃ (pos : Nat) (b : Bool) (back : Bool) (rx : Arrival) (s : State), pos < 256 ∧ TakesResult s pos b 0x0D 0xFF
      [byte (bit back)] rx) ∧
    (∃ (pos : Nat) (slot : Nat) (entry : Nat) (status : Nat) (b : Bool) (rx : Arrival) (s : State), pos < 256 ∧
      TakesResult s pos b 0x0E slot (arg2 entry ++ [byte status]) rx ∧ (viewGet s pos).cmdSt = 1) :=
  ⟨
    ⟨.powerResult 1 true true { pos := 1 }, (resultOf (.powerResult 1 true true { pos := 1 })).getD ⟨0, true, 0, 0,
      [], {}⟩, view 1 { state := .active, lastS := true } hub, by decide +kernel⟩,
    ⟨.traceResult 1 false 0 0 [] { pos := 1, pairK := true }, (resultOf (.traceResult 1 false 0 0 []
      { pos := 1, pairK := true })).getD ⟨0, true, 0, 0, [], {}⟩, teth 0 { mode := 3 } (view 1 { state := .lost }
      hub), by decide +kernel⟩,
    ⟨1, 0, 10, 1, true, [0x90, 0], { pos := 1 }, { order0 with opcode := 4, stage := .dispatched, parcel1 := 5 }, view
      1 { state := .active } (order { order0 with opcode := 4, stage := .dispatched, parcel1 := 5 } (parcel 5
      { owner := some .a } hub)), by decide +kernel⟩,
    ⟨1, 0, 10, 1, 300, true, [0x90, 0], { pos := 1 }, { order0 with opcode := 4, stage := .dispatched, parcel1 := 5 },
      view 1 { state := .active } (order { order0 with opcode := 4, stage := .dispatched, parcel1 := 5 } (parcel 5
      { owner := some .a } hub)), by decide +kernel⟩,
    ⟨1, 0, 10, 2, 0, 4, true, [1, 2], { pos := 1 },
      { order0 with opcode := 4, stage := .dispatched, parcel1 := 5, done := some (0, 4), data := [3, 4] }, view 1
      { state := .active } (order
      { order0 with opcode := 4, stage := .dispatched, parcel1 := 5, done := some (0, 4), data := [3, 4] } (parcel 5
      { owner := some .a } hub)), by decide +kernel⟩,
    ⟨1, 0, 9, 0, true, [1], { pos := 1 }, view 1 { state := .active } hub, by decide +kernel⟩,
    ⟨1, 1, 4, 1, true, .present, { pos := 1 }, view 1 { state := .active } hub, by decide +kernel⟩,
    ⟨1, 1, 2, 8, true, .tripped, { pos := 1 }, view 1 { state := .active } hub, by decide +kernel⟩,
    ⟨1, 1, 3, 7, true, .falling, { pos := 1 }, view 1 { state := .active } hub, by decide +kernel⟩,
    ⟨1, 2, true, { pos := 1 }, uOrd (fun x => { x with orders := [] }) (view 1
      { state := .active, toggleH := true, lastS := true } hub), by decide +kernel⟩,
    ⟨1, true, { pos := 1 }, { order0 with opcode := 0x10, stage := .dispatched, progress := 1 }, view 1
      { state := .asleep, wakes := 2, waking := true } (order
      { order0 with opcode := 0x10, stage := .dispatched, progress := 1 } (inState .standby hub)), by decide +kernel⟩,
    ⟨1, 3, 2, true, { pos := 1 }, { order0 with opcode := 0x11, param := 0, stage := .dispatched, progress := 1 },
      view 1 { state := .active } (order
      { order0 with opcode := 0x11, param := 0, stage := .dispatched, progress := 1 } hub), by decide +kernel⟩,
    ⟨1, 3, 2, true, { pos := 1 }, { order0 with opcode := 0x11, param := 1, stage := .dispatched, progress := 1 },
      view 1 { state := .active, grail0 := 3 } (order
      { order0 with opcode := 0x11, param := 1, stage := .dispatched, progress := 1 } hub), by decide +kernel⟩,
    ⟨1, 2, 2, true, { pos := 1 }, { order0 with opcode := 0x11, param := 1, stage := .dispatched, progress := 1 },
      view 1 { state := .active } (order
      { order0 with opcode := 0x11, param := 1, stage := .dispatched, progress := 1 } hub), by decide +kernel⟩,
    ⟨1, 0, 0, true, { pos := 1 }, { order0 with opcode := 0x11, param := 0, stage := .dispatched, progress := 1 },
      view 1 { state := .active } (order
      { order0 with opcode := 0x11, param := 0, stage := .dispatched, progress := 1 } hub), by decide +kernel⟩,
    ⟨1, 1, 1, 1, 1, 1, true, { pos := 1 }, view 1 { state := .active } hub, by decide +kernel⟩,
    ⟨1, true, true, { pos := 1 }, view 1 { state := .active } hub, by decide +kernel⟩,
    ⟨1, true, 0x001, { pos := 1 }, view 1 { state := .active } hub, by decide +kernel⟩,
    ⟨1, 0, 15, true, List.replicate 128 7, { pos := 1 }, view 1 { state := .active } (uSat (fun x =>
      { x with trFetching := true, trSlot := 4, trBytes := [(3, 4)] }) hub), by decide +kernel⟩,
    ⟨1, true, true, { pos := 1 }, view 1 { state := .active, grail0 := 2 } hub, by decide +kernel⟩,
    ⟨1, 1, 1, 1, true, { pos := 1 }, view 1 { state := .active, cmdSt := 1 } hub, by decide +kernel⟩⟩

/-- The hypotheses of `Obligations.LinksAndHeals` are met, and in each of its cases those of that case. -/
theorem witness_LinksAndHeals :
    (∃ (pos : Nat) (b : Bool) (lf : Bool) (lk : Bool) (portB : Bool) (rx : Arrival) (s : State), pos < 256 ∧
      TakesResult s pos b 4 0xFF [byte (bit lf + 2 * bit lk), byte (bit portB)] rx ∧ (viewGet s pos).hop ≠ 0 ∧
      (tetherGet s (posTether pos)).brkA = 0 ∧ (tetherGet s (posTether pos)).brkB = 0 ∧ (tetherGet s (posTether
      pos)).healed = none) ∧
    (∃ (pos : Nat) (m : Nat) (n : Nat) (b : Bool) (lf : Bool) (lk : Bool) (rx : Arrival) (s : State), pos < 256 ∧
      TakesResult s pos b 4 0xFF [byte (bit lf + 2 * bit lk), 1] rx ∧ (tetherGet s (posTether pos)).mode = 2 ∧
      (tetherGet s (posTether pos)).healed = some ((viewGet s pos).hop + 1, m, n)) ∧
    (∃ (pos : Nat) (b : Bool) (rx : Arrival) (s : State), pos < 256 ∧ TakesResult s pos b 5 0xFF [] rx ∧ (tetherGet s
      (posTether pos)).mode = 3 ∧ (tetherGet s (posTether pos)).heal = none ∧ (viewGet s pos).hop + 1 = (tetherGet s
      (posTether pos)).brkA ∧ ((tetherGet s (posTether pos)).healReadyB = false ∨ (tetherGet s (posTether pos)).double
      = true ∨ healHeld s (posTether pos) = true)) ∧
    (∃ (pos : Nat) (b : Bool) (rx : Arrival) (s : State), pos < 256 ∧ TakesResult s pos b 5 0xFF [] rx ∧ (tetherGet s
      (posTether pos)).mode = 3 ∧ (tetherGet s (posTether pos)).heal = none ∧ (viewGet s pos).hop + 1 = (tetherGet s
      (posTether pos)).brkA ∧ (tetherGet s (posTether pos)).healReadyB = true ∧ (tetherGet s (posTether pos)).double =
      false ∧ healHeld s (posTether pos) = false) ∧
    (∃ (sat : Nat) (s : State), posNo sat ≠ 0 ∧ (satHears (satGet s sat) = false ∨ ((satGet s sat).foldA = false ∧
      (satGet s sat).foldB = false))) ∧
    (∃ (sat : Nat) (s : State), posNo sat ≠ 0 ∧ satHears (satGet s sat) = true ∧ ((satGet s sat).foldA = true ∨
      (satGet s sat).foldB = true)) ∧
    (∃ (sat : Nat) (s : State), sat < 256 ∧ posNo sat = 0 ∧ (tetherGet s (posTether sat)).linkOut.stands = false ∧
      (tetherGet s (posTether sat)).linkRet.stands = false) ∧
    (∃ (sat : Nat) (s : State), sat < 256 ∧ posNo sat = 0 ∧ (tetherGet s (posTether sat)).linkOut.stands = true ∧
      (tetherGet s (posTether sat)).linkRet.stands = false) ∧
    (∃ (sat : Nat) (s : State), sat < 256 ∧ posNo sat = 0 ∧ (tetherGet s (posTether sat)).linkRet.stands = true) ∧
    (∃ (sat : Nat) (r : Bool) (w : Bool) (rx : Arrival) (s : State), posNo sat ≠ 0 ∧ satHears (satGet s sat) = true ∧
      Arrives (linkFrame rx.pos rx.pairK r w) rx ∧ (if rx.pairK then (satGet s sat).foldB else (satGet s sat).foldA) =
      true) ∧
    (∃ (sat : Nat) (r : Bool) (w : Bool) (rx : Arrival) (s : State), posNo sat ≠ 0 ∧ satHears (satGet s sat) = true ∧
      Arrives (linkFrame rx.pos rx.pairK r w) rx ∧ (if rx.pairK then (satGet s sat).foldB else (satGet s sat).foldA) =
      false ∧ (satGet s sat).unwrapped = true ∧ w = true ∧ (satGet s sat).lastPortB = rx.pairK) ∧
    (∃ (sat : Nat) (r : Bool) (w : Bool) (rx : Arrival) (s : State), posNo sat ≠ 0 ∧ satHears (satGet s sat) = true ∧
      Arrives (linkFrame rx.pos rx.pairK r w) rx ∧ (if rx.pairK then (satGet s sat).foldB else (satGet s sat).foldA) =
      false ∧ ((satGet s sat).unwrapped = false ∨ w = false ∨ (satGet s sat).lastPortB ≠ rx.pairK)) ∧
    (∃ (sat : Nat) (r : Bool) (w : Bool) (rx : Arrival) (s : State), sat < 256 ∧ posNo sat = 0 ∧ HubTakes s (posTether
      sat) (linkFrame rx.pos rx.pairK r w) rx ∧ rx.pairK = true ∧ (tetherGet s (posTether sat)).linkOut.stands = true) ∧
    (∃ (sat : Nat) (r : Bool) (w : Bool) (rx : Arrival) (s : State), sat < 256 ∧ posNo sat = 0 ∧ HubTakes s (posTether
      sat) (linkFrame rx.pos rx.pairK r w) rx ∧ rx.pairK = false ∧ (tetherGet s (posTether sat)).linkRet.stands =
      true) ∧
    (∃ (sat : Nat) (r : Bool) (w : Bool) (rx : Arrival) (s : State), sat < 256 ∧ posNo sat = 0 ∧ HubTakes s (posTether
      sat) (linkFrame rx.pos rx.pairK r w) rx ∧ rx.pairK = true ∧ (tetherGet s (posTether sat)).linkOut.stands = false
      ∧ (tetherGet s (posTether sat)).mode = 2 ∧ w = true ∧ (tetherGet s (posTether sat)).healed.map (fun g => g.1) =
      some 1) ∧
    (∃ (sat : Nat) (s : State), posNo sat ≠ 0 ∧ satHears (satGet s sat) = true ∧ (satGet s sat).linkRx = true ∧
      ((satGet s sat).foldA = true ∨ (satGet s sat).foldB = true)) ∧
    (∃ (sat : Nat) (s : State), posNo sat ≠ 0 ∧ (satGet s sat).linkRx = false) ∧
    (∃ (sat : Nat) (s : State), sat < 256 ∧ posNo sat = 0 ∧ ringLive s = true ∧ (tetherGet s (posTether sat)).mode = 3
      ∧ (tetherGet s (posTether sat)).linkOut.stands = true ∧ (tetherGet s (posTether sat)).linkOut.rx = true ∧
      (tetherGet s (posTether sat)).linkRet.stands = false ∧ (tetherGet s (posTether sat)).healReadyB = false) ∧
    (∃ (sat : Nat) (s : State), sat < 256 ∧ posNo sat = 0 ∧ ringLive s = true ∧ (tetherGet s (posTether sat)).mode = 3
      ∧ (tetherGet s (posTether sat)).linkOut.stands = true ∧ (tetherGet s (posTether sat)).linkOut.rx = true ∧
      (tetherGet s (posTether sat)).linkRet.stands = false ∧ (tetherGet s (posTether sat)).healReadyB = true ∧
      (tetherGet s (posTether sat)).heal = none ∧ (tetherGet s (posTether sat)).double = false ∧ healHeld s (posTether
      sat) = false) ∧
    (∃ (sat : Nat) (n : Nat) (rx : Arrival) (s : State), TakesFrame (satGet s sat) (toSat rx false 8 (natLe 8 n)) rx ∧
      ((satGet s sat).foldA = true ∨ (satGet s sat).foldB = true)) ∧
    (∃ (sat : Nat) (n : Nat) (rx : Arrival) (s : State), TakesFrame (satGet s sat) (toSat rx false 8 (natLe 8 n)) rx ∧
      (satGet s sat).foldA = false ∧ (satGet s sat).foldB = false) ∧
    (∃ (k : Nat) (n : Nat) (rx : Arrival) (h : Heal) (s : State), k < 4 ∧ HubTakes s k
      { pos := rx.pos, dir := true, type := 8 } rx ∧ (tetherGet s k).heal = some h ∧ h.cancelling = false ∧ n ≠
      h.tick) ∧
    (∃ (k : Nat) (n : Nat) (rx : Arrival) (h : Heal) (s : State), k < 4 ∧ HubTakes s k
      { pos := rx.pos, dir := true, type := 8 } rx ∧ (tetherGet s k).heal = some h ∧ h.cancelling = false ∧ n =
      h.tick) ∧
    (∃ (k : Nat) (fromB : Bool) (rx : Arrival) (h : Heal) (s : State), k < 4 ∧ HubTakes s k
      { pos := rx.pos, dir := true, type := 8 } rx ∧ (tetherGet s k).heal = some h ∧ h.cancelling = true ∧
      (h.answeredA || !fromB) = true ∧ (h.answeredB || fromB) = true ∧ (tetherGet s k).mode = 3 ∧ bothReady (tetherGet
      s k) = true ∧ (tetherGet s k).double = false ∧ healHeld s k = false) ∧
    (∃ (k : Nat) (s : State), k < 4 ∧ ringLive s = true ∧ (tetherGet s k).heal = none) ∧
    (∃ (k : Nat) (h : Heal) (s : State), ringLive s = true ∧ k < 4 ∧ (tetherGet s k).heal = some h ∧ h.cancelling =
      false ∧ (h.answeredA = true ∧ h.answeredB = true)) ∧
    (∃ (k : Nat) (h : Heal) (s : State), ringLive s = true ∧ k < 4 ∧ (rigTether s k).isSome = true ∧ (tetherGet s
      k).heal = some h ∧ h.cancelling = false ∧ h.answeredA = true ∧ h.answeredB = true) ∧
    (∃ (k : Nat) (s : State), (ringLive s = false ∨ (tetherGet s k).heal = none ∨ (tetherGet s k).heal.any (fun h =>
      h.cancelling || !h.answeredA || !h.answeredB) = true)) ∧
    (∃ (p : Port) (data : Word) (s : State), WriteAdmitted s p 0x2C0 ∧ tthRefusal s (data.toNat % 4) 1 = 0) ∧
    (∃ (p : Port) (data : Word) (s : State), WriteAdmitted s p 0x2C0 ∧ tthRefusal s (data.toNat % 4) 2 = 0) ∧
    (∃ (p : Port) (data : Word) (s : State), WriteAdmitted s p 0x2C0 ∧ tthRefusal s (data.toNat % 4) 3 = 0 ∧ bitAt
      s.tth.hold (data.toNat % 4) = false ∧ bothReady (tetherGet s (data.toNat % 4)) = true ∧ (tetherGet s (data.toNat
      % 4)).double = false ∧ (tetherGet s (data.toNat % 4)).heal = none) ∧
    (∃ (p : Port) (data : Word) (s : State), WriteAdmitted s p 0x2C0 ∧ tthRefusal s (data.toNat % 4) 1 ≠ 0) ∧
    (∃ (p : Port) (data : Word) (s : State), WriteAdmitted s p 0x2C0 ∧ tthRefusal s (data.toNat % 4) 2 ≠ 0) ∧
    (∃ (p : Port) (data : Word) (s : State), WriteAdmitted s p 0x2C0 ∧ tthRefusal s (data.toNat % 4) 3 ≠ 0) :=
  ⟨
    ⟨1, true, true, true, true, { pos := 1 }, teth 0 { mode := 2, transmit := true, healReadyA := true } (view 2
      { state := .active, hop := 2 } (view 1 { state := .active, hop := 1 } hub)), by decide +kernel⟩,
    ⟨1, 3, 2, true, true, false, { pos := 1 }, teth 0 { mode := 2, healed := some (2, 3, 2) } (view 1
      { state := .active, hop := 1 } hub), by decide +kernel⟩,
    ⟨1, true, { pos := 1 }, teth 0 { mode := 3, brkA := 2, brkB := 2 } (view 1 { state := .active, hop := 1 } hub),
      by decide +kernel⟩,
    ⟨1, true, { pos := 1 }, teth 0 { mode := 3, brkA := 2, brkB := 2, healReadyB := true } (view 1
      { state := .active, hop := 1 } hub), by decide +kernel⟩,
    ⟨2, hub, by decide +kernel⟩,
    ⟨1, zg 1 { zg0 with foldA := true, linkHeard := true } hub, by decide +kernel⟩,
    ⟨0, hub, by decide +kernel⟩,
    ⟨0, teth 0 { mode := 3, linkOut := { stands := true, heard := true } } hub, by decide +kernel⟩,
    ⟨0, teth 0 { mode := 3, linkOut := { stands := true }, linkRet := { stands := true, rx := true } } hub,
      by decide +kernel⟩,
    ⟨1, true, false, { pos := 1 }, zg 1 { zg0 with foldA := true } hub, by decide +kernel⟩,
    ⟨1, true, true, { pos := 1 }, zg 1 { zg0 with lastPortB := false, unwrapped := true } hub, by decide +kernel⟩,
    ⟨1, true, true, { pos := 1 }, zg 1 { zg0 with lastPortB := true, unwrapped := true } hub, by decide +kernel⟩,
    ⟨0, true, true, { pos := 1, pairK := true }, teth 0 { mode := 3, linkOut := { stands := true } } hub,
      by decide +kernel⟩,
    ⟨0, true, true, { pos := 1 }, teth 0 { mode := 3, linkRet := { stands := true } } hub, by decide +kernel⟩,
    ⟨0, false, true, { pos := 1, pairK := true }, teth 0 { mode := 2, healed := some (1, 3, 2) } hub,
      by decide +kernel⟩,
    ⟨1, zg 1 { zg0 with foldB := true, linkRx := true } hub, by decide +kernel⟩,
    ⟨1, zg 1 { zg0 with foldB := true } hub, by decide +kernel⟩,
    ⟨0, teth 0 { mode := 3, linkOut := { stands := true, rx := true } } hub, by decide +kernel⟩,
    ⟨0, teth 0 { mode := 3, brkA := 1, brkB := 1, healReadyB := true, linkOut := { stands := true, rx := true } }
      (view 1 { state := .active, hop := 1 } hub), by decide +kernel⟩,
    ⟨1, 77, { pos := 1 }, zg 1 { zg0 with foldB := true } hub, by decide +kernel⟩,
    ⟨1, 77, { pos := 1 }, zg 1 zg0 hub, by decide +kernel⟩,
    ⟨0, 8, { pos := 1 }, { tick := 9 }, teth 0 { mode := 3, heal := some { tick := 9 } } hub, by decide +kernel⟩,
    ⟨0, 9, { pos := 1 }, { tick := 9 }, teth 0 { mode := 3, heal := some { tick := 9 } } hub, by decide +kernel⟩,
    ⟨0, true, { pos := 1 }, { tick := 9, cancelling := true, answeredA := true }, teth 0
      { mode := 3, healReadyA := true, healReadyB := true, heal := some { tick := 9, cancelling := true, answeredA := true } }
      hub, by decide +kernel⟩,
    ⟨0, hub, by decide +kernel⟩,
    ⟨0, { tick := 9, answeredA := true, answeredB := true }, teth 0
      { mode := 3, heal := some { tick := 9, answeredA := true, answeredB := true } } hub, by decide +kernel⟩,
    ⟨0, { tick := 9, answeredA := true, answeredB := true }, zg 1 { zg0 with foldB := true, unwrapAt := some 9 } (view
      1 { state := .active, hop := 1, folded := true, path := .retEnd } (teth 0
      { mode := 3, loopF := 4, heal := some { tick := 9, answeredA := true, answeredB := true } } hub)),
      by decide +kernel⟩,
    ⟨0, zg 1 { zg0 with foldB := true, unwrapAt := some 9 } (teth 0
      { mode := 3, heal := some { tick := 9, answeredA := true } } hub), by decide +kernel⟩,
    ⟨.b, 0, view 1 { state := .active } (teth 0 { mode := 3, healReadyA := true, healReadyB := true } hub),
      by decide +kernel⟩,
    ⟨.b, 0, view 1 { state := .active } (teth 0 { mode := 3, healReadyA := true, healReadyB := true } hub),
      by decide +kernel⟩,
    ⟨.b, 0, view 1 { state := .active } (teth 0 { mode := 3, healReadyA := true, healReadyB := true } hub),
      by decide +kernel⟩,
    ⟨.b, 0x000, teth 0 { mode := 2, walk := some {} } hub, by decide +kernel⟩,
    ⟨.a, 0x002, hub, by decide +kernel⟩,
    ⟨.b, 0x000, teth 0 { mode := 2, walk := some {} } hub, by decide +kernel⟩⟩

/-- The hypotheses of `Obligations.SatelliteCommands` are met, and in each of its cases those of that case. -/
theorem witness_SatelliteCommands :
    (∃ (i : Instr) (c : CmdIn) (s : State), cmdOf i = some c ∧ satHears (satGet s c.sat) = false) ∧
    (∃ (i : Instr) (c : CmdIn) (s : State), cmdOf i = some c ∧ satHears (satGet s c.sat) = true ∧ named (satGet s
      c.sat) c.rx = false) ∧
    (∃ (i : Instr) (c : CmdIn) (s : State), cmdOf i = some c ∧ satHears (satGet s c.sat) = true ∧ named (satGet s
      c.sat) c.rx = true ∧ (¬ Arrives (cmdFrame c.rx c.h c.code c.args) c.rx)) ∧
    (∃ (i : Instr) (c : CmdIn) (s : State), cmdOf i = some c ∧ TakesFrame (satGet s c.sat) (cmdFrame c.rx c.h c.code
      c.args) c.rx ∧ (satGet s c.sat).lastH = c.h) ∧
    (∃ (i : Instr) (c : CmdIn) (s : State), cmdOf i = some c ∧ TakesFrame (satGet s c.sat) (cmdFrame c.rx c.h c.code
      c.args) c.rx ∧ (satGet s c.sat).lastH ≠ c.h ∧ (satGet s c.sat).cond = .asleep) ∧
    (∃ (i : Instr) (c : CmdIn) (s : State), cmdOf i = some c ∧ TakesAny (satGet s c.sat) c.h c.code c.args c.rx ∧
      (satGet s c.sat).imageState ≠ 0 ∧ (c.code < 0x0A ∨ c.code = 0x0D)) ∧
    (∃ (sat : Nat) (h : Bool) (l : List Byte) (rx : Arrival) (s : State), TakesCmd (satGet s sat) h 0x01 l rx ∧
      l.length = 30 ∧ (5 ≤ (fun lo n => leNat (slice l lo n)) 0 2 ∧ (fun lo n => leNat (slice l lo n)) 0 2 ≤ 1000) ∧
      (fun lo n => leNat (slice l lo n)) 2 1 < 4 ∧ (fun lo n => leNat (slice l lo n)) 3 2 ≤ 1023 ∧ (1 ≤ (fun lo n =>
      leNat (slice l lo n)) 5 2 ∧ (fun lo n => leNat (slice l lo n)) 5 2 ≤ 1023) ∧ (fun lo n => leNat (slice l lo n))
      7 2 ≤ 0x3FD ∧ (fun lo n => leNat (slice l lo n)) 9 2 ≤ 0x3FD ∧ (60 ≤ (fun lo n => leNat (slice l lo n)) 11 2 ∧
      (fun lo n => leNat (slice l lo n)) 11 2 ≤ 480) ∧ (50 ≤ (fun lo n => leNat (slice l lo n)) 13 2 ∧ (fun lo n =>
      leNat (slice l lo n)) 13 2 ≤ 1000) ∧ (1 ≤ (fun lo n => leNat (slice l lo n)) 15 1 ∧ (fun lo n => leNat (slice l
      lo n)) 15 1 ≤ 100) ∧ (400 ≤ (fun lo n => leNat (slice l lo n)) 16 2 ∧ (fun lo n => leNat (slice l lo n)) 16 2 ≤
      1023) ∧ (10 ≤ (fun lo n => leNat (slice l lo n)) 18 2 ∧ (fun lo n => leNat (slice l lo n)) 18 2 ≤ 400) ∧ 40 ≤
      (fun lo n => leNat (slice l lo n)) 20 2 ∧ (32 ≤ (fun lo n => leNat (slice l lo n)) 22 2 ∧ (fun lo n => leNat
      (slice l lo n)) 22 2 ≤ 1023) ∧ frxOk ((fun lo n => leNat (slice l lo n)) 24 2) = true ∧ frxOk ((fun lo n =>
      leNat (slice l lo n)) 26 2) = true ∧ frxOk ((fun lo n => leNat (slice l lo n)) 28 2) = true) ∧
    (∃ (sat : Nat) (h : Bool) (l : List Byte) (rx : Arrival) (s : State), TakesCmd (satGet s sat) h 0x01 l rx ∧
      (l.length ≠ 30 ∨ 0x3FD < leNat (slice l 7 2) ∨ 0x3FD < leNat (slice l 9 2) ∨ 1023 < leNat (slice l 3 2))) ∧
    (∃ (sat : Nat) (n : Nat) (h : Bool) (l : List Byte) (rx : Arrival) (s : State), TakesCmd (satGet s sat) h 0x02 l
      rx ∧ l.length = 7 ∧ (fun lo n => leNat (slice l lo n)) 0 1 = n ∧ n < 4 ∧ (fun lo n => leNat (slice l lo n)) 1 1
      ≤ 2 ∧ (fun lo n => leNat (slice l lo n)) 2 1 < 8 ∧ (fun lo n => leNat (slice l lo n)) 3 1 ≤ 1 ∧ (10 ≤ (fun lo n
      => leNat (slice l lo n)) 4 2 ∧ (fun lo n => leNat (slice l lo n)) 4 2 ≤ 300) ∧ (fun lo n => leNat (slice l lo
      n)) 6 1 ≤ 1 ∧ inSession (slotGet s (4 * sat + n)) = false ∧ (slotGet s (4 * sat + n)).st ≠ .falling ∧ (slotGet s
      (4 * sat + n)).st ≠ .tripped) ∧
    (∃ (sat : Nat) (n : Nat) (h : Bool) (l : List Byte) (rx : Arrival) (s : State), TakesCmd (satGet s sat) h 0x02 l
      rx ∧ l.length = 7 ∧ (fun lo n => leNat (slice l lo n)) 0 1 = n ∧ n < 4 ∧ (fun lo n => leNat (slice l lo n)) 1 1
      ≤ 2 ∧ (fun lo n => leNat (slice l lo n)) 2 1 < 8 ∧ (fun lo n => leNat (slice l lo n)) 3 1 ≤ 1 ∧ (10 ≤ (fun lo n
      => leNat (slice l lo n)) 4 2 ∧ (fun lo n => leNat (slice l lo n)) 4 2 ≤ 300) ∧ (fun lo n => leNat (slice l lo
      n)) 6 1 ≤ 1 ∧ (inSession (slotGet s (4 * sat + n)) = true ∨ (slotGet s (4 * sat + n)).st = .falling ∨ (slotGet s
      (4 * sat + n)).st = .tripped)) ∧
    (∃ (sat : Nat) (n : Nat) (off : Nat) (h : Bool) (l : List Byte) (rx : Arrival) (s : State), TakesCmd (satGet s
      sat) h 0x03 (byte n :: natLe 2 off ++ l) rx ∧ n < 4 ∧ l ≠ [] ∧ l.length ≤ 252 ∧ 1024 < off + l.length) ∧
    (∃ (sat : Nat) (n : Nat) (off : Nat) (h : Bool) (l : List Byte) (rx : Arrival) (s : State), TakesCmd (satGet s
      sat) h 0x03 (byte n :: natLe 2 off ++ l) rx ∧ n < 4 ∧ l ≠ [] ∧ l.length ≤ 252 ∧ off + l.length ≤ 1024 ∧ (slotGet
      s (4 * sat + n)).run ≠ none) ∧
    (∃ (sat : Nat) (n : Nat) (off : Nat) (h : Bool) (l : List Byte) (rx : Arrival) (s : State), TakesCmd (satGet s
      sat) h 0x03 (byte n :: natLe 2 off ++ l) rx ∧ n < 4 ∧ l ≠ [] ∧ l.length ≤ 252 ∧ off + l.length ≤ 1024 ∧ (slotGet
      s (4 * sat + n)).run = none) ∧
    (∃ (sat : Nat) (n : Nat) (op : Nat) (len : Nat) (param : Nat) (oid : Nat) (h : Bool) (rx : Arrival) (s : State),
      TakesCmd (satGet s sat) h 0x04 ([byte n, byte op] ++ arg2 len ++ arg2 param ++ arg2 oid) rx ∧ n < 4 ∧ isSlotOp
      op = true ∧ len ≤ 1024 ∧ (lengthRange op).1 ≤ len ∧ len ≤ (lengthRange op).2 ∧ ((satGet s sat).setSat = false ∨
      (satGet s sat).setSlots ≠ 0xF)) ∧
    (∃ (sat : Nat) (n : Nat) (op : Nat) (len : Nat) (param : Nat) (oid : Nat) (h : Bool) (rx : Arrival) (s : State),
      TakesCmd (satGet s sat) h 0x04 ([byte n, byte op] ++ arg2 len ++ arg2 param ++ arg2 oid) rx ∧ n < 4 ∧ isSlotOp
      op = true ∧ len ≤ 1024 ∧ (lengthRange op).1 ≤ len ∧ len ≤ (lengthRange op).2 ∧ (satGet s sat).setSat = true ∧
      (satGet s sat).setSlots = 0xF ∧ (slotGet s (4 * sat + n)).run ≠ none) ∧
    (∃ (sat : Nat) (n : Nat) (op : Nat) (len : Nat) (param : Nat) (oid : Nat) (h : Bool) (rx : Arrival) (s : State),
      TakesCmd (satGet s sat) h 0x04 ([byte n, byte op] ++ arg2 len ++ arg2 param ++ arg2 oid) rx ∧ n < 4 ∧ isSlotOp
      op = true ∧ len ≤ 1024 ∧ (lengthRange op).1 ≤ len ∧ len ≤ (lengthRange op).2 ∧ (satGet s sat).setSat = true ∧
      (satGet s sat).setSlots = 0xF ∧ (slotGet s (4 * sat + n)).run = none ∧ slotAdmits (slotGet s (4 * sat + n)) op =
      false) ∧
    (∃ (sat : Nat) (n : Nat) (op : Nat) (len : Nat) (param : Nat) (oid : Nat) (h : Bool) (rx : Arrival) (s : State),
      TakesCmd (satGet s sat) h 0x04 ([byte n, byte op] ++ arg2 len ++ arg2 param ++ arg2 oid) rx ∧ n < 4 ∧ isSlotOp
      op = true ∧ len ≤ 1024 ∧ (lengthRange op).1 ≤ len ∧ len ≤ (lengthRange op).2 ∧ (satGet s sat).setSat = true ∧
      (satGet s sat).setSlots = 0xF ∧ (slotGet s (4 * sat + n)).run = none ∧ slotAdmits (slotGet s (4 * sat + n)) op =
      true) ∧
    (∃ (sat : Nat) (h : Bool) (rx : Arrival) (s : State), TakesCmd (satGet s sat) h 0x05 [] rx ∧ ((∀ n, n < 4 → sleeps
      (slotGet s (4 * sat + n)).st = true))) ∧
    (∃ (sat : Nat) (h : Bool) (rx : Arrival) (s : State), TakesCmd (satGet s sat) h 0x05 [] rx ∧ ((∃ n, n < 4 ∧ sleeps
      (slotGet s (4 * sat + n)).st = false))) ∧
    (∃ (sat : Nat) (n : Nat) (h : Bool) (rx : Arrival) (s : State), TakesCmd (satGet s sat) h 0x07 [byte n, 1] rx ∧ n
      < 4) ∧
    (∃ (sat : Nat) (n : Nat) (h : Bool) (rx : Arrival) (s : State), TakesCmd (satGet s sat) h 0x07 [byte n, 2] rx ∧ n
      < 4 ∧ fetchWaits (satGet s sat) n = true) ∧
    (∃ (sat : Nat) (n : Nat) (h : Bool) (rx : Arrival) (s : State), TakesCmd (satGet s sat) h 0x07 [byte n, 2] rx ∧ n
      < 4 ∧ fetchWaits (satGet s sat) n = false) ∧
    (∃ (sat : Nat) (n : Nat) (h : Bool) (rx : Arrival) (s : State), TakesCmd (satGet s sat) h 0x07 [byte n, 3] rx ∧ n
      < 4 ∧ sat ≠ 0 ∧ (slotGet s (4 * sat + n)).trace.frozen = false ∧ (slotGet s (4 * sat + n)).trace.remaining =
      none) ∧
    (∃ (k : Nat) (s : State), (slotGet s k).trace.remaining = some 0) ∧
    (∃ (sat : Nat) (n : Nat) (h : Bool) (rx : Arrival) (s : State), TakesCmd (satGet s sat) h 0x08 [byte n] rx ∧ n < 4
      ∧ (slotGet s (4 * sat + n)).st ≠ .tripped) ∧
    (∃ (sat : Nat) (n : Nat) (h : Bool) (rx : Arrival) (s : State), TakesCmd (satGet s sat) h 0x08 [byte n] rx ∧ n < 4
      ∧ (slotGet s (4 * sat + n)).st = .tripped) ∧
    (∃ (sat : Nat) (h : Bool) (bits : BitVec 9) (rx : Arrival) (s : State), TakesCmd (satGet s sat) h 0x09 (arg2
      bits.toNat) rx) ∧
    (∃ (sat : Nat) (h : Bool) (mask : BitVec 4) (rx : Arrival) (s : State), sat ≠ 0 ∧ TakesAny (satGet s sat) h 0x0A
      [byte mask.toNat] rx) ∧
    (∃ (sat : Nat) (h : Bool) (rx : Arrival) (s : State), sat ≠ 0 ∧ TakesAny (satGet s sat) h 0x0B [] rx) ∧
    (∃ (sat : Nat) (h : Bool) (rx : Arrival) (s : State), TakesAny (satGet s sat) h 0x0C [] rx) ∧
    (∃ (sat : Nat) (n : Nat) (c : Nat) (h : Bool) (l : List Byte) (rx : Arrival) (s : State), TakesCmd (satGet s sat)
      h 0x0D ([byte n, byte c] ++ l) rx ∧ n < 4 ∧ l.length = 128 ∧ c < 16 ∧ ((slotGet s (4 * sat + n)).st) ≠ .empty ∧
      ((slotGet s (4 * sat + n)).st) ≠ .disabled) ∧
    (∃ (sat : Nat) (n : Nat) (c : Nat) (h : Bool) (l : List Byte) (rx : Arrival) (s : State), TakesCmd (satGet s sat)
      h 0x0D ([byte n, byte c] ++ l) rx ∧ n < 4 ∧ l.length = 128 ∧ c < 15 ∧ (((slotGet s (4 * sat + n)).st) = .empty ∨
      ((slotGet s (4 * sat + n)).st) = .disabled)) ∧
    (∃ (sat : Nat) (n : Nat) (c : Nat) (h : Bool) (l : List Byte) (rx : Arrival) (s : State), TakesCmd (satGet s sat)
      h 0x0D ([byte n, byte c] ++ l) rx ∧ n < 4 ∧ l.length = 128 ∧ c = 15 ∧ (((slotGet s (4 * sat + n)).st) = .empty ∨
      ((slotGet s (4 * sat + n)).st) = .disabled)) :=
  ⟨
    ⟨.put 1 true 1 2 [] { pos := 1 }, (cmdOf (.put 1 true 1 2 [] { pos := 1 })).getD ⟨0, true, 0, [], {}⟩, hub,
      by decide +kernel⟩,
    ⟨.put 1 true 1 2 [3] { pos := 2 }, (cmdOf (.put 1 true 1 2 [3] { pos := 2 })).getD ⟨0, true, 0, [], {}⟩, zg 1 zg0
      hub, by decide +kernel⟩,
    ⟨.sleepCommand 1 true { pos := 1, raw := some [.d 3] }, (cmdOf (.sleepCommand 1 true
      { pos := 1, raw := some [.d 3] })).getD ⟨0, true, 0, [], {}⟩, zg 1 zg0 hub, by decide +kernel⟩,
    ⟨.ripcordCommand 1 false 3 { pos := 1 }, (cmdOf (.ripcordCommand 1 false 3 { pos := 1 })).getD ⟨0, true, 0, [],
      {}⟩, zg 1 { zg0 with cack := 4 } hub, by decide +kernel⟩,
    ⟨.updEnd 1 true { pos := 1 }, (cmdOf (.updEnd 1 true { pos := 1 })).getD ⟨0, true, 0, [], {}⟩, zg 1
      { zg0 with cond := .asleep } hub, by decide +kernel⟩,
    ⟨.traceReplayCommand 1 true 1 2 [] { pos := 1 }, (cmdOf (.traceReplayCommand 1 true 1 2 [] { pos := 1 })).getD ⟨0,
      true, 0, [], {}⟩, zg 1 { zg0 with imageState := 2, cond := .loader } hub, by decide +kernel⟩,
    ⟨1, true, arg2 100 ++ [3] ++ arg2 7 ++ arg2 9 ++ arg2 100 ++ arg2 100 ++ arg2 300 ++ arg2 100 ++ [5] ++ arg2 500
      ++ arg2 20 ++ arg2 50 ++ arg2 40 ++ arg2 0x049 ++ arg2 0x288 ++ arg2 0x3B6, { pos := 1 }, zg 1 zg0 hub,
      by decide +kernel⟩,
    ⟨1, true, [], { pos := 1 }, zg 1 zg0 hub, by decide +kernel⟩,
    ⟨1, 2, true, [2, 1, 7, 0] ++ arg2 100 ++ [0], { pos := 1 }, zg 1 { zg0 with setSlots := 3 } (slot 6
      { det := true } hub), by decide +kernel⟩,
    ⟨1, 2, true, [2, 1, 7, 0] ++ arg2 100 ++ [0], { pos := 1 }, zg 1 { zg0 with setSlots := 3 } (slot 6
      { st := .tripped, det := true } hub), by decide +kernel⟩,
    ⟨1, 2, 1023, true, [2, 1], { pos := 1 }, zg 1 zg0 (slot 6 { buf := [(4, 9), (7, 7)] } hub), by decide +kernel⟩,
    ⟨1, 2, 1, true, [2, 1], { pos := 1 }, zg 1 zg0 (slot 6 { run := some (runs 4) } hub), by decide +kernel⟩,
    ⟨1, 2, 1, true, [2, 1], { pos := 1 }, zg 1 zg0 (slot 6 { buf := [(4, 9), (7, 7)] } hub), by decide +kernel⟩,
    ⟨1, 2, 4, 7, 1, 1, true, { pos := 1 }, zg 1 { zg0 with setSlots := 7 } hub, by decide +kernel⟩,
    ⟨1, 2, 4, 7, 1, 1, true, { pos := 1 }, zg 1 zg0 (slot 6 { st := .ready, run := some (runs 4) } hub),
      by decide +kernel⟩,
    ⟨1, 2, 4, 7, 1, 1, true, { pos := 1 }, zg 1 zg0 (slot 6 { st := .ready } hub), by decide +kernel⟩,
    ⟨1, 2, 4, 7, 1, 1, true, { pos := 1 }, zg 1 zg0 (slot 6 { st := .ready, cfg := { kind := .iso, classes := 7 } }
      hub), by decide +kernel⟩,
    ⟨1, true, { pos := 1 }, zg 1 zg0 (slot 6 { st := .present } hub), by decide +kernel⟩,
    ⟨1, true, { pos := 1 }, zg 1 zg0 (slot 6 { st := .ready } hub), by decide +kernel⟩,
    ⟨1, 2, true, { pos := 1 }, zg 1 zg0 (slot 6 { trace := { entries := [⟨1, 2, 3⟩] } } hub), by decide +kernel⟩,
    ⟨1, 2, true, { pos := 1 }, zg 1 { zg0 with sending := some { kind := 0x0C, slot := 2 } } hub, by decide +kernel⟩,
    ⟨1, 2, true, { pos := 1 }, zg 1 { zg0 with sending := some { kind := 4 } } (slot 6
      { trace := { entries := [⟨1, 2, 3⟩] } } hub), by decide +kernel⟩,
    ⟨1, 2, true, { pos := 1 }, zg 1 zg0 (slot 6 { trace := { entries := [⟨1, 2, 3⟩] } } hub), by decide +kernel⟩,
    ⟨6, slot 6 { trace := { remaining := some 0, entries := [⟨1, 2, 3⟩] } } hub, by decide +kernel⟩,
    ⟨1, 2, true, { pos := 1 }, zg 1 zg0 hub, by decide +kernel⟩,
    ⟨1, 2, true, { pos := 1 }, zg 1 zg0 (slot 6 { st := .tripped, det := true, cfg := { kind := .iso, classes := 7 } }
      hub), by decide +kernel⟩,
    ⟨1, true, 1, { pos := 1 }, zg 1 { zg0 with fault := { fst := 0x103 } } hub, by decide +kernel⟩,
    ⟨1, true, 1, { pos := 1 }, zg 1 zg0 (slot 4 (t1Slot []) (slot 5 (t1Slot []) hub)), by decide +kernel⟩,
    ⟨1, true, { pos := 1 }, zg 1 { zg0 with grail0 := 2, sending := some { kind := 4 } } (slot 4 (t1Slot []) (slot 5
      (t1Slot []) hub)), by decide +kernel⟩,
    ⟨1, true, { pos := 1 }, zg 1 zg0 hub, by decide +kernel⟩,
    ⟨1, 2, 3, true, List.replicate 128 0, { pos := 1 }, zg 1 { zg0 with replayBytes := List.replicate 400 3 } (slot 6
      { st := .present } hub), by decide +kernel⟩,
    ⟨1, 2, 1, true, List.replicate 128 0, { pos := 1 }, zg 1 zg0 (slot 6 {} hub), by decide +kernel⟩,
    ⟨1, 2, 15, true, List.replicate 128 0, { pos := 1 }, zg 1 zg0 (slot 6 {} hub), by decide +kernel⟩⟩

/-- The hypotheses of `Obligations.SatelliteLoaders` are met, and in each of its cases those of that case. -/
theorem witness_SatelliteLoaders :
    (∃ (sat : Nat) (h : Bool) (l : List Byte) (rx : Arrival) (s : State), sat ≠ 0 ∧ TakesAny (satGet s sat) h 0x10 l
      rx ∧ l.length ≠ 42) ∧
    (∃ (sat : Nat) (h : Bool) (l : List Byte) (rx : Arrival) (s : State), sat ≠ 0 ∧ TakesAny (satGet s sat) h 0x10 l
      rx ∧ l.length = 42) ∧
    (∃ (sat : Nat) (off : Nat) (h : Bool) (l : List Byte) (rx : Arrival) (s : State), TakesAny (satGet s sat) h 0x11
      (natLe 3 off ++ l) rx ∧ l ≠ [] ∧ l.length ≤ 240 ∧ (satGet s sat).receiving = false) ∧
    (∃ (sat : Nat) (off : Nat) (h : Bool) (l : List Byte) (rx : Arrival) (s : State), TakesAny (satGet s sat) h 0x11
      (natLe 3 off ++ l) rx ∧ l ≠ [] ∧ l.length ≤ 240 ∧ (satGet s sat).receiving = true ∧ (¬ ((satGet s
      sat).imageStart ≤ off ∧ off + l.length ≤ (satGet s sat).imageStart + (satGet s sat).imageLen))) ∧
    (∃ (sat : Nat) (off : Nat) (h : Bool) (l : List Byte) (rx : Arrival) (s : State), TakesAny (satGet s sat) h 0x11
      (natLe 3 off ++ l) rx ∧ l ≠ [] ∧ l.length ≤ 240 ∧ (satGet s sat).receiving = true ∧ (((satGet s sat).imageStart
      ≤ off ∧ off + l.length ≤ (satGet s sat).imageStart + (satGet s sat).imageLen))) ∧
    (∃ (sat : Nat) (h : Bool) (rx : Arrival) (s : State), sat ≠ 0 ∧ TakesAny (satGet s sat) h 0x12 [] rx ∧ (satGet s
      sat).receiving = false) ∧
    (∃ (sat : Nat) (h : Bool) (rx : Arrival) (s : State), sat ≠ 0 ∧ TakesAny (satGet s sat) h 0x12 [] rx ∧ (satGet s
      sat).receiving = true ∧ sha256 (receivedBytes (satGet s sat)) ≠ (satGet s sat).imageHash) ∧
    (∃ (sat : Nat) (h : Bool) (rx : Arrival) (s : State), sat ≠ 0 ∧ TakesAny (satGet s sat) h 0x12 [] rx ∧ (satGet s
      sat).receiving = true ∧ sha256 (receivedBytes (satGet s sat)) = (satGet s sat).imageHash) ∧
    (∃ (sat : Nat) (h : Bool) (rx : Arrival) (s : State), TakesAny (satGet s sat) h 0x13 [] rx) :=
  ⟨
    ⟨1, true, [], { pos := 1 }, zg 1 zg0 (slot 4 (t1Slot []) (slot 5 (t1Slot []) hub)), by decide +kernel⟩,
    ⟨1, true, List.replicate 42 3, { pos := 1 }, zg 1 zg0 (slot 4 (t1Slot []) (slot 5 (t1Slot []) hub)),
      by decide +kernel⟩,
    ⟨1, 1, true, [1, 0xFF], { pos := 1 }, zg 1 { zg0 with imageState := 1, cond := .loader, erasing := true } hub,
      by decide +kernel⟩,
    ⟨1, 1, true, [1, 0xFF], { pos := 1 }, zg 1
      { zg0 with imageState := 2, cond := .loader, receiving := true, imageStart := 3, imageLen := 3, image := [(5, 7)] }
      hub, by decide +kernel⟩,
    ⟨1, 4, true, [1, 0xFF], { pos := 1 }, zg 1
      { zg0 with imageState := 2, cond := .loader, receiving := true, imageStart := 3, imageLen := 3, image := [(5, 7)] }
      hub, by decide +kernel⟩,
    ⟨1, true, { pos := 1 }, zg 1 { zg0 with imageState := 1, cond := .loader, erasing := true } hub,
      by decide +kernel⟩,
    ⟨1, true, { pos := 1 }, zg 1
      { zg0 with imageState := 2, cond := .loader, receiving := true, imageStart := 3, imageLen := 3, image := [(5, 7)] }
      hub, by decide +kernel⟩,
    ⟨1, true, { pos := 1 }, zg 1
      { zg0 with imageState := 2, cond := .loader, receiving := true, imageStart := 3, imageLen := 3, image := [(5, 7)], imageHash := sha256 [0xFF, 0xFF, 7], imageVersion := 0x12345678 }
      hub, by decide +kernel⟩,
    ⟨1, true, { pos := 1 }, zg 1 { zg0 with imageState := 2, cond := .loader, receiving := true } hub,
      by decide +kernel⟩⟩

/-! ### An image whose checks pass -/

/-- The header's CRC-32. -/
theorem fwBytes_crc : crc32 (slice fwBytes 0 1020) = 1994254186 := by decide +kernel

/-- What the signature covers of that header, and its SHA-256. -/
def fwSigned : List Byte := fwBytes.take 128 ++ List.replicate 896 0

def fwHash : List Byte :=
  [251, 2, 196, 5, 170, 2, 239, 124, 11, 159, 76, 94, 48, 73, 175, 248, 181, 208, 94, 92, 215, 94, 38, 202, 84, 123, 62, 79, 82, 21, 61, 172]

theorem fwSigned_hash : sha256 fwSigned = fwHash := by decide +kernel

/-- The signature verifies under the image's key (R829). -/
theorem fwBytes_signed : ecdsaVerify (slice fwBytes 64 64) fwHash (slice fwBytes 128 64) = true := by decide +kernel

/-- Steps 1 to 9 on every image that begins with that header pass. -/
theorem fwSteps (l : List Byte) (ok : Nat → Bool)
    (hl : l.take 1024 = fwBytes.take 1024) (hok : ok 1 = true) : imageSteps fwOtp ok (imageOf l) = 0 := by
  have hn : 1024 ≤ l.length := by
    have := congrArg List.length hl
    have hf : (fwBytes.take 1024).length = 1024 := by decide +kernel
    rw [hf, List.length_take] at this
    omega
  have hs : ∀ lo n, lo + n ≤ 1024 → tblBytes 0xFF (imageOf l) lo n = slice fwBytes lo n := by
    intro lo n h
    rw [tblBytes_imageOf l lo n (by omega)]
    have e : ∀ x : List Byte, slice x lo n = slice (x.take 1024) lo n := by
      intro x
      rw [slice, slice, List.drop_take, List.take_take, Nat.min_eq_left (by omega)]
    rw [e l, hl, ← e]
  have f1 : imgField (imageOf l) 0 4 = 0xE531479C := by rw [imgField, hs 0 4 (by omega)]; decide +kernel
  have f2 : imgField (imageOf l) 4 2 = 1 := by rw [imgField, hs 4 2 (by omega)]; decide +kernel
  have f3 : imgField (imageOf l) 1020 4 = 1994254186 := by rw [imgField, hs 1020 4 (by omega)]; decide +kernel
  have f4 : imageTarget (imageOf l) = 1 := by rw [imageTarget, imgField, hs 6 1 (by omega)]; decide +kernel
  have f5 : imgField (imageOf l) 7 1 = 0 := by rw [imgField, hs 7 1 (by omega)]; decide +kernel
  have f6 : imageVersion (imageOf l) = 5 := by rw [imageVersion, imgField, hs 12 4 (by omega)]; decide +kernel
  have f7 : imgField (imageOf l) 31 1 = 0 := by rw [imgField, hs 31 1 (by omega)]; decide +kernel
  have f8 : (tblBytes 0xFF (imageOf l) 192 828).all (fun b => decide (b = 0)) = true := by
    rw [hs 192 828 (by omega)]; decide +kernel
  have f9 : imgField (imageOf l) 8 2 = 0x03F4 := by rw [imgField, hs 8 2 (by omega)]; decide +kernel
  have f10 : imgField (imageOf l) 10 1 = 1 := by rw [imgField, hs 10 1 (by omega)]; decide +kernel
  have f11 : imgField (imageOf l) 11 1 = 1 := by rw [imgField, hs 11 1 (by omega)]; decide +kernel
  have f12 : payloadLen (imageOf l) = 1 := by rw [payloadLen, imgField, hs 20 4 (by omega)]; decide +kernel
  have f13 : imgField (imageOf l) 30 1 = 0 := by rw [imgField, hs 30 1 (by omega)]; decide +kernel
  have f14 : imageKey (imageOf l) = slice fwBytes 64 64 := by rw [imageKey, hs 64 64 (by omega)]
  have f15 : crc32 (tblBytes 0xFF (imageOf l) 0 1020) = 1994254186 := by rw [hs 0 1020 (by omega), fwBytes_crc]
  have f16 : keyAdmits fwOtp 0 (slice fwBytes 64 64) = true := by decide +kernel
  have f17 : headerClean (imageOf l) = true := by
    rw [headerClean, f5, f6, f7, f8]; decide
  have f18 : sha256 (signedHeader (imageOf l)) = fwHash := by
    rw [← fwSigned_hash, signedHeader, hs 0 128 (by omega), hs 192 828 (by omega)]
    exact congrArg sha256 (by decide +kernel)
  have f19 : tblBytes 0xFF (imageOf l) 128 64 = slice fwBytes 128 64 := hs 128 64 (by omega)
  simp only [imageSteps, f1, f2, f3, f4, f6, f9, f10, f11, f12, f13, f14, f15, f16, f17, f18, f19, hok, fwBytes_signed]
  decide

theorem fwImage_hash : hashOk fwImage = true := by
  have h : payloadLen fwImage = 1 := by
    rw [payloadLen, imgField, fwImage, tblBytes_imageOf fwBytes 20 4 (by decide +kernel)]; decide +kernel
  have p : payload fwImage 0 1 = [7] := by
    rw [payload, fwImage, tblBytes_imageOf fwBytes _ 1 (by decide +kernel)]; decide +kernel
  have q : tblBytes 0xFF fwImage 32 32 = slice fwBytes 32 32 := by
    rw [fwImage, tblBytes_imageOf fwBytes 32 32 (by decide +kernel)]
  rw [hashOk, h, p, q]
  decide +kernel

theorem fwBank0_valid : bankValid fwOtp fwBank0 = true := by
  have h := fwSteps fwBytes (fun t => decide (t = 1)) rfl rfl
  have i : fwBank0.image = imageOf fwBytes := rfl
  have k : hashOk (imageOf fwBytes) = true := fwImage_hash
  have e : (fwBank0.written && !fwBank0.rejected && decide (fwBank0.complement = 0xFFFFFFFF - fwBank0.generation)) = true := by
    decide
  rw [bankValid, i, h, k, e]
  decide

/-- A hub with that image in bank A. -/
def fwOn : State := uRnd (fun x => { x with otp := fwOtp }) (uUpd (fun x => { x with bankA := fwBank0 }) hub)

theorem pending_of {s : State} (h : fwValid s 0 = true) (c : (fwBank s 0).confirmed = false)
    (d : (fwBank s 1).confirmed = false) : bankPending s 0 = true := by
  have e : fwBank s (1 - 0) = fwBank s 1 := rfl
  rw [bankPending, h, e, c, d, Bool.and_false]
  rfl

theorem pendingBank_of {s : State} (h : bankPending s 0 = true) (w : s.start.fw = false) : pendingBank s = some 0 := by
  rw [pendingBank, List.find?_cons_of_pos]
  rw [h, w]
  rfl

/-- The hypotheses of `Obligations.UpdateStaging` about a pending bank are met, with a power failure declared and without. -/
theorem witness_UpdateStaging_pending :
    (∃ (p : Port) (n : Nat) (s : State), WriteAdmitted s p 0x682 ∧ pendingBank s = some n ∧ s.sup.pf = false) ∧
    ∃ (p : Port) (n : Nat) (s : State), WriteAdmitted s p 0x682 ∧ pendingBank s = some n ∧ s.sup.pf = true :=
  ⟨⟨.b, 0, fwOn, by decide +kernel, pendingBank_of (pending_of fwBank0_valid rfl rfl) rfl, rfl⟩,
    ⟨.b, 0, uSup (fun x => { x with pf := true }) fwOn, by decide +kernel, pendingBank_of (pending_of fwBank0_valid rfl rfl) rfl, rfl⟩⟩

/-- That hub at the end of BOOT, with a rig that passes. -/
def fwBoot : State :=
  uRig (fun x => { x with bankA :=
    { words := bankWords (stagedWords rigStream), generation := 1, complement := 0xFFFFFFFE } }) (inState .boot fwOn)

theorem bootBank_pending {s : State} (h : bankPending s 0 = true) (r : (fwBank s 0).rejected = false)
    (q : (fwBank s 1).rejected = false) (n : (fwBank s 0).trials < 3) :
    bootBank s = (queueUpdate 2 1 (bankVersion (fwBank s 0)) 0
      (setFwBank 0 { fwBank s 0 with trials := (fwBank s 0).trials + 1 } s), some (0, true)) := by
  have f : [0, 1].find? (bankPending s) = some 0 := List.find?_cons_of_pos h
  have o : [0, 1].filter (fun n => abandoned (fwBank s n)) = [] := by simp [abandoned, r, q]
  simp [bootBank, o, f, n]

theorem fwBoot_bank :
    bootBank (logScan fwBoot) = (queueUpdate 2 1 (bankVersion (fwBank (logScan fwBoot) 0)) 0
      (setFwBank 0 { fwBank (logScan fwBoot) 0 with trials := (fwBank (logScan fwBoot) 0).trials + 1 }
        (logScan fwBoot)), some (0, true)) := by
  have e : (logScan fwBoot).rnd.otp = fwOtp := by decide +kernel
  have a : fwBank (logScan fwBoot) 0 = fwBank0 := by rfl
  have v : fwValid (logScan fwBoot) 0 = true := by rw [fwValid, e, a]; exact fwBank0_valid
  have c : (fwBank (logScan fwBoot) 1).confirmed = false := by decide +kernel
  exact bootBank_pending (pending_of v (by rw [a]; rfl) c) (by rw [a]; rfl) (by decide +kernel) (by rw [a]; decide)

/-- The hypotheses of `Obligations.StartStages` about a bank chosen are met. -/
theorem witness_StartStages_bank :
    ∃ (n : Nat) (trial : Bool) (s u : State), bootEnds s = true ∧ s.rnd.otp.failed = [] ∧ s.pins.recov = false ∧
      s.start.streak < 8 ∧ bootBank (logScan s) = (u, some (n, trial)) ∧ (bootRig (runFirmware n trial u)).2 = true :=
  ⟨0, true, fwBoot, _, by decide +kernel, by decide +kernel, by decide +kernel, by decide +kernel, fwBoot_bank,
    by decide +kernel⟩

set_option maxRecDepth 10000 in
theorem card_partition : findPartition 64 card = some (34, 40) := by decide +kernel

theorem card_block34 : mediaBlock card 34 = fwBytes.take 512 := by
  have h : (fwBytes.take 512).length = 512 := by decide +kernel
  have f : card.find? (fun e => decide (e.1 = 34)) = some (34, fwBytes.take 512) := rfl
  rw [mediaBlock, f]
  dsimp only
  rw [h, Nat.sub_self, List.replicate_zero, List.append_nil, List.take_take, Nat.min_self]

theorem card_block35 : mediaBlock card 35 = (fwBytes.drop 512).take 512 := by
  have h : ((fwBytes.drop 512).take 512).length = 512 := by decide +kernel
  have f : card.find? (fun e => decide (e.1 = 35)) = some (35, (fwBytes.drop 512).take 512) := rfl
  rw [mediaBlock, f]
  dsimp only
  rw [h, Nat.sub_self, List.replicate_zero, List.append_nil, List.take_take, Nat.min_self]

theorem card_head : mediaBytes card 34 1024 = fwBytes.take 1024 := by
  show (mediaBlock card 34 ++ (mediaBlock card 35 ++ [])).take 1024 = _
  rw [card_block34, card_block35, List.append_nil, ← List.take_add, List.take_take]
  rfl

theorem card_images : scanImages card 40 32 34 = [(34, imageOf (fwBytes.take 1024))] := by
  have m : mediaBytes card 34 1024 = fwBytes.take 1024 := card_head
  have p : payloadLen (imageOf (fwBytes.take 1024)) = 1 := by
    rw [payloadLen, imgField, tblBytes_imageOf _ 20 4 (by decide +kernel)]; decide +kernel
  show scanImages card 40 (31 + 1) 34 = _
  rw [scanImages, if_neg (by decide +kernel), m]
  dsimp only
  rw [p]
  show _ :: scanImages card 40 (30 + 1) 37 = _
  rw [scanImages, if_pos (by decide +kernel)]

theorem card_best (s : State) (ho : s.rnd.otp = fwOtp)
    (hr : s.rig.running.schema = 1) :
    bestImage s card 40 1 [(34, imageOf (fwBytes.take 1024))] = some (imageOf (mediaBytes card 34 1025)) := by
  have p : payloadLen (imageOf (fwBytes.take 1024)) = 1 := by
    rw [payloadLen, imgField, tblBytes_imageOf _ 20 4 (by decide +kernel)]; decide +kernel
  have t : imageTarget (imageOf (fwBytes.take 1024)) = 1 := by
    rw [imageTarget, imgField, tblBytes_imageOf _ 6 1 (by decide +kernel)]; decide +kernel
  have f1 : imgField (imageOf (fwBytes.take 1024)) 26 1 = 1 := by
    rw [imgField, tblBytes_imageOf _ 26 1 (by decide +kernel)]; decide +kernel
  have f2 : imgField (imageOf (fwBytes.take 1024)) 27 1 = 1 := by
    rw [imgField, tblBytes_imageOf _ 27 1 (by decide +kernel)]; decide +kernel
  have k := fwSteps (fwBytes.take 1024) (fun k => decide (k = 1)) (by rw [List.take_take, Nat.min_self]) rfl
  have h : headerSteps s (fun k => decide (k = 1)) (imageOf (fwBytes.take 1024)) = 0 := by
    simp only [headerSteps, ho, k, t, f1, f2, hr]
    simp [hubTarget, inRange]
  rw [bestImage, List.filter_cons_of_pos (by rw [h, p]; decide)]
  show some (imageOf (mediaBytes card 34 (1024 + payloadLen (imageOf (fwBytes.take 1024))))) = _
  rw [p]

/-- An UPD_FETCH at work. -/
def fetchOrder : Order := { order0 with opcode := 0x13, slot := 0, stage := .dispatched }

theorem card_version : imageVersion (imageOf (mediaBytes card 34 1025)) = 5 := by
  rw [imageVersion, imgField, tblBytes_imageOf _ 12 4 (by decide +kernel)]; decide +kernel

theorem fetchTakes_finds {s : State} {param cap first last : Nat} {m : List (Nat × List Byte)} {t : Tbl Byte}
    (h : findPartition cap m = some (first, last))
    (b : bestImage s m last 1 (scanImages m last 32 first) = some t) (q : fetchSelects param 0 = true)
    (v : runVersion s < imageVersion t) : (fetchTakes s param cap m).2.2 ≠ [] := by
  simp [fetchTakes, h, b, q, v]

theorem card_fetch (s : State) (ho : s.rnd.otp = fwOtp)
    (hr : s.rig.running.schema = 1) (hf : runVersion s = 0) : (fetchTakes s 0 64 card).2.2 ≠ [] :=
  fetchTakes_finds card_partition (by rw [card_images]; exact card_best s ho hr) (by decide)
    (by rw [hf, card_version]; decide)

/-- The hypotheses of `Obligations.TrialsAndFetches` about images that UPD_FETCH finds are met. -/
theorem witness_TrialsAndFetches_found :
    ∃ (cap : Nat) (m : List (Nat × List Byte)) (o : Order) (s : State), orderGet s o.id = some o ∧ o.opcode = 0x13 ∧
      o.stage = .dispatched ∧ s.upd.phase ≠ 3 ∧ (slotGet s 0).st = .updating ∧ (fetchTakes s o.param cap m).2.2 ≠ [] :=
  ⟨64, card, fetchOrder, order fetchOrder (slot 0 { st := .updating } fwOn), by decide +kernel, by decide +kernel,
    rfl, by decide +kernel, by decide +kernel, card_fetch _ (by decide +kernel) (by decide +kernel) (by decide +kernel)⟩

theorem card_flow (s : State) (ho : s.rnd.otp = fwOtp)
    (hr : s.rig.running.schema = 1) :
    (bestImage s card 40 1 (scanImages card 40 32 34)).toList ++ (bestImage s card 40 4 (scanImages card 40 32 34)).toList
      ≠ [] := by
  rw [card_images, card_best s ho hr]
  simp

/-- The hypotheses of `Obligations.TrialsAndFetches` about the card flow are met. -/
theorem witness_TrialsAndFetches_card :
    ∃ (cap first last : Nat) (m : List (Nat × List Byte)) (s : State), s.sys.state = .recovery ∧
      (slotGet s 0).st = .present ∧ s.sup.vsl5Ok = true ∧ jobRuns s = false ∧ s.upd.owner = .none ∧
      s.upd.flowRan = false ∧ findPartition cap m = some (first, last) ∧
      (let l := scanImages m last 32 first
       (bestImage s m last 1 l).toList ++ (bestImage s m last 4 l).toList ≠ []) :=
  ⟨64, 34, 40, card, slot 0 { st := .present, det := true } (inState .recovery fwOn), by decide +kernel,
    by decide +kernel, by decide +kernel, by decide +kernel, by decide +kernel, by decide +kernel, card_partition,
    card_flow _ (by decide +kernel) (by decide +kernel)⟩

end Tests
end Sys2Proof
end

section
/-! RESET_N (chapter 04, R115, R129): what the command RESET_N_ASSERT does. -/
namespace Sys2Proof
namespace Machine

/-- RESET_N_ASSERT is `execResetNAssert`: the instruction's arm of `exec`. -/
theorem exec_resetNAssert (s : State) : exec .resetNAssert s = execResetNAssert s := rfl

/-- The FATAL guard of RESET_N_ASSERT takes the branch that keeps the state, whatever the supplies and VIO are. -/
theorem execResetNAssert_of_fatal {s : State} (hfatal : s.sys.state = .fatal) :
    execResetNAssert s = .next s := by
  have hguard : s.sys.state = .off ∨ s.sys.state = .fatal ∨ s.sup.por = true ∨ s.pins.vioOk = false :=
    .inr (.inl hfatal)
  rw [execResetNAssert, if_pos hguard]

/-- Settles O11: FATAL is one of the states in which RESET_N_ASSERT keeps the state (R129). -/
theorem fatalIgnoresResetN : Obligations.FatalIgnoresResetN := by
  intro s hfatal
  rw [exec_resetNAssert, execResetNAssert_of_fatal hfatal]

end Machine
end Sys2Proof
end

section
/-! PCL_ALLOC (chapter 11, R360 to R362): what a port's read of the word does to the parcel that it gives. -/
namespace Sys2Proof
namespace Machine

open Safety

/-! ### A single read that acts -/

/-- What the recorder notes of a transaction leaves the hub's state. -/
@[simp] theorem takeSdi_sys (p : Port) (edges : Nat) (bits : List Bool) (s : State) :
    (takeSdi p edges bits s).sys = s.sys := rfl

/-- A response leaves the parcels. -/
@[simp] theorem parcelGet_respondAs (p : Port) (signed : Bool) (r : Response) (n : Nat) (s : State) :
    parcelGet (respondAs p signed r s) n = parcelGet s n := by
  unfold respondAs
  split
  · exact parcelGet_modPort ..
  · rfl

/-- Outside REPLAY no word shows a replayed value (R904). -/
theorem replayed_of_notReplayed {s : State} (h : NotReplayed s) (a : Nat) : replayed s a = false := by
  simp [replayed, h]

/-- Outside REPLAY the read of a word of no group acts as the word does. -/
theorem singleRead_of_groupless (p : Port) {a : Nat} {s : State} (hgroup : groupOf a = none) (hlive : NotReplayed s) :
    singleRead p a s = actingRead p a s := by
  simp [singleRead, hgroup, replayed_of_notReplayed hlive]

/-- An admitted single read below the test range is answered OK, with the word read once the recorder has noted it. -/
theorem readFrame_of_admitted {p : Port} {a : Nat} {s : State} (h : Admitted s p false a) (ha : a < 0xF00) :
    readFrame p a s =
      respondAs p (!unsignedRead a)
        { stat := .ok, addr := a, data := (singleRead p a (takeSdi p 32 (sdiHead 0 a 0) s)).1 }
        (singleRead p a (takeSdi p 32 (sdiHead 0 a 0) s)).2 := by
  obtain ⟨hheard, hrights⟩ := h
  simp [readFrame, hheard, hrights, Nat.not_le.mpr ha]

/-! ### The allocation -/

/-- With a free parcel, the lowest is replaced by an empty one of the port. -/
theorem allocParcel_of_free (p : Port) {n : Nat} {s : State} (hfree : freeParcel s = some n) :
    allocParcel p s = (n, modParcel n (fun _ => { owner := some p }) s) := by
  unfold allocParcel
  rw [hfree]

/-- The acting read of PCL_ALLOC allocates (R360). -/
theorem actingRead_pclAlloc (p : Port) (s : State) :
    actingRead p 0x180 s = (toWord (allocParcel p s).1, (allocParcel p s).2) := by
  have hmooring : inRange 0x180 0x0C0 0x0CF = false := by decide
  rw [actingRead, hmooring, if_neg Bool.false_ne_true, if_pos rfl]

/-- PCL_ALLOC is `execPclAlloc`: the instruction's arm of `exec`. -/
theorem exec_pclAlloc (p : Port) (tie : Option HostFrame) (s : State) :
    exec (.pclAlloc p tie) s = execPclAlloc p tie s := rfl

/-- PCL_ALLOC without a frame of the other port at its tick is a read of its word. -/
theorem execPclAlloc_alone (p : Port) (s : State) : execPclAlloc p none s = .next (readFrame p 0x180 s) := by
  simp [execPclAlloc, atOwn, withTie, runFrame]

/-- The read of PCL_ALLOC outside REPLAY, with a free parcel, makes the lowest an empty one of the port. -/
theorem singleRead_pclAlloc {p : Port} {n : Nat} {s : State} (hlive : NotReplayed s) (hfree : freeParcel s = some n) :
    singleRead p 0x180 s = (toWord n, modParcel n (fun _ => { owner := some p }) s) := by
  have hgroup : groupOf 0x180 = none := by decide
  rw [singleRead_of_groupless p hgroup hlive, actingRead_pclAlloc, allocParcel_of_free p hfree]

/-- The parcel that an admitted read of PCL_ALLOC gives is empty and the port's, whatever it held before. -/
theorem parcelGet_readFrame_pclAlloc {p : Port} {n : Nat} {s : State} (hadmitted : Admitted s p false 0x180)
    (hlive : NotReplayed s) (hfree : freeParcel s = some n) :
    parcelGet (readFrame p 0x180 s) n = { owner := some p } := by
  have hread := singleRead_pclAlloc (p := p) (s := takeSdi p 32 (sdiHead 0 0x180 0) s) hlive hfree
  rw [readFrame_of_admitted hadmitted (by decide), parcelGet_respondAs, hread, parcelGet_modParcel, if_pos rfl]

/-- Every byte of an empty parcel reads 0x000. -/
theorem parcelWord_of_empty (o : Option Port) (i : Nat) : parcelWord { owner := o } i = 0 := by
  simp [parcelWord, tblGet, toWord, bit]

/-- Settles O35: the allocation replaces the parcel by one of its port in which nothing is written (R362). -/
theorem newParcelIsEmpty : Obligations.NewParcelIsEmpty := by
  intro p n s hadmitted hlive hfree
  have hnew : parcelGet (readFrame p 0x180 s) n = { owner := some p } :=
    parcelGet_readFrame_pclAlloc hadmitted hlive hfree
  refine ⟨readFrame p 0x180 s, by rw [exec_pclAlloc, execPclAlloc_alone], ?_⟩
  simp [hnew, parcelWord_of_empty]

end Machine
end Sys2Proof
end

section
/-! The core of the state: what the invariant of `StepKeepsInv` and OTP speak of. Each operation of the model leaves it, but for
those that ch. 03, 24 and 25 name: the end of a tick and a power-on reset (R81), an OTP command and its end (R825, R826), the
check of OTP in BOOT (R828) and a raised version floor (R852). -/
namespace Sys2Proof
namespace Machine

/-- The queue, the tick counter, OTP, and the OTP command that runs. -/
structure Core where
  pending : List Instr
  tick : Nat
  otp : Otp
  otpCmd : Option (Nat × Nat)

/-- The core of a state. -/
def core (s : State) : Core := ⟨s.pending, s.sys.tick, s.rnd.otp, s.rnd.otpCmd⟩

/-! ### Reading the core -/

@[simp] theorem core_mk (sys fatal pins sup start fb ports mor ord slots tth sat ldg rls mea lko log rnd upd rig rcd free
    pending) : core ⟨sys, fatal, pins, sup, start, fb, ports, mor, ord, slots, tth, sat, ldg, rls, mea, lko, log, rnd, upd,
      rig, rcd, free, pending⟩ = ⟨pending, sys.tick, rnd.otp, rnd.otpCmd⟩ := rfl

@[simp] theorem core_refold (s : State) : (⟨s.pending, s.sys.tick, s.rnd.otp, s.rnd.otpCmd⟩ : Core) = core s := rfl

@[simp] theorem core_ite (c : Prop) [Decidable c] (s t : State) :
    core (if c then s else t) = if c then core s else core t := apply_ite _ _ _ _

@[simp] theorem core_ite_snd {α : Type} (c : Prop) [Decidable c] (x y : α × State) :
    core (if c then x else y).2 = if c then core x.2 else core y.2 := by split <;> rfl

@[simp] theorem core_ite_fst {α : Type} (c : Prop) [Decidable c] (x y : State × α) :
    core (if c then x else y).1 = if c then core x.1 else core y.1 := by split <;> rfl

@[simp] theorem core_foldl {α : Type} (f : State → α → State) (h : ∀ s a, core (f s a) = core s) (l : List α)
    (s : State) : core (l.foldl f s) = core s := by
  induction l generalizing s with
  | nil => rfl
  | cons a l ih => rw [List.foldl_cons, ih, h]

@[simp] theorem core_foldr {α : Type} (f : α → State → State) (h : ∀ s a, core (f a s) = core s) (l : List α)
    (s : State) : core (l.foldr f s) = core s := by
  induction l with
  | nil => rfl
  | cons a l ih => rw [List.foldr_cons, h, ih]

theorem core_foldl_fst {α β : Type} (f : State × β → α → State × β) (h : ∀ x a, core (f x a).1 = core x.1)
    (l : List α) (x : State × β) : core (l.foldl f x).1 = core x.1 := by
  induction l generalizing x with
  | nil => rfl
  | cons a l ih => rw [List.foldl_cons, ih, h]

/-! ### Access -/

@[simp] theorem core_modPort (p : Port) (f : HostPort → HostPort) (s : State) : core (modPort p f s) = core s := by
  simp [modPort]

@[simp] theorem core_modBank (p : Port) (f : OrdBank → OrdBank) (s : State) : core (modBank p f s) = core s := by
  simp [modBank]

@[simp] theorem core_modSlot (k : Nat) (f : Slot → Slot) (s : State) : core (modSlot k f s) = core s := by
  simp [modSlot]

@[simp] theorem core_modParcel (n : Nat) (f : Parcel → Parcel) (s : State) : core (modParcel n f s) = core s := by
  simp [modParcel]

@[simp] theorem core_modTether (t : Nat) (f : Tether → Tether) (s : State) : core (modTether t f s) = core s := by
  simp [modTether]

@[simp] theorem core_modView (pos : Nat) (f : SatView → SatView) (s : State) : core (modView pos f s) = core s := by
  simp [modView]

@[simp] theorem core_modSlotView (id : Nat) (f : SlotView → SlotView) (s : State) :
    core (modSlotView id f s) = core s := by simp [modSlotView]

@[simp] theorem core_modSat (k : Nat) (f : Sat → Sat) (s : State) : core (modSat k f s) = core s := by simp [modSat]

@[simp] theorem core_modRail (n : Nat) (f : Rail → Rail) (s : State) : core (modRail n f s) = core s := by
  simp [modRail]

@[simp] theorem core_modLdg (id : Nat) (f : LdgSlot → LdgSlot) (s : State) : core (modLdg id f s) = core s := by
  simp [modLdg]

@[simp] theorem core_drawFree (s : State) : core (drawFree s).2 = core s := by simp [drawFree]

@[simp] theorem core_tickOver (s : State) : core (tickOver s) = core s := by simp [tickOver]

/-! ### Records and port events -/

@[simp] theorem core_queueRec (type : Nat) (payload : List Nat) (s : State) : core (queueRec type payload s) = core s := by
  simp [queueRec]

@[simp] theorem core_setIevt (p : Port) (bits : Word) (s : State) : core (setIevt p bits s) = core s := by
  simp [setIevt]

@[simp] theorem core_setIevtBoth (bits : Word) (s : State) : core (setIevtBoth bits s) = core s := by
  simp [setIevtBoth]

@[simp] theorem core_queueStart (s : State) : core (queueStart s) = core s := by simp [queueStart]

/-! ### Orders, parcels and returns (11) -/

@[simp] theorem core_modOrder (id : Nat) (f : Order → Order) (s : State) : core (modOrder id f s) = core s := by
  simp [modOrder]

@[simp] theorem core_parcelFree (n : Nat) (s : State) : core (parcelFree n s) = core s := by simp [parcelFree]

@[simp] theorem core_parcelRelease (n : Nat) (s : State) : core (parcelRelease n s) = core s := by simp [parcelRelease]

@[simp] theorem core_dropOrder (o : Order) (s : State) : core (dropOrder o s) = core s := by simp [dropOrder]

@[simp] theorem core_postRet (p : Port) (r : Ret) (s : State) : core (postRet p r s) = core s := by simp [postRet]

@[simp] theorem core_enterWindow (p : Port) (r : Ret) (s : State) : core (enterWindow p r s) = core s := by
  simp [enterWindow]

@[simp] theorem core_endOrder (o : Order) (code len : Nat) (s : State) : core (endOrder o code len s) = core s := by
  simp [endOrder]

@[simp] theorem core_endOrderId (id code len : Nat) (s : State) : core (endOrderId id code len s) = core s := by
  unfold endOrderId
  split <;> simp

@[simp] theorem core_chainPut (o : Order) (off : Nat) (data : List Byte) (s : State) :
    core (chainPut o off data s) = core s := by simp [chainPut]

@[simp] theorem core_chainMark (o : Order) (n : Nat) (s : State) : core (chainMark o n s) = core s := by
  simp [chainMark]

@[simp] theorem core_chainWrite (o : Order) (off : Nat) (data : List Byte) (s : State) :
    core (chainWrite o off data s) = core s := by simp [chainWrite]

@[simp] theorem core_endOrderData (o : Order) (code : Nat) (kept : List Byte) (full : Nat) (s : State) :
    core (endOrderData o code kept full s) = core s := by simp [endOrderData]

@[simp] theorem core_endOrderDataId (id code : Nat) (kept : List Byte) (full : Nat) (s : State) :
    core (endOrderDataId id code kept full s) = core s := by
  unfold endOrderDataId
  split <;> simp

/-! ### Slots: power off (14) -/

@[simp] theorem core_cutFetch (s : State) : core (cutFetch s) = core s := by simp [cutFetch]

@[simp] theorem core_fallSlot (k cause : Nat) (emergency second : Bool) (dest : Option SlotState) (status : Option Nat)
    (s : State) : core (fallSlot k cause emergency second dest status s) = core s := by simp [fallSlot]

@[simp] theorem core_fallNormal (k status : Nat) (s : State) : core (fallNormal k status s) = core s := by
  simp [fallNormal]

@[simp] theorem core_releaseLift (id : Nat) (s : State) : core (releaseLift id s) = core s := by simp [releaseLift]

@[simp] theorem core_dropRun (k : Nat) (s : State) : core (dropRun k s) = core s := by
  unfold dropRun
  split <;> simp

@[simp] theorem core_ripcordLocals (s : State) : core (ripcordLocals s) = core s := by simp [ripcordLocals]

/-! ### Recorder freeze (26) -/

@[simp] theorem core_recStand (code : Nat) (s : State) : core (recStand code s) = core s := by simp [recStand]

@[simp] theorem core_recFreeze (code : Nat) (enabled delayed : Bool) (s : State) :
    core (recFreeze code enabled delayed s) = core s := by simp [recFreeze]

/-! ### Frames of the hub on its tethers (12) -/

@[simp] theorem core_hubSend (t : Nat) (e : RingEnd) (f : RingFrame) (s : State) : core (hubSend t e f s) = core s := by
  simp [hubSend]

@[simp] theorem core_hubTo (pos : Nat) (seq : Bool) (type : Nat) (payload : List Byte) (s : State) :
    core (hubTo pos seq type payload s) = core s := by simp [hubTo]

/-! ### Ripcord and FATAL (21) -/

@[simp] theorem core_ripcordTethers (stop : Bool) (s : State) : core (ripcordTethers stop s) = core s := by
  simp [ripcordTethers]

@[simp] theorem core_trimsOff (s : State) : core (trimsOff s) = core s := by simp [trimsOff]

@[simp] theorem core_holdRules (s : State) : core (holdRules s) = core s := by simp [holdRules]

@[simp] theorem core_fatalEnter (number k kind frx : Nat) (s : State) :
    core (fatalEnter number k kind frx s) = core s := by simp [fatalEnter]

@[simp] theorem core_queueFault (b : FBlk) (k cls : Nat) (esc : Bool) (s : State) :
    core (queueFault b k cls esc s) = core s := by simp [queueFault]

@[simp] theorem core_setBank (b : FBlk) (x : FaultBank) (s : State) : core (setBank b x s) = core s := by
  simp [setBank]

@[simp] theorem core_coreWake (src : Nat) (s : State) : core (coreWake src s) = core s := by
  unfold coreWake
  split <;> simp

@[simp] theorem core_wakeByFault (f : FaultBank) (k : Nat) (esc : Bool) (s : State) :
    core (wakeByFault f k esc s) = core s := by simp [wakeByFault]

@[simp] theorem core_raiseCorrected (b : FBlk) (ks : List Nat) (f : FaultBank) (s : State) :
    core (raiseCorrected b ks f s) = core s := by simp [raiseCorrected]

@[simp] theorem core_raiseContained (b : FBlk) (ks : List Nat) (f : FaultBank) (s : State) :
    core (raiseContained b ks f s) = core s := by simp [raiseContained]

@[simp] theorem core_raiseMany (b : FBlk) (ks : List Nat) (s : State) : core (raiseMany b ks s) = core s := by
  unfold raiseMany
  (repeat' split) <;> simp

@[simp] theorem core_raise (b : FBlk) (k : Nat) (s : State) : core (raise b k s) = core s := by simp [raise]

/-! ### Rig images (R839, R840) -/

@[simp] theorem core_setEn (n : Nat) (on : Bool) (s : State) : core (setEn n on s) = core s := by simp [setEn]

@[simp] theorem core_startRising (restart : Bool) (s : State) : core (startRising restart s) = core s := by
  simp [startRising]

@[simp] theorem core_lowerTop (s : State) : core (lowerTop s) = core s := by
  unfold lowerTop
  split <;> simp

@[simp] theorem core_startShutdown (s : State) : core (startShutdown s) = core s := by simp [startShutdown]

@[simp] theorem core_stepDown (s : State) : core (stepDown s) = core s := by simp [stepDown]

@[simp] theorem core_setTrim (n : Nat) (v : ℤ) (s : State) : core (setTrim n v s) = core s := by simp [setTrim]

@[simp] theorem core_rampTrims (who : Option Port) (s : State) : core (rampTrims who s) = core s := by
  simp [rampTrims]

/-! ### Admission (R643 to R650) -/

@[simp] theorem core_takeLift (opcode id : Nat) (s : State) : core (takeLift opcode id s) = core s := by simp [takeLift]

@[simp] theorem core_activationDone (id : Nat) (s : State) : core (activationDone id s) = core s := by
  simp [activationDone]

/-! ### Relief and shedding (R654 to R658) -/

@[simp] theorem core_enterShed (id : Nat) (s : State) : core (enterShed id s) = core s := by simp [enterShed]

@[simp] theorem core_putMarks (before : Nat → Bool) (marks : List Nat) (s : State) :
    core (putMarks before marks s).1 = core s := by simp [putMarks]

/-! ### The forecast (R659 to R663, R665) -/

@[simp] theorem core_queueLedger (s : State) : core (queueLedger s) = core s := by simp [queueLedger]

@[simp] theorem core_decideWith (ks : List Nat) (s : State) : core (decideWith ks s) = core s := by simp [decideWith]

@[simp] theorem core_decide18 (s : State) : core (decide18 s) = core s := by simp [decide18]

@[simp] theorem core_alarmRelief (id : Nat) (s : State) : core (alarmRelief id s) = core s := by
  unfold alarmRelief
  split <;> simp

/-! ### At a sweep publication (R636 to R638, R664) -/

@[simp] theorem core_addReading (id : Nat) (m : Option Nat) (s : State) : core (addReading id m s) = core s := by
  unfold addReading
  split <;> simp

@[simp] theorem core_drainBattery (s : State) : core (drainBattery s) = core s := by
  unfold drainBattery
  (repeat' split) <;> simp_all

@[simp] theorem core_followBattery (s : State) : core (followBattery s) = core s := by simp [followBattery]

/-! ### Host writes (R651, R664, R666) -/

@[simp] theorem core_writeSource (battery : Bool) (s : State) : core (writeSource battery s) = core s := by
  simp [writeSource]

@[simp] theorem core_writeBattRem (v : Nat) (s : State) : core (writeBattRem v s) = core s := by simp [writeBattRem]

@[simp] theorem core_alarmLedger (on : Bool) (s : State) : core (alarmLedger on s) = core s := by simp [alarmLedger]

@[simp] theorem core_putCmd (pos : Nat) (e : RingEnd) (c : HubCmd) (s : State) : core (putCmd pos e c s) = core s := by
  simp [putCmd]

@[simp] theorem core_nextCmd (pos : Nat) (s : State) : core (nextCmd pos s) = core s := by
  unfold nextCmd
  dsimp only
  split <;> simp

@[simp] theorem core_sendCmd (pos : Nat) (c : HubCmd) (s : State) : core (sendCmd pos c s) = core s := by simp [sendCmd]

@[simp] theorem core_undoLift (o : Order) (s : State) : core (undoLift o s) = core s := by simp [undoLift]

@[simp] theorem core_cutOrder (o : Order) (code : Nat) (s : State) : core (cutOrder o code s) = core s := by
  simp [cutOrder]

@[simp] theorem core_cutSatOrders (pos code : Nat) (keepUpd : Bool) (s : State) :
    core (cutSatOrders pos code keepUpd s) = core s := by simp [cutSatOrders]

@[simp] theorem core_showSlots (pos : Nat) (st : SlotState) (s : State) : core (showSlots pos st s) = core s := by
  simp [showSlots]

@[simp] theorem core_forgetSat (pos : Nat) (s : State) : core (forgetSat pos s) = core s := by simp [forgetSat]

@[simp] theorem core_queueTether (t kind pos : Nat) (s : State) : core (queueTether t kind pos s) = core s := by
  simp [queueTether]

@[simp] theorem core_queueSatUpdate (pos kind : Nat) (s : State) : core (queueSatUpdate pos kind s) = core s := by
  simp [queueSatUpdate]

@[simp] theorem core_updFails (pos : Nat) (s : State) : core (updFails pos s) = core s := by simp [updFails]

@[simp] theorem core_showLost (pos : Nat) (s : State) : core (showLost pos s) = core s := by simp [showLost]

@[simp] theorem core_satsLost (ks ps : List Nat) (s : State) : core (satsLost ks ps s) = core s := by simp [satsLost]

@[simp] theorem core_satLost (pos : Nat) (s : State) : core (satLost pos s) = core s := by simp [satLost]

@[simp] theorem core_sendSetup (pos : Nat) (s : State) : core (sendSetup pos s) = core s := by simp [sendSetup]

/-! ### Dispatch -/

@[simp] theorem core_eccHeal (l : List (Nat × Nat)) (s : State) : core (eccHeal l s) = core s := by simp [eccHeal]

@[simp] theorem core_upset (l : List Upset) (s : State) : core (upset l s) = core s := by simp [upset]

@[simp] theorem core_readChain (o : Order) (s : State) : core (readChain o s).1 = core s := by simp [readChain]

@[simp] theorem core_updatePower (run : Option Running) (s : State) : core (updatePower run s) = core s := by
  simp [updatePower]

@[simp] theorem core_dispatchOrder (o : Order) (s : State) : core (dispatchOrder o s) = core s := by
  simp [dispatchOrder]

@[simp] theorem core_admitOrder (o : Order) (s : State) : core (admitOrder o s) = core s := by simp [admitOrder]

@[simp] theorem core_tryAdmit (o : Order) (s : State) : core (tryAdmit o s) = core s := by
  unfold tryAdmit
  dsimp only
  (repeat' split) <;> simp

@[simp] theorem core_advance (o : Order) (s : State) : core (advance o s) = core s := by
  unfold advance
  dsimp only
  (repeat' split) <;> simp

@[simp] theorem core_dispatchHeld (s : State) : core (dispatchHeld s) = core s := by
  refine core_foldl _ (fun s o => ?_) _ s
  split <;> simp

/-! ### Pushing (R338 to R343, R356 to R359, R967) -/

@[simp] theorem core_countDup (p : Port) (s : State) : core (countDup p s) = core s := by simp [countDup]

@[simp] theorem core_withdrawAll (f : Order → Bool) (s : State) : core (withdrawAll f s) = core s := by
  simp [withdrawAll]

@[simp] theorem core_ordReset (s : State) : core (ordReset s) = core s := by simp [ordReset]

@[simp] theorem core_descLost (p : Port) (o : Order) (single : Bool) (bad : BitVec 8) (s : State) :
    core (descLost p o single bad s) = core s := by simp [descLost]

@[simp] theorem core_refusePush (p : Port) (why : Nat) (s : State) : core (refusePush p why s) = core s := by
  simp [refusePush]

@[simp] theorem core_pushStages (p : Port) (o : Order) (s : State) : core (pushStages p o s) = core s := by
  unfold pushStages
  dsimp only
  (repeat' split) <;> simp

@[simp] theorem core_pushOrder (p : Port) (eccSingle : Bool) (bad : BitVec 8) (s : State) :
    core (pushOrder p eccSingle bad s) = core s := by simp [pushOrder]

/-! ### The rows of this family -/

@[simp] theorem core_consumeRets (p : Port) (n : Nat) (s : State) : core (consumeRets p n s) = core s := by
  simp [consumeRets]

@[simp] theorem core_cancelTag (p : Port) (tag : Nat) (s : State) : core (cancelTag p tag s) = core s := by
  unfold cancelTag
  split <;> simp

/-! ### Parcels (R360 to R370) -/

@[simp] theorem core_allocParcel (p : Port) (s : State) : core (allocParcel p s).2 = core s := by
  unfold allocParcel
  split <;> simp

@[simp] theorem core_pclRefused (p : Port) (why : Nat) (s : State) : core (pclRefused p why s) = core s := by
  simp [pclRefused]

@[simp] theorem core_writeParcel (n off : Nat) (w : Word) (s : State) : core (writeParcel n off w s) = core s := by
  simp [writeParcel]

@[simp] theorem core_readParcelEcc (n off : Nat) (s : State) : core (readParcelEcc n off s) = core s := by
  simp [readParcelEcc]

@[simp] theorem core_freeParcels (p : Port) (s : State) : core (freeParcels p s) = core s := by simp [freeParcels]

/-! ### Results -/

@[simp] theorem core_satResult (sat : Nat) (r : SatResult) (s : State) : core (satResult sat r s) = core s := by
  simp [satResult]

@[simp] theorem core_satResultFirst (sat : Nat) (r : SatResult) (s : State) : core (satResultFirst sat r s) = core s := by
  simp [satResultFirst]

@[simp] theorem core_satStir (sat : Nat) (s : State) : core (satStir sat s) = core s := by simp [satStir]

/-! ### Traces (R463, R464) -/

@[simp] theorem core_traceAdd (k kind data : Nat) (s : State) : core (traceAdd k kind data s) = core s := by
  simp [traceAdd]

@[simp] theorem core_traceAll (k : Nat) (l : List (Nat × Nat)) (s : State) : core (traceAll k l s) = core s := by
  simp [traceAll]

@[simp] theorem core_traceTrigger (k cause : Nat) (s : State) : core (traceTrigger k cause s) = core s := by
  simp [traceTrigger]

/-! ### The end of an order at a slot -/

@[simp] theorem core_satDone (k : Nat) (r : Running) (code : Nat) (kept : List Byte) (full : Nat) (s : State) :
    core (satDone k r code kept full s) = core s := by simp [satDone]

@[simp] theorem core_endRun (k code : Nat) (kept : List Byte) (full : Nat) (s : State) :
    core (endRun k code kept full s) = core s := by
  unfold endRun
  split <;> simp

@[simp] theorem core_endReady (k code : Nat) (kept : List Byte) (full : Nat) (s : State) :
    core (endReady k code kept full s) = core s := by simp [endReady]

@[simp] theorem core_endFall (k code : Nat) (s : State) : core (endFall k code s) = core s := by simp [endFall]

@[simp] theorem core_begin_ (k : Nat) (s : State) : core (begin_ k s) = core s := by simp [begin_]

@[simp] theorem core_takeInput (k : Nat) (e : RecIn) (s : State) : core (takeInput k e s) = core s := by
  simp [takeInput]

@[simp] theorem core_takeBytes (k a1 : Nat) (a2 : List Byte) (a3 : State) : core (takeBytes k a1 a2 a3) = core a3 := by
  induction a1 generalizing a2 a3 with
  | zero => rfl
  | succ n ih => rw [takeBytes]; split <;> simp [ih]

@[simp] theorem core_takeLevels (k : Nat) (high : Bool) (a2 : List Bool) (a3 : State) :
    core (takeLevels k high a2 a3) = core a3 := by
  induction a2 generalizing high a3 with
  | nil => rfl
  | cons b l ih => simp [takeLevels, ih]

/-! ### The satellite's own faults (R755, R756, R771) -/

@[simp] theorem core_dropSatRun (k : Nat) (s : State) : core (dropSatRun k s) = core s := by
  unfold dropSatRun
  split <;> simp

@[simp] theorem core_localRipcord (sat mask : Nat) (s : State) : core (localRipcord sat mask s) = core s := by
  simp [localRipcord]

@[simp] theorem core_satRestart (sat cause : Nat) (s : State) : core (satRestart sat cause s) = core s := by
  simp [satRestart]

@[simp] theorem core_satFaultResult (sat : Nat) (s : State) : core (satFaultResult sat s) = core s := by
  simp [satFaultResult]

@[simp] theorem core_satFatal (sat : Nat) (s : State) : core (satFatal sat s) = core s := by simp [satFatal]

@[simp] theorem core_satReact (sat code : Nat) (s : State) : core (satReact sat code s) = core s := by simp [satReact]

@[simp] theorem core_satRaise (sat k : Nat) (s : State) : core (satRaise sat k s) = core s := by simp [satRaise]

/-! ### Activation -/

@[simp] theorem core_riseToAtr (k : Nat) (s : State) : core (riseToAtr k s) = core s := by
  unfold riseToAtr
  dsimp only
  split <;> simp

@[simp] theorem core_endCold (k code : Nat) (s : State) : core (endCold k code s) = core s := by simp [endCold]

@[simp] theorem core_activateSlot (k : Nat) (r : Running) (s : State) : core (activateSlot k r s) = core s := by
  unfold activateSlot
  (repeat' split) <;> simp

@[simp] theorem core_nextTrial (k : Nat) (gaveAtr : Bool) (s : State) : core (nextTrial k gaveAtr s) = core s := by
  unfold nextTrial
  split <;> simp

/-! ### Deactivation -/

@[simp] theorem core_releaseTripped (k : Nat) (s : State) : core (releaseTripped k s) = core s := by
  simp [releaseTripped]

@[simp] theorem core_causeCounts (k c : Nat) (s : State) : core (causeCounts k c s) = core s := by simp [causeCounts]

@[simp] theorem core_causeFaults (k : Nat) (cs : List Nat) (s : State) : core (causeFaults k cs s) = core s := by
  simp [causeFaults]

@[simp] theorem core_emergency (k : Nat) (causes : List Nat) (s : State) : core (emergency k causes s) = core s := by
  unfold emergency
  dsimp only
  (repeat' split) <;> simp

@[simp] theorem core_detResult (k event : Nat) (s : State) : core (detResult k event s) = core s := by simp [detResult]

@[simp] theorem core_comparatorEdge (code k : Nat) (s : State) : core (comparatorEdge code k s) = core s := by
  simp [comparatorEdge]

@[simp] theorem core_runCut (oid code : Nat) (s : State) : core (runCut oid code s) = core s := by
  unfold runCut
  split <;> simp

/-! ### The ATR (R536 to R542, Table - ATR fields interpreted) -/

@[simp] theorem core_atrFail (k : Nat) (s : State) : core (atrFail k s) = core s := by simp [atrFail]

@[simp] theorem core_atrDone (k : Nat) (a : Atr) (s : State) : core (atrDone k a s) = core s := by simp [atrDone]

@[simp] theorem core_atrChar (k : Nat) (b : Byte) (good : Bool) (s : State) : core (atrChar k b good s) = core s := by
  unfold atrChar
  dsimp only
  (repeat' split) <;> simp

/-! ### PPS (R543 to R547) -/

@[simp] theorem core_ppsFail (k : Nat) (s : State) : core (ppsFail k s) = core s := by simp [ppsFail]

@[simp] theorem core_ppsJudge (k param : Nat) (rx : List Byte) (s : State) : core (ppsJudge k param rx s) = core s := by
  simp [ppsJudge]

@[simp] theorem core_ppsChar (k param : Nat) (b : Byte) (good : Bool) (s : State) :
    core (ppsChar k param b good s) = core s := by simp [ppsChar]

/-! ### The divider (R518, R554) -/

@[simp] theorem core_setDivider (id n : Nat) (s : State) : core (setDivider id n s) = core s := by simp [setDivider]

@[simp] theorem core_modX (k : Nat) (f : Xfer → Xfer) (s : State) : core (modX k f s) = core s := by simp [modX]

@[simp] theorem core_modTr (k : Nat) (f : Machine.Trans → Machine.Trans) (s : State) : core (modTr k f s) = core s := by
  simp [modTr]

@[simp] theorem core_lineSend (k : Nat) (l : List Byte) (s : State) : core (lineSend k l s) = core s := by
  simp [lineSend]

/-! ### T=0 (R564 to R569) -/

@[simp] theorem core_startT0 (k : Nat) (apdu : List Byte) (s : State) : core (startT0 k apdu s) = core s := by
  simp [startT0]

@[simp] theorem core_t0Finish (k sw1 : Nat) (sw2 : Byte) (s : State) : core (t0Finish k sw1 sw2 s) = core s := by
  simp [t0Finish]

@[simp] theorem core_t0Byte (k : Nat) (b : Byte) (s : State) : core (t0Byte k b s) = core s := by
  unfold t0Byte
  dsimp only
  split <;> simp

/-! ### T=1 blocks (R570 to R573, R961) -/

@[simp] theorem core_sendBlock (k pcb : Nat) (inf : List Byte) (kind : LastBlock) (s : State) :
    core (sendBlock k pcb inf kind s) = core s := by simp [sendBlock]

@[simp] theorem core_sendAnswer (k pcb : Nat) (inf : List Byte) (s : State) : core (sendAnswer k pcb inf s) = core s := by
  simp [sendAnswer]

@[simp] theorem core_sendNextI (k : Nat) (s : State) : core (sendNextI k s) = core s := by simp [sendNextI]

@[simp] theorem core_startApdu (k : Nat) (s : State) : core (startApdu k s) = core s := by simp [startApdu]

@[simp] theorem core_sendResynch (k : Nat) (s : State) : core (sendResynch k s) = core s := by simp [sendResynch]

@[simp] theorem core_startT1 (k : Nat) (apdu : List Byte) (s : State) : core (startT1 k apdu s) = core s := by
  simp [startT1]

@[simp] theorem core_readCommand (slot : Nat) (r : Running) (s : State) : core (readCommand slot r s).1 = core s := by
  unfold readCommand
  split <;> simp

@[simp] theorem core_resynchFailed (k : Nat) (s : State) : core (resynchFailed k s) = core s := by simp [resynchFailed]

@[simp] theorem core_t1Fail (k : Nat) (edc asked : Bool) (s : State) : core (t1Fail k edc asked s) = core s := by
  simp [t1Fail]

/-! ### Judging a block (R571, Table - PCB encodings) -/

@[simp] theorem core_setBlast (k n : Nat) (s : State) : core (setBlast k n s) = core s := by simp [setBlast]

@[simp] theorem core_t1Act (k : Nat) (a : T1Act) (s : State) : core (t1Act k a s) = core s := by
  unfold t1Act
  split <;> simp

@[simp] theorem core_blockEnds (k : Nat) (s : State) : core (blockEnds k s) = core s := by simp [blockEnds]

/-! ### Characters on the line (R520 to R535) -/

@[simp] theorem core_t0Parity (k : Nat) (s : State) : core (t0Parity k s) = core s := by simp [t0Parity]

@[simp] theorem core_takeChar (k : Nat) (b : Byte) (par frm : Bool) (s : State) :
    core (takeChar k b par frm s) = core s := by
  unfold takeChar
  dsimp only
  split <;> simp

@[simp] theorem core_stoppedChar (k : Nat) (s : State) : core (stoppedChar k s) = core s := by simp [stoppedChar]

/-! ### The ring -/

@[simp] theorem core_ringSet (i : Nat) (x : LogSector) (s : State) : core (ringSet i x s) = core s := by simp [ringSet]

/-! ### Wear and retirement -/

@[simp] theorem core_modSector (k : Nat) (f : Sector → Sector) (s : State) : core (modSector k f s) = core s := by
  simp [modSector]

@[simp] theorem core_wearSave (s : State) : core (wearSave s) = core s := by simp [wearSave]

@[simp] theorem core_noteFlash (erase : Bool) (k retries : Nat) (good : Bool) (s : State) :
    core (noteFlash erase k retries good s) = core s := by simp [noteFlash]

@[simp] theorem core_bumpErase (k : Nat) (s : State) : core (bumpErase k s) = core s := by simp [bumpErase]

@[simp] theorem core_countErase (k : Nat) (s : State) : core (countErase k s) = core s := by simp [countErase]

@[simp] theorem core_tireSector (k retries : Nat) (s : State) : core (tireSector k retries s) = core s := by
  simp [tireSector]

@[simp] theorem core_raiseRetired (ramBefore : Bool) (s : State) : core (raiseRetired ramBefore s) = core s := by
  simp [raiseRetired]

@[simp] theorem core_retireSector (k : Nat) (s : State) : core (retireSector k s).1 = core s := by
  unfold retireSector
  split <;> simp

@[simp] theorem core_flashOp (erase : Bool) (k retries : Nat) (s : State) :
    core (flashOp erase k retries s).1 = core s := by
  unfold flashOp
  (repeat' split) <;> simp

@[simp] theorem core_flashAt (k retries : Nat) (s : State) : core (flashAt k retries s).1 = core s := by simp [flashAt]

@[simp] theorem core_eraseAt (k retries : Nat) (s : State) : core (eraseAt k retries s).1 = core s := by simp [eraseAt]

@[simp] theorem core_flashAll (a0 : List (Nat × Nat)) (a1 : State) : core (flashAll a0 a1).1 = core a1 := by
  induction a0 generalizing a1 with
  | nil => rfl
  | cons e l ih => simp [flashAll, ih]

/-! ### Boot count journal (R789 to R791) -/

@[simp] theorem core_journalAppend (e : List Byte) (s : State) : core (journalAppend e s) = core s := by
  simp [journalAppend]

@[simp] theorem core_journalTidy (s : State) : core (journalTidy s) = core s := by simp [journalTidy]

@[simp] theorem core_commitBoot (n bad : Nat) (s : State) : core (commitBoot n bad s) = core s := by simp [commitBoot]

/-! ### Scan, records, fetches -/

@[simp] theorem core_logScan (s : State) : core (logScan s) = core s := by simp [logScan]

@[simp] theorem core_headAdvance (s : State) : core (headAdvance s) = core s := by
  unfold headAdvance
  (repeat' split) <;> simp

@[simp] theorem core_wearTurn (retries : Nat) (s : State) : core (wearTurn retries s) = core s := by simp [wearTurn]

@[simp] theorem core_logFetchStart (p : Port) (want : Option Nat) (s : State) :
    core (logFetchStart p want s) = core s := by simp [logFetchStart]

@[simp] theorem core_modSd (k : Nat) (f : Sd → Sd) (s : State) : core (modSd k f s) = core s := by simp [modSd]

@[simp] theorem core_endRunLen (k code len : Nat) (s : State) : core (endRunLen k code len s) = core s := by
  unfold endRunLen
  split <;> simp

/-! ### On the wire (R595 to R603) -/

@[simp] theorem core_sdSend (k : Nat) (l : List Byte) (s : State) : core (sdSend k l s) = core s := by simp [sdSend]

@[simp] theorem core_sdCmd (k index arg : Nat) (s : State) : core (sdCmd k index arg s) = core s := by simp [sdCmd]

@[simp] theorem core_sdOpen (k : Nat) (s : State) : core (sdOpen k s) = core s := by simp [sdOpen]

@[simp] theorem core_endRunDone (k code len : Nat) (s : State) : core (endRunDone k code len s) = core s := by
  simp [endRunDone]

@[simp] theorem core_sdFall (k last code : Nat) (s : State) : core (sdFall k last code s) = core s := by simp [sdFall]

@[simp] theorem core_sdError (k last : Nat) (s : State) : core (sdError k last s) = core s := by simp [sdError]

/-! ### Initialisation (R491, R605 to R607) -/

@[simp] theorem core_sdPower (k : Nat) (s : State) : core (sdPower k s) = core s := by simp [sdPower]

@[simp] theorem core_sdR1 (k : Nat) (init : Bool) (rx : List Byte) {go : List Byte → State → State}
    (hgo : ∀ l s, core (go l s) = core s) (s : State) : core (sdR1 k init rx go s) = core s := by
  unfold sdR1
  split <;> simp [hgo]

@[simp] theorem core_sdTake (k n : Nat) (init : Bool) (rx again : List Byte) {reread : State → State}
    {go : List Byte → State → State} (hre : ∀ s, core (reread s) = core s) (hgo : ∀ l s, core (go l s) = core s)
    (s : State) : core (sdTake k n init rx again reread go s) = core s := by
  have hlast : ∀ (l : List Byte) (s : State), core (match sdBlock n l with
      | .missing => modSlot k (sdWait .token) s
      | .error b => sdFall k 2 0x04D (modSd k (fun d => { d with r1 := b.toNat }) s)
      | .good l => go l s
      | .mismatch => sdFall k 4 0x04D (modSd k (fun d => { d with crc := satInc d.crc, last := 4 }) s)) = core s := by
    intro l s
    split <;> simp [hgo]
  unfold sdTake
  split
  · simp
  · simp
  · simp [hgo]
  · rw [core_sdR1]
    · simp [hre]
    · exact hlast

@[simp] theorem core_sdReset (k : Nat) {go : State → State} (hgo : ∀ s, core (go s) = core s) (n : Nat)
    (l : List (List Byte)) (s : State) : core (sdReset k go n l s) = core s := by
  induction n generalizing l s with
  | zero => simp [sdReset]
  | succ n ih =>
    rw [sdReset]
    dsimp only
    split
    · simp
    · split <;> simp [hgo, ih]

@[simp] theorem core_sdVersion (k : Nat) (rx : List Byte) (s : State) : core (sdVersion k rx s) = core s := by
  unfold sdVersion
  split <;> simp

@[simp] theorem core_sdReady (k : Nat) (s : State) : core (sdReady k s) = core s := by simp [sdReady]

@[simp] theorem core_sdCsd (k ocr : Nat) (cmd16 csd : List Byte) (s : State) :
    core (sdCsd k ocr cmd16 csd s) = core s := by
  unfold sdCsd
  split <;> simp

@[simp] theorem core_sdIdentify (k : Nat) (cmd58 cmd9 again cmd16 : List Byte) (s : State) :
    core (sdIdentify k cmd58 cmd9 again cmd16 s) = core s := by
  refine core_sdR1 k true cmd58 (fun rx s => ?_) _ |>.trans (core_sdCmd k 58 0 s)
  dsimp only
  split <;> simp

/-! ### Runs (R610 to R614) -/

@[simp] theorem core_runGrow (k block : Nat) (write : Bool) (s : State) : core (runGrow k block write s) = core s := by
  simp [runGrow]

@[simp] theorem core_closeRead (k : Nat) (s : State) : core (closeRead k s) = core s := by simp [closeRead]

@[simp] theorem core_readOk (k oid block : Nat) (data : List Byte) (s : State) :
    core (readOk k oid block data s) = core s := by simp [readOk]

@[simp] theorem core_writeBlock (k : Nat) (run : Bool) (data : List Byte) (response : Byte) (s : State) :
    core (writeBlock k run data response s) = core s := by simp [writeBlock]

@[simp] theorem core_closeWrite (k : Nat) (rx : List Byte) (s : State) : core (closeWrite k rx s) = core s := by
  unfold closeWrite
  dsimp only
  split <;> simp

/-! ### Power, lock, silence -/

@[simp] theorem core_satSlotsReset (sat : Nat) (s : State) : core (satSlotsReset sat s) = core s := by
  simp [satSlotsReset]

@[simp] theorem core_formFold (sat : Nat) (portB : Bool) (s : State) : core (formFold sat portB s) = core s := by
  simp [formFold]

@[simp] theorem core_dueFold (sat : Nat) (s : State) : core (dueFold sat s) = core s := by
  unfold dueFold
  split <;> simp

@[simp] theorem core_isolateSlots (sat : Nat) (s : State) : core (isolateSlots sat s) = core s := by simp [isolateSlots]

/-! ### Folding and healing (R416, R422 to R428) -/

@[simp] theorem core_hubLinks (t : Nat) (s : State) : core (hubLinks t s) = core s := by simp [hubLinks]

@[simp] theorem core_linkTaken (sat : Nat) (pairK receiving wrapped : Bool) (s : State) :
    core (linkTaken sat pairK receiving wrapped s) = core s := by simp [linkTaken]

@[simp] theorem core_satHealReady (sat : Nat) (s : State) : core (satHealReady sat s) = core s := by simp [satHealReady]

/-! ### Enumeration and time (R407 to R411, R429 to R432, R447) -/

@[simp] theorem core_assigned (sat position : Nat) (prov : Bool) (rx : Arrival) (s : State) :
    core (assigned sat position prov rx s) = core s := by simp [assigned]

@[simp] theorem core_rearmNow (k : Nat) (s : State) : core (rearmNow k s) = core s := by simp [rearmNow]

@[simp] theorem core_rackTaken (sat : Nat) (t : Bool) (s : State) : core (rackTaken sat t s) = core s := by
  unfold rackTaken
  dsimp only
  (repeat' split) <;> simp

/-! ### Commands (R402, R455, R458, Table - CMD codes, Table - CACK codes) -/

@[simp] theorem core_sendCack (sat : Nat) (h : Bool) (rx : Arrival) (s : State) : core (sendCack sat h rx s) = core s := by
  simp [sendCack]

/-! ### Module rails (R203 to R206) -/

@[simp] theorem core_sendRails (sat : Nat) (s : State) : core (sendRails sat s) = core s := by simp [sendRails]

@[simp] theorem core_failGrails (sat : Nat) (f0 f1 : Bool) (s : State) : core (failGrails sat f0 f1 s) = core s := by
  simp [failGrails]

@[simp] theorem core_lowerDone (sat : Nat) (s : State) : core (lowerDone sat s) = core s := by simp [lowerDone]

@[simp] theorem core_judgeGrails (sat v0 v1 : Nat) (s : State) : core (judgeGrails sat v0 v1 s) = core s := by
  simp [judgeGrails]

/-! ### Supplies (R452 to R454) -/

@[simp] theorem core_satSupplyFall (sat : Nat) (s : State) : core (satSupplyFall sat s) = core s := by
  simp [satSupplyFall]

/-! ### Sweep (R456, Table - Sweep report) -/

@[simp] theorem core_countStale (t : Nat) (s : State) : core (countStale t s) = core s := by simp [countStale]

@[simp] theorem core_countBad (t : Nat) (s : State) : core (countBad t s) = core s := by simp [countBad]

@[simp] theorem core_heardFrom (pos : Nat) (rx : Arrival) (s : State) : core (heardFrom pos rx s) = core s := by
  simp [heardFrom]

/-! ### Walks (R407 to R410, R414, R436, R437) -/

@[simp] theorem core_sendQuery (t : Nat) (e : RingEnd) (pos : Nat) (s : State) : core (sendQuery t e pos s) = core s := by
  simp [sendQuery]

@[simp] theorem core_startWalk (t : Nat) (s : State) : core (startWalk t s) = core s := by simp [startWalk]

@[simp] theorem core_sendAssign (t : Nat) (e : RingEnd) (at_ uid p : Nat) (prov : Bool) (s : State) :
    core (sendAssign t e at_ uid p prov s) = core s := by simp [sendAssign]

@[simp] theorem core_park (t : Nat) (e : RingEnd) (at_ uid : Nat) (s : State) : core (park t e at_ uid s) = core s := by
  simp [park]

@[simp] theorem core_assign (t : Nat) (from_ : RingEnd) (at_ uid hwver ringver hop p : Nat) (s : State) :
    core (assign t from_ at_ uid hwver ringver hop p s) = core s := by simp [assign]

@[simp] theorem core_walkFound (t : Nat) (w : Walk) (uid hwver ringver hop : Nat) (s : State) :
    core (walkFound t w uid hwver ringver hop s) = core s := by simp [walkFound]

@[simp] theorem core_provisionalCheck (t pos uid hwver ringver hop : Nat) (s : State) :
    core (provisionalCheck t pos uid hwver ringver hop s) = core s := by simp [provisionalCheck]

@[simp] theorem core_enumAnswer (t uid hwver ringver hop pos : Nat) (s : State) :
    core (enumAnswer t uid hwver ringver hop pos s) = core s := by
  unfold enumAnswer
  (repeat' split) <;> simp

@[simp] theorem core_walkEnds (t : Nat) (intact : Bool) (s : State) : core (walkEnds t intact s) = core s := by
  unfold walkEnds
  (repeat' split) <;> simp

@[simp] theorem core_measureLoops (t : Nat) (s : State) : core (measureLoops t s) = core s := by simp [measureLoops]

@[simp] theorem core_becomeIntact (t : Nat) (s : State) : core (becomeIntact t s) = core s := by simp [becomeIntact]

@[simp] theorem core_foundWrapped (t : Nat) (s : State) : core (foundWrapped t s) = core s := by simp [foundWrapped]

/-! ### One satellite (R401, R413, R429 to R432, R455) -/

@[simp] theorem core_startDelay (pos : Nat) (s : State) : core (startDelay pos s) = core s := by simp [startDelay]

@[simp] theorem core_assignAck (pos : Nat) (s : State) : core (assignAck pos s) = core s := by simp [assignAck]

@[simp] theorem core_sendMarker (t : Nat) (s : State) : core (sendMarker t s) = core s := by simp [sendMarker]

@[simp] theorem core_delayAnswer (pos c : Nat) (s : State) : core (delayAnswer pos c s) = core s := by
  unfold delayAnswer
  split <;> simp

@[simp] theorem core_walkNext (pos : Nat) (s : State) : core (walkNext pos s) = core s := by
  unfold walkNext
  dsimp only
  split <;> simp

@[simp] theorem core_tsyncAnswer (pos : Nat) (s : State) : core (tsyncAnswer pos s) = core s := by simp [tsyncAnswer]

/-! ### Orders at a satellite -/

@[simp] theorem core_endSatOrder (pos op code : Nat) (s : State) : core (endSatOrder pos op code s) = core s := by
  unfold endSatOrder
  split <;> simp

/-! ### Satellite updates (R870 to R874) -/

@[simp] theorem core_updBegin (o : Order) (s : State) : core (updBegin o s) = core s := by simp [updBegin]

@[simp] theorem core_satUpdate (o : Order) (s : State) : core (satUpdate o s) = core s := by simp [satUpdate]

@[simp] theorem core_updNext (pos : Nat) (s : State) : core (updNext pos s) = core s := by
  unfold updNext
  split <;> simp

@[simp] theorem core_updAcked (pos : Nat) (s : State) : core (updAcked pos s) = core s := by
  unfold updAcked
  split <;> simp

@[simp] theorem core_updPace (s : State) : core (updPace s) = core s := by
  unfold updPace
  split <;> simp

@[simp] theorem core_showUpdating (pos : Nat) (s : State) : core (showUpdating pos s) = core s := by simp [showUpdating]

@[simp] theorem core_updProtocol (pos : Nat) (s : State) : core (updProtocol pos s) = core s := by simp [updProtocol]

/-! ### Acknowledgments (R402, R403, R405) -/

@[simp] theorem core_ackEffect (pos : Nat) (c : HubCmd) (code : Nat) (s : State) :
    core (ackEffect pos c code s) = core s := by
  unfold ackEffect
  dsimp only
  (repeat' split) <;> simp

@[simp] theorem core_cackTaken (pos : Nat) (h : Bool) (code : Nat) (s : State) : core (cackTaken pos h code s) = core s := by
  unfold cackTaken
  dsimp only
  split <;> simp

@[simp] theorem core_cmdResend (pos : Nat) (s : State) : core (cmdResend pos s) = core s := by
  unfold cmdResend
  split <;> simp

@[simp] theorem core_sendWake (pos : Nat) (e : RingEnd) (s : State) : core (sendWake pos e s) = core s := by
  simp [sendWake]

@[simp] theorem core_wakeResend (pos : Nat) (s : State) : core (wakeResend pos s) = core s := by simp [wakeResend]

/-! ### Taking results (R404, R405) -/

@[simp] theorem core_finishOrder (o : Order) (s : State) : core (finishOrder o s) = core s := by
  unfold finishOrder
  split <;> simp

@[simp] theorem core_doneTaken (pos slot oid status full : Nat) (first : List Byte) (s : State) :
    core (doneTaken pos slot oid status full first s) = core s := by
  unfold doneTaken
  dsimp only
  split <;> simp

@[simp] theorem core_dataTaken (pos slot oid offset : Nat) (data : List Byte) (s : State) :
    core (dataTaken pos slot oid offset data s) = core s := by
  unfold dataTaken
  split <;> simp

@[simp] theorem core_slotTaken (pos slot event code : Nat) (s : State) :
    core (slotTaken pos slot event code s) = core s := by
  unfold slotTaken
  dsimp only
  (repeat' split) <;> simp

@[simp] theorem core_restartedTaken (pos cause : Nat) (s : State) : core (restartedTaken pos cause s) = core s := by
  unfold restartedTaken
  dsimp only
  (repeat' split) <;> simp

@[simp] theorem core_wokenTaken (pos : Nat) (s : State) : core (wokenTaken pos s) = core s := by simp [wokenTaken]

@[simp] theorem core_railTaken (pos g0 g1 : Nat) (s : State) : core (railTaken pos g0 g1 s) = core s := by
  unfold railTaken
  dsimp only
  split <;> simp

@[simp] theorem core_moduleRaise (t : Nat) (s : State) : core (moduleRaise t s) = core s := by
  unfold moduleRaise
  (repeat' split) <;> simp

@[simp] theorem core_becomeActive (pos : Nat) (s : State) : core (becomeActive pos s) = core s := by
  unfold becomeActive
  dsimp only
  split <;> simp

@[simp] theorem core_identTaken (pos part build minor major image : Nat) (s : State) :
    core (identTaken pos part build minor major image s) = core s := by
  unfold identTaken
  dsimp only
  (repeat' split) <;> simp

/-! ### Host commands to a satellite (R469, R755, R909) -/

@[simp] theorem core_satCmd (pos slot cmd : Nat) (s : State) : core (satCmd pos slot cmd s) = core s := by
  unfold satCmd
  split <;> simp

@[simp] theorem core_satZfack (pos bits : Nat) (s : State) : core (satZfack pos bits s) = core s := by simp [satZfack]

@[simp] theorem core_routeAround (t : Nat) (s : State) : core (routeAround t s) = core s := by simp [routeAround]

@[simp] theorem core_doubleCheck (t : Nat) (ks : List Nat) (s : State) : core (doubleCheck t ks s) = core s := by
  simp [doubleCheck]

@[simp] theorem core_breakSeen (t : Nat) (sideB : Bool) (seg pairs : Nat) (s : State) :
    core (breakSeen t sideB seg pairs s) = core s := by simp [breakSeen]

@[simp] theorem core_wrapTaken (pos : Nat) (lostF lostK portB : Bool) (s : State) :
    core (wrapTaken pos lostF lostK portB s) = core s := by simp [wrapTaken]

@[simp] theorem core_endLost (t : Nat) (retSide : Bool) (s : State) : core (endLost t retSide s) = core s := by
  simp [endLost]

@[simp] theorem core_endLine (t : Nat) (retSide : Bool) (event : Nat) (s : State) :
    core (endLine t retSide event s) = core s := by simp [endLine]

/-! ### Healing (R423 to R428) -/

@[simp] theorem core_sendHeals (t : Nat) (s : State) : core (sendHeals t s) = core s := by
  unfold sendHeals
  dsimp only
  (repeat' split) <;> simp

@[simp] theorem core_startHeal (t : Nat) (s : State) : core (startHeal t s) = core s := by simp [startHeal]

@[simp] theorem core_tryHeal (t : Nat) (s : State) : core (tryHeal t s) = core s := by simp [tryHeal]

@[simp] theorem core_healReadyTaken (pos : Nat) (s : State) : core (healReadyTaken pos s) = core s := by
  simp [healReadyTaken]

@[simp] theorem core_hubReady (t : Nat) (s : State) : core (hubReady t s) = core s := by simp [hubReady]

@[simp] theorem core_hubLink (t : Nat) (pairK receiving wrapped : Bool) (s : State) :
    core (hubLink t pairK receiving wrapped s) = core s := by simp [hubLink]

@[simp] theorem core_healAnswer (t : Nat) (fromB : Bool) (unwrap : Nat) (s : State) :
    core (healAnswer t fromB unwrap s) = core s := by
  unfold healAnswer
  split <;> simp

@[simp] theorem core_unfoldSats (t : Nat) (s : State) : core (unfoldSats t s) = core s := by simp [unfoldSats]

@[simp] theorem core_afterHeal (t pos : Nat) (s : State) : core (afterHeal t pos s) = core s := by simp [afterHeal]

@[simp] theorem core_unwrap (t : Nat) (s : State) : core (unwrap t s) = core s := by
  unfold unwrap
  split <;> simp

/-! ### TTH_CMD and TTH_HOLD (R414, R425, R432, R435) -/

@[simp] theorem core_tthCmd (t cmd : Nat) (s : State) : core (tthCmd t cmd s) = core s := by
  unfold tthCmd
  split <;> simp

@[simp] theorem core_tthHold (v : Nat) (s : State) : core (tthHold v s) = core s := by simp [tthHold]

@[simp] theorem core_resetBlocks (s : State) : core (resetBlocks s) = core s := by simp [resetBlocks, resetRnd]

@[simp] theorem core_resetSafe (s : State) : core (resetSafe s) = core s := by simp [resetSafe]

@[simp] theorem core_warmReset (cause block : Nat) (hold : ResetHold) (s : State) :
    core (warmReset cause block hold s) = core s := by simp [warmReset]

@[simp] theorem core_warmRestart (cause block : Nat) (s : State) : core (warmRestart cause block s) = core s := by
  simp [warmRestart]

@[simp] theorem core_endRecord (s : State) : core (endRecord s) = core s := by simp [endRecord]

@[simp] theorem core_railsOff (s : State) : core (railsOff s) = core s := by simp [railsOff]

@[simp] theorem core_fullReset (s : State) : core (fullReset s) = core s := by simp [fullReset]

@[simp] theorem core_replayEnd (why : Nat) (s : State) : core (replayEnd why s) = core s := by simp [replayEnd]

/-! ### The alarm state (R298, R331, R332) -/

@[simp] theorem core_alarmWakeAll (s : State) : core (alarmWakeAll s) = core s := by simp [alarmWakeAll]

@[simp] theorem core_alarmUpdate (s : State) : core (alarmUpdate s) = core s := by simp [alarmUpdate]

@[simp] theorem core_setAlarmReq (p : Port) (on : Bool) (s : State) : core (setAlarmReq p on s) = core s := by
  simp [setAlarmReq]

/-! ### Ties (R307) -/

@[simp] theorem core_flipPrio (s : State) : core (flipPrio s) = core s := by simp [flipPrio]

/-! ### Moorings (R308 to R313) -/

@[simp] theorem core_setMooring (n : Nat) (h : Option Port) (s : State) : core (setMooring n h s) = core s := by
  simp [setMooring]

@[simp] theorem core_takeMooring (p : Port) (n : Nat) (s : State) : core (takeMooring p n s).2 = core s := by
  unfold takeMooring
  (repeat' split) <;> simp

@[simp] theorem core_releaseMoorings (p : Port) (f : Nat → Bool) (s : State) : core (releaseMoorings p f s) = core s := by
  simp [releaseMoorings]

@[simp] theorem core_morRefused (p : Port) (why : Nat) (s : State) : core (morRefused p why s) = core s := by
  simp [morRefused]

/-! ### Claims (R314 to R319, R337) -/

@[simp] theorem core_setClaim (id : Nat) (c : Option Port) (s : State) : core (setClaim id c s) = core s := by
  simp [setClaim]

@[simp] theorem core_rigClaims (s : State) : core (rigClaims s) = core s := by simp [rigClaims]

/-! ### Absence and port reset (R268, R320 to R330, R333, R334) -/

@[simp] theorem core_withdrawSilent (p : Port) (s : State) : core (withdrawSilent p s) = core s := by
  simp [withdrawSilent]

@[simp] theorem core_passClaims (p : Port) (s : State) : core (passClaims p s) = core s := by simp [passClaims]

@[simp] theorem core_dropStaging (p : Port) (s : State) : core (dropStaging p s) = core s := by
  unfold dropStaging
  (repeat' split) <;> simp

@[simp] theorem core_dropUpdate (p : Port) (s : State) : core (dropUpdate p s) = core s := by simp [dropUpdate]

@[simp] theorem core_clearPort (p : Port) (s : State) : core (clearPort p s) = core s := by simp [clearPort]

@[simp] theorem core_queueHost (p : Port) (kind : Nat) (s : State) : core (queueHost p kind s) = core s := by
  simp [queueHost]

@[simp] theorem core_becomeAbsent (p : Port) (s : State) : core (becomeAbsent p s) = core s := by simp [becomeAbsent]

@[simp] theorem core_lapse (ps : List Port) (s : State) : core (lapse ps s) = core s := by simp [lapse]

@[simp] theorem core_heartbeat (p : Port) (s : State) : core (heartbeat p s) = core s := by simp [heartbeat]

@[simp] theorem core_startHeartbeats (s : State) : core (startHeartbeats s) = core s := by simp [startHeartbeats]

@[simp] theorem core_liveHost (p : Port) (old new : HostRec) (s : State) : core (liveHost p old new s) = core s := by
  simp [liveHost]

@[simp] theorem core_recoveryCheck (s : State) : core (recoveryCheck s) = core s := by simp [recoveryCheck]

@[simp] theorem core_portReset (p : Port) (s : State) : core (portReset p s) = core s := by simp [portReset]

@[simp] theorem core_peerAlarmClear (p : Port) (s : State) : core (peerAlarmClear p s) = core s := by
  simp [peerAlarmClear]

/-! ### Rules (R708 to R716) -/

@[simp] theorem core_modRule (n : Nat) (f : LkoRule → LkoRule) (s : State) : core (modRule n f s) = core s := by
  simp [modRule]

@[simp] theorem core_pfwFollow (s : State) : core (pfwFollow s) = core s := by simp [pfwFollow]

/-! ### Actions (R717 to R721, R728) -/

@[simp] theorem core_actLog (n : Nat) (s : State) : core (actLog n s) = core s := by simp [actLog]

@[simp] theorem core_actWake (n : Nat) (s : State) : core (actWake n s) = core s := by simp [actWake]

@[simp] theorem core_ripSlots (ids : List Nat) (s : State) : core (ripSlots ids s) = core s := by simp [ripSlots]

@[simp] theorem core_actRipcord (n : Nat) (s : State) : core (actRipcord n s) = core s := by simp [actRipcord]

@[simp] theorem core_actRails (s : State) : core (actRails s) = core s := by simp [actRails]

@[simp] theorem core_ackBlock (b : FBlk) (bits : Nat) (s : State) : core (ackBlock b bits s) = core s := by
  simp [ackBlock]

@[simp] theorem core_actAck (n : Nat) (s : State) : core (actAck n s) = core s := by simp [actAck]

@[simp] theorem core_dueAcks (s : State) : core (dueAcks s) = core s := by simp [dueAcks]

@[simp] theorem core_ruleActions (n : Nat) (s : State) : core (ruleActions n s) = core s := by simp [ruleActions]

@[simp] theorem core_evalRule (n v : Nat) (s : State) : core (evalRule n v s).1 = core s := by
  unfold evalRule
  dsimp only
  split <;> simp

@[simp] theorem core_evalRules (pick : State → LkoRule → Option Nat) (s : State) : core (evalRules pick s) = core s := by
  unfold evalRules
  split
  · generalize hx : List.foldl _ (s, false) (List.range 32) = x
    have hcore : core x.1 = core s := by
      rw [← hx]
      refine core_foldl_fst _ (fun a n => ?_) _ (s, false)
      dsimp only
      (repeat' split) <;> simp
    obtain ⟨t, skipped⟩ := x
    dsimp only
    split <;> simpa using hcore
  · rfl

@[simp] theorem core_evalChannel (c v : Nat) (s : State) : core (evalChannel c v s) = core s := by simp [evalChannel]

@[simp] theorem core_evalMicro (s : State) : core (evalMicro s) = core s := by simp [evalMicro]

@[simp] theorem core_evalSweep (s : State) : core (evalSweep s) = core s := by simp [evalSweep]

@[simp] theorem core_ruleEcc (n : Nat) (s : State) : core (ruleEcc n s) = core s := by simp [ruleEcc]

@[simp] theorem core_loadRules (s : State) : core (loadRules s) = core s := by simp [loadRules]

@[simp] theorem core_reloadRule (n : Nat) (s : State) : core (reloadRule n s) = core s := by simp [reloadRule]

/-! ### STANDBY (R722 to R725, R729) -/

@[simp] theorem core_enterStandby (s : State) : core (enterStandby s) = core s := by simp [enterStandby]

@[simp] theorem core_hostWake (s : State) : core (hostWake s) = core s := by simp [hostWake]

/-! ### The SAFE reaction (R750, R751) -/

@[simp] theorem core_safeAction (s : State) : core (safeAction s) = core s := by simp [safeAction]

@[simp] theorem core_safeReaction (b : FBlk) (k : Nat) (s : State) : core (safeReaction b k s) = core s := by
  simp [safeReaction]

@[simp] theorem core_safeRewalk (s : State) : core (safeRewalk s) = core s := by simp [safeRewalk]

/-! ### Fatal detections (R736, R740, R752) -/

@[simp] theorem core_parityFail (b : FBlk) (kind : Nat) (w : Word) (s : State) :
    core (parityFail b kind w s) = core s := by simp [parityFail]

/-! ### Block reset (R757) -/

@[simp] theorem core_blockResetDone (b : FBlk) (s : State) : core (blockResetDone b s) = core s := by
  simp [blockResetDone]

/-! ### Nonces (R818 to R824, R350) -/

@[simp] theorem core_poolDrop (n : Nat) (s : State) : core (poolDrop n s) = core s := by simp [poolDrop]

@[simp] theorem core_issueNonce (o : Order) (s : State) : core (issueNonce o s) = core s := by simp [issueNonce]

@[simp] theorem core_fillEnds (o : Order) (n : Nat) (s : State) : core (fillEnds o n s) = core s := by simp [fillEnds]

@[simp] theorem core_fillTake (o : Order) (s : State) : core (fillTake o s) = core s := by simp [fillTake]

@[simp] theorem core_serveTurn (o : Order) (s : State) : core (serveTurn o s) = core s := by simp [serveTurn]

@[simp] theorem core_serveNonces (a0 : Nat) (a1 : State) : core (serveNonces a0 a1) = core a1 := by
  induction a0 generalizing a1 with
  | zero => rfl
  | succ n ih => rw [serveNonces]; split <;> simp [ih]

@[simp] theorem core_serveAll (s : State) : core (serveAll s) = core s := by simp [serveAll]

@[simp] theorem core_nonceStep (op id : Nat) (s : State) : core (nonceStep op id s) = core s := by
  unfold nonceStep
  split <;> simp

@[simp] theorem core_fillLeaves (id : Nat) (s : State) : core (fillLeaves id s) = core s := by
  unfold fillLeaves
  split <;> simp

@[simp] theorem core_rollBoot (bad : Nat) (s : State) : core (rollBoot bad s) = core s := by simp [rollBoot]

/-! ### The source (R813 to R817) -/

@[simp] theorem core_startupEnds (raw : List Byte) (s : State) : core (startupEnds raw s) = core s := by
  unfold startupEnds
  split <;> simp

@[simp] theorem core_sourceFails (s : State) : core (sourceFails s) = core s := by simp [sourceFails]

@[simp] theorem core_judgeRaw (raw : List Byte) (s : State) : core (judgeRaw raw s) = core s := by simp [judgeRaw]

@[simp] theorem core_formBlock (raw : List Byte) (s : State) : core (formBlock raw s) = core s := by
  unfold formBlock
  split <;> simp

@[simp] theorem core_randomRead (s : State) : core (randomRead s).2 = core s := by
  unfold randomRead
  (repeat' split) <;> simp

/-! ### The key store (R825 to R828, R836) -/

@[simp] theorem core_rndRefused (p : Port) (why : Nat) (s : State) : core (rndRefused p why s) = core s := by
  simp [rndRefused]

@[simp] theorem core_dropPending (s : State) : core (dropPending s) = core s := by simp [dropPending]

/-! ### The debug port (R831, R832) -/

@[simp] theorem core_tapLoad (code : Nat) (s : State) : core (tapLoad code s) = core s := by simp [tapLoad]

/-! ### Entry to ENUMERATE and RISING (R176, R182, R219) -/

@[simp] theorem core_enterEnumerate (s : State) : core (enterEnumerate s) = core s := by simp [enterEnumerate]

@[simp] theorem core_risingEnds (s : State) : core (risingEnds s) = core s := by simp [risingEnds]

@[simp] theorem core_declareRails (s : State) : core (declareRails s) = core s := by simp [declareRails]

/-! ### Lowering (R177 to R181) -/

@[simp] theorem core_shutdownEnds (s : State) : core (shutdownEnds s) = core s := by simp [shutdownEnds]

@[simp] theorem core_beginShutdown (s : State) : core (beginShutdown s) = core s := by simp [beginShutdown]

/-! ### Raising (R171 to R175, R180) -/

@[simp] theorem core_setLock (cause rail : Nat) (s : State) : core (setLock cause rail s) = core s := by simp [setLock]

@[simp] theorem core_riseFails (n : Nat) (s : State) : core (riseFails n s) = core s := by simp [riseFails]

@[simp] theorem core_beginRising (restart : Bool) (s : State) : core (beginRising restart s) = core s := by
  unfold beginRising
  split <;> simp

@[simp] theorem core_enterRising (s : State) : core (enterRising s) = core s := by simp [enterRising]

/-! ### Judging (R186 to R195) -/

@[simp] theorem core_markFailed (l : List (Nat × Nat)) (s : State) : core (markFailed l s) = core s := by
  simp [markFailed]

@[simp] theorem core_markLog (l : List (Nat × Nat)) (s : State) : core (markLog l s) = core s := by simp [markLog]

@[simp] theorem core_runFails (mode n : Nat) (s : State) : core (runFails mode n s) = core s := by simp [runFails]

@[simp] theorem core_railsFail (l : List (Nat × Nat)) (s : State) : core (railsFail l s) = core s := by simp [railsFail]

@[simp] theorem core_railScanEnd (s : State) : core (railScanEnd s) = core s := by simp [railScanEnd]

@[simp] theorem core_judgeRunning (n : Nat) (r : RailRec) (ok : Bool) (s : State) :
    core (judgeRunning n r ok s) = core s := by simp [judgeRunning]

@[simp] theorem core_railSample (n v : Nat) (s : State) : core (railSample n v s) = core s := by
  unfold railSample
  split <;> simp

/-! ### The lock (R183, R184, R210) -/

@[simp] theorem core_rlsRefused (p : Port) (why : Nat) (s : State) : core (rlsRefused p why s) = core s := by
  simp [rlsRefused]

@[simp] theorem core_railRelease (s : State) : core (railRelease s) = core s := by simp [railRelease]

/-! ### Margining (R196 to R200) -/

@[simp] theorem core_setTrimTarget (p : Port) (n mag : Nat) (sink : Bool) (s : State) :
    core (setTrimTarget p n mag sink s) = core s := by simp [setTrimTarget]

@[simp] theorem core_takeBack (n : Nat) (s : State) : core (takeBack n s) = core s := by simp [takeBack]

@[simp] theorem core_trimStep (n : Nat) (s : State) : core (trimStep n s) = core s := by simp [trimStep]

/-! ### Scan lists (R185, R679, R680, R684) -/

@[simp] theorem core_modChan (k : Nat) (f : Channel → Channel) (s : State) : core (modChan k f s) = core s := by
  simp [modChan]

@[simp] theorem core_mirror (c v : Nat) (s : State) : core (mirror c v s) = core s := by simp [mirror]

@[simp] theorem core_putList (l : List Nat) (boot : Bool) (s : State) : core (putList l boot s) = core s := by
  simp [putList]

/-! ### Hold-up energy (R148) -/

@[simp] theorem core_holdUpdate (s : State) : core (holdUpdate s) = core s := by simp [holdUpdate]

/-! ### Samples (R675, R678, R685, R686) -/

@[simp] theorem core_tempSample (v : Nat) (s : State) : core (tempSample v s) = core s := by simp [tempSample]

@[simp] theorem core_takeSample (c v : Nat) (s : State) : core (takeSample c v s) = core s := by simp [takeSample]

@[simp] theorem core_scanNextPos (s : State) : core (scanNextPos s) = core s := by
  unfold scanNextPos
  dsimp only
  (repeat' split) <;> simp

@[simp] theorem core_scanSample (code : Nat) (done : Bool) (ecc : Option Nat) (s : State) :
    core (scanSample code done ecc s) = core s := by
  unfold scanSample
  split
  · rfl
  · dsimp only
    have hdone : core (if done = true then s else raise .mea 2 s) = core s := by simp
    generalize (if done = true then s else raise .mea 2 s) = t at hdone
    split
    · exact hdone
    · rw [← hdone]
      cases ecc <;> simp

/-! ### Sweeps (R433, R434, R687 to R693) -/

@[simp] theorem core_sweepReadings (s : State) : core (sweepReadings s) = core s := by
  unfold sweepReadings
  rw [core_foldl _ (fun s k => core_addReading ..)]
  refine core_foldl _ (fun s e => ?_) _ s
  split
  · split <;> simp
  · rfl

@[simp] theorem core_takeReports (s : State) : core (takeReports s) = core s := by simp [takeReports]

@[simp] theorem core_sweepNews (s : State) : core (sweepNews s) = core s := by simp [sweepNews]

@[simp] theorem core_publish (s : State) : core (publish s) = core s := by simp [publish]

@[simp] theorem core_publishWake (s : State) : core (publishWake s) = core s := by simp [publishWake]

@[simp] theorem core_sweepStart (s : State) : core (sweepStart s) = core s := by simp [sweepStart]

@[simp] theorem core_sweepReport (pos num : Nat) (words : List Word) (s : State) :
    core (sweepReport pos num words s) = core s := by simp [sweepReport]

/-! ### Windows (R694 to R699) -/

@[simp] theorem core_setPin (p : Port) (on : Bool) (s : State) : core (setPin p on s) = core s := by simp [setPin]

/-! ### Records and results -/

@[simp] theorem core_queueUpdate (kind target version reason : Nat) (s : State) :
    core (queueUpdate kind target version reason s) = core s := by simp [queueUpdate]

@[simp] theorem core_jobResult (reason target : Nat) (s : State) : core (jobResult reason target s) = core s := by
  simp [jobResult]

@[simp] theorem core_imageSig (r : Nat) (s : State) : core (imageSig r s) = core s := by simp [imageSig]

@[simp] theorem core_rejectImage (t : Tbl Byte) (r : Nat) (s : State) : core (rejectImage t r s) = core s := by
  simp [rejectImage]

@[simp] theorem core_wakeEngine (s : State) : core (wakeEngine s) = core s := by simp [wakeEngine]

/-! ### Target areas (R843, R862, R867, R64) -/

@[simp] theorem core_setFwBank (n : Nat) (b : FwBank) (s : State) : core (setFwBank n b s) = core s := by
  simp [setFwBank]

@[simp] theorem core_setRigBank (n : Nat) (b : RigBank) (s : State) : core (setRigBank n b s) = core s := by
  simp [setRigBank]

@[simp] theorem core_setStore (n : Nat) (b : StoreSlot) (s : State) : core (setStore n b s) = core s := by
  simp [setStore]

@[simp] theorem core_eraseSectors (first n last : Nat) (s : State) : core (eraseSectors first n last s) = core s := by
  simp [eraseSectors]

@[simp] theorem core_eraseRig (n : Nat) (s : State) : core (eraseRig n s) = core s := by simp [eraseRig]

@[simp] theorem core_eraseArea (t : Tbl Byte) (s : State) : core (eraseArea t s) = core s := by
  unfold eraseArea
  split <;> simp

@[simp] theorem core_eraseTargetOf (t : Tbl Byte) (s : State) : core (eraseTargetOf t s) = core s := by
  simp [eraseTargetOf]

@[simp] theorem core_writeFw (t : Tbl Byte) (s : State) : core (writeFw t s).1 = core s := by simp [writeFw]

@[simp] theorem core_writeRig (words : List Word) (s : State) : core (writeRig words s).1 = core s := by
  simp [writeRig]

/-! ### Settings (R854, R855) -/

@[simp] theorem core_loadSettings (s : State) : core (loadSettings s) = core s := by simp [loadSettings]

@[simp] theorem core_writeSettings (s : State) : core (writeSettings s) = core s := by simp [writeSettings]

@[simp] theorem core_putSetting (k : Nat) (v : List Byte) (s : State) : core (putSetting k v s) = core s := by
  simp [putSetting]

/-! ### Steps 12 to 14 and the write (R858) -/

@[simp] theorem core_completeImage (t : Tbl Byte) (s : State) : core (completeImage t s).1 = core s := by
  unfold completeImage
  dsimp only
  (repeat' split) <;> simp

@[simp] theorem core_finishImage (t : Tbl Byte) (s : State) : core (finishImage t s).1 = core s := by
  unfold finishImage
  dsimp only
  (repeat' split) <;> simp

/-! ### Host staging (R856 to R860, R864, R879, R882) -/

@[simp] theorem core_updOpen (p : Port) (t : Nat) (s : State) : core (updOpen p t s) = core s := by simp [updOpen]

@[simp] theorem core_updClose (s : State) : core (updClose s) = core s := by simp [updClose]

@[simp] theorem core_updDiscard (s : State) : core (updDiscard s) = core s := by
  unfold updDiscard
  split <;> simp

@[simp] theorem core_earlyCheck (s : State) : core (earlyCheck s) = core s := by simp [earlyCheck]

@[simp] theorem core_updPush (n : Nat) (s : State) : core (updPush n s) = core s := by simp [updPush]

@[simp] theorem core_updExit (s : State) : core (updExit s) = core s := by simp [updExit]

@[simp] theorem core_updHold (s : State) : core (updHold s) = core s := by simp [updHold]

@[simp] theorem core_updRefused (p : Port) (why : Nat) (s : State) : core (updRefused p why s) = core s := by
  simp [updRefused]

/-! ### The service card (R623 to R627, R860 to R863, R867) -/

@[simp] theorem core_endFetch (code : Nat) (s : State) : core (endFetch code s) = core s := by simp [endFetch]

@[simp] theorem core_updFetch (o : Order) (cap fault : Nat) (m : List (Nat × List Byte)) (s : State) :
    core (updFetch o cap fault m s) = core s := by simp [updFetch]

@[simp] theorem core_endFlow (s : State) : core (endFlow s) = core s := by simp [endFlow]

@[simp] theorem core_cardFlow (cap fault : Nat) (m : List (Nat × List Byte)) (s : State) :
    core (cardFlow cap fault m s) = core s := by
  unfold cardFlow
  dsimp only
  split
  · simp
  · split
    · simp
    · simp only [core_mk, core_refold]
      rw [core_foldl _ (fun s t => by simp)]
      simp

/-! ### The write ends (R858, R859, R844, R866) -/

@[simp] theorem core_writeFails (target : Nat) (s : State) : core (writeFails target s) = core s := by simp [writeFails]

@[simp] theorem core_hostWritten (ok : Bool) (s : State) : core (hostWritten ok s) = core s := by simp [hostWritten]

@[simp] theorem core_fetchWritten (ok : Bool) (s : State) : core (fetchWritten ok s) = core s := by
  unfold fetchWritten
  dsimp only
  split <;> rename_i hok
  · simp
  · generalize hx : List.foldl _ (s, 0) s.upd.fetch = x
    have hcore : core x.1 = core s := by
      rw [← hx]
      refine core_foldl_fst _ (fun a n => ?_) _ (s, 0)
      dsimp only
      split <;> simp
    obtain ⟨t, r⟩ := x
    dsimp only
    rw [← hcore]
    (repeat' split) <;> simp

/-! ### The choice in BOOT (R846, R847, R65) -/

@[simp] theorem core_bootBank (s : State) : core (bootBank s).1 = core s := by
  unfold bootBank
  dsimp only
  (repeat' split) <;> simp

@[simp] theorem core_runFirmware (n : Nat) (trial : Bool) (s : State) : core (runFirmware n trial s) = core s := by
  simp [runFirmware]

@[simp] theorem core_bootRig (s : State) : core (bootRig s).1 = core s := by
  unfold bootRig
  dsimp only
  split <;> simp

/-! ### The trial (R848 to R853, R880) -/

@[simp] theorem core_abandonTrial (s : State) : core (abandonTrial s) = core s := by simp [abandonTrial]

/-! ### RIG_CMD (R70, R71, R73) -/

@[simp] theorem core_rigResult (cmd reason pos : Nat) (s : State) : core (rigResult cmd reason pos s) = core s := by
  simp [rigResult]

@[simp] theorem core_rigDone (p : Port) (s : State) : core (rigDone p s) = core s := by simp [rigDone]

@[simp] theorem core_rigOpen (p : Port) (s : State) : core (rigOpen p s) = core s := by simp [rigOpen]

@[simp] theorem core_rigClose (p : Port) (s : State) : core (rigClose p s) = core s := by simp [rigClose]

@[simp] theorem core_rigStart (p : Port) (c : Nat) (s : State) : core (rigStart p c s) = core s := by simp [rigStart]

@[simp] theorem core_rigCommand (p : Port) (c : Nat) (s : State) : core (rigCommand p c s).2 = core s := by
  unfold rigCommand
  (repeat' split) <;> simp

/-! ### What APPLY_LIVE puts into effect (R59, Table - When live changes bite) -/

@[simp] theorem core_localSlots (s : State) : core (localSlots s) = core s := by simp [localSlots]

@[simp] theorem core_liveRules (old : Rig) (s : State) : core (liveRules old s) = core s := by
  refine core_foldl _ (fun s n => ?_) _ s
  split <;> simp

@[simp] theorem core_liveSat (old : State) (pos : Nat) (s : State) : core (liveSat old pos s) = core s := by
  unfold liveSat
  split
  · rfl
  · split <;> simp

@[simp] theorem core_liveScan (old : Rig) (s : State) : core (liveScan old s) = core s := by simp [liveScan]

@[simp] theorem core_liveLedger (old : Rig) (s : State) : core (liveLedger old s) = core s := by simp [liveLedger]

@[simp] theorem core_applyLive (new : Rig) (bank : Nat) (s : State) : core (applyLive new bank s) = core s := by
  have hfold : ∀ (old t : State) (l : List Nat), core (l.foldl (fun t p => liveSat old p t) t) = core t := fun old t l =>
    core_foldl _ (fun _ _ => core_liveSat ..) l t
  simp [applyLive, hfold]

/-! ### The end of a command (R58, R64, R68, R69, R72) -/

@[simp] theorem core_endRigJob (j : RigJob) (reason pos : Nat) (s : State) : core (endRigJob j reason pos s) = core s := by
  simp [endRigJob]

@[simp] theorem core_rigWrite (j : RigJob) (words : List Word) (new : Rig) (wear : List (Nat × Nat)) (s : State) :
    core (rigWrite j words new wear s) = core s := by simp [rigWrite]

@[simp] theorem core_finishRig (j : RigJob) (wear : List (Nat × Nat)) (s : State) : core (finishRig j wear s) = core s := by
  simp [finishRig]

@[simp] theorem core_rigPowerFail (writing : Bool) (s : State) : core (rigPowerFail writing s) = core s := by
  unfold rigPowerFail
  split <;> simp

/-! ### Recording (R888, R893, R894, R899) -/

@[simp] theorem core_recStart (s : State) : core (recStart s) = core s := by simp [recStart]

@[simp] theorem core_recGoOn (s : State) : core (recGoOn s) = core s := by simp [recGoOn]

@[simp] theorem core_recSeed (s : State) : core (recSeed s) = core s := by simp [recSeed]

/-! ### Dumps (R897 to R900) -/

@[simp] theorem core_armArea (n : Nat) (s : State) : core (armArea n s) = core s := by simp [armArea]

@[simp] theorem core_armOther (n : Nat) (s : State) : core (armOther n s) = core s := by simp [armOther]

@[simp] theorem core_dumpOf (s : State) : core (dumpOf s).2 = core s := by simp [dumpOf]

@[simp] theorem core_dumpEnds (ok : Bool) (s : State) : core (dumpEnds ok s) = core s := by
  unfold dumpEnds
  dsimp only
  split <;> simp

@[simp] theorem core_ramReset (s : State) : core (ramReset s) = core s := by simp [ramReset]

@[simp] theorem core_ramErrors (corr : Bool) (uncorr : List Nat) (s : State) :
    core (ramErrors corr uncorr s) = core s := by simp [ramErrors]

@[simp] theorem core_markGaps (bad : List Nat) (s : State) : core (markGaps bad s) = core s := by simp [markGaps]

@[simp] theorem core_recResume (s : State) : core (recResume s) = core s := by simp [recResume]

/-! ### REC_CMD (R895, R899, R908) -/

@[simp] theorem core_recRefused (p : Port) (why : Nat) (s : State) : core (recRefused p why s) = core s := by
  simp [recRefused]

@[simp] theorem core_recArm (s : State) : core (recArm s) = core s := by simp [recArm]

@[simp] theorem core_recFreezeCmd (s : State) : core (recFreezeCmd s) = core s := by simp [recFreezeCmd]

@[simp] theorem core_recStop (s : State) : core (recStop s) = core s := by simp [recStop]

/-! ### Replay (R901 to R908) -/

@[simp] theorem core_newKey (s : State) : core (newKey s) = core s := by simp [newKey]

@[simp] theorem core_enterReplay (sel : Nat) (s : State) : core (enterReplay sel s) = core s := by simp [enterReplay]

/-! ### The output signature (R906 to R908, R914) -/

@[simp] theorem core_sigCrc (a : Option (Nat × Nat)) (s : State) : core (sigCrc a s).2 = core s := by
  unfold sigCrc
  split <;> simp

@[simp] theorem core_divClass (outs : List OutEvent) (s : State) : core (divClass outs s).2 = core s := by
  unfold divClass
  split <;> simp

@[simp] theorem core_diverge (a : Option (Nat × Nat)) (outs : List OutEvent) (s : State) :
    core (diverge a outs s) = core s := by simp [diverge]

@[simp] theorem core_sourceEnds (now rest : List RecEntry) (s : State) : core (sourceEnds now rest s) = core s := by
  simp [sourceEnds]

@[simp] theorem core_replayStep (outs : List OutEvent) (s : State) : core (replayStep outs s) = core s := by
  simp [replayStep]

/-! ### VSL5 (R142) -/

@[simp] theorem core_vslFall (s : State) : core (vslFall s) = core s := by simp [vslFall]

/-! ### Power failure (R150 to R159, R163 to R168) -/

@[simp] theorem core_soilReserve (s : State) : core (soilReserve s) = core s := by simp [soilReserve]

@[simp] theorem core_beginRecord (s : State) : core (beginRecord s) = core s := by simp [beginRecord]

@[simp] theorem core_abortStep (s : State) : core (abortStep s) = core s := by simp [abortStep]

@[simp] theorem core_declarePf (writing : Bool) (s : State) : core (declarePf writing s) = core s := by
  simp [declarePf]

@[simp] theorem core_commitRecord (x : Snapshot) (s : State) : core (commitRecord x s) = core s := by
  simp [commitRecord]

@[simp] theorem core_recordProgram (i retries : Nat) (s : State) : core (recordProgram i retries s).1 = core s := by
  unfold recordProgram
  split <;> simp

@[simp] theorem core_programRecord (first second : Nat) (s : State) : core (programRecord first second s).1 = core s := by
  unfold programRecord
  dsimp only
  split <;> simp

@[simp] theorem core_resumeRising (s : State) : core (resumeRising s) = core s := by simp [resumeRising]

@[simp] theorem core_eraseReserve (s : State) (e : Nat × Nat) : core (eraseReserve s e) = core s := by simp [eraseReserve]

@[simp] theorem core_fillReserve (first second : Nat) (s : State) : core (fillReserve first second s) = core s := by
  simp [fillReserve]

/-! ### RESET exit (R122, R123, R161, R216, R225) -/

@[simp] theorem core_portsAnswer (s : State) : core (portsAnswer s) = core s := by simp [portsAnswer]

@[simp] theorem core_exitWords (s : State) : core (exitWords s) = core s := by simp [exitWords]

@[simp] theorem core_slotsOff (s : State) : core (slotsOff s) = core s := by simp [slotsOff]

@[simp] theorem core_exitToFatal (s : State) : core (exitToFatal s) = core s := by simp [exitToFatal]

@[simp] theorem core_exitToBoot (recov : Bool) (s : State) : core (exitToBoot recov s) = core s := by
  simp [exitToBoot]

/-! ### BOOT (R65, R157, R218, R219, R230, R231, R752, R846, R867) -/

@[simp] theorem core_enterRecovery (req : Bool) (s : State) : core (enterRecovery req s) = core s := by
  simp [enterRecovery]

@[simp] theorem core_bootCountUp (bad : Nat) (s : State) : core (bootCountUp bad s) = core s := by simp [bootCountUp]

@[simp] theorem core_bootChoice (bad : Nat) (s : State) : core (bootChoice bad s) = core s := by
  unfold bootChoice
  split
  · simp
  · split
    · simp
    · have hbank : core (bootBank s).1 = core s := core_bootBank s
      split
      · simp_all
      · rename_i t n trial hb
        have hrig : core (bootRig (runFirmware n trial t)).1 = core s := by simp_all
        split <;> rename_i u ok hr
        split <;> simp_all

/-! ### RIGGING (R61, R67, R119, R182, R215) -/

@[simp] theorem core_loadReactions (s : State) : core (loadReactions s) = core s := by simp [loadReactions]

@[simp] theorem core_rigSlots (s : State) : core (rigSlots s) = core s := by simp [rigSlots]

@[simp] theorem core_rigging (s : State) : core (rigging s) = core s := by simp [rigging]

/-! ### RUN (R220, R221, R230, R320, R820, R848) -/

@[simp] theorem core_enterRun (s : State) : core (enterRun s) = core s := by simp [enterRun]

/-! ### The whole space -/

@[simp] theorem core_outOfRange (s : State) : core (outOfRange s).2 = core s := rfl

@[simp] theorem core_ranged (ok : Bool) (s s' : State) : core (ranged ok s s').2 = if ok then core s' else core s := by
  unfold ranged
  split <;> rfl

@[simp] theorem core_ruled (why : Nat) (s s' : State) : core (ruled why s s').2 = if why = 0 then core s' else core s := by
  unfold ruled
  split <;> rfl

/-! ### Key sequences (R10) -/

@[simp] theorem core_dropKey (p : Port) (a : Nat) (s : State) : core (dropKey p a s) = core s := by simp [dropKey]

/-! ### Groups written through the shadow (R289 to R293) -/

@[simp] theorem core_placeShadow (p : Port) (g a v : Nat) (s : State) : core (placeShadow p g a v s) = core s := by
  simp [placeShadow]

@[simp] theorem core_emptyShadow (p : Port) (g : Nat) (s : State) : core (emptyShadow p g s) = core s := by
  simp [emptyShadow]

@[simp] theorem core_keyWrite (p : Port) (a v k1 k2 : Nat) {fin : State → Wr} (hfin : ∀ s, core (fin s).2 = core s)
    (s : State) : core (keyWrite p a v k1 k2 fin s).2 = core s := by
  unfold keyWrite
  (repeat' split) <;> simp [hfin]

/-! ### SYS, HST, MOR -/

@[simp] theorem core_writeSys (p : Port) (a v : Nat) (s : State) : core (writeSys p a v s).2 = core s := by
  simp [writeSys]

@[simp] theorem core_writeHst (p : Port) (a v : Nat) (s : State) : core (writeHst p a v s).2 = core s := by
  simp [writeHst]

@[simp] theorem core_releaseOne (p : Port) (n : Nat) (s : State) : core (releaseOne p n s).2 = core s := by
  unfold releaseOne
  split <;> simp

@[simp] theorem core_writeMor (p : Port) (a v : Nat) (s : State) : core (writeMor p a v s).2 = core s := by
  simp [writeMor]

/-! ### ORD, PCL -/

@[simp] theorem core_writePush (p : Port) (v : Nat) (ecc : Bool) (bad : BitVec 8) (s : State) :
    core (writePush p v ecc bad s).2 = core s := by simp [writePush]

@[simp] theorem core_writeRtail (p : Port) (v : Nat) (s : State) : core (writeRtail p v s).2 = core s := by
  unfold writeRtail
  split <;> simp

@[simp] theorem core_writeOrd (p : Port) (a v : Nat) (s : State) : core (writeOrd p a v s).2 = core s := by
  simp [writeOrd]

@[simp] theorem core_writeRelease (p : Port) (v : Nat) (s : State) : core (writeRelease p v s).2 = core s := by
  simp [writeRelease]

@[simp] theorem core_writeWindow (p : Port) (a v : Nat) (s : State) : core (writeWindow p a v s).2 = core s := by
  simp [writeWindow]

@[simp] theorem core_writePcl (p : Port) (a v : Nat) (s : State) : core (writePcl p a v s).2 = core s := by
  simp [writePcl]

/-! ### SLT, TTH, SAT -/

@[simp] theorem core_writeSltSel (p : Port) (v : Nat) (s : State) : core (writeSltSel p v s) = core s := by
  simp [writeSltSel]

@[simp] theorem core_commitDiv (p : Port) (v : Nat) (s : State) : core (commitDiv p v s).2 = core s := by
  unfold commitDiv
  dsimp only
  (repeat' split) <;> simp

@[simp] theorem core_writeSlt (p : Port) (a v : Nat) (s : State) : core (writeSlt p a v s).2 = core s := by
  simp [writeSlt]

@[simp] theorem core_writeTthCmd (p : Port) (v : Nat) (s : State) : core (writeTthCmd p v s).2 = core s := by
  simp [writeTthCmd]

@[simp] theorem core_writeTth (p : Port) (a v : Nat) (s : State) : core (writeTth p a v s).2 = core s := by
  simp [writeTth]

@[simp] theorem core_writeSatWindow (p : Port) (a v : Nat) (s : State) : core (writeSatWindow p a v s).2 = core s := by
  unfold writeSatWindow
  split <;> simp

@[simp] theorem core_writeSat (p : Port) (a v : Nat) (s : State) : core (writeSat p a v s).2 = core s := by
  simp [writeSat]

/-! ### LDG, RLS, MEA, LKO -/

@[simp] theorem core_commitBatt (p : Port) (v : Nat) (s : State) : core (commitBatt p v s).2 = core s := by
  unfold commitBatt
  dsimp only
  split <;> simp

@[simp] theorem core_writeLdg (p : Port) (a v : Nat) (s : State) : core (writeLdg p a v s).2 = core s := by
  simp [writeLdg]

@[simp] theorem core_writeRls (p : Port) (a v : Nat) (s : State) : core (writeRls p a v s).2 = core s := by
  simp [writeRls]

@[simp] theorem core_writeMea (p : Port) (a v : Nat) (s : State) : core (writeMea p a v s).2 = core s := by
  simp [writeMea]

@[simp] theorem core_clearHits (k v : Nat) (s : State) : core (clearHits k v s) = core s := by simp [clearHits]

@[simp] theorem core_writeLko (p : Port) (a v : Nat) (s : State) : core (writeLko p a v s).2 = core s := by
  simp [writeLko]

/-! ### LOG, RND -/

@[simp] theorem core_writeLogCmd (p : Port) (v : Nat) (s : State) : core (writeLogCmd p v s).2 = core s := by
  simp [writeLogCmd]

@[simp] theorem core_commitSeq (p : Port) (v : Nat) (s : State) : core (commitSeq p v s) = core s := by simp [commitSeq]

@[simp] theorem core_writeLog (p : Port) (a v : Nat) (s : State) : core (writeLog p a v s).2 = core s := by
  simp [writeLog]

@[simp] theorem core_writeHash (p : Port) (k v : Nat) (s : State) : core (writeHash p k v s).2 = core s := by
  simp [writeHash]

/-! ### UPD, RIG, REC -/

@[simp] theorem core_writeUpdCmd (p : Port) (v : Nat) (s : State) : core (writeUpdCmd p v s).2 = core s := by
  simp [writeUpdCmd]

@[simp] theorem core_writeUpdPush (p : Port) (n : Nat) (s : State) : core (writeUpdPush p n s).2 = core s := by
  simp [writeUpdPush]

@[simp] theorem core_writeRigWin (k v : Nat) (s : State) : core (writeRigWin k v s) = core s := by simp [writeRigWin]

@[simp] theorem core_writeRigBlock (p : Port) (a v : Nat) (s : State) : core (writeRigBlock p a v s).2 = core s := by
  unfold writeRigBlock
  split
  · split
    · have hrig : core (rigCommand p (v % 8) s).2 = core s := core_rigCommand ..
      split <;> simp_all
    · rfl
  · (repeat' split) <;> simp

@[simp] theorem core_writeRecCmd (p : Port) (v : Nat) (s : State) : core (writeRecCmd p v s).2 = core s := by
  simp [writeRecCmd]

@[simp] theorem core_writeRec (p : Port) (a v : Nat) (s : State) : core (writeRec p a v s).2 = core s := by
  simp [writeRec]

/-! ### Responses (R247, R263, R962) -/

@[simp] theorem core_respondAs (p : Port) (signed : Bool) (r : Response) (s : State) :
    core (respondAs p signed r s) = core s := by simp [respondAs]

@[simp] theorem core_respond (p : Port) (r : Response) (s : State) : core (respond p r s) = core s := by
  simp [respond]

@[simp] theorem core_takeSdi (p : Port) (edges : Nat) (bits : List Bool) (s : State) :
    core (takeSdi p edges bits s) = core s := by simp [takeSdi]

@[simp] theorem core_noteRefusal (p : Port) (a reason : Nat) (burst : Bool) (s : State) :
    core (noteRefusal p a reason burst s) = core s := by simp [noteRefusal]

@[simp] theorem core_crcBad (p : Port) (a : Nat) (d : Word) (more : List Nat) (s : State) :
    core (crcBad p a d more s) = core s := by simp [crcBad]

/-! ### Reading (R283 to R288, R904) -/

@[simp] theorem core_clearSlot (id a : Nat) (s : State) : core (clearSlot id a s) = core s := by simp [clearSlot]

@[simp] theorem core_clearTether (a : Nat) (s : State) : core (clearTether a s) = core s := by simp [clearTether]

@[simp] theorem core_clearMor (a : Nat) (s : State) : core (clearMor a s) = core s := by simp [clearMor]

@[simp] theorem core_clearMea (p : Port) (a : Nat) (s : State) : core (clearMea p a s) = core s := by simp [clearMea]

@[simp] theorem core_clearSat (p : Port) (a : Nat) (s : State) : core (clearSat p a s) = core s := by
  unfold clearSat
  split <;> simp

@[simp] theorem core_clearRc (p : Port) (a : Nat) (s : State) : core (clearRc p a s) = core s := by simp [clearRc]

@[simp] theorem core_actingRead (p : Port) (a : Nat) (s : State) : core (actingRead p a s).2 = core s := by
  unfold actingRead
  dsimp only
  (repeat' split) <;> simp

@[simp] theorem core_latchRead (p : Port) (g n : Nat) (s : State) : core (latchRead p g n s).2 = core s := by
  simp [latchRead]

@[simp] theorem core_latchedRead (p : Port) (g a : Nat) (s : State) : core (latchedRead p g a s).2 = core s := by
  unfold latchedRead
  split <;> simp

@[simp] theorem core_singleRead (p : Port) (a : Nat) (s : State) : core (singleRead p a s).2 = core s := by
  unfold singleRead
  (repeat' split) <;> simp

@[simp] theorem core_readFrame (p : Port) (a : Nat) (s : State) : core (readFrame p a s) = core s := by
  unfold readFrame
  dsimp only
  (repeat' split) <;> simp

/-! ### Writing -/

@[simp] theorem core_turnDown (p : Port) (a : Nat) (st : Stat) (reason : Nat) (s : State) :
    core (turnDown p a st reason s) = core s := by simp [turnDown]

/-! ### Bursts (R252 to R260, R282, R293) -/

@[simp] theorem core_burstDown (p : Port) (a n : Nat) (st : Stat) (reason : Nat) (s : State) :
    core (burstDown p a n st reason s) = core s := by simp [burstDown]

@[simp] theorem core_withZeros (p : Port) (n : Nat) (s : State) : core (withZeros p n s) = core s := by simp [withZeros]

@[simp] theorem core_burstEcc (p : Port) (l : List Nat) (s : State) : core (burstEcc p l s) = core s := by
  simp [burstEcc]

@[simp] theorem core_burstReadFrame (p : Port) (a n : Nat) (s : State) : core (burstReadFrame p a n s) = core s := by
  unfold burstReadFrame
  dsimp only
  split <;> simp

@[simp] theorem core_dropKeys (p : Port) (l : List Nat) (s : State) : core (dropKeys p l s) = core s := by
  simp [dropKeys]

/-! ### The rows: frames at any address -/

@[simp] theorem core_malformed (p : Port) (burstWrite : Bool) (edges : Nat) (bits : List Bool) (s : State) :
    core (malformed p burstWrite edges bits s) = core s := by simp [malformed]

/-! ### The rows: frames at one address -/

@[simp] theorem core_markEcc (p : Port) (k err : Nat) (s : State) : core (markEcc p k err s) = core s := by
  simp [markEcc]

/-! ### The recorder's tick (R888 to R893) -/

@[simp] theorem core_recordTick (s : State) : core (recordTick s) = core s := by simp [recordTick]

/-! ### The tick -/

@[simp] theorem core_lateSnapshot (s : State) : core (lateSnapshot s) = core s := by
  unfold lateSnapshot
  split <;> simp

/-! ### Commands that leave the core -/

/-- Where the answer is a next state, its core is the one given. -/
def Leaves (r : Res) (c : Core) : Prop := ∀ t, r = .next t → core t = c

@[simp] theorem leaves_next (t : State) (c : Core) : Leaves (.next t) c ↔ core t = c := by simp [Leaves]

@[simp] theorem leaves_fault (f : Fault) (c : Core) : Leaves (.fault f) c ↔ True := by simp [Leaves]

@[simp] theorem leaves_ite (p : Prop) [Decidable p] (a b : Res) (c : Core) :
    Leaves (if p then a else b) c ↔ if p then Leaves a c else Leaves b c := by
  split <;> rfl

@[simp] theorem core_onSat (sat : Nat) (mine : Bool) (f : RingFrame) (rx : Arrival) {g : State → State}
    (hg : ∀ s, core (g s) = core s) (s : State) : core (onSat sat mine f rx g s) = core s := by
  simp [onSat, hg]

@[simp] theorem core_takeCmd (sat : Nat) (h inLoader : Bool) (code : Nat) (args : List Byte) (rx : Arrival)
    {run : State → Nat × State} (hrun : ∀ s, core (run s).2 = core s) (s : State) :
    core (takeCmd sat h inLoader code args rx run s) = core s := by
  simp [takeCmd, hrun]

@[simp] theorem core_received (t : Nat) (f : RingFrame) (rx : Arrival) {g : State → State}
    (hg : ∀ s, core (g s) = core s) (s : State) : core (received t f rx g s) = core s := by
  simp [received, hg]

@[simp] theorem core_receivedOf (pos : Nat) (seq : Bool) (type : Nat) (payload : List Byte) (rx : Arrival) {g : State → State}
    (hg : ∀ s, core (g s) = core s) (s : State) : core (receivedOf pos seq type payload rx g s) = core s := by
  simp [receivedOf, hg]

@[simp] theorem core_resultTaken (pos : Nat) (t wakes : Bool) {f : State → State}
    (hf : ∀ s, core (f s) = core s) (s : State) : core (resultTaken pos t wakes f s) = core s := by
  simp [resultTaken, hf]

@[simp] theorem core_resultFrame (pos : Nat) (t : Bool) (kind slot : Nat) (payload : List Byte) (rx : Arrival) {f : State → State}
    (hf : ∀ s, core (f s) = core s) (s : State) : core (resultFrame pos t kind slot payload rx f s) = core s := by
  simp [resultFrame, hf]

/-! ### Sweep (R456, Table - Sweep report) -/

@[simp] theorem leaves_onRing {f : State → State} (hf : ∀ s, core (f s) = core s) (s : State) : Leaves (onRing f s) (core s) := by
  simp [onRing, hf]

/-! ### Taking results (R404, R405) -/

@[simp] theorem leaves_takeResult (pos : Nat) (t wakes : Bool) (kind slot : Nat) (payload : List Byte) (rx : Arrival)
    {f : State → State} (hf : ∀ s, core (f s) = core s) (s : State) :
    Leaves (takeResult pos t wakes kind slot payload rx f s) (core s) :=
  leaves_onRing (core_resultFrame pos t kind slot payload rx (core_resultTaken pos t wakes hf)) s

/-! ### Orders that name a satellite (R461, R462, R873) -/

@[simp] theorem leaves_satBegin (id op : Nat) {f : Order → State → State} (hf : ∀ o s, core (f o s) = core s) (s : State) :
    Leaves (satBegin id op f s) (core s) := by
  unfold satBegin
  split <;> simp [hf]

/-! ### The rows of this family -/

theorem leaves_execOrderAdvance (slot : Nat) (upsets : List Upset) (s : State) :
    Leaves (execOrderAdvance slot upsets s) (core s) := by
  unfold execOrderAdvance
  dsimp only
  split <;> simp

theorem leaves_execOrderAdmission (id : Nat) (upsets : List Upset) (s : State) :
    Leaves (execOrderAdmission id upsets s) (core s) := by
  unfold execOrderAdmission
  dsimp only
  split <;> simp

theorem leaves_execOrderQueueTimeout (id : Nat) (s : State) : Leaves (execOrderQueueTimeout id s) (core s) := by
  unfold execOrderQueueTimeout
  split <;> simp

/-! ### Activation -/

theorem leaves_execActivate (slot : Nat) (s : State) : Leaves (execActivate slot s) (core s) := by
  unfold execActivate
  split <;> simp

theorem leaves_execAtrTimeout (slot : Nat) (s : State) : Leaves (execAtrTimeout slot s) (core s) := by
  simp [execAtrTimeout]

theorem leaves_execClassTrialWaitEnd (slot : Nat) (s : State) : Leaves (execClassTrialWaitEnd slot s) (core s) := by
  unfold execClassTrialWaitEnd
  dsimp only
  (repeat' split) <;> simp

theorem leaves_execWarmReset (slot : Nat) (s : State) : Leaves (execWarmReset slot s) (core s) := by
  unfold execWarmReset
  split <;> simp

/-! ### Deactivation -/

theorem leaves_execDeactivate (slot : Nat) (s : State) : Leaves (execDeactivate slot s) (core s) := by
  unfold execDeactivate
  (repeat' split) <;> simp

theorem leaves_execCardInserted (slot : Nat) (s : State) : Leaves (execCardInserted slot s) (core s) := by
  simp [execCardInserted]

theorem leaves_execCardRemoved (slot : Nat) (others : List Nat) (s : State) :
    Leaves (execCardRemoved slot others s) (core s) := by simp [execCardRemoved]

theorem leaves_execWpChange (slot : Nat) (level : Bool) (s : State) : Leaves (execWpChange slot level s) (core s) := by
  simp [execWpChange]

theorem leaves_execCurrentTrip (slot : Nat) (good : Bool) (others : List Nat) (s : State) :
    Leaves (execCurrentTrip slot good others s) (core s) := by simp [execCurrentTrip]

theorem leaves_execUndervoltageTrip (slot : Nat) (good : Bool) (others : List Nat) (s : State) :
    Leaves (execUndervoltageTrip slot good others s) (core s) := by simp [execUndervoltageTrip]

theorem leaves_execVccWinExpiry (slot : Nat) (others : List Nat) (s : State) :
    Leaves (execVccWinExpiry slot others s) (core s) := by simp [execVccWinExpiry]

theorem leaves_execVccDischarged (slot : Nat) (s : State) : Leaves (execVccDischarged slot s) (core s) := by
  unfold execVccDischarged
  dsimp only
  (repeat' split) <;> simp

theorem leaves_execDischargeSlow (slot : Nat) (s : State) : Leaves (execDischargeSlow slot s) (core s) := by
  simp [execDischargeSlow]

/-! ### PPS (R543 to R547) -/

theorem leaves_execPps (slot : Nat) (s : State) : Leaves (execPps slot s) (core s) := by
  unfold execPps
  split <;> simp

theorem leaves_execPpsCharacterTimeout (slot : Nat) (s : State) : Leaves (execPpsCharacterTimeout slot s) (core s) := by
  simp [execPpsCharacterTimeout]

theorem leaves_execAtrCharacterTimeout (slot : Nat) (s : State) : Leaves (execAtrCharacterTimeout slot s) (core s) := by
  simp [execAtrCharacterTimeout]

/-! ### Clock stop (R551 to R553, R560) -/

theorem leaves_execClockStop (slot : Nat) (s : State) : Leaves (execClockStop slot s) (core s) := by
  unfold execClockStop
  split <;> simp

theorem leaves_execClockStopIdleReached (slot : Nat) (s : State) : Leaves (execClockStopIdleReached slot s) (core s) := by
  unfold execClockStopIdleReached
  dsimp only
  split <;> simp

theorem leaves_execClockResume (slot : Nat) (s : State) : Leaves (execClockResume slot s) (core s) := by
  unfold execClockResume
  split <;> simp

theorem leaves_execClockResumeSettled (slot : Nat) (s : State) : Leaves (execClockResumeSettled slot s) (core s) := by
  unfold execClockResumeSettled
  dsimp only
  split <;> simp

/-! ### T=1 blocks (R570 to R573, R961) -/

theorem leaves_execExchange (slot : Nat) (upsets : List Upset) (s : State) :
    Leaves (execExchange slot upsets s) (core s) := by
  unfold execExchange
  split <;> simp

theorem leaves_execRawBlock (slot : Nat) (s : State) : Leaves (execRawBlock slot s) (core s) := by
  unfold execRawBlock
  split <;> simp

/-! ### Judging a block (R571, Table - PCB encodings) -/

theorem leaves_execBlockReceived (slot : Nat) (s : State) : Leaves (execBlockReceived slot s) (core s) := by
  simp [execBlockReceived]

theorem leaves_execCwtExpiry (slot : Nat) (s : State) : Leaves (execCwtExpiry slot s) (core s) := by
  simp [execCwtExpiry]

theorem leaves_execBwtExpiry (slot : Nat) (s : State) : Leaves (execBwtExpiry slot s) (core s) := by
  simp [execBwtExpiry]

theorem leaves_execWtExpiry (slot : Nat) (s : State) : Leaves (execWtExpiry slot s) (core s) := by simp [execWtExpiry]

theorem leaves_execIoLowWaitExpiry (slot : Nat) (s : State) : Leaves (execIoLowWaitExpiry slot s) (core s) := by
  simp [execIoLowWaitExpiry]

theorem leaves_execCardTimeLimit (slot : Nat) (s : State) : Leaves (execCardTimeLimit slot s) (core s) := by
  unfold execCardTimeLimit
  dsimp only
  split <;> simp

/-! ### Characters on the line (R520 to R535) -/

theorem leaves_execCharacterSend (slot : Nat) (ioHigh errorSignal : Bool) (s : State) :
    Leaves (execCharacterSend slot ioHigh errorSignal s) (core s) := by
  unfold execCharacterSend
  dsimp only
  split <;> simp

theorem leaves_execCharacterReceived (slot : Nat) (glitch early : Bool) (value : BitVec 9) (framingLow : Bool)
    (s : State) : Leaves (execCharacterReceived slot glitch early value framingLow s) (core s) := by
  simp [execCharacterReceived]

/-! ### Scan, records, fetches -/

theorem leaves_execLogRecordWrite (retries : Nat) (s : State) : Leaves (execLogRecordWrite retries s) (core s) := by
  unfold execLogRecordWrite
  split <;> simp

theorem leaves_execLogSectorErase (retries : Nat) (s : State) : Leaves (execLogSectorErase retries s) (core s) := by
  unfold execLogSectorErase
  split <;> simp

theorem leaves_execWearTableWrite (retries : Nat) (s : State) : Leaves (execWearTableWrite retries s) (core s) := by
  simp [execWearTableWrite]

theorem leaves_execLogFetchDone (p : Port) (s : State) : Leaves (execLogFetchDone p s) (core s) := by
  simp [execLogFetchDone]

/-! ### Initialisation (R491, R605 to R607) -/

theorem leaves_execSdInit (slot : Nat) (cmd0 : List (List Byte)) (cmd8 : List Byte) (s : State) :
    Leaves (execSdInit slot cmd0 cmd8 s) (core s) := by
  unfold execSdInit
  split <;> simp

theorem leaves_execSdAcmd41Poll (slot : Nat) (cmd55 cmd41 cmd58 cmd9 again cmd16 : List Byte) (s : State) :
    Leaves (execSdAcmd41Poll slot cmd55 cmd41 cmd58 cmd9 again cmd16 s) (core s) := by simp [execSdAcmd41Poll]

/-! ### Runs (R610 to R614) -/

theorem leaves_execSdRead (slot : Nat) (rx again : List Byte) (s : State) :
    Leaves (execSdRead slot rx again s) (core s) := by
  unfold execSdRead
  split <;> simp

theorem leaves_execSdTokenTimeout (slot : Nat) (s : State) : Leaves (execSdTokenTimeout slot s) (core s) := by
  simp [execSdTokenTimeout]

theorem leaves_execSdWrite (slot : Nat) (rx : List Byte) (response : Byte) (s : State) :
    Leaves (execSdWrite slot rx response s) (core s) := by
  unfold execSdWrite
  split <;> simp

theorem leaves_execSdBusyRelease (slot ms : Nat) (rx : List Byte) (s : State) :
    Leaves (execSdBusyRelease slot ms rx s) (core s) := by
  unfold execSdBusyRelease
  dsimp only
  (repeat' split) <;> simp

theorem leaves_execSdBusyTimeout (slot : Nat) (s : State) : Leaves (execSdBusyTimeout slot s) (core s) := by
  simp [execSdBusyTimeout]

theorem leaves_execSdRunIdleClose (slot : Nat) (rx : List Byte) (s : State) :
    Leaves (execSdRunIdleClose slot rx s) (core s) := by simp [execSdRunIdleClose]

/-! ### Status registers -/

theorem leaves_execSdStatus (slot : Nat) (rx again : List Byte) (s : State) :
    Leaves (execSdStatus slot rx again s) (core s) := by
  unfold execSdStatus
  split <;> simp

/-! ### Power, lock, silence -/

theorem leaves_execSatPowerOn (sat uid hwver ringver fw : Nat) (rcv : Bool) (s : State) :
    Leaves (execSatPowerOn sat uid hwver ringver fw rcv s) (core s) := by simp [execSatPowerOn]

theorem leaves_execSatPllLock (sat : Nat) (pairK : Bool) (s : State) : Leaves (execSatPllLock sat pairK s) (core s) := by
  simp [execSatPllLock]

theorem leaves_execRipcordSymbol (sat : Nat) (pairK : Bool) (s : State) :
    Leaves (execRipcordSymbol sat pairK s) (core s) := by simp [execRipcordSymbol]

theorem leaves_execSatRipcordIsolate (sat : Nat) (s : State) : Leaves (execSatRipcordIsolate sat s) (core s) := by
  simp [execSatRipcordIsolate]

theorem leaves_execSilenceTimeout (sat : Nat) (s : State) : Leaves (execSilenceTimeout sat s) (core s) := by
  simp [execSilenceTimeout]

theorem leaves_execWakeSymbol (sat : Nat) (all : Bool) (position : Nat) (s : State) :
    Leaves (execWakeSymbol sat all position s) (core s) := by simp [execWakeSymbol]

/-! ### Folding and healing (R416, R422 to R428) -/

theorem leaves_execRingInputLost (sat : Nat) (pairK : Bool) (s : State) :
    Leaves (execRingInputLost sat pairK s) (core s) := by simp [execRingInputLost]

theorem leaves_execSatRelock (sat : Nat) (s : State) : Leaves (execSatRelock sat s) (core s) := by simp [execSatRelock]

theorem leaves_execLinkSend (sat : Nat) (s : State) : Leaves (execLinkSend sat s) (core s) := by simp [execLinkSend]

theorem leaves_execHealFrame (sat unwrap : Nat) (rx : Arrival) (s : State) :
    Leaves (execHealFrame sat unwrap rx s) (core s) := by simp [execHealFrame]

/-! ### Enumeration and time (R407 to R411, R429 to R432, R447) -/

theorem leaves_execEnumQuery (sat hop : Nat) (rx : Arrival) (s : State) :
    Leaves (execEnumQuery sat hop rx s) (core s) := by simp [execEnumQuery]

theorem leaves_execAssign (sat uid position : Nat) (prov : Bool) (rx : Arrival) (s : State) :
    Leaves (execAssign sat uid position prov rx s) (core s) := by simp [execAssign]

theorem leaves_execDelayFrame (sat : Nat) (rx : Arrival) (s : State) : Leaves (execDelayFrame sat rx s) (core s) := by
  simp [execDelayFrame]

theorem leaves_execDelayMarkerEcho (sat : Nat) (s : State) : Leaves (execDelayMarkerEcho sat s) (core s) := by
  unfold execDelayMarkerEcho
  dsimp only
  split <;> simp

theorem leaves_execTsync (sat t5 d : Nat) (rx : Arrival) (s : State) : Leaves (execTsync sat t5 d rx s) (core s) := by
  simp [execTsync]

theorem leaves_execRack (sat : Nat) (t : Bool) (rx : Arrival) (s : State) : Leaves (execRack sat t rx s) (core s) := by
  simp [execRack]

theorem leaves_execResultResend (sat : Nat) (s : State) : Leaves (execResultResend sat s) (core s) := by
  simp [execResultResend]

/-! ### Commands (R402, R455, R458, Table - CMD codes, Table - CACK codes) -/

theorem leaves_execSetSat (sat : Nat) (h : Bool) (args : List Byte) (rx : Arrival) (s : State) :
    Leaves (execSetSat sat h args rx s) (core s) := by simp [execSetSat]

theorem leaves_execSetSlot (sat : Nat) (h : Bool) (args : List Byte) (rx : Arrival) (s : State) :
    Leaves (execSetSlot sat h args rx s) (core s) := by simp [execSetSlot]

theorem leaves_execPut (sat : Nat) (h : Bool) (slot offset : Nat) (data : List Byte) (rx : Arrival) (s : State) :
    Leaves (execPut sat h slot offset data rx s) (core s) := by simp [execPut]

theorem leaves_execOrderCommand (sat : Nat) (h : Bool) (slot opcode length param oid : Nat) (rx : Arrival) (s : State) :
    Leaves (execOrderCommand sat h slot opcode length param oid rx s) (core s) := by simp [execOrderCommand]

theorem leaves_execSleepCommand (sat : Nat) (h : Bool) (rx : Arrival) (s : State) :
    Leaves (execSleepCommand sat h rx s) (core s) := by simp [execSleepCommand]

/-! ### Module rails (R203 to R206) -/

theorem leaves_execRailCommand (sat : Nat) (h : Bool) (action : Nat) (rx : Arrival) (s : State) :
    Leaves (execRailCommand sat h action rx s) (core s) := by simp [execRailCommand]

theorem leaves_execGrailGapElapsed (sat : Nat) (s : State) : Leaves (execGrailGapElapsed sat s) (core s) := by
  simp [execGrailGapElapsed]

theorem leaves_execSatGrailFail (sat rail : Nat) (s : State) : Leaves (execSatGrailFail sat rail s) (core s) := by
  simp [execSatGrailFail]

theorem leaves_execGrailLowerWindowEnd (sat : Nat) (s : State) : Leaves (execGrailLowerWindowEnd sat s) (core s) := by
  simp [execGrailLowerWindowEnd]

theorem leaves_execSatConversion (sat : Nat) (codes : List Nat) (s : State) :
    Leaves (execSatConversion sat codes s) (core s) := by simp [execSatConversion]

theorem leaves_execSatHoldLow (sat : Nat) (s : State) : Leaves (execSatHoldLow sat s) (core s) := by
  simp [execSatHoldLow]

/-! ### Supplies (R452 to R454) -/

theorem leaves_execSatVinLost (sat : Nat) (s : State) : Leaves (execSatVinLost sat s) (core s) := by
  simp [execSatVinLost]

theorem leaves_execSatVinBack (sat : Nat) (s : State) : Leaves (execSatVinBack sat s) (core s) := by
  simp [execSatVinBack]

theorem leaves_execSatVpsLow (sat : Nat) (s : State) : Leaves (execSatVpsLow sat s) (core s) := by simp [execSatVpsLow]

theorem leaves_execSatTotalOvercurrent (sat slot : Nat) (s : State) :
    Leaves (execSatTotalOvercurrent sat slot s) (core s) := by simp [execSatTotalOvercurrent]

theorem leaves_execSatFatalFault (sat bit : Nat) (s : State) : Leaves (execSatFatalFault sat bit s) (core s) := by
  simp [execSatFatalFault]

theorem leaves_execSatRstN (sat : Nat) (s : State) : Leaves (execSatRstN sat s) (core s) := by simp [execSatRstN]

/-! ### Traces, release, faults, restart, identity -/

theorem leaves_execTraceFetch (sat : Nat) (h : Bool) (slot : Nat) (rx : Arrival) (s : State) :
    Leaves (execTraceFetch sat h slot rx s) (core s) := by simp [execTraceFetch]

theorem leaves_execTraceRearm (sat : Nat) (h : Bool) (slot : Nat) (rx : Arrival) (s : State) :
    Leaves (execTraceRearm sat h slot rx s) (core s) := by simp [execTraceRearm]

theorem leaves_execTraceFreeze (sat : Nat) (h : Bool) (slot : Nat) (rx : Arrival) (s : State) :
    Leaves (execTraceFreeze sat h slot rx s) (core s) := by simp [execTraceFreeze]

theorem leaves_execTraceFreezeCount (slot : Nat) (s : State) : Leaves (execTraceFreezeCount slot s) (core s) := by
  simp [execTraceFreezeCount]

theorem leaves_execSlotRelease (sat : Nat) (h : Bool) (slot : Nat) (rx : Arrival) (s : State) :
    Leaves (execSlotRelease sat h slot rx s) (core s) := by simp [execSlotRelease]

theorem leaves_execFaultAckCommand (sat : Nat) (h : Bool) (bits : BitVec 9) (rx : Arrival) (s : State) :
    Leaves (execFaultAckCommand sat h bits rx s) (core s) := by simp [execFaultAckCommand]

theorem leaves_execRipcordCommand (sat : Nat) (h : Bool) (mask : BitVec 4) (rx : Arrival) (s : State) :
    Leaves (execRipcordCommand sat h mask rx s) (core s) := by simp [execRipcordCommand]

theorem leaves_execRestartCommand (sat : Nat) (h : Bool) (rx : Arrival) (s : State) :
    Leaves (execRestartCommand sat h rx s) (core s) := by simp [execRestartCommand]

theorem leaves_execIdentCommand (sat : Nat) (h : Bool) (rx : Arrival) (s : State) :
    Leaves (execIdentCommand sat h rx s) (core s) := by simp [execIdentCommand]

theorem leaves_execTraceReplayCommand (sat : Nat) (h : Bool) (slot chunk : Nat) (bytes : List Byte) (rx : Arrival)
    (s : State) : Leaves (execTraceReplayCommand sat h slot chunk bytes rx s) (core s) := by
  simp [execTraceReplayCommand]

/-! ### The loaders (R869 to R872) -/

theorem leaves_execUpdBegin (sat : Nat) (h : Bool) (args : List Byte) (rx : Arrival) (s : State) :
    Leaves (execUpdBegin sat h args rx s) (core s) := by simp [execUpdBegin]

theorem leaves_execSatLoaderEraseDone (sat : Nat) (s : State) : Leaves (execSatLoaderEraseDone sat s) (core s) := by
  simp [execSatLoaderEraseDone]

theorem leaves_execUpdData (sat : Nat) (h : Bool) (offset : Nat) (data : List Byte) (rx : Arrival) (s : State) :
    Leaves (execUpdData sat h offset data rx s) (core s) := by simp [execUpdData]

theorem leaves_execUpdEnd (sat : Nat) (h : Bool) (rx : Arrival) (s : State) : Leaves (execUpdEnd sat h rx s) (core s) := by
  simp [execUpdEnd]

theorem leaves_execUpdAbort (sat : Nat) (h : Bool) (rx : Arrival) (s : State) :
    Leaves (execUpdAbort sat h rx s) (core s) := by simp [execUpdAbort]

/-! ### Sweep (R456, Table - Sweep report) -/

theorem leaves_execSweepQuery (sat num : Nat) (vpsGood : Bool) (rx : Arrival) (s : State) :
    Leaves (execSweepQuery sat num vpsGood rx s) (core s) := by simp [execSweepQuery]

/-! ### Walks (R407 to R410, R414, R436, R437) -/

theorem leaves_execEnumAnswer (tether uid hwver ringver hop : Nat) (rx : Arrival) (s : State) :
    Leaves (execEnumAnswer tether uid hwver ringver hop rx s) (core s) := by simp [execEnumAnswer]

theorem leaves_execEnumWalkTimeout (tether : Nat) (s : State) : Leaves (execEnumWalkTimeout tether s) (core s) := by
  simp [execEnumWalkTimeout]

theorem leaves_execDir0FrameReturned (tether : Nat) (enumQuery farEnd : Bool) (s : State) :
    Leaves (execDir0FrameReturned tether enumQuery farEnd s) (core s) := by
  refine leaves_onRing (fun s => ?_) s
  dsimp only
  (repeat' split) <;> simp

theorem leaves_execTetherRewalk (tether : Nat) (s : State) : Leaves (execTetherRewalk tether s) (core s) := by
  simp [execTetherRewalk]

/-! ### One satellite (R401, R413, R429 to R432, R455) -/

theorem leaves_execAssignAck (pos : Nat) (rx : Arrival) (s : State) : Leaves (execAssignAck pos rx s) (core s) := by
  simp [execAssignAck]

theorem leaves_execDelayEchoArrival (pos t4 : Nat) (s : State) : Leaves (execDelayEchoArrival pos t4 s) (core s) := by
  simp [execDelayEchoArrival]

theorem leaves_execDelayAnswer (pos c : Nat) (rx : Arrival) (s : State) :
    Leaves (execDelayAnswer pos c rx s) (core s) := by simp [execDelayAnswer]

theorem leaves_execTsyncAnswer (pos : Nat) (rx : Arrival) (s : State) : Leaves (execTsyncAnswer pos rx s) (core s) := by
  simp [execTsyncAnswer]

theorem leaves_execLostSilenceRelease (pos : Nat) (s : State) : Leaves (execLostSilenceRelease pos s) (core s) := by
  simp [execLostSilenceRelease]

theorem leaves_execBeaconSend (tether : Nat) (pairK : Bool) (s : State) :
    Leaves (execBeaconSend tether pairK s) (core s) := by simp [execBeaconSend]

/-! ### Acknowledgments (R402, R403, R405) -/

theorem leaves_execCack (pos : Nat) (h : Bool) (code : Nat) (rx : Arrival) (s : State) :
    Leaves (execCack pos h code rx s) (core s) := by simp [execCack]

theorem leaves_execCmdResend (pos : Nat) (s : State) : Leaves (execCmdResend pos s) (core s) := by simp [execCmdResend]

theorem leaves_execWakeResend (pos : Nat) (s : State) : Leaves (execWakeResend pos s) (core s) := by
  simp [execWakeResend]

/-! ### Taking results (R404, R405) -/

theorem leaves_execDoneResult (pos : Nat) (t : Bool) (slot oid status full : Nat) (first : List Byte) (rx : Arrival)
    (s : State) : Leaves (execDoneResult pos t slot oid status full first rx s) (core s) := by simp [execDoneResult]

theorem leaves_execDataResult (pos : Nat) (t : Bool) (slot oid offset : Nat) (data : List Byte) (rx : Arrival)
    (s : State) : Leaves (execDataResult pos t slot oid offset data rx s) (core s) := by simp [execDataResult]

theorem leaves_execSlotResult (pos : Nat) (t : Bool) (slot event state : Nat) (rx : Arrival) (s : State) :
    Leaves (execSlotResult pos t slot event state rx s) (core s) := by simp [execSlotResult]

theorem leaves_execRestartedResult (pos : Nat) (t : Bool) (cause : Nat) (rx : Arrival) (s : State) :
    Leaves (execRestartedResult pos t cause rx s) (core s) := by simp [execRestartedResult]

theorem leaves_execWokenResult (pos : Nat) (t : Bool) (rx : Arrival) (s : State) :
    Leaves (execWokenResult pos t rx s) (core s) := by simp [execWokenResult]

theorem leaves_execRailResult (pos : Nat) (t : Bool) (g0 g1 : Nat) (rx : Arrival) (s : State) :
    Leaves (execRailResult pos t g0 g1 rx s) (core s) := by simp [execRailResult]

theorem leaves_execModuleRailRaise (tether : Nat) (s : State) : Leaves (execModuleRailRaise tether s) (core s) := by
  simp [execModuleRailRaise]

theorem leaves_execIdentResult (pos : Nat) (t : Bool) (part build minor major image : Nat) (rx : Arrival) (s : State) :
    Leaves (execIdentResult pos t part build minor major image rx s) (core s) := by simp [execIdentResult]

theorem leaves_execLocksrcResult (pos : Nat) (t srcK : Bool) (rx : Arrival) (s : State) :
    Leaves (execLocksrcResult pos t srcK rx s) (core s) := by simp [execLocksrcResult]

theorem leaves_execFaultResult (pos : Nat) (t : Bool) (word : Word) (rx : Arrival) (s : State) :
    Leaves (execFaultResult pos t word rx s) (core s) := by simp [execFaultResult]

theorem leaves_execTraceResult (pos : Nat) (t : Bool) (slot chunk : Nat) (bytes : List Byte) (rx : Arrival) (s : State) :
    Leaves (execTraceResult pos t slot chunk bytes rx s) (core s) := by simp [execTraceResult]

theorem leaves_execPowerResult (pos : Nat) (t back : Bool) (rx : Arrival) (s : State) :
    Leaves (execPowerResult pos t back rx s) (core s) := by simp [execPowerResult]

theorem leaves_execReplayResult (pos : Nat) (t : Bool) (slot entry status : Nat) (rx : Arrival) (s : State) :
    Leaves (execReplayResult pos t slot entry status rx s) (core s) := by simp [execReplayResult]

/-! ### Orders that name a satellite (R461, R462, R873) -/

theorem leaves_execSatSleep (id : Nat) (s : State) : Leaves (execSatSleep id s) (core s) := by simp [execSatSleep]

theorem leaves_execSatWake (id : Nat) (s : State) : Leaves (execSatWake id s) (core s) := by simp [execSatWake]

theorem leaves_execSatRail (id : Nat) (s : State) : Leaves (execSatRail id s) (core s) := by simp [execSatRail]

theorem leaves_execSatUpdate (id : Nat) (s : State) : Leaves (execSatUpdate id s) (core s) := by
  unfold execSatUpdate
  split <;> simp

theorem leaves_execUpdIdentPoll (pos : Nat) (s : State) : Leaves (execUpdIdentPoll pos s) (core s) := by
  simp [execUpdIdentPoll]

theorem leaves_execSatUpdateTimeout (pos : Nat) (s : State) : Leaves (execSatUpdateTimeout pos s) (core s) := by
  simp [execSatUpdateTimeout]

/-! ### Host commands to a satellite (R469, R755, R909) -/

theorem leaves_execWrapResult (pos : Nat) (t lostF lostK portB : Bool) (rx : Arrival) (s : State) :
    Leaves (execWrapResult pos t lostF lostK portB rx s) (core s) := by simp [execWrapResult]

theorem leaves_execHubRingInputLost (tether : Nat) (retSide : Bool) (s : State) :
    Leaves (execHubRingInputLost tether retSide s) (core s) := by
  unfold execHubRingInputLost
  rw [← core_endLine tether retSide 0 s]
  exact leaves_onRing (core_endLost tether retSide) _

theorem leaves_execRingInputRegained (place : Nat) (pairK : Bool) (s : State) :
    Leaves (execRingInputRegained place pairK s) (core s) := by simp [execRingInputRegained]

/-! ### Healing (R423 to R428) -/

theorem leaves_execHealReadyResult (pos : Nat) (t : Bool) (rx : Arrival) (s : State) :
    Leaves (execHealReadyResult pos t rx s) (core s) := by simp [execHealReadyResult]

theorem leaves_execHealReadyTimer (sat : Nat) (s : State) : Leaves (execHealReadyTimer sat s) (core s) := by
  simp [execHealReadyTimer]

theorem leaves_execLinkFrame (sat : Nat) (receiving wrapped : Bool) (rx : Arrival) (s : State) :
    Leaves (execLinkFrame sat receiving wrapped rx s) (core s) := by simp [execLinkFrame]

theorem leaves_execHealAnswer (tether : Nat) (fromB : Bool) (unwrap : Nat) (rx : Arrival) (s : State) :
    Leaves (execHealAnswer tether fromB unwrap rx s) (core s) := by simp [execHealAnswer]

theorem leaves_execHealResend (tether : Nat) (s : State) : Leaves (execHealResend tether s) (core s) := by
  refine leaves_onRing (fun s => ?_) s
  (repeat' split) <;> simp

theorem leaves_execHealCancel (tether : Nat) (s : State) : Leaves (execHealCancel tether s) (core s) := by
  simp [execHealCancel]

theorem leaves_execUnwrap (tether : Nat) (s : State) : Leaves (execUnwrap tether s) (core s) := by
  unfold execUnwrap
  rw [← core_unfoldSats tether s]
  exact leaves_onRing (core_unwrap tether) _

/-! ### The alarm state (R298, R331, R332) -/

theorem leaves_execAlmFilterChange (level : Bool) (s : State) : Leaves (execAlmFilterChange level s) (core s) := by
  simp [execAlmFilterChange]

/-! ### Absence and port reset (R268, R320 to R330, R333, R334) -/

theorem leaves_execHeartbeatLapse (p : Port) (tie : Bool) (s : State) :
    Leaves (execHeartbeatLapse p tie s) (core s) := by simp [execHeartbeatLapse]

/-! ### The SAFE reaction (R750, R751) -/

theorem leaves_execSafeRewalk (s : State) : Leaves (execSafeRewalk s) (core s) := by simp [execSafeRewalk]

/-! ### Fatal detections (R736, R740, R752) -/

theorem leaves_execWordParityFail (blk kind : Nat) (word : Word) (s : State) :
    Leaves (execWordParityFail blk kind word s) (core s) := by
  unfold execWordParityFail
  split <;> simp

theorem leaves_execLockstepMismatch (s : State) : Leaves (execLockstepMismatch s) (core s) := by
  simp [execLockstepMismatch]

theorem leaves_execCodeEccError (s : State) : Leaves (execCodeEccError s) (core s) := by simp [execCodeEccError]

theorem leaves_execRipcordContinuityCheck (ok : Bool) (s : State) :
    Leaves (execRipcordContinuityCheck ok s) (core s) := by simp [execRipcordContinuityCheck]

/-! ### Block reset (R757) -/

theorem leaves_execBlockResetDone (blk : Nat) (s : State) : Leaves (execBlockResetDone blk s) (core s) := by
  simp [execBlockResetDone]

/-! ### Nonces (R818 to R824, R350) -/

theorem leaves_execNonceFill (id : Nat) (s : State) : Leaves (execNonceFill id s) (core s) := by simp [execNonceFill]

theorem leaves_execBootCountRoll (bad : Nat) (s : State) : Leaves (execBootCountRoll bad s) (core s) := by
  simp [execBootCountRoll]

/-! ### The source (R813 to R817) -/

theorem leaves_execRndStartupPass (raw : List Byte) (s : State) : Leaves (execRndStartupPass raw s) (core s) := by
  simp [execRndStartupPass]

theorem leaves_execRndStartupRetry (s : State) : Leaves (execRndStartupRetry s) (core s) := by
  simp [execRndStartupRetry]

theorem leaves_execRndContinuousFail (raw : List Byte) (s : State) : Leaves (execRndContinuousFail raw s) (core s) := by
  simp [execRndContinuousFail]

theorem leaves_execNonce (id : Nat) (raw : List Byte) (s : State) : Leaves (execNonce id raw s) (core s) := by
  simp [execNonce]

theorem leaves_execRndBlockFormed (raw : List Byte) (s : State) : Leaves (execRndBlockFormed raw s) (core s) := by
  simp [execRndBlockFormed]

/-! ### The key store (R825 to R828, R836) -/

theorem leaves_execOtpArmExpiry (s : State) : Leaves (execOtpArmExpiry s) (core s) := by simp [execOtpArmExpiry]

/-! ### The debug port (R831, R832) -/

theorem leaves_execTapInstruction (code : Nat) (s : State) : Leaves (execTapInstruction code s) (core s) := by
  simp [execTapInstruction]

/-! ### Lowering (R177 to R181) -/

theorem leaves_execShutdownStepAdvance (byWindow : Bool) (s : State) :
    Leaves (execShutdownStepAdvance byWindow s) (core s) := by simp [execShutdownStepAdvance]

theorem leaves_execWarnShutdownStart (s : State) : Leaves (execWarnShutdownStart s) (core s) := by
  simp [execWarnShutdownStart]

/-! ### Raising (R171 to R175, R180) -/

theorem leaves_execRailEnable (rail : Nat) (s : State) : Leaves (execRailEnable rail s) (core s) := by
  simp [execRailEnable]

theorem leaves_execRailRiseWindowEnd (rail : Nat) (s : State) : Leaves (execRailRiseWindowEnd rail s) (core s) := by
  simp [execRailRiseWindowEnd]

/-! ### Margining (R196 to R200) -/

theorem leaves_execTrimStep (s : State) : Leaves (execTrimStep s) (core s) := by simp [execTrimStep]

theorem leaves_execTrimFault (rail : Nat) (s : State) : Leaves (execTrimFault rail s) (core s) := by
  simp [execTrimFault]

/-! ### Samples (R675, R678, R685, R686) -/

theorem leaves_execScanSample (code : Nat) (done : Bool) (ruleEcc : Option Nat) (s : State) :
    Leaves (execScanSample code done ruleEcc s) (core s) := by simp [execScanSample]

/-! ### Sweeps (R433, R434, R687 to R693) -/

theorem leaves_execSweepStart (s : State) : Leaves (execSweepStart s) (core s) := by simp [execSweepStart]

theorem leaves_execSweepReport (pos num : Nat) (words : List Word) (rx : Arrival) (s : State) :
    Leaves (execSweepReport pos num words rx s) (core s) := by simp [execSweepReport]

theorem leaves_execSweepResend (pos : Nat) (s : State) : Leaves (execSweepResend pos s) (core s) := by
  simp [execSweepResend]

theorem leaves_execSweepClose (s : State) : Leaves (execSweepClose s) (core s) := by simp [execSweepClose]

/-! ### The service card (R623 to R627, R860 to R863, R867) -/

theorem leaves_execUpdFetch (id cap fault : Nat) (media : List (Nat × List Byte)) (s : State) :
    Leaves (execUpdFetch id cap fault media s) (core s) := by
  unfold execUpdFetch
  split <;> simp

theorem leaves_execRecoveryCardFlow (cap fault : Nat) (media : List (Nat × List Byte)) (s : State) :
    Leaves (execRecoveryCardFlow cap fault media s) (core s) := by simp [execRecoveryCardFlow]

/-! ### The write ends (R858, R859, R844, R866) -/

theorem leaves_execImageWriteDone (wear : List (Nat × Nat)) (s : State) : Leaves (execImageWriteDone wear s) (core s) := by
  simp [execImageWriteDone]

/-! ### The trial (R848 to R853, R880) -/

theorem leaves_execTrialExpiry (confirmed : Bool) (s : State) : Leaves (execTrialExpiry confirmed s) (core s) := by
  simp [execTrialExpiry]

theorem leaves_execDeferredTrialRestart (s : State) : Leaves (execDeferredTrialRestart s) (core s) := by
  simp [execDeferredTrialRestart]

/-! ### The end of a command (R58, R64, R68, R69, R72) -/

theorem leaves_execRigCommandDone (wear : List (Nat × Nat)) (s : State) : Leaves (execRigCommandDone wear s) (core s) := by
  unfold execRigCommandDone
  split <;> simp

/-! ### Recording (R888, R893, R894, R899) -/

theorem leaves_execRecorderSeed (s : State) : Leaves (execRecorderSeed s) (core s) := by simp [execRecorderSeed]

theorem leaves_execRecorderFreezeDelayEnd (s : State) : Leaves (execRecorderFreezeDelayEnd s) (core s) := by
  simp [execRecorderFreezeDelayEnd]

/-! ### Dumps (R897 to R900) -/

theorem leaves_execRecorderDumpDone (ok ramCorr : Bool) (ramUncorr : List Nat) (wear : List (Nat × Nat)) (s : State) :
    Leaves (execRecorderDumpDone ok ramCorr ramUncorr wear s) (core s) := by simp [execRecorderDumpDone]

/-! ### The output signature (R906 to R908, R914) -/

theorem leaves_execReplayTick (outs : List OutEvent) (s : State) : Leaves (execReplayTick outs s) (core s) := by
  simp [execReplayTick]

/-! ### VSL5 (R142) -/

theorem leaves_execVsl5Fall (s : State) : Leaves (execVsl5Fall s) (core s) := by simp [execVsl5Fall]

theorem leaves_execVsl5Rise (s : State) : Leaves (execVsl5Rise s) (core s) := by simp [execVsl5Rise]

/-! ### Power failure (R150 to R159, R163 to R168) -/

theorem leaves_execPowerFailDeclare (writing : Bool) (s : State) : Leaves (execPowerFailDeclare writing s) (core s) := by
  simp [execPowerFailDeclare]

theorem leaves_execPowerFailRecordCommit (first second : Nat) (s : State) :
    Leaves (execPowerFailRecordCommit first second s) (core s) := by
  unfold execPowerFailRecordCommit
  split <;> simp

theorem leaves_execPfrReserveComplete (first second : Nat) (s : State) :
    Leaves (execPfrReserveComplete first second s) (core s) := by simp [execPfrReserveComplete]

/-! ### The hold-up self-check (R146 to R149) -/

theorem leaves_execHoldSelfCheckStart (s : State) : Leaves (execHoldSelfCheckStart s) (core s) := by
  simp [execHoldSelfCheckStart]

theorem leaves_execHoldSelfCheckDone (ticks : Nat) (s : State) : Leaves (execHoldSelfCheckDone ticks s) (core s) := by
  simp [execHoldSelfCheckDone]

theorem leaves_execHoldLow (s : State) : Leaves (execHoldLow s) (core s) := by simp [execHoldLow]

/-! ### Buck, power-on reset, OFF (R28, R139, R140, R160, R162, R217) -/

theorem leaves_execBuckStop (s : State) : Leaves (execBuckStop s) (core s) := by simp [execBuckStop]

theorem leaves_execPowerOnResetRelease (s : State) : Leaves (execPowerOnResetRelease s) (core s) := by
  simp [execPowerOnResetRelease]

theorem leaves_execFatalLatchClear (s : State) : Leaves (execFatalLatchClear s) (core s) := by
  simp [execFatalLatchClear]

/-! ### The PLL (R79 to R81, R99 to R104) -/

theorem leaves_execPllLock (s : State) : Leaves (execPllLock s) (core s) := by simp [execPllLock]

theorem leaves_execPllLockRetry (s : State) : Leaves (execPllLockRetry s) (core s) := by simp [execPllLockRetry]

theorem leaves_execPllSlip (s : State) : Leaves (execPllSlip s) (core s) := by simp [execPllSlip]

theorem leaves_execPllUnlock (refLost : Bool) (s : State) : Leaves (execPllUnlock refLost s) (core s) := by
  simp [execPllUnlock]

/-! ### VIO and RESET_N (R115, R129, R134, R202, R234) -/

theorem leaves_execVioLoss (s : State) : Leaves (execVioLoss s) (core s) := by simp [execVioLoss]

theorem leaves_execVioRestore (s : State) : Leaves (execVioRestore s) (core s) := by simp [execVioRestore]

theorem leaves_execResetNAssert (s : State) : Leaves (execResetNAssert s) (core s) := by simp [execResetNAssert]

/-! ### RESET exit (R122, R123, R161, R216, R225) -/

theorem leaves_execResetExit (recov tmode : Bool) (s : State) : Leaves (execResetExit recov tmode s) (core s) := by
  simp [execResetExit]

/-! ### RIGGING (R61, R67, R119, R182, R215) -/

theorem leaves_execRiggingComplete (s : State) : Leaves (execRiggingComplete s) (core s) := by
  simp [execRiggingComplete]

/-! ### RUN (R220, R221, R230, R320, R820, R848) -/

theorem leaves_execEnumerateComplete (s : State) : Leaves (execEnumerateComplete s) (core s) := by
  simp [execEnumerateComplete]

end Machine
end Sys2Proof
end

section
/-! One-time store, queue and tick counter through every command and tick (chapters 03, 24, 25). -/
namespace Sys2Proof
namespace Machine

/-! ### How OTP evolves -/

/-- A key slot that is being programmed is empty (R826). -/
def Core.ProgramOk (c : Core) : Prop :=
  match c.otpCmd with
  | some (1, _) => c.otp.hash0 = 0
  | some (2, _) => c.otp.hash1 = 0
  | _ => True

theorem programOk_core (s : State) : (core s).ProgramOk ↔ Safety.ProgramOk s := Iff.rfl

theorem otpKept_refl (a : Otp) : Safety.OtpKept a a :=
  ⟨fun _ => rfl, fun _ => rfl, id, id, id, id, rfl, List.prefix_refl _⟩

theorem otpKept_trans {a b c : Otp} (h : Safety.OtpKept a b) (h' : Safety.OtpKept b c) : Safety.OtpKept a c where
  hash0 ha := by rw [h'.hash0 (by rwa [h.hash0 ha]), h.hash0 ha]
  hash1 ha := by rw [h'.hash1 (by rwa [h.hash1 ha]), h.hash1 ha]
  revoked0 := h'.revoked0 ∘ h.revoked0
  revoked1 := h'.revoked1 ∘ h.revoked1
  rigSigReq := h'.rigSigReq ∘ h.rigSigReq
  debugOpen := h'.debugOpen ∘ h.debugOpen
  testClosed := h'.testClosed.trans h.testClosed
  floors := h.floors.trans h'.floors

/-- Between two cores the queue and the tick counter stand, and OTP keeps what is programmed (R825, R826, R852). -/
structure Evolves (a b : Core) : Prop where
  pending : b.pending = a.pending
  tick : b.tick = a.tick
  otp : a.ProgramOk → Safety.OtpKept a.otp b.otp ∧ b.ProgramOk
  floors : a.otp.floors.length ≤ 16 → b.otp.floors.length ≤ 16

theorem Evolves.refl (a : Core) : Evolves a a := ⟨rfl, rfl, fun h => ⟨otpKept_refl _, h⟩, id⟩

theorem Evolves.trans {a b c : Core} (h : Evolves a b) (h' : Evolves b c) : Evolves a c where
  pending := h'.pending.trans h.pending
  tick := h'.tick.trans h.tick
  otp ha := ⟨otpKept_trans (h.otp ha).1 (h'.otp (h.otp ha).2).1, (h'.otp (h.otp ha).2).2⟩
  floors := h'.floors ∘ h.floors

theorem evolves_of_core {a : Core} {s : State} (h : core s = a) : Evolves a (core s) := h ▸ Evolves.refl _

theorem evolves_raiseFloor (v : Nat) (s : State) : Evolves (core s) (core (raiseFloor v s)) := by
  unfold raiseFloor
  dsimp only
  split
  · exact Evolves.refl _
  · rename_i hroom
    rw [core_queueUpdate]
    refine ⟨rfl, rfl, fun h => ⟨⟨fun _ => rfl, fun _ => rfl, id, id, id, id, rfl, List.prefix_append ..⟩, h⟩, fun _ => ?_⟩
    have hlen : s.rnd.otp.floors.length < 16 := by omega
    show (s.rnd.otp.floors ++ [v]).length ≤ 16
    simpa using hlen

theorem evolves_confirmNow (s : State) : Evolves (core s) (core (confirmNow s)) := by
  unfold confirmNow
  dsimp only
  split
  · refine (evolves_of_core ?_).trans (evolves_raiseFloor _ _)
    simp
  · exact evolves_of_core (by simp)

theorem evolves_confirmTrial (s : State) : Evolves (core s) (core (confirmTrial s)) := by
  unfold confirmTrial
  split
  · exact evolves_of_core (by simp)
  · exact evolves_confirmNow s

theorem evolves_updResume (s : State) : Evolves (core s) (core (updResume s)) := by
  unfold updResume
  dsimp only
  generalize ht : (if s.upd.discardDue = true then updDiscard _ else _) = t
  have hcore : core t = core s := by rw [← ht]; simp
  rw [core_ite, core_abandonTrial, ite_self, ← hcore]
  split
  · exact evolves_confirmNow t
  · exact Evolves.refl _

theorem evolves_resumeFlash (s : State) : Evolves (core s) (core (resumeFlash s)) := by
  unfold resumeFlash
  refine (evolves_of_core ?_).trans (evolves_updResume _)
  simp

theorem evolves_releasePf (s : State) : Evolves (core s) (core (releasePf s)) := by
  unfold releasePf
  dsimp only
  rw [core_resumeRising, core_ite, core_dispatchHeld, ite_self]
  exact (evolves_of_core (by simp)).trans (evolves_resumeFlash _)

theorem evolves_otpStart {p : Port} {c : Nat} {s : State} (h : otpRefusal s p c = 0) :
    Evolves (core s) (core (otpStart c s)) := by
  refine ⟨rfl, rfl, fun _ => ⟨otpKept_refl _, ?_⟩, id⟩
  have hempty : ¬((c = 1 ∧ s.rnd.otp.hash0 ≠ 0) ∨ (c = 2 ∧ s.rnd.otp.hash1 ≠ 0)) := by
    intro hfull
    simp [otpRefusal, hfull] at h
    split at h <;> omega
  simp only [Core.ProgramOk, core, otpStart]
  split <;> simp_all

theorem otpKept_otpApply {cmd hash : Nat} {o : Otp} (h0 : cmd = 1 → o.hash0 = 0) (h1 : cmd = 2 → o.hash1 = 0) :
    Safety.OtpKept o (otpApply cmd hash o) := by
  unfold otpApply
  split <;> constructor <;> simp_all

theorem floors_otpApply (cmd hash : Nat) (o : Otp) : (otpApply cmd hash o).floors = o.floors := by
  unfold otpApply
  split <;> rfl

theorem otpKept_failed {a b : Otp} (h : Safety.OtpKept a b) (l : List Nat) : Safety.OtpKept a { b with failed := l } :=
  ⟨h.hash0, h.hash1, h.revoked0, h.revoked1, h.rigSigReq, h.debugOpen, h.testClosed, h.floors⟩

theorem evolves_otpDone {cmd hash : Nat} (ok : Bool) {s : State} (h : s.rnd.otpCmd = some (cmd, hash)) :
    Evolves (core s) (core (otpDone cmd hash ok s)) := by
  unfold otpDone
  dsimp only
  rw [core_ite, core_raise, ite_self, core_ite, core_dropPending, ite_self]
  refine ⟨rfl, rfl, fun hprog => ⟨?_, trivial⟩, fun hlen => ?_⟩
  · have hkept : Safety.OtpKept s.rnd.otp (otpApply cmd hash s.rnd.otp) := by
      simp only [Core.ProgramOk, core, h] at hprog
      apply otpKept_otpApply <;> (rintro rfl; exact hprog)
    simp only [core_mk]
    split
    · exact hkept
    · exact otpKept_failed hkept _
  · change s.rnd.otp.floors.length ≤ 16 at hlen
    simp only [core_mk]
    split <;> simpa [floors_otpApply] using hlen

theorem evolves_checkOtp (bad : List Nat) (s : State) : Evolves (core s) (core (checkOtp bad s)) := by
  unfold checkOtp
  dsimp only
  rw [core_ite, core_raise, ite_self]
  exact ⟨rfl, rfl, fun h => ⟨otpKept_failed (otpKept_refl _) _, h⟩, id⟩

theorem evolves_boot (ripcordOk : Bool) (bad : Nat) (otpBad : List Nat) (s : State) :
    Evolves (core s) (core (boot ripcordOk bad otpBad s)) := by
  unfold boot
  dsimp only
  refine (evolves_checkOtp otpBad s).trans (evolves_of_core ?_)
  split <;> split <;> simp

/-! ### Host frames -/

theorem evolves_keyWrite (p : Port) (a v k1 k2 : Nat) {fin : State → Wr}
    (hfin : ∀ s, Evolves (core s) (core (fin s).2)) (s : State) :
    Evolves (core s) (core (keyWrite p a v k1 k2 fin s).2) := by
  unfold keyWrite
  split
  · split
    · exact (evolves_of_core (core_dropKey p a s)).trans (hfin _)
    · exact evolves_of_core (by simp)
  · exact evolves_of_core (by simp)

theorem evolves_writeUpd (p : Port) (a v : Nat) (s : State) : Evolves (core s) (core (writeUpd p a v s).2) := by
  unfold writeUpd
  split
  · exact evolves_of_core (by simp)
  · split
    · refine evolves_keyWrite p a v 0x25A 0x1A5 (fun s => ?_) s
      split
      · exact evolves_confirmTrial s
      · exact evolves_of_core (by simp)
    · exact evolves_of_core (by simp)

theorem evolves_writeOtpCmd (p : Port) (v : Nat) (s : State) : Evolves (core s) (core (writeOtpCmd p v s).2) := by
  unfold writeOtpCmd
  dsimp only
  split
  · unfold ruled
    split
    · rename_i hok
      exact evolves_otpStart hok
    · exact evolves_of_core (by simp)
  · exact evolves_of_core (by simp)

theorem evolves_writeRnd (p : Port) (a v : Nat) (s : State) : Evolves (core s) (core (writeRnd p a v s).2) := by
  unfold writeRnd
  split
  · exact evolves_of_core (core_keyWrite p a v 0x0B4 0x34B (fun _ => rfl) s)
  · split
    · exact evolves_writeOtpCmd p v s
    · exact evolves_of_core (by simp)

/-- The blocks below RND (0x600). -/
theorem core_writeOwn_low (p : Port) {a : Nat} (v : Nat) (s : State) (ha : a < 0x600) :
    core (writeOwn p a v s).2 = core s := by
  simp [writeOwn, ha]

theorem evolves_writeOwn (p : Port) (a v : Nat) (s : State) : Evolves (core s) (core (writeOwn p a v s).2) := by
  by_cases hlow : a < 0x600
  · exact evolves_of_core (core_writeOwn_low p v s hlow)
  · have hge : ∀ n ≤ 0x600, ¬ a < n := by omega
    simp only [writeOwn, hge _ (by decide : 0x080 ≤ 0x600), hge _ (by decide : 0x0C0 ≤ 0x600),
      hge _ (by decide : 0x100 ≤ 0x600), hge _ (by decide : 0x180 ≤ 0x600), hge _ (by decide : 0x200 ≤ 0x600),
      hge _ (by decide : 0x280 ≤ 0x600), hge _ (by decide : 0x300 ≤ 0x600), hge _ (by decide : 0x380 ≤ 0x600),
      hge _ (by decide : 0x400 ≤ 0x600), hge _ (by decide : 0x480 ≤ 0x600), hge _ (by decide : 0x500 ≤ 0x600),
      hge _ (by decide : 0x580 ≤ 0x600), hge _ (by decide : 0x600 ≤ 0x600), if_false]
    split
    · exact evolves_writeRnd p a v s
    · split
      · exact evolves_writeUpd p a v s
      · exact evolves_of_core (by simp)

theorem evolves_writeJudged (p : Port) (a v : Nat) {own : State → Wr} (hown : ∀ s, Evolves (core s) (core (own s).2))
    (s : State) : Evolves (core s) (core (writeJudged p a v own s).2) := by
  have hopen : Evolves (core s) (core (writeOpen p a v own s).2) := by
    unfold writeOpen
    dsimp only
    split
    · exact evolves_of_core (by simp)
    · split
      · exact evolves_of_core (by simp)
      · exact hown s
  unfold writeJudged
  split
  case h_6 => exact hopen
  all_goals exact Evolves.refl _

theorem evolves_writeWord (p : Port) (a v : Nat) (s : State) : Evolves (core s) (core (writeWord p a v s).2) :=
  evolves_writeJudged p a v (evolves_writeOwn p a v) s

theorem evolves_writeFrame (p : Port) (a v : Nat) {judge : State → Wr}
    (hjudge : ∀ s, Evolves (core s) (core (judge s).2)) (s : State) :
    Evolves (core s) (core (writeFrame p a v judge s)) := by
  unfold writeFrame
  split
  · dsimp only
    have htake := hjudge (takeSdi p 32 (sdiHead 1 a v) s)
    rw [core_takeSdi] at htake
    split
    · exact evolves_of_core (by simp)
    · split <;> rename_i t ht <;> rw [ht] at htake
      · split
        · exact htake
        · rw [core_respond]
          exact htake
      · rw [core_turnDown]
        exact htake
  · exact Evolves.refl _

theorem evolves_wordFrame (p : Port) (a : Nat) (w : Word) (s : State) : Evolves (core s) (core (wordFrame p a w s)) :=
  evolves_writeFrame p a w.toNat (evolves_writeWord p a w.toNat) s

theorem evolves_pushFrame (p : Port) (data : Word) (ecc : Bool) (bad : BitVec 8) (s : State) :
    Evolves (core s) (core (pushFrame p data ecc bad s)) :=
  evolves_writeFrame p 0x108 data.toNat
    (evolves_writeJudged p 0x108 data.toNat (fun s => evolves_of_core (core_writePush p data.toNat ecc bad s))) s

theorem evolves_burstApply (p : Port) (l : List (Nat × Word)) {s t : State} (h : burstApply p l s = some t) :
    Evolves (core s) (core t) := by
  induction l generalizing s with
  | nil => cases h; exact Evolves.refl _
  | cons e l ih =>
    obtain ⟨a, w⟩ := e
    have hword := evolves_writeWord p a w.toNat s
    rw [burstApply] at h
    split at h
    · rename_i u hu
      rw [hu] at hword
      exact hword.trans (ih h)
    · cases h

theorem evolves_burstWriteFrame (p : Port) (a n : Nat) (words : List Word) (crc : BitVec 16) (s : State) :
    Evolves (core s) (core (burstWriteFrame p a n words crc s)) := by
  unfold burstWriteFrame
  dsimp only
  split
  · exact evolves_of_core (by simp)
  · split
    · exact evolves_of_core (by simp)
    · split
      · exact evolves_of_core (by simp)
      · split
        · exact evolves_of_core (by simp)
        · split
          · exact evolves_of_core (by simp)
          · rename_i t ht
            have happly := evolves_burstApply p _ ht
            rw [core_takeSdi] at happly
            split
            · exact happly
            · rw [core_respond]
              exact happly

theorem evolves_runFrame (p : Port) (x : HostFrame) (s : State) : Evolves (core s) (core (runFrame p x s)) := by
  unfold runFrame
  split
  · exact evolves_of_core (by simp)
  · exact evolves_wordFrame ..
  · split
    · exact evolves_of_core (by simp)
    · exact Evolves.refl _
  · split
    · exact evolves_burstWriteFrame ..
    · exact Evolves.refl _

theorem core_carry (q : Port) (x y : HostFrame) (s : State) : core (carry q x y s) = core s := by
  unfold carry
  split
  · split <;> simp
  · rfl

theorem evolves_together (p : Port) (x y : HostFrame) {f g : State → State}
    (hf : ∀ s, Evolves (core s) (core (f s))) (hg : ∀ s, Evolves (core s) (core (g s))) (s : State) :
    Evolves (core s) (core (together p x y f g s)) := by
  unfold together
  dsimp only
  rw [core_ite, core_flipPrio, ite_self, core_carry, core_carry]
  split
  · exact (hf s).trans (hg _)
  · exact (hg s).trans (hf _)

theorem evolves_withTie (p : Port) (x : HostFrame) (tie : Option HostFrame) {f : State → State}
    (hf : ∀ s, Evolves (core s) (core (f s))) (s : State) : Evolves (core s) (core (withTie p x tie f s)) := by
  unfold withTie
  split
  · exact hf s
  · exact evolves_together p x _ hf (evolves_runFrame _ _) s

theorem evolves_checked (p : Port) (op a : Nat) (d : Word) (crc : Byte) {f : State → State}
    (hf : ∀ s, Evolves (core s) (core (f s))) (s : State) : Evolves (core s) (core (checked p op a d crc f s)) := by
  unfold checked
  split
  · exact hf s
  · exact evolves_of_core (by simp)

/-! ### Commands -/

/-- Where the answer is a next state, its core evolves from the one given. -/
def Keeps (r : Res) (c : Core) : Prop := ∀ t, r = .next t → Evolves c (core t)

theorem keeps_next {t : State} {c : Core} (h : Evolves c (core t)) : Keeps (.next t) c := by
  rintro _ ⟨⟩
  exact h

theorem keeps_fault (f : Fault) (c : Core) : Keeps (.fault f) c := fun _ h => by cases h

theorem Leaves.keeps {r : Res} {c : Core} (h : Leaves r c) : Keeps r c := fun t ht => by
  rw [h t ht]
  exact Evolves.refl _

theorem keeps_atOwn (p : Port) (x : HostFrame) (tie : Option HostFrame) {f : State → State}
    (hf : ∀ s, Evolves (core s) (core (f s))) (s : State) : Keeps (atOwn s p x tie f) (core s) := by
  unfold atOwn
  split
  · exact keeps_fault _ _
  · exact keeps_next (evolves_withTie p x tie hf s)

theorem keeps_framed (s : State) (p : Port) (x : HostFrame) (tie : Option HostFrame) {t : State} {c : Core}
    (h : Evolves c (core t)) : Keeps (framed s p x tie t) c := by
  unfold framed
  split
  · exact keeps_fault _ _
  · exact keeps_next h

theorem keeps_wordFrame (p : Port) (a : Nat) (w : Word) (s : State) : Keeps (.next (wordFrame p a w s)) (core s) :=
  keeps_next (evolves_wordFrame p a w s)

theorem keeps_atOwn_runFrame (p : Port) (x : HostFrame) (tie : Option HostFrame) (s : State) :
    Keeps (atOwn s p x tie (runFrame p x)) (core s) :=
  keeps_atOwn p x tie (evolves_runFrame p x) s

theorem keeps_execOtpProgramDone (checkOk : Bool) (s : State) : Keeps (execOtpProgramDone checkOk s) (core s) := by
  unfold execOtpProgramDone
  split
  · rename_i cmd hash hcmd
    exact keeps_next (evolves_otpDone checkOk hcmd)
  · exact keeps_next (Evolves.refl _)

theorem keeps_execBootComplete (ripcordOk : Bool) (bad : Nat) (otpBad : List Nat) (s : State) :
    Keeps (execBootComplete ripcordOk bad otpBad s) (core s) := by
  unfold execBootComplete
  split
  · exact keeps_next (evolves_boot ripcordOk bad otpBad s)
  · exact keeps_next (Evolves.refl _)

theorem keeps_execPowerFailRelease (s : State) : Keeps (execPowerFailRelease s) (core s) := by
  unfold execPowerFailRelease
  split
  · exact keeps_next (evolves_releasePf s)
  · exact keeps_next (Evolves.refl _)

theorem keeps_execMalformedTransaction (p : Port) (burstWrite : Bool) (edges : Nat) (bits : List Byte) (s : State) :
    Keeps (execMalformedTransaction p burstWrite edges bits s) (core s) :=
  keeps_next (evolves_of_core (core_malformed ..))

theorem keeps_execRegisterWrite (p : Port) (addr : Addr) (data : Word) (crc : Byte) (tie : Option HostFrame) (s : State) :
    Keeps (execRegisterWrite p addr data crc tie s) (core s) :=
  keeps_framed s p _ tie (evolves_withTie p _ tie (evolves_checked p 1 _ data crc (evolves_runFrame p _)) s)

theorem keeps_execBurstRead (p : Port) (addr : Addr) (count : Nat) (crc : Byte) (upsets : List Upset)
    (tie : Option HostFrame) (s : State) : Keeps (execBurstRead p addr count crc upsets tie s) (core s) := by
  unfold execBurstRead
  rw [← core_upset upsets s]
  exact keeps_framed _ p _ tie (evolves_withTie p _ tie (evolves_checked p 2 _ _ crc (evolves_runFrame p _)) _)

theorem keeps_execBurstWrite (p : Port) (addr : Addr) (count : Nat) (crc : Byte) (words : List Word) (crc16 : BitVec 16)
    (tie : Option HostFrame) (s : State) : Keeps (execBurstWrite p addr count crc words crc16 tie s) (core s) := by
  unfold execBurstWrite
  dsimp only
  split
  · exact keeps_next (evolves_of_core (core_malformed ..))
  · refine keeps_framed s p _ tie (evolves_withTie p _ tie (evolves_checked p 3 _ _ crc fun s => ?_) s)
    split
    · exact evolves_burstWriteFrame ..
    · exact Evolves.refl _

theorem keeps_execGroupLatchRead (p : Port) (addr : Addr) (data : Word) (crc : Byte) (tie : Option HostFrame) (s : State) :
    Keeps (execGroupLatchRead p addr data crc tie s) (core s) :=
  keeps_framed s p _ tie (evolves_withTie p _ tie (evolves_checked p 0 _ data crc (evolves_runFrame p _)) s)

theorem keeps_execGroupShadowWrite (p : Port) (addr : Addr) (data : Word) (s : State) :
    Keeps (execGroupShadowWrite p addr data s) (core s) :=
  keeps_framed s p _ none (evolves_wordFrame ..)

theorem keeps_execGroupCommit (p : Port) (addr : Addr) (data : Word) (tie : Option HostFrame) (s : State) :
    Keeps (execGroupCommit p addr data tie s) (core s) :=
  keeps_framed s p _ tie (evolves_withTie p _ tie (evolves_runFrame p _) s)

theorem keeps_execRcRead (p : Port) (addr : Addr) (tie : Option HostFrame) (s : State) :
    Keeps (execRcRead p addr tie s) (core s) :=
  keeps_framed s p _ tie (evolves_withTie p _ tie (evolves_runFrame p _) s)

theorem keeps_execFaultAck (p : Port) (addr : Addr) (data : Word) (s : State) :
    Keeps (execFaultAck p addr data s) (core s) :=
  keeps_framed s p _ none (evolves_wordFrame ..)

theorem keeps_execHstAgainRead (p : Port) (s : State) : Keeps (execHstAgainRead p s) (core s) :=
  keeps_next (evolves_of_core (core_readFrame ..))

theorem keeps_execOrdPush (p : Port) (data : Word) (eccSingle : Bool) (eccBad : BitVec 8) (upsets : List Upset)
    (tie : Option HostFrame) (s : State) : Keeps (execOrdPush p data eccSingle eccBad upsets tie s) (core s) := by
  unfold execOrdPush
  rw [← core_upset upsets s]
  exact keeps_atOwn p _ tie (evolves_pushFrame p data eccSingle eccBad) _

theorem keeps_execPclWinRead (p : Port) (k err : Nat) (tie : Option HostFrame) (s : State) :
    Keeps (execPclWinRead p k err tie s) (core s) :=
  keeps_atOwn p _ tie (fun s => (evolves_of_core (core_markEcc p k err s)).trans (evolves_runFrame p _ _)) s

theorem keeps_execLkoSleep (p : Port) (data : Word) (waking : Bool) (s : State) :
    Keeps (execLkoSleep p data waking s) (core s) := by
  refine keeps_next ((evolves_of_core ?_).trans (evolves_wordFrame ..))
  simp

/-- The commands of the supplies that hold the hub in power-on reset. -/
def powersOn : Instr → Bool
  | .powerOnReset _ => true
  | .preCollapse => true
  | .buckStart => true
  | _ => false

/-- Every other command keeps what `Evolves` says, case by case. -/
theorem keeps_exec (c : Instr) (s : State) (h : powersOn c = false) : Keeps (exec c s) (core s) := by
  cases c with
  | powerOnReset _ => cases h
  | powerOnResetRelease => exact (leaves_execPowerOnResetRelease s).keeps
  | preCollapse => cases h
  | fatalLatchClear => exact (leaves_execFatalLatchClear s).keeps
  | pllLock => exact (leaves_execPllLock s).keeps
  | pllLockRetry => exact (leaves_execPllLockRetry s).keeps
  | pllSlip => exact (leaves_execPllSlip s).keeps
  | pllUnlock _ => exact (leaves_execPllUnlock _ s).keeps
  | resetNAssert => exact (leaves_execResetNAssert s).keeps
  | resetExit _ _ => exact (leaves_execResetExit _ _ s).keeps
  | bootComplete _ _ _ => exact keeps_execBootComplete _ _ _ s
  | riggingComplete => exact (leaves_execRiggingComplete s).keeps
  | enumerateComplete => exact (leaves_execEnumerateComplete s).keeps
  | powerFailDeclare _ => exact (leaves_execPowerFailDeclare _ s).keeps
  | powerFailRelease => exact keeps_execPowerFailRelease s
  | powerFailRecordCommit _ _ => exact (leaves_execPowerFailRecordCommit _ _ s).keeps
  | pfrReserveComplete _ _ => exact (leaves_execPfrReserveComplete _ _ s).keeps
  | vsl5Fall => exact (leaves_execVsl5Fall s).keeps
  | vsl5Rise => exact (leaves_execVsl5Rise s).keeps
  | vioLoss => exact (leaves_execVioLoss s).keeps
  | holdSelfCheckStart => exact (leaves_execHoldSelfCheckStart s).keeps
  | holdSelfCheckDone _ => exact (leaves_execHoldSelfCheckDone _ s).keeps
  | holdLow => exact (leaves_execHoldLow s).keeps
  | almFilterChange _ => exact (leaves_execAlmFilterChange _ s).keeps
  | sysAlarmWrite _ _ => exact keeps_wordFrame _ _ _ _
  | cardInserted _ => exact (leaves_execCardInserted _ s).keeps
  | cardRemoved _ _ => exact (leaves_execCardRemoved _ _ s).keeps
  | wpChange _ _ => exact (leaves_execWpChange _ _ s).keeps
  | currentTrip _ _ _ => exact (leaves_execCurrentTrip _ _ _ s).keeps
  | undervoltageTrip _ _ _ => exact (leaves_execUndervoltageTrip _ _ _ s).keeps
  | vccWinExpiry _ _ => exact (leaves_execVccWinExpiry _ _ s).keeps
  | atrTimeout _ => exact (leaves_execAtrTimeout _ s).keeps
  | classTrialWaitEnd _ => exact (leaves_execClassTrialWaitEnd _ s).keeps
  | vccDischarged _ => exact (leaves_execVccDischarged _ s).keeps
  | dischargeSlow _ => exact (leaves_execDischargeSlow _ s).keeps
  | railEnable _ => exact (leaves_execRailEnable _ s).keeps
  | railRiseWindowEnd _ => exact (leaves_execRailRiseWindowEnd _ s).keeps
  | shutdownStepAdvance _ => exact (leaves_execShutdownStepAdvance _ s).keeps
  | warnShutdownStart => exact (leaves_execWarnShutdownStart s).keeps
  | rlsRelease _ _ _ => exact keeps_atOwn_runFrame _ _ _ _
  | rlsTrimWrite _ _ _ _ => exact keeps_atOwn_runFrame _ _ _ _
  | trimStep => exact (leaves_execTrimStep s).keeps
  | trimFault _ => exact (leaves_execTrimFault _ s).keeps
  | moduleRailRaise _ => exact (leaves_execModuleRailRaise _ s).keeps
  | grailGapElapsed _ => exact (leaves_execGrailGapElapsed _ s).keeps
  | satGrailFail _ _ => exact (leaves_execSatGrailFail _ _ s).keeps
  | scanSample _ _ _ => exact (leaves_execScanSample _ _ _ s).keeps
  | sweepStart => exact (leaves_execSweepStart s).keeps
  | sweepQuery _ _ _ _ => exact (leaves_execSweepQuery _ _ _ _ s).keeps
  | sweepReport _ _ _ _ => exact (leaves_execSweepReport _ _ _ _ s).keeps
  | sweepResend _ => exact (leaves_execSweepResend _ s).keeps
  | sweepClose => exact (leaves_execSweepClose s).keeps
  | swpPinWrite _ _ => exact keeps_wordFrame _ _ _ _
  | registerWrite _ _ _ _ _ => exact keeps_execRegisterWrite _ _ _ _ _ s
  | burstRead _ _ _ _ _ _ => exact keeps_execBurstRead _ _ _ _ _ _ s
  | burstWrite _ _ _ _ _ _ _ => exact keeps_execBurstWrite _ _ _ _ _ _ _ s
  | malformedTransaction _ _ _ _ => exact keeps_execMalformedTransaction _ _ _ _ s
  | groupLatchRead _ _ _ _ _ => exact keeps_execGroupLatchRead _ _ _ _ _ s
  | groupShadowWrite _ _ _ => exact keeps_execGroupShadowWrite _ _ _ s
  | groupCommit _ _ _ _ => exact keeps_execGroupCommit _ _ _ _ s
  | rcRead _ _ _ => exact keeps_execRcRead _ _ _ s
  | hstAgainRead _ => exact keeps_execHstAgainRead _ s
  | hstHbeatWrite _ _ => exact keeps_wordFrame _ _ _ _
  | heartbeatLapse _ _ => exact (leaves_execHeartbeatLapse _ _ s).keeps
  | portReset _ _ _ => exact keeps_atOwn_runFrame _ _ _ _
  | sysRestart _ _ => exact keeps_wordFrame _ _ _ _
  | morTake _ _ _ => exact keeps_atOwn_runFrame _ _ _ _
  | morRelease _ _ _ _ => exact keeps_atOwn_runFrame _ _ _ _
  | morRelall _ _ _ => exact keeps_atOwn_runFrame _ _ _ _
  | morClaim _ _ _ => exact keeps_atOwn_runFrame _ _ _ _
  | morFree _ _ _ => exact keeps_atOwn_runFrame _ _ _ _
  | morPeeralm _ _ => exact keeps_wordFrame _ _ _ _
  | ordPush _ _ _ _ _ _ => exact keeps_execOrdPush _ _ _ _ _ _ s
  | orderAdvance _ _ => exact (leaves_execOrderAdvance _ _ s).keeps
  | orderAdmission _ _ => exact (leaves_execOrderAdmission _ _ s).keeps
  | orderQueueTimeout _ => exact (leaves_execOrderQueueTimeout _ s).keeps
  | ordRtailWrite _ _ => exact keeps_wordFrame _ _ _ _
  | ordCancel _ _ => exact keeps_wordFrame _ _ _ _
  | pclAlloc _ _ => exact keeps_atOwn_runFrame _ _ _ _
  | pclRelease _ _ _ => exact keeps_atOwn_runFrame _ _ _ _
  | pclWinWrite _ _ _ _ => exact keeps_atOwn_runFrame _ _ _ _
  | pclWinRead _ _ _ _ => exact keeps_execPclWinRead _ _ _ _ s
  | activate _ => exact (leaves_execActivate _ s).keeps
  | warmReset _ => exact (leaves_execWarmReset _ s).keeps
  | deactivate _ => exact (leaves_execDeactivate _ s).keeps
  | exchange _ _ => exact (leaves_execExchange _ _ s).keeps
  | rawBlock _ => exact (leaves_execRawBlock _ s).keeps
  | pps _ => exact (leaves_execPps _ s).keeps
  | clockStop _ => exact (leaves_execClockStop _ s).keeps
  | clockStopIdleReached _ => exact (leaves_execClockStopIdleReached _ s).keeps
  | clockResume _ => exact (leaves_execClockResume _ s).keeps
  | clockResumeSettled _ => exact (leaves_execClockResumeSettled _ s).keeps
  | sdInit _ _ _ => exact (leaves_execSdInit _ _ _ s).keeps
  | sdRead _ _ _ => exact (leaves_execSdRead _ _ _ s).keeps
  | sdWrite _ _ _ => exact (leaves_execSdWrite _ _ _ s).keeps
  | sdStatus _ _ _ => exact (leaves_execSdStatus _ _ _ s).keeps
  | nonce _ _ => exact (leaves_execNonce _ _ s).keeps
  | nonceFill _ => exact (leaves_execNonceFill _ s).keeps
  | satSleep _ => exact (leaves_execSatSleep _ s).keeps
  | satWake _ => exact (leaves_execSatWake _ s).keeps
  | satRail _ => exact (leaves_execSatRail _ s).keeps
  | satUpdate _ => exact (leaves_execSatUpdate _ s).keeps
  | updFetch _ _ _ _ => exact (leaves_execUpdFetch _ _ _ _ s).keeps
  | characterSend _ _ _ => exact (leaves_execCharacterSend _ _ _ s).keeps
  | characterReceived _ _ _ _ _ => exact (leaves_execCharacterReceived _ _ _ _ _ s).keeps
  | ioLowWaitExpiry _ => exact (leaves_execIoLowWaitExpiry _ s).keeps
  | atrCharacterTimeout _ => exact (leaves_execAtrCharacterTimeout _ s).keeps
  | wtExpiry _ => exact (leaves_execWtExpiry _ s).keeps
  | cwtExpiry _ => exact (leaves_execCwtExpiry _ s).keeps
  | blockReceived _ => exact (leaves_execBlockReceived _ s).keeps
  | bwtExpiry _ => exact (leaves_execBwtExpiry _ s).keeps
  | cardTimeLimit _ => exact (leaves_execCardTimeLimit _ s).keeps
  | sltDivCommit _ _ => exact keeps_wordFrame _ _ _ _
  | sdBusyRelease _ _ _ => exact (leaves_execSdBusyRelease _ _ _ s).keeps
  | sdBusyTimeout _ => exact (leaves_execSdBusyTimeout _ s).keeps
  | sdTokenTimeout _ => exact (leaves_execSdTokenTimeout _ s).keeps
  | sdAcmd41Poll _ _ _ _ _ _ _ => exact (leaves_execSdAcmd41Poll _ _ _ _ _ _ _ s).keeps
  | sdRunIdleClose _ _ => exact (leaves_execSdRunIdleClose _ _ s).keeps
  | ldgSourceWrite _ _ _ => exact keeps_atOwn_runFrame _ _ _ _
  | ldgBattremWrite _ _ => exact keeps_wordFrame _ _ _ _
  | lkoSleep _ _ _ => exact keeps_execLkoSleep _ _ _ s
  | lkoWake _ _ => exact keeps_wordFrame _ _ _ _
  | faultAck _ _ _ => exact keeps_execFaultAck _ _ _ s
  | wordParityFail _ _ _ => exact (leaves_execWordParityFail _ _ _ s).keeps
  | lockstepMismatch => exact (leaves_execLockstepMismatch s).keeps
  | codeEccError => exact (leaves_execCodeEccError s).keeps
  | blockResetDone _ => exact (leaves_execBlockResetDone _ s).keeps
  | ripcordContinuityCheck _ => exact (leaves_execRipcordContinuityCheck _ s).keeps
  | safeRewalk => exact (leaves_execSafeRewalk s).keeps
  | logRecordWrite _ => exact (leaves_execLogRecordWrite _ s).keeps
  | logSectorErase _ => exact (leaves_execLogSectorErase _ s).keeps
  | wearTableWrite _ => exact (leaves_execWearTableWrite _ s).keeps
  | logFetch _ _ => exact keeps_wordFrame _ _ _ _
  | logFetchPf _ _ => exact keeps_wordFrame _ _ _ _
  | logFetchDone _ => exact (leaves_execLogFetchDone _ s).keeps
  | rndStartupPass _ => exact (leaves_execRndStartupPass _ s).keeps
  | rndStartupRetry => exact (leaves_execRndStartupRetry s).keeps
  | rndContinuousFail _ => exact (leaves_execRndContinuousFail _ s).keeps
  | rndDataRead _ _ => exact keeps_atOwn_runFrame _ _ _ _
  | bootCountRoll _ => exact (leaves_execBootCountRoll _ s).keeps
  | rndOtparm _ _ => exact keeps_wordFrame _ _ _ _
  | otpArmExpiry => exact (leaves_execOtpArmExpiry s).keeps
  | programSlot0 _ => exact keeps_wordFrame _ _ _ _
  | programSlot1 _ => exact keeps_wordFrame _ _ _ _
  | revokeSlot0 _ => exact keeps_wordFrame _ _ _ _
  | revokeSlot1 _ => exact keeps_wordFrame _ _ _ _
  | requireRigSig _ => exact keeps_wordFrame _ _ _ _
  | openDebug _ => exact keeps_wordFrame _ _ _ _
  | otpProgramDone _ => exact keeps_execOtpProgramDone _ s
  | tapInstruction _ => exact (leaves_execTapInstruction _ s).keeps
  | updOpen _ _ _ => exact keeps_atOwn_runFrame _ _ _ _
  | updClose _ => exact keeps_wordFrame _ _ _ _
  | updDiscard _ => exact keeps_wordFrame _ _ _ _
  | updExit _ => exact keeps_wordFrame _ _ _ _
  | updHold _ => exact keeps_wordFrame _ _ _ _
  | updPush _ _ => exact keeps_wordFrame _ _ _ _
  | imageWriteDone _ => exact (leaves_execImageWriteDone _ s).keeps
  | recoveryCardFlow _ _ _ => exact (leaves_execRecoveryCardFlow _ _ _ s).keeps
  | updConfirm _ _ => exact keeps_wordFrame _ _ _ _
  | trialExpiry _ => exact (leaves_execTrialExpiry _ s).keeps
  | deferredTrialRestart => exact (leaves_execDeferredTrialRestart s).keeps
  | rigOpen _ _ => exact keeps_atOwn_runFrame _ _ _ _
  | rigClose _ => exact keeps_wordFrame _ _ _ _
  | rigValidate _ => exact keeps_wordFrame _ _ _ _
  | rigStore _ => exact keeps_wordFrame _ _ _ _
  | rigApplyLive _ => exact keeps_wordFrame _ _ _ _
  | rigCommandDone _ => exact (leaves_execRigCommandDone _ s).keeps
  | recorderSeed => exact (leaves_execRecorderSeed s).keeps
  | recorderFreezeDelayEnd => exact (leaves_execRecorderFreezeDelayEnd s).keeps
  | recorderDumpDone _ _ _ _ => exact (leaves_execRecorderDumpDone _ _ _ _ s).keeps
  | recArm _ => exact keeps_wordFrame _ _ _ _
  | recFreeze _ => exact keeps_wordFrame _ _ _ _
  | recStop _ => exact keeps_wordFrame _ _ _ _
  | recReplay _ _ => exact keeps_wordFrame _ _ _ _
  | replayTick _ => exact (leaves_execReplayTick _ s).keeps
  | beaconSend _ _ => exact (leaves_execBeaconSend _ _ s).keeps
  | ripcordSymbol _ _ => exact (leaves_execRipcordSymbol _ _ s).keeps
  | satRipcordIsolate _ => exact (leaves_execSatRipcordIsolate _ s).keeps
  | wakeSymbol _ _ _ => exact (leaves_execWakeSymbol _ _ _ s).keeps
  | ringInputLost _ _ => exact (leaves_execRingInputLost _ _ s).keeps
  | satRelock _ => exact (leaves_execSatRelock _ s).keeps
  | satPllLock _ _ => exact (leaves_execSatPllLock _ _ s).keeps
  | silenceTimeout _ => exact (leaves_execSilenceTimeout _ s).keeps
  | enumQuery _ _ _ => exact (leaves_execEnumQuery _ _ _ s).keeps
  | enumAnswer _ _ _ _ _ _ => exact (leaves_execEnumAnswer _ _ _ _ _ _ s).keeps
  | enumWalkTimeout _ => exact (leaves_execEnumWalkTimeout _ s).keeps
  | assign _ _ _ _ _ => exact (leaves_execAssign _ _ _ _ _ s).keeps
  | assignAck _ _ => exact (leaves_execAssignAck _ _ s).keeps
  | delayFrame _ _ => exact (leaves_execDelayFrame _ _ s).keeps
  | delayMarkerEcho _ => exact (leaves_execDelayMarkerEcho _ s).keeps
  | delayEchoArrival _ _ => exact (leaves_execDelayEchoArrival _ _ s).keeps
  | delayAnswer _ _ _ => exact (leaves_execDelayAnswer _ _ _ s).keeps
  | tsync _ _ _ _ => exact (leaves_execTsync _ _ _ _ s).keeps
  | cack _ _ _ _ => exact (leaves_execCack _ _ _ _ s).keeps
  | cmdResend _ => exact (leaves_execCmdResend _ s).keeps
  | rack _ _ _ => exact (leaves_execRack _ _ _ s).keeps
  | resultResend _ => exact (leaves_execResultResend _ s).keeps
  | wakeResend _ => exact (leaves_execWakeResend _ s).keeps
  | doneResult _ _ _ _ _ _ _ _ => exact (leaves_execDoneResult _ _ _ _ _ _ _ _ s).keeps
  | dataResult _ _ _ _ _ _ _ => exact (leaves_execDataResult _ _ _ _ _ _ _ s).keeps
  | slotResult _ _ _ _ _ _ => exact (leaves_execSlotResult _ _ _ _ _ _ s).keeps
  | wrapResult _ _ _ _ _ _ => exact (leaves_execWrapResult _ _ _ _ _ _ s).keeps
  | healReadyResult _ _ _ => exact (leaves_execHealReadyResult _ _ _ s).keeps
  | restartedResult _ _ _ _ => exact (leaves_execRestartedResult _ _ _ _ s).keeps
  | wokenResult _ _ _ => exact (leaves_execWokenResult _ _ _ s).keeps
  | railResult _ _ _ _ _ => exact (leaves_execRailResult _ _ _ _ _ s).keeps
  | identResult _ _ _ _ _ _ _ _ => exact (leaves_execIdentResult _ _ _ _ _ _ _ _ s).keeps
  | locksrcResult _ _ _ _ => exact (leaves_execLocksrcResult _ _ _ _ s).keeps
  | faultResult _ _ _ _ => exact (leaves_execFaultResult _ _ _ _ s).keeps
  | traceResult _ _ _ _ _ _ => exact (leaves_execTraceResult _ _ _ _ _ _ s).keeps
  | powerResult _ _ _ _ => exact (leaves_execPowerResult _ _ _ _ s).keeps
  | replayResult _ _ _ _ _ _ => exact (leaves_execReplayResult _ _ _ _ _ _ s).keeps
  | linkSend _ => exact (leaves_execLinkSend _ s).keeps
  | linkFrame _ _ _ _ => exact (leaves_execLinkFrame _ _ _ _ s).keeps
  | healReadyTimer _ => exact (leaves_execHealReadyTimer _ s).keeps
  | healFrame _ _ _ => exact (leaves_execHealFrame _ _ _ s).keeps
  | healAnswer _ _ _ _ => exact (leaves_execHealAnswer _ _ _ _ s).keeps
  | healResend _ => exact (leaves_execHealResend _ s).keeps
  | healCancel _ => exact (leaves_execHealCancel _ s).keeps
  | unwrap _ => exact (leaves_execUnwrap _ s).keeps
  | tetherRewalk _ => exact (leaves_execTetherRewalk _ s).keeps
  | tthSearch _ _ => exact keeps_wordFrame _ _ _ _
  | tthResync _ _ => exact keeps_wordFrame _ _ _ _
  | tthHealNow _ _ => exact keeps_wordFrame _ _ _ _
  | setSat _ _ _ _ => exact (leaves_execSetSat _ _ _ _ s).keeps
  | setSlot _ _ _ _ => exact (leaves_execSetSlot _ _ _ _ s).keeps
  | put _ _ _ _ _ _ => exact (leaves_execPut _ _ _ _ _ _ s).keeps
  | orderCommand _ _ _ _ _ _ _ _ => exact (leaves_execOrderCommand _ _ _ _ _ _ _ _ s).keeps
  | sleepCommand _ _ _ => exact (leaves_execSleepCommand _ _ _ s).keeps
  | railCommand _ _ _ _ => exact (leaves_execRailCommand _ _ _ _ s).keeps
  | traceFetch _ _ _ _ => exact (leaves_execTraceFetch _ _ _ _ s).keeps
  | traceRearm _ _ _ _ => exact (leaves_execTraceRearm _ _ _ _ s).keeps
  | traceFreeze _ _ _ _ => exact (leaves_execTraceFreeze _ _ _ _ s).keeps
  | traceFreezeCount _ => exact (leaves_execTraceFreezeCount _ s).keeps
  | slotRelease _ _ _ _ => exact (leaves_execSlotRelease _ _ _ _ s).keeps
  | faultAckCommand _ _ _ _ => exact (leaves_execFaultAckCommand _ _ _ _ s).keeps
  | ripcordCommand _ _ _ _ => exact (leaves_execRipcordCommand _ _ _ _ s).keeps
  | restartCommand _ _ _ => exact (leaves_execRestartCommand _ _ _ s).keeps
  | identCommand _ _ _ => exact (leaves_execIdentCommand _ _ _ s).keeps
  | traceReplayCommand _ _ _ _ _ _ => exact (leaves_execTraceReplayCommand _ _ _ _ _ _ s).keeps
  | updBegin _ _ _ _ => exact (leaves_execUpdBegin _ _ _ _ s).keeps
  | updData _ _ _ _ _ => exact (leaves_execUpdData _ _ _ _ _ s).keeps
  | updEnd _ _ _ => exact (leaves_execUpdEnd _ _ _ s).keeps
  | updAbort _ _ _ => exact (leaves_execUpdAbort _ _ _ s).keeps
  | satUpdateTimeout _ => exact (leaves_execSatUpdateTimeout _ s).keeps
  | satCmdRestart _ _ => exact keeps_wordFrame _ _ _ _
  | satCmdRipcord _ _ => exact keeps_wordFrame _ _ _ _
  | satCmdTraceFetch _ _ => exact keeps_wordFrame _ _ _ _
  | satCmdTraceRearm _ _ => exact keeps_wordFrame _ _ _ _
  | satCmdTraceFreeze _ _ => exact keeps_wordFrame _ _ _ _
  | satCmdTraceReplay _ _ => exact keeps_wordFrame _ _ _ _
  | satZfackWrite _ _ => exact keeps_wordFrame _ _ _ _
  | satVinLost _ => exact (leaves_execSatVinLost _ s).keeps
  | satVinBack _ => exact (leaves_execSatVinBack _ s).keeps
  | satVpsLow _ => exact (leaves_execSatVpsLow _ s).keeps
  | satTotalOvercurrent _ _ => exact (leaves_execSatTotalOvercurrent _ _ s).keeps
  | satFatalFault _ _ => exact (leaves_execSatFatalFault _ _ s).keeps
  | satRstN _ => exact (leaves_execSatRstN _ s).keeps
  | buckStart => cases h
  | buckStop => exact (leaves_execBuckStop s).keeps
  | vioRestore => exact (leaves_execVioRestore s).keeps
  | hubRingInputLost _ _ => exact (leaves_execHubRingInputLost _ _ s).keeps
  | ringInputRegained _ _ => exact (leaves_execRingInputRegained _ _ s).keeps
  | dir0FrameReturned _ _ _ => exact (leaves_execDir0FrameReturned _ _ _ s).keeps
  | tsyncAnswer _ _ => exact (leaves_execTsyncAnswer _ _ s).keeps
  | satPowerOn _ _ _ _ _ _ => exact (leaves_execSatPowerOn _ _ _ _ _ _ s).keeps
  | satConversion _ _ => exact (leaves_execSatConversion _ _ s).keeps
  | grailLowerWindowEnd _ => exact (leaves_execGrailLowerWindowEnd _ s).keeps
  | satHoldLow _ => exact (leaves_execSatHoldLow _ s).keeps
  | lostSilenceRelease _ => exact (leaves_execLostSilenceRelease _ s).keeps
  | rndBlockFormed _ => exact (leaves_execRndBlockFormed _ s).keeps
  | ppsCharacterTimeout _ => exact (leaves_execPpsCharacterTimeout _ s).keeps
  | satLoaderEraseDone _ => exact (leaves_execSatLoaderEraseDone _ s).keeps
  | updIdentPoll _ => exact (leaves_execUpdIdentPoll _ s).keeps

/-! ### Power-on reset -/

/-- The core with the tick counter at 0. -/
def Core.zeroed (c : Core) : Core := { c with tick := 0 }

theorem core_powerOn (s : State) : core (powerOn s) = (core s).zeroed := by
  have hreset : core (railsOff (resetBlocks (resetSafe (endRecord s)))) = core s := by simp
  unfold powerOn
  dsimp only
  generalize railsOff (resetBlocks (resetSafe (endRecord s))) = u at hreset ⊢
  rw [← hreset]
  rfl

theorem core_collapse (s : State) : core (collapse s) = (core s).zeroed := by
  unfold collapse
  generalize hu : powerOn _ = u
  have hcore : core u = (core s).zeroed := by
    rw [← hu, core_powerOn]
    rfl
  simp [hcore]

/-- The commands that hold the hub in power-on reset leave all but the tick counter. -/
theorem core_exec_of_powersOn {c : Instr} {s t : State} (hc : powersOn c = true) (h : exec c s = .next t) :
    core t = core s ∨ core t = (core s).zeroed := by
  unfold powersOn at hc
  split at hc
  · simp only [exec, execPowerOnReset] at h
    cases h
    split
    · exact .inl rfl
    · exact .inr (core_powerOn _)
  · simp only [exec, execPreCollapse] at h
    cases h
    split
    · exact .inl rfl
    · exact .inr (core_collapse s)
  · simp only [exec, execBuckStart] at h
    cases h
    split
    · exact .inr (core_powerOn _)
    · exact .inl rfl
  · cases hc

theorem powersOn_iff (c : Instr) :
    powersOn c = true ↔ (∃ rail, c = .powerOnReset rail) ∨ c = .preCollapse ∨ c = .buckStart := by
  unfold powersOn
  split <;> simp_all

/-- What any command does to the core: OTP evolves, and the tick counter stands or is cleared by a power-on reset. -/
theorem exec_core {c : Instr} {s t : State} (h : exec c s = .next t) :
    Evolves { core s with tick := t.sys.tick } (core t) ∧
      (t.sys.tick = s.sys.tick ∨ t.sys.tick = 0 ∧ powersOn c = true) := by
  cases hc : powersOn c
  · have hev := keeps_exec c s hc t h
    have htick : t.sys.tick = s.sys.tick := hev.tick
    rw [htick]
    exact ⟨hev, .inl rfl⟩
  · rcases core_exec_of_powersOn hc h with hcore | hcore <;>
      have htick : t.sys.tick = _ := congrArg Core.tick hcore
    · rw [hcore, htick]
      exact ⟨Evolves.refl _, .inl rfl⟩
    · rw [hcore, htick]
      exact ⟨Evolves.refl _, .inr ⟨rfl, rfl⟩⟩

/-! ### A tick -/

/-- What the recorder has noted of the local slots is dropped: nothing but slots changes. -/
theorem foldl_dropTaken_frame (l : List Nat) (s : State) :
    l.foldl (fun s k => if (slotGet s k).taken = [] then s else modSlot k (fun x => { x with taken := [] }) s) s =
      { s with slots := (l.foldl (fun s k => if (slotGet s k).taken = [] then s
        else modSlot k (fun x => { x with taken := [] }) s) s).slots } := by
  induction l generalizing s with
  | nil => rfl
  | cons k l ih =>
    simp only [List.foldl_cons]
    split
    · exact ih s
    · rw [ih]
      rfl

@[simp] theorem tickOver_sys (s : State) : (tickOver s).sys = s.sys := by
  unfold tickOver
  rw [foldl_dropTaken_frame]

/-- A tick of an idle block moves the tick counter alone of the core. -/
theorem core_idleTick (s : State) : core (idleTick s) = { core s with tick := (idleTick s).sys.tick } := by
  have hover : core (idleTick s) = { core (tickOver s) with tick := (idleTick s).sys.tick } := by
    unfold idleTick
    dsimp only
    split <;> rfl
  rw [hover, core_tickOver]

/-- The hub's counter advances where it runs. -/
theorem idleTick_tick (s : State) :
    (idleTick s).sys.tick = if s.sys.tickRunning then nextTick s.sys.tick else s.sys.tick := by
  rw [← tickOver_sys s]
  unfold idleTick
  dsimp only
  split <;> rfl

theorem nextTick_le {n : Nat} (h : n ≤ tickLast) : nextTick n ≤ tickLast := by
  unfold nextTick
  split
  · exact Nat.zero_le _
  · omega

theorem core_tickStep (s : State) : core (tickStep s) = { core s with tick := (tickStep s).sys.tick } := by
  have hafter : core (tickStep s) = core (idleTick (recordTick (lateSnapshot s))) := by simp [tickStep]
  have htick : (tickStep s).sys.tick = (idleTick (recordTick (lateSnapshot s))).sys.tick := congrArg Core.tick hafter
  rw [hafter, htick, core_idleTick, core_recordTick, core_lateSnapshot]

theorem tickStep_tick_le {s : State} (h : s.sys.tick ≤ tickLast) : (tickStep s).sys.tick ≤ tickLast := by
  have hafter : core (tickStep s) = core (idleTick (recordTick (lateSnapshot s))) := by simp [tickStep]
  have hbefore : core (recordTick (lateSnapshot s)) = core s := by simp
  have htick : (tickStep s).sys.tick = (idleTick (recordTick (lateSnapshot s))).sys.tick := congrArg Core.tick hafter
  have hold : (recordTick (lateSnapshot s)).sys.tick = s.sys.tick := congrArg Core.tick hbefore
  rw [htick, idleTick_tick, hold]
  split
  · exact nextTick_le h
  · exact h

/-! ### The statements -/

/-- Settles O7: of the core, which holds the queue, a command moves OTP and the tick counter only. -/
theorem execLeavesQueue : Obligations.ExecLeavesQueue := by
  intro c s t h
  exact (exec_core h).1.pending

/-- Settles O8: of the commands only those that hold the hub in power-on reset touch the counter, and clear it. -/
theorem onlyPowerOnClearsTick : Obligations.OnlyPowerOnClearsTick := by
  intro c s t h
  rcases (exec_core h).2 with htick | ⟨htick, hc⟩
  · exact .inl htick
  · exact .inr ⟨htick, (powersOn_iff c).mp hc⟩

/-- A step keeps OTP and its invariants: it runs a command on the state with the queue's rest, or ends a tick. -/
theorem step_evolves {s t : State} (h : step s = .next t) :
    Evolves { core s with tick := t.sys.tick, pending := s.pending.tail } (core t) := by
  unfold step at h
  split at h <;> rename_i hq
  · cases h
    rw [core_tickStep, hq]
    exact ⟨hq, rfl, (Evolves.refl _).otp, id⟩
  · rw [hq]
    exact (exec_core h).1

theorem step_tickOk {s t : State} (hs : Safety.TickOk s) (h : step s = .next t) : Safety.TickOk t := by
  unfold step at h
  split at h
  · cases h
    exact tickStep_tick_le hs
  · rcases (exec_core h).2 with htick | ⟨htick, -⟩ <;> rw [Safety.TickOk, htick]
    · exact hs
    · exact Nat.zero_le _

/-- Settles O5: the tick counter stays in range, and `step_evolves` carries the rest. -/
theorem stepKeepsInv : Obligations.StepKeepsInv := by
  intro s t hs h
  have hev := step_evolves h
  refine ⟨step_tickOk hs.tick h, hev.floors hs.floors, (hev.otp hs.program).2, fun c hc => hs.queue c ?_⟩
  have hq : t.pending = s.pending.tail := hev.pending
  rw [hq] at hc
  exact List.mem_of_mem_tail hc

/-- Settles O6, by `step_evolves`. -/
theorem stepKeepsOtp : Obligations.StepKeepsOtp := by
  intro s t hs h
  exact ((step_evolves h).otp hs.program).1

/-- Settles O4: every part of the invariant is evaluated at reset. -/
theorem resetIsSafe : Obligations.ResetIsSafe :=
  ⟨Nat.zero_le _, Nat.zero_le _, trivial, nofun⟩

/-- Settles O1: `step` matches on the front of the queue. -/
theorem stepRunsFront : Obligations.StepRunsFront := fun _ _ _ => rfl

end Machine
end Sys2Proof
end

section
/-! Fault events (chapters 21, 22): what `raise` does outside OFF and FATAL, and the entry to FATAL. -/
namespace Sys2Proof
namespace Machine

open Safety

/-- A command that answers a next state is carried out. -/
theorem completes_next {t : State} {P : State → Prop} (h : P t) : Completes (.next t) P := ⟨t, rfl, h⟩

/-! ### Words with parity -/

theorem oddOnes_withParity (c : BitVec 9) : oddOnes (withParity c) = true := by
  revert c
  decide +kernel

theorem setWidth_withParity (c : BitVec 9) : (withParity c).setWidth 9 = c := by
  rw [withParity, BitVec.setWidth_append]
  simp

@[simp] theorem stickyBits_stickSet (f : FaultBank) (bits : BitVec 9) :
    stickyBits (stickSet f bits) = stickyBits f ||| bits := setWidth_withParity _

@[simp] theorem stickyBits_correctedEvent (cont : BitVec 9) (f : FaultBank) (bits : BitVec 9) :
    stickyBits (correctedEvent cont f bits).1 = stickyBits f ||| bits := by
  unfold correctedEvent
  split <;> exact setWidth_withParity _

theorem oddOnes_correctedEvent (cont : BitVec 9) (f : FaultBank) (bits : BitVec 9) :
    oddOnes (correctedEvent cont f bits).1.fst = true := by
  unfold correctedEvent
  split <;> exact oddOnes_withParity _

theorem frx_correctedEvent (cont : BitVec 9) (f : FaultBank) (bits : BitVec 9) :
    (correctedEvent cont f bits).1.frx0 = f.frx0 ∧ (correctedEvent cont f bits).1.frx1 = f.frx1 ∧
      (correctedEvent cont f bits).1.frx2 = f.frx2 := by
  unfold correctedEvent
  split <;> exact ⟨rfl, rfl, rfl⟩

theorem raised_correctedEvent (cont : BitVec 9) (f : FaultBank) (bits : BitVec 9) :
    (correctedEvent cont f bits).1.raised = if cPend cont f = true then f.raised ||| bits else f.raised := by
  unfold correctedEvent
  split <;> rfl

@[simp] theorem srcBits_singleton (k : Nat) : srcBits [k] = srcBit k := by simp [srcBits]

/-! ### What follows a fault event -/

/-- The cores' wake changes of the system block only the hub state, from STANDBY to RUN. -/
theorem coreWake_sys (n : Nat) (s : State) : (coreWake n s).sys = { s.sys with state := (coreWake n s).sys.state } := by
  unfold coreWake
  split <;> rfl

theorem coreWake_state (n : Nat) (s : State) :
    (coreWake n s).sys.state = s.sys.state ∨ (s.sys.state = .standby ∧ (coreWake n s).sys.state = .run) := by
  unfold coreWake
  split
  · exact .inr ⟨‹_›, rfl⟩
  · exact .inl rfl
  · exact .inl rfl

theorem wakeByFault_sys (f : FaultBank) (k : Nat) (e : Bool) (s : State) :
    (wakeByFault f k e s).sys = { s.sys with state := (wakeByFault f k e s).sys.state } := by
  unfold wakeByFault
  split
  · exact coreWake_sys 4 s
  · rfl

theorem wakeByFault_state (f : FaultBank) (k : Nat) (e : Bool) (s : State) :
    (wakeByFault f k e s).sys.state = s.sys.state ∨
      (s.sys.state = .standby ∧ (wakeByFault f k e s).sys.state = .run) := by
  unfold wakeByFault
  split
  · exact coreWake_state 4 s
  · exact .inl rfl

/-- The state after a fault event of source `k` that leaves the bank at `x`: log, recorder and wake. -/
def eventNoted (b : FBlk) (k cls : Nat) (esc : Bool) (freeze : Bool) (f x : FaultBank) (s : State) : State :=
  wakeByFault f k esc (recFreeze 3 freeze true (queueFault b k cls esc (setBank b x s)))

section
variable (b : FBlk) (k cls : Nat) (esc freeze : Bool) (f x : FaultBank) (s : State)

theorem eventNoted_fb : (eventNoted b k cls esc freeze f x s).fb = bankSet s.fb b x := by
  simp [eventNoted, setBank]

theorem eventNoted_state : (eventNoted b k cls esc freeze f x s).sys.state = s.sys.state ∨
    (s.sys.state = .standby ∧ (eventNoted b k cls esc freeze f x s).sys.state = .run) := by
  have hwake := wakeByFault_state f k esc (recFreeze 3 freeze true (queueFault b k cls esc (setBank b x s)))
  simp only [recFreeze_sys, queueFault_sys, setBank_sys] at hwake
  exact hwake

theorem eventNoted_frame : FaultFrame s (eventNoted b k cls esc freeze f x s) := by
  have hsys := wakeByFault_sys f k esc (recFreeze 3 freeze true (queueFault b k cls esc (setBank b x s)))
  simp only [recFreeze_sys, queueFault_sys, setBank_sys] at hsys
  unfold FaultFrame eventNoted
  rw [← hsys]
  apply eq_of_fields_corr <;> simp

end

/-- What the bank of a raised source reads, and what else its event has touched. -/
theorem raised_eventNoted {b : FBlk} {k cls : Nat} {esc freeze : Bool} {f x : FaultBank} {s : State}
    (hbits : stickyBits x = stickyBits (bankGet s.fb b) ||| srcBit k) (hodd : oddOnes x.fst = true)
    (h0 : x.frx0 = (bankGet s.fb b).frx0) (h1 : x.frx1 = (bankGet s.fb b).frx1) (h2 : x.frx2 = (bankGet s.fb b).frx2) :
    Raised b k s (eventNoted b k cls esc freeze f x s) := by
  have hfb := eventNoted_fb b k cls esc freeze f x s
  refine ⟨?_, ?_, ?_, ?_, ?_, fun c hc => ?_, eventNoted_state .., eventNoted_frame ..⟩ <;> rw [hfb, bankGet_bankSet]
  · rwa [if_pos rfl]
  · rwa [if_pos rfl]
  · rwa [if_pos rfl]
  · rwa [if_pos rfl]
  · rwa [if_pos rfl]
  · rw [if_neg hc]

/-! ### One event -/

/-- A corrected event (R742, R744). -/
theorem raise_of_corrected {b : FBlk} {k : Nat} {s : State} (hlive : Live s) (hc : classOf b k = .corrected) :
    raise b k s =
      (let e := correctedEvent (containedMask b) (bankGet s.fb b) (srcBit k)
       eventNoted b k (bit e.2) e.2 (e.2 && bitAt s.rcd.cfg 1) (bankGet s.fb b) e.1 s) := by
  simp [raise, raiseMany, hlive.1, hlive.2, ofClass, hc, raiseCorrected, eventNoted]

/-- A contained event where none stands in the block (R743). -/
theorem raise_of_contained {b : FBlk} {k : Nat} {s : State} (hlive : Live s) (hc : classOf b k = .contained)
    (hnone : NoneContained s b) :
    raise b k s = eventNoted b k 1 false (bitAt s.rcd.cfg 1) (bankGet s.fb b) (stickSet (bankGet s.fb b) (srcBit k)) s := by
  simp [raise, raiseMany, hlive.1, hlive.2, ofClass, hc, raiseContained, eventNoted, hnone]

/-- What an event that stays out of FATAL does. -/
theorem raised_raise {b : FBlk} {k : Nat} {s : State} (hlive : Live s) (h : StaysContained s b k) :
    Raised b k s (raise b k s) := by
  rcases h with hc | ⟨hc, hnone⟩
  · rw [raise_of_corrected hlive hc]
    obtain ⟨h0, h1, h2⟩ := frx_correctedEvent (containedMask b) (bankGet s.fb b) (srcBit k)
    exact raised_eventNoted (stickyBits_correctedEvent ..) (oddOnes_correctedEvent ..) h0 h1 h2
  · rw [raise_of_contained hlive hc hnone]
    exact raised_eventNoted (stickyBits_stickSet ..) (oddOnes_withParity _) rfl rfl rfl

/-- The event is held one class higher exactly where a corrected one stands. -/
theorem raise_raised {b : FBlk} {k : Nat} {s : State} (hlive : Live s) (h : StaysContained s b k) :
    (bankGet (raise b k s).fb b).raised =
      if classOf b k = .corrected ∧ cPend (containedMask b) (bankGet s.fb b) = true then
        (bankGet s.fb b).raised ||| srcBit k else (bankGet s.fb b).raised := by
  rcases h with hc | ⟨hc, hnone⟩
  · rw [raise_of_corrected hlive hc]
    simp [eventNoted_fb, raised_correctedEvent, hc]
  · rw [raise_of_contained hlive hc hnone]
    simp [eventNoted_fb, hc, stickSet, noteEvents]

/-- Settles O9, by the two shapes of an event that stays out of FATAL. -/
theorem faultEventRaised : Obligations.FaultEventRaised :=
  fun _ _ _ hlive h => ⟨raised_raise hlive h, raise_raised hlive h⟩

/-! ### FATAL -/

/-- Entry to FATAL from any state but OFF and FATAL (R753). -/
theorem fatalEntered_fatalEnter (n k kind : Nat) {s : State} (hlive : Live s) :
    FatalEntered n k kind s (fatalEnter n k kind 0 s) := by
  unfold fatalEnter
  simp only [if_neg hlive.1, if_neg hlive.2]
  constructor <;> simp [trimsOff]

/-- A fatal source (R737). -/
theorem raise_of_fatal {b : FBlk} {k : Nat} {s : State} (hlive : Live s) (hc : classOf b k = .fatal) :
    raise b k s =
      fatalEnter (blkNumber b) k 1 0 (queueFault b k 2 false (setBank b (stickSet (bankGet s.fb b) (srcBit k)) s)) := by
  simp [raise, raiseMany, hlive.1, hlive.2, ofClass, hc]

/-- A contained source of a block in which a contained event stands (R743). -/
theorem raise_of_escalated {b : FBlk} {k : Nat} {s : State} (hlive : Live s) (hc : classOf b k = .contained)
    (hpend : uPend (containedMask b) (bankGet s.fb b) = true) :
    raise b k s =
      fatalEnter (blkNumber b) k 2 0 (queueFault b k 2 true (setBank b (stickSet (bankGet s.fb b) (srcBit k)) s)) := by
  simp [raise, raiseMany, hlive.1, hlive.2, ofClass, hc, raiseContained, hpend]

/-- The bank and the record of the event are written before FATAL is entered. -/
theorem fatalEntered_noted {b : FBlk} {n k kind cls : Nat} {esc : Bool} {x : FaultBank} {s : State} (hlive : Live s) :
    FatalEntered n k kind s (fatalEnter n k kind 0 (queueFault b k cls esc (setBank b x s))) := by
  have hnoted : Live (queueFault b k cls esc (setBank b x s)) := by
    rw [Live, queueFault_sys, setBank_sys]
    exact hlive
  have h := fatalEntered_fatalEnter n k kind hnoted
  exact ⟨h.hub, h.latch, h.fatal0, h.fatal1, h.stopped, by simpa using h.tick, h.frozen, by simpa using h.en, h.trims⟩

theorem fatalEntered_raise {b : FBlk} {k : Nat} {s : State} (hlive : Live s) (hc : classOf b k = .fatal) :
    FatalEntered (blkNumber b) k 1 s (raise b k s) := by
  rw [raise_of_fatal hlive hc]
  exact fatalEntered_noted hlive

theorem fatalEntered_raise_escalated {b : FBlk} {k : Nat} {s : State} (hlive : Live s) (hc : classOf b k = .contained)
    (hpend : uPend (containedMask b) (bankGet s.fb b) = true) : FatalEntered (blkNumber b) k 2 s (raise b k s) := by
  rw [raise_of_escalated hlive hc hpend]
  exact fatalEntered_noted hlive

/-- Settles O10: both sources enter FATAL once their bank is written. -/
theorem faultEventFatal : Obligations.FaultEventFatal :=
  ⟨fun _ _ _ hlive hc => fatalEntered_raise hlive hc, fun _ _ _ hlive hc hpend => fatalEntered_raise_escalated hlive hc hpend⟩

end Machine
end Sys2Proof
end

section
/-! The reset values of the register tables. -/
namespace Sys2Proof
namespace Machine

/-- Settles O3: either port reads the reset value in each of the words. -/
theorem resetValues : Obligations.ResetValues :=
  ⟨rfl, rfl, rfl, fun p => by cases p <;> decide +kernel⟩

end Machine
end Sys2Proof
end

section
/-! The idle tick (chapters 03, 09, 10, 26): what a step on an empty queue advances, and what it leaves. -/
namespace Sys2Proof
namespace Machine

open Safety

/-- States with equal fields are equal. -/
theorem eq_of_fields {s t : State} (h0 : s.sys = t.sys) (h1 : s.fatal = t.fatal) (h2 : s.pins = t.pins)
    (h3 : s.sup = t.sup) (h4 : s.start = t.start) (h5 : s.fb = t.fb) (h6 : s.ports = t.ports) (h7 : s.mor = t.mor)
    (h8 : s.ord = t.ord) (h9 : s.slots = t.slots) (h10 : s.tth = t.tth) (h11 : s.sat = t.sat) (h12 : s.ldg = t.ldg)
    (h13 : s.rls = t.rls) (h14 : s.mea = t.mea) (h15 : s.lko = t.lko) (h16 : s.log = t.log) (h17 : s.rnd = t.rnd)
    (h18 : s.upd = t.upd) (h19 : s.rig = t.rig) (h20 : s.rcd = t.rcd) (h21 : s.free = t.free)
    (h22 : s.pending = t.pending) : s = t := by
  cases s
  cases t
  congr

/-! ### Entries of a table under a map -/

/-- Reading a table whose entries were changed, the default staying what it is. -/
theorem tblGet_map {α : Type} {d : α} {f : α → α} (hd : f d = d) (t : Tbl α) (k : Nat) :
    tblGet d (t.map (fun e => (e.1, f e.2))) k = f (tblGet d t k) := by
  induction t with
  | nil => exact hd.symm
  | cons e t ih =>
    simp only [List.map_cons, tblGet, ih]
    split <;> rfl

/-! ### Hub frames -/

theorem hubSend_frame (k : Nat) (e : RingEnd) (f : RingFrame) (s : State) :
    hubSend k e f s = { s with tth := (hubSend k e f s).tth } := rfl

theorem putCmd_frame (pos : Nat) (e : RingEnd) (c : HubCmd) (s : State) :
    putCmd pos e c s = { s with tth := (putCmd pos e c s).tth } := rfl

/-- Starting a queued command moves the tethers and the hub's records of satellites. -/
theorem nextCmd_frame (pos : Nat) (s : State) :
    nextCmd pos s = { s with tth := (nextCmd pos s).tth, sat := { s.sat with views := (nextCmd pos s).sat.views } } := by
  unfold nextCmd
  dsimp only
  split <;> rfl

theorem sendCmd_frame (pos : Nat) (c : HubCmd) (s : State) :
    sendCmd pos c s = { s with tth := (sendCmd pos c s).tth, sat := { s.sat with views := (sendCmd pos c s).sat.views } } := by
  unfold sendCmd
  rw [nextCmd_frame]
  rfl

@[simp] theorem sendCmd_sys (pos : Nat) (c : HubCmd) (s : State) : (sendCmd pos c s).sys = s.sys := by rw [sendCmd_frame]

@[simp] theorem sendCmd_sats (pos : Nat) (c : HubCmd) (s : State) : (sendCmd pos c s).sat.sats = s.sat.sats := by
  rw [sendCmd_frame]

/-! ### The tick's end -/

theorem updNext_sys (pos : Nat) (s : State) : (updNext pos s).sys = s.sys := by
  unfold updNext
  split
  · rfl
  · dsimp only
    split <;> simp

theorem updNext_sats (pos : Nat) (s : State) : (updNext pos s).sat.sats = s.sat.sats := by
  unfold updNext
  split
  · rfl
  · dsimp only
    split <;> simp

@[simp] theorem updPace_sys (s : State) : (updPace s).sys = s.sys := by
  unfold updPace
  split
  · rfl
  · split
    · dsimp only
      split
      · rfl
      · exact updNext_sys ..
    · rfl

@[simp] theorem updPace_sats (s : State) : (updPace s).sat.sats = s.sat.sats := by
  unfold updPace
  split
  · rfl
  · split
    · dsimp only
      split
      · rfl
      · exact updNext_sats ..
    · rfl

/-- Acknowledgments touch the fault words alone. -/
theorem foldl_ackBlock_frame (bits : Nat) (l : List FBlk) (s : State) :
    l.foldl (fun s b => ackBlock b bits s) s = { s with fb := (l.foldl (fun s b => ackBlock b bits s) s).fb } := by
  induction l generalizing s with
  | nil => rfl
  | cons b l ih =>
    rw [List.foldl_cons, ih]
    rfl

theorem foldl_ackBlocks_frame (l : List (Nat × Nat)) (s : State) :
    l.foldl (fun s e => (blksOf e.1).foldl (fun s b => ackBlock b e.2 s) s) s =
      { s with fb := (l.foldl (fun s e => (blksOf e.1).foldl (fun s b => ackBlock b e.2 s) s) s).fb } := by
  induction l generalizing s with
  | nil => rfl
  | cons e l ih =>
    rw [List.foldl_cons, ih, foldl_ackBlock_frame]

theorem dueAcks_frame (s : State) : dueAcks s = { s with fb := (dueAcks s).fb, lko := { s.lko with ackDue := [] } } := by
  unfold dueAcks
  dsimp only
  split
  · rename_i h
    rw [← h]
  · split
    · rw [foldl_ackBlocks_frame]
    · rfl

@[simp] theorem dueAcks_sys (s : State) : (dueAcks s).sys = s.sys := by rw [dueAcks_frame]

@[simp] theorem dueAcks_sats (s : State) : (dueAcks s).sat.sats = s.sat.sats := by rw [dueAcks_frame]

/-! ### Before the tick -/

theorem lateSnapshot_frame (s : State) : lateSnapshot s = { s with sup := (lateSnapshot s).sup } := by
  unfold lateSnapshot
  split
  · dsimp only
    split <;> rfl
  · rfl

@[simp] theorem lateSnapshot_sys (s : State) : (lateSnapshot s).sys = s.sys := by rw [lateSnapshot_frame]

@[simp] theorem lateSnapshot_sat (s : State) : (lateSnapshot s).sat = s.sat := by rw [lateSnapshot_frame]

/-- An event of corrected class leaves of the system block all but the hub state. -/
theorem raise_sys_of_corrected {b : FBlk} {k : Nat} (hc : classOf b k = .corrected) (s : State) :
    (raise b k s).sys = { s.sys with state := (raise b k s).sys.state } := by
  by_cases hlive : Live s
  · have h := (raised_raise hlive (.inl hc)).frame
    rw [h]
  · have hsame : raise b k s = s := by
      have : s.sys.state = .off ∨ s.sys.state = .fatal := by
        by_contra h
        exact hlive (not_or.mp h)
      rcases this with h | h <;> simp [raise, raiseMany, h, ofClass, hc]
    rw [hsame]

theorem recordTick_sys (s : State) : (recordTick s).sys = { s.sys with state := (recordTick s).sys.state } := by
  unfold recordTick
  dsimp only
  split
  · split
    · exact raise_sys_of_corrected (by decide) _
    · rfl
  · rfl

@[simp] theorem recordTick_sat (s : State) : (recordTick s).sat = s.sat := by
  unfold recordTick
  dsimp only
  split
  · split <;> simp
  · rfl

/-! ### The tick itself -/

/-- What the tick drops of a port's words. -/
def dropNoted (h : HostPort) : HostPort := { h with ievtNew := 0, taken := [], said := [] }

theorem idleTick_sys (s : State) : (idleTick s).sys =
    { s.sys with
      tick := (idleTick s).sys.tick, prio := if s.sys.tied then s.sys.prio.other else s.sys.prio, tied := false } := by
  rw [← tickOver_sys s]
  unfold idleTick
  dsimp only
  split <;> rfl

theorem idleTick_sats (s : State) : (idleTick s).sat.sats = s.sat.sats.map (fun e => (e.1, satTick e.2)) := by
  have hsat : (tickOver s).sat = s.sat := by
    unfold tickOver
    rw [foldl_dropTaken_frame]
  rw [← hsat]
  unfold idleTick
  dsimp only
  split <;> rfl

theorem satGet_idleTick (s : State) (k : Nat) : satGet (idleTick s) k = satTick (satGet s k) := by
  unfold satGet
  rw [idleTick_sats]
  exact tblGet_map rfl s.sat.sats k

/-- A step on an empty queue ends a tick. -/
theorem step_of_idle {s : State} (h : s.pending = []) : step s = .next (tickStep s) := by
  unfold step
  rw [h]

theorem tickStep_sys (s : State) : (tickStep s).sys =
    { (recordTick (lateSnapshot s)).sys with
      tick := (tickStep s).sys.tick, prio := if s.sys.tied then s.sys.prio.other else s.sys.prio, tied := false } := by
  have hafter : (tickStep s).sys = (idleTick (recordTick (lateSnapshot s))).sys := by simp [tickStep]
  rw [hafter]
  conv_lhs => rw [idleTick_sys]
  rw [recordTick_sys, lateSnapshot_sys]

theorem tickStep_tick (s : State) :
    (tickStep s).sys.tick = if s.sys.tickRunning then nextTick s.sys.tick else s.sys.tick := by
  have hafter : (tickStep s).sys = (idleTick (recordTick (lateSnapshot s))).sys := by simp [tickStep]
  rw [hafter, idleTick_tick, recordTick_sys, lateSnapshot_sys]

theorem satGet_tickStep (s : State) (k : Nat) : satGet (tickStep s) k = satTick (satGet s k) := by
  have hafter : (tickStep s).sat.sats = (idleTick (recordTick (lateSnapshot s))).sat.sats := by simp [tickStep]
  have hbefore : satGet (recordTick (lateSnapshot s)) k = satGet s k := by simp [satGet]
  rw [← hbefore, ← satGet_idleTick]
  simp [satGet, hafter]

theorem nextTick_of_lt {n : Nat} (h : n < 0xFFFFFFFFFFFFFFF) : nextTick n = n + 1 := if_neg (Nat.ne_of_lt h)

theorem satTick_tick_of_none {x : Sat} (h : x.lock = .none) : (satTick x).tick = x.tick := by simp [satTick, h]

theorem satTick_tick_of_locked {x : Sat} (h : x.lock ≠ .none) : (satTick x).tick = nextTick x.tick := by simp [satTick, h]

/-! ### What the tick drops -/

theorem slotGet_foldl_dropTaken (l : List Nat) (s : State) (k : Nat) :
    slotGet (l.foldl (fun s k => if (slotGet s k).taken = [] then s else modSlot k (fun x => { x with taken := [] }) s) s) k =
      { slotGet s k with taken := if k ∈ l then [] else (slotGet s k).taken } := by
  induction l generalizing s with
  | nil => simp
  | cons j l ih =>
    rw [List.foldl_cons, ih]
    by_cases hk : k = j
    · subst hk
      split
      · rename_i h
        simp [h]
      · simp
    · split <;> simp [hk]

theorem bankGet_banksTick (f : FaultBanks) (b : FBlk) : bankGet (banksTick f) b = bankTick (bankGet f b) := by
  cases b with
  | hst p => cases p <;> rfl
  | ord p => cases p <;> rfl
  | _ => rfl

/-- What a tether notes of the frames of a tick. -/
def tetherDropped (x : Tether) : Tether := { x with taken := [], sent := [] }

/-- The end of a tick, its parts named. -/
theorem tickOver_eq (s : State) : tickOver s =
    { s with
      fb := banksTick s.fb, fatal := { s.fatal with now := false }, ports := ⟨dropNoted s.ports.a, dropNoted s.ports.b⟩
      slots := (tickOver s).slots, tth := { s.tth with tethers := s.tth.tethers.map tetherDropped }
      rls := { s.rls with mrglimNew := 0, released := none }, mea := { s.mea with scanned := none }
      log := { s.log with ops := [], faults := [] }, rcd := { s.rcd with marks := [] }
      lko := { s.lko with
        sourced := false, woken := false, ripped := [], rules := (tickOver s).lko.rules } } := by
  conv_lhs => unfold tickOver
  rw [foldl_dropTaken_frame]
  unfold tickOver
  rw [foldl_dropTaken_frame]
  rfl

theorem slotGet_tickOver (s : State) (k : Nat) :
    slotGet (tickOver s) k = { slotGet s k with taken := if k < 4 then [] else (slotGet s k).taken } := by
  have hmem : k ∈ [0, 1, 2, 3] ↔ k < 4 := by
    simp only [List.mem_cons, List.not_mem_nil, or_false]
    omega
  simp only [← hmem]
  exact slotGet_foldl_dropTaken [0, 1, 2, 3] s k

theorem rules_tickOver (s : State) (k : Nat) :
    tblGet {} (tickOver s).lko.rules k = { tblGet {} s.lko.rules k with hitNew := false, acted := false } := by
  have hlko : (tickOver s).lko.rules =
      s.lko.rules.map (fun e => (e.1, { e.2 with hitNew := false, acted := false })) := by
    unfold tickOver
    rw [foldl_dropTaken_frame]
  rw [hlko]
  exact tblGet_map (d := ({} : LkoRule)) (f := fun x => { x with hitNew := false, acted := false }) rfl s.lko.rules k

/-- The tick of an idle block on top of its end. -/
theorem idleTick_eq (s : State) : idleTick s =
    { tickOver s with sys := (idleTick s).sys, tth := (idleTick s).tth, sat := { s.sat with sats := (idleTick s).sat.sats } } := by
  have hsat : (tickOver s).sat = s.sat := by rw [tickOver_eq]
  unfold idleTick
  dsimp only
  split <;> simp [hsat]

/-- What the tick of an idle block may change. -/
theorem idleTick_frame (s : State) : idleTick s =
    { s with
      sys := { s.sys with tick := (idleTick s).sys.tick, prio := (idleTick s).sys.prio, tied := false }
      fb := (idleTick s).fb, fatal := { s.fatal with now := false }, ports := (idleTick s).ports
      slots := (idleTick s).slots, sat := { s.sat with sats := (idleTick s).sat.sats }, tth := (idleTick s).tth
      rls := { s.rls with mrglimNew := 0, released := none }, mea := { s.mea with scanned := none }
      log := { s.log with ops := [], faults := [] }, rcd := { s.rcd with marks := [] }
      lko := { s.lko with
        sourced := false, woken := false, ripped := [], rules := (idleTick s).lko.rules } } := by
  have hover := idleTick_eq s
  rw [tickOver_eq] at hover
  have hsys := idleTick_sys s
  have hprio : (idleTick s).sys.prio = if s.sys.tied then s.sys.prio.other else s.sys.prio := congrArg Sys.prio hsys
  rw [← hprio] at hsys
  refine eq_of_fields hsys ?_ ?_ ?_ ?_ ?_ ?_ ?_ ?_ ?_ ?_ ?_ ?_ ?_ ?_ ?_ ?_ ?_ ?_ ?_ ?_ ?_ ?_ <;> rw [hover]

theorem tetherGet_idleTick {s : State} {k : Nat} (hk : k < 4) (hquiet : (tetherGet s k).quiet = none) :
    tetherGet (idleTick s) k = tetherDropped (tetherGet s k) := by
  have hget : ∀ u : State, tetherGet u k = u.tth.tethers[k] := fun u => by simp [tetherGet, hk]
  rw [hget] at hquiet
  have hover : (tickOver s).tth.tethers = s.tth.tethers.map tetherDropped := by rw [tickOver_eq]
  have hstay : ∀ n, tetherTick n (tetherDropped (s.tth.tethers[k])) = tetherDropped (s.tth.tethers[k]) := fun n => by
    simp [tetherTick, tetherDropped, hquiet]
  rw [hget, hget]
  unfold idleTick
  dsimp only
  split <;> simp [hover, hstay]

/-! ### Where nothing is due -/

/-- With no recording, no record, no acknowledgment and no update data due, the step is the tick alone. -/
theorem tickStep_of_quiet {s : State} (hrec : s.rcd.recording = false) (hclose : s.rcd.closing = false)
    (hsnap : s.sup.snapshot = none) (hupd : s.upd.nextAt = none) (hack : s.lko.ackDue = []) :
    tickStep s = idleTick s := by
  have hlate : lateSnapshot s = s := by simp [lateSnapshot, hsnap]
  have hrecord : recordTick s = s := by simp [recordTick, hrec, hclose]
  have hpace : updPace (idleTick s) = idleTick s := by
    have : (idleTick s).upd.nextAt = none := by rw [idleTick_eq, tickOver_eq]; exact hupd
    simp [updPace, this]
  have hacks : dueAcks (idleTick s) = idleTick s := by
    have : (idleTick s).lko.ackDue = [] := by rw [idleTick_eq, tickOver_eq]; exact hack
    simp [dueAcks, this]
  rw [tickStep, hlate, hrecord, hpace, hacks]

/-- What an idle step of any state advances. -/
theorem idleStep_advances (s : State) (hq : s.pending = []) :
    Completes (step s) fun t =>
      (s.sys.tickRunning = true → s.sys.tick < 0xFFFFFFFFFFFFFFF → t.sys.tick = s.sys.tick + 1) ∧
      (s.sys.tickRunning = true → s.sys.tick = 0xFFFFFFFFFFFFFFF → t.sys.tick = 0) ∧
      (s.sys.tickRunning = false → t.sys.tick = s.sys.tick) ∧
      t.sys.prio = (if s.sys.tied then s.sys.prio.other else s.sys.prio) ∧ t.sys.tied = false ∧
      (∀ k, (satGet s k).lock = .none → (satGet t k).tick = (satGet s k).tick) ∧
      (∀ k, (satGet s k).lock ≠ .none → (satGet s k).tick < 0xFFFFFFFFFFFFFFF →
        (satGet t k).tick = (satGet s k).tick + 1) := by
  rw [step_of_idle hq]
  refine completes_next ⟨fun hrun hlt => ?_, fun hrun hlast => ?_, fun hstop => ?_, ?_, ?_, fun k hk => ?_, fun k hk hlt => ?_⟩
  · rw [tickStep_tick, hrun, if_pos rfl, nextTick_of_lt hlt]
  · rw [tickStep_tick, hrun, if_pos rfl, hlast]
    rfl
  · rw [tickStep_tick, hstop, if_neg Bool.false_ne_true]
  · rw [tickStep_sys]
  · rw [tickStep_sys]
  · rw [satGet_tickStep, satTick_tick_of_none hk]
  · rw [satGet_tickStep, satTick_tick_of_locked hk, nextTick_of_lt hlt]

/-- A satellite's tick moves its counter, its outputs where it has a clock, and what its fault bank holds of the tick. -/
theorem satTick_eq (x : Sat) : satTick x =
    { x with
      fault := { x.fault with now := none }, tick := (satTick x).tick, outF := (satTick x).outF, outK := (satTick x).outK } := by
  unfold satTick
  split <;> rfl

/-- Settles O2: the step is a tick, and where nothing is due it is `idleTick`, whose parts are named above. -/
theorem idleStepTicks : Obligations.IdleStepTicks := by
  refine ⟨idleStep_advances, fun s hq hrec hclose hsnap hupd hack => ?_⟩
  rw [step_of_idle hq, tickStep_of_quiet hrec hclose hsnap hupd hack]
  refine completes_next ⟨fun b => ?_, fun p => ?_, fun k => ?_, fun k => ?_, fun k hk => ?_,
    fun k hk hquiet => tetherGet_idleTick hk hquiet, fun k => ?_, ?_⟩
  · rw [idleTick_eq, tickOver_eq]
    exact bankGet_banksTick s.fb b
  · rw [idleTick_eq, tickOver_eq]
    cases p <;> rfl
  · rw [idleTick_eq]
    exact slotGet_tickOver s k
  · rw [satGet_idleTick]
    exact satTick_eq _
  · rw [satGet_idleTick]
    simp [satTick, hk]
  · rw [idleTick_eq]
    exact rules_tickOver s k
  · exact idleTick_frame s

end Machine
end Sys2Proof
end

section
/-! What the resets leave of the flash (chapters 05, 07), and one rule per slot operation on the local slots. -/
namespace Sys2Proof
namespace Machine

open Safety

/-! ### Flash contents -/

/-- The flash contents of the update block and of the log, and the satellites: what `FlashKept` says of them. -/
structure Flash where
  banks : FwBank × FwBank
  stores : StoreSlot × StoreSlot
  sets : SetBank × SetBank
  ring : Tbl LogSector
  snaps : List (Nat × Nat × Snapshot)
  sats : Tbl Sat

/-- The flash of a state. -/
def flash (s : State) : Flash :=
  ⟨(s.upd.bankA, s.upd.bankB), (s.upd.store0, s.upd.store1), (s.upd.setA, s.upd.setB), s.log.ring, s.log.snaps, s.sat.sats⟩

/-- The rig banks are kept where no write of them runs. -/
def RigBanksKept (s t : State) : Prop :=
  rigWrites s.rig = false → t.rig.bankA = s.rig.bankA ∧ t.rig.bankB = s.rig.bankB

theorem flashKept_of_flash {s t : State} (hcore : t.rnd.otp = s.rnd.otp) (hflash : flash t = flash s)
    (hrig : RigBanksKept s t) : FlashKept s t := by
  simp only [flash, Flash.mk.injEq, Prod.mk.injEq] at hflash
  obtain ⟨⟨hA, hB⟩, ⟨h0, h1⟩, ⟨hsA, hsB⟩, hring, hsnaps, hsats⟩ := hflash
  exact ⟨hcore, hA, hB, h0, h1, hsA, hsB, fun h => (hrig h).1, fun h => (hrig h).2, hring, hsnaps, hsats⟩

@[simp] theorem flash_modSlot (k : Nat) (f : Slot → Slot) (s : State) : flash (modSlot k f s) = flash s := rfl

@[simp] theorem flash_queueRec (ty : Nat) (l : List Nat) (s : State) : flash (queueRec ty l s) = flash s := by
  have hlog : (queueRec ty l s).log.ring = s.log.ring ∧ (queueRec ty l s).log.snaps = s.log.snaps := by
    unfold queueRec
    dsimp only
    (repeat' split) <;> exact ⟨rfl, rfl⟩
  simp [flash, hlog]

@[simp] theorem flash_cutFetch (s : State) : flash (cutFetch s) = flash s := by
  unfold cutFetch
  split <;> rfl

@[simp] theorem flash_fallSlot (k c : Nat) (e d : Bool) (x : Option SlotState) (y : Option Nat) (s : State) :
    flash (fallSlot k c e d x y s) = flash s := by
  unfold fallSlot
  dsimp only
  split <;> split <;> simp

@[simp] theorem flash_dropRun (k : Nat) (s : State) : flash (dropRun k s) = flash s := by
  rw [dropRun_frame]
  rfl

@[simp] theorem flash_ripcordLocals (s : State) : flash (ripcordLocals s) = flash s := by simp [ripcordLocals]

@[simp] theorem flash_recFreeze (c : Nat) (e d : Bool) (s : State) : flash (recFreeze c e d s) = flash s := by
  rw [recFreeze_frame]
  rfl

@[simp] theorem flash_ripcordTethers (b : Bool) (s : State) : flash (ripcordTethers b s) = flash s := rfl

@[simp] theorem flash_trimsOff (s : State) : flash (trimsOff s) = flash s := rfl

@[simp] theorem flash_resetSafe (s : State) : flash (resetSafe s) = flash s := by simp [resetSafe]

@[simp] theorem flash_endRecord (s : State) : flash (endRecord s) = flash s := by
  unfold endRecord
  split <;> rfl

@[simp] theorem flash_resetBlocks (s : State) : flash (resetBlocks s) = flash s := rfl

@[simp] theorem flash_railsOff (s : State) : flash (railsOff s) = flash s := rfl

theorem endRecord_frame (s : State) : endRecord s = { s with sup := (endRecord s).sup } := by
  unfold endRecord
  split <;> rfl

theorem resetSafe_frame (s : State) : resetSafe s =
    { s with
      rcd := (resetSafe s).rcd, tth := (resetSafe s).tth, slots := (resetSafe s).slots, log := (resetSafe s).log
      upd := (resetSafe s).upd, ord := (resetSafe s).ord, mor := (resetSafe s).mor, ldg := (resetSafe s).ldg
      rls := (resetSafe s).rls, pins := (resetSafe s).pins } := by
  apply eq_of_fields <;> simp [resetSafe]

@[simp] theorem resetSafe_sys (s : State) : (resetSafe s).sys = s.sys := by rw [resetSafe_frame]
@[simp] theorem resetSafe_fatal (s : State) : (resetSafe s).fatal = s.fatal := by rw [resetSafe_frame]
@[simp] theorem resetSafe_sup (s : State) : (resetSafe s).sup = s.sup := by rw [resetSafe_frame]
@[simp] theorem resetSafe_start (s : State) : (resetSafe s).start = s.start := by rw [resetSafe_frame]
@[simp] theorem resetSafe_rig (s : State) : (resetSafe s).rig = s.rig := by rw [resetSafe_frame]
@[simp] theorem endRecord_sys (s : State) : (endRecord s).sys = s.sys := by rw [endRecord_frame]
@[simp] theorem endRecord_fatal (s : State) : (endRecord s).fatal = s.fatal := by rw [endRecord_frame]
@[simp] theorem endRecord_start (s : State) : (endRecord s).start = s.start := by rw [endRecord_frame]
@[simp] theorem endRecord_rig (s : State) : (endRecord s).rig = s.rig := by rw [endRecord_frame]
@[simp] theorem endRecord_rls (s : State) : (endRecord s).rls = s.rls := by rw [endRecord_frame]

/-- A rig bank that no write of the rig is under way to survives the reset of the rig block (R75). -/
theorem resetRig_banks {r : RigBlock} (h : rigWrites r = false) :
    (resetRig r).bankA = r.bankA ∧ (resetRig r).bankB = r.bankB := by simp [resetRig, h]

/-- The state that a power-on reset starts from: RESET entered, the rails off. -/
def blocksOff (s : State) : State := railsOff (resetBlocks (resetSafe (endRecord s)))

/-- A power-on reset on top of `blocksOff`. -/
theorem powerOn_eq (s : State) : powerOn s = { blocksOff s with
    sys := { (blocksOff s).sys with tick := 0, tickRunning := false, pllLocked := false, slips := 0 }
    start := { (blocksOff s).start with streak := 0, count := 0, nextCause := 0, nextBlock := 0, resetHold := .por }
    sup := { (blocksOff s).sup with por := true, pfcnt := 0, charger := false, retireDue := [] }
    log := { (blocksOff s).log with queue := [] }
    rcd := { area0 := (blocksOff s).rcd.area0, area1 := (blocksOff s).rcd.area1
             armed0 := (blocksOff s).rcd.armed0 && !(blocksOff s).rcd.dumping
             armed1 := (blocksOff s).rcd.armed1 && !(blocksOff s).rcd.dumping } } := rfl

theorem core_blocksOff (s : State) : core (blocksOff s) = core s := by simp [blocksOff]

theorem flash_blocksOff (s : State) : flash (blocksOff s) = flash s := by simp [blocksOff]

theorem blocksOff_rig (s : State) : (blocksOff s).rig = resetRig s.rig := by
  have hblocks : (blocksOff s).rig = resetRig (resetSafe (endRecord s)).rig := by simp only [blocksOff, railsOff, resetBlocks]
  rw [hblocks, resetSafe_rig, endRecord_rig]

theorem blocksOff_fatal (s : State) : (blocksOff s).fatal = s.fatal := by
  have hblocks : (blocksOff s).fatal = (resetSafe (endRecord s)).fatal := by simp only [blocksOff, railsOff, resetBlocks]
  rw [hblocks, resetSafe_fatal, endRecord_fatal]

theorem flashKept_powerOn (s : State) : FlashKept s (powerOn s) := by
  have hcore := core_blocksOff s
  have hflash := flash_blocksOff s
  have hrig := blocksOff_rig s
  rw [powerOn_eq]
  generalize blocksOff s = u at hcore hflash hrig
  refine flashKept_of_flash (congrArg Core.otp hcore) hflash fun h => ?_
  rw [hrig]
  exact resetRig_banks h

theorem powerOn_fatal (s : State) : (powerOn s).fatal = s.fatal := by rw [powerOn_eq, blocksOff_fatal]

/-- What a power-on reset puts at its reset value, whatever state it comes from. -/
theorem powerOn_words (s : State) :
    (powerOn s).sys.state = .reset ∧ (powerOn s).sys.tick = 0 ∧ (powerOn s).sys.tickRunning = false ∧
    (powerOn s).sys.pllLocked = false ∧ (powerOn s).sup.por = true ∧ (powerOn s).rls = {} ∧ (powerOn s).pins.en = 0 ∧
    (powerOn s).pins.trmZ = 0xFF ∧ (powerOn s).ports = ⟨{}, {}⟩ ∧ (powerOn s).mor = {} ∧ (powerOn s).ord.orders = [] ∧
    (powerOn s).start.nextCause = 0 ∧ (powerOn s).start.streak = 0 ∧ (powerOn s).start.count = 0 := by
  rw [powerOn_eq]
  simp only [blocksOff, railsOff, resetBlocks, and_self]

theorem powerOn_sup (s : State) : (powerOn s).sup =
    { (endRecord s).sup with
      holdc := 0x3FF, holde := 0x3FF, checking := false, vPf := 55, por := true, pfcnt := 0, charger := false
      retireDue := [] } := by
  rw [powerOn_eq]
  simp only [blocksOff, railsOff, resetBlocks, resetSafe_sup]

/-! ### Falling slots -/

/-- A deactivation changes its own slot. -/
theorem slotGet_fallSlot (k c : Nat) (e d : Bool) (x : Option SlotState) (y : Option Nat) (s : State) (j : Nat) :
    slotGet (fallSlot k c e d x y s) j = if j = k then slotFall c e d x y s.sys.tick (slotGet s k) else slotGet s j := by
  have hcut : ∀ i, slotGet (if k = 0 then cutFetch s else s) i = slotGet s i := fun i => by split <;> simp
  unfold fallSlot
  dsimp only
  split <;> simp [hcut]

/-- Off L0, and at L0 outside an update flow, a deactivation leaves the update block. -/
theorem fallSlot_upd {k c : Nat} {e d : Bool} {x : Option SlotState} {y : Option Nat} {s : State}
    (h : k = 0 → (slotGet s 0).st ≠ .updating) : (fallSlot k c e d x y s).upd = s.upd := by
  have hcut : (if k = 0 then cutFetch s else s).upd = s.upd := by
    split
    · rename_i hk
      simp [cutFetch, h hk]
    · rfl
  unfold fallSlot
  dsimp only
  split <;> simp [hcut]

end Machine
end Sys2Proof
end

section
/-! Supplies (chapters 01, 05): power-on reset, OFF, the buck, VSL5 and VIO. -/
namespace Sys2Proof
namespace Machine

open Safety

/-! ### Causes of emergency at a local slot -/

/-- Events of no source are no events. -/
@[simp] theorem raiseMany_nil (b : FBlk) (s : State) : raiseMany b [] s = s := by simp [raiseMany, ofClass]

/-- Where a slot is not in session and does not fall since this tick, no cause acts. -/
theorem emergency_of_idle {k : Nat} {s : State} (causes : List Nat) (h : inSession (slotGet s k) = false)
    (hf : fallsNow s (slotGet s k) = false) : emergency k causes s = s := by
  unfold emergency
  cases causes <;> simp [h, hf]

/-- The status that the order at a slot ends with by its causes of emergency: SAFE_STATE where a ripcord acts. -/
def causesStatus (x : Slot) (causes : List Nat) (top : Nat) : Nat :=
  if causes.contains 7 then 0x085 else causeStatus (x.sd.writing || !x.sd.runDone.isEmpty) top

/-- The causes that count and are raised: a removal only where VCC was on. -/
def causesCounted (s : State) (x : Slot) (causes : List Nat) : List Nat :=
  causes.filter (fun c => !(decide (c = 2) && !(x.pins.vccOn || fallsNow s x)))

/-- A local slot keeps no character trace. -/
theorem traceAdd_local {k : Nat} (hk : k < 4) (kind data : Nat) (s : State) : traceAdd k kind data s = s := by
  simp [traceAdd, isLocal, hk]

/-- The causes of emergency of a tick deactivate a local slot that is in session, or falls since this tick. -/
theorem emergency_local {k own : Nat} {others : List Nat} {s : State} (hk : k < 4)
    (h : inSession (slotGet s k) = true ∨ fallsNow s (slotGet s k) = true) :
    emergency k (own :: others) s =
      (let causes := own :: others
       let top := topCause own others
       let counted := causesCounted s (slotGet s k) causes
       causeFaults k counted (counted.foldl (fun s c => causeCounts k c s)
        (fallSlot k top true (decide (1 < causes.length)) (causeEnd top)
          (some (causesStatus (slotGet s k) causes top)) s))) := by
  have hsat : satOfSlot k = 0 := Nat.div_eq_of_lt hk
  have hlocal : isLocal k = true := by simp [isLocal, hk]
  have hact : ¬((!inSession (slotGet s k) && !fallsNow s (slotGet s k)) = true) := by
    rcases h with h | h <;> simp [h]
  have hstir : satStir 0 s = s := rfl
  have htrace : ∀ (l : List Nat) (f : Nat → Nat) (u : State), l.foldl (fun s c => traceAdd k 4 (f c) s) u = u := by
    intro l f u
    induction l with
    | nil => rfl
    | cons c l ih => rw [List.foldl_cons, traceAdd_local hk, ih]
  unfold emergency
  simp only [hact, hsat, hstir, hlocal, if_true]
  rw [htrace]
  rfl

/-- VSL5's fall acts on a local slot that is in session, or falls since this very tick. -/
theorem emergency_vsl {k : Nat} {s : State} (hk : k < 4)
    (h : inSession (slotGet s k) = true ∨ fallsNow s (slotGet s k) = true) :
    emergency k [6] s = fallSlot k 6 true false none (some 0x044) s := by
  have hlocal : isLocal k = true := by simp [isLocal, hk]
  rw [emergency_local hk h]
  simp [causesCounted, causesStatus, causeFaults, causeCounts, topCause, causeEnd, causeStatus, hlocal]

/-! ### VSL5 -/

/-- VSL5's fall at some of the local slots. -/
def vslFalls (l : List Nat) (s : State) : State := l.foldl (fun s k => emergency k [6] s) s

theorem emergency_vsl_frame {k : Nat} (hk : k < 4) (s : State) :
    emergency k [6] s = { s with
      slots := (emergency k [6] s).slots, log := (emergency k [6] s).log, upd := (emergency k [6] s).upd } := by
  by_cases h : inSession (slotGet s k) = true ∨ fallsNow s (slotGet s k) = true
  · rw [emergency_vsl hk h, fallSlot_frame]
  · obtain ⟨h1, h2⟩ := not_or.mp h
    rw [emergency_of_idle [6] (Bool.not_eq_true _ ▸ h1) (Bool.not_eq_true _ ▸ h2)]

theorem vslFalls_frame {l : List Nat} (hl : ∀ k ∈ l, k < 4) (s : State) :
    vslFalls l s = { s with slots := (vslFalls l s).slots, log := (vslFalls l s).log, upd := (vslFalls l s).upd } := by
  induction l generalizing s with
  | nil => rfl
  | cons k l ih =>
    have hk := emergency_vsl_frame (hl k (List.mem_cons_self ..)) s
    have hrest : vslFalls (k :: l) s = vslFalls l (emergency k [6] s) := rfl
    rw [hrest, ih (fun j hj => hl j (List.mem_cons_of_mem _ hj)), hk]

/-- What VSL5's fall makes of a slot. -/
def vslSlot (s : State) (x : Slot) : Slot :=
  if inSession x || fallsNow s x then slotFall 6 true false none (some 0x044) s.sys.tick x else x

theorem slotGet_emergency_vsl {k : Nat} (hk : k < 4) (s : State) (j : Nat) :
    slotGet (emergency k [6] s) j = if j = k then vslSlot s (slotGet s k) else slotGet s j := by
  by_cases h : inSession (slotGet s k) = true ∨ fallsNow s (slotGet s k) = true
  · rw [emergency_vsl hk h, slotGet_fallSlot]
    simp [vslSlot, h]
  · obtain ⟨h1, h2⟩ := not_or.mp h
    rw [Bool.not_eq_true] at h1 h2
    rw [emergency_of_idle [6] h1 h2]
    split
    · rename_i hj
      rw [hj]
      simp [vslSlot, h1, h2]
    · rfl

/-- Each of the slots falls once, whatever falls before it. -/
theorem slotGet_vslFalls {l : List Nat} (hl : ∀ k ∈ l, k < 4) (hnd : l.Nodup) (s : State) (j : Nat) :
    slotGet (vslFalls l s) j = if j ∈ l then vslSlot s (slotGet s j) else slotGet s j := by
  induction l generalizing s with
  | nil => simp [vslFalls]
  | cons k l ih =>
    have hk : k < 4 := hl k (List.mem_cons_self ..)
    have htick : (emergency k [6] s).sys = s.sys := by rw [emergency_vsl_frame hk]
    have hslot : ∀ x, vslSlot (emergency k [6] s) x = vslSlot s x := fun x => by simp [vslSlot, fallsNow, htick]
    have hrest : vslFalls (k :: l) s = vslFalls l (emergency k [6] s) := rfl
    rw [hrest, ih (fun i hi => hl i (List.mem_cons_of_mem _ hi)) (List.nodup_cons.mp hnd).2, hslot,
      slotGet_emergency_vsl hk]
    by_cases hj : j = k
    · subst hj
      simp [(List.nodup_cons.mp hnd).1]
    · simp [hj]

theorem vslFalls_upd {l : List Nat} (hl : ∀ k ∈ l, k < 4) {s : State} (h : (slotGet s 0).st ≠ .updating) :
    (vslFalls l s).upd = s.upd := by
  induction l generalizing s with
  | nil => rfl
  | cons k l ih =>
    have hk : k < 4 := hl k (List.mem_cons_self ..)
    have hupd : (emergency k [6] s).upd = s.upd := by
      by_cases ha : inSession (slotGet s k) = true ∨ fallsNow s (slotGet s k) = true
      · rw [emergency_vsl hk ha, fallSlot_upd fun _ => h]
      · obtain ⟨h1, h2⟩ := not_or.mp ha
        rw [emergency_of_idle [6] (Bool.not_eq_true _ ▸ h1) (Bool.not_eq_true _ ▸ h2)]
    have hstays : (slotGet (emergency k [6] s) 0).st ≠ .updating := by
      rw [slotGet_emergency_vsl hk]
      split
      · rename_i hk0
        subst hk0
        unfold vslSlot slotFall mergeFall
        (repeat' split) <;> simp_all
      · exact h
    exact (ih (fun i hi => hl i (List.mem_cons_of_mem _ hi)) hstays).trans hupd

theorem vslFall_eq (s : State) : vslFall s =
    (let u := vslFalls [0, 1, 2, 3] { s with sup := { s.sup with vsl5Ok := false } }
     if [0, 1, 2, 3].any (fun k => (slotGet s k).pins.vccOn) then raise .slt 4 u else u) := rfl

/-- The four local slots. -/
theorem local_slots : ∀ k ∈ [0, 1, 2, 3], k < 4 := by decide

theorem mem_local_slots (k : Nat) : k ∈ [0, 1, 2, 3] ↔ k < 4 := by
  simp only [List.mem_cons, List.not_mem_nil, or_false]
  omega

theorem any_local_slots (f : Nat → Bool) : [0, 1, 2, 3].any f = true ↔ ∃ k, k < 4 ∧ f k = true := by
  simp only [List.any_eq_true, mem_local_slots]

/-! ### What a fault event leaves -/

section
variable {s t : State} (h : FaultFrame s t)
include h

theorem faultFrame_pins : t.pins = s.pins := by
  rw [FaultFrame] at h
  rw [h]

theorem faultFrame_sup : t.sup = s.sup := by
  rw [FaultFrame] at h
  rw [h]

theorem faultFrame_start : t.start = s.start := by
  rw [FaultFrame] at h
  rw [h]

theorem faultFrame_mor : t.mor = s.mor := by
  rw [FaultFrame] at h
  rw [h]

theorem faultFrame_ord : t.ord = s.ord := by
  rw [FaultFrame] at h
  rw [h]

theorem faultFrame_slots : t.slots = s.slots := by
  rw [FaultFrame] at h
  rw [h]

theorem faultFrame_tth : t.tth = s.tth := by
  rw [FaultFrame] at h
  rw [h]

theorem faultFrame_sat : t.sat = s.sat := by
  rw [FaultFrame] at h
  rw [h]

theorem faultFrame_ldg : t.ldg = s.ldg := by
  rw [FaultFrame] at h
  rw [h]

theorem faultFrame_rls : t.rls = s.rls := by
  rw [FaultFrame] at h
  rw [h]

theorem faultFrame_mea : t.mea = s.mea := by
  rw [FaultFrame] at h
  rw [h]

theorem faultFrame_rnd : t.rnd = s.rnd := by
  rw [FaultFrame] at h
  rw [h]

theorem faultFrame_upd : t.upd = s.upd := by
  rw [FaultFrame] at h
  rw [h]

theorem faultFrame_rig : t.rig = s.rig := by
  rw [FaultFrame] at h
  rw [h]

theorem faultFrame_tick : t.sys.tick = s.sys.tick := by
  rw [FaultFrame] at h
  rw [h]

end

theorem faultFrame_refl (s : State) : FaultFrame s s := rfl

/-- The fall of VSL5 with what it does to the local slots (R142). -/
theorem completes_vsl5Fall (s : State) (hok : s.sup.vsl5Ok = true) (hlive : Live s) (_ : NoneContained s .slt) :
    Completes (exec .vsl5Fall s) fun t =>
      (∀ k, k < 4 → inSession (slotGet s k) = true →
        (slotGet t k).st = .falling ∧ (slotGet t k).cause = 6 ∧ (slotGet t k).emergency = true ∧
        (slotGet t k).pins = contactsOff ∧ (slotGet t k).fallStatus = some 0x044) ∧
      (∀ k, 4 ≤ k ∨ (inSession (slotGet s k) = false ∧ fallsNow s (slotGet s k) = false) → slotGet t k = slotGet s k) ∧
      ((slotGet s 0).st ≠ .updating → t.upd = s.upd) ∧
      ((∀ k, k < 4 → (slotGet s k).pins.vccOn = false) → t.fb = s.fb) ∧
      ((∃ k, k < 4 ∧ (slotGet s k).pins.vccOn = true) →
        stickyBits t.fb.slt = stickyBits s.fb.slt ||| srcBit 4) ∧
      FaultFrame { s with sup := { s.sup with vsl5Ok := false }, slots := t.slots, upd := t.upd } t := by
  have hexec : exec .vsl5Fall s = .next (vslFall s) := by
    rw [show exec .vsl5Fall s = execVsl5Fall s from rfl, execVsl5Fall, if_pos hok]
  rw [hexec, vslFall_eq]
  set s0 : State := { s with sup := { s.sup with vsl5Ok := false } } with hs0
  set u := vslFalls [0, 1, 2, 3] s0 with hu
  have huframe : u = { s0 with slots := u.slots, log := u.log, upd := u.upd } := vslFalls_frame local_slots s0
  have hufb : u.fb = s.fb := by rw [huframe]
  have husys : u.sys = s.sys := by rw [huframe]
  have hulive : Live u := by rw [Live, husys]; exact hlive
  have hustays : StaysContained u .slt 4 := .inl (by decide)
  set on := [0, 1, 2, 3].any (fun k => (slotGet s k).pins.vccOn) with hon
  have hraised : Raised .slt 4 u (raise .slt 4 u) := raised_raise hulive hustays
  have hframe : FaultFrame u (if on then raise .slt 4 u else u) := by
    split
    · exact hraised.frame
    · exact faultFrame_refl u
  have hslot : ∀ k, slotGet (if on then raise .slt 4 u else u) k =
      if k < 4 then vslSlot s (slotGet s k) else slotGet s k := fun k => by
    have hsame : slotGet (if on then raise .slt 4 u else u) k = slotGet u k := by rw [slotGet, faultFrame_slots hframe, slotGet]
    rw [hsame, hu, slotGet_vslFalls local_slots (by decide)]
    simp only [mem_local_slots]
    rfl
  refine completes_next ⟨fun k hk hin => ?_, fun k hk => ?_, fun h => ?_, fun h => ?_, fun h => ?_, ?_⟩
  · rw [hslot, if_pos hk]
    simp [vslSlot, hin, slotFall]
  · rw [hslot]
    rcases hk with hk | ⟨h1, h2⟩
    · rw [if_neg (by omega)]
    · simp [vslSlot, h1, h2]
  · rw [faultFrame_upd hframe, hu, vslFalls_upd (s := s0) local_slots h]
  · have hoff : on = false := by
      rw [hon, ← Bool.not_eq_true, any_local_slots]
      rintro ⟨k, hk, hv⟩
      rw [h k hk] at hv
      cases hv
    rw [hoff, if_neg Bool.false_ne_true, hufb]
  · have honTrue : on = true := (any_local_slots _).mpr h
    rw [honTrue, if_pos rfl, ← hufb]
    exact hraised.bits
  · generalize (if on then raise .slt 4 u else u) = t at hframe
    unfold FaultFrame at hframe ⊢
    rw [hframe, huframe]

/-! ### The other supplies -/

/-- The supplies hold no flash content. -/
theorem flashKept_of_sup {s t : State} {x : Supply} (h : FlashKept { s with sup := x } t) : FlashKept s t := by
  obtain ⟨h0, h1, h2, h3, h4, h5, h6, h7, h8, h9, h10, h11⟩ := h
  exact ⟨h0, h1, h2, h3, h4, h5, h6, h7, h8, h9, h10, h11⟩

/-- POWER_ON_RESET (R139, R140). -/
theorem completes_powerOnReset (rail : Nat) (s : State) (hs : s.sys.state ≠ .off) (hrail : rail < 3) :
    Completes (exec (.powerOnReset rail) s) fun t =>
      t.sys.state = .reset ∧ t.sup.por = true ∧ t.sys.tick = 0 ∧ t.sys.tickRunning = false ∧ t.sys.pllLocked = false ∧
      t.rls = {} ∧ t.pins.en = 0 ∧ t.pins.trmZ = 0xFF ∧ t.ports = ⟨{}, {}⟩ ∧ t.mor = {} ∧ t.ord.orders = [] ∧
      t.start.nextCause = 0 ∧ t.start.streak = 0 ∧ t.start.count = 0 ∧ t.fatal = s.fatal ∧ FlashKept s t := by
  have hexec : exec (.powerOnReset rail) s = .next (powerOn { s with sup := supplyFalls rail s.sup }) := by
    rw [show exec (.powerOnReset rail) s = execPowerOnReset rail s from rfl, execPowerOnReset, if_neg]
    rintro (h | h)
    · exact hs h
    · omega
  rw [hexec]
  obtain ⟨hstate, htick, hrun, hpll, hpor, hrls, hen, htrm, hports, hmor, hord, hcause, hstreak, hcount⟩ :=
    powerOn_words { s with sup := supplyFalls rail s.sup }
  exact completes_next ⟨hstate, hpor, htick, hrun, hpll, hrls, hen, htrm, hports, hmor, hord, hcause, hstreak, hcount,
    powerOn_fatal _, flashKept_of_sup (flashKept_powerOn _)⟩

/-- The local slots without supply. -/
def slotsUnpowered (s : State) : State := [0, 1, 2, 3].foldl (fun s k => modSlot k unpoweredSlot s) s

theorem slotsUnpowered_frame (s : State) : slotsUnpowered s = { s with slots := (slotsUnpowered s).slots } := by
  apply eq_of_fields <;> simp [slotsUnpowered]

/-- PRE_COLLAPSE (R28). -/
theorem completes_preCollapse (s : State) (hs : s.sys.state ≠ .off) :
    Completes (exec .preCollapse s) fun t =>
      t.sys.state = .off ∧ t.sup.preOk = false ∧ t.sup.buck = false ∧ t.sup.pf = false ∧ t.sys.tick = 0 ∧
      t.sys.alarm = false ∧ t.rls = {} ∧ t.fatal = s.fatal ∧ FlashKept s t := by
  have hexec : exec .preCollapse s = .next (collapse s) := by
    rw [show exec .preCollapse s = execPreCollapse s from rfl, execPreCollapse, if_neg hs]
  rw [hexec]
  set s0 : State := { s with sup := { s.sup with preOk := false, v18cOk := false, vdcOk := false, buck := false } } with hs0
  obtain ⟨-, htick, -, -, -, hrls, -⟩ := powerOn_words s0
  have hsup := powerOn_sup s0
  have hend : (endRecord s0).sup.preOk = false ∧ (endRecord s0).sup.buck = false := by
    unfold endRecord
    split <;> exact ⟨rfl, rfl⟩
  have hkept : FlashKept s (powerOn s0) := flashKept_of_sup (flashKept_powerOn s0)
  have hfatal : (powerOn s0).fatal = s.fatal := powerOn_fatal s0
  have hcollapse : collapse s = { slotsUnpowered (powerOn s0) with
      sys := { (powerOn s0).sys with state := .off, alarm := false, alarmReq := ⟨false, false⟩ }
      sup := { (powerOn s0).sup with pf := false, holdPath := false, charger := false, pfrDone := false } } := by
    rw [collapse, ← hs0]
    rfl
  rw [hcollapse, slotsUnpowered_frame]
  generalize powerOn s0 = u at htick hrls hsup hkept hfatal
  refine completes_next ⟨rfl, ?_, ?_, rfl, htick, rfl, hrls, hfatal, ?_⟩
  · simp only [hsup, hend.1]
  · simp only [hsup, hend.2]
  · obtain ⟨h0, h1, h2, h3, h4, h5, h6, h7, h8, h9, h10, h11⟩ := hkept
    exact ⟨h0, h1, h2, h3, h4, h5, h6, h7, h8, h9, h10, h11⟩

/-- BUCK_START in OFF. -/
theorem completes_buckStart (s : State) (hs : s.sys.state = .off) :
    Completes (exec .buckStart s) fun t =>
      t.sys.state = .reset ∧ t.sup.buck = true ∧ t.sup.por = true ∧ t.fatal = s.fatal ∧ FlashKept s t := by
  set s0 : State := { s with sup := { s.sup with buck := true } }
  have hexec : exec .buckStart s = .next (powerOn s0) := by
    rw [show exec .buckStart s = execBuckStart s from rfl, execBuckStart]
    simp only [hs, if_true]
    rfl
  obtain ⟨hstate, -, -, -, hpor, -⟩ := powerOn_words s0
  have hbuck : (powerOn s0).sup.buck = true := by
    rw [powerOn_sup]
    show (endRecord s0).sup.buck = true
    unfold endRecord
    split <;> rfl
  rw [hexec]
  exact completes_next ⟨hstate, hbuck, hpor, powerOn_fatal s0, flashKept_of_sup (flashKept_powerOn s0)⟩

/-! ### The statement -/

/-- Settles O12, command by command. -/
theorem supplyCommands : Obligations.SupplyCommands := by
  refine ⟨completes_powerOnReset, fun s hpor hbuck hreset => ?_, completes_preCollapse, fun s hs => ?_,
    completes_buckStart, fun s hs => ?_, fun s => completes_next rfl, completes_vsl5Fall, fun s => completes_next rfl,
    fun s => completes_next rfl, fun s => completes_next rfl⟩
  · simp [Completes, exec, execPowerOnResetRelease, hpor, hbuck, hreset]
  · simp [Completes, exec, execFatalLatchClear, hs]
  · simp [Completes, exec, execBuckStart, hs]

end Machine
end Sys2Proof
end

section
/-! The exit from RESET (chapters 07, 19): BOOT puts the boot list in force, which names no rail. -/
namespace Sys2Proof
namespace Machine

/-- RESET that may be left, with a reading of rail 0 from before the reset. -/
def resetWithReading : State :=
  { State.reset with
    sys := { State.reset.sys with state := .reset, pllLocked := true, tickRunning := true }
    sup := { State.reset.sup with por := false }
    start := { State.reset.start with resetHold := .none }
    rls := { State.reset.rls with rails := State.reset.rls.rails.set 0 { sns := 5 } } }

/-- Its exit is due and goes to BOOT. -/
theorem exec_resetExit_resetWithReading :
    exec (.resetExit false false) resetWithReading = .next (exitToBoot false resetWithReading) := by
  have hdone : resetDone resetWithReading = true := by decide
  have hlatch : resetWithReading.fatal.latch = false := rfl
  show execResetExit false false resetWithReading = _
  simp [execResetExit, hdone, hlatch]

/-- BOOT's channel list takes the rail's reading away (R683), though it raises and lowers no rail. -/
theorem exitToBoot_reading :
    (railGet (exitToBoot false resetWithReading) 0).sns = 0x3FF ∧ (railGet resetWithReading 0).sns = 5 := by decide

/-- Refutes O13: the exit to BOOT does not leave the rail block, since the boot list names no rail and so RLS_SNS of a rail
that had a reading becomes 0x3FF. -/
theorem not_clockAndReset : ¬ Obligations.ClockAndReset := by
  rintro ⟨-, -, -, -, -, -, -, hboot, -⟩
  obtain ⟨t, hexec, -, -, -, -, -, -, -, -, -, -, -, -, -, hrls, -⟩ :=
    hboot false resetWithReading (by decide) rfl
  rw [exec_resetExit_resetWithReading] at hexec
  cases hexec
  obtain ⟨hafter, hbefore⟩ := exitToBoot_reading
  have hsame : railGet (exitToBoot false resetWithReading) 0 = railGet resetWithReading 0 := by
    rw [railGet, hrls, railGet]
  rw [hsame, hbefore] at hafter
  exact absurd hafter (by decide)

end Machine
end Sys2Proof
end

section
/-! A calm hub (chapter 21): no block holds an unacknowledged event of contained class. Events of one tick are judged against the
marks at its beginning, so that events which stay out of FATAL leave the hub calm. -/
namespace Sys2Proof
namespace Machine

open Safety

/-- The hub takes faults, and no contained event stands in any block. -/
structure Calm (s : State) : Prop where
  live : Live s
  none : ∀ b, NoneContained s b

/-! ### Marks of a tick -/

theorem marksOf_stickSet (f : FaultBank) (bits : BitVec 9) : marksOf (stickSet f bits) = marksOf f := by
  cases h : f.now <;> simp [marksOf, stickSet, noteEvents, h]

theorem marksOf_correctedEvent (cont : BitVec 9) (f : FaultBank) (bits : BitVec 9) :
    marksOf (correctedEvent cont f bits).1 = marksOf f := by
  have hraised : ∀ (g : FaultBank) (r : BitVec 9), g.now.isSome = true → marksOf { g with raised := r } = marksOf g := by
    intro g r hg
    obtain ⟨m, hm⟩ := Option.isSome_iff_exists.mp hg
    simp [marksOf, hm]
  unfold correctedEvent
  split
  · exact (hraised _ _ rfl).trans (marksOf_stickSet f bits)
  · exact marksOf_stickSet f bits

/-- A bank with the same marks holds a contained event exactly where the other does. -/
theorem uPend_congr {cont : BitVec 9} {f g : FaultBank} (h : marksOf f = marksOf g) : uPend cont f = uPend cont g := by
  rw [uPend, uPend, h]

/-! ### Events that stay out of FATAL -/

theorem foldl_queueFault_frame (b : FBlk) (c : Nat) (e : Bool) (l : List Nat) (s : State) :
    l.foldl (fun s j => queueFault b j c e s) s = { s with log := (l.foldl (fun s j => queueFault b j c e s) s).log } := by
  induction l generalizing s with
  | nil => rfl
  | cons j l ih => rw [List.foldl_cons, ih, queueFault_frame]

/-- The cores' wake by each of several events: the hub state changes at most from STANDBY to RUN. -/
theorem foldl_wakeByFault_keeps (f : FaultBank) (e : Bool) (l : List Nat) (s : State) :
    FaultFrame s (l.foldl (fun s j => wakeByFault f j e s) s) ∧ (l.foldl (fun s j => wakeByFault f j e s) s).fb = s.fb ∧
      ((l.foldl (fun s j => wakeByFault f j e s) s).sys.state = s.sys.state ∨
        (s.sys.state = .standby ∧ (l.foldl (fun s j => wakeByFault f j e s) s).sys.state = .run)) := by
  induction l generalizing s with
  | nil => exact ⟨rfl, rfl, .inl rfl⟩
  | cons j l ih =>
    rw [List.foldl_cons]
    obtain ⟨hframe, hfb, hstate⟩ := ih (wakeByFault f j e s)
    have hone : FaultFrame s (wakeByFault f j e s) := by
      have hsys := wakeByFault_sys f j e s
      unfold FaultFrame
      rw [← hsys]
      apply eq_of_fields_corr <;> simp
    refine ⟨?_, hfb.trans (wakeByFault_fb ..), ?_⟩
    · generalize l.foldl (fun s j => wakeByFault f j e s) (wakeByFault f j e s) = t at hframe
      unfold FaultFrame at hframe hone ⊢
      rw [hframe, hone]
    · rcases wakeByFault_state f j e s with h | ⟨h1, h2⟩
      · rw [h] at hstate
        exact hstate
      · rcases hstate with h | ⟨h, -⟩
        · exact .inr ⟨h1, h.trans h2⟩
        · rw [h2] at h
          cases h

/-- Events have been taken between `s` and `t` that all stay out of FATAL: the marks of every bank are those that stood before
the tick, and besides the banks only what `FaultFrame` names has moved. -/
structure Events (s t : State) : Prop where
  frame : FaultFrame s t
  marks : ∀ b, marksOf (bankGet t.fb b) = marksOf (bankGet s.fb b)
  hub : t.sys.state = s.sys.state ∨ (s.sys.state = .standby ∧ t.sys.state = .run)

theorem events_refl (s : State) : Events s s := ⟨rfl, fun _ => rfl, .inl rfl⟩

theorem faultFrame_trans {s t u : State} (h : FaultFrame s t) (h' : FaultFrame t u) : FaultFrame s u := by
  unfold FaultFrame at h h' ⊢
  rw [h', h]

theorem events_trans {s t u : State} (h : Events s t) (h' : Events t u) : Events s u := by
  refine ⟨faultFrame_trans h.frame h'.frame, fun b => (h'.marks b).trans (h.marks b), ?_⟩
  rcases h.hub with he | ⟨hs, hr⟩
  · rw [← he]
    exact h'.hub
  · rcases h'.hub with he | ⟨hs', -⟩
    · exact .inr ⟨hs, he.trans hr⟩
    · rw [hr] at hs'
      cases hs'

/-- An event leaves the hub calm. -/
theorem Events.calm {s t : State} (h : Events s t) (hs : Calm s) : Calm t := by
  refine ⟨?_, fun b => (uPend_congr (h.marks b)).trans (hs.none b)⟩
  rcases h.hub with he | ⟨-, he⟩
  · rw [Live, he]
    exact hs.live
  · rw [Live, he]
    exact ⟨nofun, nofun⟩

/-- What is recorded and woken after a bank was written. -/
theorem events_noted {b : FBlk} {cls : Nat} {esc freeze : Bool} {f x : FaultBank} {ks : List Nat} {s : State}
    (hx : marksOf x = marksOf (bankGet s.fb b)) :
    Events s (ks.foldl (fun s j => wakeByFault f j esc s)
      (recFreeze 3 freeze true (ks.foldl (fun s j => queueFault b j cls esc s) (setBank b x s)))) := by
  have hlog := foldl_queueFault_frame b cls esc ks (setBank b x s)
  set v := recFreeze 3 freeze true (ks.foldl (fun s j => queueFault b j cls esc s) (setBank b x s)) with hv
  have hvframe : v = { s with fb := bankSet s.fb b x, log := v.log, rcd := v.rcd } := by
    rw [hv, recFreeze_frame, hlog]
    rfl
  obtain ⟨hframe, hfb, hstate⟩ := foldl_wakeByFault_keeps f esc ks v
  have hvsys : v.sys = s.sys := by rw [hvframe]
  rw [hvsys] at hstate
  refine ⟨faultFrame_trans ?_ hframe, fun c => ?_, hstate⟩
  · unfold FaultFrame
    rw [hvframe]
  · rw [hfb, hvframe, bankGet_bankSet]
    split
    · rename_i hc
      rw [hc, hx]
    · rfl

theorem events_raiseCorrected (b : FBlk) (ks : List Nat) (s : State) :
    Events s (raiseCorrected b ks (bankGet s.fb b) s) :=
  events_noted (marksOf_correctedEvent ..)

theorem events_raiseContained {b : FBlk} (ks : List Nat) {f : FaultBank} {s : State}
    (hf : uPend (containedMask b) f = false) : Events s (raiseContained b ks f s) := by
  unfold raiseContained
  dsimp only
  rw [hf, if_neg Bool.false_ne_true]
  exact events_noted (marksOf_stickSet ..)

/-- Events of a tick without one of fatal class, and without one of contained class in a block that holds one. -/
theorem events_raiseMany {b : FBlk} {ks : List Nat} {s : State} (hlive : Live s) (hfatal : ofClass b .fatal ks = [])
    (hcont : ofClass b .contained ks = [] ∨ NoneContained s b) : Events s (raiseMany b ks s) := by
  unfold raiseMany
  simp only [hlive.1, hlive.2, false_and, or_self, if_false, hfatal]
  have hcorr : Events s (if ofClass b .corrected ks = [] then s
      else raiseCorrected b (ofClass b .corrected ks) (bankGet s.fb b) s) := by
    split
    · exact events_refl s
    · exact events_raiseCorrected ..
  split
  · exact hcorr
  · rename_i hne
    exact events_trans hcorr (events_raiseContained _ (hcont.resolve_left hne))

/-- On a calm hub no event but one of fatal class leads to FATAL. -/
theorem Calm.raiseMany {b : FBlk} {ks : List Nat} {s : State} (hs : Calm s) (hfatal : ofClass b .fatal ks = []) :
    Events s (Sys2Proof.Machine.raiseMany b ks s) := events_raiseMany hs.live hfatal (.inr (hs.none b))

theorem Calm.raise {b : FBlk} {k : Nat} {s : State} (hs : Calm s) (hfatal : classOf b k ≠ .fatal) :
    Events s (Sys2Proof.Machine.raise b k s) := hs.raiseMany (by simp [ofClass, hfatal])

/-- Outside the system block no source is of fatal class. -/
theorem classOf_ne_fatal {b : FBlk} (hb : b ≠ .sys) (k : Nat) : classOf b k ≠ .fatal := by
  have hmask : fatalMask b = 0 := by cases b <;> simp_all [fatalMask]
  have hbit : (0 : BitVec 9).getLsbD k = false := by simp
  rw [classOf, hmask, hbit, if_neg Bool.false_ne_true]
  split <;> nofun

theorem ofClass_fatal {b : FBlk} (hb : b ≠ .sys) (ks : List Nat) : ofClass b .fatal ks = [] := by
  simp [ofClass, classOf_ne_fatal hb]

/-- Every block is one of the list. -/
theorem mem_allBlks (b : FBlk) : b ∈ allBlks := by
  cases b with
  | hst p => cases p <;> decide
  | ord p => cases p <;> decide
  | _ => decide

/-- What an event leaves of the system block. -/
theorem Events.sys {s t : State} (h : Events s t) : t.sys = { s.sys with state := t.sys.state } := by
  have hframe := h.frame
  unfold FaultFrame at hframe
  exact congrArg State.sys hframe

end Machine
end Sys2Proof
end

section
/-! The start stages (chapter 07): the ends of BOOT, RIGGING and ENUMERATE. -/
namespace Sys2Proof
namespace Machine

open Safety

/-! ### The work of BOOT -/

/-- The state whose OTP items have been checked. -/
def otpChecked (bad : List Nat) (s : State) : State :=
  { s with rnd := { s.rnd with otp := { s.rnd.otp with
      failed := bad.filter (fun i => !s.rnd.otp.failed.contains i) ++ s.rnd.otp.failed } } }

theorem checkOtp_eq (bad : List Nat) (s : State) : checkOtp bad s =
    if (otpChecked bad s).rnd.otp.failed = [] then otpChecked bad s else raise .rnd 3 (otpChecked bad s) := rfl

theorem mem_otpChecked (bad : List Nat) (s : State) (i : Nat) :
    i ∈ (otpChecked bad s).rnd.otp.failed ↔ i ∈ bad ∨ i ∈ s.rnd.otp.failed := by
  simp only [otpChecked, List.mem_append, List.mem_filter, Bool.not_eq_true', List.contains_eq_mem, decide_eq_false_iff_not]
  tauto

/-- With nothing failed and nothing bad the check changes nothing. -/
theorem checkOtp_of_sound {s : State} (h : s.rnd.otp.failed = []) : checkOtp [] s = s := by
  have hchecked : otpChecked [] s = s := by
    have : [].filter (fun i => !s.rnd.otp.failed.contains i) ++ s.rnd.otp.failed = s.rnd.otp.failed := rfl
    rw [otpChecked, this]
  rw [checkOtp_eq, hchecked, if_pos h]

/-- The check of OTP in BOOT raises OTP_FAIL where an item has failed (R828). -/
theorem events_checkOtp (bad : List Nat) {s : State} (hlive : Live s) (hnone : NoneContained s .rnd) :
    Events (otpChecked bad s) (checkOtp bad s) ∧
    ((otpChecked bad s).rnd.otp.failed ≠ [] →
      stickyBits (checkOtp bad s).fb.rnd = stickyBits s.fb.rnd ||| srcBit 3) := by
  rw [checkOtp_eq]
  split
  · rename_i h
    exact ⟨events_refl _, fun hne => absurd h hne⟩
  · have hlive' : Live (otpChecked bad s) := hlive
    have hnone' : NoneContained (otpChecked bad s) .rnd := hnone
    refine ⟨events_raiseMany hlive' (ofClass_fatal (by decide) _) (.inr hnone'), fun _ => ?_⟩
    exact (raised_raise hlive' (.inr ⟨by decide, hnone'⟩)).bits

/-- The log scan before a lost record is noted. -/
def logScanned (s : State) : State :=
  let n := scanNext s
  let s := { s with
    log := { s.log with
      queue := renumber n s.log.queue, next := n + s.log.queue.length, frozen := decide (0x3FFFFFFF < n),
      sectors := (wearNewer s.log).sectors, remap := (wearNewer s.log).remap }
    sup := { s.sup with partialRecord := false } }
  { s with sup := { s.sup with reserve := ((reserveSectors s).filter (erasedSector s)).length } }

theorem logScanned_frame (s : State) : logScanned s = { s with log := (logScanned s).log, sup := (logScanned s).sup } := rfl

theorem logScan_eq (s : State) :
    logScan s = if s.sup.partialRecord then raise .sys 3 (logScanned s) else logScanned s := rfl

theorem events_logScan {s : State} (hlive : Live s) : Events (logScanned s) (logScan s) := by
  rw [logScan_eq]
  split
  · exact events_raiseMany (s := logScanned s) hlive (by decide) (.inl (by decide))
  · exact events_refl _

theorem logScan_fb_rnd {s : State} (hlive : Live s) : (logScan s).fb.rnd = s.fb.rnd := by
  rw [logScan_eq]
  split
  · exact (raised_raise (s := logScanned s) hlive (.inl (by decide))).others .rnd (by decide)
  · rfl

/-- The log scan changes the log and the supplies, and takes at most a corrected event. -/
theorem logScan_words {s : State} (hlive : Live s) :
    (logScan s).rnd = s.rnd ∧ (logScan s).pins = s.pins ∧ (logScan s).start = s.start ∧
      (logScan s).sys.tick = s.sys.tick := by
  have h := (events_logScan hlive).frame
  have hrnd := faultFrame_rnd h
  have hpins := faultFrame_pins h
  have hstart := faultFrame_start h
  have htick := faultFrame_tick h
  exact ⟨hrnd, hpins, hstart, htick⟩

/-- So does the check of OTP, which changes the store's record of failed items. -/
theorem checkOtp_words {s : State} (bad : List Nat) (hlive : Live s) (hnone : NoneContained s .rnd) :
    (checkOtp bad s).rnd = (otpChecked bad s).rnd ∧ (checkOtp bad s).pins = s.pins ∧ (checkOtp bad s).start = s.start ∧
      (checkOtp bad s).sys.tick = s.sys.tick := by
  have h := (events_checkOtp bad hlive hnone).1.frame
  have hpins := faultFrame_pins h
  have hstart := faultFrame_start h
  have htick := faultFrame_tick h
  exact ⟨faultFrame_rnd h, hpins, hstart, htick⟩

theorem boot_eq (ripcordOk : Bool) (bad : Nat) (otpBad : List Nat) (s : State) :
    boot ripcordOk bad otpBad s =
      (let t := if ripcordOk then checkOtp otpBad s else raise .sys 6 (checkOtp otpBad s)
       if t.sys.state = .fatal then t else bootChoice bad (logScan t)) := rfl

/-- BOOT's end is the work of BOOT where BOOT may end. -/
theorem exec_bootComplete {s : State} (ripcordOk : Bool) (bad : Nat) (otpBad : List Nat) (h : bootEnds s = true) :
    exec (.bootComplete ripcordOk bad otpBad) s = .next (boot ripcordOk bad otpBad s) := by
  show execBootComplete ripcordOk bad otpBad s = _
  rw [execBootComplete, if_pos h]

theorem boot_state {s : State} (h : bootEnds s = true) : s.sys.state = .boot := by
  simp only [bootEnds, Bool.and_eq_true, decide_eq_true_eq] at h
  exact h.1.1

theorem live_of_boot {s : State} (h : s.sys.state = .boot) : Live s := by
  rw [Live, h]
  exact ⟨nofun, nofun⟩

/-- In BOOT an event that stays out of FATAL leaves the hub in BOOT. -/
theorem Events.boot {s t : State} (h : Events s t) (hs : s.sys.state = .boot) : t.sys.state = .boot := by
  rcases h.hub with he | ⟨hs', -⟩
  · exact he.trans hs
  · rw [hs] at hs'
    cases hs'

/-- What RECOVERY's entry leaves, whatever state it comes from. -/
theorem enterRecovery_words (req : Bool) (s : State) :
    (enterRecovery req s).sys.state = .recovery ∧ (enterRecovery req s).start.recovReq = req ∧
    (enterRecovery req s).start.fw = false ∧ (enterRecovery req s).start.streak = 0 ∧
    (slotGet (enterRecovery req s) 0).cfg.kind = .sd ∧ (enterRecovery req s).upd.flowRan = false ∧
    (enterRecovery req s).sys.tick = s.sys.tick ∧ (enterRecovery req s).rnd = s.rnd ∧ (enterRecovery req s).fb = s.fb :=
  ⟨rfl, rfl, rfl, rfl, by simp [enterRecovery], rfl, rfl, rfl, rfl⟩

/-- The state in which BOOT chooses, its checks passed: OTP checked, the log scanned. -/
def bootChecked (otpBad : List Nat) (s : State) : State := logScan (checkOtp otpBad s)

/-- What BOOT's checks have left of the state. -/
structure BootChecked (otpBad : List Nat) (s u : State) : Prop where
  state : u.sys.state = .boot
  tick : u.sys.tick = s.sys.tick
  pins : u.pins = s.pins
  start : u.start = s.start
  failed : ∀ i, i ∈ u.rnd.otp.failed ↔ i ∈ otpBad ∨ i ∈ s.rnd.otp.failed
  bits : u.rnd.otp.failed ≠ [] → stickyBits u.fb.rnd = stickyBits s.fb.rnd ||| srcBit 3

theorem bootChecked_spec {s : State} (otpBad : List Nat) (hboot : s.sys.state = .boot) (hnone : NoneContained s .rnd) :
    BootChecked otpBad s (bootChecked otpBad s) := by
  obtain ⟨hotp, hbits⟩ := events_checkOtp otpBad (live_of_boot hboot) hnone
  have hboot' : (checkOtp otpBad s).sys.state = .boot := hotp.boot hboot
  obtain ⟨hrnd1, hpins1, hstart1, htick1⟩ := checkOtp_words otpBad (live_of_boot hboot) hnone
  obtain ⟨hrnd2, hpins2, hstart2, htick2⟩ := logScan_words (live_of_boot hboot')
  have hrnd : (bootChecked otpBad s).rnd = (otpChecked otpBad s).rnd := hrnd2.trans hrnd1
  have hbank : (bootChecked otpBad s).fb.rnd = (checkOtp otpBad s).fb.rnd := logScan_fb_rnd (live_of_boot hboot')
  refine ⟨(events_logScan (live_of_boot hboot')).boot hboot', htick2.trans htick1, hpins2.trans hpins1,
    hstart2.trans hstart1, ?_, ?_⟩
  · rw [hrnd]
    exact mem_otpChecked otpBad s
  · rw [hrnd, hbank]
    exact hbits

/-- BOOT with the ripcord's test passed chooses on the checked state. -/
theorem boot_of_sound {s : State} (bad : Nat) (otpBad : List Nat) (hboot : s.sys.state = .boot)
    (hnone : NoneContained s .rnd) : boot true bad otpBad s = bootChoice bad (bootChecked otpBad s) := by
  have hstate : (checkOtp otpBad s).sys.state = .boot :=
    (events_checkOtp otpBad (live_of_boot hboot) hnone).1.boot hboot
  rw [boot_eq]
  simp [hstate, bootChecked]

/-- BOOT that goes to RECOVERY before it looks at a bank (R231). -/
theorem bootChoice_recovery {s u : State} {otpBad : List Nat} (bad : Nat) (h : BootChecked otpBad s u)
    (hrec : s.pins.recov = true ∨ 8 ≤ s.start.streak) : bootChoice bad u = enterRecovery s.pins.recov u := by
  unfold bootChoice
  rw [h.pins, h.start]
  cases hr : s.pins.recov with
  | true => rw [if_pos rfl]
  | false =>
    have h8 : 8 ≤ s.start.streak := hrec.resolve_left (by simp [hr])
    rw [if_neg Bool.false_ne_true, if_pos h8]

theorem completes_boot_recov (bad : Nat) (otpBad : List Nat) (s : State) (hends : bootEnds s = true)
    (hnone : NoneContained s .rnd) (hrecov : s.pins.recov = true) :
    Completes (exec (.bootComplete true bad otpBad) s) fun t =>
      t.sys.state = .recovery ∧ t.start.recovReq = true ∧ t.start.fw = false ∧ t.start.streak = 0 ∧
      (slotGet t 0).cfg.kind = .sd ∧ t.upd.flowRan = false ∧ t.sys.tick = s.sys.tick ∧
      (∀ i, i ∈ t.rnd.otp.failed ↔ i ∈ otpBad ∨ i ∈ s.rnd.otp.failed) ∧
      (t.rnd.otp.failed ≠ [] → stickyBits t.fb.rnd = stickyBits s.fb.rnd ||| srcBit 3) := by
  have hu := bootChecked_spec otpBad (boot_state hends) hnone
  rw [exec_bootComplete _ _ _ hends, boot_of_sound bad otpBad (boot_state hends) hnone,
    bootChoice_recovery bad hu (.inl hrecov), hrecov]
  obtain ⟨hstate, hreq, hfw, hstreak, hkind, hflow, htick, hrnd, hfb⟩ := enterRecovery_words true (bootChecked otpBad s)
  refine completes_next ⟨hstate, hreq, hfw, hstreak, hkind, hflow, htick.trans hu.tick, ?_, ?_⟩
  · rw [hrnd]
    exact hu.failed
  · rw [hrnd, hfb]
    exact hu.bits

theorem completes_boot_streak (bad : Nat) (otpBad : List Nat) (s : State) (hends : bootEnds s = true)
    (hnone : NoneContained s .rnd) (hrecov : s.pins.recov = false) (h8 : 8 ≤ s.start.streak) :
    Completes (exec (.bootComplete true bad otpBad) s) fun t =>
      t.sys.state = .recovery ∧ t.start.recovReq = false ∧ t.start.streak = 0 := by
  have hu := bootChecked_spec otpBad (boot_state hends) hnone
  rw [exec_bootComplete _ _ _ hends, boot_of_sound bad otpBad (boot_state hends) hnone,
    bootChoice_recovery bad hu (.inr h8), hrecov]
  obtain ⟨hstate, hreq, -, hstreak, -⟩ := enterRecovery_words false (bootChecked otpBad s)
  exact completes_next ⟨hstate, hreq, hstreak⟩

/-- The ripcord's test fails (R752). -/
theorem completes_boot_ripcord (bad : Nat) (otpBad : List Nat) (s : State) (hends : bootEnds s = true)
    (hnone : NoneContained s .rnd) :
    Completes (exec (.bootComplete false bad otpBad) s) fun t => FatalEntered 0x01 6 1 s t := by
  have hotp := (events_checkOtp otpBad (live_of_boot (boot_state hends)) hnone).1
  have hlive : Live (checkOtp otpBad s) := live_of_boot (hotp.boot (boot_state hends))
  have hfatal : FatalEntered (blkNumber .sys) 6 1 (checkOtp otpBad s) (raise .sys 6 (checkOtp otpBad s)) :=
    fatalEntered_raise hlive (by decide)
  have hboot : boot false bad otpBad s = raise .sys 6 (checkOtp otpBad s) := by
    rw [boot_eq]
    simp [hfatal.hub]
  obtain ⟨-, hpins, -, htick⟩ := checkOtp_words otpBad (live_of_boot (boot_state hends)) hnone
  rw [exec_bootComplete _ _ _ hends, hboot]
  obtain ⟨hub, latch, fatal0, fatal1, stopped, tick, frozen, en, trims⟩ := hfatal
  exact completes_next ⟨hub, latch, fatal0, fatal1, stopped, tick.trans htick, frozen, by rw [en, hpins], trims⟩

/-! ### A bank and a rig are found -/

theorem runFirmware_words (n : Nat) (trial : Bool) (s : State) :
    (runFirmware n trial s).start.fw = true ∧ (runFirmware n trial s).start.fwBank = n ∧
    (runFirmware n trial s).sys.trial = trial := ⟨rfl, rfl, rfl⟩

theorem bootRig_words (s : State) : (bootRig s).1.start = s.start ∧ (bootRig s).1.sys.trial = s.sys.trial := by
  have hraise : ∀ bad : Bool, (if bad then raise .rig 0 s else s).start = s.start ∧
      (if bad then raise .rig 0 s else s).sys.trial = s.sys.trial := by
    intro bad
    cases bad with
    | false => exact ⟨rfl, rfl⟩
    | true => exact ⟨raise_start .., by rw [if_pos rfl, raise_sys_of_corrected (by decide)]⟩
  unfold bootRig
  dsimp only
  split
  · split <;> exact hraise _
  · exact hraise _

/-- A commit of the boot count raises at most corrected events of the log. -/
theorem commitBoot_words (n bad : Nat) (s : State) :
    (commitBoot n bad s).start = s.start ∧ (commitBoot n bad s).sys.trial = s.sys.trial := by
  have hjournal : ∀ (e : List Byte) (u : State), (journalAppend e u).start = u.start ∧
      (journalAppend e u).sys.trial = u.sys.trial := by
    intro e u
    unfold journalAppend
    dsimp only
    (repeat' split) <;> exact ⟨rfl, rfl⟩
  have hfold : ∀ (l : List (List Byte)) (u : State),
      (l.foldl (fun s e => raise .log 0 (journalAppend e s)) u).start = u.start ∧
        (l.foldl (fun s e => raise .log 0 (journalAppend e s)) u).sys.trial = u.sys.trial := by
    intro l
    induction l with
    | nil => exact fun u => ⟨rfl, rfl⟩
    | cons e l ih =>
      intro u
      obtain ⟨h1, h2⟩ := ih (raise .log 0 (journalAppend e u))
      rw [List.foldl_cons, h1, h2, raise_start, raise_sys_of_corrected (by decide)]
      exact ⟨(hjournal e u).1, (hjournal e u).2⟩
  obtain ⟨h1, h2⟩ := hfold (List.replicate bad (journalBad n)) s
  unfold commitBoot
  exact ⟨(hjournal ..).1.trans h1, (hjournal ..).2.trans h2⟩

theorem bootCountUp_words (bad : Nat) (s : State) :
    (bootCountUp bad s).start = s.start ∧ (bootCountUp bad s).sys.trial = s.sys.trial := by
  unfold bootCountUp
  dsimp only
  split
  · exact ⟨rfl, rfl⟩
  · exact commitBoot_words ..

/-- A bank and a rig are found (R231). -/
theorem completes_boot_rigging (bad n : Nat) (trial : Bool) (s u : State) (hends : bootEnds s = true)
    (hsound : s.rnd.otp.failed = []) (hrecov : s.pins.recov = false) (hstreak : s.start.streak < 8)
    (hbank : bootBank (logScan s) = (u, some (n, trial))) (hrig : (bootRig (runFirmware n trial u)).2 = true) :
    Completes (exec (.bootComplete true bad []) s) fun t =>
      t.sys.state = .rigging ∧ t.start.fw = true ∧ t.start.fwBank = n ∧ t.sys.trial = trial := by
  have hboot := boot_state hends
  obtain ⟨-, hpins, hstart, -⟩ := logScan_words (live_of_boot hboot)
  obtain ⟨hfw, hn, htrial⟩ := runFirmware_words n trial u
  obtain ⟨hstart1, htrial1⟩ := bootRig_words (runFirmware n trial u)
  set v := bootRig (runFirmware n trial u) with hv
  obtain ⟨hstart2, htrial2⟩ := bootCountUp_words bad v.1
  have hchoice : boot true bad [] s =
      queueStart { bootCountUp bad v.1 with sys := { (bootCountUp bad v.1).sys with state := .rigging } } := by
    rw [boot_eq]
    simp only [if_true, checkOtp_of_sound hsound, hboot, reduceCtorEq, if_false]
    unfold bootChoice
    rw [hpins, hstart, hrecov, if_neg Bool.false_ne_true, if_neg (by omega), hbank]
    dsimp only
    rw [← hv]
    simp [hrig]
  rw [exec_bootComplete _ _ _ hends, hchoice]
  refine completes_next ⟨by rw [queueStart_sys], ?_, ?_, ?_⟩
  · rw [queueStart_start, hstart2, hstart1, hfw]
  · rw [queueStart_start, hstart2, hstart1, hn]
  · rw [queueStart_sys]
    exact htrial2.trans (htrial1.trans htrial)

/-! ### RIGGING -/

/-- A view of the state that each step of a fold keeps, the fold keeps. -/
theorem foldl_keeps {α β : Type} {f : State → α → State} (π : State → β) (h : ∀ s a, π (f s a) = π s) (l : List α)
    (s : State) : π (l.foldl f s) = π s := by
  induction l generalizing s with
  | nil => rfl
  | cons a l ih => rw [List.foldl_cons, ih, h]

/-- What RIGGING's work on rails, slots, claims and channels leaves alone. -/
structure RigView where
  sys : Sys
  pf : Bool
  vPf : Nat
  start : Start
  rig : RigBlock
  fb : FaultBanks
  locked : Bool
  replayFail : Option Nat
  frozen : Bool

/-- The view of a state. -/
def rigView (s : State) : RigView :=
  ⟨s.sys, s.sup.pf, s.sup.vPf, s.start, s.rig, s.fb, s.rls.locked, s.rls.replayFail, s.rls.frozen⟩

theorem rigView_mirror (c v : Nat) (s : State) : rigView (mirror c v s) = rigView s := by
  unfold mirror
  (repeat' split) <;> rfl

theorem rigView_putList (l : List Nat) (b : Bool) (s : State) : rigView (putList l b s) = rigView s := by
  unfold putList
  refine foldl_keeps rigView (fun s c => ?_) (List.range 24) s
  split
  · rfl
  · exact rigView_mirror ..

theorem rigView_loadSettings (s : State) : rigView (loadSettings s) = rigView s := by
  unfold loadSettings
  dsimp only
  (repeat' split) <;> rfl

theorem rigView_declareRails (s : State) : rigView (declareRails s) = rigView s := by
  unfold declareRails
  refine foldl_keeps rigView ?_ _ s
  exact fun _ _ => rfl

theorem rigView_rigClaims (s : State) : rigView (rigClaims s) = rigView s := by
  unfold rigClaims
  refine foldl_keeps rigView (fun s c => ?_) _ s
  dsimp only
  split <;> rfl

theorem rigView_rigSlots (s : State) : rigView (rigSlots s) = rigView s := by
  have hlocal : rigView (localSlots s) = rigView s := by
    unfold localSlots
    refine foldl_keeps rigView ?_ _ s
    exact fun _ _ => rfl
  unfold rigSlots
  rw [← hlocal]
  refine foldl_keeps rigView ?_ _ (localSlots s)
  exact fun _ _ => rfl

theorem rigView_followBattery (s : State) : rigView (followBattery s) = rigView s := by
  unfold followBattery
  split <;> rfl

/-- The reaction words of a bank as the rig has them. -/
def loadedBank (g : Rig) (b : FBlk) (f : FaultBank) : FaultBank :=
  { f with
    frx0 := frxWord g (blkNumber b) 0 f.frx0, frx1 := frxWord g (blkNumber b) 1 f.frx1
    frx2 := frxWord g (blkNumber b) 2 f.frx2 }

theorem bankGet_foldl_loaded (g : Rig) (l : List FBlk) (hnd : l.Nodup) (s : State) (c : FBlk) :
    bankGet (l.foldl (fun s b => setBank b (loadedBank g b (bankGet s.fb b)) s) s).fb c =
      if c ∈ l then loadedBank g c (bankGet s.fb c) else bankGet s.fb c := by
  induction l generalizing s with
  | nil => simp
  | cons b l ih =>
    rw [List.foldl_cons, ih (List.nodup_cons.mp hnd).2, bankGet_setBank]
    by_cases hc : c = b
    · subst hc
      simp [(List.nodup_cons.mp hnd).1]
    · simp [hc]

theorem loadReactions_eq (s : State) : loadReactions s =
    allBlks.foldl (fun t b => setBank b (loadedBank s.rig.running b (bankGet t.fb b)) t) s := rfl

theorem bankGet_loadReactions (s : State) (b : FBlk) :
    bankGet (loadReactions s).fb b = loadedBank s.rig.running b (bankGet s.fb b) := by
  rw [loadReactions_eq, bankGet_foldl_loaded _ _ (by decide), if_pos (mem_allBlks b)]

theorem loadReactions_frame (s : State) : loadReactions s = { s with fb := (loadReactions s).fb } := by
  have hfold : ∀ (g : Rig) (l : List FBlk) (u : State),
      l.foldl (fun t b => setBank b (loadedBank g b (bankGet t.fb b)) t) u =
        { u with fb := (l.foldl (fun t b => setBank b (loadedBank g b (bankGet t.fb b)) t) u).fb } := by
    intro g l
    induction l with
    | nil => exact fun u => rfl
    | cons b l ih =>
      intro u
      rw [List.foldl_cons, ih]
      rfl
  exact hfold s.rig.running allBlks s

/-- RIGGING's work keeps the hub state and the rail lock, loads the reaction words and locks the rig. -/
theorem rigView_rigging (s : State) : rigView (rigging s) =
    { rigView s with
      vPf := s.rig.running.site.vPf, start := { s.start with rig := true }, rig := { s.rig with locked := true }
      fb := (loadReactions (loadSettings s)).fb } := by
  have hset : rigView (loadSettings s) = rigView s := rigView_loadSettings s
  have hsys : (loadSettings s).sys = s.sys := congrArg RigView.sys hset
  have hpf : (loadSettings s).sup.pf = s.sup.pf := congrArg RigView.pf hset
  have hstart : (loadSettings s).start = s.start := congrArg RigView.start hset
  have hrig : (loadSettings s).rig = s.rig := congrArg RigView.rig hset
  have hlocked : (loadSettings s).rls.locked = s.rls.locked := congrArg RigView.locked hset
  have hreplay : (loadSettings s).rls.replayFail = s.rls.replayFail := congrArg RigView.replayFail hset
  have hfrozen : (loadSettings s).rls.frozen = s.rls.frozen := congrArg RigView.frozen hset
  unfold rigging
  dsimp only
  rw [rigView_followBattery, rigView_putList, rigView_rigSlots, rigView_rigClaims, rigView_declareRails, loadReactions_frame]
  simp only [rigView, loadRules, hsys, hpf, hstart, hrig, hlocked, hreplay, hfrozen]

theorem bankGet_rigging (s : State) (b : FBlk) :
    bankGet (rigging s).fb b = loadedBank s.rig.running b (bankGet s.fb b) := by
  have hset : rigView (loadSettings s) = rigView s := rigView_loadSettings s
  have hfb : (loadSettings s).fb = s.fb := congrArg RigView.fb hset
  have hrig : (loadSettings s).rig = s.rig := congrArg RigView.rig hset
  have hview : ∀ u, (rigView u).fb = u.fb := fun _ => rfl
  rw [← hview (rigging s), rigView_rigging]
  show bankGet (loadReactions (loadSettings s)).fb b = _
  rw [bankGet_loadReactions, hrig, hfb]

/-! ### RISING is entered -/

theorem startWalk_frame (k : Nat) (s : State) : startWalk k s = { s with tth := (startWalk k s).tth } := by
  unfold startWalk
  split <;> rfl

theorem foldl_startWalk_frame (l : List Nat) (s : State) :
    l.foldl (fun s k => startWalk k s) s = { s with tth := (l.foldl (fun s k => startWalk k s) s).tth } := by
  induction l generalizing s with
  | nil => rfl
  | cons k l ih => rw [List.foldl_cons, ih, startWalk_frame]

/-- ENUMERATE's entry changes the hub state, a start mark and the tethers. -/
theorem enterEnumerate_frame (s : State) : enterEnumerate s =
    { s with
      sys := { s.sys with state := .enumerate }, start := { s.start with rails := true }
      tth := (enterEnumerate s).tth } := by
  unfold enterEnumerate
  rw [foldl_startWalk_frame]

/-- A fold whose steps move the rail block and the enables moves these alone. -/
theorem foldl_railsPins {α : Type} {f : State → α → State}
    (h : ∀ s a, f s a = { s with rls := (f s a).rls, pins := (f s a).pins }) (l : List α) (s : State) :
    l.foldl f s = { s with rls := (l.foldl f s).rls, pins := (l.foldl f s).pins } := by
  induction l generalizing s with
  | nil => rfl
  | cons a l ih => rw [List.foldl_cons, ih, h]

/-- A rising program's start changes the rails and their enables. -/
theorem startRising_frame (restart : Bool) (s : State) :
    startRising restart s = { s with rls := (startRising restart s).rls, pins := (startRising restart s).pins } := by
  unfold startRising
  dsimp only
  rw [foldl_railsPins (fun _ _ => rfl) (declaredRails _), foldl_railsPins ?_ railNos.reverse]
  intro s n
  split <;> rfl

theorem risingEnds_words (s : State) (h : s.sys.state = .rising) :
    ((risingEnds s).sys.state = .rising ∨ (risingEnds s).sys.state = .enumerate) ∧ (risingEnds s).start.rig = s.start.rig ∧
      (risingEnds s).rig = s.rig ∧ (risingEnds s).sup = s.sup ∧ (risingEnds s).fb = s.fb := by
  unfold risingEnds
  split
  · dsimp only
    rw [if_pos h, enterEnumerate_frame]
    exact ⟨.inr rfl, rfl, rfl, rfl, rfl⟩
  · exact ⟨.inl h, rfl, rfl, rfl, rfl⟩

/-- Without a replay's failed rail the entry to RISING leads to RISING or ENUMERATE. -/
theorem enterRising_words {s : State} (hreplay : s.rls.replayFail = none) :
    ((enterRising s).sys.state = .rising ∨ (enterRising s).sys.state = .enumerate) ∧
    (s.rls.locked = true → (enterRising s).sys.state = .enumerate) ∧ (enterRising s).start.rig = s.start.rig ∧
    (enterRising s).rig = s.rig ∧ (enterRising s).sup = s.sup ∧ (enterRising s).fb = s.fb := by
  unfold enterRising
  dsimp only
  by_cases hlock : s.rls.locked = true
  · rw [if_pos hlock, enterEnumerate_frame]
    exact ⟨.inr rfl, fun _ => rfl, rfl, rfl, rfl, rfl⟩
  · rw [if_neg hlock]
    split
    · exact ⟨.inl rfl, fun h => absurd h hlock, rfl, rfl, rfl, rfl⟩
    · have hframe := startRising_frame false { s with sys := { s.sys with state := .rising } }
      unfold beginRising
      simp only [hreplay]
      obtain ⟨hstate, hstart, hrig, hsup, hfb⟩ :=
        risingEnds_words (startRising false { s with sys := { s.sys with state := .rising } }) (by rw [hframe])
      refine ⟨hstate, fun h => absurd h hlock, hstart.trans ?_, hrig.trans ?_, hsup.trans ?_, hfb.trans ?_⟩ <;> rw [hframe]

/-- RIGGING's end without a rail whose failure ended a replay. -/
theorem completes_rigging (s : State) (hstate : s.sys.state = .rigging) (hreplay : s.rls.replayFail = none) :
    Completes (exec .riggingComplete s) fun t =>
      (t.sys.state = .rising ∨ t.sys.state = .enumerate) ∧ (s.rls.locked = true → t.sys.state = .enumerate) ∧
      t.start.rig = true ∧ t.rig.locked = true ∧ t.sup.vPf = s.rig.running.site.vPf ∧
      (∀ b, (bankGet t.fb b).frx0 = frxWord s.rig.running (blkNumber b) 0 (bankGet s.fb b).frx0 ∧
        (bankGet t.fb b).frx1 = frxWord s.rig.running (blkNumber b) 1 (bankGet s.fb b).frx1 ∧
        (bankGet t.fb b).frx2 = frxWord s.rig.running (blkNumber b) 2 (bankGet s.fb b).frx2) := by
  have hexec : exec .riggingComplete s = .next (enterRising (rigging s)) := by
    show execRiggingComplete s = _
    rw [execRiggingComplete, if_pos hstate]
  have hview := rigView_rigging s
  have hbank := bankGet_rigging s
  rw [hexec]
  generalize rigging s = u at hview hbank
  have hreplay' : u.rls.replayFail = none := (congrArg RigView.replayFail hview).trans hreplay
  have hlocked : u.rls.locked = s.rls.locked := congrArg RigView.locked hview
  have hstart : u.start.rig = true := congrArg (fun v => v.start.rig) hview
  have hrig : u.rig.locked = true := congrArg (fun v => v.rig.locked) hview
  have hpf : u.sup.vPf = s.rig.running.site.vPf := congrArg RigView.vPf hview
  obtain ⟨hor, henum, hstart', hrig', hsup', hfb'⟩ := enterRising_words hreplay'
  refine completes_next ⟨hor, fun h => henum (hlocked.trans h), hstart'.trans hstart, by rw [hrig', hrig],
    by rw [hsup', hpf], fun b => ?_⟩
  rw [hfb', hbank]
  exact ⟨rfl, rfl, rfl⟩

/-! ### A shutdown of the rails -/

/-- The lock of the rails and the rail of a replay, which no shutdown and no reset but power-on clears. -/
structure LockView where
  locked : Bool
  cause : Nat
  rail : Nat
  replayFail : Option Nat

/-- The view of a state. -/
def lockView (s : State) : LockView := ⟨s.rls.locked, s.rls.lockCause, s.rls.lockRail, s.rls.replayFail⟩

/-- Disabling a step group. -/
def lowerRails (l : List Nat) (s : State) : State :=
  l.foldl (fun s n => modRail n (fun r => { r with state := if r.state = 5 then 5 else 6, good := false, lowering := true })
    (setEn n false s)) s

theorem lowerTop_eq (s : State) : lowerTop s =
    match topStep s with
    | none => { s with rls := { s.rls with falling := false, pfwWarn := false } }
    | some k =>
      let t := lowerRails (railNos.filter (fun n => railEn s n && decide (railStep s n = k))) s
      { t with rls := { t.rls with step := k } } := rfl

theorem lowerRails_frame (l : List Nat) (s : State) :
    lowerRails l s = { s with rls := (lowerRails l s).rls, pins := (lowerRails l s).pins } :=
  foldl_railsPins (fun _ _ => rfl) l s

theorem lowerRails_keeps (l : List Nat) (s : State) :
    lockView (lowerRails l s) = lockView s ∧ (lowerRails l s).rls.rising = s.rls.rising :=
  ⟨foldl_keeps lockView (by exact fun _ _ => rfl) l s, foldl_keeps (fun s => s.rls.rising) (by exact fun _ _ => rfl) l s⟩

/-- The shutdown of the rails moves their block and the enables. -/
theorem lowerTop_frame (s : State) : lowerTop s = { s with rls := (lowerTop s).rls, pins := (lowerTop s).pins } := by
  rw [lowerTop_eq]
  split
  · rfl
  · dsimp only
    rw [lowerRails_frame]

theorem lowerTop_keeps (s : State) : lockView (lowerTop s) = lockView s ∧ (lowerTop s).rls.rising = s.rls.rising := by
  rw [lowerTop_eq]
  split
  · exact ⟨rfl, rfl⟩
  · exact lowerRails_keeps ..

theorem startShutdown_frame (s : State) :
    startShutdown s = { s with rls := (startShutdown s).rls, pins := (startShutdown s).pins } := by
  unfold startShutdown
  rw [lowerTop_frame]

theorem startShutdown_keeps (s : State) :
    lockView (startShutdown s) = lockView s ∧ (startShutdown s).rls.rising = false := by
  unfold startShutdown
  exact lowerTop_keeps _

theorem trimsOff_lock (s : State) : lockView (trimsOff s) = lockView s := rfl

theorem resetSafe_lock (s : State) : lockView (resetSafe s) = lockView s := by
  rw [resetSafe, trimsOff_lock]
  simp [lockView]

theorem resetBlocks_lock (s : State) : lockView (resetBlocks s) = lockView s ∧ (resetBlocks s).rls.rising = false := by
  unfold resetBlocks restartRails
  exact ⟨rfl, rfl⟩

theorem warmReset_keeps (cause block : Nat) (hold : ResetHold) (s : State) :
    lockView (warmReset cause block hold s) = lockView s ∧ (warmReset cause block hold s).rls.rising = false := by
  obtain ⟨hlock, hrising⟩ := resetBlocks_lock (resetSafe s)
  rw [resetSafe_lock] at hlock
  unfold warmReset
  generalize resetBlocks (resetSafe s) = u at hlock hrising
  exact ⟨hlock, hrising⟩

theorem warmRestart_keeps (cause block : Nat) (s : State) (h : s.rls.rising = false) :
    lockView (warmRestart cause block s) = lockView s ∧ (warmRestart cause block s).rls.rising = false := by
  unfold warmRestart
  split
  · exact warmReset_keeps ..
  · exact ⟨rfl, h⟩

theorem shutdownEnds_keeps (s : State) (h : s.rls.rising = false) :
    lockView (shutdownEnds s) = lockView s ∧ (shutdownEnds s).rls.rising = false := by
  unfold shutdownEnds
  split
  · exact warmRestart_keeps 5 0 s h
  · split <;> exact ⟨rfl, h⟩

theorem beginShutdown_keeps (s : State) :
    lockView (beginShutdown s) = lockView s ∧ (beginShutdown s).rls.rising = false := by
  obtain ⟨hlock, hrising⟩ := startShutdown_keeps s
  unfold beginShutdown
  dsimp only
  split
  · exact ⟨hlock, hrising⟩
  · obtain ⟨h1, h2⟩ := shutdownEnds_keeps (startShutdown s) hrising
    exact ⟨h1.trans hlock, h2⟩

/-- A rail that fails to rise locks the rails (R180). -/
theorem riseFails_lock {n : Nat} {s : State} (hlive : Live s) (hnone : NoneContained s .rls) :
    lockView (riseFails n s) = ⟨true, 1, n, s.rls.replayFail⟩ ∧ (riseFails n s).rls.rising = false := by
  set v := setLock 1 n (modRail n (fun r => { r with state := 5, good := false }) s) with hv
  have hraise : Events v (raise .rls 0 v) :=
    events_raiseMany hlive (ofClass_fatal (by decide) _) (.inr hnone)
  have hlock : lockView (raise .rls 0 v) = ⟨true, 1, n, s.rls.replayFail⟩ := by
    rw [lockView, faultFrame_rls hraise.frame]
    rfl
  have halive : (raise .rls 0 v).sys.state ≠ .fatal := by
    rcases hraise.hub with h | ⟨-, h⟩
    · rw [h]
      exact hlive.2
    · rw [h]
      nofun
  have heq : riseFails n s = beginShutdown (raise .rls 0 v) := by
    unfold riseFails
    dsimp only
    rw [← hv, if_neg halive]
  obtain ⟨h1, h2⟩ := beginShutdown_keeps (raise .rls 0 v)
  rw [heq]
  exact ⟨h1.trans hlock, h2⟩

/-- RIGGING's end with a rail whose failure ended a replay (R195). -/
theorem completes_rigging_replayFail (n : Nat) (s : State) (hstate : s.sys.state = .rigging)
    (hreplay : s.rls.replayFail = some n) (hlocked : s.rls.locked = false) (_ : s.rls.frozen = false)
    (hpf : s.sup.pf = false) (_ : n < 8) (hnone : NoneContained s .rls) :
    Completes (exec .riggingComplete s) fun t =>
      t.rls.locked = true ∧ t.rls.lockCause = 1 ∧ t.rls.lockRail = n ∧ t.rls.replayFail = none ∧ t.rls.rising = false := by
  have hexec : exec .riggingComplete s = .next (enterRising (rigging s)) := by
    show execRiggingComplete s = _
    rw [execRiggingComplete, if_pos hstate]
  have hview := rigView_rigging s
  have hbank := bankGet_rigging s
  rw [hexec]
  generalize rigging s = u at hview hbank
  have hreplay' : u.rls.replayFail = some n := (congrArg RigView.replayFail hview).trans hreplay
  have hlocked' : u.rls.locked = false := (congrArg RigView.locked hview).trans hlocked
  have hpf' : u.sup.pf = false := (congrArg RigView.pf hview).trans hpf
  set v : State := { u with sys := { u.sys with state := .rising } } with hv
  have hframe := startRising_frame false v
  set w : State := { startRising false v with rls := { (startRising false v).rls with replayFail := none } } with hw
  have hrise : enterRising u = riseFails n w := by
    unfold enterRising beginRising
    simp only [← hv]
    simp [hlocked', hpf', v, hreplay', w]
  have hwlive : Live w := by
    have : w.sys.state = .rising := by rw [hw, hframe]
    rw [Live, this]
    exact ⟨nofun, nofun⟩
  have hwnone : NoneContained w .rls := by
    have hfb : w.fb = u.fb := by rw [hw, hframe]
    have hmarks : marksOf (loadedBank s.rig.running .rls (bankGet s.fb .rls)) = marksOf (bankGet s.fb .rls) := rfl
    rw [NoneContained, hfb, hbank, uPend_congr hmarks]
    exact hnone
  obtain ⟨hlock, hrising⟩ := riseFails_lock (n := n) hwlive hwnone
  rw [hrise]
  exact completes_next ⟨congrArg LockView.locked hlock, congrArg LockView.cause hlock, congrArg LockView.rail hlock,
    congrArg LockView.replayFail hlock, hrising⟩

end Machine
end Sys2Proof
end

section
/-! The end of ENUMERATE (chapter 07): RUN is entered, and what a sweep's publication does there leaves the hub in RUN. -/
namespace Sys2Proof
namespace Machine

open Safety

/-! ### What the work of a publication leaves alone -/

/-- The hub state, the start words, the trial's window and the fault banks. -/
structure RunView where
  sys : Sys
  start : Start
  trialStart : Option Nat
  fb : FaultBanks

/-- The view of a state. -/
def runView (s : State) : RunView := ⟨s.sys, s.start, s.upd.trialStart, s.fb⟩

/-- From a calm hub in RUN, what happens keeps it so, with the start words and the trial's window. -/
def Steady (s t : State) : Prop :=
  s.sys.state = .run → Calm s →
    t.sys = s.sys ∧ t.start = s.start ∧ t.upd.trialStart = s.upd.trialStart ∧ Calm t

theorem steady_refl (s : State) : Steady s s := fun _ hs => ⟨rfl, rfl, rfl, hs⟩

theorem steady_trans {s t u : State} (h : Steady s t) (h' : Steady t u) : Steady s u := by
  intro hrun hs
  obtain ⟨h1, h2, h3, ht⟩ := h hrun hs
  obtain ⟨k1, k2, k3, hu⟩ := h' (by rw [h1]; exact hrun) ht
  exact ⟨k1.trans h1, k2.trans h2, k3.trans h3, hu⟩

theorem steady_ite {c : Prop} [Decidable c] {s t u : State} (ht : Steady s t) (hu : Steady s u) :
    Steady s (if c then t else u) := by
  split
  · exact ht
  · exact hu

/-- A calm hub with the same system block and the same banks is calm. -/
theorem calm_congr {s t : State} (hsys : t.sys = s.sys) (hfb : t.fb = s.fb) (hs : Calm s) : Calm t := by
  refine ⟨?_, fun b => ?_⟩
  · rw [Live, hsys]
    exact hs.live
  · rw [NoneContained, hfb]
    exact hs.none b

theorem steady_of_view {s t : State} (h : runView t = runView s) : Steady s t := fun _ hs =>
  ⟨congrArg RunView.sys h, congrArg RunView.start h, congrArg RunView.trialStart h,
    calm_congr (congrArg RunView.sys h) (congrArg RunView.fb h) hs⟩

theorem steady_foldl {α : Type} {f : State → α → State} (h : ∀ s a, Steady s (f s a)) (l : List α) (s : State) :
    Steady s (l.foldl f s) := by
  induction l generalizing s with
  | nil => exact steady_refl s
  | cons a l ih => exact steady_trans (h s a) (ih (f s a))

theorem Events.steady {s t : State} (h : Events s t) (hrun : s.sys.state = .run) (hs : Calm s) :
    t.sys = s.sys ∧ t.start = s.start ∧ t.upd.trialStart = s.upd.trialStart ∧ Calm t := by
  have hstate : t.sys.state = s.sys.state := by
    rcases h.hub with he | ⟨hb, -⟩
    · exact he
    · rw [hrun] at hb
      cases hb
  refine ⟨?_, faultFrame_start h.frame, by rw [faultFrame_upd h.frame], h.calm hs⟩
  rw [h.sys, hstate]

theorem steady_raiseMany {b : FBlk} (hb : b ≠ .sys) (ks : List Nat) (s : State) : Steady s (raiseMany b ks s) :=
  fun hrun hs => (hs.raiseMany (ofClass_fatal hb ks)).steady hrun hs

theorem steady_raise {b : FBlk} (hb : b ≠ .sys) (k : Nat) (s : State) : Steady s (raise b k s) :=
  steady_raiseMany hb [k] s

/-! ### The ledger -/

theorem putMarks_frame (before : Nat → Bool) (marks : List Nat) (s : State) :
    (putMarks before marks s).1 = { s with ldg := (putMarks before marks s).1.ldg, ord := (putMarks before marks s).1.ord } := by
  have hfold : ∀ {α : Type} (f : State → α → State), (∀ u a, f u a = { u with ldg := (f u a).ldg, ord := (f u a).ord }) →
      ∀ (l : List α) (u : State), l.foldl f u = { u with ldg := (l.foldl f u).ldg, ord := (l.foldl f u).ord } := by
    intro α f hf l
    induction l with
    | nil => exact fun u => rfl
    | cons a l ih => intro u; rw [List.foldl_cons, ih, hf]
  unfold putMarks
  dsimp only
  rw [hfold _ (fun u a => rfl), hfold _ (fun u a => rfl)]

/-- What holds across the ledger's words, the queue of orders, fault events of the ledger and records holds across a decision. -/
theorem decideWith_keeps {R : State → State → Prop} (htrans : ∀ {s t u}, R s t → R t u → R s u)
    (hwords : ∀ (s : State) (x : Ldg) (y : OrdBlock), R s { s with ldg := x, ord := y })
    (hraise : ∀ ks s, R s (raiseMany .ldg ks s)) (hrec : ∀ ty l s, R s (queueRec ty l s)) (ks : List Nat) (s : State) :
    R s (decideWith ks s) := by
  have hrefl : ∀ u, R u u := fun u => hwords u u.ldg u.ord
  unfold decideWith
  dsimp only
  generalize hp : putMarks _ _ _ = p
  have hframe : p.1 = { s with ldg := p.1.ldg, ord := p.1.ord } := by
    rw [← hp]
    exact putMarks_frame ..
  have hmarked : ∀ x : Ldg, R s { p.1 with ldg := x } := fun x => by
    rw [hframe]
    exact hwords s x p.1.ord
  have hclose : ∀ (c : Prop) [Decidable c] (u : State), R u (if c then queueLedger u else u) := fun c _ u => by
    split
    · exact hrec ..
    · exact hrefl u
  exact htrans (htrans (hmarked _) (hraise _ _)) (hclose _ _)

@[simp] theorem runView_queueRec (ty : Nat) (l : List Nat) (s : State) : runView (queueRec ty l s) = runView s := by
  rw [queueRec_frame]
  rfl

theorem steady_decideWith (ks : List Nat) (s : State) : Steady s (decideWith ks s) :=
  decideWith_keeps (R := Steady) steady_trans (fun _ _ _ => steady_of_view rfl) (fun ks s => steady_raiseMany (by decide) ks s)
    (fun _ _ _ => steady_of_view (runView_queueRec ..)) ks s

theorem steady_drainBattery (s : State) : Steady s (drainBattery s) := by
  have hldg : ∀ x : Ldg, Steady s { s with ldg := x } := fun _ => steady_of_view rfl
  unfold drainBattery
  dsimp only
  exact steady_ite (steady_ite (hldg _) (hldg _)) (steady_refl s)

theorem runView_addReading (id : Nat) (m : Option Nat) (s : State) : runView (addReading id m s) = runView s := by
  unfold addReading
  split
  · rfl
  · dsimp only
    split <;> rfl

theorem steady_sweepReadings (s : State) : Steady s (sweepReadings s) := by
  have hone : ∀ (l : List Nat) (f : State → Nat → Nat × Option Nat) (u : State),
      Steady u (l.foldl (fun s n => addReading (f s n).1 (f s n).2 s) u) := fun l f =>
    steady_foldl (fun s n => steady_of_view (runView_addReading _ _ s)) l
  unfold sweepReadings
  dsimp only
  refine steady_trans (steady_foldl (fun s e => ?_) _ s) (hone [0, 1, 2, 3] (fun s k => (k, _)) _)
  split
  · split
    · exact hone [0, 1, 2, 3] (fun s n => (slotOf e.1 n, _)) s
    · exact steady_refl s
  · exact steady_refl s

/-! ### Reports -/

theorem runView_endSatOrder (pos op code : Nat) (s : State) : runView (endSatOrder pos op code s) = runView s := by
  unfold endSatOrder
  split
  · rw [endOrder_frame]
    rfl
  · rfl

theorem runView_takeReports (s : State) : runView (takeReports s) = runView s := by
  unfold takeReports
  refine foldl_keeps runView (fun s e => ?_) _ s
  dsimp only
  split <;> rfl

theorem steady_sweepNews (s : State) : Steady s (sweepNews s) := by
  have hends : ∀ (l : List Nat) (u : State), Steady u (l.foldl (fun s pos => endSatOrder pos 0x11 0x044 s) u) := fun l =>
    steady_foldl (fun s pos => steady_of_view (runView_endSatOrder pos 0x11 0x044 s)) l
  unfold sweepNews
  exact steady_trans (steady_trans (steady_trans (steady_of_view (runView_takeReports s)) (hends _ _))
    (steady_raiseMany (by decide) _ _)) (steady_raiseMany (by decide) _ _)

/-! ### The lookout -/

/-- Clearing marks takes no block out of calm. -/
theorem uPend_of_cleared {cont : BitVec 9} {f g : FaultBank} {keep : BitVec 9} (h : uPend cont f = false)
    (hg : marksOf g = ((marksOf f).1 &&& keep, (marksOf f).2 &&& keep)) : uPend cont g = false := by
  simp only [uPend, decide_eq_false_iff_not, not_not] at h ⊢
  rw [hg]
  generalize (marksOf f).1 = a at h
  generalize (marksOf f).2 = b at h
  apply BitVec.eq_of_getLsbD_eq
  intro i hi
  have hbit : (a &&& (cont ||| b)).getLsbD i = false := by rw [h]; simp
  simp only [BitVec.getLsbD_and, BitVec.getLsbD_or] at hbit ⊢
  cases ha : a.getLsbD i <;> cases hb : b.getLsbD i <;> cases hc : cont.getLsbD i <;> simp_all

theorem uPend_ackBits {cont : BitVec 9} {f : FaultBank} (bits keep : BitVec 9) (h : uPend cont f = false) :
    uPend cont (ackBits cont f bits keep) = false := by
  refine uPend_of_cleared (keep := ~~~(bits &&& ~~~keep)) h ?_
  cases hnow : f.now with
  | none => simp [ackBits, marksOf, hnow, stickyBits, setWidth_withParity]
  | some m => simp [ackBits, marksOf, hnow]

theorem steady_ackBlock (b : FBlk) (bits : Nat) (s : State) : Steady s (ackBlock b bits s) := by
  intro _ hs
  refine ⟨rfl, rfl, rfl, hs.live, fun c => ?_⟩
  unfold ackBlock
  rw [NoneContained, bankGet_setBank]
  split
  · rename_i hc
    rw [hc]
    exact uPend_ackBits _ _ (hs.none b)
  · exact hs.none c

theorem steady_actAck (n : Nat) (s : State) : Steady s (actAck n s) := by
  unfold actAck
  dsimp only
  refine steady_ite (steady_foldl (fun s b => steady_ackBlock b _ s) _ s) ?_
  exact steady_trans (steady_foldl (fun s b => steady_ackBlock b _ s) _ s) (steady_of_view rfl)

theorem runView_cutFetch (s : State) : runView (cutFetch s) = runView s := by
  unfold cutFetch
  split <;> rfl

theorem runView_fallSlot (k c : Nat) (e d : Bool) (x : Option SlotState) (y : Option Nat) (s : State) :
    runView (fallSlot k c e d x y s) = runView s := by
  have hcut : runView (if k = 0 then cutFetch s else s) = runView s := by
    split
    · exact runView_cutFetch s
    · rfl
  unfold fallSlot
  dsimp only
  split
  · rw [runView_queueRec]
    exact hcut
  · exact hcut

theorem runView_dropRun (k : Nat) (s : State) : runView (dropRun k s) = runView s := by
  rw [dropRun_frame]
  rfl

theorem runView_sendCmd (pos : Nat) (c : HubCmd) (s : State) : runView (sendCmd pos c s) = runView s := by
  rw [sendCmd_frame]
  rfl

theorem steady_actRipcord (n : Nat) (s : State) : Steady s (actRipcord n s) := by
  unfold actRipcord
  dsimp only
  refine steady_ite (steady_ite ?_ (steady_refl s)) (steady_foldl (fun s e => steady_ite ?_ (steady_refl s)) _ s)
  · refine steady_of_view ?_
    rw [runView_fallSlot, runView_dropRun]
    rfl
  · refine steady_of_view ?_
    rw [runView_sendCmd]
    rfl

theorem steady_actRails (s : State) : Steady s (actRails s) := by
  unfold actRails
  refine steady_ite (steady_refl s) (steady_of_view ?_)
  rw [startShutdown_frame]
  rfl

theorem steady_actWake (n : Nat) (s : State) : Steady s (actWake n s) := by
  intro hrun hs
  have hwake : ∀ x : Lko, runView (coreWake 2 { s with lko := x }) = runView s := fun x => by
    simp only [coreWake, hrun]
    rfl
  exact steady_of_view (hwake _) hrun hs

theorem runView_modRule (n : Nat) (f : LkoRule → LkoRule) (s : State) : runView (modRule n f s) = runView s := rfl

theorem steady_actLog (n : Nat) (s : State) : Steady s (actLog n s) := by
  unfold actLog
  dsimp only
  refine steady_ite (steady_of_view rfl) (steady_of_view ?_)
  rw [runView_queueRec]
  rfl

theorem steady_ruleActions (n : Nat) (s : State) : Steady s (ruleActions n s) := by
  have hif : ∀ (c : Bool) {f : State → State}, (∀ u, Steady u (f u)) → ∀ u, Steady u (if c then f u else u) :=
    fun c f hf u => steady_ite (hf u) (steady_refl u)
  unfold ruleActions
  dsimp only
  set r := ruleGet s n
  have hnoted : Steady s (modRule n (fun r => { r with acted := true }) s) := steady_of_view rfl
  refine steady_trans (steady_trans hnoted (hif (ruleAct r 0) (steady_actLog n) _)) ?_
  refine steady_trans (hif (ruleAct r 1) (fun u => steady_of_view (runView_modRule n _ u)) _)
    (steady_ite ?_ (steady_refl _))
  exact steady_trans (hif (ruleAct r 2) (steady_actWake n) _) (steady_trans (hif (ruleAct r 4) (steady_actRipcord n) _)
    (steady_trans (hif (ruleAct r 5) steady_actRails _) (hif (ruleAct r 6) (steady_actAck n) _)))

theorem steady_evalRule (n v : Nat) (s : State) : Steady s (evalRule n v s).1 := by
  have hfollow : Steady s (pfwFollow (modRule n (fun r => stepRule r v) s)) := steady_of_view rfl
  unfold evalRule
  dsimp only
  split
  · exact steady_trans hfollow (steady_ruleActions n _)
  · exact hfollow

theorem steady_evalRules (pick : State → LkoRule → Option Nat) (s : State) : Steady s (evalRules pick s) := by
  have hfold : ∀ (f : State × Bool → Nat → State × Bool), (∀ a n, Steady a.1 (f a n).1) →
      ∀ (l : List Nat) (a : State × Bool), Steady a.1 (l.foldl f a).1 := by
    intro f hf l
    induction l with
    | nil => exact fun a => steady_refl a.1
    | cons n l ih => exact fun a => steady_trans (hf a n) (ih (f a n))
  unfold evalRules
  split
  · dsimp only
    refine steady_trans (hfold _ (fun a n => ?_) (List.range 32) (s, false))
      (steady_ite (steady_raise (by decide) 0 _) (steady_refl _))
    split
    · split
      · exact steady_evalRule n _ a.1
      · exact steady_refl _
    · exact steady_refl _
  · exact steady_refl s

/-! ### A publication and the next sweep -/

/-- What a publication puts in place before its readings are judged. -/
def sweepClosed (s : State) : State :=
  let b := s.mea.filling
  let miss := rowsWith b 2
  let stat := bit (decide (miss ≠ 0)) + 2 * bit (decide (rowsWith b 1 ≠ 0)) + 4 * bit (s.mea.queried.isEmpty)
  { s with
    mea := { s.mea with
      latest := { num := b.num, stat := stat, miss := miss, rows := closedRows b }, filling := {}, open_ := false
      queried := [], published := true, lastPartial := decide (miss ≠ 0) }
    start := { s.start with sweep := true }
    ldg := { s.ldg with declared := false } }

/-- Its report of a sweep that turned partial. -/
def turnNoted (turned : Bool) (s : State) : State :=
  if turned then raise .mea 0 (setIevtBoth 0x002 s) else setIevtBoth 0x002 s

/-- The lookout and the ledger at a publication. -/
def sweepJudged (s : State) : State :=
  let s := sweepNews s
  let high := measHighs s
  let s := evalSweep (sweepReadings s)
  if s.sys.state = .fatal then s
  else decideWith (if (measHighs s).all (fun id => high.contains id) then [] else [3]) (drainBattery s)

theorem publish_eq (s : State) :
    publish s = sweepJudged (turnNoted (decide (rowsWith s.mea.filling 2 ≠ 0) && !s.mea.lastPartial) (sweepClosed s)) := by
  unfold publish sweepJudged turnNoted sweepClosed
  dsimp only

theorem steady_turnNoted (turned : Bool) (s : State) : Steady s (turnNoted turned s) := by
  have hievt : Steady s (setIevtBoth 0x002 s) := steady_of_view rfl
  unfold turnNoted
  exact steady_ite (steady_trans hievt (steady_raise (by decide) 0 _)) hievt

theorem steady_sweepJudged (s : State) : Steady s (sweepJudged s) := by
  have heval : Steady s (evalSweep (sweepReadings (sweepNews s))) :=
    steady_trans (steady_sweepNews s) (steady_trans (steady_sweepReadings _) (steady_evalRules _ _))
  unfold sweepJudged
  exact steady_ite heval (steady_trans heval (steady_trans (steady_drainBattery _) (steady_decideWith _ _)))

/-- A publication in RUN, and what of the start words it moves. -/
theorem publish_words {s : State} (hrun : s.sys.state = .run) (hs : Calm s) :
    (publish s).sys = s.sys ∧ (publish s).start = { s.start with sweep := true } ∧
      (publish s).upd.trialStart = s.upd.trialStart ∧ Calm (publish s) := by
  have hclosed : Calm (sweepClosed s) := calm_congr (s := s) (t := sweepClosed s) rfl rfl hs
  rw [publish_eq]
  exact steady_trans (steady_turnNoted _ (sweepClosed s)) (steady_sweepJudged _) hrun hclosed

theorem runView_hubTo (pos : Nat) (seq : Bool) (ty : Nat) (l : List Byte) (s : State) :
    runView (hubTo pos seq ty l s) = runView s := rfl

/-- The start of a sweep in RUN. -/
theorem sweepStart_words {s : State} (hrun : s.sys.state = .run) (hs : Calm s) :
    (sweepStart s).sys = s.sys ∧ (sweepStart s).upd.trialStart = s.upd.trialStart ∧
      (sweepStart s).start = { s.start with sweep := (sweepStart s).start.sweep } := by
  have hpublish : publishWake s = publish s := by simp [publishWake, hrun]
  set u := if s.mea.open_ then publishWake s else s with hu
  have hwords : u.sys = s.sys ∧ u.upd.trialStart = s.upd.trialStart ∧ u.start = { s.start with sweep := u.start.sweep } := by
    rw [hu, hpublish]
    split
    · obtain ⟨h1, h2, h3, -⟩ := publish_words hrun hs
      exact ⟨h1, h3, by rw [h2]⟩
    · exact ⟨rfl, rfl, rfl⟩
  have hview : runView (sweepStart s) = runView u := by
    unfold sweepStart
    dsimp only
    rw [if_neg (by simp [hrun]), ← hu, foldl_keeps runView (fun s p => runView_hubTo p ..)]
    rfl
  obtain ⟨h1, h2, h3⟩ := hwords
  have hstart : (sweepStart s).start = u.start := congrArg RunView.start hview
  refine ⟨(congrArg RunView.sys hview).trans h1, (congrArg RunView.trialStart hview).trans h2, ?_⟩
  rw [hstart]
  exact h3

theorem runView_journalTidy (s : State) : runView (journalTidy s) = runView s := by
  unfold journalTidy
  split
  · split <;> rfl
  · split <;> rfl

theorem runView_startHeartbeats (s : State) : runView (startHeartbeats s) = runView s := rfl

theorem runView_queueStart (s : State) : runView (queueStart s) = runView s := by
  rw [queueStart_frame]
  rfl

/-- RUN's words as ENUMERATE ends. -/
def runEntered (s : State) : State :=
  { s with
    sys := { s.sys with state := .run }
    start := { s.start with enumDone := true, upms := upms s, streak := 0 }
    upd := { s.upd with trialStart := if s.sys.trial then some s.sys.tick else none } }

/-- RUN's records and its end-of-boot-count event. -/
def runNoted (s : State) : State :=
  let s := queueStart (startHeartbeats s)
  let s := if s.sys.alarm then alarmLedger true s else s
  journalTidy (if bootEnd s then raise .rnd 2 s else s)

theorem enterRun_eq (s : State) : enterRun s = sweepStart (runNoted (runEntered s)) := rfl

theorem steady_runNoted {s : State} (halarm : s.sys.alarm = false) : Steady s (runNoted s) := by
  have hstart : runView (queueStart (startHeartbeats s)) = runView s := by
    rw [runView_queueStart, runView_startHeartbeats]
  have hnot : (queueStart (startHeartbeats s)).sys.alarm = false := by
    rw [queueStart_sys]
    exact halarm
  unfold runNoted
  simp only [hnot, Bool.false_eq_true, if_false]
  exact steady_trans (steady_of_view hstart)
    (steady_trans (steady_ite (steady_raise (by decide) 2 _) (steady_refl _)) (steady_of_view (runView_journalTidy _)))

/-- ENUMERATE's end (R220, R221). -/
theorem completes_enumerate (s : State) (hstate : s.sys.state = .enumerate) (halarm : s.sys.alarm = false)
    (hnone : ∀ b ∈ allBlks, NoneContained s b) :
    Completes (exec .enumerateComplete s) fun t =>
      t.sys.state = .run ∧ t.start.enumDone = true ∧ t.start.streak = 0 ∧
      t.start.upms = min 0x3FE ((s.sys.tick - s.start.exitTick) / 800000) ∧
      t.upd.trialStart = (if s.sys.trial then some s.sys.tick else none) ∧ t.sys.tick = s.sys.tick := by
  have hexec : exec .enumerateComplete s = .next (enterRun s) := by
    show execEnumerateComplete s = _
    rw [execEnumerateComplete, if_pos hstate]
  have hcalm : Calm (runEntered s) := ⟨⟨nofun, nofun⟩, fun b => hnone b (mem_allBlks b)⟩
  obtain ⟨hsys, hstart, htrial, hcalm'⟩ := steady_runNoted (s := runEntered s) halarm rfl hcalm
  have hrun : (runNoted (runEntered s)).sys.state = .run := by rw [hsys]; rfl
  obtain ⟨hsys', htrial', hstart'⟩ := sweepStart_words hrun hcalm'
  rw [hexec, enterRun_eq]
  refine completes_next ⟨by rw [hsys', hrun], ?_, ?_, ?_, ?_, ?_⟩
  · rw [hstart', hstart]
    rfl
  · rw [hstart', hstart]
    rfl
  · rw [hstart', hstart]
    rfl
  · rw [htrial', htrial]
    rfl
  · rw [hsys', hsys]
    rfl

/-- Settles O14, stage by stage. -/
theorem startStages : Obligations.StartStages :=
  ⟨completes_boot_recov, completes_boot_streak, completes_boot_ripcord, completes_boot_rigging, completes_rigging,
    completes_rigging_replayFail, completes_enumerate⟩

end Machine
end Sys2Proof
end

section
/-! The release of a power failure (chapters 05, 25): a confirmation that waited for it takes effect. -/
namespace Sys2Proof
namespace Machine

/-- A power failure in which the running trial was confirmed: the confirmation waits for the release. -/
def confirmWaits : State :=
  { State.reset with
    sys := { State.reset.sys with trial := true }
    sup := { State.reset.sup with pf := true }
    upd := { State.reset.upd with confirmDue := true } }

/-- The release carries it out. -/
theorem exec_powerFailRelease_confirmWaits : exec .powerFailRelease confirmWaits = .next (releasePf confirmWaits) := by
  show execPowerFailRelease confirmWaits = _
  rw [execPowerFailRelease, if_pos (by decide)]

/-- The confirmed image asks for it, so its version becomes a floor in OTP (R852). -/
theorem releasePf_confirmWaits_floors : (releasePf confirmWaits).rnd.otp.floors ≠ confirmWaits.rnd.otp.floors := by
  decide

/-- Refutes O15: the release of a power failure programs a version floor where a confirmation waited for it. -/
theorem not_powerFailCommands : ¬ Obligations.PowerFailCommands := by
  rintro ⟨-, hrelease, -⟩
  obtain ⟨t, hexec, -, -, -, -, -, hotp⟩ := hrelease confirmWaits rfl rfl
  rw [exec_powerFailRelease_confirmWaits] at hexec
  cases hexec
  exact releasePf_confirmWaits_floors (congrArg Otp.floors hotp)

end Machine
end Sys2Proof
end

section
/-! Single-frame writes that are admitted (chapters 08, 09): the answer to what a word's block does with them. -/
namespace Sys2Proof
namespace Machine

open Safety

/-- The state as a single-frame write finds it: the recorder has noted the transaction's bits (R891). -/
def writeSeen (p : Port) (a v : Nat) (s : State) : State := takeSdi p 32 (sdiHead 1 a v) s

/-- The access code of an address leaves the write to the word's block. -/
def openAcc (a : Nat) : Bool :=
  match accOf a with
  | .test | .reserved | .ro | .rc | .frx => false
  | _ => true

theorem writeJudged_of_open {a : Nat} (h : openAcc a = true) (p : Port) (v : Nat) (own : State → Wr) (s : State) :
    writeJudged p a v own s = writeOpen p a v own s := by
  unfold openAcc at h
  unfold writeJudged
  split at h <;> simp_all

/-- A word of a block that is not being reset, and no fault word, is judged by its block. -/
theorem writeWord_of_open {p : Port} {a : Nat} {s : State} (hacc : openAcc a = true) (hfault : faultWordAt p a = none)
    (hreset : blockResets s p a = false) (v : Nat) : writeWord p a v s = writeOwn p a v s := by
  rw [writeWord, writeJudged_of_open hacc, writeOpen, hfault]
  simp [hreset]

theorem writeSeen_frame (p : Port) (a v : Nat) (s : State) :
    writeSeen p a v s = { s with ports := (writeSeen p a v s).ports } := rfl

theorem blockResets_writeSeen (p q : Port) (a b v : Nat) (s : State) :
    blockResets (writeSeen p a v s) q b = blockResets s q b := rfl

/-- An admitted write that its block takes is answered OK with the word that it leaves. -/
theorem wordFrame_ok {p : Port} {a : Nat} {w : Word} {s t : State} (h : WriteAdmitted s p a) (hacc : openAcc a = true)
    (hfault : faultWordAt p a = none) (hshadow : shadowWord a = false) (hpreset : a ≠ 0x08F)
    (hown : writeOwn p a w.toNat (writeSeen p a w.toNat s) = (0, t)) :
    wordFrame p a w s = respond p { stat := .ok, addr := a, data := shownWord p a t } t := by
  obtain ⟨⟨hheard, hrights⟩, hreset⟩ := h
  have hword : writeWord p a w.toNat (takeSdi p 32 (sdiHead 1 a w.toNat) s) = (0, t) :=
    (writeWord_of_open hacc hfault (s := writeSeen p a w.toNat s) hreset _).trans hown
  unfold wordFrame writeFrame
  simp [hheard, hrights, hword, writtenWord, hshadow, presetDone, hpreset]

/-- An admitted write that its block refuses is turned down with the reason. -/
theorem wordFrame_refused {p : Port} {a n : Nat} {w : Word} {s t : State} (h : WriteAdmitted s p a)
    (hacc : openAcc a = true) (hfault : faultWordAt p a = none)
    (hown : writeOwn p a w.toNat (writeSeen p a w.toNat s) = (n + 1, t)) :
    wordFrame p a w s = turnDown p a .refused (n + 1) t := by
  obtain ⟨⟨hheard, hrights⟩, hreset⟩ := h
  have hword : writeWord p a w.toNat (takeSdi p 32 (sdiHead 1 a w.toNat) s) = (n + 1, t) :=
    (writeWord_of_open hacc hfault (s := writeSeen p a w.toNat s) hreset _).trans hown
  unfold wordFrame writeFrame
  simp [hheard, hrights, hword]

/-- A bit of a word by its value. -/
theorem bitAt_toNat {n : Nat} (w : BitVec n) (i : Nat) : bitAt w.toNat i = w.getLsbD i := by
  simp [bitAt, BitVec.getLsbD, Nat.testBit_eq_decide_div_mod_eq]

/-! ### Responses -/

/-- A response of a port that answers. -/
theorem respond_of_answering {p : Port} {s : State} (h : (portGet s p).answering = true) (r : Response) :
    respond p r s = modPort p (fun x => { x with
      sent := x.owed, sdo := responseBits x.owed, owed := r, said := x.said ++ [responseEvent p true r] }) s := by
  simp [respond, respondAs, h]

theorem respond_frame (p : Port) (r : Response) (s : State) : respond p r s = { s with ports := (respond p r s).ports } := by
  unfold respond respondAs
  split <;> rfl

theorem owes_respond {p : Port} {s : State} (h : (portGet s p).answering = true) (st : Stat) (a : Nat) (d : Word) :
    Owes (respond p { stat := st, addr := a, data := d } s) p st a d := by
  rw [Owes, respond_of_answering h, portGet_modPort_same]

theorem portGet_modPort (p q : Port) (f : HostPort → HostPort) (s : State) :
    portGet (modPort p f s) q = if q = p then f (portGet s p) else portGet s q := by
  cases p <;> cases q <;> rfl

/-- A response changes of the port's words the responses, and of the other port none. -/
theorem portGet_respond (p q : Port) (r : Response) (s : State) :
    portGet (respond p r s) q = { portGet s q with
      sent := (portGet (respond p r s) q).sent, sdo := (portGet (respond p r s) q).sdo
      owed := (portGet (respond p r s) q).owed, said := (portGet (respond p r s) q).said } := by
  unfold respond respondAs
  split
  · rw [portGet_modPort]
    split
    · rename_i hq
      rw [hq]
    · rfl
  · rfl

/-- A port that takes frames answers. -/
theorem answering_of_heard {s : State} {p : Port} (h : heard s p = true) : (portGet s p).answering = true := by
  simp only [heard, Bool.and_eq_true] at h
  exact h.1.1.1

theorem portGet_writeSeen (p q : Port) (a v : Nat) (s : State) :
    portGet (writeSeen p a v s) q = { portGet s q with taken := (portGet (writeSeen p a v s) q).taken } := by
  unfold writeSeen takeSdi
  rw [portGet_modPort]
  split
  · rename_i hq
    rw [hq]
  · rfl

end Machine
end Sys2Proof
end

section
/-! The hold-up self-check and the alarm state (chapters 05, 10). -/
namespace Sys2Proof
namespace Machine

open Safety

/-! ### What a fault event does is made of few steps -/

/-- What holds across a bank's words, a queued fault record, a freeze, a wake and the entry to FATAL holds across fault events. -/
theorem raiseMany_keeps {R : State → State → Prop} {b : FBlk} (hrefl : ∀ s, R s s)
    (htrans : ∀ {s t u}, R s t → R t u → R s u) (hbank : ∀ x s, R s (setBank b x s))
    (hqueue : ∀ k c e s, R s (queueFault b k c e s)) (hfreeze : ∀ c e d s, R s (recFreeze c e d s))
    (hwake : ∀ f k e s, R s (wakeByFault f k e s)) (hfatal : ∀ n k kind frx s, R s (fatalEnter n k kind frx s))
    (ks : List Nat) (s : State) : R s (raiseMany b ks s) := by
  have hite : ∀ {c : Prop} [Decidable c] {s t u : State}, R s t → R s u → R s (if c then t else u) := by
    intro c _ s t u ht hu
    split
    · exact ht
    · exact hu
  have hfold : ∀ {f : State → Nat → State}, (∀ s a, R s (f s a)) → ∀ (l : List Nat) (s : State), R s (l.foldl f s) := by
    intro f hf l
    induction l with
    | nil => exact hrefl
    | cons a l ih => exact fun s => htrans (hf s a) (ih (f s a))
  have hcorrected : ∀ ks f s, R s (raiseCorrected b ks f s) := by
    intro ks f s
    unfold raiseCorrected
    dsimp only
    exact htrans (hbank _ s) (htrans (hfold (fun s j => hqueue j _ _ s) ks _)
      (htrans (hfreeze _ _ _ _) (hfold (fun s j => hwake f j _ s) ks _)))
  have hcontained : ∀ ks f s, R s (raiseContained b ks f s) := by
    intro ks f s
    unfold raiseContained
    dsimp only
    refine htrans (hbank _ s) (hite (htrans (hqueue _ _ _ _) (hfatal _ _ _ _ _)) ?_)
    exact htrans (hfold (fun s j => hqueue j 1 false s) ks _)
      (htrans (hfreeze _ _ _ _) (hfold (fun s j => hwake f j false s) ks _))
  unfold raiseMany
  dsimp only
  refine hite (hrefl s) (hite ?_ ?_)
  · split
    · exact htrans (hbank _ s) (hfatal _ _ _ _ _)
    · exact hrefl s
  · split
    · exact htrans (hbank _ s) (htrans (hqueue _ _ _ _) (hfatal _ _ _ _ _))
    · have hcorr : R s (if ofClass b .corrected ks = [] then s
          else raiseCorrected b (ofClass b .corrected ks) (bankGet s.fb b) s) := hite (hrefl s) (hcorrected _ _ s)
      exact hite hcorr (htrans hcorr (hcontained _ _ _))

/-! ### What follows an alarm's change leaves the alarm words -/

/-- The alarm words. -/
structure AlarmView where
  pin : Bool
  alarm : Bool
  req : PerPort Bool
  tick : Nat

/-- The view of a state. -/
def alarmView (s : State) : AlarmView := ⟨s.pins.alm, s.sys.alarm, s.sys.alarmReq, s.sys.tick⟩

/-- Between `s` and `t` the alarm words stay, a port that answers goes on answering, and its event bits stay set. -/
structure AlarmKept (s t : State) : Prop where
  view : alarmView t = alarmView s
  answers : ∀ p, (portGet s p).answering = true → (portGet t p).answering = true
  event : ∀ p i, (portGet s p).ievt.getLsbD i = true → (portGet t p).ievt.getLsbD i = true

theorem alarmKept_refl (s : State) : AlarmKept s s := ⟨rfl, fun _ => id, fun _ _ => id⟩

theorem alarmKept_trans {s t u : State} (h : AlarmKept s t) (h' : AlarmKept t u) : AlarmKept s u :=
  ⟨h'.view.trans h.view, fun p => h'.answers p ∘ h.answers p, fun p i => h'.event p i ∘ h.event p i⟩

theorem alarmKept_of_ports {s t : State} (hview : alarmView t = alarmView s) (hports : t.ports = s.ports) :
    AlarmKept s t := by
  refine ⟨hview, fun p => ?_, fun p i => ?_⟩ <;> rw [portGet, portGet, hports] <;> exact id

theorem alarmKept_foldl {α : Type} {f : State → α → State} (h : ∀ s a, AlarmKept s (f s a)) (l : List α) (s : State) :
    AlarmKept s (l.foldl f s) := by
  induction l generalizing s with
  | nil => exact alarmKept_refl s
  | cons a l ih => exact alarmKept_trans (h s a) (ih (f s a))

theorem alarmKept_ite {c : Prop} [Decidable c] {s t u : State} (ht : AlarmKept s t) (hu : AlarmKept s u) :
    AlarmKept s (if c then t else u) := by
  split
  · exact ht
  · exact hu

/-- Setting an event bit of the ports. -/
theorem alarmKept_setIevtBoth (bits : Word) (s : State) : AlarmKept s (setIevtBoth bits s) := by
  refine ⟨rfl, fun p h => ?_, fun p i h => ?_⟩
  · cases p <;> exact h
  · have hport : (portGet (setIevtBoth bits s) p).ievt = (portGet s p).ievt ||| bits := by cases p <;> rfl
    rw [hport, BitVec.getLsbD_or, h, Bool.true_or]

/-- The cores' wake. -/
theorem alarmKept_coreWake (n : Nat) (s : State) : AlarmKept s (coreWake n s) := by
  unfold coreWake
  split
  · refine alarmKept_trans ?_ (alarmKept_setIevtBoth 0x008 _)
    exact alarmKept_of_ports rfl rfl
  · exact alarmKept_of_ports rfl rfl
  · exact alarmKept_refl s

theorem alarmKept_queueFault (b : FBlk) (k c : Nat) (e : Bool) (s : State) : AlarmKept s (queueFault b k c e s) := by
  rw [queueFault_frame]
  exact alarmKept_of_ports rfl rfl

theorem alarmKept_recFreeze (c : Nat) (e d : Bool) (s : State) : AlarmKept s (recFreeze c e d s) := by
  rw [recFreeze_frame]
  exact alarmKept_of_ports rfl rfl

theorem alarmKept_wakeByFault (f : FaultBank) (k : Nat) (e : Bool) (s : State) : AlarmKept s (wakeByFault f k e s) := by
  unfold wakeByFault
  exact alarmKept_ite (alarmKept_coreWake 4 s) (alarmKept_refl s)

/-- Entry to FATAL. -/
theorem alarmKept_fatalEnter (n k kind frx : Nat) (s : State) : AlarmKept s (fatalEnter n k kind frx s) := by
  unfold fatalEnter
  dsimp only
  refine alarmKept_ite (alarmKept_refl s) (alarmKept_ite (alarmKept_ite (alarmKept_of_ports rfl rfl) (alarmKept_refl s)) ?_)
  refine ⟨?_, fun p _ => ?_, fun p i h => ?_⟩
  · simp [alarmView, trimsOff]
  · cases p <;> simp [portGet, perPortGet]
  · cases p <;> simpa [portGet, perPortGet] using h

/-- Fault events of any class. -/
theorem alarmKept_raiseMany (b : FBlk) (ks : List Nat) (s : State) : AlarmKept s (raiseMany b ks s) :=
  raiseMany_keeps alarmKept_refl alarmKept_trans (fun _ _ => alarmKept_of_ports rfl rfl)
    (fun k c e s => alarmKept_queueFault b k c e s) alarmKept_recFreeze alarmKept_wakeByFault
    (fun n k kind frx s => alarmKept_fatalEnter n k kind frx s) ks s

/-! ### The ledger's decision at an alarm's change -/

theorem alarmKept_decideWith (ks : List Nat) (s : State) : AlarmKept s (decideWith ks s) := by
  refine decideWith_keeps (R := AlarmKept) alarmKept_trans (fun _ _ _ => alarmKept_of_ports rfl rfl)
    (fun ks s => alarmKept_raiseMany .ldg ks s) (fun ty l s => ?_) ks s
  rw [queueRec_frame]
  exact alarmKept_of_ports rfl rfl

theorem alarmKept_alarmLedger (on : Bool) (s : State) : AlarmKept s (alarmLedger on s) := by
  unfold alarmLedger decide18
  dsimp only
  refine alarmKept_trans ?_ (alarmKept_decideWith [] _)
  exact alarmKept_ite (alarmKept_of_ports rfl rfl) (alarmKept_ite (alarmKept_of_ports rfl rfl) (alarmKept_refl s))

/-- ALARM_WAKE_ALL sends on the tethers and marks the hub's records. -/
theorem alarmWakeAll_frame (s : State) :
    alarmWakeAll s = { s with tth := (alarmWakeAll s).tth, sat := (alarmWakeAll s).sat } := by
  have hfold : ∀ (f : State → Nat → State), (∀ u a, f u a = { u with tth := (f u a).tth, sat := (f u a).sat }) →
      ∀ (l : List Nat) (u : State), l.foldl f u = { u with tth := (l.foldl f u).tth, sat := (l.foldl f u).sat } := by
    intro f hf l
    induction l with
    | nil => exact fun u => rfl
    | cons a l ih => intro u; rw [List.foldl_cons, ih, hf]
  have htether : ∀ (u : State) (k : Nat) (g : Tether → Tether),
      (if (rigTether u k).isSome then modTether k g u else u) =
        { u with
          tth := (if (rigTether u k).isSome then modTether k g u else u).tth
          sat := (if (rigTether u k).isSome then modTether k g u else u).sat } := by
    intro u k g
    split <;> rfl
  unfold alarmWakeAll
  dsimp only
  rw [hfold _ (fun u a => rfl), hfold _ (fun u a => htether u a _)]

/-- What the begin of an alarm does besides its own words. -/
theorem alarmKept_alarmBegins (s : State) :
    AlarmKept s (recFreeze 5 (bitAt s.rcd.cfg 3) true (rampTrims none (if ringLive s then alarmWakeAll s else s))) := by
  have hwake : AlarmKept s (if ringLive s then alarmWakeAll s else s) := by
    refine alarmKept_ite ?_ (alarmKept_refl s)
    rw [alarmWakeAll_frame]
    exact alarmKept_of_ports rfl rfl
  refine alarmKept_trans hwake (alarmKept_trans ?_ (alarmKept_recFreeze ..))
  exact alarmKept_of_ports rfl rfl

/-- The alarm state follows its inputs. -/
structure AlarmFollows (s t : State) : Prop where
  alarm : t.sys.alarm = alarmOn s
  pin : t.pins.alm = s.pins.alm
  req : t.sys.alarmReq = s.sys.alarmReq
  tick : t.sys.tick = s.sys.tick
  answers : ∀ p, (portGet s p).answering = true → (portGet t p).answering = true
  event : alarmOn s ≠ s.sys.alarm → ∀ p, (portGet t p).ievt.getLsbD 0 = true

/-- The alarm state's change before what follows from it. -/
def alarmTurned (s : State) : State := setIevtBoth 0x001 { s with sys := { s.sys with alarm := alarmOn s } }

/-- What follows from an alarm's change. -/
def alarmActed (on : Bool) (s : State) : State :=
  if s.sys.state = .fatal ∨ s.sys.state = .off ∨ s.sys.state = .reset then s
  else
    let s := if on then
        recFreeze 5 (bitAt s.rcd.cfg 3) true (rampTrims none (if ringLive s then alarmWakeAll s else s))
      else s
    let s := if on then coreWake 3 s else s
    if inService s then alarmLedger on s else s

theorem alarmUpdate_of_same {s : State} (h : alarmOn s = s.sys.alarm) : alarmUpdate s = s := by
  unfold alarmUpdate
  dsimp only
  rw [if_pos h]

theorem alarmUpdate_of_turned {s : State} (h : alarmOn s ≠ s.sys.alarm) :
    alarmUpdate s = alarmActed (alarmOn s) (alarmTurned s) := by
  unfold alarmUpdate
  dsimp only
  rw [if_neg h]
  rfl

theorem alarmKept_alarmActed (on : Bool) (s : State) : AlarmKept s (alarmActed on s) := by
  unfold alarmActed
  dsimp only
  refine alarmKept_ite (alarmKept_refl s) ?_
  refine alarmKept_trans ?_ (alarmKept_ite (alarmKept_alarmLedger on _) (alarmKept_refl _))
  refine alarmKept_trans ?_ (alarmKept_ite (alarmKept_coreWake 3 _) (alarmKept_refl _))
  exact alarmKept_ite (alarmKept_alarmBegins s) (alarmKept_refl s)

theorem alarmFollows_alarmUpdate (s : State) : AlarmFollows s (alarmUpdate s) := by
  by_cases h : alarmOn s = s.sys.alarm
  · rw [alarmUpdate_of_same h]
    exact ⟨h.symm, rfl, rfl, rfl, fun _ => id, fun hne => absurd h hne⟩
  · have hkept : AlarmKept (alarmTurned s) (alarmUpdate s) := by
      rw [alarmUpdate_of_turned h]
      exact alarmKept_alarmActed ..
    have hbit : ∀ p, (portGet (alarmTurned s) p).ievt.getLsbD 0 = true := fun p => by
      have hport : (portGet (alarmTurned s) p).ievt = (portGet s p).ievt ||| 0x001 := by cases p <;> rfl
      rw [hport, BitVec.getLsbD_or]
      simp
    have hview := hkept.view
    refine ⟨congrArg AlarmView.alarm hview, congrArg AlarmView.pin hview, congrArg AlarmView.req hview,
      congrArg AlarmView.tick hview, fun p ha => hkept.answers p ?_, fun _ p => hkept.event p 0 (hbit p)⟩
    cases p <;> exact ha

/-! ### The commands -/

/-- ALM_FILTER_CHANGE (R114). -/
theorem completes_almFilterChange (level : Bool) (s : State) (hvio : s.pins.vioOk = true) (hoff : s.sys.state ≠ .off)
    (hreset : s.sys.state ≠ .reset) :
    Completes (exec (.almFilterChange level) s) fun t =>
      t.pins.alm = level ∧ t.sys.alarm = (level || s.sys.alarmReq.a || s.sys.alarmReq.b) ∧
      (t.sys.alarm ≠ s.sys.alarm → t.ports.a.ievt.getLsbD 0 = true ∧ t.ports.b.ievt.getLsbD 0 = true) ∧
      (t.sys.alarm = s.sys.alarm → t = { s with pins := { s.pins with alm := level, almRaw := level } }) ∧
      t.sys.alarmReq = s.sys.alarmReq ∧ t.sys.tick = s.sys.tick := by
  set u : State := { s with pins := { s.pins with alm := level, almRaw := level } } with hu
  have hexec : exec (.almFilterChange level) s = .next (alarmUpdate u) := by
    show execAlmFilterChange level s = _
    simp [execAlmFilterChange, hvio, hoff, hreset, u]
  have hfollows := alarmFollows_alarmUpdate u
  rw [hexec]
  refine completes_next ⟨hfollows.pin, hfollows.alarm, fun hne => ?_, fun heq => ?_, hfollows.req, hfollows.tick⟩
  · rw [hfollows.alarm] at hne
    exact ⟨hfollows.event hne .a, hfollows.event hne .b⟩
  · rw [hfollows.alarm] at heq
    exact alarmUpdate_of_same heq

/-- A write of SYS_ALARM as its block takes it. -/
theorem writeOwn_sysAlarm (p : Port) (v : Nat) (s : State) : writeOwn p 0x041 v s = (0, setAlarmReq p (bitAt v 0) s) := rfl

theorem regRead_sysAlarm (s : State) (p : Port) : regRead s p 0x041 = toWord (bit (perPortGet s.sys.alarmReq p)) := by
  have hacc : accOf 0x041 = .rw := by decide
  have hfault : faultWordAt p 0x041 = none := by cases p <;> decide
  simp only [regRead, hacc, hfault]
  rfl

/-- SYS_ALARM (R298). -/
theorem completes_sysAlarmWrite (p : Port) (data : Word) (s : State) (h : WriteAdmitted s p 0x041) :
    Completes (exec (.sysAlarmWrite p data) s) fun t =>
      t.sys.alarmReq = perPortSet s.sys.alarmReq p (data.getLsbD 0) ∧
      t.sys.alarm = (s.pins.alm || t.sys.alarmReq.a || t.sys.alarmReq.b) ∧
      (t.sys.alarm ≠ s.sys.alarm → t.ports.a.ievt.getLsbD 0 = true ∧ t.ports.b.ievt.getLsbD 0 = true) ∧
      t.pins.alm = s.pins.alm ∧ t.sys.tick = s.sys.tick ∧ Owes t p .ok 0x041 (regRead t p 0x041) := by
  set u : State := { writeSeen p 0x041 data.toNat s with
    sys := { s.sys with alarmReq := perPortSet s.sys.alarmReq p (bitAt data.toNat 0) } } with hu
  have hfollows := alarmFollows_alarmUpdate u
  have hfault : faultWordAt p 0x041 = none := by cases p <;> decide
  have hexec : exec (.sysAlarmWrite p data) s = .next (respond p
      { stat := .ok, addr := 0x041, data := shownWord p 0x041 (alarmUpdate u) } (alarmUpdate u)) := by
    show execSysAlarmWrite p data s = _
    rw [execSysAlarmWrite, wordFrame_ok h (by decide) hfault (by decide) (by decide) (writeOwn_sysAlarm ..)]
    rfl
  have hanswers : (portGet (alarmUpdate u) p).answering = true := by
    refine hfollows.answers p ?_
    have hport : portGet u p = portGet (writeSeen p 0x041 data.toNat s) p := rfl
    rw [hport, portGet_writeSeen]
    exact answering_of_heard h.1.1
  have hshown : shownWord p 0x041 (alarmUpdate u) = regRead (alarmUpdate u) p 0x041 := by
    simp [shownWord, replayed, liveInReplay, idnSys]
  have hreq : (alarmUpdate u).sys.alarmReq = perPortSet s.sys.alarmReq p (data.getLsbD 0) := by
    rw [hfollows.req, ← bitAt_toNat]
  have hon : alarmOn u = (s.pins.alm || (alarmUpdate u).sys.alarmReq.a || (alarmUpdate u).sys.alarmReq.b) := by
    rw [hfollows.req]
    rfl
  have hevent : ∀ t q, (portGet (respond p t (alarmUpdate u)) q).ievt = (portGet (alarmUpdate u) q).ievt := fun t q => by
    rw [portGet_respond]
  rw [hexec, hshown]
  set r : Response := { stat := .ok, addr := 0x041, data := regRead (alarmUpdate u) p 0x041 }
  have hframe := respond_frame p r (alarmUpdate u)
  refine completes_next ⟨by rw [hframe, hreq], ?_, fun hne => ?_, ?_, ?_, ?_⟩
  · rw [hframe, hfollows.alarm]
    exact hon
  · have hturned : alarmOn u ≠ u.sys.alarm := by
      rw [hframe, hfollows.alarm] at hne
      exact hne
    have ha := hfollows.event hturned .a
    have hb := hfollows.event hturned .b
    rw [← hevent r] at ha hb
    exact ⟨ha, hb⟩
  · rw [hframe]
    exact hfollows.pin
  · rw [hframe]
    exact hfollows.tick
  · have hread : regRead (respond p r (alarmUpdate u)) p 0x041 = regRead (alarmUpdate u) p 0x041 := by
      rw [regRead_sysAlarm, regRead_sysAlarm, hframe]
    rw [hread]
    exact owes_respond hanswers ..

/-- HOLD_LOW (R149). -/
theorem completes_holdLow (s : State) (hpast : pastRigging s = true) (hpf : s.sup.pf = false) (hlow : holdOk s = false)
    (hnone : NoneContained s .sys) : Completes (exec .holdLow s) fun t => Raised .sys 2 s t := by
  have hlive : Live s := by
    constructor <;> intro h <;> simp [pastRigging, h] at hpast
  have hexec : exec .holdLow s = .next (raise .sys 2 s) := by
    show execHoldLow s = _
    simp [execHoldLow, hpast, hpf, hlow]
  rw [hexec]
  exact completes_next (raised_raise hlive (.inr ⟨by decide, hnone⟩))

/-- Settles O16. -/
theorem holdAndAlarm : Obligations.HoldAndAlarm := by
  refine ⟨fun s h => ?_, fun ticks s h => ?_, completes_holdLow, completes_almFilterChange, completes_sysAlarmWrite⟩
  · have hexec : exec .holdSelfCheckStart s = .next { s with sup := { s.sup with checking := true, charger := false } } := by
      show execHoldSelfCheckStart s = _
      rw [execHoldSelfCheckStart, if_pos h]
    rw [hexec]
    exact completes_next rfl
  · have hexec : exec (.holdSelfCheckDone ticks) s = .next { s with
        sup := { s.sup with checking := false, charger := true, holdc := holdCap ticks }
        start := { s.start with holdc := true } } := by
      show execHoldSelfCheckDone ticks s = _
      rw [execHoldSelfCheckDone, if_pos h]
    rw [hexec]
    exact completes_next ⟨rfl, rfl, rfl, rfl, rfl⟩

end Machine
end Sys2Proof
end

section
/-! Slots and satellites (chapters 13, 14): one rule per operation that a slot event runs, and what an emergency does to its slot. -/
namespace Sys2Proof
namespace Machine

open Safety

/-! ### Character traces -/

/-- An entry of the trace touches nothing but its slot's trace. -/
theorem slotGet_traceAdd (k kind data j : Nat) (s : State) :
    slotGet (traceAdd k kind data s) j =
      if j = k then { slotGet s k with trace := (slotGet (traceAdd k kind data s) k).trace } else slotGet s j := by
  unfold traceAdd
  dsimp only
  by_cases hj : j = k
  · subst hj
    split <;> simp
  · split <;> simp [hj]

theorem slotGet_traceTrigger (k cause j : Nat) (s : State) :
    slotGet (traceTrigger k cause s) j =
      if j = k then { slotGet s k with trace := (slotGet (traceTrigger k cause s) k).trace } else slotGet s j := by
  unfold traceTrigger
  by_cases hj : j = k
  · subst hj
    split
    · simp
    · simp only [slotGet_modSlot, if_true]
      split <;> rfl
  · split <;> simp [hj]

/-- Between `s` and `t` a slot's trace may have changed, and no other slot. -/
def Traced (k : Nat) (s t : State) : Prop :=
  slotGet t k = { slotGet s k with trace := (slotGet t k).trace } ∧ SlotsBut k s t

theorem traced_refl (k : Nat) (s : State) : Traced k s s := ⟨rfl, fun _ _ => rfl⟩

theorem traced_trans {k : Nat} {s t u : State} (h : Traced k s t) (h' : Traced k t u) : Traced k s u := by
  refine ⟨?_, fun j hj => (h'.2 j hj).trans (h.2 j hj)⟩
  rw [h'.1, h.1]

theorem traced_traceAdd (k kind data : Nat) (s : State) : Traced k s (traceAdd k kind data s) := by
  refine ⟨?_, fun j hj => ?_⟩
  · conv_lhs => rw [slotGet_traceAdd, if_pos rfl]
  · rw [slotGet_traceAdd, if_neg hj]

theorem traced_traceTrigger (k cause : Nat) (s : State) : Traced k s (traceTrigger k cause s) := by
  refine ⟨?_, fun j hj => ?_⟩
  · conv_lhs => rw [slotGet_traceTrigger, if_pos rfl]
  · rw [slotGet_traceTrigger, if_neg hj]

theorem traced_of_slots {k : Nat} {s t : State} (h : t.slots = s.slots) : Traced k s t := by
  have hget : ∀ j, slotGet t j = slotGet s j := fun j => by rw [slotGet, h, slotGet]
  exact ⟨by rw [hget], fun j _ => hget j⟩

theorem traced_foldl {α : Type} {k : Nat} {f : State → α → State} (h : ∀ s a, Traced k s (f s a)) (l : List α) (s : State) :
    Traced k s (l.foldl f s) := by
  induction l generalizing s with
  | nil => exact traced_refl k s
  | cons a l ih => exact traced_trans (h s a) (ih (f s a))

theorem traced_ite {c : Prop} [Decidable c] {k : Nat} {s t u : State} (ht : Traced k s t) (hu : Traced k s u) :
    Traced k s (if c then t else u) := by
  split
  · exact ht
  · exact hu

/-! ### Results of a satellite -/

/-- Sending puts frames on the outputs. -/
theorem satSend_frame (k : Bool) (f : RingFrame) (x : Sat) :
    satSend k f x = { x with outF := (satSend k f x).outF, outK := (satSend k f x).outK } := by
  unfold satSend modPair
  split <;> rfl

theorem sendResult_frame (x : Sat) : sendResult x = { x with outF := (sendResult x).outF, outK := (sendResult x).outK } := by
  unfold sendResult
  split
  · rfl
  · split
    · exact satSend_frame ..
    · rfl

/-- Taking the next waiting RESULT moves what is under way, what waits, S and the outputs. -/
theorem nextResult_frame (x : Sat) : nextResult x =
    { x with
      sending := (nextResult x).sending, results := (nextResult x).results, togS := (nextResult x).togS
      outF := (nextResult x).outF, outK := (nextResult x).outK } := by
  unfold nextResult
  split
  · rfl
  · split
    · rw [sendResult_frame]
    · rfl

/-- What a satellite queues it sends or has waiting. -/
theorem sends_nextResult {x : Sat} {r : SatResult} (h : Sends x r) : Sends (nextResult x) r := by
  unfold nextResult
  split
  · exact h
  · split
    · rename_i first rest hsending hresults
      rw [Sends, sendResult_frame]
      rcases h with h | h
      · rw [hsending] at h
        cases h
      · rw [hresults, List.mem_cons] at h
        rcases h with h | h
        · exact .inl (by rw [h])
        · exact .inr h
    · exact h

theorem satGet_satResult (n j : Nat) (r : SatResult) (s : State) :
    satGet (satResult n r s) j =
      if j = n then nextResult { satGet s n with results := (satGet s n).results ++ [r] } else satGet s j := by
  simp [satResult]

theorem satGet_satResultFirst (n j : Nat) (r : SatResult) (s : State) :
    satGet (satResultFirst n r s) j =
      if j = n then nextResult { satGet s n with results := r :: (satGet s n).results } else satGet s j := by
  simp [satResultFirst]

/-- Between `s` and `t` a satellite has at most queued and sent RESULTs; no other has changed. -/
def Reported (n : Nat) (s t : State) : Prop :=
  satGet t n = { satGet s n with
    sending := (satGet t n).sending, results := (satGet t n).results, togS := (satGet t n).togS
    outF := (satGet t n).outF, outK := (satGet t n).outK } ∧ SatsBut n s t

theorem reported_refl (n : Nat) (s : State) : Reported n s s := ⟨rfl, fun _ _ => rfl⟩

theorem reported_trans {n : Nat} {s t u : State} (h : Reported n s t) (h' : Reported n t u) : Reported n s u := by
  refine ⟨?_, fun j hj => (h'.2 j hj).trans (h.2 j hj)⟩
  rw [h'.1, h.1]

theorem reported_satResult (n : Nat) (r : SatResult) (s : State) : Reported n s (satResult n r s) := by
  refine ⟨?_, fun j hj => by rw [satGet_satResult, if_neg hj]⟩
  have h : satGet (satResult n r s) n = nextResult { satGet s n with results := (satGet s n).results ++ [r] } := by
    rw [satGet_satResult, if_pos rfl]
  rw [h, nextResult_frame]

theorem reported_satResultFirst (n : Nat) (r : SatResult) (s : State) : Reported n s (satResultFirst n r s) := by
  refine ⟨?_, fun j hj => by rw [satGet_satResultFirst, if_neg hj]⟩
  have h : satGet (satResultFirst n r s) n = nextResult { satGet s n with results := r :: (satGet s n).results } := by
    rw [satGet_satResultFirst, if_pos rfl]
  rw [h, nextResult_frame]

theorem reported_foldl {α : Type} {n : Nat} {f : State → α → State} (h : ∀ s a, Reported n s (f s a)) (l : List α) (s : State) :
    Reported n s (l.foldl f s) := by
  induction l generalizing s with
  | nil => exact reported_refl n s
  | cons a l ih => exact reported_trans (h s a) (ih (f s a))

theorem reported_of_sats {n : Nat} {s t : State} (h : t.sat.sats = s.sat.sats) : Reported n s t := by
  have hget : ∀ j, satGet t j = satGet s j := fun j => by rw [satGet, h, satGet]
  exact ⟨by rw [hget], fun j _ => hget j⟩

theorem sends_satResult (n : Nat) (r : SatResult) (s : State) : Sends (satGet (satResult n r s) n) r := by
  rw [satGet_satResult, if_pos rfl]
  exact sends_nextResult (.inr (List.mem_append_right _ (List.mem_singleton.mpr rfl)))

/-- A slot event at a satellite that is awake. -/
theorem satStir_cond {n : Nat} (hn : n ≠ 0) (s : State) : (satGet (satStir n s) n).cond ≠ .asleep := by
  unfold satStir
  split
  · rw [(reported_satResultFirst n _ _).1, satGet_modSat, if_pos rfl]
    nofun
  · rename_i h
    exact fun ha => h ⟨hn, ha⟩

theorem satStir_others (n : Nat) (s : State) : SatsBut n s (satStir n s) := by
  intro j hj
  unfold satStir
  split
  · rw [(reported_satResultFirst n _ _).2 j hj, satGet_modSat, if_neg hj]
  · rfl

/-- The satellite's report of a slot event. -/
theorem detResult_frame (k event : Nat) (s : State) :
    detResult k event s = { s with slots := (detResult k event s).slots, sat := (detResult k event s).sat } := by
  unfold detResult
  dsimp only
  rw [satResult_frame, traceTrigger_frame, traceAdd_frame, satStir_frame]

theorem satStir_sats_frame (n : Nat) (s : State) :
    satStir n s = { s with sat := { s.sat with sats := (satStir n s).sat.sats } } := by
  unfold satStir
  split <;> rfl

theorem detResult_sat_frame (k event : Nat) (s : State) :
    detResult k event s =
      { s with slots := (detResult k event s).slots, sat := { s.sat with sats := (detResult k event s).sat.sats } } := by
  have hsat : (detResult k event s).sat = { s.sat with sats := (detResult k event s).sat.sats } := by
    have hstir : (traceTrigger k 2 (traceAdd k 4 event (satStir (satOfSlot k) s))).sat =
        { s.sat with sats := (satStir (satOfSlot k) s).sat.sats } := by
      rw [traceTrigger_sat, traceAdd_sat, satStir_sats_frame]
    have hresult : ∀ n r u x, u.sat = { s.sat with sats := x } →
        (satResult n r u).sat = { s.sat with sats := (satResult n r u).sat.sats } := by
      intro n r u x h
      have hone : (satResult n r u).sat = { u.sat with sats := (satResult n r u).sat.sats } := rfl
      exact hone.trans (by rw [h])
    exact hresult _ _ _ _ hstir
  rw [← hsat]
  exact detResult_frame k event s

theorem traced_detResult (k event : Nat) (s : State) : Traced k s (detResult k event s) := by
  unfold detResult
  dsimp only
  refine traced_trans (traced_of_slots (t := satStir (satOfSlot k) s) (by simp)) ?_
  refine traced_trans (traced_traceAdd k 4 event _) ?_
  refine traced_trans (traced_traceTrigger k 2 _) (traced_of_slots ?_)
  simp

/-- What a report of a slot event leaves a satellite with. -/
theorem detResult_reports {k : Nat} (hk : 4 ≤ k) (event : Nat) (s : State) :
    (satGet (detResult k event s) (k / 4)).cond ≠ .asleep ∧
    Sends (satGet (detResult k event s) (k / 4))
      { kind := 0x03, slot := k % 4, payload := [byte event, byte (slotCode (slotGet s k).st)] } ∧
    SatsBut (k / 4) s (detResult k event s) := by
  have hn : k / 4 ≠ 0 := by omega
  set u := traceTrigger k 2 (traceAdd k 4 event (satStir (satOfSlot k) s)) with hu
  have hslot : slotGet u k = { slotGet s k with trace := (slotGet u k).trace } := by
    refine (traced_trans (traced_trans (traced_of_slots (t := satStir (satOfSlot k) s) (by simp))
      (traced_traceAdd k 4 event _)) (traced_traceTrigger k 2 _)).1
  have hst : (slotGet u k).st = (slotGet s k).st := by rw [hslot]
  have hsat : ∀ j, satGet u j = satGet (satStir (k / 4) s) j := fun j => by rw [hu]; simp [satOfSlot]
  have heq : detResult k event s = satResult (k / 4)
      { kind := 0x03, slot := k % 4, payload := [byte event, byte (slotCode (slotGet s k).st)] } u := by
    rw [← hst]
    rfl
  rw [heq]
  refine ⟨?_, sends_satResult .., fun j hj => ?_⟩
  · rw [(reported_satResult ..).1, hsat]
    exact satStir_cond hn s
  · rw [(reported_satResult ..).2 j hj, hsat]
    exact satStir_others _ s j hj

/-! ### An emergency -/

/-- Counting a cause is at its slot. -/
def countRemovals (cs : List Nat) (n : Nat) : Nat := cs.foldl (fun n c => if c = 2 then satInc n else n) n

/-- Current and undervoltage trips are counted. -/
def countTrips (cs : List Nat) (n : Nat) : Nat := cs.foldl (fun n c => if c = 3 ∨ c = 4 then satInc n else n) n

theorem slotGet_causeCounts (k c j : Nat) (s : State) : slotGet (causeCounts k c s) j =
    if j = k then { slotGet s k with
        removals := if c = 2 then satInc (slotGet s k).removals else (slotGet s k).removals
        trips := if c = 3 ∨ c = 4 then satInc (slotGet s k).trips else (slotGet s k).trips }
      else slotGet s j := by
  unfold causeCounts
  by_cases hj : j = k
  · subst hj
    by_cases h2 : c = 2
    · simp [h2]
    · by_cases h3 : c = 3 ∨ c = 4 <;> simp [h2, h3]
  · by_cases h2 : c = 2
    · simp [h2, hj]
    · by_cases h3 : c = 3 ∨ c = 4 <;> simp [h2, h3, hj]

theorem slotGet_foldl_causeCounts (k : Nat) (cs : List Nat) (s : State) (j : Nat) :
    slotGet (cs.foldl (fun s c => causeCounts k c s) s) j =
      if j = k then { slotGet s k with
          removals := countRemovals cs (slotGet s k).removals, trips := countTrips cs (slotGet s k).trips }
        else slotGet s j := by
  induction cs generalizing s with
  | nil =>
    by_cases hj : j = k
    · subst hj
      simp [countRemovals, countTrips]
    · simp [hj]
  | cons c cs ih =>
    rw [List.foldl_cons, ih]
    by_cases hj : j = k
    · subst hj
      simp only [slotGet_causeCounts, if_true]
      rfl
    · simp [slotGet_causeCounts, hj]

/-- An event that is neither of fatal nor of contained class leaves the slots, in whatever state the hub is. -/
theorem raiseMany_slots {b : FBlk} {ks : List Nat} (hfatal : ofClass b .fatal ks = []) (hcont : ofClass b .contained ks = [])
    (s : State) : (raiseMany b ks s).slots = s.slots := by
  by_cases hlive : Live s
  · exact faultFrame_slots (events_raiseMany hlive hfatal (.inl hcont)).frame
  · have hsame : raiseMany b ks s = s := by
      have hor : s.sys.state = .off ∨ s.sys.state = .fatal := by
        by_contra h
        exact hlive (not_or.mp h)
      rcases hor with h | h <;> simp [raiseMany, h, hfatal]
    rw [hsame]

/-- A mild source of a satellite changes no slot. -/
theorem satRaise_slots {n k : Nat} {s : State} (hk : k < 6) (hcont : satContained.getLsbD k = false)
    (hmild : MildSource (satGet s n) k) : (satRaise n k s).slots = s.slots := by
  have hcode : ∀ u, satReact n (codeOf (satGet s n).fault k) u = u := by
    intro u
    unfold satReact
    rw [if_neg (by omega), if_neg (by omega), if_neg (by omega)]
  have hreport : ∀ u, (satFaultResult n u).slots = u.slots := fun u => by simp [satFaultResult]
  unfold satRaise
  dsimp only
  rw [if_neg (by omega), hcont, if_neg Bool.false_ne_true, hcode, hreport]
  rfl

/-- A trip among the causes, which a satellite raises in its own fault word. -/
def tripCause (cs : List Nat) : Bool := cs.contains 3 || cs.contains 4 || cs.contains 9

/-- The sources that causes raise in the SLT block are all of corrected class. -/
theorem causeFaults_slots {k : Nat} {cs : List Nat} {s : State}
    (hmild : 4 ≤ k → tripCause cs = true → MildSource (satGet s (k / 4)) 0) : (causeFaults k cs s).slots = s.slots := by
  unfold causeFaults
  dsimp only
  split
  · exact raiseMany_slots (ofClass_fatal (by decide) _) (by (repeat' split) <;> decide) s
  · rename_i hlocal
    have hk : 4 ≤ k := by simpa [isLocal] using hlocal
    split
    · rename_i htrip
      exact satRaise_slots (by omega) (by decide) (hmild hk htrip)
    · rfl

theorem satStir_fault (n j : Nat) (s : State) : (satGet (satStir n s) j).fault = (satGet s j).fault := by
  unfold satStir
  split
  · by_cases hj : j = n
    · subst hj
      rw [(reported_satResultFirst j _ _).1, satGet_modSat, if_pos rfl]
    · rw [(reported_satResultFirst n _ _).2 j hj, satGet_modSat, if_neg hj]
  · rfl

theorem foldl_causeCounts_frame (k : Nat) (cs : List Nat) (s : State) :
    cs.foldl (fun s c => causeCounts k c s) s =
      { s with slots := (cs.foldl (fun s c => causeCounts k c s) s).slots } := by
  induction cs generalizing s with
  | nil => rfl
  | cons c cs ih =>
    rw [List.foldl_cons, ih]
    unfold causeCounts
    (repeat' split) <;> rfl

theorem foldl_traceAdd_frame {α : Type} (k kind : Nat) (f : α → Nat) (cs : List α) (s : State) :
    cs.foldl (fun s c => traceAdd k kind (f c) s) s =
      { s with slots := (cs.foldl (fun s c => traceAdd k kind (f c) s) s).slots } := by
  induction cs generalizing s with
  | nil => rfl
  | cons c cs ih => rw [List.foldl_cons, ih, traceAdd_frame]

/-- What the causes of a tick leave a slot with that is in session. -/
structure EmergencyFalls (k : Nat) (causes : List Nat) (top : Nat) (s t : State) : Prop where
  slot : slotGet t k = { slotFall top true (decide (1 < causes.length)) (causeEnd top)
      (some (causesStatus (slotGet s k) causes top)) s.sys.tick (slotGet s k) with
    removals := countRemovals (causesCounted s (slotGet s k) causes) (slotGet s k).removals
    trips := countTrips (causesCounted s (slotGet s k) causes) (slotGet s k).trips
    trace := (slotGet t k).trace }
  others : SlotsBut k s t

/-- A slot that falls by emergency, before its causes are counted and raised. -/
def emergencyBegun (k : Nat) (causes : List Nat) (top : Nat) (s : State) : State :=
  let x := slotGet s k
  let writing := x.sd.writing || !x.sd.runDone.isEmpty
  let t := fallSlot k top true (decide (1 < causes.length)) (causeEnd top) (some (causesStatus x causes top))
    (satStir (satOfSlot k) s)
  let t := causes.foldl (fun t c => traceAdd k 4 (causeTrace writing c) t) t
  if isLocal k then t
  else match causeEvent writing top with
    | some _ => traceTrigger k 2 t
    | none => t

theorem emergency_eq {k own : Nat} {others : List Nat} {s : State}
    (h : inSession (slotGet s k) = true ∨ fallsNow s (slotGet s k) = true) :
    emergency k (own :: others) s =
      causeFaults k (causesCounted s (slotGet s k) (own :: others))
        ((causesCounted s (slotGet s k) (own :: others)).foldl (fun s c => causeCounts k c s)
          (emergencyBegun k (own :: others) (topCause own others) s)) := by
  unfold emergency
  dsimp only
  rw [if_neg (by simpa using fun h' => h.resolve_left (by simp [h']))]
  rfl

theorem emergencyBegun_slots (k : Nat) (causes : List Nat) (top : Nat) (s : State) :
    Traced k (fallSlot k top true (decide (1 < causes.length)) (causeEnd top)
      (some (causesStatus (slotGet s k) causes top)) (satStir (satOfSlot k) s)) (emergencyBegun k causes top s) := by
  have hadd : ∀ (f : Nat → Nat) t, Traced k t (causes.foldl (fun t c => traceAdd k 4 (f c) t) t) := fun f t =>
    traced_foldl (f := fun t c => traceAdd k 4 (f c) t) (fun t c => traced_traceAdd k 4 (f c) t) causes t
  unfold emergencyBegun
  dsimp only
  refine traced_trans (hadd (causeTrace ((slotGet s k).sd.writing || !(slotGet s k).sd.runDone.isEmpty)) _) ?_
  refine traced_ite (traced_refl k _) ?_
  split
  · exact traced_traceTrigger ..
  · exact traced_refl ..

theorem emergencyBegun_fault (k n : Nat) (causes : List Nat) (top : Nat) (s : State) :
    (satGet (emergencyBegun k causes top s) n).fault = (satGet s n).fault := by
  have hsat : ∀ t, satGet (causes.foldl (fun t c => traceAdd k 4 (causeTrace ((slotGet s k).sd.writing ||
      !(slotGet s k).sd.runDone.isEmpty) c) t) t) n = satGet t n := fun t => by rw [foldl_traceAdd_frame]; rfl
  unfold emergencyBegun
  dsimp only
  (repeat' split) <;> simp [hsat, satStir_fault]

theorem emergencyFalls {k own : Nat} {others : List Nat} {s : State}
    (h : inSession (slotGet s k) = true ∨ fallsNow s (slotGet s k) = true)
    (hmild : 4 ≤ k → tripCause (own :: others) = true → MildSource (satGet s (k / 4)) 0) :
    EmergencyFalls k (own :: others) (topCause own others) s (emergency k (own :: others) s) := by
  set cs := causesCounted s (slotGet s k) (own :: others) with hcs
  set u := emergencyBegun k (own :: others) (topCause own others) s with hu
  have htrip : tripCause cs = true → tripCause (own :: others) = true := by
    rw [hcs]
    simp only [tripCause, causesCounted, Bool.or_eq_true, List.contains_iff_mem, List.mem_filter]
    rintro ((⟨h, -⟩ | ⟨h, -⟩) | ⟨h, -⟩) <;> simp [h]
  have hfault : (satGet (cs.foldl (fun s c => causeCounts k c s) u) (k / 4)).fault = (satGet s (k / 4)).fault := by
    rw [foldl_causeCounts_frame]
    exact emergencyBegun_fault ..
  have hslots : (emergency k (own :: others) s).slots = (cs.foldl (fun s c => causeCounts k c s) u).slots := by
    rw [emergency_eq h]
    exact causeFaults_slots fun hk ht => by rw [MildSource, hfault]; exact hmild hk (htrip ht)
  have hget : ∀ j, slotGet (emergency k (own :: others) s) j =
      slotGet (cs.foldl (fun s c => causeCounts k c s) u) j := fun j => by rw [slotGet, hslots, slotGet]
  have hstir : ∀ j, slotGet (satStir (satOfSlot k) s) j = slotGet s j := fun j => by simp
  obtain ⟨htr, htro⟩ := emergencyBegun_slots k (own :: others) (topCause own others) s
  rw [slotGet_fallSlot, if_pos rfl, hstir, satStir_sys] at htr
  refine ⟨?_, fun j hj => ?_⟩
  · rw [hget, slotGet_foldl_causeCounts, if_pos rfl, hu, htr]
    have hkept : ∀ c e d x y n z, (slotFall c e d x y n z).removals = z.removals ∧ (slotFall c e d x y n z).trips = z.trips := by
      intro c e d x y n z
      unfold slotFall mergeFall
      (repeat' split) <;> exact ⟨rfl, rfl⟩
    dsimp only
    rw [(hkept ..).1, (hkept ..).2]
  · rw [hget, slotGet_foldl_causeCounts, if_neg hj, hu, htro j hj, slotGet_fallSlot, if_neg hj, hstir]

end Machine
end Sys2Proof
end

section
/-! How an order ends (chapters 11, 13): at the hub with its return, at a satellite with its DONE. -/
namespace Sys2Proof
namespace Machine

open Safety

theorem parcelRelease_orders (n : Nat) (s : State) : (parcelRelease n s).ord.orders = s.ord.orders := by
  unfold parcelRelease
  split <;> rfl

/-- An order that leaves is the only one that leaves. -/
theorem dropOrder_orders (o : Order) (s : State) :
    (dropOrder o s).ord.orders = s.ord.orders.filter (fun x => decide (x.id ≠ o.id)) :=
  foldl_keeps (fun s => s.ord.orders) (fun n s => parcelRelease_orders s n) (orderParcels o) _

theorem enterWindow_orders (p : Port) (r : Ret) (s : State) : (enterWindow p r s).ord.orders = s.ord.orders := by
  unfold enterWindow
  split <;> rfl

theorem endOrder_orders (o : Order) (c l : Nat) (s : State) :
    (endOrder o c l s).ord.orders = s.ord.orders.filter (fun x => decide (x.id ≠ o.id)) := by
  unfold endOrder
  dsimp only
  split
  · exact dropOrder_orders o s
  · split
    · exact dropOrder_orders o s
    · rw [enterWindow_orders]
      exact dropOrder_orders o s

/-- The window of completed tags is apart from the ring of returns. -/
theorem enterWindow_ring (p q : Port) (r : Ret) (s : State) :
    (perPortGet (enterWindow p r s).ord.banks q).ring = (perPortGet s.ord.banks q).ring := by
  unfold enterWindow modBank
  split
  · rfl
  · rw [perPortGet_perPortSet]
    split
    · rename_i h
      rw [h]
    · rfl

theorem returned_endOrder {o : Order} (hint : o.internal = false) (hdisc : o.discard = false) (c l : Nat) (s : State) :
    Returned (endOrder o c l s) o.port o.tag c := by
  unfold endOrder
  simp only [hint, hdisc, Bool.false_eq_true, if_false]
  refine ⟨{ tag := o.tag, code := c, seen := o.seen, length := l, slot := o.slot }, ?_, rfl, rfl⟩
  rw [enterWindow_ring]
  simp [postRet, modBank]

theorem orderGet_filter (o : Order) (l : List Order) :
    (l.filter (fun x => decide (x.id ≠ o.id))).find? (fun x => decide (x.id = o.id)) = none := by
  simp [List.find?_eq_none]

theorem orderEnds_endOrder (o : Order) (c l : Nat) (s : State) : OrderEnds o c (endOrder o c l s) where
  gone := by rw [orderGet, endOrder_orders, orderGet_filter]
  ret hint hdisc := returned_endOrder hint hdisc c l s

/-- The id under which an order stands is its own. -/
theorem orderGet_id {s : State} {i : Nat} {o : Order} (h : orderGet s i = some o) : o.id = i := by
  simpa using List.find?_some h

/-- An order that ended stays so while orders and returns stay. -/
theorem orderEnds_congr {o : Order} {c : Nat} {t u : State} (hord : u.ord.orders = t.ord.orders)
    (hbanks : (perPortGet u.ord.banks o.port).ring = (perPortGet t.ord.banks o.port).ring) (h : OrderEnds o c t) : OrderEnds o c u where
  gone := by rw [orderGet, hord]; exact h.gone
  ret hint hdisc := by
    rw [Returned, hbanks]
    exact h.ret hint hdisc

theorem orderEnds_endOrderId {i : Nat} {s : State} {o : Order} (h : orderGet s i = some o) (c l : Nat) :
    OrderEnds o c (endOrderId i c l s) := by
  rw [endOrderId, h]
  exact orderEnds_endOrder ..

/-- Returned data that the parcels hold leaves the code as it is. -/
theorem orderEnds_endOrderDataId {i : Nat} {s : State} {o : Order} (h : orderGet s i = some o) (c : Nat) (kept : List Byte)
    {full : Nat} (hroom : full ≤ orderRoom o) (hmax : full ≤ 1024) : OrderEnds o c (endOrderDataId i c kept full s) := by
  rw [endOrderDataId, h]
  unfold endOrderData
  dsimp only
  rw [decide_eq_false (by omega), decide_eq_false (by omega)]
  exact orderEnds_endOrder ..

/-! ### The order at a slot's engine -/

/-- A satellite's outcome is on the slot's trace alone. -/
theorem traced_satDone (k : Nat) (r : Running) (c : Nat) (l : List Byte) (n : Nat) (s : State) :
    Traced k s (satDone k r c l n s) := by
  have hres : ∀ (rs : List SatResult) u, (rs.foldl (fun s x => satResult (satOfSlot k) x s) u).slots = u.slots :=
    fun rs u => foldl_keeps (fun s => s.slots) (fun u x => by simp) rs u
  unfold satDone
  dsimp only
  exact traced_ite (traced_trans (traced_trans (traced_of_slots (hres _ _)) (traced_traceAdd ..)) (traced_traceTrigger ..))
    (traced_trans (traced_of_slots (hres _ _)) (traced_traceAdd ..))

/-- What a satellite has to send it keeps to send while further results join. -/
theorem sends_satResult_of_sends {n : Nat} {r : SatResult} {s : State} (h : Sends (satGet s n) r) (m : Nat) (x : SatResult) :
    Sends (satGet (satResult m x s) n) r := by
  rw [satGet_satResult]
  split
  · rename_i hm
    subst hm
    exact sends_nextResult (h.imp_right (List.mem_append_left _))
  · exact h

theorem sends_foldl_satResult {n : Nat} {r : SatResult} (m : Nat) (xs : List SatResult) {s : State}
    (h : Sends (satGet s n) r) : Sends (satGet (xs.foldl (fun s x => satResult m x s) s) n) r := by
  induction xs generalizing s with
  | nil => exact h
  | cons x xs ih => exact ih (sends_satResult_of_sends h m x)

/-- The DONE of an order's outcome. -/
def doneOf (k : Nat) (r : Running) (c : Nat) (l : List Byte) (n : Nat) : SatResult where
  kind := 0x01
  slot := k % 4
  payload := arg2 r.oid ++ [byte (if 1024 < n then 0x04B else c)] ++ natLe 3 (min n 0xFFFFFF) ++ (l.take 1024).take 248

/-- The DATA results that follow it. -/
def dataOf (k : Nat) (r : Running) (l : List Byte) : List SatResult := dataResults r.oid (k % 4) 248 4 ((l.take 1024).drop 248)

theorem satGet_satDone (k : Nat) (r : Running) (c : Nat) (l : List Byte) (n : Nat) (s : State) (j : Nat) :
    satGet (satDone k r c l n s) j =
      satGet ((doneOf k r c l n :: dataOf k r l).foldl (fun s x => satResult (k / 4) x s) s) j := by
  have htrigger : ∀ (p : Prop) [Decidable p] t, satGet (if p then traceTrigger k 1 t else t) j = satGet t j := fun p _ t => by
    split <;> simp
  unfold satDone
  dsimp only
  rw [htrigger, satGet_traceAdd]
  rfl

theorem reported_satDone (k : Nat) (r : Running) (c : Nat) (l : List Byte) (n : Nat) (s : State) :
    Reported (k / 4) s (satDone k r c l n s) := by
  have h := reported_foldl (f := fun s x => satResult (k / 4) x s) (fun s x => reported_satResult (k / 4) x s)
    (doneOf k r c l n :: dataOf k r l) s
  exact ⟨by rw [satGet_satDone]; exact h.1, fun j hj => by rw [satGet_satDone]; exact h.2 j hj⟩

theorem sends_satDone (k : Nat) (r : Running) (c : Nat) (n : Nat) (l : List Byte) (s : State) :
    Sends (satGet (satDone k r c l n s) (k / 4)) (doneOf k r c l n) := by
  rw [satGet_satDone, List.foldl_cons]
  exact sends_foldl_satResult _ _ (sends_satResult ..)

/-- A slot whose engine has become free. -/
def runFreed (x : Slot) : Slot := { x with run := none, x := {}, line := {} }

/-- What a slot runs ends: its engine is free, and no other slot moves. -/
theorem traced_endRun {k : Nat} {r : Running} {s : State} (h : (slotGet s k).run = some r) (c : Nat) (l : List Byte) (n : Nat) :
    Traced k (modSlot k runFreed s) (endRun k c l n s) := by
  unfold endRun
  rw [h]
  dsimp only
  refine traced_ite (traced_of_slots ?_) (traced_satDone ..)
  rw [endOrderDataId_frame]
  rfl

theorem endRun_of_free {k : Nat} {s : State} (h : (slotGet s k).run = none) (c : Nat) (l : List Byte) (n : Nat) :
    endRun k c l n s = s := by
  rw [endRun, h]

theorem endRun_local {k : Nat} (hk : k < 4) {r : Running} {s : State} (h : (slotGet s k).run = some r) (c : Nat) (l : List Byte)
    (n : Nat) : endRun k c l n s = endOrderDataId r.oid c l n (modSlot k runFreed s) := by
  rw [endRun, h]
  exact if_pos (by simpa [isLocal] using hk)

theorem endRun_satellite {k : Nat} (hk : 4 ≤ k) {r : Running} {s : State} (h : (slotGet s k).run = some r) (c : Nat)
    (l : List Byte) (n : Nat) : endRun k c l n s = satDone k r c l n (modSlot k runFreed s) := by
  rw [endRun, h]
  exact if_neg (by simpa [isLocal] using hk)

theorem slotGet_endRun_self {k : Nat} {r : Running} {s : State} (h : (slotGet s k).run = some r) (c : Nat) (l : List Byte) (n : Nat) :
    slotGet (endRun k c l n s) k = { runFreed (slotGet s k) with trace := (slotGet (endRun k c l n s) k).trace } := by
  have h' := (traced_endRun h c l n).1
  rwa [slotGet_modSlot, if_pos rfl] at h'

theorem slotsBut_endRun (k c : Nat) (l : List Byte) (n : Nat) (s : State) : SlotsBut k s (endRun k c l n s) := by
  intro j hj
  cases h : (slotGet s k).run with
  | none => rw [endRun_of_free h]
  | some r => rw [(traced_endRun h c l n).2 j hj, slotGet_modSlot, if_neg hj]

/-- An engine that ends its order without data ends it as `RunEnds` says. -/
theorem runEnds_endRun {k : Nat} {r : Running} {s : State} (h : (slotGet s k).run = some r) (c : Nat) :
    RunEnds k r c s (endRun k c [] 0 s) where
  free := by rw [slotGet_endRun_self h]; rfl
  hub hk o ho := by
    rw [endRun_local (by simpa [isLocal] using hk) h]
    exact orderEnds_endOrderDataId (s := modSlot k runFreed s) ho c [] (Nat.zero_le _) (Nat.zero_le _)
  done hk := by
    rw [endRun_satellite (by simpa [isLocal] using hk) h]
    have hdone : doneOf k r c [] 0 = { kind := 0x01, slot := k % 4, payload := arg2 r.oid ++ [byte c, 0, 0, 0] } := by
      simp [doneOf, natLe]
    rw [← hdone]
    exact sends_satDone ..

end Machine
end Sys2Proof
end

section
/-! Cards inserted and removed, trips and the end of FALLING, class trials (chapter 14). -/
namespace Sys2Proof
namespace Machine

open Safety

/-! ### Cards inserted and removed -/

/-- A removal outranks every other cause. -/
theorem topCause_removal (others : List Nat) : topCause 2 others = 2 := by
  have hrank : ∀ c, ¬ causeRank c < causeRank 2 := by
    intro c
    unfold causeRank
    split <;> decide
  unfold topCause
  induction others with
  | nil => rfl
  | cons c others ih => rw [List.foldl_cons, if_neg (hrank c), ih]

/-- The slot record of a slot in session that falls by emergency. -/
theorem slot_of_emergency {k top : Nat} {causes : List Nat} {s t : State} (h : inSession (slotGet s k) = true)
    (e : EmergencyFalls k causes top s t) :
    Falls k top true (some (causesStatus (slotGet s k) causes top)) s t ∧ (slotGet t k).det = (slotGet s k).det ∧
    (slotGet t k).second = decide (1 < causes.length) ∧ (slotGet t k).fallTo = causeEnd top ∧
    (slotGet t k).removals = countRemovals (causesCounted s (slotGet s k) causes) (slotGet s k).removals ∧
    (slotGet t k).trips = countTrips (causesCounted s (slotGet s k) causes) (slotGet s k).trips := by
  have hslot := e.slot
  simp only [slotFall, if_pos h] at hslot
  refine ⟨⟨?_, ?_, ?_, ?_, ?_, ?_, ?_⟩, ?_, ?_, ?_, ?_, ?_⟩ <;> rw [hslot]

/-- The slot at the tick of its card's removal. -/
def undetected (x : Slot) : Slot := { x with det := false, st := if x.st = .present then .empty else x.st }

theorem undetected_of_session {x : Slot} (h : inSession x = true) : undetected x = { x with det := false } := by
  have hst : x.st ≠ .present := by
    intro hp
    rw [inSession, hp] at h
    cases h
  rw [undetected, if_neg hst]

/-- A card at a local slot; at L0 its card flow may run again. -/
theorem cardInserted_local {k : Nat} (hk : k < 4) (s : State) :
    Completes (exec (.cardInserted k) s) fun t =>
      slotGet t k = { slotGet s k with
        det := true, st := if (slotGet s k).st = .empty then .present else (slotGet s k).st } ∧
      SlotsBut k s t ∧
      t = { s with slots := t.slots, upd := { s.upd with flowRan := s.upd.flowRan && decide (k ≠ 0) } } := by
  have hlocal : isLocal k = true := by simpa [isLocal] using hk
  show Completes (execCardInserted k s) _
  unfold execCardInserted
  dsimp only
  rw [if_pos hlocal]
  refine completes_next ⟨?_, fun j hj => ?_, ?_⟩
  · rw [slotGet_modSlot, if_pos rfl]
    split <;> rfl
  · rw [slotGet_modSlot, if_neg hj]
    split <;> rfl
  · by_cases h0 : k = 0
    · simp [h0, modSlot]
    · simp [h0, modSlot]

/-- A card that a satellite slot takes in is reported. -/
theorem cardInserted_satellite {k : Nat} (hk : 4 ≤ k) (s : State) :
    Completes (exec (.cardInserted k) s) fun t =>
      (slotGet t k).det = true ∧
      (slotGet t k).st = (if (slotGet s k).st = .empty then .present else (slotGet s k).st) ∧
      slotGet t k = { slotGet s k with det := true, st := (slotGet t k).st, trace := (slotGet t k).trace } ∧
      SlotsBut k s t ∧ (satGet t (k / 4)).cond ≠ .asleep ∧
      Sends (satGet t (k / 4)) { kind := 0x03, slot := k % 4, payload := [0, byte (slotCode (slotGet t k).st)] } ∧
      SatsBut (k / 4) s t ∧ t = { s with slots := t.slots, sat := { s.sat with sats := t.sat.sats } } := by
  set u := modSlot k (fun x => { x with det := true, st := if x.st = .empty then .present else x.st }) s with hu
  have hexec : exec (.cardInserted k) s = .next (detResult k 0 u) := by
    show execCardInserted k s = _
    unfold execCardInserted
    dsimp only
    rw [if_neg (by omega : k ≠ 0), if_neg (by simpa [isLocal] using hk)]
  obtain ⟨hslot, hslots⟩ := traced_detResult k 0 u
  obtain ⟨hcond, hsends, hsats⟩ := detResult_reports hk 0 u
  have hself : slotGet u k = { slotGet s k with
      det := true, st := if (slotGet s k).st = .empty then .present else (slotGet s k).st } := by simp [hu]
  rw [hexec]
  refine completes_next ⟨by rw [hslot, hself], by rw [hslot, hself], by rw [hslot, hself], fun j hj => ?_, hcond, ?_,
    fun j hj => hsats j hj, ?_⟩
  · rw [hslots j hj, hu, slotGet_modSlot, if_neg hj]
  · rw [show (slotGet (detResult k 0 u) k).st = (slotGet u k).st by rw [hslot]]
    exact hsends
  · exact detResult_sat_frame k 0 u

theorem cardRemoved_session {k : Nat} {others : List Nat} {s : State} (h : inSession (slotGet s k) = true)
    (hmild : 4 ≤ k → MildSource (satGet s (k / 4)) 0) :
    Completes (exec (.cardRemoved k others) s) fun t =>
      (slotGet t k).det = false ∧
      Falls k 2 true (some (if others.contains 7 then 0x085
        else if (slotGet s k).sd.writing || !(slotGet s k).sd.runDone.isEmpty then 0x042 else 0x041)) s t ∧
      (slotGet t k).second = !others.isEmpty ∧
      ((slotGet s k).pins.vccOn = true → others = [] →
        (slotGet t k).removals = satInc (slotGet s k).removals ∧ (slotGet t k).trips = (slotGet s k).trips) := by
  set u := modSlot k undetected s with hu
  have hself : slotGet u k = { slotGet s k with det := false } := by
    rw [hu, slotGet_modSlot, if_pos rfl, undetected_of_session h]
  have hin : inSession (slotGet u k) = true := by rw [hself]; exact h
  have hexec : exec (.cardRemoved k others) s = .next (emergency k (2 :: others) u) := by
    show execCardRemoved k others s = _
    unfold execCardRemoved
    dsimp only
    rw [if_pos (by simp [h])]
    rfl
  have hfalls := emergencyFalls (others := others) (own := 2) (.inl hin) (fun hk _ => hmild hk)
  rw [topCause_removal] at hfalls
  obtain ⟨hf, hdet, hsecond, -, hremovals, htrips⟩ := slot_of_emergency hin hfalls
  have hstatus : causesStatus (slotGet u k) (2 :: others) 2 = if others.contains 7 then 0x085
      else if (slotGet s k).sd.writing || !(slotGet s k).sd.runDone.isEmpty then 0x042 else 0x041 := by
    simp [causesStatus, causeStatus, hself]
  rw [hexec]
  refine completes_next ⟨by rw [hdet, hself], ?_, ?_, fun hvcc hothers => ?_⟩
  · rw [← hstatus]
    exact ⟨hf.st, hf.cause, hf.emergency, hf.status, hf.pins, hf.since, by rw [hf.run, hself]⟩
  · rw [hsecond]
    cases others <;> simp
  · rw [hremovals, htrips, hself, hothers]
    simp [causesCounted, countRemovals, countTrips, hvcc]

/-- A removal at a slot that no deactivation can act on. -/
theorem execCardRemoved_idle {k : Nat} {s : State} (h : inSession (slotGet s k) = false)
    (hfalls : fallsNow s (slotGet s k) = false) (others : List Nat) :
    exec (.cardRemoved k others) s = .next
      (let t := if (slotGet s k).st = .present ∧ (toBegin (modSlot k undetected s) k [0x01, 0x09]).isSome = true
        then endCold k 0x041 (modSlot k undetected s) else modSlot k undetected s
      if isLocal k then t else detResult k 1 t) := by
  show execCardRemoved k others s = _
  unfold execCardRemoved
  dsimp only
  have hno : ∀ f, ¬ (inSession (slotGet s k) || fallsNow (modSlot k f s) (slotGet s k)) = true := by
    intro f
    rw [h, show fallsNow (modSlot k f s) (slotGet s k) = false from hfalls]
    nofun
  rw [if_neg (hno _)]
  rfl

theorem notFalling_of_present {x : Slot} (h : x.st = .present) (s : State) : inSession x = false ∧ fallsNow s x = false := by
  simp [inSession, fallsNow, h]

/-- An order that had not begun at a local slot ends as its card leaves. -/
theorem cardRemoved_pending {k : Nat} {r : Running} {o : Order} {s : State} (hk : k < 4) (hst : (slotGet s k).st = .present)
    (hrun : toBegin s k [0x01, 0x09] = some r) (ho : orderGet s r.oid = some o) (others : List Nat) :
    Completes (exec (.cardRemoved k others) s) fun t =>
      (slotGet t k).det = false ∧ (slotGet t k).st = .empty ∧ (slotGet t k).run = none ∧ OrderEnds o 0x041 t ∧
      SlotsBut k s t := by
  set u := modSlot k undetected s with hu
  have hself : slotGet u k = { slotGet s k with det := false, st := .empty } := by
    rw [hu, slotGet_modSlot, if_pos rfl, undetected, if_pos hst]
  have hbegin : toBegin u k [0x01, 0x09] = some r := by rw [toBegin, hself]; exact hrun
  have hrun' : (slotGet (releaseLift k u) k).run = some r := by
    have h := hrun
    unfold toBegin at h
    rw [slotGet_releaseLift, hself]
    split at h
    · rename_i r' hr'
      split at h
      · cases h
        exact hr'
      · cases h
    · cases h
  have hlocal : isLocal k = true := by simpa [isLocal] using hk
  obtain ⟨hidle, hnow⟩ := notFalling_of_present hst s
  rw [execCardRemoved_idle hidle hnow, hbegin]
  dsimp only
  have hcond : (slotGet s k).st = .present ∧ (some r).isSome = true := ⟨hst, rfl⟩
  rw [if_pos hlocal, if_pos hcond, endCold, if_pos hlocal]
  have hends := runEnds_endRun hrun' 0x041
  have hslot := slotGet_endRun_self hrun' 0x041 [] 0
  refine completes_next ⟨?_, ?_, hends.free, hends.hub hlocal o ho, fun j hj => ?_⟩
  · rw [hslot, slotGet_releaseLift, hself]; rfl
  · rw [hslot, slotGet_releaseLift, hself]; rfl
  · rw [slotsBut_endRun _ _ _ _ _ j hj, slotGet_releaseLift, slotGet_modSlot, if_neg hj]

/-- A removal at a local slot without an order there that waits. -/
theorem cardRemoved_local {k : Nat} {s : State} (hk : k < 4) (h : inSession (slotGet s k) = false)
    (hfalls : fallsNow s (slotGet s k) = false) (hrun : (slotGet s k).st ≠ .present ∨ (slotGet s k).run = none)
    (others : List Nat) :
    Completes (exec (.cardRemoved k others) s) fun t =>
      slotGet t k = { slotGet s k with
        det := false, st := if (slotGet s k).st = .present then .empty else (slotGet s k).st } ∧
      SlotsBut k s t ∧ t = { s with slots := t.slots } := by
  have hnone : ¬ ((slotGet s k).st = .present ∧ (toBegin (modSlot k undetected s) k [0x01, 0x09]).isSome = true) := by
    rintro ⟨hp, hb⟩
    have hr := hrun.resolve_left (not_not.mpr hp)
    simp [toBegin, undetected, hr] at hb
  rw [execCardRemoved_idle h hfalls]
  dsimp only
  rw [if_neg hnone, if_pos (by simpa [isLocal] using hk)]
  refine completes_next ⟨by rw [slotGet_modSlot, if_pos rfl]; rfl, fun j hj => ?_, rfl⟩
  rw [slotGet_modSlot, if_neg hj]

/-- A removal at a satellite slot that no deactivation can act on is reported. -/
theorem cardRemoved_satellite {k : Nat} {s : State} (hk : 4 ≤ k) (h : inSession (slotGet s k) = false)
    (hfalls : fallsNow s (slotGet s k) = false) (others : List Nat) :
    Completes (exec (.cardRemoved k others) s) fun t =>
      (slotGet t k).det = false ∧
      (slotGet t k).st = (if (slotGet s k).st = .present then .empty else (slotGet s k).st) ∧
      SlotsBut k s t ∧ (satGet t (k / 4)).cond ≠ .asleep ∧
      Sends (satGet t (k / 4)) { kind := 0x03, slot := k % 4, payload := [1, byte (slotCode (slotGet t k).st)] } ∧
      SatsBut (k / 4) s t := by
  have hlocal : ¬ isLocal k = true := by simpa [isLocal] using hk
  set u := modSlot k undetected s with hu
  set v := if (slotGet s k).st = .present ∧ (toBegin u k [0x01, 0x09]).isSome = true then endCold k 0x041 u else u with hv
  have hcold : endCold k 0x041 u = endRun k 0x041 [] 0 u := by rw [endCold, if_neg hlocal]
  have hself : (slotGet v k).det = false ∧
      (slotGet v k).st = if (slotGet s k).st = .present then .empty else (slotGet s k).st := by
    have huself : slotGet u k = undetected (slotGet s k) := by rw [hu, slotGet_modSlot, if_pos rfl]
    rw [hv]
    split
    · rw [hcold]
      cases hr : (slotGet u k).run with
      | none => rw [endRun_of_free hr, huself]; exact ⟨rfl, rfl⟩
      | some r => rw [slotGet_endRun_self hr, huself]; exact ⟨rfl, rfl⟩
    · rw [huself]; exact ⟨rfl, rfl⟩
  have hslots : SlotsBut k s v := by
    intro j hj
    have huj : slotGet u j = slotGet s j := by rw [hu, slotGet_modSlot, if_neg hj]
    rw [hv]
    split
    · rw [hcold, slotsBut_endRun _ _ _ _ _ j hj, huj]
    · exact huj
  have hsats : SatsBut (k / 4) s v := by
    intro j hj
    rw [hv]
    split
    · rw [hcold]
      cases hr : (slotGet u k).run with
      | none => rw [endRun_of_free hr]; rfl
      | some r => rw [endRun_satellite hk hr, (reported_satDone ..).2 j hj]; rfl
    · rfl
  obtain ⟨hslot, hothers⟩ := traced_detResult k 1 v
  obtain ⟨hcond, hsends, hbut⟩ := detResult_reports hk 1 v
  rw [execCardRemoved_idle h hfalls]
  dsimp only
  rw [if_neg hlocal]
  have hst : (slotGet (detResult k 1 v) k).st = (slotGet v k).st := by rw [hslot]
  refine completes_next ⟨by rw [hslot]; exact hself.1, by rw [hst]; exact hself.2, fun j hj => ?_, hcond, ?_, fun j hj => ?_⟩
  · rw [hothers j hj, hslots j hj]
  · rw [hst]
    exact hsends
  · rw [hbut j hj, hsats j hj]

/-- Settles O17. -/
theorem cardDetect : Obligations.CardDetect := by
  refine ⟨fun k s hk => cardInserted_local hk s, fun k s hk => cardInserted_satellite hk s,
    fun k others s h _ hmild => cardRemoved_session h hmild,
    fun k others s hk h hfalls hrun => cardRemoved_local hk h hfalls hrun others,
    fun k others r o s hk hst hrun ho => cardRemoved_pending hk hst hrun ho others,
    fun k others s hk h hfalls => cardRemoved_satellite hk h hfalls others,
    fun k level s hk => ?_, fun k level s h1 h4 => ?_⟩
  · show Completes (execWpChange k level s) _
    rw [execWpChange, if_pos hk]
    exact completes_next ⟨by rw [slotGet_modSlot, if_pos rfl], fun j hj => by rw [slotGet_modSlot, if_neg hj], rfl⟩
  · show Completes (execWpChange k level s) _
    rw [execWpChange, if_neg (by omega)]
    exact completes_next rfl

end Machine
end Sys2Proof
end

section
/-! Trips, the end of FALLING, class trials (chapter 14). -/
namespace Sys2Proof
namespace Machine

open Safety

theorem slotGet_takeInput (k : Nat) (e : RecIn) (s : State) (j : Nat) :
    slotGet (takeInput k e s) j =
      if j = k then { slotGet s k with taken := (slotGet (takeInput k e s) k).taken } else slotGet s j := by
  unfold takeInput
  by_cases hj : j = k
  · subst hj
    split <;> simp
  · split <;> simp [hj]

/-- What the recorder takes of a slot's inputs touches no deactivation. -/
theorem falls_takeInput {k cause : Nat} {emergency : Bool} {status : Option Nat} {s t : State}
    (h : Falls k cause emergency status s t) (e : RecIn) : Falls k cause emergency status s (takeInput k e t) := by
  obtain ⟨hst, hcause, hem, hstatus, hpins, hsince, hrun⟩ := h
  have hslot := slotGet_takeInput k e t k
  rw [if_pos rfl] at hslot
  refine ⟨?_, ?_, ?_, ?_, ?_, ?_, ?_⟩ <;> rw [hslot] <;> assumption

/-- A cause of its own, alone at its tick, deactivates a slot in session. -/
theorem emergency_single {k c : Nat} (hc : c ≠ 7) {s : State} (h : inSession (slotGet s k) = true)
    (hmild : 4 ≤ k → tripCause [c] = true → MildSource (satGet s (k / 4)) 0) :
    Falls k c true (some (causeStatus ((slotGet s k).sd.writing || !(slotGet s k).sd.runDone.isEmpty) c)) s
      (emergency k [c] s) ∧
    (slotGet (emergency k [c] s) k).fallTo = causeEnd c ∧ (slotGet (emergency k [c] s) k).second = false ∧
    (c ≠ 2 → (slotGet (emergency k [c] s) k).trips =
      if c = 3 ∨ c = 4 then satInc (slotGet s k).trips else (slotGet s k).trips) := by
  have hfalls := emergencyFalls (own := c) (others := []) (.inl h) hmild
  obtain ⟨hf, -, hsecond, hto, -, htrips⟩ := slot_of_emergency h hfalls
  have hstatus : causesStatus (slotGet s k) [c] (topCause c []) =
      causeStatus ((slotGet s k).sd.writing || !(slotGet s k).sd.runDone.isEmpty) c := by
    simp [causesStatus, topCause, Ne.symm hc]
  rw [hstatus] at hf
  refine ⟨hf, hto, by rw [hsecond]; rfl, fun h2 => ?_⟩
  rw [htrips]
  simp [causesCounted, countTrips, h2]

/-- A trip that is judged, with the comparator's edge taken. -/
theorem trip_judged {k code c : Nat} (hc : c = 3 ∨ c = 4) {s : State} (h : inSession (slotGet s k) = true)
    (hmild : 4 ≤ k → MildSource (satGet s (k / 4)) 0) :
    Falls k c true (some (if c = 3 then 0x043 else 0x044)) s (comparatorEdge code k (emergency k [c] s)) ∧
    (slotGet (comparatorEdge code k (emergency k [c] s)) k).fallTo = some .tripped ∧
    (slotGet (comparatorEdge code k (emergency k [c] s)) k).trips = satInc (slotGet s k).trips ∧
    (slotGet (comparatorEdge code k (emergency k [c] s)) k).second = false := by
  obtain ⟨hf, hto, hsecond, htrips⟩ := emergency_single (c := c) (by omega) h (fun hk _ => hmild hk)
  have hstatus : causeStatus ((slotGet s k).sd.writing || !(slotGet s k).sd.runDone.isEmpty) c =
      if c = 3 then 0x043 else 0x044 := by rcases hc with rfl | rfl <;> rfl
  have hslot := slotGet_takeInput k { kind := 6, sub := 0, payload := [byte (code + k), 1] } (emergency k [c] s) k
  rw [if_pos rfl] at hslot
  have htaken : comparatorEdge code k (emergency k [c] s) =
      takeInput k { kind := 6, sub := 0, payload := [byte (code + k), 1] } (emergency k [c] s) := rfl
  rw [hstatus] at hf
  rw [htaken]
  refine ⟨falls_takeInput hf _, ?_, ?_, ?_⟩ <;> rw [hslot]
  · rw [hto]; rcases hc with rfl | rfl <;> rfl
  · rw [htrips (by omega), if_pos hc]
  · exact hsecond

/-! ### The end of FALLING -/

/-- The slot's state once VCC is discharged, before its order returns. -/
def discharged (k : Nat) (s : State) : State :=
  let t := modSlot k (sessionOver s k) (traceAdd k 3 11 s)
  if isLocal k then releaseLift k t else t

/-- The orders at a discharged slot return: those of a run that was cut, then the slot's own. -/
def fallReturns (k : Nat) (x : Slot) (s : State) : State :=
  let s := x.sd.runDone.foldl (fun s oid => runCut oid (x.fallStatus.getD 0) s) s
  match x.fallStatus with
  | none => s
  | some code =>
    if code = 0x042 ∧ ((x.run.map (fun r => r.begun)).getD false) = true then endRun k code (natLe 4 x.sd.block) 4 s
    else endRun k (if code = 0x042 then 0x041 else code) [] 0 s

/-- A satellite reports the slot's new state where no order stood there or its end is by emergency. -/
def fallTold (k : Nat) (x : Slot) (s : State) : State :=
  let tell := fun (e : Nat) (t : State) =>
    satResult (satOfSlot k) { kind := 0x03, slot := k % 4, payload := [byte e, byte (slotCode (slotGet s k).st)] } t
  if isLocal k ∨ x.fallStatus = none then s
  else match if x.emergency then causeEvent (decide (x.fallStatus = some 0x042)) x.cause else none with
    | some e => tell e s
    | none => if x.run.isNone then tell (if x.det then 0 else 1) s else s

theorem execVccDischarged_falling {k : Nat} {s : State} (h : (slotGet s k).st = .falling) :
    execVccDischarged k s = .next (fallReturns k (slotGet s k) (fallTold k (slotGet s k) (discharged k s))) := by
  unfold execVccDischarged
  dsimp only
  rw [if_pos h]
  rfl

theorem slots_fallTold (k : Nat) (x : Slot) (s : State) : (fallTold k x s).slots = s.slots := by
  unfold fallTold
  (repeat' split) <;> simp

theorem fallTold_local {k : Nat} (hk : k < 4) (x : Slot) (s : State) : fallTold k x s = s := by
  rw [fallTold, if_pos (.inl (by simpa [isLocal] using hk))]

theorem slotGet_discharged (k : Nat) (s : State) (j : Nat) :
    slotGet (discharged k s) j = if j = k then sessionOver s k (slotGet (traceAdd k 3 11 s) k) else slotGet s j := by
  unfold discharged
  dsimp only
  by_cases hj : j = k
  · subst hj
    split <;> simp
  · split <;> simp [hj, slotGet_traceAdd]

theorem slotGet_runCut (i c : Nat) (s : State) (j : Nat) : slotGet (runCut i c s) j = slotGet s j := by
  unfold runCut
  (repeat' split) <;> simp

theorem ldgGet_runCut (i c : Nat) (s : State) (j : Nat) : ldgGet (runCut i c s) j = ldgGet s j := by
  unfold runCut
  (repeat' split) <;> simp

/-- At the returns a slot's engine may become free and its trace grow; nothing else of it moves. -/
theorem slotGet_fallReturns (k : Nat) (x : Slot) (s : State) :
    (∃ r y l tr, slotGet (fallReturns k x s) k = { slotGet s k with run := r, x := y, line := l, trace := tr }) ∧
    SlotsBut k s (fallReturns k x s) ∧ ∀ j, ldgGet (fallReturns k x s) j = ldgGet s j := by
  have hend : ∀ c l n t, (∀ j, slotGet t j = slotGet s j) → (∀ j, ldgGet t j = ldgGet s j) →
      (∃ r y li tr, slotGet (endRun k c l n t) k = { slotGet s k with run := r, x := y, line := li, trace := tr }) ∧
      SlotsBut k s (endRun k c l n t) ∧ ∀ j, ldgGet (endRun k c l n t) j = ldgGet s j := by
    intro c l n t hslot hldg
    refine ⟨?_, fun j hj => by rw [slotsBut_endRun k c l n t j hj, hslot], fun j => by
      rw [ldgGet, endRun_ldg]; exact hldg j⟩
    cases hr : (slotGet t k).run with
    | none => rw [endRun_of_free hr, hslot]; exact ⟨_, _, _, _, rfl⟩
    | some r => rw [slotGet_endRun_self hr, hslot]; exact ⟨_, _, _, _, rfl⟩
  have hcut : ∀ j, slotGet (x.sd.runDone.foldl (fun s oid => runCut oid (x.fallStatus.getD 0) s) s) j = slotGet s j :=
    fun j => foldl_keeps (fun s => slotGet s j) (fun t i => slotGet_runCut i _ t j) _ s
  have hldg : ∀ j, ldgGet (x.sd.runDone.foldl (fun s oid => runCut oid (x.fallStatus.getD 0) s) s) j = ldgGet s j :=
    fun j => foldl_keeps (fun s => ldgGet s j) (fun t i => ldgGet_runCut i _ t j) _ s
  unfold fallReturns
  dsimp only
  split
  · exact ⟨⟨_, _, _, _, by rw [hcut]⟩, fun j _ => hcut j, hldg⟩
  · split
    · exact hend _ _ _ _ hcut hldg
    · exact hend _ _ _ _ hcut hldg

theorem ldgGet_discharged {k : Nat} (hk : k < 4) (s : State) :
    (ldgGet (discharged k s) k).res = 0 ∧ (ldgGet (discharged k s) k).activating = false := by
  unfold discharged
  dsimp only
  rw [if_pos (by simpa [isLocal] using hk), releaseLift, ldgGet_modLdg, if_pos rfl]
  exact ⟨rfl, rfl⟩

theorem vccDischarged_ends {k : Nat} {s : State} (h : (slotGet s k).st = .falling) :
    Completes (exec (.vccDischarged k) s) fun t =>
      (slotGet t k).st = ((slotGet s k).fallTo).getD (idleState (slotGet s k)) ∧
      (slotGet t k).cls = 0 ∧ (slotGet t k).tr = {} ∧ (slotGet t k).sd = {} ∧
      (slotGet t k).vcc = 0x3FF ∧ (slotGet t k).icc = 0x3FF ∧
      (k < 4 → (ldgGet t k).res = 0 ∧ (ldgGet t k).activating = false) ∧ SlotsBut k s t := by
  have hexec : exec (.vccDischarged k) s = _ := execVccDischarged_falling h
  set u := fallTold k (slotGet s k) (discharged k s) with hu
  obtain ⟨⟨r, y, l, tr, hslot⟩, hbut, hldg⟩ := slotGet_fallReturns k (slotGet s k) u
  have huslot : ∀ j, slotGet u j = slotGet (discharged k s) j := fun j => by rw [slotGet, hu, slots_fallTold, slotGet]
  have hself : slotGet u k = sessionOver s k (slotGet (traceAdd k 3 11 s) k) := by
    rw [huslot, slotGet_discharged, if_pos rfl]
  have htraced := slotGet_traceAdd k 3 11 k s
  rw [if_pos rfl] at htraced
  rw [hself, htraced] at hslot
  rw [hexec]
  refine completes_next ⟨?_, ?_, ?_, ?_, ?_, ?_, fun hk => ?_, fun j hj => ?_⟩
  · rw [hslot]
    show (match (slotGet s k).fallTo with
      | some t => t
      | none => idleState (slotGet s k)) = _
    cases (slotGet s k).fallTo <;> rfl
  · rw [hslot]; rfl
  · rw [hslot]; rfl
  · rw [hslot]; rfl
  · rw [hslot]; rfl
  · rw [hslot]; rfl
  · rw [hldg, hu, fallTold_local hk]
    exact ldgGet_discharged hk s
  · rw [hbut j hj, huslot, slotGet_discharged, if_neg hj]

theorem vccDischarged_order {k code : Nat} {r : Running} {o : Order} {s : State} (hk : k < 4)
    (h : (slotGet s k).st = .falling) (hrun : (slotGet s k).run = some r) (hdone : (slotGet s k).sd.runDone = [])
    (hstatus : (slotGet s k).fallStatus = some code) (hcode : code ≠ 0x042) (ho : orderGet s r.oid = some o) :
    Completes (exec (.vccDischarged k) s) fun t => OrderEnds o code t ∧ (slotGet t k).run = none := by
  have hexec : exec (.vccDischarged k) s = _ := execVccDischarged_falling h
  have hends : fallReturns k (slotGet s k) (discharged k s) = endRun k code [] 0 (discharged k s) := by
    unfold fallReturns
    dsimp only
    rw [hdone, hstatus, List.foldl_nil]
    dsimp only
    rw [if_neg (fun hc => hcode hc.1), if_neg hcode]
  have hrun' : (slotGet (discharged k s) k).run = some r := by
    have htraced := slotGet_traceAdd k 3 11 k s
    rw [if_pos rfl] at htraced
    rw [slotGet_discharged, if_pos rfl, htraced]
    exact hrun
  have horder : orderGet (discharged k s) r.oid = some o := by
    have hord : (discharged k s).ord = s.ord := by
      unfold discharged
      dsimp only
      split <;> simp
    rw [orderGet, hord]
    exact ho
  have hruns := runEnds_endRun hrun' code
  rw [hexec, fallTold_local hk, hends]
  exact completes_next ⟨hruns.hub (by simpa [isLocal] using hk) o horder, hruns.free⟩

/-- Before VCC is good a current trip is not judged. -/
theorem tripJudged_rising {k : Nat} {s : State} (hst : (slotGet s k).st = .rising) (hpolled : (slotGet s k).sd.polled = false) :
    tripJudged s k false = false := by
  simp [tripJudged, vccGood, hst, hpolled]

/-- Settles O18. -/
theorem slotTrips : Obligations.SlotTrips := by
  refine ⟨fun k good s h hgood _ hmild => ?_, fun k good s h hgood hlocal hmild => ?_, fun k others s hst hpolled _ => ?_,
    fun k s hst hvcc hpolled _ => ?_, fun k s h => vccDischarged_ends h,
    fun k code r o s hk h hrun hdone hstatus hcode ho => vccDischarged_order hk h hrun hdone hstatus hcode ho,
    fun k s hk hst hslow hlive hnone => ?_⟩
  · obtain ⟨hf, hto, htrips, hsecond⟩ := trip_judged (code := 0x18) (.inl rfl) h hmild
    show Completes (execCurrentTrip k good [] s) _
    rw [execCurrentTrip, if_pos (by simp [tripJudged, hgood])]
    exact completes_next ⟨hf, hto, htrips, hsecond⟩
  · obtain ⟨hf, hto, htrips, -⟩ := trip_judged (code := 0x1C) (.inr rfl) h hmild
    have hvsl : (!isLocal k || s.sup.vsl5Ok) = true := by
      by_cases hk : k < 4
      · simp [(hlocal hk).1]
      · simp [isLocal, hk]
    show Completes (execUndervoltageTrip k good [] s) _
    rw [execUndervoltageTrip, if_pos (by simp only [tripJudged, hgood, hvsl]; rfl)]
    exact completes_next ⟨hf, hto, htrips⟩
  · show Completes (execCurrentTrip k false others s) _
    rw [execCurrentTrip, tripJudged_rising hst hpolled, if_neg Bool.false_ne_true]
    have hslot := slotGet_takeInput k { kind := 6, sub := 0, payload := [byte (0x18 + k), 1] } s
    refine completes_next ⟨(hslot k).trans (if_pos rfl), fun j hj => (hslot j).trans (if_neg hj), ?_⟩
    unfold comparatorEdge takeInput
    split <;> rfl
  · have hin : inSession (slotGet s k) = true := by simp [inSession, hst]
    obtain ⟨hf, hto, -, htrips⟩ := emergency_single (c := 5) (by decide) hin (fun _ h => by cases h)
    show Completes (execVccWinExpiry k [] s) _
    unfold execVccWinExpiry
    dsimp only
    rw [if_pos ⟨hst, hvcc, hpolled⟩]
    exact completes_next ⟨hf, hto, htrips (by decide)⟩
  · show Completes (execDischargeSlow k s) _
    unfold execDischargeSlow
    dsimp only
    rw [if_pos (by simp [hst, hslow, isLocal, hk])]
    exact completes_next (raised_raise hlive (.inr ⟨by decide, hnone⟩))

/-! ### Class trials -/

theorem traced_traceAll (k : Nat) (l : List (Nat × Nat)) (s : State) : Traced k s (traceAll k l s) := by
  induction l generalizing s with
  | nil => exact traced_refl k s
  | cons e l ih => exact traced_trans (traced_traceAdd k e.1 e.2 s) (ih _)

/-- A slot whose trial waits for its ATR. -/
structure AwaitsAtr (k : Nat) (a : Activation) (s t : State) : Prop where
  act : ∃ b, (slotGet t k).act = some { a with good := b }
  st : (slotGet t k).st = .atr
  silent : (slotGet t k).line.rx = []
  run : (slotGet t k).run = (slotGet s k).run
  others : SlotsBut k s t
  frame : t = { s with slots := t.slots }

theorem awaitsAtr_of_traced {k : Nat} {a : Activation} {f : Slot → Slot} {s t : State} (h : Traced k (modSlot k f s) t)
    (hframe : t = { s with slots := t.slots }) (hact : ∃ b, (f (slotGet s k)).act = some { a with good := b })
    (hst : (f (slotGet s k)).st = .atr) (hrx : (f (slotGet s k)).line.rx = []) (hrun : (f (slotGet s k)).run = (slotGet s k).run) :
    AwaitsAtr k a s t := by
  obtain ⟨hslot, hbut⟩ := h
  rw [slotGet_modSlot, if_pos rfl] at hslot
  refine ⟨?_, ?_, ?_, ?_, fun j hj => by rw [hbut j hj, slotGet_modSlot, if_neg hj], hframe⟩ <;> rw [hslot] <;> assumption

/-- Where the ATR is awaited, the levels show it: VCC is good and RST is up. -/
theorem awaitsAtr_riseToAtr {k : Nat} {a : Activation} {s : State} (hact : (slotGet s k).act = some a)
    (hst : ((slotGet s k).st = .atr ∧ (slotGet s k).line.rx = []) ∨
      ((slotGet s k).st = .rising ∧ (slotGet s k).cfg.kind = .iso ∧ a.waiting = false)) :
    AwaitsAtr k a s (riseToAtr k s) := by
  unfold riseToAtr
  dsimp only
  rcases hst with ⟨hst, hrx⟩ | ⟨hst, hkind, hwait⟩
  · rw [hst, hact]
    dsimp only
    split
    · refine awaitsAtr_of_traced (traced_traceAdd k 3 6 _) ?_ ⟨a.good, hact⟩ hst hrx rfl
      rw [traceAdd_frame]
      rfl
    · exact ⟨⟨a.good, hact⟩, hst, hrx, rfl, fun _ _ => rfl, rfl⟩
  · rw [hst, hact]
    dsimp only
    rw [if_pos ⟨hkind, hwait⟩]
    refine awaitsAtr_of_traced (traced_traceAll k _ _) ?_ ⟨true, rfl⟩ rfl rfl rfl
    rw [traceAll_frame]
    rfl

theorem execAtrTimeout_awaits {k : Nat} {a : Activation} {s : State} (h : AwaitsAtr k a s (riseToAtr k s)) :
    exec (.atrTimeout k) s = .next (nextTrial k false (riseToAtr k s)) := by
  show execAtrTimeout k s = _
  unfold execAtrTimeout
  dsimp only
  rw [if_pos ⟨h.st, h.silent⟩]

/-- The slot between two class trials. -/
def trialOff (a : Activation) (x : Slot) : Slot :=
  { x with
    st := .rising, pins := contactsOff, line := {}, cause := 8, emergency := false, second := false
    act := some { a with waiting := true, good := false } }

theorem nextTrial_of_more {k : Nat} {a : Activation} {b : Bool} {t : State} (hact : (slotGet t k).act = some { a with good := b })
    (hwarm : a.warm = false) (htodo : a.todo ≠ []) :
    nextTrial k false t = traceAll k [(3, 7), (3, 8), (3, 9), (3, 10)] (modSlot k (trialOff a) t) := by
  unfold nextTrial trialOff
  rw [hact]
  simp only [hwarm, Bool.false_eq_true, if_false, Bool.or_false]
  rw [if_neg htodo]

/-- A class without an ATR, with a further class to try. -/
theorem nextTrial_more {k : Nat} {a : Activation} {s t : State} (h : AwaitsAtr k a s t) (hwarm : a.warm = false)
    (htodo : a.todo ≠ []) :
    (slotGet (nextTrial k false t) k).st = .rising ∧ (slotGet (nextTrial k false t) k).pins = contactsOff ∧
    (slotGet (nextTrial k false t) k).act = some { a with waiting := true, good := false } ∧
    (slotGet (nextTrial k false t) k).run = (slotGet s k).run ∧
    SlotsBut k s (nextTrial k false t) ∧ nextTrial k false t = { s with slots := (nextTrial k false t).slots } := by
  obtain ⟨b, hact⟩ := h.act
  rw [nextTrial_of_more hact hwarm htodo]
  obtain ⟨hslot, hbut⟩ := traced_traceAll k [(3, 7), (3, 8), (3, 9), (3, 10)] (modSlot k (trialOff a) t)
  rw [slotGet_modSlot, if_pos rfl] at hslot
  refine ⟨?_, ?_, ?_, ?_, fun j hj => ?_, ?_⟩
  · rw [hslot]; rfl
  · rw [hslot]; rfl
  · rw [hslot]; rfl
  · rw [hslot]
    exact h.run
  · rw [hbut j hj, slotGet_modSlot, if_neg hj, h.others j hj]
  · rw [traceAll_frame, h.frame]
    rfl

/-- A normal deactivation that an order's end begins. -/
theorem falls_endFall {k code : Nat} {s : State} (h : inSession (slotGet s k) = true) :
    Falls k 8 false (some code) s (endFall k code s) ∧ SlotsBut k s (endFall k code s) := by
  obtain ⟨hslot, hbut⟩ := traced_traceAll k [(3, 7), (3, 8), (3, 9), (3, 10)] (fallNormal k code s)
  rw [fallNormal, slotGet_fallSlot, if_pos rfl, slotFall, if_pos h] at hslot
  refine ⟨⟨?_, ?_, ?_, ?_, ?_, ?_, ?_⟩, fun j hj => ?_⟩
  rotate_right
  · rw [endFall, hbut j hj, fallNormal, slotGet_fallSlot, if_neg hj]
  all_goals rw [endFall, fallNormal, hslot]

/-- No further class: the card is deactivated. -/
theorem nextTrial_last {k : Nat} {a : Activation} {s t : State} (h : AwaitsAtr k a s t) (hlast : a.warm = true ∨ a.todo = []) :
    nextTrial k false t = endFall k (if a.warm = false ∧ a.anyAtr = true then 0x047 else 0x045) t := by
  obtain ⟨b, hact⟩ := h.act
  unfold nextTrial
  simp only [hact, Bool.or_false]
  cases hw : a.warm with
  | true => simp
  | false =>
    rw [hw] at hlast
    simp [hlast.resolve_left Bool.false_ne_true]

theorem atrTimeout_last {k : Nat} {a : Activation} {s : State} (hwait : AwaitsAtr k a s (riseToAtr k s))
    (hlast : a.warm = true ∨ a.todo = []) :
    Completes (exec (.atrTimeout k) s) fun t =>
      Falls k 8 false (some (if a.warm = false ∧ a.anyAtr = true then 0x047 else 0x045)) s t ∧ SlotsBut k s t := by
  rw [execAtrTimeout_awaits hwait, nextTrial_last hwait hlast]
  obtain ⟨⟨hst, hcause, hem, hstatus, hpins, hsince, hrun⟩, hbut⟩ := falls_endFall
    (code := if a.warm = false ∧ a.anyAtr = true then 0x047 else 0x045)
    (s := riseToAtr k s) (k := k) (by simp [inSession, hwait.st])
  refine completes_next ⟨⟨hst, hcause, hem, hstatus, hpins, ?_, by rw [hrun, hwait.run]⟩, fun j hj => by
    rw [hbut j hj, hwait.others j hj]⟩
  rw [hsince, hwait.frame]

/-- The next class is tried after its wait. -/
theorem classTrial_next {k c : Nat} {rest : List Nat} {a : Activation} {s : State} (hst : (slotGet s k).st = .rising)
    (hact : (slotGet s k).act = some a) (hwait : a.waiting = true) (htodo : a.todo = c :: rest) :
    Completes (exec (.classTrialWaitEnd k) s) fun t =>
      (slotGet t k).st = .rising ∧ (slotGet t k).cls = c ∧ (slotGet t k).pins = { vccOn := true } ∧
      (slotGet t k).tried = Nat.lor (slotGet s k).tried (2 ^ (c - 1)) ∧
      (slotGet t k).act = some { todo := rest, anyAtr := a.anyAtr, div := a.div } ∧
      (slotGet t k).ch.ppsOpen = true ∧ SlotsBut k s t ∧ t = { s with slots := t.slots } := by
  set u := modSlot k (trialOn c rest a.anyAtr (chStart a.div)) s with hu
  have hexec : exec (.classTrialWaitEnd k) s = .next (traceAdd k 3 (c - 1) u) := by
    show execClassTrialWaitEnd k s = _
    simp only [execClassTrialWaitEnd, hst, hact, hwait, htodo, hu]
  obtain ⟨hslot, hbut⟩ := traced_traceAdd k 3 (c - 1) u
  rw [show slotGet u k = trialOn c rest a.anyAtr (chStart a.div) (slotGet s k) by rw [hu, slotGet_modSlot, if_pos rfl]] at hslot
  rw [hexec]
  refine completes_next ⟨?_, ?_, ?_, ?_, ?_, ?_, fun j hj => by rw [hbut j hj, hu, slotGet_modSlot, if_neg hj], ?_⟩
  rotate_right
  · rw [traceAdd_frame]
    rfl
  all_goals rw [hslot]; rfl

/-- Settles O19. -/
theorem classTrials : Obligations.ClassTrials := by
  refine ⟨fun k a s hact hst hwarm htodo => ?_, fun k a s hact hst hlast => ?_,
    fun k c rest a s hst hact hwait htodo => classTrial_next hst hact hwait htodo⟩
  · have hwait := awaitsAtr_riseToAtr hact hst
    rw [execAtrTimeout_awaits hwait]
    exact completes_next (nextTrial_more hwait hwarm htodo)
  · exact atrTimeout_last (awaitsAtr_riseToAtr hact hst) hlast

end Machine
end Sys2Proof
end

section
/-! The rails (chapter 06): raised step by step, lowered step by step. -/
namespace Sys2Proof
namespace Machine

open Safety

/-- The sticky bit of a raised source reads 1. -/
theorem bit_of_raised {b : FBlk} {k : Nat} (hk : k < 9) {s t : State} (h : Raised b k s t) :
    (bankGet t.fb b).fst.getLsbD k = true := by
  have hbits := congrArg (fun w : BitVec 9 => w.getLsbD k) h.bits
  simpa [stickyBits, srcBit, hk] using hbits

/-- A raised fault that is taken leaves the hub out of FATAL. -/
theorem notFatal_of_raised {b : FBlk} {k : Nat} {s t : State} (hlive : Live s) (h : Raised b k s t) : t.sys.state ≠ .fatal := by
  rcases h.hub with h | ⟨-, h⟩
  · rw [h]
    exact hlive.2
  · rw [h]
    nofun

/-! ### Lowering a step group -/

/-- Setting one bit of an octet of pins or marks. -/
theorem getLsbD_setBit {n : Nat} (hn : n < 8) (w : BitVec 8) (j : Nat) :
    (w ||| (1#8 <<< n)).getLsbD j = (w.getLsbD j || decide (j = n)) := by
  by_cases hj : j = n
  · subst hj
    simp [hn]
  · rcases Nat.lt_or_ge j 8 with hlt | hge
    · interval_cases n <;> interval_cases j <;> simp_all
    · simp [BitVec.getLsbD_of_ge _ _ hge, hj]

/-- Clearing one bit of it. -/
theorem getLsbD_clearBit {n : Nat} (hn : n < 8) (w : BitVec 8) (j : Nat) :
    (w &&& ~~~(1#8 <<< n)).getLsbD j = (w.getLsbD j && !decide (j = n)) := by
  by_cases hj : j = n
  · subst hj
    simp [hn]
  · rcases Nat.lt_or_ge j 8 with hlt | hge
    · interval_cases n <;> interval_cases j <;> simp_all
    · simp [BitVec.getLsbD_of_ge _ _ hge]

theorem railEn_setEn {n : Nat} (hn : n < 8) (on : Bool) (s : State) (j : Nat) :
    railEn (setEn n on s) j = if j = n then on else railEn s j := by
  unfold railEn setEn
  cases on
  · simp only [Bool.false_eq_true, if_false, getLsbD_clearBit hn]
    by_cases hj : j = n <;> simp [hj]
  · simp only [if_true, getLsbD_setBit hn]
    by_cases hj : j = n <;> simp [hj]

/-- A rail that is lowered: a failed one keeps its record (R190). -/
def lowered (r : Rail) : Rail := { r with state := if r.state = 5 then 5 else 6, good := false, lowering := true }

theorem lowered_twice (r : Rail) : lowered (lowered r) = lowered r := by
  unfold lowered
  by_cases h : r.state = 5 <;> simp [h]

theorem railEn_lowerRails {l : List Nat} (hl : ∀ n ∈ l, n < 8) (s : State) (j : Nat) :
    railEn (lowerRails l s) j = (railEn s j && !l.contains j) := by
  induction l generalizing s with
  | nil => simp [lowerRails]
  | cons n l ih =>
    have hcons : lowerRails (n :: l) s = lowerRails l (modRail n lowered (setEn n false s)) := rfl
    have hmod : railEn (modRail n lowered (setEn n false s)) j = railEn (setEn n false s) j := rfl
    rw [hcons, ih (fun m hm => hl m (List.mem_cons_of_mem _ hm)), hmod, railEn_setEn (hl n List.mem_cons_self)]
    by_cases hj : j = n
    · simp [hj]
    · simp [hj]

theorem railGet_lowerRails {l : List Nat} (hl : ∀ n ∈ l, n < 8) (s : State) (j : Nat) :
    railGet (lowerRails l s) j = if j ∈ l then lowered (railGet s j) else railGet s j := by
  induction l generalizing s with
  | nil => simp [lowerRails]
  | cons n l ih =>
    have hcons : lowerRails (n :: l) s = lowerRails l (modRail n lowered (setEn n false s)) := rfl
    have hn : n < 8 := hl n List.mem_cons_self
    have hset : ∀ i, railGet (setEn n false s) i = railGet s i := fun _ => rfl
    rw [hcons, ih (fun m hm => hl m (List.mem_cons_of_mem _ hm)), railGet_modRail, hset, hset]
    by_cases hj : j = n
    · subst hj
      simp [hn, lowered_twice]
    · simp [hj]

/-- The rails of a step group that are still enabled. -/
def stepRails (k : Nat) (s : State) : List Nat := railNos.filter (fun n => railEn s n && decide (railStep s n = k))

theorem stepRails_lt {k : Nat} {s : State} {n : Nat} (h : n ∈ stepRails k s) : n < 8 := by
  have hmem := (List.mem_filter.mp h).1
  simp only [railNos, List.mem_cons, List.not_mem_nil, or_false] at hmem
  omega

theorem mem_railNos {n : Nat} (hn : n < 8) : n ∈ railNos := by
  simp only [railNos, List.mem_cons, List.not_mem_nil, or_false]
  omega

theorem mem_stepRails {n : Nat} (hn : n < 8) (k : Nat) (s : State) :
    n ∈ stepRails k s ↔ railEn s n = true ∧ railStep s n = k := by
  simp [stepRails, mem_railNos hn]

theorem lowerTop_of_some {s : State} {k : Nat} (h : topStep s = some k) :
    lowerTop s = { lowerRails (stepRails k s) s with rls := { (lowerRails (stepRails k s) s).rls with step := k } } := by
  rw [lowerTop_eq, h]
  rfl

/-- What lowering the highest step group does. -/
structure LowersStep (k : Nat) (s t : State) : Prop where
  step : t.rls.step = k
  en : ∀ n, n < 8 → railEn t n = (railEn s n && decide (railStep s n ≠ k))
  rail : ∀ n, n < 8 → railGet t n = if railEn s n = true ∧ railStep s n = k then lowered (railGet s n) else railGet s n
  rls : t.rls = { s.rls with rails := t.rls.rails, step := k }
  frame : t = { s with rls := t.rls, pins := { s.pins with en := t.pins.en } }

theorem lowerRails_rls (l : List Nat) (s : State) :
    (lowerRails l s).rls = { s.rls with rails := (lowerRails l s).rls.rails } := by
  induction l generalizing s with
  | nil => rfl
  | cons n l ih =>
    have hcons : lowerRails (n :: l) s = lowerRails l (modRail n lowered (setEn n false s)) := rfl
    rw [hcons, ih]
    rfl

theorem lowerRails_pins (l : List Nat) (s : State) :
    (lowerRails l s).pins = { s.pins with en := (lowerRails l s).pins.en } := by
  induction l generalizing s with
  | nil => rfl
  | cons n l ih =>
    have hcons : lowerRails (n :: l) s = lowerRails l (modRail n lowered (setEn n false s)) := rfl
    rw [hcons, ih]
    rfl

theorem lowersStep_lowerTop {s : State} {k : Nat} (h : topStep s = some k) : LowersStep k s (lowerTop s) := by
  have hl : ∀ n ∈ stepRails k s, n < 8 := fun n hn => stepRails_lt hn
  rw [lowerTop_of_some h]
  refine ⟨rfl, fun n hn => ?_, fun n hn => ?_, ?_, ?_⟩
  · have hen : railEn (lowerRails (stepRails k s) s) n = (railEn s n && decide (railStep s n ≠ k)) := by
      rw [railEn_lowerRails hl, List.contains_eq_mem]
      simp only [mem_stepRails hn]
      cases railEn s n <;> simp
    exact hen
  · have hget : railGet (lowerRails (stepRails k s) s) n =
        if railEn s n = true ∧ railStep s n = k then lowered (railGet s n) else railGet s n := by
      rw [railGet_lowerRails hl]
      simp only [mem_stepRails hn]
    exact hget
  · dsimp only
    rw [lowerRails_rls]
  · dsimp only
    rw [← lowerRails_pins]
    conv_lhs => rw [lowerRails_frame]

/-- The highest step follows from the enables and the running rig. -/
theorem topStep_congr {s t : State} (hen : t.pins.en = s.pins.en) (hrig : t.rig.running.rails = s.rig.running.rails) :
    topStep t = topStep s := by
  have hEn : railEn t = railEn s := funext fun n => by rw [railEn, hen, railEn]
  have hStep : railStep t = railStep s := funext fun n => by rw [railStep, rigRail, hrig, railStep, rigRail]
  rw [topStep, hEn, hStep, topStep]

/-- A reverse shutdown with a step to lower. -/
theorem startShutdown_lowers {s : State} {k : Nat} (h : topStep s = some k) :
    (startShutdown s).rls.falling = true ∧ (startShutdown s).rls.warning = false ∧ (startShutdown s).rls.rising = false ∧
    (startShutdown s).rls.done = false ∧ (startShutdown s).rls.step = k ∧
    (∀ n, n < 8 → railEn (startShutdown s) n = (railEn s n && decide (railStep s n ≠ k))) ∧
    (∀ n, n < 8 → (railGet s n).state = 5 → (railGet s n).good = false →
      (railGet (startShutdown s) n).state = 5 ∧ (railGet (startShutdown s) n).good = false) ∧
    startShutdown s = { s with
      rls := (startShutdown s).rls, pins := { s.pins with en := (startShutdown s).pins.en } } := by
  unfold startShutdown
  set u : State := { s with rls := { s.rls with
    rising := false, warning := false, falling := true, done := false
    rails := s.rls.rails.map (fun r => { r with state := if r.state = 2 then 1 else r.state, lowering := false }) } } with hu
  obtain ⟨hstep, hen, hrail, hrls, hframe⟩ := lowersStep_lowerTop (s := u) (k := k) h
  refine ⟨by rw [hrls], by rw [hrls], by rw [hrls], by rw [hrls], hstep, hen, fun n hn h5 hgood => ?_, hframe⟩
  have hget : railGet u n = { railGet s n with
      state := if (railGet s n).state = 2 then 1 else (railGet s n).state, lowering := false } := by
    simp [railGet, hu, List.getD_eq_getElem?_getD, Vector.getElem?_toList, hn]
  have hu5 : (railGet u n).state = 5 ∧ (railGet u n).good = false := by
    rw [hget]
    exact ⟨by simp [h5], hgood⟩
  rw [hrail n hn]
  split
  · simp [lowered, hu5.1]
  · exact hu5

theorem foldl_some {f : Nat → Nat → Nat} (l : List Nat) (a : Nat) :
    l.foldl (fun (a : Option Nat) n => some (a.elim n (fun m => f m n))) (some a) = some (l.foldl f a) := by
  induction l generalizing a with
  | nil => rfl
  | cons c l ih => exact ih (f a c)

theorem maxNat_cons (a : Nat) (l : List Nat) : maxNat (a :: l) = some (l.foldl max a) := by
  rw [← foldl_some (f := max)]
  unfold maxNat
  rw [List.foldl_cons]
  congr 1
  funext x n
  cases x <;> rfl

/-- With a rail enabled there is a step to lower. -/
theorem topStep_of_enabled {n : Nat} (hn : n < 8) {s : State} (h : railEn s n = true) : ∃ k, topStep s = some k := by
  unfold topStep
  cases hl : (railNos.filter (railEn s)).map (railStep s) with
  | nil =>
    have hmem : n ∈ railNos.filter (railEn s) := List.mem_filter.mpr ⟨mem_railNos hn, h⟩
    rw [List.map_eq_nil_iff.mp hl] at hmem
    cases hmem
  | cons a l => exact ⟨_, maxNat_cons a l⟩

/-! ### Rails are raised -/

/-- Enabling a rail that is due. -/
theorem completes_railEnable {n : Nat} {s : State} (hrising : s.rls.rising = true) (hfrozen : s.rls.frozen = false) (hn : n < 8)
    (hrig : (rigRail s n).isSome = true) (hst : (railGet s n).state = 2) (hstep : nextRiseStep s = some (railStep s n)) :
    Completes (exec (.railEnable n) s) fun t =>
      t.pins.en = s.pins.en ||| (1#8 <<< n) ∧
      railGet t n = { railGet s n with state := 3, enabledAt := s.sys.tick, count := 0, confirm := false } ∧
      RailsBut n s t ∧ t.rls.step = railStep s n ∧
      t = { s with pins := { s.pins with en := t.pins.en }, rls := { s.rls with rails := t.rls.rails, step := t.rls.step } } := by
  show Completes (execRailEnable n s) _
  unfold execRailEnable
  dsimp only
  rw [if_pos (by simp [hrising, hfrozen, hn, hrig, hst, hstep])]
  have hself := railGet_modRail n n (fun r => { r with
    state := 3, enabledAt := s.sys.tick, count := 0, confirm := false }) s
  rw [if_pos ⟨rfl, hn⟩] at hself
  have hothers : ∀ j, j ≠ n → _ := fun j hj => (railGet_modRail n j (fun r => { r with
    state := 3, enabledAt := s.sys.tick, count := 0, confirm := false }) s).trans (if_neg fun h => hj h.1)
  exact completes_next ⟨rfl, hself, hothers, rfl, rfl⟩

/-- A rail that is not good at its window's end locks the rails and starts the reverse shutdown. -/
theorem completes_railRiseWindowEnd {n : Nat} {s : State} (hrising : s.rls.rising = true) (hfrozen : s.rls.frozen = false)
    (hn : n < 8) (hst : (railGet s n).state = 3) (hen : railEn s n = true) (hlive : Live s) (hnone : NoneContained s .rls) :
    Completes (exec (.railRiseWindowEnd n) s) fun t =>
      t.rls.locked = true ∧ t.rls.lockCause = 1 ∧ t.rls.lockRail = n ∧ t.rls.rising = false ∧ t.rls.falling = true ∧
      (railGet t n).good = false ∧ (railGet t n).state = 5 ∧ t.fb.rls.fst.getLsbD 0 = true ∧
      (∀ j, j < 8 → railEn t j = (railEn s j && decide (some (railStep s j) ≠ topStep s))) := by
  set v := setLock 1 n (modRail n (fun r => { r with state := 5, good := false }) s) with hv
  have hraise : Raised .rls 0 v (raise .rls 0 v) := raised_raise hlive (.inr ⟨by decide, hnone⟩)
  have halive := notFatal_of_raised (s := v) hlive hraise
  obtain ⟨k, hk⟩ := topStep_of_enabled hn hen
  have htop : topStep (raise .rls 0 v) = some k := by
    rw [← hk]
    exact topStep_congr (by rw [faultFrame_pins hraise.frame]; rfl) (by rw [faultFrame_rig hraise.frame]; rfl)
  obtain ⟨hfalling, -, hrise, -, -, hens, hkept, hframe⟩ := startShutdown_lowers htop
  obtain ⟨hlock, -⟩ := riseFails_lock (n := n) hlive hnone
  have heq : riseFails n s = startShutdown (raise .rls 0 v) := by
    unfold riseFails beginShutdown
    dsimp only
    rw [← hv, if_neg halive, if_pos hfalling]
  have hget : railGet (raise .rls 0 v) n = { railGet s n with state := 5, good := false } := by
    rw [railGet, faultFrame_rls hraise.frame]
    show railGet (modRail n (fun r => { r with state := 5, good := false }) s) n = _
    rw [railGet_modRail, if_pos ⟨rfl, hn⟩]
  obtain ⟨hfive, hgood⟩ := hkept n hn (by rw [hget]) (by rw [hget])
  show Completes (execRailRiseWindowEnd n s) _
  rw [execRailRiseWindowEnd, if_pos (by simp [hrising, hfrozen, hn, hst])]
  rw [heq] at hlock ⊢
  refine completes_next ⟨congrArg LockView.locked hlock, congrArg LockView.cause hlock, congrArg LockView.rail hlock, hrise,
    hfalling, hgood, hfive, ?_, fun j hj => ?_⟩
  · rw [hframe]
    exact bit_of_raised (by decide) hraise
  · have hEn : railEn (raise .rls 0 v) j = railEn s j := by rw [railEn, faultFrame_pins hraise.frame]; rfl
    have hStep : railStep (raise .rls 0 v) j = railStep s j := by
      rw [railStep, rigRail, faultFrame_rig hraise.frame]; rfl
    rw [hens j hj, hEn, hStep, hk]
    simp

/-- Settles O20. -/
theorem railsRise : Obligations.RailsRise :=
  ⟨fun _ _ hrising hfrozen hn hrig hst hstep => completes_railEnable hrising hfrozen hn hrig hst hstep,
    fun _ _ hrising hfrozen hn hst hen hlive hnone => completes_railRiseWindowEnd hrising hfrozen hn hst hen hlive hnone⟩

/-! ### The reverse shutdown -/

/-- The state in which a step of the shutdown is taken: a step that its window ends is noted. -/
def stepNoted (byWindow : Bool) (s : State) : State := if byWindow then raise .rls 2 s else s

theorem stepNoted_frame {s : State} (hlive : Live s) (byWindow : Bool) :
    FaultFrame s (stepNoted byWindow s) ∧ (stepNoted byWindow s).sys.state ≠ .fatal ∧
    ((stepNoted byWindow s).sys.state = s.sys.state ∨ s.sys.state = .standby) ∧
    (byWindow = true → (stepNoted byWindow s).fb.rls.fst.getLsbD 2 = true) := by
  cases byWindow with
  | false => exact ⟨faultFrame_refl s, hlive.2, .inl rfl, nofun⟩
  | true =>
    have hraise : Raised .rls 2 s (raise .rls 2 s) := raised_raise hlive (.inl (by decide))
    exact ⟨hraise.frame, notFatal_of_raised hlive hraise, hraise.hub.imp_right And.left, fun _ => bit_of_raised (by decide) hraise⟩

theorem stepDown_frame (s : State) : stepDown s = { s with rls := { s.rls with rails := (stepDown s).rls.rails } } := by
  have h : ∀ (l : List Nat) (t : State), l.foldl (fun t n => modRail n (fun r => { r with
      state := if r.state = 6 then (if (rigRail t n).isNone then 0 else 1) else r.state, lowering := false }) t) t =
      { t with rls := { t.rls with rails := (l.foldl (fun t n => modRail n (fun r => { r with
        state := if r.state = 6 then (if (rigRail t n).isNone then 0 else 1) else r.state, lowering := false }) t) t).rls.rails } } := by
    intro l
    induction l with
    | nil => exact fun _ => rfl
    | cons n l ih =>
      intro t
      rw [List.foldl_cons, ih]
      rfl
  exact h railNos s

/-- A failed rail reads FAILED throughout the shutdown. -/
theorem stepDown_failed (s : State) (n : Nat) : decide ((railGet (stepDown s) n).state = 5) = decide ((railGet s n).state = 5) := by
  refine foldl_keeps (fun s => decide ((railGet s n).state = 5)) (fun t j => ?_) railNos s
  rw [railGet_modRail]
  split
  · rename_i h
    rw [← h.1]
    by_cases h6 : (railGet t n).state = 6
    · rw [if_pos h6, h6]
      split <;> rfl
    · rw [if_neg h6]
  · rfl

/-- A step that is not the end of the shutdown. -/
theorem lowerTop_stepDown {k : Nat} {s : State} (h : topStep s = some k) :
    (lowerTop (stepDown s)).rls.falling = s.rls.falling ∧ (lowerTop (stepDown s)).rls.step = k ∧
    (∀ n, n < 8 → railEn (lowerTop (stepDown s)) n = (railEn s n && decide (railStep s n ≠ k))) ∧
    (∀ n, n < 8 → railEn s n = true → railStep s n = k →
      (railGet (lowerTop (stepDown s)) n).state = if (railGet s n).state = 5 then 5 else 6) ∧
    lowerTop (stepDown s) = { s with
      rls := (lowerTop (stepDown s)).rls, pins := { s.pins with en := (lowerTop (stepDown s)).pins.en } } := by
  have hdown := stepDown_frame s
  have hpins : (stepDown s).pins = s.pins := by rw [hdown]
  have hrig : (stepDown s).rig = s.rig := by rw [hdown]
  have hEn : ∀ n, railEn (stepDown s) n = railEn s n := fun n => by rw [railEn, hpins, railEn]
  have hStep : ∀ n, railStep (stepDown s) n = railStep s n := fun n => by rw [railStep, rigRail, hrig]; rfl
  have htop : topStep (stepDown s) = some k := by
    rw [← h]
    exact topStep_congr (congrArg _ hpins) (by rw [hrig])
  obtain ⟨hstep, hen, hrail, hrls, hframe⟩ := lowersStep_lowerTop htop
  refine ⟨?_, hstep, fun n hn => ?_, fun n hn hon hk => ?_, ?_⟩
  · rw [hrls, hdown]
  · rw [hen n hn, hEn, hStep]
  · rw [hrail n hn, if_pos ⟨(hEn n).trans hon, (hStep n).trans hk⟩]
    have h5 := stepDown_failed s n
    simp only [decide_eq_decide] at h5
    simp only [lowered, h5]
  · rw [hframe, hdown]

theorem execShutdownStep_eq {byWindow : Bool} {s : State} (hfalling : s.rls.falling = true) (hfrozen : s.rls.frozen = false)
    (hlive : Live s) (hdue : byWindow = true ∨ offLevels s = true) :
    exec (.shutdownStepAdvance byWindow) s = .next (if (lowerTop (stepDown (stepNoted byWindow s))).rls.falling
      then lowerTop (stepDown (stepNoted byWindow s)) else shutdownEnds (lowerTop (stepDown (stepNoted byWindow s)))) := by
  have halive := (stepNoted_frame hlive byWindow).2.1
  have hgo : ¬ (!s.rls.falling || s.rls.frozen || (!byWindow && !offLevels s)) = true := by
    rw [hfalling, hfrozen]
    rcases hdue with h | h <;> simp [h]
  show execShutdownStepAdvance byWindow s = _
  unfold execShutdownStepAdvance
  dsimp only
  rw [if_neg hgo, show (if byWindow = true then raise .rls 2 s else s) = stepNoted byWindow s from rfl, if_neg halive]

theorem completes_shutdownStep {byWindow : Bool} {k : Nat} {s : State} (hfalling : s.rls.falling = true)
    (hfrozen : s.rls.frozen = false) (hlive : Live s) (hdue : byWindow = true ∨ offLevels s = true) (htop : topStep s = some k) :
    Completes (exec (.shutdownStepAdvance byWindow) s) fun t =>
      t.rls.falling = true ∧ t.rls.step = k ∧
      (∀ n, n < 8 → railEn t n = (railEn s n && decide (railStep s n ≠ k))) ∧
      (∀ n, n < 8 → railEn s n = true → railStep s n = k →
        (railGet t n).state = if (railGet s n).state = 5 then 5 else 6) ∧
      (byWindow = true → t.fb.rls.fst.getLsbD 2 = true) ∧
      (byWindow = false → t = { s with rls := t.rls, pins := { s.pins with en := t.pins.en } }) := by
  obtain ⟨hframe, -, -, hbit⟩ := stepNoted_frame hlive byWindow
  have hexec := execShutdownStep_eq hfalling hfrozen hlive hdue
  have hnoted : byWindow = false → stepNoted byWindow s = s := fun h => by rw [h]; rfl
  generalize stepNoted byWindow s = u at *
  have hEn : ∀ n, railEn u n = railEn s n := fun n => by rw [railEn, faultFrame_pins hframe, railEn]
  have hStep : ∀ n, railStep u n = railStep s n := fun n => by rw [railStep, rigRail, faultFrame_rig hframe]; rfl
  have hGet : ∀ n, railGet u n = railGet s n := fun n => by rw [railGet, faultFrame_rls hframe, railGet]
  have hutop : topStep u = some k := by
    rw [← htop]
    exact topStep_congr (by rw [faultFrame_pins hframe]) (by rw [faultFrame_rig hframe])
  obtain ⟨hfall, hstep, hen, hrail, heq⟩ := lowerTop_stepDown hutop
  have hfall' : (lowerTop (stepDown u)).rls.falling = true := by rw [hfall, faultFrame_rls hframe, hfalling]
  rw [hexec, if_pos hfall']
  refine completes_next ⟨hfall', hstep, fun n hn => by rw [hen n hn, hEn, hStep], fun n hn hon hk => ?_, fun h => ?_, fun h => ?_⟩
  · rw [hrail n hn ((hEn n).trans hon) ((hStep n).trans hk), hGet]
  · rw [heq]
    exact hbit h
  · rw [hnoted h] at heq ⊢
    exact heq

/-- RESET entered by a warm restart. -/
theorem warmReset_words (cause block : Nat) (hold : ResetHold) (s : State) :
    (warmReset cause block hold s).rls.falling = s.rls.falling ∧ (warmReset cause block hold s).rls.pfwWarn = s.rls.pfwWarn ∧
    (warmReset cause block hold s).pins.en = s.pins.en ∧ (warmReset cause block hold s).sys.state = .reset ∧
    (warmReset cause block hold s).start.nextCause = cause ∧ (warmReset cause block hold s).start.resetHold = hold := by
  have hsafe : (resetSafe s).rls.falling = s.rls.falling ∧ (resetSafe s).rls.pfwWarn = s.rls.pfwWarn ∧
      (resetSafe s).pins.en = s.pins.en := by
    simp [resetSafe, trimsOff]
  unfold warmReset
  generalize resetSafe s = u at hsafe
  exact ⟨hsafe.1, hsafe.2.1, hsafe.2.2, rfl, rfl, rfl⟩

/-- The step after the last leaves RISING for RESET, and a full reset may go on. -/
theorem shutdownEnds_words (s : State) :
    (shutdownEnds s).rls.falling = s.rls.falling ∧ (shutdownEnds s).rls.pfwWarn = s.rls.pfwWarn ∧
    (shutdownEnds s).pins.en = s.pins.en ∧
    (s.sys.state = .rising → (shutdownEnds s).sys.state = .reset ∧ (shutdownEnds s).start.nextCause = 5) ∧
    (s.sys.state = .reset → s.start.resetHold = .shutdown → (shutdownEnds s).start.resetHold = .none) := by
  unfold shutdownEnds
  split
  · rename_i h
    have hwarm : canWarm s = true := by simp [canWarm, h]
    obtain ⟨hfalling, hwarn, hen, hst, hcause, -⟩ := warmReset_words 5 0 .none s
    rw [warmRestart, if_pos hwarm]
    exact ⟨hfalling, hwarn, hen, fun _ => ⟨hst, hcause⟩, fun h' => absurd (h.symm.trans h') nofun⟩
  · rename_i h
    split
    · exact ⟨rfl, rfl, rfl, fun h' => absurd h' h, fun _ _ => rfl⟩
    · rename_i hhold
      exact ⟨rfl, rfl, rfl, fun h' => absurd h' h, fun h' h'' => absurd ⟨h', h''⟩ hhold⟩

theorem lowerTop_of_none {s : State} (h : topStep s = none) :
    lowerTop s = { s with rls := { s.rls with falling := false, pfwWarn := false } } := by
  rw [lowerTop_eq, h]

theorem completes_shutdownEnd {byWindow : Bool} {s : State} (hfalling : s.rls.falling = true) (hfrozen : s.rls.frozen = false)
    (hlive : Live s) (hdue : byWindow = true ∨ offLevels s = true) (htop : topStep s = none) :
    Completes (exec (.shutdownStepAdvance byWindow) s) fun t =>
      t.rls.falling = false ∧ t.rls.pfwWarn = false ∧ t.pins.en = s.pins.en ∧
      (s.sys.state = .rising → t.sys.state = .reset ∧ t.start.nextCause = 5) ∧
      (s.sys.state = .reset → s.start.resetHold = .shutdown → t.start.resetHold = .none) := by
  obtain ⟨hframe, -, hstate, -⟩ := stepNoted_frame hlive byWindow
  have hexec := execShutdownStep_eq hfalling hfrozen hlive hdue
  generalize stepNoted byWindow s = u at *
  have hdown := stepDown_frame u
  have hpins : (stepDown u).pins = u.pins := by rw [hdown]
  have hutop : topStep (stepDown u) = none := by
    rw [← htop]
    exact topStep_congr (by rw [hpins, faultFrame_pins hframe]) (by rw [hdown]; dsimp only; rw [faultFrame_rig hframe])
  have hlower := lowerTop_of_none hutop
  have hends := shutdownEnds_words (lowerTop (stepDown u))
  rw [hexec, if_neg (by rw [hlower]; exact Bool.false_ne_true)]
  generalize shutdownEnds (lowerTop (stepDown u)) = v at *
  rw [hlower, hdown] at hends
  obtain ⟨hfall, hwarn, hen, hrise, hreset⟩ := hends
  refine completes_next ⟨hfall, hwarn, ?_, fun h => hrise ?_, fun h hh => hreset ?_ ?_⟩
  · rw [hen]
    show u.pins.en = s.pins.en
    rw [faultFrame_pins hframe]
  · exact (hstate.resolve_right (by rw [h]; nofun)).trans h
  · exact (hstate.resolve_right (by rw [h]; nofun)).trans h
  · show u.start.resetHold = .shutdown
    rw [faultFrame_start hframe, hh]

/-- Settles O21. -/
theorem railsFall : Obligations.RailsFall := by
  refine ⟨fun _ k s hfalling hfrozen hlive _ hdue htop => completes_shutdownStep hfalling hfrozen hlive hdue htop,
    fun _ s hfalling hfrozen hlive _ hdue htop => completes_shutdownEnd hfalling hfrozen hlive hdue htop,
    fun k s hwarning hfrozen htop => ?_⟩
  obtain ⟨hfalling, hwarn, hrising, hdone, hstep, hen, -, hframe⟩ := startShutdown_lowers htop
  show Completes (execWarnShutdownStart s) _
  rw [execWarnShutdownStart, if_pos (by simp [hwarning, hfrozen])]
  unfold beginShutdown
  dsimp only
  rw [if_pos hfalling]
  exact completes_next ⟨hwarn, hfalling, hrising, hdone, hstep, hen, hframe⟩

end Machine
end Sys2Proof
end

section
/-! Margining and RLS_RELEASE (chapter 06), with what any single-frame write leaves at its port (chapter 08). -/
namespace Sys2Proof
namespace Machine

open Safety

/-! ### The answer to a write -/

/-- A write that its block takes, answered. -/
def wroteOk (p : Port) (a : Nat) (t : State) : State := respond p { stat := .ok, addr := a, data := shownWord p a t } t

theorem wroteOk_frame (p : Port) (a : Nat) (t : State) : wroteOk p a t = { t with ports := (wroteOk p a t).ports } :=
  respond_frame ..

theorem owes_wroteOk {p : Port} {t : State} (h : (portGet t p).answering = true) (a : Nat) :
    Owes (wroteOk p a t) p .ok a (shownWord p a t) := owes_respond h ..

theorem shownWord_of_live {s : State} (h : s.sys.state ≠ .replay) (p : Port) (a : Nat) : shownWord p a s = regRead s p a := by
  simp [shownWord, replayed, h]

/-- A word that only takes commands reads 0. -/
theorem shownWord_of_command {a : Nat} (h : accOf a = .wk ∨ accOf a = .wo) (p : Port) (s : State) : shownWord p a s = 0 := by
  rcases h with h | h <;> simp [shownWord, replayed, regRead, h]

theorem keptWord_of_command {a : Nat} (h : accOf a = .wk ∨ accOf a = .wo) (p : Port) (s : State) : keptWord p a s = 0 := by
  rw [keptWord, shownWord_of_command h, ite_self]

/-- Of a port's words only the responses, and what the recorder notes, have moved. -/
def Answered (x y : HostPort) : Prop :=
  y = { x with sent := y.sent, sdo := y.sdo, owed := y.owed, taken := y.taken, said := y.said }

theorem answered_refl (x : HostPort) : Answered x x := rfl

theorem answered_trans {x y z : HostPort} (h : Answered x y) (h' : Answered y z) : Answered x z :=
  h'.trans (by rw [h])

theorem answered_respond (p q : Port) (r : Response) (s : State) : Answered (portGet s q) (portGet (respond p r s) q) := by
  have h := portGet_respond p q r s
  rw [Answered, h]

theorem answered_writeSeen (p q : Port) (a v : Nat) (s : State) :
    Answered (portGet s q) (portGet (writeSeen p a v s) q) := by
  have h := portGet_writeSeen p q a v s
  rw [Answered, h]

theorem portsAnswer_of {p : Port} {s t : State} (hother : portGet t p.other = portGet s p.other)
    (h : Answered (portGet s p) (portGet t p)) : PortsAnswer s t p := by
  rw [PortsAnswer, ← h]
  cases p
  · have hb : t.ports.b = s.ports.b := hother
    exact congrArg (fun b => (⟨t.ports.a, b⟩ : PerPort HostPort)) hb
  · have ha : t.ports.a = s.ports.a := hother
    exact congrArg (fun a => (⟨a, t.ports.b⟩ : PerPort HostPort)) ha

theorem portGet_writeSeen_other (p : Port) (a v : Nat) (s : State) :
    portGet (writeSeen p a v s) p.other = portGet s p.other := by
  unfold writeSeen takeSdi
  rw [portGet_modPort, if_neg (by cases p <;> nofun)]

theorem portGet_respond_other (p : Port) (r : Response) (s : State) : portGet (respond p r s) p.other = portGet s p.other := by
  unfold respond respondAs
  split
  · rw [portGet_modPort, if_neg (by cases p <;> nofun)]
  · rfl

theorem portGet_of_ports {s t : State} (h : t.ports = s.ports) (q : Port) : portGet t q = portGet s q := by
  rw [portGet, h, portGet]

/-- Where the write itself does nothing to the port words, only the port's answers move. -/
theorem portsAnswer_wroteOk {p : Port} {a v : Nat} {s t : State} (h : t.ports = (writeSeen p a v s).ports) :
    PortsAnswer s (wroteOk p a t) p := by
  have hget := portGet_of_ports h
  refine portsAnswer_of ?_ (answered_trans (answered_writeSeen p p a v s) ?_)
  · rw [wroteOk, portGet_respond_other, hget, portGet_writeSeen_other]
  · rw [← hget]
    exact answered_respond ..

theorem answering_writeSeen {p : Port} {s t : State} {a v : Nat} (hheard : heard s p = true)
    (h : t.ports = (writeSeen p a v s).ports) : (portGet t p).answering = true := by
  rw [portGet_of_ports h, portGet_writeSeen]
  exact answering_of_heard hheard

/-! ### RLS_TRIMn -/

theorem accOf_trim {n : Nat} (hn : n < 8) : accOf (0x418 + n) = .rw := by
  interval_cases n <;> decide

theorem faultWordAt_trim {n : Nat} (hn : n < 8) (p : Port) : faultWordAt p (0x418 + n) = none := by
  interval_cases n <;> cases p <;> decide

theorem regRead_trim {n : Nat} (hn : n < 8) (s : State) (p : Port) :
    regRead s p (0x418 + n) = toWord ((railGet s n).trimMag + 256 * bit (railGet s n).trimSink) := by
  simp only [regRead, accOf_trim hn, faultWordAt_trim hn]
  interval_cases n <;> rfl

theorem writeOwn_trim {n : Nat} (hn : n < 8) (p : Port) (v : Nat) (s : State) (h : trimRefused s n (v % 256) = 0) :
    writeOwn p (0x418 + n) v s = (0, setTrimTarget p n (v % 256) (bitAt v 8) s) := by
  have hown : writeOwn p (0x418 + n) v s = ruled (trimRefused s n (v % 256)) (rlsRefused p (trimRefused s n (v % 256)) s)
      (setTrimTarget p n (v % 256) (bitAt v 8) s) := by
    interval_cases n <;> rfl
  rw [hown, ruled, if_pos h]

theorem railGet_setTrimTarget {n : Nat} (hn : n < 8) (p : Port) (mag : Nat) (sink : Bool) (s : State) (j : Nat) :
    railGet (setTrimTarget p n mag sink s) j =
      if j = n then { railGet s n with
        targetMag := mag, targetSink := sink && decide (mag ≠ 0)
        trimPort := if mag = 0 then (railGet s n).trimPort else some p
        ramping := (railGet s n).ramping && decide (mag = 0) }
      else railGet s j := by
  rw [setTrimTarget, railGet_modRail]
  by_cases hj : j = n
  · rw [if_pos ⟨hj, hn⟩, if_pos hj]
  · rw [if_neg fun h => hj h.1, if_neg hj]

theorem toNat_address {a : Nat} (h : a < 4096) : (BitVec.ofNat 12 a).toNat = a := by
  rw [BitVec.toNat_ofNat, Nat.mod_eq_of_lt h]

theorem completes_trimWrite {p : Port} {n : Nat} {data : Word} {s : State} (hn : n < 8) (hadm : WriteAdmitted s p (0x418 + n))
    (hrefused : trimRefused s n (data.toNat % 256) = 0) (hlive : NotReplayed s) :
    Completes (exec (.rlsTrimWrite p n data none) s) fun t =>
      (railGet t n).targetMag = data.toNat % 256 ∧
      (railGet t n).targetSink = (data.getLsbD 8 && decide (data.toNat % 256 ≠ 0)) ∧
      (data.toNat % 256 ≠ 0 → (railGet t n).trimPort = some p) ∧
      (railGet t n).trimMag = (railGet s n).trimMag ∧ RailsBut n s t ∧ PortsAnswer s t p ∧
      Owes t p .ok (0x418 + n) (regRead t p (0x418 + n)) ∧
      t = { s with rls := { s.rls with rails := t.rls.rails }, ports := t.ports } := by
  set u := setTrimTarget p n (data.toNat % 256) (bitAt data.toNat 8) (writeSeen p (0x418 + n) data.toNat s) with hu
  have hexec : exec (.rlsTrimWrite p n data none) s = .next (wroteOk p (0x418 + n) u) := by
    show (Host.Outcome.next (wordFrame p (BitVec.ofNat 12 (0x418 + n)).toNat data s) : Res) = _
    rw [toNat_address (by omega), wordFrame_ok hadm (by rw [openAcc, accOf_trim hn]) (faultWordAt_trim hn p)
      (by interval_cases n <;> decide) (by omega) (writeOwn_trim hn p data.toNat _ hrefused)]
    rfl
  have hports : u.ports = (writeSeen p (0x418 + n) data.toNat s).ports := rfl
  have hframe := wroteOk_frame p (0x418 + n) u
  have hrail : ∀ j, railGet (wroteOk p (0x418 + n) u) j = railGet u j := fun j => by rw [railGet, hframe, railGet]
  have hget := railGet_setTrimTarget hn p (data.toNat % 256) (bitAt data.toNat 8) (writeSeen p (0x418 + n) data.toNat s)
  rw [← hu] at hget
  have hseen : ∀ j, railGet (writeSeen p (0x418 + n) data.toNat s) j = railGet s j := fun j => by rw [railGet, writeSeen_frame, railGet]
  have hself := (hget n).trans (if_pos rfl)
  rw [hseen] at hself
  have hread : regRead (wroteOk p (0x418 + n) u) p (0x418 + n) = regRead u p (0x418 + n) := by
    rw [regRead_trim hn, regRead_trim hn, hrail]
  have hlive' : u.sys.state ≠ .replay := hlive
  have hshown := shownWord_of_live hlive' p (0x418 + n)
  rw [hexec]
  refine completes_next ⟨?_, ?_, fun h => ?_, ?_, fun j hj => ?_, portsAnswer_wroteOk hports, ?_, ?_⟩
  · rw [hrail, hself]
  · rw [hrail, hself, ← bitAt_toNat]
  · rw [hrail, hself]
    exact if_neg h
  · rw [hrail, hself]
  · rw [hrail, hget, if_neg hj, hseen]
  · rw [hread, ← hshown]
    exact owes_wroteOk (answering_writeSeen hadm.1.1 hports) _
  · rw [hframe, hu]
    rfl

/-! ### TRIM_STEP and TRIM_FAULT -/

theorem trimValue_parts (v : Int) : trimValue v.natAbs (decide (v < 0)) = v := by
  unfold trimValue
  by_cases h : v < 0
  · simp only [h, decide_true, if_true]
    omega
  · simp only [h, decide_false, Bool.false_eq_true, if_false]
    omega

theorem railGet_setTrim {n : Nat} (hn : n < 8) (v : Int) (s : State) (j : Nat) :
    railGet (setTrim n v s) j =
      if j = n then { railGet s n with trimMag := v.natAbs, trimSink := decide (v < 0) } else railGet s j := by
  have h : railGet (setTrim n v s) j = if j = n ∧ n < 8 then _ else _ :=
    railGet_modRail n j (fun r => { r with trimMag := v.natAbs, trimSink := decide (v < 0) }) s
  rw [h]
  by_cases hj : j = n
  · rw [if_pos ⟨hj, hn⟩, if_pos hj]
  · rw [if_neg fun h => hj h.1, if_neg hj]

theorem trmZ_setTrim {n : Nat} (hn : n < 8) (v : Int) (s : State) (j : Nat) :
    (setTrim n v s).pins.trmZ.getLsbD j = if j = n then decide (v = 0) else s.pins.trmZ.getLsbD j := by
  have h : (setTrim n v s).pins.trmZ = if v = 0 then s.pins.trmZ ||| (1#8 <<< n) else s.pins.trmZ &&& ~~~(1#8 <<< n) := rfl
  rw [h]
  by_cases hv : v = 0
  · rw [if_pos hv, getLsbD_setBit hn]
    by_cases hj : j = n <;> simp [hj, hv]
  · rw [if_neg hv, getLsbD_clearBit hn]
    by_cases hj : j = n <;> simp [hj, hv]

/-- What a trim step reads and moves of one rail. -/
structure TrimView where
  rail : Rail
  zero : Bool
  limit : Bool

/-- The view of a state. -/
def trimView (n : Nat) (s : State) : TrimView := ⟨railGet s n, s.pins.trmZ.getLsbD n, s.rls.mrglim.getLsbD n⟩

/-- One trim's step: toward its target, or taken back where the step before came near a limit. -/
def TrimMoved (near : Bool) (x y : TrimView) : Prop :=
  let v := trimValue x.rail.trimMag x.rail.trimSink
  let w := trimValue x.rail.targetMag x.rail.targetSink
  let u := trimValue y.rail.trimMag y.rail.trimSink
  (near = false → y.limit = x.limit ∧ y.rail.targetMag = x.rail.targetMag ∧ y.rail.trimLast = u - v ∧
    (v = w → u = v) ∧ (v < w → u = v + 1) ∧ (w < v → u = v - 1)) ∧
  (near = true → u = v - x.rail.trimLast ∧ y.rail.targetMag = u.natAbs ∧ y.limit = true) ∧
  (u ≠ v → y.zero = decide (u = 0))

theorem takeBack_moved {n : Nat} (hn : n < 8) (s : State) : TrimMoved true (trimView n s) (trimView n (takeBack n s)) := by
  set v := trimValue (railGet s n).trimMag (railGet s n).trimSink - (railGet s n).trimLast with hv
  have hset := railGet_setTrim hn v s n
  rw [if_pos rfl] at hset
  have hrail : railGet (takeBack n s) n = { railGet s n with
      trimMag := v.natAbs, trimSink := decide (v < 0), targetMag := v.natAbs, targetSink := decide (v < 0), trimLast := 0 } := by
    have h := railGet_modRail n n (fun r => { r with
      targetMag := v.natAbs, targetSink := decide (v < 0), trimLast := 0 }) (setTrim n v s)
    rw [if_pos ⟨rfl, hn⟩, hset] at h
    exact h
  have hzero : (takeBack n s).pins.trmZ.getLsbD n = decide (v = 0) := (trmZ_setTrim hn v s n).trans (if_pos rfl)
  have hlimit : (takeBack n s).rls.mrglim.getLsbD n = true := by
    have h : (takeBack n s).rls.mrglim = s.rls.mrglim ||| (1#8 <<< n) := rfl
    rw [h, getLsbD_setBit hn]
    simp
  have hvalue : trimValue (railGet (takeBack n s) n).trimMag (railGet (takeBack n s) n).trimSink = v := by
    rw [hrail]
    exact trimValue_parts v
  unfold TrimMoved trimView
  dsimp only
  rw [hvalue, hzero, hlimit]
  refine ⟨nofun, fun _ => ⟨rfl, ?_, rfl⟩, fun _ => rfl⟩
  rw [hrail]

/-- The direction of a trim's next step. -/
def trimWay (v w : Int) : Int := if v = w then 0 else if v < w then 1 else -1

theorem trimStep_of_far {n : Nat} {s : State} (h : stepTooNear s n = false) :
    trimStep n s =
      (let d := trimWay (trimValue (railGet s n).trimMag (railGet s n).trimSink)
        (trimValue (railGet s n).targetMag (railGet s n).targetSink)
      let t := modRail n (fun r => { r with trimLast := d, ramping := r.ramping && decide (d ≠ 0) }) s
      if d = 0 then t else setTrim n (trimValue (railGet s n).trimMag (railGet s n).trimSink + d) t) := by
  unfold trimStep
  rw [h]
  rfl

theorem trimStep_moved_far {n : Nat} (hn : n < 8) {s : State} (h : stepTooNear s n = false) :
    TrimMoved false (trimView n s) (trimView n (trimStep n s)) := by
  rw [trimStep_of_far h]
  dsimp only
  set v := trimValue (railGet s n).trimMag (railGet s n).trimSink with hv
  set w := trimValue (railGet s n).targetMag (railGet s n).targetSink with hw
  set d := trimWay v w with hd
  set t := modRail n (fun r => { r with trimLast := d, ramping := r.ramping && decide (d ≠ 0) }) s with ht
  have hrail : railGet t n = { railGet s n with trimLast := d, ramping := (railGet s n).ramping && decide (d ≠ 0) } := by
    rw [ht, railGet_modRail, if_pos ⟨rfl, hn⟩]
  by_cases hd0 : d = 0
  · have hvw : v = w := by
      by_contra hne
      rw [hd, trimWay, if_neg hne] at hd0
      split at hd0 <;> cases hd0
    rw [if_pos hd0]
    unfold TrimMoved trimView
    dsimp only
    rw [hrail]
    dsimp only
    rw [← hv, ← hw]
    refine ⟨fun _ => ⟨rfl, rfl, by omega, fun _ => rfl, fun h => absurd h (by omega), fun h => absurd h (by omega)⟩, nofun,
      fun h => absurd rfl h⟩
  · have hmoved := railGet_setTrim hn (v + d) t n
    rw [if_pos rfl, hrail] at hmoved
    have hvalue : trimValue (railGet (setTrim n (v + d) t) n).trimMag (railGet (setTrim n (v + d) t) n).trimSink = v + d := by
      rw [hmoved]
      exact trimValue_parts (v + d)
    have hzero := (trmZ_setTrim hn (v + d) t n).trans (if_pos rfl)
    rw [if_neg hd0]
    unfold TrimMoved trimView
    dsimp only
    rw [hvalue, hzero, ← hv, ← hw]
    refine ⟨fun _ => ⟨rfl, by rw [hmoved], ?_, fun h => ?_, fun h => ?_, fun h => ?_⟩, nofun, fun _ => rfl⟩
    · rw [hmoved]
      dsimp only
      omega
    · rw [hd, trimWay, if_pos h]
      omega
    · rw [hd, trimWay, if_neg (by omega), if_pos h]
    · rw [hd, trimWay, if_neg (by omega), if_neg (by omega)]
      omega

theorem trimStep_moved {n : Nat} (hn : n < 8) (s : State) :
    TrimMoved (stepTooNear s n) (trimView n s) (trimView n (trimStep n s)) := by
  cases h : stepTooNear s n with
  | false => exact trimStep_moved_far hn h
  | true =>
    have heq : trimStep n s = takeBack n s := by
      unfold trimStep
      rw [if_pos h]
    rw [heq]
    exact takeBack_moved hn s

/-- A trim's step moves no other trim. -/
theorem trimView_trimStep_other {n m : Nat} (hm : m < 8) (hne : n ≠ m) (s : State) :
    trimView n (trimStep m s) = trimView n s := by
  have hmod : ∀ f t, railGet (modRail m f t) n = railGet t n := fun f t => by
    rw [railGet_modRail, if_neg fun h => hne h.1]
  have hset : ∀ v t, trimView n (setTrim m v t) = trimView n t := by
    intro v t
    have hz := (trmZ_setTrim hm v t n).trans (if_neg hne)
    have hr := (railGet_setTrim hm v t n).trans (if_neg hne)
    have hl : (setTrim m v t).rls.mrglim = t.rls.mrglim := rfl
    rw [trimView, hz, hr, hl, trimView]
  cases h : stepTooNear s m with
  | false =>
    rw [trimStep_of_far h]
    dsimp only
    split
    · rw [trimView, hmod]
      rfl
    · rw [hset, trimView, hmod]
      rfl
  | true =>
    have heq : trimStep m s = takeBack m s := by
      unfold trimStep
      rw [if_pos h]
    have hz : (takeBack m s).pins.trmZ.getLsbD n = s.pins.trmZ.getLsbD n := (trmZ_setTrim hm _ s n).trans (if_neg hne)
    have hl : (takeBack m s).rls.mrglim.getLsbD n = s.rls.mrglim.getLsbD n := by
      have h : (takeBack m s).rls.mrglim = s.rls.mrglim ||| (1#8 <<< m) := rfl
      rw [h, getLsbD_setBit hm]
      simp [hne]
    have hr : railGet (takeBack m s) n = railGet s n := by
      set v := trimValue (railGet s m).trimMag (railGet s m).trimSink - (railGet s m).trimLast
      have h := hmod (fun r => { r with targetMag := v.natAbs, targetSink := decide (v < 0), trimLast := 0 }) (setTrim m v s)
      rw [railGet_setTrim hm, if_neg hne] at h
      exact h
    rw [heq, trimView, hz, hl, hr, trimView]

/-- Between `s` and `t` only trims have moved. -/
def TrimsMoved (s t : State) : Prop :=
  t = { s with
    rls := { s.rls with rails := t.rls.rails, mrglim := t.rls.mrglim, mrglimNew := t.rls.mrglimNew }
    pins := { s.pins with trmZ := t.pins.trmZ } }

theorem trimsMoved_trans {s t u : State} (h : TrimsMoved s t) (h' : TrimsMoved t u) : TrimsMoved s u :=
  h'.trans (by rw [h])

theorem trimsMoved_trimStep (n : Nat) (s : State) : TrimsMoved s (trimStep n s) := by
  cases h : stepTooNear s n with
  | false =>
    rw [trimStep_of_far h]
    dsimp only
    split
    · exact rfl
    · exact rfl
  | true =>
    have heq : trimStep n s = takeBack n s := by
      unfold trimStep
      rw [if_pos h]
    rw [heq]
    exact rfl

/-- The steps of a list of trims. -/
def trimSteps (l : List Nat) (s : State) : State := l.foldl (fun s n => trimStep n s) s

theorem trimsMoved_trimSteps (l : List Nat) (s : State) : TrimsMoved s (trimSteps l s) := by
  induction l generalizing s with
  | nil => exact rfl
  | cons n l ih => exact trimsMoved_trans (trimsMoved_trimStep n s) (ih (trimStep n s))

theorem trimView_trimSteps_other {n : Nat} {l : List Nat} (hl : ∀ m ∈ l, m < 8 ∧ n ≠ m) (s : State) :
    trimView n (trimSteps l s) = trimView n s := by
  induction l generalizing s with
  | nil => rfl
  | cons m l ih =>
    obtain ⟨hm, hne⟩ := hl m List.mem_cons_self
    have hcons : trimSteps (m :: l) s = trimSteps l (trimStep m s) := rfl
    rw [hcons, ih (fun k hk => hl k (List.mem_cons_of_mem _ hk)), trimView_trimStep_other hm hne]

/-- Every trim takes its own step. -/
theorem trimSteps_moved {n : Nat} (hn : n < 8) (s : State) :
    TrimMoved (stepTooNear s n) (trimView n s) (trimView n (trimSteps railNos s)) := by
  obtain ⟨l, r, hsplit⟩ := List.append_of_mem (mem_railNos hn)
  have hnodup : railNos.Nodup := by decide
  have hlt : ∀ m ∈ railNos, m < 8 := by decide
  rw [hsplit] at hnodup hlt
  have hl : ∀ m ∈ l, m < 8 ∧ n ≠ m := fun m hm => ⟨hlt m (by simp [hm]), fun h => by
    subst h
    exact (List.nodup_append.mp hnodup).2.2 _ hm _ List.mem_cons_self rfl⟩
  have hr : ∀ m ∈ r, m < 8 ∧ n ≠ m := fun m hm => ⟨hlt m (by simp [hm]), fun h => by
    subst h
    exact (List.nodup_cons.mp (List.nodup_append.mp hnodup).2.1).1 hm⟩
  have hall : trimSteps railNos s = trimSteps r (trimStep n (trimSteps l s)) := by
    rw [hsplit, trimSteps, List.foldl_append]
    rfl
  have hbefore := trimView_trimSteps_other hl s
  have hrail : railGet (trimSteps l s) n = railGet s n := congrArg TrimView.rail hbefore
  have hrig : rigRail (trimSteps l s) n = rigRail s n := by rw [rigRail, trimsMoved_trimSteps l s]; rfl
  have hnear : stepTooNear (trimSteps l s) n = stepTooNear s n := by rw [stepTooNear, hrail, hrig]; rfl
  rw [hall, trimView_trimSteps_other hr, ← hbefore, ← hnear]
  exact trimStep_moved hn _

theorem completes_trimFault {n : Nat} {s : State} (hn : n < 8) (hmag : (railGet s n).trimMag ≠ 0) (hlive : Live s) :
    Completes (exec (.trimFault n) s) fun t =>
      (railGet t n).trimMag = 0 ∧ (railGet t n).targetMag = 0 ∧ RailsBut n s t ∧
      t.pins.trmZ = s.pins.trmZ ||| (1#8 <<< n) ∧ t.pins.en = s.pins.en ∧ t.fb.rls.fst.getLsbD 5 = true := by
  set w := modRail n (fun r => { r with targetMag := 0, targetSink := false, trimLast := 0, ramping := false }) s with hw
  set u := setTrim n 0 w with hu
  have hraise : Raised .rls 5 u (raise .rls 5 u) := raised_raise hlive (.inl (by decide))
  have hget : ∀ j, railGet (raise .rls 5 u) j = railGet u j := fun j => by rw [railGet, faultFrame_rls hraise.frame, railGet]
  have hwself : railGet w n = { railGet s n with
      targetMag := 0, targetSink := false, trimLast := 0, ramping := false } := by
    rw [hw, railGet_modRail, if_pos ⟨rfl, hn⟩]
  have hself := (railGet_setTrim hn 0 w n).trans (if_pos rfl)
  rw [hwself] at hself
  show Completes (execTrimFault n s) _
  rw [execTrimFault, if_neg (by omega)]
  refine completes_next ⟨?_, ?_, fun j hj => ?_, ?_, ?_, bit_of_raised (by decide) hraise⟩
  · rw [hget, hu, hself]
    rfl
  · rw [hget, hu, hself]
  · rw [hget, hu, railGet_setTrim hn, if_neg hj, hw, railGet_modRail, if_neg fun h => hj h.1]
  · rw [faultFrame_pins hraise.frame]
    rfl
  · rw [faultFrame_pins hraise.frame]
    rfl

/-- Settles O22. -/
theorem railTrims : Obligations.RailTrims := by
  refine ⟨fun p n data s hn hadm hrefused hlive => completes_trimWrite hn hadm hrefused hlive, fun s => ?_,
    fun n s hn hmag hlive _ => completes_trimFault hn hmag hlive, fun n s h => ?_⟩
  · have hexec : exec .trimStep s = .next (trimSteps railNos s) := rfl
    rw [hexec]
    exact completes_next ⟨fun n hn => trimSteps_moved hn s, trimsMoved_trimSteps railNos s⟩
  · show execTrimFault n s = _
    rw [execTrimFault, if_pos h]

end Machine
end Sys2Proof
end

section
/-! RLS_RELEASE (chapter 06): the key, the release, the tie of two ports, the refusal. -/
namespace Sys2Proof
namespace Machine

open Safety

/-! ### A write that is turned down -/

theorem portGet_noteRefusal (p q : Port) (a reason : Nat) (burst : Bool) (s : State) :
    portGet (noteRefusal p a reason burst s) q =
      if q = p then { portGet s p with refuseAddr := a, refuseReason := reason, refuseBurst := burst } else portGet s q := by
  rw [noteRefusal, portGet_modPort]

theorem portGet_dropKey (p q : Port) (a : Nat) (s : State) :
    portGet (dropKey p a s) q =
      if q = p then { portGet s p with keys := (portGet s p).keys.filter (fun k => decide (k ≠ a)) } else portGet s q := by
  rw [dropKey, portGet_modPort]

/-- A write that is refused with a reason of HST_REFUSE1. -/
def wroteRefused (p : Port) (a reason : Nat) (t : State) : State :=
  respond p { stat := .refused, addr := a, data := keptWord p a t } (noteRefusal p a reason false t)

theorem turnDown_refused (p : Port) (a reason : Nat) (t : State) : turnDown p a .refused reason t = wroteRefused p a reason t := by
  rw [turnDown, if_pos rfl, wroteRefused]

theorem wroteRefused_frame (p : Port) (a reason : Nat) (t : State) :
    wroteRefused p a reason t = { t with ports := (wroteRefused p a reason t).ports } := by
  rw [wroteRefused, respond_frame]
  rfl

theorem answering_noteRefusal {p : Port} {t : State} (h : (portGet t p).answering = true) (a reason : Nat) (burst : Bool) :
    (portGet (noteRefusal p a reason burst t) p).answering = true := by
  rw [portGet_noteRefusal, if_pos rfl]
  exact h

theorem owes_wroteRefused {p : Port} {t : State} (h : (portGet t p).answering = true) (a reason : Nat) :
    Owes (wroteRefused p a reason t) p .refused a (keptWord p a t) :=
  owes_respond (answering_noteRefusal h a reason false) ..

theorem refused_wroteRefused {p : Port} {s t : State} (h : (portGet t p).answering = true)
    (hother : portGet t p.other = portGet s p.other) (a reason : Nat) : Refused s (wroteRefused p a reason t) p a reason := by
  have howes := owes_wroteRefused h a reason
  have hpq : p.other ≠ p := by cases p <;> nofun
  refine ⟨congrArg Response.stat howes, congrArg Response.addr howes, ?_, ?_⟩
  · rw [wroteRefused, portGet_respond, portGet_noteRefusal, if_pos rfl]
    exact ⟨rfl, rfl⟩
  · rw [wroteRefused, portGet_respond_other, portGet_noteRefusal, if_neg hpq, hother]

theorem keyHeld_dropKey (p : Port) (a : Nat) (s : State) : keyHeld (dropKey p a s) p a = false := by
  rw [keyHeld, portGet_dropKey, if_pos rfl]
  simp

theorem keyHeld_of_answered {s t : State} {p : Port} (h : Answered (portGet s p) (portGet t p)) (a : Nat) :
    keyHeld t p a = keyHeld s p a := by
  rw [keyHeld, h, keyHeld]

/-- The state in which a key's completing write acts. -/
def keyDone (p : Port) (a v : Nat) (s : State) : State := dropKey p a (writeSeen p a v s)

theorem keyDone_frame (p : Port) (a v : Nat) (s : State) : keyDone p a v s = { s with ports := (keyDone p a v s).ports } := rfl

theorem answering_keyDone {p : Port} {s : State} (h : heard s p = true) (a v : Nat) :
    (portGet (keyDone p a v s) p).answering = true := by
  rw [keyDone, portGet_dropKey, if_pos rfl]
  exact answering_writeSeen (t := writeSeen p a v s) h rfl

theorem portGet_keyDone_other (p : Port) (a v : Nat) (s : State) : portGet (keyDone p a v s) p.other = portGet s p.other := by
  rw [keyDone, portGet_dropKey, if_neg (by cases p <;> nofun), portGet_writeSeen_other]

/-- A completing write runs what the key guards. -/
theorem keyWrite_done {p : Port} {a : Nat} {s : State} (h : keyHeld s p a = true) (k1 k2 : Nat) (fin : State → Wr) :
    keyWrite p a k2 k1 k2 fin (writeSeen p a k2 s) = fin (keyDone p a k2 s) := by
  have hheld : keyHeld (writeSeen p a k2 s) p a = true := (keyHeld_of_answered (answered_writeSeen p p a k2 s) a).trans h
  rw [keyWrite, if_pos hheld, if_pos rfl, keyDone]

/-! ### The release -/

/-- RLS's words that neither a rising program nor its end moves, and VIO. -/
structure ReleaseView where
  lock : LockView
  released : Option Port
  vio : Bool

/-- The view of a state. -/
def releaseView (s : State) : ReleaseView := ⟨lockView s, s.rls.released, s.pins.vioOk⟩

theorem releaseView_startRising (restart : Bool) (s : State) :
    releaseView (startRising restart s) = releaseView s ∧ (startRising restart s).rls.rising = true := by
  refine ⟨?_, rfl⟩
  have hfirst : ∀ (l : List Nat) t, releaseView (l.foldl (fun s n =>
      if railEn s n && (rigRail s n).isNone then modRail n (fun r => { r with state := 0, good := false }) (setEn n false s)
      else s) t) = releaseView t := fun l t => foldl_keeps releaseView (fun s n => by split <;> rfl) l t
  unfold startRising
  dsimp only
  generalize declaredRails _ = l
  rw [← hfirst railNos.reverse s]
  exact foldl_keeps releaseView (by exact fun _ _ => rfl) l _

theorem railRelease_words {s : State} (h : s.sys.state ≠ .rising) :
    releaseView (railRelease s) = ⟨⟨false, 0, 0, s.rls.replayFail⟩, s.rls.released, s.pins.vioOk⟩ ∧
    ((railRelease s).rls.rising = true ∨ (railRelease s).rls.done = true) ∧
    railRelease s = { s with rls := (railRelease s).rls, pins := (railRelease s).pins } := by
  set u : State := { s with rls := { s.rls with locked := false, lockCause := 0, lockRail := 0 } } with hu
  obtain ⟨hview, hrising⟩ := releaseView_startRising false u
  have hframe := startRising_frame false u
  have heq : railRelease s = risingEnds (startRising false u) := rfl
  rw [heq]
  unfold risingEnds
  split
  · rw [if_neg]
    · refine ⟨hview, .inr rfl, ?_⟩
      rw [hframe]
    · show (startRising false u).sys.state ≠ .rising
      rw [hframe]
      exact h
  · exact ⟨hview, .inl hrising, hframe⟩

/-- What the completing write of RLS_RELEASE does: the release, or the record of why not. -/
def releaseJudged (p : Port) (s : State) : Wr :=
  let why := if s.rls.released = some p.other then 5 else releaseRefused s
  ruled why (rlsRefused p why s) (railRelease { s with rls := { s.rls with released := some p } })

theorem writeOwn_release (p : Port) (v : Nat) (s : State) :
    writeOwn p 0x402 v s = keyWrite p 0x402 v 0x0F0 0x30F (releaseJudged p) s := rfl

theorem accOf_release : accOf 0x402 = .wk := by decide

theorem faultWordAt_release (p : Port) : faultWordAt p 0x402 = none := by cases p <;> decide

/-- The state in which the port's completing write finds the lock. -/
def releaseKeyed (p : Port) (s : State) : State := keyDone p 0x402 0x30F s

/-- The lock released for a port. -/
def releasedFor (p : Port) (s : State) : State :=
  railRelease { releaseKeyed p s with rls := { s.rls with released := some p } }

theorem wordFrame_release_ok {p : Port} {s : State} (h : WriteAdmitted s p 0x402) (hkey : keyHeld s p 0x402 = true)
    (hrefused : releaseRefused s = 0) (hfree : s.rls.released ≠ some p.other) :
    wordFrame p 0x402 0x30F s = wroteOk p 0x402 (releasedFor p s) := by
  have hjudged : releaseJudged p (releaseKeyed p s) = (0, releasedFor p s) := by
    have hfree' : (releaseKeyed p s).rls.released ≠ some p.other := hfree
    have hrefused' : releaseRefused (releaseKeyed p s) = 0 := hrefused
    unfold releaseJudged
    dsimp only
    rw [if_neg hfree', hrefused', ruled, if_pos rfl]
    rfl
  have hown : writeOwn p 0x402 0x30F (writeSeen p 0x402 0x30F s) = (0, releasedFor p s) := by
    rw [writeOwn_release, keyWrite_done hkey]
    exact hjudged
  have hword : (0x30F : Word).toNat = 0x30F := by decide
  exact wordFrame_ok (w := 0x30F) h (by decide) (faultWordAt_release p) (by decide) (by decide) (by rw [hword]; exact hown)

theorem wordFrame_release_refused {p : Port} {s : State} (h : WriteAdmitted s p 0x402) (hkey : keyHeld s p 0x402 = true)
    {why : Nat} (hwhy : why = if s.rls.released = some p.other then 5 else releaseRefused s) (hne : why ≠ 0) :
    wordFrame p 0x402 0x30F s = wroteRefused p 0x402 9 (rlsRefused p why (releaseKeyed p s)) := by
  have hjudged : releaseJudged p (releaseKeyed p s) = (9, rlsRefused p why (releaseKeyed p s)) := by
    have hwhy' : why = if (releaseKeyed p s).rls.released = some p.other then 5 else releaseRefused (releaseKeyed p s) := hwhy
    unfold releaseJudged
    dsimp only
    rw [← hwhy', ruled, if_neg hne]
  have hown : writeOwn p 0x402 0x30F (writeSeen p 0x402 0x30F s) = (8 + 1, rlsRefused p why (releaseKeyed p s)) := by
    rw [writeOwn_release, keyWrite_done hkey]
    exact hjudged
  have hword : (0x30F : Word).toNat = 0x30F := by decide
  rw [wordFrame_refused (w := 0x30F) h (by decide) (faultWordAt_release p) (by rw [hword]; exact hown), turnDown_refused]

theorem notRising_of_released {s : State} (h : releaseRefused s = 0) : s.sys.state ≠ .rising := by
  intro hr
  have hno : s.sys.state ≠ .run ∧ s.sys.state ≠ .standby := by
    rw [hr]
    exact ⟨nofun, nofun⟩
  rw [releaseRefused, if_pos hno] at h
  (repeat' split at h) <;> cases h

theorem releasedFor_words {p : Port} {s : State} (hrefused : releaseRefused s = 0) :
    releaseView (releasedFor p s) = ⟨⟨false, 0, 0, s.rls.replayFail⟩, some p, s.pins.vioOk⟩ ∧
    ((releasedFor p s).rls.rising = true ∨ (releasedFor p s).rls.done = true) ∧
    releasedFor p s = { s with
      rls := (releasedFor p s).rls, pins := (releasedFor p s).pins, ports := (releaseKeyed p s).ports } :=
  railRelease_words (s := { releaseKeyed p s with rls := { s.rls with released := some p } })
    (notRising_of_released hrefused)

theorem completes_releaseKey {p : Port} {s : State} (h : WriteAdmitted s p 0x402) (hkey : keyHeld s p 0x402 = false) :
    Completes (exec (.rlsRelease p 0x0F0 none) s) fun t =>
      keyHeld t p 0x402 = true ∧ Owes t p .ok 0x402 0 ∧ t = { s with ports := t.ports } := by
  set u := writeSeen p 0x402 0x0F0 s with hu
  set v := modPort p (fun h => { h with keys := 0x402 :: h.keys }) u with hv
  have hnone : keyHeld u p 0x402 = false := (keyHeld_of_answered (answered_writeSeen p p 0x402 0x0F0 s) 0x402).trans hkey
  have hown : writeOwn p 0x402 0x0F0 u = (0, v) := by
    rw [writeOwn_release, keyWrite, hnone, if_neg Bool.false_ne_true, if_pos rfl]
  have hexec : exec (.rlsRelease p 0x0F0 none) s = .next (wroteOk p 0x402 v) := by
    show (Host.Outcome.next (wordFrame p 0x402 0x0F0 s) : Res) = _
    have hword : (0x0F0 : Word).toNat = 0x0F0 := by decide
    rw [wordFrame_ok (w := 0x0F0) h (by decide) (faultWordAt_release p) (by decide) (by decide) (by rw [hword]; exact hown)]
    rfl
  have hport : portGet v p = { portGet u p with keys := 0x402 :: (portGet u p).keys } := portGet_modPort_same ..
  have hanswers : (portGet v p).answering = true := by
    rw [hport]
    exact answering_writeSeen (t := u) h.1.1 rfl
  have howes := owes_wroteOk hanswers 0x402
  rw [shownWord_of_command (.inl accOf_release)] at howes
  rw [hexec]
  refine completes_next ⟨?_, howes, ?_⟩
  · rw [wroteOk, keyHeld_of_answered (answered_respond ..), keyHeld, hport]
    simp
  · rw [wroteOk_frame]
    rfl

theorem completes_release {p : Port} {s : State} (h : WriteAdmitted s p 0x402) (hkey : keyHeld s p 0x402 = true)
    (hrefused : releaseRefused s = 0) (hfree : s.rls.released = none) :
    Completes (exec (.rlsRelease p 0x30F none) s) fun t =>
      t.rls.locked = false ∧ t.rls.lockCause = 0 ∧ t.rls.lockRail = 0 ∧ (t.rls.rising = true ∨ t.rls.done = true) ∧
      keyHeld t p 0x402 = false ∧ Owes t p .ok 0x402 0 ∧ t.sys = s.sys ∧ t.fb = s.fb := by
  obtain ⟨hview, hprog, hframe⟩ := releasedFor_words (p := p) hrefused
  have hports : ∀ q, portGet (releasedFor p s) q = portGet (releaseKeyed p s) q := fun q => by rw [portGet, hframe, portGet]
  have hanswers : (portGet (releasedFor p s) p).answering = true := by
    rw [hports]
    exact answering_keyDone h.1.1 0x402 0x30F
  have howes := owes_wroteOk hanswers 0x402
  rw [shownWord_of_command (.inl accOf_release)] at howes
  have hexec : exec (.rlsRelease p 0x30F none) s = .next (wroteOk p 0x402 (releasedFor p s)) := by
    show (Host.Outcome.next (wordFrame p 0x402 0x30F s) : Res) = _
    rw [wordFrame_release_ok h hkey hrefused (by rw [hfree]; nofun)]
  have hrls : (wroteOk p 0x402 (releasedFor p s)).rls = (releasedFor p s).rls := by rw [wroteOk_frame]
  have hlock := congrArg ReleaseView.lock hview
  rw [hexec]
  refine completes_next ⟨?_, ?_, ?_, ?_, ?_, howes, ?_, ?_⟩
  · rw [hrls]; exact congrArg LockView.locked hlock
  · rw [hrls]; exact congrArg LockView.cause hlock
  · rw [hrls]; exact congrArg LockView.rail hlock
  · rw [hrls]; exact hprog
  · rw [wroteOk, keyHeld_of_answered (answered_respond ..), keyHeld, hports, ← keyHeld]
    exact keyHeld_dropKey ..
  · rw [wroteOk_frame, hframe]
  · rw [wroteOk_frame, hframe]

theorem completes_releaseRefused {p : Port} {s : State} (h : WriteAdmitted s p 0x402) (hkey : keyHeld s p 0x402 = true)
    (hrefused : releaseRefused s ≠ 0) (hfree : s.rls.released = none) :
    Completes (exec (.rlsRelease p 0x30F none) s) fun t =>
      t.rls = { s.rls with refuseReason := releaseRefused s, refusePort := p } ∧ keyHeld t p 0x402 = false ∧
      Owes t p .refused 0x402 0 ∧ (portGet t p).refuseReason = 9 ∧ t = { s with rls := t.rls, ports := t.ports } := by
  set u := rlsRefused p (releaseRefused s) (releaseKeyed p s) with hu
  have hexec : exec (.rlsRelease p 0x30F none) s = .next (wroteRefused p 0x402 9 u) := by
    show (Host.Outcome.next (wordFrame p 0x402 0x30F s) : Res) = _
    rw [wordFrame_release_refused h hkey (why := releaseRefused s) (by rw [hfree]; rfl) hrefused]
  have hanswers : (portGet u p).answering = true := answering_keyDone h.1.1 0x402 0x30F
  have howes := owes_wroteRefused hanswers 0x402 9
  rw [keptWord_of_command (.inl accOf_release)] at howes
  have hnoted := (refused_wroteRefused (s := s) hanswers (portGet_keyDone_other p 0x402 0x30F s) 0x402 9).noted
  rw [hexec]
  refine completes_next ⟨?_, ?_, howes, hnoted.2, ?_⟩
  · rw [wroteRefused_frame]
    rfl
  · rw [wroteRefused, keyHeld_of_answered (answered_respond ..), keyHeld, portGet_noteRefusal, if_pos rfl]
    exact keyHeld_dropKey p 0x402 (writeSeen p 0x402 0x30F s)
  · rw [wroteRefused_frame]
    rfl

/-! ### Two completing steps at one tick -/

/-- The two completing writes, the first port's first. -/
def releaseRace (q : Port) (s : State) : State := wordFrame q.other 0x402 0x30F (wordFrame q 0x402 0x30F s)

/-- The first port releases; the other is refused because the lock was released at this tick. -/
structure ReleaseWon (q : Port) (s t : State) : Prop where
  unlocked : t.rls.locked = false
  reason : t.rls.refuseReason = 5
  refused : t.rls.refusePort = q.other
  first : Owes t q .ok 0x402 0
  second : Owes t q.other .refused 0x402 0
  sys : t.sys = s.sys

theorem releaseWon_race {q : Port} {s : State} (h : WriteAdmitted s q 0x402) (h' : WriteAdmitted s q.other 0x402)
    (hkey : keyHeld s q 0x402 = true) (hkey' : keyHeld s q.other 0x402 = true) (hrefused : releaseRefused s = 0)
    (hfree : s.rls.released = none) : ReleaseWon q s (releaseRace q s) := by
  obtain ⟨hview, -, hframe⟩ := releasedFor_words (p := q) hrefused
  have hfirst := wordFrame_release_ok h hkey hrefused (by rw [hfree]; nofun)
  set u := wroteOk q 0x402 (releasedFor q s) with hu
  have hback : q.other.other = q := by cases q <;> rfl
  have hne : q ≠ q.other := by cases q <;> nofun
  have huframe : u = { s with rls := (releasedFor q s).rls, pins := (releasedFor q s).pins, ports := u.ports } := by
    rw [hu, wroteOk_frame, hframe]
  have huother : portGet u q.other = portGet s q.other := by
    rw [hu, wroteOk, portGet_respond_other, portGet, hframe]
    exact portGet_keyDone_other ..
  have huvio : u.pins.vioOk = s.pins.vioOk := by
    rw [huframe]
    exact congrArg ReleaseView.vio hview
  have hureleased : u.rls.released = some q := by
    rw [huframe]
    exact congrArg ReleaseView.released hview
  have husys : u.sys = s.sys := by rw [huframe]
  have hufb : u.fb = s.fb := by rw [huframe]
  have hheard : heard u q.other = heard s q.other := by
    have hports : perPortGet u.ports q.other = perPortGet s.ports q.other := huother
    rw [heard, hports, huvio, husys, heard]
  have hadm : WriteAdmitted u q.other 0x402 := by
    refine ⟨⟨hheard.trans h'.1.1, by rw [husys]; exact h'.1.2⟩, ?_⟩
    have hresets := h'.2
    unfold blockResets at hresets ⊢
    rw [hufb]
    exact hresets
  have hukey : keyHeld u q.other 0x402 = true := by rw [keyHeld, huother]; exact hkey'
  have hsecond := wordFrame_release_refused hadm hukey (why := 5) (by rw [hback, hureleased, if_pos rfl]) (by decide)
  set v := rlsRefused q.other 5 (releaseKeyed q.other u) with hv
  have hrace : releaseRace q s = wroteRefused q.other 0x402 9 v := by rw [releaseRace, hfirst, hsecond]
  have hanswers : (portGet v q.other).answering = true := answering_keyDone hadm.1.1 0x402 0x30F
  have howes := owes_wroteRefused hanswers 0x402 9
  rw [keptWord_of_command (.inl accOf_release)] at howes
  have hkeptFirst : portGet (wroteRefused q.other 0x402 9 v) q = portGet u q := by
    have hother := (refused_wroteRefused (s := u) hanswers (portGet_keyDone_other q.other 0x402 0x30F u) 0x402 9).other
    rwa [hback] at hother
  have hanswersFirst : (portGet (releasedFor q s) q).answering = true := by
    rw [portGet, hframe]
    exact answering_keyDone h.1.1 0x402 0x30F
  have howesFirst := owes_wroteOk hanswersFirst 0x402
  rw [shownWord_of_command (.inl accOf_release), ← hu] at howesFirst
  have hrls : (wroteRefused q.other 0x402 9 v).rls = { u.rls with refuseReason := 5, refusePort := q.other } := by
    rw [wroteRefused_frame]
    rfl
  rw [hrace]
  refine ⟨?_, by rw [hrls], by rw [hrls], ?_, howes, ?_⟩
  · rw [hrls, huframe]
    exact congrArg LockView.locked (congrArg ReleaseView.lock hview)
  · rw [Owes, hkeptFirst]
    exact howesFirst
  · rw [wroteRefused_frame]
    exact husys

/-- The shared word of two writes of one tick shows in the accepted one's answer. -/
theorem releaseWon_carry {q : Port} {s t : State} (h : ReleaseWon q s t) (r : Port) :
    ReleaseWon q s (carry r (.write 0x402 0x30F) (.write 0x402 0x30F) t) := by
  have hr : (portGet t r).owed.data = 0 := by
    rcases (by cases q <;> cases r <;> simp [Port.other] : r = q ∨ r = q.other) with rfl | rfl
    · rw [h.first]
    · rw [h.second]
  have hdata : ∀ u, writtenWord r 0x402 0x30F u = 0 := fun u => by
    rw [writtenWord, if_neg (by decide), shownWord_of_command (.inl accOf_release)]
  have hport : ∀ p, portGet (modPort r (fun h => { h with owed := { h.owed with data := 0 } }) t) p = portGet t p := by
    intro p
    rw [portGet_modPort]
    split
    · rename_i hp
      have howed : ({ (portGet t r).owed with data := 0 } : Response) = (portGet t r).owed := by
        conv_rhs => rw [show (portGet t r).owed = { (portGet t r).owed with data := (portGet t r).owed.data } from rfl, hr]
      rw [hp, howed]
    · rfl
  unfold carry
  dsimp only
  split
  · rw [show writtenWord r (BitVec.toNat (0x402 : Addr)) (BitVec.toNat (0x30F : Word)) t = 0 from hdata t]
    exact ⟨h.unlocked, h.reason, h.refused, (congrArg HostPort.owed (hport q)).trans h.first,
      (congrArg HostPort.owed (hport q.other)).trans h.second, h.sys⟩
  · exact h

/-- The release of two ports at one tick, as the first port leaves it. -/
def releaseTied (p q : Port) (s : State) : State :=
  carry p (.write 0x402 0x30F) (.write 0x402 0x30F)
    (carry p.other (.write 0x402 0x30F) (.write 0x402 0x30F) (releaseRace q s))

theorem together_release {p : Port} {s : State}
    (hne : releaseTied p s.sys.prio s ≠ releaseTied p s.sys.prio.other s) :
    together p (.write 0x402 0x30F) (.write 0x402 0x30F) (runFrame p (.write 0x402 0x30F))
      (runFrame p.other (.write 0x402 0x30F)) s = flipPrio (releaseTied p s.sys.prio s) := by
  have hcontend : contend s p (.write 0x402 0x30F) (.write 0x402 0x30F) = true := by
    have hone : oneWord s 0x402 = true := by
      rw [oneWord, if_neg (by decide)]
      rfl
    have hthings : ∀ q, (Thing.word 0x402) ∈ frameThings s q (.write 0x402 0x30F) := by
      intro q
      simp [frameThings, frameItems, touches, hone]
    rw [contend, List.any_eq_true]
    exact ⟨_, hthings p, by simpa using hthings p.other⟩
  have hrun : ∀ q, carry p (.write 0x402 0x30F) (.write 0x402 0x30F)
      (carry p.other (.write 0x402 0x30F) (.write 0x402 0x30F)
        (if q = p then runFrame p.other (.write 0x402 0x30F) (runFrame p (.write 0x402 0x30F) s)
          else runFrame p (.write 0x402 0x30F) (runFrame p.other (.write 0x402 0x30F) s))) = releaseTied p q s := by
    intro q
    by_cases hq : q = p
    · rw [if_pos hq, hq]
      rfl
    · have hq' : q = p.other ∧ q.other = p := by
        cases p <;> cases q <;> simp_all [Port.other]
      rw [if_neg hq, releaseTied, releaseRace, hq'.2, hq'.1]
      rfl
  unfold together
  dsimp only
  simp only [hrun]
  rw [hcontend, if_pos (by simpa using hne)]

theorem completes_releaseTied {p : Port} {s : State} (h : WriteAdmitted s p 0x402) (h' : WriteAdmitted s p.other 0x402)
    (hkey : keyHeld s p 0x402 = true) (hkey' : keyHeld s p.other 0x402 = true) (hrefused : releaseRefused s = 0)
    (hfree : s.rls.released = none) :
    Completes (exec (.rlsRelease p 0x30F (some (.write 0x402 0x30F))) s) fun t =>
      t.rls.locked = false ∧ Owes t s.sys.prio .ok 0x402 0 ∧ Owes t s.sys.prio.other .refused 0x402 0 ∧
      t.rls.refuseReason = 5 ∧ t.rls.refusePort = s.sys.prio.other ∧ t.sys = { s.sys with tied := true } := by
  have hadm : ∀ q, WriteAdmitted s q 0x402 ∧ keyHeld s q 0x402 = true := by
    intro q
    rcases (by cases p <;> cases q <;> simp [Port.other] : q = p ∨ q = p.other) with rfl | rfl
    · exact ⟨h, hkey⟩
    · exact ⟨h', hkey'⟩
  have hwon : ∀ q, ReleaseWon q s (releaseTied p q s) := fun q =>
    releaseWon_carry (releaseWon_carry
      (releaseWon_race (hadm q).1 (hadm q.other).1 (hadm q).2 (hadm q.other).2 hrefused hfree) p.other) p
  have hne : releaseTied p s.sys.prio s ≠ releaseTied p s.sys.prio.other s := by
    intro heq
    have hfirst := (hwon s.sys.prio).refused
    rw [heq, (hwon s.sys.prio.other).refused] at hfirst
    revert hfirst
    cases s.sys.prio <;> nofun
  have htest : (some (HostFrame.write 0x402 0x30F)).any (frameTest s p.other) = false := by
    simp [frameTest, testOpen]
  obtain ⟨hunlocked, hreason, hport, hfirst, hsecond, hsys⟩ := hwon s.sys.prio
  have hexec : exec (.rlsRelease p 0x30F (some (.write 0x402 0x30F))) s = .next (flipPrio (releaseTied p s.sys.prio s)) := by
    show execRlsRelease p 0x30F (some (.write 0x402 0x30F)) s = _
    rw [execRlsRelease, atOwn, if_neg (by rw [htest]; nofun), withTie]
    rw [together_release hne]
  rw [hexec]
  exact completes_next ⟨hunlocked, hfirst, hsecond, hreason, hport, by rw [flipPrio, hsys]⟩

end Machine

/-- Settles O23. -/
theorem railRelease : Obligations.RailRelease :=
  ⟨fun _ _ h hkey => Machine.completes_releaseKey h hkey,
    fun _ _ h hkey hrefused hfree => Machine.completes_release h hkey hrefused hfree,
    fun _ _ h h' hkey hkey' hrefused hfree => Machine.completes_releaseTied h h' hkey hkey' hrefused hfree,
    fun _ _ h hkey hrefused hfree => Machine.completes_releaseRefused h hkey hrefused hfree⟩

end Sys2Proof
end

section
/-! Commands as a satellite takes them, its own faults, and its module rails (chapters 06, 12, 13). -/
namespace Sys2Proof
namespace Machine

open Safety

/-! ### A command that is taken -/

/-- A change of one satellite alone. -/
def SatsOnly (s t : State) : Prop := t = { s with sat := { s.sat with sats := t.sat.sats } }

theorem satsOnly_refl (s : State) : SatsOnly s s := rfl

theorem satsOnly_trans {s t u : State} (h : SatsOnly s t) (h' : SatsOnly t u) : SatsOnly s u := h'.trans (by rw [h])

theorem satsOnly_modSat (n : Nat) (f : Sat → Sat) (s : State) : SatsOnly s (modSat n f s) := rfl

theorem satsOnly_satResult (n : Nat) (r : SatResult) (s : State) : SatsOnly s (satResult n r s) := rfl

/-- The satellite's answer is on its outputs and among its direct answers. -/
theorem satAnswer_frame (rx : Arrival) (type : Nat) (seq : Bool) (l : List Byte) (x : Sat) :
    satAnswer rx type seq l x = { x with
      answer := l, outF := (satAnswer rx type seq l x).outF, outK := (satAnswer rx type seq l x).outK } := by
  unfold satAnswer
  rw [satSend_frame]

theorem cacked_frame (h : Bool) (c : Nat) (rx : Arrival) (x : Sat) :
    cacked h c rx x = { x with
      lastH := h, cack := c, answer := [byte c], outF := (cacked h c rx x).outF, outK := (cacked h c rx x).outK } := by
  unfold cacked
  rw [satAnswer_frame]

/-- The state after a command: its effect, then its CACK. -/
def cackSent (n : Nat) (h : Bool) (c : Nat) (rx : Arrival) (s : State) : State :=
  sendCack n h rx (modSat n (fun x => { x with lastH := h, cack := c }) s)

theorem satGet_cackSent (n : Nat) (h : Bool) (c : Nat) (rx : Arrival) (s : State) (j : Nat) :
    satGet (cackSent n h c rx s) j = if j = n then cacked h c rx (satGet s n) else satGet s j := by
  by_cases hj : j = n
  · subst hj
    simp [cackSent, sendCack, cacked]
  · simp [cackSent, sendCack, hj]

theorem satsOnly_cackSent (n : Nat) (h : Bool) (c : Nat) (rx : Arrival) (s : State) : SatsOnly s (cackSent n h c rx s) := rfl

/-- A command that a satellite takes in its application, or one that its loader serves too. -/
theorem takeCmd_taken {n : Nat} {h inLoader : Bool} {code : Nat} {args : List Byte} {rx : Arrival} {s : State}
    (hany : TakesAny (satGet s n) h code args rx) (hload : (satGet s n).imageState = 0 ∨ inLoader = true)
    (run : State → Nat × State) :
    takeCmd n h inLoader code args rx run s = cackSent n h (run s).1 rx (run s).2 := by
  obtain ⟨⟨hhears, hnamed, harrives⟩, hnew, hawake⟩ := hany
  have hrun : ¬ ((satGet s n).imageState ≠ 0 ∧ inLoader = false) := by
    rintro ⟨h1, h2⟩
    rcases hload with h' | h'
    · exact h1 h'
    · rw [h2] at h'
      cases h'
  unfold takeCmd onSat
  rw [hhears, hnamed, harrives]
  simp only [Bool.not_true, Bool.false_eq_true, if_false, if_true]
  rw [if_neg hnew, if_neg hawake, if_neg hrun]
  rfl

/-! ### A satellite's own faults -/

/-- The bank after a corrected event of its own. -/
def satBank (x : Sat) (k : Nat) : FaultBank := (correctedEvent satContained x.fault (srcBit k)).1

theorem satRaise_mild {n k : Nat} {s : State} (hk : k < 6) (hcont : satContained.getLsbD k = false)
    (hmild : MildSource (satGet s n) k) :
    satRaise n k s = satFaultResult n (modSat n (fun x => { x with fault := satBank (satGet s n) k }) s) := by
  have hcode : ∀ u, satReact n (codeOf (satGet s n).fault k) u = u := by
    intro u
    unfold satReact
    rw [if_neg (by omega), if_neg (by omega), if_neg (by omega)]
  unfold satRaise
  dsimp only
  rw [if_neg (by omega), hcont, if_neg Bool.false_ne_true, hcode]
  rfl

theorem satBank_bit {k : Nat} (hk : k < 9) (x : Sat) : (satBank x k).fst.getLsbD k = true := by
  have hbits : stickyBits (satBank x k) = stickyBits x.fault ||| srcBit k := by
    unfold satBank correctedEvent
    split
    · exact stickyBits_stickSet x.fault (srcBit k)
    · exact stickyBits_stickSet x.fault (srcBit k)
  have hget := congrArg (fun w : BitVec 9 => w.getLsbD k) hbits
  simpa [stickyBits, srcBit, hk] using hget

/-- A corrected event of a satellite with a mild reaction is held and reported, and no more. -/
structure SatRaised (n k : Nat) (s t : State) : Prop where
  self : satGet t n = { satGet s n with
    fault := satBank (satGet s n) k, sending := (satGet t n).sending, results := (satGet t n).results
    togS := (satGet t n).togS, outF := (satGet t n).outF, outK := (satGet t n).outK }
  others : SatsBut n s t
  frame : SatsOnly s t

theorem satRaised_mild {n k : Nat} {s : State} (hk : k < 6) (hcont : satContained.getLsbD k = false)
    (hmild : MildSource (satGet s n) k) : SatRaised n k s (satRaise n k s) := by
  rw [satRaise_mild hk hcont hmild]
  set u := modSat n (fun x => { x with fault := satBank (satGet s n) k }) s with hu
  obtain ⟨hself, hothers⟩ := reported_satResult n { kind := 0x0B, payload := arg2 (satGet u n).fault.fst.toNat } u
  have huself : satGet u n = { satGet s n with fault := satBank (satGet s n) k } := by rw [hu, satGet_modSat, if_pos rfl]
  have heq : satFaultResult n u = satResult n { kind := 0x0B, payload := arg2 (satGet u n).fault.fst.toNat } u := rfl
  rw [heq]
  refine ⟨?_, fun j hj => by rw [hothers j hj, hu, satGet_modSat, if_neg hj], ?_⟩
  · rw [hself, huself]
  · exact satsOnly_trans (satsOnly_modSat n _ s) (satsOnly_satResult n _ u)

/-- What it had to send it keeps to send. -/
theorem sends_satRaise_mild {n k : Nat} {r : SatResult} {s : State} (hk : k < 6) (hcont : satContained.getLsbD k = false)
    (hmild : MildSource (satGet s n) k) (h : Sends (satGet s n) r) : Sends (satGet (satRaise n k s) n) r := by
  rw [satRaise_mild hk hcont hmild]
  refine sends_satResult_of_sends ?_ n _
  rw [satGet_modSat, if_pos rfl]
  exact h

/-! ### Module rails -/

/-- The report of the module rails is what they read. -/
theorem sendRails_reports (n : Nat) (s : State) :
    Reported n s (sendRails n s) ∧ Sends (satGet (sendRails n s) n) (railResult (satGet (sendRails n s) n)) ∧
    SatsOnly s (sendRails n s) := by
  have hrep : Reported n s (sendRails n s) := reported_satResult n _ s
  have hsame : railResult (satGet (sendRails n s) n) = railResult (satGet s n) := by rw [hrep.1]; rfl
  rw [hsame]
  exact ⟨hrep, sends_satResult n (railResult (satGet s n)) s, satsOnly_satResult n _ s⟩

/-- A state in which the rails may have been reported. -/
theorem reported_railsSent (n : Nat) (c : Bool) (s : State) :
    Reported n s (if c then sendRails n s else s) ∧ SatsOnly s (if c then sendRails n s else s) := by
  split
  · exact ⟨(sendRails_reports n s).1, (sendRails_reports n s).2.2⟩
  · exact ⟨reported_refl n s, satsOnly_refl s⟩

/-- A RAIL command's effect, with its report and its CACK. -/
theorem railCommand_effect {n : Nat} {h : Bool} {action : Nat} {rx : Arrival} {s u : State} {f : Sat → Sat} {c : Bool}
    (htakes : TakesCmd (satGet s n) h 0x06 [byte action] rx)
    (hexec : exec (.railCommand n h action rx) s = .next (cackSent n h 0 rx u))
    (hu : u = if c then sendRails n (modSat n f s) else modSat n f s) :
    Completes (exec (.railCommand n h action rx) s) fun t =>
      satGet t n = { f (satGet s n) with
        lastH := h, cack := 0, answer := [byte 0], sending := (satGet t n).sending, results := (satGet t n).results
        togS := (satGet t n).togS, outF := (satGet t n).outF, outK := (satGet t n).outK } ∧
      SatsBut n s t ∧ t = { s with sat := { s.sat with sats := t.sat.sats } } := by
  obtain ⟨⟨hself, hothers⟩, honly⟩ := reported_railsSent n c (modSat n f s)
  rw [← hu] at hself hothers honly
  rw [satGet_modSat, if_pos rfl] at hself
  have hget := satGet_cackSent n h 0 rx u
  rw [hexec]
  refine completes_next ⟨?_, fun j hj => ?_, satsOnly_trans (satsOnly_trans (satsOnly_modSat n f s) honly) (satsOnly_cackSent ..)⟩
  · rw [hget, if_pos rfl, cacked_frame, hself]
  · rw [hget, if_neg hj, hothers j hj, satGet_modSat, if_neg hj]

theorem execRailCommand_taken {n : Nat} {h : Bool} {action : Nat} {rx : Arrival} {s : State}
    (htakes : TakesCmd (satGet s n) h 0x06 [byte action] rx) (hdecl : (satGet s n).cfg.grail0 = true ∨ (satGet s n).cfg.grail1 = true) :
    (action = 1 → exec (.railCommand n h action rx) s = .next (cackSent n h 0 rx
      (if railsUp (satGet (modSat n startRaise s) n) then sendRails n (modSat n startRaise s) else modSat n startRaise s))) ∧
    (action = 0 → exec (.railCommand n h action rx) s = .next (cackSent n h 0 rx
      (if !(satGet (modSat n startLower s) n).lowering then sendRails n (modSat n startLower s) else modSat n startLower s))) := by
  have hnone : ¬ (!(satGet s n).cfg.grail0 && !(satGet s n).cfg.grail1) = true := by
    rcases hdecl with h | h <;> simp [h]
  have hexec : exec (.railCommand n h action rx) s = execRailCommand n h action rx s := rfl
  rw [hexec, execRailCommand, takeCmd_taken htakes.1 (.inl htakes.2)]
  constructor
  · rintro rfl
    dsimp only
    rw [if_neg (by decide), if_neg hnone, if_pos rfl]
  · rintro rfl
    dsimp only
    rw [if_neg (by decide), if_neg hnone, if_neg (by decide)]
    cases (satGet (modSat n startLower s) n).lowering <;> rfl

theorem completes_railRaise {n : Nat} {h : Bool} {rx : Arrival} {s : State} (htakes : TakesCmd (satGet s n) h 0x06 [1] rx)
    (hdecl : (satGet s n).cfg.grail0 = true ∨ (satGet s n).cfg.grail1 = true) :
    Completes (exec (.railCommand n h 1 rx) s) fun t =>
      satGet t n = { startRaise (satGet s n) with
        lastH := h, cack := 0, answer := [byte 0], sending := (satGet t n).sending, results := (satGet t n).results
        togS := (satGet t n).togS, outF := (satGet t n).outF, outK := (satGet t n).outK } ∧
      SatsBut n s t ∧ t = { s with sat := { s.sat with sats := t.sat.sats } } :=
  railCommand_effect (action := 1) htakes ((execRailCommand_taken (action := 1) htakes hdecl).1 rfl) rfl

theorem completes_railLower {n : Nat} {h : Bool} {rx : Arrival} {s : State} (htakes : TakesCmd (satGet s n) h 0x06 [0] rx)
    (hdecl : (satGet s n).cfg.grail0 = true ∨ (satGet s n).cfg.grail1 = true) :
    Completes (exec (.railCommand n h 0 rx) s) fun t =>
      satGet t n = { startLower (satGet s n) with
        lastH := h, cack := 0, answer := [byte 0], sending := (satGet t n).sending, results := (satGet t n).results
        togS := (satGet t n).togS, outF := (satGet t n).outF, outK := (satGet t n).outK } ∧
      SatsBut n s t ∧ t = { s with sat := { s.sat with sats := t.sat.sats } } :=
  railCommand_effect (action := 0) htakes ((execRailCommand_taken (action := 0) htakes hdecl).2 rfl) rfl

/-- GRAIL1 enabled once GRAIL_GAP has passed. -/
def gapEnded (x : Sat) : Sat := { x with gap := false, gen1 := true, grail1 := enabled x.cfg.min1 0, low1 := 0 }

/-- GRAIL0 off once its lowering has ended. -/
def lowerEnded (x : Sat) : Sat := { x with gen0 := false, grail0 := if x.grail0 = 3 then 3 else 0, lowering := false }

theorem railsUp_of_reported {n : Nat} {s t : State} (h : Reported n s t) : railsUp (satGet t n) = railsUp (satGet s n) := by
  rw [h.1]
  rfl

theorem completes_grailGap {n : Nat} {s : State} (hgap : (satGet s n).gap = true) :
    Completes (exec (.grailGapElapsed n) s) fun t =>
      (satGet t n).gap = false ∧ (satGet t n).gen1 = true ∧
      (satGet t n).grail1 = (if (satGet s n).cfg.min1 = 0 then 2 else 1) ∧
      (satGet t n).gen0 = (satGet s n).gen0 ∧ (satGet t n).grail0 = (satGet s n).grail0 ∧
      (railsUp (satGet t n) = true → Sends (satGet t n) (railResult (satGet t n))) ∧ SatsBut n s t ∧
      t = { s with sat := { s.sat with sats := t.sat.sats } } := by
  set v := modSat n gapEnded s with hv
  set u := if railsUp (satGet v n) then sendRails n v else v with hu
  have hexec : exec (.grailGapElapsed n) s = .next u := by
    show execGrailGapElapsed n s = _
    rw [execGrailGapElapsed, if_pos hgap]
    rfl
  obtain ⟨hrep, honly⟩ := reported_railsSent n (railsUp (satGet v n)) v
  rw [← hu] at hrep honly
  have hself := hrep.1
  rw [hv, satGet_modSat, if_pos rfl] at hself
  have hsends : railsUp (satGet u n) = true → Sends (satGet u n) (railResult (satGet u n)) := by
    intro h
    rw [railsUp_of_reported hrep] at h
    rw [hu, if_pos h]
    exact (sendRails_reports n v).2.1
  rw [hexec]
  refine completes_next ⟨?_, ?_, ?_, ?_, ?_, hsends, fun j hj => ?_, satsOnly_trans (satsOnly_modSat n gapEnded s) honly⟩
  · rw [hself]; rfl
  · rw [hself]; rfl
  · rw [hself]
    show enabled (satGet s n).cfg.min1 0 = _
    simp [enabled]
  · rw [hself]; rfl
  · rw [hself]; rfl
  · rw [hrep.2 j hj, hv, satGet_modSat, if_neg hj]

/-- The lowering that a failed module rail starts. -/
def failStart (f0 f1 : Bool) (x : Sat) : Sat :=
  startLower { x with grail0 := if f0 then 3 else x.grail0, grail1 := if f1 then 3 else x.grail1 }

theorem failGrails_words {n : Nat} (f0 f1 : Bool) {s : State} (hmild : MildSource (satGet s n) 2) :
    satGet (failGrails n f0 f1 s) n = { failStart f0 f1 (satGet s n) with
      fault := satBank (satGet s n) 2, sending := (satGet (failGrails n f0 f1 s) n).sending
      results := (satGet (failGrails n f0 f1 s) n).results, togS := (satGet (failGrails n f0 f1 s) n).togS
      outF := (satGet (failGrails n f0 f1 s) n).outF, outK := (satGet (failGrails n f0 f1 s) n).outK } ∧
    Sends (satGet (failGrails n f0 f1 s) n) (railResult (satGet (failGrails n f0 f1 s) n)) ∧
    SatsBut n s (failGrails n f0 f1 s) ∧ SatsOnly s (failGrails n f0 f1 s) := by
  set v := modSat n (failStart f0 f1) s with hv
  have heq : failGrails n f0 f1 s = satRaise n 2 (sendRails n v) := rfl
  obtain ⟨⟨hself, hothers⟩, hsends, honly⟩ := sendRails_reports n v
  rw [hv, satGet_modSat, if_pos rfl, ← hv] at hself
  have hfault : (satGet (sendRails n v) n).fault = (satGet s n).fault := by rw [hself]; rfl
  have hmild' : MildSource (satGet (sendRails n v) n) 2 := by rw [MildSource, hfault]; exact hmild
  obtain ⟨hraised, hraisedOthers, hraisedOnly⟩ := satRaised_mild (k := 2) (by decide) (by decide) hmild'
  have hbank : satBank (satGet (sendRails n v) n) 2 = satBank (satGet s n) 2 := by rw [satBank, hfault, satBank]
  have hsame : railResult (satGet (satRaise n 2 (sendRails n v)) n) = railResult (satGet (sendRails n v) n) := by
    rw [hraised]
    rfl
  rw [heq]
  refine ⟨?_, ?_, fun j hj => ?_, satsOnly_trans (satsOnly_trans (satsOnly_modSat n _ s) honly) hraisedOnly⟩
  · rw [hraised, hbank, hself]
  · rw [hsame]
    exact sends_satRaise_mild (by decide) (by decide) hmild' hsends
  · rw [hraisedOthers j hj, hothers j hj, hv, satGet_modSat, if_neg hj]

theorem completes_grailFail {n rail : Nat} {s : State}
    (hrail : (rail = 0 ∧ ((satGet s n).grail0 = 1 ∨ (satGet s n).grail0 = 2)) ∨
      (rail = 1 ∧ ((satGet s n).grail1 = 1 ∨ (satGet s n).grail1 = 2)))
    (hmild : MildSource (satGet s n) 2) :
    Completes (exec (.satGrailFail n rail) s) fun t =>
      (rail = 0 → (satGet t n).grail0 = 3) ∧ (rail = 1 → (satGet t n).grail1 = 3) ∧ (satGet t n).gen1 = false ∧
      (satGet t n).gen0 = ((satGet s n).gen0 && (satGet s n).cfg.grail1) ∧
      (satGet t n).lowering = (satGet t n).gen0 ∧ (satGet t n).fault.fst.getLsbD 2 = true ∧
      Sends (satGet t n) (railResult (satGet t n)) ∧ SatsBut n s t ∧
      t = { s with sat := { s.sat with sats := t.sat.sats } } := by
  have hexec : exec (.satGrailFail n rail) s = .next (failGrails n (decide (rail = 0)) (decide (rail = 1)) s) := by
    show execSatGrailFail n rail s = _
    unfold execSatGrailFail
    dsimp only
    rcases hrail with ⟨rfl, h⟩ | ⟨rfl, h⟩
    · rw [if_pos ⟨rfl, h⟩]
      rfl
    · rw [if_neg (by omega), if_pos ⟨rfl, h⟩]
      rfl
  obtain ⟨hself, hsends, hothers, honly⟩ := failGrails_words (decide (rail = 0)) (decide (rail = 1)) hmild
  rw [hexec]
  refine completes_next ⟨fun h => ?_, fun h => ?_, ?_, ?_, ?_, ?_, hsends, hothers, honly⟩
  · rw [hself, h]; rfl
  · rw [hself, h]; rfl
  · rw [hself]; rfl
  · rw [hself]; rfl
  · rw [hself]; rfl
  · rw [hself]
    exact satBank_bit (by decide) _

/-- Settles O24. -/
theorem moduleRails : Obligations.ModuleRails := by
  refine ⟨fun n h rx s htakes h0 => ?_, fun n h rx s htakes h0 h1 => ?_, fun n h rx s htakes hdecl => ?_,
    fun n h action rx s htakes hact h0 h1 => ?_, fun n s hgap => ?_, fun n rail s hrail hmild => ?_, fun n s hlow => ?_⟩
  · obtain ⟨t, hnext, hself, hothers, hframe⟩ := completes_railRaise htakes (.inl h0)
    have hraise : startRaise (satGet s n) = { satGet s n with
        gen0 := true, grail0 := enabled (satGet s n).cfg.min0 (satGet s n).grail0, lowering := false, low0 := 0
        gap := decide (enabled (satGet s n).cfg.min0 (satGet s n).grail0 = 2) && (satGet s n).cfg.grail1 &&
          decide ((satGet s n).grail1 ≠ 2) } := by
      unfold startRaise
      rw [if_pos h0]
    rw [hraise] at hself
    rw [hnext]
    refine completes_next ⟨?_, ?_, ?_, ?_, ?_, ?_, ?_, hothers, hframe⟩ <;> rw [hself]
    rfl
  · obtain ⟨t, hnext, hself, hothers, hframe⟩ := completes_railRaise htakes (.inr h1)
    have hraise : startRaise (satGet s n) = { satGet s n with
        gen1 := true, grail1 := enabled (satGet s n).cfg.min1 (satGet s n).grail1, lowering := false, low1 := 0 } := by
      unfold startRaise
      rw [h0, if_neg Bool.false_ne_true, if_pos h1]
    rw [hraise] at hself
    rw [hnext]
    refine completes_next ⟨?_, ?_, ?_, ?_, ?_, hothers, hframe⟩ <;> rw [hself]
    rfl
  · obtain ⟨t, hnext, hself, hothers, hframe⟩ := completes_railLower htakes hdecl
    rw [hnext]
    refine completes_next ⟨?_, ?_, ?_, ?_, ?_, ?_, hothers, hframe⟩ <;> rw [hself] <;> rfl
  · have hexec : exec (.railCommand n h action rx) s = .next (cackSent n h 3 rx s) := by
      show execRailCommand n h action rx s = _
      rw [execRailCommand, takeCmd_taken htakes.1 (.inl htakes.2)]
      dsimp only
      rw [if_neg (by omega), if_pos (by simp [h0, h1])]
    rw [hexec]
    exact completes_next ⟨by rw [satGet_cackSent, if_pos rfl], fun j hj => by rw [satGet_cackSent, if_neg hj],
      satsOnly_cackSent n h 3 rx s⟩
  · exact completes_grailGap hgap
  · exact completes_grailFail hrail hmild
  · obtain ⟨⟨hself, hothers⟩, hsends, honly⟩ := sendRails_reports n (modSat n lowerEnded s)
    rw [satGet_modSat, if_pos rfl] at hself
    have hexec : exec (.grailLowerWindowEnd n) s = .next (sendRails n (modSat n lowerEnded s)) := by
      show execGrailLowerWindowEnd n s = _
      rw [execGrailLowerWindowEnd, if_pos hlow]
      rfl
    rw [hexec]
    refine completes_next ⟨?_, ?_, ?_, hsends, fun j hj => ?_, satsOnly_trans (satsOnly_modSat n lowerEnded s) honly⟩
    · rw [hself]; rfl
    · rw [hself]; rfl
    · rw [hself]; rfl
    · rw [hothers j hj, satGet_modSat, if_neg hj]

end Machine
end Sys2Proof
end

section
/-! A satellite's conversion, supplies, faults and restarts (chapters 13, 22). -/
namespace Sys2Proof
namespace Machine

open Safety

/-! ### What a satellite's own reactions leave -/

/-- What a reaction of a satellite leaves of one of its slots: readings stay, no session begins, a deactivation goes on. -/
structure SlotEased (x y : Slot) : Prop where
  vcc : y.vcc = x.vcc
  icc : y.icc = x.icc
  idle : inSession x = false → inSession y = false
  falling : x.st = .falling → y.st = .falling ∧ y.pins = x.pins

theorem slotEased_refl (x : Slot) : SlotEased x x := ⟨rfl, rfl, id, fun h => ⟨h, rfl⟩⟩

theorem slotEased_trans {x y z : Slot} (h : SlotEased x y) (h' : SlotEased y z) : SlotEased x z :=
  ⟨h'.vcc.trans h.vcc, h'.icc.trans h.icc, fun hx => h'.idle (h.idle hx), fun hx =>
    ⟨(h'.falling (h.falling hx).1).1, (h'.falling (h.falling hx).1).2.trans (h.falling hx).2⟩⟩

/-- A slot of which only its engine, line and trace have moved. -/
theorem slotEased_of_fields {x y : Slot} (hst : y.st = x.st) (hpins : y.pins = x.pins) (hvcc : y.vcc = x.vcc)
    (hicc : y.icc = x.icc) : SlotEased x y :=
  ⟨hvcc, hicc, fun h => by rw [inSession, hst]; exact h, fun h => ⟨hst.trans h, hpins⟩⟩

theorem slotEased_slotFall (c : Nat) (d : Bool) (x : Option SlotState) (y : Option Nat) (n : Nat) (z : Slot) :
    SlotEased z (slotFall c true d x y n z) := by
  unfold slotFall
  split
  · rename_i h
    refine ⟨rfl, rfl, fun h' => absurd (h.symm.trans h') nofun, fun h' => ?_⟩
    rw [inSession, h'] at h
    cases h
  · rw [if_pos rfl, mergeFall]
    split
    · exact slotEased_of_fields rfl rfl rfl rfl
    · exact slotEased_refl z

/-- What a satellite keeps through its own reactions. -/
structure SatStands where
  conv : List Nat
  vpsLow : Bool
  holdLow : Bool
  position : Nat
  lock : LockSrc
  fault : FaultBank

/-- The part of a satellite's record that stands. -/
def satStands (x : Sat) : SatStands := ⟨x.conv, x.vpsLow, x.holdLow, x.position, x.lock, x.fault⟩

theorem standing_fields {x y : Sat} (h : satStands x = satStands y) :
    x.conv = y.conv ∧ x.vpsLow = y.vpsLow ∧ x.holdLow = y.holdLow ∧ x.position = y.position ∧ x.fault = y.fault := by
  simp only [satStands, SatStands.mk.injEq] at h
  obtain ⟨hconv, hvps, hhold, hpos, -, hfault⟩ := h
  exact ⟨hconv, hvps, hhold, hpos, hfault⟩

/-- What the reactions of a satellite leave. -/
structure SatReacts (n : Nat) (s t : State) : Prop where
  others : SatsBut n s t
  stands : satStands (satGet t n) = satStands (satGet s n)
  slots : ∀ j, SlotEased (slotGet s j) (slotGet t j)

theorem satReacts_refl (n : Nat) (s : State) : SatReacts n s s := ⟨fun _ _ => rfl, rfl, fun _ => slotEased_refl _⟩

theorem satReacts_trans {n : Nat} {s t u : State} (h : SatReacts n s t) (h' : SatReacts n t u) : SatReacts n s u :=
  ⟨fun j hj => (h'.others j hj).trans (h.others j hj), h'.stands.trans h.stands,
    fun j => slotEased_trans (h.slots j) (h'.slots j)⟩

theorem satReacts_foldl {α : Type} {n : Nat} {f : State → α → State} {l : List α} (h : ∀ a ∈ l, ∀ s, SatReacts n s (f s a))
    (s : State) : SatReacts n s (l.foldl f s) := by
  induction l generalizing s with
  | nil => exact satReacts_refl n s
  | cons a l ih =>
    exact satReacts_trans (h a List.mem_cons_self s) (ih (fun b hb => h b (List.mem_cons_of_mem _ hb)) (f s a))

theorem satReacts_of_sat {n : Nat} {s t : State} (hothers : SatsBut n s t)
    (hstands : satStands (satGet t n) = satStands (satGet s n)) (hslots : t.slots = s.slots) : SatReacts n s t :=
  ⟨hothers, hstands, fun j => by
    rw [show slotGet t j = slotGet s j by rw [slotGet, hslots, slotGet]]
    exact slotEased_refl _⟩

theorem satReacts_reported {n : Nat} {s t : State} (h : Reported n s t) (hslots : t.slots = s.slots) : SatReacts n s t :=
  satReacts_of_sat h.2 (by rw [h.1]; rfl) hslots

theorem satReacts_traced {k n : Nat} {s t : State} (h : Traced k s t) (hsats : t.sat.sats = s.sat.sats) : SatReacts n s t := by
  refine ⟨fun j _ => by rw [satGet, hsats, satGet], by rw [satGet, hsats, satGet], fun j => ?_⟩
  by_cases hj : j = k
  · subst hj
    rw [h.1]
    exact slotEased_of_fields rfl rfl rfl rfl
  · rw [h.2 j hj]
    exact slotEased_refl _

theorem satReacts_modSat {n : Nat} {f : Sat → Sat} {s : State} (h : satStands (f (satGet s n)) = satStands (satGet s n)) :
    SatReacts n s (modSat n f s) :=
  satReacts_of_sat (fun j hj => by rw [satGet_modSat, if_neg hj]) (by rw [satGet_modSat, if_pos rfl, h]) rfl

theorem satReacts_modSlot {k n : Nat} {f : Slot → Slot} {s : State} (h : SlotEased (slotGet s k) (f (slotGet s k))) :
    SatReacts n s (modSlot k f s) := by
  refine ⟨fun _ _ => rfl, rfl, fun j => ?_⟩
  rw [slotGet_modSlot]
  split
  · rename_i hj
    rw [hj]
    exact h
  · exact slotEased_refl _

theorem satReacts_fallSlot (n k c : Nat) (d : Bool) (x : Option SlotState) (y : Option Nat) (s : State) :
    SatReacts n s (fallSlot k c true d x y s) := by
  refine ⟨fun j _ => by simp, by simp, fun j => ?_⟩
  rw [slotGet_fallSlot]
  split
  · rename_i hj
    rw [hj]
    exact slotEased_slotFall ..
  · exact slotEased_refl _

theorem satReacts_endRun {k n : Nat} (hk : k / 4 = n) (c : Nat) (l : List Byte) (m : Nat) (s : State) :
    SatReacts n s (endRun k c l m s) := by
  cases hr : (slotGet s k).run with
  | none =>
    rw [endRun_of_free hr]
    exact satReacts_refl n s
  | some r =>
    have hslots : ∀ j, SlotEased (slotGet s j) (slotGet (endRun k c l m s) j) := by
      intro j
      by_cases hj : j = k
      · subst hj
        rw [slotGet_endRun_self hr]
        exact slotEased_of_fields rfl rfl rfl rfl
      · rw [slotsBut_endRun k c l m s j hj]
        exact slotEased_refl _
    by_cases h4 : k < 4
    · rw [endRun_local h4 hr] at hslots ⊢
      exact ⟨fun j _ => by simp, by simp, hslots⟩
    · rw [endRun_satellite (Nat.le_of_not_lt h4) hr] at hslots ⊢
      have hrep := reported_satDone k r c l m (modSlot k runFreed s)
      rw [hk] at hrep
      exact ⟨fun j hj => by rw [hrep.2 j hj, satGet_modSlot], by rw [hrep.1]; rfl, hslots⟩

theorem mem_satSlots {n k : Nat} (h : k ∈ satSlots n) : k / 4 = n := by
  simp only [satSlots, List.mem_cons, List.not_mem_nil, or_false] at h
  omega

theorem satReacts_dropSatRun {k n : Nat} (hk : k / 4 = n) (s : State) : SatReacts n s (dropSatRun k s) := by
  unfold dropSatRun
  split
  · split
    · exact satReacts_refl n s
    · exact satReacts_endRun hk ..
  · exact satReacts_refl n s

/-- The local ripcord at one slot. -/
def ripcordSlot (mask : Nat) (s : State) (k : Nat) : State :=
  if bitAt mask (k % 4) then
    traceTrigger k 3 (fallSlot k 7 true false none (some 0x085) (traceAdd k 4 5 (dropSatRun k s)))
  else s

theorem localRipcord_eq (n mask : Nat) (s : State) : localRipcord n mask s = (satSlots n).foldl (ripcordSlot mask) s := rfl

theorem satReacts_ripcordSlot {k n : Nat} (hk : k / 4 = n) (mask : Nat) (s : State) : SatReacts n s (ripcordSlot mask s k) := by
  unfold ripcordSlot
  split
  · refine satReacts_trans (satReacts_dropSatRun hk s) (satReacts_trans (satReacts_traced (traced_traceAdd k 4 5 _) (by simp)) ?_)
    exact satReacts_trans (satReacts_fallSlot n k 7 false none (some 0x085) _)
      (satReacts_traced (traced_traceTrigger k 3 _) (by simp))
  · exact satReacts_refl n s

theorem satReacts_localRipcord (n mask : Nat) (s : State) : SatReacts n s (localRipcord n mask s) := by
  rw [localRipcord_eq]
  exact satReacts_foldl (fun k hk t => satReacts_ripcordSlot (mem_satSlots hk) mask t) s

/-- One slot of a satellite as its restart leaves it. -/
def restartSlot (s : State) (k : Nat) : State :=
  fallSlot k 7 true false none none (modSlot k (fun x => { x with run := none }) s)

/-- The slots of a satellite as its restart leaves them. -/
def restartSlots (n : Nat) (s : State) : State := (satSlots n).foldl restartSlot s

/-- The satellite's record as its restart leaves it. -/
def restarted (cause : Nat) (x : Sat) : Sat :=
  { x with
    setSat := false, setSlots := 0, lastH := false, cack := 0, togS := false, fltN := false
    sending := some { kind := 0x06, payload := [byte cause] }, results := [], receiving := false, erasing := false
    cond := match x.cond with
      | .running | .asleep | .loader => if x.imageState = 0 then .running else .loader
      | c => c }

theorem satRestart_eq (n cause : Nat) (s : State) :
    satRestart n cause s = modSat n (fun x => sendResult (restarted cause x)) (restartSlots n s) := rfl

theorem satReacts_restartSlot (n k : Nat) (s : State) : SatReacts n s (restartSlot s k) :=
  satReacts_trans (satReacts_modSlot (f := fun x => { x with run := none }) (slotEased_of_fields rfl rfl rfl rfl))
    (satReacts_fallSlot n k 7 false none none _)

theorem satReacts_restartSlots (n : Nat) (s : State) : SatReacts n s (restartSlots n s) :=
  satReacts_foldl (fun k _ t => satReacts_restartSlot n k t) s

theorem satStands_restarted (cause : Nat) (x : Sat) : satStands (sendResult (restarted cause x)) = satStands x := by
  rw [sendResult_frame]
  rfl

theorem satReacts_satRestart (n cause : Nat) (s : State) : SatReacts n s (satRestart n cause s) := by
  rw [satRestart_eq]
  refine satReacts_trans (satReacts_restartSlots n s) (satReacts_modSat ?_)
  exact satStands_restarted cause (satGet (restartSlots n s) n)

theorem satReacts_satFaultResult (n : Nat) (s : State) : SatReacts n s (satFaultResult n s) :=
  satReacts_reported (reported_satResult n _ s) (by simp [satFaultResult])

theorem satReacts_satFatal (n : Nat) (s : State) : SatReacts n s (satFatal n s) :=
  satReacts_trans (satReacts_trans (satReacts_localRipcord n 0xF s) (satReacts_satRestart n 3 _)) (satReacts_satFaultResult n _)

theorem satReacts_satReact (n code : Nat) (s : State) : SatReacts n s (satReact n code s) := by
  unfold satReact
  split
  · exact satReacts_localRipcord n 0xF s
  · split
    · exact satReacts_satRestart n 5 s
    · split
      · exact satReacts_trans (satReacts_modSat rfl) (satReacts_localRipcord n 0xF _)
      · exact satReacts_refl n s

/-- A fault event of a satellite sets its bit, whatever it leads to. -/
theorem satRaise_reacts {n k : Nat} (hk : k < 9) (s : State) :
    ∃ g : FaultBank, g.fst.getLsbD k = true ∧ SatReacts n (modSat n (fun x => { x with fault := g }) s) (satRaise n k s) := by
  have hstuck : ∀ f : FaultBank, (stickSet f (srcBit k)).fst.getLsbD k = true := by
    intro f
    have hget := congrArg (fun w : BitVec 9 => w.getLsbD k) (stickyBits_stickSet f (srcBit k))
    simpa [stickyBits, srcBit, hk] using hget
  unfold satRaise
  dsimp only
  split
  · exact ⟨_, hstuck _, satReacts_satFatal n _⟩
  · split
    · split
      · exact ⟨_, hstuck _, satReacts_satFatal n _⟩
      · exact ⟨_, hstuck _, satReacts_trans (satReacts_satFaultResult n _) (satReacts_satReact n _ _)⟩
    · exact ⟨_, satBank_bit hk (satGet s n), satReacts_trans (satReacts_satFaultResult n _) (satReacts_satReact n _ _)⟩

/-! ### Supplies that fall -/

/-- Between `s` and `t` a satellite was at most woken and has more to send; no other has changed. -/
structure Woken (n : Nat) (s t : State) : Prop where
  self : satGet t n = { satGet s n with
    cond := (satGet t n).cond, sending := (satGet t n).sending, results := (satGet t n).results, togS := (satGet t n).togS
    outF := (satGet t n).outF, outK := (satGet t n).outK }
  others : SatsBut n s t
  awake : (satGet s n).cond ≠ .asleep → (satGet t n).cond = (satGet s n).cond

theorem woken_refl (n : Nat) (s : State) : Woken n s s := ⟨rfl, fun _ _ => rfl, fun _ => rfl⟩

theorem woken_trans {n : Nat} {s t u : State} (h : Woken n s t) (h' : Woken n t u) : Woken n s u :=
  ⟨h'.self.trans (by rw [h.self]), fun j hj => (h'.others j hj).trans (h.others j hj), fun ha =>
    (h'.awake (by rw [h.awake ha]; exact ha)).trans (h.awake ha)⟩

theorem satStir_awake {n : Nat} {s : State} (h : (satGet s n).cond ≠ .asleep) : satStir n s = s := by
  rw [satStir, if_neg fun h' => h h'.2]

theorem woken_satStir (n : Nat) (s : State) : Woken n s (satStir n s) := by
  refine ⟨?_, satStir_others n s, fun h => by rw [satStir_awake h]⟩
  unfold satStir
  split
  · have h := (reported_satResultFirst n { kind := 0x07 } (modSat n (fun x => { x with cond := .running }) s)).1
    rw [satGet_modSat, if_pos rfl] at h
    rw [h]
  · rfl

/-- A satellite slot's deactivation is on the slots alone. -/
theorem fallSlot_satellite {k : Nat} (hk : 4 ≤ k) (c : Nat) (e d : Bool) (x : Option SlotState) (y : Option Nat) (s : State) :
    fallSlot k c e d x y s = modSlot k (slotFall c e d x y s.sys.tick) s := by
  unfold fallSlot
  dsimp only
  rw [if_neg (by omega : k ≠ 0), if_neg (by simp [isLocal]; omega)]

theorem emergencyBegun_satellite {k : Nat} (hk : 4 ≤ k) (causes : List Nat) (top : Nat) (s : State) (j : Nat) :
    satGet (emergencyBegun k causes top s) j = satGet (satStir (k / 4) s) j := by
  have hsat : ∀ t, satGet (causes.foldl (fun t c => traceAdd k 4 (causeTrace ((slotGet s k).sd.writing ||
      !(slotGet s k).sd.runDone.isEmpty) c) t) t) j = satGet t j := fun t => by rw [foldl_traceAdd_frame]; rfl
  unfold emergencyBegun
  dsimp only
  rw [if_neg (by simp [isLocal]; omega)]
  split <;> simp [hsat, satOfSlot]

theorem emergencyBegun_frame {k : Nat} (hk : 4 ≤ k) (causes : List Nat) (top : Nat) (s : State) :
    emergencyBegun k causes top s = { s with
      slots := (emergencyBegun k causes top s).slots
      sat := { s.sat with sats := (emergencyBegun k causes top s).sat.sats } } := by
  unfold emergencyBegun
  dsimp only
  rw [if_neg (by simp [isLocal]; omega), fallSlot_satellite hk, foldl_traceAdd_frame, satStir_sats_frame]
  split
  · rw [traceTrigger_frame]
    rfl
  · rfl

/-- An emergency of a satellite slot without a trip. -/
theorem emergency_quiet {k c : Nat} (hk : 4 ≤ k) (hc : c ≠ 3 ∧ c ≠ 4 ∧ c ≠ 9) (s : State) :
    Woken (k / 4) s (emergency k [c] s) ∧ SlotsBut k s (emergency k [c] s) ∧
    emergency k [c] s = { s with
      slots := (emergency k [c] s).slots, sat := { s.sat with sats := (emergency k [c] s).sat.sats } } := by
  by_cases h : inSession (slotGet s k) = true ∨ fallsNow s (slotGet s k) = true
  · have htrip : ∀ cs ⊆ [c], tripCause cs = false := by
      intro cs hcs
      have hno : ∀ m, m ≠ c → cs.contains m = false := by
        intro m hm
        rw [List.contains_eq_mem]
        exact decide_eq_false fun hmem => hm (List.mem_singleton.mp (hcs hmem))
      simp only [tripCause, hno 3 hc.1.symm, hno 4 hc.2.1.symm, hno 9 hc.2.2.symm]
      rfl
    set cs := causesCounted s (slotGet s k) [c] with hcs
    have hsub : cs ⊆ [c] := fun _ hm => (List.mem_filter.mp hm).1
    have hfaults : ∀ t, causeFaults k cs t = t := by
      intro t
      have hno := htrip cs hsub
      unfold tripCause at hno
      unfold causeFaults
      dsimp only
      rw [if_neg (by simp [isLocal]; omega), hno]
      rfl
    have heq : emergency k [c] s = cs.foldl (fun s c => causeCounts k c s) (emergencyBegun k [c] (topCause c []) s) := by
      rw [emergency_eq h, hfaults]
    have hget : ∀ j, satGet (emergency k [c] s) j = satGet (satStir (k / 4) s) j := fun j => by
      rw [heq, foldl_causeCounts_frame]
      exact emergencyBegun_satellite hk [c] _ s j
    obtain ⟨hself, hothers, hawake⟩ := woken_satStir (k / 4) s
    refine ⟨⟨by rw [hget]; exact hself, fun j hj => by rw [hget]; exact hothers j hj, by rw [hget]; exact hawake⟩, ?_, ?_⟩
    · exact (emergencyFalls h (fun _ ht => by rw [htrip [c] (List.Subset.refl _)] at ht; cases ht)).others
    · rw [heq, foldl_causeCounts_frame, emergencyBegun_frame hk]
  · have heq : emergency k [c] s = s := by
      unfold emergency
      dsimp only
      rw [if_pos (by simpa [not_or] using h)]
    rw [heq]
    exact ⟨woken_refl _ s, fun _ _ => rfl, rfl⟩

/-- The slots of a list fall by a cause of their satellite's supply. -/
theorem supplyFall_list {n : Nat} {l : List Nat} (hn : 1 ≤ n) (hl : ∀ k ∈ l, k / 4 = n) (hnodup : l.Nodup) (s : State) :
    Woken n s (l.foldl (fun s k => emergency k [6] s) s) ∧
    (∀ k ∈ l, inSession (slotGet s k) = true → Falls k 6 true (some 0x044) s (l.foldl (fun s k => emergency k [6] s) s)) ∧
    (∀ j, j ∉ l → slotGet (l.foldl (fun s k => emergency k [6] s) s) j = slotGet s j) ∧
    (l.foldl (fun s k => emergency k [6] s) s).sys = s.sys := by
  induction l generalizing s with
  | nil => exact ⟨woken_refl n s, fun k hk => absurd hk List.not_mem_nil, fun _ _ => rfl, rfl⟩
  | cons k l ih =>
    have hkn : k / 4 = n := hl k List.mem_cons_self
    have hk : 4 ≤ k := by omega
    obtain ⟨hknl, hnodup'⟩ := List.nodup_cons.mp hnodup
    obtain ⟨hwoken, hbut, hframe⟩ := emergency_quiet (c := 6) hk (by decide) s
    rw [hkn] at hwoken
    have hsys : (emergency k [6] s).sys = s.sys := by rw [hframe]
    obtain ⟨hw, hf, hkept, hsys'⟩ := ih (fun j hj => hl j (List.mem_cons_of_mem _ hj)) hnodup' (emergency k [6] s)
    rw [List.foldl_cons]
    refine ⟨woken_trans hwoken hw, fun j hj hin => ?_, fun j hj => ?_, hsys'.trans hsys⟩
    · rcases List.mem_cons.mp hj with rfl | hj
      · obtain ⟨⟨hst, hcause, hem, hstatus, hpins, hsince, hrun⟩, -⟩ :=
          emergency_single (c := 6) (by decide) hin (fun _ h => by cases h)
        refine ⟨?_, ?_, ?_, ?_, ?_, ?_, ?_⟩ <;> rw [hkept j hknl]
        · exact hst
        · exact hcause
        · exact hem
        · exact hstatus
        · exact hpins
        · exact hsince
        · exact hrun
      · have hne : j ≠ k := fun h => hknl (h ▸ hj)
        have hsame := hbut j hne
        obtain ⟨hst, hcause, hem, hstatus, hpins, hsince, hrun⟩ := hf j hj (by rw [hsame]; exact hin)
        exact ⟨hst, hcause, hem, hstatus, hpins, by rw [hsince, hsys], by rw [hrun, hsame]⟩
    · rw [hkept j (fun h => hj (List.mem_cons_of_mem _ h)), hbut j (fun h => hj (h ▸ List.mem_cons_self))]

theorem satSlots_nodup (n : Nat) : (satSlots n).Nodup := by
  simp [satSlots]

theorem mem_satSlots_of_lt {n i : Nat} (hi : i < 4) : 4 * n + i ∈ satSlots n := by
  simp only [satSlots, List.mem_cons, List.not_mem_nil, or_false]
  omega

theorem supplyFall_words {n : Nat} (hn : 1 ≤ n) (s : State) :
    Woken n s (satSupplyFall n s) ∧
    (∀ i, i < 4 → inSession (slotGet s (4 * n + i)) = true → Falls (4 * n + i) 6 true (some 0x044) s (satSupplyFall n s)) := by
  obtain ⟨hw, hf, -, -⟩ := supplyFall_list hn (fun k hk => mem_satSlots hk) (satSlots_nodup n) s
  exact ⟨hw, fun i hi => hf _ (mem_satSlots_of_lt hi)⟩

theorem completes_satVinLost {n : Nat} {s : State} (hn : 1 ≤ n) (hvin : (satGet s n).vinLost = false) :
    Completes (exec (.satVinLost n) s) fun t =>
      (satGet t n).vinLost = true ∧ (satGet t n).gen0 = false ∧ (satGet t n).gen1 = false ∧
      (satGet t n).grail0 = 0 ∧ (satGet t n).grail1 = 0 ∧ (satGet t n).cond ≠ .asleep ∧
      (∀ i, i < 4 → inSession (slotGet s (4 * n + i)) = true → Falls (4 * n + i) 6 true (some 0x044) s t) ∧
      Sends (satGet t n) { kind := 0x0D, payload := [0] } ∧ SatsBut n s t := by
  set u := satSupplyFall n (satStir n s) with hu
  set v := modSat n (fun x => { x with
    vinLost := true, gen0 := false, gen1 := false, grail0 := 0, grail1 := 0, gap := false, lowering := false }) u with hv
  have hexec : exec (.satVinLost n) s = .next (satResult n { kind := 0x0D, payload := [0] } v) := by
    show execSatVinLost n s = _
    rw [execSatVinLost, if_neg (by rw [hvin]; exact Bool.false_ne_true)]
  obtain ⟨hwoken, hfalls⟩ := supplyFall_words hn (satStir n s)
  have hall := woken_trans (woken_satStir n s) hwoken
  have hstir : ∀ j, slotGet (satStir n s) j = slotGet s j := fun j => by simp
  have hawake : (satGet (satStir n s) n).cond ≠ .asleep := satStir_cond (by omega) s
  obtain ⟨hself, hothers⟩ := reported_satResult n { kind := 0x0D, payload := [0] } v
  have hvself : satGet v n = { satGet u n with
      vinLost := true, gen0 := false, gen1 := false, grail0 := 0, grail1 := 0, gap := false, lowering := false } := by
    rw [hv, satGet_modSat, if_pos rfl]
  have hslots : ∀ j, slotGet (satResult n { kind := 0x0D, payload := [0] } v) j = slotGet u j := fun j => by simp [hv]
  have hucond : (satGet u n).cond ≠ .asleep := by
    rw [hwoken.awake hawake]
    exact hawake
  rw [hvself] at hself
  rw [hexec]
  refine completes_next ⟨?_, ?_, ?_, ?_, ?_, ?_, fun i hi hin => ?_, sends_satResult n _ v, fun j hj => ?_⟩
  · rw [hself]
  · rw [hself]
  · rw [hself]
  · rw [hself]
  · rw [hself]
  · rw [hself]
    exact hucond
  · obtain ⟨hst, hcause, hem, hstatus, hpins, hsince, hrun⟩ := hfalls i hi (by rw [hstir]; exact hin)
    refine ⟨?_, ?_, ?_, ?_, ?_, ?_, ?_⟩ <;> rw [hslots]
    · exact hst
    · exact hcause
    · exact hem
    · exact hstatus
    · exact hpins
    · rw [hsince, satStir_sys]
    · rw [hrun, hstir]
  · rw [hothers j hj, hv, satGet_modSat, if_neg hj, hall.others j hj]

theorem completes_satVpsLow {n : Nat} {s : State} (hn : 1 ≤ n) :
    Completes (exec (.satVpsLow n) s) fun t =>
      (satGet t n).fault.fst.getLsbD 1 = true ∧ (satGet t n).vpsLow = true ∧
      (∀ i, i < 4 → inSession (slotGet s (4 * n + i)) = true →
        (slotGet t (4 * n + i)).st = .falling ∧ (slotGet t (4 * n + i)).pins = contactsOff) ∧ SatsBut n s t := by
  obtain ⟨hwoken, hfalls⟩ := supplyFall_words hn s
  set u := modSat n (fun x => { x with vpsLow := true }) (satSupplyFall n s) with hu
  obtain ⟨g, hbit, hothers, hstands, hslots⟩ := satRaise_reacts (n := n) (k := 1) (by decide) u
  set v := modSat n (fun x => { x with fault := g }) u with hv
  have hvself : satGet v n = { satGet (satSupplyFall n s) n with vpsLow := true, fault := g } := by
    rw [hv, satGet_modSat, if_pos rfl, hu, satGet_modSat, if_pos rfl]
  rw [hvself] at hstands
  obtain ⟨-, hvps, -, -, hfault⟩ := standing_fields hstands
  have hexec : exec (.satVpsLow n) s = .next (satRaise n 1 u) := by
    show execSatVpsLow n s = _
    rw [execSatVpsLow, hu]
  rw [hexec]
  refine completes_next ⟨?_, ?_, fun i hi hin => ?_, fun j hj => ?_⟩
  · rw [hfault]
    exact hbit
  · exact hvps
  · have hf := hfalls i hi hin
    have heased := hslots (4 * n + i)
    rw [hv, slotGet_modSat, hu, slotGet_modSat] at heased
    obtain ⟨hst, hpins⟩ := heased.falling hf.st
    exact ⟨hst, hpins.trans hf.pins⟩
  · rw [hothers j hj, hv, satGet_modSat, if_neg hj, hu, satGet_modSat, if_neg hj, hwoken.others j hj]

theorem completes_satOvercurrent {n slot : Nat} {s : State} (hn : 1 ≤ n)
    (h : inSession (slotGet s (4 * n + slot % 4)) = true) (hmild : MildSource (satGet s n) 0) :
    Completes (exec (.satTotalOvercurrent n slot) s) fun t =>
      Falls (4 * n + slot % 4) 9 true (some 0x043) s t ∧ (slotGet t (4 * n + slot % 4)).fallTo = some .tripped ∧
      (satGet t n).fault.fst.getLsbD 0 = true ∧ SlotsBut (4 * n + slot % 4) s t ∧ SatsBut n s t := by
  set k := 4 * n + slot % 4 with hk
  have hkn : k / 4 = n := by omega
  have hk4 : 4 ≤ k := by omega
  have hmild' : 4 ≤ k → tripCause [9] = true → MildSource (satGet s (k / 4)) 0 := fun _ _ => by rw [hkn]; exact hmild
  obtain ⟨hfalls, hto, -, -⟩ := emergency_single (c := 9) (by decide) h hmild'
  have hbut := (emergencyFalls (own := 9) (others := []) (.inl h) hmild').others
  set u := [9].foldl (fun s c => causeCounts k c s) (emergencyBegun k [9] (topCause 9 []) s) with hu
  have hcounted : causesCounted s (slotGet s k) [9] = [9] := rfl
  have heq : emergency k [9] s = satRaise n 0 u := by
    rw [emergency_eq (.inl h), hcounted, ← hu]
    unfold causeFaults
    dsimp only
    rw [if_neg (by simp [isLocal]; omega), if_pos (by decide), satOfSlot, hkn]
  have huget : ∀ j, satGet u j = satGet (satStir n s) j := fun j => by
    rw [hu, foldl_causeCounts_frame, ← hkn]
    exact emergencyBegun_satellite hk4 [9] _ s j
  have humild : MildSource (satGet u n) 0 := by
    rw [MildSource, huget, satStir_fault]
    exact hmild
  obtain ⟨hself, hothers, -⟩ := satRaised_mild (k := 0) (by decide) (by decide) humild
  show Completes (.next (emergency k [9] s)) _
  refine completes_next ⟨hfalls, hto, ?_, hbut, fun j hj => ?_⟩
  · rw [heq, hself]
    exact satBank_bit (by decide) _
  · rw [heq, hothers j hj, huget, satStir_others n s j hj]

theorem completes_satHoldLow {n : Nat} {s : State} (h : (satGet s n).holdLow = false) :
    Completes (exec (.satHoldLow n) s) fun t =>
      (satGet t n).holdLow = true ∧ (satGet t n).fault.fst.getLsbD 4 = true ∧ SatsBut n s t := by
  set u := modSat n (fun x => { x with holdLow := true }) s with hu
  obtain ⟨g, hbit, hothers, hstands, -⟩ := satRaise_reacts (n := n) (k := 4) (by decide) u
  set v := modSat n (fun x => { x with fault := g }) u with hv
  have hvself : satGet v n = { satGet s n with holdLow := true, fault := g } := by
    rw [hv, satGet_modSat, if_pos rfl, hu, satGet_modSat, if_pos rfl]
  rw [hvself] at hstands
  obtain ⟨-, -, hhold, -, hfault⟩ := standing_fields hstands
  show Completes (execSatHoldLow n s) _
  rw [execSatHoldLow, if_neg (by rw [h]; exact Bool.false_ne_true)]
  refine completes_next ⟨hhold, ?_, fun j hj => ?_⟩
  · rw [hfault]
    exact hbit
  · rw [hothers j hj, hv, satGet_modSat, if_neg hj, hu, satGet_modSat, if_neg hj]

/-! ### Restarts -/

theorem sats_restartSlots (n : Nat) (s : State) (j : Nat) : satGet (restartSlots n s) j = satGet s j :=
  foldl_keeps (fun s => satGet s j) (fun t k => by simp [restartSlot]) (satSlots n) s

/-- A slot that a restart has taken out of use. -/
theorem slotGet_restartSlot (s : State) (k j : Nat) :
    slotGet (restartSlot s k) j =
      if j = k then slotFall 7 true false none none s.sys.tick { slotGet s k with run := none } else slotGet s j := by
  unfold restartSlot
  rw [slotGet_fallSlot]
  by_cases hj : j = k
  · subst hj
    simp
  · simp [hj]

theorem slotFall_ends (c n : Nat) (d : Bool) (x : Option SlotState) (y : Option Nat) (z : Slot) :
    inSession (slotFall c true d x y n z) = false ∧ (slotFall c true d x y n z).run = z.run := by
  unfold slotFall
  split
  · exact ⟨rfl, rfl⟩
  · rename_i h
    rw [if_pos rfl, mergeFall]
    split
    · exact ⟨by simpa [inSession] using h, rfl⟩
    · exact ⟨by simpa using h, rfl⟩

theorem restart_list {l : List Nat} (s : State) : ∀ k ∈ l, inSession (slotGet (l.foldl restartSlot s) k) = false ∧
    (slotGet (l.foldl restartSlot s) k).run = none := by
  have hkeep : ∀ (l : List Nat) (s : State) k, inSession (slotGet s k) = false ∧ (slotGet s k).run = none →
      inSession (slotGet (l.foldl restartSlot s) k) = false ∧ (slotGet (l.foldl restartSlot s) k).run = none := by
    intro l
    induction l with
    | nil => exact fun _ _ h => h
    | cons a l ih =>
      intro s k h
      refine ih (restartSlot s a) k ?_
      rw [slotGet_restartSlot]
      split
      · exact slotFall_ends ..
      · exact h
  induction l generalizing s with
  | nil => exact fun k hk => absurd hk List.not_mem_nil
  | cons a l ih =>
    intro k hk
    rcases List.mem_cons.mp hk with rfl | hk
    · refine hkeep l (restartSlot s k) k ?_
      rw [slotGet_restartSlot, if_pos rfl]
      exact slotFall_ends ..
    · exact ih (restartSlot s a) k hk

theorem satGet_satRestart (n cause : Nat) (s : State) :
    satGet (satRestart n cause s) n = sendResult (restarted cause (satGet s n)) := by
  rw [satRestart_eq, satGet_modSat, if_pos rfl, sats_restartSlots]

theorem completes_satRstN (n : Nat) (s : State) :
    Completes (exec (.satRstN n) s) fun t =>
      (satGet t n).sending = some { kind := 0x06, payload := [1] } ∧ (satGet t n).results = [] ∧
      (satGet t n).setSat = false ∧ (satGet t n).lastH = false ∧ (satGet t n).togS = false ∧
      (satGet t n).position = (satGet s n).position ∧ (satGet t n).lock = (satGet s n).lock ∧
      (satGet t n).gen0 = (satGet s n).gen0 ∧ (satGet t n).fltN = false ∧ SatsBut n s t := by
  have hself := satGet_satRestart n 1 s
  rw [sendResult_frame] at hself
  show Completes (.next (satRestart n 1 s)) _
  refine completes_next ⟨?_, ?_, ?_, ?_, ?_, ?_, ?_, ?_, ?_, (satReacts_satRestart n 1 s).others⟩ <;> rw [hself] <;> rfl

theorem nextResult_of_sending {x : Sat} {r : SatResult} (h : x.sending = some r) : nextResult x = x := by
  unfold nextResult
  rw [h]
  dsimp only
  split <;> rfl

theorem completes_satFatalFault {n bit : Nat} (h6 : 6 ≤ bit) (h8 : bit ≤ 8) (s : State) :
    Completes (exec (.satFatalFault n bit) s) fun t =>
      (satGet t n).fault.fst.getLsbD bit = true ∧ (satGet t n).sending = some { kind := 0x06, payload := [3] } ∧
      { kind := 0x0B, payload := arg2 (satGet t n).fault.fst.toNat } ∈ (satGet t n).results ∧
      (satGet t n).setSat = false ∧ (satGet t n).lastH = false ∧ (satGet t n).togS = false ∧
      (satGet t n).position = (satGet s n).position ∧ SatsBut n s t ∧
      (∀ i, i < 4 → inSession (slotGet t (4 * n + i)) = false ∧ (slotGet t (4 * n + i)).run = none) := by
  set f := stickSet (satGet s n).fault (srcBit bit) with hf
  set u := modSat n (fun x => { x with fault := f }) s with hu
  set v := localRipcord n 0xF u with hv
  set w := satRestart n 3 v with hw
  have hexec : exec (.satFatalFault n bit) s = .next (satFaultResult n w) := by
    show execSatFatalFault n bit s = _
    rw [execSatFatalFault, if_pos ⟨h6, h8⟩]
    unfold satRaise
    dsimp only
    rw [if_pos h6]
    rfl
  have hrip : SatReacts n u v := satReacts_localRipcord n 0xF u
  have hrest : SatReacts n v w := satReacts_satRestart n 3 v
  have hbit : f.fst.getLsbD bit = true := by
    have hget := congrArg (fun w : BitVec 9 => w.getLsbD bit) (stickyBits_stickSet (satGet s n).fault (srcBit bit))
    have hlt : bit < 9 := by omega
    rw [← hf] at hget
    simpa [stickyBits, srcBit, hlt] using hget
  have huself : satGet u n = { satGet s n with fault := f } := by rw [hu, satGet_modSat, if_pos rfl]
  have hstands := hrest.stands.trans hrip.stands
  rw [huself] at hstands
  obtain ⟨-, -, -, hposition, hfault⟩ := standing_fields hstands
  have hwself := satGet_satRestart n 3 v
  rw [← hw, sendResult_frame] at hwself
  have hslots : ∀ j, slotGet (satFaultResult n w) j = slotGet (restartSlots n v) j := fun j => by
    rw [show slotGet (satFaultResult n w) j = slotGet w j by simp [satFaultResult], hw, satRestart_eq, slotGet_modSat]
  clear_value w v u
  have hsending : (satGet w n).sending = some { kind := 0x06, payload := [3] } := by rw [hwself]; rfl
  have hresults : (satGet w n).results = [] := by rw [hwself]; rfl
  set r : SatResult := { kind := 0x0B, payload := arg2 (satGet w n).fault.fst.toNat } with hr
  have htself : satGet (satFaultResult n w) n = { satGet w n with results := [r] } := by
    have h := satGet_satResult n n r w
    rw [if_pos rfl, hresults, List.nil_append, nextResult_of_sending (x := { satGet w n with results := [r] }) hsending] at h
    exact h
  rw [hexec]
  refine completes_next ⟨?_, ?_, ?_, ?_, ?_, ?_, ?_, fun j hj => ?_, fun i hi => ?_⟩
  · rw [htself]
    dsimp only
    rw [hfault]
    exact hbit
  · rw [htself]
    exact hsending
  · rw [htself]
    exact List.mem_singleton.mpr rfl
  · rw [htself, hwself]; rfl
  · rw [htself, hwself]; rfl
  · rw [htself, hwself]; rfl
  · rw [htself]
    exact hposition
  · rw [(satReacts_satFaultResult n w).others j hj, hrest.others j hj, hrip.others j hj, hu, satGet_modSat, if_neg hj]
  · rw [hslots]
    exact restart_list v _ (mem_satSlots_of_lt hi)

/-- A satellite slot out of power-on. -/
def unpowered (x : Slot) : Slot := { det := x.det, wpTab := x.wpTab }

theorem foldl_slots_frame {α : Type} {f : State → α → State} (h : ∀ s a, f s a = { s with slots := (f s a).slots }) (l : List α)
    (s : State) : l.foldl f s = { s with slots := (l.foldl f s).slots } := by
  induction l generalizing s with
  | nil => rfl
  | cons a l ih => rw [List.foldl_cons, ih, h]

theorem satSlotsReset_frame (n : Nat) (s : State) : satSlotsReset n s = { s with slots := (satSlotsReset n s).slots } :=
  foldl_slots_frame (by exact fun _ _ => rfl) (satSlots n) s

theorem slotGet_satSlotsReset (n j : Nat) (s : State) :
    slotGet (satSlotsReset n s) j = if j ∈ satSlots n then unpowered (slotGet s j) else slotGet s j := by
  have hlist : ∀ (l : List Nat) (s : State),
      slotGet (l.foldl (fun s k => modSlot k unpowered s) s) j = if j ∈ l then unpowered (slotGet s j) else slotGet s j := by
    intro l
    induction l with
    | nil => exact fun s => (if_neg List.not_mem_nil).symm
    | cons k l ih =>
      intro s
      rw [List.foldl_cons, ih, slotGet_modSlot]
      by_cases hk : j = k
      · subst hk
        simp [unpowered]
      · simp [hk]
  exact hlist (satSlots n) s

theorem completes_satPowerOn (n uid hwver ringver fw : Nat) (rcv : Bool) (s : State) :
    Completes (exec (.satPowerOn n uid hwver ringver fw rcv) s) fun t =>
      (satGet t n).cond = .unlocked ∧ (satGet t n).position = 0 ∧ (satGet t n).uid = uid ∧
      (satGet t n).lock = .none ∧ (satGet t n).fltN = false ∧ (satGet t n).gen0 = false ∧
      (rcv = true → (satGet t n).imageState = 4) ∧
      (∀ i, i < 4 → (slotGet t (4 * n + i)).st = .disabled ∧ (slotGet t (4 * n + i)).pins = {} ∧
        (slotGet t (4 * n + i)).det = (slotGet s (4 * n + i)).det) ∧
      SatsBut n s t ∧ t = { s with slots := t.slots, sat := { s.sat with sats := t.sat.sats } } := by
  have hframe := satSlotsReset_frame n s
  have hslot : ∀ i, i < 4 → slotGet (satSlotsReset n s) (4 * n + i) = unpowered (slotGet s (4 * n + i)) := fun i hi => by
    rw [slotGet_satSlotsReset, if_pos (mem_satSlots_of_lt hi)]
  show Completes (execSatPowerOn n uid hwver ringver fw rcv s) _
  unfold execSatPowerOn
  dsimp only
  refine completes_next ⟨?_, ?_, ?_, ?_, ?_, ?_, fun h => ?_, fun i hi => ?_, fun j hj => ?_, ?_⟩
  · rw [satGet_modSat, if_pos rfl]
  · rw [satGet_modSat, if_pos rfl]
  · rw [satGet_modSat, if_pos rfl]
  · rw [satGet_modSat, if_pos rfl]
  · rw [satGet_modSat, if_pos rfl]
  · rw [satGet_modSat, if_pos rfl]
  · rw [satGet_modSat, if_pos rfl, h]
    rfl
  · rw [slotGet_modSat, hslot i hi]
    exact ⟨rfl, rfl, rfl⟩
  · rw [satGet_modSat, if_neg hj, hframe]
    rfl
  · rw [hframe]
    rfl

/-! ### A conversion -/

/-- What the judging of a conversion leaves: the codes, VPS_LOW's mark, every slot's readings. -/
structure Measured (n : Nat) (s t : State) : Prop where
  others : SatsBut n s t
  conv : (satGet t n).conv = (satGet s n).conv
  vpsLow : (satGet t n).vpsLow = (satGet s n).vpsLow
  slots : ∀ j, (slotGet t j).vcc = (slotGet s j).vcc ∧ (slotGet t j).icc = (slotGet s j).icc

theorem measured_refl (n : Nat) (s : State) : Measured n s s := ⟨fun _ _ => rfl, rfl, rfl, fun _ => ⟨rfl, rfl⟩⟩

theorem measured_trans {n : Nat} {s t u : State} (h : Measured n s t) (h' : Measured n t u) : Measured n s u :=
  ⟨fun j hj => (h'.others j hj).trans (h.others j hj), h'.conv.trans h.conv, h'.vpsLow.trans h.vpsLow,
    fun j => ⟨(h'.slots j).1.trans (h.slots j).1, (h'.slots j).2.trans (h.slots j).2⟩⟩

theorem measured_of_reacts {n : Nat} {s t : State} (h : SatReacts n s t) : Measured n s t :=
  ⟨h.others, (standing_fields h.stands).1, (standing_fields h.stands).2.1,
    fun j => ⟨(h.slots j).vcc, (h.slots j).icc⟩⟩

theorem measured_modSat {n : Nat} {f : Sat → Sat} {s : State} (hconv : (f (satGet s n)).conv = (satGet s n).conv)
    (hvps : (f (satGet s n)).vpsLow = (satGet s n).vpsLow) : Measured n s (modSat n f s) :=
  ⟨fun j hj => by rw [satGet_modSat, if_neg hj], by rw [satGet_modSat, if_pos rfl, hconv],
    by rw [satGet_modSat, if_pos rfl, hvps], fun _ => ⟨rfl, rfl⟩⟩

theorem measured_satRaise {n k : Nat} (hk : k < 9) (s : State) : Measured n s (satRaise n k s) := by
  obtain ⟨g, -, h⟩ := satRaise_reacts (n := n) hk s
  exact measured_trans (measured_modSat rfl rfl) (measured_of_reacts h)

theorem measured_sendRails (n : Nat) (s : State) : Measured n s (sendRails n s) :=
  measured_of_reacts (satReacts_reported (sendRails_reports n s).1 (by simp [sendRails]))

theorem measured_failGrails (n : Nat) (f0 f1 : Bool) (s : State) : Measured n s (failGrails n f0 f1 s) :=
  measured_trans (measured_modSat (f := failStart f0 f1) rfl rfl)
    (measured_trans (measured_sendRails n _) (measured_satRaise (k := 2) (by decide) _))

theorem measured_lowerDone (n : Nat) (s : State) : Measured n s (lowerDone n s) :=
  measured_trans (measured_modSat (f := lowerEnded) rfl rfl) (measured_sendRails n _)

theorem measured_ite {n : Nat} {c : Prop} [Decidable c] {s t u : State} (ht : Measured n s t) (hu : Measured n s u) :
    Measured n s (if c then t else u) := by
  split
  · exact ht
  · exact hu

/-- The module rails as a conversion's readings judge them. -/
def grailsRead (v0 v1 : Nat) (x : Sat) : Sat :=
  let at0 := decide (x.cfg.min0 ≤ v0) && decide (v0 ≠ 0x3FF)
  let at1 := decide (x.cfg.min1 ≤ v1) && decide (v1 ≠ 0x3FF)
  { x with
    low0 := if x.grail0 = 2 ∧ v0 < x.cfg.min0 then x.low0 + 1 else 0
    low1 := if x.grail1 = 2 ∧ v1 < x.cfg.min1 then x.low1 + 1 else 0
    grail0 := if x.grail0 = 1 ∧ at0 = true then 2 else x.grail0
    gap := x.gap || (decide (x.grail0 = 1) && at0 && x.cfg.grail1)
    grail1 := if x.grail1 = 1 ∧ at1 = true then 2 else x.grail1 }

theorem judgeGrails_eq (n v0 v1 : Nat) (s : State) :
    judgeGrails n v0 v1 s =
      (let x := satGet s n
      let y := grailsRead v0 v1 x
      let t := modSat n (fun _ => y) s
      let t := if (y.grail0 ≠ x.grail0 ∨ y.grail1 ≠ x.grail1) ∧ railsUp y = true then sendRails n t else t
      if 4 ≤ y.low0 ∨ 4 ≤ y.low1 then failGrails n (decide (4 ≤ y.low0)) (decide (4 ≤ y.low1)) t
      else if y.lowering ∧ v1 < y.cfg.min1 / 4 then lowerDone n t
      else t) := rfl

theorem measured_judgeGrails (n v0 v1 : Nat) (s : State) : Measured n s (judgeGrails n v0 v1 s) := by
  have hset : Measured n s (modSat n (fun _ => grailsRead v0 v1 (satGet s n)) s) := measured_modSat rfl rfl
  rw [judgeGrails_eq]
  dsimp only
  generalize grailsRead v0 v1 (satGet s n) = y at hset
  have hend : ∀ u, Measured n s u → Measured n s
      (if 4 ≤ y.low0 ∨ 4 ≤ y.low1 then failGrails n (decide (4 ≤ y.low0)) (decide (4 ≤ y.low1)) u
      else if y.lowering ∧ v1 < y.cfg.min1 / 4 then lowerDone n u else u) := fun u hu =>
    measured_ite (measured_trans hu (measured_failGrails ..)) (measured_ite (measured_trans hu (measured_lowerDone ..)) hu)
  refine hend _ ?_
  split
  · exact measured_trans hset (measured_sendRails n _)
  · exact hset

/-- Readings given to the slots of a list. -/
theorem slotGet_readings {l : List Nat} {n : Nat} (v i : Nat → Nat) (hnodup : l.Nodup) (s : State) :
    (∀ j ∈ l, (slotGet (l.foldl (fun s m => modSlot (4 * n + m) (fun y => { y with vcc := v m, icc := i m }) s) s) (4 * n + j)).vcc = v j ∧
      (slotGet (l.foldl (fun s m => modSlot (4 * n + m) (fun y => { y with vcc := v m, icc := i m }) s) s) (4 * n + j)).icc = i j) ∧
    ∀ k, (∀ j ∈ l, k ≠ 4 * n + j) →
      slotGet (l.foldl (fun s m => modSlot (4 * n + m) (fun y => { y with vcc := v m, icc := i m }) s) s) k = slotGet s k := by
  induction l generalizing s with
  | nil => exact ⟨fun j hj => absurd hj List.not_mem_nil, fun _ _ => rfl⟩
  | cons m l ih =>
    obtain ⟨hm, hnodup'⟩ := List.nodup_cons.mp hnodup
    obtain ⟨hin, hout⟩ := ih hnodup' (modSlot (4 * n + m) (fun y => { y with vcc := v m, icc := i m }) s)
    rw [List.foldl_cons]
    refine ⟨fun j hj => ?_, fun k hk => ?_⟩
    · rcases List.mem_cons.mp hj with rfl | hj
      · rw [hout (4 * n + j) (fun a ha h => hm (by rwa [show j = a by omega])), slotGet_modSlot, if_pos rfl]
        exact ⟨rfl, rfl⟩
      · exact hin j hj
    · rw [hout k (fun j hj => hk j (List.mem_cons_of_mem _ hj)), slotGet_modSlot, if_neg (hk m List.mem_cons_self)]

/-- A code as the converter gives it. -/
def convCode (codes : List Nat) (i : Nat) : Nat := min (codes.getD i 0x3FF) 0x3FE

/-- The satellite's record with the codes of a conversion. -/
def converted (codes : List Nat) (x : Sat) : Sat :=
  { x with
    conv := (List.range 14).map (convCode codes)
    holdLow := x.holdLow && decide (64 * convCode codes 1 < 100 * x.cfg.ballastMin) }

/-- The readings of the satellite's slots in a conversion. -/
def slotsRead (n : Nat) (codes : List Nat) (s : State) : State :=
  [0, 1, 2, 3].foldl (fun s m => modSlot (4 * n + m) (fun y => { y with
    vcc := convCode codes (6 + m), icc := convCode codes (10 + m) }) s) s

/-- The conversion once its codes are stored and its module rails judged. -/
def conversionJudged (n : Nat) (codes : List Nat) (s : State) : State :=
  judgeGrails n (convCode codes 4) (convCode codes 5) (slotsRead n codes (modSat n (converted codes) s))

theorem execSatConversion_eq {n : Nat} (codes : List Nat) {s : State} (h : satHears (satGet s n) = true) :
    execSatConversion n codes s = .next
      (let was := (satGet s n).conv.getD 3 0x3FF
      if 720 < convCode codes 3 ∧ convCode codes 3 < 0x3FE ∧ (was ≤ 720 ∨ was = 0x3FF)
      then satRaise n 5 (conversionJudged n codes s) else conversionJudged n codes s) := by
  unfold execSatConversion
  dsimp only
  rw [if_neg (by rw [h]; exact Bool.false_ne_true)]
  rfl

theorem slotsRead_frame (n : Nat) (codes : List Nat) (s : State) :
    slotsRead n codes s = { s with slots := (slotsRead n codes s).slots } :=
  foldl_slots_frame (by exact fun _ _ => rfl) [0, 1, 2, 3] s

theorem satGet_withSlots (s : State) (x : Tbl Slot) (j : Nat) : satGet { s with slots := x } j = satGet s j := rfl

theorem completes_satConversion {n : Nat} (codes : List Nat) {s : State} (h : satHears (satGet s n) = true) :
    Completes (exec (.satConversion n codes) s) fun t =>
      (satGet t n).conv = (List.range 14).map (fun i => min (codes.getD i 0x3FF) 0x3FE) ∧
      (satGet t n).vpsLow = (satGet s n).vpsLow ∧
      (∀ i, i < 4 → (slotGet t (4 * n + i)).vcc = min (codes.getD (6 + i) 0x3FF) 0x3FE ∧
        (slotGet t (4 * n + i)).icc = min (codes.getD (10 + i) 0x3FF) 0x3FE) ∧ SatsBut n s t := by
  set v := slotsRead n codes (modSat n (converted codes) s) with hv
  have hread : ∀ i, i < 4 → (slotGet v (4 * n + i)).vcc = convCode codes (6 + i) ∧
      (slotGet v (4 * n + i)).icc = convCode codes (10 + i) := fun i hi =>
    (slotGet_readings (l := [0, 1, 2, 3]) (n := n) (fun m => convCode codes (6 + m)) (fun m => convCode codes (10 + m))
      (by decide) _).1 i (by simp only [List.mem_cons, List.not_mem_nil, or_false]; omega)
  have hsats : ∀ j, satGet v j = if j = n then converted codes (satGet s n) else satGet s j := fun j => by
    rw [hv, slotsRead_frame, satGet_withSlots, satGet_modSat]
  have hjudged : Measured n v (conversionJudged n codes s) := measured_judgeGrails ..
  have hall : ∃ t, exec (.satConversion n codes) s = .next t ∧ Measured n v t := by
    show ∃ t, execSatConversion n codes s = .next t ∧ _
    rw [execSatConversion_eq codes h]
    refine ⟨_, rfl, ?_⟩
    clear_value v
    generalize conversionJudged n codes s = u at hjudged
    dsimp only
    split
    · exact measured_trans hjudged (measured_satRaise (by decide) _)
    · exact hjudged
  obtain ⟨t, hnext, hothers, hconv, hvps, hslots⟩ := hall
  have hself := (hsats n).trans (if_pos rfl)
  rw [hnext]
  refine completes_next ⟨?_, ?_, fun i hi => ?_, fun j hj => ?_⟩
  · rw [hconv, hself]
    rfl
  · rw [hvps, hself]
    rfl
  · exact ⟨(hslots _).1.trans (hread i hi).1, (hslots _).2.trans (hread i hi).2⟩
  · rw [hothers j hj, hsats, if_neg hj]

/-- Settles O25. -/
theorem satelliteSupplies : Obligations.SatelliteSupplies := by
  refine ⟨fun n codes s h => completes_satConversion codes h, fun n s hn h => completes_satVinLost hn h, fun n s h => ?_,
    fun n s hn => completes_satVpsLow hn, fun n slot s hn h hmild => completes_satOvercurrent hn h hmild,
    fun n s h => completes_satHoldLow h, fun n bit s h6 h8 => completes_satFatalFault h6 h8 s, completes_satRstN,
    completes_satPowerOn⟩
  set u := modSat n (fun x => { x with vinLost := false }) s with hu
  have hexec : exec (.satVinBack n) s = .next (satResult n { kind := 0x0D, payload := [1] } u) := by
    show execSatVinBack n s = _
    rw [execSatVinBack, if_pos h]
  obtain ⟨hself, hothers⟩ := reported_satResult n { kind := 0x0D, payload := [1] } u
  have huself : satGet u n = { satGet s n with vinLost := false } := by rw [hu, satGet_modSat, if_pos rfl]
  rw [huself] at hself
  rw [hexec]
  refine completes_next ⟨by rw [hself], sends_satResult n _ u, by rw [hself], fun j hj => ?_, rfl⟩
  rw [hothers j hj, hu, satGet_modSat, if_neg hj]

end Machine
end Sys2Proof
end

section
/-! Sweeps of satellite reports (chapters 12, 13, 19). -/
namespace Sys2Proof
namespace Machine

open Safety

/-! ### Frames at a satellite and at the hub -/

/-- A frame for this position that arrived valid is acted on. -/
theorem onSat_of_takes {sat : Nat} {f : RingFrame} {rx : Arrival} {s : State} (h : TakesFrame (satGet s sat) f rx)
    (g : State → State) : onSat sat (named (satGet s sat) rx) f rx g s = g s := by
  obtain ⟨hhears, hnamed, harrives⟩ := h
  unfold onSat
  rw [hhears, hnamed, if_neg (by decide), if_pos rfl, if_pos harrives]

/-- A frame taken as sent is valid. -/
theorem arrivesBad_of_arrives {f : RingFrame} {rx : Arrival} (h : Arrives f rx) : arrivesBad (frameOk f) rx = false := by
  unfold Arrives arrivesAs at h
  unfold arrivesBad
  cases hraw : rx.raw with
  | none => rw [hraw] at h; simpa using h
  | some l => rw [hraw] at h; cases hp : parseFrame l <;> simp_all

/-- A tether has brought a frame to the hub. -/
def broughtIn (t : Nat) (f : RingFrame) (rx : Arrival) (s : State) : State :=
  modTether t (fun x => { x with
    taken := x.taken ++ [ringInput t (!rx.pairK) (rx.raw.getD ((packFrame f).map Sym.d))] }) s

/-- A frame of a position as the hub finds it. -/
def heardIn (pos : Nat) (f : RingFrame) (rx : Arrival) (s : State) : State := heardFrom pos rx (broughtIn (posTether pos) f rx s)

theorem received_of_arrives {t : Nat} {f : RingFrame} {rx : Arrival} {s : State} (hdeclared : (rigTether s t).isSome = true)
    (h : Arrives f rx) (g : State → State) : received t f rx g s = g (broughtIn t f rx s) := by
  have hsome : (rigTether s t).isNone = false := by rw [← Option.not_isSome, hdeclared]; rfl
  have hsome' : (rigTether (broughtIn t f rx s) t).isNone = false := hsome
  have hbad := arrivesBad_of_arrives h
  unfold received
  dsimp only
  rw [hsome, if_neg Bool.false_ne_true]
  change (if (rigTether (broughtIn t f rx s) t).isNone = true then broughtIn t f rx s else _) = _
  rw [hsome', if_neg Bool.false_ne_true, hbad, if_neg Bool.false_ne_true, if_pos h]
  rfl

theorem received_of_bad {t : Nat} {f : RingFrame} {rx : Arrival} {s : State} (hdeclared : (rigTether s t).isSome = true)
    (h : arrivesBad (frameOk f) rx = true) (g : State → State) : received t f rx g s = countBad t (broughtIn t f rx s) := by
  have hsome : (rigTether s t).isNone = false := by rw [← Option.not_isSome, hdeclared]; rfl
  have hsome' : (rigTether (broughtIn t f rx s) t).isNone = false := hsome
  unfold received
  dsimp only
  rw [hsome, if_neg Bool.false_ne_true]
  change (if (rigTether (broughtIn t f rx s) t).isNone = true then broughtIn t f rx s else _) = _
  rw [hsome', if_neg Bool.false_ne_true, if_pos h]
  rfl

theorem received_of_undeclared {t : Nat} {s : State} (h : (rigTether s t).isSome = false) (f : RingFrame) (rx : Arrival)
    (g : State → State) : received t f rx g s = s := by
  have hnone : (rigTether s t).isNone = true := by rw [← Option.not_isSome, h]; rfl
  unfold received
  simp [hnone]

theorem onRing_of_live {s : State} (h : ringLive s = true) (f : State → State) : onRing f s = .next (f s) := by
  rw [onRing, if_pos h]

/-- What a row of the ring does where the hub takes the frame of a position. -/
theorem onRing_receivedOf {pos : Nat} {seq : Bool} {ty : Nat} {l : List Byte} {rx : Arrival} {s : State}
    (h : HubTakes s (posTether pos) (upFrame pos seq ty l) rx) (g : State → State) :
    onRing (receivedOf pos seq ty l rx g) s = .next (g (heardIn pos (upFrame pos seq ty l) rx s)) := by
  obtain ⟨hlive, hdeclared, harrives⟩ := h
  rw [onRing_of_live hlive]
  exact congrArg Host.Outcome.next (received_of_arrives hdeclared harrives (fun s => g (heardFrom pos rx s)))

theorem tetherGet_broughtIn_kept (t : Nat) (f : RingFrame) (rx : Arrival) (s : State) (j : Nat) :
    tetherGet (broughtIn t f rx s) j = { tetherGet s j with taken := (tetherGet (broughtIn t f rx s) j).taken } := by
  unfold broughtIn
  rw [tetherGet_modTether]
  split
  · rename_i h
    rw [h.1]
  · rfl

theorem tetherGet_broughtIn_other {t j : Nat} (h : j ≠ t) (f : RingFrame) (rx : Arrival) (s : State) :
    tetherGet (broughtIn t f rx s) j = tetherGet s j := by
  unfold broughtIn
  rw [tetherGet_modTether, if_neg (fun hc => h hc.1)]

theorem heardIn_frame (pos : Nat) (f : RingFrame) (rx : Arrival) (s : State) :
    heardIn pos f rx s = { s with
      tth := (heardIn pos f rx s).tth, sat := { s.sat with views := (heardIn pos f rx s).sat.views } } := by
  unfold heardIn heardFrom broughtIn
  split <;> rfl

theorem tetherGet_heardIn (pos : Nat) (f : RingFrame) (rx : Arrival) (s : State) (j : Nat) :
    tetherGet (heardIn pos f rx s) j = tetherGet (broughtIn (posTether pos) f rx s) j := by
  unfold heardIn heardFrom
  split <;> rfl

theorem viewGet_heardIn (pos : Nat) (f : RingFrame) (rx : Arrival) (s : State) (q : Nat) :
    viewGet (heardIn pos f rx s) q = if q = pos then heardView pos rx s else viewGet s q := by
  have hmode : (tetherGet (broughtIn (posTether pos) f rx s) (posTether pos)).mode = (tetherGet s (posTether pos)).mode := by
    rw [tetherGet_broughtIn_kept]
  have hview : ∀ q, viewGet (broughtIn (posTether pos) f rx s) q = viewGet s q := fun _ => rfl
  unfold heardIn heardFrom heardView
  rw [hmode]
  split
  · rw [viewGet_modView, hview, hview]
  · rw [hview]
    split
    · rename_i h
      rw [h]
    · rfl

/-- Taking a frame of a position changes what `Heard` names, whatever follows leaves tethers and records alone. -/
theorem heard_of {pos : Nat} {f : RingFrame} {rx : Arrival} {s t : State} (htth : t.tth = (heardIn pos f rx s).tth)
    (hviews : t.sat.views = (heardIn pos f rx s).sat.views) : Heard pos rx s t := by
  have htether : ∀ j, tetherGet t j = tetherGet (broughtIn (posTether pos) f rx s) j := fun j => by
    rw [← tetherGet_heardIn, tetherGet, tetherGet, htth]
  have hview : ∀ q, viewGet t q = if q = pos then heardView pos rx s else viewGet s q := fun q => by
    rw [← viewGet_heardIn pos f rx s, viewGet, viewGet, hviews]
  refine ⟨?_, fun j hj => ?_, ?_, fun q hq => ?_⟩
  · rw [htether]
    exact tetherGet_broughtIn_kept ..
  · rw [htether, tetherGet_broughtIn_other hj]
  · rw [hview, if_pos rfl]
  · rw [hview, if_neg hq]

/-! ### The start of a sweep -/

/-- A sweep that opens, before its queries go out. -/
def sweepOpened (s : State) : State :=
  { s with mea := { s.mea with
    open_ := true, openAt := s.sys.tick, curNum := s.mea.sweepNum, sweepNum := s.mea.sweepNum + 1
    sweepMs := s.rig.running.sweepMs, filling := openBuf s s.mea.sweepNum, nextReady := s.mea.nextList.isSome
    queried := ((positions s).filter (fun p => sweepQueries (viewGet s p).state)).foldl (fun t p => tblSet 0 t p 1) [] } }

theorem tblGet_foldl_mark (l : List Nat) (t : Tbl Nat) (p : Nat) :
    tblGet 0 (l.foldl (fun t p => tblSet 0 t p 1) t) p = if p ∈ l then 1 else tblGet 0 t p := by
  induction l generalizing t with
  | nil => simp
  | cons a l ih =>
    rw [List.foldl_cons, ih, tblGet_tblSet]
    by_cases hl : p ∈ l <;> by_cases ha : p = a <;> simp [hl, ha]

theorem foldl_hubTo_frame (g : Nat → List Byte) (l : List Nat) (s : State) :
    l.foldl (fun s p => hubTo p false 3 (g p) s) s =
      { s with tth := (l.foldl (fun s p => hubTo p false 3 (g p) s) s).tth } := by
  induction l generalizing s with
  | nil => rfl
  | cons p l ih =>
    rw [List.foldl_cons, ih]
    rfl

theorem completes_sweepStart (s : State) (hstate : s.sys.state = .run ∨ s.sys.state = .standby) (hshut : s.mea.open_ = false) :
    Completes (exec .sweepStart s) fun t =>
      t.mea.open_ = true ∧ t.mea.openAt = s.sys.tick ∧ t.mea.curNum = s.mea.sweepNum ∧
      t.mea.sweepNum = s.mea.sweepNum + 1 ∧
      (∀ pos, tblGet 0 t.mea.queried pos =
        if pos ∈ positions s ∧ sweepQueries (viewGet s pos).state = true then 1 else 0) ∧
      t.mea.latest = s.mea.latest ∧ t = { s with mea := t.mea, tth := t.tth } := by
  have hgo : ¬ (s.sys.state ≠ .run ∧ s.sys.state ≠ .standby) := fun h => hstate.elim h.1 h.2
  have hexec : exec .sweepStart s = .next (((positions s).filter (fun p => sweepQueries (viewGet s p).state)).foldl
      (fun s' p => hubTo p false 3 (arg2 s.mea.sweepNum) s') (sweepOpened s)) := by
    show execSweepStart s = _
    unfold execSweepStart sweepStart
    rw [if_neg hgo]
    simp only [hshut, Bool.false_eq_true, if_false]
    rfl
  rw [hexec, foldl_hubTo_frame]
  refine completes_next ⟨rfl, rfl, rfl, rfl, fun pos => ?_, rfl, rfl⟩
  refine (tblGet_foldl_mark _ [] pos).trans ?_
  simp only [List.mem_filter]
  rfl

/-! ### Queries and reports -/

theorem length_reportWords (s : State) (sat : Nat) : (reportWords s sat).length = 20 := by
  unfold reportWords
  dsimp only
  split <;> simp

theorem completes_sweepQuery (sat num : Nat) (vpsGood : Bool) (rx : Arrival) (s : State)
    (h : TakesFrame (satGet s sat) (toSat rx false 3 (arg2 num)) rx) :
    Completes (exec (.sweepQuery sat num vpsGood rx) s) fun t =>
      (satGet t sat).report = reportWords (modSat sat (fun x => { x with vpsLow := !vpsGood }) s) sat ∧
      (satGet t sat).report.length = 20 ∧
      SatIs sat (satAnswer rx 3 false (arg2 num ++ packWords 5 (satGet t sat).report)
        { satGet s sat with vpsLow := !vpsGood, report := (satGet t sat).report }) s t := by
  have hsend : ∀ l x, (satAnswer rx 3 false l x).report = x.report := fun l x => by
    rw [satAnswer, satSend_frame]
  have hexec : exec (.sweepQuery sat num vpsGood rx) s = .next
      (modSat sat (fun x => satAnswer rx 3 false
        (arg2 num ++ packWords 5 (reportWords (modSat sat (fun x => { x with vpsLow := !vpsGood }) s) sat))
        { x with report := reportWords (modSat sat (fun x => { x with vpsLow := !vpsGood }) s) sat })
        (modSat sat (fun x => { x with vpsLow := !vpsGood }) s)) :=
    congrArg Host.Outcome.next (onSat_of_takes h _)
  rw [hexec]
  generalize hw : reportWords (modSat sat (fun x => { x with vpsLow := !vpsGood }) s) sat = w
  have hlen : w.length = 20 := by rw [← hw]; exact length_reportWords ..
  refine completes_next ⟨?_, ?_, ?_, fun j hj => ?_, rfl⟩
  · rw [satGet_modSat, if_pos rfl, hsend]
  · rw [satGet_modSat, if_pos rfl, hsend]
    exact hlen
  · rw [satGet_modSat, if_pos rfl, hsend, satGet_modSat, if_pos rfl]
  · rw [satGet_modSat, if_neg hj, satGet_modSat, if_neg hj]

/-- A report of the open sweep from a position that was queried and has not answered. -/
abbrev ReportDue (pos num : Nat) (s : State) : Prop :=
  s.mea.open_ = true ∧ num = s.mea.curNum % 65536 ∧ (tblGet 0 s.mea.queried pos = 1 ∨ tblGet 0 s.mea.queried pos = 2)

theorem completes_sweepReport_due {pos num : Nat} {words : List Word} {rx : Arrival} {s : State}
    (h : HubTakes s (posTether pos) (upFrame pos false 3 (arg2 num ++ packWords 5 (words ++ [0]))) rx)
    (hdue : ReportDue pos num s) :
    Completes (exec (.sweepReport pos num words rx) s) fun t =>
      tblGet none t.mea.filling.rows pos = some (sweepRow (tblGet 0 s.mea.queried pos - 1) words) ∧
      (∀ q, q ≠ pos → tblGet none t.mea.filling.rows q = tblGet none s.mea.filling.rows q) ∧
      tblGet 0 t.mea.queried pos = tblGet 0 s.mea.queried pos + 2 ∧ t.mea.drop = s.mea.drop ∧
      t.mea.latest = s.mea.latest ∧ Heard pos rx s t ∧
      t = { s with mea := t.mea, tth := t.tth, sat := { s.sat with views := t.sat.views } } := by
  have hexec : exec (.sweepReport pos num words rx) s = .next (sweepReport pos num words
      (heardIn pos (upFrame pos false 3 (arg2 num ++ packWords 5 (words ++ [0]))) rx s)) := onRing_receivedOf h _
  have hmea : ∀ f, (heardIn pos f rx s).mea = s.mea := fun f => by rw [heardIn_frame]
  rw [hexec, sweepReport]
  dsimp only
  rw [hmea, if_pos hdue]
  refine completes_next ⟨?_, fun q hq => ?_, ?_, rfl, rfl, heard_of rfl rfl, ?_⟩
  · rw [tblGet_tblSet, if_pos rfl]
  · rw [tblGet_tblSet, if_neg hq]
  · rw [tblGet_tblSet, if_pos rfl]
  · rw [heardIn_frame]

theorem completes_sweepReport_stray {pos num : Nat} {words : List Word} {rx : Arrival} {s : State}
    (h : HubTakes s (posTether pos) (upFrame pos false 3 (arg2 num ++ packWords 5 (words ++ [0]))) rx)
    (hdue : ¬ ReportDue pos num s) :
    Completes (exec (.sweepReport pos num words rx) s) fun t =>
      Heard pos rx s t ∧ t = { s with
        mea := { s.mea with drop := satInc s.mea.drop }, tth := t.tth, sat := { s.sat with views := t.sat.views } } := by
  have hexec : exec (.sweepReport pos num words rx) s = .next (sweepReport pos num words
      (heardIn pos (upFrame pos false 3 (arg2 num ++ packWords 5 (words ++ [0]))) rx s)) := onRing_receivedOf h _
  have hmea : ∀ f, (heardIn pos f rx s).mea = s.mea := fun f => by rw [heardIn_frame]
  rw [hexec, sweepReport]
  dsimp only
  rw [hmea, if_neg hdue]
  refine completes_next ⟨heard_of rfl rfl, ?_⟩
  rw [heardIn_frame]

/-- Corrected sources never lead to FATAL: what their events may touch. -/
theorem faultFrame_raise_corrected {b : FBlk} {k : Nat} {s : State} (hlive : Live s) (hc : classOf b k = .corrected) :
    FaultFrame s (raise b k s) := (raised_raise hlive (.inl hc)).frame

/-- The ticks of the invalid frames of a tether that lie within the last millisecond. -/
def recentBad (t : Nat) (s : State) : List Nat :=
  (s.sys.tick :: (tetherGet s t).badTicks).filter (fun k => decide (s.sys.tick - k ≤ 800000))

/-- A tether's count of invalid frames. -/
def badCounted (t : Nat) (s : State) : State :=
  modTether t (fun x => { x with
    badF := satInc x.badF, badTicks := if 16 ≤ (recentBad t s).length then [] else recentBad t s }) s

/-- Counting an invalid frame: the tether's words, and what LINK_ERR may touch. -/
theorem faultFrame_countBad {s : State} (hlive : Live s) (t : Nat) : FaultFrame (badCounted t s) (countBad t s) := by
  have heq : countBad t s =
      if 16 ≤ (recentBad t s).length then raise .tth 4 (badCounted t s) else badCounted t s := rfl
  rw [heq]
  split
  · exact faultFrame_raise_corrected hlive (by decide)
  · rfl

theorem live_of_ringLive {s : State} (h : ringLive s = true) : Live s := by
  refine ⟨fun he => ?_, fun he => ?_⟩ <;> (rw [ringLive, he] at h; cases h)

theorem completes_sweepReport_bad {pos num : Nat} {words : List Word} {rx : Arrival} {s : State} (hring : ringLive s = true)
    (hdeclared : (rigTether s (posTether pos)).isSome = true) (hpos : posTether pos < 4)
    (hbad : arrivesBad (frameOk (upFrame pos false 3 (arg2 num ++ packWords 5 (words ++ [0])))) rx = true) :
    Completes (exec (.sweepReport pos num words rx) s) fun t =>
      t.mea = s.mea ∧ (tetherGet t (posTether pos)).badF = satInc (tetherGet s (posTether pos)).badF ∧
      TethersBut (posTether pos) s t := by
  set f := upFrame pos false 3 (arg2 num ++ packWords 5 (words ++ [0])) with hf
  have hexec : exec (.sweepReport pos num words rx) s =
      .next (countBad (posTether pos) (broughtIn (posTether pos) f rx s)) :=
    (onRing_of_live hring _).trans (congrArg Host.Outcome.next (received_of_bad hdeclared hbad _))
  have hframe : FaultFrame (badCounted (posTether pos) (broughtIn (posTether pos) f rx s)) _ :=
    faultFrame_countBad (s := broughtIn (posTether pos) f rx s) (live_of_ringLive hring) (posTether pos)
  rw [hexec]
  generalize countBad (posTether pos) (broughtIn (posTether pos) f rx s) = t at hframe
  have htether : ∀ j, tetherGet t j = tetherGet (badCounted (posTether pos) (broughtIn (posTether pos) f rx s)) j := fun j => by
    rw [hframe]
    rfl
  refine completes_next ⟨?_, ?_, fun j hj => ?_⟩
  · rw [hframe]
    rfl
  · rw [htether, badCounted, tetherGet_modTether, if_pos ⟨rfl, hpos⟩]
    dsimp only
    rw [tetherGet_broughtIn_kept]
  · rw [htether, badCounted, tetherGet_modTether, if_neg (fun h => hj h.1), tetherGet_broughtIn_other hj]

theorem completes_sweepReport_undeclared {pos : Nat} {s : State} (h : (rigTether s (posTether pos)).isSome = false) (num : Nat)
    (words : List Word) (rx : Arrival) : exec (.sweepReport pos num words rx) s = .next s := by
  show execSweepReport pos num words rx s = _
  unfold execSweepReport onRing receivedOf
  rw [received_of_undeclared h, ite_self]

/-! ### The second query -/

theorem tetherGet_hubTo_other {pos j : Nat} (h : j ≠ posTether pos) (seq : Bool) (ty : Nat) (l : List Byte) (s : State) :
    tetherGet (hubTo pos seq ty l s) j = tetherGet s j := by
  unfold hubTo hubSend
  rw [tetherGet_modTether, if_neg (fun hc => h hc.1)]

/-- What a frame that the hub sends moves of a tether. -/
theorem tetherGet_hubSend (k : Nat) (e : RingEnd) (f : RingFrame) (s : State) (j : Nat) :
    tetherGet (hubSend k e f s) j = { tetherGet s j with
      sent := (tetherGet (hubSend k e f s) j).sent, txOut := (tetherGet (hubSend k e f s) j).txOut
      txRet := (tetherGet (hubSend k e f s) j).txRet, txWait := (tetherGet (hubSend k e f s) j).txWait } := by
  have hput : ∀ (x : Tether) l, hubPut e l x = { x with
      sent := (hubPut e l x).sent, txOut := (hubPut e l x).txOut, txRet := (hubPut e l x).txRet } := by
    intro x l
    cases e <;> rfl
  unfold hubSend
  rw [tetherGet_modTether]
  split
  · rename_i h
    rw [h.1]
    split
    · rfl
    · rw [hput]
  · rfl

theorem completes_sweepResend {pos : Nat} {s : State} (hring : ringLive s = true) (hopen : s.mea.open_ = true)
    (hone : tblGet 0 s.mea.queried pos = 1) (hpos : pos < 256)
    (htime : s.sys.tick + 400000 ≤ s.mea.openAt + s.mea.sweepMs * 800000) :
    Completes (exec (.sweepResend pos) s) fun t =>
      tblGet 0 t.mea.queried pos = 2 ∧
      (tetherGet t (posTether pos)).retry = satInc (tetherGet s (posTether pos)).retry ∧
      TethersBut (posTether pos) s t ∧ t = { s with mea := { s.mea with queried := t.mea.queried }, tth := t.tth } := by
  have htether : posTether pos < 4 := by unfold posTether; omega
  set u : State := modTether (posTether pos) (fun x => { x with retry := satInc x.retry })
    { s with mea := { s.mea with queried := tblSet 0 s.mea.queried pos 2 } } with hu
  have hexec : exec (.sweepResend pos) s = .next (hubTo pos false 3 (arg2 s.mea.curNum) u) :=
    (onRing_of_live hring _).trans (congrArg Host.Outcome.next (if_pos ⟨hopen, hone, htime⟩))
  rw [hexec]
  refine completes_next ⟨?_, ?_, fun j hj => ?_, rfl⟩
  · exact (tblGet_tblSet (0 : Nat) 2 pos pos s.mea.queried).trans (if_pos rfl)
  · rw [hubTo, tetherGet_hubSend]
    dsimp only
    rw [hu, tetherGet_modTether, if_pos ⟨rfl, htether⟩]
    rfl
  · rw [tetherGet_hubTo_other hj, hu, tetherGet_modTether, if_neg (fun h => hj h.1)]
    rfl

/-! ### The close of a sweep -/

/-- What the judging of a published sweep keeps where no lookout rule is loaded. -/
structure SweepKept (s t : State) : Prop where
  mea : t.mea = s.mea
  start : t.start = s.start
  declared : t.ldg.declared = s.ldg.declared
  rules : s.lko.rules = [] → t.lko.rules = []
  alarm : AlarmKept s t

theorem sweepKept_refl (s : State) : SweepKept s s := ⟨rfl, rfl, rfl, id, alarmKept_refl s⟩

theorem sweepKept_trans {s t u : State} (h : SweepKept s t) (h' : SweepKept t u) : SweepKept s u :=
  ⟨h'.mea.trans h.mea, h'.start.trans h.start, h'.declared.trans h.declared, h'.rules ∘ h.rules,
    alarmKept_trans h.alarm h'.alarm⟩

theorem sweepKept_foldl {α : Type} {f : State → α → State} (h : ∀ s a, SweepKept s (f s a)) (l : List α) (s : State) :
    SweepKept s (l.foldl f s) := by
  induction l generalizing s with
  | nil => exact sweepKept_refl s
  | cons a l ih => exact sweepKept_trans (h s a) (ih (f s a))

theorem sweepKept_ite {c : Prop} [Decidable c] {s t u : State} (ht : SweepKept s t) (hu : SweepKept s u) :
    SweepKept s (if c then t else u) := by
  split
  · exact ht
  · exact hu

/-- A step of fault handling that leaves the ledger and the rules. -/
theorem sweepKept_of_alarm {s t : State} (h : AlarmKept s t) (hmea : t.mea = s.mea) (hstart : t.start = s.start)
    (hldg : t.ldg = s.ldg) (hrules : t.lko.rules = s.lko.rules) : SweepKept s t :=
  ⟨hmea, hstart, congrArg Ldg.declared hldg, fun h => hrules.trans h, h⟩

theorem sweepKept_coreWake (n : Nat) (s : State) : SweepKept s (coreWake n s) := by
  have halarm := alarmKept_coreWake n s
  unfold coreWake at halarm ⊢
  split at halarm <;> exact sweepKept_of_alarm halarm rfl rfl rfl rfl

theorem declared_dropRun (k : Nat) (s : State) : (dropRun k s).ldg.declared = s.ldg.declared := by
  unfold dropRun
  split
  · split
    · rfl
    · show (endOrderId _ _ _ _).ldg.declared = _
      rw [endOrderId_ldg]
      rfl
  · rfl

theorem declared_fallSlot (k c : Nat) (e d : Bool) (x : Option SlotState) (y : Option Nat) (s : State) :
    (fallSlot k c e d x y s).ldg.declared = s.ldg.declared := by simp

theorem declared_ripcordLocals (s : State) : (ripcordLocals s).ldg.declared = s.ldg.declared :=
  foldl_keeps (fun s => s.ldg.declared) (fun s k => (declared_fallSlot ..).trans (declared_dropRun k s)) [0, 1, 2, 3] s

/-- Entry to FATAL leaves sweeps and the ledger's decision word, and an empty rule list empty. -/
theorem sweepKept_fatalEnter (n k kind frx : Nat) (s : State) : SweepKept s (fatalEnter n k kind frx s) := by
  refine ⟨by simp, by simp, ?_, fun h => ?_, alarmKept_fatalEnter n k kind frx s⟩
  · unfold fatalEnter
    dsimp only
    split
    · rfl
    · split
      · split <;> rfl
      · simp [holdRules, trimsOff, declared_ripcordLocals]
  · unfold fatalEnter
    dsimp only
    split
    · exact h
    · split
      · split <;> exact h
      · simp [holdRules, trimsOff, h]

theorem sweepKept_raiseMany (b : FBlk) (ks : List Nat) (s : State) : SweepKept s (raiseMany b ks s) := by
  refine raiseMany_keeps (R := SweepKept) sweepKept_refl sweepKept_trans (fun x s => ?_) (fun k c e s => ?_)
    (fun c e d s => ?_) (fun f k e s => ?_) sweepKept_fatalEnter ks s
  · exact sweepKept_of_alarm (alarmKept_of_ports rfl rfl) rfl rfl rfl rfl
  · exact sweepKept_of_alarm (alarmKept_queueFault b k c e s) (by simp) (by simp) (by simp) (by simp)
  · exact sweepKept_of_alarm (alarmKept_recFreeze c e d s) (by simp) (by simp) (by simp) (by simp)
  · unfold wakeByFault
    exact sweepKept_ite (sweepKept_coreWake 4 s) (sweepKept_refl s)

theorem sweepKept_modLdg (id : Nat) (f : LdgSlot → LdgSlot) (s : State) : SweepKept s (modLdg id f s) :=
  ⟨rfl, rfl, rfl, fun h => h, alarmKept_of_ports rfl rfl⟩

/-- A shed deactivation enters the queue of orders. -/
theorem sweepKept_enterShed (id : Nat) (s : State) : SweepKept s (enterShed id s) :=
  ⟨rfl, rfl, rfl, fun h => h, alarmKept_of_ports rfl rfl⟩

theorem sweepKept_putMarks (before : Nat → Bool) (marks : List Nat) (s : State) :
    SweepKept s (putMarks before marks s).1 := by
  unfold putMarks
  dsimp only
  exact sweepKept_trans (sweepKept_foldl (fun s id => sweepKept_modLdg id _ s) _ s)
    (sweepKept_foldl (fun s id => sweepKept_enterShed id s) _ _)

theorem sweepKept_queueRec (ty : Nat) (l : List Nat) (s : State) : SweepKept s (queueRec ty l s) := by
  rw [queueRec_frame]
  exact ⟨rfl, rfl, rfl, id, alarmKept_of_ports rfl rfl⟩

/-- The ledger's words but for the decision word of a power failure. -/
theorem sweepKept_of_ldg {s : State} {x : Ldg} (h : x.declared = s.ldg.declared) : SweepKept s { s with ldg := x } :=
  ⟨rfl, rfl, h, id, alarmKept_of_ports rfl rfl⟩

theorem sweepKept_decideWith (ks : List Nat) (s : State) : SweepKept s (decideWith ks s) := by
  unfold decideWith
  dsimp only
  generalize hp : putMarks _ _ _ = p
  have hmarks : SweepKept s p.1 := by
    rw [← hp]
    refine sweepKept_trans ?_ (sweepKept_putMarks ..)
    exact sweepKept_of_ldg rfl
  refine sweepKept_trans (sweepKept_trans hmarks ?_) (sweepKept_ite (sweepKept_queueRec ..) (sweepKept_refl _))
  refine sweepKept_trans ?_ (sweepKept_raiseMany .ldg _ _)
  exact sweepKept_of_ldg rfl

theorem sweepKept_drainBattery (s : State) : SweepKept s (drainBattery s) := by
  unfold drainBattery
  dsimp only
  exact sweepKept_ite (sweepKept_ite (sweepKept_of_ldg rfl) (sweepKept_of_ldg rfl)) (sweepKept_refl s)

theorem sweepKept_addReading (id : Nat) (m : Option Nat) (s : State) : SweepKept s (addReading id m s) := by
  unfold addReading
  split
  · exact sweepKept_refl s
  · exact sweepKept_ite (sweepKept_refl s) (sweepKept_modLdg ..)

theorem sweepKept_sweepReadings (s : State) : SweepKept s (sweepReadings s) := by
  unfold sweepReadings
  dsimp only
  refine sweepKept_trans (sweepKept_foldl (fun s e => ?_) _ s) (sweepKept_foldl (fun s k => sweepKept_addReading ..) _ _)
  split
  · exact sweepKept_ite (sweepKept_foldl (fun s n => sweepKept_addReading ..) _ s) (sweepKept_refl s)
  · exact sweepKept_refl s

theorem sweepKept_endSatOrder (pos op code : Nat) (s : State) : SweepKept s (endSatOrder pos op code s) := by
  unfold endSatOrder
  split
  · rw [endOrder_frame]
    exact ⟨rfl, rfl, rfl, id, alarmKept_of_ports rfl rfl⟩
  · exact sweepKept_refl s

theorem sweepKept_takeReports (s : State) : SweepKept s (takeReports s) := by
  unfold takeReports
  refine sweepKept_foldl (fun s e => ?_) _ s
  dsimp only
  split <;> exact ⟨rfl, rfl, rfl, id, alarmKept_of_ports rfl rfl⟩

theorem sweepKept_sweepNews (s : State) : SweepKept s (sweepNews s) := by
  unfold sweepNews
  exact sweepKept_trans (sweepKept_trans (sweepKept_trans (sweepKept_takeReports s)
    (sweepKept_foldl (fun s pos => sweepKept_endSatOrder pos 0x11 0x044 s) _ _)) (sweepKept_raiseMany ..))
    (sweepKept_raiseMany ..)

/-- Without a rule no evaluation does anything. -/
theorem evalSweep_of_no_rules {s : State} (h : s.lko.rules = []) : evalSweep s = s := by
  have hlive : ∀ n, ruleLive (ruleGet s n) = false := fun n => by
    rw [ruleGet, h]
    rfl
  have hfold : ∀ (f : State × Bool → Nat → State × Bool), (∀ n, f (s, false) n = (s, false)) → ∀ l : List Nat,
      l.foldl f (s, false) = (s, false) := by
    intro f hf l
    induction l with
    | nil => rfl
    | cons n l ih => rw [List.foldl_cons, hf, ih]
  unfold evalSweep evalRules
  rw [hfold _ (fun n => by simp [hlive]), ite_eq_right_iff]
  exact fun _ => rfl

theorem sweepKept_sweepJudged {s : State} (hrules : s.lko.rules = []) : SweepKept s (sweepJudged s) := by
  have hread : SweepKept s (sweepReadings (sweepNews s)) := sweepKept_trans (sweepKept_sweepNews s) (sweepKept_sweepReadings _)
  unfold sweepJudged
  dsimp only
  rw [evalSweep_of_no_rules (hread.rules hrules)]
  exact sweepKept_ite hread (sweepKept_trans hread (sweepKept_trans (sweepKept_drainBattery _) (sweepKept_decideWith _ _)))

theorem sweepKept_turnNoted (turned : Bool) (s : State) : SweepKept (setIevtBoth 0x002 s) (turnNoted turned s) := by
  unfold turnNoted
  exact sweepKept_ite (sweepKept_raiseMany .mea [0] _) (sweepKept_refl _)

theorem completes_sweepClose {s : State} (hrun : s.sys.state = .run) (hopen : s.mea.open_ = true) (hover : sweepOver s = true)
    (hrules : s.lko.rules = []) :
    Completes (exec .sweepClose s) fun t =>
      t.mea.open_ = false ∧ t.mea.published = true ∧ t.start.sweep = true ∧ t.ldg.declared = false ∧
      t.mea.latest.num = s.mea.filling.num ∧ t.mea.latest.miss = rowsWith s.mea.filling 2 ∧ t.mea.pins = s.mea.pins ∧
      t.ports.a.ievt.getLsbD 1 = true ∧ t.ports.b.ievt.getLsbD 1 = true := by
  have hexec : exec .sweepClose s = .next (publish s) := by
    show execSweepClose s = _
    rw [execSweepClose, if_pos ⟨hopen, hover, .inl hrun⟩, publishWake,
      if_neg (fun h => HubState.noConfusion (hrun.symm.trans h.1))]
  have hturned := sweepKept_turnNoted (decide (rowsWith s.mea.filling 2 ≠ 0) && !s.mea.lastPartial) (sweepClosed s)
  have hkept : SweepKept (setIevtBoth 0x002 (sweepClosed s)) (publish s) := by
    rw [publish_eq]
    exact sweepKept_trans hturned (sweepKept_sweepJudged (hturned.rules hrules))
  rw [hexec]
  generalize publish s = t at hkept
  obtain ⟨hmea, hstart, hdeclared, -, halarm⟩ := hkept
  have hbit : ∀ p, (portGet (setIevtBoth 0x002 (sweepClosed s)) p).ievt.getLsbD 1 = true := fun p => by
    have hport : (portGet (setIevtBoth 0x002 (sweepClosed s)) p).ievt = (portGet s p).ievt ||| 0x002 := by cases p <;> rfl
    rw [hport, BitVec.getLsbD_or]
    exact Bool.or_true _
  have hclosed : t.mea = (sweepClosed s).mea := hmea
  refine completes_next ⟨?_, ?_, congrArg Start.sweep hstart, hdeclared, ?_, ?_, ?_, halarm.event .a 1 (hbit .a),
    halarm.event .b 1 (hbit .b)⟩ <;> rw [hclosed] <;> rfl

/-! ### SWP_PIN -/

/-- A frame that REPLAY would refuse finds no replay. -/
theorem notReplayed_of_admitted {s : State} {p : Port} {w : Bool} {a : Nat} (h : Admitted s p w a)
    (ha : hostRights .replay w a ≠ none) : NotReplayed s := fun he => ha (he ▸ h.2)

theorem regRead_swpPin (s : State) (p : Port) : regRead s p 0x4BD = toWord (bit (perPortGet s.mea.pins p).isSome) := by
  have hacc : accOf 0x4BD = .rw := by decide
  have hfault : faultWordAt p 0x4BD = none := by cases p <;> decide
  simp only [regRead, hacc, hfault]
  rfl

theorem completes_swpPinWrite {p : Port} {data : Word} {s : State} (h : WriteAdmitted s p 0x4BD) :
    Completes (exec (.swpPinWrite p data) s) fun t =>
      perPortGet t.mea.pins p = (if data.getLsbD 0 then some s.mea.latest else none) ∧
      perPortGet t.mea.pins p.other = perPortGet s.mea.pins p.other ∧ PortsAnswer s t p ∧
      Owes t p .ok 0x4BD (regRead t p 0x4BD) ∧
      t = { s with mea := { s.mea with pins := t.mea.pins }, ports := t.ports } := by
  set u : State := setPin p (bitAt data.toNat 0) (writeSeen p 0x4BD data.toNat s) with hu
  have hfault : faultWordAt p 0x4BD = none := by cases p <;> decide
  have hexec : exec (.swpPinWrite p data) s = .next (wroteOk p 0x4BD u) := by
    show execSwpPinWrite p data s = _
    rw [execSwpPinWrite, wordFrame_ok h (by decide) hfault (by decide) (by decide) (t := u) rfl]
    rfl
  have hports : u.ports = (writeSeen p 0x4BD data.toNat s).ports := rfl
  have hadm : NotReplayed s := notReplayed_of_admitted h.1 (by decide)
  have hlive : u.sys.state ≠ .replay := hadm
  have hframe := wroteOk_frame p 0x4BD u
  have hread : regRead (wroteOk p 0x4BD u) p 0x4BD = regRead u p 0x4BD := by
    rw [regRead_swpPin, regRead_swpPin, hframe]
  rw [hexec]
  refine completes_next ⟨?_, ?_, portsAnswer_wroteOk hports, ?_, ?_⟩
  · rw [hframe, ← bitAt_toNat]
    exact perPortGet_perPortSet_same ..
  · rw [hframe]
    exact perPortGet_perPortSet_other ..
  · rw [hread, ← shownWord_of_live hlive]
    exact owes_wroteOk (answering_writeSeen h.1.1 hports) _
  · rw [hframe, hu]
    rfl

/-- Settles O27. -/
theorem sweeps : Obligations.Sweeps := by
  refine ⟨completes_sweepStart, completes_sweepQuery, fun pos num words rx s h hopen hnum hq => ?_,
    fun pos num words rx s h hstray => ?_, fun _ _ _ _ _ => completes_sweepReport_bad,
    fun _ num words rx _ h => completes_sweepReport_undeclared h num words rx, fun _ _ => completes_sweepResend,
    fun _ => completes_sweepClose, fun _ _ _ => completes_swpPinWrite⟩
  · exact completes_sweepReport_due h ⟨hopen, hnum, hq⟩
  · refine completes_sweepReport_stray h fun ⟨hopen, hnum, hq⟩ => ?_
    rcases hstray with hc | hc | ⟨hc, hc'⟩
    · exact Bool.false_ne_true (hc.symm.trans hopen)
    · exact hc hnum
    · exact hq.elim hc hc'

end Machine
end Sys2Proof
end

section
/-! Single-frame and burst reads (chapters 08, 09). -/
namespace Sys2Proof
namespace Machine

open Safety

/-! ### What no register shows -/

/-- What the recorder notes of a transaction shows in no register. -/
theorem regRead_takeSdi (p q : Port) (edges : Nat) (bits : List Bool) (s : State) (a : Nat) :
    regRead (takeSdi p edges bits s) q a = regRead s q a := by
  cases p <;> cases q <;> rfl

theorem readOwn_respond {a : Nat} (ha : a < 0x080 ∨ 0x0C0 ≤ a) (p q : Port) (r : Response) (s : State) :
    readOwn (respond p r s) q a = readOwn s q a := by
  unfold respond respondAs
  split
  · rcases ha with h | h
    · by_cases h' : a < 0x040
      · simp only [readOwn, h', if_true]
        cases p <;> rfl
      · simp only [readOwn, h', h, if_true, if_false]
        cases p <;> cases q <;> rfl
    · have h1 : ¬ a < 0x040 := by omega
      have h2 : ¬ a < 0x080 := by omega
      have h3 : ¬ a < 0x0C0 := by omega
      simp only [readOwn, h1, h2, h3, if_false]
      cases p <;> cases q <;> rfl
  · rfl

/-- Outside the port's own block no register shows a response. -/
theorem regRead_respond {a : Nat} (ha : a < 0x080 ∨ 0x0C0 ≤ a) (p q : Port) (r : Response) (s : State) :
    regRead (respond p r s) q a = regRead s q a := by
  have hbank : ∀ b, bankGet (respond p r s).fb b = bankGet s.fb b := fun b => by rw [respond_frame]
  unfold regRead
  rw [readOwn_respond ha]
  simp only [hbank]

/-- The words that a read of a response's burst shows. -/
theorem shownWords_takeSdi {s : State} (hlive : NotReplayed s) (p : Port) (edges : Nat) (bits : List Bool) (a n : Nat) :
    shownWords p a n (takeSdi p edges bits s) = (List.range n).map (fun i => regRead s p (a + i)) := by
  have hlive' : (takeSdi p edges bits s).sys.state ≠ .replay := hlive
  unfold shownWords
  refine List.map_congr_left fun i _ => ?_
  rw [shownWord_of_live hlive', regRead_takeSdi]

/-! ### The groups -/

/-- A group lies below the factory test's range. -/
theorem lt_of_groupOf {a g n : Nat} (h : groupOf a = some (g, n)) : a < 0xF00 ∧ 0 < n := by
  have hrows : ∀ r ∈ groupRows, r.1 + r.2 ≤ 0xF00 ∧ 0 < r.2 := by decide
  have hmem := List.mem_of_find?_eq_some h
  have hin := List.find?_some h
  simp only [Bool.and_eq_true, decide_eq_true_eq] at hin
  have := hrows _ hmem
  dsimp only at hin this
  omega

/-- A frame below the factory test's range tests nothing. -/
theorem framed_read {s : State} {p : Port} {addr : Addr} (ha : addr.toNat < 0xF00) (t : State) :
    framed s p (.read addr) none t = .next t := by
  have htest : testOpen s p addr.toNat 1 false = false := by
    have : ¬ 0xF00 < addr.toNat + 1 := by omega
    simp [testOpen, this]
  simp [framed, frameTest, htest]

/-- The state that a group's latch leaves. -/
def latched (p : Port) (g : Nat) (l : List Word) (s : State) : State :=
  modPort p (fun h => { h with latch := some { base := g, words := l } }) s

theorem readFrame_group {p : Port} {a n : Nat} {s : State} (h : Admitted s p false a) (hlive : NotReplayed s)
    (hg : groupOf a = some (a, n)) :
    (portGet (readFrame p a s) p).latch = some { base := a, words := (List.range n).map (fun i => regRead s p (a + i)) } ∧
      Owes (readFrame p a s) p .ok a (regRead s p a) ∧ portGet (readFrame p a s) p.other = portGet s p.other ∧
      readFrame p a s = { s with ports := (readFrame p a s).ports } := by
  obtain ⟨ha, hn⟩ := lt_of_groupOf hg
  set l := (List.range n).map (fun i => regRead s p (a + i)) with hl
  have hread : singleRead p a (takeSdi p 32 (sdiHead 0 a 0) s) =
      (regRead s p a, latched p a l (takeSdi p 32 (sdiHead 0 a 0) s)) := by
    have hfirst : l.getD 0 0 = regRead s p a := by
      rw [hl]
      simp [List.getD_eq_getElem?_getD, hn]
    unfold singleRead
    rw [hg]
    dsimp only
    rw [if_pos rfl, latchRead, shownWords_takeSdi hlive, ← hl, hfirst]
    rfl
  have hanswer : (portGet (latched p a l (takeSdi p 32 (sdiHead 0 a 0) s)) p).answering = true := by
    have := answering_of_heard h.1
    cases p <;> exact this
  rw [readFrame_of_admitted h ha, hread]
  unfold respondAs
  rw [if_pos hanswer]
  refine ⟨?_, ?_, ?_, rfl⟩
  · cases p <;> rfl
  · cases p <;> rfl
  · cases p <;> rfl

theorem completes_groupLatchRead {p : Port} {addr : Addr} {data : Word} {crc : Byte} {n : Nat} {s : State}
    (h : Admitted s p false addr.toNat) (hlive : NotReplayed s) (hcrc : GoodCrc 0 addr data crc)
    (hg : groupOf addr.toNat = some (addr.toNat, n)) :
    Completes (exec (.groupLatchRead p addr data crc none) s) fun t =>
      (portGet t p).latch = some { base := addr.toNat, words := (List.range n).map (fun i => regRead s p (addr.toNat + i)) } ∧
      Owes t p .ok addr.toNat (regRead s p addr.toNat) ∧ portGet t p.other = portGet s p.other ∧
      t = { s with ports := t.ports } := by
  have hexec : exec (.groupLatchRead p addr data crc none) s = .next (readFrame p addr.toNat s) := by
    show execGroupLatchRead p addr data crc none s = _
    unfold execGroupLatchRead
    dsimp only
    rw [framed_read (lt_of_groupOf hg).1, withTie, checked, if_pos hcrc]
    rfl
  rw [hexec]
  exact completes_next (readFrame_group h hlive hg)

theorem completes_hstAgainRead {p : Port} {s : State} (h : Admitted s p false 0x090) (hlive : NotReplayed s) :
    Completes (exec (.hstAgainRead p) s) fun t =>
      (portGet t p).latch = some { base := 0x090, words := [regRead s p 0x090, regRead s p 0x091, regRead s p 0x092] } ∧
      Owes t p .ok 0x090 (regRead s p 0x090) ∧ portGet t p.other = portGet s p.other ∧ t = { s with ports := t.ports } :=
  completes_next (readFrame_group (n := 3) h hlive (by decide))

/-! ### The words that a read clears -/

/-- The words with access code RC, block by block. -/
def rcWords : List Nat := [0x08D, 0x0E9, 0x0EA, 0x0EB, 0x0EC, 0x11D] ++ [0x208, 0x209, 0x22D, 0x22E, 0x22F, 0x246, 0x247,
    0x248, 0x268] ++ [0x288, 0x289, 0x28A, 0x298, 0x299, 0x29A, 0x2A8, 0x2A9, 0x2AA, 0x2B8, 0x2B9, 0x2BA] ++
  [0x318, 0x319, 0x49E, 0x49F, 0x4BE, 0x517, 0x518, 0x58F, 0x602, 0x603, 0x78F]

/-- A row of code RC among the rows of an address names words of the list. -/
def rcRows (l : AccRows) : Bool :=
  l.all (fun r => decide (r.2.2 ≠ .rc) || (List.range (r.2.1 + 1 - r.1)).all (fun i => rcWords.contains (r.1 + i)))

theorem rcRows_accRows (a : Nat) : rcRows (accRows a) = true := by
  have hall : ∀ l ∈ [accIdnSys, accHstMor, accOrdPcl, accSlt, accTthSat, accLdgRls, accMeaLko, accLogRnd, accUpdRec],
      rcRows l = true := by decide
  unfold accRows
  split_ifs <;> exact hall _ (by simp)

theorem mem_rcWords {a : Nat} (h : accOf a = .rc) : a ∈ rcWords := by
  unfold accOf at h
  split at h
  · cases h
  · split at h
    · rename_i r hr
      have hin := List.find?_some hr
      simp only [Bool.and_eq_true, decide_eq_true_eq] at hin
      have hrow := List.all_eq_true.mp (rcRows_accRows a) r (List.mem_of_find?_eq_some hr)
      simp only [h, ne_eq, not_true, decide_false, Bool.false_or, List.all_eq_true, List.mem_range] at hrow
      have hword := hrow (a - r.1) (by omega)
      rw [Nat.add_sub_cancel' hin.1] at hword
      simpa using hword
    · cases h

theorem regRead_of_rc {a : Nat} (h : a ∈ rcWords) (s : State) (p : Port) : regRead s p a = readOwn s p a := by
  have hall : ∀ a ∈ rcWords, accOf a = .rc ∧ faultWordAt .a a = none ∧ faultWordAt .b a = none := by decide
  obtain ⟨hacc, hfa, hfb⟩ := hall a h
  have hfault : faultWordAt p a = none := by
    cases p
    · exact hfa
    · exact hfb
  simp only [regRead, hacc, hfault]

/-- What a cleared word reads: no extreme for those of a converter channel, else 0. -/
def clearedWord (a : Nat) : Word := if a = 0x49E ∨ a = 0x49F then 0x3FF else 0

theorem readOwn_clearRc_first {a : Nat} (h : a ∈ [0x08D, 0x0E9, 0x0EA, 0x0EB, 0x0EC, 0x11D]) (p : Port) (s : State) :
    readOwn (clearRc p a s) p a = clearedWord a := by
  simp only [List.mem_cons, List.not_mem_nil, or_false] at h
  rcases h with rfl | rfl | rfl | rfl | rfl | rfl <;> cases p <;> rfl

theorem readOwn_clearRc_slot {a : Nat} (h : a ∈ [0x208, 0x209, 0x22D, 0x22E, 0x22F, 0x246, 0x247, 0x248, 0x268]) {p : Port}
    {s : State} (hlocal : isLocal (portGet s p).sltSel = true) : readOwn (clearRc p a s) p a = clearedWord a := by
  simp only [List.mem_cons, List.not_mem_nil, or_false] at h
  rcases h with rfl | rfl | rfl | rfl | rfl | rfl | rfl | rfl | rfl <;>
    simp [clearRc, clearSlot, readOwn, readSlt, sltPower, sltChars, sltTrans, sltSd, chAt, hlocal, clearedWord,
      declaredSlot, toWord]

theorem readOwn_clearRc_tether {a : Nat}
    (h : a ∈ [0x288, 0x289, 0x28A, 0x298, 0x299, 0x29A, 0x2A8, 0x2A9, 0x2AA, 0x2B8, 0x2B9, 0x2BA]) (p : Port) (s : State) :
    readOwn (clearRc p a s) p a = clearedWord a := by
  simp only [List.mem_cons, List.not_mem_nil, or_false] at h
  rcases h with rfl | rfl | rfl | rfl | rfl | rfl | rfl | rfl | rfl | rfl | rfl | rfl <;>
    simp [clearRc, clearTether, readOwn, readTth, readTether, tetherGet_modTether, clearedWord, toWord]

theorem readOwn_clearRc_sat {a : Nat} (h : a ∈ [0x318, 0x319]) (p : Port) (s : State) :
    readOwn (clearRc p a s) p a = clearedWord a := by
  have hkeep : ∀ pos f, satWindow (modView pos f s) p = satWindow s p := fun _ _ => rfl
  simp only [List.mem_cons, List.not_mem_nil, or_false] at h
  cases hw : satWindow s p <;> rcases h with rfl | rfl <;>
    simp [clearRc, clearSat, readOwn, readSat, readSatView, hw, hkeep, clearedWord, toWord]

theorem readOwn_clearRc_channel {a : Nat} (h : a ∈ [0x49E, 0x49F]) (p : Port) (s : State) :
    readOwn (clearRc p a s) p a = clearedWord a := by
  have hget : ∀ k f, chanGet (modChan k f s) k = f (chanGet s k) := fun k f => by simp [chanGet, modChan]
  simp only [List.mem_cons, List.not_mem_nil, or_false] at h
  rcases h with rfl | rfl
  · show toWord (chanGet (modChan (portGet s p).meaChsel (fun c => { c with hi := 0x3FF }) s) (portGet s p).meaChsel).hi = _
    rw [hget]
    rfl
  · show toWord (chanGet (modChan (portGet s p).meaChsel (fun c => { c with lo := 0x3FF }) s) (portGet s p).meaChsel).lo = _
    rw [hget]
    rfl

theorem readOwn_clearRc_rule (p : Port) (s : State) : readOwn (clearRc p 0x517 s) p 0x517 = clearedWord 0x517 := by
  have hget : ∀ k f, ruleGet (modRule k f s) k = f (ruleGet s k) := fun k f => by simp [ruleGet, modRule]
  show toWord (ruleGet (modRule (portGet s p).lkoSel (fun r => { r with fires := 0 }) s) (portGet s p).lkoSel).fires = _
  rw [hget]
  rfl

theorem readOwn_clearRc_last {a : Nat} (h : a ∈ [0x4BE, 0x518, 0x58F, 0x602, 0x603, 0x78F]) (p : Port) (s : State) :
    readOwn (clearRc p a s) p a = clearedWord a := by
  simp only [List.mem_cons, List.not_mem_nil, or_false] at h
  rcases h with rfl | rfl | rfl | rfl | rfl | rfl <;> rfl

/-- An RC word reads cleared after its read (R9). -/
theorem regRead_clearRc {a : Nat} (h : a ∈ rcWords) {p : Port} {s : State}
    (hlocal : isLocal (portGet s p).sltSel = true) : regRead (clearRc p a s) p a = clearedWord a := by
  rw [regRead_of_rc h]
  simp only [rcWords, List.mem_append] at h
  rcases h with ((h | h) | h) | h
  · exact readOwn_clearRc_first h p s
  · exact readOwn_clearRc_slot h hlocal
  · exact readOwn_clearRc_tether h p s
  · have hsplit : a ∈ [0x318, 0x319] ∨ a ∈ [0x49E, 0x49F] ∨ a = 0x517 ∨ a ∈ [0x4BE, 0x518, 0x58F, 0x602, 0x603, 0x78F] := by
      simp only [List.mem_cons, List.not_mem_nil, or_false] at h ⊢
      omega
    rcases hsplit with h | h | rfl | h
    · exact readOwn_clearRc_sat h p s
    · exact readOwn_clearRc_channel h p s
    · exact readOwn_clearRc_rule p s
    · exact readOwn_clearRc_last h p s

/-- What the clear of a word leaves: the hub's own words, the banks, the other port, and that the reader answers. -/
def ClearKept (p : Port) (s t : State) : Prop :=
  t.sys = s.sys ∧ t.fb = s.fb ∧ portGet t p.other = portGet s p.other ∧ (portGet t p).answering = (portGet s p).answering

theorem clearKept_of_ports {p : Port} {s t : State} (hsys : t.sys = s.sys) (hfb : t.fb = s.fb) (h : t.ports = s.ports) :
    ClearKept p s t :=
  ⟨hsys, hfb, portGet_of_ports h _, congrArg HostPort.answering (portGet_of_ports h p)⟩

theorem clearKept_clearRc (p : Port) (a : Nat) (s : State) : ClearKept p s (clearRc p a s) := by
  have hite : ∀ {c : Prop} [Decidable c] {t u : State}, ClearKept p s t → ClearKept p s u → ClearKept p s (if c then t else u) := by
    intro c _ t u ht hu
    split
    · exact ht
    · exact hu
  have hkept : ∀ {t : State}, t.sys = s.sys → t.fb = s.fb → t.ports = s.ports → ClearKept p s t := clearKept_of_ports
  have hslot : ∀ k, ClearKept p s (clearSlot k a s) := fun k => by
    unfold clearSlot
    exact hite (hite (hkept rfl rfl rfl) (hkept rfl rfl rfl)) (hite (hkept rfl rfl rfl) (hkept rfl rfl rfl))
  have hsat : ClearKept p s (clearSat p a s) := by
    unfold clearSat
    split <;> exact hkept rfl rfl rfl
  have hmea : ClearKept p s (clearMea p a s) := by
    unfold clearMea
    exact hite (hkept rfl rfl rfl) (hite (hkept rfl rfl rfl) (hkept rfl rfl rfl))
  have hcrc : ClearKept p s (modPort p (fun h => { h with crcErr := 0 }) s) := by
    cases p <;> exact ⟨rfl, rfl, rfl, rfl⟩
  unfold clearRc
  refine hite hcrc (hite (hkept rfl rfl rfl) (hite (hkept rfl rfl rfl) (hite (hite (hslot _) (hkept rfl rfl rfl)) ?_)))
  refine hite (hkept rfl rfl rfl) (hite hsat (hite hmea ?_))
  refine hite (hkept rfl rfl rfl) (hite (hkept rfl rfl rfl) (hite (hkept rfl rfl rfl) ?_))
  exact hite (hkept rfl rfl rfl) (hite (hkept rfl rfl rfl) (hkept rfl rfl rfl))

/-- The read of an RC word, which no group holds. -/
theorem singleRead_rc {a : Nat} (h : a ∈ rcWords) {p : Port} {s : State} (hlive : NotReplayed s) :
    singleRead p a s = (regRead s p a, clearRc p a s) := by
  have hall : ∀ a ∈ rcWords, groupOf a = none ∧ accOf a = .rc ∧ inRange a 0x0C0 0x0CF = false ∧ a ≠ 0x180 ∧
      inRange a 0x1C0 0x1FF = false ∧ a ≠ 0x601 := by decide
  obtain ⟨hgroup, hacc, hmor, halloc, hwin, hrnd⟩ := hall a h
  rw [singleRead_of_groupless p hgroup hlive, actingRead]
  simp only [hmor, halloc, hwin, hrnd, hacc, Bool.false_eq_true, if_false, if_true]

/-- No response shows in an RC word. -/
theorem regRead_respond_rc {a : Nat} (h : a ∈ rcWords) (p q : Port) (r : Response) (s : State) :
    regRead (respond p r s) q a = regRead s q a := by
  have hall : ∀ a ∈ rcWords, a = 0x08D ∨ 0x0C0 ≤ a := by decide
  rcases hall a h with rfl | ha
  · have hport := portGet_respond p q r s
    show toWord (portGet (respond p r s) q).crcErr = toWord (portGet s q).crcErr
    rw [hport]
  · exact regRead_respond (.inr ha) p q r s

theorem completes_rcRead {p : Port} {addr : Addr} {s : State} (h : Admitted s p false addr.toNat) (hlive : NotReplayed s)
    (hacc : accOf addr.toNat = .rc) (hlocal : isLocal (portGet s p).sltSel = true) :
    Completes (exec (.rcRead p addr none) s) fun t =>
      Owes t p .ok addr.toNat (regRead s p addr.toNat) ∧
      regRead t p addr.toNat = (if addr.toNat = 0x49E ∨ addr.toNat = 0x49F then 0x3FF else 0) ∧
      t.sys = s.sys ∧ t.fb = s.fb ∧ portGet t p.other = portGet s p.other := by
  have hmem := mem_rcWords hacc
  have hall : ∀ a ∈ rcWords, a < 0xF00 ∧ unsignedRead a = false := by decide
  obtain ⟨hlow, hsigned⟩ := hall _ hmem
  have hexec : exec (.rcRead p addr none) s = .next (readFrame p addr.toNat s) := framed_read hlow _
  rw [hexec]
  generalize addr.toNat = a at *
  set u := takeSdi p 32 (sdiHead 0 a 0) s with hu
  have hsel : (portGet u p).sltSel = (portGet s p).sltSel := by cases p <;> rfl
  have hclear : regRead (clearRc p a u) p a = clearedWord a := by
    refine regRead_clearRc hmem ?_
    rw [hsel]
    exact hlocal
  obtain ⟨hsys, hfb, hother, hanswers⟩ := clearKept_clearRc p a u
  have hheard : (portGet (clearRc p a u) p).answering = true := by
    rw [hanswers]
    have := answering_of_heard h.1
    cases p <;> exact this
  have hread : readFrame p a s = respond p { stat := .ok, addr := a, data := regRead s p a } (clearRc p a u) := by
    rw [readFrame_of_admitted h hlow, singleRead_rc hmem (s := u) hlive, hsigned, regRead_takeSdi]
    rfl
  rw [hread]
  refine completes_next ⟨owes_respond hheard .., ?_, ?_, ?_, ?_⟩
  · rw [regRead_respond_rc hmem, hclear, clearedWord]
  · rw [respond_frame, hsys]
    rfl
  · rw [respond_frame, hfb]
    rfl
  · rw [portGet_respond_other, hother]
    cases p <;> rfl

/-! ### Burst reads -/

theorem mem_burstAddrs {a n b : Nat} (h : b ∈ burstAddrs a n) (hn : 1 ≤ n) : a ≤ b ∧ b < a + n := by
  unfold burstAddrs at h
  rw [List.mem_filterMap] at h
  obtain ⟨k, hk, hb⟩ := h
  rw [List.mem_range] at hk
  split at hb
  · simp only [Option.some.injEq] at hb
    omega
  · cases hb

/-- In RUN and in STANDBY every word is open to the hosts. -/
theorem burstRights_of_run {s : State} (h : s.sys.state = .run ∨ s.sys.state = .standby) (w : Bool) (l : List Nat) :
    burstRights s.sys.state w l = none := by
  unfold burstRights
  rw [List.findSome?_eq_none_iff]
  intro a _
  rcases h with h | h <;> rw [h] <;> rfl

theorem takeSdi_answering (p q : Port) (edges : Nat) (bits : List Bool) (s : State) :
    (portGet (takeSdi p edges bits s) q).answering = (portGet s q).answering := by
  cases p <;> cases q <;> rfl

theorem completes_burstRead {p : Port} {addr : Addr} {n : Nat} {crc : Byte} {s : State}
    (hcrc : GoodCrc 2 addr (toWord n) crc) (hheard : heard s p = true) (hstate : s.sys.state = .run ∨ s.sys.state = .standby)
    (hn : 1 ≤ n) (hend : addr.toNat + n ≤ 0xF00) (hwindow : addr.toNat + n ≤ 0x1C0 ∨ 0x200 ≤ addr.toNat) :
    Completes (exec (.burstRead p addr n crc [] none) s) fun t =>
      (portGet t p).owed.stat = .ok ∧ (portGet t p).owed.addr = addr.toNat ∧ (portGet t p).owed.data = toWord n ∧
      (portGet t p).owed.burst = (List.range n).map (fun i => regRead s p (addr.toNat + i)) ∧
      (portGet t p).owed.crc16 = crc16Words ((List.range n).map (fun i => regRead s p (addr.toNat + i))) ∧
      PortsAnswer s t p ∧ t = { s with ports := t.ports } := by
  set u := takeSdi p (64 + 10 * n) (sdiHead 2 addr.toNat n) s with hu
  set l := (List.range n).map (fun i => regRead s p (addr.toNat + i)) with hl
  have hlive : NotReplayed s := fun he => by rcases hstate with h | h <;> (rw [he] at h; cases h)
  have htest : frameTest s p (.burstRead addr n) = false := by
    have : ¬ 0xF00 < addr.toNat + n := by omega
    simp [frameTest, testOpen, this]
  have hreason : burstReadReason addr.toNat n = 0 := by
    have h1 : n ≠ 0 := by omega
    have h2 : addr.toNat + n ≤ 0x1000 := by omega
    have h3 : ¬ 0xF00 ≤ addr.toNat := by omega
    have h4 : ¬ 0xF00 < addr.toNat + n := by omega
    simp [burstReadReason, burstFits, h1, h2, h3, h4]
  have hecc : burstEcc p (burstAddrs addr.toNat n) u = u := by
    have hnone : (burstAddrs addr.toNat n).filter (fun a => inRange a 0x1C0 0x1FF && !replayed u a) = [] := by
      rw [List.filter_eq_nil_iff]
      intro b hb
      have := mem_burstAddrs hb hn
      simp only [inRange, Bool.and_eq_true, decide_eq_true_eq]
      omega
    rw [burstEcc, hnone]
    rfl
  have hframe : burstReadFrame p addr.toNat n s =
      respond p { stat := .ok, addr := addr.toNat, data := toWord n, burst := l, crc16 := crc16Words l } u := by
    unfold burstReadFrame
    dsimp only
    rw [← hu, burstRights_of_run (s := u) hstate]
    dsimp only
    rw [hreason, if_neg (by decide), hecc, hu, shownWords_takeSdi hlive]
  have hexec : exec (.burstRead p addr n crc [] none) s = .next (burstReadFrame p addr.toNat n s) := by
    show execBurstRead p addr n crc [] none s = _
    unfold execBurstRead
    dsimp only
    rw [show upset [] s = s from rfl, framed, htest, withTie, checked, if_pos hcrc, runFrame, if_pos hheard]
    rfl
  have hanswer : (portGet u p).answering = true := (takeSdi_answering ..).trans (answering_of_heard hheard)
  have howed : ∀ r, (portGet (respond p r u) p).owed = r := fun r => by
    rw [respond_of_answering hanswer, portGet_modPort_same]
  have hseen : Answered (portGet s p) (portGet u p) := by cases p <;> rfl
  have hother : portGet u p.other = portGet s p.other := by cases p <;> rfl
  rw [hexec, hframe]
  refine completes_next ⟨?_, ?_, ?_, ?_, ?_, portsAnswer_of ?_ (answered_trans hseen (answered_respond ..)), ?_⟩
  · rw [howed]
  · rw [howed]
  · rw [howed]
  · rw [howed]
  · rw [howed]
  · rw [portGet_respond_other, hother]
  · rw [respond_frame]
    rfl

theorem completes_burstRead_refused {p : Port} {addr : Addr} {n : Nat} {crc : Byte} {s : State}
    (hcrc : GoodCrc 2 addr (toWord n) crc) (hheard : heard s p = true) (hstate : s.sys.state = .run ∨ s.sys.state = .standby)
    (hrange : n = 0 ∨ 0x1000 < addr.toNat + n) (hclosed : s.rnd.otp.testClosed = true) :
    Completes (exec (.burstRead p addr n crc [] none) s) fun t =>
      (portGet t p).owed.stat = .refused ∧ (portGet t p).refuseReason = 7 ∧
      (portGet t p).owed.burst = List.replicate n 0 ∧ t = { s with ports := t.ports } := by
  set u := takeSdi p (64 + 10 * n) (sdiHead 2 addr.toNat n) s with hu
  have htest : frameTest s p (.burstRead addr n) = false := by simp [frameTest, testOpen, hclosed]
  have hfits : burstFits addr.toNat n = false := by
    rw [burstFits, Bool.and_eq_false_iff, decide_eq_false_iff_not, decide_eq_false_iff_not]
    omega
  have hreason : burstReadReason addr.toNat n = 7 := by simp [burstReadReason, hfits]
  have hframe : burstReadFrame p addr.toNat n s = withZeros p n (burstDown p addr.toNat n .refused 7 u) := by
    unfold burstReadFrame
    dsimp only
    rw [← hu, burstRights_of_run (s := u) hstate]
    dsimp only
    rw [hreason, if_pos (by decide)]
  have hexec : exec (.burstRead p addr n crc [] none) s = .next (burstReadFrame p addr.toNat n s) := by
    show execBurstRead p addr n crc [] none s = _
    unfold execBurstRead
    dsimp only
    rw [show upset [] s = s from rfl, framed, htest, withTie, checked, if_pos hcrc, runFrame, if_pos hheard]
    rfl
  have hanswer : (portGet (noteRefusal p addr.toNat 7 true u) p).answering = true := by
    have h := answering_of_heard hheard
    cases p <;> exact h
  have hdown : burstDown p addr.toNat n .refused 7 u = modPort p (fun x => { x with
      sent := x.owed, sdo := responseBits x.owed, owed := { stat := .refused, addr := addr.toNat, data := toWord n }
      said := x.said ++ [responseEvent p true { stat := .refused, addr := addr.toNat, data := toWord n }] })
      (noteRefusal p addr.toNat 7 true u) := by
    rw [burstDown, if_pos rfl, respond_of_answering hanswer]
  have hstill : (portGet (burstDown p addr.toNat n .refused 7 u) p).answering = true := by
    rw [hdown, portGet_modPort_same]
    exact hanswer
  rw [hexec, hframe, withZeros, if_pos hstill]
  refine completes_next ⟨?_, ?_, ?_, ?_⟩
  · rw [portGet_modPort_same, hdown, portGet_modPort_same]
    rfl
  · rw [portGet_modPort_same, hdown, portGet_modPort_same]
    show (portGet (noteRefusal p addr.toNat 7 true u) p).refuseReason = 7
    rw [noteRefusal, portGet_modPort_same]
  · rw [portGet_modPort_same]
    rfl
  · rw [hdown]
    rfl

/-- Settles O28. -/
theorem readFrames : Obligations.ReadFrames :=
  ⟨fun _ _ _ _ _ _ => completes_groupLatchRead, fun _ _ _ h hlive hacc _ => completes_rcRead h hlive hacc, fun _ _ => completes_hstAgainRead,
    fun _ _ _ _ _ => completes_burstRead, fun _ _ _ _ _ => completes_burstRead_refused⟩

end Machine
end Sys2Proof
end

section
/-! Single-frame and burst writes, and what arrives damaged (chapters 08, 09). -/
namespace Sys2Proof
namespace Machine

open Safety

/-! ### Fault events and the ports -/

/-- Of a port's words only the event words have moved, and whether it answers. -/
def Noted (x y : HostPort) : Prop := y = { x with ievt := y.ievt, ievtNew := y.ievtNew, answering := y.answering }

/-- Of both ports' words only the event words have moved, and whether they answer. -/
def PortsNoted (s t : State) : Prop := ∀ q, Noted (portGet s q) (portGet t q)

theorem portsNoted_refl (s : State) : PortsNoted s s := fun _ => rfl

theorem portsNoted_trans {s t u : State} (h : PortsNoted s t) (h' : PortsNoted t u) : PortsNoted s u := fun q =>
  (h' q).trans (by rw [h q])

theorem portsNoted_of_ports {s t : State} (h : t.ports = s.ports) : PortsNoted s t := fun q => by
  rw [Noted, portGet_of_ports h]

theorem portsNoted_setIevtBoth (bits : Word) (s : State) : PortsNoted s (setIevtBoth bits s) := fun q => by
  cases q <;> rfl

theorem portsNoted_coreWake (n : Nat) (s : State) : PortsNoted s (coreWake n s) := by
  unfold coreWake
  split
  · exact portsNoted_trans (portsNoted_of_ports rfl) (portsNoted_setIevtBoth _ _)
  · exact portsNoted_of_ports rfl
  · exact portsNoted_refl s

theorem portsNoted_fatalEnter (n k kind frx : Nat) (s : State) : PortsNoted s (fatalEnter n k kind frx s) := by
  unfold fatalEnter
  dsimp only
  split
  · exact portsNoted_refl s
  · split
    · split
      · exact portsNoted_of_ports rfl
      · exact portsNoted_refl s
    · intro q
      cases q <;> simp [Noted, portGet, perPortGet]

/-- Fault events move of the ports only the event words, and in FATAL that they answer. -/
theorem portsNoted_raiseMany (b : FBlk) (ks : List Nat) (s : State) : PortsNoted s (raiseMany b ks s) := by
  refine raiseMany_keeps portsNoted_refl portsNoted_trans (fun x s => portsNoted_of_ports rfl) (fun k c e s => ?_)
    (fun c e d s => ?_) (fun f k e s => ?_) portsNoted_fatalEnter ks s
  · exact portsNoted_of_ports (by simp)
  · exact portsNoted_of_ports (by simp)
  · unfold wakeByFault
    split
    · exact portsNoted_coreWake 4 s
    · exact portsNoted_refl s

/-! ### Corrected events -/

/-- Events of corrected class never lead to FATAL, in whatever state the hub is. -/
theorem faultFrame_raiseMany {b : FBlk} {ks : List Nat} (hfatal : ofClass b .fatal ks = []) (hcont : ofClass b .contained ks = [])
    (s : State) : FaultFrame s (raiseMany b ks s) := by
  by_cases hlive : Live s
  · exact (events_raiseMany hlive hfatal (.inl hcont)).frame
  · have hor : s.sys.state = .off ∨ s.sys.state = .fatal := by
      by_contra h
      exact hlive (not_or.mp h)
    have hsame : raiseMany b ks s = s := by rcases hor with h | h <;> simp [raiseMany, h, hfatal]
    rw [hsame]
    rfl

theorem classOf_hst (p : Port) (k : Nat) : classOf (.hst p) k = .corrected := by
  simp [classOf, fatalMask, containedMask]

theorem ofClass_hst (p : Port) (c : FClass) (hc : c ≠ .corrected) (ks : List Nat) : ofClass (.hst p) c ks = [] := by
  simp [ofClass, classOf_hst, hc.symm]

theorem ofClass_hst_corrected (p : Port) (ks : List Nat) : ofClass (.hst p) .corrected ks = ks := by
  simp [ofClass, classOf_hst]

theorem raiseCorrected_fb (b : FBlk) (ks : List Nat) (f : FaultBank) (s : State) :
    (raiseCorrected b ks f s).fb = bankSet s.fb b (correctedEvent (containedMask b) f (srcBits ks)).1 := by
  unfold raiseCorrected
  dsimp only
  rw [(foldl_wakeByFault_keeps ..).2.1, recFreeze_frame, foldl_queueFault_frame]
  rfl

/-- The sticky bits of a port's own events. -/
theorem stickyBits_raiseMany_hst {p : Port} {ks : List Nat} {s : State} (hlive : Live s) :
    stickyBits (bankGet (raiseMany (.hst p) ks s).fb (.hst p)) = stickyBits (bankGet s.fb (.hst p)) ||| srcBits ks := by
  have hraise : raiseMany (.hst p) ks s = if ks = [] then s else raiseCorrected (.hst p) ks (bankGet s.fb (.hst p)) s := by
    unfold raiseMany
    simp [hlive.1, hlive.2, ofClass_hst, ofClass_hst_corrected]
  rw [hraise]
  split
  · rename_i h
    rw [h]
    exact BitVec.or_zero.symm
  · rw [raiseCorrected_fb, bankGet_bankSet, if_pos rfl, stickyBits_correctedEvent]

/-! ### A damaged transaction -/

/-- The port's count of damaged transactions, answered CRC_BAD, before LINK_ERR and other events are raised. -/
def crcAnswered (p : Port) (a : Nat) (d : Word) (s : State) : State :=
  let ticks := (s.sys.tick :: (portGet s p).crcTicks).filter (fun k => decide (s.sys.tick - k ≤ 800000))
  respond p { stat := .crcBad, addr := a, data := d } (modPort p (fun h => { h with
    crcErr := satInc h.crcErr, crcTicks := if 16 ≤ ticks.length then [] else ticks }) s)

theorem crcBad_eq (p : Port) (a : Nat) (d : Word) (more : List Nat) (s : State) :
    ∃ l, crcBad p a d more s = raiseMany (.hst p) (l ++ more) (crcAnswered p a d s) := ⟨_, rfl⟩

theorem crcAnswered_frame (p : Port) (a : Nat) (d : Word) (s : State) :
    crcAnswered p a d s = { s with ports := (crcAnswered p a d s).ports } := by
  unfold crcAnswered
  rw [respond_frame]
  rfl

/-- What a damaged transaction of a port that answers does. -/
structure CrcBad (p : Port) (a : Nat) (d : Word) (s t : State) : Prop where
  owes : Owes t p .crcBad a d
  count : (portGet t p).crcErr = satInc (portGet s p).crcErr
  ien0 : (portGet t p).ien0 = (portGet s p).ien0
  frame : FaultFrame s t

theorem crcBad_crcBad {p : Port} {s : State} (h : (portGet s p).answering = true) (a : Nat) (d : Word) (more : List Nat) :
    CrcBad p a d s (crcBad p a d more s) := by
  obtain ⟨l, hl⟩ := crcBad_eq p a d more s
  have hnoted := portsNoted_raiseMany (.hst p) (l ++ more) (crcAnswered p a d s) p
  have hframe := faultFrame_raiseMany (ofClass_hst p .fatal (by decide) (l ++ more))
    (ofClass_hst p .contained (by decide) (l ++ more)) (crcAnswered p a d s)
  rw [← hl] at hnoted hframe
  have hanswer : (portGet (crcAnswered p a d s) p).owed = { stat := .crcBad, addr := a, data := d } ∧
      (portGet (crcAnswered p a d s) p).crcErr = satInc (portGet s p).crcErr ∧
      (portGet (crcAnswered p a d s) p).ien0 = (portGet s p).ien0 := by
    unfold crcAnswered
    dsimp only
    rw [respond_of_answering (by rw [portGet_modPort_same]; exact h)]
    simp only [portGet_modPort_same]
    exact ⟨trivial, trivial, trivial⟩
  obtain ⟨howed, hcount, hien⟩ := hanswer
  refine ⟨?_, ?_, ?_, ?_⟩
  · rw [Owes, hnoted]
    exact howed
  · rw [hnoted]
    exact hcount
  · rw [hnoted]
    exact hien
  · refine faultFrame_trans ?_ hframe
    rw [FaultFrame, crcAnswered_frame]

/-- A damaged transaction after the recorder has noted its bits. -/
theorem crcBad_takeSdi {p : Port} {s : State} (h : heard s p = true) (edges : Nat) (bits : List Bool) (a : Nat) (d : Word)
    (more : List Nat) : CrcBad p a d s (crcBad p a d more (takeSdi p edges bits s)) := by
  have hanswer : (portGet (takeSdi p edges bits s) p).answering = true :=
    (takeSdi_answering ..).trans (answering_of_heard h)
  obtain ⟨howes, hcount, hien, hframe⟩ := crcBad_crcBad hanswer a d more
  refine ⟨howes, hcount.trans ?_, hien.trans ?_, faultFrame_trans ?_ hframe⟩
  · cases p <;> rfl
  · cases p <;> rfl
  · rfl

theorem completes_registerWrite_damaged {p : Port} {addr : Addr} {data : Word} {crc : Byte} {s : State}
    (hheard : heard s p = true) (hclosed : s.rnd.otp.testClosed = true) (hcrc : ¬ GoodCrc 1 addr data crc) :
    Completes (exec (.registerWrite p addr data crc none) s) fun t =>
      Owes t p .crcBad addr.toNat data ∧ (portGet t p).crcErr = satInc (portGet s p).crcErr ∧ FaultFrame s t := by
  have htest : frameTest s p (.write addr data) = false := by simp [frameTest, testOpen, hclosed]
  have hexec : exec (.registerWrite p addr data crc none) s = .next (crcBad p addr.toNat data [] (takeSdi p 32
      (bitsMsb 32 (256 * frameBits 1 addr.toNat data.toNat + crc.toNat)) s)) := by
    show execRegisterWrite p addr data crc none s = _
    unfold execRegisterWrite
    dsimp only
    rw [framed, htest, withTie, checked, if_neg hcrc, if_pos hheard]
    rfl
  rw [hexec]
  obtain ⟨howes, hcount, -, hframe⟩ := crcBad_takeSdi hheard 32
    (bitsMsb 32 (256 * frameBits 1 addr.toNat data.toNat + crc.toNat)) addr.toNat data []
  exact completes_next ⟨howes, hcount, hframe⟩

theorem completes_malformed {p : Port} {burst : Bool} {edges : Nat} {bits : List Byte} {s : State}
    (hheard : heard s p = true) :
    Completes (exec (.malformedTransaction p burst edges bits) s) fun t =>
      Owes t p .crcBad 0xFFF 0x3FF ∧ (portGet t p).crcErr = satInc (portGet s p).crcErr ∧
      (burst = true → s.sys.state ≠ .fatal → (bankGet t.fb (.hst p)).fst.getLsbD 1 = true) ∧ FaultFrame s t := by
  set u := takeSdi p edges (rawBits bits) s with hu
  have hexec : exec (.malformedTransaction p burst edges bits) s =
      .next (crcBad p 0xFFF 0x3FF (if burst then [1] else []) u) := by
    show execMalformedTransaction p burst edges bits s = _
    rw [execMalformedTransaction, malformed, if_pos hheard]
  rw [hexec]
  obtain ⟨howes, hcount, -, hframe⟩ := crcBad_takeSdi hheard edges (rawBits bits) 0xFFF 0x3FF (if burst then [1] else [])
  refine completes_next ⟨howes, hcount, fun hburst hfatal => ?_, hframe⟩
  have hoff : s.sys.state ≠ .off := fun he => by simp [heard, he] at hheard
  obtain ⟨l, hl⟩ := crcBad_eq p 0xFFF 0x3FF [1] u
  have hlive : Live (crcAnswered p 0xFFF 0x3FF u) := by
    rw [crcAnswered_frame]
    exact ⟨hoff, hfatal⟩
  have hbits := stickyBits_raiseMany_hst (p := p) (ks := l ++ [1]) hlive
  have hbit : (srcBits (l ++ [1])).getLsbD 1 = true := by
    rw [srcBits, List.foldl_append, List.foldl_cons, List.foldl_nil, BitVec.getLsbD_or]
    simp [srcBit]
  rw [← hl] at hbits
  rw [if_pos hburst]
  have hword := congrArg (fun w : BitVec 9 => w.getLsbD 1) hbits
  simp only [BitVec.getLsbD_or, hbit, Bool.or_true] at hword
  simpa [stickyBits] using hword

/-! ### A single write -/

theorem framed_write {s : State} {p : Port} {addr : Addr} (ha : addr.toNat < 0xF00) (w : Word) (t : State) :
    framed s p (.write addr w) none t = .next t := by
  have htest : testOpen s p addr.toNat 1 true = false := by
    have : ¬ 0xF00 < addr.toNat + 1 := by omega
    simp [testOpen, this]
  simp [framed, frameTest, htest]

/-- A write with a good CRC is the write of its word. -/
theorem exec_registerWrite {p : Port} {addr : Addr} {data : Word} {crc : Byte} {s : State} (hcrc : GoodCrc 1 addr data crc)
    (ha : addr.toNat < 0xF00) :
    exec (.registerWrite p addr data crc none) s = .next (wordFrame p addr.toNat data s) := by
  show execRegisterWrite p addr data crc none s = _
  rw [execRegisterWrite, framed_write ha, withTie, checked, if_pos hcrc, runFrame]

/-- A write that is taken is answered OK with the word that it leaves. -/
theorem wordFrame_taken {p : Port} {a : Nat} {w : Word} {s t : State} (h : Admitted s p true a) (hshadow : shadowWord a = false)
    (hword : writeWord p a w.toNat (writeSeen p a w.toNat s) = (0, t)) (hpreset : presetDone s p a w.toNat = false) :
    wordFrame p a w s = respond p { stat := .ok, addr := a, data := shownWord p a t } t := by
  obtain ⟨hheard, hrights⟩ := h
  have hpreset' : presetDone (takeSdi p 32 (sdiHead 1 a w.toNat) s) p a w.toNat = false := by
    rw [← hpreset]
    cases p <;> rfl
  rw [writeSeen] at hword
  unfold wordFrame writeFrame
  simp [hheard, hrights, hword, writtenWord, hshadow, hpreset']

/-- A write that completes the port reset is answered nothing. -/
theorem wordFrame_void {p : Port} {a : Nat} {w : Word} {s t : State} (h : Admitted s p true a)
    (hword : writeWord p a w.toNat (writeSeen p a w.toNat s) = (0, t)) (hpreset : presetDone s p a w.toNat = true) :
    wordFrame p a w s = t := by
  obtain ⟨hheard, hrights⟩ := h
  have hpreset' : presetDone (takeSdi p 32 (sdiHead 1 a w.toNat) s) p a w.toNat = true := by
    rw [← hpreset]
    cases p <;> rfl
  rw [writeSeen] at hword
  unfold wordFrame writeFrame
  simp [hheard, hrights, hword, hpreset']

theorem completes_registerWrite {p : Port} {addr : Addr} {data : Word} {crc : Byte} {s u : State}
    (h : WriteAdmitted s p addr.toNat) (hcrc : GoodCrc 1 addr data crc) (ha : addr.toNat < 0xF00)
    (hword : writeWord p addr.toNat data.toNat (takeSdi p 32 (sdiHead 1 addr.toNat data.toNat) s) = (0, u))
    (hpreset : presetDone s p addr.toNat data.toNat = false) (hshadow : shadowWord addr.toNat = false)
    (hanswer : (portGet u p).answering = true) :
    Completes (exec (.registerWrite p addr data crc none) s) fun t =>
      Owes t p .ok addr.toNat (shownWord p addr.toNat u) ∧ t = { u with ports := t.ports } ∧
      portGet t p.other = portGet u p.other := by
  have hframe := wordFrame_taken h.1 hshadow hword hpreset
  rw [exec_registerWrite hcrc ha, hframe]
  exact completes_next ⟨owes_respond hanswer .., respond_frame .., portGet_respond_other ..⟩

theorem toWord_toNat (w : Word) : toWord w.toNat = w := by
  rw [toWord, BitVec.ofNat_toNat, BitVec.setWidth_eq]

theorem regRead_ien0 (s : State) (p : Port) : regRead s p 0x084 = (portGet s p).ien0 := by
  cases p <;> rfl

/-- The state that a write of HST_IEN0 leaves. -/
def ien0Written (p : Port) (v : Nat) (s : State) : State := modPort p (fun h => { h with ien0 := toWord v }) s

theorem completes_registerWrite_ien0 {p : Port} {data : Word} {crc : Byte} {s : State} (h : WriteAdmitted s p 0x084)
    (hcrc : GoodCrc 1 0x084 data crc) :
    Completes (exec (.registerWrite p 0x084 data crc none) s) fun t =>
      (portGet t p).ien0 = data ∧ Owes t p .ok 0x084 data ∧ portGet t p.other = portGet s p.other ∧
      t = { s with ports := t.ports } := by
  set u := writeSeen p 0x084 data.toNat s with hu
  set v := ien0Written p data.toNat u with hv
  have hown : writeOwn p 0x084 data.toNat u = (0, v) := rfl
  have hfault : faultWordAt p 0x084 = none := by cases p <;> decide
  have hlive : NotReplayed s := notReplayed_of_admitted h.1 (by decide)
  have hlive' : v.sys.state ≠ .replay := hlive
  have hdata : shownWord p 0x084 v = data := by
    rw [shownWord_of_live hlive', regRead_ien0, hv, ien0Written, portGet_modPort_same]
    exact toWord_toNat data
  have hanswer : (portGet v p).answering = true := by
    have := answering_of_heard h.1.1
    cases p <;> exact this
  have hframe := wordFrame_ok h (by decide) hfault (by decide) (by decide) hown
  rw [hdata] at hframe
  rw [exec_registerWrite hcrc (by decide), show wordFrame p (0x084 : Addr).toNat data s = _ from hframe]
  refine completes_next ⟨?_, owes_respond hanswer .., ?_, ?_⟩
  · rw [portGet_respond, hv, ien0Written, portGet_modPort_same]
    exact toWord_toNat data
  · rw [portGet_respond_other]
    cases p <;> rfl
  · rw [respond_frame]
    rfl

/-- The reason for which a write of an address that takes none is refused. -/
def closedReason (a : Nat) : Nat := match accOf a with
  | .reserved => 3
  | .frx => 4
  | _ => 1

theorem completes_registerWrite_closed {p : Port} {addr : Addr} {data : Word} {crc : Byte} {s : State}
    (h : Admitted s p true addr.toNat) (hcrc : GoodCrc 1 addr data crc) (ha : addr.toNat < 0xF00)
    (hacc : accOf addr.toNat = .ro ∨ accOf addr.toNat = .rc ∨ accOf addr.toNat = .reserved ∨ accOf addr.toNat = .frx) :
    Completes (exec (.registerWrite p addr data crc none) s) fun t =>
      (portGet t p).owed.stat = .refused ∧ (portGet t p).owed.addr = addr.toNat ∧
      (portGet t p).refuseAddr = addr.toNat ∧ (portGet t p).refuseBurst = false ∧
      (portGet t p).refuseReason = closedReason addr.toNat ∧
      portGet t p.other = portGet s p.other ∧ t = { s with ports := t.ports } := by
  obtain ⟨hheard, hrights⟩ := h
  set u := writeSeen p addr.toNat data.toNat s with hu
  obtain ⟨n, hn, hreason⟩ : ∃ n, n + 1 = closedReason addr.toNat ∧
      writeWord p addr.toNat data.toNat u = (n + 1, u) := by
    unfold closedReason
    rcases hacc with he | he | he | he <;> rw [he]
    · exact ⟨0, rfl, by rw [writeWord, writeJudged, he]⟩
    · exact ⟨0, rfl, by rw [writeWord, writeJudged, he]⟩
    · exact ⟨2, rfl, by rw [writeWord, writeJudged, he]⟩
    · exact ⟨3, rfl, by rw [writeWord, writeJudged, he]⟩
  have hframe : wordFrame p addr.toNat data s = turnDown p addr.toNat .refused (n + 1) u := by
    unfold wordFrame writeFrame
    rw [if_pos hheard]
    dsimp only
    rw [show (takeSdi p 32 (sdiHead 1 addr.toNat data.toNat) s) = u from rfl, show u.sys.state = s.sys.state from rfl, hrights]
    dsimp only
    rw [hreason]
  have hanswer : (portGet u p).answering = true := answering_writeSeen hheard rfl
  have hrefused := refused_wroteRefused hanswer (portGet_writeSeen_other p addr.toNat data.toNat s) addr.toNat (n + 1)
  rw [exec_registerWrite hcrc ha, hframe, turnDown_refused, ← hn]
  refine completes_next ⟨hrefused.stat, hrefused.addr, hrefused.noted.1, ?_, hrefused.noted.2, hrefused.other, ?_⟩
  · rw [wroteRefused, portGet_respond, portGet_noteRefusal, if_pos rfl]
  · rw [wroteRefused_frame]
    rfl

/-! ### Burst writes -/

/-- A burst write that arrived whole with a good header, outside an open factory test. -/
theorem exec_burstWrite {p : Port} {addr : Addr} {n : Nat} {crc : Byte} {words : List Word} {crc16 : BitVec 16} {s : State}
    (hn : words.length = n) (hcrc : GoodCrc 3 addr (toWord n) crc) (hheard : heard s p = true)
    (htest : frameTest s p (.burstWrite addr words) = false) :
    exec (.burstWrite p addr n crc words crc16 none) s = .next (burstWriteFrame p addr.toNat n words crc16 s) := by
  show execBurstWrite p addr n crc words crc16 none s = _
  unfold execBurstWrite
  dsimp only
  rw [if_neg (not_not.mpr hn), framed, htest, withTie, checked, if_pos hcrc, if_pos hheard]
  rfl

/-- A burst write as the recorder has noted it. -/
def burstNoted (p : Port) (a n : Nat) (words : List Word) (crc : BitVec 16) (s : State) : State :=
  takeSdi p (48 + 10 * n)
    (sdiHead 3 a n ++ (words.map (fun w => bitsMsb 10 w.toNat)).flatten ++ bitsMsb 16 crc.toNat) s

section
variable {p : Port} {a n : Nat} {words : List Word} {crc : BitVec 16} {s : State}

theorem burstWriteFrame_ok {t : State} (hrights : burstRights s.sys.state true (burstAddrs a n) = none)
    (hfits : burstFits a n = true) (hcrc : burstCrcOk words crc = true) (ha : a < 0xF00)
    (happly : burstApply p (burstOrder ((burstAddrs a n).zip words)) (burstNoted p a n words crc s) = some t)
    (hpreset : (((burstAddrs a n).zip words).any fun e => presetDone (burstNoted p a n words crc s) p e.1 e.2.toNat) = false) :
    burstWriteFrame p a n words crc s = respond p { stat := .ok, addr := a, data := toWord n } t := by
  have hlow : ¬ 0xF00 ≤ a := by omega
  rw [burstNoted] at happly hpreset
  unfold burstWriteFrame
  simp [hrights, hfits, hcrc, hlow, happly, hpreset, -List.append_assoc]

theorem burstWriteFrame_refused (hrights : burstRights s.sys.state true (burstAddrs a n) = none)
    (hfits : burstFits a n = true) (hcrc : burstCrcOk words crc = true) (ha : a < 0xF00)
    (happly : burstApply p (burstOrder ((burstAddrs a n).zip words)) (burstNoted p a n words crc s) = none) :
    burstWriteFrame p a n words crc s =
      burstDown p a n .refused 8 (dropKeys p (burstAddrs a n) (burstNoted p a n words crc s)) := by
  have hlow : ¬ 0xF00 ≤ a := by omega
  rw [burstNoted] at happly
  unfold burstWriteFrame
  simp [hrights, hfits, hcrc, hlow, happly, burstNoted, -List.append_assoc]

theorem burstWriteFrame_damaged (hrights : burstRights s.sys.state true (burstAddrs a n) = none)
    (hfits : burstFits a n = true) (hcrc : burstCrcOk words crc = false) :
    burstWriteFrame p a n words crc s = crcBad p a (toWord n) [] (burstNoted p a n words crc s) := by
  unfold burstWriteFrame
  simp [hrights, hfits, hcrc, burstNoted]

end

theorem portGet_dropKeys_other (p : Port) (l : List Nat) (s : State) :
    portGet (dropKeys p l s) p.other = portGet s p.other :=
  foldl_keeps (fun s => portGet s p.other)
    (fun s a => by rw [portGet_dropKey, if_neg (by cases p <;> nofun)]) l s

theorem answering_dropKeys (p : Port) (l : List Nat) (s : State) :
    (portGet (dropKeys p l s) p).answering = (portGet s p).answering :=
  foldl_keeps (fun s => (portGet s p).answering) (fun s a => by rw [portGet_dropKey, if_pos rfl]) l s

theorem dropKeys_frame (p : Port) (l : List Nat) (s : State) :
    dropKeys p l s = { s with ports := (dropKeys p l s).ports } := by
  induction l generalizing s with
  | nil => rfl
  | cons a l ih =>
    show dropKeys p l (dropKey p a s) = { s with ports := (dropKeys p l (dropKey p a s)).ports }
    rw [ih]
    rfl

theorem completes_burstWrite_refused {p : Port} {addr : Addr} {words : List Word} {crc : Byte} {crc16 : BitVec 16} {s : State}
    (hcrc : GoodCrc 3 addr (toWord words.length) crc) (hcrc16 : crc16Words words = crc16.toNat) (hheard : heard s p = true)
    (hclosed : s.rnd.otp.testClosed = true)
    (hrights : burstRights s.sys.state true (burstAddrs addr.toNat words.length) = none) (hne : words ≠ [])
    (hfits : addr.toNat + words.length ≤ 0x1000) (ha : addr.toNat < 0xF00)
    (happly : burstApply p (burstOrder ((burstAddrs addr.toNat words.length).zip words)) (burstSeen p addr words crc16 s) = none) :
    Completes (exec (.burstWrite p addr words.length crc words crc16 none) s) fun t =>
      (portGet t p).owed.stat = .refused ∧ (portGet t p).refuseReason = 8 ∧ (portGet t p).refuseBurst = true ∧
      portGet t p.other = portGet s p.other ∧ t = { s with ports := t.ports } := by
  set u := burstSeen p addr words crc16 s with hu
  set l := burstAddrs addr.toNat words.length with hl
  have htest : frameTest s p (.burstWrite addr words) = false := by simp [frameTest, testOpen, hclosed]
  have hframe : burstWriteFrame p addr.toNat words.length words crc16 s =
      burstDown p addr.toNat words.length .refused 8 (dropKeys p l u) := by
    have hfit : burstFits addr.toNat words.length = true := by
      have hlen : words.length ≠ 0 := by simpa using hne
      simp [burstFits, hlen, hfits]
    have hgood : burstCrcOk words crc16 = true := by simp [burstCrcOk, hcrc16]
    exact burstWriteFrame_refused hrights hfit hgood ha happly
  rw [exec_burstWrite rfl hcrc hheard htest, hframe, burstDown, if_pos rfl]
  have hanswer : (portGet (noteRefusal p addr.toNat 8 true (dropKeys p l u)) p).answering = true := by
    refine answering_noteRefusal ?_ _ _ _
    rw [answering_dropKeys, hu, burstSeen, takeSdi_answering]
    exact answering_of_heard hheard
  refine completes_next ⟨?_, ?_, ?_, ?_, ?_⟩
  · rw [respond_of_answering hanswer, portGet_modPort_same]
  · rw [portGet_respond, portGet_noteRefusal, if_pos rfl]
  · rw [portGet_respond, portGet_noteRefusal, if_pos rfl]
  · rw [portGet_respond_other, portGet_noteRefusal, if_neg (by cases p <;> nofun), portGet_dropKeys_other]
    cases p <;> rfl
  · have hkeys : dropKeys p l u = { s with ports := (dropKeys p l u).ports } := dropKeys_frame p l u
    rw [respond_frame, noteRefusal, hkeys]
    rfl

/-- What a burst write of HST_IEN0 and HST_IEN1 leaves. -/
def iensWritten (p : Port) (v w : Word) (s : State) : State :=
  modPort p (fun h => { h with ien1 := toWord (w.toNat % 256) }) (ien0Written p v.toNat s)

theorem writeWord_ien0 {p : Port} {s : State} (h : blockResets s p 0x084 = false) (v : Nat) :
    writeWord p 0x084 v s = (0, ien0Written p v s) := by
  have hfault : faultWordAt p 0x084 = none := by cases p <;> decide
  exact writeWord_of_open (by decide) hfault h v

theorem burstApply_iens {p : Port} {s : State} (h : blockResets s p 0x084 = false) (v w : Word) :
    burstApply p [(0x084, v), (0x085, w)] s = some (iensWritten p v w s) := by
  have hfault : faultWordAt p 0x085 = none := by cases p <;> decide
  have hreset : blockResets (ien0Written p v.toNat s) p 0x085 = false := by
    rw [← h]
    cases p <;> rfl
  have hsecond : writeWord p 0x085 w.toNat (ien0Written p v.toNat s) = (0, iensWritten p v w s) :=
    writeWord_of_open (by decide) hfault hreset w.toNat
  simp only [burstApply, writeWord_ien0 h, hsecond]

theorem burstOrder_iens (v w : Word) :
    burstOrder ((burstAddrs (0x084 : Addr).toNat 2).zip [v, w]) = [(0x084, v), (0x085, w)] := by
  have haddrs : burstAddrs (0x084 : Addr).toNat 2 = [0x084, 0x085] := by decide
  have h0 : burstRank 0x084 = 2 := by decide
  have h1 : burstRank 0x085 = 2 := by decide
  rw [haddrs]
  simp [burstOrder, h0, h1]

theorem frameTest_iens (s : State) (p : Port) (v w : Word) : frameTest s p (.burstWrite 0x084 [v, w]) = false := by
  have hrange : decide (0xF00 < (0x084 : Addr).toNat + 2) = false := by decide
  show testOpen s p (0x084 : Addr).toNat 2 true = false
  rw [testOpen, hrange, Bool.and_false, Bool.false_and]

theorem goodCrc_two {crc : Byte} (h : GoodCrc 3 0x084 2 crc) : GoodCrc 3 0x084 (toWord 2) crc := by
  rw [show toWord 2 = 2 from rfl]
  exact h

theorem completes_burstWrite_iens {p : Port} {words : List Word} {crc : Byte} {crc16 : BitVec 16} {s : State}
    (h : WriteAdmitted s p 0x084) (hlen : words.length = 2) (hcrc : GoodCrc 3 0x084 2 crc)
    (hcrc16 : crc16Words words = crc16.toNat) (hstate : s.sys.state = .run ∨ s.sys.state = .standby) :
    Completes (exec (.burstWrite p 0x084 2 crc words crc16 none) s) fun t =>
      (portGet t p).ien0 = words.getD 0 0 ∧ (portGet t p).ien1 = toWord ((words.getD 1 0).toNat % 256) ∧
      (portGet t p).owed.stat = .ok ∧ (portGet t p).owed.data = 2 ∧ t = { s with ports := t.ports } := by
  obtain ⟨⟨hheard, -⟩, hreset⟩ := h
  obtain ⟨v, w, rfl⟩ := List.length_eq_two.mp hlen
  have hgood : burstCrcOk [v, w] crc16 = true := by simp [burstCrcOk, hcrc16]
  have hzip : (burstAddrs (0x084 : Addr).toNat 2).zip [v, w] = [(0x084, v), (0x085, w)] := by
    rw [show burstAddrs (0x084 : Addr).toNat 2 = [0x084, 0x085] by decide]
    rfl
  have hpreset : ∀ u, (((burstAddrs (0x084 : Addr).toNat 2).zip [v, w]).any fun e => presetDone u p e.1 e.2.toNat) = false := by
    intro u
    rw [hzip]
    simp [presetDone]
  have hkept : blockResets (burstNoted p (0x084 : Addr).toNat 2 [v, w] crc16 s) p 0x084 = false := hreset
  have hwrite := burstApply_iens hkept v w
  rw [← burstOrder_iens] at hwrite
  have hframe := burstWriteFrame_ok (burstRights_of_run hstate true _) (by decide) hgood (by decide) hwrite (hpreset _)
  have hnoted : burstNoted p (0x084 : Addr).toNat 2 [v, w] crc16 s =
      { s with ports := (burstNoted p (0x084 : Addr).toNat 2 [v, w] crc16 s).ports } := rfl
  have hport : (portGet (burstNoted p (0x084 : Addr).toNat 2 [v, w] crc16 s) p).answering = true :=
    (takeSdi_answering ..).trans (answering_of_heard hheard)
  rw [exec_burstWrite (addr := 0x084) (n := 2) rfl (goodCrc_two hcrc) hheard (frameTest_iens s p v w), hframe]
  generalize burstNoted p (0x084 : Addr).toNat 2 [v, w] crc16 s = u at hnoted hport
  have hanswer : (portGet (iensWritten p v w u) p).answering = true := by
    rw [iensWritten, portGet_modPort_same, ien0Written, portGet_modPort_same]
    exact hport
  refine completes_next ⟨?_, ?_, ?_, ?_, ?_⟩
  · rw [portGet_respond, iensWritten, portGet_modPort_same, ien0Written, portGet_modPort_same]
    exact toWord_toNat v
  · rw [portGet_respond, iensWritten, portGet_modPort_same]
    rfl
  · rw [respond_of_answering hanswer, portGet_modPort_same]
  · rw [respond_of_answering hanswer, portGet_modPort_same]
    rfl
  · rw [respond_frame, hnoted]
    rfl

theorem completes_burstWrite_damaged {p : Port} {words : List Word} {crc : Byte} {crc16 : BitVec 16} {s : State}
    (hheard : heard s p = true) (hlen : words.length = 2) (hcrc : GoodCrc 3 0x084 2 crc)
    (hcrc16 : crc16Words words ≠ crc16.toNat) (hstate : s.sys.state = .run ∨ s.sys.state = .standby) :
    Completes (exec (.burstWrite p 0x084 2 crc words crc16 none) s) fun t =>
      Owes t p .crcBad 0x084 2 ∧ (portGet t p).ien0 = (portGet s p).ien0 ∧
      (portGet t p).crcErr = satInc (portGet s p).crcErr ∧ FaultFrame s t := by
  obtain ⟨v, w, rfl⟩ := List.length_eq_two.mp hlen
  have hbad : burstCrcOk [v, w] crc16 = false := by simp [burstCrcOk, hcrc16]
  have hframe := burstWriteFrame_damaged (p := p) (a := (0x084 : Addr).toNat) (n := 2)
    (burstRights_of_run hstate true _) (by decide) hbad
  rw [exec_burstWrite (addr := 0x084) (n := 2) rfl (goodCrc_two hcrc) hheard (frameTest_iens s p v w), hframe]
  obtain ⟨howes, hcount, hien, hfault⟩ := crcBad_takeSdi hheard (48 + 10 * 2) (sdiHead 3 (0x084 : Addr).toNat 2 ++
    ([v, w].map (fun w => bitsMsb 10 w.toNat)).flatten ++ bitsMsb 16 crc16.toNat) (0x084 : Addr).toNat (toWord 2) []
  exact completes_next ⟨howes, hien, hcount, hfault⟩

/-- Settles O29. -/
theorem writeFrames : Obligations.WriteFrames :=
  ⟨fun _ _ _ _ _ _ h _ => completes_registerWrite h, fun _ _ _ _ => completes_registerWrite_ien0,
    fun _ _ _ _ _ h _ => completes_registerWrite_closed h, fun _ _ _ _ _ => completes_registerWrite_damaged,
    fun _ _ _ _ _ _ => completes_burstWrite_refused, fun _ _ _ _ _ => completes_burstWrite_iens,
    fun _ _ _ _ _ h hlen hcrc hcrc16 _ => completes_burstWrite_damaged h.1.1 hlen hcrc hcrc16,
    fun _ _ _ _ _ => completes_malformed⟩

end Machine
end Sys2Proof
end

section
/-! Groups written through the port's shadow (chapters 09, 23). -/
namespace Sys2Proof
namespace Machine

open Safety

/-! ### A word of the shadow -/

/-- The words that a write only places in the shadow. -/
theorem shadowWord_cases {a : Nat} (h : shadowWord a = true) : a = 0x221 ∨ a = 0x386 ∨ a = 0x591 ∨ a = 0x592 := by
  unfold shadowWord writeGroup at h
  split at h
  · rename_i g hg
    rw [decide_eq_true_eq] at h
    split_ifs at hg <;> simp only [Option.some.injEq] at hg <;> omega
  · cases h

/-- The group of a word of the shadow. -/
def shadowBase (a : Nat) : Nat := (writeGroup a).getD 0

/-- A word of the shadow is placed there. -/
theorem writeOwn_shadow {a : Nat} (h : shadowWord a = true) {p : Port} {s : State}
    (hslot : a = 0x221 → declaredSlot s (portGet s p).sltSel = true) (v : Nat) :
    writeOwn p a v s = (0, placeShadow p (shadowBase a) a (shadowValue a v) s) := by
  rcases shadowWord_cases h with rfl | rfl | rfl | rfl
  · show writeSlt p 0x221 v s = _
    unfold writeSlt
    simp only [hslot rfl, if_true]
    rfl
  · rfl
  · rfl
  · rfl

/-- An admitted write of a word of the shadow. -/
theorem wordFrame_shadow {p : Port} {a : Nat} {w : Word} {s : State} (h : WriteAdmitted s p a) (ha : shadowWord a = true)
    (hslot : a = 0x221 → declaredSlot s (portGet s p).sltSel = true) :
    wordFrame p a w s = respond p { stat := .ok, addr := a, data := toWord (shadowValue a w.toNat) }
      (placeShadow p (shadowBase a) a (shadowValue a w.toNat) (writeSeen p a w.toNat s)) := by
  obtain ⟨⟨hheard, hrights⟩, hreset⟩ := h
  have hacc : openAcc a = true ∧ faultWordAt p a = none ∧ a ≠ 0x08F := by
    rcases shadowWord_cases ha with rfl | rfl | rfl | rfl <;> cases p <;> decide
  obtain ⟨hopen, hfault, hkey⟩ := hacc
  have hslot' : a = 0x221 → declaredSlot (writeSeen p a w.toNat s) (portGet (writeSeen p a w.toNat s) p).sltSel = true := by
    intro he
    rw [portGet_writeSeen]
    exact hslot he
  have hword : writeWord p a w.toNat (takeSdi p 32 (sdiHead 1 a w.toNat) s) =
      (0, placeShadow p (shadowBase a) a (shadowValue a w.toNat) (writeSeen p a w.toNat s)) :=
    (writeWord_of_open hopen hfault (s := writeSeen p a w.toNat s) hreset _).trans (writeOwn_shadow ha hslot' _)
  unfold wordFrame writeFrame
  simp [hheard, hrights, hword, writtenWord, ha, presetDone, hkey]

/-- No register shows what the shadow holds. -/
theorem regRead_placeShadow (p q : Port) (g a v : Nat) (s : State) (b : Nat) :
    regRead (placeShadow p g a v s) q b = regRead s q b := by
  cases p <;> cases q <;> rfl

/-- The word that was placed stands in the shadow. -/
theorem shadow_placeShadow (p : Port) (g a v : Nat) (s : State) :
    ∃ x, (portGet (placeShadow p g a v s) p).shadow = some x ∧ tblGet none x.words a = some (toWord v) := by
  unfold placeShadow
  dsimp only
  rw [portGet_modPort_same]
  exact ⟨_, rfl, by rw [tblGet_tblSet, if_pos rfl]⟩

theorem completes_groupShadowWrite {p : Port} {addr : Addr} {data : Word} {s : State} (h : WriteAdmitted s p addr.toNat)
    (ha : shadowWord addr.toNat = true) (hslot : addr.toNat = 0x221 → declaredSlot s (portGet s p).sltSel = true) :
    Completes (exec (.groupShadowWrite p addr data) s) fun t =>
      regRead t p addr.toNat = regRead s p addr.toNat ∧
      (∃ x, (portGet t p).shadow = some x ∧ tblGet none x.words addr.toNat = some (toWord (shadowValue addr.toNat data.toNat))) ∧
      Owes t p .ok addr.toNat (toWord (shadowValue addr.toNat data.toNat)) ∧ portGet t p.other = portGet s p.other ∧
      t = { s with ports := t.ports } := by
  have hlow : addr.toNat < 0xF00 ∧ (addr.toNat < 0x080 ∨ 0x0C0 ≤ addr.toNat) := by
    rcases shadowWord_cases ha with he | he | he | he <;> omega
  have hexec : exec (.groupShadowWrite p addr data) s = .next (wordFrame p addr.toNat data s) := framed_write hlow.1 ..
  rw [hexec, wordFrame_shadow h ha hslot]
  generalize addr.toNat = a at *
  set u := placeShadow p (shadowBase a) a (shadowValue a data.toNat) (writeSeen p a data.toNat s) with hu
  have hanswer : (portGet u p).answering = true := by
    have := answering_of_heard h.1.1
    cases p <;> exact this
  obtain ⟨x, hx, hplaced⟩ := shadow_placeShadow p (shadowBase a) a (shadowValue a data.toNat) (writeSeen p a data.toNat s)
  refine completes_next ⟨?_, ⟨x, ?_, hplaced⟩, owes_respond hanswer .., ?_, ?_⟩
  · rw [regRead_respond hlow.2, hu, regRead_placeShadow, writeSeen, regRead_takeSdi]
  · rw [portGet_respond, ← hx]
  · rw [portGet_respond_other]
    cases p <;> rfl
  · rw [respond_frame]
    rfl

/-! ### The commit -/

/-- What the commit of LOG_SEQSEL leaves. -/
def seqCommitted (p : Port) (n : Nat) (s : State) : State := modPort p (fun h => { h with logSeqSel := n, shadow := none }) s

theorem shadowed_of {s : State} {p : Port} {g a keep : Nat} {x : Shadow} {w : Word} (hx : (portGet s p).shadow = some x)
    (hbase : x.base = g) (hinst : x.inst = groupInst s p g) (hw : tblGet none x.words a = some w) :
    shadowed s p g a keep = w.toNat := by
  simp [shadowed, hx, hbase, hinst, hw]

theorem commitSeq_of_shadow {s : State} {p : Port} {x : Shadow} {w1 w2 : Word} (hx : (portGet s p).shadow = some x)
    (hbase : x.base = 0x590) (hinst : x.inst = 0) (h1 : tblGet none x.words 0x591 = some w1)
    (h2 : tblGet none x.words 0x592 = some w2) (v : Nat) :
    commitSeq p v s = seqCommitted p (v + 1024 * w1.toNat + 1048576 * w2.toNat) s := by
  have hempty : emptyShadow p 0x590 s = modPort p (fun h => { h with shadow := none }) s := by
    unfold emptyShadow modPort
    rw [show perPortGet s.ports p = portGet s p from rfl]
    simp [hx, hbase]
  unfold commitSeq
  dsimp only
  rw [shadowed_of hx hbase hinst h1, shadowed_of hx hbase hinst h2, hempty]
  cases p <;> rfl

theorem groupWord_zero (w : Word) (n m : Nat) : groupWord (w.toNat + 1024 * n + 1048576 * m) 0 = w := by
  have hw := w.isLt
  refine BitVec.eq_of_toNat_eq ?_
  rw [groupWord, toWord, BitVec.toNat_ofNat]
  omega

theorem regRead_logSeqSel (s : State) (p : Port) : regRead s p 0x590 = groupWord (portGet s p).logSeqSel 0 := by
  cases p <;> rfl

theorem completes_groupCommit {p : Port} {w0 w1 w2 : Word} {x : Shadow} {s : State} (h : WriteAdmitted s p 0x590)
    (hx : (portGet s p).shadow = some x) (hbase : x.base = 0x590) (hinst : x.inst = 0)
    (h1 : tblGet none x.words 0x591 = some w1) (h2 : tblGet none x.words 0x592 = some w2) :
    Completes (exec (.groupCommit p 0x590 w0 none) s) fun t =>
      (portGet t p).logSeqSel = w0.toNat + 1024 * w1.toNat + 1048576 * w2.toNat ∧ (portGet t p).shadow = none ∧
      Owes t p .ok 0x590 w0 ∧ portGet t p.other = portGet s p.other ∧ t = { s with ports := t.ports } := by
  set u := seqCommitted p (w0.toNat + 1024 * w1.toNat + 1048576 * w2.toNat) (writeSeen p 0x590 w0.toNat s) with hu
  have hx' : (portGet (writeSeen p 0x590 w0.toNat s) p).shadow = some x := by
    rw [portGet_writeSeen]
    exact hx
  have hown : writeOwn p 0x590 w0.toNat (writeSeen p 0x590 w0.toNat s) = (0, u) :=
    congrArg (Prod.mk 0) (commitSeq_of_shadow hx' hbase hinst h1 h2 _)
  have hfault : faultWordAt p 0x590 = none := by cases p <;> decide
  have hadm : NotReplayed s := notReplayed_of_admitted h.1 (by decide)
  have hlive : u.sys.state ≠ .replay := hadm
  have hdata : shownWord p 0x590 u = w0 := by
    rw [shownWord_of_live hlive, regRead_logSeqSel, hu, seqCommitted, portGet_modPort_same]
    exact groupWord_zero ..
  have hframe := wordFrame_ok h (by decide) hfault (by decide) (by decide) hown
  rw [hdata] at hframe
  have hexec : exec (.groupCommit p 0x590 w0 none) s = .next (wordFrame p 0x590 w0 s) := framed_write (by decide) ..
  have hanswer : (portGet u p).answering = true := by
    have := answering_of_heard h.1.1
    cases p <;> exact this
  rw [hexec, hframe]
  refine completes_next ⟨?_, ?_, owes_respond hanswer .., ?_, ?_⟩
  · rw [portGet_respond, hu, seqCommitted, portGet_modPort_same]
  · rw [portGet_respond, hu, seqCommitted, portGet_modPort_same]
  · rw [portGet_respond_other]
    cases p <;> rfl
  · rw [respond_frame]
    rfl

/-- Settles O30. -/
theorem groupWrites : Obligations.GroupWrites :=
  ⟨fun _ _ _ _ h _ => completes_groupShadowWrite h, fun _ _ _ _ _ _ => completes_groupCommit⟩

end Machine
end Sys2Proof
end

section
/-! Heartbeats, absence, port reset and host restart (chapters 07, 08, 10). -/
namespace Sys2Proof
namespace Machine

open Safety

/-! ### What a port that goes absent or resets leaves behind -/

/-- The port's orders that are not dispatched withdrawn, the others marked to be discarded. -/
def ordersDropped (p : Port) (s : State) : State :=
  let s := withdrawSilent p s
  { s with ord := { s.ord with
    orders := s.ord.orders.map (fun o => if o.port = p ∧ o.internal = false then { o with discard := true } else o) } }

/-- The port's returns and tag window emptied, its parcels freed and its pin released. -/
def bankDropped (p : Port) (s : State) : State :=
  let s := freeParcels p (modBank p (fun b => { b with rtail := (b.rtail + b.ring.length) % 128, ring := [], window := [] }) s)
  { s with mea := { s.mea with pins := perPortSet s.mea.pins p none } }

/-- The port's staging buffers released and its trims ramped back. -/
def stagingDropped (p : Port) (s : State) : State := rampTrims (some p) (dropUpdate p (dropStaging p s))

theorem clearPort_eq (p : Port) (s : State) : clearPort p s =
    stagingDropped p (passClaims p (releaseMoorings p (fun _ => true) (bankDropped p (ordersDropped p s)))) := rfl

theorem stagingDropped_frame (p : Port) (s : State) : stagingDropped p s = { s with
    rls := (stagingDropped p s).rls, upd := (stagingDropped p s).upd, rig := (stagingDropped p s).rig } := by
  unfold stagingDropped dropUpdate dropStaging rampTrims
  dsimp only
  repeat' split
  all_goals rfl

theorem bankDropped_frame (p : Port) (s : State) :
    bankDropped p s = { s with ord := (bankDropped p s).ord, mea := (bankDropped p s).mea } := by
  have hfree : ∀ u, freeParcels p u = { u with ord := (freeParcels p u).ord } := fun u => by
    unfold freeParcels
    generalize List.filter _ _ = l
    induction l generalizing u with
    | nil => rfl
    | cons e l ih =>
      rw [List.foldl_cons, ih]
      split <;> rfl
  unfold bankDropped
  dsimp only
  rw [hfree]
  rfl

theorem undoLift_frame (o : Order) (s : State) :
    undoLift o s = { s with ldg := (undoLift o s).ldg, sat := (undoLift o s).sat } := by
  unfold undoLift
  repeat' split
  all_goals rfl

/-- An order withdrawn without a return. -/
def orderWithdrawn (p : Port) (s : State) (o : Order) : State :=
  let s := dropOrder o (undoLift o s)
  { s with mor := { s.mor with wdrn := bumpPort s.mor.wdrn p } }

/-- What the withdrawal of the port's orders keeps. -/
structure WithdrawView where
  sys : Sys
  fb : FaultBanks
  ports : PerPort HostPort
  holder : Tbl (Option Port)
  claims : Tbl (Option Port)

/-- The view of a state. -/
def withdrawView (s : State) : WithdrawView := ⟨s.sys, s.fb, s.ports, s.mor.holder, s.mor.claims⟩

theorem withdrawView_orderWithdrawn (p : Port) (s : State) (o : Order) :
    withdrawView (orderWithdrawn p s o) = withdrawView s := by
  unfold orderWithdrawn
  dsimp only
  rw [dropOrder_frame, undoLift_frame]
  rfl

theorem withdrawView_ordersDropped (p : Port) (s : State) : withdrawView (ordersDropped p s) = withdrawView s :=
  foldl_keeps withdrawView (withdrawView_orderWithdrawn p) _ s

/-- Orders withdrawn one by one are gone by their ids. -/
theorem orders_withdraw (p : Port) (l : List Order) (s : State) (x : Order)
    (h : x ∈ (l.foldl (orderWithdrawn p) s).ord.orders) : x ∈ s.ord.orders ∧ ∀ o ∈ l, x.id ≠ o.id := by
  induction l generalizing s with
  | nil => exact ⟨h, nofun⟩
  | cons o l ih =>
    obtain ⟨hmem, hrest⟩ := ih (orderWithdrawn p s o) h
    have horders : (orderWithdrawn p s o).ord.orders = s.ord.orders.filter (fun x => decide (x.id ≠ o.id)) := by
      have hundo : (undoLift o s).ord = s.ord := by rw [undoLift_frame]
      have hdrop := dropOrder_orders o (undoLift o s)
      rw [hundo] at hdrop
      exact hdrop
    rw [horders, List.mem_filter, decide_eq_true_eq] at hmem
    refine ⟨hmem.1, fun o' ho' => ?_⟩
    rcases List.mem_cons.mp ho' with rfl | ho'
    · exact hmem.2
    · exact hrest o' ho'

theorem orders_ordersDropped (p : Port) (s : State) (o : Order) (h : o ∈ (ordersDropped p s).ord.orders) (hport : o.port = p)
    (hint : o.internal = false) : o.stage = .dispatched ∧ o.discard = true := by
  have hfold : withdrawSilent p s = (s.ord.orders.filter (fun o =>
      decide (o.port = p) && !o.internal && decide (o.stage ≠ .dispatched))).foldl (orderWithdrawn p) s := rfl
  obtain ⟨x, hx, rfl⟩ := List.mem_map.mp h
  rw [hfold] at hx
  obtain ⟨hmem, hgone⟩ := orders_withdraw p _ s x hx
  have hfields : x.port = p ∧ x.internal = false := by
    by_contra hno
    rw [if_neg hno] at hport hint
    exact hno ⟨hport, hint⟩
  rw [if_pos hfields]
  refine ⟨?_, rfl⟩
  by_contra hstage
  refine hgone x (List.mem_filter.mpr ⟨hmem, ?_⟩) rfl
  simpa [hfields.1, hfields.2] using hstage

/-! ### Moorings and claims of the port -/

theorem mooringOf_setMooring (n j : Nat) (h : Option Port) (s : State) :
    mooringOf (setMooring n h s) j = if j = n then h else mooringOf s j := by
  simp [mooringOf, setMooring]

theorem mooringOf_release (l : List Nat) (s : State) (j : Nat) :
    mooringOf (l.foldl (fun s n => setMooring n none s) s) j = if j ∈ l then none else mooringOf s j := by
  induction l generalizing s with
  | nil => simp
  | cons n l ih =>
    rw [List.foldl_cons, ih, mooringOf_setMooring]
    by_cases hl : j ∈ l <;> by_cases hn : j = n <;> simp [hl, hn]

theorem foldl_setMooring_frame (l : List Nat) (s : State) : l.foldl (fun s n => setMooring n none s) s =
    { s with mor := { s.mor with holder := (l.foldl (fun s n => setMooring n none s) s).mor.holder } } := by
  induction l generalizing s with
  | nil => rfl
  | cons n l ih =>
    rw [List.foldl_cons, ih]
    rfl

/-- The moorings that `f` names and the port holds become free; the other port's event tells it. -/
theorem releaseMoorings_words (p : Port) (f : Nat → Bool) (s : State) :
    (∀ n, mooringOf (releaseMoorings p f s) n =
      if n < 16 ∧ f n = true ∧ mooringOf s n = some p then none else mooringOf s n) ∧
    releaseMoorings p f s = { s with
      mor := { s.mor with holder := (releaseMoorings p f s).mor.holder }, ports := (releaseMoorings p f s).ports } ∧
    ((∃ n, n < 16 ∧ f n = true ∧ mooringOf s n = some p) → (releaseMoorings p f s).ports = (setIevt p.other 0x020 s).ports) ∧
    ((¬ ∃ n, n < 16 ∧ f n = true ∧ mooringOf s n = some p) → (releaseMoorings p f s).ports = s.ports) := by
  set held := (List.range 16).filter (fun n => f n && decide (mooringOf s n = some p)) with hheld
  have hmem : ∀ n, n ∈ held ↔ n < 16 ∧ f n = true ∧ mooringOf s n = some p := fun n => by
    rw [hheld]
    simp [List.mem_filter]
  have heq : releaseMoorings p f s =
      if held = [] then s else setIevt p.other 0x020 (held.foldl (fun s n => setMooring n none s) s) := rfl
  rw [heq]
  by_cases hnil : held = []
  · have hno : ¬ ∃ n, n < 16 ∧ f n = true ∧ mooringOf s n = some p := fun ⟨n, hn⟩ => by
      have := (hmem n).mpr hn
      rw [hnil] at this
      cases this
    rw [if_pos hnil]
    refine ⟨fun n => ?_, rfl, fun h => absurd h hno, fun _ => rfl⟩
    rw [if_neg (fun h => hno ⟨n, h⟩)]
  · obtain ⟨m, hm⟩ := List.exists_mem_of_ne_nil held hnil
    have hframe := foldl_setMooring_frame held s
    rw [if_neg hnil]
    refine ⟨fun n => ?_, ?_, fun _ => ?_, fun hno => absurd ⟨m, (hmem m).mp hm⟩ hno⟩
    · have hset : mooringOf (setIevt p.other 0x020 (held.foldl (fun s n => setMooring n none s) s)) n =
          mooringOf (held.foldl (fun s n => setMooring n none s) s) n := rfl
      rw [hset, mooringOf_release]
      simp only [hmem]
    · rw [setIevt_frame, hframe]
    · rw [setIevt, modPort, hframe]
      rfl

theorem claimOf_passClaims (p : Port) (s : State) (id : Nat) : claimOf (passClaims p s) id ≠ some p := by
  have hfilter : ∀ l : Tbl (Option Port), tblGet none (l.filter (fun e => decide (e.2 ≠ some p))) id ≠ some p := by
    intro l
    induction l with
    | nil => nofun
    | cons e l ih =>
      rw [List.filter_cons]
      split
      · rename_i he
        obtain ⟨k, v⟩ := e
        rw [tblGet]
        split
        · simpa using he
        · exact ih
      · exact ih
  have hmap : ∀ (q : Port) (l : Tbl (Option Port)), q ≠ p →
      tblGet none (l.map (fun (e : Nat × Option Port) => if e.2 = some p then (e.1, some q) else e)) id ≠ some p := by
    intro q l hq
    induction l with
    | nil => nofun
    | cons e l ih =>
      obtain ⟨k, v⟩ := e
      rw [List.map_cons]
      by_cases hv : v = some p
      · simp only [hv, if_true]
        rw [tblGet]
        split
        · exact fun h => hq (Option.some.inj h)
        · exact ih
      · simp only [hv, if_false]
        rw [tblGet]
        split
        · exact hv
        · exact ih
  unfold passClaims claimOf
  dsimp only
  by_cases hfree : ((perPortGet s.rig.running.hosts p).absentFree || isAbsent s p.other) = true
  · simp only [hfree, if_true, Option.isNone_none]
    exact hfilter _
  · simp only [hfree, if_false, Option.isNone_some, Bool.false_eq_true]
    exact hmap p.other _ (by cases p <;> nofun)

/-! ### The port cleared -/

/-- What absence and port reset leave of the port's holdings. -/
structure Cleared (p : Port) (t : State) : Prop where
  moorings : ∀ n, n < 16 → mooringOf t n ≠ some p
  claims : ∀ id, claimOf t id ≠ some p
  ring : (perPortGet t.ord.banks p).ring = []
  window : (perPortGet t.ord.banks p).window = []
  orders : ∀ o ∈ t.ord.orders, o.port = p → o.internal = false → o.stage = .dispatched ∧ o.discard = true
  pin : perPortGet t.mea.pins p = none

/-- Where the words of orders, moorings and pins stay, so does what was cleared. -/
theorem Cleared.congr {p : Port} {s t : State} (h : Cleared p s) (hord : t.ord = s.ord) (hmor : t.mor = s.mor)
    (hmea : t.mea = s.mea) : Cleared p t := by
  obtain ⟨hm, hc, hr, hw, ho, hp⟩ := h
  refine ⟨fun n hn => ?_, fun id => ?_, ?_, ?_, ?_, ?_⟩
  · rw [mooringOf, hmor]
    exact hm n hn
  · rw [claimOf, hmor]
    exact hc id
  · rw [hord, hr]
  · rw [hord, hw]
  · rw [hord]
    exact ho
  · rw [hmea, hp]

theorem bankDropped_words (p : Port) (s : State) :
    (perPortGet (bankDropped p s).ord.banks p).ring = [] ∧ (perPortGet (bankDropped p s).ord.banks p).window = [] ∧
      (bankDropped p s).ord.orders = s.ord.orders ∧ perPortGet (bankDropped p s).mea.pins p = none := by
  have hfree : ∀ u, (freeParcels p u).ord.banks = u.ord.banks ∧ (freeParcels p u).ord.orders = u.ord.orders := fun u => by
    have h := foldl_keeps (fun s : State => (s.ord.banks, s.ord.orders)) (f := fun s (e : Nat × Parcel) =>
      if parcelNamed s e.1 then modParcel e.1 (fun q => { q with freeLater := true }) s else parcelFree e.1 s)
      (fun s e => by split <;> rfl) (u.ord.parcels.filter (fun e => decide (e.2.owner = some p))) u
    exact Prod.mk.inj h
  set u := modBank p (fun b => { b with rtail := (b.rtail + b.ring.length) % 128, ring := [], window := [] }) s with hu
  have hbank : perPortGet u.ord.banks p = { perPortGet s.ord.banks p with
      rtail := ((perPortGet s.ord.banks p).rtail + (perPortGet s.ord.banks p).ring.length) % 128, ring := [], window := [] } :=
    perPortGet_perPortSet_same ..
  obtain ⟨hbanks, horders⟩ := hfree u
  have hb : (bankDropped p s).ord.banks = u.ord.banks := hbanks
  have ho : (bankDropped p s).ord.orders = u.ord.orders := horders
  refine ⟨?_, ?_, ho, perPortGet_perPortSet_same ..⟩
  · rw [hb, hbank]
  · rw [hb, hbank]

theorem cleared_clearPort (p : Port) (s : State) : Cleared p (clearPort p s) := by
  rw [clearPort_eq]
  set u := bankDropped p (ordersDropped p s) with hu
  set v := releaseMoorings p (fun _ => true) u with hv
  obtain ⟨hmoor, hframe, -, -⟩ := releaseMoorings_words p (fun _ => true) u
  obtain ⟨hring, hwindow, horders, hpin⟩ := bankDropped_words p (ordersDropped p s)
  rw [← hv] at hmoor hframe
  have hord : v.ord = u.ord := by rw [hframe]
  have hmea : v.mea = u.mea := by rw [hframe]
  have hpass : Cleared p (passClaims p v) := by
    refine ⟨fun n hn => ?_, claimOf_passClaims p v, ?_, ?_, fun o ho => ?_, ?_⟩
    · have hkeep : mooringOf (passClaims p v) n = mooringOf v n := rfl
      rw [hkeep, hmoor]
      split
      · nofun
      · rename_i h
        exact fun hc => h ⟨hn, rfl, hc⟩
    · show (perPortGet v.ord.banks p).ring = []
      rw [hord, hring]
    · show (perPortGet v.ord.banks p).window = []
      rw [hord, hwindow]
    · have hmem : o ∈ v.ord.orders := ho
      rw [hord, hu, horders] at hmem
      exact orders_ordersDropped p s o hmem
    · show perPortGet v.mea.pins p = none
      rw [hmea, hpin]
  refine hpass.congr ?_ ?_ ?_ <;> rw [stagingDropped_frame]

/-- The hub's own words, the banks, and the ports but for an event of the other. -/
theorem clearPort_words (p : Port) (s : State) : (clearPort p s).sys = s.sys ∧ (clearPort p s).fb = s.fb ∧
    ((clearPort p s).ports = s.ports ∨ (clearPort p s).ports = (setIevt p.other 0x020 s).ports) := by
  have hview := withdrawView_ordersDropped p s
  have hbank := bankDropped_frame p (ordersDropped p s)
  obtain ⟨-, hframe, htold, hquiet⟩ := releaseMoorings_words p (fun _ => true) (bankDropped p (ordersDropped p s))
  simp only [withdrawView, WithdrawView.mk.injEq] at hview
  obtain ⟨hsys, hfb, hp, -, -⟩ := hview
  rw [clearPort_eq, stagingDropped_frame]
  set v := releaseMoorings p (fun _ => true) (bankDropped p (ordersDropped p s)) with hv
  refine ⟨?_, ?_, ?_⟩
  · show v.sys = s.sys
    rw [hframe, hbank, hsys]
  · show v.fb = s.fb
    rw [hframe, hbank, hfb]
  · show v.ports = s.ports ∨ v.ports = _
    have hbp : (bankDropped p (ordersDropped p s)).ports = s.ports := by rw [hbank, hp]
    by_cases hheld : ∃ n, n < 16 ∧ true = true ∧ mooringOf (bankDropped p (ordersDropped p s)) n = some p
    · right
      rw [htold hheld, setIevt, modPort, hbp]
      rfl
    · left
      rw [hquiet hheld, hbp]

/-! ### A lapse -/

theorem portsNoted_setIevt (p : Port) (bits : Word) (s : State) : PortsNoted s (setIevt p bits s) := fun q => by
  cases p <;> cases q <;> rfl

theorem portsNoted_clearPort (p : Port) (s : State) : PortsNoted s (clearPort p s) := by
  obtain ⟨-, -, h | h⟩ := clearPort_words p s
  · exact portsNoted_of_ports h
  · exact portsNoted_trans (portsNoted_setIevt p.other 0x020 s) (portsNoted_of_ports h)

/-- A port marked absent. -/
def markedAbsent (p : Port) (s : State) : State := modPort p (fun h => { h with presence := .absent }) s

theorem becomeAbsent_eq (p : Port) (s : State) :
    becomeAbsent p s = queueHost p 0 (setIevt p.other 0x004 (clearPort p (markedAbsent p s))) := rfl

/-- What one port's absence leaves, but for the fault. -/
structure WentAbsent (p : Port) (s t : State) : Prop where
  cleared : Cleared p t
  sys : t.sys = s.sys
  fb : t.fb = s.fb
  presence : (portGet t p).presence = .absent
  peer : (portGet t p.other).presence = (portGet s p.other).presence ∧ (portGet t p.other).ievt.getLsbD 2 = true

theorem wentAbsent_becomeAbsent (p : Port) (s : State) : WentAbsent p s (becomeAbsent p s) := by
  set u := clearPort p (markedAbsent p s) with hu
  obtain ⟨hsys, hfb, -⟩ := clearPort_words p (markedAbsent p s)
  have hnoted := portsNoted_clearPort p (markedAbsent p s)
  have heq : becomeAbsent p s = { setIevt p.other 0x004 u with log := (becomeAbsent p s).log } := by
    rw [becomeAbsent_eq, queueHost, queueRec_frame]
  have hport : ∀ q, portGet (becomeAbsent p s) q = portGet (setIevt p.other 0x004 u) q := fun q => by
    rw [portGet, heq]
    rfl
  have hself : portGet (setIevt p.other 0x004 u) p = portGet u p := by cases p <;> rfl
  have hother : portGet (setIevt p.other 0x004 u) p.other = { portGet u p.other with
      ievt := (portGet u p.other).ievt ||| 0x004, ievtNew := (portGet u p.other).ievtNew ||| 0x004 } := by cases p <;> rfl
  have hcleared : Cleared p u := cleared_clearPort p _
  rw [← hu] at hsys hfb hnoted
  clear_value u
  refine ⟨hcleared.congr ?_ ?_ ?_, ?_, ?_, ?_, ?_, ?_⟩
  · rw [heq]
    rfl
  · rw [heq]
    rfl
  · rw [heq]
    rfl
  · rw [heq]
    exact hsys
  · rw [heq]
    exact hfb
  · rw [hport, hself, hnoted p]
    exact congrArg HostPort.presence (portGet_modPort_same ..)
  · rw [hport, hother]
    show (portGet u p.other).presence = _
    rw [hnoted p.other]
    show (portGet (markedAbsent p s) p.other).presence = _
    rw [markedAbsent, portGet_modPort, if_neg (by cases p <;> nofun)]
  · rw [hport, hother]
    dsimp only
    rw [BitVec.getLsbD_or]
    exact Bool.or_true _

/-- The fault sources of the ports that lapse at one tick. -/
def absentSources (ps : List Port) : List Nat := [0, 1].filter (fun k => ps.any (fun p => decide (absentSource p = k)))

theorem lapse_eq {ps : List Port} (h : ps ≠ []) (s : State) :
    lapse ps s = coreWake 1 (raiseMany .mor (absentSources ps) (ps.foldl (fun s p => becomeAbsent p s) s)) := by
  rw [lapse, if_neg h]
  rfl

theorem ofClass_mor (c : FClass) (hc : c ≠ .corrected) (ks : List Nat) : ofClass .mor c ks = [] := by
  have hall : ∀ k, classOf .mor k = .corrected := fun k => by simp [classOf, fatalMask, containedMask]
  simp [ofClass, hall, hc.symm]

theorem coreWake_frame_words (n : Nat) (s : State) : (coreWake n s).ord = s.ord ∧ (coreWake n s).mor = s.mor ∧
    (coreWake n s).mea = s.mea ∧ (coreWake n s).fb = s.fb := by
  unfold coreWake
  split <;> exact ⟨rfl, rfl, rfl, rfl⟩

/-- In RUN and in STANDBY a wake of the cores ends in RUN. -/
theorem coreWake_run {s : State} (h : s.sys.state = .run ∨ s.sys.state = .standby) (n : Nat) :
    (coreWake n s).sys = { s.sys with state := .run } := by
  unfold coreWake
  rcases h with h | h
  · rw [h]
    show s.sys = _
    rw [← h]
  · rw [h]
    rfl

/-- The fault of an absence and the wake of the cores. -/
structure AbsenceTold (ks : List Nat) (s t : State) : Prop where
  sys : t.sys = { s.sys with state := .run }
  ord : t.ord = s.ord
  mor : t.mor = s.mor
  mea : t.mea = s.mea
  noted : PortsNoted s t
  events : ∀ q i, (portGet s q).ievt.getLsbD i = true → (portGet t q).ievt.getLsbD i = true
  bits : ks ≠ [] → stickyBits (bankGet t.fb .mor) = stickyBits (bankGet s.fb .mor) ||| srcBits ks

theorem absenceTold {s : State} (h : s.sys.state = .run ∨ s.sys.state = .standby) (ks : List Nat) :
    AbsenceTold ks s (coreWake 1 (raiseMany .mor ks s)) := by
  have hlive : Live s := by rcases h with h | h <;> (rw [Live, h]; exact ⟨nofun, nofun⟩)
  have hevents := events_raiseMany hlive (ofClass_mor .fatal (by decide) ks) (.inl (ofClass_mor .contained (by decide) ks))
  have hframe := hevents.frame
  have hnoted := portsNoted_raiseMany .mor ks s
  have halarm := alarmKept_raiseMany .mor ks s
  have hfb : ks ≠ [] → stickyBits (bankGet (raiseMany .mor ks s).fb .mor) = stickyBits (bankGet s.fb .mor) ||| srcBits ks := by
    intro hne
    have hsame : ofClass .mor .corrected ks = ks := by
      have hall : ∀ k, classOf .mor k = .corrected := fun k => by simp [classOf, fatalMask, containedMask]
      simp [ofClass, hall]
    have hraise : raiseMany .mor ks s = raiseCorrected .mor ks (bankGet s.fb .mor) s := by
      unfold raiseMany
      simp [hlive.1, hlive.2, ofClass_mor, hsame, hne]
    rw [hraise, raiseCorrected_fb, bankGet_bankSet, if_pos rfl, stickyBits_correctedEvent]
  have hstate : (raiseMany .mor ks s).sys.state = .run ∨ (raiseMany .mor ks s).sys.state = .standby := by
    rcases hevents.hub with he | ⟨-, he⟩
    · rw [he]
      exact h
    · exact .inl he
  generalize raiseMany .mor ks s = u at *
  obtain ⟨hord, hmor, hmea, hbank⟩ := coreWake_frame_words 1 u
  refine ⟨?_, ?_, ?_, ?_, portsNoted_trans hnoted (portsNoted_coreWake 1 u), fun q i hi => ?_, fun hne => ?_⟩
  · rw [coreWake_run hstate, hevents.sys]
  · rw [hord, hframe]
  · rw [hmor, hframe]
  · rw [hmea, hframe]
  · exact (alarmKept_coreWake 1 u).event q i (halarm.event q i hi)
  · rw [hbank]
    exact hfb hne

theorem completes_heartbeatLapse {p : Port} {s : State} (hstate : s.sys.state = .run ∨ s.sys.state = .standby)
    (hover : windowOver s p = true) :
    Completes (exec (.heartbeatLapse p false) s) fun t =>
      (portGet t p).presence = .absent ∧ t.sys.state = .run ∧ (∀ n, n < 16 → mooringOf t n ≠ some p) ∧
      (∀ id, claimOf t id ≠ some p) ∧ (perPortGet t.ord.banks p).ring = [] ∧ (perPortGet t.ord.banks p).window = [] ∧
      (∀ o ∈ t.ord.orders, o.port = p → o.internal = false → o.stage = .dispatched ∧ o.discard = true) ∧
      (portGet t p.other).ievt.getLsbD 2 = true ∧ t.fb.mor.fst.getLsbD p.bit = true ∧
      perPortGet t.mea.pins p = none := by
  have hgo : ¬ (s.sys.state ≠ .run ∧ s.sys.state ≠ .standby) := fun h => hstate.elim h.1 h.2
  have hexec : exec (.heartbeatLapse p false) s = .next (lapse [p] s) := by
    show execHeartbeatLapse p false s = _
    rw [execHeartbeatLapse, if_neg hgo]
    simp [hover]
  obtain ⟨hcleared, hsys, -, hpresence, -, hevent⟩ := wentAbsent_becomeAbsent p s
  rw [hexec, lapse_eq (by simp)]
  simp only [List.foldl_cons, List.foldl_nil]
  generalize becomeAbsent p s = u at *
  have hstate' : u.sys.state = .run ∨ u.sys.state = .standby := by
    rw [hsys]
    exact hstate
  have hsources : absentSources [p] = [p.bit] := by cases p <;> decide
  obtain ⟨hsys', hord, hmor, hmea, hnoted, hevents, hbits⟩ := absenceTold hstate' (absentSources [p])
  generalize coreWake 1 (raiseMany .mor (absentSources [p]) u) = t at *
  obtain ⟨hm, hc, hr, hw, ho, hp⟩ := hcleared.congr hord hmor hmea
  refine completes_next ⟨?_, ?_, hm, hc, hr, hw, ho, hevents _ _ hevent, ?_, hp⟩
  · rw [hnoted p]
    exact hpresence
  · rw [hsys']
  · have hword := hbits (by rw [hsources]; simp)
    rw [hsources, srcBits_singleton] at hword
    have hbit := congrArg (fun w : BitVec 9 => w.getLsbD p.bit) hword
    cases p <;> simpa [stickyBits, srcBit, Port.bit, bankGet] using hbit

theorem completes_heartbeatLapse_tie {p : Port} {s : State} (hstate : s.sys.state = .run ∨ s.sys.state = .standby)
    (hover : windowOver s p = true) (hother : windowOver s p.other = true) :
    Completes (exec (.heartbeatLapse p true) s) fun t =>
      t.ports.a.presence = .absent ∧ t.ports.b.presence = .absent ∧ t.mor.claims = [] ∧ t.sys.tied = true ∧
      t.sys.prio = s.sys.prio ∧ t.sys.state = .run := by
  have hgo : ¬ (s.sys.state ≠ .run ∧ s.sys.state ≠ .standby) := fun h => hstate.elim h.1 h.2
  have hexec : exec (.heartbeatLapse p true) s = .next (flipPrio { lapse [s.sys.prio, s.sys.prio.other] s with
      mor := { (lapse [s.sys.prio, s.sys.prio.other] s).mor with claims := [] } }) := by
    show execHeartbeatLapse p true s = _
    rw [execHeartbeatLapse, if_neg hgo]
    simp [hover, hother]
  generalize hq : s.sys.prio = q at hexec
  have hfirst := wentAbsent_becomeAbsent q s
  have hsecond := wentAbsent_becomeAbsent q.other (becomeAbsent q s)
  rw [hexec, lapse_eq (by simp)]
  simp only [List.foldl_cons, List.foldl_nil]
  generalize becomeAbsent q s = u at *
  generalize becomeAbsent q.other u = v at *
  have hsys : v.sys = s.sys := hsecond.sys.trans hfirst.sys
  have hstate' : v.sys.state = .run ∨ v.sys.state = .standby := by
    rw [hsys]
    exact hstate
  have htold := absenceTold hstate' (absentSources [q, q.other])
  generalize coreWake 1 (raiseMany .mor (absentSources [q, q.other]) v) = t at *
  have hqq : q.other.other = q := by cases q <;> rfl
  have habsent : ∀ r, (portGet t r).presence = .absent := by
    have hone : (portGet v q).presence = .absent := by
      have := hsecond.peer.1
      rw [hqq] at this
      rw [this, hfirst.presence]
    intro r
    rw [htold.noted r]
    have hr : r = q ∨ r = q.other := by cases r <;> cases q <;> simp [Port.other]
    rcases hr with rfl | rfl
    · exact hone
    · exact hsecond.presence
  refine completes_next ⟨habsent .a, habsent .b, rfl, rfl, ?_, ?_⟩
  · show t.sys.prio = q
    rw [htold.sys, hsys, ← hq]
  · show t.sys.state = .run
    rw [htold.sys]

theorem completes_heartbeatLapse_early {p : Port} {s : State} (hover : windowOver s p = false) (tie : Bool) : exec (.heartbeatLapse p tie) s = .next s := by
  show execHeartbeatLapse p tie s = _
  rw [execHeartbeatLapse]
  simp [hover, lapse]

/-! ### HST_HBEAT -/

/-- A heartbeat's words at its port. -/
def beaten (p : Port) (s : State) : State := modPort p (fun h => { h with
  hbStart := s.sys.tick, presence := if h.presence = .absent then .present else h.presence }) s

theorem heartbeat_eq (p : Port) (s : State) : heartbeat p s =
    if (portGet s p).presence = .absent then queueHost p 1 (setIevt p.other 0x004 (beaten p s)) else beaten p s := rfl

theorem completes_hstHbeatWrite {p : Port} {data : Word} {s : State} (h : WriteAdmitted s p 0x088) :
    Completes (exec (.hstHbeatWrite p data) s) fun t =>
      (portGet t p).hbStart = s.sys.tick ∧
      (portGet t p).presence = (if (portGet s p).presence = .absent then .present else (portGet s p).presence) ∧
      (portGet t p.other).ievt =
        (if (portGet s p).presence = .absent then (portGet s p.other).ievt ||| 0x004 else (portGet s p.other).ievt) ∧
      Owes t p .ok 0x088 0 ∧ ((portGet s p).presence ≠ .absent → t = { s with ports := t.ports }) := by
  set w := writeSeen p 0x088 data.toNat s with hw
  set u := heartbeat p w with hu
  have hfault : faultWordAt p 0x088 = none := by cases p <;> decide
  have hframe := wordFrame_ok (t := u) (w := data) h (by decide) hfault (by decide) (by decide) rfl
  rw [shownWord_of_command (by decide)] at hframe
  have hexec : exec (.hstHbeatWrite p data) s = .next (respond p { stat := .ok, addr := 0x088, data := 0 } u) :=
    congrArg Host.Outcome.next hframe
  have hpres : (portGet w p).presence = (portGet s p).presence := by rw [hw, portGet_writeSeen]
  have hanswers : (portGet w p).answering = true := answering_writeSeen h.1.1 rfl
  have hotherw : portGet w p.other = portGet s p.other := portGet_writeSeen_other ..
  have hqueue : ∀ k v q, portGet (queueHost p k v) q = portGet v q := fun k v q => by
    rw [queueHost, queueRec_frame]
    rfl
  have hself : portGet u p = portGet (beaten p w) p := by
    rw [hu, heartbeat_eq]
    split
    · rw [hqueue]
      cases p <;> rfl
    · rfl
  rw [beaten, portGet_modPort_same] at hself
  have hother : portGet u p.other = if (portGet s p).presence = .absent then { portGet s p.other with
      ievt := (portGet s p.other).ievt ||| 0x004, ievtNew := (portGet s p.other).ievtNew ||| 0x004 }
      else portGet s p.other := by
    rw [hu, heartbeat_eq, hpres, ← hotherw]
    split
    · rw [hqueue]
      cases p <;> rfl
    · cases p <;> rfl
  rw [hexec]
  refine completes_next ⟨?_, ?_, ?_, owes_respond ?_ .., fun hne => ?_⟩
  · rw [portGet_respond, hself]
    rfl
  · rw [portGet_respond, hself, hpres]
  · rw [portGet_respond_other, hother]
    split <;> rfl
  · rw [hself]
    exact hanswers
  · rw [respond_frame, hu, heartbeat_eq, hpres, if_neg hne]
    rfl

/-! ### HST_PRESET -/

/-- The first step of a key sequence noted. -/
def keyNoted (p : Port) (a : Nat) (s : State) : State := modPort p (fun h => { h with keys := a :: h.keys }) s

theorem writeOwn_preset (p : Port) (v : Nat) (s : State) :
    writeOwn p 0x08F v s = keyWrite p 0x08F v 0x2A5 0x15A (fun s => (0, portReset p s)) s := rfl

theorem faultWordAt_preset (p : Port) : faultWordAt p 0x08F = none := by cases p <;> decide

theorem keyHeld_writeSeen (p : Port) (a b v : Nat) (s : State) : keyHeld (writeSeen p b v s) p a = keyHeld s p a :=
  keyHeld_of_answered (answered_writeSeen p p b v s) a

theorem completes_portReset_first {p : Port} {s : State} (h : WriteAdmitted s p 0x08F) (hkey : keyHeld s p 0x08F = false) :
    Completes (exec (.portReset p 0x2A5 none) s) fun t =>
      keyHeld t p 0x08F = true ∧ Owes t p .ok 0x08F 0 ∧ t = { s with ports := t.ports } := by
  set w := writeSeen p 0x08F 0x2A5 s with hw
  set u := keyNoted p 0x08F w with hu
  have hnone : keyHeld w p 0x08F = false := (keyHeld_writeSeen ..).trans hkey
  have hword : writeWord p 0x08F 0x2A5 w = (0, u) := by
    refine (writeWord_of_open (by decide) (faultWordAt_preset p) (s := w) h.2 _).trans ?_
    rw [writeOwn_preset, keyWrite, hnone, if_neg Bool.false_ne_true, if_pos rfl]
    rfl
  have hframe : wordFrame p 0x08F 0x2A5 s = respond p { stat := .ok, addr := 0x08F, data := 0 } u := by
    have htaken := wordFrame_taken (w := 0x2A5) h.1 (by decide) hword (by rw [presetDone]; simp)
    rwa [shownWord_of_command (by decide)] at htaken
  have hexec : exec (.portReset p 0x2A5 none) s = .next (wordFrame p 0x08F 0x2A5 s) := rfl
  have hself : portGet u p = { portGet w p with keys := 0x08F :: (portGet w p).keys } := portGet_modPort_same ..
  have hanswer : (portGet u p).answering = true := by
    rw [hself]
    exact answering_writeSeen h.1.1 rfl
  rw [hexec, hframe]
  refine completes_next ⟨?_, owes_respond hanswer .., ?_⟩
  · rw [keyHeld, portGet_respond, hself]
    simp
  · rw [respond_frame]
    rfl

/-- The port's words after its reset. -/
def presetPort (now : Nat) (h : HostPort) : HostPort := { h with
  owed := {}, sent := { stat := .ok, addr := 0, data := 0 }, latch := none, shadow := none
  keys := [], ievt := 0, ien0 := 0, ien1 := 0, ieven := 0
  refuseAddr := 0, refuseReason := 0, refuseBurst := false, crcErr := 0, hbStart := now }

/-- A port reset in time and outside RECOVERY. -/
theorem portReset_eq {p : Port} {s : State} (hover : windowOver s p = false) (hrec : s.sys.state ≠ .recovery) :
    portReset p s = modPort p (presetPort s.sys.tick) (queueHost p 2 (clearPort p s)) := by
  have hsys : (queueHost p 2 (clearPort p s)).sys = s.sys := by
    rw [queueHost, queueRec_frame]
    exact (clearPort_words p s).1
  have hrec' : (modPort p (presetPort s.sys.tick) (queueHost p 2 (clearPort p s))).sys.state ≠ .recovery := by
    show (queueHost p 2 (clearPort p s)).sys.state ≠ _
    rwa [hsys]
  unfold portReset
  simp only [hover, Bool.false_eq_true, and_false, if_false]
  change recoveryCheck (modPort p (presetPort s.sys.tick) (queueHost p 2 (clearPort p s))) = _
  rw [recoveryCheck, if_neg (fun h => hrec' h.1)]

theorem windowOver_keyDone (p : Port) (a v : Nat) (s : State) : windowOver (keyDone p a v s) p = windowOver s p := by
  cases p <;> rfl

theorem completes_portReset {p : Port} {s : State} (h : WriteAdmitted s p 0x08F) (hkey : keyHeld s p 0x08F = true)
    (hover : windowOver s p = false) (hrec : s.sys.state ≠ .recovery) :
    Completes (exec (.portReset p 0x15A none) s) fun t =>
      (portGet t p).owed = {} ∧ (portGet t p).latch = none ∧ (portGet t p).shadow = none ∧ (portGet t p).ievt = 0 ∧
      (portGet t p).ien0 = 0 ∧ (portGet t p).ien1 = 0 ∧ (portGet t p).ieven = 0 ∧ (portGet t p).crcErr = 0 ∧
      (portGet t p).hbStart = s.sys.tick ∧ (portGet t p).presence = (portGet s p).presence ∧
      (∀ n, n < 16 → mooringOf t n ≠ some p) ∧ (∀ id, claimOf t id ≠ some p) ∧ t.fb = s.fb ∧ t.sys = s.sys := by
  set v := keyDone p 0x08F 0x15A s with hv
  have hpreset : portReset p v = modPort p (presetPort s.sys.tick) (queueHost p 2 (clearPort p v)) :=
    portReset_eq ((windowOver_keyDone ..).trans hover) hrec
  have hword : writeWord p 0x08F 0x15A (writeSeen p 0x08F 0x15A s) = (0, portReset p v) := by
    refine (writeWord_of_open (by decide) (faultWordAt_preset p) (s := writeSeen p 0x08F 0x15A s) h.2 _).trans ?_
    rw [writeOwn_preset, keyWrite_done hkey]
  have hdone : presetDone s p 0x08F (0x15A : Word).toNat = true := by
    rw [presetDone, hkey]
    rfl
  have hframe := wordFrame_void (w := 0x15A) h.1 hword hdone
  have hexec : exec (.portReset p 0x15A none) s = .next (wordFrame p 0x08F 0x15A s) := rfl
  have hcleared := cleared_clearPort p v
  have hnoted := portsNoted_clearPort p v p
  obtain ⟨hsys, hfb, -⟩ := clearPort_words p v
  rw [hexec, hframe, hpreset, queueHost, queueRec_frame]
  generalize clearPort p v = u at *
  have hpres : (portGet u p).presence = (portGet s p).presence := by
    rw [hnoted]
    show (portGet v p).presence = _
    cases p <;> rfl
  have hkept := hcleared.congr (t := modPort p (presetPort s.sys.tick) { u with log := (queueRec 7 [p.bit, 2] u).log }) rfl rfl rfl
  refine completes_next ⟨?_, ?_, ?_, ?_, ?_, ?_, ?_, ?_, ?_, ?_, hkept.moorings, hkept.claims, hfb, hsys⟩
  all_goals rw [portGet_modPort_same]
  exacts [rfl, rfl, rfl, rfl, rfl, rfl, rfl, rfl, rfl, hpres]

/-! ### SYS_RESTART -/

theorem writeOwn_restart (p : Port) (v : Nat) (s : State) : writeOwn p 0x043 v s =
    keyWrite p 0x043 v 0x0C3 0x33C (fun s => if s.sup.pfrBusy then (9, s)
      else (0, if s.sys.state = .replay then replayEnd 4 s else warmRestart 6 0 s)) s := rfl

theorem faultWordAt_restart (p : Port) : faultWordAt p 0x043 = none := by cases p <;> decide

theorem resetBlocks_words (s : State) : (resetBlocks s).rig = resetRig s.rig ∧ (resetBlocks s).fatal = s.fatal ∧
    (resetBlocks s).sys.tick = s.sys.tick ∧ (resetBlocks s).ports = ⟨{}, {}⟩ ∧ (resetBlocks s).ord.orders = [] :=
  ⟨rfl, rfl, rfl, rfl, rfl⟩

/-- What a warm reset keeps and clears. -/
theorem warmReset_restart (cause : Nat) (s : State) : (warmReset cause 0 .none s).ports = ⟨{}, {}⟩ ∧
    (warmReset cause 0 .none s).ord.orders = [] ∧ (warmReset cause 0 .none s).sys.tick = s.sys.tick ∧
    (warmReset cause 0 .none s).fatal = s.fatal ∧ FlashKept s (warmReset cause 0 .none s) := by
  have hcore : core (resetBlocks (resetSafe s)) = core s := by simp
  have hflash : flash (resetBlocks (resetSafe s)) = flash s := by simp
  obtain ⟨hrig, hfatal, htick, hports, horders⟩ := resetBlocks_words (resetSafe s)
  rw [resetSafe_rig] at hrig
  rw [resetSafe_fatal] at hfatal
  rw [resetSafe_sys] at htick
  unfold warmReset
  generalize resetBlocks (resetSafe s) = u at *
  refine ⟨hports, horders, htick, hfatal, flashKept_of_flash (congrArg Core.otp hcore) hflash fun h => ?_⟩
  show u.rig.bankA = _ ∧ u.rig.bankB = _
  rw [hrig]
  exact resetRig_banks h

theorem completes_sysRestart {p : Port} {s : State} (h : WriteAdmitted s p 0x043) (hkey : keyHeld s p 0x043 = true)
    (hidle : s.sup.pfrBusy = false) (hlive : s.sys.state ≠ .replay) :
    Completes (exec (.sysRestart p 0x33C) s) fun t =>
      t.sys.state = .reset ∧ t.start.nextCause = 6 ∧ t.ports = ⟨{}, {}⟩ ∧ t.ord.orders = [] ∧ t.sys.tick = s.sys.tick ∧
      t.fatal = s.fatal ∧ t.pins.en = s.pins.en ∧ FlashKept s t := by
  set v := keyDone p 0x043 0x33C s with hv
  have hwarm : canWarm v = true := by
    have hstate : v.sys.state = s.sys.state := rfl
    obtain ⟨⟨hheard, hrights⟩, -⟩ := h
    unfold canWarm
    rw [hstate]
    simp only [heard, Bool.and_eq_true, decide_eq_true_eq] at hheard ⊢
    refine ⟨⟨hheard.1.2, hheard.2⟩, fun he => ?_⟩
    rw [he] at hrights
    cases hrights
  have hown : writeOwn p 0x043 0x33C (writeSeen p 0x043 0x33C s) = (0, warmReset 6 0 .none v) := by
    have hidle' : v.sup.pfrBusy = false := hidle
    have hlive' : v.sys.state ≠ .replay := hlive
    rw [writeOwn_restart, keyWrite_done hkey, ← hv, hidle', if_neg Bool.false_ne_true, if_neg hlive', warmRestart, if_pos hwarm]
  have hframe := wordFrame_ok (w := 0x33C) h (by decide) (faultWordAt_restart p) (by decide) (by decide) hown
  obtain ⟨hports, horders, htick, hfatal, hflash⟩ := warmReset_restart 6 v
  obtain ⟨-, -, hen, hstate, hcause, -⟩ := warmReset_words 6 0 .none v
  have hexec : exec (.sysRestart p 0x33C) s = .next (wordFrame p 0x043 0x33C s) := rfl
  rw [hexec, hframe]
  generalize warmReset 6 0 .none v = u at *
  have hdumb : (portGet u p).answering = false := by
    rw [portGet, hports]
    cases p <;> rfl
  have hsilent : ∀ r, respond p r u = u := fun r => by
    rw [respond, respondAs, hdumb, if_neg Bool.false_ne_true]
  rw [hsilent]
  obtain ⟨h1, h2, h3, h4, h5, h6, h7, h8, h9, h10, h11, h12⟩ := hflash
  exact completes_next ⟨hstate, hcause, hports, horders, htick, hfatal, hen, ⟨h1, h2, h3, h4, h5, h6, h7, h8, h9, h10, h11, h12⟩⟩

theorem completes_sysRestart_busy {p : Port} {s : State} (h : WriteAdmitted s p 0x043) (hkey : keyHeld s p 0x043 = true)
    (hbusy : s.sup.pfrBusy = true) :
    Completes (exec (.sysRestart p 0x33C) s) fun t =>
      (portGet t p).owed.stat = .refused ∧ (portGet t p).refuseReason = 9 ∧ t = { s with ports := t.ports } := by
  set v := keyDone p 0x043 0x33C s with hv
  have hown : writeOwn p 0x043 0x33C (writeSeen p 0x043 0x33C s) = (8 + 1, v) := by
    have hbusy' : v.sup.pfrBusy = true := hbusy
    rw [writeOwn_restart, keyWrite_done hkey, ← hv, hbusy', if_pos rfl]
  have hframe := wordFrame_refused (w := 0x33C) h (by decide) (faultWordAt_restart p) hown
  have hexec : exec (.sysRestart p 0x33C) s = .next (wordFrame p 0x043 0x33C s) := rfl
  have hrefused := refused_wroteRefused (answering_keyDone h.1.1 0x043 0x33C) (portGet_keyDone_other p 0x043 0x33C s) 0x043 (8 + 1)
  rw [hexec, hframe, turnDown_refused]
  refine completes_next ⟨hrefused.stat, hrefused.noted.2, ?_⟩
  rw [wroteRefused_frame]
  rfl

/-- Settles O31. -/
theorem heartbeatsAndResets : Obligations.HeartbeatsAndResets :=
  ⟨fun _ _ _ => completes_hstHbeatWrite, fun _ _ hstate hover _ => completes_heartbeatLapse hstate hover,
    fun _ _ hstate hover hother _ => completes_heartbeatLapse_tie hstate hover hother,
    fun _ tie _ hover _ => completes_heartbeatLapse_early hover tie, fun _ _ => completes_portReset_first, fun _ _ => completes_portReset,
    fun _ _ => completes_sysRestart, fun _ _ => completes_sysRestart_busy⟩

end Machine
end Sys2Proof
end

section
/-! The peer's alarm withdrawn (chapters 10, 18, 21): the end of the alarm state has the ledger decide, and a SHORT that is
the second contained event of its block leads to FATAL, where an order of an absent port is dropped and counted. -/
namespace Sys2Proof
namespace Machine
open Safety

/-- What the state that an answer hands on satisfies. -/
def nextHas (holds : State → Bool) : Res → Bool
  | .next t => holds t
  | _ => false

/-- A completing command hands on a state that has whatever its postcondition gives. -/
theorem nextHas_of_completes {r : Res} {P : State → Prop} {holds : State → Bool} (h : Completes r P)
    (himp : ∀ t, P t → holds t = true) : nextHas holds r = true := by
  obtain ⟨t, rfl, ht⟩ := h
  exact himp t ht

/-- A command whose answer fails a consequence of the postcondition does not complete with it. -/
theorem not_completes_of_nextHas {r : Res} {P : State → Prop} (holds : State → Bool) (hfail : nextHas holds r = false)
    (himp : ∀ t, P t → holds t = true) : ¬ Completes r P := fun h =>
  absurd (nextHas_of_completes h himp) (by rw [hfail]; exact Bool.false_ne_true)

/-- Absent port B alone keeps the alarm state. The forecast is short without it, LDG.SHORT stands unacknowledged, and an
order whose return is to be discarded has not begun at slot 0. -/
def shortAfterAlarm : State :=
  { Tests.hub with
    ports := { a := { answering := true, keys := [0x0F0] }, b := { answering := true, presence := .absent } }
    sys := { Tests.hub.sys with alarmReq := ⟨false, true⟩, alarm := true }
    ldg := { xstby := 100 }
    fb := { Tests.hub.fb with ldg := { fst := 0x004 } }
    slots := [(0, { st := .present, run := some { opcode := 1, param := 0, length := 0, oid := 9 } })]
    ord := { orders := [{ Tests.order0 with discard := true }] }
    rig := { running := { ledger := { battWh := 1, standbyH := 100 } }, loaded := true } }

/-- The withdrawn alarm ends in FATAL, and MOR_DISC has counted the dropped order. -/
theorem morPeeralm_shortAfterAlarm :
    nextHas (fun t => decide (t.mor = shortAfterAlarm.mor)) (exec (.morPeeralm .a 0x238) shortAfterAlarm) = false := by
  decide +kernel

/-- Refutes O32: MOR_PEERALM does not leave the mooring block, since the end of the alarm state may lead to FATAL by a
second contained ledger event, where an absent port's order at a local slot is dropped and counted in MOR_DISC. -/
theorem not_mooringsAndClaims : ¬ Obligations.MooringsAndClaims := by
  rintro ⟨-, -, -, -, -, -, -, -, -, -, hpeeralm, -⟩
  refine not_completes_of_nextHas _ morPeeralm_shortAfterAlarm (fun t ht => ?_)
    (hpeeralm .a shortAfterAlarm (by decide +kernel) (by decide +kernel) (by decide +kernel))
  obtain ⟨-, -, -, hmor, -⟩ := ht
  exact decide_eq_true hmor

end Machine
end Sys2Proof
end

section
/-! Pushing an order (chapters 10, 11). -/
namespace Sys2Proof
namespace Machine

open Safety

/-! ### The push frame -/

/-- The state in which a push that is taken finds its order: the cores are awake (R31). -/
def pushSeen (p : Port) (s : State) : State := coreWake 0 (writeSeen p 0x108 1 s)

theorem pushSeen_ord (p : Port) (s : State) : (pushSeen p s).ord = s.ord := coreWake_ord ..

/-- The push of an idle descriptor is the write of ORD_PUSH. -/
theorem exec_ordPush (p : Port) (s : State) : exec (.ordPush p 1 false 0 [] none) s = .next (wordFrame p 0x108 1 s) := rfl

theorem faultWordAt_push (p : Port) : faultWordAt p 0x108 = none := by cases p <;> decide

theorem writeOwn_push (p : Port) (s : State) : writeOwn p 0x108 1 s =
    ruled (pushRefusal s p) (refusePush p (pushRefusal s p) s) (pushOrder p false 0 s) := rfl

theorem pushRefusal_writeSeen (p : Port) (s : State) : pushRefusal (writeSeen p 0x108 1 s) p = pushRefusal s p := by
  cases p <;> rfl

/-- The order that is pushed is the one that the staging words spell. -/
theorem pushOrder_writeSeen (p : Port) (s : State) :
    pushOrder p false 0 (writeSeen p 0x108 1 s) = pushStages p (pushedOrder s p) (pushSeen p s) := by
  have horder : pushedOrder (pushSeen p s) p = pushedOrder s p := by
    have htick : (pushSeen p s).sys.tick = s.sys.tick := by
      rw [pushSeen, coreWake_sys]
      rfl
    have hrig : (pushSeen p s).rig = s.rig := coreWake_rig ..
    rw [pushedOrder, pushSeen_ord, htick, hrig, pushedOrder]
  show pushStages p (pushedOrder (pushSeen p s) p) (pushSeen p s) = _
  rw [horder]

/-- A push that is taken is answered OK after its stages, where these leave the ports. -/
theorem wordFrame_push {p : Port} {s t : State} (h : WriteAdmitted s p 0x108) (hfree : pushRefusal s p = 0)
    (hstages : pushStages p (pushedOrder s p) (pushSeen p s) = t) :
    wordFrame p 0x108 1 s = respond p { stat := .ok, addr := 0x108, data := 0 } t := by
  have hown : writeOwn p 0x108 1 (writeSeen p 0x108 1 s) = (0, t) := by
    rw [writeOwn_push, pushRefusal_writeSeen, hfree, ruled, if_pos rfl, pushOrder_writeSeen, hstages]
  have hframe := wordFrame_ok (w := 1) h (by decide) (faultWordAt_push p) (by decide) (by decide) hown
  rwa [shownWord_of_command (by decide)] at hframe

theorem answering_push {p : Port} {s t : State} (h : heard s p = true) (hports : t.ports = (pushSeen p s).ports) :
    (portGet t p).answering = true := by
  rw [portGet_of_ports hports]
  have hnoted := alarmKept_coreWake 0 (writeSeen p 0x108 1 s)
  have hanswer := answering_writeSeen (t := writeSeen p 0x108 1 s) h rfl
  unfold pushSeen coreWake
  split <;> cases p <;> exact hanswer

theorem respond_ord (p : Port) (r : Response) (s : State) : (respond p r s).ord = s.ord := by rw [respond_frame]

theorem inFlight_pushSeen (p q : Port) (tag : Nat) (s : State) : inFlight (pushSeen p s) q tag = inFlight s q tag := by
  rw [inFlight, pushSeen_ord, inFlight]

theorem inWindow_pushSeen (p q : Port) (tag : Nat) (s : State) : inWindow (pushSeen p s) q tag = inWindow s q tag := by
  rw [inWindow, pushSeen_ord, inWindow]

/-! ### An order that is new to its port -/

/-- The order has joined those in flight. -/
def pushed (p : Port) (s : State) : State :=
  { pushSeen p s with ord := { s.ord with orders := s.ord.orders ++ [pushedOrder s p], nextId := s.ord.nextId + 1 } }

theorem pushStages_new {p : Port} {s : State} (hflight : inFlight s p (pushedOrder s p).tag = none)
    (hwindow : inWindow s p (pushedOrder s p).tag = none) :
    pushStages p (pushedOrder s p) (pushSeen p s) = match earlyStages (pushed p s) (pushedOrder s p) with
      | some code => cutOrder (pushedOrder s p) code (pushed p s)
      | none => advance (pushedOrder s p) (pushed p s) := by
  unfold pushStages
  rw [inFlight_pushSeen, hflight]
  dsimp only
  rw [inWindow_pushSeen, hwindow]
  dsimp only
  rw [pushSeen_ord]
  rfl

theorem opcodeDefined_eq_false {n : Nat} (h : n = 0 ∨ 0x14 ≤ n) : opcodeDefined n = false := by
  rw [opcodeDefined, Bool.and_eq_false_iff, decide_eq_false_iff_not, decide_eq_false_iff_not]
  omega

/-! ### What the end of an order leaves -/

theorem parcelRelease_banks (n : Nat) (s : State) : (parcelRelease n s).ord.banks = s.ord.banks := by
  unfold parcelRelease
  split <;> rfl

theorem dropOrder_banks (o : Order) (s : State) : (dropOrder o s).ord.banks = s.ord.banks :=
  foldl_keeps (fun s => s.ord.banks) (fun s n => parcelRelease_banks n s) (orderParcels o) _

/-- The returns of the port that did not push an order do not move at its end. -/
theorem endOrder_banks_other (o : Order) (c l : Nat) (s : State) :
    perPortGet (endOrder o c l s).ord.banks o.port.other = perPortGet s.ord.banks o.port.other := by
  unfold endOrder
  dsimp only
  split
  · rw [dropOrder_banks]
  · split
    · exact congrArg (perPortGet · o.port.other) (dropOrder_banks o s)
    · unfold enterWindow
      split
      · simp [postRet, modBank, dropOrder_banks]
      · simp [postRet, modBank, dropOrder_banks]

/-- An order that ends before stage 10 holds nothing that is to be given back. -/
theorem cutOrder_eq {o : Order} (h : o.stage ≠ .admitted) (code : Nat) (s : State) :
    ∃ l, cutOrder o code s = endOrder o code 0 { s with sat := l } := by
  unfold cutOrder
  rw [undoLift, if_neg h]
  split
  · exact ⟨_, rfl⟩
  · exact ⟨s.sat, rfl⟩

theorem completes_pushUndefined {p : Port} {s : State} (h : WriteAdmitted s p 0x108) (hfree : pushRefusal s p = 0)
    (hflight : inFlight s p (pushedOrder s p).tag = none) (hwindow : inWindow s p (pushedOrder s p).tag = none)
    (hop : (pushedOrder s p).opcode = 0 ∨ 0x14 ≤ (pushedOrder s p).opcode) (hnew : ∀ o ∈ s.ord.orders, o.id ≠ s.ord.nextId) :
    Completes (exec (.ordPush p 1 false 0 [] none) s) fun t =>
      Returned t p (pushedOrder s p).tag 0x010 ∧ t.ord.orders = s.ord.orders ∧
      (perPortGet t.ord.banks p.other) = (perPortGet s.ord.banks p.other) ∧ Owes t p .ok 0x108 0 ∧
      (s.sys.state = .standby → t.sys.state = .run) := by
  obtain ⟨l, hcut⟩ := cutOrder_eq (o := pushedOrder s p) nofun 0x010 (pushed p s)
  have hearly : earlyStages (pushed p s) (pushedOrder s p) = some 0x010 := by
    rw [earlyStages, opcodeDefined_eq_false hop]
    rfl
  have hstages := pushStages_new hflight hwindow
  rw [hearly] at hstages
  dsimp only at hstages
  rw [hcut] at hstages
  rw [exec_ordPush, wordFrame_push h hfree hstages]
  refine completes_next ⟨?_, ?_, ?_, owes_respond ?_ .., fun hstandby => ?_⟩
  · rw [Returned, respond_ord]
    exact returned_endOrder rfl rfl ..
  · rw [respond_ord, endOrder_orders]
    show (s.ord.orders ++ [pushedOrder s p]).filter _ = _
    have hold : s.ord.orders.filter (fun x => decide (x.id ≠ (pushedOrder s p).id)) = s.ord.orders :=
      List.filter_eq_self.mpr fun o ho => decide_eq_true (hnew o ho)
    rw [List.filter_append, hold]
    simp
  · rw [respond_ord]
    exact endOrder_banks_other (pushedOrder s p) ..
  · exact answering_push h.1.1 (endOrder_ports ..)
  · rw [respond_frame]
    show (endOrder _ _ _ _).sys.state = _
    rw [endOrder_sys]
    show (pushSeen p s).sys.state = _
    exact congrArg Sys.state (coreWake_run (s := writeSeen p 0x108 1 s) (.inr hstandby) 0)

/-! ### A repeated tag -/

theorem completes_pushInFlight {p : Port} {o : Order} {s : State} (h : WriteAdmitted s p 0x108) (hfree : pushRefusal s p = 0)
    (hflight : inFlight s p (pushedOrder s p).tag = some o) :
    Completes (exec (.ordPush p 1 false 0 [] none) s) fun t =>
      t.ord.orders = s.ord.orders.map (fun x => if x.id = o.id then { x with seen := true } else x) ∧
      t.ord.banks = perPortSet s.ord.banks p { perPortGet s.ord.banks p with
        dupcnt := satInc (perPortGet s.ord.banks p).dupcnt } ∧ Owes t p .ok 0x108 0 := by
  have hstages : pushStages p (pushedOrder s p) (pushSeen p s) =
      countDup p (modOrder o.id (fun y => { y with seen := true }) (pushSeen p s)) := by
    rw [pushStages, inFlight_pushSeen, hflight]
  have hanswer := answering_push (t := countDup p (modOrder o.id (fun y => { y with seen := true }) (pushSeen p s))) h.1.1 rfl
  rw [exec_ordPush, wordFrame_push h hfree hstages]
  refine completes_next ⟨?_, ?_, owes_respond hanswer ..⟩
  · rw [respond_ord, countDup, modBank, modOrder, pushSeen_ord]
  · rw [respond_ord, countDup, modBank, modOrder, pushSeen_ord]

theorem completes_pushInWindow {p : Port} {r : Ret} {s : State} (h : WriteAdmitted s p 0x108) (hfree : pushRefusal s p = 0)
    (hflight : inFlight s p (pushedOrder s p).tag = none) (hwindow : inWindow s p (pushedOrder s p).tag = some r) :
    Completes (exec (.ordPush p 1 false 0 [] none) s) fun t =>
      (perPortGet t.ord.banks p).ring.getLast? =
        some { r with code := if r.code = 0 then 1 else r.code, seen := false, dup := true } ∧
      (perPortGet t.ord.banks p).dupcnt = satInc (perPortGet s.ord.banks p).dupcnt ∧ t.ord.orders = s.ord.orders := by
  have hstages : pushStages p (pushedOrder s p) (pushSeen p s) = countDup p
      (postRet p { r with code := if r.code = 0 then 1 else r.code, seen := false, dup := true } (pushSeen p s)) := by
    rw [pushStages, inFlight_pushSeen, hflight]
    dsimp only
    rw [inWindow_pushSeen, hwindow]
  rw [exec_ordPush, wordFrame_push h hfree hstages]
  refine completes_next ⟨?_, ?_, ?_⟩ <;> rw [respond_ord, countDup, postRet, modBank, modBank, pushSeen_ord]
  · simp
  · simp

/-! ### NONCE and NONCE_FILL -/

theorem orderGet_modOrder {f : Order → Order} (hf : ∀ x, (f x).id = x.id) (i j : Nat) (s : State) :
    orderGet (modOrder i f s) j = (orderGet s j).map (fun x => if x.id = i then f x else x) := by
  have hid : ∀ x, (if x.id = i then f x else x).id = x.id := fun x => by
    split
    · exact hf x
    · rfl
  simp only [orderGet, modOrder, List.find?_map, Function.comp_def, hid]

/-- The errors that stage 6 finds in the parcels do not depend on the order itself being in flight. -/
theorem parcelsBad_pushed (p : Port) (s : State) :
    parcelsBad (pushed p s) (pushedOrder s p) = parcelsBad s (pushedOrder s p) := by
  have hparcel : ∀ n, parcelGet (pushed p s) n = parcelGet s n := fun n => rfl
  have hnamed : ∀ n, (pushed p s).ord.orders.any (fun x => decide (x.id ≠ (pushedOrder s p).id) && orderNames x n) =
      s.ord.orders.any (fun x => decide (x.id ≠ (pushedOrder s p).id) && orderNames x n) := fun n => by
    show (s.ord.orders ++ [pushedOrder s p]).any _ = _
    simp
  simp only [parcelsBad, hparcel, hnamed]

theorem earlyStages_nonce {s : State} {o : Order} (hop : isNonce o.opcode = true) (hparcels : parcelsBad s o = false)
    (hlength : lengthBad s o = false) : earlyStages s o = none := by
  have hor : o.opcode = 0x0D ∨ o.opcode = 0x0E := by simpa [isNonce] using hop
  have hdef : opcodeDefined o.opcode = true := by rcases hor with he | he <;> (rw [he]; rfl)
  have hslot : slotBad s o = false := by rw [slotBad, if_pos hop]
  have hkind : kindSuits s o = true := by simp [kindSuits, hop]
  have hheld : heldByOther s o = false := by rw [heldByOther, orderSlots, if_pos hop]; rfl
  have halarm : ¬ (s.sys.alarm = true ∧ (o.opcode = 0x12 ∨ o.opcode = 0x13 ∨ o.opcode = 0x0F)) := by omega
  simp [earlyStages, hdef, hslot, hkind, hheld, hparcels, hlength, halarm]

/-- A nonce order passes every stage up to the tenth, where it waits. -/
theorem advance_nonce {s : State} {o : Order} (hop : isNonce o.opcode = true) (hstage : o.stage = .queued) (hpast : o.past8 = false) :
    advance o s = modOrder o.id (fun x => { x with stage := .waiting }) (modOrder o.id (fun x => { x with past8 := true }) s) := by
  have hor : o.opcode = 0x0D ∨ o.opcode = 0x0E := by simpa [isNonce] using hop
  have hstage8 : stage8 s o = .pass := by rw [stage8, if_pos (.inl hop)]
  have hblocked : ∀ t x, x.opcode = o.opcode → blocked t x = false := fun t x hx => by
    have hslots : orderSlots x = [] := by rw [orderSlots, hx, if_pos hop]
    simp [blocked, hslots]
  have hstage9 : ∀ t x, x.opcode = o.opcode → stage9 t x = .pass := fun t x hx => by
    rcases hor with he | he <;> simp [stage9, hx, he]
  unfold advance
  rw [hstage]
  simp only [hpast, Bool.false_eq_true, if_false, hstage8, hblocked, hstage9]
  unfold tryAdmit
  dsimp only
  rw [if_pos hop]

theorem completes_pushNonce {p : Port} {s : State} (h : WriteAdmitted s p 0x108) (hfree : pushRefusal s p = 0)
    (hflight : inFlight s p (pushedOrder s p).tag = none) (hwindow : inWindow s p (pushedOrder s p).tag = none)
    (hop : isNonce (pushedOrder s p).opcode = true) (hparcels : parcelsBad s (pushedOrder s p) = false)
    (hlength : lengthBad s (pushedOrder s p) = false) (hnew : ∀ o ∈ s.ord.orders, o.id < s.ord.nextId) :
    Completes (exec (.ordPush p 1 false 0 [] none) s) fun t =>
      (∃ o, orderGet t s.ord.nextId = some o ∧ o.stage = .waiting ∧ o.port = p ∧ o.opcode = (pushedOrder s p).opcode ∧
        o.pushTick = s.sys.tick) ∧ t.ord.banks = s.ord.banks ∧ t.ord.nextId = s.ord.nextId + 1 := by
  have hlength' : lengthBad (pushed p s) (pushedOrder s p) = false := by
    have hne : (pushedOrder s p).opcode ≠ 4 := fun he => by rw [he] at hop; cases hop
    rw [lengthBad] at hlength ⊢
    simpa [hne] using hlength
  have hstages := pushStages_new hflight hwindow
  rw [earlyStages_nonce hop ((parcelsBad_pushed p s).trans hparcels) hlength', advance_nonce hop rfl rfl] at hstages
  dsimp only at hstages
  rw [exec_ordPush, wordFrame_push h hfree hstages]
  refine completes_next ⟨⟨{ pushedOrder s p with past8 := true, stage := .waiting }, ?_, rfl, rfl, rfl, rfl⟩, ?_, ?_⟩
  · have hget : orderGet (pushed p s) s.ord.nextId = some (pushedOrder s p) := by
      have hold : s.ord.orders.find? (fun x => decide (x.id = s.ord.nextId)) = none :=
        List.find?_eq_none.mpr fun o ho => by simpa using (hnew o ho).ne
      show (s.ord.orders ++ [pushedOrder s p]).find? _ = _
      rw [List.find?_append, hold]
      simp [show (pushedOrder s p).id = s.ord.nextId from rfl]
    rw [orderGet, respond_ord, ← orderGet, orderGet_modOrder (by intro; rfl), orderGet_modOrder (by intro; rfl), hget]
    simp
  · rw [respond_ord]
    rfl
  · rw [respond_ord]
    rfl

/-! ### A push that is refused -/

theorem completes_pushRefused {p : Port} {s : State} (h : WriteAdmitted s p 0x108) (hwhy : pushRefusal s p ≠ 0) :
    Completes (exec (.ordPush p 1 false 0 [] none) s) fun t =>
      (portGet t p).owed.stat = .refused ∧ (portGet t p).refuseReason = 9 ∧
      (perPortGet t.ord.banks p).refuse = pushRefusal s p + 4 * p.bit ∧ t.ord.orders = s.ord.orders ∧
      (bankGet t.fb (.ord p)).fst.getLsbD 0 = true := by
  set w := modBank p (fun b => { b with refuse := pushRefusal s p + 4 * p.bit }) (writeSeen p 0x108 1 s) with hw
  have hown : writeOwn p 0x108 1 (writeSeen p 0x108 1 s) = (8 + 1, raise (.ord p) 0 w) := by
    rw [writeOwn_push, pushRefusal_writeSeen, ruled, if_neg hwhy, refusePush]
  have hframe := wordFrame_refused (w := 1) h (by decide) (faultWordAt_push p) hown
  have hlive : Live w := by
    obtain ⟨⟨hheard, hrights⟩, -⟩ := h
    refine ⟨fun he => ?_, fun he => ?_⟩
    · have he' : s.sys.state = .off := he
      simp [heard, he'] at hheard
    · have he' : s.sys.state = .fatal := he
      rw [he'] at hrights
      cases hrights
  have hraised := raised_raise (b := .ord p) (k := 0) hlive (.inl (by cases p <;> decide))
  have hanswer : (portGet w p).answering = true := answering_writeSeen h.1.1 rfl
  have hframe' := hraised.frame
  have hbits := congrArg (fun x : BitVec 9 => x.getLsbD 0) hraised.bits
  have hanswer' : (portGet (raise (.ord p) 0 w) p).answering = true :=
    (alarmKept_raiseMany (.ord p) [0] w).answers p hanswer
  rw [exec_ordPush, hframe, turnDown_refused]
  generalize raise (.ord p) 0 w = u at *
  have howes := owes_wroteRefused hanswer' 0x108 (8 + 1)
  refine completes_next ⟨congrArg Response.stat howes, ?_, ?_, ?_, ?_⟩
  · rw [wroteRefused, portGet_respond, portGet_noteRefusal, if_pos rfl]
  · rw [wroteRefused_frame, hframe', hw]
    simp [modBank]
  · rw [wroteRefused_frame, hframe']
    rfl
  · rw [wroteRefused_frame]
    simpa [stickyBits, srcBit] using hbits

/-- Settles O33. -/
theorem orderPushes : Obligations.OrderPushes :=
  ⟨fun _ _ => completes_pushUndefined, fun _ _ _ => completes_pushInFlight, fun _ _ _ => completes_pushInWindow,
    fun _ _ => completes_pushNonce, fun _ _ => completes_pushRefused⟩

end Machine
end Sys2Proof
end

section
/-! Single reads that act, and the parcels (chapter 11). -/
namespace Sys2Proof
namespace Machine

open Safety

/-! ### The answer to a read that acts -/

/-- The state as a single-frame read finds it: the recorder has noted the transaction's bits (R891). -/
def readSeen (p : Port) (a : Nat) (s : State) : State := takeSdi p 32 (sdiHead 0 a 0) s

/-- A read of a word that acts and belongs to no group is answered with what the word gives. -/
theorem readFrame_acting {p : Port} {a : Nat} {s t : State} {w : Word} (h : Admitted s p false a) (ha : a < 0xF00)
    (hgroup : groupOf a = none) (hlive : NotReplayed s) (hact : actingRead p a (readSeen p a s) = (w, t)) :
    readFrame p a s = respondAs p (!unsignedRead a) { stat := .ok, addr := a, data := w } t := by
  have hread := (singleRead_of_groupless p (s := readSeen p a s) hgroup hlive).trans hact
  rw [readFrame_of_admitted h ha, ← readSeen, hread]

theorem respondAs_frame (p : Port) (signed : Bool) (r : Response) (s : State) :
    respondAs p signed r s = { s with ports := (respondAs p signed r s).ports } := by
  unfold respondAs
  split <;> rfl

theorem owes_respondAs {p : Port} {s : State} (h : (portGet s p).answering = true) (signed : Bool) (st : Stat) (a : Nat)
    (d : Word) : Owes (respondAs p signed { stat := st, addr := a, data := d } s) p st a d := by
  rw [Owes, respondAs, if_pos h, portGet_modPort_same]

theorem portGet_respondAs_other (p : Port) (signed : Bool) (r : Response) (s : State) :
    portGet (respondAs p signed r s) p.other = portGet s p.other := by
  unfold respondAs
  split
  · rw [portGet_modPort, if_neg (by cases p <;> nofun)]
  · rfl

theorem answered_respondAs (p q : Port) (signed : Bool) (r : Response) (s : State) :
    Answered (portGet s q) (portGet (respondAs p signed r s) q) := by
  unfold respondAs
  split
  · rw [portGet_modPort]
    split
    · rename_i hq
      rw [hq]
      rfl
    · rfl
  · rfl

theorem answered_readSeen (p q : Port) (a : Nat) (s : State) : Answered (portGet s q) (portGet (readSeen p a s) q) := by
  cases p <;> cases q <;> rfl

theorem portGet_readSeen_other (p : Port) (a : Nat) (s : State) : portGet (readSeen p a s) p.other = portGet s p.other := by
  cases p <;> rfl

theorem answering_readSeen {p : Port} {a : Nat} {s t : State} (h : heard s p = true) (hports : t.ports = (readSeen p a s).ports) :
    (portGet t p).answering = true := by
  rw [portGet_of_ports hports, answered_readSeen p p a s]
  exact answering_of_heard h

/-- A read that leaves the ports but for its answer. -/
theorem portsAnswer_read {p : Port} {a : Nat} {s t : State} (hports : t.ports = (readSeen p a s).ports) (signed : Bool)
    (r : Response) : PortsAnswer s (respondAs p signed r t) p := by
  refine portsAnswer_of ?_ ?_
  · rw [portGet_respondAs_other, portGet_of_ports hports, portGet_readSeen_other]
  · have h := answered_respondAs p p signed r t
    rw [portGet_of_ports hports] at h
    exact answered_trans (answered_readSeen p p a s) h

/-! ### Two equal reads at one tick -/

/-- The first port's transaction, then the same of the other. -/
def bothRead (a : Addr) (q : Port) (s : State) : State := readFrame q.other a.toNat (readFrame q a.toNat s)

/-- Two reads that contend and whose outcome depends on their order are a tie that the priority decides (R261, R307). -/
theorem together_reads {p : Port} {a : Addr} {s : State} (hcontend : contend s p (.read a) (.read a) = true)
    (hne : bothRead a s.sys.prio s ≠ bothRead a s.sys.prio.other s) :
    together p (.read a) (.read a) (runFrame p (.read a)) (runFrame p.other (.read a)) s = flipPrio (bothRead a s.sys.prio s) := by
  have hrun : ∀ q, (if q = p then runFrame p.other (.read a) (runFrame p (.read a) s)
      else runFrame p (.read a) (runFrame p.other (.read a) s)) = bothRead a q s := by
    intro q
    by_cases hq : q = p
    · rw [if_pos hq, hq]
      rfl
    · have hq' : q = p.other ∧ q.other = p := by cases p <;> cases q <;> simp_all [Port.other]
      rw [if_neg hq, bothRead, hq'.2, hq'.1]
      rfl
  unfold together
  simp only [carry, hrun]
  rw [hcontend, if_pos (by simpa using hne)]

theorem frameTest_read {a : Addr} (ha : a.toNat < 0xF00) (s : State) (q : Port) : frameTest s q (.read a) = false := by
  have : ¬ 0xF00 < a.toNat + 1 := by omega
  simp [frameTest, testOpen, this]

/-! ### PCL_ALLOC -/

theorem groupOf_pclAlloc : groupOf 0x180 = none := by decide

/-- The answer to an allocation, whether a parcel was free or not. -/
theorem readFrame_pclAlloc {p : Port} {s : State} (h : Admitted s p false 0x180) (hlive : NotReplayed s) :
    readFrame p 0x180 s = respondAs p true { stat := .ok, addr := 0x180, data := toWord (allocParcel p (readSeen p 0x180 s)).1 }
      (allocParcel p (readSeen p 0x180 s)).2 :=
  readFrame_acting h (by decide) groupOf_pclAlloc hlive (actingRead_pclAlloc ..)

/-- An allocation with a free parcel. -/
theorem readFrame_pclAlloc_free {p : Port} {n : Nat} {s : State} (h : Admitted s p false 0x180) (hlive : NotReplayed s)
    (hfree : freeParcel s = some n) :
    readFrame p 0x180 s = respondAs p true { stat := .ok, addr := 0x180, data := toWord n }
      (modParcel n (fun _ => { owner := some p }) (readSeen p 0x180 s)) := by
  rw [readFrame_pclAlloc h hlive, allocParcel_of_free p (s := readSeen p 0x180 s) hfree]

/-- An allocation with no free parcel. -/
theorem readFrame_pclAlloc_full {p : Port} {s : State} (h : Admitted s p false 0x180) (hlive : NotReplayed s)
    (hfull : freeParcel s = none) :
    readFrame p 0x180 s = respondAs p true { stat := .ok, addr := 0x180, data := 0x3FF } (readSeen p 0x180 s) := by
  have hfull' : freeParcel (readSeen p 0x180 s) = none := hfull
  rw [readFrame_pclAlloc h hlive]
  unfold allocParcel
  rw [hfull']
  rfl

/-- The free parcel is the lowest, and below 512. -/
theorem freeParcel_eq_some {s : State} {n : Nat} (h : freeParcel s = some n) :
    (parcelGet s n).owner = none ∧ (∀ m, m < n → (parcelGet s m).owner ≠ none) ∧ n < 512 := by
  unfold freeParcel at h
  rw [List.find?_range_eq_some] at h
  obtain ⟨hfree, hmem, hleast⟩ := h
  refine ⟨by simpa using hfree, fun m hm => ?_, by simpa using hmem⟩
  simpa using hleast m hm

theorem completes_pclAlloc {p : Port} {n : Nat} {s : State} (h : Admitted s p false 0x180) (hlive : NotReplayed s)
    (hfree : freeParcel s = some n) :
    Completes (exec (.pclAlloc p none) s) fun t =>
      (parcelGet s n).owner = none ∧ (∀ m, m < n → (parcelGet s m).owner ≠ none) ∧
      parcelGet t n = { owner := some p } ∧ ParcelsBut n s t ∧ Owes t p .ok 0x180 (toWord n) ∧ PortsAnswer s t p ∧
      t = { s with ord := { s.ord with parcels := t.ord.parcels }, ports := t.ports } := by
  obtain ⟨howner, hleast, -⟩ := freeParcel_eq_some hfree
  have hports : (modParcel n (fun _ => { owner := some p }) (readSeen p 0x180 s)).ports = (readSeen p 0x180 s).ports := rfl
  rw [exec_pclAlloc, execPclAlloc_alone, readFrame_pclAlloc_free h hlive hfree]
  refine completes_next ⟨howner, hleast, ?_, fun j hj => ?_, owes_respondAs (answering_readSeen h.1 hports) ..,
    portsAnswer_read hports .., ?_⟩
  · rw [parcelGet_respondAs, parcelGet_modParcel, if_pos rfl]
  · rw [parcelGet_respondAs, parcelGet_modParcel, if_neg hj]
    rfl
  · rw [respondAs_frame]
    rfl

theorem completes_pclAlloc_full {p : Port} {s : State} (h : Admitted s p false 0x180) (hlive : NotReplayed s)
    (hfull : freeParcel s = none) :
    Completes (exec (.pclAlloc p none) s) fun t => Owes t p .ok 0x180 0x3FF ∧ t = { s with ports := t.ports } := by
  rw [exec_pclAlloc, execPclAlloc_alone, readFrame_pclAlloc_full h hlive hfull]
  refine completes_next ⟨owes_respondAs (answering_readSeen h.1 rfl) .., ?_⟩
  rw [respondAs_frame]
  rfl

/-- What an allocation of the first port and one of the other leave. -/
structure AllocRace (n : Nat) (q : Port) (s t : State) : Prop where
  first : Owes t q .ok 0x180 (toWord n)
  second : (portGet t q.other).owed.data ≠ toWord n
  owner : (parcelGet t n).owner = some q
  sys : t.sys = s.sys

theorem toWord_ne {a b : Nat} (ha : a < 1024) (hb : b < 1024) (h : a ≠ b) : toWord a ≠ toWord b := by
  intro he
  have := congrArg BitVec.toNat he
  simp only [toWord, BitVec.toNat_ofNat] at this
  omega

/-- A read stays admitted while the hub's state, the pins and the port stay. -/
theorem admitted_congr {q : Port} {b : Nat} {s t : State} (h : Admitted s q false b) (hsys : t.sys = s.sys)
    (hpins : t.pins = s.pins) (hport : portGet t q = portGet s q) : Admitted t q false b := by
  have hheard : heard t q = heard s q := by
    have hports : perPortGet t.ports q = perPortGet s.ports q := hport
    rw [heard, hports, hpins, hsys, heard]
  exact ⟨hheard.trans h.1, by rw [hsys]; exact h.2⟩

theorem allocRace_bothRead {n : Nat} {s : State} (h : ∀ q, Admitted s q false 0x180) (hlive : NotReplayed s)
    (hfree : freeParcel s = some n) (q : Port) : AllocRace n q s (bothRead 0x180 q s) := by
  obtain ⟨-, -, hn⟩ := freeParcel_eq_some hfree
  set u := respondAs q true { stat := .ok, addr := 0x180, data := toWord n }
    (modParcel n (fun _ => { owner := some q }) (readSeen q 0x180 s)) with hu
  have hfirst : readFrame q 0x180 s = u := readFrame_pclAlloc_free (h q) hlive hfree
  have hframe : u = { s with ord := u.ord, ports := u.ports } := by
    rw [hu, respondAs_frame]
    rfl
  have howner : (parcelGet u n).owner = some q := by
    rw [hu, parcelGet_respondAs, parcelGet_modParcel, if_pos rfl]
  have howes : Owes u q .ok 0x180 (toWord n) := owes_respondAs
    (answering_readSeen (t := modParcel n (fun _ => { owner := some q }) (readSeen q 0x180 s)) (h q).1 rfl) ..
  have hother : portGet u q.other = portGet s q.other := by
    rw [hu, portGet_respondAs_other]
    exact portGet_readSeen_other ..
  have hsys : u.sys = s.sys := by rw [hframe]
  have hadm : Admitted u q.other false 0x180 := admitted_congr (h q.other) hsys (by rw [hframe]) hother
  have hback : q.other.other = q := by cases q <;> rfl
  have hlive' : NotReplayed u := by
    rw [NotReplayed, hsys]
    exact hlive
  clear_value u
  have hboth : bothRead 0x180 q s = readFrame q.other 0x180 u := by rw [← hfirst]; rfl
  rw [hboth]
  cases hnext : freeParcel u with
  | none =>
    rw [readFrame_pclAlloc_full hadm hlive' hnext]
    have hsecond := owes_respondAs (answering_readSeen (a := 0x180) hadm.1 rfl) true .ok 0x180 0x3FF
    have hkept := portGet_respondAs_other q.other true { stat := .ok, addr := 0x180, data := 0x3FF } (readSeen q.other 0x180 u)
    rw [portGet_readSeen_other, hback] at hkept
    refine ⟨?_, ?_, ?_, ?_⟩
    · rw [Owes, hkept]
      exact howes
    · rw [hsecond]
      exact toWord_ne (a := 0x3FF) (by decide) (by omega) (by omega)
    · rw [parcelGet_respondAs]
      exact howner
    · rw [respondAs_frame]
      exact hsys
  | some m =>
    obtain ⟨hm, -, hlt⟩ := freeParcel_eq_some hnext
    have hmn : m ≠ n := fun he => by rw [he, howner] at hm; cases hm
    rw [readFrame_pclAlloc_free hadm hlive' hnext]
    have hsecond := owes_respondAs (answering_readSeen (a := 0x180)
      (t := modParcel m (fun _ => { owner := some q.other }) (readSeen q.other 0x180 u)) hadm.1 rfl) true .ok 0x180 (toWord m)
    have hkept := portGet_respondAs_other q.other true { stat := .ok, addr := 0x180, data := toWord m }
      (modParcel m (fun _ => { owner := some q.other }) (readSeen q.other 0x180 u))
    rw [portGet_modParcel, portGet_readSeen_other, hback] at hkept
    refine ⟨?_, ?_, ?_, ?_⟩
    · rw [Owes, hkept]
      exact howes
    · rw [hsecond]
      exact toWord_ne (by omega) (by omega) hmn
    · rw [parcelGet_respondAs, parcelGet_modParcel, if_neg (Ne.symm hmn)]
      exact howner
    · rw [respondAs_frame]
      exact hsys

theorem completes_pclAlloc_tie {p : Port} {n : Nat} {s : State} (ha : Admitted s .a false 0x180) (hb : Admitted s .b false 0x180)
    (hlive : NotReplayed s) (hfree : freeParcel s = some n) :
    Completes (exec (.pclAlloc p (some (.read 0x180))) s) fun t =>
      Owes t s.sys.prio .ok 0x180 (toWord n) ∧ (portGet t s.sys.prio.other).owed.data ≠ toWord n ∧
      (parcelGet t n).owner = some s.sys.prio ∧ t.sys = { s.sys with tied := true } := by
  have hadm : ∀ q, Admitted s q false 0x180 := fun q => by
    cases q
    · exact ha
    · exact hb
  have hrace := allocRace_bothRead hadm hlive hfree
  have hcontend : contend s p (.read 0x180) (.read 0x180) = true := by
    have hthings : ∀ q, Thing.freeParcels ∈ frameThings s q (.read 0x180) := fun q => by simp [frameThings, frameItems, touches]
    rw [contend, List.any_eq_true]
    exact ⟨_, hthings p, by simpa using hthings p.other⟩
  have hne : bothRead 0x180 s.sys.prio s ≠ bothRead 0x180 s.sys.prio.other s := by
    intro he
    have howner := (hrace s.sys.prio).owner
    rw [he, (hrace s.sys.prio.other).owner] at howner
    revert howner
    cases s.sys.prio <;> nofun
  have hexec : exec (.pclAlloc p (some (.read 0x180))) s = .next (flipPrio (bothRead 0x180 s.sys.prio s)) := by
    rw [exec_pclAlloc, execPclAlloc, atOwn, if_neg (by simp [frameTest_read]), withTie, together_reads hcontend hne]
  obtain ⟨hfirst, hsecond, howner, hsys⟩ := hrace s.sys.prio
  rw [hexec]
  exact completes_next ⟨hfirst, hsecond, howner, by rw [flipPrio, hsys]⟩

/-! ### PCL_RELEASE -/

theorem faultWordAt_pclRelease (p : Port) : faultWordAt p 0x181 = none := by cases p <;> decide

theorem exec_pclRelease (p : Port) (data : Word) (s : State) :
    exec (.pclRelease p data none) s = .next (wordFrame p 0x181 data s) := rfl

theorem writeOwn_pclRelease (p : Port) (v : Nat) (s : State) : writeOwn p 0x181 v s = writeRelease p v s := rfl

theorem completes_pclRelease {p : Port} {data : Word} {s : State} (h : WriteAdmitted s p 0x181) (hlt : data.toNat < 512)
    (howner : (parcelGet s data.toNat).owner = some p) (hfree : parcelNamed s data.toNat = false) :
    Completes (exec (.pclRelease p data none) s) fun t =>
      parcelGet t data.toNat = {} ∧ ParcelsBut data.toNat s t ∧ Owes t p .ok 0x181 0 ∧ PortsAnswer s t p ∧
      t = { s with ord := { s.ord with parcels := t.ord.parcels }, ports := t.ports } := by
  set w := writeSeen p 0x181 data.toNat s with hw
  have howner' : (parcelGet w data.toNat).owner = some p := howner
  have hfree' : parcelNamed w data.toNat = false := hfree
  have hown : writeOwn p 0x181 data.toNat w = (0, parcelFree data.toNat w) := by
    rw [writeOwn_pclRelease, writeRelease, if_neg (by omega), if_pos howner', releaseRefusal, howner', hfree', ruled]
    simp
  have hframe := wordFrame_ok (w := data) h (by decide) (faultWordAt_pclRelease p) (by decide) (by decide) hown
  rw [shownWord_of_command (by decide)] at hframe
  have hports : (parcelFree data.toNat w).ports = w.ports := rfl
  rw [exec_pclRelease, hframe]
  refine completes_next ⟨?_, fun j hj => ?_, owes_respond (answering_writeSeen h.1.1 hports) .., ?_, ?_⟩
  · rw [respond, parcelGet_respondAs, parcelFree, parcelGet_modParcel, if_pos rfl]
  · rw [respond, parcelGet_respondAs, parcelFree, parcelGet_modParcel, if_neg hj]
    rfl
  · refine portsAnswer_of ?_ ?_
    · rw [portGet_respond_other]
      exact portGet_writeSeen_other ..
    · exact answered_trans (answered_writeSeen p p 0x181 data.toNat s) (answered_respond p p _ (parcelFree data.toNat w))
  · rw [respond_frame]
    rfl

theorem completes_pclRelease_refused {p : Port} {data : Word} {s : State} (h : WriteAdmitted s p 0x181) (hlt : data.toNat < 512)
    (hwhy : releaseRefusal s p data.toNat ≠ 0) :
    Completes (exec (.pclRelease p data none) s) fun t =>
      (portGet t p).owed.stat = .refused ∧ (portGet t p).refuseReason = 9 ∧
      t = { s with ord := { s.ord with pclRefuse := releaseRefusal s p data.toNat, pclRefusePort := p }, ports := t.ports } := by
  set w := writeSeen p 0x181 data.toNat s with hw
  set u := pclRefused p (releaseRefusal s p data.toNat) w with hu
  have hown : writeOwn p 0x181 data.toNat w = (8 + 1, u) := by
    have hsame : releaseRefusal w p data.toNat = releaseRefusal s p data.toNat := rfl
    rw [writeOwn_pclRelease, writeRelease, if_neg (by omega), hsame, ruled, if_neg hwhy]
  have hframe := wordFrame_refused (w := data) h (by decide) (faultWordAt_pclRelease p) hown
  have hrefused := refused_wroteRefused (s := s) (answering_writeSeen (t := u) h.1.1 rfl)
    (portGet_writeSeen_other ..) 0x181 (8 + 1)
  rw [exec_pclRelease, hframe, turnDown_refused]
  refine completes_next ⟨hrefused.stat, hrefused.noted.2, ?_⟩
  rw [wroteRefused_frame]
  rfl

/-! ### The parcel window -/

section Window
variable {k : Nat} (hk : k < 64)
include hk

theorem toNat_window : (BitVec.ofNat 12 (0x1C0 + k)).toNat = 0x1C0 + k := toNat_address (by omega)

theorem accOf_window : accOf (0x1C0 + k) = .rw := by interval_cases k <;> decide

theorem faultWordAt_window (p : Port) : faultWordAt p (0x1C0 + k) = none := by interval_cases k <;> cases p <;> decide

theorem writeOwn_window (p : Port) (v : Nat) (s : State) : writeOwn p (0x1C0 + k) v s = writeWindow p (0x1C0 + k) v s := by
  interval_cases k <;> rfl

theorem groupOf_window : groupOf (0x1C0 + k) = none := by interval_cases k <;> decide

theorem regRead_window (s : State) (p : Port) : regRead s p (0x1C0 + k) =
    parcelWord (parcelGet s (portGet s p).pclSel) (64 * (portGet s p).pclPage + k) := by
  simp only [regRead, accOf_window hk, faultWordAt_window hk]
  interval_cases k <;> rfl

theorem openAcc_window : openAcc (0x1C0 + k) = true := by rw [openAcc, accOf_window hk]

theorem shadowWord_window : shadowWord (0x1C0 + k) = false := by interval_cases k <;> decide

theorem exec_pclWinWrite (p : Port) (data : Word) (s : State) :
    exec (.pclWinWrite p k data none) s = .next (wordFrame p (0x1C0 + k) data s) := by
  show execPclWinWrite p k data none s = _
  rw [execPclWinWrite, atOwn, if_neg (by simp), withTie, runFrame, toNat_window hk]

theorem actingRead_window (p : Port) (s : State) : actingRead p (0x1C0 + k) s =
    (regRead s p (0x1C0 + k), readParcelEcc (portGet s p).pclSel (64 * (portGet s p).pclPage + k) s) := by
  interval_cases k <;> rfl

theorem exec_pclWinRead (p : Port) (err : Nat) (s : State) :
    exec (.pclWinRead p k err none) s = .next (readFrame p (0x1C0 + k) (markEcc p k err s)) := by
  show execPclWinRead p k err none s = _
  rw [execPclWinRead, atOwn, if_neg (by simp), withTie, runFrame, toNat_window hk]

end Window

/-- A window write that is taken. -/
def windowWritten (p : Port) (k : Nat) (data : Word) (s : State) : State :=
  writeParcel (portGet s p).pclSel (64 * (portGet s p).pclPage + k) data (writeSeen p (0x1C0 + k) data.toNat s)

theorem writeWindow_writeSeen (p : Port) (k : Nat) (data : Word) (s : State) (hvalid : data.getLsbD 8 = true) :
    writeWindow p (0x1C0 + k) data.toNat (writeSeen p (0x1C0 + k) data.toNat s) =
      ruled (pclWriteRefusal s p (portGet s p).pclSel)
        (pclRefused p (pclWriteRefusal s p (portGet s p).pclSel) (writeSeen p (0x1C0 + k) data.toNat s))
        (windowWritten p k data s) := by
  have hsel : (portGet (writeSeen p (0x1C0 + k) data.toNat s) p).pclSel = (portGet s p).pclSel := by rw [portGet_writeSeen]
  have hpage : (portGet (writeSeen p (0x1C0 + k) data.toNat s) p).pclPage = (portGet s p).pclPage := by rw [portGet_writeSeen]
  have hwhy : ∀ n, pclWriteRefusal (writeSeen p (0x1C0 + k) data.toNat s) p n = pclWriteRefusal s p n := fun n => rfl
  unfold writeWindow
  rw [bitAt_toNat, hvalid, if_pos rfl, hsel, hpage, hwhy, toWord_toNat, Nat.add_sub_cancel_left]
  rfl

theorem completes_pclWinWrite {p : Port} {k : Nat} {data : Word} {s : State} (hk : k < 64) (h : WriteAdmitted s p (0x1C0 + k))
    (hvalid : data.getLsbD 8 = true) (howner : (parcelGet s (portGet s p).pclSel).owner = some p)
    (hfree : parcelNamed s (portGet s p).pclSel = false) :
    Completes (exec (.pclWinWrite p k data none) s) fun t =>
      let n := (portGet s p).pclSel
      let off := 64 * (portGet s p).pclPage + k
      tblGet 0 (parcelGet t n).bytes off = data.setWidth 8 ∧
      (∀ i, i ≠ off → tblGet 0 (parcelGet t n).bytes i = tblGet 0 (parcelGet s n).bytes i) ∧
      (parcelGet t n).fill = (if data.getLsbD 9 then off + 1 else max (parcelGet s n).fill (off + 1)) ∧
      (parcelGet t n).last = (data.getLsbD 9 || (parcelGet s n).last) ∧ (parcelGet t n).owner = some p ∧
      ParcelsBut n s t ∧ Owes t p .ok (0x1C0 + k) (parcelWord (parcelGet t n) off) ∧ PortsAnswer s t p ∧
      t = { s with ord := { s.ord with parcels := t.ord.parcels }, ports := t.ports } := by
  set u := windowWritten p k data s with hu
  have hown : writeOwn p (0x1C0 + k) data.toNat (writeSeen p (0x1C0 + k) data.toNat s) = (0, u) := by
    have hwhy : pclWriteRefusal s p (portGet s p).pclSel = 0 := by simp [pclWriteRefusal, howner, hfree]
    rw [writeOwn_window hk, writeWindow_writeSeen p k data s hvalid, hwhy, ruled, if_pos rfl]
  have hpreset : 0x1C0 + k ≠ 0x08F := by omega
  have hframe := wordFrame_ok (w := data) h (openAcc_window hk) (faultWordAt_window hk p) (shadowWord_window hk) hpreset hown
  have hports : u.ports = (writeSeen p (0x1C0 + k) data.toNat s).ports := rfl
  have hlive : u.sys.state ≠ .replay := notReplayed_of_admitted (s := s) h.1 (by
    have h1 : ¬ (0x040 ≤ 0x1C0 + k ∧ 0x1C0 + k < 0x080) := by omega
    have h2 : ¬ (0x780 ≤ 0x1C0 + k ∧ 0x1C0 + k < 0x800) := by omega
    simp [hostRights, h1, h2])
  have hport : portGet u p = portGet (writeSeen p (0x1C0 + k) data.toNat s) p := portGet_of_ports hports p
  have hsel : (portGet u p).pclSel = (portGet s p).pclSel := by rw [hport, portGet_writeSeen]
  have hpage : (portGet u p).pclPage = (portGet s p).pclPage := by rw [hport, portGet_writeSeen]
  rw [shownWord_of_live hlive, regRead_window hk, hsel, hpage] at hframe
  have hparcel : ∀ j, parcelGet u j = if j = (portGet s p).pclSel then { parcelGet s (portGet s p).pclSel with
      bytes := tblSet 0 (parcelGet s (portGet s p).pclSel).bytes (64 * (portGet s p).pclPage + k) (data.setWidth 8)
      ecc := tblSet 0 (parcelGet s (portGet s p).pclSel).ecc (64 * (portGet s p).pclPage + k) 0
      fill := if data.getLsbD 9 then 64 * (portGet s p).pclPage + k + 1
        else max (parcelGet s (portGet s p).pclSel).fill (64 * (portGet s p).pclPage + k + 1)
      last := data.getLsbD 9 || (parcelGet s (portGet s p).pclSel).last } else parcelGet s j := fun j => by
    rw [hu, windowWritten, writeParcel, parcelGet_modParcel]
    rfl
  have hself := hparcel (portGet s p).pclSel
  rw [if_pos rfl] at hself
  have hanswer := answering_writeSeen h.1.1 hports
  rw [exec_pclWinWrite hk, hframe]
  refine completes_next ?_
  intro n off
  have howes := owes_respond hanswer .ok (0x1C0 + k) (parcelWord (parcelGet u n) off)
  have hparcel' : ∀ j, parcelGet (respond p { stat := .ok, addr := 0x1C0 + k, data := parcelWord (parcelGet u n) off } u) j =
      parcelGet u j := fun j => parcelGet_respondAs ..
  refine ⟨?_, fun i hi => ?_, ?_, ?_, ?_, fun j hj => ?_, ?_, ?_, ?_⟩
  · rw [hparcel', hself, tblGet_tblSet, if_pos rfl]
  · rw [hparcel', hself, tblGet_tblSet, if_neg hi]
  · rw [hparcel', hself]
  · rw [hparcel', hself]
  · rw [hparcel', hself]
    exact howner
  · rw [hparcel', hparcel, if_neg hj]
  · rw [hparcel']
    exact howes
  · refine portsAnswer_of ?_ ?_
    · rw [portGet_respond_other, portGet_of_ports hports, portGet_writeSeen_other]
    · have hanswered := answered_respond p p { stat := .ok, addr := 0x1C0 + k, data := parcelWord (parcelGet u n) off } u
      rw [hport] at hanswered
      exact answered_trans (answered_writeSeen ..) hanswered
  · rw [respond_frame]
    rfl

theorem completes_pclWinWrite_refused {p : Port} {k : Nat} {data : Word} {s : State} (hk : k < 64)
    (h : WriteAdmitted s p (0x1C0 + k)) (hvalid : data.getLsbD 8 = true)
    (hwhy : (parcelGet s (portGet s p).pclSel).owner ≠ some p ∨ parcelNamed s (portGet s p).pclSel = true) :
    Completes (exec (.pclWinWrite p k data none) s) fun t =>
      (portGet t p).owed.stat = .refused ∧ (portGet t p).refuseReason = 9 ∧ t.ord.parcels = s.ord.parcels ∧
      t = { s with ord := { s.ord with pclRefuse := 3, pclRefusePort := p }, ports := t.ports } := by
  set u := pclRefused p 3 (writeSeen p (0x1C0 + k) data.toNat s) with hu
  have hown : writeOwn p (0x1C0 + k) data.toNat (writeSeen p (0x1C0 + k) data.toNat s) = (8 + 1, u) := by
    have hthree : pclWriteRefusal s p (portGet s p).pclSel = 3 := by rw [pclWriteRefusal, if_pos hwhy]
    rw [writeOwn_window hk, writeWindow_writeSeen p k data s hvalid, hthree, ruled, if_neg (by decide)]
  have hframe := wordFrame_refused (w := data) h (openAcc_window hk) (faultWordAt_window hk p) hown
  have hrefused := refused_wroteRefused (s := s) (answering_writeSeen (t := u) h.1.1 rfl)
    (portGet_writeSeen_other ..) (0x1C0 + k) (8 + 1)
  rw [exec_pclWinWrite hk, hframe, turnDown_refused]
  refine completes_next ⟨hrefused.stat, hrefused.noted.2, ?_, ?_⟩ <;> rw [wroteRefused_frame] <;> rfl

theorem completes_pclWinRead {p : Port} {k : Nat} {s : State} (hk : k < 64) (h : Admitted s p false (0x1C0 + k))
    (hlive : NotReplayed s)
    (hclean : tblGet 0 (parcelGet s (portGet s p).pclSel).ecc (64 * (portGet s p).pclPage + k) = 0) :
    Completes (exec (.pclWinRead p k 0 none) s) fun t =>
      Owes t p .ok (0x1C0 + k) (parcelWord (parcelGet s (portGet s p).pclSel) (64 * (portGet s p).pclPage + k)) ∧
      PortsAnswer s t p ∧ t = { s with ports := t.ports } := by
  set u := readSeen p (0x1C0 + k) s with hu
  have hsel : (portGet u p).pclSel = (portGet s p).pclSel := by rw [hu, answered_readSeen p p]
  have hpage : (portGet u p).pclPage = (portGet s p).pclPage := by rw [hu, answered_readSeen p p]
  have hparcel : ∀ n, parcelGet u n = parcelGet s n := fun n => rfl
  have hact : actingRead p (0x1C0 + k) u =
      (parcelWord (parcelGet s (portGet s p).pclSel) (64 * (portGet s p).pclPage + k), u) := by
    rw [actingRead_window hk, regRead_window hk, hsel, hpage, hparcel, readParcelEcc, hparcel, hclean]
    rfl
  have hmark : markEcc p k 0 s = s := by simp [markEcc, inRange]
  rw [exec_pclWinRead hk, hmark, readFrame_acting h (by omega) (groupOf_window hk) hlive hact]
  refine completes_next ⟨owes_respondAs (answering_readSeen h.1 rfl) .., portsAnswer_read rfl .., ?_⟩
  rw [respondAs_frame]
  rfl

/-- The addressed byte stands in double-bit error. -/
def windowBroken (p : Port) (k : Nat) (s : State) : State :=
  modParcel (portGet s p).pclSel (fun q => { q with ecc := tblSet 0 q.ecc (64 * (portGet s p).pclPage + k) 2 }) s

/-- A byte in double-bit error reads 0x00. -/
theorem parcelWord_of_broken {q : Parcel} {off : Nat} (h : tblGet 0 q.ecc off = 2) : parcelWord q off &&& 0x1FF = 0 := by
  rw [parcelWord, if_pos h]
  cases q.last && decide (off + 1 = q.fill) <;> decide

theorem completes_pclWinRead_broken {p : Port} {k : Nat} {s : State} (hk : k < 64) (h : Admitted s p false (0x1C0 + k))
    (hstate : s.sys.state = .run ∨ s.sys.state = .standby) (hnone : NoneContained s .pcl) :
    Completes (exec (.pclWinRead p k 2 none) s) fun t =>
      (portGet t p).owed.stat = .ok ∧ (portGet t p).owed.data &&& 0x1FF = 0 ∧ t.fb.pcl.fst.getLsbD 1 = true := by
  set w := windowBroken p k s with hw
  set u := readSeen p (0x1C0 + k) w with hu
  have hmark : markEcc p k 2 s = w := by
    rw [markEcc, h.1]
    rcases hstate with he | he <;> simp [he, inRange, hw, windowBroken]
  have hsel : (portGet u p).pclSel = (portGet s p).pclSel := by rw [hu, answered_readSeen p p]; rfl
  have hpage : (portGet u p).pclPage = (portGet s p).pclPage := by rw [hu, answered_readSeen p p]; rfl
  have hecc : tblGet 0 (parcelGet u (portGet s p).pclSel).ecc (64 * (portGet s p).pclPage + k) = 2 := by
    show tblGet 0 (parcelGet w (portGet s p).pclSel).ecc _ = 2
    rw [hw, windowBroken, parcelGet_modParcel, if_pos rfl, tblGet_tblSet, if_pos rfl]
  have hact : actingRead p (0x1C0 + k) u =
      (parcelWord (parcelGet u (portGet s p).pclSel) (64 * (portGet s p).pclPage + k), raise .pcl 1 u) := by
    rw [actingRead_window hk, regRead_window hk, hsel, hpage, readParcelEcc, hecc]
    rfl
  have hadm : Admitted w p false (0x1C0 + k) := admitted_congr h rfl rfl rfl
  have hlivew : NotReplayed w := by
    show s.sys.state ≠ _
    rcases hstate with he | he <;> rw [he] <;> nofun
  have hlive : Live u := by
    show s.sys.state ≠ _ ∧ s.sys.state ≠ _
    rcases hstate with he | he <;> rw [he] <;> exact ⟨nofun, nofun⟩
  have hraised := raised_raise (b := .pcl) (k := 1) hlive (.inr ⟨by decide, hnone⟩)
  have hanswer : (portGet (raise .pcl 1 u) p).answering = true :=
    (alarmKept_raiseMany .pcl [1] u).answers p (answering_readSeen hadm.1 rfl)
  have howes := owes_respondAs hanswer (!unsignedRead (0x1C0 + k)) .ok (0x1C0 + k)
    (parcelWord (parcelGet u (portGet s p).pclSel) (64 * (portGet s p).pclPage + k))
  have hbits := congrArg (fun x : BitVec 9 => x.getLsbD 1) hraised.bits
  rw [exec_pclWinRead hk, hmark, readFrame_acting hadm (by omega) (groupOf_window hk) hlivew hact]
  refine completes_next ⟨congrArg Response.stat howes, ?_, ?_⟩
  · rw [howes]
    exact parcelWord_of_broken hecc
  · rw [respondAs_frame]
    simpa [stickyBits, srcBit, bankGet] using hbits

/-- Settles O36. -/
theorem parcels : Obligations.Parcels :=
  ⟨fun _ _ _ => completes_pclAlloc, fun _ _ => completes_pclAlloc_full, fun _ _ _ => completes_pclAlloc_tie,
    fun _ _ _ => completes_pclRelease, fun _ _ _ => completes_pclRelease_refused, fun _ _ _ _ => completes_pclWinWrite,
    fun _ _ _ _ => completes_pclWinWrite_refused, fun _ _ _ => completes_pclWinRead,
    fun _ _ _ => completes_pclWinRead_broken⟩

end Machine
end Sys2Proof
end

section
/-! What a slot's engine does to its own slot (chapters 14, 15), and ACTIVATE, WARM_RESET, DEACTIVATE. -/
namespace Sys2Proof
namespace Machine

set_option Elab.async false

open Safety

/-! ### A slot that changed, but for its trace and the inputs taken -/

/-- The change of a slot pays no regard to its trace and to the inputs that the recorder took. -/
def Traceless (f : Slot → Slot) : Prop := ∀ x tr ta, f { x with trace := tr, taken := ta } = { f x with trace := tr, taken := ta }

theorem slotIs_refl (k : Nat) (s : State) : SlotIs k (slotGet s k) s s := ⟨rfl, fun _ => rfl, fun _ _ => rfl, rfl⟩

theorem slotIs_modSlot {k : Nat} {x : Slot} {s t : State} {f : Slot → Slot} (h : SlotIs k x s t) (hf : Traceless f) :
    SlotIs k (f x) s (modSlot k f t) := by
  obtain ⟨hslot, htrace, hbut, hframe⟩ := h
  have hself : slotGet (modSlot k f t) k = { f x with trace := (slotGet t k).trace, taken := (slotGet t k).taken } := by
    rw [slotGet_modSlot, if_pos rfl]
    conv_lhs => rw [hslot]
    exact hf _ _ _
  refine ⟨?_, fun hk => ?_, fun j hj => ?_, ?_⟩
  · rw [hself]
  · rw [hself]
    exact htrace hk
  · rw [slotGet_modSlot, if_neg hj, hbut j hj]
  · rw [modSlot, hframe]

/-- A change of the trace alone. -/
theorem slotIs_traced {k : Nat} {x : Slot} {s t u : State} (h : SlotIs k x s t) (hslot : Traced k t u)
    (hquiet : isLocal k = true → u = t) (hframe : u = { t with slots := u.slots }) : SlotIs k x s u := by
  obtain ⟨hself, htrace, hbut, hs⟩ := h
  refine ⟨?_, fun hk => ?_, fun j hj => (hslot.2 j hj).trans (hbut j hj), ?_⟩
  · rw [hslot.1, hself]
  · rw [hquiet hk]
    exact htrace hk
  · rw [hframe, hs]

theorem slotIs_traceAdd {k : Nat} {x : Slot} {s t : State} (h : SlotIs k x s t) (kind data : Nat) :
    SlotIs k x s (traceAdd k kind data t) :=
  slotIs_traced h (traced_traceAdd ..) (fun hk => traceAdd_local (by simpa [isLocal] using hk) ..) (traceAdd_frame ..)

theorem slotIs_traceAll {k : Nat} {x : Slot} {s t : State} (h : SlotIs k x s t) (l : List (Nat × Nat)) :
    SlotIs k x s (traceAll k l t) := by
  induction l generalizing t with
  | nil => exact h
  | cons e l ih => exact ih (slotIs_traceAdd h e.1 e.2)

theorem slotIs_takeInput {k : Nat} {x : Slot} {s t : State} (h : SlotIs k x s t) (e : RecIn) : SlotIs k x s (takeInput k e t) := by
  obtain ⟨hself, htrace, hbut, hs⟩ := h
  refine ⟨?_, fun hk => ?_, fun j hj => ?_, ?_⟩
  · rw [slotGet_takeInput, if_pos rfl, hself]
  · rw [slotGet_takeInput, if_pos rfl]
    exact htrace hk
  · rw [slotGet_takeInput, if_neg hj, hbut j hj]
  · unfold takeInput
    split
    · rw [modSlot, hs]
    · exact hs

theorem slotIs_takeLevels {k : Nat} {x : Slot} {s t : State} (h : SlotIs k x s t) (high : Bool) (l : List Bool) :
    SlotIs k x s (takeLevels k high l t) := by
  induction l generalizing t high with
  | nil => exact h
  | cons b l ih =>
    refine ih ?_ b
    split
    · exact h
    · exact slotIs_takeInput h _

/-- A field other than the trace and the inputs taken. -/
theorem slotIs_field {k : Nat} {x : Slot} {s t : State} (h : SlotIs k x s t) {α : Type} (g : Slot → α)
    (hg : ∀ y tr ta, g { y with trace := tr, taken := ta } = g y := by intros; rfl) : g (slotGet t k) = g x := by
  rw [h.1, hg]

theorem slotIs_sys {k : Nat} {x : Slot} {s t : State} (h : SlotIs k x s t) : t.sys = s.sys := by
  rw [h.2.2.2]

/-- A slot that falls after it changed in between. -/
theorem falls_of_slotIs {k cause : Nat} {emergency : Bool} {status : Option Nat} {x : Slot} {s t u : State} (h : SlotIs k x s t)
    (hrun : x.run.map Running.oid = ((slotGet s k).run).map Running.oid) (hfalls : Falls k cause emergency status t u) :
    Falls k cause emergency status s u := by
  obtain ⟨hst, hcause, hem, hstatus, hpins, hsince, hoid⟩ := hfalls
  refine ⟨hst, hcause, hem, hstatus, hpins, ?_, ?_⟩
  · rw [hsince, slotIs_sys h]
  · rw [hoid, ← hrun, slotIs_field h Slot.run]

/-- An engine that ends its order after its slot changed in between. -/
theorem runEnds_of_slotIs {k c : Nat} {r : Running} {x : Slot} {s t u : State} (h : SlotIs k x s t) (hends : RunEnds k r c t u) :
    RunEnds k r c s u := by
  refine ⟨hends.free, fun hk o ho => hends.hub hk o ?_, hends.done⟩
  rw [orderGet, h.2.2.2]
  exact ho

theorem runEnds_congr {k c : Nat} {r r' : Running} {s u : State} (hoid : r.oid = r'.oid) (h : RunEnds k r c s u) :
    RunEnds k r' c s u := by
  obtain ⟨hfree, hhub, hdone⟩ := h
  rw [hoid] at hhub hdone
  exact ⟨hfree, hhub, hdone⟩

theorem slotIs_but {k : Nat} {x : Slot} {s t u : State} (h : SlotIs k x s t) (hbut : SlotsBut k t u) : SlotsBut k s u :=
  fun j hj => (hbut j hj).trans (h.2.2.1 j hj)

/-! ### An order's engine begins -/

theorem toBegin_eq_some {k : Nat} {ops : List Nat} {r : Running} {s : State} (h : toBegin s k ops = some r) :
    (slotGet s k).run = some r ∧ r.opcode ∈ ops ∧ r.begun = false := by
  unfold toBegin at h
  split at h
  · rename_i r' hr
    split at h
    · rename_i hcond
      simp only [Bool.and_eq_true, List.contains_iff_mem, Bool.not_eq_true'] at hcond
      obtain rfl : r' = r := by simpa using h
      exact ⟨hr, hcond.1, hcond.2⟩
    · cases h
  · cases h

/-- The slot once the engine of its order has begun. -/
def begunAt (tick : Nat) (r : Running) (x : Slot) : Slot := { x with run := some { r with begun := true, beganAt := tick } }

theorem slotIs_begin {k : Nat} {ops : List Nat} {r : Running} {s : State} (h : toBegin s k ops = some r) :
    SlotIs k (begunAt s.sys.tick r (slotGet s k)) s (begin_ k s) := by
  obtain ⟨hrun, -, -⟩ := toBegin_eq_some h
  have hmod := slotIs_modSlot (slotIs_refl k s)
    (f := fun x => { x with run := x.run.map (fun r => { r with begun := true, beganAt := s.sys.tick }) }) fun _ _ _ => rfl
  have hsame : { slotGet s k with run := ((slotGet s k).run).map (fun r => { r with begun := true, beganAt := s.sys.tick }) } =
      begunAt s.sys.tick r (slotGet s k) := by
    rw [hrun]
    rfl
  rw [hsame] at hmod
  exact slotIs_traceAdd hmod ..

/-! ### ACTIVATE -/

theorem execActivate_present {k : Nat} {r : Running} {s : State} (h : toBegin s k [0x01] = some r) (hst : (slotGet s k).st = .present)
    (hpowers : satPowers s k = true) : exec (.activate k) s = .next (activateSlot k r (begin_ k s)) := by
  show execActivate k s = _
  rw [execActivate, h]
  dsimp only
  rw [if_pos ⟨hst, hpowers⟩]

theorem noSupply_congr {k : Nat} {x : Slot} {s t : State} (h : SlotIs k x s t) : noSupply t k = noSupply s k := by
  rw [noSupply, h.2.2.2, noSupply]

theorem isoDivOf_congr {k : Nat} {x : Slot} {s t : State} (h : SlotIs k x s t) : isoDivOf t k = isoDivOf s k := by
  rw [isoDivOf, h.2.2.2, isoDivOf]
  rfl

theorem completes_activate {k c : Nat} {rest : List Nat} {r : Running} {s : State} (h : toBegin s k [0x01] = some r)
    (hst : (slotGet s k).st = .present) (hpowers : satPowers s k = true) (hsupply : noSupply s k = false)
    (hclass : classesToTry (slotGet s k).cfg r.param = c :: rest) :
    Completes (exec (.activate k) s) fun t =>
      SlotIs k { slotGet s k with
        st := .rising, cls := c, tried := 2 ^ (c - 1), tripInForce := (slotGet s k).cfg.trip, atrClasses := 0
        indicated := false, slowSeen := false, pins := { vccOn := true }, act := some { todo := rest, div := isoDivOf s k }
        ch := { div := isoDivOf s k, etu := etuOf 1 1 (isoDivOf s k), ppsOpen := true }, tr := {}, line := {}
        run := some { r with begun := true, beganAt := s.sys.tick } } s t := by
  have hbegun := slotIs_begin h
  have hsupply' := (noSupply_congr hbegun).trans hsupply
  have hdiv := isoDivOf_congr hbegun
  have hclass' : classesToTry (slotGet (begin_ k s) k).cfg r.param = c :: rest := by
    rw [slotIs_field hbegun Slot.cfg]
    exact hclass
  rw [execActivate_present h hst hpowers, activateSlot, if_neg (by rw [hsupply']; nofun), hclass']
  dsimp only
  rw [hdiv]
  have hon := slotIs_traceAdd (slotIs_modSlot hbegun (f := fun x => trialOn c rest false (chStart (isoDivOf s k))
    { x with tried := 0, atrClasses := 0, indicated := false, slowSeen := false }) fun _ _ _ => rfl) 3 (c - 1)
  refine completes_next ?_
  have hzero : Nat.lor 0 (2 ^ (c - 1)) = 2 ^ (c - 1) := Nat.zero_or _
  rw [trialOn, hzero] at hon
  exact hon

theorem completes_activate_cold {k : Nat} {r : Running} {s : State} (h : toBegin s k [0x01] = some r)
    (hst : (slotGet s k).st = .present) (hpowers : satPowers s k = true)
    (hcold : noSupply s k = true ∨ classesToTry (slotGet s k).cfg r.param = []) :
    Completes (exec (.activate k) s) fun t =>
      (slotGet t k).st = .present ∧ (slotGet t k).pins = (slotGet s k).pins ∧
      RunEnds k r (if noSupply s k then 0x044 else 0x047) s t ∧ SlotsBut k s t ∧ t.sys = s.sys ∧ t.fb = s.fb := by
  have hbegun := slotIs_begin h
  have hclass : (slotGet (begin_ k s) k).cfg = (slotGet s k).cfg := slotIs_field hbegun Slot.cfg
  have hcode : activateSlot k r (begin_ k s) = endCold k (if noSupply s k then 0x044 else 0x047) (begin_ k s) := by
    unfold activateSlot
    rw [noSupply_congr hbegun, hclass]
    cases hs : noSupply s k with
    | true => rfl
    | false =>
      have hnil := hcold.resolve_left (by rw [hs]; nofun)
      rw [hnil]
      rfl
  generalize hu : begin_ k s = u at *
  set v := if isLocal k then releaseLift k u else u with hv
  have hslots : ∀ j, slotGet v j = slotGet u j := fun j => by
    rw [hv]
    split
    · exact slotGet_releaseLift ..
    · rfl
  have hrun : (slotGet v k).run = some { r with begun := true, beganAt := s.sys.tick } := by
    rw [hslots]
    exact slotIs_field hbegun Slot.run
  have hself := slotGet_endRun_self hrun (if noSupply s k then 0x044 else 0x047) [] 0
  have hends := runEnds_endRun hrun (if noSupply s k then 0x044 else 0x047)
  have hvframe : v.ord = u.ord ∧ v.sys = u.sys ∧ v.fb = u.fb := by
    rw [hv]
    split
    · rw [releaseLift_frame]
      exact ⟨rfl, rfl, rfl⟩
    · exact ⟨rfl, rfl, rfl⟩
  rw [execActivate_present h hst hpowers, hu, hcode]
  refine completes_next ⟨?_, ?_, ?_, fun j hj => ?_, ?_, ?_⟩
  · rw [endCold, ← hv, hself, hslots]
    exact (slotIs_field hbegun Slot.st).trans hst
  · rw [endCold, ← hv, hself, hslots]
    exact slotIs_field hbegun Slot.pins
  · refine runEnds_of_slotIs hbegun (runEnds_congr (r := { r with begun := true, beganAt := s.sys.tick }) rfl
      ⟨hends.free, fun hk o ho => hends.hub hk o ?_, hends.done⟩)
    rw [orderGet, hvframe.1]
    exact ho
  · rw [endCold, ← hv, slotsBut_endRun k _ _ _ _ j hj, hslots, hbegun.2.2.1 j hj]
  · rw [endCold, ← hv, endRun_sys, hvframe.2.1, slotIs_sys hbegun]
  · rw [endCold, ← hv, endRun_fb, hvframe.2.2, hbegun.2.2.2]

/-! ### WARM_RESET -/

theorem completes_warmReset {k : Nat} {r : Running} {s : State} (h : toBegin s k [0x02] = some r) (hst : (slotGet s k).st = .ready) :
    Completes (exec (.warmReset k) s) fun t =>
      SlotIs k { slotGet s k with
        st := .atr, act := some { good := true, warm := true, div := isoDivOf s k }
        ch := { div := isoDivOf s k, etu := etuOf 1 1 (isoDivOf s k), ppsOpen := true }, tr := {}
        line := { mode := .atr }, pins := { vccOn := true, rst := false, clkRun := true, ioLow := false }
        run := some { r with begun := true, beganAt := s.sys.tick } } s t := by
  have hexec : exec (.warmReset k) s = .next (traceAdd k 3 7 (modSlot k (fun x => { x with
      st := .atr, act := some { good := true, warm := true, div := isoDivOf s k }, ch := chStart (isoDivOf s k), tr := {}
      line := { mode := .atr }, pins := { vccOn := true, rst := false, clkRun := true, ioLow := false } }) (begin_ k s))) := by
    show execWarmReset k s = _
    rw [execWarmReset, h]
    dsimp only
    rw [if_pos hst]
    rfl
  rw [hexec]
  exact completes_next (slotIs_traceAdd (slotIs_modSlot (slotIs_begin h) fun _ _ _ => rfl) 3 7)

/-! ### DEACTIVATE -/

/-- A deactivation in session touches the slot and, at a local one, the log. -/
theorem fallSlot_frame_session {k c : Nat} {e d : Bool} {x : Option SlotState} {y : Option Nat} {s : State}
    (h : (slotGet s k).st ≠ .updating) :
    fallSlot k c e d x y s = { s with slots := (fallSlot k c e d x y s).slots, log := (fallSlot k c e d x y s).log } := by
  have hcut : (if k = 0 then cutFetch s else s) = s := by
    split
    · rename_i hk
      rw [cutFetch, if_neg (by rw [← hk]; exact fun hc => h hc.1)]
    · rfl
  unfold fallSlot
  rw [hcut]
  dsimp only
  split
  · rw [queueRec_frame]
    rfl
  · rfl

theorem completes_deactivate {k : Nat} {r : Running} {s : State} (h : toBegin s k [0x03] = some r)
    (hst : (slotGet s k).st = .ready ∨ (slotGet s k).st = .asleep) :
    Completes (exec (.deactivate k) s) fun t =>
      Falls k 1 false (some 0) s t ∧ SlotsBut k s t ∧ t = { s with slots := t.slots, log := t.log } := by
  have hbegun := slotIs_begin h
  have hexec : exec (.deactivate k) s = .next (traceAll k [(3, 7), (3, 8), (3, 9), (3, 10)]
      (fallSlot k 1 false false none (some 0) (begin_ k s))) := by
    show execDeactivate k s = _
    rw [execDeactivate, h]
    rcases hst with he | he <;> simp only [he]
  have hst' : (slotGet (begin_ k s) k).st = (slotGet s k).st := slotIs_field hbegun Slot.st
  have hsession : inSession (slotGet (begin_ k s) k) = true := by
    rw [inSession, hst']
    rcases hst with he | he <;> rw [he]
  have hframe := fallSlot_frame_session (k := k) (c := 1) (e := false) (d := false) (x := none) (y := some 0) (s := begin_ k s)
    (by rw [hst']; rcases hst with he | he <;> rw [he] <;> nofun)
  have hrun : (begunAt s.sys.tick r (slotGet s k)).run.map Running.oid = ((slotGet s k).run).map Running.oid := by
    rw [(toBegin_eq_some h).1]
    rfl
  generalize begin_ k s = u at *
  obtain ⟨hslot, hbut⟩ := traced_traceAll k [(3, 7), (3, 8), (3, 9), (3, 10)] (fallSlot k 1 false false none (some 0) u)
  rw [slotGet_fallSlot, if_pos rfl, slotFall, if_pos hsession] at hslot
  rw [hexec]
  refine completes_next ⟨falls_of_slotIs hbegun hrun ⟨?_, ?_, ?_, ?_, ?_, ?_, ?_⟩, slotIs_but hbegun fun j hj => ?_, ?_⟩
  rotate_right 2
  · rw [hbut j hj, slotGet_fallSlot, if_neg hj]
  · rw [traceAll_frame, hframe, hbegun.2.2.2]
  all_goals rw [hslot]

theorem completes_deactivate_idle {k : Nat} {r : Running} {s : State} (h : toBegin s k [0x03] = some r)
    (hst : (slotGet s k).st = .tripped ∨ (slotGet s k).st = .present) :
    Completes (exec (.deactivate k) s) fun t =>
      (slotGet t k).st = (if (slotGet s k).st = .tripped then idleState (slotGet s k) else .present) ∧
      RunEnds k r 0 s t ∧ SlotsBut k s t := by
  have hbegun := slotIs_begin h
  have hreleased := slotIs_modSlot hbegun (f := fun x => { x with st := idleState x }) fun _ _ _ => rfl
  have hended : ∀ x u, SlotIs k x s u → x.run = some { r with begun := true, beganAt := s.sys.tick } →
      (slotGet (endRun k 0 [] 0 u) k).st = x.st ∧ RunEnds k r 0 s (endRun k 0 [] 0 u) ∧ SlotsBut k s (endRun k 0 [] 0 u) := by
    intro x u hu hrun
    have hrun' : (slotGet u k).run = some { r with begun := true, beganAt := s.sys.tick } :=
      (slotIs_field hu Slot.run).trans hrun
    have hoid : ({ r with begun := true, beganAt := s.sys.tick } : Running).oid = r.oid := rfl
    refine ⟨?_, runEnds_of_slotIs hu (runEnds_congr hoid (runEnds_endRun hrun' 0)),
      slotIs_but hu (slotsBut_endRun k 0 [] 0 u)⟩
    rw [slotGet_endRun_self hrun']
    exact slotIs_field hu Slot.st
  rcases hst with he | he
  · have hexec : exec (.deactivate k) s = .next (endRun k 0 [] 0 (releaseTripped k (begin_ k s))) := by
      show execDeactivate k s = _
      rw [execDeactivate, h]
      simp only [he]
    rw [hexec, if_pos he]
    exact completes_next (hended _ _ hreleased rfl)
  · have hexec : exec (.deactivate k) s = .next (endRun k 0 [] 0 (begin_ k s)) := by
      show execDeactivate k s = _
      rw [execDeactivate, h]
      simp only [he]
    have hends := hended _ _ hbegun rfl
    rw [hexec, if_neg (by rw [he]; nofun), ← he]
    exact completes_next hends

/-- Settles O38. -/
theorem activations : Obligations.Activations :=
  ⟨fun _ _ _ _ _ => completes_activate, fun _ _ _ => completes_activate_cold, fun _ _ _ => completes_warmReset,
    fun _ _ _ => completes_deactivate, fun _ _ _ => completes_deactivate_idle⟩

end Machine
end Sys2Proof
end

section
/-! Characters on the line of a slot (chapter 15). -/
namespace Sys2Proof
namespace Machine

set_option Elab.async false

open Safety

/-! ### A start edge -/

/-- A start edge moves timing words only. -/
theorem startEdge_eq (x : Slot) : startEdge x = { x with
    ch := { x.ch with
      fi := (startEdge x).ch.fi, di := (startEdge x).ch.di, div := (startEdge x).ch.div, etu := (startEdge x).ch.etu
      renew := (startEdge x).ch.renew }
    tr := { x.tr with bwt := (startEdge x).tr.bwt } } := by
  unfold startEdge
  split <;> rfl

theorem traceless_startEdge : Traceless startEdge := fun x tr ta => by
  unfold startEdge
  dsimp only
  split <;> rfl

@[simp] theorem startEdge_line (x : Slot) : (startEdge x).line = x.line := by rw [startEdge_eq]
@[simp] theorem startEdge_st (x : Slot) : (startEdge x).st = x.st := by rw [startEdge_eq]
@[simp] theorem startEdge_pins (x : Slot) : (startEdge x).pins = x.pins := by rw [startEdge_eq]
@[simp] theorem startEdge_cfg (x : Slot) : (startEdge x).cfg = x.cfg := by rw [startEdge_eq]
@[simp] theorem startEdge_act (x : Slot) : (startEdge x).act = x.act := by rw [startEdge_eq]
@[simp] theorem startEdge_run (x : Slot) : (startEdge x).run = x.run := by rw [startEdge_eq]
@[simp] theorem startEdge_parErr (x : Slot) : (startEdge x).ch.parErr = x.ch.parErr := by rw [startEdge_eq]
@[simp] theorem startEdge_repeats (x : Slot) : (startEdge x).ch.repeats = x.ch.repeats := by rw [startEdge_eq]
@[simp] theorem startEdge_inverse (x : Slot) : (startEdge x).ch.inverse = x.ch.inverse := by rw [startEdge_eq]

/-! ### A deactivation that a character begins -/

/-- The order at a slot in session ends with a code by normal deactivation, after the slot changed in between. -/
theorem endFall_of_slotIs {k code : Nat} {x : Slot} {s t : State} (h : SlotIs k x s t) (hsession : inSession x = true)
    (hrun : x.run = (slotGet s k).run) :
    Falls k 8 false (some code) s (endFall k code t) ∧ SlotsBut k s (endFall k code t) := by
  have hsession' : inSession (slotGet t k) = true := (slotIs_field h inSession).trans hsession
  obtain ⟨hfalls, hbut⟩ := falls_endFall (code := code) hsession'
  exact ⟨falls_of_slotIs h (by rw [hrun]) hfalls, slotIs_but h hbut⟩

/-- A deactivation keeps the character words. -/
theorem endFall_ch {k code : Nat} {x : Slot} {s t : State} (h : SlotIs k x s t) (hsession : inSession x = true) :
    (slotGet (endFall k code t) k).ch = x.ch ∧ (slotGet (endFall k code t) k).tr = x.tr := by
  have hsession' : inSession (slotGet t k) = true := (slotIs_field h inSession).trans hsession
  have hslot := (traced_traceAll k [(3, 7), (3, 8), (3, 9), (3, 10)] (fallNormal k code t)).1
  rw [fallNormal, slotGet_fallSlot, if_pos rfl, slotFall, if_pos hsession'] at hslot
  rw [endFall, fallNormal, hslot]
  exact ⟨slotIs_field h Slot.ch, slotIs_field h Slot.tr⟩

/-! ### CHARACTER_SEND -/

/-- The character that is due has left, once its start edge was sent. -/
def charLeaves (k : Nat) (b : Byte) (s : State) : State := traceAdd k 1 (traceByte b) (modSlot k startEdge s)

theorem slotIs_charLeaves (k : Nat) (b : Byte) (s : State) : SlotIs k (startEdge (slotGet s k)) s (charLeaves k b s) :=
  slotIs_traceAdd (slotIs_modSlot (slotIs_refl k s) traceless_startEdge) ..

theorem completes_characterSend {k : Nat} {b : Byte} {rest : List Byte} {err : Bool} {s : State}
    (htx : (slotGet s k).line.tx = b :: rest) (herr : err = false ∨ (slotGet s k).line.mode ≠ .t0) :
    Completes (exec (.characterSend k true err) s) fun t =>
      SlotIs k { startEdge (slotGet s k) with line := { (slotGet s k).line with tx := rest, copies := 0 } } s t := by
  have hexec : exec (.characterSend k true err) s = .next (modSlot k (fun x => { x with
      line := { x.line with tx := rest, copies := 0 } }) (charLeaves k b s)) := by
    have hquiet : (err && decide ((slotGet s k).line.mode = .t0)) = false := by
      rcases herr with he | he
      · rw [he]
        rfl
      · rw [decide_eq_false he, Bool.and_false]
    show execCharacterSend k true err s = _
    rw [execCharacterSend]
    simp only [htx, Bool.not_true, Bool.false_eq_true, if_false, hquiet]
    rfl
  have hslot := slotIs_modSlot (slotIs_charLeaves k b s)
    (f := fun x => { x with line := { x.line with tx := rest, copies := 0 } }) fun _ _ _ => rfl
  simp only [startEdge_line] at hslot
  rw [hexec]
  exact completes_next hslot

theorem completes_characterSend_low (k : Nat) (err : Bool) (s : State) :
    Completes (exec (.characterSend k false err) s) fun t => t = s := by
  have hexec : exec (.characterSend k false err) s = .next s := by
    show execCharacterSend k false err s = _
    rw [execCharacterSend]
    cases (slotGet s k).line.tx <;> rfl
  rw [hexec]
  exact completes_next rfl

/-- A T=0 error signal at the character that left. -/
def errorSignalled (k : Nat) (b : Byte) (s : State) : State :=
  traceAdd k 2 1 (modSlot k (fun x => { x with
    ch := { x.ch with parErr := satInc x.ch.parErr, chLast := 1 }
    line := { x.line with copies := x.line.copies + 1 } }) (charLeaves k b s))

/-- The slot then. -/
def signalled (x : Slot) : Slot :=
  { startEdge x with
    ch := { (startEdge x).ch with parErr := satInc x.ch.parErr, chLast := 1 }
    line := { x.line with copies := x.line.copies + 1 } }

theorem slotIs_errorSignalled (k : Nat) (b : Byte) (s : State) : SlotIs k (signalled (slotGet s k)) s (errorSignalled k b s) := by
  have hslot := slotIs_modSlot (slotIs_charLeaves k b s) (f := fun x => { x with
    ch := { x.ch with parErr := satInc x.ch.parErr, chLast := 1 }
    line := { x.line with copies := x.line.copies + 1 } }) fun _ _ _ => rfl
  simp only [startEdge_line, startEdge_parErr] at hslot
  exact slotIs_traceAdd hslot 2 1

theorem execCharacterSend_signal {k : Nat} {b : Byte} {rest : List Byte} {s : State} (htx : (slotGet s k).line.tx = b :: rest)
    (hmode : (slotGet s k).line.mode = .t0) :
    exec (.characterSend k true true) s = .next (if 5 ≤ (slotGet s k).line.copies + 1 then
        endFall k 0x04A (traceAdd k 2 5 (modSlot k (fun x => { x with ch := { x.ch with chLast := 5 } }) (errorSignalled k b s)))
      else modSlot k (fun x => { x with ch := { x.ch with repeats := satInc x.ch.repeats } }) (errorSignalled k b s)) := by
  show execCharacterSend k true true s = _
  rw [execCharacterSend]
  simp only [htx, hmode, Bool.not_true, Bool.false_eq_true, if_false, decide_true, Bool.and_self, if_true]
  rfl

theorem completes_characterSend_again {k : Nat} {s : State} (htx : (slotGet s k).line.tx ≠ [])
    (hmode : (slotGet s k).line.mode = .t0) (hcopies : (slotGet s k).line.copies < 4) :
    Completes (exec (.characterSend k true true) s) fun t =>
      SlotIs k { startEdge (slotGet s k) with
        ch := { (startEdge (slotGet s k)).ch with parErr := satInc (slotGet s k).ch.parErr, chLast := 1
                                                  repeats := satInc (slotGet s k).ch.repeats }
        line := { (slotGet s k).line with copies := (slotGet s k).line.copies + 1 } } s t := by
  obtain ⟨b, rest, htx'⟩ := List.exists_cons_of_ne_nil htx
  have hslot := slotIs_modSlot (slotIs_errorSignalled k b s)
    (f := fun x => { x with ch := { x.ch with repeats := satInc x.ch.repeats } }) fun _ _ _ => rfl
  simp only [signalled, startEdge_repeats] at hslot
  rw [execCharacterSend_signal htx' hmode, if_neg (by omega)]
  exact completes_next hslot

theorem completes_characterSend_fifth {k : Nat} {s : State} (htx : (slotGet s k).line.tx ≠ [])
    (hmode : (slotGet s k).line.mode = .t0) (hcopies : 4 ≤ (slotGet s k).line.copies) (hst : (slotGet s k).st = .busy) :
    Completes (exec (.characterSend k true true) s) fun t =>
      Falls k 8 false (some 0x04A) s t ∧ (slotGet t k).ch.chLast = 5 ∧ SlotsBut k s t := by
  obtain ⟨b, rest, htx'⟩ := List.exists_cons_of_ne_nil htx
  have hslot := slotIs_traceAdd (slotIs_modSlot (slotIs_errorSignalled k b s)
    (f := fun x => { x with ch := { x.ch with chLast := 5 } }) fun _ _ _ => rfl) 2 5
  have hsession : inSession (signalled (slotGet s k)) = true := by
    rw [inSession, signalled, startEdge_st, hst]
  obtain ⟨hfalls, hbut⟩ := endFall_of_slotIs (code := 0x04A) hslot hsession (startEdge_run _)
  have hlast := (endFall_ch (code := 0x04A) hslot hsession).1
  rw [execCharacterSend_signal htx' hmode, if_pos (by omega)]
  exact completes_next ⟨hfalls, by rw [hlast], hbut⟩

/-! ### CHARACTER_RECEIVED: what it finds -/

/-- The recorder has taken the levels of the character. -/
def levelsTaken (k : Nat) (glitch : Bool) (v : BitVec 9) (low : Bool) (s : State) : State :=
  takeLevels k (!(slotGet s k).line.waitRise) (true :: charLevels glitch v low) s

theorem slotIs_levelsTaken (k : Nat) (glitch : Bool) (v : BitVec 9) (low : Bool) (s : State) :
    SlotIs k (slotGet s k) s (levelsTaken k glitch v low s) := slotIs_takeLevels (slotIs_refl k s) ..

/-- A slot at whose line a character was heard. -/
def charHeard (tick : Nat) (x : Slot) : Slot := { startEdge x with line := { x.line with heardAt := some tick } }

theorem traceless_charHeard (tick : Nat) : Traceless (charHeard tick) := fun x tr ta => by
  unfold charHeard
  rw [traceless_startEdge]

/-- The slot has heard a character, before it is taken. -/
def heardState (k : Nat) (v : BitVec 9) (low : Bool) (s : State) : State :=
  riseToAtr k (modSlot k (charHeard (levelsTaken k false v low s).sys.tick) (levelsTaken k false v low s))

theorem heardState_eq (k : Nat) (v : BitVec 9) (low : Bool) (s : State) : heardState k v low s =
    riseToAtr k (modSlot k (charHeard s.sys.tick) (levelsTaken k false v low s)) := by
  rw [heardState, slotIs_sys (slotIs_levelsTaken k false v low s)]

/-- Where no ATR is awaited, or RST is up, nothing rises. -/
theorem riseToAtr_of_risen {k : Nat} {s : State} (hrise : (slotGet s k).st ≠ .rising)
    (hatr : (slotGet s k).st = .atr → (slotGet s k).pins.rst = true) : riseToAtr k s = s := by
  unfold riseToAtr
  dsimp only
  split
  · rename_i h _
    exact absurd h hrise
  · rename_i h _
    rw [hatr h]
    simp
  · rfl

theorem slotIs_heardState {k : Nat} {v : BitVec 9} {low : Bool} {s : State} (hrise : (slotGet s k).st ≠ .rising)
    (hatr : (slotGet s k).st = .atr → (slotGet s k).pins.rst = true) :
    SlotIs k (charHeard s.sys.tick (slotGet s k)) s (heardState k v low s) := by
  have hslot := slotIs_modSlot (slotIs_levelsTaken k false v low s) (traceless_charHeard s.sys.tick)
  have hst : (charHeard s.sys.tick (slotGet s k)).st = (slotGet s k).st := startEdge_st _
  have hpins : (charHeard s.sys.tick (slotGet s k)).pins = (slotGet s k).pins := startEdge_pins _
  rw [heardState_eq, riseToAtr_of_risen]
  · exact hslot
  · rw [slotIs_field hslot Slot.st, hst]
    exact hrise
  · rw [slotIs_field hslot Slot.st, slotIs_field hslot Slot.pins, hst, hpins]
    exact hatr

/-- At a slot that awaits its ATR, a warm reset's RST is up by the first character. -/
theorem slotIs_heardState_atr {k : Nat} {v : BitVec 9} {low : Bool} {s : State} (hst : (slotGet s k).st = .atr) :
    ∃ r, SlotIs k { charHeard s.sys.tick (slotGet s k) with pins := { (slotGet s k).pins with rst := r } } s
      (heardState k v low s) := by
  have hslot := slotIs_modSlot (slotIs_levelsTaken k false v low s) (traceless_charHeard s.sys.tick)
  have hst' : (charHeard s.sys.tick (slotGet s k)).st = .atr := (startEdge_st _).trans hst
  have hpins : (charHeard s.sys.tick (slotGet s k)).pins = (slotGet s k).pins := startEdge_pins _
  have hsame : { charHeard s.sys.tick (slotGet s k) with
      pins := { (slotGet s k).pins with rst := (slotGet s k).pins.rst } } = charHeard s.sys.tick (slotGet s k) := by
    rw [← hpins]
  rw [heardState_eq]
  generalize modSlot k (charHeard s.sys.tick) (levelsTaken k false v low s) = u at *
  have hu : (slotGet u k).st = .atr := (slotIs_field hslot Slot.st).trans hst'
  unfold riseToAtr
  dsimp only
  rw [hu]
  cases (slotGet u k).act with
  | none =>
    refine ⟨(slotGet s k).pins.rst, ?_⟩
    rw [hsame]
    exact hslot
  | some a =>
    dsimp only
    split
    · refine ⟨true, slotIs_traceAdd ?_ 3 6⟩
      have hup := slotIs_modSlot hslot (f := fun x => { x with pins := { x.pins with rst := true } }) fun _ _ _ => rfl
      rwa [hpins] at hup
    · refine ⟨(slotGet s k).pins.rst, ?_⟩
      rw [hsame]
      exact hslot

/-- CHARACTER_RECEIVED by its cases, in terms of the slot that has heard it. -/
theorem exec_characterReceived (k : Nat) (early : Bool) (v : BitVec 9) (low : Bool) (s : State) :
    exec (.characterReceived k false early v low) s =
      .next (if !(slotGet (heardState k v low s) k).pins.vccOn || decide ((slotGet (heardState k v low s) k).cfg.kind ≠ .iso) then
          levelsTaken k false v low s
        else if (slotGet (heardState k v low s) k).st = .asleep then stoppedChar k (levelsTaken k false v low s)
        else if !(decide ((slotGet (heardState k v low s) k).st = .atr) || decide ((slotGet (heardState k v low s) k).st = .busy) ||
          decide ((slotGet (heardState k v low s) k).st = .ready)) then levelsTaken k false v low s
        else if (slotGet (heardState k v low s) k).line.tx ≠ [] then levelsTaken k false v low s
        else if early && decide ((slotGet (heardState k v low s) k).line.mode = .atr) &&
            decide ((slotGet (heardState k v low s) k).line.rx = []) then
          modSlot k (fun x => { x with line := { x.line with waitRise := true } }) (heardState k v low s)
        else takeChar k (decodeChar (atrInverse (slotGet (heardState k v low s) k) v) v).1
          (decodeChar (atrInverse (slotGet (heardState k v low s) k) v) v).2 (!low) (heardState k v low s)) := by
  show execCharacterReceived k false early v low s = _
  unfold execCharacterReceived
  simp only [Bool.false_eq_true, if_false]
  rfl

/-- What CHARACTER_RECEIVED looks at does not depend on trace and inputs taken. -/
theorem exec_characterReceived_of {k : Nat} {v : BitVec 9} {low : Bool} {x : Slot} {s : State}
    (h : SlotIs k x s (heardState k v low s)) (hvcc : x.pins.vccOn = true) (hkind : x.cfg.kind = .iso) (early : Bool) :
    exec (.characterReceived k false early v low) s =
      .next (if x.st = .asleep then stoppedChar k (levelsTaken k false v low s)
        else if !(decide (x.st = .atr) || decide (x.st = .busy) || decide (x.st = .ready)) then levelsTaken k false v low s
        else if x.line.tx ≠ [] then levelsTaken k false v low s
        else if early && decide (x.line.mode = .atr) && decide (x.line.rx = []) then
          modSlot k (fun x => { x with line := { x.line with waitRise := true } }) (heardState k v low s)
        else takeChar k (decodeChar (atrInverse x v) v).1 (decodeChar (atrInverse x v) v).2 (!low) (heardState k v low s)) := by
  have hpins := slotIs_field h Slot.pins
  have hcfg := slotIs_field h Slot.cfg
  have hst := slotIs_field h Slot.st
  have hline := slotIs_field h Slot.line
  have hinverse := slotIs_field h (atrInverse · v)
  rw [exec_characterReceived, hpins, hcfg, hst, hline, hinverse, hvcc, hkind]
  rfl

/-- A character is taken where nothing is to be sent and no level is mistaken for a start bit. -/
theorem exec_characterReceived_taken {k : Nat} {v : BitVec 9} {low early : Bool} {x : Slot} {s : State}
    (h : SlotIs k x s (heardState k v low s)) (hvcc : x.pins.vccOn = true) (hkind : x.cfg.kind = .iso)
    (hst : x.st = .atr ∨ x.st = .busy) (htx : x.line.tx = []) (hstart : early = false ∨ x.line.mode ≠ .atr ∨ x.line.rx ≠ []) :
    exec (.characterReceived k false early v low) s =
      .next (takeChar k (decodeChar (atrInverse x v) v).1 (decodeChar (atrInverse x v) v).2 (!low) (heardState k v low s)) := by
  have hstart' : (early && decide (x.line.mode = .atr) && decide (x.line.rx = [])) = false := by
    rcases hstart with he | he | he <;> simp [he]
  rw [exec_characterReceived_of h hvcc hkind, hstart', htx]
  rcases hst with he | he <;> simp [he]

/-! ### What is noted of every character -/

/-- The slot with the errors of a character counted. -/
def charNoted (par frm : Bool) (x : Slot) : Slot := { x with
  ch := { x.ch with
    parErr := if par then x.ch.parErr else satInc x.ch.parErr
    framErr := if frm then x.ch.framErr else satInc x.ch.framErr
    chLast := if !par then 1 else if !frm then 2 else x.ch.chLast }
  line := { x.line with waitRise := !frm } }

/-- The state with the errors of a character counted and traced. -/
def takeHead (k : Nat) (b : Byte) (par frm : Bool) (s : State) : State :=
  let t := modSlot k (charNoted par frm) s
  let t := if frm then t else traceAdd k 2 2 t
  if par || decide ((slotGet s k).line.mode ≠ .t0) then traceAdd k 0 (traceByte b) t else t

theorem slotIs_takeHead {k : Nat} {x : Slot} {s t : State} (h : SlotIs k x s t) (b : Byte) (par frm : Bool) :
    SlotIs k (charNoted par frm x) s (takeHead k b par frm t) := by
  have hnoted := slotIs_modSlot h (f := charNoted par frm) fun _ _ _ => rfl
  unfold takeHead
  dsimp only
  split <;> split
  · exact slotIs_traceAdd hnoted ..
  · exact slotIs_traceAdd (slotIs_traceAdd hnoted ..) ..
  · exact hnoted
  · exact slotIs_traceAdd hnoted ..

theorem takeChar_t1 {k : Nat} {b : Byte} {par frm : Bool} {s : State} (h : (slotGet s k).line.mode = .t1) :
    takeChar k b par frm s = modSlot k (fun x => { x with
      x := { x.x with heard := true }
      line := { x.line with rx := x.line.rx ++ [b], rxBad := x.line.rxBad || !par || !frm } }) (takeHead k b par frm s) := by
  unfold takeChar
  dsimp only
  rw [h]
  dsimp only
  rw [← h]
  rfl

theorem takeChar_t0_bad {k : Nat} {b : Byte} {frm : Bool} {s : State} (h : (slotGet s k).line.mode = .t0) :
    takeChar k b false frm s = t0Parity k (takeHead k b false frm s) := by
  unfold takeChar takeHead
  dsimp only
  rw [h]
  dsimp only
  rw [if_neg Bool.false_ne_true]
  rfl

theorem takeChar_atr {k : Nat} {b : Byte} {par frm : Bool} {s : State} (h : (slotGet s k).line.mode = .atr) :
    takeChar k b par frm s = atrChar k b (par && frm) (takeHead k b par frm s) := by
  unfold takeChar
  dsimp only
  rw [h]
  dsimp only
  rw [← h]
  rfl

/-- The slot with one more character of a block or an ATR. -/
def rxMore (b : Byte) (x : Slot) : Slot := { x with line := { x.line with rx := x.line.rx ++ [b] } }

theorem atrChar_bad (k : Nat) (b : Byte) (s : State) : atrChar k b false s = endFall k 0x046 (modSlot k (rxMore b) s) := by
  unfold atrChar
  dsimp only
  rw [if_pos (by decide)]
  rfl

/-- Outside an ATR the slot's convention holds. -/
theorem atrInverse_of_mode {x : Slot} (h : x.line.mode ≠ .atr) (v : BitVec 9) : atrInverse x v = x.ch.inverse := by
  rw [atrInverse, if_neg h]

theorem atrInverse_congr {x y : Slot} (hmode : x.line.mode = y.line.mode) (hrx : x.line.rx = y.line.rx)
    (hinverse : x.ch.inverse = y.ch.inverse) (v : BitVec 9) : atrInverse x v = atrInverse y v := by
  rw [atrInverse, hmode, hrx, hinverse, atrInverse]

theorem atrInverse_charHeard (tick : Nat) (x : Slot) (v : BitVec 9) : atrInverse (charHeard tick x) v = atrInverse x v :=
  atrInverse_congr (x := charHeard tick x) (y := x) rfl rfl (startEdge_inverse x) v

/-! ### CHARACTER_RECEIVED: the cases -/

section Received
variable {k : Nat} {early : Bool} {v : BitVec 9} {low : Bool} {s : State}
  (hvcc : (slotGet s k).pins.vccOn = true) (hkind : (slotGet s k).cfg.kind = .iso)
include hvcc hkind

/-- A slot whose order exchanges characters hears the next. -/
theorem exec_characterReceived_busy (hst : (slotGet s k).st = .busy) (htx : (slotGet s k).line.tx = [])
    (hmode : (slotGet s k).line.mode ≠ .atr) :
    exec (.characterReceived k false early v low) s =
      .next (takeChar k (decodeChar (slotGet s k).ch.inverse v).1 (decodeChar (slotGet s k).ch.inverse v).2 (!low)
        (heardState k v low s)) ∧
    SlotIs k (charHeard s.sys.tick (slotGet s k)) s (heardState k v low s) := by
  have hheard : SlotIs k (charHeard s.sys.tick (slotGet s k)) s (heardState k v low s) :=
    slotIs_heardState (by rw [hst]; nofun) (by rw [hst]; nofun)
  have hexec := exec_characterReceived_taken (early := early) hheard
    ((congrArg Contacts.vccOn (startEdge_pins _)).trans hvcc) ((congrArg SlotCfg.kind (startEdge_cfg _)).trans hkind)
    (.inr ((startEdge_st _).trans hst)) htx (.inr (.inl hmode))
  rw [atrInverse_charHeard, atrInverse_of_mode hmode] at hexec
  exact ⟨hexec, hheard⟩

theorem completes_characterReceived_t1 (hst : (slotGet s k).st = .busy) (htx : (slotGet s k).line.tx = [])
    (hmode : (slotGet s k).line.mode = .t1) :
    Completes (exec (.characterReceived k false early v low) s) fun t =>
      let c := decodeChar (slotGet s k).ch.inverse v
      (slotGet t k).line.rx = (slotGet s k).line.rx ++ [c.1] ∧
      (slotGet t k).line.rxBad = ((slotGet s k).line.rxBad || !c.2 || low) ∧
      (slotGet t k).line.heardAt = some s.sys.tick ∧ (slotGet t k).line.waitRise = low ∧
      (slotGet t k).st = .busy ∧ SlotsBut k s t ∧ t = { s with slots := t.slots } := by
  obtain ⟨hexec, hheard⟩ := exec_characterReceived_busy (early := early) (v := v) (low := low) hvcc hkind hst htx
    (by rw [hmode]; nofun)
  have hmode' : (slotGet (heardState k v low s) k).line.mode = .t1 := (slotIs_field hheard fun y => y.line.mode).trans hmode
  generalize decodeChar (slotGet s k).ch.inverse v = c at *
  have htaken := slotIs_modSlot (slotIs_takeHead hheard c.1 c.2 (!low)) (f := fun x => { x with
      x := { x.x with heard := true }
      line := { x.line with rx := x.line.rx ++ [c.1], rxBad := x.line.rxBad || !c.2 || !(!low) } }) fun _ _ _ => rfl
  rw [hexec, takeChar_t1 hmode']
  have hline := slotIs_field htaken Slot.line
  refine completes_next ⟨?_, ?_, ?_, ?_, ?_, htaken.2.2.1, htaken.2.2.2⟩
  · rw [hline]
    rfl
  · rw [hline]
    simp only [Bool.not_not]
    rfl
  · rw [hline]
    rfl
  · rw [hline]
    exact Bool.not_not low
  · exact (slotIs_field htaken Slot.st).trans ((startEdge_st _).trans hst)

theorem completes_characterReceived_sending (hst : (slotGet s k).st = .busy) (htx : (slotGet s k).line.tx ≠ []) :
    Completes (exec (.characterReceived k false early v low) s) fun t => SlotIs k (slotGet s k) s t := by
  have hheard : SlotIs k (charHeard s.sys.tick (slotGet s k)) s (heardState k v low s) :=
    slotIs_heardState (by rw [hst]; nofun) (by rw [hst]; nofun)
  have hst' : (charHeard s.sys.tick (slotGet s k)).st = .busy := (startEdge_st _).trans hst
  rw [exec_characterReceived_of hheard ((congrArg Contacts.vccOn (startEdge_pins _)).trans hvcc)
    ((congrArg SlotCfg.kind (startEdge_cfg _)).trans hkind), hst', if_neg (by nofun), if_neg (by decide),
    if_pos (show (charHeard s.sys.tick (slotGet s k)).line.tx ≠ [] from htx)]
  exact completes_next (slotIs_levelsTaken k false v low s)

/-- A T=0 character that fails parity. -/
theorem completes_characterReceived_parity (hst : (slotGet s k).st = .busy) (htx : (slotGet s k).line.tx = [])
    (hmode : (slotGet s k).line.mode = .t0) (hpar : (decodeChar (slotGet s k).ch.inverse v).2 = false) :
    Completes (exec (.characterReceived k false early v low) s) fun t =>
      (slotGet t k).ch.parErr = satInc (slotGet s k).ch.parErr ∧ SlotsBut k s t ∧
      ((slotGet s k).line.badRun < 4 → (slotGet t k).ch.chLast = 1 ∧ (slotGet t k).st = .busy ∧
        (slotGet t k).line.badRun = (slotGet s k).line.badRun + 1) ∧
      (4 ≤ (slotGet s k).line.badRun → Falls k 8 false (some 0x04A) s t ∧ (slotGet t k).ch.chLast = 5) := by
  obtain ⟨hexec, hheard⟩ := exec_characterReceived_busy (early := early) (v := v) (low := low) hvcc hkind hst htx
    (by rw [hmode]; nofun)
  have hmode' : (slotGet (heardState k v low s) k).line.mode = .t0 := (slotIs_field hheard fun y => y.line.mode).trans hmode
  rw [hexec, hpar, takeChar_t0_bad hmode']
  have hhead := slotIs_takeHead hheard (decodeChar (slotGet s k).ch.inverse v).1 false (!low)
  generalize takeHead k (decodeChar (slotGet s k).ch.inverse v).1 false (!low) (heardState k v low s) = u at *
  have hbad : (slotGet u k).line.badRun = (slotGet s k).line.badRun := slotIs_field hhead fun y => y.line.badRun
  have hcounted := slotIs_modSlot hhead
    (f := fun x => { x with line := { x.line with badRun := (slotGet s k).line.badRun + 1 } }) fun _ _ _ => rfl
  have hst' : (charHeard s.sys.tick (slotGet s k)).st = .busy := (startEdge_st _).trans hst
  have herr : (charHeard s.sys.tick (slotGet s k)).ch.parErr = (slotGet s k).ch.parErr := startEdge_parErr _
  unfold t0Parity
  rw [hbad]
  dsimp only
  by_cases hfive : 5 ≤ (slotGet s k).line.badRun + 1
  · have hlast := slotIs_traceAdd (slotIs_modSlot hcounted (f := fun x => { x with ch := { x.ch with chLast := 5 } })
      fun _ _ _ => rfl) 2 5
    obtain ⟨hfalls, hbut⟩ := endFall_of_slotIs (code := 0x04A) hlast (by rw [inSession]; simp only [charNoted, hst'])
      (startEdge_run _)
    have hch := (endFall_ch (code := 0x04A) hlast (by rw [inSession]; simp only [charNoted, hst'])).1
    rw [if_pos hfive]
    refine completes_next ⟨?_, hbut, fun hlt => by omega, fun _ => ⟨hfalls, by rw [hch]⟩⟩
    rw [hch, ← herr]
    rfl
  · have htold := slotIs_traceAdd hcounted 2 0
    rw [if_neg hfive]
    refine completes_next ⟨?_, htold.2.2.1, fun _ => ⟨?_, ?_, ?_⟩, fun hle => by omega⟩
    · rw [slotIs_field htold Slot.ch, ← herr]
      rfl
    · rw [slotIs_field htold Slot.ch]
      rfl
    · exact (slotIs_field htold Slot.st).trans hst'
    · rw [slotIs_field htold Slot.line]

theorem completes_characterReceived_glitch
    (hst : (slotGet s k).st = .busy ∨ (slotGet s k).st = .ready ∨ (slotGet s k).st = .atr) :
    Completes (exec (.characterReceived k true early v low) s) fun t =>
      SlotIs k { slotGet s k with ch := { (slotGet s k).ch with chLast := 3 } } s t := by
  have htaken := slotIs_levelsTaken k true v low s
  have hexec : exec (.characterReceived k true early v low) s = .next (traceAdd k 2 3 (modSlot k (fun x => { x with
      ch := { x.ch with chLast := 3 } }) (levelsTaken k true v low s))) := by
    have hpins := slotIs_field htaken Slot.pins
    have hcfg := slotIs_field htaken Slot.cfg
    have hst' := slotIs_field htaken Slot.st
    show execCharacterReceived k true early v low s = _
    unfold execCharacterReceived
    simp only [if_true]
    change Host.Outcome.next (if !(slotGet (levelsTaken k true v low s) k).pins.vccOn ||
      decide ((slotGet (levelsTaken k true v low s) k).cfg.kind ≠ .iso) then _ else
        if (slotGet (levelsTaken k true v low s) k).st = .asleep then _ else
          if !(decide ((slotGet (levelsTaken k true v low s) k).st = .atr) ||
            decide ((slotGet (levelsTaken k true v low s) k).st = .busy) ||
            decide ((slotGet (levelsTaken k true v low s) k).st = .ready)) then _ else _) = _
    rw [hpins, hcfg, hst', hvcc, hkind]
    rcases hst with he | he | he <;> rw [he] <;> rfl
  rw [hexec]
  exact completes_next (slotIs_traceAdd (slotIs_modSlot htaken fun _ _ _ => rfl) 2 3)

theorem completes_characterReceived_stopped (hst : (slotGet s k).st = .asleep) :
    Completes (exec (.characterReceived k false early v low) s) fun t =>
      SlotIs k { slotGet s k with
        st := .ready, pins := { (slotGet s k).pins with clkRun := true, clkHigh := false }
        ch := { (slotGet s k).ch with stopped := false, framErr := satInc (slotGet s k).ch.framErr, chLast := 2 } }
        s t := by
  have hheard : SlotIs k (charHeard s.sys.tick (slotGet s k)) s (heardState k v low s) :=
    slotIs_heardState (by rw [hst]; nofun) (by rw [hst]; nofun)
  have hst' : (charHeard s.sys.tick (slotGet s k)).st = .asleep := (startEdge_st _).trans hst
  rw [exec_characterReceived_of hheard ((congrArg Contacts.vccOn (startEdge_pins _)).trans hvcc)
    ((congrArg SlotCfg.kind (startEdge_cfg _)).trans hkind), hst', if_pos rfl]
  exact completes_next (slotIs_traceAdd (slotIs_modSlot (slotIs_levelsTaken k false v low s) fun _ _ _ => rfl) 5 2)

theorem completes_characterReceived_badAtr (hst : (slotGet s k).st = .atr) (htx : (slotGet s k).line.tx = [])
    (hmode : (slotGet s k).line.mode = .atr) (hstart : early = false ∨ (slotGet s k).line.rx ≠ [])
    (hbad : low = true ∨ (decodeChar (atrInverse (slotGet s k) v) v).2 = false) :
    Completes (exec (.characterReceived k false early v low) s) fun t => Falls k 8 false (some 0x046) s t ∧
      SlotsBut k s t := by
  obtain ⟨r, hheard⟩ := slotIs_heardState_atr (v := v) (low := low) hst
  set x : Slot := { charHeard s.sys.tick (slotGet s k) with pins := { (slotGet s k).pins with rst := r } } with hx
  have hinverse : atrInverse x v = atrInverse (slotGet s k) v := atrInverse_congr (x := x) (y := slotGet s k) rfl rfl
    (startEdge_inverse _) v
  have hst' : x.st = .atr := (startEdge_st _).trans hst
  have hrun : x.run = (slotGet s k).run := startEdge_run _
  have hexec := exec_characterReceived_taken (early := early) hheard hvcc ((congrArg SlotCfg.kind (startEdge_cfg _)).trans hkind)
    (.inl hst') htx (hstart.imp_right .inr)
  have hmode' : (slotGet (heardState k v low s) k).line.mode = .atr := (slotIs_field hheard fun y => y.line.mode).trans hmode
  rw [hinverse] at hexec
  clear_value x
  generalize decodeChar (atrInverse (slotGet s k) v) v = c at *
  have hgood : (c.2 && !low) = false := by rcases hbad with he | he <;> simp [he]
  rw [hexec, takeChar_atr hmode', hgood, atrChar_bad]
  have hhead := slotIs_takeHead hheard c.1 c.2 (!low)
  generalize takeHead k c.1 c.2 (!low) (heardState k v low s) = u at *
  have hrx := slotIs_modSlot hhead (f := rxMore c.1) fun _ _ _ => rfl
  exact completes_next (endFall_of_slotIs hrx (by rw [inSession]; simp only [rxMore, charNoted, hst']) hrun)

theorem completes_characterReceived_early (hst : (slotGet s k).st = .atr) (hrst : (slotGet s k).pins.rst = true)
    (htx : (slotGet s k).line.tx = []) (hmode : (slotGet s k).line.mode = .atr) (hrx : (slotGet s k).line.rx = []) :
    Completes (exec (.characterReceived k false true v low) s) fun t =>
      SlotIs k { startEdge (slotGet s k) with
        line := { (slotGet s k).line with heardAt := some s.sys.tick, waitRise := true } } s t := by
  have hheard : SlotIs k (charHeard s.sys.tick (slotGet s k)) s (heardState k v low s) :=
    slotIs_heardState (by rw [hst]; nofun) fun _ => hrst
  have hst' : (charHeard s.sys.tick (slotGet s k)).st = .atr := (startEdge_st _).trans hst
  have htx' : (charHeard s.sys.tick (slotGet s k)).line.tx = [] := htx
  have hmode' : (charHeard s.sys.tick (slotGet s k)).line.mode = .atr := hmode
  have hrx' : (charHeard s.sys.tick (slotGet s k)).line.rx = [] := hrx
  rw [exec_characterReceived_of hheard ((congrArg Contacts.vccOn (startEdge_pins _)).trans hvcc)
    ((congrArg SlotCfg.kind (startEdge_cfg _)).trans hkind), hst', if_neg (by nofun), if_neg (by decide),
    if_neg (by rw [htx']; simp), hmode', hrx', if_pos (by decide)]
  exact completes_next (slotIs_modSlot hheard fun _ _ _ => rfl)

end Received

theorem completes_ioLowWaitExpiry {k : Nat} {s : State} (hst : (slotGet s k).st = .busy) (htx : (slotGet s k).line.tx ≠ []) :
    Completes (exec (.ioLowWaitExpiry k) s) fun t => Falls k 8 false (some 0x049) s t ∧ SlotsBut k s t := by
  have hexec : exec (.ioLowWaitExpiry k) s = .next (endFall k 0x049 s) := by
    show execIoLowWaitExpiry k s = _
    rw [execIoLowWaitExpiry, if_pos ⟨hst, htx⟩]
  rw [hexec]
  exact completes_next (falls_endFall (by rw [inSession, hst]))

/-- Settles O39. -/
theorem characters : Obligations.Characters :=
  ⟨fun _ _ _ _ _ => completes_characterSend, completes_characterSend_low, fun _ _ => completes_characterSend_again,
    fun _ _ => completes_characterSend_fifth,
    fun _ _ _ _ _ hst hvcc hkind htx hmode => completes_characterReceived_t1 hvcc hkind hst htx hmode,
    fun _ _ _ _ _ hst hvcc hkind htx => completes_characterReceived_sending hvcc hkind hst htx,
    fun _ _ _ _ _ hst hvcc hkind htx hmode hpar => completes_characterReceived_parity hvcc hkind hst htx hmode hpar,
    fun _ _ _ _ _ hst hvcc hkind => completes_characterReceived_glitch hvcc hkind hst,
    fun _ _ _ _ _ hst hvcc hkind => completes_characterReceived_stopped hvcc hkind hst,
    fun _ _ _ _ _ hst hvcc hkind htx hmode hstart hbad =>
      completes_characterReceived_badAtr hvcc hkind hst htx hmode hstart hbad,
    fun _ _ _ _ hst hvcc hrst hkind htx hmode hrx => completes_characterReceived_early hvcc hkind hst hrst htx hmode hrx,
    fun _ _ => completes_ioLowWaitExpiry⟩

end Machine
end Sys2Proof
end

section
/-! A good ATR (chapters 14 to 16). -/
namespace Sys2Proof
namespace Machine

set_option Elab.async false

open Safety

/-- The slot with a good ATR in force. -/
def atrTaken (rx : List Byte) (a : Atr) (x : Slot) : Slot := atrForce rx a { x with act := none }

theorem traceless_atrTaken (rx : List Byte) (a : Atr) : Traceless (atrTaken rx a) := fun x tr ta => by
  unfold atrTaken atrForce
  dsimp only
  split <;> rfl

/-- What the ATR in force gives the words. -/
structure AtrWords (rx : List Byte) (a : Atr) (x y : Slot) : Prop where
  act : y.act = none
  ta1 : y.ch.ta1 = a.ta1.getD 0x11
  wi : y.ch.wi = a.tc2.getD 10
  len : y.ch.atrLen = rx.length
  specific : y.ch.specific = a.ta2.isSome
  fi : y.ch.fi = if a.ta2.isSome then a.ta1.getD 0x11 / 16 else 1
  di : y.ch.di = if a.ta2.isSome then a.ta1.getD 0x11 % 16 else 1
  ifsc : y.tr.ifsc = if a.taT1 = some 0 ∨ a.taT1 = some 255 then 32 else a.taT1.getD 32
  pins : y.pins = x.pins
  run : y.run = x.run

theorem ifsc_atrTrans (a : Atr) :
    (atrTrans a).ifsc = if a.taT1 = some 0 ∨ a.taT1 = some 255 then 32 else a.taT1.getD 32 := by
  unfold atrTrans
  cases a.taT1 <;> simp

theorem atrWords_atrTaken (rx : List Byte) (a : Atr) (x : Slot) : AtrWords rx a x (atrTaken rx a x) := by
  have hifsc := ifsc_atrTrans a
  unfold atrTaken atrForce
  dsimp only
  split
  · rename_i h
    exact ⟨rfl, rfl, rfl, rfl, rfl, (if_pos h).symm, (if_pos h).symm, hifsc, rfl, rfl⟩
  · rename_i h
    exact ⟨rfl, rfl, rfl, rfl, rfl, (if_neg h).symm, (if_neg h).symm, hifsc, rfl, rfl⟩

/-- The last character of an ATR whose first is TS has it judged. -/
theorem atrChar_last {k : Nat} {b : Byte} {a : Atr} {rx : List Byte} {s : State} (hrx : (slotGet s k).line.rx ++ [b] = rx)
    (hts : rx.headD 0 = 0x3B ∨ rx.headD 0 = 0x3F) (hparse : atrParse rx = some (a, 0)) :
    atrChar k b true s = atrDone k a (modSlot k (rxMore b) s) := by
  have hline : (slotGet (modSlot k (rxMore b) s) k).line.rx = rx := by
    rw [slotGet_modSlot, if_pos rfl]
    exact hrx
  have hts' : ¬ (rx.headD 0 ≠ 0x3B ∧ rx.headD 0 ≠ 0x3F) := by
    rintro ⟨h1, h2⟩
    exact hts.elim h1 h2
  unfold atrChar
  dsimp only
  rw [if_neg (by decide)]
  change (if (slotGet (modSlot k (rxMore b) s) k).line.rx.headD 0 ≠ 0x3B ∧
    (slotGet (modSlot k (rxMore b) s) k).line.rx.headD 0 ≠ 0x3F then _ else
      match atrParse (slotGet (modSlot k (rxMore b) s) k).line.rx with
      | some (a, 0) => atrDone k a (modSlot k (rxMore b) s)
      | _ => _) = _
  rw [hline, if_neg hts', hparse]
  rfl

/-- A good ATR for the class tried, or after a warm reset, ends the order at the slot, which is READY. -/
theorem atrDone_good {k : Nat} {a : Atr} {act : Activation} {s : State} (hact : (slotGet s k).act = some act)
    (hgood : atrBad (slotGet s k).line.rx a = false)
    (hclass : act.warm = true ∨ ∀ u, atrUi a = some u → bitAt u ((slotGet s k).cls - 1) = true) :
    atrDone k a s = endReady k 0 (slotGet s k).line.rx (slotGet s k).line.rx.length
      (if isLocal k then activationDone k (modSlot k (atrTaken (slotGet s k).line.rx a) s)
        else modSlot k (atrTaken (slotGet s k).line.rx a) s) := by
  unfold atrDone
  dsimp only
  rw [hgood, if_neg Bool.false_ne_true, hact]
  rcases hclass with hw | hu
  · rw [if_neg (by simp [hw])]
    rfl
  · cases hui : atrUi a with
    | none =>
      rw [if_neg (by simp)]
      rfl
    | some u =>
      rw [if_neg (by simp [hu u hui])]
      rfl

/-- The slot at which an order ended with the slot READY. -/
theorem slotGet_endReady {k c n : Nat} {l : List Byte} {r : Running} {s : State} (h : (slotGet s k).run = some r) :
    slotGet (endReady k c l n s) k =
      { runFreed (slotGet s k) with st := .ready, trace := (slotGet (endReady k c l n s) k).trace } := by
  have hrun : (slotGet (modSlot k (fun x => { x with st := .ready }) s) k).run = some r := by
    rw [slotGet_modSlot, if_pos rfl]
    exact h
  have hself := slotGet_endRun_self hrun c l n
  rw [slotGet_modSlot, if_pos rfl] at hself
  exact hself

theorem slotsBut_endReady (k c n : Nat) (l : List Byte) (s : State) : SlotsBut k s (endReady k c l n s) := fun j hj => by
  rw [endReady, slotsBut_endRun k c l n _ j hj, slotGet_modSlot, if_neg hj]

theorem startEdge_cls (x : Slot) : (startEdge x).cls = x.cls := by rw [startEdge_eq]

/-- The slot with one more character of its ATR. -/
def atrHeard (tick : Nat) (c : Byte × Bool) (x : Slot) : Slot := rxMore c.1 (charNoted c.2 (!false) (charHeard tick x))

theorem atrHeard_rx (tick : Nat) (c : Byte × Bool) (x : Slot) : (atrHeard tick c x).line.rx = x.line.rx ++ [c.1] := rfl

theorem atrHeard_act (tick : Nat) (c : Byte × Bool) (x : Slot) : (atrHeard tick c x).act = x.act := startEdge_act x

theorem atrHeard_cls (tick : Nat) (c : Byte × Bool) (x : Slot) : (atrHeard tick c x).cls = x.cls := startEdge_cls x

theorem atrHeard_run (tick : Nat) (c : Byte × Bool) (x : Slot) : (atrHeard tick c x).run = x.run := startEdge_run x

theorem atrHeard_pins (tick : Nat) (c : Byte × Bool) (x : Slot) : (atrHeard tick c x).pins = x.pins := startEdge_pins x

/-- Settles O40. -/
theorem atrInForce : Obligations.AtrInForce := by
  intro k v a act r s hst hvcc hrst hkind htx hmode hact hrun hpar rx hts hparse hgood hclass
  have hheard : SlotIs k (charHeard s.sys.tick (slotGet s k)) s (heardState k v false s) :=
    slotIs_heardState (by rw [hst]; nofun) fun _ => hrst
  have hexec := exec_characterReceived_taken (early := false) hheard
    ((congrArg Contacts.vccOn (startEdge_pins _)).trans hvcc) ((congrArg SlotCfg.kind (startEdge_cfg _)).trans hkind)
    (.inl ((startEdge_st _).trans hst)) htx (.inl rfl)
  rw [atrInverse_charHeard] at hexec
  have hmode' : (slotGet (heardState k v false s) k).line.mode = .atr := (slotIs_field hheard fun y => y.line.mode).trans hmode
  have hrx : rx = (slotGet s k).line.rx ++ [(decodeChar (atrInverse (slotGet s k) v) v).1] := rfl
  clear_value rx
  generalize decodeChar (atrInverse (slotGet s k) v) v = c at *
  have hhead := slotIs_takeHead hheard c.1 c.2 (!false)
  have htaken : takeChar k c.1 c.2 (!false) (heardState k v false s) =
      atrChar k c.1 true (takeHead k c.1 c.2 (!false) (heardState k v false s)) := by
    rw [takeChar_atr hmode', hpar]
    rfl
  generalize takeHead k c.1 c.2 (!false) (heardState k v false s) = u at *
  have hline : (slotGet u k).line.rx ++ [c.1] = rx := by
    rw [hrx]
    exact congrArg (· ++ [c.1]) (slotIs_field hhead fun y => y.line.rx)
  have hlast := atrChar_last hline hts hparse
  have hmore : SlotIs k (atrHeard s.sys.tick c (slotGet s k)) s (modSlot k (rxMore c.1) u) :=
    slotIs_modSlot hhead fun _ _ _ => rfl
  have hxrx := (atrHeard_rx s.sys.tick c (slotGet s k)).trans hrx.symm
  have hxact := (atrHeard_act s.sys.tick c (slotGet s k)).trans hact
  have hxcls := atrHeard_cls s.sys.tick c (slotGet s k)
  have hxrun := (atrHeard_run s.sys.tick c (slotGet s k)).trans hrun
  have hxpins := atrHeard_pins s.sys.tick c (slotGet s k)
  generalize atrHeard s.sys.tick c (slotGet s k) = x at *
  generalize modSlot k (rxMore c.1) u = w at *
  have hwrx : (slotGet w k).line.rx = rx := (slotIs_field hmore fun y => y.line.rx).trans hxrx
  have hwact : (slotGet w k).act = some act := (slotIs_field hmore Slot.act).trans hxact
  have hwcls : (slotGet w k).cls = (slotGet s k).cls := (slotIs_field hmore Slot.cls).trans hxcls
  have hdone := atrDone_good hwact (by rw [hwrx]; exact hgood) (by rw [hwcls]; exact hclass)
  rw [hwrx] at hdone
  have hforce := slotIs_modSlot hmore (traceless_atrTaken rx a)
  have hwords := atrWords_atrTaken rx a x
  generalize atrTaken rx a x = y at *
  generalize modSlot k (atrTaken rx a) w = z at *
  set z' := if isLocal k then activationDone k z else z with hz'
  have hz : z'.sys = z.sys ∧ z'.fb = z.fb ∧ ∀ j, slotGet z' j = slotGet z j := by
    rw [hz']
    split
    · exact ⟨rfl, rfl, fun _ => rfl⟩
    · exact ⟨rfl, rfl, fun _ => rfl⟩
  obtain ⟨hzsys, hzfb, hzslot⟩ := hz
  clear_value z'
  have hzrun : (slotGet z' k).run = some r := by
    rw [hzslot, slotIs_field hforce Slot.run, hwords.run, hxrun]
  have hself := slotGet_endReady (c := 0) (l := rx) (n := rx.length) hzrun
  rw [hzslot, hforce.1] at hself
  have hbut := slotsBut_endReady k 0 rx.length rx z'
  rw [hexec, htaken, hlast, hdone]
  refine completes_next ⟨?_, ?_, ?_, ?_, ?_, ?_, ?_, ?_, ?_, ?_, ?_, fun j hj => ?_, ?_, ?_⟩
  rotate_right 3
  · rw [hbut j hj, hzslot, hforce.2.2.1 j hj]
  · rw [endReady, endRun_sys]
    exact hzsys.trans (slotIs_sys hforce)
  · rw [endReady, endRun_fb]
    refine hzfb.trans ?_
    rw [hforce.2.2.2]
  all_goals rw [hself]
  · exact hwords.act
  · rfl
  · exact hwords.ta1
  · exact hwords.wi
  · exact hwords.len
  · exact hwords.specific
  · exact hwords.fi
  · exact hwords.di
  · exact hwords.ifsc
  · exact hwords.pins.trans hxpins

end Machine
end Sys2Proof
end

section
/-! EXCHANGE, RAW_BLOCK and the blocks of a card (chapter 16). -/
namespace Sys2Proof
namespace Machine

set_option Elab.async false

open Safety

/-! ### Operations on the transport of a slot -/

section Transport
variable {k : Nat} {x : Slot} {s t : State} (h : SlotIs k x s t)
include h

theorem slotIs_modX (f : Xfer → Xfer) : SlotIs k { x with x := f x.x } s (modX k f t) :=
  slotIs_modSlot h fun _ _ _ => rfl

theorem slotIs_modTr (f : Trans → Trans) : SlotIs k { x with tr := f x.tr } s (modTr k f t) :=
  slotIs_modSlot h fun _ _ _ => rfl

end Transport

/-- The slot with a block of the hub on its line. -/
def blockOnLine (b : List Byte) (kind : LastBlock) (x : Slot) : Slot := { x with
  x := { x.x with lastSent := b, lastKind := kind }
  line := { x.line with mode := .t1, tx := x.line.tx ++ b, rx := [], rxBad := false } }

/-- The slot with an S-response of the hub on its line. -/
def answerOnLine (b : List Byte) (x : Slot) : Slot := { x with
  line := { x.line with tx := x.line.tx ++ b, rx := [], rxBad := false } }

theorem slotIs_sendBlock {k : Nat} {x : Slot} {s t : State} (h : SlotIs k x s t) (pcb : Nat) (inf : List Byte)
    (kind : LastBlock) : SlotIs k (blockOnLine (mkBlock x.tr.crc pcb inf) kind x) s (sendBlock k pcb inf kind t) := by
  have hcrc : (slotGet t k).tr.crc = x.tr.crc := slotIs_field h fun y => y.tr.crc
  unfold sendBlock
  rw [hcrc]
  exact slotIs_modSlot h (f := blockOnLine (mkBlock x.tr.crc pcb inf) kind) fun _ _ _ => rfl

theorem slotIs_sendAnswer {k : Nat} {x : Slot} {s t : State} (h : SlotIs k x s t) (pcb : Nat) (inf : List Byte) :
    SlotIs k (answerOnLine (mkBlock x.tr.crc pcb inf) x) s (sendAnswer k pcb inf t) := by
  have hcrc : (slotGet t k).tr.crc = x.tr.crc := slotIs_field h fun y => y.tr.crc
  unfold sendAnswer
  rw [hcrc]
  exact slotIs_modSlot h (f := answerOnLine (mkBlock x.tr.crc pcb inf)) fun _ _ _ => rfl

/-- The slot with S(RESYNCH request) on its line. -/
def resynchOnLine (x : Slot) : Slot :=
  blockOnLine (mkBlock x.tr.crc 0xC0 []) .resynchReq { x with
    tr := { x.tr with resynchs := satInc x.tr.resynchs }, x := { x.x with resynchTries := x.x.resynchTries + 1 } }

theorem slotIs_sendResynch {k : Nat} {x : Slot} {s t : State} (h : SlotIs k x s t) :
    SlotIs k (resynchOnLine x) s (sendResynch k t) :=
  slotIs_sendBlock (slotIs_modX (slotIs_modTr h fun t => { t with resynchs := satInc t.resynchs })
    fun y => { y with resynchTries := y.resynchTries + 1 }) 0xC0 [] .resynchReq

/-- The slot with the next I-block of its chain on its line. -/
def nextIOnLine (x : Slot) : Slot :=
  let rest := x.x.unsent.drop x.tr.ifsc
  let y := blockOnLine (mkBlock x.tr.crc (64 * bit x.tr.nsHub + 32 * bit (decide (rest ≠ []))) (x.x.unsent.take x.tr.ifsc)) .iBlock x
  { y with
    tr := { y.tr with nsHub := !y.tr.nsHub }
    x := { y.x with unsent := rest, lastI := y.x.lastSent, lastIMore := decide (rest ≠ []), chainDone := !decide (rest ≠ []) } }

theorem slotIs_sendNextI {k : Nat} {x : Slot} {s t : State} (h : SlotIs k x s t) : SlotIs k (nextIOnLine x) s (sendNextI k t) := by
  have hunsent : (slotGet t k).x.unsent = x.x.unsent := slotIs_field h fun y => y.x.unsent
  have hifsc : (slotGet t k).tr.ifsc = x.tr.ifsc := slotIs_field h fun y => y.tr.ifsc
  have hns : (slotGet t k).tr.nsHub = x.tr.nsHub := slotIs_field h fun y => y.tr.nsHub
  unfold sendNextI
  dsimp only
  rw [hunsent, hifsc, hns]
  exact slotIs_modX (slotIs_modTr (slotIs_sendBlock h _ _ .iBlock) fun t => { t with nsHub := !t.nsHub }) fun y => { y with
    unsent := x.x.unsent.drop x.tr.ifsc, lastI := y.lastSent, lastIMore := decide (x.x.unsent.drop x.tr.ifsc ≠ [])
    chainDone := !decide (x.x.unsent.drop x.tr.ifsc ≠ []) }

/-- The slot with what opens an exchange on its line. -/
def apduOnLine (x : Slot) : Slot :=
  if x.tr.ifsDone then nextIOnLine x else blockOnLine (mkBlock x.tr.crc 0xC1 [0xFE]) .ifsReq x

theorem slotIs_startApdu {k : Nat} {x : Slot} {s t : State} (h : SlotIs k x s t) : SlotIs k (apduOnLine x) s (startApdu k t) := by
  have hdone : (slotGet t k).tr.ifsDone = x.tr.ifsDone := slotIs_field h fun y => y.tr.ifsDone
  unfold startApdu apduOnLine
  rw [hdone]
  split
  · exact slotIs_sendNextI h
  · exact slotIs_sendBlock h ..

/-- The slot as a T=1 exchange finds it, before its first block. -/
def t1Ready (l : List Byte) (x : Slot) : Slot := { x with
  st := .busy, line := { mode := .t1 }, tr := { x.tr with apdu := 0 }
  x := { apdu := l, unsent := l, resynchFirst := x.tr.dirty } }

/-- The slot with a T=1 exchange opened. -/
def t1Opened (l : List Byte) (x : Slot) : Slot :=
  if x.tr.dirty then resynchOnLine (t1Ready l x) else apduOnLine (t1Ready l x)

/-- What opens a T=1 exchange. -/
def t1First (l : List Byte) (y : Trans) : List Byte :=
  if y.dirty then mkBlock y.crc 0xC0 []
  else if y.ifsDone then mkBlock y.crc (64 * bit y.nsHub + 32 * bit (decide (l.drop y.ifsc ≠ []))) (l.take y.ifsc)
  else mkBlock y.crc 0xC1 [0xFE]

theorem t1Opened_fields (l : List Byte) (x : Slot) :
    (t1Opened l x).st = .busy ∧ (t1Opened l x).line.mode = .t1 ∧ (t1Opened l x).x.apdu = l ∧
    (t1Opened l x).run = x.run ∧ (t1Opened l x).line.tx = t1First l x.tr := by
  cases hdirty : x.tr.dirty with
  | true => simp [t1Opened, t1First, hdirty, resynchOnLine, blockOnLine, t1Ready]
  | false =>
    cases hifs : x.tr.ifsDone with
    | true => simp [t1Opened, t1First, hdirty, hifs, apduOnLine, nextIOnLine, blockOnLine, t1Ready]
    | false => simp [t1Opened, t1First, hdirty, hifs, apduOnLine, blockOnLine, t1Ready]

theorem slotIs_startT1 {k : Nat} {x : Slot} {s t : State} (h : SlotIs k x s t) (l : List Byte) :
    SlotIs k (t1Opened l x) s (startT1 k l t) := by
  have hdirty : (slotGet t k).tr.dirty = x.tr.dirty := slotIs_field h fun y => y.tr.dirty
  have hset := slotIs_modSlot (slotIs_modTr h fun t => { t with apdu := 0 }) (f := fun z => { z with
    st := .busy, line := { mode := .t1 }, x := { apdu := l, unsent := l, resynchFirst := x.tr.dirty } }) fun _ _ _ => rfl
  unfold startT1 t1Opened
  rw [hdirty]
  dsimp only
  split
  · exact slotIs_sendResynch hset
  · exact slotIs_startApdu hset

/-! ### EXCHANGE -/

section Exchange
variable {k : Nat} {r : Running} {s : State} (h : toBegin s k [0x04] = some r) (hst : (slotGet s k).st = .ready)
  (hread : readCommand k r s = (s, true))
include h hst hread

/-- An EXCHANGE whose command was read goes by the protocol in force. -/
theorem exec_exchange : exec (.exchange k []) s = .next (
    if (slotGet s k).ch.inForce = 1 then
      if t0Case (runBytes s k r).length ((runBytes s k r).getD 4 0).toNat = 5 then endReady k 0x012 [] 0 (begin_ k s)
      else startT0 k (runBytes s k r) (begin_ k s)
    else if (slotGet s k).ch.inForce = 2 then startT1 k (runBytes s k r) (begin_ k s)
    else endReady k 0x014 [] 0 (begin_ k s)) := by
  have hforce : (slotGet (begin_ k s) k).ch.inForce = (slotGet s k).ch.inForce := slotIs_field (slotIs_begin h) fun y => y.ch.inForce
  have hupset : upset [] s = s := rfl
  show execExchange k [] s = _
  rw [execExchange, h]
  dsimp only
  rw [hupset, hread]
  dsimp only
  rw [if_neg (by decide), if_pos hst, hforce]

theorem completes_exchange_t0 (hforce : (slotGet s k).ch.inForce = 1)
    (hcase : t0Case (runBytes s k r).length ((runBytes s k r).getD 4 0).toNat ≠ 5) :
    Completes (exec (.exchange k []) s) fun t =>
      (slotGet t k).st = .busy ∧ (slotGet t k).line = { mode := .t0, tx := t0Header (runBytes s k r) } ∧
      (slotGet t k).x.apdu = runBytes s k r ∧ (slotGet t k).run = some { r with begun := true, beganAt := s.sys.tick } ∧
      SlotsBut k s t ∧ t = { s with slots := t.slots } := by
  rw [exec_exchange h hst hread, if_pos hforce, if_neg hcase]
  generalize runBytes s k r = l at *
  have hslot : ∃ y : Slot, y.st = .busy ∧ y.line = { mode := .t0, tx := t0Header l } ∧ y.x.apdu = l ∧
      y.run = some { r with begun := true, beganAt := s.sys.tick } ∧ SlotIs k y s (startT0 k l (begin_ k s)) :=
    ⟨_, rfl, rfl, rfl, rfl, slotIs_modSlot (slotIs_modTr (slotIs_begin h) _) fun _ _ _ => rfl⟩
  obtain ⟨y, hyst, hyline, hyapdu, hyrun, hy⟩ := hslot
  exact completes_next ⟨(slotIs_field hy Slot.st).trans hyst, (slotIs_field hy Slot.line).trans hyline,
    (slotIs_field hy fun y => y.x.apdu).trans hyapdu, (slotIs_field hy Slot.run).trans hyrun, hy.2.2.1, hy.2.2.2⟩

theorem completes_exchange_ends
    (hbad : (slotGet s k).ch.inForce = 1 ∧ t0Case (runBytes s k r).length ((runBytes s k r).getD 4 0).toNat = 5 ∨
      ((slotGet s k).ch.inForce ≠ 1 ∧ (slotGet s k).ch.inForce ≠ 2)) :
    Completes (exec (.exchange k []) s) fun t =>
      (slotGet t k).st = .ready ∧ RunEnds k r (if (slotGet s k).ch.inForce = 1 then 0x012 else 0x014) s t ∧
      SlotsBut k s t := by
  have hbegun := slotIs_begin h
  have hends : ∀ c, (slotGet (endReady k c [] 0 (begin_ k s)) k).st = .ready ∧ RunEnds k r c s (endReady k c [] 0 (begin_ k s)) ∧
      SlotsBut k s (endReady k c [] 0 (begin_ k s)) := by
    intro c
    have hready := slotIs_modSlot hbegun (f := fun x => { x with st := .ready }) fun _ _ _ => rfl
    have hrun := slotIs_field hready Slot.run
    have hoid : ({ r with begun := true, beganAt := s.sys.tick } : Running).oid = r.oid := rfl
    refine ⟨?_, runEnds_of_slotIs hready (runEnds_congr hoid (runEnds_endRun hrun c)),
      slotIs_but hbegun (slotsBut_endReady k c 0 [] _)⟩
    rw [slotGet_endReady (slotIs_field hbegun Slot.run)]
  rw [exec_exchange h hst hread]
  rcases hbad with ⟨hforce, hcase⟩ | ⟨hne, hne'⟩
  · rw [if_pos hforce, if_pos hcase, if_pos hforce]
    exact completes_next (hends 0x012)
  · rw [if_neg hne, if_neg hne', if_neg hne]
    exact completes_next (hends 0x014)

theorem completes_exchange_t1 (hforce : (slotGet s k).ch.inForce = 2) :
    Completes (exec (.exchange k []) s) fun t =>
      let l := runBytes s k r
      let y := (slotGet s k).tr
      (slotGet t k).st = .busy ∧ (slotGet t k).line.mode = .t1 ∧ (slotGet t k).x.apdu = l ∧
      (slotGet t k).run = some { r with begun := true, beganAt := s.sys.tick } ∧ SlotsBut k s t ∧
      t = { s with slots := t.slots } ∧
      (slotGet t k).line.tx =
        (if y.dirty then mkBlock y.crc 0xC0 []
         else if y.ifsDone then
           mkBlock y.crc (64 * bit y.nsHub + 32 * bit (decide (l.drop y.ifsc ≠ []))) (l.take y.ifsc)
         else mkBlock y.crc 0xC1 [0xFE]) := by
  have hslot := slotIs_startT1 (slotIs_begin h) (runBytes s k r)
  have hline := slotIs_field hslot Slot.line
  obtain ⟨hst', hmode, hapdu, hrun, htx⟩ := t1Opened_fields (runBytes s k r)
    { slotGet s k with run := some { r with begun := true, beganAt := s.sys.tick } }
  rw [exec_exchange h hst hread, if_neg (by rw [hforce]; decide), if_pos hforce]
  exact completes_next ⟨(slotIs_field hslot Slot.st).trans hst', (congrArg Line.mode hline).trans hmode,
    (slotIs_field hslot fun y => y.x.apdu).trans hapdu, (slotIs_field hslot Slot.run).trans hrun, hslot.2.2.1, hslot.2.2.2,
    (congrArg Line.tx hline).trans htx⟩

end Exchange

/-! ### RAW_BLOCK -/

theorem completes_rawBlock {k : Nat} {r : Running} {s : State} (h : toBegin s k [0x05] = some r) (hst : (slotGet s k).st = .ready) :
    Completes (exec (.rawBlock k) s) fun t =>
      SlotIs k { slotGet s k with
        st := .busy, tr := { (slotGet s k).tr with dirty := true }
        line := { mode := .t1, tx := runBytes s k r }
        x := { apdu := runBytes s k r, raw := true, lastKind := .other }
        run := some { r with begun := true, beganAt := s.sys.tick } } s t := by
  have hexec : exec (.rawBlock k) s = .next (modSlot k (fun x => { x with
      st := .busy, tr := { x.tr with dirty := true }, line := { mode := .t1, tx := runBytes s k r }
      x := { apdu := runBytes s k r, raw := true, lastKind := .other } }) (begin_ k s)) := by
    show execRawBlock k s = _
    rw [execRawBlock, h]
    dsimp only
    rw [if_pos hst]
  rw [hexec]
  exact completes_next (slotIs_modSlot (slotIs_begin h) fun _ _ _ => rfl)

/-! ### BLOCK_RECEIVED -/

theorem awaitsBlock_eq {x : Slot} (h : awaitsBlock x = true) : x.line.mode = .t1 ∧ x.st = .busy ∧ x.line.tx = [] := by
  simpa [awaitsBlock, and_assoc] using h

theorem exec_blockReceived {k : Nat} {s : State} (hawaits : awaitsBlock (slotGet s k) = true)
    (hwhole : blockWhole (slotGet s k) = true) : exec (.blockReceived k) s = .next (blockEnds k s) := by
  show execBlockReceived k s = _
  rw [execBlockReceived, hawaits, hwhole]
  rfl

theorem orderRoom_le (o : Order) : orderRoom o ≤ 1024 := by
  have h : (orderParcels o).length ≤ 2 := by
    unfold orderParcels
    exact (List.length_filter_le ..)
  unfold orderRoom
  omega

theorem completes_blockReceived_raw {k : Nat} {r : Running} {o : Order} {s : State} (hk : k < 4)
    (hawaits : awaitsBlock (slotGet s k) = true) (hwhole : blockWhole (slotGet s k) = true)
    (hraw : (slotGet s k).x.raw = true) (hrun : (slotGet s k).run = some r) (ho : orderGet s r.oid = some o)
    (hroom : (slotGet s k).line.rx.length ≤ orderRoom o) :
    Completes (exec (.blockReceived k) s) fun t =>
      (slotGet t k).st = .ready ∧ (slotGet t k).run = none ∧ OrderEnds o 0 t ∧ SlotsBut k s t ∧ t.fb = s.fb := by
  have hself := slotGet_endReady (c := 0) (l := (slotGet s k).line.rx) (n := (slotGet s k).line.rx.length) hrun
  have hrun' : (slotGet (modSlot k (fun x => { x with st := .ready }) s) k).run = some r := by
    rw [slotGet_modSlot, if_pos rfl]
    exact hrun
  rw [exec_blockReceived hawaits hwhole, blockEnds, hraw, if_pos rfl]
  refine completes_next ⟨by rw [hself], by rw [hself]; rfl, ?_, slotsBut_endReady _ _ _ _ _, ?_⟩
  · rw [endReady, endRun_local hk hrun']
    generalize hu : modSlot k runFreed (modSlot k (fun x => { x with st := .ready }) s) = u
    have ho' : orderGet u r.oid = some o := by rw [← hu]; exact ho
    exact orderEnds_endOrderDataId ho' 0 _ hroom (hroom.trans (orderRoom_le o))
  · rw [endReady, endRun_fb]
    rfl

/-- A block that is judged is acted on with the BWT multiplier back at 1. -/
theorem exec_blockReceived_judged {k : Nat} {a : T1Act} {s : State} (hawaits : awaitsBlock (slotGet s k) = true)
    (hwhole : blockWhole (slotGet s k) = true) (hraw : (slotGet s k).x.raw = false)
    (hjudge : judgeBlock (slotGet s k) (slotGet s k).line.rx (slotGet s k).line.rxBad = a) :
    exec (.blockReceived k) s = .next (t1Act k a (modX k (fun y => { y with wtx := 1 }) s)) := by
  rw [exec_blockReceived hawaits hwhole, blockEnds, hraw, hjudge]
  rfl

/-- The slot with the BWT multiplier back at 1. -/
def wtxOver (x : Slot) : Slot := { x with x := { x.x with wtx := 1 } }

theorem slotIs_wtxOver (k : Nat) (s : State) : SlotIs k (wtxOver (slotGet s k)) s (modX k (fun y => { y with wtx := 1 }) s) :=
  slotIs_modX (slotIs_refl k s) _

theorem slotIs_setBlast {k : Nat} {x : Slot} {s t : State} (h : SlotIs k x s t) (n : Nat) :
    SlotIs k { x with tr := { x.tr with blast := n } } s (setBlast k n t) := slotIs_modTr h _

theorem completes_blockReceived_wtx {k m : Nat} {s : State} (hawaits : awaitsBlock (slotGet s k) = true)
    (hwhole : blockWhole (slotGet s k) = true) (hraw : (slotGet s k).x.raw = false)
    (hjudge : judgeBlock (slotGet s k) (slotGet s k).line.rx (slotGet s k).line.rxBad = .wtxReq m) :
    Completes (exec (.blockReceived k) s) fun t =>
      (slotGet t k).line.tx = mkBlock (slotGet s k).tr.crc 0xE3 [byte m] ∧ (slotGet t k).x.wtx = m ∧
      (slotGet t k).tr = { (slotGet s k).tr with wtxs := satInc (slotGet s k).tr.wtxs, blast := 5 } ∧
      (slotGet t k).st = .busy ∧ SlotsBut k s t ∧ t = { s with slots := t.slots } := by
  obtain ⟨-, hst, htx⟩ := awaitsBlock_eq hawaits
  have hslot := slotIs_modX (slotIs_sendAnswer (slotIs_modTr (slotIs_wtxOver k s)
    fun t => { t with wtxs := satInc t.wtxs, blast := 5 }) 0xE3 [byte m]) fun y => { y with wtx := m }
  rw [exec_blockReceived_judged hawaits hwhole hraw hjudge]
  refine completes_next ⟨?_, slotIs_field hslot fun y => y.x.wtx, slotIs_field hslot Slot.tr,
    (slotIs_field hslot Slot.st).trans hst, hslot.2.2.1, hslot.2.2.2⟩
  refine (slotIs_field hslot fun y => y.line.tx).trans ?_
  exact congrArg (· ++ _) htx

theorem completes_blockReceived_ifs {k v : Nat} {s : State} (hawaits : awaitsBlock (slotGet s k) = true)
    (hwhole : blockWhole (slotGet s k) = true) (hraw : (slotGet s k).x.raw = false)
    (hjudge : judgeBlock (slotGet s k) (slotGet s k).line.rx (slotGet s k).line.rxBad = .ifsReq v) :
    Completes (exec (.blockReceived k) s) fun t =>
      (slotGet t k).line.tx = mkBlock (slotGet s k).tr.crc 0xE1 [byte v] ∧
      (slotGet t k).tr = { (slotGet s k).tr with ifsc := v, blast := 6 } ∧ SlotsBut k s t := by
  obtain ⟨-, -, htx⟩ := awaitsBlock_eq hawaits
  have hslot := slotIs_sendAnswer (slotIs_setBlast (slotIs_modTr (slotIs_wtxOver k s) fun t => { t with ifsc := v }) 6)
    0xE1 [byte v]
  rw [exec_blockReceived_judged hawaits hwhole hraw hjudge]
  refine completes_next ⟨?_, slotIs_field hslot Slot.tr, hslot.2.2.1⟩
  refine (slotIs_field hslot fun y => y.line.tx).trans ?_
  exact congrArg (· ++ _) htx

/-! ### The recovery ladder -/

/-- The slot after a failure that is not the third: the failure counted and an R-block on the line. -/
def rBlockOnLine (edc : Bool) (x : Slot) : Slot :=
  blockOnLine (mkBlock x.tr.crc (0x80 + 16 * bit x.tr.nsCard + (if edc then 1 else 2)) []) .rBlock { x with
    x := { x.x with fails := x.x.fails + 1 }, tr := { x.tr with retries := satInc x.tr.retries } }

/-- The slot after a failure of an exchange that is not in S(IFS) or S(RESYNCH). -/
def t1Failed (edc : Bool) (x : Slot) : Slot :=
  if x.x.fails < 2 then rBlockOnLine edc x else resynchOnLine { x with x := { x.x with fails := x.x.fails + 1 } }

/-- The block that follows a failure. -/
def failAnswer (edc : Bool) (x : Slot) : List Byte :=
  if x.x.fails < 2 then mkBlock x.tr.crc (0x80 + 16 * bit x.tr.nsCard + (if edc then 1 else 2)) []
  else mkBlock x.tr.crc 0xC0 []

theorem t1Failed_fields (edc : Bool) (x : Slot) :
    (t1Failed edc x).tr.blast = x.tr.blast ∧ (t1Failed edc x).x.fails = x.x.fails + 1 ∧ (t1Failed edc x).st = x.st ∧
    (t1Failed edc x).ch = x.ch ∧ (t1Failed edc x).line.tx = x.line.tx ++ failAnswer edc x := by
  unfold t1Failed failAnswer
  split
  · exact ⟨rfl, rfl, rfl, rfl, rfl⟩
  · exact ⟨rfl, rfl, rfl, rfl, rfl⟩

/-- A failure of an exchange that is not in S(IFS) or S(RESYNCH). -/
theorem slotIs_t1Fail {k : Nat} {edc : Bool} {x : Slot} {s t : State} (h : SlotIs k x s t) (hifs : x.x.lastKind ≠ .ifsReq)
    (hresynch : x.x.lastKind ≠ .resynchReq) :
    SlotIs k (t1Failed edc x) s (t1Fail k edc false t) := by
  have hkind : (slotGet t k).x.lastKind = x.x.lastKind := slotIs_field h fun y => y.x.lastKind
  have hfails : (slotGet t k).x.fails = x.x.fails := slotIs_field h fun y => y.x.fails
  have hcounted := slotIs_modX h fun y => { y with fails := x.x.fails + 1 }
  have hcard := slotIs_field hcounted fun y => y.tr.nsCard
  unfold t1Fail t1Failed
  dsimp only
  rw [hkind, hfails, if_neg hresynch]
  by_cases hthird : x.x.fails < 2
  · have hfew : ¬ 3 ≤ x.x.fails + 1 := by omega
    rw [if_neg hfew, if_neg hifs, if_pos hthird, if_neg Bool.false_ne_true, hcard]
    exact slotIs_sendBlock (slotIs_modTr hcounted fun t => { t with retries := satInc t.retries }) _ _ .rBlock
  · have hmany : 3 ≤ x.x.fails + 1 := by omega
    rw [if_pos hmany, if_neg hthird]
    exact slotIs_sendResynch hcounted

theorem completes_blockReceived_bad {k : Nat} {edc : Bool} {s : State} (hawaits : awaitsBlock (slotGet s k) = true)
    (hwhole : blockWhole (slotGet s k) = true) (hraw : (slotGet s k).x.raw = false)
    (hjudge : judgeBlock (slotGet s k) (slotGet s k).line.rx (slotGet s k).line.rxBad = .bad edc)
    (hifs : (slotGet s k).x.lastKind ≠ .ifsReq) (hresynch : (slotGet s k).x.lastKind ≠ .resynchReq) :
    Completes (exec (.blockReceived k) s) fun t =>
      (slotGet t k).tr.blast = (if edc then 1 else 2) ∧ (slotGet t k).x.fails = (slotGet s k).x.fails + 1 ∧
      (slotGet t k).st = .busy ∧ SlotsBut k s t ∧
      (slotGet t k).line.tx =
        (if (slotGet s k).x.fails < 2 then
          mkBlock (slotGet s k).tr.crc (0x80 + 16 * bit (slotGet s k).tr.nsCard + (if edc then 1 else 2)) []
         else mkBlock (slotGet s k).tr.crc 0xC0 []) := by
  obtain ⟨-, hst, htx⟩ := awaitsBlock_eq hawaits
  have hact : t1Act k (.bad edc) (modX k (fun y => { y with wtx := 1 }) s) =
      t1Fail k edc false (setBlast k (if edc then 1 else 2) (modX k (fun y => { y with wtx := 1 }) s)) := by
    cases edc <;> rfl
  have hslot := slotIs_t1Fail (edc := edc) (slotIs_setBlast (slotIs_wtxOver k s) (if edc then 1 else 2)) hifs hresynch
  obtain ⟨hblast, hfails, hst', -, htx'⟩ := t1Failed_fields edc
    { wtxOver (slotGet s k) with tr := { (wtxOver (slotGet s k)).tr with blast := if edc then 1 else 2 } }
  rw [exec_blockReceived_judged hawaits hwhole hraw hjudge, hact]
  refine completes_next ⟨(slotIs_field hslot fun y => y.tr.blast).trans hblast,
    (slotIs_field hslot fun y => y.x.fails).trans hfails, (slotIs_field hslot Slot.st).trans (hst'.trans hst), hslot.2.2.1,
    (slotIs_field hslot fun y => y.line.tx).trans (htx'.trans ?_)⟩
  exact congrArg (· ++ _) htx

theorem completes_blockReceived_last {k : Nat} {inf : List Byte} {r : Running} {s : State}
    (hawaits : awaitsBlock (slotGet s k) = true) (hwhole : blockWhole (slotGet s k) = true) (hraw : (slotGet s k).x.raw = false)
    (hrun : (slotGet s k).run = some r)
    (hjudge : judgeBlock (slotGet s k) (slotGet s k).line.rx (slotGet s k).line.rxBad = .iBlock false inf) :
    Completes (exec (.blockReceived k) s) fun t =>
      (slotGet t k).st = .ready ∧ (slotGet t k).run = none ∧ (slotGet t k).tr.nsCard = !(slotGet s k).tr.nsCard ∧
      SlotsBut k s t := by
  have hslot := slotIs_modX (slotIs_modTr (slotIs_modX (slotIs_wtxOver k s) fun y => { y with fails := 0 })
    fun t => { t with nsCard := !t.nsCard }) fun y => { y with resp := (y.resp ++ inf).take 1024, full := y.full + inf.length }
  have hact : ∃ l n, t1Act k (.iBlock false inf) (modX k (fun y => { y with wtx := 1 }) s) = endReady k 0 l n
      (modX k (fun y => { y with resp := (y.resp ++ inf).take 1024, full := y.full + inf.length })
        (modTr k (fun t => { t with nsCard := !t.nsCard }) (modX k (fun y => { y with fails := 0 })
          (modX k (fun y => { y with wtx := 1 }) s)))) := ⟨_, _, rfl⟩
  obtain ⟨l, n, hact⟩ := hact
  have hself := slotGet_endReady (c := 0) (l := l) (n := n) ((slotIs_field hslot Slot.run).trans hrun)
  rw [exec_blockReceived_judged hawaits hwhole hraw hjudge, hact]
  refine completes_next ⟨by rw [hself], by rw [hself]; rfl, ?_, slotIs_but hslot (slotsBut_endReady _ _ _ _ _)⟩
  rw [hself]
  exact slotIs_field hslot fun y => y.tr.nsCard

/-! ### CWT, BWT, WT and the card-time limit -/

/-- A block cut short without a bad character is no block. -/
theorem judgeBlock_short {x : Slot} (hwhole : blockWhole x = false) : judgeBlock x x.line.rx false = .bad false := by
  have hshort : (decide (x.line.rx.length < 3 + (x.line.rx.getD 2 0).toNat + if x.tr.crc then 2 else 1) ||
      decide (x.line.rx.length < 3 + if x.tr.crc then 2 else 1)) = true := by
    rw [blockWhole, Bool.and_eq_false_iff, decide_eq_false_iff_not, decide_eq_false_iff_not] at hwhole
    rw [Bool.or_eq_true, decide_eq_true_eq, decide_eq_true_eq]
    split at hwhole <;> split <;> omega
  unfold judgeBlock
  dsimp only
  rw [hshort]
  rfl

theorem completes_cwtExpiry {k : Nat} {s : State} (hawaits : awaitsBlock (slotGet s k) = true) (hrx : (slotGet s k).line.rx ≠ [])
    (hwhole : blockWhole (slotGet s k) = false) (hgood : (slotGet s k).line.rxBad = false) (hraw : (slotGet s k).x.raw = false)
    (hifs : (slotGet s k).x.lastKind ≠ .ifsReq) (hresynch : (slotGet s k).x.lastKind ≠ .resynchReq)
    (hfails : (slotGet s k).x.fails < 2) (hquiet : heardNow s (slotGet s k) = false) :
    Completes (exec (.cwtExpiry k) s) fun t =>
      (slotGet t k).ch.chLast = 4 ∧ (slotGet t k).tr.blast = 2 ∧
      (slotGet t k).line.tx = mkBlock (slotGet s k).tr.crc (0x82 + 16 * bit (slotGet s k).tr.nsCard) [] ∧ SlotsBut k s t := by
  obtain ⟨-, -, htx⟩ := awaitsBlock_eq hawaits
  have hlast := slotIs_traceAdd (slotIs_modSlot (slotIs_refl k s) (f := fun x => { x with ch := { x.ch with chLast := 4 } })
    fun _ _ _ => rfl) 2 4
  have hexec : exec (.cwtExpiry k) s = .next (blockEnds k (traceAdd k 2 4 (modSlot k (fun x => { x with
      ch := { x.ch with chLast := 4 } }) s))) := by
    show execCwtExpiry k s = _
    rw [execCwtExpiry, hawaits, hquiet, decide_eq_true hrx]
    rfl
  generalize traceAdd k 2 4 (modSlot k (fun x => { x with ch := { x.ch with chLast := 4 } }) s) = u at *
  have hends : blockEnds k u = t1Fail k false false (setBlast k 2 (modX k (fun y => { y with wtx := 1 }) u)) := by
    have hraw' : (slotGet u k).x.raw = false := (slotIs_field hlast fun y => y.x.raw).trans hraw
    have hbad' : (slotGet u k).line.rxBad = false := (slotIs_field hlast fun y => y.line.rxBad).trans hgood
    have hwhole' : blockWhole (slotGet u k) = false := (slotIs_field hlast blockWhole).trans hwhole
    unfold blockEnds
    dsimp only
    rw [hraw', if_neg Bool.false_ne_true, hbad', judgeBlock_short hwhole']
    rfl
  have hslot := slotIs_t1Fail (edc := false) (slotIs_setBlast (slotIs_modX hlast fun y => { y with wtx := 1 }) 2) hifs hresynch
  have hrblock : failAnswer false (slotGet s k) = mkBlock (slotGet s k).tr.crc (0x82 + 16 * bit (slotGet s k).tr.nsCard) [] := by
    rw [failAnswer, if_pos hfails, if_neg Bool.false_ne_true]
    congr 1
    omega
  rw [hexec, hends]
  obtain ⟨hblast, -, -, hch, htx'⟩ := t1Failed_fields false { slotGet s k with
    ch := { (slotGet s k).ch with chLast := 4 }, x := { (slotGet s k).x with wtx := 1 }
    tr := { (slotGet s k).tr with blast := 2 } }
  refine completes_next ⟨(slotIs_field hslot fun y => y.ch.chLast).trans (congrArg Chars.chLast hch),
    (slotIs_field hslot fun y => y.tr.blast).trans hblast, (slotIs_field hslot fun y => y.line.tx).trans (htx'.trans ?_),
    hslot.2.2.1⟩
  exact (congrArg (· ++ _) htx).trans hrblock

theorem execBwtExpiry_due {k : Nat} {s : State} (hawaits : awaitsBlock (slotGet s k) = true) (hrx : (slotGet s k).line.rx = [])
    (hquiet : heardNow s (slotGet s k) = false) :
    exec (.bwtExpiry k) s = .next (if (slotGet s k).x.raw then endReady k 0x049 [] 0 (setBlast k 3 s)
      else t1Fail k false false (setBlast k 3 (modX k (fun y => { y with wtx := 1 }) s))) := by
  show execBwtExpiry k s = _
  rw [execBwtExpiry, hawaits, hquiet, decide_eq_true hrx]
  rfl

theorem completes_bwtExpiry_raw {k : Nat} {r : Running} {s : State} (hawaits : awaitsBlock (slotGet s k) = true)
    (hrx : (slotGet s k).line.rx = []) (hraw : (slotGet s k).x.raw = true) (hrun : (slotGet s k).run = some r)
    (hquiet : heardNow s (slotGet s k) = false) :
    Completes (exec (.bwtExpiry k) s) fun t =>
      (slotGet t k).st = .ready ∧ (slotGet t k).tr.blast = 3 ∧ RunEnds k r 0x049 s t ∧ SlotsBut k s t := by
  have hblast := slotIs_setBlast (slotIs_refl k s) 3
  have hready := slotIs_modSlot hblast (f := fun x => { x with st := .ready }) fun _ _ _ => rfl
  have hself := slotGet_endReady (c := 0x049) (l := []) (n := 0) ((slotIs_field hblast Slot.run).trans hrun)
  rw [execBwtExpiry_due hawaits hrx hquiet, hraw, if_pos rfl]
  refine completes_next ⟨by rw [hself], ?_, ?_, slotIs_but hblast (slotsBut_endReady _ _ _ _ _)⟩
  · rw [hself]
    exact slotIs_field hblast fun y => y.tr.blast
  · exact runEnds_of_slotIs hready (runEnds_endRun ((slotIs_field hready Slot.run).trans hrun) 0x049)

theorem completes_bwtExpiry_resynch {k : Nat} {s : State} (hawaits : awaitsBlock (slotGet s k) = true)
    (hrx : (slotGet s k).line.rx = []) (hkind : (slotGet s k).x.lastKind = .resynchReq) (hraw : (slotGet s k).x.raw = false)
    (htries : 3 ≤ (slotGet s k).x.resynchTries) (hquiet : heardNow s (slotGet s k) = false) :
    Completes (exec (.bwtExpiry k) s) fun t =>
      Falls k 8 false (some (if (slotGet s k).x.heard then 0x04A else 0x049)) s t ∧
      (slotGet t k).tr.blast = 9 ∧ SlotsBut k s t := by
  obtain ⟨-, hst, -⟩ := awaitsBlock_eq hawaits
  have hblast := slotIs_setBlast (slotIs_wtxOver k s) 3
  rw [execBwtExpiry_due hawaits hrx hquiet, hraw, if_neg Bool.false_ne_true]
  generalize setBlast k 3 (modX k (fun y => { y with wtx := 1 }) s) = u at *
  have hkind' : (slotGet u k).x.lastKind = .resynchReq := (slotIs_field hblast fun y => y.x.lastKind).trans hkind
  have htries' : (slotGet u k).x.resynchTries = (slotGet s k).x.resynchTries := slotIs_field hblast fun y => y.x.resynchTries
  have hheard : (slotGet u k).x.heard = (slotGet s k).x.heard := slotIs_field hblast fun y => y.x.heard
  have hfail : t1Fail k false false u =
      endFall k (if (slotGet s k).x.heard then 0x04A else 0x049) (modTr k (fun t => { t with blast := 9 }) u) := by
    unfold t1Fail
    dsimp only
    rw [hkind', if_pos rfl, htries', if_neg (by omega), resynchFailed, hheard]
  have hnine := slotIs_modTr hblast fun t => { t with blast := 9 }
  have hsession : inSession { wtxOver (slotGet s k) with tr := { (slotGet s k).tr with blast := 9 } } = true := by
    show (match (slotGet s k).st with | .rising | .atr | .ready | .busy | .asleep | .updating => true | _ => false) = true
    rw [hst]
  obtain ⟨hfalls, hbut⟩ := endFall_of_slotIs (code := if (slotGet s k).x.heard then 0x04A else 0x049) hnine hsession rfl
  have htr := (endFall_ch (code := if (slotGet s k).x.heard then 0x04A else 0x049) hnine hsession).2
  rw [hfail]
  exact completes_next ⟨hfalls, by rw [htr], hbut⟩

theorem completes_wtExpiry {k : Nat} {s : State} (hmode : (slotGet s k).line.mode = .t0) (hst : (slotGet s k).st = .busy)
    (hquiet : heardNow s (slotGet s k) = false) :
    Completes (exec (.wtExpiry k) s) fun t =>
      Falls k 8 false (some 0x049) s t ∧ (slotGet t k).ch.chLast = 4 ∧ SlotsBut k s t := by
  have hlast := slotIs_traceAdd (slotIs_modSlot (slotIs_refl k s) (f := fun x => { x with ch := { x.ch with chLast := 4 } })
    fun _ _ _ => rfl) 2 4
  have hexec : exec (.wtExpiry k) s = .next (endFall k 0x049 (traceAdd k 2 4 (modSlot k (fun x => { x with
      ch := { x.ch with chLast := 4 } }) s))) := by
    show execWtExpiry k s = _
    rw [execWtExpiry, if_pos ⟨hmode, hst, hquiet⟩]
  have hsession : inSession { slotGet s k with ch := { (slotGet s k).ch with chLast := 4 } } = true := by
    rw [inSession]
    simp only [hst]
  obtain ⟨hfalls, hbut⟩ := endFall_of_slotIs (code := 0x049) hlast hsession rfl
  have hch := (endFall_ch (code := 0x049) hlast hsession).1
  rw [hexec]
  exact completes_next ⟨hfalls, by rw [hch], hbut⟩

theorem completes_cardTimeLimit {k : Nat} {r : Running} {s : State} (hrun : (slotGet s k).run = some r)
    (hop : r.opcode = 0x04 ∨ r.opcode = 0x05) (hst : (slotGet s k).st = .busy) :
    Completes (exec (.cardTimeLimit k) s) fun t =>
      Falls k 8 false (some 0x049) s t ∧ (slotGet t k).tr.blast = 10 ∧ SlotsBut k s t := by
  have hblast := slotIs_setBlast (slotIs_refl k s) 10
  have hexec : exec (.cardTimeLimit k) s = .next (endFall k 0x049 (setBlast k 10 s)) := by
    show execCardTimeLimit k s = _
    rw [execCardTimeLimit, hrun]
    dsimp only
    rw [if_pos ⟨hop, hst⟩]
  have hsession : inSession { slotGet s k with tr := { (slotGet s k).tr with blast := 10 } } = true := by
    rw [inSession]
    simp only [hst]
  obtain ⟨hfalls, hbut⟩ := endFall_of_slotIs (code := 0x049) hblast hsession rfl
  have htr := (endFall_ch (code := 0x049) hblast hsession).2
  rw [hexec]
  exact completes_next ⟨hfalls, by rw [htr], hbut⟩

/-- Settles O41. -/
theorem exchanges : Obligations.Exchanges :=
  ⟨fun _ _ _ h hst hread hforce => completes_exchange_t0 h hst hread hforce, fun _ _ _ h hst hread => completes_exchange_ends h hst hread,
    fun _ _ _ h hst hread => completes_exchange_t1 h hst hread, fun _ _ _ => completes_rawBlock,
    fun _ _ _ _ => completes_blockReceived_raw, fun _ _ _ => completes_blockReceived_wtx,
    fun _ _ _ => completes_blockReceived_ifs, fun _ _ _ => completes_blockReceived_bad,
    fun _ _ _ _ => completes_blockReceived_last, fun _ _ => completes_cwtExpiry, fun _ _ _ => completes_bwtExpiry_raw,
    fun _ _ => completes_bwtExpiry_resynch, fun _ _ => completes_wtExpiry, fun _ _ _ => completes_cardTimeLimit⟩

end Machine
end Sys2Proof
end

section
/-! PPS, clock stop and resume, and the divider (chapter 15). -/
namespace Sys2Proof
namespace Machine

set_option Elab.async false

open Safety

/-! ### PPS and missing characters -/

theorem completes_pps {k : Nat} {r : Running} {s : State} (h : toBegin s k [0x06] = some r) (hst : (slotGet s k).st = .ready) :
    Completes (exec (.pps k) s) fun t =>
      SlotIs k { slotGet s k with
        st := .busy, line := { mode := .pps, tx := ppsRequest r.param }, run := some { r with begun := true, beganAt := s.sys.tick } } s t := by
  have hexec : exec (.pps k) s = .next (modSlot k (fun x => { x with
      st := .busy, line := { mode := .pps, tx := ppsRequest r.param } }) (begin_ k s)) := by
    show execPps k s = _
    rw [execPps, h]
    dsimp only
    rw [if_pos hst]
  rw [hexec]
  exact completes_next (slotIs_modSlot (slotIs_begin h) fun _ _ _ => rfl)

theorem completes_ppsCharacterTimeout {k : Nat} {s : State} (hmode : (slotGet s k).line.mode = .pps)
    (hst : (slotGet s k).st = .busy) (htx : (slotGet s k).line.tx = []) (hquiet : heardNow s (slotGet s k) = false) :
    Completes (exec (.ppsCharacterTimeout k) s) fun t => Falls k 8 false (some 0x048) s t ∧ SlotsBut k s t := by
  have hexec : exec (.ppsCharacterTimeout k) s = .next (endFall k 0x048 s) := by
    show execPpsCharacterTimeout k s = _
    unfold execPpsCharacterTimeout
    dsimp only
    rw [if_pos ⟨hmode, hst, htx, hquiet⟩]
    rfl
  have hsession : inSession (slotGet s k) = true := by rw [inSession, hst]
  rw [hexec]
  exact completes_next (falls_endFall hsession)

theorem completes_atrCharacterTimeout {k : Nat} {s : State} (hmode : (slotGet s k).line.mode = .atr)
    (hst : (slotGet s k).st = .atr) (hrx : (slotGet s k).line.rx ≠ []) (hquiet : heardNow s (slotGet s k) = false) :
    Completes (exec (.atrCharacterTimeout k) s) fun t => Falls k 8 false (some 0x046) s t ∧ SlotsBut k s t := by
  have hexec : exec (.atrCharacterTimeout k) s = .next (endFall k 0x046 s) := by
    show execAtrCharacterTimeout k s = _
    unfold execAtrCharacterTimeout
    dsimp only
    rw [if_pos ⟨hmode, hst, hrx, hquiet⟩]
    rfl
  have hsession : inSession (slotGet s k) = true := by rw [inSession, hst]
  rw [hexec]
  exact completes_next (falls_endFall hsession)

/-! ### Clock stop and resume -/

theorem completes_clockStop {k : Nat} {r : Running} {s : State} (h : toBegin s k [0x07] = some r) (hst : (slotGet s k).st = .ready) :
    Completes (exec (.clockStop k) s) fun t =>
      SlotIs k { slotGet s k with
        st := .busy, line := { stopWait := some (bitAt r.param 0) }, run := some { r with begun := true, beganAt := s.sys.tick } } s t := by
  have hexec : exec (.clockStop k) s = .next (modSlot k (fun x => { x with
      st := .busy, line := { stopWait := some (bitAt r.param 0) } }) (begin_ k s)) := by
    show execClockStop k s = _
    rw [execClockStop, h]
    dsimp only
    rw [if_pos hst]
  rw [hexec]
  exact completes_next (slotIs_modSlot (slotIs_begin h) fun _ _ _ => rfl)

/-- The slot with its clock stopped at a level. -/
def clockStopped (high : Bool) (x : Slot) : Slot := { x with
  st := .asleep, pins := { x.pins with clkRun := false, clkHigh := high }, ch := { x.ch with stopped := true } }

theorem completes_clockStopIdleReached {k : Nat} {high : Bool} {r : Running} {s : State}
    (hwait : (slotGet s k).line.stopWait = some high) (hst : (slotGet s k).st = .busy) (hrun : (slotGet s k).run = some r) :
    Completes (exec (.clockStopIdleReached k) s) fun t =>
      (slotGet t k).st = .asleep ∧
      (slotGet t k).pins = { (slotGet s k).pins with clkRun := false, clkHigh := high } ∧
      (slotGet t k).ch = { (slotGet s k).ch with stopped := true } ∧ RunEnds k r 0 s t ∧ SlotsBut k s t := by
  have hexec : exec (.clockStopIdleReached k) s =
      .next (endRun k 0 [] 0 (traceAdd k 5 (bit high) (modSlot k (clockStopped high) s))) := by
    show execClockStopIdleReached k s = _
    rw [execClockStopIdleReached]
    dsimp only
    rw [hwait]
    dsimp only
    rw [if_pos hst]
    rfl
  have hstopped := slotIs_traceAdd (slotIs_modSlot (slotIs_refl k s) (f := clockStopped high) fun _ _ _ => rfl) 5 (bit high)
  have hrun' := (slotIs_field hstopped Slot.run).trans hrun
  have hself := slotGet_endRun_self hrun' 0 [] 0
  rw [hexec]
  refine completes_next ⟨?_, ?_, ?_, runEnds_of_slotIs hstopped (runEnds_endRun hrun' 0), slotIs_but hstopped (slotsBut_endRun _ _ _ _ _)⟩
  · rw [hself]
    exact slotIs_field hstopped Slot.st
  · rw [hself]
    exact slotIs_field hstopped Slot.pins
  · rw [hself]
    exact slotIs_field hstopped Slot.ch

theorem completes_clockResume {k : Nat} {r : Running} {s : State} (h : toBegin s k [0x08] = some r) (hst : (slotGet s k).st = .asleep) :
    Completes (exec (.clockResume k) s) fun t =>
      SlotIs k { slotGet s k with
        st := .busy, pins := { (slotGet s k).pins with clkRun := true, clkHigh := false }
        ch := { (slotGet s k).ch with stopped := false }, run := some { r with begun := true, beganAt := s.sys.tick } } s t := by
  have hexec : exec (.clockResume k) s = .next (traceAdd k 5 2 (modSlot k (fun x => { x with
      st := .busy, pins := { x.pins with clkRun := true, clkHigh := false }, ch := { x.ch with stopped := false } })
      (begin_ k s))) := by
    show execClockResume k s = _
    rw [execClockResume, h]
    dsimp only
    rw [if_pos hst]
  rw [hexec]
  exact completes_next (slotIs_traceAdd (slotIs_modSlot (slotIs_begin h) fun _ _ _ => rfl) 5 2)

theorem completes_clockResumeSettled {k : Nat} {r : Running} {s : State} (hrun : (slotGet s k).run = some r)
    (hop : r.opcode = 0x08) (hbegun : r.begun = true) (hst : (slotGet s k).st = .busy) :
    Completes (exec (.clockResumeSettled k) s) fun t =>
      (slotGet t k).st = .ready ∧ RunEnds k r 0 s t ∧ SlotsBut k s t := by
  have hexec : exec (.clockResumeSettled k) s = .next (endReady k 0 [] 0 s) := by
    show execClockResumeSettled k s = _
    rw [execClockResumeSettled, hrun]
    dsimp only
    rw [if_pos ⟨hop, hbegun, hst⟩]
  have hready := slotIs_modSlot (slotIs_refl k s) (f := fun x => { x with st := .ready }) fun _ _ _ => rfl
  have hself := slotGet_endReady (c := 0) (l := []) (n := 0) hrun
  rw [hexec]
  exact completes_next ⟨by rw [hself], runEnds_of_slotIs hready (runEnds_endRun ((slotIs_field hready Slot.run).trans hrun) 0),
    slotsBut_endReady _ _ _ _ _⟩

/-! ### SLT_DIV -/

theorem faultWordAt_div (p : Port) : faultWordAt p 0x220 = none := by cases p <;> decide

theorem emptyShadow_of_none {p : Port} {g : Nat} {s : State} (h : (portGet s p).shadow = none) : emptyShadow p g s = s := by
  have hsame : { portGet s p with shadow := none } = portGet s p := by rw [← h]
  have hset : ∀ x : PerPort HostPort, perPortSet x p (perPortGet x p) = x := by
    intro x
    cases p <;> rfl
  unfold emptyShadow modPort
  rw [show perPortGet s.ports p = portGet s p from rfl]
  simp only [h]
  rw [hsame, show portGet s p = perPortGet s.ports p from rfl, hset]

theorem committedDiv_writeSeen (p : Port) (a v n : Nat) (s : State) : committedDiv (writeSeen p a v s) p n = committedDiv s p n := by
  cases p <;> rfl

theorem divRefused_of_slots {p : Port} {id : Nat} {s t : State} (hslots : t.slots = s.slots) (hclaims : t.mor = s.mor)
    (htick : t.sys = s.sys) : divRefused t p id = divRefused s p id := by
  unfold divRefused claimOf stopsNow slotGet
  rw [hslots, hclaims, htick]

theorem writeOwn_div (p : Port) (v : Nat) (s : State) : writeOwn p 0x220 v s = commitDiv p v s := rfl

theorem completes_sltDivCommit {p : Port} {data : Word} {s : State} (h : WriteAdmitted s p 0x220)
    (hlocal : (portGet s p).sltSel < 4) (hkind : (slotGet s (portGet s p).sltSel).cfg.kind = .iso)
    (hclaim : claimOf s (portGet s p).sltSel ≠ some p.other)
    (hst : (slotGet s (portGet s p).sltSel).st = .ready ∨ (slotGet s (portGet s p).sltSel).st = .asleep)
    (hshadow : (portGet s p).shadow = none) (hrange : inRange (committedDiv s p data.toNat) 40 65535 = true) :
    Completes (exec (.sltDivCommit p data) s) fun t =>
      let k := (portGet s p).sltSel
      let x := slotGet s k
      let n := committedDiv s p data.toNat
      slotGet t k = { x with ch := { x.ch with div := n, renew := true } } ∧
      SlotsBut k s t ∧ PortsAnswer s t p ∧ (portGet t p).owed.stat = .ok ∧
      t = { s with slots := t.slots, ports := t.ports } := by
  dsimp only
  set u := writeSeen p 0x220 data.toNat s with hu
  have hsel : (portGet u p).sltSel = (portGet s p).sltSel := by rw [hu, portGet_writeSeen]
  have hshadow' : (portGet u p).shadow = none := by
    rw [hu, portGet_writeSeen]
    exact hshadow
  have hdiv : committedDiv u p data.toNat = committedDiv s p data.toNat := committedDiv_writeSeen ..
  have hlocal' : isLocal (portGet s p).sltSel = true := decide_eq_true hlocal
  have hopen : divRefused u p (portGet s p).sltSel = false := by
    have hsame : divRefused u p (portGet s p).sltSel = divRefused s p (portGet s p).sltSel := divRefused_of_slots rfl rfl rfl
    rw [hsame]
    unfold divRefused
    dsimp only
    rw [hlocal', decide_eq_false (not_not_intro hkind), decide_eq_false hclaim]
    rcases hst with he | he <;> simp [he]
  have hdeclared : declaredSlot u (portGet s p).sltSel = true := by
    rw [declaredSlot, hlocal']
    rfl
  have hown : writeOwn p 0x220 data.toNat u = (0, setDivider (portGet s p).sltSel (committedDiv s p data.toNat) u) := by
    rw [writeOwn_div]
    unfold commitDiv
    dsimp only
    rw [emptyShadow_of_none hshadow', hsel, hdiv, hrange, hdeclared, hopen]
    rfl
  have hdivider : ∀ k n, k < 4 → setDivider k n u = modSlot k (fun x => { x with
      ch := { x.ch with div := n, renew := true } }) u := fun k n hk => traceAdd_local hk ..
  rw [hdivider _ _ hlocal] at hown
  have hexec : exec (.sltDivCommit p data) s = .next (wordFrame p 0x220 data s) := rfl
  rw [hexec, wordFrame_ok h (by decide) (faultWordAt_div p) (by decide) (by decide) hown]
  generalize committedDiv s p data.toNat = n at *
  generalize (portGet s p).sltSel = k at *
  set v := modSlot k (fun x => { x with ch := { x.ch with div := n, renew := true } }) u with hv
  have hports : v.ports = u.ports := rfl
  have hanswer := answering_writeSeen h.1.1 hports
  have hslot : ∀ j, slotGet (respond p { stat := .ok, addr := 0x220, data := shownWord p 0x220 v } v) j =
      if j = k then { slotGet s k with ch := { (slotGet s k).ch with div := n, renew := true } } else slotGet s j := by
    intro j
    have hmod : slotGet v j = _ := slotGet_modSlot k j _ u
    rw [respond_frame]
    exact hmod
  refine completes_next ⟨?_, ?_, portsAnswer_wroteOk (a := 0x220) hports, congrArg Response.stat (owes_wroteOk hanswer 0x220), ?_⟩
  · rw [hslot, if_pos rfl]
  · intro j hj
    rw [hslot, if_neg hj]
  · rw [respond_frame]
    rfl

/-- The emptied shadow holds no word of the divider. -/
theorem shadow_emptyShadow (p : Port) (g : Nat) (s : State) : ∀ x, (portGet (emptyShadow p g s) p).shadow = some x → x.base ≠ g := by
  intro x hx
  rw [emptyShadow, portGet_modPort_same] at hx
  cases hold : (portGet s p).shadow with
  | none => simp [hold] at hx
  | some y =>
    by_cases hy : y.base = g
    · simp [hold, hy] at hx
    · simp only [hold, hy, if_false, Option.some.injEq] at hx
      rwa [← hx]

theorem completes_sltDivCommit_refused {p : Port} {data : Word} {s : State} (h : WriteAdmitted s p 0x220)
    (hbad : inRange (committedDiv s p data.toNat) 40 65535 = false ∨ divRefused s p (portGet s p).sltSel = true) :
    Completes (exec (.sltDivCommit p data) s) fun t =>
      Refused s t p 0x220 (if inRange (committedDiv s p data.toNat) 40 65535 then 9 else 2) ∧
      (∀ x, (portGet t p).shadow = some x → x.base ≠ 0x220) ∧
      t = { s with ports := t.ports } := by
  set u := emptyShadow p 0x220 (writeSeen p 0x220 data.toNat s) with hu
  have hdiv : committedDiv (writeSeen p 0x220 data.toNat s) p data.toNat = committedDiv s p data.toNat := committedDiv_writeSeen ..
  have hsel : (portGet (writeSeen p 0x220 data.toNat s) p).sltSel = (portGet s p).sltSel := by rw [portGet_writeSeen]
  have hown : ∃ n, (if inRange (committedDiv s p data.toNat) 40 65535 then 9 else 2) = n + 1 ∧
      writeOwn p 0x220 data.toNat (writeSeen p 0x220 data.toNat s) = (n + 1, u) := by
    rw [writeOwn_div]
    unfold commitDiv
    dsimp only
    rw [← hu, hdiv, hsel]
    cases hrange : inRange (committedDiv s p data.toNat) 40 65535 with
    | false => exact ⟨1, rfl, rfl⟩
    | true =>
      have hrefused : divRefused u p (portGet s p).sltSel = true := by
        have hsame : divRefused u p (portGet s p).sltSel = divRefused s p (portGet s p).sltSel :=
          divRefused_of_slots rfl rfl rfl
        rw [hsame]
        exact hbad.resolve_left (by rw [hrange]; decide)
      exact ⟨8, rfl, by rw [hrefused, Bool.or_true]; rfl⟩
  obtain ⟨n, hn, hown⟩ := hown
  have hanswer : (portGet u p).answering = true := by
    have := answering_of_heard h.1.1
    cases p <;> exact this
  have hother : portGet u p.other = portGet s p.other := by cases p <;> rfl
  have hexec : exec (.sltDivCommit p data) s = .next (wordFrame p 0x220 data s) := rfl
  rw [hexec, wordFrame_refused h (by decide) (faultWordAt_div p) hown, turnDown_refused, hn]
  refine completes_next ⟨refused_wroteRefused hanswer hother .., ?_, ?_⟩
  · intro x hx
    rw [wroteRefused, portGet_respond, portGet_noteRefusal, if_pos rfl] at hx
    exact shadow_emptyShadow _ _ _ x hx
  · rw [wroteRefused_frame]
    rfl

/-! ### The start edge that follows -/

theorem completes_characterSend_renew {k : Nat} {b : Byte} {rest : List Byte} {s : State}
    (htx : (slotGet s k).line.tx = b :: rest) (hrenew : (slotGet s k).ch.renew = true) :
    Completes (exec (.characterSend k true false) s) fun t =>
      let c := (slotGet s k).ch
      (slotGet t k).ch = { c with etu := etuOf c.fi c.di c.div, renew := false } ∧
      (slotGet t k).tr.bwt = min 0xFFFFF (bwtTicks (etuOf c.fi c.di c.div) (slotGet s k).tr.bwi c.div / 80000) := by
  have hedge : startEdge (slotGet s k) = retime (slotGet s k).ch.fi (slotGet s k).ch.di (slotGet s k).ch.div (slotGet s k) :=
    if_pos hrenew
  obtain ⟨t, ht, hslot⟩ := completes_characterSend htx (Or.inl rfl)
  rw [hedge] at hslot
  exact ⟨t, ht, slotIs_field hslot Slot.ch, slotIs_field hslot fun y => y.tr.bwt⟩

/-- Settles O42. -/
theorem ppsAndClock : Obligations.PpsAndClock :=
  ⟨fun _ _ _ => completes_pps, fun _ _ => completes_ppsCharacterTimeout, fun _ _ => completes_atrCharacterTimeout,
    fun _ _ _ => completes_clockStop, fun _ _ _ _ => completes_clockStopIdleReached, fun _ _ _ => completes_clockResume,
    fun _ _ _ => completes_clockResumeSettled, fun _ _ _ h _ => completes_sltDivCommit h,
    fun _ _ _ _ => completes_characterSend_renew, fun _ _ _ h _ => completes_sltDivCommit_refused h⟩

end Machine
end Sys2Proof
end

section
/-! Memory cards in SPI mode (chapter 17). -/
namespace Sys2Proof
namespace Machine

set_option Elab.async false

open Safety

/-! ### The engine's operations on its slot -/

section Calculus
variable {k : Nat} {x : Slot} {s t : State} (h : SlotIs k x s t)
include h

theorem slotIs_modSd (f : Sd → Sd) : SlotIs k { x with sd := f x.sd } s (modSd k f t) := slotIs_modSlot h fun _ _ _ => rfl

theorem slotIs_takeBytes (n : Nat) (l : List Byte) : SlotIs k x s (takeBytes k n l t) := by
  induction n generalizing l t with
  | zero => exact h
  | succ n ih =>
    unfold takeBytes
    split
    · exact h
    · exact ih (slotIs_takeInput h _) _

/-- The order of a slot whose content is known begins. -/
theorem slotIs_begin_of {r : Running} (hrun : x.run = some r) : SlotIs k (begunAt s.sys.tick r x) s (begin_ k t) := by
  have hmod := slotIs_modSlot h (f := fun x => { x with
    run := x.run.map (fun r => { r with begun := true, beganAt := s.sys.tick }) }) fun _ _ _ => rfl
  have hsame : { x with run := x.run.map (fun r => { r with begun := true, beganAt := s.sys.tick }) } = begunAt s.sys.tick r x := by
    rw [hrun]
    rfl
  rw [hsame] at hmod
  unfold begin_
  rw [slotIs_sys h]
  exact slotIs_traceAdd hmod ..

theorem closeRead_of_closed (hrun : x.sd.run = false) : closeRead k t = t := by
  have hrun' : (slotGet t k).sd.run = false := (slotIs_field h fun y => y.sd.run).trans hrun
  rw [closeRead, hrun', if_neg Bool.false_ne_true]

end Calculus

/-- The slot with its card engine. -/
def cardIs (d : Sd) (x : Slot) : Slot := { x with sd := d }

theorem slotIs_card {k : Nat} {d : Sd} {x : Slot} {s t : State} (h : SlotIs k (cardIs d x) s t) (f : Sd → Sd) :
    SlotIs k (cardIs (f d) x) s (modSd k f t) := slotIs_modSd h f

theorem toBegin_congr {k : Nat} {x : Slot} {ops : List Nat} {s t : State} (h : SlotIs k x s t) (hrun : x.run = (slotGet s k).run) :
    toBegin t k ops = toBegin s k ops := by
  have hrun' : (slotGet t k).run = (slotGet s k).run := (slotIs_field h Slot.run).trans hrun
  rw [toBegin, hrun', toBegin]

theorem chainBytes_slots (sl : Tbl Slot) (o : Order) (s : State) (i n : Nat) :
    chainBytes { s with slots := sl } o i n = chainBytes s o i n := by
  induction n generalizing i with
  | zero => rfl
  | succ n ih => exact congrArg (chainByte s o i :: ·) (ih _)

theorem nextInRun_of_slotIs {k : Nat} {x : Slot} {s t : State} (h : SlotIs k x s t) (op block oid : Nat) :
    nextInRun t k op block oid = nextInRun s k op block oid := by
  obtain ⟨sl, rfl⟩ : ∃ sl, t = { s with slots := sl } := ⟨_, h.2.2.2⟩
  unfold nextInRun
  simp only [chainBytes_slots]

/-- What an order brings is as it was once the recorder took the bytes. -/
theorem runBytes_of_slotIs {k : Nat} {s t : State} (h : SlotIs k (slotGet s k) s t) (r : Running) :
    runBytes t k r = runBytes s k r := by
  have hbuf : (slotGet t k).buf = (slotGet s k).buf := slotIs_field h Slot.buf
  unfold runBytes
  rw [hbuf]
  split
  · obtain ⟨sl, rfl⟩ : ∃ sl, t = { s with slots := sl } := ⟨_, h.2.2.2⟩
    simp only [chainBytes_slots]
    rfl
  · rfl

/-! ### The ends of an order at a card -/

/-- Returns of a run's orders keep every slot and the tick. -/
theorem endRunDone_keeps (k c n : Nat) (s : State) :
    (endRunDone k c n s).slots =
      (modSd k (fun d => { d with runDone := [], run := false, runWrite := false, runCount := 0 }) s).slots ∧
    (endRunDone k c n s).sys = s.sys ∧ (endRunDone k c n s).sat = s.sat := by
  unfold endRunDone
  refine ⟨?_, ?_, ?_⟩
  · exact foldl_keeps (fun s => s.slots) (fun u i => endOrderId_slots ..) _ _
  · exact foldl_keeps (fun s => s.sys) (fun u i => endOrderId_sys ..) _ _
  · exact foldl_keeps (fun s => s.sat) (fun u i => endOrderId_sat ..) _ _

/-- The card engine once the orders of its run returned. -/
def runClosed (d : Sd) : Sd := { d with runDone := [], run := false, runWrite := false, runCount := 0 }

theorem slotGet_endRunDone (k c n : Nat) (s : State) (j : Nat) : slotGet (endRunDone k c n s) j =
    if j = k then { slotGet s k with sd := runClosed (slotGet s k).sd } else slotGet s j := by
  rw [slotGet, (endRunDone_keeps k c n s).1]
  exact slotGet_modSlot ..

/-- A deactivation keeps the card engine. -/
theorem endFall_sd {k code : Nat} {s : State} (h : inSession (slotGet s k) = true) :
    (slotGet (endFall k code s) k).sd = (slotGet s k).sd := by
  have hslot := (traced_traceAll k [(3, 7), (3, 8), (3, 9), (3, 10)] (fallNormal k code s)).1
  rw [fallNormal, slotGet_fallSlot, if_pos rfl, slotFall, if_pos h] at hslot
  rw [endFall, fallNormal, hslot]

/-- The card engine once its card fell. -/
def cardFallen (last : Nat) (d : Sd) : Sd := runClosed { d with last := last, phase := .idle, writing := false }

theorem falls_sdFall {k last code : Nat} {x : Slot} {s t : State} (h : SlotIs k x s t) (hsession : inSession x = true)
    (hrun : x.run.map Running.oid = ((slotGet s k).run).map Running.oid) :
    Falls k 8 false (some code) s (sdFall k last code t) ∧ (slotGet (sdFall k last code t) k).sd = cardFallen last x.sd ∧
    SlotsBut k s (sdFall k last code t) := by
  have hmarked := slotIs_modSd h fun d => { d with last := last, phase := .idle, writing := false }
  unfold sdFall
  dsimp only
  set u := modSd k (fun d => { d with last := last, phase := .idle, writing := false }) t
  set v := endRunDone k 0 512 u with hv
  have hself : slotGet v k = { slotGet u k with sd := runClosed (slotGet u k).sd } := by
    rw [hv, slotGet_endRunDone, if_pos rfl]
  have hsession' : inSession (slotGet v k) = true := by
    rw [hself]
    exact (slotIs_field hmarked inSession).trans hsession
  have htick : v.sys.tick = s.sys.tick := by
    rw [hv, (endRunDone_keeps k 0 512 u).2.1, slotIs_sys hmarked]
  have hoid : ((slotGet v k).run).map Running.oid = ((slotGet s k).run).map Running.oid := by
    rw [hself, ← hrun]
    exact congrArg (Option.map Running.oid) (slotIs_field hmarked Slot.run)
  obtain ⟨⟨hst, hcause, hem, hstatus, hpins, hsince, hrun'⟩, hbut⟩ := falls_endFall (code := code) hsession'
  refine ⟨⟨hst, hcause, hem, hstatus, hpins, hsince.trans htick, hrun'.trans hoid⟩, ?_, fun j hj => ?_⟩
  · rw [endFall_sd hsession', hself]
    exact congrArg runClosed (slotIs_field hmarked Slot.sd)
  · rw [hbut j hj, hv, slotGet_endRunDone, if_neg hj]
    exact hmarked.2.2.1 j hj

/-- An order that ends without data. -/
theorem endRunLen_local {k : Nat} (hk : k < 4) {r : Running} {s : State} (h : (slotGet s k).run = some r) (c n : Nat) :
    endRunLen k c n s = endOrderId r.oid c n (modSlot k runFreed s) := by
  rw [endRunLen, h]
  exact if_pos (by simpa [isLocal] using hk)

theorem traced_endRunLen {k : Nat} {r : Running} {s : State} (h : (slotGet s k).run = some r) (c n : Nat) :
    Traced k (modSlot k runFreed s) (endRunLen k c n s) := by
  unfold endRunLen
  rw [h]
  dsimp only
  refine traced_ite (traced_of_slots ?_) (traced_satDone ..)
  rw [endOrderId_slots]
  rfl

theorem slotGet_endRunLen {k : Nat} {r : Running} {s : State} (h : (slotGet s k).run = some r) (c n : Nat) :
    slotGet (endRunLen k c n s) k = { runFreed (slotGet s k) with trace := (slotGet (endRunLen k c n s) k).trace } := by
  have h' := (traced_endRunLen h c n).1
  rwa [slotGet_modSlot, if_pos rfl] at h'

theorem slotsBut_endRunLen {k : Nat} {r : Running} {s : State} (h : (slotGet s k).run = some r) (c n : Nat) :
    SlotsBut k s (endRunLen k c n s) := fun j hj => by
  rw [(traced_endRunLen h c n).2 j hj, slotGet_modSlot, if_neg hj]

theorem runEnds_endRunLen {k : Nat} {r : Running} {s : State} (h : (slotGet s k).run = some r) (c : Nat) :
    RunEnds k r c s (endRunLen k c 0 s) where
  free := by rw [slotGet_endRunLen h]; rfl
  hub hk o ho := by
    rw [endRunLen_local (by simpa [isLocal] using hk) h]
    exact orderEnds_endOrderId (s := modSlot k runFreed s) ho c 0
  done hk := by
    have hsat : endRunLen k c 0 s = satDone k r c [] 0 (modSlot k runFreed s) := by
      rw [endRunLen, h]
      exact if_neg (by rw [hk]; exact Bool.false_ne_true)
    have hdone : doneOf k r c [] 0 = { kind := 0x01, slot := k % 4, payload := arg2 r.oid ++ [byte c, 0, 0, 0] } := by
      simp [doneOf, natLe]
    rw [hsat, ← hdone]
    exact sends_satDone ..

/-- The order of a local slot ends with data that its parcels hold. -/
theorem orderEnds_endReady {k : Nat} (hk : k < 4) {x : Slot} {r : Running} {o : Order} {l : List Byte} {s t : State}
    (h : SlotIs k x s t) (hrun : x.run = some r) (ho : orderGet s r.oid = some o) (hroom : l.length ≤ orderRoom o) :
    OrderEnds o 0 (endReady k 0 l l.length t) := by
  have hready := slotIs_modSlot h (f := fun x => { x with st := .ready }) fun _ _ _ => rfl
  have hrun' := (slotIs_field hready Slot.run).trans hrun
  rw [endReady, endRun_local hk hrun']
  have hfreed := slotIs_modSlot hready (f := runFreed) fun _ _ _ => rfl
  generalize modSlot k runFreed (modSlot k (fun x => { x with st := .ready }) t) = u at *
  have ho' : orderGet u r.oid = some o := by
    rw [orderGet, hfreed.2.2.2]
    exact ho
  exact orderEnds_endOrderDataId ho' 0 _ hroom (hroom.trans (orderRoom_le o))

/-! ### Responses -/

theorem sdR1_ok {k : Nat} {init : Bool} {v : Byte} {rx rest : List Byte} (go : List Byte → State → State) (s : State)
    (hreply : sdReply 8 rx = some (v, rest)) (hgood : (if init then r1BadInit v else r1Bad v) = false) :
    sdR1 k init rx go s = go rest (modSd k (fun d => { d with r1 := v.toNat }) s) := by
  unfold sdR1
  rw [hreply]
  cases init with
  | false =>
    have hgood' : r1Bad v = false := hgood
    simp [hgood']
  | true =>
    have hgood' : r1BadInit v = false := hgood
    simp [hgood']

theorem sdR1_none {k : Nat} {init : Bool} {rx : List Byte} (go : List Byte → State → State) (s : State)
    (hreply : sdReply 8 rx = none) : sdR1 k init rx go s = sdFall k 5 0x049 s := by
  unfold sdR1
  rw [hreply]

theorem sdTake_good {k n : Nat} {init : Bool} {rx l : List Byte} (again : List Byte) (reread : State → State)
    (go : List Byte → State → State) (s : State) (hblock : sdBlock n rx = .good l) :
    sdTake k n init rx again reread go s = go l s := by
  unfold sdTake
  rw [hblock]

theorem sdTake_again {k n : Nat} {init : Bool} {u : Byte} {rx again more l : List Byte} (reread : State → State)
    (go : List Byte → State → State) (s : State) (hblock : sdBlock n rx = .mismatch) (hreply : sdReply 8 again = some (u, more))
    (hgood : (if init then r1BadInit u else r1Bad u) = false) (hmore : sdBlock n more = .good l) :
    sdTake k n init rx again reread go s = go l (modSd k (fun d => { d with r1 := u.toNat })
      (reread (modSd k (fun d => { d with crc := satInc d.crc, last := 4 }) s))) := by
  unfold sdTake
  rw [hblock]
  dsimp only
  rw [sdR1_ok _ _ hreply hgood, hmore]

theorem sdBytes_length (n : Nat) (l : List Byte) : (sdBytes n l).length = n := by
  rw [sdBytes, List.length_take, List.length_append, List.length_replicate]
  omega

theorem sdBlock_length {n : Nat} {rx l : List Byte} (h : sdBlock n rx = .good l) : l.length = n := by
  induction rx with
  | nil => cases h
  | cons b rx ih =>
    unfold sdBlock at h
    dsimp only at h
    split at h
    · split at h
      · rw [← SdBlock.good.inj h, sdBytes_length]
      · cases h
    · split at h
      · cases h
      · exact ih h

/-! ### SD_INIT -/

/-- The slot as SD_INIT has powered it, with its card engine. -/
def cardPowered (d : Sd) (x : Slot) : Slot := { x with
  st := .rising, cls := 0, tripInForce := x.cfg.trip, slowSeen := false
  pins := { vccOn := true, rst := true, clkRun := true, ioLow := false, aux1 := true }
  sd := d, ch := { x.ch with div := 2000 } }

theorem slotIs_sdPower {k : Nat} {x : Slot} {s t : State} (h : SlotIs k x s t) (hdiv : sdDivOf t k = sdDivOf s k) :
    SlotIs k (cardPowered { div := sdDivOf s k } x) s (sdPower k t) := by
  unfold sdPower
  rw [hdiv]
  exact slotIs_traceAll (slotIs_modSlot h (f := cardPowered { div := sdDivOf s k }) fun _ _ _ => rfl) _

/-- CMD0 goes out until one of its first three responses is 0x01. -/
theorem sdReset_found {k i : Nat} {rest : List Byte} {go : State → State} {x : Slot} {s : State} (n : Nat) (l : List (List Byte))
    (hi : i < n) (hbad : (l.take i).all (fun l => (sdReply 8 l).any (fun w => decide (w.1 ≠ 0x01))) = true)
    (hgood : sdReply 8 (l.getD i []) = some (0x01, rest)) {d : Sd} {t : State} (h : SlotIs k (cardPowered d x) s t) :
    ∃ u, sdReset k go n l t = go u ∧ SlotIs k (cardPowered { d with
      r1 := 1, sent := d.sent ++ List.replicate (i + 1) (sdCommand 0 0) } x) s u := by
  induction i generalizing n l d t with
  | zero =>
    obtain ⟨n, rfl⟩ : ∃ m, n = m + 1 := ⟨n - 1, by omega⟩
    have hhead : sdReply 8 (l.headD []) = some (0x01, rest) := by cases l <;> exact hgood
    refine ⟨_, ?_, slotIs_modSd (slotIs_modSd h fun d => { d with sent := d.sent ++ [sdCommand 0 0] }) fun d => { d with r1 := 1 }⟩
    unfold sdReset
    dsimp only
    rw [hhead]
    exact if_pos rfl
  | succ i ih =>
    obtain ⟨n, rfl⟩ : ∃ m, n = m + 1 := ⟨n - 1, by omega⟩
    cases l with
    | nil => cases hgood
    | cons b l =>
      rw [List.take_succ_cons, List.all_cons, Bool.and_eq_true] at hbad
      obtain ⟨w, hw, hne⟩ := (Option.any_eq_true _ _).mp hbad.1
      rw [decide_eq_true_eq] at hne
      have hsent := slotIs_modSd (slotIs_modSd h fun d => { d with sent := d.sent ++ [sdCommand 0 0] })
        fun d => { d with r1 := w.1.toNat }
      obtain ⟨u, hu, hslot⟩ := ih n l (by omega) hbad.2 hgood (d := { d with
        sent := d.sent ++ [sdCommand 0 0], r1 := w.1.toNat }) hsent
      refine ⟨u, ?_, ?_⟩
      · rw [← hu]
        conv_lhs => unfold sdReset
        dsimp only [List.headD_cons]
        rw [hw]
        exact if_neg hne
      · rw [List.replicate_succ, ← List.singleton_append, ← List.append_assoc]
        exact hslot

/-- CMD0 goes out again and again until a response is missing, or three are not 0x01. -/
theorem sdReset_lost {k i : Nat} {go : State → State} {x : Slot} {s : State} (n : Nat) (l : List (List Byte)) (hi : i ≤ n)
    (hbad : (l.take i).all (fun l => (sdReply 8 l).any (fun w => decide (w.1 ≠ 0x01))) = true)
    (hend : (i = n ∧ n ≤ l.length) ∨ (i < n ∧ sdReply 8 (l.getD i []) = none)) {d : Sd} {t : State}
    (h : SlotIs k (cardPowered d x) s t) :
    ∃ u d', sdReset k go n l t = sdFall k (if i = n then 1 else 5) (if i = n then 0x04D else 0x049) u ∧
      SlotIs k (cardPowered d' x) s u := by
  induction n generalizing i l d t with
  | zero =>
    obtain rfl : i = 0 := by omega
    exact ⟨t, d, rfl, h⟩
  | succ n ih =>
    have hsent := slotIs_modSd h fun d => { d with sent := d.sent ++ [sdCommand 0 0] }
    by_cases hhead : sdReply 8 (l.headD []) = none
    · have hfew : i ≠ n + 1 := by
        rintro rfl
        cases l with
        | nil => simp at hend
        | cons b l =>
          rw [List.take_succ_cons, List.all_cons, show sdReply 8 b = none from hhead] at hbad
          cases hbad
      refine ⟨_, _, ?_, hsent⟩
      rw [if_neg hfew, if_neg hfew]
      unfold sdReset
      dsimp only
      rw [hhead]
      rfl
    · obtain ⟨w, hw⟩ := Option.ne_none_iff_exists'.mp hhead
      cases i with
      | zero =>
        rcases hend with ⟨he, -⟩ | ⟨-, hnone⟩
        · cases he
        · cases l <;> exact absurd hnone hhead
      | succ i =>
        cases l with
        | nil => exact absurd rfl hhead
        | cons b l =>
          rw [List.take_succ_cons, List.all_cons, Bool.and_eq_true] at hbad
          have hw' : sdReply 8 b = some w := hw
          have hne : w.1 ≠ 0x01 := by
            have := hbad.1
            rw [hw'] at this
            exact of_decide_eq_true this
          have hend' : (i = n ∧ n ≤ l.length) ∨ (i < n ∧ sdReply 8 (l.getD i []) = none) := by
            rw [List.length_cons] at hend
            exact hend.imp (by omega) (fun ⟨hlt, hnone⟩ => ⟨by omega, hnone⟩)
          obtain ⟨u, d', hu, hslot⟩ := ih l (by omega) hbad.2 hend' (d := { d with
            sent := d.sent ++ [sdCommand 0 0], r1 := w.1.toNat }) (slotIs_modSd hsent fun d => { d with r1 := w.1.toNat })
          refine ⟨u, d', ?_, hslot⟩
          simp only [Nat.add_right_cancel_iff]
          rw [← hu]
          conv_lhs => unfold sdReset
          dsimp only [List.headD_cons]
          rw [hw']
          exact if_neg hne

theorem satPowers_congr {k : Nat} {x : Slot} {s t : State} (h : SlotIs k x s t) : satPowers t k = satPowers s k := by
  obtain ⟨sl, rfl⟩ : ∃ sl, t = { s with slots := sl } := ⟨_, h.2.2.2⟩
  rfl

theorem sdDivOf_congr {k : Nat} {x : Slot} {s t : State} (h : SlotIs k x s t) : sdDivOf t k = sdDivOf s k := by
  obtain ⟨sl, rfl⟩ : ∃ sl, t = { s with slots := sl } := ⟨_, h.2.2.2⟩
  rfl

section Init
variable {k : Nat} {r : Running} {s : State} (h : toBegin s k [0x09] = some r) (hst : (slotGet s k).st = .present)
  (hsat : satPowers s k = true) (hsupply : noSupply s k = false)
include h hst hsat hsupply

/-- SD_INIT powers the card and resets it. -/
theorem exec_sdInit (cmd0 : List (List Byte)) (cmd8 : List Byte) :
    ∃ t, exec (.sdInit k cmd0 cmd8) s = .next (sdReset k (sdVersion k cmd8) 3 cmd0 t) ∧
      SlotIs k (cardPowered { div := sdDivOf s k } (begunAt s.sys.tick r (slotGet s k))) s t := by
  have htaken := slotIs_takeBytes (slotIs_refl k s) 64 (cmd0.flatten ++ cmd8)
  have hbegun := slotIs_begin_of htaken (toBegin_eq_some h).1
  refine ⟨_, ?_, slotIs_sdPower hbegun (sdDivOf_congr hbegun)⟩
  show execSdInit k cmd0 cmd8 s = _
  unfold execSdInit
  rw [h]
  dsimp only
  have hst' : (slotGet (takeBytes k 64 (cmd0.flatten ++ cmd8) s) k).st = .present := (slotIs_field htaken Slot.st).trans hst
  have hfree : ¬ ((slotGet (takeBytes k 64 (cmd0.flatten ++ cmd8) s) k).st ≠ .present ∨
      satPowers (takeBytes k 64 (cmd0.flatten ++ cmd8) s) k = false) := by
    rw [hst', satPowers_congr htaken, hsat]
    decide
  rw [if_neg hfree, noSupply_congr htaken, hsupply]
  rfl

theorem completes_sdInit {i : Nat} {v : Byte} {rest0 rest : List Byte} {cmd0 : List (List Byte)} {cmd8 : List Byte} (hi : i < 3)
    (hbad : (cmd0.take i).all (fun l => (sdReply 8 l).any (fun w => decide (w.1 ≠ 0x01))) = true)
    (hgood : sdReply 8 (cmd0.getD i []) = some (0x01, rest0)) (hreply : sdReply 8 cmd8 = some (v, rest))
    (hversion : v.getLsbD 2 = true ∨
      (r1BadInit v = false ∧ (sdBytes 4 rest).getD 2 0 = 0x01 ∧ (sdBytes 4 rest).getD 3 0 = 0xAA)) :
    Completes (exec (.sdInit k cmd0 cmd8) s) fun t =>
      SlotIs k { slotGet s k with
        st := .rising, cls := 0, tripInForce := (slotGet s k).cfg.trip, slowSeen := false
        pins := { vccOn := true, rst := true, clkRun := true, ioLow := false, aux1 := true }
        sd := { phase := .acmd41, r1 := v.toNat, v2 := !v.getLsbD 2
                arg41 := if v.getLsbD 2 then 0 else 0x40000000, div := sdDivOf s k
                sent := List.replicate (i + 1) (sdCommand 0 0) ++ [sdCommand 8 0x1AA] }
        ch := { (slotGet s k).ch with div := 2000 }, run := some { r with begun := true, beganAt := s.sys.tick } }
        s t := by
  obtain ⟨t, hexec, hpowered⟩ := exec_sdInit h hst hsat hsupply cmd0 cmd8
  obtain ⟨u, hreset, hslot⟩ := sdReset_found (go := sdVersion k cmd8) 3 cmd0 hi hbad hgood hpowered
  have hasked := slotIs_modSd (slotIs_modSd hslot fun d => { d with sent := d.sent ++ [sdCommand 8 0x1AA] })
    fun d => { d with r1 := v.toNat }
  rw [hexec, hreset]
  unfold sdVersion
  dsimp only
  rw [hreply]
  dsimp only
  cases hv1 : v.getLsbD 2 with
  | true =>
    rw [if_pos rfl]
    exact completes_next (slotIs_modSd hasked fun d => { d with v2 := false, arg41 := 0, phase := .acmd41 })
  | false =>
    obtain ⟨hr1, h2, h3⟩ := hversion.resolve_left (by rw [hv1]; exact Bool.false_ne_true)
    rw [if_neg Bool.false_ne_true, hr1, if_neg Bool.false_ne_true, h2, h3, if_neg (by decide)]
    exact completes_next (slotIs_modSd hasked fun d => { d with v2 := true, arg41 := 0x40000000, phase := .acmd41 })

theorem completes_sdInit_lost {i : Nat} {cmd0 : List (List Byte)} {cmd8 : List Byte} (hi : i ≤ 3)
    (hbad : (cmd0.take i).all (fun l => (sdReply 8 l).any (fun w => decide (w.1 ≠ 0x01))) = true)
    (hend : (i = 3 ∧ 3 ≤ cmd0.length) ∨ (i < 3 ∧ sdReply 8 (cmd0.getD i []) = none)) :
    Completes (exec (.sdInit k cmd0 cmd8) s) fun t =>
      Falls k 8 false (some (if i = 3 then 0x04D else 0x049)) s t ∧
      (slotGet t k).sd.last = (if i = 3 then 1 else 5) ∧ SlotsBut k s t := by
  obtain ⟨t, hexec, hpowered⟩ := exec_sdInit h hst hsat hsupply cmd0 cmd8
  obtain ⟨u, d, hreset, hslot⟩ := sdReset_lost (go := sdVersion k cmd8) 3 cmd0 hi hbad hend hpowered
  obtain ⟨hrun, -, -⟩ := toBegin_eq_some h
  have hoid : ((cardPowered d (begunAt s.sys.tick r (slotGet s k))).run).map Running.oid = ((slotGet s k).run).map Running.oid := by
    rw [hrun]
    rfl
  obtain ⟨hfalls, hsd, hbut⟩ := falls_sdFall (last := if i = 3 then 1 else 5) (code := if i = 3 then 0x04D else 0x049) hslot rfl hoid
  rw [hexec, hreset]
  exact completes_next ⟨hfalls, by rw [hsd]; rfl, hbut⟩

end Init

/-! ### SD_ACMD41_POLL -/

/-- A card that is initialised is READY with its divider, and SD_INIT returns OK. -/
theorem ready_sdReady {k : Nat} {x : Slot} {r : Running} {s t : State} (h : SlotIs k x s t) (hrun : x.run = some r) :
    (slotGet (sdReady k t) k).st = .ready ∧ (slotGet (sdReady k t) k).sd = (sdRest x).sd ∧
    (slotGet (sdReady k t) k).ch.div = x.sd.div ∧ RunEnds k r 0 s (sdReady k t) ∧ SlotsBut k s (sdReady k t) := by
  have hdiv : (slotGet t k).sd.div = x.sd.div := slotIs_field h fun y => y.sd.div
  unfold sdReady
  dsimp only
  rw [hdiv]
  have hrest := slotIs_modSlot h (f := fun y => { sdRest y with ch := { y.ch with div := x.sd.div } }) fun _ _ _ => rfl
  generalize modSlot k (fun y => { sdRest y with ch := { y.ch with div := x.sd.div } }) t = z at *
  set z' := if isLocal k then activationDone k z else z with hz'
  have hz : z'.ord = z.ord ∧ ∀ j, slotGet z' j = slotGet z j := by
    rw [hz']
    split
    · exact ⟨rfl, fun _ => rfl⟩
    · exact ⟨rfl, fun _ => rfl⟩
  obtain ⟨hzord, hzslot⟩ := hz
  clear_value z'
  have htr := slotIs_modSlot (slotIs_traceAdd (slotIs_refl k z') 5 4) (f := fun x => { x with st := .ready }) fun _ _ _ => rfl
  have hzrun : (slotGet z' k).run = some r := by
    rw [hzslot, slotIs_field hrest Slot.run]
    exact hrun
  have htrun : (slotGet (traceAdd k 5 4 z') k).run = some r :=
    (slotIs_field (slotIs_traceAdd (slotIs_refl k z') 5 4) Slot.run).trans hzrun
  have hself := slotGet_endReady (c := 0) (l := []) (n := 0) htrun
  have hsd : (slotGet (traceAdd k 5 4 z') k).sd = (sdRest x).sd := by
    rw [slotIs_field (slotIs_traceAdd (slotIs_refl k z') 5 4) Slot.sd, hzslot, slotIs_field hrest Slot.sd]
  have hch : (slotGet (traceAdd k 5 4 z') k).ch.div = x.sd.div := by
    rw [slotIs_field (slotIs_traceAdd (slotIs_refl k z') 5 4) Slot.ch, hzslot, slotIs_field hrest Slot.ch]
  have hends := runEnds_of_slotIs htr (runEnds_endRun ((slotIs_field htr Slot.run).trans hzrun) 0)
  refine ⟨by rw [hself], ?_, ?_, ⟨hends.free, fun hk o ho => hends.hub hk o ?_, hends.done⟩, fun j hj => ?_⟩
  · rw [hself]
    exact hsd
  · rw [hself]
    exact hch
  · rw [orderGet, hzord, hrest.2.2.2]
    exact ho
  · rw [slotsBut_endReady k 0 0 [] _ j hj, slotIs_but (slotIs_refl k z') (slotIs_traceAdd (slotIs_refl k z') 5 4).2.2.1 j hj, hzslot]
    exact hrest.2.2.1 j hj

section Poll
variable {k : Nat} {s : State} (hphase : (slotGet s k).sd.phase = .acmd41) (hst : (slotGet s k).st = .rising)
include hphase hst

/-- An ACMD41 that is due. -/
theorem exec_sdAcmd41Poll_first {w : Byte} {cmd55 l : List Byte} (cmd41 cmd58 cmd9 again cmd16 : List Byte)
    (hpolled : (slotGet s k).sd.polled = false) (hreply : sdReply 8 cmd55 = some (w, l)) (hgood : r1BadInit w = false) :
    ∃ t, exec (.sdAcmd41Poll k cmd55 cmd41 cmd58 cmd9 again cmd16) s = .next (sdR1 k true cmd41 (fun _ s =>
        if (slotGet s k).sd.r1 = 0 then sdIdentify k cmd58 cmd9 again cmd16 s else s) t) ∧
      SlotIs k (cardIs { (slotGet s k).sd with
        polled := true, start41 := s.sys.tick, r1 := w.toNat
        sent := [sdCommand 55 0, sdCommand 41 (slotGet s k).sd.arg41] } (slotGet s k)) s t := by
  have htaken := slotIs_takeBytes (slotIs_refl k s) 64 (cmd55 ++ cmd41 ++ cmd58 ++ cmd9 ++ again ++ cmd16)
  have hpoll : SlotIs k (cardIs { (slotGet s k).sd with polled := true, start41 := s.sys.tick } (slotGet s k)) s
      (modSd k (fun d => { d with polled := true, start41 := if d.polled then d.start41 else s.sys.tick })
        (takeBytes k 64 (cmd55 ++ cmd41 ++ cmd58 ++ cmd9 ++ again ++ cmd16) s)) := by
    have hmod := slotIs_modSd htaken fun d => { d with
      polled := true, start41 := if d.polled then d.start41 else s.sys.tick }
    rw [hpolled, if_neg Bool.false_ne_true] at hmod
    exact hmod
  refine ⟨_, ?_, slotIs_card (slotIs_card (slotIs_card (slotIs_card hpoll fun d => { d with sent := [] })
    fun d => { d with sent := d.sent ++ [sdCommand 55 0] }) fun d => { d with r1 := w.toNat })
    fun d => { d with sent := d.sent ++ [sdCommand 41 (slotGet s k).sd.arg41] }⟩
  show execSdAcmd41Poll k cmd55 cmd41 cmd58 cmd9 again cmd16 s = _
  unfold execSdAcmd41Poll
  dsimp only
  rw [if_pos ⟨hphase, hst⟩, if_neg (by rw [hpolled]; simp), sdR1_ok (init := true) _ _ hreply hgood, slotIs_sys htaken]
  rfl

theorem completes_sdAcmd41Poll_busy {w v : Byte} {cmd55 cmd41 cmd58 cmd9 again cmd16 l m : List Byte}
    (hpolled : (slotGet s k).sd.polled = false) (hreply : sdReply 8 cmd55 = some (w, l)) (hgood : r1BadInit w = false)
    (hreply' : sdReply 8 cmd41 = some (v, m)) (hgood' : r1BadInit v = false) (hv : v ≠ 0) :
    Completes (exec (.sdAcmd41Poll k cmd55 cmd41 cmd58 cmd9 again cmd16) s) fun t =>
      SlotIs k { slotGet s k with
        sd := { (slotGet s k).sd with
          polled := true, start41 := s.sys.tick, r1 := v.toNat
          sent := [sdCommand 55 0, sdCommand 41 (slotGet s k).sd.arg41] } } s t := by
  obtain ⟨t, hexec, hslot⟩ := exec_sdAcmd41Poll_first hphase hst cmd41 cmd58 cmd9 again cmd16 hpolled hreply hgood
  have hanswered := slotIs_card hslot fun d => { d with r1 := v.toNat }
  have hr1 : (slotGet (modSd k (fun d => { d with r1 := v.toNat }) t) k).sd.r1 = v.toNat :=
    slotIs_field hanswered fun y => y.sd.r1
  have hv' : v.toNat ≠ 0 := fun he => hv (BitVec.eq_of_toNat_eq he)
  rw [hexec, sdR1_ok (init := true) _ _ hreply' hgood', hr1, if_neg hv']
  exact completes_next hanswered

theorem completes_sdAcmd41Poll_late {cmd55 cmd41 cmd58 cmd9 again cmd16 : List Byte} (hpolled : (slotGet s k).sd.polled = true)
    (hlate : 800000000 < s.sys.tick - (slotGet s k).sd.start41) :
    Completes (exec (.sdAcmd41Poll k cmd55 cmd41 cmd58 cmd9 again cmd16) s) fun t =>
      Falls k 8 false (some 0x04D) s t ∧ (slotGet t k).sd.last = 10 ∧ SlotsBut k s t := by
  have htaken := slotIs_takeBytes (slotIs_refl k s) 64 (cmd55 ++ cmd41 ++ cmd58 ++ cmd9 ++ again ++ cmd16)
  have hsession : inSession (slotGet s k) = true := by rw [inSession, hst]
  have hexec : exec (.sdAcmd41Poll k cmd55 cmd41 cmd58 cmd9 again cmd16) s =
      .next (sdFall k 10 0x04D (takeBytes k 64 (cmd55 ++ cmd41 ++ cmd58 ++ cmd9 ++ again ++ cmd16) s)) := by
    show execSdAcmd41Poll k cmd55 cmd41 cmd58 cmd9 again cmd16 s = _
    unfold execSdAcmd41Poll
    dsimp only
    rw [if_pos ⟨hphase, hst⟩, slotIs_sys htaken, if_pos ⟨hpolled, hlate⟩]
  obtain ⟨hfalls, hsd, hbut⟩ := falls_sdFall (last := 10) (code := 0x04D) htaken hsession rfl
  rw [hexec]
  exact completes_next ⟨hfalls, by rw [hsd]; rfl, hbut⟩

theorem completes_sdAcmd41Poll_ready {cap : Nat} {w v u : Byte} {cmd55 cmd41 cmd58 cmd9 again cmd16 l m ocr rest csd : List Byte}
    {r : Running} (hpolled : (slotGet s k).sd.polled = false) (hreply : sdReply 8 cmd55 = some (w, l)) (hgood : r1BadInit w = false)
    (h41 : sdReply 8 cmd41 = some (0, m)) (h58 : sdReply 8 cmd58 = some (v, ocr)) (hgood58 : r1BadInit v = false)
    (h20 : bitAt (beNat (sdBytes 4 ocr)) 20 = true) (h21 : bitAt (beNat (sdBytes 4 ocr)) 21 = true)
    (h9 : sdReply 8 cmd9 = some (u, rest)) (hgood9 : r1BadInit u = false) (hcsd : sdBlock 16 rest = .good csd)
    (hcap : csdBlocks csd = some cap) (hv2 : (slotGet s k).sd.v2 = true) (h30 : bitAt (beNat (sdBytes 4 ocr)) 30 = true)
    (hrun : (slotGet s k).run = some r) :
    Completes (exec (.sdAcmd41Poll k cmd55 cmd41 cmd58 cmd9 again cmd16) s) fun t =>
      (slotGet t k).st = .ready ∧ (slotGet t k).sd.cap = cap ∧
      (slotGet t k).sd.type = (if 67108864 < cap then 3 else 2) ∧
      (slotGet t k).ch.div = (slotGet s k).sd.div ∧ RunEnds k r 0 s t ∧ SlotsBut k s t := by
  obtain ⟨t, hexec, hslot⟩ := exec_sdAcmd41Poll_first hphase hst cmd41 cmd58 cmd9 again cmd16 hpolled hreply hgood
  have hanswered := slotIs_card hslot fun d => { d with r1 := (0 : Byte).toNat }
  have hr1 : (slotGet (modSd k (fun d => { d with r1 := (0 : Byte).toNat }) t) k).sd.r1 = 0 :=
    slotIs_field hanswered fun y => y.sd.r1
  have hocr := slotIs_card (slotIs_card hanswered fun d => { d with sent := d.sent ++ [sdCommand 58 0] })
    fun d => { d with r1 := v.toNat }
  have hnine := slotIs_card (slotIs_card hocr fun d => { d with sent := d.sent ++ [sdCommand 9 0] })
    fun d => { d with r1 := u.toNat }
  have hfound := slotIs_card hnine fun d => { d with
    type := if 67108864 < cap then 3 else 2, cap := cap, csdWp := bitAt (beNat csd) 12 || bitAt (beNat csd) 13 }
  rw [hexec, sdR1_ok (init := true) _ _ h41 rfl, hr1, if_pos rfl]
  unfold sdIdentify
  rw [sdR1_ok (init := true) _ _ h58 hgood58]
  dsimp only
  rw [h20, h21, if_neg (by decide), sdR1_ok (init := true) _ _ h9 hgood9, sdTake_good (init := true) _ _ _ _ hcsd]
  unfold sdCsd
  rw [hcap]
  dsimp only
  have hhigh : (slotGet (modSd k (fun d => { d with r1 := u.toNat }) (sdCmd k 9 0 (modSd k (fun d => { d with r1 := v.toNat })
      (sdCmd k 58 0 (modSd k (fun d => { d with r1 := (0 : Byte).toNat }) t))))) k).sd.v2 = true :=
    (slotIs_field hnine fun y => y.sd.v2).trans hv2
  rw [hhigh, h30, Bool.true_and, if_pos rfl, if_pos rfl]
  obtain ⟨hready, hsd, hdiv, hends, hbut⟩ := ready_sdReady hfound hrun
  exact completes_next ⟨hready, congrArg Sd.cap hsd, congrArg Sd.type hsd, hdiv, hends, hbut⟩

end Poll

/-! ### SD_READ -/

/-- The card engine once an open read run closed. -/
def readClosed (d : Sd) : Sd := if d.run then { d with run := false, runCount := 0, sent := d.sent ++ [sdCommand 12 0] } else d

theorem slotIs_closeRead {k : Nat} {d : Sd} {x : Slot} {s t : State} (h : SlotIs k (cardIs d x) s t) :
    SlotIs k (cardIs (readClosed d) x) s (closeRead k t) := by
  have hrun : (slotGet t k).sd.run = d.run := slotIs_field h fun y => y.sd.run
  unfold closeRead readClosed
  rw [hrun]
  cases d.run with
  | false => exact h
  | true => exact slotIs_card (slotIs_modSlot h (f := fun x => { x with sd := { x.sd with run := false, runCount := 0 } })
      fun _ _ _ => rfl) fun d => { d with sent := d.sent ++ [sdCommand 12 0] }

/-- An order that ends with SD_ERROR leaves its slot READY. -/
theorem ends_sdError {k last : Nat} {x : Slot} {r : Running} {s t : State} (h : SlotIs k x s t) (hrun : x.run = some r) :
    (slotGet (sdError k last t) k).st = .ready ∧ (slotGet (sdError k last t) k).sd.last = last ∧
    RunEnds k r 0x04D s (sdError k last t) ∧ SlotsBut k s (sdError k last t) := by
  have hrest := slotIs_modSlot (slotIs_modSd h fun d => { d with last := last }) (f := sdRest) fun _ _ _ => rfl
  have hrun' := (slotIs_field hrest Slot.run).trans hrun
  have hself := slotGet_endRunLen hrun' 0x04D 0
  unfold sdError
  refine ⟨?_, ?_, runEnds_of_slotIs hrest (runEnds_endRunLen hrun' 0x04D), slotIs_but hrest (slotsBut_endRunLen hrun' 0x04D 0)⟩
  · rw [hself]
    exact slotIs_field hrest Slot.st
  · rw [hself]
    exact slotIs_field hrest fun y => y.sd.last

/-- A block outside a run, read with its checks passed, returns. -/
theorem ends_readOk {k n oid : Nat} (hk : k < 4) {d : Sd} {x : Slot} {r : Running} {o : Order} {l : List Byte} {s t : State}
    (h : SlotIs k (cardIs d x) s t) (hclosed : d.run = false) (hrun : x.run = some r) (ho : orderGet s r.oid = some o)
    (hroom : l.length ≤ orderRoom o) :
    (slotGet (readOk k oid n l t) k).st = .ready ∧
    (∃ e : Sd, (slotGet (readOk k oid n l t) k).sd = { d with
      phase := .idle, writing := false, run := e.run, runWrite := e.runWrite, nextBlock := e.nextBlock
      runCount := e.runCount }) ∧
    OrderEnds o 0 (readOk k oid n l t) ∧ SlotsBut k s (readOk k oid n l t) := by
  have hgrown : ∃ (u : State) (e : Sd), readOk k oid n l t = endReady k 0 l l.length (modSlot k sdRest u) ∧
      SlotIs k (cardIs { d with run := e.run, runWrite := e.runWrite, nextBlock := e.nextBlock, runCount := e.runCount } x) s u := by
    refine ⟨_, ?_, rfl, ?_⟩
    · exact if runStays t k 0x0A n oid then
        { d with run := true, runWrite := false, nextBlock := n + 1, runCount := d.runCount + 1 } else d
    · split
      · exact slotIs_card h fun d => { d with run := true, runWrite := false, nextBlock := n + 1, runCount := d.runCount + 1 }
      · rw [closeRead_of_closed h hclosed]
        exact h
  obtain ⟨u, e, hread, hslot⟩ := hgrown
  have hrest := slotIs_modSlot hslot (f := sdRest) fun _ _ _ => rfl
  have hself := slotGet_endReady (c := 0) (l := l) (n := l.length) ((slotIs_field hrest Slot.run).trans hrun)
  rw [hread]
  refine ⟨by rw [hself], ⟨e, ?_⟩, orderEnds_endReady hk hrest hrun ho hroom, slotIs_but hrest (slotsBut_endReady _ _ _ _ _)⟩
  rw [hself]
  exact slotIs_field hrest Slot.sd

/-- What SD_READ takes as its block. -/
def readTake (k n oid : Nat) (d : Sd) (again rx : List Byte) (s : State) : State :=
  sdTake k 512 false rx again (fun s => sdCmd k 17 (sdAddr d n) (closeRead k s)) (readOk k oid n) s

section Read
variable {k : Nat} {r : Running} {s : State} (h : toBegin s k [0x0A] = some r) (hst : (slotGet s k).st = .ready)
include h hst

/-- SD_READ that no open write run forbids. -/
theorem exec_sdRead (rx again : List Byte) (hopen : mustClose (slotGet s k).sd false (blockNo s k r) = false) :
    ∃ t, SlotIs k (cardIs { (slotGet s k).sd with sent := [], block := blockNo s k r } (begunAt s.sys.tick r (slotGet s k))) s t ∧
      exec (.sdRead k rx again) s = .next (
        if (slotGet s k).sd.cap ≤ blockNo s k r then sdError k 11 (closeRead k t)
        else if inOpenRun (slotGet s k).sd false (blockNo s k r) then
          readTake k (blockNo s k r) r.oid (slotGet s k).sd again rx t
        else sdR1 k false rx (readTake k (blockNo s k r) r.oid (slotGet s k).sd again)
          (sdCmd k (if nextInRun s k 0x0A (blockNo s k r + 1) r.oid then 18 else 17) (sdAddr (slotGet s k).sd (blockNo s k r))
            (closeRead k t))) := by
  have htaken := slotIs_takeBytes (slotIs_refl k s) 64 (rx ++ again)
  have hno : blockNo (takeBytes k 64 (rx ++ again) s) k r = blockNo s k r := by
    rw [blockNo, runBytes_of_slotIs htaken, blockNo]
  have hsd : (slotGet (takeBytes k 64 (rx ++ again) s) k).sd = (slotGet s k).sd := slotIs_field htaken Slot.sd
  have hst' : (slotGet (takeBytes k 64 (rx ++ again) s) k).st = .ready := (slotIs_field htaken Slot.st).trans hst
  have hbegun : SlotIs k (cardIs (slotGet s k).sd (begunAt s.sys.tick r (slotGet s k))) s _ :=
    slotIs_begin_of htaken (toBegin_eq_some h).1
  have hopened := slotIs_card (slotIs_card hbegun fun d => { d with sent := [] }) fun d => { d with block := blockNo s k r }
  refine ⟨_, hopened, ?_⟩
  show execSdRead k rx again s = _
  unfold execSdRead
  rw [h]
  dsimp only
  rw [hno, hsd, if_pos ⟨hst', hopen⟩]
  have hnext := nextInRun_of_slotIs hopened 0x0A (blockNo s k r + 1) r.oid
  rw [← hnext]
  rfl

theorem completes_sdRead_beyond {rx again : List Byte} (hopen : mustClose (slotGet s k).sd false (blockNo s k r) = false)
    (hcap : (slotGet s k).sd.cap ≤ blockNo s k r) :
    Completes (exec (.sdRead k rx again) s) fun t =>
      (slotGet t k).st = .ready ∧ (slotGet t k).sd.last = 11 ∧ RunEnds k r 0x04D s t ∧ SlotsBut k s t := by
  obtain ⟨t, hslot, hexec⟩ := exec_sdRead h hst rx again hopen
  obtain ⟨hready, hlast, hends, hbut⟩ := ends_sdError (last := 11) (slotIs_closeRead hslot) rfl
  rw [hexec, if_pos hcap]
  exact completes_next ⟨hready, hlast, runEnds_congr (r := { r with begun := true, beganAt := s.sys.tick }) rfl hends, hbut⟩

/-- SD_READ of a block of the card outside any run sends its command. -/
theorem exec_sdRead_single (rx again : List Byte) (hcap : blockNo s k r < (slotGet s k).sd.cap)
    (hclosed : (slotGet s k).sd.run = false) :
    ∃ t, SlotIs k (cardIs { (slotGet s k).sd with
        block := blockNo s k r
        sent := [sdCommand (if nextInRun s k 0x0A (blockNo s k r + 1) r.oid then 18 else 17)
          (sdAddr (slotGet s k).sd (blockNo s k r))] } (begunAt s.sys.tick r (slotGet s k))) s t ∧
      exec (.sdRead k rx again) s = .next (sdR1 k false rx (readTake k (blockNo s k r) r.oid (slotGet s k).sd again) t) := by
  have hopen : mustClose (slotGet s k).sd false (blockNo s k r) = false := by
    rw [mustClose, hclosed]
    rfl
  obtain ⟨t, hslot, hexec⟩ := exec_sdRead h hst rx again hopen
  have hout : inOpenRun (slotGet s k).sd false (blockNo s k r) = false := by
    rw [inOpenRun, hclosed]
    rfl
  rw [if_neg (Nat.not_le.mpr hcap), hout, if_neg Bool.false_ne_true, closeRead_of_closed hslot hclosed] at hexec
  exact ⟨_, slotIs_card hslot fun d => { d with sent := d.sent ++ [sdCommand (if nextInRun s k 0x0A (blockNo s k r + 1) r.oid
    then 18 else 17) (sdAddr (slotGet s k).sd (blockNo s k r))] }, hexec⟩

theorem completes_sdRead {v : Byte} {rx again rest data : List Byte} {o : Order} (hk : k < 4)
    (hcap : blockNo s k r < (slotGet s k).sd.cap) (hclosed : (slotGet s k).sd.run = false) (hreply : sdReply 8 rx = some (v, rest))
    (hgood : r1Bad v = false) (hblock : sdBlock 512 rest = .good data) (ho : orderGet s r.oid = some o)
    (hroom : data.length ≤ orderRoom o) :
    Completes (exec (.sdRead k rx again) s) fun t =>
      (slotGet t k).st = .ready ∧ (slotGet t k).sd.r1 = v.toNat ∧ (slotGet t k).sd.phase = .idle ∧
      (slotGet t k).sd.sent =
        [sdCommand (if nextInRun s k 0x0A (blockNo s k r + 1) r.oid then 18 else 17)
          (sdAddr (slotGet s k).sd (blockNo s k r))] ∧
      OrderEnds o 0 t ∧ SlotsBut k s t := by
  obtain ⟨t, hslot, hexec⟩ := exec_sdRead_single h hst rx again hcap hclosed
  have hanswered := slotIs_card hslot fun d => { d with r1 := v.toNat }
  obtain ⟨hready, ⟨e, hsd⟩, hends, hbut⟩ := ends_readOk (n := blockNo s k r) (oid := r.oid) hk hanswered hclosed rfl ho hroom
  rw [hexec, sdR1_ok (init := false) _ _ hreply hgood, readTake, sdTake_good _ _ _ _ hblock]
  exact completes_next ⟨hready, congrArg Sd.r1 hsd, congrArg Sd.phase hsd, congrArg Sd.sent hsd, hends, hbut⟩

theorem completes_sdRead_again {v u : Byte} {rx again rest more data : List Byte} {o : Order} (hk : k < 4)
    (hcap : blockNo s k r < (slotGet s k).sd.cap) (hclosed : (slotGet s k).sd.run = false) (hreply : sdReply 8 rx = some (v, rest))
    (hgood : r1Bad v = false) (hblock : sdBlock 512 rest = .mismatch) (hreply' : sdReply 8 again = some (u, more))
    (hgood' : r1Bad u = false) (hblock' : sdBlock 512 more = .good data) (ho : orderGet s r.oid = some o)
    (hroom : data.length ≤ orderRoom o) :
    Completes (exec (.sdRead k rx again) s) fun t =>
      (slotGet t k).st = .ready ∧ (slotGet t k).sd.crc = satInc (slotGet s k).sd.crc ∧
      (slotGet t k).sd.last = 4 ∧ OrderEnds o 0 t ∧ SlotsBut k s t := by
  obtain ⟨t, hslot, hexec⟩ := exec_sdRead_single h hst rx again hcap hclosed
  have hmissed := slotIs_card (slotIs_card hslot fun d => { d with r1 := v.toNat })
    fun d => { d with crc := satInc d.crc, last := 4 }
  have hclosed' := closeRead_of_closed hmissed hclosed
  have hreread := slotIs_card (slotIs_card hmissed fun d => { d with
    sent := d.sent ++ [sdCommand 17 (sdAddr (slotGet s k).sd (blockNo s k r))] }) fun d => { d with r1 := u.toNat }
  obtain ⟨hready, ⟨e, hsd⟩, hends, hbut⟩ := ends_readOk (n := blockNo s k r) (oid := r.oid) hk hreread hclosed rfl ho hroom
  rw [hexec, sdR1_ok (init := false) _ _ hreply hgood, readTake, sdTake_again (init := false) _ _ _ hblock hreply' hgood' hblock',
    hclosed']
  exact completes_next ⟨hready, congrArg Sd.crc hsd, congrArg Sd.last hsd, hends, hbut⟩

theorem completes_sdRead_silent {rx again : List Byte} (hcap : blockNo s k r < (slotGet s k).sd.cap)
    (hclosed : (slotGet s k).sd.run = false) (hreply : sdReply 8 rx = none) :
    Completes (exec (.sdRead k rx again) s) fun t =>
      Falls k 8 false (some 0x049) s t ∧ (slotGet t k).sd.last = 5 ∧ SlotsBut k s t := by
  obtain ⟨t, hslot, hexec⟩ := exec_sdRead_single h hst rx again hcap hclosed
  have hsession : inSession (slotGet s k) = true := by rw [inSession, hst]
  have hrun : (slotGet s k).run = some r := (toBegin_eq_some h).1
  obtain ⟨hfalls, hsd, hbut⟩ := falls_sdFall (last := 5) (code := 0x049) hslot hsession (by rw [hrun]; rfl)
  rw [hexec, sdR1_none _ _ hreply]
  exact completes_next ⟨hfalls, congrArg Sd.last hsd, hbut⟩

end Read

/-! ### SD_WRITE -/

/-- The card engine once a block went out and its data response came. -/
def blockSent (run : Bool) (data : List Byte) (response : Byte) (d : Sd) : Sd := { d with
  sent := d.sent ++ [sdWriteBlock run data], r1 := response.toNat }

theorem slotIs_writeBlock {k : Nat} {run : Bool} {data : List Byte} {response : Byte} {d : Sd} {x : Slot} {s t : State}
    (h : SlotIs k (cardIs d x) s t) (hst : x.st = .ready) (hresponse : response &&& 0x1F = 0x05) :
    SlotIs k { x with
      st := .busy, pins := { x.pins with rst := false, clkRun := true }
      sd := { blockSent run data response d with phase := .busy, writing := true } } s (writeBlock k run data response t) := by
  have hsent := slotIs_card (slotIs_card h fun d => { d with sent := d.sent ++ [sdWriteBlock run data] })
    fun d => { d with r1 := response.toNat }
  have hbusy := slotIs_modSlot hsent (f := fun x => { sdWait .busy x with
    sd := { x.sd with phase := .busy, writing := true } }) fun _ _ _ => rfl
  have hrising : (if x.st = SlotState.rising then SlotState.rising else .busy) = .busy := by
    rw [hst]
    rfl
  unfold writeBlock
  dsimp only
  rw [if_pos hresponse]
  refine Eq.mp ?_ hbusy
  congr 1
  unfold sdWait cardIs
  dsimp only
  rw [hrising]
  rfl

theorem falls_writeBlock {k : Nat} {run : Bool} {data : List Byte} {response : Byte} {d : Sd} {x : Slot} {s t : State}
    (h : SlotIs k (cardIs d x) s t) (hsession : inSession x = true)
    (hrun : x.run.map Running.oid = ((slotGet s k).run).map Running.oid) (hresponse : response &&& 0x1F ≠ 0x05) :
    Falls k 8 false (some 0x04D) s (writeBlock k run data response t) ∧
    (slotGet (writeBlock k run data response t) k).sd = cardFallen 3 (blockSent run data response d) ∧
    SlotsBut k s (writeBlock k run data response t) := by
  have hsent := slotIs_card (slotIs_card h fun d => { d with sent := d.sent ++ [sdWriteBlock run data] })
    fun d => { d with r1 := response.toNat }
  unfold writeBlock
  dsimp only
  rw [if_neg hresponse]
  exact falls_sdFall hsent hsession hrun

section Write
variable {k : Nat} {r : Running} {s : State} (h : toBegin s k [0x0B] = some r) (hst : (slotGet s k).st = .ready)
  (hcap : blockNo s k r < (slotGet s k).sd.cap)
include h hst hcap

/-- SD_WRITE of a block of the card that no open run forbids. -/
theorem exec_sdWrite (rx : List Byte) (response : Byte) (hopen : mustClose (slotGet s k).sd true (blockNo s k r) = false) :
    ∃ t, SlotIs k (cardIs { (slotGet s k).sd with sent := [], block := blockNo s k r } (begunAt s.sys.tick r (slotGet s k))) s t ∧
      exec (.sdWrite k rx response) s = .next (
        if inOpenRun (slotGet s k).sd true (blockNo s k r) then writeBlock k true ((runBytes s k r).drop 4) response t
        else sdR1 k false rx (fun _ s' =>
            writeBlock k (nextInRun s k 0x0B (blockNo s k r + 1) r.oid) ((runBytes s k r).drop 4) response s')
          (sdCmd k (if nextInRun s k 0x0B (blockNo s k r + 1) r.oid then 25 else 24) (sdAddr (slotGet s k).sd (blockNo s k r))
            (closeRead k t))) := by
  have htaken := slotIs_takeBytes (slotIs_refl k s) 64 (rx ++ [response])
  have hbytes := runBytes_of_slotIs htaken r
  have hno : blockNo (takeBytes k 64 (rx ++ [response]) s) k r = blockNo s k r := by
    rw [blockNo, hbytes, blockNo]
  have hsd : (slotGet (takeBytes k 64 (rx ++ [response]) s) k).sd = (slotGet s k).sd := slotIs_field htaken Slot.sd
  have hst' : (slotGet (takeBytes k 64 (rx ++ [response]) s) k).st = .ready := (slotIs_field htaken Slot.st).trans hst
  have hbegun : SlotIs k (cardIs (slotGet s k).sd (begunAt s.sys.tick r (slotGet s k))) s _ :=
    slotIs_begin_of htaken (toBegin_eq_some h).1
  have hopened := slotIs_card (slotIs_card hbegun fun d => { d with sent := [] }) fun d => { d with block := blockNo s k r }
  refine ⟨_, hopened, ?_⟩
  show execSdWrite k rx response s = _
  unfold execSdWrite
  rw [h]
  dsimp only
  rw [hno, hsd, hbytes, if_pos ⟨hst', hopen⟩, if_neg (Nat.not_le.mpr hcap)]
  have hnext := nextInRun_of_slotIs hopened 0x0B (blockNo s k r + 1) r.oid
  rw [← hnext]
  rfl

theorem completes_sdWrite {v response : Byte} {rx rest : List Byte} (hclosed : (slotGet s k).sd.run = false)
    (hreply : sdReply 8 rx = some (v, rest)) (hgood : r1Bad v = false) :
    Completes (exec (.sdWrite k rx response) s) fun t =>
      (slotGet t k).sd.r1 = response.toNat ∧ (slotGet t k).sd.block = blockNo s k r ∧ SlotsBut k s t ∧
      (response &&& 0x1F = 0x05 → (slotGet t k).st = .busy ∧ (slotGet t k).sd.phase = .busy ∧
        (slotGet t k).sd.writing = true ∧
        (slotGet t k).sd.sent =
          (let more := nextInRun s k 0x0B (blockNo s k r + 1) r.oid
           [sdCommand (if more then 25 else 24) (sdAddr (slotGet s k).sd (blockNo s k r)),
            sdWriteBlock more ((runBytes s k r).drop 4)]) ∧ t = { s with slots := t.slots }) ∧
      (response &&& 0x1F ≠ 0x05 → Falls k 8 false (some 0x04D) s t ∧ (slotGet t k).sd.last = 3) := by
  have hopen : mustClose (slotGet s k).sd true (blockNo s k r) = false := by
    rw [mustClose, hclosed]
    rfl
  have hout : inOpenRun (slotGet s k).sd true (blockNo s k r) = false := by
    rw [inOpenRun, hclosed]
    rfl
  obtain ⟨t, hslot, hexec⟩ := exec_sdWrite h hst hcap rx response hopen
  have hasked := slotIs_card (slotIs_card hslot fun d => { d with
    sent := d.sent ++ [sdCommand (if nextInRun s k 0x0B (blockNo s k r + 1) r.oid then 25 else 24)
      (sdAddr (slotGet s k).sd (blockNo s k r))] }) fun d => { d with r1 := v.toNat }
  have hsession : inSession (slotGet s k) = true := by rw [inSession, hst]
  have hrun : (slotGet s k).run = some r := (toBegin_eq_some h).1
  rw [hexec, hout, if_neg Bool.false_ne_true, closeRead_of_closed hslot hclosed, sdR1_ok (init := false) _ _ hreply hgood]
  generalize nextInRun s k 0x0B (blockNo s k r + 1) r.oid = more at *
  generalize (runBytes s k r).drop 4 = data at *
  by_cases hresponse : response &&& 0x1F = 0x05
  · have hbusy := slotIs_writeBlock (run := more) (data := data) hasked hst hresponse
    have hsd := slotIs_field hbusy Slot.sd
    exact completes_next ⟨congrArg Sd.r1 hsd, congrArg Sd.block hsd, hbusy.2.2.1, fun _ => ⟨slotIs_field hbusy Slot.st,
      congrArg Sd.phase hsd, congrArg Sd.writing hsd, congrArg Sd.sent hsd, hbusy.2.2.2⟩, fun hne => absurd hresponse hne⟩
  · obtain ⟨hfalls, hsd, hbut⟩ := falls_writeBlock (run := more) (data := data) hasked hsession (by rw [hrun]; rfl) hresponse
    exact completes_next ⟨congrArg Sd.r1 hsd, congrArg Sd.block hsd, hbut, fun he => absurd he hresponse,
      fun _ => ⟨hfalls, congrArg Sd.last hsd⟩⟩

theorem completes_sdWrite_run {response : Byte} {rx : List Byte} (hin : inOpenRun (slotGet s k).sd true (blockNo s k r) = true)
    (hresponse : response &&& 0x1F = 0x05) :
    Completes (exec (.sdWrite k rx response) s) fun t =>
      (slotGet t k).st = .busy ∧ (slotGet t k).sd.phase = .busy ∧ (slotGet t k).sd.writing = true ∧
      (slotGet t k).sd.sent = [sdWriteBlock true ((runBytes s k r).drop 4)] ∧ SlotsBut k s t ∧
      t = { s with slots := t.slots } := by
  have hopen : mustClose (slotGet s k).sd true (blockNo s k r) = false := by
    rw [mustClose, hin, Bool.not_true, Bool.and_false]
  obtain ⟨t, hslot, hexec⟩ := exec_sdWrite h hst hcap rx response hopen
  have hbusy := slotIs_writeBlock (run := true) (data := (runBytes s k r).drop 4) hslot hst hresponse
  have hsd := slotIs_field hbusy Slot.sd
  rw [hexec, hin, if_pos rfl]
  exact completes_next ⟨slotIs_field hbusy Slot.st, congrArg Sd.phase hsd, congrArg Sd.writing hsd, congrArg Sd.sent hsd,
    hbusy.2.2.1, hbusy.2.2.2⟩

end Write

/-! ### The close of a write -/

/-- The card engine once its write was asked for its outcome. -/
def writeAsked (a b : Byte) (d : Sd) : Sd := { d with
  sent := (if d.run then d.sent ++ [[0xFD, 0xFF]] else d.sent) ++ [sdCommand 13 0], r1 := a.toNat, r2 := b.toNat
  last := if decide (a = 0) && decide (b = 0) then d.last else 12 }

/-- A write closes with the outcome that its R2 tells. -/
theorem closeWrite_answered {k : Nat} {a : Byte} {rx rest : List Byte} {d : Sd} {x : Slot} {s t : State}
    (h : SlotIs k (cardIs d x) s t) (hreply : sdReply 8 rx = some (a, rest)) {code len : Nat}
    (hcode : (code, len) = if decide (a = 0) && decide ((sdBytes 1 rest).headD 0 = 0) then (0, 512) else (0x04D, 0)) :
    ∃ u, SlotIs k (cardIs (writeAsked a ((sdBytes 1 rest).headD 0) d) x) s u ∧
      closeWrite k rx t =
        if ((slotGet (endRunDone k code len u) k).run.map (fun r => r.begun)).getD false then
          endRunLen k code len (modSlot k sdRest (endRunDone k code len u))
        else modSlot k sdRest (endRunDone k code len u) := by
  have hrun : (slotGet t k).sd.run = d.run := slotIs_field h fun y => y.sd.run
  have hstop : SlotIs k (cardIs { d with sent := if d.run then d.sent ++ [[0xFD, 0xFF]] else d.sent } x) s
      (if (slotGet t k).sd.run then sdSend k [0xFD, 0xFF] t else t) := by
    rw [hrun]
    by_cases hopen : d.run = true
    · rw [if_pos hopen, if_pos hopen]
      exact slotIs_card h fun d => { d with sent := d.sent ++ [[0xFD, 0xFF]] }
    · rw [if_neg hopen, if_neg hopen]
      exact h
  have hasked := slotIs_card hstop fun d => { d with sent := d.sent ++ [sdCommand 13 0] }
  set b := (sdBytes 1 rest).headD 0 with hb
  have htold := slotIs_card hasked fun d => { d with
    r1 := a.toNat, r2 := b.toNat, last := if decide (a = 0) && decide (b = 0) then d.last else 12 }
  refine ⟨_, htold, ?_⟩
  unfold closeWrite
  dsimp only
  rw [hreply]
  dsimp only
  by_cases hgood : (decide (a = 0) && decide (b = 0)) = true
  · rw [if_pos hgood, Prod.mk.injEq] at hcode
    obtain ⟨rfl, rfl⟩ := hcode
    exact if_pos hgood
  · rw [if_neg hgood, Prod.mk.injEq] at hcode
    obtain ⟨rfl, rfl⟩ := hcode
    exact if_neg hgood

section Release
variable {k : Nat} {r : Running} {s : State} (hphase : (slotGet s k).sd.phase = .busy) (hst : (slotGet s k).st = .busy)
  (hrun : (slotGet s k).run = some r)
include hphase hst hrun

/-- A write whose card is ready, and which no run goes on from, closes. -/
theorem exec_sdBusyRelease (ms : Nat) (rx : List Byte) (hends : runStays s k 0x0B (slotGet s k).sd.block r.oid = false) :
    ∃ t, SlotIs k (cardIs { (slotGet s k).sd with busyMs := min ms 0x3FE } (slotGet s k)) s t ∧
      exec (.sdBusyRelease k ms rx) s = .next (closeWrite k rx t) := by
  have htaken := slotIs_takeBytes (slotIs_refl k s) 64 rx
  have hslot := slotIs_modSd htaken fun d => { d with busyMs := min ms 0x3FE }
  refine ⟨_, hslot, ?_⟩
  have hstays : runStays (modSd k (fun d => { d with busyMs := min ms 0x3FE }) (takeBytes k 64 rx s)) k 0x0B (slotGet s k).sd.block
      r.oid = false := by
    rw [← hends]
    have hcount : (slotGet (modSd k (fun d => { d with busyMs := min ms 0x3FE }) (takeBytes k 64 rx s)) k).sd.runCount =
        (slotGet s k).sd.runCount := slotIs_field hslot fun y => y.sd.runCount
    have hopen : (slotGet (modSd k (fun d => { d with busyMs := min ms 0x3FE }) (takeBytes k 64 rx s)) k).sd.run =
        (slotGet s k).sd.run := slotIs_field hslot fun y => y.sd.run
    have hnext := nextInRun_of_slotIs hslot 0x0B ((slotGet s k).sd.block + 1) r.oid
    have hsome : someNext (modSd k (fun d => { d with busyMs := min ms 0x3FE }) (takeBytes k 64 rx s)) k r.oid =
        someNext s k r.oid := by
      unfold someNext
      rw [hslot.2.2.2]
    unfold runStays
    dsimp only
    rw [hcount, hopen, hnext, hsome]
  show execSdBusyRelease k ms rx s = _
  unfold execSdBusyRelease
  dsimp only
  rw [if_pos ⟨hphase, hst⟩, hrun]
  dsimp only
  rw [hstays, if_neg Bool.false_ne_true]

theorem completes_sdBusyRelease_bad {ms : Nat} {a : Byte} {rx rest : List Byte} (hk : 4 ≤ k) (hbegun : r.begun = true)
    (hreply : sdReply 8 rx = some (a, rest)) (hbad : a ≠ 0 ∨ (sdBytes 1 rest).headD 0 ≠ 0) :
    Completes (exec (.sdBusyRelease k ms rx) s) fun t =>
      (slotGet t k).st = .ready ∧ (slotGet t k).sd.busyMs = min ms 0x3FE ∧ (slotGet t k).sd.r1 = a.toNat ∧
      (slotGet t k).sd.r2 = ((sdBytes 1 rest).headD 0).toNat ∧ (slotGet t k).sd.last = 12 ∧
      (slotGet t k).sd.writing = false ∧ RunEnds k r 0x04D s t ∧ SlotsBut k s t := by
  have hfar : isLocal k = false := decide_eq_false (Nat.not_lt.mpr hk)
  have hends : runStays s k 0x0B (slotGet s k).sd.block r.oid = false := by
    unfold runStays
    dsimp only
    rw [hfar]
    rfl
  obtain ⟨t, hslot, hexec⟩ := exec_sdBusyRelease hphase hst hrun ms rx hends
  have hbad' : (decide (a = 0) && decide ((sdBytes 1 rest).headD 0 = 0)) = false := by
    rw [Bool.and_eq_false_iff, decide_eq_false_iff_not, decide_eq_false_iff_not]
    exact hbad
  obtain ⟨u, htold, hclose⟩ := closeWrite_answered hslot hreply (code := 0x04D) (len := 0) (by rw [hbad']; rfl)
  have hself : slotGet (endRunDone k 0x04D 0 u) k = { slotGet u k with sd := runClosed (slotGet u k).sd } := by
    rw [slotGet_endRunDone, if_pos rfl]
  have hrun' : (slotGet (endRunDone k 0x04D 0 u) k).run = some r := by
    rw [hself]
    exact (slotIs_field htold Slot.run).trans hrun
  have hlast : (writeAsked a ((sdBytes 1 rest).headD 0) { (slotGet s k).sd with busyMs := min ms 0x3FE }).last = 12 :=
    if_neg (by rw [hbad']; exact Bool.false_ne_true)
  have hsd : (slotGet (endRunDone k 0x04D 0 u) k).sd = runClosed (writeAsked a ((sdBytes 1 rest).headD 0)
      { (slotGet s k).sd with busyMs := min ms 0x3FE }) := by
    rw [hself]
    exact congrArg runClosed (slotIs_field htold Slot.sd)
  have hbut : SlotsBut k s (endRunDone k 0x04D 0 u) := fun j hj => by
    rw [slotGet_endRunDone, if_neg hj]
    exact htold.2.2.1 j hj
  rw [hexec, hclose, hrun', Option.map_some, hbegun]
  generalize endRunDone k 0x04D 0 u = v at *
  have hrest : slotGet (modSlot k sdRest v) k = sdRest (slotGet v k) := by rw [slotGet_modSlot, if_pos rfl]
  have hrun'' : (slotGet (modSlot k sdRest v) k).run = some r := by
    rw [hrest]
    exact hrun'
  have hfinal := slotGet_endRunLen hrun'' 0x04D 0
  have hsd' : (slotGet (endRunLen k 0x04D 0 (modSlot k sdRest v)) k).sd =
      { (slotGet v k).sd with phase := .idle, writing := false } := by
    rw [hfinal, hrest]
    rfl
  rw [hsd] at hsd'
  refine completes_next ⟨?_, congrArg Sd.busyMs hsd', congrArg Sd.r1 hsd', congrArg Sd.r2 hsd', (congrArg Sd.last hsd').trans hlast,
    congrArg Sd.writing hsd', ?_, fun j hj => ?_⟩
  · rw [if_pos Option.getD_some, hfinal, hrest]
    rfl
  · obtain ⟨hfree, -, hdone⟩ := runEnds_endRunLen hrun'' 0x04D
    exact ⟨hfree, fun hlocal => absurd (hfar ▸ hlocal) Bool.false_ne_true, hdone⟩
  · exact (slotsBut_endRunLen hrun'' 0x04D 0 j hj).trans ((slotGet_modSlot ..).trans ((if_neg hj).trans (hbut j hj)))

theorem completes_sdBusyRelease_good {ms : Nat} {rx rest : List Byte} {o : Order} (hk : k < 4) (hbegun : r.begun = true)
    (hends : runStays s k 0x0B (slotGet s k).sd.block r.oid = false) (hnone : (slotGet s k).sd.runDone = [])
    (hreply : sdReply 8 rx = some (0, rest)) (hgood : (sdBytes 1 rest).headD 0 = 0) (ho : orderGet s r.oid = some o) :
    Completes (exec (.sdBusyRelease k ms rx) s) fun t =>
      (slotGet t k).st = .ready ∧ (slotGet t k).sd.writing = false ∧ (slotGet t k).run = none ∧
      OrderEnds o 0 t ∧ SlotsBut k s t := by
  obtain ⟨t, hslot, hexec⟩ := exec_sdBusyRelease hphase hst hrun ms rx hends
  obtain ⟨u, htold, hclose⟩ := closeWrite_answered hslot hreply (code := 0) (len := 512) (by rw [hgood]; rfl)
  have hnone' : (slotGet u k).sd.runDone = [] := (slotIs_field htold fun y => y.sd.runDone).trans hnone
  have hdone : endRunDone k 0 512 u = modSd k runClosed u := by
    unfold endRunDone
    dsimp only
    rw [hnone', List.foldl_nil]
    rfl
  have hrest := slotIs_modSlot (slotIs_card htold runClosed) (f := sdRest) fun _ _ _ => rfl
  have hrun' := (slotIs_field hrest Slot.run).trans hrun
  have hself := slotGet_endRunLen hrun' 0 512
  have hbegun' : (slotGet (modSd k runClosed u) k).run = some r :=
    (slotIs_field (slotIs_card htold runClosed) Slot.run).trans hrun
  rw [hexec, hclose, hdone, hbegun', Option.map_some, hbegun, if_pos Option.getD_some]
  refine completes_next ⟨?_, ?_, by rw [hself]; rfl, ?_, slotIs_but hrest (slotsBut_endRunLen hrun' 0 512)⟩
  · rw [hself]
    exact slotIs_field hrest Slot.st
  · rw [hself]
    exact slotIs_field hrest fun y => y.sd.writing
  · rw [endRunLen_local hk hrun']
    have hfreed := slotIs_modSlot hrest (f := runFreed) fun _ _ _ => rfl
    generalize modSlot k runFreed (modSlot k sdRest (modSd k runClosed u)) = v at *
    have ho' : orderGet v r.oid = some o := by
      rw [orderGet, hfreed.2.2.2]
      exact ho
    exact orderEnds_endOrderId ho' 0 512

end Release

/-! ### Timeouts and the idle close -/

theorem completes_sdBusyTimeout {k : Nat} {s : State} (hphase : (slotGet s k).sd.phase = .busy) (hst : (slotGet s k).st = .busy) :
    Completes (exec (.sdBusyTimeout k) s) fun t =>
      Falls k 8 false (some 0x049) s t ∧ (slotGet t k).sd.last = 7 ∧ SlotsBut k s t := by
  have hsession : inSession (slotGet s k) = true := by rw [inSession, hst]
  obtain ⟨hfalls, hsd, hbut⟩ := falls_sdFall (last := 7) (code := 0x049) (slotIs_refl k s) hsession rfl
  have hexec : exec (.sdBusyTimeout k) s = .next (sdFall k 7 0x049 s) := by
    show execSdBusyTimeout k s = _
    unfold execSdBusyTimeout
    dsimp only
    rw [if_pos ⟨hphase, hst⟩]
  rw [hexec]
  exact completes_next ⟨hfalls, congrArg Sd.last hsd, hbut⟩

theorem completes_sdTokenTimeout {k : Nat} {s : State} (hphase : (slotGet s k).sd.phase = .token)
    (hst : (slotGet s k).st = .busy ∨ (slotGet s k).st = .rising) :
    Completes (exec (.sdTokenTimeout k) s) fun t =>
      Falls k 8 false (some 0x049) s t ∧ (slotGet t k).sd.last = 6 ∧ SlotsBut k s t := by
  have hsession : inSession (slotGet s k) = true := by
    unfold inSession
    rcases hst with he | he <;> rw [he]
  obtain ⟨hfalls, hsd, hbut⟩ := falls_sdFall (last := 6) (code := 0x049) (slotIs_refl k s) hsession rfl
  have hexec : exec (.sdTokenTimeout k) s = .next (sdFall k 6 0x049 s) := by
    show execSdTokenTimeout k s = _
    unfold execSdTokenTimeout
    dsimp only
    rw [if_pos ⟨hphase, hst⟩]
  rw [hexec]
  exact completes_next ⟨hfalls, congrArg Sd.last hsd, hbut⟩

section Idle
variable {k : Nat} {s : State} (hrun : (slotGet s k).sd.run = true) (hst : (slotGet s k).st = .ready)
include hrun hst

theorem completes_sdRunIdleClose_read (rx : List Byte) (hread : (slotGet s k).sd.runWrite = false) :
    Completes (exec (.sdRunIdleClose k rx) s) fun t =>
      SlotIs k { slotGet s k with
        pins := { (slotGet s k).pins with rst := true, clkRun := false, clkHigh := false, aux1 := true }
        sd := { (slotGet s k).sd with
          run := false, runCount := 0, phase := .idle, writing := false, sent := [sdCommand 12 0] } } s t := by
  have htaken : SlotIs k (cardIs (slotGet s k).sd (slotGet s k)) s (takeBytes k 64 rx s) :=
    slotIs_takeBytes (slotIs_refl k s) 64 rx
  have hclosed := slotIs_closeRead (slotIs_card htaken fun d => { d with sent := [] })
  have hd : readClosed { (slotGet s k).sd with sent := [] } = { (slotGet s k).sd with
      run := false, runCount := 0, sent := [sdCommand 12 0] } := if_pos hrun
  rw [hd] at hclosed
  have hrest := slotIs_modSlot hclosed (f := sdRest) fun _ _ _ => rfl
  have hexec : exec (.sdRunIdleClose k rx) s = .next (modSlot k sdRest (closeRead k (sdOpen k (takeBytes k 64 rx s)))) := by
    show execSdRunIdleClose k rx s = _
    unfold execSdRunIdleClose
    dsimp only
    rw [if_pos ⟨hrun, hst⟩, hread, if_neg Bool.false_ne_true]
  rw [hexec]
  refine completes_next (Eq.mp ?_ hrest)
  congr 1
  unfold sdRest cardIs
  dsimp only
  rw [← hst]
  rfl

theorem completes_sdRunIdleClose_write {rx rest : List Byte} {o : Order} (hwrite : (slotGet s k).sd.runWrite = true)
    (hfree : (slotGet s k).run = none) (hone : (slotGet s k).sd.runDone = [o.id]) (ho : orderGet s o.id = some o)
    (hreply : sdReply 8 rx = some (0, rest)) (hgood : (sdBytes 1 rest).headD 0 = 0) :
    Completes (exec (.sdRunIdleClose k rx) s) fun t =>
      (slotGet t k).sd.run = false ∧ (slotGet t k).sd.runDone = [] ∧ (slotGet t k).st = .ready ∧
      (slotGet t k).sd.sent = [[0xFD, 0xFF], sdCommand 13 0] ∧ OrderEnds o 0 t ∧ SlotsBut k s t := by
  have htaken : SlotIs k (cardIs (slotGet s k).sd (slotGet s k)) s (takeBytes k 64 rx s) :=
    slotIs_takeBytes (slotIs_refl k s) 64 rx
  have hopened : SlotIs k (cardIs { (slotGet s k).sd with sent := [] } (slotGet s k)) s (sdOpen k (takeBytes k 64 rx s)) :=
    slotIs_card htaken fun d => { d with sent := [] }
  have hexec : exec (.sdRunIdleClose k rx) s = .next (closeWrite k rx (sdOpen k (takeBytes k 64 rx s))) := by
    show execSdRunIdleClose k rx s = _
    unfold execSdRunIdleClose
    dsimp only
    rw [if_pos ⟨hrun, hst⟩, hwrite, if_pos rfl]
  obtain ⟨u, htold, hclose⟩ := closeWrite_answered hopened hreply (code := 0) (len := 512) (by rw [hgood]; rfl)
  have hself : slotGet (endRunDone k 0 512 u) k = { slotGet u k with sd := runClosed (slotGet u k).sd } := by
    rw [slotGet_endRunDone, if_pos rfl]
  have hfree' : (slotGet (endRunDone k 0 512 u) k).run = none := by
    rw [hself]
    exact (slotIs_field htold Slot.run).trans hfree
  have hsent : (slotGet u k).sd.sent = [[0xFD, 0xFF], sdCommand 13 0] := by
    rw [slotIs_field htold fun y => y.sd.sent]
    show (if (slotGet s k).sd.run = true then _ else _) ++ _ = _
    rw [if_pos hrun]
    rfl
  have hone' : (slotGet u k).sd.runDone = [o.id] := (slotIs_field htold fun y => y.sd.runDone).trans hone
  have hends : OrderEnds o 0 (endRunDone k 0 512 u) := by
    have ho' : orderGet (modSd k runClosed u) o.id = some o := by
      rw [orderGet, (slotIs_card htold runClosed).2.2.2]
      exact ho
    have hdone : endRunDone k 0 512 u = endOrderId o.id 0 512 (modSd k runClosed u) := by
      unfold endRunDone
      dsimp only
      rw [hone', List.foldl_cons, List.foldl_nil]
      rfl
    rw [hdone]
    exact orderEnds_endOrderId ho' 0 512
  have hbut : SlotsBut k s (endRunDone k 0 512 u) := fun j hj => by
    rw [slotGet_endRunDone, if_neg hj]
    exact htold.2.2.1 j hj
  rw [hexec, hclose, hfree', Option.map_none, Option.getD_none, if_neg Bool.false_ne_true]
  have hrest : ∀ j, slotGet (modSlot k sdRest (endRunDone k 0 512 u)) j =
      if j = k then sdRest (slotGet (endRunDone k 0 512 u) k) else slotGet (endRunDone k 0 512 u) j := fun j => slotGet_modSlot ..
  refine completes_next ⟨?_, ?_, ?_, ?_, ?_, fun j hj => ?_⟩
  rotate_right 2
  · exact orderEnds_congr (t := endRunDone k 0 512 u) rfl rfl hends
  · rw [hrest, if_neg hj, hbut j hj]
  all_goals rw [hrest, if_pos rfl, hself]
  · rfl
  · rfl
  · rfl
  · exact hsent

end Idle

/-! ### SD_STATUS -/

/-- What ends a status order of a local slot. -/
theorem ends_status {k : Nat} {r : Running} {d : Sd} {o : Order} {l : List Byte} {s t : State} (hk : k < 4)
    (hslot : SlotIs k (cardIs d (begunAt s.sys.tick r (slotGet s k))) s t) (ho : orderGet s r.oid = some o)
    (hroom : l.length ≤ orderRoom o) :
    (slotGet (endReady k 0 l l.length (modSlot k sdRest t)) k).st = .ready ∧
    (slotGet (endReady k 0 l l.length (modSlot k sdRest t)) k).sd = { d with phase := .idle, writing := false } ∧
    OrderEnds o 0 (endReady k 0 l l.length (modSlot k sdRest t)) ∧
    SlotsBut k s (endReady k 0 l l.length (modSlot k sdRest t)) := by
  have hrest := slotIs_modSlot hslot (f := sdRest) fun _ _ _ => rfl
  have hself := slotGet_endReady (c := 0) (l := l) (n := l.length) (slotIs_field hrest Slot.run)
  refine ⟨by rw [hself], ?_, orderEnds_endReady hk hrest rfl ho hroom, slotIs_but hrest (slotsBut_endReady _ _ _ _ _)⟩
  rw [hself]
  exact slotIs_field hrest Slot.sd

section Status
variable {k : Nat} {r : Running} {s : State} (h : toBegin s k [0x0C] = some r) (hst : (slotGet s k).st = .ready)
include h hst

/-- SD_STATUS sends its command, an open read run closed before. -/
theorem exec_sdStatus (rx again : List Byte) :
    ∃ (d : Sd) (t : State), SlotIs k (cardIs d (begunAt s.sys.tick r (slotGet s k))) s t ∧
      exec (.sdStatus k rx again) s = .next (sdR1 k false rx (fun rest s =>
        if statusCommand r.param = 13 then
          endReady k 0 [BitVec.ofNat 8 (slotGet s k).sd.r1, (sdBytes 1 rest).headD 0] 2 (modSlot k sdRest
            (modSd k (fun d => { d with r2 := ((sdBytes 1 rest).headD 0).toNat }) s))
        else if statusCommand r.param = 58 then endReady k 0 (sdBytes 4 rest) (sdBytes 4 rest).length (modSlot k sdRest s)
        else sdTake k 16 false rest again (sdCmd k (statusCommand r.param) 0)
          (fun l s => endReady k 0 l l.length (modSlot k sdRest s)) s) t) := by
  have htaken := slotIs_takeBytes (slotIs_refl k s) 64 (rx ++ again)
  have hst' : (slotGet (takeBytes k 64 (rx ++ again) s) k).st = .ready := (slotIs_field htaken Slot.st).trans hst
  have hbegun : SlotIs k (cardIs (slotGet s k).sd (begunAt s.sys.tick r (slotGet s k))) s _ :=
    slotIs_begin_of htaken (toBegin_eq_some h).1
  refine ⟨_, _, slotIs_card (slotIs_closeRead (slotIs_card hbegun fun d => { d with sent := [] }))
    fun d => { d with sent := d.sent ++ [sdCommand (statusCommand r.param) 0] }, ?_⟩
  show execSdStatus k rx again s = _
  unfold execSdStatus
  rw [h]
  dsimp only
  rw [if_pos hst']
  rfl

theorem completes_sdStatus_short {v : Byte} {rx rest : List Byte} {o : Order} (again : List Byte) (hk : k < 4)
    (hcommand : statusCommand r.param = 13) (hreply : sdReply 8 rx = some (v, rest)) (hgood : r1Bad v = false)
    (ho : orderGet s r.oid = some o) (hroom : 2 ≤ orderRoom o) :
    Completes (exec (.sdStatus k rx again) s) fun t =>
      (slotGet t k).st = .ready ∧ (slotGet t k).sd.r1 = v.toNat ∧
      (slotGet t k).sd.r2 = ((sdBytes 1 rest).headD 0).toNat ∧ OrderEnds o 0 t ∧ SlotsBut k s t := by
  obtain ⟨d, t, hslot, hexec⟩ := exec_sdStatus h hst rx again
  have htold := slotIs_card (slotIs_card hslot fun d => { d with r1 := v.toNat })
    fun d => { d with r2 := ((sdBytes 1 rest).headD 0).toNat }
  obtain ⟨hready, hsd, hends, hbut⟩ := ends_status hk htold ho (l := [BitVec.ofNat 8 (slotGet (modSd k
    (fun d => { d with r1 := v.toNat }) t) k).sd.r1, (sdBytes 1 rest).headD 0]) hroom
  rw [hexec, sdR1_ok (init := false) _ _ hreply hgood, if_pos hcommand]
  exact completes_next ⟨hready, congrArg Sd.r1 hsd, congrArg Sd.r2 hsd, hends, hbut⟩

theorem completes_sdStatus_register {v : Byte} {rx rest data : List Byte} {o : Order} (again : List Byte) (hk : k < 4)
    (hcommand : statusCommand r.param = 9 ∨ statusCommand r.param = 10) (hreply : sdReply 8 rx = some (v, rest))
    (hgood : r1Bad v = false) (hblock : sdBlock 16 rest = .good data) (ho : orderGet s r.oid = some o) (hroom : 16 ≤ orderRoom o) :
    Completes (exec (.sdStatus k rx again) s) fun t =>
      (slotGet t k).st = .ready ∧ OrderEnds o 0 t ∧ SlotsBut k s t := by
  obtain ⟨d, t, hslot, hexec⟩ := exec_sdStatus h hst rx again
  have hanswered := slotIs_card hslot fun d => { d with r1 := v.toNat }
  have hlength : data.length ≤ orderRoom o := (sdBlock_length hblock).trans_le hroom
  obtain ⟨hready, -, hends, hbut⟩ := ends_status hk hanswered ho hlength
  have hshort : statusCommand r.param ≠ 13 ∧ statusCommand r.param ≠ 58 := by omega
  rw [hexec, sdR1_ok (init := false) _ _ hreply hgood, if_neg hshort.1, if_neg hshort.2, sdTake_good _ _ _ _ hblock]
  exact completes_next ⟨hready, hends, hbut⟩

theorem completes_sdStatus_silent {rx : List Byte} (again : List Byte) (hreply : sdReply 8 rx = none) :
    Completes (exec (.sdStatus k rx again) s) fun t =>
      Falls k 8 false (some 0x049) s t ∧ (slotGet t k).sd.last = 5 ∧ SlotsBut k s t := by
  obtain ⟨d, t, hslot, hexec⟩ := exec_sdStatus h hst rx again
  have hsession : inSession (slotGet s k) = true := by rw [inSession, hst]
  have hrun : (slotGet s k).run = some r := (toBegin_eq_some h).1
  obtain ⟨hfalls, hsd, hbut⟩ := falls_sdFall (last := 5) (code := 0x049) hslot hsession (by rw [hrun]; rfl)
  rw [hexec, sdR1_none _ _ hreply]
  exact completes_next ⟨hfalls, congrArg Sd.last hsd, hbut⟩

end Status

/-- Settles O43. -/
theorem sdCards : Obligations.SdCards :=
  ⟨fun _ _ _ _ _ _ _ _ _ h hst hsat hsupply => completes_sdInit h hst hsat hsupply,
    fun _ _ _ _ _ _ h hst hsat hsupply => completes_sdInit_lost h hst hsat hsupply,
    fun _ _ _ _ _ _ _ _ _ _ _ _ hphase hst => completes_sdAcmd41Poll_busy hphase hst,
    fun _ _ _ _ _ _ _ _ hphase hst => completes_sdAcmd41Poll_late hphase hst,
    fun _ _ _ _ _ _ _ _ _ _ _ _ _ _ _ _ _ _ hphase hst => completes_sdAcmd41Poll_ready hphase hst,
    fun _ _ _ _ _ h hst => completes_sdRead_beyond h hst,
    fun _ _ _ _ _ _ _ _ _ hk h hst hcap hclosed => completes_sdRead h hst hk hcap hclosed,
    fun _ _ _ _ _ _ _ _ _ _ _ hk h hst hcap hclosed => completes_sdRead_again h hst hk hcap hclosed,
    fun _ _ _ _ _ h hst => completes_sdRead_silent h hst, fun _ _ _ _ _ _ _ h hst hcap => completes_sdWrite h hst hcap,
    fun _ _ _ _ _ h hst hcap => completes_sdWrite_run h hst hcap,
    fun _ _ _ _ _ _ _ hk hphase hst hrun => completes_sdBusyRelease_bad hphase hst hrun hk,
    fun _ _ _ _ _ _ _ hk hphase hst hrun hbegun _ => completes_sdBusyRelease_good hphase hst hrun hk hbegun,
    fun _ _ => completes_sdBusyTimeout, fun _ _ => completes_sdTokenTimeout,
    fun _ _ _ hrun hread hst => completes_sdRunIdleClose_read hrun hst _ hread,
    fun _ _ _ _ _ _ hrun hwrite hst => completes_sdRunIdleClose_write hrun hst hwrite,
    fun _ _ _ _ _ _ _ _ hk h hst => completes_sdStatus_short h hst _ hk,
    fun _ _ _ _ _ _ _ _ _ hk h hst => completes_sdStatus_register h hst _ hk,
    fun _ _ _ _ _ h hst => completes_sdStatus_silent h hst _⟩

end Machine
end Sys2Proof
end

section
/-! The random source (chapter 24): two equal bytes of the pool, read at one tick, decide nothing by their order. -/
namespace Sys2Proof
namespace Machine

set_option Elab.async false

open Safety

/-- A ready source whose two oldest pool bytes are equal. -/
def equalBytes : State :=
  { Tests.hub with
    ports := { a := { answering := true }, b := { answering := true } }
    rnd := { Tests.hub.rnd with ready := true, pool := [7, 7] } }

/-- Both ports read the same value in either order, so that no tie is noted and the priority stays. -/
theorem rndDataRead_equalBytes :
    nextHas (fun t => decide (t.sys = { equalBytes.sys with tied := true }))
      (exec (.rndDataRead equalBytes.sys.prio (some (.read 0x601))) equalBytes) = false := by
  decide +kernel

/-- Refutes O44: two reads of RND_DATA at one tick that find equal bytes leave the same state in either order, and then the
priority does not alternate. -/
theorem not_randomSource : ¬ Obligations.RandomSource := by
  rintro ⟨-, -, -, -, -, -, -, -, -, -, -, -, -, -, -, -, htie⟩
  refine not_completes_of_nextHas _ rndDataRead_equalBytes (fun t ht => ?_)
    (htie equalBytes.sys.prio 7 7 [] equalBytes (by decide +kernel) (by decide +kernel) (by decide +kernel) rfl rfl)
  obtain ⟨-, -, -, hsys⟩ := ht
  exact decide_eq_true hsys

end Machine
end Sys2Proof
end

section
/-! Words with a key sequence (chapter 09), and the key store and the debug port (chapter 24). -/
namespace Sys2Proof
namespace Machine

set_option Elab.async false

open Safety

/-! ### Key sequences -/

section Key
variable {p : Port} {a k1 k2 : Nat} {fin : State → Wr} {s : State} (h : WriteAdmitted s p a) (hacc : openAcc a = true)
  (hfault : faultWordAt p a = none) (hown : ∀ v u, writeOwn p a v u = keyWrite p a v k1 k2 fin u)
include h hacc hfault hown

/-- The first step of a key sequence is noted and answered OK. -/
theorem wordFrame_keyFirst {w : Word} (hcommand : accOf a = .wk) (hshadow : shadowWord a = false) (hpreset : a ≠ 0x08F)
    (hkey : keyHeld s p a = false) (hw : w.toNat = k1) :
    keyHeld (wordFrame p a w s) p a = true ∧ Owes (wordFrame p a w s) p .ok a 0 ∧
    wordFrame p a w s = { s with ports := (wordFrame p a w s).ports } := by
  set u := writeSeen p a w.toNat s with hu
  set v := modPort p (fun h => { h with keys := a :: h.keys }) u with hv
  have hnone : keyHeld u p a = false := (keyHeld_writeSeen ..).trans hkey
  have hown' : writeOwn p a w.toNat u = (0, v) := by
    rw [hown, keyWrite, hnone, if_neg Bool.false_ne_true, if_pos hw]
  have hport : portGet v p = { portGet u p with keys := a :: (portGet u p).keys } := portGet_modPort_same ..
  have hanswers : (portGet v p).answering = true := by
    rw [hport]
    exact answering_writeSeen (t := u) h.1.1 rfl
  have howes := owes_wroteOk hanswers a
  rw [shownWord_of_command (.inl hcommand)] at howes
  have hframe : wordFrame p a w s = wroteOk p a v := wordFrame_ok h hacc hfault hshadow hpreset hown'
  rw [hframe]
  refine ⟨?_, howes, ?_⟩
  · rw [wroteOk, keyHeld_of_answered (answered_respond ..), keyHeld, hport]
    simp
  · rw [wroteOk_frame]
    rfl

/-- A wrong value is refused with reason 5, and the sequence starts afresh. -/
theorem wordFrame_keyWrong {w : Word} (hw : w.toNat ≠ if keyHeld s p a then k2 else k1) :
    Refused s (wordFrame p a w s) p a 5 ∧ keyHeld (wordFrame p a w s) p a = false ∧
    wordFrame p a w s = { s with ports := (wordFrame p a w s).ports } := by
  set u := writeSeen p a w.toNat s with hu
  have hheld : keyHeld u p a = keyHeld s p a := keyHeld_writeSeen ..
  have hstep : ∃ v, writeOwn p a w.toNat u = (4 + 1, v) ∧ keyHeld v p a = false ∧ (portGet v p).answering = true ∧
      portGet v p.other = portGet s p.other ∧ v = { s with ports := v.ports } := by
    cases hkey : keyHeld s p a with
    | true =>
      rw [hkey, if_pos rfl] at hw
      refine ⟨keyDone p a w.toNat s, ?_, keyHeld_dropKey .., answering_keyDone h.1.1 .., portGet_keyDone_other .., rfl⟩
      rw [hown, keyWrite, hheld, hkey, if_pos rfl, if_neg hw]
      rfl
    | false =>
      rw [hkey, if_neg Bool.false_ne_true] at hw
      refine ⟨u, ?_, hheld.trans hkey, answering_writeSeen (t := u) h.1.1 rfl, portGet_writeSeen_other .., rfl⟩
      rw [hown, keyWrite, hheld, hkey, if_neg Bool.false_ne_true, if_neg hw]
  obtain ⟨v, hown', hfree, hanswers, hother, hports⟩ := hstep
  rw [wordFrame_refused h hacc hfault hown', turnDown_refused]
  refine ⟨refused_wroteRefused hanswers hother a 5, ?_, ?_⟩
  · rw [wroteRefused, keyHeld_of_answered (answered_respond ..), keyHeld, portGet_noteRefusal, if_pos rfl]
    exact hfree
  · rw [wroteRefused_frame, hports]

/-- A completing step runs what the sequence guards. -/
theorem wordFrame_keyDone {w : Word} {t : State} (hshadow : shadowWord a = false) (hpreset : a ≠ 0x08F)
    (hkey : keyHeld s p a = true) (hw : w.toNat = k2) (hfin : fin (keyDone p a k2 s) = (0, t)) :
    wordFrame p a w s = wroteOk p a t := by
  have hown' : writeOwn p a w.toNat (writeSeen p a w.toNat s) = (0, t) := by
    rw [hown, hw, keyWrite_done hkey, hfin]
  exact wordFrame_ok h hacc hfault hshadow hpreset hown'

/-- A completing step that a rule forbids is refused. -/
theorem wordFrame_keyRefused {w : Word} {n : Nat} {t : State} (hkey : keyHeld s p a = true) (hw : w.toNat = k2)
    (hfin : fin (keyDone p a k2 s) = (n + 1, t)) : wordFrame p a w s = wroteRefused p a (n + 1) t := by
  have hown' : writeOwn p a w.toNat (writeSeen p a w.toNat s) = (n + 1, t) := by
    rw [hown, hw, keyWrite_done hkey, hfin]
  rw [wordFrame_refused h hacc hfault hown', turnDown_refused]

end Key

/-! ### RND_OTPARM -/

theorem faultWordAt_arm (p : Port) : faultWordAt p 0x611 = none := by cases p <;> decide

/-- The one-time store armed for a port. -/
def otpArmedFor (p : Port) (s : State) : State := { s with rnd := { s.rnd with armed := some p, armAt := s.sys.tick } }

theorem writeOwn_arm (p : Port) (v : Nat) (s : State) :
    writeOwn p 0x611 v s = keyWrite p 0x611 v 0x0B4 0x34B (fun s => (0, otpArmedFor p s)) s := rfl

theorem exec_rndOtparm (p : Port) (data : Word) (s : State) : exec (.rndOtparm p data) s = .next (wordFrame p 0x611 data s) := rfl

theorem completes_rndOtparm_first {p : Port} {s : State} (h : WriteAdmitted s p 0x611) (hkey : keyHeld s p 0x611 = false) :
    Completes (exec (.rndOtparm p 0x0B4) s) fun t =>
      keyHeld t p 0x611 = true ∧ Owes t p .ok 0x611 0 ∧ t = { s with ports := t.ports } := by
  rw [exec_rndOtparm]
  exact completes_next (wordFrame_keyFirst h (by decide) (faultWordAt_arm p) (writeOwn_arm p) (by decide) (by decide) (by decide)
    hkey (by decide))

theorem completes_rndOtparm {p : Port} {s : State} (h : WriteAdmitted s p 0x611) (hkey : keyHeld s p 0x611 = true) :
    Completes (exec (.rndOtparm p 0x34B) s) fun t =>
      keyHeld t p 0x611 = false ∧ Owes t p .ok 0x611 0 ∧
      t = { s with rnd := { s.rnd with armed := some p, armAt := s.sys.tick }, ports := t.ports } := by
  have hframe := wordFrame_keyDone (w := 0x34B) h (by decide) (faultWordAt_arm p) (writeOwn_arm p) (by decide) (by decide) hkey
    (by decide) rfl
  have hanswers : (portGet (otpArmedFor p (keyDone p 0x611 0x34B s)) p).answering = true := answering_keyDone h.1.1 ..
  have howes := owes_wroteOk hanswers 0x611
  rw [shownWord_of_command (.inl (by decide))] at howes
  rw [exec_rndOtparm, hframe]
  refine completes_next ⟨?_, howes, ?_⟩
  · rw [wroteOk, keyHeld_of_answered (answered_respond ..)]
    exact keyHeld_dropKey ..
  · rw [wroteOk_frame]
    rfl

theorem completes_rndOtparm_wrong {p : Port} {data : Word} {s : State} (h : WriteAdmitted s p 0x611)
    (hdata : data ≠ (if keyHeld s p 0x611 then 0x34B else 0x0B4)) :
    Completes (exec (.rndOtparm p data) s) fun t =>
      Refused s t p 0x611 5 ∧ keyHeld t p 0x611 = false ∧ t = { s with ports := t.ports } := by
  have hwrong : data.toNat ≠ if keyHeld s p 0x611 then 0x34B else 0x0B4 := by
    intro he
    refine hdata (BitVec.eq_of_toNat_eq (he.trans ?_))
    split <;> rfl
  rw [exec_rndOtparm]
  exact completes_next (wordFrame_keyWrong h (by decide) (faultWordAt_arm p) (writeOwn_arm p) hwrong)

/-! ### RND_OTPCMD -/

theorem faultWordAt_otp (p : Port) : faultWordAt p 0x612 = none := by cases p <;> decide

theorem writeOwn_otp (p : Port) (v : Nat) (s : State) : writeOwn p 0x612 v s = writeOtpCmd p v s := rfl

theorem otpRefusal_writeSeen (p q : Port) (a v c : Nat) (s : State) : otpRefusal (writeSeen p a v s) q c = otpRefusal s q c := rfl

/-- A write of RND_OTPCMD is answered by what forbids its command. -/
theorem otpAnswers_wordFrame {p : Port} {c : Nat} {w : Word} {s : State} (h : WriteAdmitted s p 0x612) (hw : w.toNat = c)
    (hc : 1 ≤ c ∧ c ≤ 6) : OtpAnswers s p c (wordFrame p 0x612 w s) := by
  have hmod : c % 8 = c := Nat.mod_eq_of_lt (by omega)
  have hrange : inRange c 1 6 = true := by
    simp [inRange, hc.1, hc.2]
  have hown : writeOwn p 0x612 w.toNat (writeSeen p 0x612 w.toNat s) =
      ruled (otpRefusal s p c) (rndRefused p (otpRefusal s p c) (writeSeen p 0x612 w.toNat s))
        (otpStart c (writeSeen p 0x612 w.toNat s)) := by
    rw [writeOwn_otp]
    unfold writeOtpCmd
    dsimp only
    rw [hw, hmod, hrange, if_pos rfl, otpRefusal_writeSeen]
  by_cases hfree : otpRefusal s p c = 0
  · rw [ruled, if_pos hfree] at hown
    set u := otpStart c (writeSeen p 0x612 w.toNat s) with hu
    have hanswers : (portGet u p).answering = true := answering_writeSeen (t := u) h.1.1 rfl
    have howes := owes_wroteOk hanswers 0x612
    rw [shownWord_of_command (.inr (by decide))] at howes
    have hframe : wordFrame p 0x612 w s = wroteOk p 0x612 u :=
      wordFrame_ok h (by decide) (faultWordAt_otp p) (by decide) (by decide) hown
    rw [hframe]
    refine ⟨congrArg Response.addr howes, ?_, fun _ => ⟨congrArg Response.stat howes, congrArg Response.data howes, ?_⟩,
      fun hne => absurd hfree hne⟩
    · rw [wroteOk, portGet_respond_other]
      exact portGet_writeSeen_other ..
    · rw [wroteOk_frame]
      rfl
  · rw [ruled, if_neg hfree] at hown
    set u := rndRefused p (otpRefusal s p c) (writeSeen p 0x612 w.toNat s) with hu
    have hanswers : (portGet u p).answering = true := answering_writeSeen (t := u) h.1.1 rfl
    obtain ⟨hstat, haddr, ⟨hat, hwhy⟩, hother⟩ := refused_wroteRefused (s := s) hanswers (portGet_writeSeen_other ..) 0x612 9
    rw [wordFrame_refused (n := 8) h (by decide) (faultWordAt_otp p) hown, turnDown_refused]
    refine ⟨haddr, hother, fun he => absurd he hfree, fun _ => ⟨hstat, hat, hwhy, ?_⟩⟩
    rw [wroteRefused_frame]
    rfl

/-! ### The end of a program -/

/-- The store once its command ended. -/
def otpEnded (c h : Nat) (ok : Bool) (s : State) : State := { s with rnd := { s.rnd with
  otpBusy := false, otpCmd := none, armed := none
  otp := if ok || (otpApply c h s.rnd.otp).failed.contains (otpItem c) then otpApply c h s.rnd.otp
    else { otpApply c h s.rnd.otp with failed := otpItem c :: (otpApply c h s.rnd.otp).failed } } }

theorem otpDone_eq (c h : Nat) (ok : Bool) (s : State) : otpDone c h ok s =
    if ok then (if otpItem c ≤ 1 then dropPending (otpEnded c h ok s) else otpEnded c h ok s)
    else raise .rnd 3 (if otpItem c ≤ 1 then dropPending (otpEnded c h ok s) else otpEnded c h ok s) := rfl

theorem exec_otpProgramDone {c h : Nat} {ok : Bool} {s : State} (hcmd : s.rnd.otpCmd = some (c, h)) :
    exec (.otpProgramDone ok) s = .next (otpDone c h ok s) := by
  show execOtpProgramDone ok s = _
  rw [execOtpProgramDone, hcmd]

/-- A pending rig is judged afresh, and nothing else moves. -/
theorem dropPending_words (s : State) :
    dropPending s = { s with rig := { s.rig with pending := (dropPending s).rig.pending } } ∧
    (dropPending s).rig.pending = (s.rig.pending && rigBankValid s (if s.rig.bank = 0 then s.rig.bankB else s.rig.bankA)) := by
  unfold dropPending
  dsimp only
  generalize rigBankValid s (if s.rig.bank = 0 then s.rig.bankB else s.rig.bankA) = valid
  by_cases hdrop : (s.rig.pending && !valid) = true
  · rw [if_pos hdrop]
    obtain ⟨hpending, hvalid⟩ := (Bool.and_eq_true ..).mp hdrop
    rw [hpending, (Bool.not_eq_true' valid).mp hvalid]
    exact ⟨rfl, rfl⟩
  · rw [if_neg hdrop]
    refine ⟨rfl, ?_⟩
    cases hpending : s.rig.pending with
    | false => rfl
    | true =>
      rw [hpending] at hdrop
      cases valid with
      | false => exact absurd rfl hdrop
      | true => rfl

theorem completes_otpProgramDone {c h : Nat} {s : State} (hcmd : s.rnd.otpCmd = some (c, h)) :
    Completes (exec (.otpProgramDone true) s) fun t =>
      t = { s with rnd := { s.rnd with otpBusy := false, otpCmd := none, armed := none, otp := otpApply c h s.rnd.otp }
                   rig := { s.rig with pending := t.rig.pending } } ∧
      t.rig.pending = (s.rig.pending && (decide (1 < otpItem c) ||
        rigBankValid t (if s.rig.bank = 0 then s.rig.bankB else s.rig.bankA))) := by
  rw [exec_otpProgramDone hcmd, otpDone_eq, if_pos rfl]
  by_cases hitem : otpItem c ≤ 1
  · have hlow : decide (1 < otpItem c) = false := decide_eq_false (by omega)
    obtain ⟨hstate, hpending⟩ := dropPending_words (otpEnded c h true s)
    rw [if_pos hitem]
    refine completes_next ⟨?_, ?_⟩
    · rw [hstate]
      rfl
    · rw [hpending, hlow, Bool.false_or, hstate]
      rfl
  · have hhigh : decide (1 < otpItem c) = true := decide_eq_true (by omega)
    rw [if_neg hitem]
    refine completes_next ⟨rfl, ?_⟩
    rw [hhigh, Bool.true_or, Bool.and_true]
    rfl

theorem completes_otpProgramDone_failed {c h : Nat} {s : State} (hcmd : s.rnd.otpCmd = some (c, h)) (hlive : Live s)
    (hnone : NoneContained s .rnd) :
    Completes (exec (.otpProgramDone false) s) fun t =>
      t.rnd.otp.failed.contains (otpItem c) = true ∧ t.rnd.otpBusy = false ∧ t.rnd.otpCmd = none ∧
      t.rnd.otp.hash0 = (otpApply c h s.rnd.otp).hash0 ∧ t.rnd.otp.hash1 = (otpApply c h s.rnd.otp).hash1 ∧
      t.fb.rnd.fst.getLsbD 3 = true ∧ t.sys.tick = s.sys.tick ∧ t.ord = s.ord ∧ t.slots = s.slots := by
  rw [exec_otpProgramDone hcmd, otpDone_eq, if_neg Bool.false_ne_true]
  set u := if otpItem c ≤ 1 then dropPending (otpEnded c h false s) else otpEnded c h false s with hu
  have hkept : u = { otpEnded c h false s with rig := u.rig } := by
    rw [hu]
    split
    · rw [(dropPending_words (otpEnded c h false s)).1]
    · rfl
  clear_value u
  have hmild : Raised .rnd 3 u (raise .rnd 3 u) := by
    refine raised_raise ?_ (.inr ⟨by decide, ?_⟩)
    · rw [hkept]
      exact hlive
    · rw [NoneContained, hkept]
      exact hnone
  have hbit := bit_of_raised (by decide) hmild
  have hframe := hmild.frame
  rw [FaultFrame] at hframe
  generalize raise .rnd 3 u = t at *
  have hrnd : t.rnd = (otpEnded c h false s).rnd := by rw [hframe, hkept]
  have hfailed : (otpEnded c h false s).rnd.otp.failed.contains (otpItem c) = true := by
    show (if _ then _ else _ : Otp).failed.contains _ = _
    split
    · rename_i hin
      exact hin
    · simp
  have hhash : (otpEnded c h false s).rnd.otp.hash0 = (otpApply c h s.rnd.otp).hash0 ∧
      (otpEnded c h false s).rnd.otp.hash1 = (otpApply c h s.rnd.otp).hash1 := by
    show (if _ then _ else _ : Otp).hash0 = _ ∧ (if _ then _ else _ : Otp).hash1 = _
    split
    · exact ⟨rfl, rfl⟩
    · exact ⟨rfl, rfl⟩
  refine completes_next ⟨?_, ?_, ?_, ?_, ?_, hbit, ?_, ?_, ?_⟩
  · rw [hrnd, hfailed]
  · rw [hrnd]
    rfl
  · rw [hrnd]
    rfl
  · rw [hrnd, hhash.1]
  · rw [hrnd, hhash.2]
  · rw [hframe, hkept]
    rfl
  · rw [hframe, hkept]
    rfl
  · rw [hframe, hkept]
    rfl

/-! ### The debug port -/

theorem exec_tapInstruction (code : Nat) {s : State} (hoff : s.sys.state ≠ .off) (hvio : s.pins.vioOk = true) :
    exec (.tapInstruction code) s = .next (tapLoad code s) := by
  show execTapInstruction code s = _
  unfold execTapInstruction
  rw [if_neg (by rw [hvio]; simp [hoff])]

theorem completes_tapInstruction_open {code : Nat} {s : State} (hoff : s.sys.state ≠ .off) (hvio : s.pins.vioOk = true)
    (hopen : s.rnd.otp.debugOpen = true) :
    Completes (exec (.tapInstruction code) s) fun t =>
      t = { s with rnd := { s.rnd with tap :=
        if code = 3 ∧ s.sys.state ≠ .recovery then 2 else if code ≤ 3 then code else 0 } } := by
  rw [exec_tapInstruction code hoff hvio]
  unfold tapLoad
  rw [if_pos hopen]
  exact completes_next rfl

theorem completes_tapInstruction_closed {code : Nat} {s : State} (hlive : Live s) (hvio : s.pins.vioOk = true)
    (hclosed : s.rnd.otp.debugOpen = false) :
    Completes (exec (.tapInstruction code) s) fun t =>
      t.rnd = { s.rnd with tap := 0 } ∧ (code = 0 → t = { s with rnd := t.rnd }) ∧
      (code ≠ 0 → Raised .rnd 4 { s with rnd := t.rnd } t) := by
  rw [exec_tapInstruction code hlive.1 hvio]
  unfold tapLoad
  rw [if_neg (by rw [hclosed]; exact Bool.false_ne_true)]
  by_cases hcode : code = 0
  · rw [if_pos hcode]
    exact completes_next ⟨rfl, fun _ => rfl, fun hne => absurd hcode hne⟩
  · rw [if_neg hcode]
    have hmild : Raised .rnd 4 { s with rnd := { s.rnd with tap := 0 } } (raise .rnd 4 { s with rnd := { s.rnd with tap := 0 } }) :=
      raised_raise hlive (.inl (by decide))
    have hrnd : (raise .rnd 4 { s with rnd := { s.rnd with tap := 0 } }).rnd = { s.rnd with tap := 0 } := by
      rw [hmild.frame]
    refine completes_next ⟨hrnd, fun he => absurd he hcode, fun _ => ?_⟩
    rw [hrnd]
    exact hmild

/-- Settles O45. -/
theorem oneTimeStore : Obligations.OneTimeStore :=
  ⟨fun _ _ => completes_rndOtparm_first, fun _ _ => completes_rndOtparm, fun _ _ _ => completes_rndOtparm_wrong,
    fun _ => completes_next rfl,
    fun _ _ h => ⟨completes_next (otpAnswers_wordFrame h (by decide) (by decide)),
      completes_next (otpAnswers_wordFrame h (by decide) (by decide)), completes_next (otpAnswers_wordFrame h (by decide) (by decide)),
      completes_next (otpAnswers_wordFrame h (by decide) (by decide)), completes_next (otpAnswers_wordFrame h (by decide) (by decide)),
      completes_next (otpAnswers_wordFrame h (by decide) (by decide))⟩,
    fun _ _ _ => completes_otpProgramDone, fun _ _ _ => completes_otpProgramDone_failed,
    fun _ _ => completes_tapInstruction_open, fun _ _ => completes_tapInstruction_closed⟩

end Machine
end Sys2Proof
end

section
/-! The ledger's host writes (chapter 18), STANDBY and its wake (chapter 20). -/
namespace Sys2Proof
namespace Machine

set_option Elab.async false

open Safety

/-! ### What a decision leaves of the source -/

/-- The ledger's words of its source and of the time on it. -/
def sourceWords (s : State) : Bool × Nat × Nat := (s.ldg.battery, s.ldg.sourceSince, s.ldg.alarmTicks)

theorem sourceWords_putMarks (before : Nat → Bool) (marks : List Nat) (s : State) :
    sourceWords (putMarks before marks s).1 = sourceWords s := by
  unfold putMarks
  dsimp only
  rw [foldl_keeps sourceWords (by exact fun _ _ => rfl), foldl_keeps sourceWords (by exact fun _ _ => rfl)]

theorem sourceWords_ripcordLocals (s : State) : sourceWords (ripcordLocals s) = sourceWords s := by
  have hdrop : ∀ k s, sourceWords (dropRun k s) = sourceWords s := by
    intro k s
    have hend : ∀ i u, sourceWords (releaseLift k (endOrderId i 0x085 0 u)) = sourceWords u := fun i u => by
      show ((endOrderId i 0x085 0 u).ldg.battery, (endOrderId i 0x085 0 u).ldg.sourceSince,
        (endOrderId i 0x085 0 u).ldg.alarmTicks) = sourceWords u
      rw [endOrderId_ldg, sourceWords]
    unfold dropRun
    split
    · split
      · rfl
      · exact hend ..
    · rfl
  refine foldl_keeps sourceWords (fun s k => ?_) _ s
  rw [sourceWords, fallSlot_frame]
  exact hdrop k s

theorem sourceWords_fatalEnter (n k kind frx : Nat) (s : State) : sourceWords (fatalEnter n k kind frx s) = sourceWords s := by
  unfold fatalEnter
  dsimp only
  split
  · rfl
  · split
    · split <;> rfl
    · simp only [sourceWords, queueStart_ldg, recFreeze_ldg, holdRules_ldg, trimsOff_ldg]
      exact sourceWords_ripcordLocals _

/-- What a fault event and a ledger decision keep: the alarm words, the ports' answers, and the words of the source. -/
def SourceKept (s t : State) : Prop := AlarmKept s t ∧ sourceWords t = sourceWords s

theorem sourceKept_refl (s : State) : SourceKept s s := ⟨alarmKept_refl s, rfl⟩

theorem sourceKept_trans {s t u : State} (h : SourceKept s t) (h' : SourceKept t u) : SourceKept s u :=
  ⟨alarmKept_trans h.1 h'.1, h'.2.trans h.2⟩

theorem sourceKept_of_ldg {s t : State} (h : AlarmKept s t) (hldg : t.ldg = s.ldg) : SourceKept s t :=
  ⟨h, by rw [sourceWords, hldg, sourceWords]⟩

theorem sourceKept_raiseMany (b : FBlk) (ks : List Nat) (s : State) : SourceKept s (raiseMany b ks s) :=
  raiseMany_keeps sourceKept_refl sourceKept_trans (fun _ _ => sourceKept_of_ldg (alarmKept_of_ports rfl rfl) rfl)
    (fun k c e s => sourceKept_of_ldg (alarmKept_queueFault b k c e s) (queueFault_ldg ..))
    (fun c e d s => sourceKept_of_ldg (alarmKept_recFreeze c e d s) (recFreeze_ldg ..))
    (fun f k e s => sourceKept_of_ldg (alarmKept_wakeByFault f k e s) (wakeByFault_ldg ..))
    (fun n k kind frx s => ⟨alarmKept_fatalEnter n k kind frx s, sourceWords_fatalEnter n k kind frx s⟩) ks s

theorem sourceKept_queueLedger (s : State) : SourceKept s (queueLedger s) := by
  unfold queueLedger
  rw [queueRec_frame]
  exact sourceKept_of_ldg (alarmKept_of_ports rfl rfl) rfl

theorem sourceKept_decideWith (ks : List Nat) (s : State) : SourceKept s (decideWith ks s) := by
  refine ⟨alarmKept_decideWith ks s, ?_⟩
  unfold decideWith
  dsimp only
  generalize hp : putMarks _ _ _ = p
  have hmarks : sourceWords p.1 = sourceWords s := by
    rw [← hp, sourceWords_putMarks]
    rfl
  have hclose : ∀ (c : Prop) [Decidable c] (u : State), sourceWords (if c then queueLedger u else u) = sourceWords u := fun c _ u => by
    split
    · exact (sourceKept_queueLedger u).2
    · rfl
  rw [hclose, (sourceKept_raiseMany ..).2]
  exact hmarks

/-! ### LDG_SOURCE -/

theorem faultWordAt_source (p : Port) : faultWordAt p 0x381 = none := by cases p <;> decide

theorem writeOwn_source (p : Port) (v : Nat) (s : State) : writeOwn p 0x381 v s = (0, writeSource (bitAt v 0) s) := rfl

theorem exec_ldgSourceWrite {p : Port} {data : Word} {s : State} (h : WriteAdmitted s p 0x381) :
    exec (.ldgSourceWrite p data none) s =
      .next (wroteOk p 0x381 (writeSource (data.getLsbD 0) (writeSeen p 0x381 data.toNat s))) := by
  have hexec : exec (.ldgSourceWrite p data none) s = .next (wordFrame p 0x381 data s) := rfl
  rw [hexec, wordFrame_ok h (by decide) (faultWordAt_source p) (by decide) (by decide) (writeOwn_source ..), bitAt_toNat]
  rfl

theorem completes_ldgSourceWrite_same {p : Port} {data : Word} {s : State} (h : WriteAdmitted s p 0x381)
    (hsame : data.getLsbD 0 = s.ldg.battery) :
    Completes (exec (.ldgSourceWrite p data none) s) fun t =>
      (portGet t p).owed.stat = .ok ∧ PortsAnswer s t p ∧ t = { s with ports := t.ports } := by
  have hkept : writeSource (data.getLsbD 0) (writeSeen p 0x381 data.toNat s) = writeSeen p 0x381 data.toNat s := if_pos hsame.symm
  rw [exec_ldgSourceWrite h, hkept]
  refine completes_next ⟨congrArg Response.stat (owes_wroteOk (answering_writeSeen h.1.1 rfl) 0x381), portsAnswer_wroteOk rfl, ?_⟩
  rw [wroteOk_frame]
  rfl

theorem completes_ldgSourceWrite {p : Port} {data : Word} {s : State} (h : WriteAdmitted s p 0x381)
    (hnew : data.getLsbD 0 ≠ s.ldg.battery) :
    Completes (exec (.ldgSourceWrite p data none) s) fun t =>
      t.ldg.battery = data.getLsbD 0 ∧ t.ldg.sourceSince = s.sys.tick ∧ t.ldg.alarmTicks = 0 ∧
      (portGet t p).owed.stat = .ok ∧ t.sys.tick = s.sys.tick := by
  rw [exec_ldgSourceWrite h]
  generalize data.getLsbD 0 = battery at *
  set u := writeSeen p 0x381 data.toNat s with hu
  set v : State := { u with ldg := { u.ldg with
    battery := battery, sourceSince := u.sys.tick, alarmTicks := 0, battFrac := 0
    battWritten := u.ldg.battWritten && battery } } with hv
  have hfollow : SourceKept v (followBattery v) := by
    unfold followBattery
    split
    · exact ⟨alarmKept_of_ports rfl rfl, rfl⟩
    · exact sourceKept_refl v
  have hkept : SourceKept v (writeSource battery u) := by
    unfold writeSource
    rw [if_neg fun he => hnew he.symm]
    dsimp only
    have hdecided := sourceKept_trans hfollow (sourceKept_decideWith [] _)
    split
    · exact sourceKept_trans hdecided (sourceKept_queueLedger _)
    · exact hdecided
  obtain ⟨halarm, hwords⟩ := hkept
  have hanswers := halarm.answers p (answering_writeSeen (t := v) h.1.1 rfl)
  generalize writeSource battery u = w at *
  have hview := congrArg AlarmView.tick halarm.view
  rw [sourceWords, sourceWords, Prod.mk.injEq, Prod.mk.injEq] at hwords
  obtain ⟨hbattery, hsince, halarmTicks⟩ := hwords
  have hframe := wroteOk_frame p 0x381 w
  refine completes_next ⟨?_, ?_, ?_, congrArg Response.stat (owes_wroteOk hanswers 0x381), ?_⟩
  · rw [hframe]
    exact hbattery
  · rw [hframe]
    exact hsince
  · rw [hframe]
    exact halarmTicks
  · rw [hframe]
    exact hview

/-! ### LDG_BATTREM -/

theorem faultWordAt_batt (p : Port) : faultWordAt p 0x385 = none := by cases p <;> decide

theorem writeOwn_batt {p : Port} {s : State} (data : Word) (hshadow : (portGet s p).shadow = none) :
    writeOwn p 0x385 data.toNat (writeSeen p 0x385 data.toNat s) =
    if data.toNat + 1024 * (s.ldg.battRem / 1024) ≤ 10230 then
      (0, writeBattRem (data.toNat + 1024 * (s.ldg.battRem / 1024)) (writeSeen p 0x385 data.toNat s))
    else (2, { writeSeen p 0x385 data.toNat s with ldg := { s.ldg with refuseReason := 1, refusePort := p } }) := by
  set u := writeSeen p 0x385 data.toNat s with hu
  have hshadow' : (portGet u p).shadow = none := by
    rw [hu, portGet_writeSeen]
    exact hshadow
  have hkeep : shadowed u p 0x385 0x386 (u.ldg.battRem / 1024) = s.ldg.battRem / 1024 := by
    rw [shadowed, hshadow']
    rfl
  have hcommit : writeOwn p 0x385 data.toNat u = commitBatt p data.toNat u := rfl
  rw [hcommit]
  unfold commitBatt
  dsimp only
  rw [hkeep, emptyShadow_of_none hshadow']
  rfl

section Batt
variable {p : Port} {data : Word} {s : State} (h : WriteAdmitted s p 0x385) (hshadow : (portGet s p).shadow = none)
include h hshadow

theorem completes_ldgBattremWrite (hin : data.toNat + 1024 * (s.ldg.battRem / 1024) ≤ 10230) :
    Completes (exec (.ldgBattremWrite p data) s) fun t =>
      t = { s with
        ldg := { s.ldg with battRem := data.toNat + 1024 * (s.ldg.battRem / 1024), battFrac := 0, battWritten := true }
        ports := t.ports } ∧ PortsAnswer s t p ∧ (portGet t p).owed.stat = .ok := by
  have hexec : exec (.ldgBattremWrite p data) s = .next (wordFrame p 0x385 data s) := rfl
  have hown := writeOwn_batt data hshadow
  rw [if_pos hin] at hown
  rw [hexec, wordFrame_ok h (by decide) (faultWordAt_batt p) (by decide) (by decide) hown]
  set u := writeBattRem (data.toNat + 1024 * (s.ldg.battRem / 1024)) (writeSeen p 0x385 data.toNat s) with hu
  have hports : u.ports = (writeSeen p 0x385 data.toNat s).ports := rfl
  refine completes_next ⟨?_, portsAnswer_wroteOk hports, congrArg Response.stat (owes_wroteOk (answering_writeSeen h.1.1 hports) 0x385)⟩
  rw [respond_frame]
  rfl

theorem completes_ldgBattremWrite_beyond (hout : 10230 < data.toNat + 1024 * (s.ldg.battRem / 1024)) :
    Completes (exec (.ldgBattremWrite p data) s) fun t =>
      Refused s t p 0x385 2 ∧ t = { s with ldg := { s.ldg with refuseReason := 1, refusePort := p }, ports := t.ports } := by
  have hexec : exec (.ldgBattremWrite p data) s = .next (wordFrame p 0x385 data s) := rfl
  have hown := writeOwn_batt data hshadow
  rw [if_neg (Nat.not_le.mpr hout)] at hown
  rw [hexec, wordFrame_refused (n := 1) h (by decide) (faultWordAt_batt p) hown, turnDown_refused]
  set u : State := { writeSeen p 0x385 data.toNat s with ldg := { s.ldg with refuseReason := 1, refusePort := p } } with hu
  have hanswers : (portGet u p).answering = true := answering_writeSeen (t := u) h.1.1 rfl
  refine completes_next ⟨refused_wroteRefused hanswers (portGet_writeSeen_other ..) .., ?_⟩
  rw [wroteRefused_frame]
  rfl

end Batt

/-! ### LKO_SLEEP -/

theorem faultWordAt_sleep (p : Port) : faultWordAt p 0x501 = none := by cases p <;> decide

/-- What the completing write of LKO_SLEEP does. -/
def sleepJudged (p : Port) (s : State) : Wr :=
  ruled (sleepRefusal s) { s with lko := { s.lko with refuseReason := sleepRefusal s, refusePort := p } } (enterStandby s)

theorem writeOwn_sleep (p : Port) (v : Nat) (s : State) : writeOwn p 0x501 v s = keyWrite p 0x501 v 0x2D2 0x12D (sleepJudged p) s := rfl

section Sleep
variable {p : Port} {s : State} (h : WriteAdmitted s p 0x501)
include h

theorem completes_lkoSleep_first (hkey : keyHeld s p 0x501 = false) :
    Completes (exec (.lkoSleep p 0x2D2 false) s) fun t =>
      keyHeld t p 0x501 = true ∧ Owes t p .ok 0x501 0 ∧ t = { s with ports := t.ports } := by
  have hexec : exec (.lkoSleep p 0x2D2 false) s = .next (wordFrame p 0x501 0x2D2 s) := rfl
  rw [hexec]
  exact completes_next (wordFrame_keyFirst h (by decide) (faultWordAt_sleep p) (writeOwn_sleep p) (by decide) (by decide)
    (by decide) hkey (by decide))

theorem completes_lkoSleep (hkey : keyHeld s p 0x501 = true) (hfree : sleepRefusal s = 0) :
    Completes (exec (.lkoSleep p 0x12D false) s) fun t =>
      t.sys = { s.sys with state := .standby } ∧ keyHeld t p 0x501 = false ∧ Owes t p .ok 0x501 0 ∧
      t.lko = { s.lko with standby := true, wakeSrc := 0, wakeRule := none, sbyCnt := satInc s.lko.sbyCnt } ∧
      t.log = wearWrite s.log ∧
      t = { s with sys := t.sys, lko := t.lko, log := t.log, ports := t.ports } := by
  have hcalm : s.sup.pf = false := by
    by_contra hpf
    rw [Bool.not_eq_false] at hpf
    unfold sleepRefusal at hfree
    rw [hpf] at hfree
    split_ifs at hfree
    simp_all
  set u := keyDone p 0x501 0x12D s with hu
  have hexec : exec (.lkoSleep p 0x12D false) s = .next (wordFrame p 0x501 0x12D s) := rfl
  have hfin : sleepJudged p u = (0, enterStandby u) := if_pos hfree
  have hframe := wordFrame_keyDone (w := 0x12D) h (by decide) (faultWordAt_sleep p) (writeOwn_sleep p) (by decide) (by decide) hkey
    (by decide) hfin
  have hanswers : (portGet (enterStandby u) p).answering = true := answering_keyDone h.1.1 ..
  have howes := owes_wroteOk hanswers 0x501
  rw [shownWord_of_command (.inl (by decide))] at howes
  have hlog : (enterStandby u).log = wearWrite s.log := by
    show (if s.sup.pf then { s.log with wearDue := true } else wearWrite s.log) = _
    rw [hcalm, if_neg Bool.false_ne_true]
  rw [hexec, hframe]
  refine completes_next ⟨?_, ?_, howes, ?_, ?_, ?_⟩
  · rw [wroteOk_frame]
    rfl
  · rw [wroteOk, keyHeld_of_answered (answered_respond ..)]
    exact keyHeld_dropKey ..
  · rw [wroteOk_frame]
    rfl
  · rw [wroteOk_frame]
    exact hlog
  · rw [wroteOk_frame]
    rfl

/-- A completing write with a reason to refuse. -/
theorem refused_lkoSleep {n : Nat} (hkey : keyHeld s p 0x501 = true) (hwhy : sleepRefusal s = n) (hn : n ≠ 0) :
    Refused s (wordFrame p 0x501 0x12D s) p 0x501 9 ∧ keyHeld (wordFrame p 0x501 0x12D s) p 0x501 = false ∧
    wordFrame p 0x501 0x12D s = { s with
      lko := { s.lko with refuseReason := n, refusePort := p }, ports := (wordFrame p 0x501 0x12D s).ports } := by
  subst hwhy
  set u := keyDone p 0x501 0x12D s with hu
  set v : State := { u with lko := { u.lko with refuseReason := sleepRefusal s, refusePort := p } } with hv
  have hfin : sleepJudged p u = (8 + 1, v) := if_neg hn
  have hframe := wordFrame_keyRefused (w := 0x12D) h (by decide) (faultWordAt_sleep p) (writeOwn_sleep p) hkey (by decide) hfin
  have hanswers : (portGet v p).answering = true := answering_keyDone h.1.1 ..
  rw [hframe]
  refine ⟨refused_wroteRefused hanswers (portGet_keyDone_other ..) .., ?_, ?_⟩
  · rw [wroteRefused, keyHeld_of_answered (answered_respond ..), keyHeld, portGet_noteRefusal, if_pos rfl]
    exact keyHeld_dropKey ..
  · rw [wroteRefused_frame]
    rfl

theorem completes_lkoSleep_refused (hkey : keyHeld s p 0x501 = true) (hwhy : sleepRefusal s ≠ 0) :
    Completes (exec (.lkoSleep p 0x12D false) s) fun t =>
      Refused s t p 0x501 9 ∧ keyHeld t p 0x501 = false ∧
      t = { s with lko := { s.lko with refuseReason := sleepRefusal s, refusePort := p }, ports := t.ports } := by
  have hexec : exec (.lkoSleep p 0x12D false) s = .next (wordFrame p 0x501 0x12D s) := rfl
  rw [hexec]
  exact completes_next (refused_lkoSleep h hkey rfl hwhy)

theorem completes_lkoSleep_waking (hkey : keyHeld s p 0x501 = true) (hrun : s.sys.state = .run) :
    Completes (exec (.lkoSleep p 0x12D true) s) fun t =>
      Refused s t p 0x501 9 ∧ keyHeld t p 0x501 = false ∧
      t = { s with lko := { s.lko with refuseReason := 1, refusePort := p, sourced := true }, ports := t.ports } := by
  set u : State := { s with lko := { s.lko with sourced := true } } with hu
  have hexec : exec (.lkoSleep p 0x12D true) s = .next (wordFrame p 0x501 0x12D u) := by
    show execLkoSleep p 0x12D true s = _
    unfold execLkoSleep
    rw [hrun]
    rfl
  have hwhy : sleepRefusal u = 1 := if_pos (.inr rfl)
  have h' : WriteAdmitted u p 0x501 := h
  rw [hexec]
  obtain ⟨hrefused, hheld, hframe⟩ := refused_lkoSleep h' hkey hwhy (by decide)
  exact completes_next ⟨⟨hrefused.stat, hrefused.addr, hrefused.noted, hrefused.other⟩, hheld, hframe⟩

end Sleep

/-! ### LKO_WAKE -/

theorem faultWordAt_wake (p : Port) : faultWordAt p 0x502 = none := by cases p <;> decide

theorem writeOwn_wake (p : Port) (v : Nat) (s : State) : writeOwn p 0x502 v s = ranged (decide (v = 1)) s (hostWake s) := rfl

theorem completes_lkoWake {p : Port} {s : State} (h : WriteAdmitted s p 0x502) (hst : s.sys.state = .standby) :
    Completes (exec (.lkoWake p 1) s) fun t =>
      t.sys = { s.sys with state := .run } ∧
      t.lko = { s.lko with standby := false, woken := true, sourced := true, wakeSrc := Nat.lor s.lko.wakeSrc 32 } ∧
      (portGet t .a).ievt.getLsbD 3 = true ∧ (portGet t .b).ievt.getLsbD 3 = true ∧ Owes t p .ok 0x502 0 ∧
      t = { s with sys := t.sys, lko := t.lko, ports := t.ports } := by
  set w := writeSeen p 0x502 1 s with hw
  set u := setIevtBoth 0x008 { w with
    sys := { w.sys with state := .run }
    lko := { w.lko with standby := false, woken := true, sourced := true, wakeSrc := Nat.lor w.lko.wakeSrc 32 } } with hu
  have hwake : hostWake w = u := by
    have hst' : w.sys.state = .standby := hst
    rw [hostWake, coreWake, hst']
    rfl
  have hexec : exec (.lkoWake p 1) s = .next (wordFrame p 0x502 1 s) := rfl
  have hframe : wordFrame p 0x502 1 s = wroteOk p 0x502 u :=
    wordFrame_ok (w := 1) h (by decide) (faultWordAt_wake p) (by decide) (by decide) (congrArg (Prod.mk 0) hwake)
  have hanswers : (portGet u p).answering = true :=
    (alarmKept_setIevtBoth 0x008 _).answers p (answering_writeSeen (t := w) h.1.1 rfl)
  have howes := owes_wroteOk hanswers 0x502
  rw [shownWord_of_command (.inr (by decide))] at howes
  have hevent : ∀ q, (portGet (wroteOk p 0x502 u) q).ievt.getLsbD 3 = true := fun q => by
    have hbits : (portGet u q).ievt = (portGet w q).ievt ||| 0x008 := by cases q <;> rfl
    rw [wroteOk, portGet_respond]
    show (portGet u q).ievt.getLsbD 3 = true
    rw [hbits, BitVec.getLsbD_or]
    simp
  rw [hexec, hframe]
  refine completes_next ⟨?_, ?_, hevent .a, hevent .b, howes, ?_⟩
  · rw [wroteOk_frame]
    rfl
  · rw [wroteOk_frame]
    rfl
  · rw [wroteOk_frame]
    rfl

theorem completes_lkoWake_beyond {p : Port} {data : Word} {s : State} (h : WriteAdmitted s p 0x502) (hdata : data ≠ 1) :
    Completes (exec (.lkoWake p data) s) fun t => Refused s t p 0x502 2 ∧ t = { s with ports := t.ports } := by
  have hne : data.toNat ≠ 1 := fun he => hdata (BitVec.eq_of_toNat_eq he)
  have hown : writeOwn p 0x502 data.toNat (writeSeen p 0x502 data.toNat s) = (1 + 1, writeSeen p 0x502 data.toNat s) := by
    rw [writeOwn_wake, ranged, decide_eq_false hne, if_neg Bool.false_ne_true, outOfRange]
  have hexec : exec (.lkoWake p data) s = .next (wordFrame p 0x502 data s) := rfl
  rw [hexec, wordFrame_refused h (by decide) (faultWordAt_wake p) hown, turnDown_refused]
  refine completes_next ⟨refused_wroteRefused (answering_writeSeen h.1.1 rfl) (portGet_writeSeen_other ..) .., ?_⟩
  rw [wroteRefused_frame]
  rfl

/-- Settles O46. -/
theorem ledgerAndStandby : Obligations.LedgerAndStandby :=
  ⟨fun _ _ _ h _ => completes_ldgSourceWrite_same h, fun _ _ _ h _ => completes_ldgSourceWrite h,
    fun _ _ _ h _ => completes_ldgBattremWrite h, fun _ _ _ h _ => completes_ldgBattremWrite_beyond h,
    fun _ _ => completes_lkoSleep_first, fun _ _ => completes_lkoSleep, fun _ _ => completes_lkoSleep_refused,
    fun _ _ => completes_lkoSleep_waking, fun _ _ => completes_lkoWake, fun _ _ _ => completes_lkoWake_beyond⟩

end Machine
end Sys2Proof
end

section
/-! Fatal detections while FATAL stands (chapter 21, chapter 22). -/
namespace Sys2Proof
namespace Machine

set_option Elab.async false

open Safety

/-- A hub whose cores have just disagreed: FATAL entered at this tick by LOCKSTEP_MISMATCH. -/
def afterLockstep : State := raise .sys 4 Tests.hub

/-- FATAL keeps naming the first of two detections of one tick, in the order of their sources. -/
theorem codeEccError_afterLockstep :
    nextHas (fun t => decide (t.fatal.fatal0 = toWord (1 + 32 * 5))) (exec .codeEccError afterLockstep) = false := by
  decide +kernel

/-- Refutes O47: a block still watches at the tick that FATAL was entered; a code ECC error after a lockstep mismatch of
that tick leaves SYS_FATAL0 at the lockstep mismatch. -/
theorem not_hubFaults : ¬ Obligations.HubFaults := by
  rintro ⟨-, -, -, hcode, -⟩
  refine not_completes_of_nextHas _ codeEccError_afterLockstep (fun t ht => ?_) (hcode afterLockstep (by decide +kernel))
  exact decide_eq_true ht.fatal0

end Machine
end Sys2Proof
end

section
/-! A log head outside the ring (chapter 23). -/
namespace Sys2Proof
namespace Machine

set_option Elab.async false

open Safety

/-- A hub with one queued record whose log head names the wear table's sector 856, 512 places behind the ring's first. -/
def headAtWearTable : State :=
  { Tests.hub with
    log := { Tests.hub.log with head := 512, next := 1, queue := [{ seq := 0, type := 1, tick := 4 }] } }

/-- A sector of the wear tables is never retired: the record that needs more than eight retries adds no replacement. -/
theorem logRecordWrite_headAtWearTable :
    nextHas (fun t => decide
        (t.log.remap = headAtWearTable.log.remap ++ [(physSector headAtWearTable 164 (344 + headAtWearTable.log.head), 860)]))
      (exec (.logRecordWrite 9) headAtWearTable) = false := by
  decide +kernel

/-- Refutes O48: the statement bounds no head; with the head's sector among those never retired (R788, R791), a record whose
write fails leaves the remap list as it is. -/
theorem not_eventLog : ¬ Obligations.EventLog := by
  rintro ⟨-, -, -, hretired, -⟩
  refine not_completes_of_nextHas _ logRecordWrite_headAtWearTable (fun t ht => ?_)
    (hretired { seq := 0, type := 1, tick := 4 } [] 9 860 headAtWearTable rfl (by decide +kernel) (by decide +kernel)
      (by decide) (by decide +kernel) (by decide +kernel) (by decide +kernel) (by decide +kernel) (by decide))
  obtain ⟨-, hremap, -, -⟩ := ht
  exact decide_eq_true hremap

end Machine
end Sys2Proof
end

section
/-! Staging an image from a host and writing it (chapter 25). -/
namespace Sys2Proof
namespace Machine

set_option Elab.async false

open Safety

/-! ### Writes of a command word -/

/-- What an admitted write of a command word leaves: its answer, and the state that its block went to. -/
structure CommandTaken (s : State) (p : Port) (a : Nat) (u t : State) : Prop where
  owes : Owes t p .ok a 0
  answers : PortsAnswer s t p
  frame : t = { u with ports := t.ports }

/-- What a refused write of a command word leaves. -/
structure CommandDeclined (s : State) (p : Port) (a reason : Nat) (u t : State) : Prop where
  refused : Refused s t p a reason
  frame : t = { u with ports := t.ports }

section
variable {p : Port} {a : Nat} {w : Word} {s u : State} (h : WriteAdmitted s p a) (hcommand : accOf a = .wo)
  (hfault : faultWordAt p a = none)
include h hcommand hfault

theorem commandTaken (hshadow : shadowWord a = false) (hpreset : a ≠ 0x08F) 
    (hown : writeOwn p a w.toNat (writeSeen p a w.toNat s) = (0, u)) (hports : u.ports = (writeSeen p a w.toNat s).ports) :
    CommandTaken s p a u (wordFrame p a w s) := by
  have hopen : openAcc a = true := by rw [openAcc, hcommand]
  have hframe : wordFrame p a w s = wroteOk p a u := wordFrame_ok h hopen hfault hshadow hpreset hown
  have howes := owes_wroteOk (answering_writeSeen h.1.1 hports) a
  rw [shownWord_of_command (.inr hcommand)] at howes
  rw [hframe]
  exact ⟨howes, portsAnswer_wroteOk hports, wroteOk_frame ..⟩

theorem commandDeclined {n : Nat} (hown : writeOwn p a w.toNat (writeSeen p a w.toNat s) = (n + 1, u))
    (hports : u.ports = (writeSeen p a w.toNat s).ports) :
    CommandDeclined s p a (n + 1) u (wordFrame p a w s) := by
  have hopen : openAcc a = true := by rw [openAcc, hcommand]
  rw [wordFrame_refused h hopen hfault hown, turnDown_refused]
  refine ⟨refused_wroteRefused (answering_writeSeen h.1.1 hports) ?_ a _, wroteRefused_frame ..⟩
  rw [portGet_of_ports hports, portGet_writeSeen_other]

end

/-! ### UPD_CMD -/

theorem faultWordAt_updCmd (p : Port) : faultWordAt p 0x682 = none := by cases p <;> decide

theorem writeOwn_updCmd (p : Port) (v : Nat) (s : State) : writeOwn p 0x682 v s = writeUpdCmd p v s := rfl

theorem updCmdTaken {p : Port} {w : Word} {s u : State} (h : WriteAdmitted s p 0x682)
    (hown : writeUpdCmd p w.toNat (writeSeen p 0x682 w.toNat s) = (0, u))
    (hports : u.ports = (writeSeen p 0x682 w.toNat s).ports) : CommandTaken s p 0x682 u (wordFrame p 0x682 w s) :=
  commandTaken h (by decide) (faultWordAt_updCmd p) (by decide) (by decide) hown hports

theorem updCmdDeclined {p : Port} {w : Word} {n : Nat} {s u : State} (h : WriteAdmitted s p 0x682)
    (hown : writeUpdCmd p w.toNat (writeSeen p 0x682 w.toNat s) = (n + 1, u))
    (hports : u.ports = (writeSeen p 0x682 w.toNat s).ports) :
    CommandDeclined s p 0x682 (n + 1) u (wordFrame p 0x682 w s) :=
  commandDeclined h (by decide) (faultWordAt_updCmd p) hown hports

/-- The command word of OPEN carries the target. -/
theorem openWord_parts (data : Word) :
    (withCode 0 3 1 data).toNat % 8 = 1 ∧ (withCode 0 3 1 data).toNat / 8 % 8 = data.toNat / 8 % 8 := by
  have hlt : data.toNat < 1024 := data.isLt
  have hsmall : 1 + data.toNat / 8 * 8 < 1024 := by omega
  have hval : (withCode 0 3 1 data).toNat = 1 + data.toNat / 8 * 8 := by
    simp [withCode, toWord, Nat.mod_one, Nat.mod_eq_of_lt hsmall]
  rw [hval]
  omega

theorem writeUpdCmd_open {p : Port} {v c : Nat} (s : State) (hcode : v % 8 = 1) (htarget : v / 8 % 8 = c) :
    writeUpdCmd p v s = if inRange c 1 4 then ruled (openRefusal s p c) (updRefused p (openRefusal s p c) s) (updOpen p c s)
      else outOfRange s := by
  unfold writeUpdCmd
  dsimp only
  rw [hcode, htarget, if_pos rfl]

theorem writeUpdCmd_close (p : Port) (s : State) :
    writeUpdCmd p 2 s = if s.upd.owner = .port p then (0, updClose s) else (9, updRefused p 0x11 s) := rfl

theorem writeUpdCmd_discard (p : Port) (s : State) :
    writeUpdCmd p 3 s = if (pendingBank s).isSome then (0, updDiscard s) else (9, updRefused p 0x14 s) := rfl

theorem writeUpdCmd_exit (p : Port) (s : State) :
    writeUpdCmd p 4 s = if s.sys.state = .recovery then (0, updExit s) else (9, updRefused p 0x14 s) := rfl

theorem writeUpdCmd_hold (p : Port) (s : State) :
    writeUpdCmd p 5 s = if s.sys.state = .recovery then (0, updHold s) else (9, updRefused p 0x14 s) := rfl

theorem exec_updOpen (p : Port) (data : Word) (s : State) :
    exec (.updOpen p data none) s = .next (wordFrame p 0x682 (withCode 0 3 1 data) s) := rfl

theorem completes_updOpen {p : Port} {data : Word} {s : State} (h : WriteAdmitted s p 0x682)
    (hrange : inRange (data.toNat / 8 % 8) 1 4 = true) (hfree : openRefusal s p (data.toNat / 8 % 8) = 0) :
    Completes (exec (.updOpen p data none) s) fun t =>
      t = { s with
        upd := { s.upd with phase := 1, owner := .port p, target := data.toNat / 8 % 8, room := 64, window := []
                            image := [], count := 0, fetch := [], eraseDue := false }
        ports := t.ports } ∧ PortsAnswer s t p ∧ Owes t p .ok 0x682 0 := by
  obtain ⟨hcode, htarget⟩ := openWord_parts data
  generalize data.toNat / 8 % 8 = c at *
  set w := withCode 0 3 1 data with hw
  have hown : writeUpdCmd p w.toNat (writeSeen p 0x682 w.toNat s) = (0, updOpen p c (writeSeen p 0x682 w.toNat s)) := by
    rw [writeUpdCmd_open _ hcode htarget, if_pos hrange]
    exact if_pos hfree
  obtain ⟨howes, hanswers, hframe⟩ := updCmdTaken h hown rfl
  rw [exec_updOpen]
  exact completes_next ⟨hframe, hanswers, howes⟩

theorem completes_updOpen_refused {p : Port} {data : Word} {s : State} (h : WriteAdmitted s p 0x682)
    (hwhy : inRange (data.toNat / 8 % 8) 1 4 = false ∨ openRefusal s p (data.toNat / 8 % 8) ≠ 0) :
    Completes (exec (.updOpen p data none) s) fun t =>
      Refused s t p 0x682 (if inRange (data.toNat / 8 % 8) 1 4 then 9 else 2) ∧
      t = { s with ports := t.ports, upd := t.upd } ∧
      t.upd = (if inRange (data.toNat / 8 % 8) 1 4 then
        { s.upd with refuse := openRefusal s p (data.toNat / 8 % 8), refusePort := p } else s.upd) := by
  obtain ⟨hcode, htarget⟩ := openWord_parts data
  generalize data.toNat / 8 % 8 = c at *
  set w := withCode 0 3 1 data with hw
  have hown := writeUpdCmd_open (p := p) (writeSeen p 0x682 w.toNat s) hcode htarget
  rw [exec_updOpen]
  cases hrange : inRange c 1 4 with
  | true =>
    have hrefused : openRefusal s p c ≠ 0 := hwhy.resolve_left (by rw [hrange]; nofun)
    rw [hrange, if_pos rfl] at hown
    replace hown := hown.trans (if_neg hrefused)
    obtain ⟨hturned, hframe⟩ := updCmdDeclined h hown rfl
    refine completes_next ⟨hturned, ?_, ?_⟩
    all_goals rw [hframe]
    all_goals rfl
  | false =>
    rw [hrange, if_neg Bool.false_ne_true] at hown
    obtain ⟨hturned, hframe⟩ := updCmdDeclined (n := 1) h hown rfl
    refine completes_next ⟨hturned, ?_, ?_⟩
    all_goals rw [hframe]
    all_goals rfl

theorem updRefuses {p : Port} {w : Word} {why : Nat} {s : State} (h : WriteAdmitted s p 0x682)
    (hown : writeUpdCmd p w.toNat (writeSeen p 0x682 w.toNat s) = (9, updRefused p why (writeSeen p 0x682 w.toNat s))) :
    Completes (.next (wordFrame p 0x682 w s)) fun t => UpdRefuses s p why t := by
  obtain ⟨hturned, hframe⟩ := updCmdDeclined (n := 8) h hown rfl
  exact completes_next ⟨hturned, hframe⟩

/-! ### CLOSE and EXIT -/

theorem updDrop_words (u : Upd) : (updDrop u).owner = .none ∧ (updDrop u).phase = 0 ∧ (updDrop u).image = [] ∧
    (inRange u.phase 1 3 = true → (updDrop u).reason = 0x15 ∧ (updDrop u).resTarget = u.target) := by
  refine ⟨rfl, rfl, rfl, fun hphase => ?_⟩
  rw [updDrop, if_pos hphase]
  exact ⟨rfl, rfl⟩

theorem completes_updClose {p : Port} {s : State} (h : WriteAdmitted s p 0x682) (hown : s.upd.owner = .port p)
    (hst : s.sys.state ≠ .recovery) :
    Completes (exec (.updClose p) s) fun t =>
      t = { s with upd := t.upd, ports := t.ports } ∧ t.upd.owner = .none ∧ t.upd.phase = 0 ∧ t.upd.image = [] ∧
      (inRange s.upd.phase 1 3 = true → t.upd.reason = 0x15 ∧ t.upd.resTarget = s.upd.target) ∧
      Owes t p .ok 0x682 0 := by
  set v := writeSeen p 0x682 2 s with hv
  have hclose : updClose v = { v with upd := updDrop v.upd } := if_neg fun hc => hst hc.1
  have hword : writeUpdCmd p 2 v = (0, { v with upd := updDrop v.upd }) := by
    rw [writeUpdCmd_close, hclose]
    exact if_pos hown
  obtain ⟨howes, -, hframe⟩ := updCmdTaken (w := 2) h hword rfl
  obtain ⟨howner, hphase, himage, hresult⟩ := updDrop_words s.upd
  have hexec : exec (.updClose p) s = .next (wordFrame p 0x682 2 s) := rfl
  have hupd : (wordFrame p 0x682 2 s).upd = updDrop s.upd := congrArg State.upd hframe
  rw [hexec]
  refine completes_next ⟨?_, ?_, ?_, ?_, ?_, howes⟩
  · rw [hupd]
    exact hframe
  all_goals rw [hupd]
  exacts [howner, hphase, himage, hresult]

/-- A write of UPD_CMD that ends RECOVERY: the port is silent in RESET. -/
theorem wordFrame_updRestart {p : Port} {w : Word} {s v : State} (h : WriteAdmitted s p 0x682)
    (hown : writeUpdCmd p w.toNat (writeSeen p 0x682 w.toNat s) = (0, warmReset 3 0 .none v)) :
    wordFrame p 0x682 w s = warmReset 3 0 .none v := by
  have hframe := wordFrame_ok h (by decide) (faultWordAt_updCmd p) (by decide) (by decide) hown
  obtain ⟨hports, -⟩ := warmReset_restart 3 v
  have hdumb : (portGet (warmReset 3 0 .none v) p).answering = false := by
    rw [portGet, hports]
    cases p <;> rfl
  rw [hframe, respond, respondAs, hdumb, if_neg Bool.false_ne_true]

theorem flashKept_from {s v t : State} (h : FlashKept v t) (hflash : flash v = flash s) (hotp : v.rnd.otp = s.rnd.otp)
    (hrig : v.rig = s.rig) : FlashKept s t := by
  have hbanks : RigBanksKept s t := fun hidle => by
    rw [← hrig] at hidle ⊢
    exact ⟨h.rigA hidle, h.rigB hidle⟩
  refine flashKept_of_flash (h.otp.trans hotp) (Eq.trans ?_ hflash) hbanks
  rw [flash, h.bankA, h.bankB, h.store0, h.store1, h.setA, h.setB, h.ring, h.snaps, h.sats, flash]

/-- What RESET shows once RECOVERY has ended. -/
theorem recovery_restarted {s v t : State} (ht : t = warmReset 3 0 .none v) (hflash : flash v = flash s)
    (hotp : v.rnd.otp = s.rnd.otp) (hrig : v.rig = s.rig) :
    t.sys.state = .reset ∧ t.start.nextCause = 3 ∧ FlashKept s t := by
  obtain ⟨-, -, -, -, hkept⟩ := warmReset_restart 3 v
  obtain ⟨-, -, -, hstate, hcause, -⟩ := warmReset_words 3 0 .none v
  rw [ht]
  exact ⟨hstate, hcause, flashKept_from hkept hflash hotp hrig⟩

theorem warmRestart_of_recovery {s : State} (hst : s.sys.state = .recovery) : warmRestart 3 0 s = warmReset 3 0 .none s := by
  rw [warmRestart, if_pos]
  simp [canWarm, hst]

theorem completes_updExit {p : Port} {s : State} (h : WriteAdmitted s p 0x682) (hst : s.sys.state = .recovery) :
    Completes (exec (.updExit p) s) fun t => t.sys.state = .reset ∧ t.start.nextCause = 3 ∧ FlashKept s t := by
  set v := writeSeen p 0x682 4 s with hv
  have hst' : v.sys.state = .recovery := hst
  have hword : writeUpdCmd p 4 v = (0, warmReset 3 0 .none v) := by
    rw [writeUpdCmd_exit, if_pos hst', updExit, warmRestart_of_recovery hst']
  exact completes_next (recovery_restarted (wordFrame_updRestart (w := 4) h hword) rfl rfl rfl)

theorem completes_updClose_recovery {p : Port} {s : State} (h : WriteAdmitted s p 0x682) (hown : s.upd.owner = .port p)
    (hst : s.sys.state = .recovery) (hwrote : s.upd.wrote = true) (hhold : s.upd.hold = false) (horders : s.ord.orders = []) :
    Completes (exec (.updClose p) s) fun t => t.sys.state = .reset ∧ t.start.nextCause = 3 ∧ FlashKept s t := by
  set v := writeSeen p 0x682 2 s with hv
  set u : State := { v with upd := updDrop v.upd } with hu
  obtain ⟨howner, hphase, -, -⟩ := updDrop_words v.upd
  have hidle : jobRuns u = false := by
    have horders' : u.ord.orders = [] := horders
    have hphase' : u.upd.phase = 0 := hphase
    rw [jobRuns, hphase', horders']
    rfl
  have hkept : (updDrop v.upd).wrote = true ∧ (updDrop v.upd).hold = false := by
    unfold updDrop
    split
    all_goals exact ⟨hwrote, hhold⟩
  have hend : updClose v = warmReset 3 0 .none u := by
    rw [updClose, recoveryCheck, if_pos ⟨hst, hkept.1, howner, hkept.2, hidle⟩]
    exact warmRestart_of_recovery hst
  have hword : writeUpdCmd p 2 v = (0, warmReset 3 0 .none u) := by
    rw [writeUpdCmd_close, hend]
    exact if_pos hown
  have hflash : flash u = flash s := by
    show flash { v with upd := updDrop v.upd } = flash s
    unfold updDrop
    split
    all_goals rfl
  exact completes_next (recovery_restarted (wordFrame_updRestart (w := 2) h hword) hflash rfl rfl)

theorem completes_updHold {p : Port} {s : State} (h : WriteAdmitted s p 0x682) (hst : s.sys.state = .recovery) :
    Completes (exec (.updHold p) s) fun t =>
      t = { s with upd := { s.upd with hold := true }, ports := t.ports } ∧ Owes t p .ok 0x682 0 := by
  have hword : writeUpdCmd p 5 (writeSeen p 0x682 5 s) = (0, updHold (writeSeen p 0x682 5 s)) := if_pos hst
  obtain ⟨howes, -, hframe⟩ := updCmdTaken (w := 5) h hword rfl
  exact completes_next ⟨hframe, howes⟩

/-! ### DISCARD -/

theorem pendingBank_le {s : State} {n : Nat} (h : pendingBank s = some n) : n = 0 ∨ n = 1 := by
  have hmem := List.mem_of_find?_eq_some h
  simpa using hmem

theorem fwBank_setFwBank {n : Nat} (hn : n = 0 ∨ n = 1) (b : FwBank) (s : State) :
    fwBank (setFwBank n b s) n = b ∧ fwBank (setFwBank n b s) (1 - n) = fwBank s (1 - n) := by
  rcases hn with rfl | rfl
  all_goals exact ⟨rfl, rfl⟩

theorem setFwBank_frame (n : Nat) (b : FwBank) (s : State) : setFwBank n b s =
    { s with upd := { s.upd with bankA := (setFwBank n b s).upd.bankA, bankB := (setFwBank n b s).upd.bankB } } := by
  unfold setFwBank
  split
  all_goals rfl

section
variable {p : Port} {n : Nat} {s : State} (h : WriteAdmitted s p 0x682) (hpending : pendingBank s = some n)
include h hpending

theorem writeUpdCmd_discard_pending : writeUpdCmd p 3 (writeSeen p 0x682 3 s) =
    (0, if s.sup.pf then { writeSeen p 0x682 3 s with upd := { s.upd with discardDue := true } }
      else setFwBank n { fwBank s n with rejected := true } (writeSeen p 0x682 3 s)) := by
  have hpending' : pendingBank (writeSeen p 0x682 3 s) = some n := hpending
  rw [writeUpdCmd_discard, updDiscard, hpending']
  rfl

theorem completes_updDiscard (hcalm : s.sup.pf = false) :
    Completes (exec (.updDiscard p) s) fun t =>
      fwBank t n = { fwBank s n with rejected := true } ∧ fwBank t (1 - n) = fwBank s (1 - n) ∧
      t = { s with upd := { s.upd with bankA := t.upd.bankA, bankB := t.upd.bankB }, ports := t.ports } ∧
      Owes t p .ok 0x682 0 := by
  have hword := writeUpdCmd_discard_pending h hpending
  rw [hcalm, if_neg Bool.false_ne_true] at hword
  set v := writeSeen p 0x682 3 s with hv
  set b : FwBank := { fwBank s n with rejected := true } with hb
  obtain ⟨hbank, hother⟩ := fwBank_setFwBank (pendingBank_le hpending) b v
  have hkept := setFwBank_frame n b v
  have hports : (setFwBank n b v).ports = v.ports := by rw [hkept]
  obtain ⟨howes, -, hframe⟩ := updCmdTaken (w := 3) h hword hports
  have hexec : exec (.updDiscard p) s = .next (wordFrame p 0x682 3 s) := rfl
  rw [hexec]
  generalize wordFrame p 0x682 3 s = t at *
  have hupd : t.upd = (setFwBank n b v).upd := by rw [hframe]
  refine completes_next ⟨?_, ?_, ?_, howes⟩
  · rw [fwBank, hupd]
    exact hbank
  · rw [fwBank, hupd]
    exact hother
  · rw [hupd, hframe, hkept]
    rfl

theorem completes_updDiscard_pf (hpf : s.sup.pf = true) :
    Completes (exec (.updDiscard p) s) fun t =>
      t = { s with upd := { s.upd with discardDue := true }, ports := t.ports } ∧ Owes t p .ok 0x682 0 := by
  have hword := writeUpdCmd_discard_pending h hpending
  rw [hpf, if_pos rfl] at hword
  obtain ⟨howes, -, hframe⟩ := updCmdTaken (w := 3) h hword rfl
  exact completes_next ⟨hframe, howes⟩

end

theorem completes_updDiscard_none {p : Port} {s : State} (h : WriteAdmitted s p 0x682) (hnone : pendingBank s = none) :
    Completes (exec (.updDiscard p) s) fun t => UpdRefuses s p 0x14 t := by
  have hnone' : ¬ (pendingBank (writeSeen p 0x682 3 s)).isSome = true := fun hsome => by
    have hsame : pendingBank (writeSeen p 0x682 3 s) = pendingBank s := rfl
    rw [hsame, hnone] at hsome
    cases hsome
  exact updRefuses (w := 3) h (if_neg hnone')

/-! ### UPD_PUSH -/

theorem faultWordAt_updPush (p : Port) : faultWordAt p 0x6BF = none := by cases p <;> decide

theorem writeOwn_updPush {p : Port} {n : Nat} (hn : inRange n 1 64 = true) (s : State) :
    writeOwn p 0x6BF n s = ruled (pushRefused s p n) (updRefused p (pushRefused s p n) s) (updPush n s) := if_pos hn

/-- The bytes of the window that a push takes. -/
def pushBytes (u : Upd) (n : Nat) : List Byte := (List.range n).map fun k => (tblGet 0 u.window k).setWidth 8

/-- The update block once a push's bytes have joined the image. -/
def imageJoined (u : Upd) (n : Nat) : Upd :=
  { u with image := tblWriteBytes 0xFF u.image u.count (pushBytes u n), count := u.count + n, room := u.room - 1 }

/-- What a push does once its bytes have joined the image, and the header has been checked. -/
def pushGoesOn (s : State) : State :=
  if s.upd.phase ≠ 1 ∨ s.upd.count < 1024 then s
  else
    let whole := 1024 + payloadLen s.upd.image
    let s := if s.sup.pf then s else { s with upd := { s.upd with room := 64 } }
    if whole ≤ s.upd.count then
      { s with upd := { s.upd with
        phase := 2, count := whole, image := s.upd.image.filter (fun e => decide (e.1 < whole)) } }
    else s

theorem updPush_eq (n : Nat) (s : State) : updPush n s =
    pushGoesOn (if s.upd.count < 1024 ∧ 1024 ≤ s.upd.count + n then earlyCheck { s with upd := imageJoined s.upd n }
      else { s with upd := imageJoined s.upd n }) := rfl

theorem updPush_early {n : Nat} {s : State} (h : s.upd.count + n < 1024) :
    updPush n s = { s with upd := imageJoined s.upd n } := by
  rw [updPush_eq, if_neg fun hc => absurd hc.2 (by omega)]
  exact if_pos (.inr h)

theorem tblBytes_tblSet_above (d b : Byte) (t : Tbl Byte) {lo k : Nat} : ∀ {n : Nat}, lo + n ≤ k →
    tblBytes d (tblSet d t k b) lo n = tblBytes d t lo n := by
  intro n
  induction n generalizing lo with
  | zero => exact fun _ => rfl
  | succ n ih =>
    intro hk
    rw [tblBytes, tblBytes, tblGet_tblSet, if_neg (by omega), ih (by omega)]

/-- Bytes written above a field leave it. -/
theorem tblBytes_tblWriteBytes_above (d : Byte) {lo n : Nat} : ∀ (l : List Byte) (t : Tbl Byte) {k : Nat}, lo + n ≤ k →
    tblBytes d (tblWriteBytes d t k l) lo n = tblBytes d t lo n
  | [], _, _, _ => rfl
  | b :: l, t, k, hk => by
    rw [tblWriteBytes, tblBytes_tblWriteBytes_above d l _ (by omega), tblBytes_tblSet_above d b t hk]

theorem payloadLen_imageJoined {u : Upd} (h : 1024 ≤ u.count) (n : Nat) :
    payloadLen (imageJoined u n).image = payloadLen u.image :=
  congrArg leNat (tblBytes_tblWriteBytes_above 0xFF _ _ (by omega))

/-- The last byte of an image starts its checks; the place is free again but during a power failure. -/
theorem updPush_last {n : Nat} {s : State} (hphase : s.upd.phase = 1) (hcount : 1024 ≤ s.upd.count)
    (hlast : s.upd.count + n = 1024 + payloadLen s.upd.image) :
    (updPush n s).upd.phase = 2 ∧ (updPush n s).upd.count = s.upd.count + n ∧ (updPush n s).upd.owner = s.upd.owner ∧
    (s.sup.pf = false → (updPush n s).upd.room = 64) ∧ (s.sup.pf = true → (updPush n s).upd.room = s.upd.room - 1) ∧
    updPush n s = { s with upd := (updPush n s).upd } := by
  have hlen : payloadLen (imageJoined s.upd n).image = payloadLen s.upd.image := payloadLen_imageJoined hcount n
  rw [updPush_eq, if_neg fun hc => absurd hc.1 (by omega)]
  set u := imageJoined s.upd n with hu
  have hwhole : u.count = 1024 + payloadLen u.image := hlast.trans (by rw [hlen])
  have hfull : ¬ (u.phase ≠ 1 ∨ u.count < 1024) := fun hc => hc.elim (fun hc => hc hphase) fun hc => by omega
  have hgoes : ∀ pf, s.sup.pf = pf → pushGoesOn { s with upd := u } = { s with upd := { u with
      room := if pf then u.room else 64, phase := 2, count := 1024 + payloadLen u.image
      image := u.image.filter fun e => decide (e.1 < 1024 + payloadLen u.image) } } := by
    intro pf hpf
    rw [pushGoesOn, if_neg hfull]
    dsimp only
    rw [hpf]
    cases pf
    all_goals exact if_pos hwhole.ge
  rw [hgoes _ rfl]
  refine ⟨rfl, hwhole.symm, rfl, fun hpf => ?_, fun hpf => ?_, rfl⟩
  all_goals rw [hpf]
  all_goals rfl

section
variable {p : Port} {data : Word} {s : State} (h : WriteAdmitted s p 0x6BF) (hn : inRange data.toNat 1 64 = true)
include h hn

theorem updPushTaken (hfree : pushRefused s p data.toNat = 0) {u : State}
    (hu : updPush data.toNat (writeSeen p 0x6BF data.toNat s) = u) (hports : u.ports = (writeSeen p 0x6BF data.toNat s).ports) :
    CommandTaken s p 0x6BF u (wordFrame p 0x6BF data s) := by
  refine commandTaken h (by decide) (faultWordAt_updPush p) (by decide) (by decide) ?_ hports
  rw [writeOwn_updPush hn, ← hu]
  exact if_pos hfree

theorem completes_updPush_early (hfree : pushRefused s p data.toNat = 0) (hcount : s.upd.count + data.toNat < 1024) :
    Completes (exec (.updPush p data) s) fun t =>
      t = { s with
        upd := { s.upd with
          count := s.upd.count + data.toNat, room := s.upd.room - 1
          image := tblWriteBytes 0xFF s.upd.image s.upd.count
            ((List.range data.toNat).map (fun k => (tblGet 0 s.upd.window k).setWidth 8)) }
        ports := t.ports } ∧ PortsAnswer s t p ∧ Owes t p .ok 0x6BF 0 := by
  have hpush : updPush data.toNat (writeSeen p 0x6BF data.toNat s) = _ := updPush_early hcount
  obtain ⟨howes, hanswers, hframe⟩ := updPushTaken h hn hfree hpush rfl
  exact completes_next ⟨hframe, hanswers, howes⟩

theorem completes_updPush_last (hfree : pushRefused s p data.toNat = 0) (hcount : 1024 ≤ s.upd.count)
    (hlast : s.upd.count + data.toNat = 1024 + payloadLen s.upd.image) :
    Completes (exec (.updPush p data) s) fun t =>
      t.upd.phase = 2 ∧ t.upd.count = s.upd.count + data.toNat ∧ t.upd.owner = s.upd.owner ∧ Owes t p .ok 0x6BF 0 ∧
      (s.sup.pf = false → t.upd.room = 64) ∧ (s.sup.pf = true → t.upd.room = s.upd.room - 1) ∧
      t = { s with upd := t.upd, ports := t.ports } := by
  have hphase : s.upd.phase = 1 := by
    unfold pushRefused at hfree
    dsimp only at hfree
    by_contra hne
    split_ifs at hfree
  set v := writeSeen p 0x6BF data.toNat s with hv
  obtain ⟨h1, h2, h3, h4, h5, hkept⟩ := updPush_last (s := v) hphase hcount hlast
  have hports : (updPush data.toNat v).ports = v.ports := by rw [hkept]
  obtain ⟨howes, -, hframe⟩ := updPushTaken h hn hfree rfl hports
  have hexec : exec (.updPush p data) s = .next (wordFrame p 0x6BF data s) := rfl
  rw [hexec]
  generalize wordFrame p 0x6BF data s = t at *
  have hupd : t.upd = (updPush data.toNat v).upd := by rw [hframe]
  refine completes_next ⟨?_, ?_, ?_, howes, ?_, ?_, ?_⟩
  · exact hupd ▸ h1
  · exact hupd ▸ h2
  · exact hupd ▸ h3
  · exact hupd ▸ h4
  · exact hupd ▸ h5
  · rw [hupd, hframe, hkept]
    rfl

theorem completes_updPush_refused (hwhy : pushRefused s p data.toNat ≠ 0) :
    Completes (exec (.updPush p data) s) fun t =>
      Refused s t p 0x6BF 9 ∧
      t = { s with upd := { s.upd with refuse := pushRefused s p data.toNat, refusePort := p }, ports := t.ports } := by
  have hword : writeOwn p 0x6BF data.toNat (writeSeen p 0x6BF data.toNat s) =
      (8 + 1, updRefused p (pushRefused s p data.toNat) (writeSeen p 0x6BF data.toNat s)) := by
    rw [writeOwn_updPush hn]
    exact if_neg hwhy
  obtain ⟨hturned, hframe⟩ := commandDeclined h (by decide) (faultWordAt_updPush p) hword rfl
  exact completes_next ⟨hturned, hframe⟩

end

/-! ### The end of a write -/

theorem exec_imageWriteDone {s : State} (hphase : s.upd.phase = 2) (hcalm : s.sup.pf = false) :
    exec (.imageWriteDone []) s = .next (hostWritten true s) := by
  show execImageWriteDone [] s = _
  have hnot : ¬ (s.sup.pf = true ∨ (s.upd.phase ≠ 2 ∧ s.upd.phase ≠ 3)) := by simp [hcalm, hphase]
  rw [execImageWriteDone, if_neg hnot]
  exact congrArg Host.Outcome.next (if_pos hphase)

theorem exec_imageWriteDone_idle {wear : List (Nat × Nat)} {s : State}
    (h : s.sup.pf = true ∨ (s.upd.phase ≠ 2 ∧ s.upd.phase ≠ 3)) : exec (.imageWriteDone wear) s = .next s := by
  show execImageWriteDone wear s = _
  rw [execImageWriteDone, if_pos h]

/-- The staging buffer is emptied after an image that was not written. -/
def stagingIdle (s : State) : State := { s with upd := { s.upd with phase := 0, image := [], count := 0, room := 64 } }

theorem hostWritten_eq (s : State) : hostWritten true s =
    if (finishImage s.upd.image s).2 = 0 then
      { (finishImage s.upd.image s).1 with upd := { (finishImage s.upd.image s).1.upd with phase := 4 } }
    else stagingIdle (finishImage s.upd.image s).1 := rfl

/-- The generation that a firmware bank is written with. -/
def nextFwGen (u : Upd) : Nat := nextGen u.bankA.generation u.bankA.complement u.bankB.generation u.bankB.complement

/-- A firmware bank as it is written. -/
def fwWritten (t : Tbl Byte) (g : Nat) : FwBank := { image := t, generation := g, complement := 0xFFFFFFFF - g, written := true }

theorem completeImage_fw {t : Tbl Byte} {s : State} (hhash : hashOk t = true) (htarget : imageTarget t = 1)
    (hgen : nextFwGen s.upd < 0xFFFFFFFF) :
    completeImage t s = (setFwBank (fwTarget s) (fwWritten t (nextFwGen s.upd)) s, 0) := by
  unfold completeImage
  rw [hhash, htarget]
  exact if_neg (by exact Nat.not_le.mpr hgen)

theorem finishImage_fw {t : Tbl Byte} {s : State} (hhash : hashOk t = true) (htarget : imageTarget t = 1)
    (hgen : nextFwGen s.upd < 0xFFFFFFFF) (hst : s.sys.state ≠ .recovery) :
    finishImage t s = (queueUpdate 0 1 (imageVersion t) 0
      (jobResult 0 1 (setFwBank (fwTarget s) (fwWritten t (nextFwGen s.upd)) s)), 0) := by
  unfold finishImage
  rw [completeImage_fw hhash htarget hgen, htarget]
  have hst' : (setFwBank (fwTarget s) (fwWritten t (nextFwGen s.upd)) s).sys.state ≠ .recovery := by
    rw [setFwBank_frame]
    exact hst
  dsimp only
  rw [if_pos rfl, if_neg (by decide : ¬ (1 : Nat) = 3), if_neg hst', if_neg hst']

theorem completes_imageWriteDone {s : State} (hphase : s.upd.phase = 2) (hcalm : s.sup.pf = false)
    (hst : s.sys.state ≠ .recovery) (hhash : hashOk s.upd.image = true) (htarget : imageTarget s.upd.image = 1)
    (hgen : nextFwGen s.upd < 0xFFFFFFFF) :
    Completes (exec (.imageWriteDone []) s) fun t =>
      t.upd.phase = 4 ∧ t.upd.reason = 0 ∧
      (s.upd.runBank ≤ 1 → fwBank t (1 - s.upd.runBank) = fwWritten s.upd.image (nextFwGen s.upd) ∧
        fwBank t s.upd.runBank = fwBank s s.upd.runBank) ∧
      t = { s with upd := t.upd, log := t.log } := by
  rw [exec_imageWriteDone hphase hcalm, hostWritten_eq, finishImage_fw hhash htarget hgen hst, if_pos rfl, queueUpdate,
    queueRec_frame]
  have htgt : fwTarget s = 1 - s.upd.runBank := if_neg hst
  rw [htgt]
  generalize (queueRec _ _ _).log = l
  generalize fwWritten s.upd.image (nextFwGen s.upd) = b
  have hframe := setFwBank_frame (1 - s.upd.runBank) b s
  have hbank := fwBank_setFwBank (n := 1 - s.upd.runBank) (by omega) b s
  generalize setFwBank (1 - s.upd.runBank) b s = u at *
  refine completes_next ⟨rfl, rfl, fun hrun => ⟨hbank.1, ?_⟩, ?_⟩
  · have hother := hbank.2
    rw [show 1 - (1 - s.upd.runBank) = s.upd.runBank by omega] at hother
    exact hother
  · rw [hframe]
    rfl

theorem finishImage_badHash {t : Tbl Byte} {s : State} (hhash : hashOk t = false) :
    finishImage t s = (rejectImage t 0x0C s, 0x0C) := by
  have hcomplete : completeImage t s = (s, 0x0C) := by
    rw [completeImage, hhash]
    rfl
  rw [finishImage, hcomplete]
  rfl

theorem completes_imageWriteDone_badHash {s : State} (hphase : s.upd.phase = 2) (hcalm : s.sup.pf = false)
    (hhash : hashOk s.upd.image = false) (hlive : Live s) :
    Completes (exec (.imageWriteDone []) s) fun t =>
      t.upd.phase = 0 ∧ t.upd.reason = 0x0C ∧ t.upd.image = [] ∧ t.upd.bankA = s.upd.bankA ∧ t.upd.bankB = s.upd.bankB ∧
      t.fb.upd.fst.getLsbD 0 = true := by
  rw [exec_imageWriteDone hphase hcalm, hostWritten_eq, finishImage_badHash hhash, if_neg (by nofun), rejectImage, queueUpdate,
    queueRec_frame]
  generalize (queueRec _ _ _).log = l
  set u : State := { jobResult 0x0C (imageTarget s.upd.image) s with log := l } with hu
  have hraised : Raised .upd 0 u (raise .upd 0 u) := raised_raise hlive (.inl (by decide))
  have hbit := bit_of_raised (by decide) hraised
  have hframe : (raise .upd 0 u).upd = u.upd := by rw [hraised.frame]
  generalize raise .upd 0 u = v at *
  refine completes_next ⟨rfl, ?_, rfl, ?_, ?_, hbit⟩
  · exact congrArg Upd.reason hframe
  · show v.upd.bankA = _
    rw [hframe, hu, jobResult]
  · show v.upd.bankB = _
    rw [hframe, hu, jobResult]

/-- Settles O49. -/
theorem updateStaging : Obligations.UpdateStaging :=
  ⟨fun _ _ _ => completes_updOpen, fun _ _ _ => completes_updOpen_refused, fun _ _ => completes_updClose,
    fun _ _ => completes_updClose_recovery,
    fun _ _ h hown => updRefuses (w := 2) h (if_neg hown),
    fun _ _ => completes_updDiscard_none,
    fun _ _ h hst => ⟨updRefuses (w := 4) h (if_neg hst), updRefuses (w := 5) h (if_neg hst)⟩,
    fun _ _ _ h hpending => completes_updDiscard h hpending, fun _ _ _ h hpending => completes_updDiscard_pf h hpending,
    fun _ _ h hst => ⟨completes_updExit h hst, completes_updHold h hst⟩,
    fun _ _ _ h hn => completes_updPush_early h hn, fun _ _ _ h hn => completes_updPush_last h hn,
    fun _ _ _ h hn => completes_updPush_refused h hn, fun _ => completes_imageWriteDone,
    fun _ => completes_imageWriteDone_badHash, fun _ s h => ⟨s, exec_imageWriteDone_idle h, rfl⟩⟩

end Machine
end Sys2Proof
end

section
/-! Trials and their confirmation, the service card, satellite updates (chapter 25). -/
namespace Sys2Proof
namespace Machine

set_option Elab.async false

open Safety

/-! ### The end of a trial -/

theorem fwBank_of_upd {s t : State} (hA : t.upd.bankA = s.upd.bankA) (hB : t.upd.bankB = s.upd.bankB) (n : Nat) :
    fwBank t n = fwBank s n := by
  rw [fwBank, fwBank, hA, hB]

theorem queueUpdate_frame (kind target version reason : Nat) (s : State) :
    queueUpdate kind target version reason s = { s with log := (queueUpdate kind target version reason s).log } :=
  queueRec_frame ..

theorem warmReset_start (cause block : Nat) (hold : ResetHold) (s : State) :
    (warmReset cause block hold s).start.nextCause = cause ∧ (warmReset cause block hold s).start.nextBlock = block ∧
    (warmReset cause block hold s).sys.state = .reset ∧ (warmReset cause block hold s).sys.trial = false := ⟨rfl, rfl, rfl, rfl⟩

theorem warmReset_flash (cause block : Nat) (hold : ResetHold) (s : State) :
    (warmReset cause block hold s).upd.bankA = s.upd.bankA ∧ (warmReset cause block hold s).upd.bankB = s.upd.bankB ∧
    (warmReset cause block hold s).rnd.otp = s.rnd.otp := by
  have hcore : core (resetBlocks (resetSafe s)) = core s := by simp
  have hflash : flash (resetBlocks (resetSafe s)) = flash s := by simp
  unfold warmReset
  generalize resetBlocks (resetSafe s) = u at *
  exact ⟨congrArg (fun f => (Flash.banks f).1) hflash, congrArg (fun f => (Flash.banks f).2) hflash, congrArg Core.otp hcore⟩

theorem trialAbandoned_abandonTrial {s : State} (hwarm : canWarm s = true) (hrun : s.upd.runBank ≤ 1) :
    TrialAbandoned s (abandonTrial s) := by
  set b : FwBank := { fwBank s s.upd.runBank with rejected := true } with hb
  set u := setFwBank s.upd.runBank b s with hu
  set v := queueUpdate 9 1 (bankVersion (fwBank s s.upd.runBank)) 0 u with hv
  have hstart : abandonTrial s = warmRestart 2 0x1A v := rfl
  have huframe : u = _ := setFwBank_frame ..
  have hvframe : v = _ := queueUpdate_frame ..
  have hbanks := fwBank_setFwBank (by omega : s.upd.runBank = 0 ∨ s.upd.runBank = 1) b s
  rw [← hu] at hbanks
  have hsys : v.sys = s.sys := by rw [hvframe, huframe]
  have hotp : v.rnd = s.rnd := by rw [hvframe, huframe]
  have hupd : v.upd = u.upd := by rw [hvframe]
  have hwarm' : canWarm v = true := by
    rw [canWarm, hsys]
    exact hwarm
  rw [hstart, warmRestart, if_pos hwarm']
  obtain ⟨hcause, hblock, hst, htrial⟩ := warmReset_start 2 0x1A .none v
  obtain ⟨hA, hB, hstore⟩ := warmReset_flash 2 0x1A .none v
  generalize warmReset 2 0x1A .none v = t at *
  rw [hupd] at hA hB
  have hbank := fwBank_of_upd hA hB
  refine ⟨hst, ⟨hcause, hblock⟩, htrial, ?_, ?_, ?_⟩
  · rw [hbank, hbanks.1]
  · rw [hbank, hbanks.2]
  · rw [hstore, hotp]

theorem completes_trialExpiry {s : State} (htrial : s.sys.trial = true) (halarm : s.sys.alarm = false) (hcalm : s.sup.pf = false)
    (hconfirm : s.upd.confirmDue = false) (hwarm : canWarm s = true) (hrun : s.upd.runBank ≤ 1)
    (hstart : s.upd.trialStart ≠ none) (hdeferred : s.upd.deferred = false) :
    Completes (exec (.trialExpiry false) s) fun t => TrialAbandoned s t := by
  have hsome : s.upd.trialStart.isSome = true := Option.isSome_iff_ne_none.mpr hstart
  have hexec : exec (.trialExpiry false) s = .next (abandonTrial s) := by
    show execTrialExpiry false s = _
    rw [execTrialExpiry, htrial, hsome, hdeferred, hconfirm, halarm, hcalm]
    rfl
  rw [hexec]
  exact completes_next (trialAbandoned_abandonTrial hwarm hrun)

theorem completes_trialExpiry_deferred {s : State} (htrial : s.sys.trial = true) (hstart : s.upd.trialStart ≠ none)
    (hdeferred : s.upd.deferred = false) (hconfirm : s.upd.confirmDue = false) (hwait : s.sys.alarm = true ∨ s.sup.pf = true) :
    Completes (exec (.trialExpiry false) s) fun t => t = { s with upd := { s.upd with deferred := true } } := by
  have hsome : s.upd.trialStart.isSome = true := Option.isSome_iff_ne_none.mpr hstart
  have hwaits : (s.sys.alarm || s.sup.pf) = true := Bool.or_eq_true_iff.mpr hwait
  have hexec : exec (.trialExpiry false) s = .next { s with upd := { s.upd with deferred := true } } := by
    show execTrialExpiry false s = _
    rw [execTrialExpiry, htrial, hsome, hdeferred, hconfirm, hwaits]
    rfl
  rw [hexec]
  exact completes_next rfl

theorem completes_deferredTrialRestart {s : State} (htrial : s.sys.trial = true) (halarm : s.sys.alarm = false)
    (hcalm : s.sup.pf = false) (hconfirm : s.upd.confirmDue = false) (hwarm : canWarm s = true) (hrun : s.upd.runBank ≤ 1)
    (hdeferred : s.upd.deferred = true) : Completes (exec .deferredTrialRestart s) fun t => TrialAbandoned s t := by
  have hdue : trialEndDue s = true := by simp [trialEndDue, htrial, halarm, hcalm, hconfirm, hdeferred]
  have hexec : exec .deferredTrialRestart s = .next (abandonTrial s) := by
    show execDeferredTrialRestart s = _
    rw [execDeferredTrialRestart, if_pos hdue]
  rw [hexec]
  exact completes_next (trialAbandoned_abandonTrial hwarm hrun)

/-! ### The confirmation -/

theorem writeSettings_frame (s : State) : writeSettings s =
    { s with upd := { s.upd with setA := (writeSettings s).upd.setA, setB := (writeSettings s).upd.setB } } := by
  unfold writeSettings
  dsimp only
  split
  · rfl
  · split
    all_goals rfl

theorem raiseFloor_frame (v : Nat) (s : State) :
    raiseFloor v s = { s with log := (raiseFloor v s).log, rnd := (raiseFloor v s).rnd } := by
  unfold raiseFloor
  dsimp only
  split
  · rfl
  · rw [queueUpdate_frame]

theorem otpKept_raiseFloor (v : Nat) (s : State) : OtpKept s.rnd.otp (raiseFloor v s).rnd.otp := by
  unfold raiseFloor
  dsimp only
  split
  · exact otpKept_refl _
  · rw [queueUpdate_frame]
    exact ⟨fun _ => rfl, fun _ => rfl, id, id, id, id, rfl, List.prefix_append ..⟩

/-- The update block once its trial is confirmed, but for the settings. -/
def trialEnded (u : Upd) : Upd := { u with trialStart := none, deferred := false }

/-- What the confirmation leaves of the hub: the trial is over, its bank confirmed. -/
structure Confirmed (s t : State) : Prop where
  sys : t.sys = { s.sys with trial := false }
  window : t.upd.trialStart = none ∧ t.upd.deferred = false
  bank : fwBank t s.upd.runBank = { fwBank s s.upd.runBank with confirmed := true }
  other : fwBank t (1 - s.upd.runBank) = fwBank s (1 - s.upd.runBank)
  otp : OtpKept s.rnd.otp t.rnd.otp
  frame : t = { s with sys := t.sys, upd := t.upd, log := t.log, rnd := t.rnd }

theorem confirmed_confirmNow {s : State} (hrun : s.upd.runBank ≤ 1) : Confirmed s (confirmNow s) := by
  set b : FwBank := { fwBank s s.upd.runBank with confirmed := true } with hb
  set u := setFwBank s.upd.runBank b s with hu
  have hbanks := fwBank_setFwBank (by omega : s.upd.runBank = 0 ∨ s.upd.runBank = 1) b s
  have huframe : u = _ := setFwBank_frame s.upd.runBank b s
  rw [← hu] at hbanks
  set v : State := { u with sys := { u.sys with trial := false }, upd := trialEnded u.upd } with hv
  set w := writeSettings (putSetting 3 (natLe 4 (bankVersion (fwBank s s.upd.runBank)))
    (queueUpdate 3 1 (bankVersion (fwBank s s.upd.runBank)) 0 v)) with hw
  have hend : confirmNow s = if imgField (fwBank s s.upd.runBank).image 7 1 % 2 = 1 then
      raiseFloor (bankVersion (fwBank s s.upd.runBank)) w else w := rfl
  have hwframe : w = { v with upd := { v.upd with settings := w.upd.settings, setA := w.upd.setA, setB := w.upd.setB }
                              log := w.log } := by
    rw [hw, writeSettings_frame, queueUpdate_frame]
    rfl
  have hconfirmed : Confirmed s w := by
    clear_value w
    refine ⟨?_, ⟨?_, ?_⟩, ?_, ?_, ?_, ?_⟩
    · rw [hwframe, hv, huframe]
    · rw [hwframe]
      rfl
    · rw [hwframe]
      rfl
    · rw [hwframe]
      exact hbanks.1
    · rw [hwframe]
      exact hbanks.2
    · rw [hwframe, hv, huframe]
      exact otpKept_refl _
    · rw [hwframe, hv, huframe]
  rw [hend]
  clear_value w
  split
  · have hkept := otpKept_raiseFloor (bankVersion (fwBank s s.upd.runBank)) w
    have hframe := raiseFloor_frame (bankVersion (fwBank s s.upd.runBank)) w
    generalize raiseFloor (bankVersion (fwBank s s.upd.runBank)) w = t at *
    obtain ⟨hsys, hwindow, hbank, hother, hotp, hall⟩ := hconfirmed
    have hupd : t.upd = w.upd := by rw [hframe]
    have hsame := fwBank_of_upd (s := w) (t := t) (by rw [hupd]) (by rw [hupd])
    refine ⟨?_, ?_, ?_, ?_, otpKept_trans hotp hkept, ?_⟩
    · rw [hframe, hsys]
    · rw [hupd]
      exact hwindow
    · rw [hsame, hbank]
    · rw [hsame, hother]
    · rw [hframe, hall]
  · exact hconfirmed

theorem faultWordAt_confirm (p : Port) : faultWordAt p 0x687 = none := by cases p <;> decide

/-- What the completing write of UPD_CONFIRM does. -/
def confirmWrite (p : Port) (s : State) : Wr :=
  if s.sys.trial = true ∧ s.sys.state = .run then (0, confirmTrial s) else (9, updRefused p 0x14 s)

theorem writeOwn_confirm (p : Port) (v : Nat) (s : State) :
    writeOwn p 0x687 v s = keyWrite p 0x687 v 0x25A 0x1A5 (confirmWrite p) s := rfl

theorem completes_updConfirm_first {p : Port} {s : State} (h : WriteAdmitted s p 0x687) (hkey : keyHeld s p 0x687 = false) :
    Completes (exec (.updConfirm p 0x25A) s) fun t =>
      keyHeld t p 0x687 = true ∧ Owes t p .ok 0x687 0 ∧ t = { s with ports := t.ports } := by
  have hexec : exec (.updConfirm p 0x25A) s = .next (wordFrame p 0x687 0x25A s) := rfl
  rw [hexec]
  exact completes_next (wordFrame_keyFirst h (by decide) (faultWordAt_confirm p) (writeOwn_confirm p) (by decide) (by decide)
    (by decide) hkey (by decide))

section
variable {p : Port} {s : State} (h : WriteAdmitted s p 0x687) (hkey : keyHeld s p 0x687 = true)
include h hkey

theorem wordFrame_confirm {u : State} (hdone : confirmWrite p (keyDone p 0x687 0x1A5 s) = (0, u))
    (hports : u.ports = (keyDone p 0x687 0x1A5 s).ports) :
    Owes (wordFrame p 0x687 0x1A5 s) p .ok 0x687 0 ∧
    wordFrame p 0x687 0x1A5 s = { u with ports := (wordFrame p 0x687 0x1A5 s).ports } := by
  have hframe := wordFrame_keyDone (w := 0x1A5) h (by decide) (faultWordAt_confirm p) (writeOwn_confirm p) (by decide)
    (by decide) hkey (by decide) hdone
  have hanswers : (portGet u p).answering = true := by
    rw [portGet_of_ports hports]
    exact answering_keyDone h.1.1 ..
  have howes := owes_wroteOk hanswers 0x687
  rw [shownWord_of_command (.inl (by decide))] at howes
  rw [hframe]
  exact ⟨howes, wroteOk_frame ..⟩

theorem completes_updConfirm (htrial : s.sys.trial = true) (hst : s.sys.state = .run) (hcalm : s.sup.pf = false)
    (hrun : s.upd.runBank ≤ 1) :
    Completes (exec (.updConfirm p 0x1A5) s) fun t =>
      t.sys = { s.sys with trial := false } ∧ t.upd.trialStart = none ∧ t.upd.deferred = false ∧
      fwBank t s.upd.runBank = { fwBank s s.upd.runBank with confirmed := true } ∧
      fwBank t (1 - s.upd.runBank) = fwBank s (1 - s.upd.runBank) ∧ OtpKept s.rnd.otp t.rnd.otp ∧
      Owes t p .ok 0x687 0 ∧ t = { s with sys := t.sys, upd := t.upd, log := t.log, rnd := t.rnd, ports := t.ports } := by
  set v := keyDone p 0x687 0x1A5 s with hv
  obtain ⟨hsys, ⟨hstart, hdeferred⟩, hbank, hother, hotp, hall⟩ := confirmed_confirmNow (s := v) hrun
  have hdone : confirmWrite p v = (0, confirmNow v) := by
    rw [confirmWrite, if_pos ⟨htrial, hst⟩, confirmTrial, if_neg]
    rw [hv, keyDone_frame, hcalm]
    exact Bool.false_ne_true
  have hports : (confirmNow v).ports = v.ports := by rw [hall]
  obtain ⟨howes, hframe⟩ := wordFrame_confirm h hkey hdone hports
  have hexec : exec (.updConfirm p 0x1A5) s = .next (wordFrame p 0x687 0x1A5 s) := rfl
  rw [hexec]
  generalize wordFrame p 0x687 0x1A5 s = t at *
  generalize confirmNow v = u at *
  have htsys : t.sys = u.sys := by rw [hframe]
  have hupd : t.upd = u.upd := by rw [hframe]
  have hrnd : t.rnd = u.rnd := by rw [hframe]
  have hsame := fwBank_of_upd (s := u) (t := t) (by rw [hupd]) (by rw [hupd])
  refine completes_next ⟨htsys.trans hsys, ?_, ?_, (hsame _).trans hbank, (hsame _).trans hother, ?_, howes, ?_⟩
  · rw [hupd, hstart]
  · rw [hupd, hdeferred]
  · rw [hrnd]
    exact hotp
  · rw [hframe, hall]
    rfl

theorem completes_updConfirm_pf (htrial : s.sys.trial = true) (hst : s.sys.state = .run) (hpf : s.sup.pf = true) :
    Completes (exec (.updConfirm p 0x1A5) s) fun t =>
      t = { s with upd := { s.upd with confirmDue := true }, ports := t.ports } ∧ Owes t p .ok 0x687 0 := by
  set v := keyDone p 0x687 0x1A5 s with hv
  have hpf' : v.sup.pf = true := hpf
  have hdone : confirmWrite p v = (0, { v with upd := { v.upd with confirmDue := true } }) := by
    rw [confirmWrite, if_pos ⟨htrial, hst⟩, confirmTrial, if_pos hpf']
  obtain ⟨howes, hframe⟩ := wordFrame_confirm h hkey hdone rfl
  exact completes_next ⟨hframe, howes⟩

theorem completes_updConfirm_refused (hwhy : s.sys.trial = false ∨ s.sys.state ≠ .run) :
    Completes (exec (.updConfirm p 0x1A5) s) fun t =>
      Refused s t p 0x687 9 ∧ t = { s with upd := { s.upd with refuse := 0x14, refusePort := p }, ports := t.ports } := by
  set v := keyDone p 0x687 0x1A5 s with hv
  have hnot : ¬ (v.sys.trial = true ∧ v.sys.state = .run) := fun hc => hwhy.elim
    (fun hoff => absurd (show s.sys.trial = true from hc.1) (by rw [hoff]; exact Bool.false_ne_true)) (fun hne => hne hc.2)
  have hdone : confirmWrite p v = (8 + 1, updRefused p 0x14 v) := by rw [confirmWrite, if_neg hnot]
  have hframe := wordFrame_keyRefused (w := 0x1A5) h (by decide) (faultWordAt_confirm p) (writeOwn_confirm p) hkey
    (by decide) hdone
  have hanswers : (portGet (updRefused p 0x14 v) p).answering = true := answering_keyDone h.1.1 0x687 0x1A5
  have hexec : exec (.updConfirm p 0x1A5) s = .next (wordFrame p 0x687 0x1A5 s) := rfl
  rw [hexec, hframe]
  refine completes_next ⟨refused_wroteRefused hanswers (portGet_keyDone_other p 0x687 0x1A5 s) 0x687 9, ?_⟩
  rw [wroteRefused_frame]
  rfl

end

/-! ### The service card -/

/-- What an erase of target areas may move. -/
def AreasErased (s t : State) : Prop :=
  t = { s with
    upd := { s.upd with
      bankA := t.upd.bankA, bankB := t.upd.bankB, store0 := t.upd.store0, store1 := t.upd.store1, eraseDue := t.upd.eraseDue }
    log := t.log, rig := t.rig, rnd := t.rnd }

theorem areasErased_refl (s : State) : AreasErased s s := rfl

theorem areasErased_trans {s t u : State} (h : AreasErased s t) (h' : AreasErased t u) : AreasErased s u := by
  unfold AreasErased at *
  rw [h']
  rw [h]

theorem eraseSectors_frame (first n last : Nat) (s : State) :
    eraseSectors first n last s = { s with log := (eraseSectors first n last s).log } := by
  unfold eraseSectors
  generalize List.map _ _ ++ _ = l
  induction l generalizing s with
  | nil => rfl
  | cons k l ih =>
    rw [List.foldl_cons, ih]
    rfl

theorem areasErased_setStore (k : Nat) (x : StoreSlot) (s : State) : AreasErased s (setStore k x s) := by
  unfold setStore
  split
  all_goals rfl

theorem areasErased_setRigBank (k : Nat) (x : RigBank) (s : State) : AreasErased s (setRigBank k x s) := by
  unfold setRigBank
  split
  all_goals rfl

theorem areasErased_setFwBank (k : Nat) (x : FwBank) (s : State) : AreasErased s (setFwBank k x s) := by
  unfold setFwBank
  split
  all_goals rfl

theorem areasErased_eraseArea (t : Tbl Byte) (s : State) : AreasErased s (eraseArea t s) := by
  have hlog : ∀ first n last, AreasErased s (eraseSectors first n last s) := fun first n last => by
    unfold AreasErased
    rw [eraseSectors_frame]
  unfold eraseArea
  dsimp only
  split
  · exact areasErased_trans (hlog ..) (areasErased_setStore ..)
  · exact areasErased_trans (hlog ..) (areasErased_setRigBank ..)
  · exact areasErased_trans (hlog ..) (areasErased_setFwBank ..)

theorem areasErased_eraseTargetOf (t : Tbl Byte) (s : State) : AreasErased s (eraseTargetOf t s) := by
  unfold eraseTargetOf
  split
  · rfl
  · exact areasErased_eraseArea t s

/-- The target areas of several images are erased. -/
def eraseAll (l : List (Tbl Byte)) (s : State) : State := l.foldl (fun s t => eraseTargetOf t (imageSig 0 s)) s

theorem areasErased_eraseAll (l : List (Tbl Byte)) (s : State) : AreasErased s (eraseAll l s) := by
  induction l generalizing s with
  | nil => exact areasErased_refl s
  | cons t l ih =>
    have hsig : AreasErased s (imageSig 0 s) := rfl
    exact areasErased_trans (areasErased_trans hsig (areasErased_eraseTargetOf t _)) (ih _)

section
variable {cap fault : Nat} {m : List (Nat × List Byte)} {o : Order} {s : State} (ho : orderGet s o.id = some o)
  (hop : o.opcode = 0x13) (hstage : o.stage = .dispatched) (hphase : s.upd.phase ≠ 3) (hst : (slotGet s 0).st = .updating)
include ho hop hstage hphase hst

theorem exec_updFetch : exec (.updFetch o.id cap fault m) s = .next (updFetch o cap fault m s) := by
  show execUpdFetch o.id cap fault m s = _
  rw [execUpdFetch, ho]
  exact congrArg Host.Outcome.next (if_pos ⟨hop, hstage, hphase, hst⟩)

theorem completes_updFetch_takes (hsome : (fetchTakes s o.param cap m).2.2 ≠ []) :
    Completes (exec (.updFetch o.id cap 0 m) s) fun t =>
      t.upd.phase = 3 ∧ t.upd.fetch = (fetchTakes s o.param cap m).2.2 ∧ t.upd.fsum = (fetchTakes s o.param cap m).1 ∧
      t.ord = s.ord ∧ t.slots = s.slots := by
  rw [exec_updFetch ho hop hstage hphase hst, updFetch, if_neg (by simp)]
  generalize fetchTakes s o.param cap m = x at *
  obtain ⟨sum, same, l⟩ := x
  dsimp only at hsome ⊢
  rw [if_neg hsome]
  have herased := areasErased_eraseAll l { s with upd := { s.upd with fsum := sum, fetchSame := same } }
  rw [eraseAll] at herased
  generalize List.foldl _ _ l = u at *
  refine completes_next ⟨rfl, rfl, ?_, ?_, ?_⟩
  · show u.upd.fsum = _
    rw [herased]
  · show u.ord = _
    rw [herased]
  · show u.slots = _
    rw [herased]

end

/-- The update block as a fetch ends. -/
def fetchOver (u : Upd) : Upd := { u with phase := if u.phase = 3 then 0 else u.phase, fetch := [] }

theorem cutFetch_of_phase {s : State} (h : s.upd.phase ≠ 3) : cutFetch s = s := if_neg fun hc => h hc.2

theorem fallNormal_upd (c : Nat) (s : State) : (fallNormal 0 c s).upd = (cutFetch s).upd := by
  unfold fallNormal fallSlot
  dsimp only
  split
  · rw [queueRec_frame]
    rfl
  · rfl

theorem endFall_upd (c : Nat) (s : State) : (endFall 0 c s).upd = (cutFetch s).upd := by
  rw [endFall, traceAll_frame, ← fallNormal_upd c]

theorem endFetch_ready {c : Nat} {s : State} (hst : (slotGet s 0).st = .updating) (hto : (slotGet s 0).fallTo = some .ready) :
    endFetch c s = endReady 0 c [] 0 (modSlot 0 (fun x => { x with fallTo := none }) { s with upd := fetchOver s.upd }) := by
  unfold endFetch
  exact (if_neg (not_not_intro hst)).trans (if_pos hto)

theorem endFetch_falls {c : Nat} {s : State} (hst : (slotGet s 0).st = .updating) (hto : (slotGet s 0).fallTo = none) :
    endFetch c s = endFall 0 c { s with upd := fetchOver s.upd } := by
  unfold endFetch
  refine (if_neg (not_not_intro hst)).trans (if_neg ?_)
  show (slotGet s 0).fallTo ≠ _
  rw [hto]
  nofun

/-- What a fetch that takes nothing shows in the update block. -/
def fetchShown (s : State) (o : Order) (cap fault : Nat) (m : List (Nat × List Byte)) : Upd :=
  if fault ≠ 0 then s.upd
  else
    let x := fetchTakes s o.param cap m
    { s.upd with fsum := x.1, fetchSame := x.2.1, reason := if x.2.1 then 0x16 else 0, resTarget := if x.2.1 then 1 else 0 }

/-- The code that a fetch which takes nothing returns. -/
def fetchCode (fault : Nat) : Nat := if fault = 0 then 0 else if fault = 1 then 0x04D else 0x049

theorem updFetch_none {cap fault : Nat} {m : List (Nat × List Byte)} {o : Order} {s : State}
    (hnone : fault ≠ 0 ∨ (fetchTakes s o.param cap m).2.2 = []) :
    updFetch o cap fault m s = endFetch (fetchCode fault) { s with upd := fetchShown s o cap fault m } := by
  unfold updFetch fetchShown fetchCode
  by_cases hfault : fault = 0
  · have hempty := hnone.resolve_left (not_not_intro hfault)
    rw [if_neg (not_not_intro hfault), if_neg (not_not_intro hfault), if_pos hfault]
    generalize fetchTakes s o.param cap m = x at *
    obtain ⟨sum, same, l⟩ := x
    dsimp only at hempty ⊢
    rw [if_pos hempty]
    rfl
  · rw [if_pos hfault, if_pos hfault, if_neg hfault]

theorem fetchShown_fsum {s : State} {o : Order} {cap fault : Nat} {m : List (Nat × List Byte)} (hfault : fault = 0) :
    (fetchShown s o cap fault m).fsum = (fetchTakes s o.param cap m).1 := by
  rw [fetchShown, if_neg (not_not_intro hfault)]

section
variable {cap fault : Nat} {m : List (Nat × List Byte)} {o : Order} {s : State} (ho : orderGet s o.id = some o)
  (hop : o.opcode = 0x13) (hstage : o.stage = .dispatched) (hphase : s.upd.phase ≠ 3) (hst : (slotGet s 0).st = .updating)
  (hnone : fault ≠ 0 ∨ (fetchTakes s o.param cap m).2.2 = [])
include ho hop hstage hphase hst hnone

theorem completes_updFetch_ready {r : Running} (hto : (slotGet s 0).fallTo = some .ready) (hrun : (slotGet s 0).run = some r)
    (hid : r.oid = o.id) :
    Completes (exec (.updFetch o.id cap fault m) s) fun t =>
      OrderEnds o (fetchCode fault) t ∧ t.upd.fetch = [] ∧ (fault = 0 → t.upd.fsum = (fetchTakes s o.param cap m).1) ∧
      (slotGet t 0).st = .ready ∧ SlotsBut 0 s t ∧ t.rnd = s.rnd ∧ t.sys = s.sys := by
  rw [exec_updFetch ho hop hstage hphase hst, updFetch_none hnone]
  have hsum := fetchShown_fsum (s := s) (o := o) (cap := cap) (fault := fault) (m := m)
  generalize fetchCode fault = c
  generalize fetchShown s o cap fault m = x at *
  set u : State := { s with upd := x } with hu
  have hst' : (slotGet u 0).st = .updating := hst
  rw [endFetch_ready hst' hto]
  set v : State := { u with upd := fetchOver u.upd } with hv
  have hslot := slotIs_modSlot (slotIs_refl 0 v) (f := fun x => { x with fallTo := none }) fun _ _ _ => rfl
  have hready := slotIs_modSlot hslot (f := fun x => { x with st := .ready }) fun _ _ _ => rfl
  have hrun' := (slotIs_field hready Slot.run).trans (show (slotGet v 0).run = some r from hrun)
  have ho' : orderGet v r.oid = some o := by
    rw [hid]
    exact ho
  have hends := runEnds_of_slotIs hready (runEnds_endRun hrun' c)
  have hstate : (slotGet (endReady 0 c [] 0 (modSlot 0 (fun x => { x with fallTo := none }) v)) 0).st = .ready := by
    rw [slotGet_endReady ((slotIs_field hslot Slot.run).trans (show (slotGet v 0).run = some r from hrun))]
  refine completes_next ⟨hends.hub rfl o ho', ?_, fun hfault => ?_, hstate, ?_, ?_, ?_⟩
  · rw [endReady_upd]
    rfl
  · rw [endReady_upd]
    exact hsum hfault
  · exact (slotIs_but hslot (slotsBut_endReady 0 c 0 [] _) :)
  · rw [endReady_rnd]
    rfl
  · rw [endReady_sys]
    rfl

theorem completes_updFetch_falls (hto : (slotGet s 0).fallTo = none) :
    Completes (exec (.updFetch o.id cap fault m) s) fun t =>
      Falls 0 8 false (some (fetchCode fault)) s t ∧ SlotsBut 0 s t ∧ t.upd.fetch = [] ∧ t.ord = s.ord ∧ t.rnd = s.rnd ∧
      t.sys = s.sys := by
  rw [exec_updFetch ho hop hstage hphase hst, updFetch_none hnone]
  generalize fetchCode fault = c
  generalize fetchShown s o cap fault m = x
  set u : State := { s with upd := x } with hu
  have hst' : (slotGet u 0).st = .updating := hst
  rw [endFetch_falls hst' hto]
  set v : State := { u with upd := fetchOver u.upd } with hv
  have hsession : inSession (slotGet v 0) = true := by
    have hst'' : (slotGet v 0).st = .updating := hst
    rw [inSession, hst'']
  obtain ⟨⟨h1, h2, h3, h4, h5, h6, h7⟩, hbut⟩ := falls_endFall (code := c) hsession
  refine completes_next ⟨⟨h1, h2, h3, h4, h5, h6, h7⟩, hbut, ?_, ?_, ?_, ?_⟩
  · have hkept : cutFetch v = v := cutFetch_of_phase (by
      show (if _ then _ else _ : Nat) ≠ 3
      split
      · nofun
      · assumption)
    rw [endFall_upd, hkept]
    rfl
  · rw [endFall_ord]
  · rw [endFall_rnd]
  · rw [endFall_sys]

end

/-! ### The card flow of RECOVERY -/

/-- The state in which the card flow reads the card. -/
def flowPowered (s : State) : State := updatePower none { s with upd := { s.upd with flowRan := true } }

theorem flowPowered_frame (s : State) :
    flowPowered s = { s with slots := (flowPowered s).slots, sat := (flowPowered s).sat, upd := { s.upd with flowRan := true } } := rfl

theorem slotIs_flowPowered (s : State) : (slotGet (flowPowered s) 0).st = .updating ∧
    (slotGet (flowPowered s) 0).pins.vccOn = true ∧ SlotsBut 0 s (flowPowered s) := by
  unfold flowPowered updatePower
  refine ⟨?_, ?_, fun j hj => ?_⟩
  · rw [slotGet_modSlot, if_pos rfl]
  · rw [slotGet_modSlot, if_pos rfl]
  · rw [slotGet_modSlot, if_neg hj]
    rfl

/-- The images that the card flow writes. -/
def flowImages (s : State) (m : List (Nat × List Byte)) (first last : Nat) : List (Tbl Byte) :=
  (bestImage s m last 1 (scanImages m last 32 first)).toList ++ (bestImage s m last 4 (scanImages m last 32 first)).toList

theorem flowImages_flowPowered (s : State) (m : List (Nat × List Byte)) (first last : Nat) :
    flowImages (flowPowered s) m first last = flowImages s m first last := rfl

/-- The card flow goes on to write its images. -/
def flowWrites (l : List (Tbl Byte)) (s : State) : State :=
  { s with upd := { s.upd with phase := 3, owner := .card, fetch := l, fetchSame := false } }

theorem slotGet_of_slots {s t : State} (hslots : t.slots = s.slots) (j : Nat) : slotGet t j = slotGet s j := by
  rw [slotGet, slotGet, hslots]

section
variable {cap fault : Nat} {m : List (Nat × List Byte)} {s : State} (hst : s.sys.state = .recovery)
  (hcard : (slotGet s 0).st = .present) (hvsl : s.sup.vsl5Ok = true) (hjob : jobRuns s = false) (howner : s.upd.owner = .none)
  (hran : s.upd.flowRan = false)
include hst hcard hvsl hjob howner hran

theorem exec_recoveryCardFlow : exec (.recoveryCardFlow cap fault m) s = .next (cardFlow cap fault m s) :=
  congrArg Host.Outcome.next (if_pos ⟨hst, hcard, hvsl, hjob, howner, hran⟩)

theorem completes_recoveryCardFlow {first last : Nat} (hpart : findPartition cap m = some (first, last))
    (hsome : flowImages s m first last ≠ []) :
    Completes (exec (.recoveryCardFlow cap 0 m) s) fun t =>
      t.upd.phase = 3 ∧ t.upd.owner = .card ∧ t.upd.flowRan = true ∧ t.upd.fetch = flowImages s m first last ∧
      (slotGet t 0).st = .updating ∧ (slotGet t 0).pins.vccOn = true ∧ SlotsBut 0 s t ∧ t.sys = s.sys ∧ t.ord = s.ord := by
  rw [exec_recoveryCardFlow hst hcard hvsl hjob howner hran]
  obtain ⟨hslot, hvcc, hbut⟩ := slotIs_flowPowered s
  have hframe := flowPowered_frame s
  have hflow : cardFlow cap 0 m s = if flowImages (flowPowered s) m first last = [] then endFlow (flowPowered s)
      else flowWrites (flowImages (flowPowered s) m first last)
        (eraseAll (flowImages (flowPowered s) m first last) (flowPowered s)) := by
    unfold cardFlow
    rw [if_pos rfl, hpart]
    rfl
  rw [hflow, flowImages_flowPowered, if_neg hsome]
  have herased := areasErased_eraseAll (flowImages s m first last) (flowPowered s)
  generalize flowPowered s = v at *
  generalize eraseAll (flowImages s m first last) v = u at *
  have hslots : u.slots = v.slots := by rw [herased]
  have hget : ∀ j, slotGet u j = slotGet v j := slotGet_of_slots hslots
  refine completes_next ⟨rfl, rfl, ?_, rfl, (congrArg Slot.st (hget 0)).trans hslot,
    (congrArg (fun x => x.pins.vccOn) (hget 0)).trans hvcc, fun j hj => (hget j).trans (hbut j hj), ?_, ?_⟩
  · show u.upd.flowRan = true
    rw [herased, hframe]
  · show u.sys = s.sys
    rw [herased, hframe]
  · show u.ord = s.ord
    rw [herased, hframe]

theorem completes_recoveryCardFlow_none (hnone : fault ≠ 0 ∨ findPartition cap m = none) :
    Completes (exec (.recoveryCardFlow cap fault m) s) fun t =>
      (slotGet t 0).st = .falling ∧ (slotGet t 0).pins = contactsOff ∧ (slotGet t 0).cause = 8 ∧ SlotsBut 0 s t ∧
      t.upd = { s.upd with flowRan := true } ∧ t.sys = s.sys ∧ t.ord = s.ord := by
  rw [exec_recoveryCardFlow hst hcard hvsl hjob howner hran]
  have hflow : cardFlow cap fault m s = fallNormal 0 0 (flowPowered s) := by
    have hpart : (if fault = 0 then findPartition cap m else none) = none := by
      split
      · exact hnone.resolve_left (not_not_intro ‹fault = 0›)
      · rfl
    unfold cardFlow
    rw [hpart]
    rfl
  obtain ⟨hslot, hvcc, hbut⟩ := slotIs_flowPowered s
  have hframe := flowPowered_frame s
  have hphase : (flowPowered s).upd.phase ≠ 3 := by
    intro he
    have he' : s.upd.phase = 3 := he
    rw [jobRuns, he'] at hjob
    cases hjob
  have hkept : cutFetch (flowPowered s) = flowPowered s := cutFetch_of_phase hphase
  rw [hflow]
  generalize flowPowered s = v at *
  have hsession : inSession (slotGet v 0) = true := by rw [inSession, hslot]
  have hfall : slotGet (fallNormal 0 0 v) 0 = slotFall 8 false false none (some 0) v.sys.tick (slotGet v 0) := by
    rw [fallNormal, slotGet_fallSlot, if_pos rfl]
  rw [slotFall, if_pos hsession] at hfall
  refine completes_next ⟨?_, ?_, ?_, fun j hj => ?_, ?_, ?_, ?_⟩
  · rw [hfall]
  · rw [hfall]
  · rw [hfall]
  · rw [fallNormal, slotGet_fallSlot, if_neg hj, hbut j hj]
  · rw [fallNormal_upd, hkept, hframe]
  · rw [fallNormal, fallSlot_sys, hframe]
  · rw [fallNormal, fallSlot_ord, hframe]

end

theorem exec_recoveryCardFlow_idle {cap fault : Nat} {m : List (Nat × List Byte)} {s : State}
    (h : s.sys.state ≠ .recovery ∨ (slotGet s 0).st ≠ .present ∨ s.sup.vsl5Ok = false ∨ jobRuns s = true ∨
      s.upd.flowRan = true) : exec (.recoveryCardFlow cap fault m) s = .next s := by
  refine congrArg Host.Outcome.next (if_neg ?_)
  rintro ⟨hst, hcard, hvsl, hjob, -, hran⟩
  rw [hvsl, hjob, hran] at h
  simp [hst, hcard] at h

/-! ### Commands of the hub to a satellite -/

theorem viewGet_of_sat {s t : State} (h : t.sat.views = s.sat.views) (pos : Nat) : viewGet t pos = viewGet s pos := by
  rw [viewGet, viewGet, h]

theorem tetherGet_of_tth {s t : State} (h : t.tth = s.tth) (k : Nat) : tetherGet t k = tetherGet s k := by
  rw [tetherGet, tetherGet, h]

theorem viewGet_putCmd (pos q : Nat) (e : RingEnd) (c : HubCmd) (s : State) : viewGet (putCmd pos e c s) q = viewGet s q := rfl

theorem nextCmd_first {pos : Nat} {c : HubCmd} {rest : List HubCmd} {s : State} (hout : (viewGet s pos).out = none)
    (hqueue : (viewGet s pos).queue = c :: rest) : nextCmd pos s = putCmd pos (viewGet s pos).path c
      (modView pos (fun v => { v with out := some c, queue := rest, toggleH := !v.toggleH }) s) := by
  unfold nextCmd
  dsimp only
  rw [hout, hqueue]

/-- A frame leaves where no heal holds it back. -/
theorem tetherGet_hubSend_free {k : Nat} {e : RingEnd} {f : RingFrame} {s : State} (hk : k < 4)
    (hfree : quietNow s.sys.tick (tetherGet s k) = false) :
    tetherGet (hubSend k e f s) k = hubPut e (frameSyms f) (tetherGet s k) := by
  unfold hubSend
  dsimp only
  rw [tetherGet_modTether, if_pos ⟨rfl, hk⟩, hfree, if_neg Bool.false_ne_true]

/-- A command to a satellite to which nothing is outstanding goes at once. -/
theorem cmdGoes_sendCmd {pos : Nat} (c : HubCmd) {s t : State} (h : NothingSent s pos) (hviews : t.sat.views = s.sat.views)
    (htth : t.tth = s.tth) (hsys : t.sys = s.sys) : CmdGoes pos c s (sendCmd pos c t) := by
  obtain ⟨hout, hqueue⟩ := h
  have hview := viewGet_of_sat hviews
  set u := modView pos (fun v => { v with queue := v.queue ++ [c] }) t with hu
  have hqueued : viewGet u pos = { viewGet s pos with queue := [c] } := by
    rw [hu, viewGet_modView, if_pos rfl, hview, hqueue]
    rfl
  have hsend : sendCmd pos c t = putCmd pos (viewGet s pos).path c
      (modView pos (fun v => { v with out := some c, queue := [], toggleH := !v.toggleH }) u) := by
    have hfirst := nextCmd_first (pos := pos) (c := c) (rest := []) (s := u) (by rw [hqueued]; exact hout) (by rw [hqueued])
    rw [hqueued] at hfirst
    exact hfirst
  set v := modView pos (fun v => { v with out := some c, queue := [], toggleH := !v.toggleH }) u with hv
  have hself : viewGet v pos = { viewGet s pos with out := some c, toggleH := !(viewGet s pos).toggleH } := by
    rw [hv, viewGet_modView, if_pos rfl, hqueued, ← hqueue]
  have hvtth : v.tth = s.tth := htth
  have hvsys : v.sys = s.sys := hsys
  have hteth := tetherGet_of_tth hvtth
  rw [hsend]
  refine ⟨?_, fun q hq => ?_, fun hk hfree => ?_, fun j hj => ?_⟩
  · rw [viewGet_putCmd, hself]
  · rw [viewGet_putCmd, hv, viewGet_modView, if_neg hq, hu, viewGet_modView, if_neg hq, hview]
  · rw [putCmd, tetherGet_hubSend_free hk (by rw [hvsys, hteth]; exact hfree), hself, hteth]
  · rw [putCmd, hubSend, tetherGet_modTether, if_neg fun hc => hj hc.1, hteth]

/-! ### Satellite updates -/

theorem completes_satUpdate {o : Order} {s : State} (ho : orderGet s o.id = some o) (hop : o.opcode = 0x12)
    (hstage : o.stage = .dispatched) (hprogress : o.progress ≤ 1) (hring : ringLive s = true) (hpos : s.upd.satPos = 0x3FF)
    (hnone : NothingSent s (slotPos o.slot))
    (hoff : ∀ id ∈ slotsOf (slotPos o.slot), viewPowered (slotViewGet s id) = false) :
    Completes (exec (.satUpdate o.id) s) fun t =>
      let pos := slotPos o.slot
      let x := (if bitAt o.param 0 then s.upd.store1 else s.upd.store0).image
      let start := updStart (viewGet s pos)
      let args := natLe 3 start ++ natLe 3 (payloadLen x - start) ++ sha256 (payload x start (payloadLen x - start)) ++
        natLe 4 (imageVersion x)
      t.upd.satPos = 4 * pos ∧ t.upd.satPhase = 1 ∧ t.upd.satStart = start ∧
      CmdGoes pos { code := 0x10, args := args, order := o.id } s t ∧ t.sys = s.sys := by
  have hpowered : (slotsOf (slotPos o.slot)).filter (fun id => viewPowered (slotViewGet s id)) = [] :=
    List.filter_eq_nil_iff.mpr fun id hid => by
      rw [hoff id hid]
      exact Bool.false_ne_true
  have hexec : exec (.satUpdate o.id) s = .next (updBegin o s) := by
    show execSatUpdate o.id s = _
    rw [execSatUpdate, ho]
    refine congrArg Host.Outcome.next ((if_pos ⟨hstage, hop, hring⟩).trans ?_)
    unfold satUpdate
    dsimp only
    rw [hpowered, if_neg, if_pos rfl]
    rintro (hne | hlt)
    · exact hne hpos
    · omega
  rw [hexec]
  unfold updBegin
  dsimp only
  set u : State := { s with upd := { s.upd with
    satPos := 4 * slotPos o.slot, satPhase := 1, satStart := updStart (viewGet s (slotPos o.slot)), nextAt := none } } with hu
  have hframe := modOrder_frame o.id (fun x => { x with progress := 2 }) u
  set v := modOrder o.id (fun x => { x with progress := 2 }) u with hv
  have hviews : v.sat.views = s.sat.views := by rw [hframe]
  have htth : v.tth = s.tth := by rw [hframe]
  have hsys : v.sys = s.sys := by rw [hframe]
  have hupd : v.upd = u.upd := by rw [hframe]
  have hgoes := fun c => cmdGoes_sendCmd c hnone hviews htth hsys
  clear_value v
  refine completes_next ⟨?_, ?_, ?_, hgoes _, ?_⟩
  · rw [sendCmd_frame, hupd]
  · rw [sendCmd_frame, hupd]
  · rw [sendCmd_frame, hupd]
  · rw [sendCmd_sys, hsys]

theorem completes_updIdentPoll {pos : Nat} {s : State} (hring : ringLive s = true) (hpos : s.upd.satPos = 4 * pos)
    (hphase : s.upd.satPhase = 1) (hnone : NothingSent s pos) :
    Completes (exec (.updIdentPoll pos) s) fun t =>
      CmdGoes pos { code := 0x0C, args := [] } s t ∧ t = { s with sat := t.sat, tth := t.tth } := by
  have hexec : exec (.updIdentPoll pos) s = .next (sendCmd pos { code := 0x0C, args := [] } s) :=
    congrArg Host.Outcome.next ((if_pos hring).trans (if_pos ⟨hpos, hphase, hnone.1⟩))
  rw [hexec]
  refine completes_next ⟨cmdGoes_sendCmd _ hnone rfl rfl rfl, ?_⟩
  rw [sendCmd_frame]

theorem completes_satUpdateTimeout {pos : Nat} {o : Order} {s : State} (hring : ringLive s = true)
    (hpos : s.upd.satPos = 4 * pos) (hphase : s.upd.satPhase ≤ 3) (ho : satOrder s pos 0x12 = some o) :
    Completes (exec (.satUpdateTimeout pos) s) fun t =>
      OrderEnds o 0x04A t ∧ t.upd.satPos = 0x3FF ∧ t.upd.satPhase = 0 ∧ t.fb.upd.fst.getLsbD 3 = true := by
  have hexec : exec (.satUpdateTimeout pos) s = .next (updProtocol pos s) :=
    congrArg Host.Outcome.next ((if_pos hring).trans (if_pos ⟨hpos, hphase⟩))
  set u := queueSatUpdate pos 6 { s with upd := { s.upd with satPos := 0x3FF, satPhase := 0 } } with hu
  have huframe : u = { s with upd := { s.upd with satPos := 0x3FF, satPhase := 0 }, log := u.log } := queueRec_frame ..
  have hfails : updFails pos s = raise .upd 3 u := if_pos hpos
  have hlive : Live u := by
    rw [huframe]
    exact live_of_ringLive hring
  have hraised : Raised .upd 3 u (raise .upd 3 u) := raised_raise hlive (.inl (by decide))
  have hbit := bit_of_raised (by decide) hraised
  have hframe := hraised.frame
  rw [hexec, updProtocol, hfails]
  generalize raise .upd 3 u = v at *
  have hord : v.ord = s.ord := by
    rw [hframe]
    show u.ord = _
    rw [huframe]
  have hupd : v.upd = u.upd := by rw [hframe]
  have ho' : satOrder v pos 0x12 = some o := by
    rw [satOrder, hord]
    exact ho
  rw [endSatOrder, ho']
  refine completes_next ⟨orderEnds_endOrder .., ?_, ?_, ?_⟩
  · rw [endOrder_upd, hupd, huframe]
  · rw [endOrder_upd, hupd, huframe]
  · rw [endOrder_fb]
    exact hbit

theorem completes_satLoaderEraseDone {sat : Nat} {s : State} (h : (satGet s sat).erasing = true) :
    Completes (exec (.satLoaderEraseDone sat) s) fun t =>
      SatIs sat { satGet s sat with erasing := false, receiving := true, imageState := 2 } s t := by
  have hexec : exec (.satLoaderEraseDone sat) s = .next (modSat sat (fun x =>
    if x.erasing then { x with erasing := false, receiving := true, imageState := 2 } else x) s) := rfl
  rw [hexec]
  refine completes_next ⟨?_, fun j hj => ?_, rfl⟩
  · rw [satGet_modSat, if_pos rfl, h, if_pos rfl]
  · rw [satGet_modSat, if_neg hj]

/-- Settles O50. -/
theorem trialsAndFetches : Obligations.TrialsAndFetches :=
  ⟨fun _ => completes_trialExpiry_deferred, fun _ => completes_trialExpiry, fun _ => completes_next rfl,
    fun _ => completes_deferredTrialRestart, fun _ _ => completes_updConfirm_first,
    fun _ _ h hkey => completes_updConfirm h hkey, fun _ _ h hkey => completes_updConfirm_pf h hkey,
    fun _ _ h hkey => completes_updConfirm_refused h hkey,
    fun _ _ _ _ _ _ ho hop hstage hphase hst hto hrun hid hnone =>
      completes_updFetch_ready ho hop hstage hphase hst hnone hto hrun hid,
    fun _ _ _ _ _ ho hop hstage hphase hst hto hnone => completes_updFetch_falls ho hop hstage hphase hst hnone hto,
    fun _ _ _ _ ho hop hstage hphase hst => completes_updFetch_takes ho hop hstage hphase hst,
    fun _ _ _ _ _ hst hcard hvsl hjob howner hran => completes_recoveryCardFlow hst hcard hvsl hjob howner hran,
    fun _ _ _ _ hst hcard hvsl hjob howner hran => completes_recoveryCardFlow_none hst hcard hvsl hjob howner hran,
    fun _ _ _ s h => ⟨s, exec_recoveryCardFlow_idle h, rfl⟩, fun _ _ => completes_satUpdate, fun _ _ => completes_updIdentPoll,
    fun _ _ _ => completes_satUpdateTimeout, fun _ _ => completes_satLoaderEraseDone⟩

end Machine
end Sys2Proof
end

section
/-! The rig commands of the hosts (chapter 02). -/
namespace Sys2Proof
namespace Machine

set_option Elab.async false

open Safety

/-! ### Writes of RIG_CMD -/

theorem faultWordAt_rigCmd (p : Port) : faultWordAt p 0x70A = none := by cases p <;> decide

theorem writeOwn_rigCmd {c : Nat} (hc : inRange (c % 8) 1 5 = true) (p : Port) (s : State) : writeOwn p 0x70A c s =
    if (rigCommand p (c % 8) s).1 then (0, (rigCommand p (c % 8) s).2) else (9, (rigCommand p (c % 8) s).2) := by
  have hown : writeOwn p 0x70A c s = match rigCommand p (c % 8) s with
      | (true, s') => (0, s')
      | (false, s') => (9, s') := if_pos hc
  rw [hown]
  generalize rigCommand p (c % 8) s = x
  obtain ⟨b, u⟩ := x
  cases b <;> rfl

section
variable {p : Port} {w : Word} {s u : State} (h : WriteAdmitted s p 0x70A) (hw : inRange (w.toNat % 8) 1 5 = true)
include h hw

theorem wordFrame_rigTaken (hcmd : rigCommand p (w.toNat % 8) (writeSeen p 0x70A w.toNat s) = (true, u)) :
    wordFrame p 0x70A w s = wroteOk p 0x70A u :=
  wordFrame_ok h (by decide) (faultWordAt_rigCmd p) (by decide) (by decide) (by rw [writeOwn_rigCmd hw, hcmd, if_pos rfl])

theorem wordFrame_rigDeclined (hcmd : rigCommand p (w.toNat % 8) (writeSeen p 0x70A w.toNat s) = (false, u)) :
    wordFrame p 0x70A w s = wroteRefused p 0x70A 9 u := by
  have hown : writeOwn p 0x70A w.toNat (writeSeen p 0x70A w.toNat s) = (8 + 1, u) := by
    rw [writeOwn_rigCmd hw, hcmd, if_neg Bool.false_ne_true]
  rw [wordFrame_refused h (by decide) (faultWordAt_rigCmd p) hown, turnDown_refused]

theorem rigCmdTaken (hcmd : rigCommand p (w.toNat % 8) (writeSeen p 0x70A w.toNat s) = (true, u))
    (hports : u.ports = (writeSeen p 0x70A w.toNat s).ports) : CommandTaken s p 0x70A u (wordFrame p 0x70A w s) :=
  commandTaken h (by decide) (faultWordAt_rigCmd p) (by decide) (by decide)
    (by rw [writeOwn_rigCmd hw, hcmd, if_pos rfl]) hports

theorem rigCmdDeclined (hcmd : rigCommand p (w.toNat % 8) (writeSeen p 0x70A w.toNat s) = (false, u))
    (hports : u.ports = (writeSeen p 0x70A w.toNat s).ports) : CommandDeclined s p 0x70A 9 u (wordFrame p 0x70A w s) :=
  commandDeclined (n := 8) h (by decide) (faultWordAt_rigCmd p)
    (by rw [writeOwn_rigCmd hw, hcmd, if_neg Bool.false_ne_true]) hports

end

/-! ### OPEN and CLOSE -/

theorem rigDone_frame (p : Port) (s : State) : rigDone p s = { s with ports := (rigDone p s).ports } := rfl

theorem portGet_rigDone (p q : Port) (s : State) : portGet (rigDone p s) q =
    if q = p then { portGet s p with ievt := (portGet s p).ievt ||| 0x010, ievtNew := (portGet s p).ievtNew ||| 0x010 }
    else portGet s q := by
  rw [rigDone, setIevt, portGet_modPort]

/-- A command of the hosts that completes at once: its answer, its event. -/
structure RigDoneAt (s : State) (p : Port) (r : RigBlock) (t : State) : Prop where
  rig : t.rig = r
  event : (portGet t p).ievt = (portGet s p).ievt ||| 0x010
  other : portGet t p.other = portGet s p.other
  owes : Owes t p .ok 0x70A 0
  frame : t = { s with rig := t.rig, ports := t.ports }

theorem rigDoneAt_wordFrame {p : Port} {w : Word} {s : State} (h : WriteAdmitted s p 0x70A)
    (hw : inRange (w.toNat % 8) 1 5 = true) (r : RigBlock)
    (hcmd : rigCommand p (w.toNat % 8) (writeSeen p 0x70A w.toNat s) =
      (true, rigDone p { writeSeen p 0x70A w.toNat s with rig := r })) : RigDoneAt s p r (wordFrame p 0x70A w s) := by
  rw [wordFrame_rigTaken h hw hcmd]
  set v : State := { writeSeen p 0x70A w.toNat s with rig := r } with hv
  set u := rigDone p v with hu
  have hport : portGet u p = _ := (portGet_rigDone p p v).trans (if_pos rfl)
  have hne : p.other ≠ p := by cases p <;> nofun
  have hother : portGet u p.other = portGet s p.other := by
    rw [hu, portGet_rigDone, if_neg hne]
    exact portGet_writeSeen_other ..
  have hanswers : (portGet u p).answering = true := by
    rw [hport]
    exact answering_writeSeen (t := v) h.1.1 rfl
  have howes := owes_wroteOk hanswers 0x70A
  rw [shownWord_of_command (.inr (by decide))] at howes
  have hevent : (portGet u p).ievt = (portGet s p).ievt ||| 0x010 := by
    rw [hport]
    show (portGet (writeSeen p 0x70A w.toNat s) p).ievt ||| 0x010 = _
    rw [answered_writeSeen p p 0x70A w.toNat s]
  have hresp : Answered (portGet u p) (portGet (wroteOk p 0x70A u) p) := answered_respond ..
  refine ⟨?_, ?_, ?_, howes, ?_⟩
  · rw [wroteOk_frame]
    rfl
  · rw [hresp, ← hevent]
  · rw [wroteOk, portGet_respond_other, hother]
  · rw [wroteOk_frame]
    rfl

theorem rigCommand_open {p : Port} {s : State} (hjob : s.rig.job = none) (howner : s.rig.owner ≠ some p.other) :
    rigCommand p 1 s = (true, rigOpen p s) := by
  unfold rigCommand
  rw [if_pos rfl, hjob, decide_eq_false howner]
  rfl

theorem rigCommand_open_refused {p : Port} {s : State} (hwhy : s.rig.job ≠ none ∨ s.rig.owner = some p.other) :
    rigCommand p 1 s = (false, s) := by
  have hheld : (s.rig.job.isSome || decide (s.rig.owner = some p.other)) = true := by
    rcases hwhy with hjob | howner
    · rw [Option.isSome_iff_ne_none.mpr hjob, Bool.true_or]
    · rw [decide_eq_true howner, Bool.or_true]
  unfold rigCommand
  rw [if_pos rfl, hheld, if_pos rfl]

theorem completes_rigOpen {p : Port} {s : State} (h : WriteAdmitted s p 0x70A) (hjob : s.rig.job = none)
    (howner : s.rig.owner ≠ some p.other) :
    Completes (exec (.rigOpen p none) s) fun t =>
      t.rig = { s.rig with owner := some p, staging := [], cmd := 1, reason := 0, errPos := 0 } ∧
      (portGet t p).ievt = (portGet s p).ievt ||| 0x010 ∧ portGet t p.other = portGet s p.other ∧
      Owes t p .ok 0x70A 0 ∧ t = { s with rig := t.rig, ports := t.ports } := by
  obtain ⟨hrig, hevent, hother, howes, hframe⟩ := rigDoneAt_wordFrame (w := 1) h rfl _
    (rigCommand_open (s := writeSeen p 0x70A 1 s) hjob howner)
  have hexec : exec (.rigOpen p none) s = .next (wordFrame p 0x70A 1 s) := rfl
  rw [hexec]
  exact completes_next ⟨hrig, hevent, hother, howes, hframe⟩

theorem completes_rigOpen_refused {p : Port} {s : State} (h : WriteAdmitted s p 0x70A)
    (hwhy : s.rig.job ≠ none ∨ s.rig.owner = some p.other) :
    Completes (exec (.rigOpen p none) s) fun t => Refused s t p 0x70A 9 ∧ t = { s with ports := t.ports } := by
  obtain ⟨hturned, hframe⟩ := rigCmdDeclined (w := 1) h rfl
    (rigCommand_open_refused (s := writeSeen p 0x70A 1 s) hwhy) rfl
  have hexec : exec (.rigOpen p none) s = .next (wordFrame p 0x70A 1 s) := rfl
  rw [hexec]
  exact completes_next ⟨hturned, hframe⟩

theorem rigCommand_close {p : Port} {s : State} (hjob : s.rig.job = none) (howner : s.rig.owner = some p) :
    rigCommand p 2 s = (true, rigClose p s) := by
  unfold rigCommand
  rw [if_neg (by decide), if_neg (not_not_intro howner), hjob]
  rfl

theorem completes_rigClose {p : Port} {s : State} (h : WriteAdmitted s p 0x70A) (hjob : s.rig.job = none)
    (howner : s.rig.owner = some p) :
    Completes (exec (.rigClose p) s) fun t =>
      t.rig = { s.rig with owner := none, staging := [], cmd := 2, reason := 0, errPos := 0 } ∧
      (portGet t p).ievt = (portGet s p).ievt ||| 0x010 ∧ Owes t p .ok 0x70A 0 ∧
      t = { s with rig := t.rig, ports := t.ports } := by
  obtain ⟨hrig, hevent, -, howes, hframe⟩ := rigDoneAt_wordFrame (w := 2) h rfl _
    (rigCommand_close (s := writeSeen p 0x70A 2 s) hjob howner)
  have hexec : exec (.rigClose p) s = .next (wordFrame p 0x70A 2 s) := rfl
  rw [hexec]
  exact completes_next ⟨hrig, hevent, howes, hframe⟩

/-! ### VALIDATE, APPLY_LIVE and STORE start -/

theorem rigCommand_owned {p : Port} {c : Nat} {s : State} (hc : 3 ≤ c) (hjob : s.rig.job = none) (howner : s.rig.owner = some p) :
    rigCommand p c s =
      if (c = 4 ∨ c = 5) ∧ s.sys.alarm = true then (false, rigResult c 0x14 0 s) else (true, rigStart p c s) := by
  unfold rigCommand
  rw [if_neg (by omega), if_neg (not_not_intro howner), hjob, if_neg (by omega : ¬ c = 2)]
  rfl

theorem rigCommand_foreign {p : Port} {c : Nat} {s : State} (hc : 3 ≤ c) (howner : s.rig.owner ≠ some p) :
    rigCommand p c s =
      (false, if s.rig.job.isSome then { s with rig := { s.rig with reason := 0x15 } } else rigResult c 0x15 0 s) := by
  unfold rigCommand
  rw [if_neg (by omega), if_pos howner]

theorem rigStart_running {p : Port} {c : Nat} {s : State} (hst : s.sys.state = .run) : rigStart p c s =
    { s with rig := { s.rig with
      cmd := c, reason := 0, errPos := 0, job := some { cmd := c, port := p, words := s.rig.staging } } } := by
  have hwake : wakeEngine s = s := if_neg (by rw [hst]; nofun)
  unfold rigStart
  dsimp only
  rw [hwake, ite_self]
  rfl

theorem rigAnswers_wordFrame {p : Port} {c : Nat} {w : Word} {s : State} (h : WriteAdmitted s p 0x70A) (hst : s.sys.state = .run)
    (hw : w.toNat % 8 = c) (hlo : 3 ≤ c) (hhi : c ≤ 5) : RigAnswers s p c (wordFrame p 0x70A w s) := by
  have hrange : inRange (w.toNat % 8) 1 5 = true := by
    rw [hw]
    simp [inRange, hhi, (by omega : 1 ≤ c)]
  have howned := fun hjob howner => rigCommand_owned (p := p) (s := writeSeen p 0x70A w.toNat s) hlo hjob howner
  have hforeign := rigCommand_foreign (p := p) (s := writeSeen p 0x70A w.toNat s) hlo
  have hstarts := rigStart_running (p := p) (c := c) (s := writeSeen p 0x70A w.toNat s) hst
  rw [← hw] at howned hforeign hstarts
  refine ⟨fun howner hjob hcalm => ?_, fun howner hjob hc halarm => ?_, fun howner => ?_⟩
  · have hfree : ¬ ((w.toNat % 8 = 4 ∨ w.toNat % 8 = 5) ∧ (writeSeen p 0x70A w.toNat s).sys.alarm = true) := by
      rintro ⟨hcode, halarm⟩
      rcases hcalm with h3 | hoff
      · omega
      · rw [show (writeSeen p 0x70A w.toNat s).sys.alarm = s.sys.alarm from rfl, hoff] at halarm
        cases halarm
    have hcmd := howned hjob howner
    rw [if_neg hfree, hstarts] at hcmd
    obtain ⟨howes, hanswers, hframe⟩ := rigCmdTaken h hrange hcmd rfl
    rw [hw] at hframe
    refine ⟨?_, howes, hanswers, ?_⟩
    all_goals rw [hframe]
    all_goals rfl
  · have hcmd := howned hjob howner
    rw [if_pos ⟨by omega, halarm⟩] at hcmd
    obtain ⟨hturned, hframe⟩ := rigCmdDeclined h hrange hcmd rfl
    rw [hw] at hframe
    refine ⟨?_, hturned⟩
    rw [hframe]
    rfl
  · have hcmd := hforeign howner
    split at hcmd
    all_goals obtain ⟨hturned, hframe⟩ := rigCmdDeclined h hrange hcmd rfl
    all_goals refine ⟨?_, ?_, ?_, hturned⟩
    all_goals rw [hframe]
    all_goals rfl

/-! ### Two OPENs at one tick -/

/-- The two OPENs, the first port's first, with what each port's answer shows of the shared word. -/
def openTied (p q : Port) (s : State) : State :=
  carry p (.write 0x70A 1) (.write 0x70A 1)
    (carry p.other (.write 0x70A 1) (.write 0x70A 1) (wordFrame q.other 0x70A 1 (wordFrame q 0x70A 1 s)))

/-- The first port has the buffer, the other is refused. -/
structure OpenWon (q : Port) (s t : State) : Prop where
  owner : t.rig.owner = some q
  first : Owes t q .ok 0x70A 0
  second : (portGet t q.other).owed.stat = .refused
  sys : t.sys = s.sys

theorem openWon_race {q : Port} {s : State} (h : WriteAdmitted s q 0x70A) (h' : WriteAdmitted s q.other 0x70A)
    (hjob : s.rig.job = none) (howner : s.rig.owner = none) :
    OpenWon q s (wordFrame q.other 0x70A 1 (wordFrame q 0x70A 1 s)) := by
  have hback : q.other.other = q := by cases q <;> rfl
  obtain ⟨hrig, -, hother, howes, hframe⟩ := rigDoneAt_wordFrame (w := 1) h rfl _
    (rigCommand_open (s := writeSeen q 0x70A 1 s) hjob (by
      rw [show (writeSeen q 0x70A 1 s).rig.owner = s.rig.owner from rfl, howner]
      nofun))
  generalize wordFrame q 0x70A 1 s = u at *
  have husys : u.sys = s.sys := by rw [hframe]
  have hupins : u.pins = s.pins := by rw [hframe]
  have hufb : u.fb = s.fb := by rw [hframe]
  have hheard : heard u q.other = heard s q.other := by
    have hports : perPortGet u.ports q.other = perPortGet s.ports q.other := hother
    rw [heard, hports, hupins, husys, heard]
  have hadm : WriteAdmitted u q.other 0x70A := by
    refine ⟨⟨hheard.trans h'.1.1, by rw [husys]; exact h'.1.2⟩, ?_⟩
    have hresets := h'.2
    unfold blockResets at hresets ⊢
    rw [hufb]
    exact hresets
  have hheld : (writeSeen q.other 0x70A 1 u).rig.owner = some q.other.other := by
    show u.rig.owner = _
    rw [hrig, hback]
  obtain ⟨hturned, hsecond⟩ := rigCmdDeclined (w := 1) hadm rfl (rigCommand_open_refused (.inr hheld)) rfl
  generalize wordFrame q.other 0x70A 1 u = t at *
  have hkept := hturned.other
  rw [hback] at hkept
  refine ⟨?_, ?_, hturned.stat, ?_⟩
  · rw [hsecond]
    show u.rig.owner = _
    rw [hrig]
  · rw [Owes, hkept]
    exact howes
  · rw [hsecond]
    exact husys

theorem openWon_carry {q : Port} {s t : State} (h : OpenWon q s t) (r : Port) :
    OpenWon q s (carry r (.write 0x70A 1) (.write 0x70A 1) t) := by
  have hdata : writtenWord r 0x70A 1 t = 0 := by rw [writtenWord, if_neg (by decide), shownWord_of_command (.inr (by decide))]
  unfold carry
  dsimp only
  split
  · next hok =>
    have hstat : (portGet t r).owed.stat = .ok := of_decide_eq_true (Bool.and_eq_true_iff.mp hok).2
    have hr : r = q := by
      rcases (by cases q <;> cases r <;> simp [Port.other] : r = q ∨ r = q.other) with hr | hr
      · exact hr
      · rw [hr, h.second] at hstat
        cases hstat
    rw [show writtenWord r (BitVec.toNat (0x70A : Addr)) (BitVec.toNat (1 : Word)) t = 0 from hdata]
    have hne : q.other ≠ q := by cases q <;> nofun
    refine ⟨h.owner, ?_, ?_, h.sys⟩
    · rw [Owes, portGet_modPort, if_pos hr.symm, hr, h.first]
    · rw [portGet_modPort, if_neg (by rw [hr]; exact hne)]
      exact h.second
  · exact h

theorem contend_open (p : Port) (s : State) : contend s p (.write 0x70A 1) (.write 0x70A 1) = true := by
  have hone : oneWord s 0x70A = true := by
    rw [oneWord, if_neg (by decide)]
    rfl
  have hthings : ∀ q, (Thing.word 0x70A) ∈ frameThings s q (.write 0x70A 1) := fun q => by
    simp [frameThings, frameItems, touches, hone]
  rw [contend, List.any_eq_true]
  exact ⟨_, hthings p, by simpa using hthings p.other⟩

theorem together_open {p : Port} {s : State} (hne : openTied p s.sys.prio s ≠ openTied p s.sys.prio.other s) :
    together p (.write 0x70A 1) (.write 0x70A 1) (runFrame p (.write 0x70A 1)) (runFrame p.other (.write 0x70A 1)) s =
      flipPrio (openTied p s.sys.prio s) := by
  have hrun : ∀ q, carry p (.write 0x70A 1) (.write 0x70A 1) (carry p.other (.write 0x70A 1) (.write 0x70A 1)
        (if q = p then runFrame p.other (.write 0x70A 1) (runFrame p (.write 0x70A 1) s)
          else runFrame p (.write 0x70A 1) (runFrame p.other (.write 0x70A 1) s))) = openTied p q s := by
    intro q
    by_cases hq : q = p
    · rw [if_pos hq, hq]
      rfl
    · have hq' : q = p.other ∧ q.other = p := by
        cases p <;> cases q <;> simp_all [Port.other]
      rw [if_neg hq, openTied, hq'.2, hq'.1]
      rfl
  unfold together
  dsimp only
  simp only [hrun]
  rw [contend_open, if_pos (by simpa using hne)]

theorem completes_rigOpen_tied (p : Port) {s : State} (ha : WriteAdmitted s .a 0x70A) (hb : WriteAdmitted s .b 0x70A)
    (hjob : s.rig.job = none) (howner : s.rig.owner = none) :
    Completes (exec (.rigOpen p (some (.write 0x70A 1))) s) fun t =>
      t.rig.owner = some s.sys.prio ∧ Owes t s.sys.prio .ok 0x70A 0 ∧
      (portGet t s.sys.prio.other).owed.stat = .refused ∧ t.sys = { s.sys with tied := true } := by
  have hadm : ∀ q, WriteAdmitted s q 0x70A := fun q => by
    cases q
    · exact ha
    · exact hb
  have hwon : ∀ q, OpenWon q s (openTied p q s) := fun q =>
    openWon_carry (openWon_carry (openWon_race (hadm q) (hadm q.other) hjob howner) p.other) p
  have hne : openTied p s.sys.prio s ≠ openTied p s.sys.prio.other s := by
    intro heq
    have hfirst := (hwon s.sys.prio).owner
    rw [heq, (hwon s.sys.prio.other).owner] at hfirst
    revert hfirst
    cases s.sys.prio <;> nofun
  have htest : (some (HostFrame.write 0x70A 1)).any (frameTest s p.other) = false := by
    simp [frameTest, testOpen]
  obtain ⟨hown, hfirst, hsecond, hsys⟩ := hwon s.sys.prio
  have hexec : exec (.rigOpen p (some (.write 0x70A 1))) s = .next (flipPrio (openTied p s.sys.prio s)) := by
    show execRigOpen p (some (.write 0x70A 1)) s = _
    rw [execRigOpen, atOwn, if_neg (by rw [htest]; nofun), withTie]
    rw [together_open hne]
  rw [hexec]
  exact completes_next ⟨hown, hfirst, hsecond, by rw [flipPrio, hsys]⟩

/-! ### The end of a command -/

/-- RND_SIGLAST shows the signature check of a stream. -/
def sigShown (c : RigCheck) (s : State) : State := if c.sig = 0 then s else { s with rnd := { s.rnd with sigLast := c.sig } }

theorem sigShown_frame (c : RigCheck) (s : State) :
    sigShown c s = { s with rnd := { s.rnd with sigLast := (sigShown c s).rnd.sigLast } } := by
  unfold sigShown
  split
  all_goals rfl

/-- The check of a command's staged stream. -/
def stagedCheck (j : RigJob) (s : State) : RigCheck := checkRig s rigMax 0 (stagedWords j.words)

theorem finishRig_eq (j : RigJob) (wear : List (Nat × Nat)) (s : State) : finishRig j wear s =
    if (stagedCheck j s).reason ≠ 0 then
      endRigJob j (stagedCheck j s).reason (stagedCheck j s).pos (sigShown (stagedCheck j s) s)
    else if j.cmd = 3 then endRigJob j 0 0 (sigShown (stagedCheck j s) s)
    else if j.cmd = 4 ∧ needsRestart (stagedCheck j s).rig (sigShown (stagedCheck j s) s).rig.running = true then
      endRigJob j 0x13 0 (sigShown (stagedCheck j s) s)
    else rigWrite j (stagedWords j.words) (stagedCheck j s).rig wear (sigShown (stagedCheck j s) s) := rfl

theorem exec_rigCommandDone {j : RigJob} {wear : List (Nat × Nat)} {s : State} (hjob : s.rig.job = some j)
    (hst : s.sys.state = .run ∨ s.sys.state = .standby) : exec (.rigCommandDone wear) s = .next (finishRig j wear s) := by
  show execRigCommandDone wear s = _
  rw [execRigCommandDone, hjob]
  exact congrArg Host.Outcome.next (if_pos hst)

/-- How a command ends for a port that is still there. -/
structure JobEnds (j : RigJob) (reason pos : Nat) (s t : State) : Prop where
  rig : t.rig = { s.rig with job := none, cmd := j.cmd, reason := reason, errPos := pos }
  event : (portGet t j.port).ievt = (portGet s j.port).ievt ||| 0x010
  frame : t = { s with rig := t.rig, ports := t.ports }

theorem jobEnds_endRigJob {j : RigJob} (hrel : j.releaseAfter = false) (reason pos : Nat) (s : State) :
    JobEnds j reason pos s (endRigJob j reason pos s) := by
  have hend : endRigJob j reason pos s = rigDone j.port (rigResult j.cmd reason pos { s with rig := { s.rig with job := none } }) := by
    unfold endRigJob
    dsimp only
    rw [hrel, if_neg Bool.false_ne_true]
  rw [hend]
  refine ⟨rfl, ?_, rfl⟩
  rw [portGet_rigDone, if_pos rfl]
  rfl

theorem completes_rigCommandDone_ends {j : RigJob} {reason pos : Nat} {wear : List (Nat × Nat)} {s : State}
    (hjob : s.rig.job = some j) (hst : s.sys.state = .run ∨ s.sys.state = .standby) (hrel : j.releaseAfter = false)
    (hfinish : finishRig j wear s = endRigJob j reason pos (sigShown (stagedCheck j s) s)) :
    Completes (exec (.rigCommandDone wear) s) fun t =>
      t.rig = { s.rig with job := none, cmd := j.cmd, reason := reason, errPos := pos } ∧
      (portGet t j.port).ievt = (portGet s j.port).ievt ||| 0x010 ∧
      t = { s with rig := t.rig, ports := t.ports, rnd := { s.rnd with sigLast := t.rnd.sigLast } } := by
  rw [exec_rigCommandDone hjob hst, hfinish]
  have hsig := sigShown_frame (stagedCheck j s) s
  generalize sigShown (stagedCheck j s) s = u at *
  obtain ⟨hrig, hevent, hframe⟩ := jobEnds_endRigJob hrel reason pos u
  generalize endRigJob j reason pos u = t at *
  refine completes_next ⟨?_, ?_, ?_⟩
  · rw [hrig, hsig]
  · rw [hevent, hsig]
    rfl
  · rw [hframe]
    rw [hsig]

theorem completes_rigCommandDone_judged {j : RigJob} {wear : List (Nat × Nat)} {s : State} (hjob : s.rig.job = some j)
    (hst : s.sys.state = .run ∨ s.sys.state = .standby) (hrel : j.releaseAfter = false)
    (hend : (stagedCheck j s).reason ≠ 0 ∨ j.cmd = 3) :
    Completes (exec (.rigCommandDone wear) s) fun t =>
      t.rig = { s.rig with job := none, cmd := j.cmd, reason := (stagedCheck j s).reason
                           errPos := if (stagedCheck j s).reason = 0 then 0 else (stagedCheck j s).pos } ∧
      (portGet t j.port).ievt = (portGet s j.port).ievt ||| 0x010 ∧
      t = { s with rig := t.rig, ports := t.ports, rnd := { s.rnd with sigLast := t.rnd.sigLast } } := by
  by_cases hgood : (stagedCheck j s).reason = 0
  · have hvalidate := hend.resolve_left (not_not_intro hgood)
    rw [if_pos hgood, hgood]
    exact completes_rigCommandDone_ends hjob hst hrel
      (by rw [finishRig_eq, if_neg (not_not_intro hgood), if_pos hvalidate])
  · rw [if_neg hgood]
    exact completes_rigCommandDone_ends hjob hst hrel (by rw [finishRig_eq, if_pos hgood])

theorem completes_rigCommandDone_restart {j : RigJob} {wear : List (Nat × Nat)} {s : State} (hjob : s.rig.job = some j)
    (hst : s.sys.state = .run) (hcmd : j.cmd = 4) (hrel : j.releaseAfter = false) (hgood : (stagedCheck j s).reason = 0)
    (hrestart : needsRestart (stagedCheck j s).rig s.rig.running = true) :
    Completes (exec (.rigCommandDone wear) s) fun t =>
      t.rig = { s.rig with job := none, cmd := 4, reason := 0x13, errPos := 0 } ∧
      (portGet t j.port).ievt = (portGet s j.port).ievt ||| 0x010 ∧
      t = { s with rig := t.rig, ports := t.ports, rnd := { s.rnd with sigLast := t.rnd.sigLast } } := by
  have hsame : (sigShown (stagedCheck j s) s).rig = s.rig := by rw [sigShown_frame]
  have hfinish : finishRig j wear s = endRigJob j 0x13 0 (sigShown (stagedCheck j s) s) := by
    rw [finishRig_eq, if_neg (not_not_intro hgood), if_neg (by omega), hsame, if_pos ⟨hcmd, hrestart⟩]
  rw [← hcmd]
  exact completes_rigCommandDone_ends hjob (.inl hst) hrel hfinish

/-! ### The write of a bank -/

theorem finishRig_write {j : RigJob} {wear : List (Nat × Nat)} {s : State} (hgood : (stagedCheck j s).reason = 0)
    (hcmd : j.cmd ≠ 3) (hlive : j.cmd = 4 → needsRestart (stagedCheck j s).rig s.rig.running = false) :
    finishRig j wear s =
      rigWrite j (stagedWords j.words) (stagedCheck j s).rig wear (sigShown (stagedCheck j s) s) := by
  have hsame : (sigShown (stagedCheck j s) s).rig = s.rig := by rw [sigShown_frame]
  rw [finishRig_eq, if_neg (not_not_intro hgood), if_neg hcmd, hsame, if_neg]
  rintro ⟨h4, hrestart⟩
  rw [hlive h4] at hrestart
  cases hrestart

theorem completes_rigCommandDone_pf {j : RigJob} {wear : List (Nat × Nat)} {s : State} (hjob : s.rig.job = some j)
    (hst : s.sys.state = .run ∨ s.sys.state = .standby) (hcmd : j.cmd = 5) (hgood : (stagedCheck j s).reason = 0)
    (hpf : s.sup.pf = true) :
    Completes (exec (.rigCommandDone wear) s) fun t =>
      t.rig.job = none ∧ t.rig.reason = 0x16 ∧ t.rig.bankA = s.rig.bankA ∧ t.rig.bankB = s.rig.bankB ∧
      t.rig.running = s.rig.running := by
  rw [exec_rigCommandDone hjob hst, finishRig_write hgood (by omega) (fun h4 => by omega)]
  have hsig := sigShown_frame (stagedCheck j s) s
  generalize sigShown (stagedCheck j s) s = u at *
  have hpf' : u.sup.pf = true := by
    rw [hsig]
    exact hpf
  have hrig : u.rig = s.rig := by rw [hsig]
  have hends : (endRigJob j 0x16 0 u).rig.job = none ∧ (endRigJob j 0x16 0 u).rig.reason = 0x16 ∧
      (endRigJob j 0x16 0 u).rig.bankA = u.rig.bankA ∧ (endRigJob j 0x16 0 u).rig.bankB = u.rig.bankB ∧
      (endRigJob j 0x16 0 u).rig.running = u.rig.running := by
    unfold endRigJob
    dsimp only
    split
    all_goals exact ⟨rfl, rfl, rfl, rfl, rfl⟩
  rw [rigWrite, if_pos hpf', ← hrig]
  exact completes_next hends

/-- The bank that a command writes. -/
def bankWritten (words : List Word) (r : RigBlock) : RigBank :=
  { words := bankWords words
    generation := nextGen r.bankA.generation r.bankA.complement r.bankB.generation r.bankB.complement
    complement := 0xFFFFFFFF - nextGen r.bankA.generation r.bankA.complement r.bankB.generation r.bankB.complement }

theorem rigBank_setRigBank {n : Nat} (hn : n = 0 ∨ n = 1) (b : RigBank) (s : State) :
    rigBank (setRigBank n b s) n = b ∧ rigBank (setRigBank n b s) (1 - n) = rigBank s (1 - n) := by
  rcases hn with rfl | rfl
  all_goals exact ⟨rfl, rfl⟩

theorem setRigBank_frame (n : Nat) (b : RigBank) (s : State) : setRigBank n b s =
    { s with rig := { s.rig with bankA := (setRigBank n b s).rig.bankA, bankB := (setRigBank n b s).rig.bankB } } := by
  unfold setRigBank
  split
  all_goals rfl

/-- A rig bank once it is written: the other bank, and all but the log, stay. -/
structure BankReplaced (n : Nat) (b : RigBank) (s t : State) : Prop where
  bank : rigBank t n = b
  other : rigBank t (1 - n) = rigBank s (1 - n)
  frame : t = { s with rig := { s.rig with bankA := t.rig.bankA, bankB := t.rig.bankB }, log := t.log }

theorem bankReplaced_write {n : Nat} (hn : n = 0 ∨ n = 1) (b : RigBank) (bytes : Nat) {s : State} (htarget : rigTarget s = n) :
    BankReplaced n b s (setRigBank n b (eraseRig bytes s)) := by
  unfold eraseRig
  dsimp only
  rw [htarget, eraseSectors_frame]
  generalize (eraseSectors _ _ _ _).log = l
  set u : State := { s with log := l } with hu
  have herased := rigBank_setRigBank hn {} u
  have hframe := setRigBank_frame n {} u
  generalize setRigBank n {} u = v at *
  have hwritten := rigBank_setRigBank hn b v
  have hframe' := setRigBank_frame n b v
  generalize setRigBank n b v = t at *
  refine ⟨hwritten.1, hwritten.2.trans herased.2, ?_⟩
  rw [hframe', hframe]

/-- What follows the write of a bank: an APPLY_LIVE takes effect, a STORE waits for a restart. -/
def bankFollows (j : RigJob) (new : Rig) (target : Nat) (s : State) : State :=
  if j.cmd = 4 then applyLive new target s else { s with rig := { s.rig with pending := true } }

theorem rigWrite_done {j : RigJob} {words : List Word} {new : Rig} {s : State} (hcalm : s.sup.pf = false)
    (hgen : nextGen s.rig.bankA.generation s.rig.bankA.complement s.rig.bankB.generation s.rig.bankB.complement < 0xFFFFFFFF) :
    rigWrite j words new [] s = endRigJob j 0 0 (bankFollows j new (rigTarget s)
      (setRigBank (rigTarget s) (bankWritten words s.rig) (eraseRig (5 * ((bankWords words).length / 4)) s))) := by
  unfold rigWrite
  dsimp only
  rw [hcalm, if_neg Bool.false_ne_true, if_neg (Nat.not_le.mpr hgen)]
  rfl

/-! ### What an APPLY_LIVE leaves of the rig block and the supplies -/

/-- The rig block and the supplies. -/
def rigSup (s : State) : RigBlock × Supply := (s.rig, s.sup)

theorem rigSup_decideWith (ks : List Nat) (s : State) : rigSup (decideWith ks s) = rigSup s := by
  refine decideWith_keeps (R := fun s t => rigSup t = rigSup s) (fun h h' => h'.trans h) (fun _ _ _ => rfl) (fun ks s => ?_)
    (fun ty l s => ?_) ks s
  · rw [rigSup, raiseMany_rig, raiseMany_sup, rigSup]
  · rw [queueRec_frame]
    rfl

theorem rigSup_sendSetup (pos : Nat) (s : State) : rigSup (sendSetup pos s) = rigSup s := by
  unfold sendSetup
  refine foldl_keeps rigSup (fun s c => ?_) _ _
  rw [sendCmd_frame]
  rfl

theorem rigSup_liveSat (old : State) (pos : Nat) (s : State) : rigSup (liveSat old pos s) = rigSup s := by
  unfold liveSat
  split
  · rfl
  · split
    · exact rigSup_sendSetup pos s
    · exact rigSup_sendSetup pos s
    · rfl
    · rfl

theorem rigSup_liveRules (old : Rig) (s : State) : rigSup (liveRules old s) = rigSup s := by
  refine foldl_keeps rigSup (fun s n => ?_) _ s
  split
  all_goals rfl

theorem rigSup_liveScan (old : Rig) (s : State) : rigSup (liveScan old s) = rigSup s := by
  unfold liveScan
  split
  all_goals rfl

theorem rigSup_liveHost (p : Port) (old new : HostRec) (s : State) : rigSup (liveHost p old new s) = rigSup s := by
  unfold liveHost
  dsimp only
  split
  · rfl
  · split
    · rw [queueHost, queueRec_frame]
      rfl
    · rfl

theorem rigSup_liveLedger (old : Rig) (s : State) : rigSup (liveLedger old s) = rigSup s := by
  unfold liveLedger
  dsimp only
  split
  · rfl
  · rw [decide18, rigSup_decideWith]
    unfold followBattery
    split
    all_goals rfl

/-- An APPLY_LIVE leaves the rig block with the new rig, and the supplies with its threshold. -/
theorem rigTaken_applyLive (new : Rig) (bank : Nat) (s : State) :
    (applyLive new bank s).rig = { s.rig with
      running := new, bank := bank, pending := false, migrated := decide (new.schema < (schemaRange s).2) } ∧
    (applyLive new bank s).sup = { s.sup with vPf := new.site.vPf } := by
  have hview : rigSup (applyLive new bank s) = ({ s.rig with
      running := new, bank := bank, pending := false, migrated := decide (new.schema < (schemaRange s).2) },
      { s.sup with vPf := new.site.vPf }) := by
    unfold applyLive
    dsimp only
    rw [rigSup_liveLedger, foldl_keeps rigSup (fun s p => rigSup_liveHost p _ _ s), rigSup_liveScan, rigSup_liveRules,
      foldl_keeps rigSup (fun s p => rigSup_liveSat _ p s), localSlots, foldl_keeps rigSup (by exact fun _ _ => rfl)]
    rfl
  exact ⟨congrArg Prod.fst hview, congrArg Prod.snd hview⟩

section
variable {j : RigJob} {s : State} (hjob : s.rig.job = some j) (hst : s.sys.state = .run ∨ s.sys.state = .standby)
  (hrel : j.releaseAfter = false) (hgood : (stagedCheck j s).reason = 0) (hcalm : s.sup.pf = false) (hbank : s.rig.bank ≤ 1)
  (hgen : nextGen s.rig.bankA.generation s.rig.bankA.complement s.rig.bankB.generation s.rig.bankB.complement < 0xFFFFFFFF)
include hjob hst hrel hgood hcalm hbank hgen

/-- A command whose bank write went well: the other bank is written, then its effect, then its end. -/
theorem rigCommandDone_written (hcmd : j.cmd ≠ 3)
    (hlive : j.cmd = 4 → needsRestart (stagedCheck j s).rig s.rig.running = false) : ∃ u,
    BankReplaced (1 - s.rig.bank) (bankWritten (stagedWords j.words) s.rig) (sigShown (stagedCheck j s) s) u ∧
    exec (.rigCommandDone []) s =
      .next (endRigJob j 0 0 (bankFollows j (stagedCheck j s).rig (1 - s.rig.bank) u)) := by
  rw [exec_rigCommandDone hjob hst, finishRig_write hgood hcmd hlive]
  have hsig := sigShown_frame (stagedCheck j s) s
  generalize sigShown (stagedCheck j s) s = u at *
  have hurig : u.rig = s.rig := by rw [hsig]
  have hucalm : u.sup.pf = false := by
    rw [hsig]
    exact hcalm
  have hustate : u.sys.state = .run ∨ u.sys.state = .standby := by
    rw [hsig]
    exact hst
  have htarget : rigTarget u = 1 - s.rig.bank := by
    rw [rigTarget, if_neg, hurig]
    intro hrecovery
    rw [hrecovery] at hustate
    rcases hustate with he | he <;> cases he
  rw [rigWrite_done hucalm (by rw [hurig]; exact hgen), htarget, hurig]
  exact ⟨_, bankReplaced_write (by omega) _ _ htarget, rfl⟩

theorem completes_rigCommandDone_store (hcmd : j.cmd = 5) :
    Completes (exec (.rigCommandDone []) s) fun t =>
      t.rig.job = none ∧ t.rig.reason = 0 ∧ t.rig.pending = true ∧ t.rig.running = s.rig.running ∧
      rigBank t (1 - s.rig.bank) = bankWritten (stagedWords j.words) s.rig ∧ rigBank t s.rig.bank = rigBank s s.rig.bank ∧
      (portGet t j.port).ievt = (portGet s j.port).ievt ||| 0x010 ∧ t.sys = s.sys := by
  obtain ⟨u, ⟨hnew, hold, hframe⟩, hexec⟩ := rigCommandDone_written hjob hst hrel hgood hcalm hbank hgen (by omega)
    (fun h4 => by omega)
  have hfollows : ∀ n, bankFollows j (stagedCheck j s).rig n u = { u with rig := { u.rig with pending := true } } := fun n =>
    if_neg (by omega)
  rw [hexec, hfollows]
  have hsig := sigShown_frame (stagedCheck j s) s
  generalize sigShown (stagedCheck j s) s = v at *
  set w : State := { u with rig := { u.rig with pending := true } } with hw
  obtain ⟨hrig, hevent, htframe⟩ := jobEnds_endRigJob hrel 0 0 w
  generalize endRigJob j 0 0 w = t at *
  rw [show 1 - (1 - s.rig.bank) = s.rig.bank by omega] at hold
  have hbanks : ∀ n, rigBank t n = rigBank u n := fun n => by
    rw [rigBank, rigBank, hrig]
  have hvbanks : ∀ n, rigBank v n = rigBank s n := fun n => by
    rw [rigBank, rigBank, hsig]
  refine completes_next ⟨?_, ?_, ?_, ?_, ?_, ?_, ?_, ?_⟩
  · rw [hrig]
  · rw [hrig]
  · rw [hrig]
  · rw [hrig]
    show u.rig.running = _
    rw [hframe, hsig]
  · rw [hbanks, hnew]
  · rw [hbanks, hold, hvbanks]
  · rw [hevent]
    show (portGet u j.port).ievt ||| _ = _
    rw [hframe, hsig]
    rfl
  · rw [htframe]
    show u.sys = _
    rw [hframe, hsig]

theorem completes_rigCommandDone_live (hcmd : j.cmd = 4)
    (hlive : needsRestart (stagedCheck j s).rig s.rig.running = false) :
    Completes (exec (.rigCommandDone []) s) fun t =>
      t.rig.job = none ∧ t.rig.reason = 0 ∧ t.rig.running = (stagedCheck j s).rig ∧ t.rig.bank = 1 - s.rig.bank ∧
      t.rig.pending = false ∧ rigBank t (1 - s.rig.bank) = bankWritten (stagedWords j.words) s.rig ∧
      rigBank t s.rig.bank = rigBank s s.rig.bank ∧ t.sup.vPf = (stagedCheck j s).rig.site.vPf := by
  obtain ⟨u, ⟨hnew, hold, hframe⟩, hexec⟩ := rigCommandDone_written hjob hst hrel hgood hcalm hbank hgen (by omega)
    (fun _ => hlive)
  have hfollows : ∀ n, bankFollows j (stagedCheck j s).rig n u = applyLive (stagedCheck j s).rig n u := fun n => if_pos hcmd
  rw [hexec, hfollows]
  have hsig := sigShown_frame (stagedCheck j s) s
  generalize sigShown (stagedCheck j s) s = v at *
  generalize (stagedCheck j s).rig = new at *
  obtain ⟨hlrig, hlsup⟩ := rigTaken_applyLive new (1 - s.rig.bank) u
  set w := applyLive new (1 - s.rig.bank) u with hw
  clear_value w
  obtain ⟨hrig, -, htframe⟩ := jobEnds_endRigJob hrel 0 0 w
  have htsup : (endRigJob j 0 0 w).sup = w.sup := by rw [htframe]
  generalize endRigJob j 0 0 w = t at *
  rw [show 1 - (1 - s.rig.bank) = s.rig.bank by omega] at hold
  have hbanks : ∀ n, rigBank t n = rigBank u n := fun n => by
    rw [rigBank, rigBank, hrig, hlrig]
  have hvbanks : ∀ n, rigBank v n = rigBank s n := fun n => by
    rw [rigBank, rigBank, hsig]
  refine completes_next ⟨?_, ?_, ?_, ?_, ?_, ?_, ?_, ?_⟩
  · rw [hrig]
  · rw [hrig]
  · rw [hrig, hlrig]
  · rw [hrig, hlrig]
  · rw [hrig, hlrig]
  · rw [hbanks, hnew]
  · rw [hbanks, hold, hvbanks]
  · rw [htsup, hlsup]

end

end Machine

/-- Settles O51. -/
theorem rigCommands : Obligations.RigCommands :=
  open Machine in
  ⟨fun _ _ => completes_rigOpen, fun _ _ => completes_rigOpen_refused, fun p _ => completes_rigOpen_tied p,
    fun _ _ => completes_rigClose,
    fun _ _ h hst => ⟨completes_next (rigAnswers_wordFrame h hst rfl (by decide) (by decide)),
      completes_next (rigAnswers_wordFrame h hst rfl (by decide) (by decide)),
      completes_next (rigAnswers_wordFrame h hst rfl (by decide) (by decide))⟩,
    fun _ _ _ => completes_rigCommandDone_judged,
    fun _ _ hjob hst hcmd hrel hgood hcalm hbank hgen =>
      completes_rigCommandDone_store hjob hst hrel hgood hcalm hbank hgen hcmd,
    fun _ _ _ => completes_rigCommandDone_restart,
    fun _ _ hjob hst hcmd hrel hgood hlive hcalm hbank hgen =>
      completes_rigCommandDone_live hjob (.inl hst) hrel hgood hcalm hbank hgen hcmd hlive,
    fun _ _ _ => completes_rigCommandDone_pf⟩

end Sys2Proof
end

section
/-! The flight recorder: seeds, freezes, dumps (chapter 26). -/
namespace Sys2Proof
namespace Machine

set_option Elab.async false

open Safety

/-! ### Seeds and the end of a delay -/

theorem completes_recorderSeed {s : State} (hrec : s.rcd.recording = true) (hst : s.sys.state = .run ∨ s.sys.state = .standby) :
    Completes (exec .recorderSeed s) fun t =>
      let n := (s.rcd.seeds.head?.map (fun x => 1 - x.buffer)).getD 0
      t = { s with rcd := { s.rcd with
        seeds := ({ tick := s.sys.tick, ready := s.rnd.ready, buffer := n } :: s.rcd.seeds).take 2
        marks := s.rcd.marks ++ [(3, n)] } } := by
  have hdue : ((s.rcd.recording || s.rcd.closing) && (decide (s.sys.state = .run) || decide (s.sys.state = .standby))) = true := by
    rcases hst with he | he <;> simp [hrec, he]
  have hexec : exec .recorderSeed s = .next (recSeed s) := congrArg Host.Outcome.next (if_pos hdue)
  rw [hexec, recSeed]
  cases s.rcd.seeds
  all_goals exact completes_next rfl

theorem completes_recorderFreezeDelayEnd {s : State} (hdelay : s.rcd.delaying = true) :
    Completes (exec .recorderFreezeDelayEnd s) fun t =>
      t.rcd.delaying = false ∧ t.rcd.frozen = true ∧ t.rcd.recording = false ∧ t.rcd.ftick = s.rcd.ftick ∧
      t.rcd.fcause = s.rcd.fcause ∧ t.rcd.seeds = s.rcd.seeds ∧ t.rcd.ram.blocks = s.rcd.ram.blocks ∧
      t = { s with rcd := t.rcd } := by
  have hexec : exec .recorderFreezeDelayEnd s = .next _ := congrArg Host.Outcome.next (if_pos hdelay)
  rw [hexec]
  exact completes_next ⟨rfl, rfl, rfl, rfl, rfl, rfl, rfl, rfl⟩

/-! ### REC_CMD -/

theorem faultWordAt_recCmd (p : Port) : faultWordAt p 0x783 = none := by cases p <;> decide

theorem recCmdTaken {p : Port} {w : Word} {s u : State} (h : WriteAdmitted s p 0x783)
    (hown : writeRecCmd p w.toNat (writeSeen p 0x783 w.toNat s) = (0, u))
    (hports : u.ports = (writeSeen p 0x783 w.toNat s).ports) : CommandTaken s p 0x783 u (wordFrame p 0x783 w s) :=
  commandTaken h (by decide) (faultWordAt_recCmd p) (by decide) (by decide) hown hports

theorem recFreeze_stands {s : State} {code : Nat} {delayed : Bool} (hrec : s.rcd.recording = true) (hfree : s.rcd.frozen = false)
    (hdelay : s.rcd.delaying = false) (hnow : delayed = false) :
    recFreeze code true delayed s = recStand code { s with rcd := markCause code s.sys.tick s.rcd } := by
  unfold recFreeze lowerCause
  simp only [hrec, hfree, hdelay, hnow]
  rfl

theorem recFreeze_missed {s : State} {code : Nat} {delayed : Bool} (hfrozen : s.rcd.frozen = true)
    (htick : s.rcd.causeTick ≠ s.sys.tick) :
    recFreeze code true delayed s = { s with rcd := { s.rcd with missed := satInc s.rcd.missed } } := by
  unfold recFreeze lowerCause
  simp only [hfrozen, decide_eq_false htick]
  rfl

theorem completes_recFreeze {p : Port} {s : State} (h : WriteAdmitted s p 0x783) (hrec : s.rcd.recording = true)
    (hfree : s.rcd.frozen = false) (hdelay : s.rcd.delaying = false) :
    Completes (exec (.recFreeze p) s) fun t =>
      t.rcd.frozen = true ∧ t.rcd.recording = false ∧ t.rcd.fcause = 6 ∧ t.rcd.ftick = s.sys.tick ∧
      t.rcd.dumping = (s.rcd.armed0 || s.rcd.armed1) ∧ t.rcd.ram.blocks = s.rcd.ram.blocks ∧ Owes t p .ok 0x783 0 ∧
      PortsAnswer s t p ∧ t = { s with rcd := t.rcd, ports := t.ports } := by
  set v := writeSeen p 0x783 2 s with hv
  have hstands : recFreezeCmd v = recStand 6 { v with rcd := markCause 6 v.sys.tick v.rcd } :=
    recFreeze_stands hrec hfree hdelay rfl
  have hword : writeRecCmd p 2 v = (0, recStand 6 { v with rcd := markCause 6 v.sys.tick v.rcd }) := by
    rw [← hstands]
    rfl
  obtain ⟨howes, hanswers, hframe⟩ := recCmdTaken (w := 2) h hword rfl
  have hexec : exec (.recFreeze p) s = .next (wordFrame p 0x783 2 s) := rfl
  rw [hexec]
  generalize wordFrame p 0x783 2 s = t at *
  refine completes_next ⟨?_, ?_, ?_, ?_, ?_, ?_, howes, hanswers, ?_⟩
  all_goals rw [hframe]
  all_goals rfl

theorem completes_recFreeze_missed {p : Port} {s : State} (h : WriteAdmitted s p 0x783) (hfrozen : s.rcd.frozen = true)
    (htick : s.rcd.causeTick ≠ s.sys.tick) :
    Completes (exec (.recFreeze p) s) fun t =>
      t = { s with rcd := { s.rcd with missed := satInc s.rcd.missed }, ports := t.ports } ∧ Owes t p .ok 0x783 0 := by
  set v := writeSeen p 0x783 2 s with hv
  have hmissed : recFreezeCmd v = { v with rcd := { v.rcd with missed := satInc v.rcd.missed } } := recFreeze_missed hfrozen htick
  have hword : writeRecCmd p 2 v = (0, { v with rcd := { v.rcd with missed := satInc v.rcd.missed } }) := by
    rw [← hmissed]
    rfl
  obtain ⟨howes, -, hframe⟩ := recCmdTaken (w := 2) h hword rfl
  exact completes_next ⟨hframe, howes⟩

theorem writeRecCmd_arm (p : Port) (s : State) :
    writeRecCmd p 1 s = ruled (armRefusal s) (recRefused p (armRefusal s) s) (recArm s) := rfl

theorem completes_recArm {p : Port} {s : State} (h : WriteAdmitted s p 0x783) (hfrozen : s.rcd.frozen = true)
    (hidle : s.rcd.dumping = false) :
    Completes (exec (.recArm p) s) fun t =>
      t.rcd.recording = (decide (s.sys.state ≠ .replay) && decide (s.sys.state ≠ .fatal)) ∧ t.rcd.frozen = false ∧
      t.rcd.seeds = [] ∧ t.rcd.ram.blocks = [] ∧ t.rcd.queue = [] ∧ t.rcd.marks = s.rcd.marks ++ [(0, 0)] ∧
      t.rcd.area0 = s.rcd.area0 ∧ t.rcd.area1 = s.rcd.area1 ∧ Owes t p .ok 0x783 0 ∧
      t = { s with rcd := t.rcd, ports := t.ports } := by
  set v := writeSeen p 0x783 1 s with hv
  have hfree : armRefusal v = 0 := if_neg (by
    show ¬ s.rcd.dumping = true
    rw [hidle]
    exact Bool.false_ne_true)
  have harm : recArm v = recStart v := if_pos hfrozen
  have hword : writeRecCmd p 1 v = (0, recStart v) := by
    rw [writeRecCmd_arm, hfree, harm]
    rfl
  obtain ⟨howes, -, hframe⟩ := recCmdTaken (w := 1) h hword rfl
  have hexec : exec (.recArm p) s = .next (wordFrame p 0x783 1 s) := rfl
  rw [hexec]
  generalize wordFrame p 0x783 1 s = t at *
  refine completes_next ⟨?_, ?_, ?_, ?_, ?_, ?_, ?_, ?_, howes, ?_⟩
  all_goals rw [hframe]
  all_goals rfl

theorem completes_recArm_refused {p : Port} {s : State} (h : WriteAdmitted s p 0x783) (hdumping : s.rcd.dumping = true) :
    Completes (exec (.recArm p) s) fun t =>
      Refused s t p 0x783 9 ∧ t = { s with rcd := { s.rcd with refuseReason := 6, refusePort := p }, ports := t.ports } := by
  set v := writeSeen p 0x783 1 s with hv
  have hwhy : armRefusal v = 6 := if_pos hdumping
  have hword : writeRecCmd p 1 v = (8 + 1, recRefused p 6 v) := by
    rw [writeRecCmd_arm, hwhy]
    rfl
  obtain ⟨hturned, hframe⟩ := commandDeclined (w := 1) h (by decide) (faultWordAt_recCmd p) hword rfl
  exact completes_next ⟨hturned, hframe⟩

/-! ### The end of a replay -/

/-- The words of a replay that a freeze and a reset leave. -/
def replayWords (r : Rec) : (Nat × Nat × Nat) × (Nat × Nat × Nat) :=
  ((r.rstat, r.divcnt, r.divt), (r.divcls, r.sigRec, r.sigRep))

theorem replayWords_recFreeze (code : Nat) (enabled delayed : Bool) (s : State) :
    replayWords (recFreeze code enabled delayed s).rcd = replayWords s.rcd := by
  unfold recFreeze
  dsimp only
  (repeat' split) <;> rfl

theorem replayWords_warmReset (cause : Nat) (s : State) :
    replayWords (warmReset cause 0 .none s).rcd = replayWords s.rcd ∧ (warmReset cause 0 .none s).rcd.replaying = false := by
  have hsafe : replayWords (resetSafe s).rcd = replayWords s.rcd := by
    rw [resetSafe, trimsOff_rcd, ripcordLocals_rcd]
    exact replayWords_recFreeze 2 (bitAt s.rcd.cfg 0) false s
  have hreset : ∀ u : State, replayWords (resetBlocks u).rcd = replayWords u.rcd ∧ (resetBlocks u).rcd.replaying = false :=
    fun _ => ⟨rfl, rfl⟩
  obtain ⟨hwords, hoff⟩ := hreset (resetSafe s)
  unfold warmReset
  generalize resetBlocks (resetSafe s) = u at *
  exact ⟨hwords.trans hsafe, hoff⟩

/-- RESET as a replay leaves it. -/
structure ReplayLeft (why : Nat) (s t : State) : Prop where
  hub : t.sys.state = .reset
  cause : t.start.nextCause = 4
  words : replayWords t.rcd = replayWords { s.rcd with rstat := why }
  ended : t.rcd.replaying = false
  flash : FlashKept s t
  silent : t.ports = ⟨{}, {}⟩

theorem replayLeft_replayEnd {why : Nat} {s : State} (hst : s.sys.state = .replay) : ReplayLeft why s (replayEnd why s) := by
  set v : State := { s with rcd := { s.rcd with rstat := why } } with hv
  have hwarm : canWarm v = true := by
    have hst' : v.sys.state = .replay := hst
    simp [canWarm, hst']
  have hend : replayEnd why s = warmReset 4 0 .none v := by
    rw [replayEnd, if_pos hst, warmRestart, if_pos hwarm]
  obtain ⟨hports, -, -, -, hkept⟩ := warmReset_restart 4 v
  obtain ⟨-, -, -, hstate, hcause, -⟩ := warmReset_words 4 0 .none v
  obtain ⟨hwords, hoff⟩ := replayWords_warmReset 4 v
  rw [hend]
  exact ⟨hstate, hcause, hwords, hoff, flashKept_from hkept rfl rfl rfl, hports⟩

theorem completes_recStop {p : Port} {s : State} (h : WriteAdmitted s p 0x783) :
    Completes (exec (.recStop p) s) fun t =>
      (s.sys.state ≠ .replay → t = { s with ports := t.ports } ∧ Owes t p .ok 0x783 0) ∧
      (s.sys.state = .replay → t.sys.state = .reset ∧ t.start.nextCause = 4 ∧ t.rcd.rstat = 4 ∧
        t.rcd.replaying = false ∧ FlashKept s t) := by
  set v := writeSeen p 0x783 3 s with hv
  have hexec : exec (.recStop p) s = .next (wordFrame p 0x783 3 s) := rfl
  rw [hexec]
  refine completes_next ⟨fun hst => ?_, fun hst => ?_⟩
  · have hword : writeRecCmd p 3 v = (0, recStop v) := rfl
    have hstop : recStop v = v := if_neg hst
    rw [hstop] at hword
    obtain ⟨howes, -, hframe⟩ := recCmdTaken (w := 3) h hword rfl
    exact ⟨hframe, howes⟩
  · have hleft : ReplayLeft 4 v (recStop v) := replayLeft_replayEnd hst
    have hframe := wordFrame_ok (w := 3) (t := recStop v) h (by decide) (faultWordAt_recCmd p) (by decide) (by decide) rfl
    obtain ⟨hstate, hcause, hwords, hoff, hflash, hports⟩ := hleft
    rw [hframe]
    generalize recStop v = u at *
    have hdumb : (portGet u p).answering = false := by
      rw [portGet, hports]
      cases p <;> rfl
    rw [respond, respondAs, hdumb, if_neg Bool.false_ne_true]
    exact ⟨hstate, hcause, congrArg (fun w => w.1.1) hwords, hoff, flashKept_from hflash rfl rfl rfl⟩

/-! ### Dumps -/

theorem exec_recorderDumpDone {ok corr : Bool} {uncorr : List Nat} {s : State} (hdumping : s.rcd.dumping = true)
    (hcalm : s.sup.pf = false) (hon : s.sys.state ≠ .off) : exec (.recorderDumpDone ok corr uncorr []) s =
      .next (ramErrors corr uncorr (dumpEnds ok (markGaps uncorr s))) := by
  have hdue : (s.rcd.dumping && !s.sup.pf && decide (s.sys.state ≠ .off)) = true := by simp [hdumping, hcalm, hon]
  have hruns : exec (.recorderDumpDone ok corr uncorr []) s =
      .next (ramErrors corr uncorr (dumpEnds (ok && true) (markGaps uncorr s))) := congrArg Host.Outcome.next (if_pos hdue)
  rw [hruns, Bool.and_true]

/-- Without an unreadable block the ring stays as it is. -/
theorem markGaps_none (s : State) : markGaps [] s = s := by
  have hsame : ((List.range s.rcd.ram.blocks.length).zip s.rcd.ram.blocks).map (fun e => e.2) = s.rcd.ram.blocks :=
    List.map_snd_zip (by simp)
  unfold markGaps
  dsimp only
  simp only [List.contains_nil, Bool.false_eq_true, if_false]
  rw [hsame]

/-- The state in which a good dump of area 0 has been written. -/
def dumpWritten (s : State) : State :=
  { s with
    rcd := { s.rcd with dumping := false, armed0 := false, armed1 := false, area0 := (dumpOf s).1 }
    free := s.free + 1 }

theorem dumpEnds_good {s : State} (harmed : s.rcd.armed0 = true) : dumpEnds true s =
    if (armOther 0 (dumpWritten s)).rcd.fcause = 2 then recGoOn (armOther 0 (dumpWritten s))
    else armOther 0 (dumpWritten s) := by
  have harea : dumpArea s = 0 := if_pos harmed
  unfold dumpEnds
  rw [harea]
  rfl

/-- The other area is erased where it is not kept; nothing else of the recorder moves. -/
theorem armOther_words (s : State) : (armOther 0 s).rcd = { s.rcd with
      area1 := (armOther 0 s).rcd.area1, armed1 := !bitAt s.rcd.keep 1 || s.rcd.armed1 } ∧
    armOther 0 s = { s with rcd := (armOther 0 s).rcd, log := (armOther 0 s).log } := by
  unfold armOther
  split
  · next hkeep =>
    rw [show bitAt s.rcd.keep 1 = true from hkeep]
    exact ⟨rfl, rfl⟩
  · next hkeep =>
    rw [show bitAt s.rcd.keep 1 = false from eq_false_of_ne_true hkeep, armArea, eraseSectors_frame]
    exact ⟨rfl, rfl⟩

theorem ramErrors_none (s : State) : ramErrors false [] s = s := by
  rw [ramErrors, if_pos rfl]
  exact raiseMany_nil .rcd s

section
variable {s : State} (hdumping : s.rcd.dumping = true) (hcalm : s.sup.pf = false) (harmed : s.rcd.armed0 = true)
include hdumping hcalm harmed

theorem completes_recorderDumpDone (hon : s.sys.state ≠ .off) (hcause : s.rcd.fcause ≠ 2) :
    Completes (exec (.recorderDumpDone true false [] []) s) fun t =>
      let l := s.rcd.ram.blocks.take 115
      t.rcd.dumping = false ∧ t.rcd.area0.valid = true ∧ t.rcd.area0.blocks = l ∧
      t.rcd.area0.seed = dumpSeed s.rcd.seeds (oldestTime l) ∧ t.rcd.area0.ftick = s.rcd.ram.ftick ∧
      t.rcd.area0.cause = s.rcd.ram.cause ∧ t.rcd.armed0 = false ∧ t.rcd.armed1 = !bitAt s.rcd.keep 1 ∧
      t.rcd.frozen = s.rcd.frozen ∧ t.fb = s.fb ∧ t.sys = s.sys := by
  obtain ⟨hwords, hframe⟩ := armOther_words (dumpWritten s)
  have hcause' : (armOther 0 (dumpWritten s)).rcd.fcause ≠ 2 := by
    rw [hwords]
    exact hcause
  rw [exec_recorderDumpDone hdumping hcalm hon, markGaps_none, ramErrors_none, dumpEnds_good harmed, if_neg hcause']
  generalize armOther 0 (dumpWritten s) = t at *
  refine completes_next ⟨?_, ?_, ?_, ?_, ?_, ?_, ?_, ?_, ?_, ?_, ?_⟩
  rotate_left 9
  · rw [hframe]
    rfl
  · rw [hframe]
    rfl
  all_goals rw [hwords]
  rotate_left 7
  · exact Bool.or_false _
  all_goals rfl

theorem completes_recorderDumpDone_reset (hlive : Live s) (hst : s.sys.state ≠ .replay) (hcause : s.rcd.fcause = 2) :
    Completes (exec (.recorderDumpDone true false [] []) s) fun t =>
      t.rcd.dumping = false ∧ t.rcd.area0.valid = true ∧ t.rcd.recording = true ∧ t.rcd.frozen = false := by
  obtain ⟨hwords, hframe⟩ := armOther_words (dumpWritten s)
  have hcause' : (armOther 0 (dumpWritten s)).rcd.fcause = 2 := by
    rw [hwords]
    exact hcause
  have hsys : (armOther 0 (dumpWritten s)).sys = s.sys := by
    rw [hframe]
    rfl
  rw [exec_recorderDumpDone hdumping hcalm hlive.1, markGaps_none, ramErrors_none, dumpEnds_good harmed, if_pos hcause']
  generalize armOther 0 (dumpWritten s) = t at *
  refine completes_next ⟨?_, ?_, ?_, rfl⟩
  · show t.rcd.dumping = false
    rw [hwords]
    rfl
  · show t.rcd.area0.valid = true
    rw [hwords]
    rfl
  · show (decide (t.sys.state ≠ .replay) && decide (t.sys.state ≠ .fatal)) = true
    rw [hsys]
    simp [hst, hlive.2]

end

/-! ### What a fault event leaves of the dump areas -/

/-- The dump areas are as they were; with none armed no dump starts. -/
structure DumpKept (s t : State) : Prop where
  area0 : t.rcd.area0 = s.rcd.area0
  armed : t.rcd.armed0 = s.rcd.armed0 ∧ t.rcd.armed1 = s.rcd.armed1
  idle : s.rcd.armed0 = false → s.rcd.armed1 = false → s.rcd.dumping = false → t.rcd.dumping = false

theorem dumpKept_of_rcd {s t : State} (h : t.rcd = s.rcd) : DumpKept s t := by
  refine ⟨?_, ⟨?_, ?_⟩, fun _ _ hidle => ?_⟩
  all_goals rw [h]
  exact hidle

theorem dumpKept_trans {s t u : State} (h : DumpKept s t) (h' : DumpKept t u) : DumpKept s u :=
  ⟨h'.area0.trans h.area0, ⟨h'.armed.1.trans h.armed.1, h'.armed.2.trans h.armed.2⟩, fun h0 h1 hidle =>
    h'.idle (h.armed.1.trans h0) (h.armed.2.trans h1) (h.idle h0 h1 hidle)⟩

theorem dumpKept_recFreeze (code : Nat) (enabled delayed : Bool) (s : State) :
    DumpKept s (recFreeze code enabled delayed s) := by
  have hstand : ∀ r : Rec, r.area0 = s.rcd.area0 → r.armed0 = s.rcd.armed0 → r.armed1 = s.rcd.armed1 →
      DumpKept s (recStand code { s with rcd := r }) := fun r harea h0 h1 => by
    refine ⟨harea, ⟨h0, h1⟩, fun hoff0 hoff1 _ => ?_⟩
    show (decide (code ≠ 2) && (r.armed0 || r.armed1)) = false
    rw [h0, h1, hoff0, hoff1]
    exact Bool.and_false _
  unfold recFreeze
  dsimp only
  split
  · exact dumpKept_of_rcd rfl
  · split
    · exact ⟨rfl, ⟨rfl, rfl⟩, fun _ _ hidle => hidle⟩
    · split
      · exact ⟨rfl, ⟨rfl, rfl⟩, fun _ _ hidle => hidle⟩
      · split
        · exact dumpKept_of_rcd rfl
        · split
          · exact ⟨rfl, ⟨rfl, rfl⟩, fun _ _ hidle => hidle⟩
          · exact hstand _ rfl rfl rfl

/-- The recorder enters FATAL unchanged, or by a freeze of cause 1. -/
theorem fatalEnter_rcd (n k kind frx : Nat) (s : State) : (fatalEnter n k kind frx s).rcd = s.rcd ∨
    ∃ u : State, (fatalEnter n k kind frx s).rcd = (recFreeze 1 true false u).rcd ∧ u.rcd = s.rcd := by
  unfold fatalEnter
  dsimp only
  split
  · exact .inl rfl
  · split
    · split
      all_goals exact .inl rfl
    · refine .inr ⟨_, queueStart_rcd _, ?_⟩
      rw [holdRules_rcd, trimsOff_rcd, ripcordLocals_rcd]
      rfl

theorem dumpKept_fatalEnter (n k kind frx : Nat) (s : State) : DumpKept s (fatalEnter n k kind frx s) := by
  rcases fatalEnter_rcd n k kind frx s with h | ⟨u, h, hu⟩
  · exact dumpKept_of_rcd h
  · exact dumpKept_trans (dumpKept_trans (dumpKept_of_rcd hu) (dumpKept_recFreeze 1 true false u)) (dumpKept_of_rcd h)

theorem dumpKept_raiseMany (b : FBlk) (ks : List Nat) (s : State) : DumpKept s (raiseMany b ks s) :=
  raiseMany_keeps (fun _ => dumpKept_of_rcd rfl) dumpKept_trans (fun _ _ => dumpKept_of_rcd rfl)
    (fun _ _ _ _ => dumpKept_of_rcd (queueFault_rcd ..)) (fun _ _ _ _ => dumpKept_recFreeze ..)
    (fun _ _ _ _ => dumpKept_of_rcd (wakeByFault_rcd ..)) (fun _ _ _ _ _ => dumpKept_fatalEnter ..) ks s

/-! ### Dumps that fail, or that read unreadable blocks -/

/-- The state in which a dump of area 0 has failed. -/
def dumpFailed (s : State) : State :=
  { s with rcd := { s.rcd with dumping := false, armed0 := false, armed1 := false, area0 := { erased := false } } }

theorem dumpEnds_bad {s : State} (harmed : s.rcd.armed0 = true) : dumpEnds false s =
    raise .rcd 2 (if s.rcd.fcause = 2 then recGoOn (dumpFailed s) else dumpFailed s) := by
  have harea : dumpArea s = 0 := if_pos harmed
  unfold dumpEnds
  rw [harea]
  rfl

theorem completes_recorderDumpDone_failed {s : State} (hdumping : s.rcd.dumping = true) (hcalm : s.sup.pf = false)
    (hlive : Live s) (harmed : s.rcd.armed0 = true) :
    Completes (exec (.recorderDumpDone false false [] []) s) fun t =>
      t.rcd.dumping = false ∧ t.rcd.area0.valid = false ∧ t.rcd.armed0 = false ∧ t.fb.rcd.fst.getLsbD 2 = true := by
  rw [exec_recorderDumpDone hdumping hcalm hlive.1, markGaps_none, ramErrors_none, dumpEnds_bad harmed]
  set u : State := if s.rcd.fcause = 2 then recGoOn (dumpFailed s) else dumpFailed s with hu
  have hsys : u.sys = s.sys := by
    rw [hu]
    split
    all_goals rfl
  have hwords : u.rcd.area0.valid = false ∧ u.rcd.armed0 = false ∧ u.rcd.armed1 = false ∧ u.rcd.dumping = false := by
    rw [hu]
    split
    all_goals exact ⟨rfl, rfl, rfl, rfl⟩
  obtain ⟨hvalid, h0, h1, hidle⟩ := hwords
  clear_value u
  have hraised : Raised .rcd 2 u (raise .rcd 2 u) := raised_raise (by rw [Live, hsys]; exact hlive) (.inl (by decide))
  have hkept : DumpKept u (raise .rcd 2 u) := dumpKept_raiseMany .rcd [2] u
  exact completes_next ⟨hkept.idle h0 h1 hidle, by rw [hkept.area0, hvalid], hkept.armed.1.trans h0,
    bit_of_raised (by decide) hraised⟩

/-- A contained source sets its bit and keeps the reactions of its block, also where it leads to FATAL. -/
theorem raise_contained_words {b : FBlk} {k : Nat} (hk : k < 9) {s : State} (hlive : Live s) (hc : classOf b k = .contained) :
    (bankGet (raise b k s).fb b).fst.getLsbD k = true ∧ (bankGet (raise b k s).fb b).frx0 = (bankGet s.fb b).frx0 := by
  cases hpend : uPend (containedMask b) (bankGet s.fb b) with
  | false =>
    have hraised := raised_raise hlive (.inr ⟨hc, hpend⟩)
    exact ⟨bit_of_raised hk hraised, hraised.frx0⟩
  | true =>
    rw [raise_of_escalated hlive hc hpend, fatalEnter_fb, queueFault_fb, bankGet_setBank, if_pos rfl]
    refine ⟨?_, rfl⟩
    have hbits := congrArg (fun w : BitVec 9 => w.getLsbD k) (stickyBits_stickSet (bankGet s.fb b) (srcBit k))
    simpa [stickyBits, srcBit, hk] using hbits

theorem gaps_markGaps {n : Nat} {s : State} (hn : n < s.rcd.ram.blocks.length) (hmax : s.rcd.ram.blocks.length ≤ 115) :
    (((markGaps [n] s).rcd.ram.blocks.take 115).reverse.map (fun b => b.gap)).getD n false = true := by
  have hlen : (markGaps [n] s).rcd.ram.blocks.length = s.rcd.ram.blocks.length := by simp [markGaps]
  have hplace : s.rcd.ram.blocks.length - 1 - (s.rcd.ram.blocks.length - 1 - n) = n := by omega
  rw [List.take_of_length_le (by omega), List.getD_eq_getElem?_getD, List.getElem?_map, List.getElem?_reverse (by omega), hlen]
  have hget : (markGaps [n] s).rcd.ram.blocks[s.rcd.ram.blocks.length - 1 - n]? =
      some { s.rcd.ram.blocks[s.rcd.ram.blocks.length - 1 - n] with gap := true } := by
    rw [List.getElem?_eq_getElem (by omega)]
    simp [markGaps, hplace]
  rw [hget]
  rfl

theorem completes_recorderDumpDone_gap {n : Nat} {s : State} (hdumping : s.rcd.dumping = true) (hcalm : s.sup.pf = false)
    (hlive : Live s) (harmed : s.rcd.armed0 = true) (hcode : codeOf s.fb.rcd 1 ≠ 4) (hn : n < s.rcd.ram.blocks.length)
    (hmax : s.rcd.ram.blocks.length ≤ 115) :
    Completes (exec (.recorderDumpDone true false [n] []) s) fun t =>
      t.fb.rcd.fst.getLsbD 1 = true ∧ t.rcd.area0.valid = true ∧
      (t.rcd.area0.blocks.reverse.map (fun b => b.gap)).getD n false = true := by
  rw [exec_recorderDumpDone hdumping hcalm hlive.1]
  set v := markGaps [n] s with hv
  have hgap := gaps_markGaps hn hmax
  obtain ⟨hwords, hframe⟩ := armOther_words (dumpWritten v)
  set w := armOther 0 (dumpWritten v) with hw
  set u : State := if w.rcd.fcause = 2 then recGoOn w else w with hu
  have hends : dumpEnds true v = u := dumpEnds_good harmed
  have hkept : u.rcd.area0 = w.rcd.area0 ∧ u.sys = w.sys ∧ u.fb = w.fb := by
    rw [hu]
    split
    all_goals exact ⟨rfl, rfl, rfl⟩
  have harea : u.rcd.area0 = (dumpOf v).1 := by
    rw [hkept.1, hwords]
    rfl
  have hsys : u.sys = s.sys := by
    rw [hkept.2.1, hframe]
    rfl
  have hfb : u.fb = s.fb := by
    rw [hkept.2.2, hframe]
    rfl
  clear_value u
  obtain ⟨hbit, hfrx⟩ := raise_contained_words (b := .rcd) (k := 1) (s := u) (by decide) (by rw [Live, hsys]; exact hlive)
    (by decide)
  have hdump : DumpKept u (raise .rcd 1 u) := dumpKept_raiseMany .rcd [1] u
  have hreset : ramReset (raise .rcd 1 u) = raise .rcd 1 u := by
    refine if_neg fun hc => hcode ?_
    have hsame : codeOf (raise .rcd 1 u).fb.rcd 1 = codeOf s.fb.rcd 1 := by
      have hfrx' : (raise .rcd 1 u).fb.rcd.frx0 = s.fb.rcd.frx0 := by
        rw [← hfb]
        exact hfrx
      rw [codeOf, if_pos (by decide), hfrx', codeOf, if_pos (by decide)]
    rw [← hsame]
    exact hc.1
  have herrors : ramErrors false [n] u = raise .rcd 1 u := hreset
  rw [hends, herrors]
  refine completes_next ⟨hbit, ?_, ?_⟩
  · rw [hdump.area0, harea]
    rfl
  · rw [hdump.area0, harea]
    exact hgap

/-! ### REC_REPLAY -/

theorem faultWordAt_recReplay (p : Port) : faultWordAt p 0x784 = none := by cases p <;> decide

/-- What the completing write of REC_REPLAY does. -/
def replayWrite (p : Port) (s : State) : Wr :=
  ruled (replayRefusal s (portGet s p).recDsel) (recRefused p (replayRefusal s (portGet s p).recDsel) s)
    (enterReplay (portGet s p).recDsel s)

theorem writeOwn_recReplay (p : Port) (v : Nat) (s : State) :
    writeOwn p 0x784 v s = keyWrite p 0x784 v 0x1E1 0x21E (replayWrite p) s := rfl

theorem completes_recReplay_first {p : Port} {s : State} (h : WriteAdmitted s p 0x784) (hkey : keyHeld s p 0x784 = false) :
    Completes (exec (.recReplay p 0x1E1) s) fun t =>
      keyHeld t p 0x784 = true ∧ Owes t p .ok 0x784 0 ∧ t = { s with ports := t.ports } := by
  have hexec : exec (.recReplay p 0x1E1) s = .next (wordFrame p 0x784 0x1E1 s) := rfl
  rw [hexec]
  exact completes_next (wordFrame_keyFirst h (by decide) (faultWordAt_recReplay p) (writeOwn_recReplay p) (by decide) (by decide)
    (by decide) hkey (by decide))

theorem recDsel_keyDone (p : Port) (a v : Nat) (s : State) : (portGet (keyDone p a v s) p).recDsel = (portGet s p).recDsel := by
  cases p <;> rfl

section
variable {p : Port} {s : State} (h : WriteAdmitted s p 0x784) (hkey : keyHeld s p 0x784 = true)
include h hkey

theorem completes_recReplay_refused (hwhy : replayRefusal s (portGet s p).recDsel ≠ 0) :
    Completes (exec (.recReplay p 0x21E) s) fun t =>
      Refused s t p 0x784 9 ∧
      t = { s with rcd := { s.rcd with refuseReason := replayRefusal s (portGet s p).recDsel, refusePort := p }
                   ports := t.ports } := by
  set v := keyDone p 0x784 0x21E s with hv
  have hrefusal : replayRefusal v (portGet v p).recDsel = replayRefusal s (portGet s p).recDsel := by
    rw [hv, recDsel_keyDone]
    rfl
  have hdone : replayWrite p v = (8 + 1, recRefused p (replayRefusal s (portGet s p).recDsel) v) := by
    rw [replayWrite, hrefusal, ruled, if_neg hwhy]
  have hframe := wordFrame_keyRefused (w := 0x21E) h (by decide) (faultWordAt_recReplay p) (writeOwn_recReplay p) hkey
    (by decide) hdone
  have hanswers : (portGet (recRefused p (replayRefusal s (portGet s p).recDsel) v) p).answering = true :=
    answering_keyDone h.1.1 0x784 0x21E
  have hexec : exec (.recReplay p 0x21E) s = .next (wordFrame p 0x784 0x21E s) := rfl
  rw [hexec, hframe]
  refine completes_next ⟨refused_wroteRefused hanswers (portGet_keyDone_other p 0x784 0x21E s) 0x784 9, ?_⟩
  rw [wroteRefused_frame]
  rfl

end

/-! ### The ripcord pulled on the local slots -/

theorem slotGet_dropRun_other {k j : Nat} (hne : j ≠ k) (s : State) : slotGet (dropRun k s) j = slotGet s j := by
  unfold dropRun
  split
  · split
    · rfl
    · simp [hne]
  · rfl

theorem dropRun_of_session {k : Nat} {s : State} (h : inSession (slotGet s k) = true) : dropRun k s = s := by
  unfold dropRun
  split
  · exact if_pos (by simp [h])
  · rfl

/-- The ripcord's action on one slot. -/
def pullSlot (s : State) (k : Nat) : State := fallSlot k 7 true false none (some 0x085) (dropRun k s)

theorem slotGet_pullSlot_other {k j : Nat} (hne : j ≠ k) (s : State) : slotGet (pullSlot s k) j = slotGet s j := by
  rw [pullSlot, slotGet_fallSlot, if_neg hne, slotGet_dropRun_other hne]

theorem slotGet_pullSlot {k : Nat} {s : State} (h : inSession (slotGet s k) = true) :
    slotGet (pullSlot s k) k = slotFall 7 true false none (some 0x085) s.sys.tick (slotGet s k) := by
  rw [pullSlot, slotGet_fallSlot, if_pos rfl, dropRun_of_session h]

theorem pullSlot_sys (s : State) (k : Nat) : (pullSlot s k).sys = s.sys := by simp [pullSlot]

theorem pullSlot_upd {s : State} (h : s.upd.phase ≠ 3) (k : Nat) : (pullSlot s k).upd = s.upd := by
  have hcut : (if k = 0 then cutFetch (dropRun k s) else dropRun k s) = dropRun k s := by
    rw [cutFetch_of_phase (by rwa [dropRun_upd]), ite_self]
  unfold pullSlot fallSlot
  dsimp only
  rw [hcut]
  split <;> simp

theorem ripcordLocals_eq (s : State) : ripcordLocals s = [0, 1, 2, 3].foldl pullSlot s := rfl

theorem slotGet_ripcordLocals {k : Nat} (hk : k < 4) {s : State} (h : inSession (slotGet s k) = true) :
    slotGet (ripcordLocals s) k = slotFall 7 true false none (some 0x085) s.sys.tick (slotGet s k) := by
  have hcases : k = 0 ∨ k = 1 ∨ k = 2 ∨ k = 3 := by omega
  rw [ripcordLocals_eq]
  simp only [List.foldl_cons, List.foldl_nil]
  obtain rfl | rfl | rfl | rfl := hcases
  · rw [slotGet_pullSlot_other (by decide), slotGet_pullSlot_other (by decide), slotGet_pullSlot_other (by decide),
      slotGet_pullSlot h]
  · rw [slotGet_pullSlot_other (by decide), slotGet_pullSlot_other (by decide),
      slotGet_pullSlot (by rwa [slotGet_pullSlot_other (by decide)]), slotGet_pullSlot_other (by decide), pullSlot_sys]
  · rw [slotGet_pullSlot_other (by decide),
      slotGet_pullSlot (by rwa [slotGet_pullSlot_other (by decide), slotGet_pullSlot_other (by decide)]),
      slotGet_pullSlot_other (by decide), slotGet_pullSlot_other (by decide), pullSlot_sys, pullSlot_sys]
  · rw [slotGet_pullSlot (by rwa [slotGet_pullSlot_other (by decide), slotGet_pullSlot_other (by decide),
        slotGet_pullSlot_other (by decide)]),
      slotGet_pullSlot_other (by decide), slotGet_pullSlot_other (by decide), slotGet_pullSlot_other (by decide),
      pullSlot_sys, pullSlot_sys, pullSlot_sys]

theorem ripcordLocals_upd {s : State} (h : s.upd.phase ≠ 3) : (ripcordLocals s).upd = s.upd := by
  have hfold : ∀ (l : List Nat) (u : State), u.upd = s.upd → (l.foldl pullSlot u).upd = s.upd := by
    intro l
    induction l with
    | nil => exact fun _ hu => hu
    | cons k l ih => exact fun u hu => ih _ ((pullSlot_upd (by rwa [hu]) k).trans hu)
  exact hfold _ s rfl

/-- What a slot in session is after the ripcord. -/
theorem falls_of_slotFall {k : Nat} {s t : State} (h : inSession (slotGet s k) = true)
    (ht : slotGet t k = slotFall 7 true false none (some 0x085) s.sys.tick (slotGet s k)) :
    Falls k 7 true (some 0x085) s t := by
  rw [slotFall, if_pos h] at ht
  constructor
  all_goals rw [ht]

/-! ### The replay begins -/

theorem enterReplay_sys (sel : Nat) (s : State) : (enterReplay sel s).sys = { s.sys with state := .replay } := by
  simp [enterReplay, newKey]

theorem enterReplay_sat (sel : Nat) (s : State) : (enterReplay sel s).sat = s.sat := by simp [enterReplay, newKey]

theorem enterReplay_ports (sel : Nat) (s : State) : (enterReplay sel s).ports = s.ports := by simp [enterReplay, newKey]

theorem enterReplay_pins (sel : Nat) (s : State) : (enterReplay sel s).pins = { s.pins with trmZ := 0xFF } := by
  simp [enterReplay, newKey, trimsOff]

theorem enterReplay_upd {s : State} (h : s.upd.phase ≠ 3) (sel : Nat) : (enterReplay sel s).upd = s.upd := by
  simp only [enterReplay, newKey, trimsOff_upd]
  rw [ripcordLocals_upd (by simpa using h), ripcordTethers_upd]

theorem slotGet_enterReplay (sel k : Nat) (s : State) :
    slotGet (enterReplay sel s) k = slotGet (ripcordLocals (ripcordTethers false s)) k :=
  slotGet_of_slots (by simp [enterReplay, newKey]) k

theorem enterReplay_rcd {sel : Nat} {s : State} {r : Recording} {x : Seed} (hsource : replaySource s sel = some (r, x)) :
    (enterReplay sel s).rcd = { s.rcd with
      recording := false, replaying := true, rstat := 0, rtick := x.tick, divt := 0, divcls := 0, sigRec := 0, sigRep := 0
      divcnt := 0
      play := { ({ source := entriesAfter r.blocks x.tick, ready := x.ready } : Replay) with key := (enterReplay sel s).free - 8192 } } := by
  simp [enterReplay, newKey, hsource]

theorem falls_enterReplay {k : Nat} (hk : k < 4) {s : State} (h : inSession (slotGet s k) = true) (sel : Nat) :
    Falls k 7 true (some 0x085) s (enterReplay sel s) := by
  refine falls_of_slotFall h ?_
  rw [slotGet_enterReplay, slotGet_ripcordLocals hk (by rwa [slotGet_ripcordTethers]), slotGet_ripcordTethers,
    ripcordTethers_sys]

theorem completes_recReplay {p : Port} {r : Recording} {x : Seed} {s : State} (h : WriteAdmitted s p 0x784)
    (hkey : keyHeld s p 0x784 = true) (hwhy : replayRefusal s (portGet s p).recDsel = 0)
    (hsource : replaySource s (portGet s p).recDsel = some (r, x)) :
    Completes (exec (.recReplay p 0x21E) s) fun t =>
      t.sys = { s.sys with state := .replay } ∧ t.rcd.replaying = true ∧ t.rcd.recording = false ∧ t.rcd.rtick = x.tick ∧
      t.rcd.play.source = entriesAfter r.blocks x.tick ∧ t.rcd.play.ready = x.ready ∧
      t.rcd.divcnt = 0 ∧ t.rcd.rstat = 0 ∧ t.pins.trmZ = 0xFF ∧ t.pins.en = s.pins.en ∧
      (∀ k, k < 4 → inSession (slotGet s k) = true → Falls k 7 true (some 0x085) s t) ∧ Owes t p .ok 0x784 0 ∧
      t.sat = s.sat ∧ (s.upd.phase ≠ 3 → t.upd = s.upd) := by
  set sel := (portGet s p).recDsel with hsel
  set v := keyDone p 0x784 0x21E s with hv
  set u := enterReplay sel v with hu
  have hdone : replayWrite p v = (0, u) := by
    have hwhy' : replayRefusal v sel = 0 := hwhy
    rw [replayWrite, hv, recDsel_keyDone, ← hv, ← hsel, hwhy', ruled, if_pos rfl, hu]
  have hframe : wordFrame p 0x784 0x21E s = wroteOk p 0x784 u := wordFrame_keyDone (w := 0x21E) h (by decide)
    (faultWordAt_recReplay p) (writeOwn_recReplay p) (by decide) (by decide) hkey (by decide) hdone
  have hexec : exec (.recReplay p 0x21E) s = .next (wordFrame p 0x784 0x21E s) := rfl
  have hanswers : (portGet u p).answering = true := by
    rw [portGet_of_ports (enterReplay_ports sel v)]
    exact answering_keyDone h.1.1 0x784 0x21E
  have howes := owes_wroteOk hanswers 0x784
  rw [shownWord_of_command (.inl (by decide))] at howes
  have hrcd := enterReplay_rcd (s := v) hsource
  have hpins := enterReplay_pins sel v
  have hfalls : ∀ k, k < 4 → inSession (slotGet s k) = true → Falls k 7 true (some 0x085) s u :=
    fun k hk hlive => by
      obtain ⟨hst, hcause, hemergency, hstatus, hcontacts, hsince, hrun⟩ := falls_enterReplay (s := v) hk hlive sel
      exact ⟨hst, hcause, hemergency, hstatus, hcontacts, hsince, hrun⟩
  have hsys : u.sys = { s.sys with state := .replay } := enterReplay_sys sel v
  have hsat : u.sat = s.sat := enterReplay_sat sel v
  have hupd : s.upd.phase ≠ 3 → u.upd = s.upd := fun hphase => enterReplay_upd (s := v) hphase sel
  rw [← hu] at hrcd hpins
  have hen : u.pins.en = s.pins.en := by rw [hpins]; rfl
  clear_value u
  rw [hexec, hframe]
  rw [wroteOk_frame] at howes ⊢
  refine completes_next ⟨hsys, ?_, ?_, ?_, ?_, ?_, ?_, ?_, congrArg Pins.trmZ hpins, hen, ?_, howes, hsat, hupd⟩
  case refine_8 =>
    intro k hk hlive
    obtain ⟨hst, hcause, hemergency, hstatus, hcontacts, hsince, hrun⟩ := hfalls k hk hlive
    exact ⟨hst, hcause, hemergency, hstatus, hcontacts, hsince, hrun⟩
  all_goals
    dsimp only
    rw [hrcd]

/-! ### One tick of the replay -/

/-- The replay has taken its tick's entries. -/
def replayTook (s : State) : State := newKey { s with rcd := { s.rcd with
  rtick := nextTick s.rcd.rtick, play := takeEntries (replayNow s) (replayRest s) s.rcd.play } }

theorem exec_replayTick {outs : List OutEvent} {s : State} (hst : s.sys.state = .replay) :
    exec (.replayTick outs) s = .next (if recordedSig (replayNow s) = signature outs then
        sourceEnds (replayNow s) (replayRest s) (replayTook s)
      else if bitAt (diverge (recordedSig (replayNow s)) outs (replayTook s)).rcd.cfg 4 then
        sourceEnds (replayNow s) (replayRest s) (diverge (recordedSig (replayNow s)) outs (replayTook s))
      else replayEnd 2 (diverge (recordedSig (replayNow s)) outs (replayTook s))) :=
  congrArg Host.Outcome.next (if_pos hst)

/-- The replay goes on where no gap stands at the tick and entries are left. -/
theorem sourceEnds_not {s : State} (hgap : replayGap s = false) (hrest : replayRest s ≠ []) (t : State) :
    sourceEnds (replayNow s) (replayRest s) t = t := by
  have hcase : sourceEnds (replayNow s) (replayRest s) t =
      if replayGap s then replayEnd 3 t else if replayRest s = [] then replayEnd 1 t else t := rfl
  rw [hcase, hgap, if_neg (by decide), if_neg hrest]

theorem sourceEnds_end {s : State} (hend : replayGap s = true ∨ replayRest s = []) (t : State) :
    sourceEnds (replayNow s) (replayRest s) t = replayEnd (if replayGap s then 3 else 1) t := by
  have hcase : sourceEnds (replayNow s) (replayRest s) t =
      if replayGap s then replayEnd 3 t else if replayRest s = [] then replayEnd 1 t else t := rfl
  rw [hcase]
  by_cases hgap : replayGap s = true
  · rw [if_pos hgap, if_pos hgap]
  · rw [if_neg hgap, if_neg hgap, if_pos (hend.resolve_left hgap)]

theorem sigCrc_frame (a : Option (Nat × Nat)) (s : State) : ∃ f, (sigCrc a s).2 = { s with free := f } := by
  cases a with
  | none => exact ⟨_, rfl⟩
  | some e => exact ⟨s.free, rfl⟩

theorem divClass_frame (outs : List OutEvent) (s : State) : ∃ f, (divClass outs s).2 = { s with free := f } := by
  rw [divClass]
  split
  · exact ⟨_, rfl⟩
  · exact ⟨s.free, rfl⟩

theorem divClass_of_outputs {outs : List OutEvent} (h : outs ≠ []) (s : State) : (divClass outs s).1 = lowestClass outs := by
  rw [divClass, if_neg h]

theorem sigCrc_of_some {a : Option (Nat × Nat)} {e : Nat × Nat} (h : a = some e) (s : State) :
    (sigCrc a s).1 = e.1 % 65536 := by
  subst h
  rfl

/-- What the first divergence records (R907). -/
structure Diverged (a : Option (Nat × Nat)) (outs : List OutEvent) (s t : State) : Prop where
  count : t.rcd.divcnt = 1
  tick : t.rcd.divt = s.rcd.rtick
  cls : outs ≠ [] → t.rcd.divcls = lowestClass outs
  recorded : ∀ e, a = some e → t.rcd.sigRec = e.1 % 65536
  reported : ∀ e, signature outs = some e → t.rcd.sigRep = e.1 % 65536
  cfg : t.rcd.cfg = s.rcd.cfg
  sys : t.sys = s.sys

theorem diverged_diverge {a : Option (Nat × Nat)} {outs : List OutEvent} {s : State} (h : s.rcd.divcnt = 0) :
    Diverged a outs s (diverge a outs s) := by
  obtain ⟨f, hx⟩ := sigCrc_frame a s
  obtain ⟨g, hy⟩ := sigCrc_frame (signature outs) (sigCrc a s).2
  obtain ⟨k, hc⟩ := divClass_frame outs (sigCrc (signature outs) (sigCrc a s).2).2
  have heq : diverge a outs s = { (divClass outs (sigCrc (signature outs) (sigCrc a s).2).2).2 with
      rcd := { (divClass outs (sigCrc (signature outs) (sigCrc a s).2).2).2.rcd with
        divcnt := satInc s.rcd.divcnt, divt := (divClass outs (sigCrc (signature outs) (sigCrc a s).2).2).2.rcd.rtick
        divcls := (divClass outs (sigCrc (signature outs) (sigCrc a s).2).2).1, sigRec := (sigCrc a s).1
        sigRep := (sigCrc (signature outs) (sigCrc a s).2).1 } } := if_pos h
  have hcls := fun hout => divClass_of_outputs (outs := outs) hout (sigCrc (signature outs) (sigCrc a s).2).2
  have hrec := fun e he => sigCrc_of_some (a := a) (e := e) he s
  have hrep := fun e he => sigCrc_of_some (a := signature outs) (e := e) he (sigCrc a s).2
  rw [heq, h]
  generalize (divClass outs (sigCrc (signature outs) (sigCrc a s).2).2).1 = c at *
  generalize (sigCrc (signature outs) (sigCrc a s).2).1 = y at *
  generalize (sigCrc a s).1 = x at *
  rw [hc, hy, hx]
  exact ⟨rfl, rfl, hcls, hrec, hrep, rfl, rfl⟩

theorem completes_replayTick_agree {outs : List OutEvent} {s : State} (hst : s.sys.state = .replay)
    (hsame : recordedSig (replayNow s) = signature outs) (hgap : replayGap s = false) (hrest : replayRest s ≠ []) :
    Completes (exec (.replayTick outs) s) fun t =>
      t.rcd = { s.rcd with rtick := nextTick s.rcd.rtick, play := t.rcd.play } ∧ t.rcd.play.source = replayRest s ∧
      t = { s with rcd := t.rcd, free := t.free } := by
  rw [exec_replayTick hst, if_pos hsame, sourceEnds_not hgap hrest]
  exact completes_next ⟨rfl, rfl, rfl⟩

theorem completes_replayTick_diverge {outs : List OutEvent} {s : State} (hst : s.sys.state = .replay)
    (hother : recordedSig (replayNow s) ≠ signature outs) (hfirst : s.rcd.divcnt = 0) :
    Completes (exec (.replayTick outs) s) fun t =>
      t.rcd.divcnt = 1 ∧ t.rcd.divt = nextTick s.rcd.rtick ∧ (outs ≠ [] → t.rcd.divcls = lowestClass outs) ∧
      (∀ e, recordedSig (replayNow s) = some e → t.rcd.sigRec = e.1 % 65536) ∧
      (∀ e, signature outs = some e → t.rcd.sigRep = e.1 % 65536) ∧
      (bitAt s.rcd.cfg 4 = false → t.sys.state = .reset ∧ t.start.nextCause = 4 ∧ t.rcd.rstat = 2) ∧
      (bitAt s.rcd.cfg 4 = true → replayGap s = false → replayRest s ≠ [] → t.sys = s.sys) := by
  have hdiv : Diverged (recordedSig (replayNow s)) outs (replayTook s) (diverge (recordedSig (replayNow s)) outs (replayTook s)) :=
    diverged_diverge hfirst
  rw [exec_replayTick hst, if_neg hother]
  generalize diverge (recordedSig (replayNow s)) outs (replayTook s) = u at *
  obtain ⟨hcount, htick, hcls, hrec, hrep, hcfg, hsys⟩ := hdiv
  have hst' : u.sys.state = .replay := by rw [hsys]; exact hst
  have hbit : bitAt u.rcd.cfg 4 = bitAt s.rcd.cfg 4 := by rw [hcfg]; rfl
  -- the words of the divergence stand whether the replay goes on or ends
  have hwords : ∀ t : State, (t.rcd.divcnt, t.rcd.divt) = (u.rcd.divcnt, u.rcd.divt) →
      (t.rcd.divcls, t.rcd.sigRec, t.rcd.sigRep) = (u.rcd.divcls, u.rcd.sigRec, u.rcd.sigRep) →
      t.rcd.divcnt = 1 ∧ t.rcd.divt = nextTick s.rcd.rtick ∧ (outs ≠ [] → t.rcd.divcls = lowestClass outs) ∧
      (∀ e, recordedSig (replayNow s) = some e → t.rcd.sigRec = e.1 % 65536) ∧
      (∀ e, signature outs = some e → t.rcd.sigRep = e.1 % 65536) := by
    intro t h1 h2
    simp only [Prod.mk.injEq] at h1 h2
    obtain ⟨h1, h2, h3, h4, h5⟩ := And.intro h1.1 (And.intro h1.2 h2)
    rw [h1, h2, h3, h4, h5]
    exact ⟨hcount, htick, hcls, hrec, hrep⟩
  have hleft : ∀ why, ReplayLeft why u (replayEnd why u) := fun why => replayLeft_replayEnd hst'
  have hended : ∀ why, (replayEnd why u).rcd.rstat = why ∧
      ((replayEnd why u).rcd.divcnt, (replayEnd why u).rcd.divt) = (u.rcd.divcnt, u.rcd.divt) ∧
      ((replayEnd why u).rcd.divcls, (replayEnd why u).rcd.sigRec, (replayEnd why u).rcd.sigRep) =
        (u.rcd.divcls, u.rcd.sigRec, u.rcd.sigRep) := by
    intro why
    have hall := (hleft why).words
    simp only [replayWords, Prod.mk.injEq] at hall ⊢
    obtain ⟨⟨h1, h2, h3⟩, h4, h5, h6⟩ := hall
    exact ⟨h1, ⟨h2, h3⟩, h4, h5, h6⟩
  cases hgo : bitAt s.rcd.cfg 4 with
  | false =>
    rw [hbit, hgo, if_neg (by decide)]
    obtain ⟨hwhy, h1, h2⟩ := hended 2
    obtain ⟨c1, c2, c3, c4, c5⟩ := hwords _ h1 h2
    exact completes_next ⟨c1, c2, c3, c4, c5, fun _ => ⟨(hleft 2).hub, (hleft 2).cause, hwhy⟩, nofun⟩
  | true =>
    rw [hbit, hgo, if_pos rfl]
    by_cases hend : replayGap s = true ∨ replayRest s = []
    · rw [sourceEnds_end hend]
      obtain ⟨-, h1, h2⟩ := hended (if replayGap s then 3 else 1)
      obtain ⟨c1, c2, c3, c4, c5⟩ := hwords _ h1 h2
      refine completes_next ⟨c1, c2, c3, c4, c5, nofun, fun _ hgap hrest => ?_⟩
      exact absurd hend (by simp [hgap, hrest])
    · obtain ⟨hgap, hrest⟩ := not_or.mp hend
      rw [sourceEnds_not (by simpa using hgap) hrest]
      obtain ⟨c1, c2, c3, c4, c5⟩ := hwords u rfl rfl
      exact completes_next ⟨c1, c2, c3, c4, c5, nofun, fun _ _ _ => hsys⟩

theorem completes_replayTick_end {outs : List OutEvent} {s : State} (hst : s.sys.state = .replay)
    (hsame : recordedSig (replayNow s) = signature outs) (hend : replayGap s = true ∨ replayRest s = []) :
    Completes (exec (.replayTick outs) s) fun t =>
      t.sys.state = .reset ∧ t.start.nextCause = 4 ∧ t.rcd.rstat = (if replayGap s then 3 else 1) := by
  have hst' : (replayTook s).sys.state = .replay := hst
  rw [exec_replayTick hst, if_pos hsame, sourceEnds_end hend]
  generalize replayTook s = u at *
  have hleft : ReplayLeft (if replayGap s then 3 else 1) u (replayEnd (if replayGap s then 3 else 1) u) :=
    replayLeft_replayEnd hst'
  exact completes_next ⟨hleft.hub, hleft.cause, congrArg (fun w => w.1.1) hleft.words⟩

theorem completes_replayTick_other {outs : List OutEvent} {s : State} (hst : s.sys.state ≠ .replay) :
    Completes (exec (.replayTick outs) s) fun t => t = s := by
  have hexec : exec (.replayTick outs) s = .next s := congrArg Host.Outcome.next (if_neg hst)
  rw [hexec]
  exact completes_next rfl

/-- Settles O52, an effect lemma per command of the recorder and of the replay. -/
theorem recorderAndReplay : Obligations.RecorderAndReplay :=
  ⟨fun _ => completes_recorderSeed,
    fun _ => completes_recorderFreezeDelayEnd,
    fun _ _ => completes_recFreeze,
    fun _ _ => completes_recFreeze_missed,
    fun _ _ => completes_recArm,
    fun _ _ => completes_recArm_refused,
    fun _ _ => completes_recStop,
    fun _ hdumping hcalm hon harmed => completes_recorderDumpDone hdumping hcalm harmed hon,
    fun _ hdumping hcalm hlive hst harmed => completes_recorderDumpDone_reset hdumping hcalm harmed hlive hst,
    fun _ => completes_recorderDumpDone_failed,
    fun _ _ => completes_recorderDumpDone_gap,
    fun _ _ => completes_recReplay_first,
    fun _ _ h hkey => completes_recReplay_refused h hkey,
    fun _ _ _ _ => completes_recReplay,
    fun _ _ => completes_replayTick_agree,
    fun _ _ => completes_replayTick_diverge,
    fun _ _ => completes_replayTick_end,
    fun _ _ => completes_replayTick_other⟩

end Machine
end Sys2Proof
end

section
/-! Refutation of O53: the ripcord at place 0 (chapters 11 and 13). -/
namespace Sys2Proof
namespace Machine

set_option Elab.async false

open Safety

/-- Place 0 with a lock, and two orders of port A that wait at the local slots 0 and 1. -/
def ordersAtPlaceZero : State :=
  Tests.zg 0 Tests.zg0 (Tests.slot 0 { st := .present, run := some { Tests.runs 1 with oid := 9 } }
    (Tests.slot 1 { st := .present, run := some { Tests.runs 1 with oid := 10 } }
      (Tests.order { Tests.order0 with id := 9, tag := 1 } (Tests.order { Tests.order0 with id := 10, tag := 2 } Tests.hub))))

/-- The return of slot 0's order is not the last on its port's ring: that of slot 1 came after it. -/
theorem ripcordSymbol_ordersAtPlaceZero :
    nextHas (fun t => decide (((perPortGet t.ord.banks .a).ring.getLast?).map (fun r => r.tag) = some 1))
      (exec (.ripcordSymbol 0 true) ordersAtPlaceZero) = false := by
  decide +kernel

/-- Refutes O53: RIPCORD_SYMBOL is claimed of place 0 too, whose slots are the local ones; of two orders of one port that it
ends, only one return can be the last on the ring. -/
theorem not_ringSymbols : ¬ Obligations.RingSymbols := by
  rintro ⟨-, -, hripcord, -⟩
  refine not_completes_of_nextHas _ ripcordSymbol_ordersAtPlaceZero (fun t ht => ?_)
    (hripcord 0 true ordersAtPlaceZero (by decide +kernel))
  obtain ⟨-, -, -, -, -, -, hcut, -⟩ := ht
  have hends := (hcut 0 (by decide) { Tests.runs 1 with oid := 9 } (by decide +kernel) rfl (by decide +kernel)
    (by decide +kernel)).hub (by decide) { Tests.order0 with id := 9, tag := 1 } (by decide +kernel)
  obtain ⟨r, hlast, htag, -⟩ := hends.ret rfl rfl
  have hport : (perPortGet t.ord.banks .a).ring.getLast? = some r := hlast
  exact decide_eq_true (by rw [hport, Option.map_some, htag])

end Machine
end Sys2Proof
end

section
/-! Enumeration, assignment, delay and time at a satellite (chapters 3, 12, 13). -/
namespace Sys2Proof
namespace Machine

set_option Elab.async false

open Safety

/-! ### Frames at a satellite -/

/-- A frame that a satellite acts on. -/
theorem onSat_mine {sat : Nat} {f : RingFrame} {rx : Arrival} {s : State} (hhears : satHears (satGet s sat) = true)
    (harrives : Arrives f rx) (g : State → State) : onSat sat true f rx g s = g s := by
  unfold onSat
  rw [hhears, if_neg (by decide), if_pos rfl, if_pos harrives]

/-- A frame that goes past. -/
theorem onSat_past {sat : Nat} {s : State} (hhears : satHears (satGet s sat) = true) (f : RingFrame) (rx : Arrival)
    (g : State → State) : onSat sat false f rx g s = modSat sat (satPass rx f) s := by
  unfold onSat
  rw [hhears, if_neg (by decide), if_neg (by decide)]

/-- Without a clock nothing is heard. -/
theorem onSat_deaf {sat : Nat} {s : State} (hdeaf : satHears (satGet s sat) = false) (mine : Bool) (f : RingFrame)
    (rx : Arrival) (g : State → State) : onSat sat mine f rx g s = s := by
  unfold onSat
  rw [hdeaf, if_pos (by decide)]

/-- Changing one satellite. -/
theorem satIs_modSat (sat : Nat) (f : Sat → Sat) (s : State) : SatIs sat (f (satGet s sat)) s (modSat sat f s) :=
  ⟨by rw [satGet_modSat, if_pos rfl], fun j hj => by rw [satGet_modSat, if_neg hj], rfl⟩

/-! ### The enumeration query -/

theorem completes_enumQuery_mine {sat hop : Nat} {rx : Arrival} {s : State} (hhears : satHears (satGet s sat) = true)
    (hfree : (satGet s sat).cond ≠ .parked) (hpos : (satGet s sat).position = rx.pos)
    (harrives : Arrives (toSat rx false 4 [byte hop]) rx) :
    Completes (exec (.enumQuery sat hop rx) s) fun t =>
      SatIs sat (satAnswer rx 4 false (identity (satGet s sat) hop) (satGet s sat)) s t := by
  have hexec : exec (.enumQuery sat hop rx) s =
      .next (modSat sat (fun x => satAnswer rx 4 false (identity x hop) x) s) := by
    show execEnumQuery sat hop rx s = _
    unfold execEnumQuery
    dsimp only
    rw [decide_eq_true hfree, decide_eq_true hpos, if_neg (by simp), Bool.and_self, onSat_mine hhears harrives]
  rw [hexec]
  exact completes_next (satIs_modSat sat _ s)

theorem completes_enumQuery_past {sat : Nat} {rx : Arrival} {s : State} (hop : Nat) (hhears : satHears (satGet s sat) = true)
    (hother : (satGet s sat).cond = .parked ∨ (satGet s sat).position ≠ rx.pos) (hraw : rx.raw = none) :
    Completes (exec (.enumQuery sat hop rx) s) fun t =>
      SatIs sat (satPass { rx with raw := none } (toSat rx false 4 [byte (hop + 1)]) (satGet s sat)) s t := by
  have hmine : (decide ((satGet s sat).cond ≠ .parked) && decide ((satGet s sat).position = rx.pos)) = false := by
    rcases hother with h | h <;> simp [h]
  have hexec : exec (.enumQuery sat hop rx) s =
      .next (modSat sat (satPass { rx with raw := none } (toSat rx false 4 [byte (hop + 1)])) s) := by
    show execEnumQuery sat hop rx s = _
    unfold execEnumQuery
    dsimp only
    rw [hmine, hhears, if_pos (by simp [arrivesAs, hraw])]
  rw [hexec]
  exact completes_next (satIs_modSat sat _ s)

theorem completes_enumQuery_deaf {sat : Nat} {s : State} (hop : Nat) (rx : Arrival) (hdeaf : satHears (satGet s sat) = false) :
    Completes (exec (.enumQuery sat hop rx) s) fun t => t = s := by
  have hexec : exec (.enumQuery sat hop rx) s = .next s := by
    show execEnumQuery sat hop rx s = _
    unfold execEnumQuery
    dsimp only
    rw [hdeaf, if_neg (by simp), onSat_deaf hdeaf]
  rw [hexec]
  exact completes_next rfl

/-! ### The local ripcord of a satellite -/

theorem slotsBut_ripcordSlot (mask k : Nat) (s : State) : SlotsBut k s (ripcordSlot mask s k) := by
  intro j hj
  unfold ripcordSlot
  split
  · rw [(traced_traceTrigger k 3 _).2 j hj, slotGet_fallSlot, if_neg hj, (traced_traceAdd k 4 5 _).2 j hj]
    unfold dropSatRun
    split
    · split
      · rfl
      · exact slotsBut_endRun k 0x085 [] 0 s j hj
    · rfl
  · rfl

theorem ripcordSlot_sys (mask k : Nat) (s : State) : (ripcordSlot mask s k).sys = s.sys := by
  have hdrop : (dropSatRun k s).sys = s.sys := by
    unfold dropSatRun
    split
    · split <;> simp
    · rfl
  unfold ripcordSlot
  split <;> simp [hdrop]

theorem dropSatRun_of_session {k : Nat} {s : State} (h : inSession (slotGet s k) = true) : dropSatRun k s = s := by
  unfold dropSatRun
  split
  · exact if_pos (by simp [h])
  · rfl

/-- A slot falls the same where it has not moved since. -/
theorem falls_of_slot {k cause : Nat} {emergency : Bool} {status : Option Nat} {s t u : State}
    (h : Falls k cause emergency status s t) (hslot : slotGet u k = slotGet t k) : Falls k cause emergency status s u := by
  obtain ⟨hst, hcause, hem, hstatus, hpins, hsince, hrun⟩ := h
  constructor
  all_goals
    rw [hslot]
    assumption

/-- A slot in session that the ripcord names. -/
theorem falls_ripcordSlot {mask k : Nat} {s : State} (hmask : bitAt mask (k % 4) = true)
    (h : inSession (slotGet s k) = true) : Falls k 7 true (some 0x085) s (ripcordSlot mask s k) := by
  have hadded := (traced_traceAdd k 4 5 s).1
  have hlive : inSession (slotGet (traceAdd k 4 5 s) k) = true := by
    rw [hadded]
    exact h
  have hget : slotGet (ripcordSlot mask s k) k =
      { slotFall 7 true false none (some 0x085) s.sys.tick (slotGet (traceAdd k 4 5 s) k) with
        trace := (slotGet (ripcordSlot mask s k) k).trace } := by
    have heq : ripcordSlot mask s k = traceTrigger k 3 (fallSlot k 7 true false none (some 0x085) (traceAdd k 4 5 s)) := by
      unfold ripcordSlot
      rw [if_pos hmask, dropSatRun_of_session h]
    rw [heq, (traced_traceTrigger k 3 _).1, slotGet_fallSlot, if_pos rfl, traceAdd_sys]
  rw [slotFall, if_pos hlive, hadded] at hget
  constructor
  all_goals rw [hget]

theorem reported_dropSatRun {k n : Nat} (hk : k / 4 = n) (s : State) : Reported n s (dropSatRun k s) := by
  have hend : Reported n s (endRun k 0x085 [] 0 s) := by
    cases hr : (slotGet s k).run with
    | none =>
      rw [endRun_of_free hr]
      exact reported_refl n s
    | some r =>
      by_cases h4 : k < 4
      · rw [endRun_local h4 hr]
        exact reported_of_sats (by simp)
      · rw [endRun_satellite (Nat.le_of_not_lt h4) hr]
        have hrep := reported_satDone k r 0x085 [] 0 (modSlot k runFreed s)
        rw [hk] at hrep
        exact ⟨hrep.1, hrep.2⟩
  unfold dropSatRun
  split
  · split
    · exact reported_refl n s
    · exact hend
  · exact reported_refl n s

theorem reported_ripcordSlot {k n : Nat} (hk : k / 4 = n) (mask : Nat) (s : State) : Reported n s (ripcordSlot mask s k) := by
  unfold ripcordSlot
  split
  · exact reported_trans (reported_dropSatRun hk s) (reported_of_sats (by simp))
  · exact reported_refl n s

/-- The ripcord at the slots of a list, all of one satellite. -/
theorem ripcord_list {mask n : Nat} {l : List Nat} (hl : ∀ k ∈ l, k / 4 = n) (hnodup : l.Nodup) (s : State) :
    Reported n s (l.foldl (ripcordSlot mask) s) ∧
    (∀ k ∈ l, bitAt mask (k % 4) = true → inSession (slotGet s k) = true →
      Falls k 7 true (some 0x085) s (l.foldl (ripcordSlot mask) s)) ∧
    (∀ j, j ∉ l → slotGet (l.foldl (ripcordSlot mask) s) j = slotGet s j) := by
  induction l generalizing s with
  | nil => exact ⟨reported_refl n s, fun k hk => absurd hk List.not_mem_nil, fun _ _ => rfl⟩
  | cons k l ih =>
    obtain ⟨hknl, hnodup'⟩ := List.nodup_cons.mp hnodup
    obtain ⟨hrep, hf, hkept⟩ := ih (fun j hj => hl j (List.mem_cons_of_mem _ hj)) hnodup' (ripcordSlot mask s k)
    rw [List.foldl_cons]
    refine ⟨reported_trans (reported_ripcordSlot (hl k List.mem_cons_self) mask s) hrep, fun j hj hmask hin => ?_, fun j hj => ?_⟩
    · rcases List.mem_cons.mp hj with rfl | hj
      · exact falls_of_slot (falls_ripcordSlot hmask hin) (hkept j hknl)
      · have hne : j ≠ k := fun h => hknl (h ▸ hj)
        have hsame := slotsBut_ripcordSlot mask k s j hne
        obtain ⟨hst, hcause, hem, hstatus, hpins, hsince, hrun⟩ := hf j hj hmask (by rw [hsame]; exact hin)
        exact ⟨hst, hcause, hem, hstatus, hpins, by rw [hsince, ripcordSlot_sys], by rw [hrun, hsame]⟩
    · rw [hkept j (fun h => hj (List.mem_cons_of_mem _ h)), slotsBut_ripcordSlot mask k s j (fun h => hj (h ▸ List.mem_cons_self))]

theorem reported_localRipcord (n mask : Nat) (s : State) : Reported n s (localRipcord n mask s) :=
  (ripcord_list (fun _ hk => mem_satSlots hk) (satSlots_nodup n) s).1

theorem slotsFall_localRipcord (n : Nat) (s : State) : SlotsFall n s (localRipcord n 0xF s) := by
  intro i hi hin
  have hmod : (4 * n + i) % 4 = i := by omega
  refine (ripcord_list (fun _ hk => mem_satSlots hk) (satSlots_nodup n) s).2.1 _ (mem_satSlots_of_lt hi) ?_ hin
  rw [hmod]
  obtain rfl | rfl | rfl | rfl : i = 0 ∨ i = 1 ∨ i = 2 ∨ i = 3 := by omega
  all_goals decide

/-! ### ASSIGN at a satellite -/

/-- A satellite that has taken its position. -/
def placed (position : Nat) (prov : Bool) (x : Sat) : Sat :=
  { x with
    position := position, provisional := prov && decide (position ≠ 0), isoBit := false
    cond := if position = 0 then .parked else assignedCond x.imageState
    lastH := false, cack := 0, togS := false, sending := none, results := [], setSat := false, setSlots := 0
    ripcordAt := none, fltN := false }

theorem completes_assign {sat position : Nat} {prov : Bool} {rx : Arrival} {s : State}
    (hhears : satHears (satGet s sat) = true) (hpos : (satGet s sat).position = rx.pos)
    (hwhom : rx.pos ≠ 0 ∨ (satGet s sat).cond ≠ .parked)
    (harrives : Arrives (toSat rx false 5 (natLe 8 (satGet s sat).uid ++ [byte position, byte (bit prov)])) rx) :
    Completes (exec (.assign sat (satGet s sat).uid position prov rx) s) fun t =>
      (satGet t sat).position = position ∧ (satGet t sat).provisional = (prov && decide (position ≠ 0)) ∧
      (satGet t sat).isoBit = false ∧
      (satGet t sat).cond = (if position = 0 then .parked else assignedCond (satGet s sat).imageState) ∧
      (satGet t sat).lastH = false ∧ (satGet t sat).togS = false ∧ (satGet t sat).setSat = false ∧
      (satGet t sat).setSlots = 0 ∧ (satGet t sat).sending = none ∧ (satGet t sat).answer = [byte position] ∧
      SatsBut sat s t ∧
      ((satGet s sat).position = 0 ∨ (satGet s sat).position = position → t.slots = s.slots) ∧
      ((satGet s sat).position ≠ 0 → (satGet s sat).position ≠ position → SlotsFall sat s t) := by
  have hmine : (decide ((satGet s sat).position = rx.pos) && (decide (rx.pos ≠ 0) ||
      (decide ((satGet s sat).uid = (satGet s sat).uid) && decide ((satGet s sat).cond ≠ .parked)))) = true := by
    rcases hwhom with h | h <;> simp [hpos, h]
  set u := if (satGet s sat).position ≠ 0 ∧ (satGet s sat).position ≠ position then localRipcord sat 0xF s else s with hu
  have hexec : exec (.assign sat (satGet s sat).uid position prov rx) s =
      .next (modSat sat (fun x => satAnswer rx 5 false [byte position] (placed position prov x)) u) := by
    show execAssign sat (satGet s sat).uid position prov rx s = _
    unfold execAssign
    dsimp only
    rw [hmine, onSat_mine hhears harrives, if_pos rfl]
    rfl
  have hrep : Reported sat s u := by
    rw [hu]
    split
    · exact reported_localRipcord sat 0xF s
    · exact reported_refl sat s
  have himage : (satGet u sat).imageState = (satGet s sat).imageState := by rw [hrep.1]
  have hkept : (satGet s sat).position = 0 ∨ (satGet s sat).position = position → u.slots = s.slots := by
    intro h
    rw [hu, if_neg (by rcases h with h | h <;> simp [h])]
  have hfalls : (satGet s sat).position ≠ 0 → (satGet s sat).position ≠ position → SlotsFall sat s u := by
    intro h h'
    rw [hu, if_pos ⟨h, h'⟩]
    exact slotsFall_localRipcord sat s
  clear_value u
  have hself : satGet (modSat sat (fun x => satAnswer rx 5 false [byte position] (placed position prov x)) u) sat =
      satAnswer rx 5 false [byte position] (placed position prov (satGet u sat)) := by rw [satGet_modSat, if_pos rfl]
  rw [satAnswer_frame] at hself
  rw [hexec]
  refine completes_next ⟨?_, ?_, ?_, ?_, ?_, ?_, ?_, ?_, ?_, ?_, fun j hj => ?_, hkept, fun h h' i hi hin =>
    falls_of_slot (hfalls h h' i hi hin) (slotGet_modSat ..)⟩
  case refine_4 =>
    rw [hself, ← himage, placed]
  case refine_11 => rw [satGet_modSat, if_neg hj, hrep.2 j hj]
  all_goals rw [hself, placed]

theorem completes_assign_past {sat uid : Nat} {rx : Arrival} {s : State} (position : Nat) (prov : Bool)
    (hhears : satHears (satGet s sat) = true)
    (hother : (satGet s sat).position ≠ rx.pos ∨ (rx.pos = 0 ∧ (satGet s sat).uid ≠ uid)) :
    Completes (exec (.assign sat uid position prov rx) s) fun t =>
      SatIs sat (satPass rx (toSat rx false 5 (natLe 8 uid ++ [byte position, byte (bit prov)])) (satGet s sat)) s t := by
  have hmine : (decide ((satGet s sat).position = rx.pos) && (decide (rx.pos ≠ 0) ||
      (decide ((satGet s sat).uid = uid) && decide ((satGet s sat).cond ≠ .parked)))) = false := by
    rcases hother with h | ⟨h, h'⟩
    · simp [h]
    · simp [h, h']
  have hexec : exec (.assign sat uid position prov rx) s =
      .next (modSat sat (satPass rx (toSat rx false 5 (natLe 8 uid ++ [byte position, byte (bit prov)]))) s) := by
    show execAssign sat uid position prov rx s = _
    unfold execAssign
    dsimp only
    rw [hmine, onSat_past hhears]
  rw [hexec]
  exact completes_next (satIs_modSat sat _ s)

theorem completes_assign_stranger {sat uid : Nat} {rx : Arrival} {s : State} (position : Nat) (prov : Bool)
    (hpos : (satGet s sat).position = rx.pos) (hpos0 : rx.pos ≠ 0) (huid : (satGet s sat).uid ≠ uid) :
    Completes (exec (.assign sat uid position prov rx) s) fun t => t = s := by
  have hmine : (decide ((satGet s sat).position = rx.pos) && (decide (rx.pos ≠ 0) ||
      (decide ((satGet s sat).uid = uid) && decide ((satGet s sat).cond ≠ .parked)))) = true := by simp [hpos, hpos0]
  have hexec : exec (.assign sat uid position prov rx) s = .next s := by
    show execAssign sat uid position prov rx s = _
    unfold execAssign
    dsimp only
    rw [hmine]
    unfold onSat
    dsimp only
    rw [if_neg huid, if_pos rfl, ite_self, ite_self]
  rw [hexec]
  exact completes_next rfl

/-! ### DELAY and TSYNC at a satellite -/

theorem completes_delayFrame {sat : Nat} {rx : Arrival} {s : State} (h : TakesFrame (satGet s sat) (toSat rx false 6 []) rx) :
    Completes (exec (.delayFrame sat rx) s) fun t =>
      SatIs sat { satGet s sat with delayArmed := some (satGet s sat).tick, delayPairK := rx.pairK } s t := by
  have hexec : exec (.delayFrame sat rx) s =
      .next (modSat sat (fun x => { x with delayArmed := some x.tick, delayPairK := rx.pairK }) s) :=
    congrArg Host.Outcome.next (onSat_of_takes h _)
  rw [hexec]
  exact completes_next (satIs_modSat sat _ s)

/-- The marker at a satellite that waited for it. -/
def markerSeen (x : Sat) : Sat := { x with delayArmed := none, markerTick := x.tick }

/-- The echo, and the answer that tells how long it took. -/
def echoed (v : Nat) (x : Sat) : Sat :=
  modPair (!x.delayPairK) (fun o => { o with echoes := o.echoes + 1 })
    (satAnswer { pairK := x.delayPairK } 6 false (natLe 2 (64 + v % 40)) x)

theorem echoed_frame (v : Nat) (x : Sat) : echoed v x = { x with
    answer := natLe 2 (64 + v % 40), outF := (echoed v x).outF, outK := (echoed v x).outK } := by
  unfold echoed
  rw [satAnswer_frame, modPair]
  split <;> rfl

theorem completes_delayMarkerEcho {sat n : Nat} {s : State} (h : (satGet s sat).delayArmed = some n) :
    Completes (exec (.delayMarkerEcho sat) s) fun t =>
      (satGet t sat).delayArmed = none ∧ (satGet t sat).markerTick = (satGet s sat).tick ∧ SatsBut sat s t ∧
      ((satGet s sat).tick - n ≤ 16000 → ∃ c, 64 ≤ c ∧ c < 104 ∧ (satGet t sat).answer = natLe 2 c) ∧
      (16000 < (satGet s sat).tick - n → (satGet t sat).answer = (satGet s sat).answer) := by
  set u := modSat sat markerSeen s with hu
  have hexec : exec (.delayMarkerEcho sat) s = .next (if (satGet s sat).tick - n ≤ 16000 then
      modSat sat (echoed (drawFree u).1) (drawFree u).2 else u) := by
    show execDelayMarkerEcho sat s = _
    unfold execDelayMarkerEcho
    dsimp only
    rw [h]
    rfl
  have huself : satGet u sat = markerSeen (satGet s sat) := by rw [hu, satGet_modSat, if_pos rfl]
  have huother : SatsBut sat s u := fun j hj => by rw [hu, satGet_modSat, if_neg hj]
  have hdraw : ∀ j, satGet (drawFree u).2 j = satGet u j := fun _ => rfl
  clear_value u
  rw [hexec]
  by_cases htime : (satGet s sat).tick - n ≤ 16000
  · rw [if_pos htime]
    have hself : satGet (modSat sat (echoed (drawFree u).1) (drawFree u).2) sat =
        echoed (drawFree u).1 (markerSeen (satGet s sat)) := by rw [satGet_modSat, if_pos rfl, hdraw, huself]
    rw [echoed_frame] at hself
    refine completes_next ⟨by rw [hself]; rfl, by rw [hself]; rfl, fun j hj => ?_, fun _ => ?_, fun hlate => ?_⟩
    · rw [satGet_modSat, if_neg hj, hdraw, huother j hj]
    · exact ⟨64 + (drawFree u).1 % 40, by omega, by omega, by rw [hself]⟩
    · exact absurd hlate (Nat.not_lt.mpr htime)
  · rw [if_neg htime]
    refine completes_next ⟨by rw [huself]; rfl, by rw [huself]; rfl, huother, fun h' => absurd h' htime, fun _ => ?_⟩
    rw [huself]
    rfl

/-- A satellite that takes its tick from TSYNC. -/
def synced (t5 d : Nat) (rx : Arrival) (x : Sat) : Sat :=
  let n := (t5 + (d + 8) / 16 + (x.tick - x.markerTick)) % (tickLast + 1)
  satAnswer rx 7 false [] { x with
    tick := n, relockAt := none, outF := movePair x.tick n x.outF, outK := movePair x.tick n x.outK }

theorem synced_frame (t5 d : Nat) (rx : Arrival) (x : Sat) : synced t5 d rx x = { x with
    tick := (t5 + (d + 8) / 16 + (x.tick - x.markerTick)) % 2 ^ 60, relockAt := none, answer := []
    outF := (synced t5 d rx x).outF, outK := (synced t5 d rx x).outK } := by
  unfold synced
  dsimp only
  rw [satAnswer_frame]
  rfl

section Tsync
variable {sat t5 d : Nat} {rx : Arrival} {s : State}
  (h : TakesFrame (satGet s sat) (toSat rx false 7 (natLe 8 t5 ++ natLe 3 d)) rx)
include h

theorem exec_tsync : exec (.tsync sat t5 d rx) s =
    .next (modSat sat (fun x => if syncs x then synced t5 d rx x else x) s) :=
  congrArg Host.Outcome.next (onSat_of_takes h _)

theorem completes_tsync (hsyncs : syncs (satGet s sat) = true) :
    Completes (exec (.tsync sat t5 d rx) s) fun t =>
      SatOuts sat { satGet s sat with
        tick := (t5 + (d + 8) / 16 + ((satGet s sat).tick - (satGet s sat).markerTick)) % 2 ^ 60, relockAt := none
        answer := [] } s t := by
  rw [exec_tsync h]
  obtain ⟨hself, hothers, hframe⟩ := satIs_modSat sat (fun x => if syncs x then synced t5 d rx x else x) s
  rw [if_pos hsyncs, synced_frame] at hself
  refine completes_next ⟨?_, hothers, hframe⟩
  rw [hself]

theorem completes_tsync_holdover (hsyncs : syncs (satGet s sat) = false) :
    Completes (exec (.tsync sat t5 d rx) s) fun t => SatIs sat (satGet s sat) s t := by
  rw [exec_tsync h]
  obtain ⟨hself, hothers, hframe⟩ := satIs_modSat sat (fun x => if syncs x then synced t5 d rx x else x) s
  rw [if_neg (by rw [hsyncs]; exact Bool.false_ne_true)] at hself
  exact completes_next ⟨hself, hothers, hframe⟩

end Tsync

end Machine
end Sys2Proof
end

section
/-! Enumeration, assignment, delay and time at the hub (chapters 3, 12, 13). -/
namespace Sys2Proof
namespace Machine

set_option Elab.async false

open Safety

/-! ### Frames of the hub -/

/-- A frame that leaves now is the last that left the end. -/
theorem leaves_hubSend {k : Nat} {e : RingEnd} {f : RingFrame} {s u : State} (hk : k < 4) (htick : u.sys.tick = s.sys.tick)
    (hquiet : (tetherGet u k).quiet = (tetherGet s k).quiet) : Safety.Leaves k e f s (hubSend k e f u) := by
  intro hfree
  have hfree' : quietNow u.sys.tick (tetherGet u k) = false := by
    rw [← hfree, htick, quietNow, hquiet, quietNow]
  rw [tetherGet_hubSend_free hk hfree']
  cases e <;> simp [hubPut]

theorem leaves_of_tth {k : Nat} {e : RingEnd} {f : RingFrame} {s t u : State} (h : Safety.Leaves k e f s t) (htth : u.tth = t.tth) :
    Safety.Leaves k e f s u := fun hfree => by rw [tetherGet_of_tth htth, h hfree]

theorem tetherGet_hubSend_other {k j : Nat} (h : j ≠ k) (e : RingEnd) (f : RingFrame) (s : State) :
    tetherGet (hubSend k e f s) j = tetherGet s j := by
  unfold hubSend
  rw [tetherGet_modTether, if_neg (fun hc => h hc.1)]

theorem tetherGet_modTether_self {k : Nat} (hk : k < 4) (f : Tether → Tether) (s : State) :
    tetherGet (modTether k f s) k = f (tetherGet s k) := by rw [tetherGet_modTether, if_pos ⟨rfl, hk⟩]

theorem tethersBut_modTether (k : Nat) (f : Tether → Tether) (s : State) : TethersBut k s (modTether k f s) := fun j hj => by
  rw [tetherGet_modTether, if_neg (fun hc => hj hc.1)]

theorem tethersBut_trans {k : Nat} {s t u : State} (h : TethersBut k s t) (h' : TethersBut k t u) : TethersBut k s u :=
  fun j hj => (h' j hj).trans (h j hj)

theorem tethersBut_of_tth {k : Nat} {s t : State} (h : t.tth = s.tth) : TethersBut k s t := fun j _ => tetherGet_of_tth h j

theorem tethersBut_hubSend (k : Nat) (e : RingEnd) (f : RingFrame) (s : State) : TethersBut k s (hubSend k e f s) :=
  fun _ hj => tetherGet_hubSend_other hj e f s

theorem tethersBut_broughtIn (k : Nat) (f : RingFrame) (rx : Arrival) (s : State) : TethersBut k s (broughtIn k f rx s) :=
  fun _ hj => tetherGet_broughtIn_other hj f rx s

theorem carries_refl (k : Nat) (s : State) : Carries k (tetherGet s k) s s := ⟨rfl, fun _ _ => rfl⟩

theorem carries_hubSend {k : Nat} {x : Tether} {s u : State} (h : Carries k x s u) (e : RingEnd) (f : RingFrame) :
    Carries k x s (hubSend k e f u) := by
  refine ⟨?_, fun j hj => ?_⟩
  · have hself := tetherGet_hubSend k e f u k
    rw [h.1] at hself
    rw [hself]
  · rw [tetherGet_hubSend_other hj, h.2 j hj]

theorem carries_of_tth {k : Nat} {x : Tether} {s t u : State} (h : Carries k x s t) (htth : u.tth = t.tth) :
    Carries k x s u := by
  have hget := tetherGet_of_tth htth
  refine ⟨?_, fun j hj => ?_⟩
  · rw [hget]
    exact h.1
  · rw [hget, h.2 j hj]

theorem viewsBut_modView (pos : Nat) (f : SatView → SatView) (s : State) : ViewsBut pos s (modView pos f s) := fun j hj => by
  rw [viewGet_modView, if_neg hj]

/-! ### An identity answer -/

theorem completes_enumAnswer_bad {k uid hwver ringver hop : Nat} {rx : Arrival} {s : State} (hk : k < 4)
    (hring : ringLive s = true) (hdeclared : (rigTether s k).isSome = true)
    (hbad : arrivesBad (frameOk (identFrame rx uid hwver ringver hop)) rx = true) :
    Completes (exec (.enumAnswer k uid hwver ringver hop rx) s) fun t =>
      (tetherGet t k).badF = satInc (tetherGet s k).badF ∧ (tetherGet t k).walk = (tetherGet s k).walk ∧
      (((tetherGet s k).badTicks.filter (fun n => decide (s.sys.tick - n ≤ 800000))).length = 15 →
        t.fb.tth.fst.getLsbD 4 = true) ∧
      TethersBut k s t ∧ t.sat = s.sat := by
  set u := broughtIn k (identFrame rx uid hwver ringver hop) rx s with hu
  have hexec : exec (.enumAnswer k uid hwver ringver hop rx) s = .next (countBad k u) :=
    (onRing_of_live hring _).trans (congrArg Host.Outcome.next (received_of_bad hdeclared hbad _))
  have hulive : Live u := live_of_ringLive hring
  have hframe : FaultFrame (badCounted k u) (countBad k u) := faultFrame_countBad hulive k
  have htether : ∀ j, tetherGet (countBad k u) j = tetherGet (badCounted k u) j := tetherGet_of_tth (faultFrame_tth hframe)
  have hkept := tetherGet_broughtIn_kept k (identFrame rx uid hwver ringver hop) rx s k
  rw [← hu] at hkept
  rw [hexec]
  refine completes_next ⟨?_, ?_, fun hmany => ?_, fun j hj => ?_, (faultFrame_sat hframe).trans rfl⟩
  · rw [htether, badCounted, tetherGet_modTether_self hk, hkept]
  · rw [htether, badCounted, tetherGet_modTether_self hk, hkept]
  · have hticks : (recentBad k u).length = 16 := by
      have hsame : recentBad k u = (s.sys.tick :: (tetherGet s k).badTicks).filter
          (fun n => decide (s.sys.tick - n ≤ 800000)) := by
        rw [recentBad, hkept]
        rfl
      rw [hsame, List.filter_cons_of_pos (by simp), List.length_cons, hmany]
    have heq : countBad k u = raise .tth 4 (badCounted k u) := if_pos (by rw [← recentBad, hticks])
    rw [heq]
    exact bit_of_raised (b := .tth) (by decide) (raised_raise hulive (.inl (by decide)))
  · rw [htether, badCounted, tethersBut_modTether k _ u j hj, hu, tetherGet_broughtIn_other hj]

theorem completes_enumAnswer_undeclared {k : Nat} {s : State} (h : (rigTether s k).isSome = false)
    (uid hwver ringver hop : Nat) (rx : Arrival) :
    Completes (exec (.enumAnswer k uid hwver ringver hop rx) s) fun t => t = s := by
  have hexec : exec (.enumAnswer k uid hwver ringver hop rx) s = .next s := by
    show execEnumAnswer k uid hwver ringver hop rx s = _
    unfold execEnumAnswer onRing
    rw [received_of_undeclared h, ite_self]
  rw [hexec]
  exact completes_next rfl

/-- The longest chain that a walk from the OUT end has seen. -/
def chainSeen (k hop : Nat) (e : RingEnd) (s : State) : State :=
  if e = .outEnd then modTether k (fun x => { x with chain := max x.chain (hop + 1) }) s else s

theorem chainSeen_frame (k hop : Nat) (e : RingEnd) (s : State) : chainSeen k hop e s = { s with tth := (chainSeen k hop e s).tth } := by
  unfold chainSeen
  split <;> rfl

theorem tetherGet_chainSeen (k hop : Nat) (e : RingEnd) (s : State) (j : Nat) :
    tetherGet (chainSeen k hop e s) j = { tetherGet s j with chain := (tetherGet (chainSeen k hop e s) j).chain } := by
  unfold chainSeen
  split
  · rw [tetherGet_modTether]
    split
    · rename_i h
      rw [h.1]
    · rfl
  · rfl

theorem tethersBut_chainSeen (k hop : Nat) (e : RingEnd) (s : State) : TethersBut k s (chainSeen k hop e s) := by
  unfold chainSeen
  split
  · exact tethersBut_modTether k _ s
  · exact fun _ _ => rfl

/-- The record of a position as a walk found its satellite. -/
def foundView (hwver ringver uid place : Nat) (e : RingEnd) (prov : Bool) (v : SatView) : SatView :=
  { v with
    state := if bitAt hwver 7 then .isolated else v.state
    uid := uid, hwver := hwver % 128, ringver := ringver, hop := place, path := e, prov := prov, assigning := true }

section Found
variable {k uid hwver ringver hop : Nat} {rx : Arrival} {w : Walk} {s : State} (hk : k < 4)
  (htakes : HubTakes s k (identFrame rx uid hwver ringver hop) rx) (hpos : rx.pos = 0)
  (hwalk : (tetherGet s k).walk = some w) (hcurrent : w.current = none)
include htakes hpos hwalk hcurrent

theorem exec_enumAnswer : exec (.enumAnswer k uid hwver ringver hop rx) s =
    .next (walkFound k w uid hwver ringver hop (broughtIn k (identFrame rx uid hwver ringver hop) rx s)) := by
  obtain ⟨hlive, hdeclared, harrives⟩ := htakes
  have hreceived : exec (.enumAnswer k uid hwver ringver hop rx) s =
      .next (enumAnswer k uid hwver ringver hop rx.pos (broughtIn k (identFrame rx uid hwver ringver hop) rx s)) :=
    (onRing_of_live hlive _).trans (congrArg Host.Outcome.next (received_of_arrives hdeclared harrives _))
  have hwalk' : (tetherGet (broughtIn k (identFrame rx uid hwver ringver hop) rx s) k).walk = some w := by
    rw [tetherGet_broughtIn_kept, ← hwalk]
  rw [hreceived, enumAnswer]
  rw [if_neg (by simp [hpos]), hwalk']
  dsimp only
  rw [hcurrent, if_neg (by decide)]

include hk in
theorem completes_enumAnswer :
    let p := givenPosition s k w.from_ uid hop
    Completes (exec (.enumAnswer k uid hwver ringver hop rx) s) fun t =>
      (parks s k uid p = false →
        (viewGet t (64 * k + p)).uid = uid ∧ (viewGet t (64 * k + p)).ringver = ringver ∧
        (viewGet t (64 * k + p)).hwver = hwver % 128 ∧ (viewGet t (64 * k + p)).assigning = true ∧
        (viewGet t (64 * k + p)).path = w.from_ ∧
        (bitAt hwver 7 = true → (viewGet t (64 * k + p)).state = .isolated) ∧ ViewsBut (64 * k + p) s t ∧
        (tetherGet t k).walk = some { w with hop := hop, given := p :: w.given, current := some (64 * k + p) } ∧
        Safety.Leaves k w.from_ (hubFrame 0 false 5 (natLe 8 uid ++ [byte p, byte (bit (viewGet t (64 * k + p)).prov)])) s t ∧
        TethersBut k s t ∧ t.fb = s.fb) ∧
      (parks s k uid p = true →
        uid ∈ (tetherGet t k).parked ∧ t.fb.tth.fst.getLsbD 2 = true ∧ t.sat = s.sat ∧
        (tetherGet t k).walk = some w ∧ Safety.Leaves k w.from_ (hubFrame 0 false 4 [0]) s t ∧ TethersBut k s t) := by
  intro p
  set f := identFrame rx uid hwver ringver hop with hf
  set b := broughtIn k f rx s with hb
  set u := chainSeen k hop w.from_ b with hu
  have hbkept := tetherGet_broughtIn_kept k f rx s k
  have hukept := tetherGet_chainSeen k hop w.from_ b k
  have hbut : TethersBut k s u :=
    tethersBut_trans (tethersBut_broughtIn k f rx s) (tethersBut_chainSeen k hop w.from_ b)
  have huwalk : (tetherGet u k).walk = some w := by rw [hukept, hbkept, ← hwalk]
  have huquiet : (tetherGet u k).quiet = (tetherGet s k).quiet := by rw [hukept, hbkept]
  have hframe : u = { s with tth := u.tth } := by rw [hu, chainSeen_frame]; rfl
  have hparks : parks u k uid p = parks s k uid p := by rw [hframe]; rfl
  have hfound : walkFound k w uid hwver ringver hop b = if parks u k uid p then sendQuery k w.from_ 0 (park k w.from_ 0 uid u)
      else assign k w.from_ 0 uid hwver ringver hop p (modTether k (fun x => { x with
        walk := some { w with hop := hop, given := p :: w.given, current := some (64 * k + p) } }) u) := rfl
  have husys : u.sys = s.sys := by rw [hframe]
  have huview : ∀ q, viewGet u q = viewGet s q := fun q => viewGet_of_sat (by rw [hframe]) q
  have hufb : u.fb = s.fb := by rw [hframe]
  have husat : u.sat = s.sat := by rw [hframe]
  rw [exec_enumAnswer htakes hpos hwalk hcurrent, hfound, hparks]
  have hulive : Live u := by rw [Live, husys]; exact live_of_ringLive htakes.1
  clear_value u
  cases hcase : parks s k uid p with
  | false =>
    rw [if_neg (by decide)]
    refine completes_next ⟨fun _ => ?_, nofun⟩
    set v := modTether k (fun x => { x with
      walk := some { w with hop := hop, given := p :: w.given, current := some (64 * k + p) } }) u with hv
    have hvself := tetherGet_modTether_self hk (fun x => { x with
      walk := some { w with hop := hop, given := p :: w.given, current := some (64 * k + p) } }) u
    rw [← hv] at hvself
    have hvview : ∀ q, viewGet v q = viewGet u q := fun _ => rfl
    have hvbut : TethersBut k u v := tethersBut_modTether k _ u
    have hvsys : v.sys = u.sys := rfl
    have hvfb : v.fb = u.fb := rfl
    clear_value v
    set prov := decide (w.from_ = .retEnd) && !((rigSat v (64 * k + p)).map (fun r => r.pinned)).getD false with hprov
    set x := modView (64 * k + p) (foundView hwver ringver uid (placeOf v k w.from_ hop) w.from_ prov) v with hx
    have hassign : assign k w.from_ 0 uid hwver ringver hop p v =
        hubSend k w.from_ (hubFrame 0 false 5 (natLe 8 uid ++ [byte p, byte (bit prov)])) x := rfl
    have hself : viewGet x (64 * k + p) =
        foundView hwver ringver uid (placeOf v k w.from_ hop) w.from_ prov (viewGet v (64 * k + p)) := by
      rw [hx, viewGet_modView, if_pos rfl]
    have hxviews : ∀ q, viewGet (assign k w.from_ 0 uid hwver ringver hop p v) q = viewGet x q := fun _ => rfl
    have hprov' : (viewGet (assign k w.from_ 0 uid hwver ringver hop p v) (64 * k + p)).prov = prov := by
      rw [hxviews, hself]
      rfl
    rw [hprov']
    refine ⟨?_, ?_, ?_, ?_, ?_, fun hbit => ?_, fun q hq => ?_, ?_, ?_, ?_, ?_⟩
    case refine_6 =>
      rw [hxviews, hself, foundView]
      exact if_pos hbit
    case refine_7 => rw [hxviews, hx, viewGet_modView, if_neg hq, hvview, huview]
    case refine_8 =>
      rw [hassign, tetherGet_hubSend]
      exact congrArg Tether.walk hvself
    case refine_9 =>
      rw [hassign]
      refine leaves_hubSend hk (congrArg Sys.tick (hvsys.trans husys)) ?_
      exact (congrArg Tether.quiet hvself).trans huquiet
    case refine_10 =>
      rw [hassign]
      exact tethersBut_trans (tethersBut_trans hbut hvbut) (tethersBut_hubSend k _ _ x)
    case refine_11 => exact hvfb.trans hufb
    all_goals
      rw [hxviews, hself]
      rfl
  | true =>
    rw [if_pos rfl]
    refine completes_next ⟨nofun, fun _ => ?_⟩
    set list := fun x : Tether => { x with parked := if x.parked.contains uid then x.parked else uid :: x.parked } with hlist
    set v := modTether k list u with hv
    have hvself : tetherGet v k = list (tetherGet u k) := tetherGet_modTether_self hk list u
    have hvbut : TethersBut k u v := tethersBut_modTether k _ u
    set x := sendAssign k w.from_ 0 uid 0 false v with hx
    have hxself := tetherGet_hubSend k w.from_ (hubFrame 0 false 5 (natLe 8 uid ++ [byte 0, byte (bit false)])) v k
    have hxbut : TethersBut k v x := tethersBut_hubSend k w.from_ _ v
    have hxsys : x.sys = u.sys := rfl
    have hxsat : x.sat = u.sat := rfl
    have hraised : Raised .tth 2 x (raise .tth 2 x) := raised_raise (by rw [Live, hxsys]; exact hulive) (.inl (by decide))
    have hpark : park k w.from_ 0 uid u = raise .tth 2 x := rfl
    have hrtth : (raise .tth 2 x).tth = x.tth := faultFrame_tth hraised.frame
    have hrget : tetherGet (raise .tth 2 x) k = { list (tetherGet u k) with
        sent := (tetherGet x k).sent, txOut := (tetherGet x k).txOut, txRet := (tetherGet x k).txRet
        txWait := (tetherGet x k).txWait } := by
      rw [tetherGet_of_tth hrtth, hx, sendAssign, hxself, hvself]
    have hbits : (raise .tth 2 x).fb.tth.fst.getLsbD 2 = true := bit_of_raised (b := .tth) (by decide) hraised
    have hrsat : (raise .tth 2 x).sat = s.sat := (faultFrame_sat hraised.frame).trans (hxsat.trans husat)
    have hrtick : (raise .tth 2 x).sys.tick = s.sys.tick :=
      (faultFrame_tick hraised.frame).trans (congrArg Sys.tick (hxsys.trans husys))
    have hrbut : TethersBut k s (raise .tth 2 x) :=
      tethersBut_trans (tethersBut_trans (tethersBut_trans hbut hvbut) hxbut) (tethersBut_of_tth hrtth)
    rw [hpark]
    generalize raise .tth 2 x = y at *
    have hquery : sendQuery k w.from_ 0 y = hubSend k w.from_ (hubFrame 0 false 4 [0]) y := rfl
    rw [hquery]
    refine ⟨?_, hbits, hrsat, ?_, leaves_hubSend hk hrtick ?_, tethersBut_trans hrbut (tethersBut_hubSend k _ _ y)⟩
    · rw [tetherGet_hubSend, hrget]
      show uid ∈ if (tetherGet u k).parked.contains uid then (tetherGet u k).parked else uid :: (tetherGet u k).parked
      split
      · rename_i hin
        exact List.contains_iff_mem.mp hin
      · exact List.mem_cons_self
    · rw [tetherGet_hubSend, hrget]
      exact huwalk
    · rw [hrget]
      exact huquiet

end Found

/-! ### The end of a walk -/

/-- A walk from the OUT end that went unanswered goes on from the RET end. -/
def walkAfter (w : Walk) : Option Walk :=
  if w.from_ = .outEnd then some { from_ := .retEnd, given := w.given, outDone := true } else none

/-- The position that a walk waited for is not assigned. -/
def walkDropped (w : Walk) (s : State) : State :=
  match w.current with
  | some pos => modView pos (fun v => { v with assigning := false }) s
  | none => s

theorem walkDropped_frame (w : Walk) (s : State) :
    walkDropped w s = { s with sat := { s.sat with views := (walkDropped w s).sat.views } } := by
  unfold walkDropped
  split <;> rfl

theorem walkEnds_eq {k : Nat} {w : Walk} {s : State} (hwalk : (tetherGet s k).walk = some w) (intact : Bool) :
    walkEnds k intact s = if w.from_ = .outEnd ∧ intact = false then
        sendQuery k .retEnd 0 (modTether k (fun x => { x with
          walk := some { from_ := .retEnd, given := w.given, outDone := true } }) (walkDropped w s))
      else modTether k (fun x => { x with walk := none }) (walkDropped w s) := by
  unfold walkEnds
  rw [hwalk]
  rfl

/-- What the end of a walk changes. -/
theorem walkEnds_words {k : Nat} {w : Walk} {s : State} (hk : k < 4) (hwalk : (tetherGet s k).walk = some w) :
    Carries k { tetherGet s k with walk := walkAfter w } s (walkEnds k false s) ∧
    (w.from_ = .outEnd → Safety.Leaves k .retEnd (hubFrame 0 false 4 [0]) s (walkEnds k false s)) ∧
    (walkEnds k false s).sat = (walkDropped w s).sat ∧
    walkEnds k false s = { s with tth := (walkEnds k false s).tth, sat := (walkEnds k false s).sat } := by
  set d := walkDropped w s with hd
  have hframe : d = { s with sat := { s.sat with views := d.sat.views } } := walkDropped_frame w s
  have htether : ∀ j, tetherGet d j = tetherGet s j := fun j => by rw [hframe]; rfl
  have htick : d.sys.tick = s.sys.tick := by rw [hframe]
  have hall : ∀ t : State, t = { d with tth := t.tth } → t = { s with tth := t.tth, sat := t.sat } := by
    intro t ht
    rw [ht, hframe]
  have hcarries : ∀ l : Option Walk, Carries k { tetherGet s k with walk := l } s
      (modTether k (fun x => { x with walk := l }) d) := by
    intro l
    refine ⟨?_, fun j hj => ?_⟩
    · rw [tetherGet_modTether_self hk, htether]
    · rw [tethersBut_modTether k _ d j hj, htether]
  rw [walkEnds_eq hwalk, ← hd, walkAfter]
  clear_value d
  by_cases hout : w.from_ = .outEnd
  · rw [if_pos (show w.from_ = .outEnd ∧ false = false from ⟨hout, rfl⟩), if_pos hout]
    refine ⟨carries_hubSend (hcarries _) .retEnd _, fun _ => leaves_hubSend hk htick ?_, rfl, hall _ rfl⟩
    rw [tetherGet_modTether_self hk, htether]
  · rw [if_neg (show ¬ (w.from_ = .outEnd ∧ false = false) from fun h => hout h.1), if_neg hout]
    exact ⟨hcarries none, fun h => absurd h hout, rfl, hall _ rfl⟩

theorem completes_enumWalkTimeout {k : Nat} {w : Walk} {s : State} (hk : k < 4) (hring : ringLive s = true)
    (hwalk : (tetherGet s k).walk = some w) :
    Completes (exec (.enumWalkTimeout k) s) fun t =>
      let w' : Option Walk := if w.from_ = .outEnd then some { from_ := .retEnd, given := w.given, outDone := true } else none
      Carries k { tetherGet s k with walk := w' } s t ∧
      (w.from_ = .outEnd → Safety.Leaves k .retEnd (hubFrame 0 false 4 [0]) s t) ∧
      (w.current = none → t.sat = s.sat) ∧
      (∀ pos, w.current = some pos → (viewGet t pos).assigning = false ∧ ViewsBut pos s t) ∧
      t = { s with tth := t.tth, sat := t.sat } := by
  have hexec : exec (.enumWalkTimeout k) s = .next (walkEnds k false s) := onRing_of_live hring _
  obtain ⟨hcarries, hleaves, hsat, hframe⟩ := walkEnds_words hk hwalk
  rw [hexec]
  refine completes_next ⟨hcarries, hleaves, fun hnone => ?_, fun pos hpos => ?_, hframe⟩
  · rw [hsat, walkDropped, hnone]
  · have hdropped : walkDropped w s = modView pos (fun v => { v with assigning := false }) s := by rw [walkDropped, hpos]
    have hview : ∀ q, viewGet (walkEnds k false s) q = viewGet (modView pos (fun v => { v with assigning := false }) s) q :=
      fun q => viewGet_of_sat (by rw [hsat, hdropped]) q
    refine ⟨?_, fun q hq => ?_⟩
    · rw [hview, viewGet_modView, if_pos rfl]
    · rw [hview, viewGet_modView, if_neg hq]

/-! ### The hub's own query comes back -/

/-- The hub takes its own frame at an end. -/
def ownSeen (k : Nat) (query farEnd : Bool) (s : State) : State :=
  let x := tetherGet s k
  let atRet := match x.walk with
    | some w => xor (decide (w.from_ = .retEnd)) farEnd
    | none => farEnd
  let l := if query then (packFrame { hubFrame 0 false 4 [byte x.chain] with pos := 0 }).map Sym.d else x.txOut
  modTether k (fun x => { x with taken := x.taken ++ [ringInput k atRet l] }) s

theorem carries_ownSeen {k : Nat} (hk : k < 4) (query farEnd : Bool) (s : State) :
    Carries k (tetherGet s k) s (ownSeen k query farEnd s) := by
  refine ⟨?_, fun j hj => tethersBut_modTether k _ s j hj⟩
  have hself : tetherGet (ownSeen k query farEnd s) k =
      { tetherGet s k with taken := (tetherGet (ownSeen k query farEnd s) k).taken } := by
    unfold ownSeen
    dsimp only
    rw [tetherGet_modTether_self hk]
  rw [hself]

theorem ownSeen_walk {k : Nat} {w : Option Walk} {s : State} (hk : k < 4) (hwalk : (tetherGet s k).walk = w)
    (query farEnd : Bool) : (tetherGet (ownSeen k query farEnd s) k).walk = w := by
  rw [(carries_ownSeen hk query farEnd s).1, ← hwalk]

theorem exec_dir0FrameReturned {k : Nat} {w : Walk} {farEnd : Bool} {s : State} (hk : k < 4) (hring : ringLive s = true)
    (hwalk : (tetherGet s k).walk = some w) (hcurrent : w.current = none) :
    exec (.dir0FrameReturned k true farEnd) s = .next (if farEnd then becomeIntact k (ownSeen k true farEnd s)
      else walkEnds k false (foundWrapped k (ownSeen k true farEnd s))) := by
  have hseen := ownSeen_walk hk hwalk true farEnd
  have hexec : exec (.dir0FrameReturned k true farEnd) s =
      .next (match (tetherGet (ownSeen k true farEnd s) k).walk with
        | some w =>
          if w.current.isSome || !true then ownSeen k true farEnd s
          else if farEnd then becomeIntact k (ownSeen k true farEnd s)
          else walkEnds k false (foundWrapped k (ownSeen k true farEnd s))
        | none => ownSeen k true farEnd s) := by
    show execDir0FrameReturned k true farEnd s = _
    rw [execDir0FrameReturned, onRing_of_live hring]
    rfl
  rw [hexec, hseen]
  dsimp only
  rw [hcurrent, if_neg (by decide)]

theorem completes_dir0FrameReturned_other {k : Nat} (hk : k < 4) (farEnd : Bool) (s : State) :
    Completes (exec (.dir0FrameReturned k false farEnd) s) fun t =>
      Carries k (tetherGet s k) s t ∧ t = { s with tth := t.tth } := by
  have hexec : exec (.dir0FrameReturned k false farEnd) s =
      .next (if ringLive s then ownSeen k false farEnd s else s) := by
    have hmatch : ∀ u : State, (match (tetherGet u k).walk with
        | some w =>
          if w.current.isSome || !false then u
          else if farEnd then becomeIntact k u else walkEnds k false (foundWrapped k u)
        | none => u) = u := by
      intro u
      split
      · exact if_pos (by simp)
      · rfl
    exact congrArg (fun u => Host.Outcome.next (if ringLive s then u else s)) (hmatch (ownSeen k false farEnd s))
  rw [hexec]
  split
  · exact completes_next ⟨carries_ownSeen hk false farEnd s, rfl⟩
  · exact completes_next ⟨carries_refl k s, rfl⟩

theorem completes_dir0FrameReturned_near {k : Nat} {w : Walk} {s : State} (hk : k < 4) (hring : ringLive s = true)
    (hwalk : (tetherGet s k).walk = some w) (hcurrent : w.current = none) (hout : w.from_ = .outEnd) :
    Completes (exec (.dir0FrameReturned k true false) s) fun t =>
      (tetherGet t k).mode = 3 ∧ (tetherGet t k).walk = some { from_ := .retEnd, given := w.given, outDone := true } ∧
      ((tetherGet s k).mode = 1 → (tetherGet s k).brkA = 0 → (tetherGet s k).brkB = 0 →
        (tetherGet t k).brkA = (tetherGet s k).chain + 1 ∧ (tetherGet t k).brkB = (tetherGet s k).chain + 1) ∧
      ((tetherGet s k).mode ≠ 1 → (tetherGet t k).brkA = (tetherGet s k).brkA ∧
      (tetherGet t k).brkB = (tetherGet s k).brkB) ∧
      TethersBut k s t ∧ t = { s with tth := t.tth } := by
  rw [exec_dir0FrameReturned hk hring hwalk hcurrent, if_neg (by decide)]
  obtain ⟨hself, hbut⟩ := carries_ownSeen hk true false s
  have hframe : ownSeen k true false s = { s with tth := (ownSeen k true false s).tth } := rfl
  set o := ownSeen k true false s with ho
  clear_value o
  set v := foundWrapped k o with hv
  have hvself : tetherGet v k = { tetherGet o k with
      mode := 3
      brkA := if (if (tetherGet o k).mode = 1 ∧ (tetherGet o k).brkA = 0 ∧ (tetherGet o k).brkB = 0
        then (tetherGet o k).chain + 1 else 0) = 0 then (tetherGet o k).brkA
        else (if (tetherGet o k).mode = 1 ∧ (tetherGet o k).brkA = 0 ∧ (tetherGet o k).brkB = 0
        then (tetherGet o k).chain + 1 else 0)
      brkB := if (if (tetherGet o k).mode = 1 ∧ (tetherGet o k).brkA = 0 ∧ (tetherGet o k).brkB = 0
        then (tetherGet o k).chain + 1 else 0) = 0 then (tetherGet o k).brkB
        else (if (tetherGet o k).mode = 1 ∧ (tetherGet o k).brkA = 0 ∧ (tetherGet o k).brkB = 0
        then (tetherGet o k).chain + 1 else 0) } := by
    rw [hv, foundWrapped, tetherGet_modTether_self hk]
  have hvbut : TethersBut k o v := tethersBut_modTether k _ o
  have hvframe : v = { o with tth := v.tth } := rfl
  have hvwalk : (tetherGet v k).walk = some w := by
    rw [hvself, hself]
    exact hwalk
  have howords : (tetherGet o k).mode = (tetherGet s k).mode ∧ (tetherGet o k).brkA = (tetherGet s k).brkA ∧
      (tetherGet o k).brkB = (tetherGet s k).brkB ∧ (tetherGet o k).chain = (tetherGet s k).chain := by
    rw [hself]
    exact ⟨rfl, rfl, rfl, rfl⟩
  obtain ⟨hmode, hbrkA, hbrkB, hchain⟩ := howords
  rw [hmode, hbrkA, hbrkB, hchain] at hvself
  clear_value v
  obtain ⟨hcarries, -, hsat, hwalkFrame⟩ := walkEnds_words hk hvwalk
  have hdropped : walkDropped w v = v := by rw [walkDropped, hcurrent]
  rw [hdropped] at hsat
  obtain ⟨hcself, hcbut⟩ := hcarries
  have hafter : walkAfter w = some { from_ := .retEnd, given := w.given, outDone := true } := if_pos hout
  generalize walkEnds k false v = t at *
  refine completes_next ⟨?_, ?_, fun h1 hA hB => ?_, fun h1 => ?_, fun j hj => ?_, ?_⟩
  · rw [hcself, hvself]
  · rw [hcself, ← hafter]
  · rw [hcself, hvself]
    simp [h1, hA, hB]
  · rw [hcself, hvself]
    simp [h1]
  · rw [hcbut j hj, hvbut j hj, hbut j hj]
  · rw [hwalkFrame, hsat, hvframe, hframe]

theorem foldl_modView_outEnd (l : List Nat) (s : State) (q : Nat) :
    viewGet (l.foldl (fun s p => modView p (fun v => { v with path := .outEnd }) s) s) q =
      if q ∈ l then { viewGet s q with path := .outEnd } else viewGet s q := by
  induction l generalizing s with
  | nil => simp
  | cons p l ih =>
    rw [List.foldl_cons, ih, viewGet_modView]
    by_cases hp : q = p
    · subst hp
      simp
    · simp [hp]

theorem foldl_modView_frame (f : Nat → SatView → SatView) (l : List Nat) (s : State) :
    l.foldl (fun s p => modView p (f p) s) s =
      { s with sat := { s.sat with views := (l.foldl (fun s p => modView p (f p) s) s).sat.views } } := by
  induction l generalizing s with
  | nil => rfl
  | cons p l ih =>
    rw [List.foldl_cons, ih]
    rfl

/-- Measuring the loops of a tether shows them and leaves every other word of the tether and every record. -/
theorem measureLoops_words {k : Nat} {s : State} (hk : k < 4) (hlive : Live s) :
    tetherGet (measureLoops k s) k = { tetherGet s k with
      loopF := (tetherGet (measureLoops k s) k).loopF, loopK := (tetherGet (measureLoops k s) k).loopK
      skew := (tetherGet (measureLoops k s) k).skew } ∧
    TethersBut k s (measureLoops k s) ∧ FaultFrame { s with tth := (measureLoops k s).tth, free := (measureLoops k s).free }
      (measureLoops k s) := by
  unfold measureLoops
  dsimp only
  set v := (drawFree (drawFree (drawFree s).2).2).2 with hv
  have hvtth : v.tth = s.tth := rfl
  have hvsys : v.sys = s.sys := rfl
  have hvframe : v = { s with free := v.free } := rfl
  clear_value v
  set x := modTether k (fun x => { x with
    loopF := (drawFree s).1 % 1023, loopK := (drawFree (drawFree s).2).1 % 1023
    skew := ((drawFree (drawFree (drawFree s).2).2).1 % 1024 : Nat) - 512 }) v with hx
  have hself := tetherGet_modTether_self hk (fun x => { x with
    loopF := (drawFree s).1 % 1023, loopK := (drawFree (drawFree s).2).1 % 1023
    skew := (((drawFree (drawFree (drawFree s).2).2).1 % 1024 : Nat) : Int) - 512 }) v
  rw [← hx, tetherGet_of_tth hvtth] at hself
  have hxlive : Live x := by
    have hxsys : x.sys = s.sys := hvsys
    rw [Live, hxsys]
    exact hlive
  have hxbut : TethersBut k s x := tethersBut_trans (tethersBut_of_tth hvtth) (tethersBut_modTether k _ v)
  have hxframe : x = { s with tth := x.tth, free := x.free } := by
    have hsame : x = { v with tth := x.tth } := rfl
    rw [hsame, hvframe]
  clear_value x
  split
  · have hframe : FaultFrame x (raise .tth 5 x) := faultFrame_raise_corrected hxlive (by decide)
    have htth := faultFrame_tth hframe
    have hfree : (raise .tth 5 x).free = x.free := raiseMany_free ..
    refine ⟨?_, tethersBut_trans hxbut (tethersBut_of_tth htth), ?_⟩
    · rw [tetherGet_of_tth htth, hself]
    · rw [htth, hfree, ← hxframe]
      exact hframe
  · refine ⟨?_, hxbut, ?_⟩
    · rw [hself]
    · rw [← hxframe]
      exact faultFrame_refl x

theorem completes_dir0FrameReturned_far {k : Nat} {w : Walk} {s : State} (hk : k < 4) (hring : ringLive s = true)
    (hwalk : (tetherGet s k).walk = some w) (hcurrent : w.current = none) :
    Completes (exec (.dir0FrameReturned k true true) s) fun t =>
      (tetherGet t k).walk = none ∧ (tetherGet t k).mode = (if (tetherGet s k).mode = 3 then 3 else 2) ∧
      ((tetherGet s k).mode ≠ 3 → ∀ p ∈ tetherPositions s k, (viewGet t p).path = .outEnd) ∧ TethersBut k s t := by
  rw [exec_dir0FrameReturned hk hring hwalk hcurrent, if_pos rfl]
  obtain ⟨hself, hbut⟩ := carries_ownSeen hk true true s
  have howalk := ownSeen_walk hk hwalk true true
  have hframe : ownSeen k true true s = { s with tth := (ownSeen k true true s).tth } := rfl
  set o := ownSeen k true true s with ho
  clear_value o
  have hmode : (tetherGet o k).mode = (tetherGet s k).mode := by rw [hself]
  have hends : walkEnds k true o = modTether k (fun x => { x with walk := none }) o := by
    rw [walkEnds_eq howalk, if_neg (fun h => by cases h.2), walkDropped, hcurrent]
  set e := walkEnds k true o with he
  have heself : tetherGet e k = { tetherGet o k with walk := none } := by rw [hends, tetherGet_modTether_self hk]
  have hebut : TethersBut k s e := by
    rw [hends]
    exact tethersBut_trans hbut (tethersBut_modTether k _ o)
  have heframe : e = { s with tth := e.tth } := by rw [hends, hframe]; rfl
  have hint : becomeIntact k o = if (tetherGet o k).mode = 3 then e else
      (fun u => if (tetherGet o k).loopF = 0x3FF then measureLoops k u else u)
        ((tetherPositions (modTether k (fun x => { x with mode := 2 }) e) k).foldl
          (fun s p => modView p (fun v => { v with path := .outEnd }) s) (modTether k (fun x => { x with mode := 2 }) e)) := rfl
  rw [hint, hmode]
  clear_value e
  by_cases h3 : (tetherGet s k).mode = 3
  · rw [if_pos h3, if_pos h3]
    refine completes_next ⟨?_, ?_, fun hne => absurd h3 hne, hebut⟩
    · rw [heself]
    · rw [heself]
      exact hmode.trans h3
  · rw [if_neg h3, if_neg h3]
    set m := modTether k (fun x => { x with mode := 2 }) e with hm
    have hmself : tetherGet m k = { tetherGet e k with mode := 2 } := tetherGet_modTether_self hk _ e
    have hmbut : TethersBut k s m := tethersBut_trans hebut (tethersBut_modTether k _ e)
    have hmframe : m = { s with tth := m.tth } := by rw [hm, heframe]; rfl
    have hpositions : tetherPositions m k = tetherPositions s k := by rw [hmframe]; rfl
    rw [hpositions]
    clear_value m
    set u := (tetherPositions s k).foldl (fun s p => modView p (fun v => { v with path := .outEnd }) s) m with hu
    have huframe := foldl_modView_frame (fun _ v => { v with path := .outEnd }) (tetherPositions s k) m
    have huviews := foldl_modView_outEnd (tetherPositions s k) m
    rw [← hu] at huframe
    have hutth : u.tth = m.tth := by rw [huframe]
    have hulive : Live u := by
      have husys : u.sys = s.sys := by rw [huframe, hmframe]
      rw [Live, husys]
      exact live_of_ringLive hring
    have hpath : ∀ p ∈ tetherPositions s k, (viewGet u p).path = .outEnd := fun p hp => by
      rw [hu, huviews, if_pos hp]
    clear_value u
    have huself : tetherGet u k = { tetherGet e k with mode := 2 } := (tetherGet_of_tth hutth k).trans hmself
    have hubut : TethersBut k s u := tethersBut_trans hmbut (tethersBut_of_tth hutth)
    obtain ⟨hlself, hlbut, hlframe⟩ := measureLoops_words hk hulive
    have hlsat := faultFrame_sat hlframe
    dsimp only
    split
    · refine completes_next ⟨?_, ?_, fun _ p hp => ?_, tethersBut_trans hubut hlbut⟩
      · rw [hlself, huself, heself]
      · rw [hlself, huself]
      · exact (congrArg SatView.path (viewGet_of_sat (by rw [hlsat]) p)).trans (hpath p hp)
    · refine completes_next ⟨?_, ?_, fun _ p hp => hpath p hp, hubut⟩
      · rw [huself, heself]
      · rw [huself]

theorem completes_tetherRewalk {k : Nat} {s : State} (hk : k < 4) (hst : s.sys.state = .run ∨ s.sys.state = .standby)
    (hdeclared : (rigTether s k).isSome = true) (hidle : (tetherGet s k).walk = none)
    (habsent : ∃ p ∈ tetherPositions s k, (viewGet s p).state = .absent) :
    Completes (exec (.tetherRewalk k) s) fun t =>
      (tetherGet t k).walk = some {} ∧ (tetherGet t k).lastWalk = s.sys.tick ∧
      Safety.Leaves k .outEnd (hubFrame 0 false 4 [0]) s t ∧ TethersBut k s t ∧ t = { s with tth := t.tth } := by
  set u := modTether k (fun x => { x with
    mode := if x.mode = 0 then 1 else x.mode, walk := some {}, lastWalk := s.sys.tick }) s with hu
  have hany : (tetherPositions s k).any (fun p => decide ((viewGet s p).state = .absent)) = true := by
    obtain ⟨p, hp, habs⟩ := habsent
    exact List.any_eq_true.mpr ⟨p, hp, decide_eq_true habs⟩
  have hstart : startWalk k s = hubSend k .outEnd (hubFrame 0 false 4 [0]) u := by
    have hnone : (rigTether s k).isNone = false := by rw [← Option.not_isSome, hdeclared]; rfl
    unfold startWalk
    rw [if_neg (by simp [hnone, hidle])]
    rfl
  have hexec : exec (.tetherRewalk k) s = .next (startWalk k s) := congrArg Host.Outcome.next (if_pos ⟨hst, hany⟩)
  have hself : tetherGet u k = { tetherGet s k with
      mode := if (tetherGet s k).mode = 0 then 1 else (tetherGet s k).mode, walk := some {}, lastWalk := s.sys.tick } :=
    tetherGet_modTether_self hk _ s
  rw [hexec, hstart]
  refine completes_next ⟨?_, ?_, leaves_hubSend hk rfl ?_, ?_, rfl⟩
  · rw [tetherGet_hubSend, hself]
  · rw [tetherGet_hubSend, hself]
  · rw [hself]
  · exact tethersBut_trans (tethersBut_modTether k _ s) (tethersBut_hubSend k _ _ u)

end Machine
end Sys2Proof
end

section
/-! A position's assignment, its delay measurement and its configuration at the hub (chapters 3, 12, 13). -/
namespace Sys2Proof
namespace Machine

set_option Elab.async false

open Safety

/-! ### What the hub forgets of a satellite -/

/-- The record of a position whose satellite begins afresh. -/
def forgotten (v : SatView) : SatView :=
  endSatCmd { v with
    out := none, queue := [], waking := false, wakes := 0, setup := 0, assigning := false, provQuery := false, t1 := none
    t4 := none }

/-- A walk no longer waits for the position. -/
def walkForgets (pos : Nat) (x : Tether) : Tether :=
  { x with walk := x.walk.map (fun w => if w.current = some pos then { w with current := none } else w) }

/-- A fetch of the position's trace ends. -/
def traceForgets (pos : Nat) (s : State) : State :=
  if s.sat.trFetching && decide (slotPos s.sat.trSlot = pos) then { s with sat := { s.sat with trFetching := false } } else s

/-- An update of the position's satellite ends. -/
def updateForgets (pos : Nat) (s : State) : State :=
  if s.upd.satPos = 4 * pos then { s with upd := { s.upd with satPos := 0x3FF, satPhase := 0 } } else s

/-- The record, and the turn at the module rails. -/
def recordForgets (pos : Nat) (s : State) : State :=
  let turn := s.rls.raiseTurn
  { modView pos forgotten s with rls := { s.rls with
      raiseTurn := if turn.toList.getD (posTether pos) 0 = posNo pos then turn.setIfInBounds (posTether pos) 0 else turn } }

theorem forgetSat_eq (pos : Nat) (s : State) : forgetSat pos s =
    updateForgets pos (traceForgets pos (modTether (posTether pos) (walkForgets pos) (recordForgets pos s))) := rfl

theorem traceForgets_frame (pos : Nat) (s : State) :
    traceForgets pos s = { s with sat := { s.sat with trFetching := (traceForgets pos s).sat.trFetching } } := by
  unfold traceForgets
  split <;> rfl

theorem updateForgets_frame (pos : Nat) (s : State) : updateForgets pos s = { s with upd := (updateForgets pos s).upd } := by
  unfold updateForgets
  split <;> rfl

theorem forgetSat_kept (pos : Nat) (s : State) : (forgetSat pos s).sys = s.sys ∧ (forgetSat pos s).ord = s.ord := by
  rw [forgetSat_eq, updateForgets_frame, traceForgets_frame]
  exact ⟨rfl, rfl⟩

theorem viewGet_forgetSat (pos q : Nat) (s : State) :
    viewGet (forgetSat pos s) q = if q = pos then forgotten (viewGet s pos) else viewGet s q := by
  have hviews : (forgetSat pos s).sat.views = (modView pos forgotten s).sat.views := by
    rw [forgetSat_eq, updateForgets_frame, traceForgets_frame]
    rfl
  rw [viewGet_of_sat hviews, viewGet_modView]

theorem tetherGet_forgetSat (pos j : Nat) (s : State) :
    tetherGet (forgetSat pos s) j = { tetherGet s j with walk := (tetherGet (forgetSat pos s) j).walk } := by
  have htth : (forgetSat pos s).tth = (modTether (posTether pos) (walkForgets pos) (recordForgets pos s)).tth := by
    rw [forgetSat_eq, updateForgets_frame, traceForgets_frame]
  rw [tetherGet_of_tth htth, tetherGet_modTether]
  split
  · rename_i h
    rw [h.1]
    rfl
  · rfl

/-- One slot of a satellite that has just been assigned: shown EMPTY, without a reservation. -/
def slotCleared (s : State) (id : Nat) : State :=
  releaseLift id (modSlotView id (fun v =>
    { st := .empty, trips := v.trips, removals := v.removals, cause := v.cause, emergency := v.emergency }) s)

theorem slotViewGet_slotCleared (id j : Nat) (s : State) : (slotViewGet (slotCleared s id) j).st =
    if j = id then .empty else (slotViewGet s j).st := by
  rw [slotCleared, slotViewGet_releaseLift, slotViewGet_modSlotView]
  split <;> rfl

theorem ldgGet_slotCleared (id j : Nat) (s : State) : (ldgGet (slotCleared s id) j).res =
    if j = id then 0 else (ldgGet s j).res := by
  rw [slotCleared, releaseLift, ldgGet_modLdg]
  split <;> rfl

theorem foldl_slotCleared (l : List Nat) (s : State) :
    (∀ id ∈ l, (slotViewGet (l.foldl slotCleared s) id).st = .empty ∧ (ldgGet (l.foldl slotCleared s) id).res = 0) ∧
    ∀ id, (slotViewGet s id).st = .empty ∧ (ldgGet s id).res = 0 →
      (slotViewGet (l.foldl slotCleared s) id).st = .empty ∧ (ldgGet (l.foldl slotCleared s) id).res = 0 := by
  induction l generalizing s with
  | nil => exact ⟨fun _ h => absurd h List.not_mem_nil, fun _ h => h⟩
  | cons k l ih =>
    obtain ⟨hin, hkept⟩ := ih (slotCleared s k)
    refine ⟨fun id hid => ?_, fun id hid => hkept id ?_⟩
    · rcases List.mem_cons.mp hid with rfl | hid
      · exact hkept id ⟨by rw [slotViewGet_slotCleared, if_pos rfl], by rw [ldgGet_slotCleared, if_pos rfl]⟩
      · exact hin id hid
    · rw [slotViewGet_slotCleared, ldgGet_slotCleared]
      split
      · exact ⟨rfl, rfl⟩
      · exact hid

theorem foldl_slotCleared_frame (l : List Nat) (s : State) : l.foldl slotCleared s = { s with
    sat := { s.sat with slotViews := (l.foldl slotCleared s).sat.slotViews }, ldg := (l.foldl slotCleared s).ldg } := by
  induction l generalizing s with
  | nil => rfl
  | cons k l ih =>
    rw [List.foldl_cons, ih]
    rfl

/-! ### ASSIGN_ACK -/

/-- A position whose hub commands begin afresh. -/
def assignedView (v : SatView) : SatView :=
  { freshToggles v with state := .enumerating, zfst := 0x200, railsSeen := false }

theorem assignAck_eq {pos : Nat} {s : State} (h : (viewGet s pos).assigning = true) : assignAck pos s =
    startDelay pos ((slotsOf pos).foldl slotCleared
      (modTether (posTether pos) (fun x => { x with walk := x.walk.map (fun w => { w with current := some pos }) })
        (modView pos assignedView (forgetSat pos s)))) := if_pos h

theorem completes_assignAck {pos : Nat} {rx : Arrival} {s : State} (hpos : pos < 256)
    (htakes : HubTakes s (posTether pos) (upFrame pos false 5 [byte (posNo pos)]) rx)
    (hassigning : (viewGet s pos).assigning = true) :
    Completes (exec (.assignAck pos rx) s) fun t =>
      (viewGet t pos).state = .enumerating ∧ (viewGet t pos).toggleH = false ∧ (viewGet t pos).lastS = false ∧
      NothingSent t pos ∧ (viewGet t pos).assigning = false ∧ (viewGet t pos).t1 = some (16 * s.sys.tick) ∧
      (viewGet t pos).t4 = none ∧ (∀ id ∈ slotsOf pos, (slotViewGet t id).st = .empty ∧ (ldgGet t id).res = 0) ∧
      Safety.Leaves (posTether pos) (heardView pos rx s).path (hubFrame pos false 6 []) s t ∧
      ViewsBut pos s t ∧ t.sys = s.sys ∧ t.ord = s.ord := by
  have hk : posTether pos < 4 := by unfold posTether; omega
  set f := upFrame pos false 5 [byte (posNo pos)] with hf
  set u := heardIn pos f rx s with hu
  have huview := viewGet_heardIn pos f rx s
  have huquiet : (tetherGet u (posTether pos)).quiet = (tetherGet s (posTether pos)).quiet := by
    rw [hu, tetherGet_heardIn, tetherGet_broughtIn_kept]
  have huframe : u.sys = s.sys ∧ u.ord = s.ord := by
    rw [hu, heardIn_frame]
    exact ⟨rfl, rfl⟩
  have hexec : exec (.assignAck pos rx) s = .next (assignAck pos u) := onRing_receivedOf htakes (assignAck pos)
  have hself : viewGet u pos = heardView pos rx s := by rw [hu, huview, if_pos rfl]
  have huassign : (viewGet u pos).assigning = true := by rw [hself]; exact hassigning
  have hother : ∀ q, q ≠ pos → viewGet u q = viewGet s q := fun q hq => by rw [hu, huview, if_neg hq]
  rw [hexec, assignAck_eq huassign]
  clear_value u
  set a := modTether (posTether pos) (fun x => { x with walk := x.walk.map (fun w => { w with current := some pos }) })
    (modView pos assignedView (forgetSat pos u)) with ha
  have haview : ∀ q, viewGet a q = if q = pos then assignedView (forgotten (heardView pos rx s)) else viewGet s q := by
    intro q
    have hsame : viewGet a q = viewGet (modView pos assignedView (forgetSat pos u)) q := rfl
    rw [hsame, viewGet_modView, viewGet_forgetSat, viewGet_forgetSat, if_pos rfl, hself]
    split
    · rfl
    · rename_i hq
      exact hother q hq
  have haquiet : (tetherGet a (posTether pos)).quiet = (tetherGet s (posTether pos)).quiet := by
    rw [ha, tetherGet_modTether_self hk]
    have hsame : tetherGet (modView pos assignedView (forgetSat pos u)) (posTether pos) = tetherGet (forgetSat pos u) (posTether pos) :=
      rfl
    rw [hsame, tetherGet_forgetSat]
    exact huquiet
  have haframe : a.sys = s.sys ∧ a.ord = s.ord := by
    have hsys : a.sys = (forgetSat pos u).sys := rfl
    have hord : a.ord = (forgetSat pos u).ord := rfl
    obtain ⟨hsys', hord'⟩ := forgetSat_kept pos u
    exact ⟨hsys.trans (hsys'.trans huframe.1), hord.trans (hord'.trans huframe.2)⟩
  clear_value a
  obtain ⟨hcleared, -⟩ := foldl_slotCleared (slotsOf pos) a
  have hcframe := foldl_slotCleared_frame (slotsOf pos) a
  set c := (slotsOf pos).foldl slotCleared a with hc
  have hcview : ∀ q, viewGet c q = viewGet a q := fun q => viewGet_of_sat (by rw [hcframe]) q
  have hcquiet : (tetherGet c (posTether pos)).quiet = (tetherGet s (posTether pos)).quiet := by
    have hctth : c.tth = a.tth := by rw [hcframe]
    rw [tetherGet_of_tth hctth, haquiet]
  have hcsys : c.sys = s.sys := by rw [hcframe]; exact haframe.1
  have hcord : c.ord = s.ord := by rw [hcframe]; exact haframe.2
  clear_value c
  set d := modView pos (fun v => { v with t1 := some (16 * c.sys.tick), t4 := none }) c with hd
  have hdself : viewGet d pos = { assignedView (forgotten (heardView pos rx s)) with t1 := some (16 * s.sys.tick), t4 := none } := by
    rw [hd, viewGet_modView, if_pos rfl, hcview, haview, if_pos rfl, hcsys]
  have hstart : startDelay pos c = hubSend (posTether pos) (viewGet d pos).path (hubFrame pos false 6 []) d := rfl
  have hview : ∀ q, viewGet (startDelay pos c) q = viewGet d q := fun _ => rfl
  have hpath : (viewGet d pos).path = (heardView pos rx s).path := by rw [hdself]; rfl
  refine completes_next ⟨?_, ?_, ?_, ⟨?_, ?_⟩, ?_, ?_, ?_, hcleared, ?_, fun q hq => ?_, hcsys, hcord⟩
  case refine_9 =>
    rw [hstart, hpath]
    exact leaves_hubSend hk (congrArg Sys.tick hcsys) hcquiet
  case refine_10 => rw [hview, hd, viewGet_modView, if_neg hq, hcview, haview, if_neg hq]
  all_goals simp only [hview, hdself, assignedView, freshToggles, forgotten, endSatCmd]

/-! ### The delay measurement -/

/-- The recorder takes an input of a tether. -/
def inputTaken (k : Nat) (i : RecIn) (s : State) : State := modTether k (fun x => { x with taken := x.taken ++ [i] }) s

theorem carries_inputTaken {k : Nat} (hk : k < 4) (i : RecIn) (s : State) :
    Carries k (tetherGet s k) s (inputTaken k i s) := by
  have hself : tetherGet (inputTaken k i s) k = { tetherGet s k with taken := (tetherGet s k).taken ++ [i] } :=
    tetherGet_modTether_self hk _ s
  refine ⟨?_, tethersBut_modTether k _ s⟩
  rw [hself]

/-- The echo's stamp enters the record of a position that waits for it. -/
def echoAt (t4 : Nat) (v : SatView) : SatView := if v.t1.isSome ∧ v.t4 = none then { v with t4 := some t4 } else v

theorem completes_delayEchoArrival {pos n t4 : Nat} {s : State} (hpos : pos < 256) (hring : ringLive s = true)
    (ht1 : (viewGet s pos).t1 = some n) (ht4 : (viewGet s pos).t4 = none) :
    Completes (exec (.delayEchoArrival pos t4) s) fun t =>
      viewGet t pos = { viewGet s pos with t4 := some t4 } ∧ ViewsBut pos s t ∧
      Carries (posTether pos) (tetherGet s (posTether pos)) s t := by
  have hk : posTether pos < 4 := by unfold posTether; omega
  set u := inputTaken (posTether pos) (lineInput (posTether pos) (decide ((viewGet s pos).path = .outEnd))
    (!decide ((viewGet s pos).path = .outEnd)) 2 (t4 % 16)) s with hu
  have hexec : exec (.delayEchoArrival pos t4) s = .next (modView pos (echoAt t4) u) := by
    show execDelayEchoArrival pos t4 s = _
    rw [execDelayEchoArrival, onRing_of_live hring]
    rfl
  have hview : ∀ q, viewGet u q = viewGet s q := fun _ => rfl
  have hcarries : Carries (posTether pos) (tetherGet s (posTether pos)) s (modView pos (echoAt t4) u) :=
    carries_of_tth (carries_inputTaken hk _ s) rfl
  rw [hexec]
  refine completes_next ⟨?_, fun q hq => ?_, hcarries⟩
  · rw [viewGet_modView, if_pos rfl, hview]
    exact if_pos ⟨by rw [ht1]; rfl, ht4⟩
  · rw [viewGet_modView, if_neg hq, hview]

/-- A marker is counted and leaves by the OUT end. -/
theorem tetherGet_sendMarker {k : Nat} (hk : k < 4) (s : State) : tetherGet (sendMarker k s) k = { tetherGet s k with
    beacons := (tetherGet s k).beacons + 1, sent := (tetherGet s k).sent ++ [(.outEnd, [.beacon])] } := by
  have htth : (sendMarker k s).tth = (modTether k (fun x => { x with
    beacons := x.beacons + 1, sent := x.sent ++ [(.outEnd, [.beacon])] }) s).tth := rfl
  rw [tetherGet_of_tth htth, tetherGet_modTether_self hk]

theorem completes_delayAnswer {pos a b c : Nat} {rx : Arrival} {s : State} (hpos : pos < 256)
    (htakes : HubTakes s (posTether pos) (upFrame pos false 6 (natLe 2 c)) rx) (ht1 : (viewGet s pos).t1 = some a)
    (ht4 : (viewGet s pos).t4 = some b) :
    Completes (exec (.delayAnswer pos c rx) s) fun t =>
      let d := (b - a - 16 * c + 1) / 2 % 2 ^ 20
      viewGet t pos = { heardView pos rx s with delay := d, t1 := none, t4 := none } ∧ ViewsBut pos s t ∧
      (tetherGet t (posTether pos)).beacons = (tetherGet s (posTether pos)).beacons + 1 ∧
      Safety.Leaves (posTether pos) (heardView pos rx s).path
        (hubFrame pos false 7 (natLe 8 s.sys.tick ++ natLe 3 d)) s t := by
  have hk : posTether pos < 4 := by unfold posTether; omega
  set f := upFrame pos false 6 (natLe 2 c) with hf
  set u := heardIn pos f rx s with hu
  have huview := viewGet_heardIn pos f rx s
  have hself : viewGet u pos = heardView pos rx s := by rw [hu, huview, if_pos rfl]
  have hother : ∀ q, q ≠ pos → viewGet u q = viewGet s q := fun q hq => by rw [hu, huview, if_neg hq]
  have htether : tetherGet u (posTether pos) =
      { tetherGet s (posTether pos) with taken := (tetherGet u (posTether pos)).taken } := by
    conv_lhs => rw [hu, tetherGet_heardIn, tetherGet_broughtIn_kept, ← tetherGet_heardIn pos, ← hu]
  have hsys : u.sys = s.sys := by rw [hu, heardIn_frame]
  have hexec : exec (.delayAnswer pos c rx) s = .next (delayAnswer pos c u) := onRing_receivedOf htakes (delayAnswer pos c)
  rw [hexec]
  clear_value u
  set d := (b - a - 16 * c + 1) / 2 % 2 ^ 20 with hd
  set v := modView pos (fun v => { v with delay := d, t1 := none, t4 := none }) u with hv
  set m := sendMarker (posTether pos) v with hm
  have hanswer : delayAnswer pos c u =
      hubSend (posTether pos) (viewGet m pos).path (hubFrame pos false 7 (natLe 8 m.sys.tick ++ natLe 3 d)) m := by
    have h1 : (viewGet u pos).t1 = some a := by rw [hself]; exact ht1
    have h4 : (viewGet u pos).t4 = some b := by rw [hself]; exact ht4
    unfold delayAnswer
    rw [h1, h4]
    rfl
  have hmview : ∀ q, viewGet m q = viewGet v q := fun _ => rfl
  have hmsys : m.sys = u.sys := rfl
  have hmtether : tetherGet m (posTether pos) = { tetherGet u (posTether pos) with
      beacons := (tetherGet u (posTether pos)).beacons + 1
      sent := (tetherGet u (posTether pos)).sent ++ [(.outEnd, [.beacon])] } :=
    tetherGet_sendMarker hk v
  clear_value m
  have hvself : viewGet v pos = { heardView pos rx s with delay := d, t1 := none, t4 := none } := by
    rw [hv, viewGet_modView, if_pos rfl, hself]
  have hpath : (viewGet m pos).path = (heardView pos rx s).path := by rw [hmview, hvself]
  have htick : m.sys.tick = s.sys.tick := congrArg Sys.tick (hmsys.trans hsys)
  have hview : ∀ q, viewGet (delayAnswer pos c u) q = viewGet m q := fun q => by rw [hanswer]; rfl
  refine completes_next ⟨?_, fun q hq => ?_, ?_, ?_⟩
  · rw [hview, hmview, hvself]
  · rw [hview, hmview, hv, viewGet_modView, if_neg hq, hother q hq]
  · rw [hanswer, tetherGet_hubSend, hmtether, htether]
  · rw [hanswer, hpath, htick]
    refine leaves_hubSend hk htick ?_
    rw [hmtether, htether]

/-! ### The end of an enumeration's steps -/

/-- Behind a command that is outstanding a further one waits. -/
theorem sendCmd_waits {pos : Nat} {s : State} (hout : (viewGet s pos).out.isSome = true) (c : HubCmd) :
    sendCmd pos c s = modView pos (fun v => { v with queue := v.queue ++ [c] }) s := by
  set u := modView pos (fun v => { v with queue := v.queue ++ [c] }) s with hu
  have hself : viewGet u pos = { viewGet s pos with queue := (viewGet s pos).queue ++ [c] } := by
    rw [hu, viewGet_modView, if_pos rfl]
  have hsend : sendCmd pos c s = nextCmd pos u := rfl
  rw [hsend]
  unfold nextCmd
  dsimp only
  rw [hself]
  dsimp only
  obtain ⟨c', hc'⟩ := Option.isSome_iff_exists.mp hout
  rw [hc']

theorem foldl_sendCmd_waits {pos : Nat} (l : List HubCmd) {s : State} (hout : (viewGet s pos).out.isSome = true) :
    viewGet (l.foldl (fun s c => sendCmd pos c s) s) pos =
      { viewGet s pos with queue := (viewGet s pos).queue ++ l } ∧
    (l.foldl (fun s c => sendCmd pos c s) s).tth = s.tth := by
  induction l generalizing s with
  | nil => exact ⟨by rw [List.append_nil]; rfl, rfl⟩
  | cons c l ih =>
    have hone : viewGet (sendCmd pos c s) pos = { viewGet s pos with queue := (viewGet s pos).queue ++ [c] } := by
      rw [sendCmd_waits hout, viewGet_modView, if_pos rfl]
    have htth : (sendCmd pos c s).tth = s.tth := by
      rw [sendCmd_waits hout]
      rfl
    obtain ⟨hself, hkept⟩ := ih (s := sendCmd pos c s) (by rw [hone]; exact hout)
    rw [List.foldl_cons]
    refine ⟨?_, hkept.trans htth⟩
    rw [hself, hone]
    simp

theorem viewsBut_sendCmd (pos : Nat) (c : HubCmd) (s : State) : ViewsBut pos s (sendCmd pos c s) := by
  intro q hq
  unfold sendCmd nextCmd
  dsimp only
  split
  · rw [viewGet_putCmd, viewGet_modView, if_neg hq, viewGet_modView, if_neg hq]
  · rw [viewGet_modView, if_neg hq]

theorem foldl_sendCmd_frame (pos : Nat) (l : List HubCmd) (s : State) :
    ViewsBut pos s (l.foldl (fun s c => sendCmd pos c s) s) ∧
    l.foldl (fun s c => sendCmd pos c s) s = { s with
      sat := { s.sat with views := (l.foldl (fun s c => sendCmd pos c s) s).sat.views }
      tth := (l.foldl (fun s c => sendCmd pos c s) s).tth } := by
  induction l generalizing s with
  | nil => exact ⟨fun _ _ => rfl, rfl⟩
  | cons c l ih =>
    obtain ⟨hviews, hframe⟩ := ih (sendCmd pos c s)
    refine ⟨fun q hq => ?_, ?_⟩
    · rw [List.foldl_cons, hviews q hq, viewsBut_sendCmd pos c s q hq]
    · rw [List.foldl_cons, hframe, sendCmd_frame]

/-- Only the tethers and the hub's records of satellites have moved. -/
def HubWords (s t : State) : Prop := t = { s with sat := { s.sat with views := t.sat.views }, tth := t.tth }

theorem hubWords_trans {s t u : State} (h : HubWords s t) (h' : HubWords t u) : HubWords s u := by
  rw [HubWords] at *
  rw [h] at h'
  exact h'

/-- The commands that configure a satellite: the first goes, the others wait (R455). -/
theorem sendSetup_words {pos : Nat} {s : State} (h : NothingSent s pos) :
    viewGet (sendSetup pos s) pos = { viewGet s pos with
      setup := 5, out := some (setSatCmd s pos), toggleH := !(viewGet s pos).toggleH
      queue := (slotsOf pos).map (setSlotCmd s) ++ [{ code := 0x0C, args := [] }] } ∧
    ViewsBut pos s (sendSetup pos s) ∧
    HubWords s (sendSetup pos s) := by
  set l := (slotsOf pos).map (setSlotCmd s) ++ [({ code := 0x0C, args := [] } : HubCmd)] with hl
  set m := modView pos (fun v => { v with setup := 5 }) s with hm
  have hmself : viewGet m pos = { viewGet s pos with setup := 5 } := by rw [hm, viewGet_modView, if_pos rfl]
  have hmframe : HubWords s m := rfl
  have hmnone : NothingSent m pos := ⟨by rw [hmself]; exact h.1, by rw [hmself]; exact h.2⟩
  set f := sendCmd pos (setSatCmd s pos) m with hf
  have hsetup : sendSetup pos s = l.foldl (fun s c => sendCmd pos c s) f := by
    rw [hf, hl, hm, ← List.foldl_cons (f := fun s c => sendCmd pos c s), ← List.cons_append, sendSetup]
  obtain ⟨hfself, hfbut, -⟩ := cmdGoes_sendCmd (setSatCmd s pos) hmnone rfl rfl rfl
  have hfframe : f = { m with tth := f.tth, sat := { m.sat with views := f.sat.views } } := sendCmd_frame pos _ m
  clear_value m
  rw [← hf] at hfself hfbut
  have hself := (foldl_sendCmd_waits l (s := f) (pos := pos) (by rw [hfself]; rfl)).1
  obtain ⟨hbut, hframe⟩ := foldl_sendCmd_frame pos l f
  rw [hfself, hmself] at hself
  have hqueue : (viewGet s pos).queue = [] := h.2
  rw [hqueue] at hself
  rw [← hsetup] at hself hbut hframe
  refine ⟨?_, fun q hq => ?_, hubWords_trans (hubWords_trans hmframe hfframe) hframe⟩
  · rw [hself, List.nil_append]
  · rw [hbut q hq, hfbut q hq, hm, viewGet_modView, if_neg hq]

theorem slotViewGet_showSlots (pos : Nat) (st : SlotState) (s : State) :
    ∀ id ∈ slotsOf pos, (slotViewGet (showSlots pos st s) id).st = st := by
  have hfold : ∀ (l : List Nat) (u : State), (∀ id ∈ l,
      (slotViewGet (l.foldl (fun s id => modSlotView id (fun v => { v with st := st }) s) u) id).st = st) ∧
      ∀ id, (slotViewGet u id).st = st →
        (slotViewGet (l.foldl (fun s id => modSlotView id (fun v => { v with st := st }) s) u) id).st = st := by
    intro l
    induction l with
    | nil => exact fun _ => ⟨fun _ h => absurd h List.not_mem_nil, fun _ h => h⟩
    | cons k l ih =>
      intro u
      obtain ⟨hin, hkept⟩ := ih (modSlotView k (fun v => { v with st := st }) u)
      refine ⟨fun id hid => ?_, fun id hid => hkept id ?_⟩
      · rcases List.mem_cons.mp hid with rfl | hid
        · exact hkept id (by rw [slotViewGet_modSlotView, if_pos rfl])
        · exact hin id hid
      · rw [slotViewGet_modSlotView]
        split
        · rfl
        · exact hid
  exact (hfold (slotsOf pos) s).1

theorem showSlots_frame (pos : Nat) (st : SlotState) (s : State) :
    showSlots pos st s = { s with sat := { s.sat with slotViews := (showSlots pos st s).sat.slotViews } } := by
  have hfold : ∀ (l : List Nat) (u : State), l.foldl (fun s id => modSlotView id (fun v => { v with st := st }) s) u =
      { u with sat := { u.sat with
        slotViews := (l.foldl (fun s id => modSlotView id (fun v => { v with st := st }) s) u).sat.slotViews } } := by
    intro l
    induction l with
    | nil => exact fun _ => rfl
    | cons k l ih =>
      intro u
      rw [List.foldl_cons, ih]
      rfl
  exact hfold (slotsOf pos) s

theorem walkNext_frame (pos : Nat) (s : State) : walkNext pos s = { s with tth := (walkNext pos s).tth } := by
  unfold walkNext
  dsimp only
  split
  · split <;> rfl
  · rfl

theorem completes_tsyncAnswer {pos : Nat} {rx : Arrival} {s : State}
    (htakes : HubTakes s (posTether pos) (upFrame pos false 7 []) rx)
    (hst : (viewGet s pos).state = .enumerating) (hnone : NothingSent s pos) :
    Completes (exec (.tsyncAnswer pos rx) s) fun t =>
      (outsideRange s (viewGet s pos) = true →
        (viewGet t pos).state = .incompatible ∧ (viewGet t pos).out = some { code := 0x0C, args := [] } ∧
        (∀ id ∈ slotsOf pos, (slotViewGet t id).st = .unreachable) ∧ t.fb.sat.fst.getLsbD 2 = true ∧ ViewsBut pos s t) ∧
      (outsideRange s (viewGet s pos) = false →
        (viewGet t pos).state = .enumerating ∧ (viewGet t pos).setup = 5 ∧
        (viewGet t pos).out = some (setSatCmd s pos) ∧
        (viewGet t pos).queue = (slotsOf pos).map (setSlotCmd s) ++ [{ code := 0x0C, args := [] }] ∧ ViewsBut pos s t ∧
        t = { s with sat := { s.sat with views := t.sat.views }, tth := t.tth }) := by
  set f := upFrame pos false 7 [] with hf
  have hlive := live_of_ringLive htakes.1
  have huview := viewGet_heardIn pos f rx s
  have huframe := heardIn_frame pos f rx s
  have hexec : exec (.tsyncAnswer pos rx) s = .next (tsyncAnswer pos (heardIn pos f rx s)) :=
    onRing_receivedOf htakes (tsyncAnswer pos)
  rw [hexec]
  set u := heardIn pos f rx s with hu
  have hself : viewGet u pos = heardView pos rx s := by rw [huview, if_pos rfl]
  have hother : ViewsBut pos s u := fun q hq => by rw [huview, if_neg hq]
  have hrange : outsideRange u (viewGet u pos) = outsideRange s (viewGet s pos) := by
    rw [hself, outsideRange, congrArg State.sys huframe]
    rfl
  have hunone : NothingSent u pos := ⟨by rw [hself]; exact hnone.1, by rw [hself]; exact hnone.2⟩
  have hustate : (viewGet u pos).state = .enumerating := by rw [hself]; exact hst
  have husys : u.sys = s.sys := by rw [huframe]
  have hsatCmd : setSatCmd u pos = setSatCmd s pos := by rw [huframe]; rfl
  have hslotCmd : setSlotCmd u = setSlotCmd s := by
    funext id
    rw [huframe]
    rfl
  clear_value u
  set x := modView pos (fun v => { v with state := .incompatible }) u with hx
  have heq : tsyncAnswer pos u = if outsideRange s (viewGet s pos) then
      raise .sat 2 (sendCmd pos { code := 0x0C, args := [] } (showSlots pos .unreachable (walkNext pos x)))
      else sendSetup pos u := by
    rw [tsyncAnswer, hrange, if_pos ⟨hustate, hunone⟩]
  rw [heq]
  cases outsideRange s (viewGet s pos) with
  | false =>
    rw [if_neg (by decide)]
    obtain ⟨hsent, hbut, hwords⟩ := sendSetup_words hunone
    refine completes_next ⟨nofun, fun _ => ⟨?_, by rw [hsent], ?_, ?_, fun q hq => ?_, ?_⟩⟩
    · rw [hsent]
      exact hustate
    · rw [hsent, hsatCmd]
    · rw [hsent, hslotCmd]
    · rw [hbut q hq, hother q hq]
    · rw [hwords, huframe]
  | true =>
    rw [if_pos rfl]
    have hwframe := walkNext_frame pos x
    set v := showSlots pos .unreachable (walkNext pos x) with hv
    have hvviews : v.sat.views = x.sat.views := by
      rw [hv, showSlots_frame, hwframe]
    have hvsys : v.sys = s.sys := by
      rw [hv, showSlots_frame, hwframe]
      exact husys
    have hshown : ∀ id ∈ slotsOf pos, (slotViewGet v id).st = .unreachable := slotViewGet_showSlots pos _ _
    have hxself : viewGet x pos = { viewGet u pos with state := .incompatible } := by rw [hx, viewGet_modView, if_pos rfl]
    have hvget : ∀ q, viewGet v q = viewGet x q := viewGet_of_sat hvviews
    have hvnone : NothingSent v pos := ⟨by rw [hvget, hxself]; exact hunone.1, by rw [hvget, hxself]; exact hunone.2⟩
    clear_value v
    obtain ⟨hgself, hgbut, -⟩ := cmdGoes_sendCmd ({ code := 0x0C, args := [] } : HubCmd) hvnone rfl rfl rfl
    have hgframe := sendCmd_frame pos { code := 0x0C, args := [] } v
    set g := sendCmd pos { code := 0x0C, args := [] } v with hg
    have hglive : Live g := by
      have hgsys : g.sys = s.sys := by rw [hgframe]; exact hvsys
      rw [Live, hgsys]
      exact hlive
    have hgslots : g.sat.slotViews = v.sat.slotViews := by rw [hgframe]
    clear_value g
    have hraised : Raised .sat 2 g (raise .sat 2 g) := raised_raise hglive (.inl (by decide))
    have hsat := faultFrame_sat hraised.frame
    have hget : ∀ q, viewGet (raise .sat 2 g) q = viewGet g q := viewGet_of_sat (by rw [hsat])
    refine completes_next ⟨fun _ => ⟨?_, ?_, fun id hid => ?_, bit_of_raised (b := .sat) (by decide) hraised, fun q hq => ?_⟩, nofun⟩
    · rw [hget, hgself, hvget, hxself]
    · rw [hget, hgself]
    · have hsame : slotViewGet (raise .sat 2 g) id = slotViewGet v id := by
        rw [slotViewGet, hsat, hgslots, slotViewGet]
      rw [hsame, hshown id hid]
    · rw [hget, hgbut q hq, hvget, hx, viewGet_modView, if_neg hq, hother q hq]

/-- Settles O54, an effect lemma per row of an enumeration at a satellite and at the hub. -/
theorem enumeration : Obligations.Enumeration :=
  ⟨fun _ _ _ _ => completes_enumQuery_mine,
    fun _ hop _ _ => completes_enumQuery_past hop,
    fun _ hop rx _ => completes_enumQuery_deaf hop rx,
    fun _ _ _ _ _ _ _ => completes_enumAnswer_bad,
    fun _ uid hwver ringver hop rx _ h => completes_enumAnswer_undeclared h uid hwver ringver hop rx,
    fun _ _ _ _ _ _ _ _ hk htakes hpos hwalk hcurrent => completes_enumAnswer hk htakes hpos hwalk hcurrent,
    fun _ _ _ => completes_enumWalkTimeout,
    fun _ _ _ => completes_dir0FrameReturned_far,
    fun _ _ _ => completes_dir0FrameReturned_near,
    fun _ farEnd s hk => completes_dir0FrameReturned_other hk farEnd s,
    fun _ _ => completes_tetherRewalk,
    fun _ _ _ _ _ => completes_assign,
    fun _ _ position prov _ _ => completes_assign_past position prov,
    fun _ _ position prov _ _ => completes_assign_stranger position prov,
    fun _ _ _ => completes_assignAck,
    fun _ _ _ => completes_delayFrame,
    fun _ _ _ => completes_delayMarkerEcho,
    fun _ _ _ _ => completes_delayEchoArrival,
    fun _ _ _ _ _ _ => completes_delayAnswer,
    fun _ _ _ _ _ h hsyncs => completes_tsync h hsyncs,
    fun _ _ _ _ _ h hsyncs => completes_tsync_holdover h hsyncs,
    fun _ _ _ _ htakes hst hnone => completes_tsyncAnswer htakes hst hnone⟩

end Machine
end Sys2Proof
end

section
/-! Commands, acknowledgments and results under their toggles (chapters 12, 13, 25). -/
namespace Sys2Proof
namespace Machine

set_option Elab.async false

open Safety

/-! ### A frame that the hub has taken -/

theorem viewGet_heardIn_self (pos : Nat) (f : RingFrame) (rx : Arrival) (s : State) :
    viewGet (heardIn pos f rx s) pos = heardView pos rx s := by rw [viewGet_heardIn, if_pos rfl]

theorem viewsBut_heardIn (pos : Nat) (f : RingFrame) (rx : Arrival) (s : State) : ViewsBut pos s (heardIn pos f rx s) :=
  fun q hq => by rw [viewGet_heardIn, if_neg hq]

theorem carries_heardIn (pos : Nat) (f : RingFrame) (rx : Arrival) (s : State) :
    Carries (posTether pos) (tetherGet s (posTether pos)) s (heardIn pos f rx s) := by
  refine ⟨?_, fun j hj => by rw [tetherGet_heardIn, tetherGet_broughtIn_other hj]⟩
  rw [tetherGet_heardIn, tetherGet_broughtIn_kept]

theorem viewsBut_trans {pos : Nat} {s t u : State} (h : ViewsBut pos s t) (h' : ViewsBut pos t u) : ViewsBut pos s u :=
  fun q hq => (h' q hq).trans (h q hq)

theorem viewsBut_of_views {pos : Nat} {s t : State} (h : t.sat.views = s.sat.views) : ViewsBut pos s t :=
  fun q _ => viewGet_of_sat h q

theorem carries_quiet {k : Nat} {s t : State} (h : Carries k (tetherGet s k) s t) :
    (tetherGet t k).quiet = (tetherGet s k).quiet := by rw [h.1]

theorem posTether_lt {pos : Nat} (h : pos < 256) : posTether pos < 4 := by
  unfold posTether
  omega

/-! ### CACK -/

theorem completes_cack_stale {pos code : Nat} {h : Bool} {rx : Arrival} {s : State} (hpos : pos < 256)
    (htakes : HubTakes s (posTether pos) (upFrame pos h 1 [byte code]) rx)
    (hstale : (viewGet s pos).out = none ∨ h ≠ (viewGet s pos).toggleH) :
    Completes (exec (.cack pos h code rx) s) fun t =>
      (tetherGet t (posTether pos)).stale = satInc (tetherGet s (posTether pos)).stale ∧ TethersBut (posTether pos) s t ∧
      viewGet t pos = heardView pos rx s ∧ ViewsBut pos s t ∧
      t = { s with tth := t.tth, sat := { s.sat with views := t.sat.views } } := by
  have hk := posTether_lt hpos
  set f := upFrame pos h 1 [byte code] with hf
  have hself := viewGet_heardIn_self pos f rx s
  obtain ⟨hcarries, hbut⟩ := carries_heardIn pos f rx s
  have hviews := viewsBut_heardIn pos f rx s
  have hframe := heardIn_frame pos f rx s
  have hexec : exec (.cack pos h code rx) s = .next (cackTaken pos h code (heardIn pos f rx s)) := onRing_receivedOf htakes _
  rw [hexec]
  generalize heardIn pos f rx s = u at *
  have hcount : cackTaken pos h code u = countStale (posTether pos) u := by
    unfold cackTaken
    dsimp only
    rw [hself]
    cases hout : (viewGet s pos).out with
    | none =>
      have hout' : (heardView pos rx s).out = none := hout
      rw [hout']
    | some c =>
      have hout' : (heardView pos rx s).out = some c := hout
      have hh : h ≠ (heardView pos rx s).toggleH := hstale.resolve_left (by rw [hout]; nofun)
      rw [hout']
      dsimp only
      rw [if_neg hh]
  rw [hcount]
  refine completes_next ⟨?_, ?_, hself, hviews, ?_⟩
  · rw [countStale, tetherGet_modTether_self hk, hcarries]
  · exact tethersBut_trans hbut (tethersBut_modTether _ _ u)
  · rw [hframe]
    rfl

theorem completes_cack_bad {pos code : Nat} {h : Bool} {rx : Arrival} {s : State} (hpos : pos < 256)
    (hring : ringLive s = true) (hdeclared : (rigTether s (posTether pos)).isSome = true)
    (hbad : arrivesBad (frameOk (upFrame pos h 1 [byte code])) rx = true) :
    Completes (exec (.cack pos h code rx) s) fun t =>
      (tetherGet t (posTether pos)).badF = satInc (tetherGet s (posTether pos)).badF ∧ TethersBut (posTether pos) s t ∧
      t.sat = s.sat := by
  have hk := posTether_lt hpos
  set u := broughtIn (posTether pos) (upFrame pos h 1 [byte code]) rx s with hu
  have hexec : exec (.cack pos h code rx) s = .next (countBad (posTether pos) u) :=
    (onRing_of_live hring _).trans (congrArg Host.Outcome.next (received_of_bad hdeclared hbad _))
  have hulive : Live u := live_of_ringLive hring
  have hframe : FaultFrame (badCounted (posTether pos) u) (countBad (posTether pos) u) := faultFrame_countBad hulive (posTether pos)
  have htth := faultFrame_tth hframe
  rw [hexec]
  refine completes_next ⟨?_, ?_, (faultFrame_sat hframe).trans rfl⟩
  · rw [tetherGet_of_tth htth, badCounted, tetherGet_modTether_self hk, hu, tetherGet_broughtIn_kept]
  · have hcounted : TethersBut (posTether pos) u (badCounted (posTether pos) u) := tethersBut_modTether _ _ u
    exact tethersBut_trans (tethersBut_broughtIn _ _ rx s) (tethersBut_trans hcounted (tethersBut_of_tth htth))

section Cack
variable {pos code : Nat} {rx : Arrival} {c : HubCmd} {s : State}
  (htakes : HubTakes s (posTether pos) (upFrame pos (viewGet s pos).toggleH 1 [byte code]) rx)
  (hout : (viewGet s pos).out = some c)

/-- The record of a position whose command has been acknowledged. -/
def ackedView (pos : Nat) (rx : Arrival) (c : HubCmd) (code : Nat) (s : State) : SatView :=
  hostAck c code { heardView pos rx s with out := none }

/-- The hub has taken the acknowledgment of a command. -/
def acked (pos : Nat) (rx : Arrival) (c : HubCmd) (code : Nat) (s : State) : State :=
  modView pos (fun v => hostAck c code { v with out := none })
    (heardIn pos (upFrame pos (viewGet s pos).toggleH 1 [byte code]) rx s)

theorem viewGet_acked (q : Nat) : viewGet (acked pos rx c code s) q =
    if q = pos then ackedView pos rx c code s else viewGet s q := by
  rw [acked, viewGet_modView, viewGet_heardIn, viewGet_heardIn, if_pos rfl]
  split <;> rfl

theorem carries_acked : Carries (posTether pos) (tetherGet s (posTether pos)) s (acked pos rx c code s) :=
  carries_of_tth (carries_heardIn pos (upFrame pos (viewGet s pos).toggleH 1 [byte code]) rx s) rfl

theorem hubWords_acked : HubWords s (acked pos rx c code s) :=
  hubWords_trans (heardIn_frame pos (upFrame pos (viewGet s pos).toggleH 1 [byte code]) rx s) rfl

include htakes hout

/-- An acknowledgment of the outstanding command acts for whom it served, and the next one goes. -/
theorem exec_cack (hcode : c.code ≠ 0x07) : exec (.cack pos (viewGet s pos).toggleH code rx) s =
    .next (nextCmd pos (ackEffect pos c code (acked pos rx c code s))) := by
  set f := upFrame pos (viewGet s pos).toggleH 1 [byte code] with hf
  have hself := viewGet_heardIn_self pos f rx s
  have hexec : exec (.cack pos (viewGet s pos).toggleH code rx) s =
      .next (cackTaken pos (viewGet s pos).toggleH code (heardIn pos f rx s)) := onRing_receivedOf htakes _
  rw [hexec, cackTaken, hself]
  have hout' : (heardView pos rx s).out = some c := hout
  have hh : (viewGet s pos).toggleH = (heardView pos rx s).toggleH := rfl
  dsimp only
  rw [hout']
  dsimp only
  rw [if_pos hh, if_neg (by simp [hcode])]
  rfl

end Cack

theorem ackedView_of_order {pos code : Nat} {rx : Arrival} {c : HubCmd} {s : State} (h : c.fromHost = false) :
    ackedView pos rx c code s = { heardView pos rx s with out := none } := by
  simp [ackedView, hostAck, h]

/-- With nothing queued no command goes. -/
theorem nextCmd_idle {pos : Nat} {s : State} (h : (viewGet s pos).queue = []) : nextCmd pos s = s := by
  unfold nextCmd
  dsimp only
  rw [h]
  cases (viewGet s pos).out <;> rfl

theorem completes_cack_setup {pos : Nat} {rx : Arrival} {c d : HubCmd} {rest : List HubCmd} {s : State} (hpos : pos < 256)
    (htakes : HubTakes s (posTether pos) (upFrame pos (viewGet s pos).toggleH 1 [0]) rx)
    (hout : (viewGet s pos).out = some c) (hqueue : (viewGet s pos).queue = d :: rest) (hcode : c.code = 0x01 ∨ c.code = 0x02)
    (hhost : c.fromHost = false) :
    Completes (exec (.cack pos (viewGet s pos).toggleH 0 rx) s) fun t =>
      viewGet t pos = { heardView pos rx s with
        out := some d, queue := rest, toggleH := !(viewGet s pos).toggleH, setup := (viewGet s pos).setup - 1 } ∧
      Safety.Leaves (posTether pos) (heardView pos rx s).path
        (hubFrame pos (!(viewGet s pos).toggleH) 1 (byte d.code :: d.args)) s t ∧
      Carries (posTether pos) (tetherGet s (posTether pos)) s t ∧ ViewsBut pos s t ∧
      t = { s with tth := t.tth, sat := { s.sat with views := t.sat.views } } := by
  have hview := viewGet_acked (pos := pos) (code := 0) (rx := rx) (c := c) (s := s)
  have hcarries := carries_acked (pos := pos) (code := 0) (rx := rx) (c := c) (s := s)
  have hwords := hubWords_acked (pos := pos) (code := 0) (rx := rx) (c := c) (s := s)
  rw [exec_cack htakes hout (by rcases hcode with h | h <;> simp [h])]
  have heffect : ∀ u, ackEffect pos c 0 u = modView pos (fun v => { v with setup := v.setup - 1 }) u := fun u => by
    rcases hcode with h | h <;> simp [ackEffect, h]
  rw [heffect]
  generalize acked pos rx c 0 s = u at *
  set v := modView pos (fun v => { v with setup := v.setup - 1 }) u with hv
  have hvself : viewGet v pos = { heardView pos rx s with out := none, setup := (viewGet s pos).setup - 1 } := by
    rw [hv, viewGet_modView, if_pos rfl, hview, if_pos rfl, ackedView_of_order hhost]
    rfl
  have hvbut : ViewsBut pos s v := fun q hq => by rw [hv, viewGet_modView, if_neg hq, hview, if_neg hq]
  have hvcarries : Carries (posTether pos) (tetherGet s (posTether pos)) s v := carries_of_tth hcarries rfl
  have hvwords : HubWords s v := hubWords_trans hwords rfl
  clear_value v
  have hvout : (viewGet v pos).out = none := by rw [hvself]
  have hvqueue : (viewGet v pos).queue = d :: rest := by rw [hvself]; exact hqueue
  set w := modView pos (fun v => { v with out := some d, queue := rest, toggleH := !v.toggleH }) v with hw
  have hnext : nextCmd pos v = hubSend (posTether pos) (viewGet v pos).path
      (hubFrame pos (viewGet w pos).toggleH 1 (byte d.code :: d.args)) w := nextCmd_first hvout hvqueue
  have hwself : viewGet w pos = { heardView pos rx s with
      out := some d, queue := rest, toggleH := !(viewGet s pos).toggleH, setup := (viewGet s pos).setup - 1 } := by
    rw [hw, viewGet_modView, if_pos rfl, hvself]
    rfl
  have hwbut : ViewsBut pos s w := viewsBut_trans hvbut (viewsBut_modView pos _ v)
  have hwcarries : Carries (posTether pos) (tetherGet s (posTether pos)) s w := carries_of_tth hvcarries rfl
  have hwwords : HubWords s w := hubWords_trans hvwords rfl
  clear_value w
  have htick : w.sys.tick = s.sys.tick := by rw [hwwords]
  rw [hwself, hvself] at hnext
  rw [hnext]
  refine completes_next ⟨?_, leaves_hubSend (posTether_lt hpos) htick (carries_quiet hwcarries),
    carries_hubSend hwcarries _ _, hwbut, ?_⟩
  · exact hwself
  · have hall := hubWords_trans hwwords (u := hubSend (posTether pos) (heardView pos rx s).path
      (hubFrame pos (!(viewGet s pos).toggleH) 1 (byte d.code :: d.args)) w) rfl
    exact hall

theorem completes_cack_host {pos code : Nat} {rx : Arrival} {c : HubCmd} {s : State}
    (htakes : HubTakes s (posTether pos) (upFrame pos (viewGet s pos).toggleH 1 [byte code]) rx)
    (hout : (viewGet s pos).out = some c) (hqueue : (viewGet s pos).queue = []) (hhost : c.fromHost = true)
    (hcode : c.code = 0x0A ∨ c.code = 0x0B) :
    Completes (exec (.cack pos (viewGet s pos).toggleH code rx) s) fun t =>
      viewGet t pos = { heardView pos rx s with
        out := none, cmdSt := if code = 0 then 2 else 3, cackCode := code } ∧ ViewsBut pos s t ∧
      Carries (posTether pos) (tetherGet s (posTether pos)) s t ∧
      t = { s with tth := t.tth, sat := { s.sat with views := t.sat.views } } := by
  have hview := viewGet_acked (pos := pos) (code := code) (rx := rx) (c := c) (s := s)
  have hcarries := carries_acked (pos := pos) (code := code) (rx := rx) (c := c) (s := s)
  have hwords := hubWords_acked (pos := pos) (code := code) (rx := rx) (c := c) (s := s)
  have hqueue' : (heardView pos rx s).queue = [] := hqueue
  have hshown : ackedView pos rx c code s = { heardView pos rx s with
      out := none, cmdSt := if code = 0 then 2 else 3, cackCode := code } := by
    by_cases h0 : code = 0
    · rcases hcode with h | h <;> simp [ackedView, hostAck, hhost, h0, h]
    · simp [ackedView, hostAck, hhost, h0, hqueue']
  rw [exec_cack htakes hout (by rcases hcode with h | h <;> simp [h])]
  have heffect : ∀ u, ackEffect pos c code u = u := fun u => by rcases hcode with h | h <;> simp [ackEffect, h]
  rw [heffect]
  generalize acked pos rx c code s = u at *
  have hself : viewGet u pos = _ := (hview pos).trans ((if_pos rfl).trans hshown)
  rw [nextCmd_idle (by rw [hself]; exact hqueue)]
  exact completes_next ⟨hself, fun q hq => by rw [hview, if_neg hq], hcarries, hwords⟩

theorem satOrder_of_orders {s t : State} (h : t.ord.orders = s.ord.orders) (pos op : Nat) :
    satOrder t pos op = satOrder s pos op := by rw [satOrder, h, satOrder]

theorem completes_cack_sleep {pos : Nat} {rx : Arrival} {c : HubCmd} {o : Order} {s : State}
    (htakes : HubTakes s (posTether pos) (upFrame pos (viewGet s pos).toggleH 1 [0]) rx)
    (hout : (viewGet s pos).out = some c) (hqueue : (viewGet s pos).queue = []) (hhost : c.fromHost = false)
    (hcode : c.code = 0x05) (ho : satOrder s pos 0x0F = some o) :
    Completes (exec (.cack pos (viewGet s pos).toggleH 0 rx) s) fun t =>
      (viewGet t pos).state = .asleep ∧ (viewGet t pos).out = none ∧ OrderEnds o 0 t ∧ ViewsBut pos s t ∧
      t.sys = s.sys ∧ t.fb = s.fb := by
  have hview := viewGet_acked (pos := pos) (code := 0) (rx := rx) (c := c) (s := s)
  have hwords := hubWords_acked (pos := pos) (code := 0) (rx := rx) (c := c) (s := s)
  rw [exec_cack htakes hout (by simp [hcode])]
  generalize acked pos rx c 0 s = u at *
  set v := modView pos (fun v => { v with state := .asleep }) u with hv
  have hord : satOrder v pos 0x0F = some o := by
    have hsame : v.ord.orders = u.ord.orders := rfl
    have horders : u.ord.orders = s.ord.orders := by rw [hwords]
    rw [← ho, satOrder_of_orders hsame, satOrder_of_orders horders]
  have heffect : ackEffect pos c 0 u = endOrder o 0 0 v := by
    simp only [ackEffect, hcode, if_true, ← hv, endSatOrder, hord]
  have hvself : viewGet v pos = { heardView pos rx s with out := none, state := .asleep } := by
    rw [hv, viewGet_modView, if_pos rfl, hview, if_pos rfl, ackedView_of_order hhost]
  have hvbut : ViewsBut pos s v := fun q hq => by rw [hv, viewGet_modView, if_neg hq, hview, if_neg hq]
  have hvsys : v.sys = s.sys ∧ v.fb = s.fb := by
    have h1 : v.sys = u.sys := rfl
    have h2 : v.fb = u.fb := rfl
    rw [h1, h2, hwords]
    exact ⟨rfl, rfl⟩
  clear_value v
  have hget : ∀ q, viewGet (endOrder o 0 0 v) q = viewGet v q := viewGet_of_sat (by rw [endOrder_sat])
  rw [heffect, nextCmd_idle (by rw [hget, hvself]; exact hqueue)]
  refine completes_next ⟨?_, ?_, orderEnds_endOrder o 0 0 v, fun q hq => ?_, ?_, ?_⟩
  · rw [hget, hvself]
  · rw [hget, hvself]
  · rw [hget, hvbut q hq]
  · rw [endOrder_sys, hvsys.1]
  · rw [endOrder_frame]
    exact hvsys.2

theorem completes_cack_data {pos : Nat} {rx : Arrival} {c : HubCmd} {o : Order} {s : State}
    (htakes : HubTakes s (posTether pos) (upFrame pos (viewGet s pos).toggleH 1 [0]) rx)
    (hout : (viewGet s pos).out = some c) (hqueue : (viewGet s pos).queue = []) (hhost : c.fromHost = false)
    (hcode : c.code = 0x11) (ho : satOrder s pos 0x12 = some o)
    (hmore : s.upd.satStart + (o.progress - 2) < payloadLen (updImage s pos).image) :
    Completes (exec (.cack pos (viewGet s pos).toggleH 0 rx) s) fun t =>
      t.upd = { s.upd with nextAt := some (s.sys.tick + 80000) } ∧ (viewGet t pos).out = none ∧ ViewsBut pos s t := by
  have hview := viewGet_acked (pos := pos) (code := 0) (rx := rx) (c := c) (s := s)
  have hwords := hubWords_acked (pos := pos) (code := 0) (rx := rx) (c := c) (s := s)
  rw [exec_cack htakes hout (by simp [hcode])]
  generalize acked pos rx c 0 s = u at *
  have horders : u.ord.orders = s.ord.orders := by rw [hwords]
  have hord : satOrder u pos 0x12 = some o := by rw [← ho, satOrder_of_orders horders]
  have himage : updImage u pos = updImage s pos := by rw [hwords]; rfl
  have hupd : u.upd = s.upd := by rw [hwords]
  have htick : u.sys.tick = s.sys.tick := by rw [hwords]
  have heffect : ackEffect pos c 0 u = { u with upd := { u.upd with nextAt := some (u.sys.tick + 80000) } } := by
    simp only [ackEffect, hcode, if_true, updAcked, hord]
    rw [himage, hupd, if_neg (Nat.not_le.mpr hmore)]
  have hself : viewGet u pos = { heardView pos rx s with out := none } := by rw [hview, if_pos rfl, ackedView_of_order hhost]
  have hget : ∀ q, viewGet { u with upd := { u.upd with nextAt := some (u.sys.tick + 80000) } } q = viewGet u q := fun _ => rfl
  rw [heffect, nextCmd_idle (by rw [hget, hself]; exact hqueue)]
  refine completes_next ⟨?_, ?_, fun q hq => ?_⟩
  · show { u.upd with nextAt := some (u.sys.tick + 80000) } = _
    rw [hupd, htick]
  · rw [hget, hself]
  · rw [hget, hview, if_neg hq]

/-! ### A satellite is LOST -/

/-- What the orders of a satellite that end without execution leave. -/
structure CutKept (pos : Nat) (s t : State) : Prop where
  others : ViewsBut pos s t
  state : (viewGet t pos).state = (viewGet s pos).state
  lostAt : (viewGet t pos).lostAt = (viewGet s pos).lostAt
  idle : NothingSent s pos → NothingSent t pos
  waking : (viewGet s pos).waking = false → (viewGet t pos).waking = false
  slots : t.sat.slotViews = s.sat.slotViews
  sys : t.sys = s.sys

theorem cutKept_refl (pos : Nat) (s : State) : CutKept pos s s := ⟨fun _ _ => rfl, rfl, rfl, id, id, rfl, rfl⟩

theorem cutKept_trans {pos : Nat} {s t u : State} (h : CutKept pos s t) (h' : CutKept pos t u) : CutKept pos s u :=
  ⟨viewsBut_trans h.others h'.others, h'.state.trans h.state, h'.lostAt.trans h.lostAt, fun hi => h'.idle (h.idle hi),
    fun hw => h'.waking (h.waking hw), h'.slots.trans h.slots, h'.sys.trans h.sys⟩

theorem cutKept_of_sat {pos : Nat} {s t : State} (hsat : t.sat = s.sat) (hsys : t.sys = s.sys) : CutKept pos s t := by
  have hget : ∀ q, viewGet t q = viewGet s q := viewGet_of_sat (by rw [hsat])
  refine ⟨fun q _ => hget q, ?_, ?_, fun h => ?_, fun h => ?_, by rw [hsat], hsys⟩
  · rw [hget]
  · rw [hget]
  · rw [NothingSent, hget]
    exact h
  · rw [hget]
    exact h

theorem cutKept_modView {pos : Nat} {f : SatView → SatView} (s : State) (hstate : ∀ v, (f v).state = v.state)
    (hlost : ∀ v, (f v).lostAt = v.lostAt) (hidle : ∀ v : SatView, v.out = none → v.queue = [] → (f v).out = none ∧ (f v).queue = [])
    (hwaking : ∀ v : SatView, v.waking = false → (f v).waking = false) : CutKept pos s (modView pos f s) := by
  have hself : viewGet (modView pos f s) pos = f (viewGet s pos) := by rw [viewGet_modView, if_pos rfl]
  refine ⟨viewsBut_modView pos f s, ?_, ?_, fun h => ?_, fun h => ?_, rfl, rfl⟩
  · rw [hself, hstate]
  · rw [hself, hlost]
  · rw [NothingSent, hself]
    exact hidle _ h.1 h.2
  · rw [hself]
    exact hwaking _ h

theorem cutKept_undoLift {o : Order} {pos : Nat} (hpos : slotPos o.slot = pos) (s : State) : CutKept pos s (undoLift o s) := by
  unfold undoLift
  split
  · split
    · exact cutKept_of_sat (by simp) (by simp)
    · split
      · exact cutKept_of_sat rfl rfl
      · split
        · rw [hpos]
          exact cutKept_modView s (fun _ => rfl) (fun _ => rfl) (fun _ h h' => ⟨h, h'⟩) (fun _ _ => rfl)
        · exact cutKept_refl pos s
  · exact cutKept_refl pos s

theorem cutKept_cutOrder {o : Order} {pos : Nat} (hpos : slotPos o.slot = pos) (code : Nat) (s : State) :
    CutKept pos s (cutOrder o code s) := by
  have hdrop : ∀ u, CutKept pos u (modView pos (dropCmds o.id) u) := fun u =>
    cutKept_modView u (fun _ => rfl) (fun _ => rfl) (fun v h h' => ⟨h, by rw [dropCmds, h', List.filter_nil]⟩) (fun _ h => h)
  unfold cutOrder
  dsimp only
  rw [hpos]
  refine cutKept_trans (cutKept_undoLift hpos s) (cutKept_trans ?_ (cutKept_of_sat (endOrder_sat ..) (endOrder_sys ..)))
  split
  · exact hdrop _
  · exact cutKept_refl pos _

theorem undoLift_orders (o : Order) (s : State) : (undoLift o s).ord.orders = s.ord.orders := by
  unfold undoLift
  split
  · split
    · rfl
    · split
      · rfl
      · split <;> rfl
  · rfl

theorem cutOrder_orders (o : Order) (code : Nat) (s : State) :
    (cutOrder o code s).ord.orders = s.ord.orders.filter (fun x => decide (x.id ≠ o.id)) := by
  unfold cutOrder
  dsimp only
  rw [endOrder_orders]
  split
  · exact congrArg _ (undoLift_orders o s)
  · rw [undoLift_orders]

/-- The orders of a satellite that end leave the others. -/
theorem cut_list {pos code : Nat} {l : List Order} (hl : ∀ o ∈ l, slotPos o.slot = pos) (s : State) :
    CutKept pos s (l.foldl (fun s o => cutOrder o code s) s) ∧
    ∀ o ∈ (l.foldl (fun s o => cutOrder o code s) s).ord.orders, o ∈ s.ord.orders ∧ o ∉ l := by
  induction l generalizing s with
  | nil => exact ⟨cutKept_refl pos s, fun o ho => ⟨ho, List.not_mem_nil⟩⟩
  | cons x l ih =>
    obtain ⟨hkept, hleft⟩ := ih (fun o ho => hl o (List.mem_cons_of_mem _ ho)) (cutOrder x code s)
    rw [List.foldl_cons]
    refine ⟨cutKept_trans (cutKept_cutOrder (hl x List.mem_cons_self) code s) hkept, fun o ho => ?_⟩
    obtain ⟨hin, hnot⟩ := hleft o ho
    rw [cutOrder_orders, List.mem_filter] at hin
    refine ⟨hin.1, fun hmem => ?_⟩
    rcases List.mem_cons.mp hmem with rfl | hmem
    · exact absurd rfl (of_decide_eq_true hin.2)
    · exact hnot hmem

theorem namesPos_pos {o : Order} {pos : Nat} (h : namesPos o pos = true) : slotPos o.slot = pos := by
  simp only [namesPos, Bool.and_eq_true, decide_eq_true_eq] at h
  exact h.2

theorem cutSatOrders_words (pos code : Nat) (s : State) :
    CutKept pos s (cutSatOrders pos code false s) ∧
    ∀ o ∈ (cutSatOrders pos code false s).ord.orders, namesPos o pos = true → o.past8 = false := by
  set l := s.ord.orders.filter (fun o => namesPos o pos && o.past8 &&
    !(false && decide (o.opcode = 0x12) && decide (o.stage = .dispatched))) with hl
  have hmem : ∀ o, o ∈ l ↔ o ∈ s.ord.orders ∧ namesPos o pos = true ∧ o.past8 = true := by
    intro o
    rw [hl, List.mem_filter]
    simp
  obtain ⟨hkept, hleft⟩ := cut_list (code := code) (fun o ho => namesPos_pos ((hmem o).mp ho).2.1) s
  refine ⟨hkept, fun o ho hnames => ?_⟩
  obtain ⟨hin, hnot⟩ := hleft o ho
  by_contra hpast
  exact hnot ((hmem o).mpr ⟨hin, hnames, by simpa using hpast⟩)

theorem updFails_words {pos : Nat} {s : State} (hlive : Live s) :
    (updFails pos s).sat = s.sat ∧ (updFails pos s).sys.tick = s.sys.tick ∧ Live (updFails pos s) := by
  unfold updFails
  split
  · set u : State := queueSatUpdate pos 6 { s with upd := { s.upd with satPos := 0x3FF, satPhase := 0 } } with hu
    have husys : u.sys = s.sys := by rw [hu, queueSatUpdate, queueRec_sys]
    have husat : u.sat = s.sat := by rw [hu, queueSatUpdate, queueRec_sat]
    have hulive : Live u := by rw [Live, husys]; exact hlive
    clear_value u
    have hraised : Raised .upd 3 u (raise .upd 3 u) := raised_raise hulive (.inl (by decide))
    refine ⟨(faultFrame_sat hraised.frame).trans husat, (faultFrame_tick hraised.frame).trans (congrArg Sys.tick husys), ?_⟩
    rcases hraised.hub with h | ⟨-, h⟩
    · rw [Live, h]
      exact hulive
    · rw [Live, h]
      exact ⟨nofun, nofun⟩
  · exact ⟨rfl, rfl, hlive⟩

/-- What a satellite's loss shows (R403, R741). -/
structure LostShown (pos : Nat) (s t : State) : Prop where
  state : (viewGet t pos).state = .lost
  since : (viewGet t pos).lostAt = s.sys.tick
  idle : NothingSent t pos
  waking : (viewGet t pos).waking = false
  slots : ∀ id ∈ slotsOf pos, (slotViewGet t id).st = .unreachable
  others : ViewsBut pos s t
  orders : ∀ o ∈ t.ord.orders, namesPos o pos = true → o.past8 = false

theorem lostShown_showLost {pos : Nat} {s : State} (hlive : Live s) :
    LostShown pos s (showLost pos s) ∧ Live (showLost pos s) := by
  obtain ⟨hfsat, hftick, hflive⟩ := updFails_words (pos := pos) hlive
  set a := updFails pos s with ha
  clear_value a
  have haview : ∀ q, viewGet a q = viewGet s q := viewGet_of_sat (by rw [hfsat])
  have hbview := viewGet_forgetSat pos
  obtain ⟨hbsys, -⟩ := forgetSat_kept pos a
  set b := forgetSat pos a with hb
  have hbget : ∀ q, viewGet b q = if q = pos then forgotten (viewGet a pos) else viewGet a q := fun q => hbview q a
  clear_value b
  set c := modView pos (fun v => { v with state := .lost, lostAt := s.sys.tick }) b with hc
  have hcself : viewGet c pos = { forgotten (viewGet a pos) with state := .lost, lostAt := s.sys.tick } := by
    rw [hc, viewGet_modView, if_pos rfl, hbget, if_pos rfl]
  have hcbut : ViewsBut pos s c := fun q hq => by rw [hc, viewGet_modView, if_neg hq, hbget, if_neg hq, haview]
  have hcsys : c.sys = b.sys := rfl
  clear_value c
  set d := queueTether (posTether pos) 3 (posNo pos) c with hd
  have hdsat : d.sat = c.sat := by rw [hd, queueTether, queueRec_sat]
  have hdsys : d.sys = c.sys := by rw [hd, queueTether, queueRec_sys]
  clear_value d
  set e := showSlots pos .unreachable d with he
  have heviews : e.sat.views = c.sat.views := by rw [he, showSlots_frame, hdsat]
  have hesys : e.sys = a.sys := by rw [he, showSlots_frame, hdsys, hcsys, hbsys]
  have heslots : ∀ id ∈ slotsOf pos, (slotViewGet e id).st = .unreachable := slotViewGet_showSlots pos _ d
  have heget : ∀ q, viewGet e q = viewGet c q := viewGet_of_sat heviews
  clear_value e
  have hshow : showLost pos s = cutSatOrders pos 0x082 false e := by
    rw [showLost, ← ha, ← hb, ← hc, ← hd, ← he]
  obtain ⟨hkept, horders⟩ := cutSatOrders_words pos 0x082 e
  rw [hshow]
  refine ⟨⟨?_, ?_, hkept.idle ⟨?_, ?_⟩, hkept.waking ?_, fun id hid => ?_, fun q hq => ?_, horders⟩, ?_⟩
  · rw [hkept.state, heget, hcself]
  · rw [hkept.lostAt, heget, hcself]
  · rw [heget, hcself]
    rfl
  · rw [heget, hcself]
    rfl
  · rw [heget, hcself]
    rfl
  · rw [slotViewGet, hkept.slots]
    exact heslots id hid
  · rw [hkept.others q hq, heget, hcbut q hq]
  · rw [Live, hkept.sys, hesys]
    exact hflive

theorem lostShown_satLost {pos : Nat} {s : State} (hlive : Live s) (hlose : canLose s pos = true) :
    LostShown pos s (satLost pos s) ∧ (satLost pos s).fb.tth.fst.getLsbD 6 = true := by
  obtain ⟨hshown, hslive⟩ := lostShown_showLost (pos := pos) hlive
  have heq : satLost pos s = raise .tth 6 (showLost pos s) := by
    have hfilter : [pos].filter (canLose s) = [pos] := by rw [List.filter_cons_of_pos hlose, List.filter_nil]
    unfold satLost satsLost
    rw [hfilter]
    rfl
  rw [heq]
  generalize showLost pos s = u at *
  have hraised : Raised .tth 6 u (raise .tth 6 u) := raised_raise hslive (.inl (by decide))
  have hsat := faultFrame_sat hraised.frame
  have hord := faultFrame_ord hraised.frame
  have hget : ∀ q, viewGet (raise .tth 6 u) q = viewGet u q := viewGet_of_sat (by rw [hsat])
  refine ⟨⟨?_, ?_, ?_, ?_, fun id hid => ?_, fun q hq => ?_, ?_⟩, bit_of_raised (b := .tth) (by decide) hraised⟩
  · rw [hget, hshown.state]
  · rw [hget, hshown.since]
  · rw [NothingSent, hget]
    exact hshown.idle
  · rw [hget, hshown.waking]
  · rw [slotViewGet, hsat]
    exact hshown.slots id hid
  · rw [hget, hshown.others q hq]
  · rw [hord]
    exact hshown.orders

/-! ### A command sent again -/

theorem completes_cmdResend {pos : Nat} {c : HubCmd} {s : State} (hring : ringLive s = true) (hpos : pos < 256)
    (hout : (viewGet s pos).out = some c)
    (hmore : c.sends1 < 4 ∨ ((tetherGet s (posTether pos)).mode = 3 ∧ c.sends2 < 4)) :
    Completes (exec (.cmdResend pos) s) fun t =>
      let first := decide (c.sends1 < 4)
      viewGet t pos = { viewGet s pos with
        out := some { c with sends1 := c.sends1 + bit first, sends2 := c.sends2 + bit (!first) }
        resends := satInc (viewGet s pos).resends } ∧ ViewsBut pos s t ∧
      Safety.Leaves (posTether pos) (if first then (viewGet s pos).path else (viewGet s pos).path.other)
        (hubFrame pos (viewGet s pos).toggleH 1 (byte c.code :: c.args)) s t ∧
      Carries (posTether pos) { tetherGet s (posTether pos) with retry := satInc (tetherGet s (posTether pos)).retry } s t ∧
      t = { s with sat := { s.sat with views := t.sat.views }, tth := t.tth } := by
  have hk := posTether_lt hpos
  set c' := if c.sends1 < 4 then { c with sends1 := c.sends1 + 1 } else { c with sends2 := c.sends2 + 1 } with hc'
  set v := modView pos (fun v => { v with out := some c', resends := satInc v.resends }) s with hv
  set u := modTether (posTether pos) (fun x => { x with retry := satInc x.retry }) v with hu
  have hexec : exec (.cmdResend pos) s = .next (hubSend (posTether pos)
      (if c.sends1 < 4 then (viewGet s pos).path else (viewGet s pos).path.other)
      (hubFrame pos (viewGet u pos).toggleH 1 (byte c.code :: c.args)) u) := by
    show execCmdResend pos s = _
    rw [execCmdResend, onRing_of_live hring, cmdResend, hout]
    dsimp only
    rw [if_pos (by simpa using hmore)]
    rfl
  have hself : viewGet u pos = { viewGet s pos with out := some c', resends := satInc (viewGet s pos).resends } := by
    have hsame : viewGet u pos = viewGet v pos := rfl
    rw [hsame, hv, viewGet_modView, if_pos rfl]
  have hvbut : ViewsBut pos s v := viewsBut_modView pos _ s
  have hbut : ViewsBut pos s u := hvbut
  have hcarries : Carries (posTether pos)
      { tetherGet s (posTether pos) with retry := satInc (tetherGet s (posTether pos)).retry } s u := by
    have hteth : tetherGet u (posTether pos) = _ := tetherGet_modTether_self hk (fun x => { x with retry := satInc x.retry }) v
    have hsame : tetherGet v (posTether pos) = tetherGet s (posTether pos) := rfl
    rw [hsame] at hteth
    exact ⟨by rw [hteth], tethersBut_modTether (posTether pos) _ v⟩
  have hwords : HubWords s u := rfl
  have hcount : c' = { c with
      sends1 := c.sends1 + bit (decide (c.sends1 < 4)), sends2 := c.sends2 + bit (!decide (c.sends1 < 4)) } := by
    rw [hc']
    by_cases h : c.sends1 < 4 <;> simp [h, bit]
  clear_value u
  have htoggle : (viewGet u pos).toggleH = (viewGet s pos).toggleH := by rw [hself]
  have htick : u.sys.tick = s.sys.tick := by rw [hwords]
  have hquiet : (tetherGet u (posTether pos)).quiet = (tetherGet s (posTether pos)).quiet := by rw [hcarries.1]
  rw [hexec, htoggle]
  refine completes_next ⟨?_, hbut, ?_, carries_hubSend hcarries _ _, hubWords_trans hwords rfl⟩
  · rw [← hcount]
    exact hself
  · simp only [decide_eq_true_eq]
    exact leaves_hubSend hk htick hquiet

theorem completes_cmdResend_lost {pos : Nat} {c : HubCmd} {s : State} (hring : ringLive s = true)
    (hlose : canLose s pos = true) (hout : (viewGet s pos).out = some c) (h1 : 4 ≤ c.sends1)
    (h2 : (tetherGet s (posTether pos)).mode ≠ 3 ∨ 4 ≤ c.sends2) :
    Completes (exec (.cmdResend pos) s) fun t =>
      (viewGet t pos).state = .lost ∧ (viewGet t pos).lostAt = s.sys.tick ∧ NothingSent t pos ∧
      (∀ id ∈ slotsOf pos, (slotViewGet t id).st = .unreachable) ∧ t.fb.tth.fst.getLsbD 6 = true ∧ ViewsBut pos s t ∧
      (∀ o ∈ t.ord.orders, namesPos o pos = true → o.past8 = false) := by
  have hexec : exec (.cmdResend pos) s = .next (satLost pos s) := by
    show execCmdResend pos s = _
    rw [execCmdResend, onRing_of_live hring, cmdResend, hout]
    dsimp only
    rw [if_neg]
    rintro (h | ⟨hmode, h⟩)
    · omega
    · rcases h2 with h2 | h2
      · exact h2 (by simpa using hmode)
      · omega
  obtain ⟨hshown, hbit⟩ := lostShown_satLost (live_of_ringLive hring) hlose
  rw [hexec]
  exact completes_next ⟨hshown.state, hshown.since, hshown.idle, hshown.slots, hbit, hshown.others, hshown.orders⟩

theorem completes_wakeResend {pos : Nat} {s : State} (hpos : pos < 256) (hring : ringLive s = true)
    (hsome : (viewGet s pos).wakes ≠ 0)
    (hmore : (viewGet s pos).wakes < (if (tetherGet s (posTether pos)).mode = 3 then 8 else 4)) :
    Completes (exec (.wakeResend pos) s) fun t =>
      viewGet t pos = { viewGet s pos with wakes := (viewGet s pos).wakes + 1 } ∧ ViewsBut pos s t ∧
      (tetherGet t (posTether pos)).sent.getLast? = some
        (if (viewGet s pos).wakes < 4 then (viewGet s pos).path else (viewGet s pos).path.other,
          [.wake, .d (byte (posNo pos))]) ∧
      Carries (posTether pos) (tetherGet s (posTether pos)) s t := by
  have hk := posTether_lt hpos
  set e := if (viewGet s pos).wakes < 4 then (viewGet s pos).path else (viewGet s pos).path.other with he
  set v := modView pos (fun v => { v with wakes := v.wakes + 1 }) s with hv
  set t := modTether (posTether pos) (hubPut e [.wake, .d (byte (posNo pos))]) v with ht
  have hexec : exec (.wakeResend pos) s = .next t := by
    show execWakeResend pos s = _
    rw [execWakeResend, onRing_of_live hring, wakeResend, if_neg hsome, if_pos hmore]
    rfl
  have hself : tetherGet t (posTether pos) = hubPut e [.wake, .d (byte (posNo pos))] (tetherGet s (posTether pos)) :=
    tetherGet_modTether_self hk _ v
  have hview : ∀ q, viewGet t q = viewGet v q := fun _ => rfl
  have hbut : TethersBut (posTether pos) s t := tethersBut_modTether (posTether pos) _ v
  rw [hexec]
  clear_value t
  refine completes_next ⟨?_, fun q hq => ?_, ?_, ?_, hbut⟩
  · rw [hview, hv, viewGet_modView, if_pos rfl]
  · rw [hview, hv, viewGet_modView, if_neg hq]
  · rw [hself]
    cases e <;> simp [hubPut]
  · rw [hself]
    cases e <;> rfl

theorem completes_wakeResend_lost {pos : Nat} {s : State} (hring : ringLive s = true) (hlose : canLose s pos = true)
    (hmany : 8 ≤ (viewGet s pos).wakes) :
    Completes (exec (.wakeResend pos) s) fun t =>
      (viewGet t pos).state = .lost ∧ (viewGet t pos).waking = false ∧ t.fb.tth.fst.getLsbD 6 = true ∧ ViewsBut pos s t := by
  have hexec : exec (.wakeResend pos) s = .next (satLost pos s) := by
    show execWakeResend pos s = _
    rw [execWakeResend, onRing_of_live hring, wakeResend, if_neg (by omega), if_neg (by split <;> omega)]
  obtain ⟨hshown, hbit⟩ := lostShown_satLost (live_of_ringLive hring) hlose
  rw [hexec]
  exact completes_next ⟨hshown.state, hshown.waking, hbit, hshown.others⟩

/-! ### RACK -/

/-- The RESULT under way has been acknowledged; the next one goes. -/
def resultOver (x : Sat) : Sat := nextResult { x with sending := none }

theorem resultOver_none {x : Sat} (h : x.results = []) : resultOver x = { x with sending := none } := by
  unfold resultOver nextResult
  split
  · rfl
  · split
    · rename_i r rest hsending hresults
      rw [h] at hresults
      cases hresults
    · rfl

theorem resultOver_some {x : Sat} {r : SatResult} (hpos : x.position ≠ 0) (h : x.results.head? = some r) : resultOver x = { x with
    sending := some r, results := x.results.tail, togS := !x.togS
    outF := (resultOver x).outF, outK := (resultOver x).outK } := by
  obtain ⟨rest, hrest⟩ : ∃ rest, x.results = r :: rest := by
    cases hx : x.results with
    | nil => rw [hx] at h; cases h
    | cons a rest => exact ⟨rest, by rw [hx] at h; cases h; rfl⟩
  have heq : resultOver x = sendResult { x with sending := some r, results := rest, togS := !x.togS } := by
    unfold resultOver nextResult
    rw [if_neg hpos]
    dsimp only
    rw [hrest]
  rw [heq, sendResult_frame, hrest]
  rfl

theorem rackTaken_other {sat : Nat} {b : Bool} {s : State} (h : (satGet s sat).sending = none ∨ (satGet s sat).togS ≠ b) :
    rackTaken sat b s = s := by
  unfold rackTaken
  dsimp only
  refine if_neg fun hc => ?_
  rcases h with h | h
  · rw [h] at hc
    cases hc.1
  · exact h hc.2

theorem completes_rack {sat : Nat} {rx : Arrival} {s : State}
    (htakes : TakesFrame (satGet s sat) (toSat rx (satGet s sat).togS 2 []) rx) (hsending : (satGet s sat).sending ≠ none)
    (hrearm : (satGet s sat).rearmAfterFetch = none) :
    Completes (exec (.rack sat (satGet s sat).togS rx) s) fun t =>
      ((satGet s sat).results = [] → SatIs sat { satGet s sat with sending := none } s t) ∧
      (∀ r, (satGet s sat).results.head? = some r →
        SatOuts sat { satGet s sat with
          sending := some r, results := (satGet s sat).results.tail, togS := !(satGet s sat).togS } s t) := by
  have hposition : (satGet s sat).position ≠ 0 := by
    have hnamed := htakes.2.1
    simp only [named, Bool.and_eq_true, decide_eq_true_eq] at hnamed
    rw [hnamed.2]
    exact hnamed.1
  have hissome : (satGet s sat).sending.isSome = true := Option.isSome_iff_ne_none.mpr hsending
  have hover : (satGet (modSat sat resultOver s) sat).rearmAfterFetch = none := by
    rw [satGet_modSat, if_pos rfl, resultOver, nextResult_frame]
    exact hrearm
  have htaken : rackTaken sat (satGet s sat).togS s = modSat sat resultOver s := by
    unfold rackTaken
    dsimp only
    rw [if_pos ⟨hissome, rfl⟩]
    have hmatch : (match (satGet (modSat sat resultOver s) sat).rearmAfterFetch with
        | some n =>
          if fetchWaits (satGet (modSat sat resultOver s) sat) n then modSat sat resultOver s
          else rearmNow (4 * sat + n) (modSat sat (fun x => { x with rearmAfterFetch := none }) (modSat sat resultOver s))
        | none => modSat sat resultOver s) = modSat sat resultOver s := by rw [hover]
    exact hmatch
  have hexec : exec (.rack sat (satGet s sat).togS rx) s = .next (modSat sat resultOver s) :=
    congrArg Host.Outcome.next ((onSat_of_takes htakes _).trans htaken)
  obtain ⟨hself, hothers, hframe⟩ := satIs_modSat sat resultOver s
  rw [hexec]
  refine completes_next ⟨fun hnone => ⟨?_, hothers, hframe⟩, fun r hr => ⟨?_, hothers, hframe⟩⟩
  · rw [hself, resultOver_none hnone]
  · rw [hself, resultOver_some hposition hr]

theorem completes_rack_other {sat : Nat} {b : Bool} {rx : Arrival} {s : State}
    (htakes : TakesFrame (satGet s sat) (toSat rx b 2 []) rx)
    (hother : (satGet s sat).sending = none ∨ (satGet s sat).togS ≠ b) :
    Completes (exec (.rack sat b rx) s) fun t => t = s := by
  have hexec : exec (.rack sat b rx) s = .next s :=
    congrArg Host.Outcome.next ((onSat_of_takes htakes _).trans (rackTaken_other hother))
  rw [hexec]
  exact completes_next rfl

theorem completes_rack_past {sat : Nat} {rx : Arrival} {s : State} (b : Bool) (hhears : satHears (satGet s sat) = true)
    (hnamed : named (satGet s sat) rx = false) :
    Completes (exec (.rack sat b rx) s) fun t => SatIs sat (satPass rx (toSat rx b 2 []) (satGet s sat)) s t := by
  have hexec : exec (.rack sat b rx) s = .next (modSat sat (satPass rx (toSat rx b 2 [])) s) := by
    show execRack sat b rx s = _
    rw [execRack, hnamed, onSat_past hhears]
  rw [hexec]
  exact completes_next (satIs_modSat sat _ s)

theorem completes_resultResend (sat : Nat) (s : State) :
    Completes (exec (.resultResend sat) s) fun t => SatOuts sat (satGet s sat) s t := by
  obtain ⟨hself, hothers, hframe⟩ := satIs_modSat sat sendResult s
  have hexec : exec (.resultResend sat) s = .next (modSat sat sendResult s) := rfl
  rw [hexec]
  refine completes_next ⟨?_, hothers, hframe⟩
  rw [hself]
  exact sendResult_frame _

end Machine

open Machine in
/-- Settles O55, an effect lemma per row of the command transport. -/
theorem commandTransport : Obligations.CommandTransport :=
  ⟨fun _ _ _ _ _ => completes_cack_stale,
    fun _ _ _ _ _ => completes_cack_bad,
    fun _ _ _ _ _ _ => completes_cack_setup,
    fun _ _ _ _ _ _ _ => completes_cack_host,
    fun _ _ _ _ _ _ => completes_cack_sleep,
    fun _ _ _ _ _ _ => completes_cack_data,
    fun _ _ _ => completes_cmdResend,
    fun _ _ _ => completes_cmdResend_lost,
    fun _ _ => completes_wakeResend,
    fun _ _ => completes_wakeResend_lost,
    fun _ _ _ => completes_rack,
    fun _ _ _ _ => completes_rack_other,
    fun _ b _ _ => completes_rack_past b,
    completes_resultResend⟩

end Sys2Proof
end

section
/-! What hosts and orders ask of a satellite (chapters 6, 11, 12, 13). -/
namespace Sys2Proof
namespace Machine

set_option Elab.async false

open Safety

/-! ### SAT_CMD -/

theorem faultWordAt_satCmd (p : Port) : faultWordAt p 0x316 = none := by cases p <;> decide

theorem faultWordAt_satZfack (p : Port) : faultWordAt p 0x315 = none := by cases p <;> decide

/-- A command word of SAT_CMD carries its code and its slot. -/
theorem satWord_parts {c : Nat} (hc : c < 8) (data : Word) :
    (withCode 0 3 c data).toNat % 8 = c ∧ (withCode 0 3 c data).toNat / 8 % 4 = data.toNat / 8 % 4 := by
  have hlt : data.toNat < 1024 := data.isLt
  have hsmall : c + data.toNat / 8 * 8 < 1024 := by omega
  have hval : (withCode 0 3 c data).toNat = c + data.toNat / 8 * 8 := by
    simp [withCode, toWord, Nat.mod_one, Nat.mod_eq_of_lt hsmall]
  rw [hval]
  omega

/-- The window of a port does not move by the frame of a write. -/
theorem satWindow_writeSeen (p : Port) (a v : Nat) (s : State) : satWindow (writeSeen p a v s) p = satWindow s p := by
  have hsel : (portGet (writeSeen p a v s) p).satSel = (portGet s p).satSel := by cases p <;> rfl
  rw [satWindow, hsel, satWindow]
  rfl

theorem writeOwn_satCmd {p : Port} {v : Nat} (hcode : 1 ≤ v % 8 ∧ v % 8 ≤ 6) (s : State) :
    writeOwn p 0x316 v s = match satWindow s p with
      | none => (9, s)
      | some pos => if satCmdRefused s pos (v % 8) then (9, s) else (0, satCmd pos (v / 8 % 4) (v % 8) s) := by
  have hrange : inRange (v % 8) 1 6 = true := by simp [inRange, hcode]
  have hown : writeOwn p 0x316 v s = if (!inRange (v % 8) 1 6) = true then outOfRange s else writeSatWindow p 0x316 v s := rfl
  rw [hown, hrange, if_neg (by decide)]
  rfl

section SatCmd
variable {p : Port} {c : Nat} {data : Word} {s : State} (h : WriteAdmitted s p 0x316) (hc : 1 ≤ c ∧ c ≤ 6)
include h hc

theorem satCmdDeclined (hwhy : satWindow s p = none ∨ ∃ pos, satWindow s p = some pos ∧ satCmdRefused s pos c = true) :
    Refused s (wordFrame p 0x316 (withCode 0 3 c data) s) p 0x316 9 ∧
    wordFrame p 0x316 (withCode 0 3 c data) s = { s with ports := (wordFrame p 0x316 (withCode 0 3 c data) s).ports } := by
  obtain ⟨hcode, -⟩ := satWord_parts (c := c) (by omega) data
  set v := (withCode 0 3 c data).toNat with hv
  have hown : writeOwn p 0x316 v (writeSeen p 0x316 v s) = (8 + 1, writeSeen p 0x316 v s) := by
    rw [writeOwn_satCmd (by rw [hcode]; exact hc), satWindow_writeSeen]
    rcases hwhy with hnone | ⟨pos, hpos, hrefused⟩
    · rw [hnone]
    · rw [hpos, hcode]
      exact if_pos hrefused
  obtain ⟨hrefused, hframe⟩ := commandDeclined h (by decide) (faultWordAt_satCmd p) hown rfl
  exact ⟨hrefused, hframe⟩

theorem satCmdTaken {pos : Nat} (hpos : satWindow s p = some pos) (hfree : satCmdRefused s pos c = false)
    (hports : (satCmd pos (data.toNat / 8 % 4) c (writeSeen p 0x316 (withCode 0 3 c data).toNat s)).ports =
      (writeSeen p 0x316 (withCode 0 3 c data).toNat s).ports) :
    CommandTaken s p 0x316 (satCmd pos (data.toNat / 8 % 4) c (writeSeen p 0x316 (withCode 0 3 c data).toNat s))
      (wordFrame p 0x316 (withCode 0 3 c data) s) := by
  obtain ⟨hcode, hslot⟩ := satWord_parts (c := c) (by omega) data
  refine commandTaken h (by decide) (faultWordAt_satCmd p) (by decide) (by decide) ?_ hports
  rw [writeOwn_satCmd (by rw [hcode]; exact hc), satWindow_writeSeen, hpos, hcode, hslot]
  exact if_neg (by rw [show satCmdRefused (writeSeen p 0x316 _ s) pos c = satCmdRefused s pos c from rfl, hfree]; decide)

end SatCmd

/-- A command of a host is in progress at the satellite. -/
def hostAsked (v : SatView) : SatView := { v with cmdSt := 1, cackCode := 0 }

/-- What a sent command shows on the wires does not depend on whom it serves. -/
theorem putsCmd_of {pos : Nat} {c d : HubCmd} {s v t : State} (hsys : v.sys = s.sys) (htth : v.tth = s.tth)
    (hpath : (viewGet v pos).path = (viewGet s pos).path) (htoggle : (viewGet v pos).toggleH = (viewGet s pos).toggleH)
    (hcode : c.code = d.code) (hargs : c.args = d.args) (h : PutsCmd pos c v t) : PutsCmd pos d s t := by
  have hget := tetherGet_of_tth htth
  obtain ⟨hput, hbut⟩ := h
  rw [hsys, hget, hpath, htoggle, hcode, hargs] at hput
  exact ⟨hput, fun j hj => by rw [hbut j hj, hget]⟩

theorem putsCmd_of_tth {pos : Nat} {c : HubCmd} {s t u : State} (h : PutsCmd pos c s t) (htth : u.tth = t.tth) :
    PutsCmd pos c s u := by
  have hget := tetherGet_of_tth htth
  refine ⟨fun hk hfree => ?_, fun j hj => ?_⟩
  · rw [hget]
    exact h.1 hk hfree
  · rw [hget, h.2 j hj]

/-- One command of a host goes to a satellite to which nothing was outstanding. -/
theorem hostCmd_of_taken {p : Port} {pos code : Nat} {args : List Byte} {fetch : Bool} {s v t : State}
    (hnone : NothingSent s pos) (hviews : v.sat.views = s.sat.views) (hframe : v = { s with sat := v.sat, ports := v.ports })
    (hfetch : v.sat.trFetching = (s.sat.trFetching || fetch))
    (h : CommandTaken s p 0x316 (sendCmd pos { code := code, args := args, fromHost := true } (modView pos hostAsked v)) t) :
    HostCmd p pos code args fetch s t := by
  obtain ⟨howes, hanswers, htframe⟩ := h
  have hvget : ∀ q, viewGet v q = viewGet s q := viewGet_of_sat hviews
  set m := modView pos hostAsked v with hm
  have hmself : viewGet m pos = hostAsked (viewGet s pos) := by rw [hm, viewGet_modView, if_pos rfl, hvget]
  have hmbut : ViewsBut pos s m := fun q hq => by rw [hm, viewGet_modView, if_neg hq, hvget]
  have hmnone : NothingSent m pos := ⟨by rw [hmself]; exact hnone.1, by rw [hmself]; exact hnone.2⟩
  have hmsys : m.sys = s.sys := by rw [hm, hframe]; rfl
  have hmtth : m.tth = s.tth := by rw [hm, hframe]; rfl
  have hmfetch : m.sat.trFetching = v.sat.trFetching := rfl
  have hmframe : m = { s with sat := m.sat, ports := m.ports } := by rw [hm, hframe]; rfl
  clear_value m
  obtain ⟨hself, hbut, hputs⟩ :=
    cmdGoes_sendCmd ({ code := code, args := args, fromHost := true } : HubCmd) hmnone rfl rfl rfl
  have hsframe := sendCmd_frame pos { code := code, args := args, fromHost := true } m
  set u := sendCmd pos { code := code, args := args, fromHost := true } m with hu
  clear_value u
  have hput : PutsCmd pos { code := code, args := args } s u :=
    putsCmd_of hmsys hmtth (by rw [hmself]; rfl) (by rw [hmself]; rfl) rfl rfl hputs
  have hufetch : u.sat.trFetching = (s.sat.trFetching || fetch) := by
    rw [hsframe, ← hfetch, ← hmfetch]
  have htviews : t.sat = u.sat := by rw [htframe]
  have htget : ∀ q, viewGet t q = viewGet u q := viewGet_of_sat (by rw [htviews])
  refine ⟨?_, fun q hq => ?_, putsCmd_of_tth hput (by rw [htframe]), by rw [htviews, hufetch], howes, hanswers, ?_⟩
  · rw [htget, hself, hmself]
    rfl
  · rw [htget, hbut q hq, hmbut q hq]
  · rw [htframe, hsframe, hmframe]

section HostCmds
variable {p : Port} {pos : Nat} {data : Word} {s : State} (h : WriteAdmitted s p 0x316) (hpos : satWindow s p = some pos)
  (hnone : NothingSent s pos)
include h hpos

theorem completes_satCmds_refused :
    (satCmdRefused s pos 1 = true → Completes (exec (.satCmdRestart p data) s) fun t => Refused s t p 0x316 9 ∧
    t = { s with ports := t.ports }) ∧
    (satCmdRefused s pos 3 = true → Completes (exec (.satCmdTraceFetch p data) s) fun t => Refused s t p 0x316 9 ∧
    t = { s with ports := t.ports }) ∧
    (satCmdRefused s pos 6 = true → Completes (exec (.satCmdTraceReplay p data) s) fun t => Refused s t p 0x316 9 ∧
    t = { s with ports := t.ports }) := by
  refine ⟨fun hwhy => completes_next ?_, fun hwhy => completes_next ?_, fun hwhy => completes_next ?_⟩
  · exact satCmdDeclined h (by decide) (.inr ⟨pos, hpos, hwhy⟩)
  · exact satCmdDeclined h (by decide) (.inr ⟨pos, hpos, hwhy⟩)
  · exact satCmdDeclined h (by decide) (.inr ⟨pos, hpos, hwhy⟩)

include hnone

/-- The commands but the trace fetch and the trace replay only go. -/
theorem hostCmd_simple {c code : Nat} {args : List Byte} (hc : 1 ≤ c ∧ c ≤ 6) (hfree : satCmdRefused s pos c = false)
    (hrun : ∀ u, satCmd pos (data.toNat / 8 % 4) c u =
      sendCmd pos { code := code, args := args, fromHost := true } (modView pos hostAsked u)) :
    HostCmd p pos code args false s (wordFrame p 0x316 (withCode 0 3 c data) s) := by
  have htaken := satCmdTaken (data := data) h hc hpos hfree (by rw [hrun, sendCmd_frame]; rfl)
  rw [hrun] at htaken
  exact hostCmd_of_taken (v := writeSeen p 0x316 (withCode 0 3 c data).toNat s) hnone rfl rfl (by rw [Bool.or_false]; rfl) htaken

theorem hostCmd_fetch (hfree : satCmdRefused s pos 3 = false) :
    HostCmd p pos 0x07 [byte (data.toNat / 8 % 4), 1] true s (wordFrame p 0x316 (withCode 0 3 3 data) s) := by
  set v := writeSeen p 0x316 (withCode 0 3 3 data).toNat s with hv
  have hrun : satCmd pos (data.toNat / 8 % 4) 3 v =
      sendCmd pos { code := 0x07, args := [byte (data.toNat / 8 % 4), 1], fromHost := true } (modView pos hostAsked
        { v with sat := { v.sat with
          trFetching := true, trValid := false, trSlot := slotOf pos (data.toNat / 8 % 4), trBytes := [] } }) := rfl
  have htaken := satCmdTaken (data := data) h (c := 3) (by decide) hpos hfree (by rw [← hv, hrun, sendCmd_frame]; rfl)
  rw [← hv, hrun] at htaken
  exact hostCmd_of_taken (v := { v with sat := { v.sat with
    trFetching := true, trValid := false, trSlot := slotOf pos (data.toNat / 8 % 4), trBytes := [] } }) hnone rfl rfl
    (by rw [Bool.or_true]) htaken

theorem completes_satCmds :
    let n := byte (data.toNat / 8 % 4)
    (satCmdRefused s pos 1 = false → Completes (exec (.satCmdRestart p data) s) fun t => HostCmd p pos 0x0B [] false s t) ∧
    (satCmdRefused s pos 2 = false → Completes (exec (.satCmdRipcord p data) s) fun t => HostCmd p pos 0x0A [0x0F] false s t) ∧
    (satCmdRefused s pos 3 = false →
      Completes (exec (.satCmdTraceFetch p data) s) fun t => HostCmd p pos 0x07 [n, 1] true s t) ∧
    (satCmdRefused s pos 4 = false →
      Completes (exec (.satCmdTraceRearm p data) s) fun t => HostCmd p pos 0x07 [n, 2] false s t) ∧
    (satCmdRefused s pos 5 = false →
      Completes (exec (.satCmdTraceFreeze p data) s) fun t => HostCmd p pos 0x07 [n, 3] false s t) := by
  refine ⟨fun hfree => completes_next ?_, fun hfree => completes_next ?_, fun hfree => completes_next ?_,
    fun hfree => completes_next ?_, fun hfree => completes_next ?_⟩
  · exact hostCmd_simple h hpos hnone (c := 1) (by decide) hfree fun _ => rfl
  · exact hostCmd_simple h hpos hnone (c := 2) (by decide) hfree fun _ => rfl
  · exact hostCmd_fetch h hpos hnone hfree
  · exact hostCmd_simple h hpos hnone (c := 4) (by decide) hfree fun _ => rfl
  · exact hostCmd_simple h hpos hnone (c := 5) (by decide) hfree fun _ => rfl

/-- The chunks of a trace. -/
def traceChunk (n : Byte) (l : Tbl Byte) (i : Nat) : HubCmd :=
  { code := 0x0D, args := [n, byte i] ++ tblBytes 0 l (128 * i) 128, fromHost := true }

theorem completes_satCmdTraceReplay (hfree : satCmdRefused s pos 6 = false) :
    Completes (exec (.satCmdTraceReplay p data) s) fun t =>
      let n := data.toNat / 8 % 4
      (viewGet t pos).cmdSt = 1 ∧ (viewGet t pos).queue.length = 15 ∧
      (viewGet t pos).out =
        some { code := 0x0D, args := [byte n, 0] ++ tblBytes 0 s.sat.trBytes 0 128, fromHost := true } ∧
      PutsCmd pos { code := 0x0D, args := [byte n, 0] ++ tblBytes 0 s.sat.trBytes 0 128 } s t ∧
      ViewsBut pos s t ∧ Owes t p .ok 0x316 0 ∧ t = { s with sat := t.sat, tth := t.tth, ports := t.ports } := by
  set n := byte (data.toNat / 8 % 4) with hn
  set v := writeSeen p 0x316 (withCode 0 3 6 data).toNat s with hv
  set l := ((List.range 15).map (fun i => i + 1)).map (traceChunk n s.sat.trBytes) with hl
  set m := modView pos hostAsked v with hm
  set f := sendCmd pos (traceChunk n s.sat.trBytes 0) m with hf
  have hrun : satCmd pos (data.toNat / 8 % 4) 6 v = l.foldl (fun s c => sendCmd pos c s) f := by
    have hrange : (List.range 16) = 0 :: (List.range 15).map (fun i => i + 1) := by decide
    have hunfold : satCmd pos (data.toNat / 8 % 4) 6 v =
        ((List.range 16).map (traceChunk n s.sat.trBytes)).foldl (fun s c => sendCmd pos c s) m := rfl
    rw [hunfold, hrange, List.map_cons, List.foldl_cons]
  have hmself : viewGet m pos = hostAsked (viewGet s pos) := by rw [hm, viewGet_modView, if_pos rfl]; rfl
  have hmbut : ViewsBut pos s m := viewsBut_modView pos _ v
  have hmnone : NothingSent m pos := ⟨by rw [hmself]; exact hnone.1, by rw [hmself]; exact hnone.2⟩
  have hmframe : m = { s with sat := m.sat, ports := v.ports } := rfl
  have hmsys : m.sys = s.sys := rfl
  have hmtth : m.tth = s.tth := rfl
  have hmports : m.ports = v.ports := rfl
  clear_value m
  obtain ⟨hfself, hfbut, hfputs⟩ := cmdGoes_sendCmd (traceChunk n s.sat.trBytes 0) hmnone rfl rfl rfl
  have hfframe : HubWords m f := sendCmd_frame pos _ m
  rw [← hf] at hfself hfbut hfputs
  clear_value f
  obtain ⟨hqueued, htth⟩ := foldl_sendCmd_waits l (s := f) (pos := pos) (by rw [hfself]; rfl)
  obtain ⟨hlbut, hlframe⟩ := foldl_sendCmd_frame pos l f
  have hlwords : HubWords f (l.foldl (fun s c => sendCmd pos c s) f) := hlframe
  have hports : (satCmd pos (data.toNat / 8 % 4) 6 v).ports = v.ports := by
    rw [hrun, hubWords_trans hfframe hlwords]
    exact hmports
  obtain ⟨howes, -, hframe⟩ := satCmdTaken (data := data) h (c := 6) (by decide) hpos hfree hports
  rw [← hv, hrun] at hframe
  have hput : PutsCmd pos { code := 0x0D, args := [n, 0] ++ tblBytes 0 s.sat.trBytes 0 128 } s f :=
    putsCmd_of hmsys hmtth (by rw [hmself]; rfl) (by rw [hmself]; rfl) rfl rfl hfputs
  have hqueue : (viewGet f pos).queue = [] := by
    rw [hfself, hmself]
    exact hnone.2
  have hlength : l.length = 15 := by rw [hl, List.length_map, List.length_map, List.length_range]
  have hout : (viewGet f pos).out = some (traceChunk n s.sat.trBytes 0) := by rw [hfself]
  have hasked : (viewGet f pos).cmdSt = 1 := by
    rw [hfself, hmself]
    rfl
  have hall : l.foldl (fun s c => sendCmd pos c s) f = { s with
      sat := (l.foldl (fun s c => sendCmd pos c s) f).sat, tth := (l.foldl (fun s c => sendCmd pos c s) f).tth
      ports := v.ports } := by
    rw [hubWords_trans hfframe hlwords, hmframe]
  generalize l.foldl (fun s c => sendCmd pos c s) f = u at *
  have hexec : exec (.satCmdTraceReplay p data) s = .next (wordFrame p 0x316 (withCode 0 3 6 data) s) := rfl
  rw [hexec]
  generalize wordFrame p 0x316 (withCode 0 3 6 data) s = t at *
  have htsat : t.sat = u.sat := by rw [hframe]
  have htget : ∀ q, viewGet t q = viewGet u q := viewGet_of_sat (by rw [htsat])
  refine completes_next ⟨?_, ?_, ?_, ?_, fun q hq => ?_, howes, ?_⟩
  · rw [htget, hqueued]
    exact hasked
  · rw [htget, hqueued, hqueue, List.nil_append, hlength]
  · rw [htget, hqueued]
    exact hout
  · refine putsCmd_of_tth (putsCmd_of_tth hput htth) ?_
    rw [hframe]
  · rw [htget, hlbut q hq, hfbut q hq, hmbut q hq]
  · rw [hframe, hall]

end HostCmds

theorem completes_satCmds_undeclared {p : Port} {s : State} (data : Word) (h : WriteAdmitted s p 0x316)
    (hnone : satWindow s p = none) :
    (Completes (exec (.satCmdRestart p data) s) fun t => Refused s t p 0x316 9 ∧ t = { s with ports := t.ports }) ∧
    (Completes (exec (.satCmdRipcord p data) s) fun t => Refused s t p 0x316 9 ∧ t = { s with ports := t.ports }) ∧
    (Completes (exec (.satCmdTraceFetch p data) s) fun t => Refused s t p 0x316 9 ∧ t = { s with ports := t.ports }) ∧
    (Completes (exec (.satCmdTraceRearm p data) s) fun t => Refused s t p 0x316 9 ∧ t = { s with ports := t.ports }) ∧
    (Completes (exec (.satCmdTraceFreeze p data) s) fun t => Refused s t p 0x316 9 ∧ t = { s with ports := t.ports }) ∧
    (Completes (exec (.satCmdTraceReplay p data) s) fun t => Refused s t p 0x316 9 ∧ t = { s with ports := t.ports }) := by
  refine ⟨completes_next ?_, completes_next ?_, completes_next ?_, completes_next ?_, completes_next ?_, completes_next ?_⟩
  all_goals exact satCmdDeclined h (by decide) (.inl hnone)

/-! ### SAT_ZFACK -/

theorem writeOwn_satZfack (p : Port) (v : Nat) (s : State) :
    writeOwn p 0x315 v s = match satWindow s p with
      | none => (9, s)
      | some pos => if (viewGet s pos).state = .incompatible then (9, s) else (0, satZfack pos (v % 512) s) := rfl

theorem completes_satZfackWrite {p : Port} {pos : Nat} {data : Word} {s : State} (h : WriteAdmitted s p 0x315)
    (hpos : satWindow s p = some pos) (hst : (viewGet s pos).state ≠ .incompatible) (hnone : NothingSent s pos) :
    Completes (exec (.satZfackWrite p data) s) fun t =>
      CmdGoes pos { code := 0x09, args := natLe 2 (data.toNat % 512) } s t ∧ Owes t p .ok 0x315 0 ∧
      t = { s with sat := { s.sat with views := t.sat.views }, tth := t.tth, ports := t.ports } := by
  set v := writeSeen p 0x315 data.toNat s with hv
  set c : HubCmd := { code := 0x09, args := natLe 2 (data.toNat % 512) } with hc
  have hown : writeOwn p 0x315 data.toNat v = (0, sendCmd pos c v) := by
    rw [writeOwn_satZfack, hv, satWindow_writeSeen, hpos]
    exact if_neg hst
  have hgoes : CmdGoes pos c s (sendCmd pos c v) := cmdGoes_sendCmd c hnone rfl rfl rfl
  have hframe := sendCmd_frame pos c v
  have htaken := commandTaken h (by decide) (faultWordAt_satZfack p) (by decide) (by decide) hown (by rw [hframe])
  have hvframe : v = { s with ports := v.ports } := rfl
  have hexec : exec (.satZfackWrite p data) s = .next (wordFrame p 0x315 data s) := rfl
  rw [hexec]
  generalize wordFrame p 0x315 data s = t at *
  generalize sendCmd pos c v = u at *
  clear_value v
  obtain ⟨howes, -, htframe⟩ := htaken
  obtain ⟨hself, hbut, hputs⟩ := hgoes
  have htget : ∀ q, viewGet t q = viewGet u q := viewGet_of_sat (by rw [htframe])
  refine completes_next ⟨⟨?_, fun q hq => ?_, putsCmd_of_tth hputs (by rw [htframe])⟩, howes, ?_⟩
  · rw [htget, hself]
  · rw [htget, hbut q hq]
  · rw [htframe, hframe, hvframe]

theorem completes_satZfackWrite_refused {p : Port} {data : Word} {s : State} (h : WriteAdmitted s p 0x315)
    (hwhy : satWindow s p = none ∨ (viewGet s ((satWindow s p).getD 0)).state = .incompatible) :
    Completes (exec (.satZfackWrite p data) s) fun t => Refused s t p 0x315 9 ∧ t = { s with ports := t.ports } := by
  set v := writeSeen p 0x315 data.toNat s with hv
  have hown : writeOwn p 0x315 data.toNat v = (8 + 1, v) := by
    rw [writeOwn_satZfack, hv, satWindow_writeSeen]
    cases hwindow : satWindow s p with
    | none => rfl
    | some pos =>
      rw [hwindow] at hwhy
      exact if_pos (hwhy.resolve_left nofun)
  obtain ⟨hrefused, hframe⟩ := commandDeclined h (by decide) (faultWordAt_satZfack p) hown rfl
  have hexec : exec (.satZfackWrite p data) s = .next (wordFrame p 0x315 data s) := rfl
  rw [hexec]
  exact completes_next ⟨hrefused, hframe⟩

/-! ### Orders that name a satellite -/

/-- An order that has begun. -/
def begunOrder (id : Nat) (s : State) : State := modOrder id (fun x => { x with progress := 1 }) s

theorem exec_satBegin {o : Order} {op : Nat} {f : Order → State → State} {s : State} (ho : orderGet s o.id = some o)
    (hstage : o.stage = .dispatched) (hop : o.opcode = op) (hprogress : o.progress = 0) (hring : ringLive s = true) :
    satBegin o.id op f s = .next (f o (begunOrder o.id s)) := by
  unfold satBegin
  rw [ho]
  dsimp only
  rw [if_pos ⟨hstage, hop, hprogress, hring⟩]
  rfl

theorem orderGet_begunOrder {o : Order} {s : State} (ho : orderGet s o.id = some o) :
    orderGet (begunOrder o.id s) o.id = some { o with progress := 1 } := by
  rw [begunOrder, orderGet_modOrder (by exact fun _ => rfl), ho, Option.map_some, if_pos rfl]

section Begins
variable {o : Order} {s : State} (ho : orderGet s o.id = some o) (hstage : o.stage = .dispatched) (hprogress : o.progress = 0)
  (hring : ringLive s = true) (hnone : NothingSent s (slotPos o.slot))
include ho hstage hprogress hring hnone

theorem completes_satOrders :
    let v := viewGet s (slotPos o.slot)
    let begun := fun (t : State) => orderGet t o.id = some { o with progress := 1 } ∧
      t = { s with sat := { s.sat with views := t.sat.views }, tth := t.tth, ord := { s.ord with orders := t.ord.orders } }
    (o.opcode = 0x0F → Completes (exec (.satSleep o.id) s) fun t =>
      CmdGoes (slotPos o.slot) { code := 0x05, args := [], order := o.id } s t ∧ begun t) ∧
    (o.opcode = 0x11 → Completes (exec (.satRail o.id) s) fun t =>
      CmdGoes (slotPos o.slot) { code := 0x06, args := [byte (o.param % 2)], order := o.id } s t ∧ begun t) ∧
    (o.opcode = 0x10 → Completes (exec (.satWake o.id) s) fun t =>
      viewGet t (slotPos o.slot) = { v with wakes := 1, waking := true } ∧ ViewsBut (slotPos o.slot) s t ∧ begun t ∧
      (posTether (slotPos o.slot) < 4 → (tetherGet t (posTether (slotPos o.slot))).sent.getLast? =
        some (v.path, [.wake, .d (byte (posNo (slotPos o.slot)))]))) := by
  have hbegun := orderGet_begunOrder ho
  have hframe : begunOrder o.id s = { s with ord := { s.ord with orders := (begunOrder o.id s).ord.orders } } := rfl
  have hviews : (begunOrder o.id s).sat.views = s.sat.views := rfl
  have htth : (begunOrder o.id s).tth = s.tth := rfl
  have hsys : (begunOrder o.id s).sys = s.sys := rfl
  set pos := slotPos o.slot with hposn
  set b := begunOrder o.id s with hb
  -- what one command to the satellite leaves
  have hsent : ∀ c : HubCmd, CmdGoes pos c s (sendCmd pos c b) ∧
      orderGet (sendCmd pos c b) o.id = some { o with progress := 1 } ∧
      sendCmd pos c b = { s with
        sat := { s.sat with views := (sendCmd pos c b).sat.views }, tth := (sendCmd pos c b).tth
        ord := { s.ord with orders := (sendCmd pos c b).ord.orders } } := by
    intro c
    have hcframe := sendCmd_frame pos c b
    refine ⟨cmdGoes_sendCmd c hnone hviews htth hsys, ?_, ?_⟩
    · rw [hcframe]
      exact hbegun
    · rw [hcframe, hframe]
  refine ⟨fun hop => ?_, fun hop => ?_, fun hop => ?_⟩
  · have hexec : exec (.satSleep o.id) s = .next (sendCmd pos { code := 0x05, args := [], order := o.id } b) :=
      exec_satBegin ho hstage hop hprogress hring
    rw [hexec]
    exact completes_next (hsent _)
  · have hexec : exec (.satRail o.id) s =
        .next (sendCmd pos { code := 0x06, args := [byte (o.param % 2)], order := o.id } b) := by
      show execSatRail o.id s = _
      rw [execSatRail, exec_satBegin ho hstage hop hprogress hring, field, Nat.pow_zero, Nat.div_one]
      rfl
    rw [hexec]
    exact completes_next (hsent _)
  · set m := modView pos (fun v => { v with wakes := 1, waking := true }) b with hm
    have hmview : ∀ q, viewGet m q = if q = pos then { viewGet s pos with wakes := 1, waking := true } else viewGet s q :=
      fun q => viewGet_modView pos q _ b
    have hmtth : m.tth = s.tth := rfl
    have hexec : exec (.satWake o.id) s = .next (sendWake pos (viewGet s pos).path m) := by
      show execSatWake o.id s = _
      rw [execSatWake, exec_satBegin ho hstage hop hprogress hring]
      rfl
    have hmbegun : orderGet m o.id = some { o with progress := 1 } := hbegun
    have hmframe : m = { s with
        sat := { s.sat with views := m.sat.views }, ord := { s.ord with orders := m.ord.orders } } := by
      rw [hm, hframe]
      rfl
    have hsend : sendWake pos (viewGet s pos).path m =
        modTether (posTether pos) (hubPut (viewGet s pos).path [.wake, .d (byte (posNo pos))]) m := rfl
    have hget : ∀ q, viewGet (sendWake pos (viewGet s pos).path m) q = viewGet m q := fun _ => rfl
    rw [hexec]
    clear_value m
    refine completes_next ⟨?_, fun q hq => ?_, ⟨hmbegun, ?_⟩, fun hk => ?_⟩
    · rw [hget, hmview, if_pos rfl]
    · rw [hget, hmview, if_neg hq]
    · rw [hsend, hmframe]
      rfl
    · rw [hsend, tetherGet_modTether_self hk, tetherGet_of_tth hmtth]
      cases (viewGet s pos).path <;> simp [hubPut]

end Begins

/-! ### The turn at the module rails -/

theorem completes_moduleRailRaise {k pos : Nat} {s : State} (hring : ringLive s = true) (hk : k < 4)
    (hturn : s.rls.raiseTurn.toList.getD k 0 = 0)
    (hnext : (tetherPositions s k).find? (fun p =>
      let r := (rigSat s p).getD {}
      let v := viewGet s p
      (r.grail0 || r.grail1) && decide (v.state = .active) && v.raiseDue && v.railsSeen) = some pos)
    (hnone : NothingSent s pos) :
    Completes (exec (.moduleRailRaise k) s) fun t =>
      (viewGet t pos).out = some { code := 0x06, args := [1] } ∧ (viewGet t pos).raiseDue = false ∧
      PutsCmd pos { code := 0x06, args := [1] } s t ∧ t.rls.raiseTurn.toList.getD k 0 = posNo pos ∧
      ViewsBut pos s t ∧ t = { s with sat := t.sat, tth := t.tth, rls := { s.rls with raiseTurn := t.rls.raiseTurn } } := by
  set v : State := { s with rls := { s.rls with raiseTurn := s.rls.raiseTurn.setIfInBounds k (posNo pos) } } with hv
  set m := modView pos (fun v => { v with raiseDue := false }) v with hm
  have hexec : exec (.moduleRailRaise k) s = .next (sendCmd pos { code := 0x06, args := [1] } m) := by
    show execModuleRailRaise k s = _
    rw [execModuleRailRaise, onRing_of_live hring, moduleRaise, if_neg (not_or.mpr ⟨not_not_intro hturn, Nat.not_le.mpr hk⟩), hnext]
  have hmself : viewGet m pos = { viewGet s pos with raiseDue := false } := viewGet_modView pos pos _ v |>.trans (if_pos rfl)
  have hmbut : ViewsBut pos s m := viewsBut_modView pos _ v
  have hmnone : NothingSent m pos := ⟨by rw [hmself]; exact hnone.1, by rw [hmself]; exact hnone.2⟩
  have hmsys : m.sys = s.sys := rfl
  have hmtth : m.tth = s.tth := rfl
  have hmturn : m.rls.raiseTurn.toList.getD k 0 = posNo pos := by
    show (s.rls.raiseTurn.setIfInBounds k (posNo pos)).toList.getD k 0 = posNo pos
    rw [List.getD_eq_getElem?_getD, Vector.getElem?_toList, Vector.getElem?_setIfInBounds_self_of_lt hk, Option.getD_some]
  have hmframe : m = { s with sat := m.sat, rls := { s.rls with raiseTurn := m.rls.raiseTurn } } := rfl
  clear_value m
  obtain ⟨hself, hbut, hputs⟩ := cmdGoes_sendCmd ({ code := 0x06, args := [1] } : HubCmd) hmnone rfl rfl rfl
  have hframe := sendCmd_frame pos { code := 0x06, args := [1] } m
  rw [hexec]
  generalize sendCmd pos { code := 0x06, args := [1] } m = t at *
  refine completes_next ⟨?_, ?_, ?_, ?_, fun q hq => ?_, ?_⟩
  · rw [hself]
  · rw [hself, hmself]
  · exact putsCmd_of hmsys hmtth (by rw [hmself]) (by rw [hmself]) rfl rfl hputs
  · rw [hframe]
    exact hmturn
  · rw [hbut q hq, hmbut q hq]
  · rw [hframe, hmframe]

theorem completes_moduleRailRaise_busy {k : Nat} {s : State} (hturn : s.rls.raiseTurn.toList.getD k 0 ≠ 0) :
    Completes (exec (.moduleRailRaise k) s) fun t => t = s := by
  have hexec : exec (.moduleRailRaise k) s = .next s := by
    show execModuleRailRaise k s = _
    have hidle : moduleRaise k s = s := if_pos (.inl hturn)
    rw [execModuleRailRaise, onRing, hidle, ite_self]
  rw [hexec]
  exact completes_next rfl

end Machine

open Machine in
/-- Settles O56, an effect lemma per request of a host, an order and the module rails. -/
theorem hostsToSatellites : Obligations.HostsToSatellites :=
  ⟨fun _ _ _ _ h hpos hnone => completes_satCmds h hpos hnone,
    fun _ _ _ _ h hpos hfree hnone => completes_satCmdTraceReplay h hpos hnone hfree,
    fun _ data _ => completes_satCmds_undeclared data,
    fun _ _ _ _ h hpos => completes_satCmds_refused h hpos,
    fun _ _ _ _ => completes_satZfackWrite,
    fun _ _ _ => completes_satZfackWrite_refused,
    fun _ _ ho hstage hprogress hring hnone => completes_satOrders ho hstage hprogress hring hnone,
    fun _ _ _ => completes_moduleRailRaise,
    fun _ _ => completes_moduleRailRaise_busy⟩

end Sys2Proof
end

section
/-! Results that the hub takes (chapters 6, 12, 13, 14, 25, 26). -/
namespace Sys2Proof
namespace Machine

set_option Elab.async false

open Safety

/-! ### A RESULT frame at the hub -/

/-- A RESULT has been heard and acknowledged. -/
def rackSent (pos : Nat) (b : Bool) (f : RingFrame) (rx : Arrival) (s : State) : State := hubTo pos b 2 [] (heardIn pos f rx s)

/-- What the acknowledgment of a RESULT leaves. -/
structure RackSent (pos : Nat) (b : Bool) (rx : Arrival) (s u : State) : Prop where
  view : viewGet u pos = heardView pos rx s
  others : ViewsBut pos s u
  carries : Carries (posTether pos) (tetherGet s (posTether pos)) s u
  racked : Racks pos b rx s u
  words : HubWords s u
  hold : u.tth.hold = s.tth.hold

theorem hold_heardIn (pos : Nat) (f : RingFrame) (rx : Arrival) (s : State) : (heardIn pos f rx s).tth.hold = s.tth.hold := by
  unfold heardIn heardFrom broughtIn
  split <;> rfl

theorem rackSent_words {pos : Nat} (hpos : pos < 256) (b : Bool) (f : RingFrame) (rx : Arrival) (s : State) :
    RackSent pos b rx s (rackSent pos b f rx s) := by
  have hself := viewGet_heardIn_self pos f rx s
  have hbut := viewsBut_heardIn pos f rx s
  have hcarries := carries_heardIn pos f rx s
  have hwords : HubWords s (heardIn pos f rx s) := heardIn_frame pos f rx s
  have hhold := hold_heardIn pos f rx s
  unfold rackSent
  generalize heardIn pos f rx s = u at *
  have hsend : hubTo pos b 2 [] u = hubSend (posTether pos) (heardView pos rx s).path (hubFrame pos b 2 []) u := by
    rw [hubTo, hself]
  have htick : u.sys.tick = s.sys.tick := by rw [hwords]
  rw [hsend]
  exact ⟨hself, hbut, carries_hubSend hcarries _ _, leaves_hubSend (posTether_lt hpos) htick (carries_quiet hcarries),
    hubWords_trans hwords rfl, hhold⟩

theorem onRing_resultFrame {pos kind slot : Nat} {b : Bool} {payload : List Byte} {rx : Arrival} {s : State}
    (h : HubTakes s (posTether pos) (upFrame pos b 2 ([byte kind, byte slot] ++ payload)) rx) (f : State → State) :
    onRing (resultFrame pos b kind slot payload rx f) s =
      .next (f (rackSent pos b (upFrame pos b 2 ([byte kind, byte slot] ++ payload)) rx s)) :=
  onRing_receivedOf h (fun s => f (hubTo pos b 2 [] s))

theorem takesFrom_rackSent {pos : Nat} {b : Bool} {rx : Arrival} {s u : State} (h : RackSent pos b rx s u) :
    takesFrom u pos = takesFrom s pos := by
  have hrig : rigSat u pos = rigSat s pos := by
    rw [h.words]
    rfl
  rw [takesFrom, hrig, h.view, takesFrom]
  rfl

/-- A RESULT that is taken, before it acts. -/
def resultCame (pos : Nat) (b wakes : Bool) (f : RingFrame) (rx : Arrival) (s : State) : State :=
  let u := modView pos (fun v => { v with lastS := b }) (rackSent pos b f rx s)
  if wakes then coreWake 6 u else u

/-- What a RESULT that is taken leaves, before it acts. -/
structure ResultCame (pos : Nat) (b : Bool) (rx : Arrival) (s u : State) : Prop where
  view : viewGet u pos = { heardView pos rx s with lastS := b }
  others : ViewsBut pos s u
  carries : Carries (posTether pos) (tetherGet s (posTether pos)) s u
  racked : Racks pos b rx s u
  hold : u.tth.hold = s.tth.hold
  frame : u = { s with
    sys := { s.sys with state := u.sys.state }, lko := u.lko, ports := u.ports, tth := u.tth
    sat := { s.sat with views := u.sat.views } }
  live : Live s → Live u
  wakes : s.sys.state = .standby → u.sys.state = .run ∨ HubWords s u

theorem coreWake_words (n : Nat) (s : State) : coreWake n s = { s with
    sys := { s.sys with state := (coreWake n s).sys.state }, lko := (coreWake n s).lko, ports := (coreWake n s).ports } := by
  have hframe := coreWake_frame n s
  have hsys := coreWake_sys n s
  rw [← hsys]
  exact hframe

theorem resultCame_words {pos : Nat} (hpos : pos < 256) (b wakes : Bool) (f : RingFrame) (rx : Arrival) (s : State) :
    ResultCame pos b rx s (resultCame pos b wakes f rx s) ∧
    (wakes = true → s.sys.state = .standby → (resultCame pos b wakes f rx s).sys.state = .run) ∧
    (wakes = false → HubWords s (resultCame pos b wakes f rx s)) := by
  obtain ⟨hview, hbut, hcarries, hracked, hwords, hhold⟩ := rackSent_words hpos b f rx s
  unfold resultCame
  dsimp only
  generalize rackSent pos b f rx s = r at *
  set u := modView pos (fun v => { v with lastS := b }) r with hu
  have huself : viewGet u pos = { heardView pos rx s with lastS := b } := by rw [hu, viewGet_modView, if_pos rfl, hview]
  have hubut : ViewsBut pos s u := viewsBut_trans hbut (viewsBut_modView pos _ r)
  have hucarries : Carries (posTether pos) (tetherGet s (posTether pos)) s u := carries_of_tth hcarries rfl
  have huracked : Racks pos b rx s u := leaves_of_tth hracked rfl
  have huhold : u.tth.hold = s.tth.hold := hhold
  have huwords : HubWords s u := hubWords_trans hwords rfl
  clear_value u
  cases wakes with
  | false =>
    rw [if_neg Bool.false_ne_true]
    have hsys : u.sys = s.sys := by rw [huwords]
    refine ⟨⟨huself, hubut, hucarries, huracked, huhold, ?_, fun h => ?_, fun _ => .inr huwords⟩, nofun, fun _ => huwords⟩
    · have hstate : ({ s.sys with state := u.sys.state } : Sys) = s.sys := by rw [hsys]
      have hlko : u.lko = s.lko := by rw [huwords]
      have hports : u.ports = s.ports := by rw [huwords]
      rw [hstate, hlko, hports]
      exact huwords
    · rw [Live, hsys]
      exact h
  | true =>
    rw [if_pos rfl]
    have hframe := coreWake_words 6 u
    have hstate := coreWake_state 6 u
    have hsys : u.sys = s.sys := by rw [huwords]
    have hrun : s.sys.state = .standby → (coreWake 6 u).sys.state = .run := fun h => by
      rw [coreWake_run (.inr (by rw [hsys]; exact h))]
    have hsat : (coreWake 6 u).sat = u.sat := coreWake_sat 6 u
    have htth : (coreWake 6 u).tth = u.tth := coreWake_tth 6 u
    generalize coreWake 6 u = w at *
    have hget := viewGet_of_sat (s := u) (t := w) (by rw [hsat])
    refine ⟨⟨?_, fun q hq => ?_, carries_of_tth hucarries htth, leaves_of_tth huracked htth, ?_, ?_, fun h => ?_,
      fun h => .inl (hrun h)⟩, fun _ => hrun, nofun⟩
    · rw [hget, huself]
    · rw [hget, hubut q hq]
    · rw [htth, huhold]
    · rw [htth, hsat, hframe, huwords]
    · rcases hstate with h' | ⟨-, h'⟩
      · rw [Live, h', hsys]
        exact h
      · rw [Live, h']
        exact ⟨nofun, nofun⟩

theorem resultTaken_eq {pos : Nat} {b : Bool} {rx : Arrival} {s : State} {f : RingFrame} (hpos : pos < 256)
    (hfrom : takesFrom s pos = true) (hnew : (viewGet s pos).lastS ≠ b) (wakes : Bool) (g : State → State) :
    resultTaken pos b wakes g (rackSent pos b f rx s) = g (resultCame pos b wakes f rx s) := by
  have hsent := rackSent_words hpos b f rx s
  have hnew' : (viewGet (rackSent pos b f rx s) pos).lastS ≠ b := by
    rw [hsent.view]
    exact hnew
  unfold resultTaken
  rw [takesFrom_rackSent hsent, hfrom, if_neg (by decide), if_neg hnew']
  rfl

/-- A RESULT with a new S acts once. -/
theorem takeResult_new {pos kind slot : Nat} {b : Bool} {payload : List Byte} {rx : Arrival} {s : State} (hpos : pos < 256)
    (h : TakesResult s pos b kind slot payload rx) (wakes : Bool) (g : State → State) :
    takeResult pos b wakes kind slot payload rx g s =
      .next (g (resultCame pos b wakes (upFrame pos b 2 ([byte kind, byte slot] ++ payload)) rx s)) := by
  obtain ⟨htakes, hfrom, hnew⟩ := h
  rw [takeResult, onRing_resultFrame htakes, resultTaken_eq hpos hfrom hnew]

/-- Every row of a RESULT but RESTARTED takes it the same way. -/
theorem exec_result {i : Instr} {x : ResultIn} (h : resultOf i = some x) (s : State) :
    ∃ wakes f, exec i s = takeResult x.pos x.s wakes x.kind x.slot x.payload x.rx f s := by
  unfold resultOf at h
  split at h
  case h_14 => cases h
  all_goals
    cases h
    exact ⟨_, _, rfl⟩

theorem completes_result {i : Instr} {x : ResultIn} {s : State} (h : resultOf i = some x) (hpos : x.pos < 256)
    (htakes : HubTakes s (posTether x.pos) (upFrame x.pos x.s 2 ([byte x.kind, byte x.slot] ++ x.payload)) x.rx) :
    Completes (exec i s) fun t =>
      let k := posTether x.pos
      (takesFrom s x.pos = true → (viewGet s x.pos).lastS = x.s →
        Racks x.pos x.s x.rx s t ∧ Carries k (tetherGet s k) s t ∧ viewGet t x.pos = heardView x.pos x.rx s ∧
        ViewsBut x.pos s t ∧ t = { s with tth := t.tth, sat := { s.sat with views := t.sat.views } }) ∧
      (takesFrom s x.pos = false →
        Racks x.pos x.s x.rx s t ∧ Carries k { tetherGet s k with stale := satInc (tetherGet s k).stale } s t ∧
        viewGet t x.pos = heardView x.pos x.rx s ∧ ViewsBut x.pos s t ∧
        t = { s with tth := t.tth, sat := { s.sat with views := t.sat.views } }) := by
  obtain ⟨wakes, g, hexec⟩ := exec_result h s
  rw [hexec, takeResult, onRing_resultFrame htakes]
  have hsent := rackSent_words hpos x.s (upFrame x.pos x.s 2 ([byte x.kind, byte x.slot] ++ x.payload)) x.rx s
  have hfrom := takesFrom_rackSent hsent
  generalize rackSent x.pos x.s (upFrame x.pos x.s 2 ([byte x.kind, byte x.slot] ++ x.payload)) x.rx s = u at *
  obtain ⟨hview, hbut, hcarries, hracked, hwords, -⟩ := hsent
  refine completes_next ⟨fun hyes hold => ?_, fun hno => ?_⟩
  · have hkept : resultTaken x.pos x.s wakes g u = u := by
      unfold resultTaken
      rw [hfrom, hyes, if_neg (by decide), if_pos (by rw [hview]; exact hold)]
    rw [hkept]
    exact ⟨hracked, hcarries, hview, hbut, hwords⟩
  · have hstale : resultTaken x.pos x.s wakes g u = countStale (posTether x.pos) u := by
      unfold resultTaken
      rw [hfrom, hno, if_pos (by decide)]
    have hself : tetherGet (countStale (posTether x.pos) u) (posTether x.pos) =
        { tetherGet u (posTether x.pos) with stale := satInc (tetherGet u (posTether x.pos)).stale } :=
      tetherGet_modTether_self (posTether_lt hpos) _ u
    have hteth : TethersBut (posTether x.pos) u (countStale (posTether x.pos) u) := tethersBut_modTether _ _ u
    have hcounted : HubWords u (countStale (posTether x.pos) u) := rfl
    have hcviews : ∀ q, viewGet (countStale (posTether x.pos) u) q = viewGet u q := fun _ => rfl
    rw [hstale]
    generalize countStale (posTether x.pos) u = t at *
    obtain ⟨hcself, hcbut⟩ := hcarries
    refine ⟨fun hfree => ?_, ⟨?_, fun j hj => ?_⟩, ?_, fun q hq => ?_, hubWords_trans hwords hcounted⟩
    · rw [hself]
      exact hracked hfree
    · rw [hself, hcself]
    · rw [hteth j hj, hcbut j hj]
    · rw [hcviews, hview]
    · rw [hcviews, hbut q hq]

/-- A result that touches only the records of its position. -/
theorem racked_modView {pos : Nat} {b : Bool} {rx : Arrival} {s u : State} (h : ResultCame pos b rx s u)
    (f : SatView → SatView) :
    viewGet (modView pos f u) pos = f { heardView pos rx s with lastS := b } ∧ ViewsBut pos s (modView pos f u) ∧
    Racks pos b rx s (modView pos f u) := by
  refine ⟨?_, viewsBut_trans h.others (viewsBut_modView pos f u), leaves_of_tth h.racked rfl⟩
  rw [viewGet_modView, if_pos rfl, h.view]

theorem completes_identResult {pos part build minor major image : Nat} {b : Bool} {rx : Arrival} {s : State} (hpos : pos < 256)
    (htakes : TakesResult s pos b 9 0xFF (arg2 part ++ arg2 build ++ arg2 minor ++ arg2 major ++ [byte image]) rx)
    (hst : (viewGet s pos).state = .active) :
    Completes (exec (.identResult pos b part build minor major image rx) s) fun t =>
      viewGet t pos = { heardView pos rx s with
        part := part, fwB := build, fwN := minor, fwM := major, imageState := image, lastS := b } ∧ ViewsBut pos s t ∧
      Racks pos b rx s t ∧ t.ord = s.ord := by
  have hexec : exec (.identResult pos b part build minor major image rx) s = _ := takeResult_new hpos htakes true _
  rw [hexec]
  have hcame := (resultCame_words hpos b true
    (upFrame pos b 2 ([byte 9, byte 0xFF] ++ (arg2 part ++ arg2 build ++ arg2 minor ++ arg2 major ++ [byte image]))) rx s).1
  generalize resultCame pos b true _ rx s = u at *
  obtain ⟨hself, hbut, hracked⟩ := racked_modView hcame (fun v => { v with
    part := part, fwB := build, fwN := minor, fwM := major, imageState := image })
  have hord : u.ord = s.ord := by rw [hcame.frame]
  set v := modView pos (fun v => { v with
    part := part, fwB := build, fwN := minor, fwM := major, imageState := image }) u with hv
  have hvord : v.ord = s.ord := hord
  have hstate : (viewGet v pos).state = .active := by
    rw [hself]
    exact hst
  have htaken : identTaken pos part build minor major image u = v := by
    unfold identTaken
    dsimp only
    rw [← hv, hstate]
  rw [htaken]
  exact completes_next ⟨hself, hbut, hracked, hvord⟩

theorem completes_locksrcResult {pos : Nat} {b k : Bool} {rx : Arrival} {s : State} (hpos : pos < 256)
    (htakes : TakesResult s pos b 0x0A 0xFF [byte (bit k)] rx) :
    Completes (exec (.locksrcResult pos b k rx) s) fun t =>
      viewGet t pos = { heardView pos rx s with lockK := k, t1 := some (16 * s.sys.tick), t4 := none, lastS := b } ∧
      ViewsBut pos s t ∧ Safety.Leaves (posTether pos) (heardView pos rx s).path (hubFrame pos false 6 []) s t ∧
      Carries (posTether pos) (tetherGet s (posTether pos)) s t ∧
      t = { s with tth := t.tth, sat := { s.sat with views := t.sat.views } } := by
  have hexec : exec (.locksrcResult pos b k rx) s = _ := takeResult_new hpos htakes false _
  rw [hexec]
  obtain ⟨hcame, -, hstill⟩ := resultCame_words hpos b false (upFrame pos b 2 ([byte 0x0A, byte 0xFF] ++ [byte (bit k)])) rx s
  have hwords := hstill rfl
  generalize resultCame pos b false _ rx s = u at *
  set v := modView pos (fun v => { v with lockK := k }) u with hv
  set w := modView pos (fun x => { x with t1 := some (16 * v.sys.tick), t4 := none }) v with hw
  have hself : viewGet w pos = { heardView pos rx s with
      lockK := k, t1 := some (16 * u.sys.tick), t4 := none, lastS := b } := by
    rw [hw, viewGet_modView, if_pos rfl, hv, viewGet_modView, if_pos rfl, hcame.view]
    rfl
  have htick : u.sys.tick = s.sys.tick := by rw [hwords]
  have hwtick : w.sys.tick = s.sys.tick := htick
  have hbut : ViewsBut pos s w :=
    viewsBut_trans hcame.others (viewsBut_trans (viewsBut_modView pos _ u) (viewsBut_modView pos _ v))
  have hcarries : Carries (posTether pos) (tetherGet s (posTether pos)) s w := carries_of_tth hcame.carries rfl
  have hwwords : HubWords s w := hubWords_trans hwords rfl
  have hstart : startDelay pos v = hubSend (posTether pos) (viewGet w pos).path (hubFrame pos false 6 []) w := rfl
  rw [hstart]
  clear_value w
  have hget : ∀ q, viewGet (hubSend (posTether pos) (viewGet w pos).path (hubFrame pos false 6 []) w) q = viewGet w q :=
    fun _ => rfl
  rw [hself]
  have hleaves := leaves_hubSend (e := (heardView pos rx s).path) (f := hubFrame pos false 6 []) (posTether_lt hpos) hwtick
    (carries_quiet hcarries)
  refine completes_next ⟨?_, fun q hq => hbut q hq, hleaves, carries_hubSend hcarries _ _, hubWords_trans hwwords rfl⟩
  · exact hself.trans (by rw [htick])

/-! ### A satellite's own words -/

theorem completes_faultResult {pos : Nat} {b : Bool} {w : Word} {rx : Arrival} {s : State} (hpos : pos < 256)
    (htakes : TakesResult s pos b 0x0B 0xFF (arg2 w.toNat) rx) :
    Completes (exec (.faultResult pos b w rx) s) fun t =>
      viewGet t pos = { heardView pos rx s with zfst := w, lastS := b } ∧ ViewsBut pos s t ∧ Racks pos b rx s t ∧
      t.fb.sat.fst.getLsbD 0 = true := by
  have hexec : exec (.faultResult pos b w rx) s = _ := takeResult_new hpos htakes true _
  rw [hexec]
  have hcame := (resultCame_words hpos b true (upFrame pos b 2 ([byte 0x0B, byte 0xFF] ++ arg2 w.toNat)) rx s).1
  generalize resultCame pos b true _ rx s = u at *
  obtain ⟨hself, hbut, hracked⟩ := racked_modView hcame (fun v => { v with zfst := w })
  have hlive : Live (modView pos (fun v => { v with zfst := w }) u) := hcame.live (live_of_ringLive htakes.1.1)
  generalize modView pos (fun v => { v with zfst := w }) u = v at *
  have hraised : Raised .sat 0 v (raise .sat 0 v) := raised_raise hlive (.inl (by decide))
  have hget := viewGet_of_sat (faultFrame_sat hraised.frame ▸ rfl : (raise .sat 0 v).sat.views = v.sat.views)
  refine completes_next ⟨(hget pos).trans hself, fun q hq => (hget q).trans (hbut q hq),
    leaves_of_tth hracked (faultFrame_tth hraised.frame), bit_of_raised (by decide) hraised⟩

theorem completes_powerResult {pos : Nat} {b back : Bool} {rx : Arrival} {s : State} (hpos : pos < 256)
    (htakes : TakesResult s pos b 0x0D 0xFF [byte (bit back)] rx) :
    Completes (exec (.powerResult pos b back rx) s) fun t =>
      viewGet t pos = { heardView pos rx s with
        vinLost := !back, grail0 := if back then (viewGet s pos).grail0 else 0
        grail1 := if back then (viewGet s pos).grail1 else 0, lastS := b } ∧ ViewsBut pos s t ∧ Racks pos b rx s t := by
  have hexec : exec (.powerResult pos b back rx) s = _ := takeResult_new hpos htakes true _
  rw [hexec]
  have hcame := (resultCame_words hpos b true (upFrame pos b 2 ([byte 0x0D, byte 0xFF] ++ [byte (bit back)])) rx s).1
  exact completes_next (racked_modView hcame _)

theorem completes_replayResult {pos slot entry status : Nat} {b : Bool} {rx : Arrival} {s : State} (hpos : pos < 256)
    (htakes : TakesResult s pos b 0x0E slot (arg2 entry ++ [byte status]) rx) (hst : (viewGet s pos).cmdSt = 1) :
    Completes (exec (.replayResult pos b slot entry status rx) s) fun t =>
      viewGet t pos = { heardView pos rx s with cmdSt := 2, lastS := b } ∧ ViewsBut pos s t ∧ Racks pos b rx s t := by
  have hexec : exec (.replayResult pos b slot entry status rx) s = _ := takeResult_new hpos htakes true _
  rw [hexec]
  have hcame := (resultCame_words hpos b true
    (upFrame pos b 2 ([byte 0x0E, byte slot] ++ (arg2 entry ++ [byte status]))) rx s).1
  obtain ⟨hself, hbut, hracked⟩ := racked_modView hcame (fun v => { v with cmdSt := if v.cmdSt = 1 then 2 else v.cmdSt })
  refine completes_next ⟨hself.trans ?_, hbut, hracked⟩
  have hheard : (heardView pos rx s).cmdSt = 1 := hst
  dsimp only
  rw [if_pos hheard]

theorem completes_traceResult {pos slot chunk : Nat} {b : Bool} {bytes : List Byte} {rx : Arrival} {s : State} (hpos : pos < 256)
    (htakes : TakesResult s pos b 0x0C slot (byte chunk :: bytes) rx) (hfetch : s.sat.trFetching = true)
    (hslot : s.sat.trSlot = slotOf pos (slot % 4)) (hchunk : chunk < 16) (hlen : bytes.length = 128) :
    Completes (exec (.traceResult pos b slot chunk bytes rx) s) fun t =>
      (∀ i, tblGet 0 t.sat.trBytes i = if 128 * chunk ≤ i ∧ i < 128 * chunk + 128 then bytes.getD (i - 128 * chunk) 0
        else tblGet 0 s.sat.trBytes i) ∧
      t.sat.trValid = decide (chunk = 15) ∧ t.sat.trFetching = decide (chunk ≠ 15) ∧ ViewsBut pos s t := by
  have hexec : exec (.traceResult pos b slot chunk bytes rx) s = _ := takeResult_new hpos htakes true _
  rw [hexec]
  have hcame := (resultCame_words hpos b true (upFrame pos b 2 ([byte 0x0C, byte slot] ++ (byte chunk :: bytes))) rx s).1
  generalize resultCame pos b true _ rx s = u at *
  have hsat : u.sat = { s.sat with views := u.sat.views } := by rw [hcame.frame]
  have hmine : (u.sat.trFetching && decide (u.sat.trSlot = slotOf pos (slot % 4)) && decide (chunk < 16)) = true := by
    rw [hsat]
    simp [hfetch, hslot, hchunk]
  have hbytes : u.sat.trBytes = s.sat.trBytes := by rw [hsat]
  have hall : bytes.take 128 = bytes := List.take_of_length_le (by omega)
  rw [if_pos hmine, hbytes, hall]
  refine completes_next ⟨fun i => ?_, rfl, rfl, hcame.others⟩
  rw [← hlen]
  exact tblGet_tblWriteBytes ..

/-! ### DONE and DATA of an order -/

/-- The hub's view of the slot, and its reservation, when an order there returns. -/
def orderShown (o : Order) (code : Nat) (s : State) : State :=
  let s := modSlotView o.slot (viewDone s o code) s
  if viewPowered (slotViewGet s o.slot) then (if o.opcode ≤ 0x02 ∨ o.opcode = 0x09 then activationDone o.slot s else s)
  else if code = 0x012 ∨ code = 0x014 then s
  else releaseLift o.slot s

theorem orderShown_kept (o : Order) (code : Nat) (s : State) :
    (orderShown o code s).sat.views = s.sat.views ∧ (orderShown o code s).tth = s.tth := by
  unfold orderShown
  dsimp only
  split
  · split <;> exact ⟨rfl, rfl⟩
  · split <;> exact ⟨rfl, rfl⟩

theorem finishOrder_of_done {o : Order} {status full : Nat} (hdone : o.done = some (status, full)) (s : State) :
    finishOrder o s = if o.data.length < min full 1024 then s
      else if o.opcode = 0x0B ∧ doneStatus status = 0 then endOrder o 0 512 (orderShown o (doneStatus status) s)
      else endOrderData o (doneStatus status) (o.data.take 1024) full (orderShown o (doneStatus status) s) := by
  unfold finishOrder
  rw [hdone]
  rfl

/-- What a return that is complete leaves of the hub. -/
theorem finishOrder_kept {o : Order} {status full : Nat} (hdone : o.done = some (status, full)) (s : State) :
    (finishOrder o s).sat.views = s.sat.views ∧ (finishOrder o s).tth = s.tth := by
  have hshown := orderShown_kept o (doneStatus status) s
  rw [finishOrder_of_done hdone]
  split
  · exact ⟨rfl, rfl⟩
  · split
    · rw [endOrder_sat, endOrder_tth]
      exact hshown
    · rw [endOrderData_sat, endOrderData_tth]
      exact hshown

/-- The last of an order's data has come: the order ends with its status. -/
theorem orderEnds_finishOrder {o : Order} {status full : Nat} (hdone : o.done = some (status, full))
    (hall : min full 1024 ≤ o.data.length) (hroom : full ≤ orderRoom o) (s : State) :
    OrderEnds o (doneStatus status) (finishOrder o s) := by
  have hmax := orderRoom_le o
  rw [finishOrder_of_done hdone, if_neg (by omega)]
  split
  case isTrue h =>
    rw [h.2]
    exact orderEnds_endOrder ..
  case isFalse =>
    unfold endOrderData
    dsimp only
    rw [decide_eq_false (by omega : ¬orderRoom o < full), decide_eq_false (by omega : ¬1024 < full)]
    exact orderEnds_endOrder ..

/-- An order found at a slot is the order with its id. -/
theorem orderGet_of_slotOrder {s : State} {id oid : Nat} {o : Order} (h : slotOrder s id oid = some o) :
    (orderGet s o.id).isSome = true := by
  rw [orderGet, List.find?_isSome]
  exact ⟨o, List.mem_of_find?_eq_some h, decide_eq_true rfl⟩

/-- A dispatched order's record replaced by another under the same id. -/
theorem orderGet_replaced {s : State} {o o' : Order} (hid : o'.id = o.id) (h : (orderGet s o.id).isSome = true) :
    orderGet (modOrder o.id (fun _ => o') s) o.id = some o' := by
  obtain ⟨x, hx⟩ := Option.isSome_iff_exists.mp h
  have hmap : (orderGet s o.id).map (fun y => if y.id = o.id then o' else y) = some o' := by
    rw [hx, Option.map_some, if_pos]
    simpa using List.find?_some hx
  rw [← hmap, orderGet, orderGet, modOrder, List.find?_map]
  congr 2
  funext y
  by_cases hy : y.id = o.id <;> simp [hy, hid]

/-- What the return or the wait for more data leaves, whichever it is. -/
theorem finishOrder_came {pos : Nat} {b : Bool} {rx : Arrival} {s u : State} (h : ResultCame pos b rx s u) (o : Order) {o' : Order}
    {status full : Nat} (hdone : o'.done = some (status, full)) :
    viewGet (finishOrder o' (modOrder o.id (fun _ => o') u)) pos = { heardView pos rx s with lastS := b } ∧
    ViewsBut pos s (finishOrder o' (modOrder o.id (fun _ => o') u)) ∧
    Racks pos b rx s (finishOrder o' (modOrder o.id (fun _ => o') u)) := by
  obtain ⟨hviews, htth⟩ := finishOrder_kept hdone (modOrder o.id (fun _ => o') u)
  have hget := viewGet_of_sat (s := u) hviews
  exact ⟨(hget pos).trans h.view, fun q hq => (hget q).trans (h.others q hq), leaves_of_tth h.racked htth⟩

theorem slotOrder_came {pos : Nat} {b : Bool} {rx : Arrival} {s u : State} (h : ResultCame pos b rx s u) (id oid : Nat) :
    slotOrder u id oid = slotOrder s id oid := by
  rw [h.frame]
  rfl

theorem doneTaken_of_order {pos slot oid status full : Nat} {first : List Byte} {o : Order} {u : State}
    (h : slotOrder u (slotOf pos (slot % 4)) oid = some o) (hdata : o.data = []) :
    doneTaken pos slot oid status full first u = finishOrder { o with done := some (status, full), data := first }
      (modOrder o.id (fun _ => { o with done := some (status, full), data := first }) u) := by
  unfold doneTaken
  dsimp only
  rw [h]
  dsimp only
  rw [hdata, List.nil_append]

theorem completes_doneResult {pos slot oid status : Nat} {b : Bool} {first : List Byte} {rx : Arrival} {o : Order} {s : State}
    (hpos : pos < 256)
    (htakes : TakesResult s pos b 1 slot (arg2 oid ++ [byte status] ++ natLe 3 first.length ++ first) rx)
    (ho : slotOrder s (slotOf pos (slot % 4)) oid = some o) (hdata : o.data = []) (hroom : first.length ≤ orderRoom o) :
    Completes (exec (.doneResult pos b slot oid status first.length first rx) s) fun t =>
      OrderEnds o (doneStatus status) t ∧ (viewGet t pos).lastS = b ∧ ViewsBut pos s t ∧ Racks pos b rx s t := by
  have hexec : exec (.doneResult pos b slot oid status first.length first rx) s = _ := takeResult_new hpos htakes true _
  rw [hexec]
  have hcame := (resultCame_words hpos b true
    (upFrame pos b 2 ([byte 1, byte slot] ++ (arg2 oid ++ [byte status] ++ natLe 3 first.length ++ first))) rx s).1
  generalize resultCame pos b true _ rx s = u at *
  rw [doneTaken_of_order ((slotOrder_came hcame ..).trans ho) hdata]
  obtain ⟨hself, hbut, hracked⟩ := finishOrder_came hcame o (o' := { o with done := some (status, first.length), data := first }) rfl
  obtain ⟨hgone, hret⟩ := orderEnds_finishOrder (o := { o with done := some (status, first.length), data := first }) rfl
    (Nat.min_le_left ..) hroom (modOrder o.id (fun _ => { o with done := some (status, first.length), data := first }) u)
  exact completes_next ⟨⟨hgone, hret⟩, by rw [hself], hbut, hracked⟩

theorem completes_doneResult_more {pos slot oid status full : Nat} {b : Bool} {first : List Byte} {rx : Arrival} {o : Order}
    {s : State} (hpos : pos < 256)
    (htakes : TakesResult s pos b 1 slot (arg2 oid ++ [byte status] ++ natLe 3 full ++ first) rx)
    (ho : slotOrder s (slotOf pos (slot % 4)) oid = some o) (hdata : o.data = []) (hmore : first.length < min full 1024) :
    Completes (exec (.doneResult pos b slot oid status full first rx) s) fun t =>
      orderGet t o.id = some { o with done := some (status, full), data := first } ∧
      viewGet t pos = { heardView pos rx s with lastS := b } ∧ t.ord.banks = s.ord.banks ∧ ViewsBut pos s t ∧
      Racks pos b rx s t := by
  have hexec : exec (.doneResult pos b slot oid status full first rx) s = _ := takeResult_new hpos htakes true _
  rw [hexec]
  have hcame := (resultCame_words hpos b true
    (upFrame pos b 2 ([byte 1, byte slot] ++ (arg2 oid ++ [byte status] ++ natLe 3 full ++ first))) rx s).1
  generalize resultCame pos b true _ rx s = u at *
  have hou := (slotOrder_came hcame ..).trans ho
  have hbanks : u.ord.banks = s.ord.banks := by rw [hcame.frame]
  have hsome := orderGet_of_slotOrder hou
  rw [doneTaken_of_order hou hdata]
  obtain ⟨hself, hbut, hracked⟩ := finishOrder_came hcame o (o' := { o with done := some (status, full), data := first }) rfl
  have hwaits : finishOrder { o with done := some (status, full), data := first }
      (modOrder o.id (fun _ => { o with done := some (status, full), data := first }) u) =
      modOrder o.id (fun _ => { o with done := some (status, full), data := first }) u := by
    unfold finishOrder
    dsimp only
    rw [if_pos hmore]
  rw [hwaits] at hself hbut hracked ⊢
  exact completes_next ⟨orderGet_replaced rfl hsome, hself, hbanks, hbut, hracked⟩

theorem completes_dataResult {pos slot oid off status full : Nat} {b : Bool} {data : List Byte} {rx : Arrival} {o : Order}
    {s : State} (hpos : pos < 256) (htakes : TakesResult s pos b 2 slot (arg2 oid ++ arg2 off ++ data) rx)
    (ho : slotOrder s (slotOf pos (slot % 4)) oid = some o) (hdone : o.done = some (status, full)) (hoff : off = o.data.length)
    (hall : min full 1024 ≤ off + data.length) (hroom : full ≤ orderRoom o) :
    Completes (exec (.dataResult pos b slot oid off data rx) s) fun t =>
      OrderEnds o (doneStatus status) t ∧ (viewGet t pos).lastS = b ∧ ViewsBut pos s t := by
  have hexec : exec (.dataResult pos b slot oid off data rx) s = _ := takeResult_new hpos htakes true _
  rw [hexec]
  have hcame := (resultCame_words hpos b true
    (upFrame pos b 2 ([byte 2, byte slot] ++ (arg2 oid ++ arg2 off ++ data))) rx s).1
  generalize resultCame pos b true _ rx s = u at *
  obtain ⟨hself, hbut, -⟩ := finishOrder_came hcame o (o' := { o with data := o.data ++ data }) hdone
  obtain ⟨hgone, hret⟩ := orderEnds_finishOrder (o := { o with data := o.data ++ data }) hdone
    (by rw [List.length_append, ← hoff]; exact hall) hroom (modOrder o.id (fun _ => { o with data := o.data ++ data }) u)
  have htaken : dataTaken pos slot oid off data u = finishOrder { o with data := o.data ++ data }
      (modOrder o.id (fun _ => { o with data := o.data ++ data }) u) := by
    unfold dataTaken
    rw [slotOrder_came hcame, ho]
    dsimp only
    rw [if_pos hoff]
  rw [htaken]
  exact completes_next ⟨⟨hgone, hret⟩, by rw [hself], hbut⟩

theorem completes_dataResult_stale {pos slot oid off : Nat} {b : Bool} {data : List Byte} {rx : Arrival} {s : State}
    (hpos : pos < 256) (htakes : TakesResult s pos b 2 slot (arg2 oid ++ arg2 off ++ data) rx)
    (ho : slotOrder s (slotOf pos (slot % 4)) oid = none) :
    Completes (exec (.dataResult pos b slot oid off data rx) s) fun t =>
      (tetherGet t (posTether pos)).stale = satInc (tetherGet s (posTether pos)).stale ∧ t.ord = s.ord ∧
      t.slots = s.slots := by
  have hexec : exec (.dataResult pos b slot oid off data rx) s = _ := takeResult_new hpos htakes true _
  rw [hexec]
  have hcame := (resultCame_words hpos b true
    (upFrame pos b 2 ([byte 2, byte slot] ++ (arg2 oid ++ arg2 off ++ data))) rx s).1
  generalize resultCame pos b true _ rx s = u at *
  have htaken : dataTaken pos slot oid off data u = countStale (posTether pos) u := by
    unfold dataTaken
    rw [slotOrder_came hcame, ho]
  have hstale : (tetherGet u (posTether pos)).stale = (tetherGet s (posTether pos)).stale := by rw [hcame.carries.1]
  have hself : tetherGet (countStale (posTether pos) u) (posTether pos) = _ := tetherGet_modTether_self (posTether_lt hpos) _ u
  have hkept : u.ord = s.ord ∧ u.slots = s.slots := by
    rw [hcame.frame]
    exact ⟨rfl, rfl⟩
  rw [htaken]
  exact completes_next ⟨by rw [hself]; exact congrArg satInc hstale, hkept⟩

/-! ### SLOT, WOKEN and RAIL -/

/-- What a SLOT result does beside the view of its slot: the log, the reservation, an order that waits for a release. -/
def slotTold (id event : Nat) (held : Bool) (was : SlotState) (s : State) : State :=
  let v := slotViewGet s id
  let s := queueRec 4 [id, v.cause + 16 * bit v.emergency, if held then eventStatus event else 0] s
  let s := if viewPowered v ∨ v.st = .falling then s else releaseLift id s
  match s.ord.orders.find? (fun o => decide (o.stage = .dispatched) && decide (o.slot = id) && decide (o.opcode = 0x03)) with
  | some o => if was = .tripped ∧ v.st ≠ .tripped then endOrder o 0 0 s else s
  | none => s

theorem slotTold_kept (id event : Nat) (held : Bool) (was : SlotState) (s : State) :
    (slotTold id event held was s).sat = s.sat ∧ (slotTold id event held was s).slots = s.slots := by
  unfold slotTold
  dsimp only
  generalize hv : slotViewGet s id = v
  set u := if viewPowered v = true ∨ v.st = .falling then
      queueRec 4 [id, v.cause + 16 * bit v.emergency, if held = true then eventStatus event else 0] s
    else releaseLift id (queueRec 4 [id, v.cause + 16 * bit v.emergency, if held = true then eventStatus event else 0] s)
    with hu
  have hkept : u.sat = s.sat ∧ u.slots = s.slots := by
    rw [hu]
    split
    · rw [queueRec_sat, queueRec_slots]
      exact ⟨rfl, rfl⟩
    · rw [releaseLift_sat, releaseLift_slots, queueRec_sat, queueRec_slots]
      exact ⟨rfl, rfl⟩
  clear_value u
  split
  · split
    · rw [endOrder_sat, endOrder_slots]
      exact hkept
    · exact hkept
  · exact hkept

/-- A SLOT result moves the view of its slot and nothing else of the satellites (R502). -/
theorem slotTaken_words {pos slot event code : Nat} {st : SlotState} (hst : slotStateOf code = some st) (hreach : st ≠ .unreachable)
    (s : State) : ∃ live rising pick,
      (slotTaken pos slot event code s).sat = (modSlotView (slotOf pos (slot % 4)) (viewSlot event st
        (eventCause event st live rising pick (slotViewGet s (slotOf pos (slot % 4))))) s).sat ∧
      (slotTaken pos slot event code s).slots = s.slots := by
  have htold : ∃ live rising pick held was, slotTaken pos slot event code s =
      slotTold (slotOf pos (slot % 4)) event held was (modSlotView (slotOf pos (slot % 4)) (viewSlot event st
        (eventCause event st live rising pick (slotViewGet s (slotOf pos (slot % 4))))) (drawFree s).2) := by
    unfold slotTaken
    dsimp only
    rw [hst]
    split
    case h_1 h => cases h
    case h_2 h => exact absurd (Option.some.inj h) hreach
    case h_3 h =>
      obtain rfl := Option.some.inj h
      exact ⟨_, _, _, _, _, rfl⟩
  obtain ⟨live, rising, pick, held, was, htold⟩ := htold
  have hkept := slotTold_kept (slotOf pos (slot % 4)) event held was (modSlotView (slotOf pos (slot % 4)) (viewSlot event st
        (eventCause event st live rising pick (slotViewGet s (slotOf pos (slot % 4))))) (drawFree s).2)
  exact ⟨live, rising, pick, by rw [htold, hkept.1]; rfl, by rw [htold, hkept.2]; rfl⟩

/-- What the view of a slot shows of a SLOT result. -/
theorem viewSlot_event (event : Nat) {st : SlotState} (live rising pick : Bool) (v : SlotView) :
    let w := viewSlot event st (eventCause event st live rising pick v) v
    (event = 4 → st ≠ .falling → w.cause = 2 ∧ w.emergency = true) ∧
    (event = 2 → st ≠ .falling → w.cause = 3 ∨ w.cause = 9) ∧ (st = .falling → w.cause = v.cause) := by
  refine ⟨fun he hst => ?_, fun he hst => ?_, fun hst => ?_⟩
  · simp [viewSlot, eventCause, he, hst]
  · cases pick <;> simp [viewSlot, eventCause, he, hst]
  · simp [viewSlot, eventCause, hst]

theorem completes_slotResult {pos slot event code : Nat} {b : Bool} {st : SlotState} {rx : Arrival} {s : State} (hpos : pos < 256)
    (htakes : TakesResult s pos b 3 slot [byte event, byte code] rx) (hst : slotStateOf code = some st)
    (hreach : st ≠ .unreachable) :
    Completes (exec (.slotResult pos b slot event code rx) s) fun t =>
      let id := slotOf pos (slot % 4)
      (slotViewGet t id).st = (if (slotViewGet s id).st = .updating then .updating else st) ∧
      (slotViewGet t id).det = (if event = 1 ∨ event = 4 then false else if event = 0 then true else (slotViewGet s id).det) ∧
      (event = 4 → st ≠ .falling → (slotViewGet t id).cause = 2 ∧ (slotViewGet t id).emergency = true) ∧
      (event = 2 → st ≠ .falling → (slotViewGet t id).cause = 3 ∨ (slotViewGet t id).cause = 9) ∧
      (st = .falling → (slotViewGet t id).cause = (slotViewGet s id).cause) ∧
      (∀ j, j ≠ id → slotViewGet t j = slotViewGet s j) ∧ (viewGet t pos).lastS = b ∧ ViewsBut pos s t ∧
      t.slots = s.slots := by
  have hexec : exec (.slotResult pos b slot event code rx) s = _ := takeResult_new hpos htakes true _
  rw [hexec]
  have hcame := (resultCame_words hpos b true (upFrame pos b 2 ([byte 3, byte slot] ++ [byte event, byte code])) rx s).1
  generalize resultCame pos b true _ rx s = u at *
  obtain ⟨live, rising, pick, hsat, hslots⟩ := slotTaken_words (pos := pos) (slot := slot) (event := event) hst hreach u
  generalize slotTaken pos slot event code u = t at *
  set id := slotOf pos (slot % 4) with hid
  have huslots : u.slots = s.slots := by rw [hcame.frame]
  have huview : ∀ j, slotViewGet u j = slotViewGet s j := fun j => by
    rw [hcame.frame]
    rfl
  have hget := viewGet_of_sat (s := u) (t := t) (by rw [hsat]; rfl)
  have hslot : ∀ j, slotViewGet t j = if j = id then
      viewSlot event st (eventCause event st live rising pick (slotViewGet s id)) (slotViewGet s id) else slotViewGet s j := by
    intro j
    rw [← huview j, ← huview id, slotViewGet, hsat, ← slotViewGet_modSlotView]
    rfl
  obtain ⟨hcause4, hcause2, hfalling⟩ := viewSlot_event event (st := st) live rising pick (slotViewGet s id)
  refine completes_next ⟨?_, ?_, ?_, ?_, ?_, fun j hj => ?_, ?_, fun q hq => ?_, hslots.trans huslots⟩
  case refine_6 => rw [hslot, if_neg hj]
  case refine_7 => rw [hget, hcame.view]
  case refine_8 => rw [hget, hcame.others q hq]
  all_goals rw [hslot, if_pos rfl]
  · rfl
  · rfl
  · exact hcause4
  · exact hcause2
  · exact hfalling

theorem completes_wokenResult {pos : Nat} {b : Bool} {rx : Arrival} {o : Order} {s : State} (hpos : pos < 256)
    (htakes : TakesResult s pos b 7 0xFF [] rx) (hst : (viewGet s pos).state = .asleep) (hsetup : (viewGet s pos).setup = 0)
    (ho : satOrder s pos 0x10 = some o) :
    Completes (exec (.wokenResult pos b rx) s) fun t =>
      viewGet t pos = { heardView pos rx s with state := .active, waking := false, wakes := 0, lastS := b } ∧
      OrderEnds o 0 t ∧ ViewsBut pos s t ∧ (s.sys.state = .standby → t.sys.state = .run) := by
  have hexec : exec (.wokenResult pos b rx) s = _ := takeResult_new hpos htakes true _
  rw [hexec]
  obtain ⟨hcame, hwakes, -⟩ := resultCame_words hpos b true (upFrame pos b 2 ([byte 7, byte 0xFF] ++ [])) rx s
  have hrun := hwakes rfl
  generalize resultCame pos b true _ rx s = u at *
  have hustate : (viewGet u pos).state = .asleep := by
    rw [hcame.view]
    exact hst
  have husetup : (viewGet u pos).setup = 0 := by
    rw [hcame.view]
    exact hsetup
  obtain ⟨hself, hbut, -⟩ := racked_modView hcame (fun v => { v with
    state := if v.state = .asleep then .active else v.state, waking := false, wakes := 0 })
  have hord : u.ord.orders = s.ord.orders := by rw [hcame.frame]
  set v := modView pos (fun v => { v with
    state := if v.state = .asleep then .active else v.state, waking := false, wakes := 0 }) u with hv
  have hvo : satOrder v pos 0x10 = some o := (satOrder_of_orders (s := s) hord pos 0x10).trans ho
  have hvsys : v.sys = u.sys := rfl
  have htaken : wokenTaken pos u = endOrder o 0 0 v := by
    unfold wokenTaken
    dsimp only
    rw [if_neg (by rw [husetup]; exact fun h => h.2 rfl), ← hv, endSatOrder, hvo]
  rw [htaken]
  clear_value v
  have hget := viewGet_of_sat (s := v) (t := endOrder o 0 0 v) (by rw [endOrder_sat])
  refine completes_next ⟨?_, orderEnds_endOrder .., fun q hq => (hget q).trans (hbut q hq), fun h => ?_⟩
  · rw [hget, hself]
    have hheard : (heardView pos rx s).state = .asleep := hst
    dsimp only
    rw [if_pos hheard]
  · rw [endOrder_sys, hvsys, hrun h]

/-- A module rail that a RAIL result shows as failed, and that was not. -/
def railFailed (g0 g1 : Nat) (v : SatView) : Bool :=
  (decide (g0 = 3) && decide (v.grail0 ≠ 3)) || (decide (g1 = 3) && decide (v.grail1 ≠ 3))

/-- The module rails shown, and the failure raised (R208). -/
def railsRaised (pos g0 g1 : Nat) (s : State) : State :=
  let u := modView pos (railsShown ((rigSat s pos).getD {}) (g0 % 4) (g1 % 4)) s
  if railFailed g0 g1 (viewGet s pos) then raise .rls 3 u else u

/-- All that a RAIL result does but for the order that waits for it. -/
def railsTold (pos g0 g1 : Nat) (s : State) : State :=
  let u := railsRaised pos g0 g1 s
  if u.rls.raiseTurn.toList.getD (posTether pos) 0 = posNo pos ∧
      (railsAt ((rigSat s pos).getD {}) (viewGet u pos) (fun g => decide (g = 2)) ||
        (decide (g0 = 3) || decide (g1 = 3))) = true then
    { u with rls := { u.rls with raiseTurn := u.rls.raiseTurn.setIfInBounds (posTether pos) 0 } }
  else u

/-- How SAT_RAIL ends on the rails that a satellite shows (Table - SAT_RAIL outcomes). -/
def railOrderEnds (o : Order) (failed bad up down : Bool) (s : State) : State :=
  if failed then endOrder o 0x044 0 s
  else if bitAt o.param 0 then (if bad then endOrder o 0x044 0 s else if up then endOrder o 0 0 s else s)
  else if down then endOrder o 0 0 s else s

theorem railOrderEnds_kept (o : Order) (failed bad up down : Bool) (s : State) :
    (railOrderEnds o failed bad up down s).sat = s.sat ∧ (railOrderEnds o failed bad up down s).fb = s.fb := by
  have hends : ∀ c, (endOrder o c 0 s).sat = s.sat ∧ (endOrder o c 0 s).fb = s.fb :=
    fun c => ⟨endOrder_sat .., endOrder_fb ..⟩
  unfold railOrderEnds
  split
  · exact hends _
  · split
    · split
      · exact hends _
      · split
        · exact hends _
        · exact ⟨rfl, rfl⟩
    · split
      · exact hends _
      · exact ⟨rfl, rfl⟩

/-- What the module rails shown leave, and that a failure has been raised. -/
theorem railsRaised_words {pos g0 g1 : Nat} {s : State} (hlive : Live s) :
    viewGet (railsRaised pos g0 g1 s) pos = railsShown ((rigSat s pos).getD {}) (g0 % 4) (g1 % 4) (viewGet s pos) ∧
    ViewsBut pos s (railsRaised pos g0 g1 s) ∧ (railsRaised pos g0 g1 s).ord = s.ord ∧
    (railFailed g0 g1 (viewGet s pos) = true → (railsRaised pos g0 g1 s).fb.rls.fst.getLsbD 3 = true) := by
  unfold railsRaised
  dsimp only
  set v := modView pos (railsShown ((rigSat s pos).getD {}) (g0 % 4) (g1 % 4)) s with hv
  have hvself : viewGet v pos = railsShown ((rigSat s pos).getD {}) (g0 % 4) (g1 % 4) (viewGet s pos) := by
    rw [hv, viewGet_modView, if_pos rfl]
  have hvbut : ViewsBut pos s v := viewsBut_modView pos _ s
  have hvord : v.ord = s.ord := rfl
  have hvlive : Live v := hlive
  clear_value v
  split
  · have hraised : Raised .rls 3 v (raise .rls 3 v) := raised_raise hvlive (.inl (by decide))
    have hget := viewGet_of_sat (s := v) (t := raise .rls 3 v) (by rw [faultFrame_sat hraised.frame])
    exact ⟨(hget pos).trans hvself, fun q hq => (hget q).trans (hvbut q hq), (faultFrame_ord hraised.frame).trans hvord,
      fun _ => bit_of_raised (by decide) hraised⟩
  · rename_i hno
    exact ⟨hvself, hvbut, hvord, fun h => absurd h hno⟩

theorem railsTold_kept (pos g0 g1 : Nat) (s : State) : (railsTold pos g0 g1 s).sat = (railsRaised pos g0 g1 s).sat ∧
    (railsTold pos g0 g1 s).ord = (railsRaised pos g0 g1 s).ord ∧
    (railsTold pos g0 g1 s).fb = (railsRaised pos g0 g1 s).fb := by
  unfold railsTold
  dsimp only
  split
  · exact ⟨rfl, rfl, rfl⟩
  · exact ⟨rfl, rfl, rfl⟩

theorem railTaken_of_order {pos g0 g1 : Nat} {o : Order} {s : State} (ho : satOrder (railsTold pos g0 g1 s) pos 0x11 = some o) :
    railTaken pos g0 g1 s = railOrderEnds o (railFailed g0 g1 (viewGet s pos)) (decide (g0 = 3) || decide (g1 = 3))
      (railsAt ((rigSat s pos).getD {}) (viewGet (railsRaised pos g0 g1 s) pos) (fun g => decide (g = 2)))
      (railsAt ((rigSat s pos).getD {}) (viewGet (railsRaised pos g0 g1 s) pos) (fun g => decide (g = 0) || decide (g = 3)))
      (railsTold pos g0 g1 s) := by
  have htaken : railTaken pos g0 g1 s = match satOrder (railsTold pos g0 g1 s) pos 0x11 with
    | none => railsTold pos g0 g1 s
    | some o => railOrderEnds o (railFailed g0 g1 (viewGet s pos)) (decide (g0 = 3) || decide (g1 = 3))
      (railsAt ((rigSat s pos).getD {}) (viewGet (railsRaised pos g0 g1 s) pos) (fun g => decide (g = 2)))
      (railsAt ((rigSat s pos).getD {}) (viewGet (railsRaised pos g0 g1 s) pos) (fun g => decide (g = 0) || decide (g = 3)))
      (railsTold pos g0 g1 s) := rfl
  rw [htaken, ho]

/-- How SAT_RAIL ends, by what the result shows. -/
theorem railOrderEnds_ends (o : Order) (up down : Bool) (s : State) :
    (∀ bad, OrderEnds o 0x044 (railOrderEnds o true bad up down s)) ∧
    (∀ failed, o.param % 2 = 1 → OrderEnds o 0x044 (railOrderEnds o failed true up down s)) ∧
    (o.param % 2 = 1 → up = true → OrderEnds o 0 (railOrderEnds o false false up down s)) ∧
    (o.param % 2 = 0 → down = true → OrderEnds o 0 (railOrderEnds o false false up down s)) := by
  have hbit : ∀ n, o.param % 2 = n → bitAt o.param 0 = decide (n = 1) := by
    intro n h
    rw [bitAt, Nat.pow_zero, Nat.div_one, h]
  unfold railOrderEnds
  refine ⟨fun _ => ?_, fun failed h => ?_, fun h hup => ?_, fun h hdown => ?_⟩
  · exact orderEnds_endOrder ..
  · rw [hbit 1 h]
    cases failed <;> exact orderEnds_endOrder ..
  · rw [hbit 1 h, hup]
    exact orderEnds_endOrder ..
  · rw [hbit 0 h, hdown]
    exact orderEnds_endOrder ..

theorem completes_railResult {pos g0 g1 : Nat} {b : Bool} {rx : Arrival} {o : Order} {s : State} (hpos : pos < 256)
    (htakes : TakesResult s pos b 8 0xFF [byte g0, byte g1] rx) (h0 : g0 < 4) (h1 : g1 < 4)
    (ho : satOrder s pos 0x11 = some o) :
    Completes (exec (.railResult pos b g0 g1 rx) s) fun t =>
      viewGet t pos = { heardView pos rx s with
        grail0 := g0, grail1 := g1, railsSeen := true, raiseDue := (viewGet t pos).raiseDue, lastS := b } ∧
      ViewsBut pos s t ∧
      ((g0 = 3 ∧ (viewGet s pos).grail0 ≠ 3) ∨ (g1 = 3 ∧ (viewGet s pos).grail1 ≠ 3) →
        t.fb.rls.fst.getLsbD 3 = true ∧ OrderEnds o 0x044 t) ∧
      (o.param % 2 = 1 → g0 = 3 ∨ g1 = 3 → OrderEnds o 0x044 t) ∧
      (o.param % 2 = 1 → g0 = 2 ∧ g1 = 2 → OrderEnds o 0 t) ∧ (o.param % 2 = 0 → g0 = 0 ∧ g1 = 0 → OrderEnds o 0 t) := by
  have hexec : exec (.railResult pos b g0 g1 rx) s = _ := takeResult_new hpos htakes true _
  rw [hexec]
  have hcame := (resultCame_words hpos b true (upFrame pos b 2 ([byte 8, byte 0xFF] ++ [byte g0, byte g1])) rx s).1
  have hlive := hcame.live (live_of_ringLive htakes.1.1)
  generalize resultCame pos b true _ rx s = u at *
  obtain ⟨hself, hbut, hord, hbit⟩ := railsRaised_words (pos := pos) (g0 := g0) (g1 := g1) hlive
  obtain ⟨htsat, htord, htfb⟩ := railsTold_kept pos g0 g1 u
  have huo : satOrder (railsTold pos g0 g1 u) pos 0x11 = some o := by
    have hou : u.ord = s.ord := by rw [hcame.frame]
    rw [satOrder_of_orders (s := s) (by rw [htord, hord, hou]), ho]
  rw [railTaken_of_order huo]
  have hfailed : railFailed g0 g1 (viewGet u pos) = railFailed g0 g1 (viewGet s pos) := by
    rw [hcame.view]
    rfl
  rw [hfailed] at hbit ⊢
  rw [hself]
  generalize railsTold pos g0 g1 u = v at *
  generalize railsRaised pos g0 g1 u = w at *
  set r := (rigSat u pos).getD {} with hr
  clear_value r
  set up := railsAt r (railsShown r (g0 % 4) (g1 % 4) (viewGet u pos)) (fun g => decide (g = 2)) with hup
  set down := railsAt r (railsShown r (g0 % 4) (g1 % 4) (viewGet u pos)) (fun g => decide (g = 0) || decide (g = 3)) with hdown
  obtain ⟨hends, hbad, hends1, hends0⟩ := railOrderEnds_ends o up down v
  have hkept := fun failed bad => railOrderEnds_kept o failed bad up down v
  have hupTrue : g0 = 2 ∧ g1 = 2 → up = true := fun ⟨h, h'⟩ => by
    rw [hup, h, h']
    simp [railsAt, railsShown]
  have hdownTrue : g0 = 0 ∧ g1 = 0 → down = true := fun ⟨h, h'⟩ => by
    rw [hdown, h, h']
    simp [railsAt, railsShown]
  have hget := fun failed bad => viewGet_of_sat (s := w) (t := railOrderEnds o failed bad up down v)
    (by rw [(hkept failed bad).1, htsat])
  rw [hcame.view, Nat.mod_eq_of_lt h0, Nat.mod_eq_of_lt h1] at hself
  refine completes_next ⟨?_, fun q hq => ?_, fun h => ?_, fun hparam h => ?_, fun hparam h => ?_, fun hparam h => ?_⟩
  · rw [hget, hself]
    rfl
  · rw [hget, hbut q hq, hcame.others q hq]
  · have hyes : railFailed g0 g1 (viewGet s pos) = true := by simpa [railFailed] using h
    rw [hyes]
    exact ⟨by rw [(hkept _ _).2, htfb]; exact hbit hyes, hends _⟩
  · have hyes : (decide (g0 = 3) || decide (g1 = 3)) = true := by simpa using h
    rw [hyes]
    exact hbad _ hparam
  · obtain ⟨rfl, rfl⟩ := h
    exact hends1 hparam (hupTrue ⟨rfl, rfl⟩)
  · obtain ⟨rfl, rfl⟩ := h
    exact hends0 hparam (hdownTrue ⟨rfl, rfl⟩)

/-! ### RESTARTED -/

theorem updFails_kept {pos : Nat} {s : State} (hlive : Live s) :
    (updFails pos s).ord = s.ord ∧ (updFails pos s).rig = s.rig := by
  unfold updFails
  split
  · set u : State := queueSatUpdate pos 6 { s with upd := { s.upd with satPos := 0x3FF, satPhase := 0 } } with hu
    have hulive : Live u := by rw [Live, hu, queueSatUpdate, queueRec_sys]; exact hlive
    have huord : u.ord = s.ord := by rw [hu, queueSatUpdate, queueRec_ord]
    have hurig : u.rig = s.rig := by rw [hu, queueSatUpdate, queueRec_rig]
    clear_value u
    have hraised : Raised .upd 3 u (raise .upd 3 u) := raised_raise hulive (.inl (by decide))
    exact ⟨(faultFrame_ord hraised.frame).trans huord, (faultFrame_rig hraised.frame).trans hurig⟩
  · exact ⟨rfl, rfl⟩

theorem forgetSat_rig (pos : Nat) (s : State) : (forgetSat pos s).rig = s.rig := by
  rw [forgetSat_eq, updateForgets_frame, traceForgets_frame]
  rfl

theorem cutSatOrders_none {pos : Nat} {s : State} (h : ∀ o ∈ s.ord.orders, namesPos o pos = false) (code : Nat) (keep : Bool) :
    cutSatOrders pos code keep s = s := by
  have hnone : s.ord.orders.filter (fun o => namesPos o pos && o.past8 &&
      !(keep && decide (o.opcode = 0x12) && decide (o.stage = .dispatched))) = [] := by
    rw [List.filter_eq_nil_iff]
    intro o ho
    simp [h o ho]
  rw [cutSatOrders, hnone, List.foldl_nil]

theorem setSatCmd_of_rig {s t : State} (h : t.rig = s.rig) (pos : Nat) : setSatCmd t pos = setSatCmd s pos := by
  simp only [setSatCmd, rigSat, rigTether, h]

/-- The record of a satellite that has restarted, before its configuration is sent. -/
def restartedView (v : SatView) : SatView :=
  let v := freshToggles (forgotten v)
  { v with restarts := satInc v.restarts }

/-- A restart is taken up, before its fault. -/
def restartTaken (pos : Nat) (s : State) : State :=
  modView pos (fun v => { freshToggles v with restarts := satInc v.restarts }) (forgetSat pos (updFails pos (coreWake 6 s)))

/-- What a restart leaves before its fault. -/
theorem restartTaken_words {pos : Nat} {s : State} (hlive : Live s) :
    viewGet (restartTaken pos s) pos = restartedView (viewGet s pos) ∧ ViewsBut pos s (restartTaken pos s) ∧
    (restartTaken pos s).ord = s.ord ∧ (restartTaken pos s).rig = s.rig ∧ Live (restartTaken pos s) := by
  unfold restartTaken
  have hwview : ∀ q, viewGet (coreWake 6 s) q = viewGet s q := viewGet_of_sat (by rw [coreWake_sat])
  have hword : (coreWake 6 s).ord = s.ord := coreWake_ord 6 s
  have hwrig : (coreWake 6 s).rig = s.rig := coreWake_rig 6 s
  have hwlive : Live (coreWake 6 s) := by
    rcases coreWake_state 6 s with h | ⟨-, h⟩
    · rw [Live, h]
      exact hlive
    · rw [Live, h]
      exact ⟨nofun, nofun⟩
  generalize coreWake 6 s = w at *
  obtain ⟨hfsat, -, hflive⟩ := updFails_words (pos := pos) hwlive
  obtain ⟨hford, hfrig⟩ := updFails_kept (pos := pos) hwlive
  generalize updFails pos w = f at *
  have hfview : ∀ q, viewGet f q = viewGet s q := fun q => (viewGet_of_sat (by rw [hfsat]) q).trans (hwview q)
  have hgview := fun q => viewGet_forgetSat pos q f
  obtain ⟨hgsys, hgord⟩ := forgetSat_kept pos f
  have hgrig := forgetSat_rig pos f
  generalize forgetSat pos f = g at *
  refine ⟨?_, fun q hq => ?_, ?_, ?_, ?_⟩
  · rw [viewGet_modView, if_pos rfl, hgview, if_pos rfl, hfview]
    rfl
  · rw [viewGet_modView, if_neg hq, hgview, if_neg hq, hfview]
  · exact hgord.trans (hford.trans hword)
  · exact hgrig.trans (hfrig.trans hwrig)
  · have hsys : (modView pos (fun v => { freshToggles v with restarts := satInc v.restarts }) g).sys = f.sys := hgsys
    rw [Live, hsys]
    exact hflive

theorem restartedTaken_active {pos cause : Nat} {s : State} (hrig : (rigSat s pos).isSome = true) (hcause : cause ≠ 4)
    (hnone : ∀ o ∈ (restartTaken pos s).ord.orders, namesPos o pos = false)
    (hst : (viewGet (raise .sat 1 (restartTaken pos s)) pos).state = .active) :
    restartedTaken pos cause s = sendSetup pos ((slotsOf pos).foldl slotCleared
      (modView pos (fun v => { v with state := .enumerating }) (raise .sat 1 (restartTaken pos s)))) := by
  have hsome : (rigSat s pos).isNone = false := by rw [← Option.not_isSome, hrig]; rfl
  have hcut := cutSatOrders_none hnone 0x080 false
  unfold restartTaken at hcut hst ⊢
  unfold restartedTaken
  rw [hsome, if_neg Bool.false_ne_true]
  dsimp only
  rw [decide_eq_false hcause, Bool.false_and, if_neg Bool.false_ne_true, if_neg Bool.false_ne_true, hcut, hst]
  rfl

theorem completes_restartedResult {pos cause : Nat} {b : Bool} {rx : Arrival} {s : State} (hpos : pos < 256)
    (htakes : HubTakes s (posTether pos) (upFrame pos b 2 [6, 0xFF, byte cause]) rx) (hrig : (rigSat s pos).isSome = true)
    (hst : (viewGet s pos).state = .active) (hcause : cause ≠ 4) (hnone : ∀ o ∈ s.ord.orders, namesPos o pos = false) :
    Completes (exec (.restartedResult pos b cause rx) s) fun t =>
      (viewGet t pos).state = .enumerating ∧ (viewGet t pos).restarts = satInc (viewGet s pos).restarts ∧
      (viewGet t pos).lastS = false ∧ (viewGet t pos).toggleH = true ∧ (viewGet t pos).setup = 5 ∧
      (viewGet t pos).out = some (setSatCmd s pos) ∧ (∀ id ∈ slotsOf pos, (slotViewGet t id).st = .empty) ∧
      t.fb.sat.fst.getLsbD 1 = true ∧ ViewsBut pos s t ∧ t.ord = s.ord := by
  have hexec : exec (.restartedResult pos b cause rx) s = _ :=
    onRing_resultFrame (kind := 6) (slot := 0xFF) (payload := [byte cause]) htakes (restartedTaken pos cause)
  rw [hexec]
  obtain ⟨hcview, hcbut, -, -, hcwords, -⟩ := rackSent_words hpos b (upFrame pos b 2 ([byte 6, byte 0xFF] ++ [byte cause])) rx s
  have hclive : Live s := live_of_ringLive htakes.1
  generalize rackSent pos b _ rx s = u at *
  have husame : u.ord = s.ord ∧ u.rig = s.rig ∧ u.sys = s.sys := by
    rw [hcwords]
    exact ⟨rfl, rfl, rfl⟩
  obtain ⟨huord, hurig, husys⟩ := husame
  have hulive : Live u := by rw [Live, husys]; exact hclive
  have husome : (rigSat u pos).isSome = true := by rw [rigSat, hurig]; exact hrig
  have hactive := restartedTaken_active (s := u) husome hcause
  obtain ⟨hrself, hrbut, hrord, hrrig, hrlive⟩ := restartTaken_words (pos := pos) hulive
  generalize restartTaken pos u = r at *
  rw [hcview] at hrself
  have hraised : Raised .sat 1 r (raise .sat 1 r) := raised_raise hrlive (.inl (by decide))
  have hxbit : (raise .sat 1 r).fb.sat.fst.getLsbD 1 = true := bit_of_raised (by decide) hraised
  have hxsat := faultFrame_sat hraised.frame
  have hxord := faultFrame_ord hraised.frame
  have hxrig := faultFrame_rig hraised.frame
  generalize raise .sat 1 r = x at *
  have hxview : ∀ q, viewGet x q = viewGet r q := viewGet_of_sat (by rw [hxsat])
  rw [hactive (fun o ho => hnone o (by rw [← huord, ← hrord]; exact ho)) (by rw [hxview, hrself]; exact hst)]
  set m := modView pos (fun v => { v with state := .enumerating }) x with hm
  have hmself : viewGet m pos = { restartedView (heardView pos rx s) with state := .enumerating } := by
    rw [hm, viewGet_modView, if_pos rfl, hxview, hrself]
  have hmbut : ViewsBut pos s m := fun q hq => by rw [hm, viewGet_modView, if_neg hq, hxview, hrbut q hq, hcbut q hq]
  have hmkept : m.ord = x.ord ∧ m.rig = x.rig ∧ m.fb = x.fb := ⟨rfl, rfl, rfl⟩
  clear_value m
  obtain ⟨hmord, hmrig, hmfb⟩ := hmkept
  obtain ⟨hempty, -⟩ := foldl_slotCleared (slotsOf pos) m
  have hframe := foldl_slotCleared_frame (slotsOf pos) m
  generalize (slotsOf pos).foldl slotCleared m = c at *
  have hcview : ∀ q, viewGet c q = viewGet m q := viewGet_of_sat (by rw [hframe])
  have hckept : c.ord = s.ord ∧ c.rig = s.rig ∧ c.fb = x.fb := by
    rw [hframe]
    exact ⟨hmord.trans (hxord.trans (hrord.trans huord)), hmrig.trans (hxrig.trans (hrrig.trans hurig)), hmfb⟩
  obtain ⟨hcord, hcrig, hcfb⟩ := hckept
  have hcself : viewGet c pos = { restartedView (heardView pos rx s) with state := .enumerating } := (hcview pos).trans hmself
  have hidle : NothingSent c pos := by
    rw [NothingSent, hcself]
    exact ⟨rfl, rfl⟩
  have hcmd : setSatCmd c pos = setSatCmd s pos := setSatCmd_of_rig hcrig pos
  have hcslots : ∀ id ∈ slotsOf pos, (slotViewGet c id).st = .empty := fun id hid => (hempty id hid).1
  obtain ⟨hself, hbut, hwords⟩ := sendSetup_words hidle
  rw [hcself, hcmd] at hself
  generalize sendSetup pos c = t at *
  have hkept : t.ord = s.ord ∧ t.fb = x.fb ∧ t.sat.slotViews = c.sat.slotViews := by
    rw [hwords]
    exact ⟨hcord, hcfb, rfl⟩
  obtain ⟨htord, htfb, htslots⟩ := hkept
  refine completes_next ⟨by rw [hself], ?_, ?_, ?_, by rw [hself], by rw [hself], fun id hid => ?_, ?_, fun q hq => ?_, htord⟩
  case refine_4 =>
    rw [slotViewGet, htslots]
    exact hcslots id hid
  case refine_5 => rw [htfb, hxbit]
  case refine_6 => rw [hbut q hq, hcview, hmbut q hq]
  all_goals
    rw [hself]
    rfl

/-- Settles O57, an effect lemma per kind of RESULT. -/
theorem resultsTaken : Obligations.ResultsTaken :=
  ⟨fun _ _ _ h hpos htakes => completes_result h hpos htakes,
   fun _ _ _ _ _ _ _ _ _ hpos htakes ho hdata hroom => completes_doneResult hpos htakes ho hdata hroom,
   fun _ _ _ _ _ _ _ _ _ _ hpos htakes ho hdata hmore => completes_doneResult_more hpos htakes ho hdata hmore,
   fun _ _ _ _ _ _ _ _ _ _ _ hpos htakes ho hdone hoff hall hroom =>
     completes_dataResult hpos htakes ho hdone hoff hall hroom,
   fun _ _ _ _ _ _ _ _ hpos htakes ho => completes_dataResult_stale hpos htakes ho,
   fun _ _ _ _ _ _ _ _ hpos htakes hst hreach => completes_slotResult hpos htakes hst hreach,
   fun _ _ _ _ _ hpos htakes hrig hst hcause hnone => completes_restartedResult hpos htakes hrig hst hcause hnone,
   fun _ _ _ _ _ hpos htakes hst hsetup ho => completes_wokenResult hpos htakes hst hsetup ho,
   fun _ _ _ _ _ _ _ hpos htakes h0 h1 ho => completes_railResult hpos htakes h0 h1 ho,
   fun _ _ _ _ _ _ _ _ _ hpos htakes hst => completes_identResult hpos htakes hst,
   fun _ _ _ _ _ hpos htakes => completes_locksrcResult hpos htakes,
   fun _ _ _ _ _ hpos htakes => completes_faultResult hpos htakes,
   fun _ _ _ _ _ _ _ hpos htakes hfetch hslot hchunk hlen => completes_traceResult hpos htakes hfetch hslot hchunk hlen,
   fun _ _ _ _ _ hpos htakes => completes_powerResult hpos htakes,
   fun _ _ _ _ _ _ _ hpos htakes hst => completes_replayResult hpos htakes hst⟩

end Machine
end Sys2Proof
end

section
/-! A break of a tether as the hub sees it (R417 to R421, R428). -/
namespace Sys2Proof
namespace Machine

set_option Elab.async false

open Safety

/-! ### The record of a broken tether -/

theorem foldl_hubPut_frame (l : List (RingEnd × List Sym)) (x : Tether) :
    l.foldl (fun x e => hubPut e.1 e.2 x) x = { x with
      sent := (l.foldl (fun x e => hubPut e.1 e.2 x) x).sent, txOut := (l.foldl (fun x e => hubPut e.1 e.2 x) x).txOut
      txRet := (l.foldl (fun x e => hubPut e.1 e.2 x) x).txRet } := by
  induction l generalizing x with
  | nil => rfl
  | cons e l ih =>
    obtain ⟨e, w⟩ := e
    rw [List.foldl_cons, ih]
    cases e <;> rfl

theorem quietEnd_frame (x : Tether) : quietEnd x = { x with
    sent := (quietEnd x).sent, txOut := (quietEnd x).txOut, txRet := (quietEnd x).txRet, quiet := none, txWait := [] } := by
  unfold quietEnd
  rw [foldl_hubPut_frame]

/-- A break at the segment that was just healed stands again on both sides (R428). -/
def reopened (seg : Nat) (x : Tether) : Tether :=
  match x.healed with
  | some (g, a, b) => if x.mode = 2 ∧ g = seg then { x with brkA := g, brkAPairs := a, brkB := g, brkBPairs := b } else x
  | none => x

theorem reopened_of_healed {seg m n : Nat} {x : Tether} (hmode : x.mode = 2) (hhealed : x.healed = some (seg, m, n)) :
    reopened seg x = { x with brkA := seg, brkAPairs := m, brkB := seg, brkBPairs := n } := by
  unfold reopened
  split
  · rename_i h
    cases hhealed.symm.trans h
    exact if_pos ⟨hmode, rfl⟩
  · rename_i h
    cases hhealed.symm.trans h

/-- A break is noted on the side that saw it. -/
def brokenAt (sideB : Bool) (seg pairs : Nat) (x : Tether) : Tether :=
  if sideB then { x with brkA := seg, brkAPairs := if x.brkA = seg then Nat.lor x.brkAPairs pairs else pairs }
  else { x with brkB := seg, brkBPairs := if x.brkB = seg then Nat.lor x.brkBPairs pairs else pairs }

/-- The tether reads wrapped, a new break is counted and logged. -/
def wrapNoted (now : Nat) (new : Bool) (seg : Nat) (x : Tether) : Tether :=
  let x := { quietEnd x with
    mode := 3, heal := none, healReadyA := false, healReadyB := false, wraps := if new then satInc x.wraps else x.wraps
    wrapLog := if new then (seg, now) :: x.wrapLog.filter (fun e => decide (now - e.2 ≤ 60 * 800000000)) else x.wrapLog }
  { x with held := x.held || (new && decide (3 ≤ wrapsAt x now seg)) }

theorem withBreak_eq (now : Nat) (sideB new : Bool) (seg pairs : Nat) (x : Tether) :
    withBreak now sideB new seg pairs x = wrapNoted now new seg (brokenAt sideB seg pairs (reopened seg x)) := by
  unfold withBreak wrapNoted brokenAt reopened
  rfl

theorem withBreak_frame (now : Nat) (sideB new : Bool) (seg pairs : Nat) (x : Tether) :
    let y := withBreak now sideB new seg pairs x
    let z := brokenAt sideB seg pairs (reopened seg x)
    y = { z with
      sent := y.sent, txOut := y.txOut, txRet := y.txRet, quiet := none, txWait := [], mode := 3, heal := none
      healReadyA := false, healReadyB := false, wraps := if new then satInc z.wraps else z.wraps, wrapLog := y.wrapLog
      held := y.held } := by
  dsimp only
  rw [withBreak_eq, wrapNoted, quietEnd_frame]

/-! ### A break is seen -/

/-- A walk that ends at a break leaves the tether but for the walk, and moves no record but the one that it waited for. -/
theorem walkEnds_kept {k : Nat} (hk : k < 4) (s : State) :
    Carries k { tetherGet s k with walk := (tetherGet (walkEnds k false s) k).walk } s (walkEnds k false s) ∧
    (∀ q, viewGet (walkEnds k false s) q = { viewGet s q with assigning := (viewGet (walkEnds k false s) q).assigning }) ∧
    walkEnds k false s = { s with tth := (walkEnds k false s).tth, sat := (walkEnds k false s).sat } := by
  cases hwalk : (tetherGet s k).walk with
  | none =>
    have hsame : walkEnds k false s = s := by
      unfold walkEnds
      rw [hwalk]
    rw [hsame]
    exact ⟨carries_refl k s, fun _ => rfl, rfl⟩
  | some w =>
    obtain ⟨hcarries, -, hsat, hframe⟩ := walkEnds_words hk hwalk
    refine ⟨⟨?_, hcarries.2⟩, fun q => ?_, hframe⟩
    · rw [hcarries.1]
    · have hget : viewGet (walkEnds k false s) q = viewGet (walkDropped w s) q := viewGet_of_sat (by rw [hsat]) q
      rw [hget]
      unfold walkDropped
      split
      · rw [viewGet_modView]
        split
        · rename_i hq
          rw [hq]
        · rfl
      · rfl

/-- The path by which a satellite is reached around a break (R419). -/
def pathAround (x : Tether) (v : SatView) : RingEnd :=
  if x.brkA ≠ 0 ∧ v.hop < x.brkA then .outEnd else if x.brkB ≠ 0 ∧ x.brkB ≤ v.hop then .retEnd else v.path

theorem foldl_path_views (g : SatView → RingEnd) (l : List Nat) (s : State) (q : Nat) :
    viewGet (l.foldl (fun s p => modView p (fun v => { v with path := g v }) s) s) q =
      { viewGet s q with path := (viewGet (l.foldl (fun s p => modView p (fun v => { v with path := g v }) s) s) q).path } := by
  induction l generalizing s with
  | nil => rfl
  | cons p l ih =>
    rw [List.foldl_cons, ih, viewGet_modView]
    split
    · rename_i hq
      rw [hq]
    · rfl

theorem routeAround_kept (k : Nat) (s : State) :
    (∀ q, viewGet (routeAround k s) q = { viewGet s q with path := (viewGet (routeAround k s) q).path }) ∧
    routeAround k s = { s with sat := { s.sat with views := (routeAround k s).sat.views } } :=
  ⟨foldl_path_views (pathAround (tetherGet s k)) (assignedOn s k) s,
    foldl_modView_frame (fun _ v => { v with path := pathAround (tetherGet s k) v }) (assignedOn s k) s⟩

/-- The wrap is new: neither side has noted a break of pairs at the segment. -/
def newBreak (seg : Nat) (x : Tether) : Bool :=
  (decide (x.brkA ≠ seg) || decide (x.brkAPairs = 0)) && (decide (x.brkB ≠ seg) || decide (x.brkBPairs = 0))

/-- What a break that stands at one segment leaves: the record of the tether, the paths, the fault of a new one. -/
structure BreakShown (k : Nat) (sideB : Bool) (seg pairs : Nat) (s t : State) : Prop where
  tether : Carries k { withBreak s.sys.tick sideB (newBreak seg (tetherGet s k)) seg pairs (tetherGet s k) with
    walk := (tetherGet t k).walk } s t
  views : ∀ q, viewGet t q = { viewGet s q with assigning := (viewGet t q).assigning, path := (viewGet t q).path }
  slots : t.slots = s.slots
  ord : t.ord = s.ord
  fault : newBreak seg (tetherGet s k) = true → t.fb.tth.fst.getLsbD 0 = true

theorem breakShown_breakSeen {k seg pairs : Nat} {sideB : Bool} {s : State} (hk : k < 4) (hlive : Live s)
    (hone : let y := withBreak s.sys.tick sideB (newBreak seg (tetherGet s k)) seg pairs (tetherGet s k)
      y.brkA = 0 ∨ y.brkB = 0 ∨ y.brkA = y.brkB) :
    BreakShown k sideB seg pairs s (breakSeen k sideB seg pairs s) := by
  have hseen : breakSeen k sideB seg pairs s =
      let u := modTether k (withBreak s.sys.tick sideB (newBreak seg (tetherGet s k)) seg pairs) s
      doubleCheck k (if newBreak seg (tetherGet s k) then [0] else [])
        (routeAround k (if newBreak seg (tetherGet s k) then queueTether k 0 0 (walkEnds k false u) else u)) := rfl
  rw [hseen]
  dsimp only at hone ⊢
  set new := newBreak seg (tetherGet s k) with hnew
  set u := modTether k (withBreak s.sys.tick sideB new seg pairs) s with hu
  have huself : tetherGet u k = withBreak s.sys.tick sideB new seg pairs (tetherGet s k) := tetherGet_modTether_self hk _ s
  have hubut : TethersBut k s u := tethersBut_modTether k _ s
  have huframe : u = { s with tth := u.tth } := rfl
  generalize hy : withBreak s.sys.tick sideB new seg pairs (tetherGet s k) = y at *
  clear_value u new
  obtain ⟨hwcarries, hwviews, hwframe⟩ := walkEnds_kept hk u
  set v := if new = true then queueTether k 0 0 (walkEnds k false u) else u with hv
  have hvwords : Carries k { y with walk := (tetherGet v k).walk } u v ∧
      (∀ q, viewGet v q = { viewGet s q with assigning := (viewGet v q).assigning }) ∧ v.sys = s.sys ∧ v.slots = s.slots ∧
      v.ord = s.ord := by
    rw [hv]
    cases new with
    | false =>
      rw [if_neg Bool.false_ne_true, huframe]
      exact ⟨⟨by rw [← huframe, huself], fun _ _ => rfl⟩, fun _ => rfl, rfl, rfl, rfl⟩
    | true =>
      rw [if_pos rfl]
      have hget : ∀ q, viewGet u q = viewGet s q := fun q => by rw [huframe]; rfl
      have hqtth : (queueTether k 0 0 (walkEnds k false u)).tth = (walkEnds k false u).tth := queueRec_tth ..
      have hqview : ∀ q, viewGet (queueTether k 0 0 (walkEnds k false u)) q = viewGet (walkEnds k false u) q :=
        viewGet_of_sat (congrArg (·.views) (queueRec_sat ..))
      have hqrest : (queueTether k 0 0 (walkEnds k false u)).sys = (walkEnds k false u).sys ∧
          (queueTether k 0 0 (walkEnds k false u)).slots = (walkEnds k false u).slots ∧
          (queueTether k 0 0 (walkEnds k false u)).ord = (walkEnds k false u).ord :=
        ⟨queueRec_sys .., queueRec_slots .., queueRec_ord ..⟩
      generalize queueTether k 0 0 (walkEnds k false u) = x at *
      refine ⟨?_, fun q => ?_, ?_, ?_, ?_⟩
      · have hx := carries_of_tth hwcarries hqtth
        rw [huself, ← tetherGet_of_tth hqtth k] at hx
        exact hx
      · rw [hqview, hwviews, hget]
      · rw [hqrest.1, hwframe, huframe]
      · rw [hqrest.2.1, hwframe, huframe]
      · rw [hqrest.2.2, hwframe, huframe]
  clear_value v
  obtain ⟨hvcarries, hvviews, hvsys, hvslots, hvord⟩ := hvwords
  obtain ⟨hrviews, hrframe⟩ := routeAround_kept k v
  generalize routeAround k v = r at *
  have hrtth : r.tth = v.tth := by rw [hrframe]
  have hrlive : Live r := by rw [Live, hrframe, hvsys]; exact hlive
  have hrself : tetherGet r k = tetherGet v k := tetherGet_of_tth hrtth k
  have hsides : (tetherGet r k).brkA = 0 ∨ (tetherGet r k).brkB = 0 ∨ (tetherGet r k).brkA = (tetherGet r k).brkB := by
    rw [hrself, hvcarries.1]
    exact hone
  have hcheck : doubleCheck k (if new = true then [0] else []) r = raiseMany .tth (if new = true then [0] else []) r := by
    unfold doubleCheck
    rw [if_pos hsides]
  rw [hcheck]
  have hframe : FaultFrame r (raiseMany .tth (if new = true then [0] else []) r) :=
    faultFrame_raiseMany (by cases new <;> decide) (by cases new <;> decide) r
  have hbit : new = true → (raiseMany .tth (if new = true then [0] else []) r).fb.tth.fst.getLsbD 0 = true := by
    intro h
    rw [if_pos h]
    exact bit_of_raised (b := .tth) (by decide) (raised_raise hrlive (.inl (by decide)))
  generalize raiseMany .tth (if new = true then [0] else []) r = t at *
  have htview : ∀ q, viewGet t q = viewGet r q := viewGet_of_sat (by rw [faultFrame_sat hframe])
  have httth : t.tth = v.tth := (faultFrame_tth hframe).trans hrtth
  have htself := tetherGet_of_tth httth k
  refine ⟨⟨?_, fun j hj => ?_⟩, fun q => ?_, ?_, ?_, fun h => hbit (hnew ▸ h)⟩
  · rw [htself, ← hnew, hy]
    exact hvcarries.1
  · rw [tetherGet_of_tth httth, hvcarries.2 j hj, hubut j hj]
  · rw [htview, hrviews, hvviews]
  · rw [faultFrame_slots hframe, hrframe, hvslots]
  · rw [faultFrame_ord hframe, hrframe, hvord]

/-! ### WRAP_RESULT -/

/-- A WRAP result on the record of its satellite, and at the segment that its port names. -/
theorem exec_wrapResult {pos : Nat} {b lf lk portB : Bool} {rx : Arrival} {s : State} (hpos : pos < 256)
    (htakes : TakesResult s pos b 4 0xFF [byte (bit lf + 2 * bit lk), byte (bit portB)] rx) :
    ∃ u, exec (.wrapResult pos b lf lk portB rx) s = .next (breakSeen (posTether pos) portB
        (if portB then (viewGet s pos).hop + 1 else (viewGet s pos).hop) (bit lf + 2 * bit lk) u) ∧
      viewGet u pos = { heardView pos rx s with lastS := b, folded := true } ∧
      Carries (posTether pos) (tetherGet s (posTether pos)) s u ∧ HubWords s u := by
  have hexec : exec (.wrapResult pos b lf lk portB rx) s = _ := takeResult_new hpos htakes false _
  rw [hexec]
  obtain ⟨hcame, -, hstill⟩ := resultCame_words hpos b false
    (upFrame pos b 2 ([byte 4, byte 0xFF] ++ [byte (bit lf + 2 * bit lk), byte (bit portB)])) rx s
  have hwords := hstill rfl
  generalize resultCame pos b false _ rx s = u at *
  have hhop : (viewGet u pos).hop = (viewGet s pos).hop := by
    rw [hcame.view]
    rfl
  refine ⟨modView pos (fun v => { v with folded := true }) u, ?_, ?_, carries_of_tth hcame.carries rfl,
    hubWords_trans hwords rfl⟩
  · rw [wrapTaken, hhop]
  · rw [viewGet_modView, if_pos rfl, hcame.view]

/-- What a break leaves of the hub, seen from the state before the result that brought it. -/
theorem breakShown_after {k seg pairs : Nat} {sideB : Bool} {s u : State} (hk : k < 4) (hlive : Live s) (hwords : HubWords s u)
    (hcarries : Carries k (tetherGet s k) s u)
    (hone : let y := withBreak s.sys.tick sideB (newBreak seg (tetherGet u k)) seg pairs (tetherGet u k)
      y.brkA = 0 ∨ y.brkB = 0 ∨ y.brkA = y.brkB) :
    BreakShown k sideB seg pairs u (breakSeen k sideB seg pairs u) ∧
    TethersBut k s (breakSeen k sideB seg pairs u) ∧ (breakSeen k sideB seg pairs u).slots = s.slots ∧
    (breakSeen k sideB seg pairs u).ord = s.ord := by
  have hkept : u.sys = s.sys ∧ u.slots = s.slots ∧ u.ord = s.ord := by
    rw [hwords]
    exact ⟨rfl, rfl, rfl⟩
  obtain ⟨hsys, hslots, hord⟩ := hkept
  have hshown : BreakShown k sideB seg pairs u (breakSeen k sideB seg pairs u) :=
    breakShown_breakSeen hk (by rw [Live, hsys]; exact hlive) (by rw [hsys]; exact hone)
  exact ⟨hshown, fun j hj => (hshown.tether.2 j hj).trans (hcarries.2 j hj), hshown.slots.trans hslots,
    hshown.ord.trans hord⟩

theorem bit_toNat (b : Bool) : bit b = b.toNat := by cases b <;> rfl

theorem completes_wrapResult {pos : Nat} {b lf lk portB : Bool} {rx : Arrival} {s : State} (hpos : pos < 256)
    (htakes : TakesResult s pos b 4 0xFF [byte (bit lf + 2 * bit lk), byte (bit portB)] rx) (hhop : (viewGet s pos).hop ≠ 0)
    (hA : (tetherGet s (posTether pos)).brkA = 0) (hB : (tetherGet s (posTether pos)).brkB = 0)
    (hhealed : (tetherGet s (posTether pos)).healed = none) :
    Completes (exec (.wrapResult pos b lf lk portB rx) s) fun t =>
      let x := tetherGet t (posTether pos)
      (viewGet t pos).folded = true ∧ (viewGet t pos).lastS = b ∧ x.mode = 3 ∧ x.heal = none ∧
      x.wraps = satInc (tetherGet s (posTether pos)).wraps ∧ x.brkA = (if portB then (viewGet s pos).hop + 1 else 0) ∧
      x.brkB = (if portB then 0 else (viewGet s pos).hop) ∧
      (if portB then x.brkAPairs else x.brkBPairs) = lf.toNat + 2 * lk.toNat ∧ t.fb.tth.fst.getLsbD 0 = true ∧
      TethersBut (posTether pos) s t ∧ t.slots = s.slots ∧ t.ord = s.ord := by
  have hlive := live_of_ringLive htakes.1.1
  obtain ⟨u, hexec, hself, hcarries, hwords⟩ := exec_wrapResult hpos htakes
  rw [hexec]
  set k := posTether pos with hk
  set seg := if portB = true then (viewGet s pos).hop + 1 else (viewGet s pos).hop with hseg
  have hseg0 : seg ≠ 0 := by
    rw [hseg]
    split <;> omega
  have hx : (tetherGet u k).brkA = 0 ∧ (tetherGet u k).brkB = 0 ∧ (tetherGet u k).healed = none ∧
      (tetherGet u k).wraps = (tetherGet s k).wraps := by
    rw [hcarries.1]
    exact ⟨hA, hB, hhealed, rfl⟩
  obtain ⟨hxA, hxB, hxhealed, hxwraps⟩ := hx
  have hnew : newBreak seg (tetherGet u k) = true := by
    rw [newBreak, hxA, hxB, decide_eq_true hseg0.symm]
    rfl
  have hreopened : reopened seg (tetherGet u k) = tetherGet u k := by rw [reopened, hxhealed]
  have hbroken := withBreak_frame s.sys.tick portB true seg (bit lf + 2 * bit lk) (tetherGet u k)
  rw [hreopened] at hbroken
  dsimp only at hbroken
  obtain ⟨hshown, hbut, hslots, hord⟩ := breakShown_after (sideB := portB) (seg := seg) (pairs := bit lf + 2 * bit lk)
    (posTether_lt hpos) hlive hwords hcarries (by
      rw [hnew, hbroken]
      cases portB with
      | true => exact .inr (.inl hxB)
      | false => exact .inl hxA)
  have htick : u.sys.tick = s.sys.tick := by rw [hwords]
  obtain ⟨⟨htether, -⟩, hviews, -, -, hfault⟩ := hshown
  have hbit := hfault hnew
  rw [hnew, htick, hbroken] at htether
  generalize breakSeen k portB seg (bit lf + 2 * bit lk) u = t at *
  refine completes_next ⟨by rw [hviews, hself], by rw [hviews, hself], by rw [htether], by rw [htether], ?_, ?_, ?_, ?_, hbit,
    hbut, hslots, hord⟩
  all_goals rw [htether]
  · rw [← hxwraps]
    cases portB <;> rfl
  · cases portB with
    | true => exact hseg
    | false => exact hxA
  · cases portB with
    | true => exact hxB
    | false => exact hseg
  · rw [← bit_toNat, ← bit_toNat]
    cases portB with
    | true =>
      have hno : (tetherGet u k).brkA ≠ seg := by rw [hxA]; exact hseg0.symm
      exact if_neg hno
    | false =>
      have hno : (tetherGet u k).brkB ≠ seg := by rw [hxB]; exact hseg0.symm
      exact if_neg hno

theorem completes_wrapResult_again {pos m n : Nat} {b lf lk : Bool} {rx : Arrival} {s : State} (hpos : pos < 256)
    (htakes : TakesResult s pos b 4 0xFF [byte (bit lf + 2 * bit lk), 1] rx) (hmode : (tetherGet s (posTether pos)).mode = 2)
    (hhealed : (tetherGet s (posTether pos)).healed = some ((viewGet s pos).hop + 1, m, n)) :
    Completes (exec (.wrapResult pos b lf lk true rx) s) fun t =>
      let x := tetherGet t (posTether pos)
      x.mode = 3 ∧ x.brkA = (viewGet s pos).hop + 1 ∧ x.brkB = (viewGet s pos).hop + 1 ∧ x.brkBPairs = n ∧
      x.healReadyA = false ∧ x.healReadyB = false ∧ x.double = (tetherGet s (posTether pos)).double ∧
      TethersBut (posTether pos) s t := by
  have hlive := live_of_ringLive htakes.1.1
  obtain ⟨u, hexec, hself, hcarries, hwords⟩ := exec_wrapResult hpos (portB := true) htakes
  rw [hexec, if_pos rfl]
  set k := posTether pos with hk
  set seg := (viewGet s pos).hop + 1 with hseg
  have hx : (tetherGet u k).mode = 2 ∧ (tetherGet u k).healed = some (seg, m, n) ∧
      (tetherGet u k).double = (tetherGet s k).double := by
    rw [hcarries.1]
    exact ⟨hmode, hhealed, rfl⟩
  obtain ⟨hxmode, hxhealed, hxdouble⟩ := hx
  have hreopened : reopened seg (tetherGet u k) = { tetherGet u k with
      brkA := seg, brkAPairs := m, brkB := seg, brkBPairs := n } := reopened_of_healed hxmode hxhealed
  have hbroken := withBreak_frame s.sys.tick true (newBreak seg (tetherGet u k)) seg (bit lf + 2 * bit lk) (tetherGet u k)
  rw [hreopened] at hbroken
  dsimp only at hbroken
  obtain ⟨hshown, hbut, -, -⟩ := breakShown_after (sideB := true) (seg := seg) (pairs := bit lf + 2 * bit lk)
    (posTether_lt hpos) hlive hwords hcarries (by
      rw [hbroken]
      exact .inr (.inr rfl))
  have htick : u.sys.tick = s.sys.tick := by rw [hwords]
  obtain ⟨⟨htether, -⟩, -, -, -, -⟩ := hshown
  rw [htick, hbroken] at htether
  generalize breakSeen k true seg (bit lf + 2 * bit lk) u = t at *
  refine completes_next ⟨by rw [htether], ?_, ?_, ?_, by rw [htether], by rw [htether], ?_, hbut⟩
  · rw [htether]
    rfl
  · rw [htether]
    rfl
  · rw [htether]
    rfl
  · rw [htether]
    exact hxdouble

end Machine
end Sys2Proof
end

section
/-! Healing a tether (R423 to R428). -/
namespace Sys2Proof
namespace Machine

set_option Elab.async false

open Safety

/-! ### HEAL frames -/

/-- HEAL goes to a neighbour that is a satellite and has not answered. -/
def healTo (k : Nat) (e : RingEnd) (tick : List Byte) (answered : Bool) (n : Option Nat) (s : State) : State :=
  match n with
  | some p => if answered then s else hubSend k e (hubFrame p false 8 tick) s
  | none => s

/-- The unwrap tick that a HEAL frame carries; 0 takes it back. -/
def healTick (h : Heal) : List Byte := natLe 8 (if h.cancelling then 0 else h.tick)

/-- The neighbours of a break depend on the break and on the satellites that the hub knows there. -/
theorem neighbour_of {k : Nat} {s t : State} (hviews : t.sat.views = s.sat.views) (hrig : t.rig = s.rig)
    (hA : (tetherGet t k).brkA = (tetherGet s k).brkA) (hB : (tetherGet t k).brkB = (tetherGet s k).brkB) (sideB : Bool) :
    neighbour t k sideB = neighbour s k sideB := by
  have hget := viewGet_of_sat hviews
  have hon : assignedOn t k = assignedOn s k := by
    simp only [assignedOn, tetherPositions, positions, hrig, hget]
  simp only [neighbour, hon, hget, hA, hB]

theorem healTo_frame (k : Nat) (e : RingEnd) (tick : List Byte) (answered : Bool) (n : Option Nat) (s : State) :
    healTo k e tick answered n s = { s with tth := (healTo k e tick answered n s).tth } := by
  cases n with
  | none => rfl
  | some p =>
    cases answered <;> rfl

theorem carries_healTo {k : Nat} {x : Tether} {s u : State} (h : Carries k x s u) (e : RingEnd) (tick : List Byte)
    (answered : Bool) (n : Option Nat) : Carries k x s (healTo k e tick answered n u) := by
  cases n with
  | none => exact h
  | some p =>
    cases answered with
    | true => exact h
    | false => exact carries_hubSend h e _

theorem healTo_answered (k : Nat) (e : RingEnd) (tick : List Byte) (n : Option Nat) (s : State) : healTo k e tick true n s = s := by
  cases n <;> rfl

theorem sendHeals_of_heal {k : Nat} {h : Heal} {s : State} (hheal : (tetherGet s k).heal = some h) :
    sendHeals k s = healTo k .retEnd (healTick h) h.answeredB (neighbour s k true)
      (healTo k .outEnd (healTick h) h.answeredA (neighbour s k false) s) := by
  have hcarries := carries_healTo (carries_refl k s) .outEnd (healTick h) h.answeredA (neighbour s k false)
  have hframe := healTo_frame k .outEnd (healTick h) h.answeredA (neighbour s k false) s
  have hsame : neighbour (healTo k .outEnd (healTick h) h.answeredA (neighbour s k false) s) k true = neighbour s k true :=
    neighbour_of (by rw [hframe]) (by rw [hframe]) (by rw [hcarries.1]) (by rw [hcarries.1]) true
  rw [← hsame]
  unfold sendHeals
  rw [hheal]
  rfl

theorem sendHeals_kept (k : Nat) (s : State) :
    Carries k (tetherGet s k) s (sendHeals k s) ∧ sendHeals k s = { s with tth := (sendHeals k s).tth } := by
  cases hheal : (tetherGet s k).heal with
  | none =>
    have hsame : sendHeals k s = s := by
      unfold sendHeals
      rw [hheal]
    rw [hsame]
    exact ⟨carries_refl k s, rfl⟩
  | some h =>
    rw [sendHeals_of_heal hheal]
    refine ⟨carries_healTo (carries_healTo (carries_refl k s) ..) .., ?_⟩
    rw [healTo_frame, healTo_frame]

/-- HEAL leaves on the sides that have not answered, the RET side after the OUT side. -/
theorem sendHeals_leaves {k : Nat} {h : Heal} {s : State} (hk : k < 4) (hheal : (tetherGet s k).heal = some h) :
    (∀ p, h.answeredB = false → neighbour s k true = some p →
      Safety.Leaves k .retEnd (hubFrame p false 8 (healTick h)) s (sendHeals k s)) ∧
    (∀ p, h.answeredB = true → h.answeredA = false → neighbour s k false = some p →
      Safety.Leaves k .outEnd (hubFrame p false 8 (healTick h)) s (sendHeals k s)) := by
  rw [sendHeals_of_heal hheal]
  refine ⟨fun p hB hp => ?_, fun p hB hA hp => ?_⟩
  · have hfirst := carries_healTo (carries_refl k s) .outEnd (healTick h) h.answeredA (neighbour s k false)
    have hframe := healTo_frame k .outEnd (healTick h) h.answeredA (neighbour s k false) s
    generalize healTo k .outEnd (healTick h) h.answeredA (neighbour s k false) s = u at *
    rw [hp, hB]
    exact leaves_hubSend hk (by rw [hframe]) (carries_quiet hfirst)
  · rw [hB, healTo_answered, hA, hp]
    exact leaves_hubSend hk rfl rfl

/-! ### A heal starts -/

/-- What a heal that starts leaves (R424). -/
structure HealStarts (k : Nat) (s t : State) : Prop where
  tether : ∃ h, Carries k { tetherGet s k with quiet := some h.tick, heal := some h } s t ∧ h.cancelling = false ∧
    h.answeredA = (tetherGet s k).linkOut.stands ∧ h.answeredB = (tetherGet s k).linkRet.stands ∧
    s.sys.tick + 160000 ≤ h.tick
  frame : t = { s with tth := t.tth, free := t.free }

theorem healStarts_tryHeal {k : Nat} {s : State} (hk : k < 4) (hmode : (tetherGet s k).mode = 3)
    (hheal : (tetherGet s k).heal = none) (hready : bothReady (tetherGet s k) = true) (hone : (tetherGet s k).double = false)
    (hheld : healHeld s k = false) : HealStarts k s (tryHeal k s) := by
  have hyes : (tetherGet s k).mode = 3 ∧ (tetherGet s k).heal = none ∧ bothReady (tetherGet s k) = true ∧
      (tetherGet s k).double = false ∧ healHeld s k = false := ⟨hmode, hheal, hready, hone, hheld⟩
  set v := (drawFree s).1 with hv
  set h : Heal := { tick := s.sys.tick + 160000 + v % 640000, answeredA := hubNeighbour (tetherGet s k) false
                    answeredB := hubNeighbour (tetherGet s k) true } with hh
  set u := modTether k (fun x => { x with
    quiet := some (s.sys.tick + 160000 + v % 640000)
    heal := some { tick := s.sys.tick + 160000 + v % 640000, answeredA := hubNeighbour x false
                   answeredB := hubNeighbour x true } }) (drawFree s).2 with hu
  have hstart : tryHeal k s = sendHeals k u := if_pos hyes
  have huself : tetherGet u k = { tetherGet s k with quiet := some h.tick, heal := some h } := tetherGet_modTether_self hk _ _
  have hubut : TethersBut k s u := tethersBut_modTether k _ (drawFree s).2
  have huframe : u = { s with tth := u.tth, free := u.free } := rfl
  clear_value u
  obtain ⟨hcarries, hframe⟩ := sendHeals_kept k u
  rw [hstart]
  generalize sendHeals k u = t at *
  refine ⟨⟨h, ⟨?_, fun j hj => (hcarries.2 j hj).trans (hubut j hj)⟩, rfl, rfl, rfl, ?_⟩, ?_⟩
  · rw [← huself]
    exact hcarries.1
  · exact Nat.le_add_right ..
  · rw [hframe, huframe]

theorem tryHeal_waits {k : Nat} {s : State} (h : ¬ (bothReady (tetherGet s k) = true ∧ (tetherGet s k).double = false ∧
    healHeld s k = false)) : tryHeal k s = s := if_neg fun hyes => h ⟨hyes.2.2.1, hyes.2.2.2.1, hyes.2.2.2.2⟩

/-! ### HEAL_READY -/

theorem completes_healReadyResult {pos : Nat} {b : Bool} {rx : Arrival} {s : State} (hpos : pos < 256)
    (htakes : TakesResult s pos b 5 0xFF [] rx) (hmode : (tetherGet s (posTether pos)).mode = 3)
    (hheal : (tetherGet s (posTether pos)).heal = none) (hside : (viewGet s pos).hop + 1 = (tetherGet s (posTether pos)).brkA) :
    Completes (exec (.healReadyResult pos b rx) s) fun t =>
      let x := tetherGet s (posTether pos)
      let y := tetherGet t (posTether pos)
      viewGet t pos = { heardView pos rx s with lastS := b } ∧ ViewsBut pos s t ∧ TethersBut (posTether pos) s t ∧
      y.healReadyA = true ∧
      (x.healReadyB = false ∨ x.double = true ∨ healHeld s (posTether pos) = true → y.heal = none) ∧
      (x.healReadyB = true → x.double = false → healHeld s (posTether pos) = false →
        ∃ h, y.heal = some h ∧ h.cancelling = false ∧ h.answeredA = x.linkOut.stands ∧ h.answeredB = x.linkRet.stands ∧
          s.sys.tick + 160000 ≤ h.tick ∧ y.quiet = some h.tick) := by
  have hk : posTether pos < 4 := posTether_lt hpos
  have hexec : exec (.healReadyResult pos b rx) s = _ := takeResult_new hpos htakes false _
  rw [hexec]
  obtain ⟨hcame, -, hstill⟩ := resultCame_words hpos b false (upFrame pos b 2 ([byte 5, byte 0xFF] ++ [])) rx s
  have hwords := hstill rfl
  generalize resultCame pos b false _ rx s = u at *
  obtain ⟨hcself, hcbut⟩ := hcame.carries
  have huview := hcame.view
  have huothers := hcame.others
  set k := posTether pos with hkdef
  have hready : healReadyTaken pos u = tryHeal k (modTether k (fun x => { x with healReadyA := true }) u) := by
    unfold healReadyTaken
    dsimp only
    rw [← hkdef, if_neg (by rw [hcself]; exact not_not_intro hmode), if_pos (by rw [huview, hcself]; exact hside)]
  set v := modTether k (fun x => { x with healReadyA := true }) u with hv
  have hvself : tetherGet v k = { tetherGet u k with healReadyA := true } := tetherGet_modTether_self hk _ u
  have hvbut : TethersBut k s v := tethersBut_trans hcbut (tethersBut_modTether k _ u)
  have hvframe : v = { u with tth := v.tth } := rfl
  have hvheld : healHeld v k = healHeld s k := by
    have hhold : v.tth.hold = s.tth.hold := hcame.hold
    rw [healHeld, healHeld, hhold, hvself, hcself]
  have hvtick : v.sys.tick = s.sys.tick := by
    have hsame : v.sys = u.sys := rfl
    rw [hsame, hwords]
  clear_value v
  have hvx : tetherGet v k = { tetherGet s k with
      taken := (tetherGet v k).taken, sent := (tetherGet v k).sent, txOut := (tetherGet v k).txOut
      txRet := (tetherGet v k).txRet, txWait := (tetherGet v k).txWait, healReadyA := true } := by
    rw [hvself, hcself]
  have hvviews : ∀ q, viewGet v q = viewGet u q := viewGet_of_sat (by rw [hvframe])
  rw [hready]
  by_cases hgo : (tetherGet s k).healReadyB = true ∧ (tetherGet s k).double = false ∧ healHeld s k = false
  · obtain ⟨hB, hdouble, hheld⟩ := hgo
    obtain ⟨⟨h, hcarries, hcancel, hansA, hansB, htick⟩, hframe⟩ := healStarts_tryHeal hk (by rw [hvx]; exact hmode)
      (by rw [hvx]; exact hheal) (by rw [hvx, bothReady]; exact hB) (by rw [hvx]; exact hdouble) (hvheld.trans hheld)
    generalize tryHeal k v = t at *
    have htview : ∀ q, viewGet t q = viewGet v q := viewGet_of_sat (by rw [hframe])
    refine completes_next ⟨?_, fun q hq => ?_, ?_, ?_, fun hno => ?_, fun _ _ _ => ⟨h, ?_, hcancel, ?_, ?_, ?_, ?_⟩⟩
    · rw [htview, hvviews, huview]
    · rw [htview, hvviews, huothers q hq]
    · exact fun j hj => (hcarries.2 j hj).trans (hvbut j hj)
    · rw [hcarries.1, hvself]
    · rcases hno with hno | hno | hno
      · exact absurd (hB.symm.trans hno) (by decide)
      · exact absurd (hdouble.symm.trans hno) (by decide)
      · exact absurd (hheld.symm.trans hno) (by decide)
    · rw [hcarries.1]
    · rw [hansA, hvx]
    · rw [hansB, hvx]
    · rw [← hvtick]
      exact htick
    · rw [hcarries.1]
  · have hwaits : tryHeal k v = v := tryHeal_waits fun hyes => by
      refine hgo ⟨?_, ?_, hvheld.symm.trans hyes.2.2⟩
      · have hboth := hyes.1
        rw [hvx, bothReady] at hboth
        exact hboth
      · have hdouble := hyes.2.1
        rw [hvx] at hdouble
        exact hdouble
    rw [hwaits]
    refine completes_next ⟨?_, fun q hq => ?_, hvbut, by rw [hvself], fun _ => ?_, fun hB hdouble hheld => ?_⟩
    · rw [hvviews, huview]
    · rw [hvviews, huothers q hq]
    · rw [hvx]
      exact hheal
    · exact absurd ⟨hB, hdouble, hheld⟩ hgo

theorem completes_healReadyTimer_hub {sat : Nat} {s : State} (hsat : sat < 256) (hhub : posNo sat = 0) (hring : ringLive s = true)
    (hmode : (tetherGet s (posTether sat)).mode = 3) (hstands : (tetherGet s (posTether sat)).linkOut.stands = true)
    (hrx : (tetherGet s (posTether sat)).linkOut.rx = true) (hret : (tetherGet s (posTether sat)).linkRet.stands = false) :
    Completes (exec (.healReadyTimer sat) s) fun t =>
      let k := posTether sat
      let x := tetherGet s k
      (x.healReadyB = false → tetherGet t k = { x with healReadyA := true } ∧ TethersBut k s t ∧
      t = { s with tth := t.tth }) ∧
      (x.healReadyB = true → x.heal = none → x.double = false → healHeld s k = false →
        ∃ h, (tetherGet t k).heal = some h ∧ h.cancelling = false ∧ h.answeredA = true ∧ h.answeredB = false ∧
          s.sys.tick + 160000 ≤ h.tick) := by
  have hk : posTether sat < 4 := posTether_lt hsat
  set k := posTether sat with hkdef
  set v := modTether k (fun x => { x with
      healReadyA := x.healReadyA || (x.linkOut.stands && x.linkOut.rx)
      healReadyB := x.healReadyB || (x.linkRet.stands && x.linkRet.rx) }) s with hv
  have hexec : exec (.healReadyTimer sat) s = .next (tryHeal k v) := by
    have hready : hubReady k s = tryHeal k v := if_neg (not_not_intro hmode)
    show Host.Outcome.next (if posNo sat = 0 then (if ringLive s then hubReady k s else s) else satHealReady sat s) = _
    rw [if_pos hhub, if_pos hring, hready]
  have hvself : tetherGet v k = { tetherGet s k with healReadyA := true } := by
    rw [hv, tetherGet_modTether_self hk, hstands, hrx, hret, Bool.and_true, Bool.or_true, Bool.false_and, Bool.or_false]
  have hvbut : TethersBut k s v := tethersBut_modTether k _ s
  have hvframe : v = { s with tth := v.tth } := rfl
  have hvheld : healHeld v k = healHeld s k := by
    have hhold : v.tth.hold = s.tth.hold := rfl
    rw [healHeld, healHeld, hhold, hvself]
  have hvtick : v.sys.tick = s.sys.tick := rfl
  clear_value v
  rw [hexec]
  refine completes_next ⟨fun hB => ?_, fun hB hheal hdouble hheld => ?_⟩
  · have hwaits : tryHeal k v = v := tryHeal_waits fun hyes => by
      have hboth := hyes.1
      rw [hvself, bothReady] at hboth
      exact absurd (hB.symm.trans hboth) (by decide)
    rw [hwaits]
    exact ⟨hvself, hvbut, hvframe⟩
  · obtain ⟨⟨h, hcarries, hcancel, hansA, hansB, htick⟩, -⟩ := healStarts_tryHeal hk (by rw [hvself]; exact hmode)
      (by rw [hvself]; exact hheal) (by rw [hvself, bothReady]; exact hB) (by rw [hvself]; exact hdouble)
      (hvheld.trans hheld)
    refine ⟨h, by rw [hcarries.1], hcancel, ?_, ?_, by rw [← hvtick]; exact htick⟩
    · rw [hansA, hvself]
      exact hstands
    · rw [hansB, hvself]
      exact hret

/-! ### HEAL_ANSWER, HEAL_RESEND, HEAL_CANCEL -/

theorem carries_broughtIn (k : Nat) (f : RingFrame) (rx : Arrival) (s : State) :
    Carries k (tetherGet s k) s (broughtIn k f rx s) :=
  ⟨by rw [tetherGet_broughtIn_kept], tethersBut_broughtIn k f rx s⟩

/-- The answer that a neighbour gave. -/
def healAnswered (fromB : Bool) (h : Heal) : Heal :=
  if fromB then { h with answeredB := true } else { h with answeredA := true }

theorem healAnswered_eq (fromB : Bool) (h : Heal) :
    healAnswered fromB h = { h with answeredA := h.answeredA || !fromB, answeredB := h.answeredB || fromB } := by
  cases fromB <;> simp [healAnswered]

theorem healAnswer_of_heal {k : Nat} {h : Heal} {s : State} (hheal : (tetherGet s k).heal = some h) (fromB : Bool) (n : Nat) :
    healAnswer k fromB n s = if n = (if h.cancelling then 0 else h.tick) then
        let v := modTether k (fun x => { x with heal := some (healAnswered fromB h) }) s
        if (healAnswered fromB h).cancelling && (healAnswered fromB h).answeredA && (healAnswered fromB h).answeredB then
          tryHeal k (modTether k (fun x => { x with heal := none }) v)
        else v
      else s := by
  unfold healAnswer
  rw [hheal]
  rfl

theorem exec_healAnswer {k : Nat} {rx : Arrival} {s : State} (htakes : HubTakes s k { pos := rx.pos, dir := true, type := 8 } rx)
    (fromB : Bool) (n : Nat) : exec (.healAnswer k fromB n rx) s =
      .next (healAnswer k fromB n (broughtIn k { pos := rx.pos, dir := true, type := 8 } rx s)) := by
  show onRing (received k { pos := rx.pos, dir := true, type := 8 } rx (healAnswer k fromB n)) s = _
  rw [onRing_of_live htakes.1, received_of_arrives htakes.2.1 htakes.2.2]

theorem completes_healAnswer {k n : Nat} {fromB : Bool} {rx : Arrival} {h : Heal} {s : State} (hk : k < 4)
    (htakes : HubTakes s k { pos := rx.pos, dir := true, type := 8 } rx) (hheal : (tetherGet s k).heal = some h)
    (hcancel : h.cancelling = false) :
    Completes (exec (.healAnswer k fromB n rx) s) fun t =>
      (n ≠ h.tick → Carries k (tetherGet s k) s t) ∧
      (n = h.tick → Carries k { tetherGet s k with
        heal := some { h with answeredA := h.answeredA || !fromB, answeredB := h.answeredB || fromB } } s t) ∧
      t = { s with tth := t.tth } := by
  rw [exec_healAnswer htakes]
  have hcarries := carries_broughtIn k { pos := rx.pos, dir := true, type := 8 } rx s
  have hframe : broughtIn k { pos := rx.pos, dir := true, type := 8 } rx s =
      { s with tth := (broughtIn k { pos := rx.pos, dir := true, type := 8 } rx s).tth } := rfl
  generalize broughtIn k { pos := rx.pos, dir := true, type := 8 } rx s = u at *
  have huheal : (tetherGet u k).heal = some h := by
    rw [hcarries.1]
    exact hheal
  rw [← healAnswered_eq]
  by_cases hn : n = h.tick
  · have htaken : healAnswer k fromB n u = modTether k (fun x => { x with heal := some (healAnswered fromB h) }) u := by
      have hstill : (healAnswered fromB h).cancelling = false := by
        rw [healAnswered_eq]
        exact hcancel
      have htick : n = if h.cancelling = true then 0 else h.tick := by
        rw [hcancel]
        exact hn
      rw [healAnswer_of_heal huheal, if_pos htick, hstill]
      rfl
    rw [htaken]
    refine completes_next ⟨fun h => absurd hn h, fun _ => ⟨?_, fun j hj => ?_⟩, ?_⟩
    · rw [tetherGet_modTether_self hk, hcarries.1]
    · rw [tethersBut_modTether k _ u j hj, hcarries.2 j hj]
    · rw [hframe]
      rfl
  · have hkept : healAnswer k fromB n u = u := by
      have htick : n ≠ if h.cancelling = true then 0 else h.tick := by
        rw [hcancel]
        exact hn
      rw [healAnswer_of_heal huheal, if_neg htick]
    rw [hkept]
    exact completes_next ⟨fun _ => hcarries, fun h => absurd h hn, hframe⟩

theorem completes_healAnswer_cancelled {k : Nat} {fromB : Bool} {rx : Arrival} {h : Heal} {s : State} (hk : k < 4)
    (htakes : HubTakes s k { pos := rx.pos, dir := true, type := 8 } rx) (hheal : (tetherGet s k).heal = some h)
    (hcancel : h.cancelling = true) (hA : (h.answeredA || !fromB) = true) (hB : (h.answeredB || fromB) = true)
    (hmode : (tetherGet s k).mode = 3) (hready : bothReady (tetherGet s k) = true) (hone : (tetherGet s k).double = false)
    (hheld : healHeld s k = false) :
    Completes (exec (.healAnswer k fromB 0 rx) s) fun t =>
      (∃ n, (tetherGet t k).heal = some n ∧ n.cancelling = false ∧ s.sys.tick + 160000 ≤ n.tick) ∧ TethersBut k s t := by
  rw [exec_healAnswer htakes]
  have hcarries := carries_broughtIn k { pos := rx.pos, dir := true, type := 8 } rx s
  have hsame : (broughtIn k { pos := rx.pos, dir := true, type := 8 } rx s).sys = s.sys ∧
      (broughtIn k { pos := rx.pos, dir := true, type := 8 } rx s).tth.hold = s.tth.hold := ⟨rfl, rfl⟩
  generalize broughtIn k { pos := rx.pos, dir := true, type := 8 } rx s = u at *
  obtain ⟨husys, huhold⟩ := hsame
  have huheal : (tetherGet u k).heal = some h := by
    rw [hcarries.1]
    exact hheal
  have hall : ((healAnswered fromB h).cancelling && (healAnswered fromB h).answeredA && (healAnswered fromB h).answeredB) = true := by
    rw [healAnswered_eq, hcancel, hA, hB]
    rfl
  have htick : 0 = if h.cancelling = true then 0 else h.tick := by
    rw [hcancel]
    rfl
  rw [healAnswer_of_heal huheal, if_pos htick]
  dsimp only
  rw [if_pos hall]
  set v := modTether k (fun x => { x with heal := none })
    (modTether k (fun x => { x with heal := some (healAnswered fromB h) }) u) with hv
  have hvself : tetherGet v k = { tetherGet u k with heal := none } := by
    rw [hv, tetherGet_modTether_self hk, tetherGet_modTether_self hk]
  have hvbut : TethersBut k s v :=
    tethersBut_trans hcarries.2 (tethersBut_trans (tethersBut_modTether k _ u) (tethersBut_modTether k _ _))
  have hvsys : v.sys = s.sys := husys
  have hvhold : v.tth.hold = s.tth.hold := huhold
  clear_value v
  rw [hcarries.1] at hvself
  have hvheld : healHeld v k = false := by
    rw [healHeld, hvhold, hvself]
    exact hheld
  obtain ⟨⟨n, hstarts, hnew, -, -, hahead⟩, -⟩ := healStarts_tryHeal hk (by rw [hvself]; exact hmode) (by rw [hvself])
    (by rw [hvself, bothReady]; exact hready) (by rw [hvself]; exact hone) hvheld
  refine completes_next ⟨⟨n, by rw [hstarts.1], hnew, ?_⟩, fun j hj => (hstarts.2 j hj).trans (hvbut j hj)⟩
  rw [← hvsys]
  exact hahead

theorem completes_healResend {k : Nat} {s : State} (hk : k < 4) (hring : ringLive s = true) :
    Completes (exec (.healResend k) s) fun t =>
      Carries k (tetherGet s k) s t ∧ t = { s with tth := t.tth } ∧ ((tetherGet s k).heal = none → t = s) ∧
      (∀ h, (tetherGet s k).heal = some h →
        let due := h.cancelling = true ∨ s.sys.tick + 48000 ≤ h.tick
        let tick := natLe 8 (if h.cancelling then 0 else h.tick)
        (¬ due → t = s) ∧
        (∀ p, due → h.answeredB = false → neighbour s k true = some p →
          Safety.Leaves k .retEnd (hubFrame p false 8 tick) s t) ∧
        (∀ p, due → h.answeredB = true → h.answeredA = false → neighbour s k false = some p →
          Safety.Leaves k .outEnd (hubFrame p false 8 tick) s t)) := by
  have hexec : exec (.healResend k) s = .next (match (tetherGet s k).heal with
      | some h => if h.cancelling || decide (s.sys.tick + 48000 ≤ h.tick) then sendHeals k s else s
      | none => s) := by
    show execHealResend k s = _
    rw [execHealResend, onRing_of_live hring] <;> rfl
  rw [hexec]
  obtain ⟨hcarries, hframe⟩ := sendHeals_kept k s
  cases hheal : (tetherGet s k).heal with
  | none => exact completes_next ⟨carries_refl k s, rfl, fun _ => rfl, nofun⟩
  | some h =>
    obtain ⟨hret, hout⟩ := sendHeals_leaves hk hheal
    dsimp only
    by_cases hdue : (h.cancelling || decide (s.sys.tick + 48000 ≤ h.tick)) = true
    · rw [if_pos hdue]
      refine completes_next ⟨hcarries, hframe, nofun, fun h' hh => ?_⟩
      cases hh
      exact ⟨fun hno => absurd (by simpa using hdue) hno, fun p _ hB hp => hret p hB hp, fun p _ hB hA hp => hout p hB hA hp⟩
    · rw [if_neg hdue]
      refine completes_next ⟨carries_refl k s, rfl, nofun, fun h' hh => ?_⟩
      cases hh
      have hno : ¬ (h.cancelling = true ∨ s.sys.tick + 48000 ≤ h.tick) := fun hyes => hdue (by simpa using hyes)
      exact ⟨fun _ => rfl, fun p hyes => absurd hyes hno, fun p hyes => absurd hyes hno⟩

/-- A record put back as it was changes nothing. -/
theorem modTether_of_fixed {k : Nat} (hk : k < 4) {f : Tether → Tether} {s : State} (h : f (tetherGet s k) = tetherGet s k) :
    modTether k f s = s := by
  have hsame : s.tth.tethers.setIfInBounds k (tetherGet s k) = s.tth.tethers := by
    apply Vector.ext
    intro i hi
    rw [Vector.getElem_setIfInBounds]
    split
    · rename_i hik
      subst hik
      simp [tetherGet, hk]
    · rfl
  rw [modTether, h, hsame]

theorem completes_healCancel {k : Nat} {h : Heal} {s : State} (hring : ringLive s = true) (hk : k < 4)
    (hheal : (tetherGet s k).heal = some h) (hcancel : h.cancelling = false) :
    Completes (exec (.healCancel k) s) fun t =>
      (h.answeredA = true ∧ h.answeredB = true → t = s) ∧
      (h.answeredA = false ∨ h.answeredB = false →
        Carries k { tetherGet s k with
          quiet := none
          heal := some { h with
            cancelling := true, answeredA := (tetherGet s k).linkOut.stands
            answeredB := (tetherGet s k).linkRet.stands } } s t ∧
        t = { s with tth := t.tth } ∧
        ∀ p, (tetherGet s k).linkRet.stands = false → neighbour s k true = some p →
          (tetherGet t k).sent.getLast? = some (.retEnd, frameSyms (hubFrame p false 8 (natLe 8 0)))) := by
  have hexec : exec (.healCancel k) s = .next (
      if (tetherGet (modTether k cancelHeal s) k).heal = (tetherGet s k).heal then modTether k cancelHeal s
      else sendHeals k (modTether k cancelHeal s)) := by
    show execHealCancel k s = _
    rw [execHealCancel, onRing_of_live hring]
  rw [hexec]
  by_cases hboth : h.answeredA = true ∧ h.answeredB = true
  · have hkept : cancelHeal (tetherGet s k) = tetherGet s k := by
      unfold cancelHeal
      rw [hheal]
      exact if_pos (by rw [hboth.1, hboth.2]; exact Bool.or_true _)
    rw [modTether_of_fixed hk hkept, if_pos rfl]
    refine completes_next ⟨fun _ => rfl, fun hno => ?_⟩
    rcases hno with hno | hno
    · exact absurd (hboth.1.symm.trans hno) (by decide)
    · exact absurd (hboth.2.symm.trans hno) (by decide)
  · have hopen : ¬ (h.cancelling || (h.answeredA && h.answeredB)) = true := fun hyes => hboth (by simpa [hcancel] using hyes)
    set off : Heal := { h with
      cancelling := true, answeredA := (tetherGet s k).linkOut.stands, answeredB := (tetherGet s k).linkRet.stands } with hoff
    have hcut : cancelHeal (tetherGet s k) = { quietEnd (tetherGet s k) with heal := some off } := by
      unfold cancelHeal
      rw [hheal]
      exact if_neg hopen
    set u := modTether k cancelHeal s with hu
    have huself : tetherGet u k = { quietEnd (tetherGet s k) with heal := some off } := by
      rw [hu, tetherGet_modTether_self hk, hcut]
    rw [quietEnd_frame] at huself
    have hubut : TethersBut k s u := tethersBut_modTether k _ s
    have huframe : u = { s with tth := u.tth } := rfl
    clear_value u
    have huheal : (tetherGet u k).heal = some off := by rw [huself]
    have hdiffers : ¬ (tetherGet u k).heal = (tetherGet s k).heal := by
      rw [huheal, hheal]
      intro hsame
      have hsame' : off.cancelling = h.cancelling := by rw [Option.some.inj hsame]
      rw [hcancel] at hsame'
      exact absurd (show true = false from hsame') (by decide)
    have hneighbour : neighbour u k true = neighbour s k true :=
      neighbour_of (by rw [huframe]) (by rw [huframe]) (by rw [huself]) (by rw [huself]) true
    obtain ⟨hcarries, hframe⟩ := sendHeals_kept k u
    obtain ⟨hret, -⟩ := sendHeals_leaves hk huheal
    rw [if_neg hdiffers]
    generalize sendHeals k u = t at *
    refine completes_next ⟨fun hyes => absurd hyes hboth, fun _ => ⟨⟨?_, fun j hj => ?_⟩, ?_, fun p hstands hp => ?_⟩⟩
    · rw [hcarries.1, huself]
    · rw [hcarries.2 j hj, hubut j hj]
    · rw [hframe, huframe]
    · refine hret p ?_ (hneighbour.trans hp) ?_
      · exact hstands
      · rw [quietNow, huself]

end Machine
end Sys2Proof
end

section
/-! LINK frames, HEAL at a satellite, the unwrap and TTH_CMD (R414, R418, R422 to R428, R432, R435). -/
namespace Sys2Proof
namespace Machine

set_option Elab.async false

open Safety

/-! ### LINK_SEND -/

theorem modPair_frame (pairK : Bool) (f : PairOut → PairOut) (x : Sat) :
    modPair pairK f x = { x with outF := (modPair pairK f x).outF, outK := (modPair pairK f x).outK } := by
  cases pairK <;> rfl

theorem satSend_if_frame (c pairK : Bool) (f : RingFrame) (x : Sat) :
    (if c then satSend pairK f x else x) = { x with
      outF := (if c then satSend pairK f x else x).outF, outK := (if c then satSend pairK f x else x).outK } := by
  cases c with
  | false => rfl
  | true => exact modPair_frame pairK _ x

theorem sendLinks_frame (x : Sat) : sendLinks x = { x with
    answer := [byte (bit x.linkHeard + 2)], outF := (sendLinks x).outF, outK := (sendLinks x).outK } := by
  set y : Sat := { x with answer := [byte (bit x.linkHeard + 2)] } with hy
  set z := if y.foldB then satSend false (linkFrame x.position false x.linkHeard true) y else y with hz
  have hsend : sendLinks x = if z.foldA then satSend true (linkFrame x.position true x.linkHeard true) z else z := rfl
  have hzframe : z = { y with outF := z.outF, outK := z.outK } := satSend_if_frame ..
  rw [hsend]
  calc _ = { z with outF := _, outK := _ } := satSend_if_frame ..
    _ = _ := by rw [hzframe]

theorem completes_linkSend {sat : Nat} {s : State} (hsat : posNo sat ≠ 0) :
    Completes (exec (.linkSend sat) s) fun t =>
      let x := satGet s sat
      (satHears x = false ∨ (x.foldA = false ∧ x.foldB = false) → t = s) ∧
      (satHears x = true → x.foldA = true ∨ x.foldB = true →
        SatOuts sat { x with answer := [byte (bit x.linkHeard + 2)] } s t) := by
  have hexec : exec (.linkSend sat) s = .next (if satHears (satGet s sat) &&
      ((satGet s sat).foldA || (satGet s sat).foldB) then modSat sat sendLinks s else s) :=
    congrArg Host.Outcome.next (if_neg hsat)
  rw [hexec]
  refine completes_next ⟨fun hno => ?_, fun hhears hfold => ?_⟩
  · rw [if_neg]
    rcases hno with hno | ⟨hA, hB⟩
    · simp [hno]
    · simp [hA, hB]
  · rw [if_pos (by simpa [hhears] using hfold)]
    obtain ⟨hself, hothers, hframe⟩ := satIs_modSat sat sendLinks s
    refine ⟨?_, hothers, hframe⟩
    rw [hself]
    exact sendLinks_frame _

/-- LINK frames of a hub end that stands in for a neighbour. -/
theorem completes_linkSend_hub {sat : Nat} {s : State} (hsat : sat < 256) (hhub : posNo sat = 0) :
    Completes (exec (.linkSend sat) s) fun t =>
      let k := posTether sat
      let x := tetherGet s k
      Carries k x s t ∧ t = { s with tth := t.tth } ∧
      (x.linkOut.stands = false → x.linkRet.stands = false → t = s) ∧
      (x.linkOut.stands = true → x.linkRet.stands = false →
      Safety.Leaves k .outEnd (linkFrame 0 false x.linkOut.heard true) s t) ∧
      (x.linkRet.stands = true → Safety.Leaves k .retEnd (linkFrame 0 true x.linkRet.heard true) s t) := by
  have hk : posTether sat < 4 := posTether_lt hsat
  set k := posTether sat with hkdef
  have hexec : exec (.linkSend sat) s = .next (hubLinks k s) := congrArg Host.Outcome.next (if_pos hhub)
  have hlinks : hubLinks k s =
      let u := if (tetherGet s k).linkOut.stands = true then
        hubSend k .outEnd (linkFrame 0 false (tetherGet s k).linkOut.heard true) s else s
      if (tetherGet s k).linkRet.stands = true then
        hubSend k .retEnd (linkFrame 0 true (tetherGet s k).linkRet.heard true) u else u := rfl
  rw [hexec, hlinks]
  dsimp only
  set u := if (tetherGet s k).linkOut.stands = true then
    hubSend k .outEnd (linkFrame 0 false (tetherGet s k).linkOut.heard true) s else s with hu
  have hwords : Carries k (tetherGet s k) s u ∧ u = { s with tth := u.tth } ∧
      ((tetherGet s k).linkOut.stands = false → u = s) ∧ ((tetherGet s k).linkOut.stands = true →
        Safety.Leaves k .outEnd (linkFrame 0 false (tetherGet s k).linkOut.heard true) s u) := by
    rw [hu]
    cases (tetherGet s k).linkOut.stands with
    | false =>
      rw [if_neg Bool.false_ne_true]
      exact ⟨carries_refl k s, rfl, fun _ => rfl, nofun⟩
    | true =>
      rw [if_pos rfl]
      exact ⟨carries_hubSend (carries_refl k s) _ _, rfl, nofun, fun _ => leaves_hubSend hk rfl rfl⟩
  clear_value u
  obtain ⟨hcarries, hframe, hkept, hleaves⟩ := hwords
  have htick : u.sys.tick = s.sys.tick := by rw [hframe]
  cases (tetherGet s k).linkRet.stands with
  | false =>
    rw [if_neg Bool.false_ne_true]
    exact completes_next ⟨hcarries, hframe, fun hout _ => hkept hout, fun hout _ => hleaves hout, nofun⟩
  | true =>
    rw [if_pos rfl]
    refine completes_next ⟨carries_hubSend hcarries _ _, ?_, nofun, nofun,
      fun _ => leaves_hubSend hk htick (carries_quiet hcarries)⟩
    rw [hframe]
    rfl

/-! ### LINK_FRAME -/

/-- A satellite with new words of its own reports a result. -/
theorem satReports_satResult (sat : Nat) (r : SatResult) (g : Sat → Sat) (s : State) :
    SatReports sat (g (satGet s sat)) r s (satResult sat r (modSat sat g s)) := by
  obtain ⟨hself, hbut⟩ := reported_satResult sat r (modSat sat g s)
  have hsends := sends_satResult sat r (modSat sat g s)
  obtain ⟨hmself, hmothers, hmframe⟩ := satIs_modSat sat g s
  have hframe : satResult sat r (modSat sat g s) =
      { s with sat := { s.sat with sats := (satResult sat r (modSat sat g s)).sat.sats } } := rfl
  generalize satResult sat r (modSat sat g s) = t at *
  refine ⟨⟨?_, fun j hj => ?_, hframe⟩, hsends⟩
  · rw [hmself] at hself
    exact hself
  · rw [hbut j hj, hmothers j hj]

theorem completes_linkFrame {sat : Nat} {r w : Bool} {rx : Arrival} {s : State} (hsat : posNo sat ≠ 0)
    (hhears : satHears (satGet s sat) = true) (harrives : Arrives (linkFrame rx.pos rx.pairK r w) rx) :
    Completes (exec (.linkFrame sat r w rx) s) fun t =>
      let x := satGet s sat
      let b := rx.pairK
      ((if b then x.foldB else x.foldA) = true →
        SatIs sat { x with linkHeard := true, linkRx := r, linkRxWrapped := w } s t) ∧
      ((if b then x.foldB else x.foldA) = false → x.unwrapped = true → w = true → x.lastPortB = b →
        SatReports sat { x with
            foldA := x.foldA || !b, foldB := x.foldB || b, foldDue := none, unwrapped := false, silent := true
            linkHeard := true, linkRx := r, linkRxWrapped := true }
          { kind := 0x04, payload := [byte (bit (!b) + 2 * bit b), byte (bit b)] } s t) ∧
      ((if b then x.foldB else x.foldA) = false → x.unwrapped = false ∨ w = false ∨ x.lastPortB ≠ b → t = s) := by
  have hexec : exec (.linkFrame sat r w rx) s = .next (linkTaken sat rx.pairK r w s) := by
    show Host.Outcome.next (if posNo sat = 0 then _ else _) = _
    rw [if_neg hsat, onSat_mine hhears harrives]
  rw [hexec]
  unfold linkTaken
  dsimp only
  refine completes_next ⟨fun hfold => ?_, fun hfold hun hw hlast => ?_, fun hfold hno => ?_⟩
  · rw [if_pos hfold]
    exact satIs_modSat sat _ s
  · rw [if_neg (by rw [hfold]; decide), hun, hw, hlast, if_pos (by simp)]
    obtain ⟨⟨hself, hothers, hframe⟩, hsends⟩ := satReports_satResult sat (wrapResult (!rx.pairK) rx.pairK rx.pairK)
      (fun x => { x with
        foldA := x.foldA || !rx.pairK, foldB := x.foldB || rx.pairK, lastPortB := rx.pairK, foldDue := none
        unwrapped := false, silent := true }) s
    have hform : formFold sat rx.pairK s = satResult sat (wrapResult (!rx.pairK) rx.pairK rx.pairK) (modSat sat (fun x => { x with
        foldA := x.foldA || !rx.pairK, foldB := x.foldB || rx.pairK, lastPortB := rx.pairK, foldDue := none
        unwrapped := false, silent := true }) s) := rfl
    rw [← hform] at hself hothers hframe hsends
    generalize formFold sat rx.pairK s = u at *
    obtain ⟨hnself, hnothers, hnframe⟩ := satIs_modSat sat (fun x => { x with
      linkHeard := true, linkRx := r, linkRxWrapped := true }) u
    refine ⟨⟨?_, fun j hj => ?_, ?_⟩, ?_⟩
    · rw [hnself, hself, ← hlast]
    · rw [hnothers j hj, hothers j hj]
    · rw [hnframe, hframe]
    · rw [hnself]
      exact hsends
  · rw [if_neg (by rw [hfold]; decide), if_neg]
    rcases hno with hno | hno | hno
    · simp [hno]
    · simp [hno]
    · simp [hno]

theorem completes_healReadyTimer {sat : Nat} {s : State} (hsat : posNo sat ≠ 0) (hhears : satHears (satGet s sat) = true)
    (hrx : (satGet s sat).linkRx = true) (hfold : (satGet s sat).foldA = true ∨ (satGet s sat).foldB = true) :
    Completes (exec (.healReadyTimer sat) s) fun t => SatReports sat (satGet s sat) { kind := 0x05 } s t := by
  have hready : satHealReady sat s = satResult sat { kind := 0x05 } s := by
    unfold satHealReady
    dsimp only
    rw [if_pos (by simpa [hhears, hrx] using hfold)]
  have hexec : exec (.healReadyTimer sat) s = .next (satResult sat { kind := 0x05 } s) := by
    show Host.Outcome.next (if posNo sat = 0 then _ else _) = _
    rw [if_neg hsat, hready]
  rw [hexec]
  obtain ⟨hself, hbut⟩ := reported_satResult sat { kind := 0x05 } s
  exact completes_next ⟨⟨hself, hbut, rfl⟩, sends_satResult sat { kind := 0x05 } s⟩

theorem completes_healReadyTimer_deaf {sat : Nat} {s : State} (hsat : posNo sat ≠ 0) (hrx : (satGet s sat).linkRx = false) :
    Completes (exec (.healReadyTimer sat) s) fun t => t = s := by
  have hready : satHealReady sat s = s := by
    unfold satHealReady
    dsimp only
    rw [if_neg (by simp [hrx])]
  have hexec : exec (.healReadyTimer sat) s = .next s := by
    show Host.Outcome.next (if posNo sat = 0 then _ else _) = _
    rw [if_neg hsat, hready]
  rw [hexec]
  exact completes_next rfl

theorem completes_healFrame {sat n : Nat} {rx : Arrival} {s : State}
    (htakes : TakesFrame (satGet s sat) (toSat rx false 8 (natLe 8 n)) rx) :
    Completes (exec (.healFrame sat n rx) s) fun t =>
      let x := satGet s sat
      (x.foldA = true ∨ x.foldB = true →
        SatIs sat (satAnswer rx 8 false [] { x with unwrapAt := if n = 0 then none else some n }) s t) ∧
      (x.foldA = false → x.foldB = false → SatIs sat x s t) := by
  have hexec : exec (.healFrame sat n rx) s = .next (modSat sat (fun x => if x.foldA || x.foldB then
      satAnswer rx 8 false [] { x with unwrapAt := if n = 0 then none else some n } else x) s) :=
    congrArg Host.Outcome.next (onSat_of_takes htakes _)
  have his := satIs_modSat sat (fun x => if x.foldA || x.foldB then
      satAnswer rx 8 false [] { x with unwrapAt := if n = 0 then none else some n } else x) s
  rw [hexec]
  refine completes_next ⟨fun hfold => ?_, fun hA hB => ?_⟩
  · rw [if_pos (by simpa using hfold)] at his
    exact his
  · rw [hA, hB, if_neg (by decide)] at his
    exact his

section
variable {k : Nat} {r w : Bool} {rx : Arrival} {s : State} (hk : k < 4) (htakes : HubTakes s k (linkFrame rx.pos rx.pairK r w) rx)
include hk htakes

omit hk in
/-- A LINK frame has come to a hub end. -/
theorem linkCame : ∃ u, (∀ sat, posTether sat = k → posNo sat = 0 →
      exec (.linkFrame sat r w rx) s = .next (hubLink k rx.pairK r w u)) ∧
    Carries k (tetherGet s k) s u ∧ u = { s with tth := u.tth } := by
  obtain ⟨hring, hdeclared, harrives⟩ := htakes
  refine ⟨broughtIn k (linkFrame rx.pos rx.pairK r w) rx s, fun sat hsat hhub => ?_,
    carries_broughtIn k (linkFrame rx.pos rx.pairK r w) rx s, rfl⟩
  show Host.Outcome.next (if posNo sat = 0 then (if ringLive s then received (posTether sat) (linkFrame rx.pos rx.pairK r w) rx
    (hubLink (posTether sat) rx.pairK r w) s else s) else _) = _
  rw [if_pos hhub, if_pos hring, hsat, received_of_arrives hdeclared harrives]

omit htakes in
/-- An end that stands in notes what the frame says. -/
theorem hubLink_notes {u : State} (hcarries : Carries k (tetherGet s k) s u) (hframe : u = { s with tth := u.tth }) :
    let e : LinkEnd := { stands := true, heard := true, rx := r }
    (rx.pairK = true → (tetherGet s k).linkOut.stands = true →
      Carries k { tetherGet s k with linkOut := e } s (hubLink k rx.pairK r w u) ∧
      hubLink k rx.pairK r w u = { s with tth := (hubLink k rx.pairK r w u).tth }) ∧
    (rx.pairK = false → (tetherGet s k).linkRet.stands = true →
      Carries k { tetherGet s k with linkRet := e } s (hubLink k rx.pairK r w u) ∧
      hubLink k rx.pairK r w u = { s with tth := (hubLink k rx.pairK r w u).tth }) := by
  obtain ⟨hself, hbut⟩ := hcarries
  have hends : (tetherGet u k).linkOut = (tetherGet s k).linkOut ∧ (tetherGet u k).linkRet = (tetherGet s k).linkRet := by
    rw [hself]
    exact ⟨rfl, rfl⟩
  obtain ⟨hout, hret⟩ := hends
  refine ⟨fun hpair hstands => ?_, fun hpair hstands => ?_⟩
  · have hlinks : hubLink k rx.pairK r w u =
        modTether k (fun x => { x with linkOut := { x.linkOut with heard := true, rx := r } }) u := by
      rw [hubLink, hpair, if_pos rfl, if_pos (by rw [hout]; exact hstands)]
    have hvself := tetherGet_modTether_self hk (fun x => { x with linkOut := { x.linkOut with heard := true, rx := r } }) u
    have hvbut := tethersBut_modTether k (fun x => { x with linkOut := { x.linkOut with heard := true, rx := r } }) u
    have hvframe : modTether k (fun x => { x with linkOut := { x.linkOut with heard := true, rx := r } }) u =
        { u with tth := (modTether k (fun x => { x with linkOut := { x.linkOut with heard := true, rx := r } }) u).tth } := rfl
    rw [hlinks]
    generalize modTether k (fun x => { x with linkOut := { x.linkOut with heard := true, rx := r } }) u = v at *
    dsimp only at hvself
    rw [hout, hstands] at hvself
    refine ⟨⟨?_, fun j hj => (hvbut j hj).trans (hbut j hj)⟩, by rw [hvframe, hframe]⟩
    rw [hvself, hself]
  · have hlinks : hubLink k rx.pairK r w u =
        modTether k (fun x => { x with linkRet := { x.linkRet with heard := true, rx := r } }) u := by
      rw [hubLink, hpair, if_neg Bool.false_ne_true, if_pos (by rw [hret]; exact hstands)]
    have hvself := tetherGet_modTether_self hk (fun x => { x with linkRet := { x.linkRet with heard := true, rx := r } }) u
    have hvbut := tethersBut_modTether k (fun x => { x with linkRet := { x.linkRet with heard := true, rx := r } }) u
    have hvframe : modTether k (fun x => { x with linkRet := { x.linkRet with heard := true, rx := r } }) u =
        { u with tth := (modTether k (fun x => { x with linkRet := { x.linkRet with heard := true, rx := r } }) u).tth } := rfl
    rw [hlinks]
    generalize modTether k (fun x => { x with linkRet := { x.linkRet with heard := true, rx := r } }) u = v at *
    dsimp only at hvself
    rw [hret, hstands] at hvself
    refine ⟨⟨?_, fun j hj => (hvbut j hj).trans (hbut j hj)⟩, by rw [hvframe, hframe]⟩
    rw [hvself, hself]

omit hk htakes in
/-- WRAPPED at an OUT end whose segment was just healed: the end stands in again (R428). -/
theorem hubLink_wrapped {u : State} (hdeclared : (rigTether u k).isSome = true) (hpair : rx.pairK = true)
    (hstands : (tetherGet u k).linkOut.stands = false) (hmode : (tetherGet u k).mode = 2) (hw : w = true)
    (hhealed : (tetherGet u k).healed.map (fun g => g.1) = some 1) : hubLink k rx.pairK r w u =
      breakSeen k true 1 2 (modTether k (fun x => { x with outLost := true, linkOut := { stands := true } }) u) := by
  have hsome : (rigTether u k).isNone = false := by rw [← Option.not_isSome, hdeclared]; rfl
  have hagain : (decide ((tetherGet u k).mode = 2) && w &&
      decide ((tetherGet u k).healed.map (fun e => e.1) = some 1)) = true := by
    rw [hmode, hw, hhealed]
    rfl
  rw [hubLink, hpair, if_pos rfl, if_neg (by rw [hstands]; decide)]
  dsimp only
  rw [if_pos hagain, endLost, hsome, if_neg Bool.false_ne_true, if_neg Bool.false_ne_true]

omit htakes in
/-- The break at the OUT end stands again on both sides. -/
theorem breakSeen_again {v : State} (hlive : Live v) (hmode : (tetherGet v k).mode = 2)
    (hhealed : (tetherGet v k).healed.map (fun g => g.1) = some 1) (hstands : (tetherGet v k).linkOut.stands = true) :
    (tetherGet (breakSeen k true 1 2 v) k).mode = 3 ∧ (tetherGet (breakSeen k true 1 2 v) k).brkA = 1 ∧
    (tetherGet (breakSeen k true 1 2 v) k).brkB = 1 ∧ (tetherGet (breakSeen k true 1 2 v) k).linkOut.stands = true := by
  obtain ⟨⟨g, m, n⟩, hsome, hone⟩ := Option.map_eq_some_iff.mp hhealed
  have hg : g = 1 := hone
  rw [hg] at hsome
  have hreopened := reopened_of_healed hmode hsome
  have hbroken := withBreak_frame v.sys.tick true (newBreak 1 (tetherGet v k)) 1 2 (tetherGet v k)
  rw [hreopened] at hbroken
  dsimp only at hbroken
  have hshown := (breakShown_breakSeen (sideB := true) (seg := 1) (pairs := 2) hk hlive (by
    rw [hbroken]
    exact .inr (.inr rfl))).tether.1
  rw [hbroken] at hshown
  generalize breakSeen k true 1 2 v = t at *
  refine ⟨by rw [hshown], ?_, ?_, ?_⟩
  · rw [hshown]
    rfl
  · rw [hshown]
    rfl
  · rw [hshown]
    exact hstands

end

/-- LINK frames at a hub end. -/
theorem completes_linkFrame_hub {sat : Nat} {r w : Bool} {rx : Arrival} {s : State} (hsat : sat < 256) (hhub : posNo sat = 0)
    (htakes : HubTakes s (posTether sat) (linkFrame rx.pos rx.pairK r w) rx) :
    Completes (exec (.linkFrame sat r w rx) s) fun t =>
      let k := posTether sat
      let x := tetherGet s k
      let e : LinkEnd := { stands := true, heard := true, rx := r }
      (rx.pairK = true → x.linkOut.stands = true → Carries k { x with linkOut := e } s t ∧ t = { s with tth := t.tth }) ∧
      (rx.pairK = false → x.linkRet.stands = true → Carries k { x with linkRet := e } s t ∧ t = { s with tth := t.tth }) ∧
      (rx.pairK = true → x.linkOut.stands = false → x.mode = 2 → w = true → x.healed.map (fun g => g.1) = some 1 →
        (tetherGet t k).mode = 3 ∧ (tetherGet t k).brkA = 1 ∧ (tetherGet t k).brkB = 1 ∧
        (tetherGet t k).linkOut.stands = true) := by
  have hk : posTether sat < 4 := posTether_lt hsat
  obtain ⟨u, hexec, hcarries, hframe⟩ := linkCame htakes
  rw [hexec sat rfl hhub]
  set k := posTether sat with hkdef
  obtain ⟨hout, hret⟩ := hubLink_notes (r := r) (w := w) (rx := rx) hk hcarries hframe
  refine completes_next ⟨hout, hret, fun hpair hstands hmode hw hhealed => ?_⟩
  have hux : (tetherGet u k).mode = 2 ∧ (tetherGet u k).healed.map (fun g => g.1) = some 1 ∧
      (tetherGet u k).linkOut.stands = false := by
    rw [hcarries.1]
    exact ⟨hmode, hhealed, hstands⟩
  obtain ⟨humode, huhealed, hustands⟩ := hux
  have hudeclared : (rigTether u k).isSome = true := by
    rw [hframe]
    exact htakes.2.1
  have hulive : Live u := by
    have hsys : u.sys = s.sys := by rw [hframe]
    rw [Live, hsys]
    exact live_of_ringLive htakes.1
  rw [hubLink_wrapped hudeclared hpair hustands humode hw huhealed]
  have hvself := tetherGet_modTether_self hk (fun x => { x with outLost := true, linkOut := { stands := true } }) u
  have hvlive : Live (modTether k (fun x => { x with outLost := true, linkOut := { stands := true } }) u) := hulive
  generalize modTether k (fun x => { x with outLost := true, linkOut := { stands := true } }) u = v at *
  exact breakSeen_again hk hvlive (by rw [hvself]; exact humode) (by rw [hvself]; exact huhealed) (by rw [hvself])

/-! ### UNWRAP -/

/-- What the resynchronization of satellites after a heal leaves. -/
structure AfterHeal (k : Nat) (l : List Nat) (s t : State) : Prop where
  tether : Carries k (tetherGet s k) s t
  words : HubWords s t
  shown : ∀ p, p ∈ l ∨ ((viewGet s p).path = .outEnd ∧ (viewGet s p).folded = false) →
    (viewGet t p).path = .outEnd ∧ (viewGet t p).folded = false

theorem afterHeal_one {k p : Nat} (hp : posTether p = k) (s : State) : AfterHeal k [p] s (afterHeal k p s) := by
  set m := modView p (fun v => { v with t1 := some (16 * s.sys.tick), t4 := none })
    (modView p (fun v => { v with path := .outEnd, folded := false, provQuery := (viewGet s p).prov }) s) with hm
  have hmself : (viewGet m p).path = .outEnd ∧ (viewGet m p).folded = false := by
    rw [hm, viewGet_modView, if_pos rfl, viewGet_modView, if_pos rfl]
    exact ⟨rfl, rfl⟩
  have hmother : ∀ q, q ≠ p → viewGet m q = viewGet s q := fun q hq => by
    rw [hm, viewGet_modView, if_neg hq, viewGet_modView, if_neg hq]
  have hmcarries : Carries k (tetherGet s k) s m := carries_refl k s
  have hmwords : HubWords s m := rfl
  have hafter : afterHeal k p s = (if (viewGet s p).prov then
      hubSend k .outEnd (hubFrame p false 4 [0]) (hubSend (posTether p) (viewGet m p).path (hubFrame p false 6 []) m)
      else hubSend (posTether p) (viewGet m p).path (hubFrame p false 6 []) m) := rfl
  rw [hafter, hp]
  clear_value m
  have hview : ∀ (e : RingEnd) (f : RingFrame) (u : State) (q : Nat), viewGet (hubSend k e f u) q = viewGet u q :=
    fun _ _ _ _ => rfl
  have hshown : ∀ q, q ∈ [p] ∨ ((viewGet s q).path = .outEnd ∧ (viewGet s q).folded = false) →
      (viewGet m q).path = .outEnd ∧ (viewGet m q).folded = false := by
    intro q hq
    by_cases hqp : q = p
    · rw [hqp]
      exact hmself
    · rw [hmother q hqp]
      exact hq.resolve_left (by simpa using hqp)
  have hfirst := carries_hubSend hmcarries (viewGet m p).path (hubFrame p false 6 [])
  split
  · exact ⟨carries_hubSend hfirst _ _, hubWords_trans hmwords rfl, hshown⟩
  · exact ⟨hfirst, hubWords_trans hmwords rfl, hshown⟩

theorem afterHeal_list {k : Nat} {l : List Nat} (hl : ∀ p ∈ l, posTether p = k) (s : State) :
    AfterHeal k l s (l.foldl (fun s p => afterHeal k p s) s) := by
  induction l generalizing s with
  | nil => exact ⟨carries_refl k s, rfl, fun p hp => hp.resolve_left List.not_mem_nil⟩
  | cons p l ih =>
    obtain ⟨hcarries, hwords, hshown⟩ := afterHeal_one (hl p List.mem_cons_self) s
    obtain ⟨hcarries', hwords', hshown'⟩ := ih (fun q hq => hl q (List.mem_cons_of_mem p hq)) (afterHeal k p s)
    rw [List.foldl_cons]
    refine ⟨⟨?_, fun j hj => (hcarries'.2 j hj).trans (hcarries.2 j hj)⟩, hubWords_trans hwords hwords', fun q hq => hshown' q ?_⟩
    · rw [hcarries'.1, hcarries.1]
    · rcases hq with hq | hq
      · rcases List.mem_cons.mp hq with rfl | hq
        · exact .inr (hshown q (.inl List.mem_cons_self))
        · exact .inl hq
      · exact .inr (hshown q (.inr hq))

theorem tblGet_map_place {α : Type} (d : α) (f : Nat → α → α) (l : Tbl α) (i : Nat) (hd : f i d = d) :
    tblGet d (l.map (fun e => (e.1, f e.1 e.2))) i = f i (tblGet d l i) := by
  induction l with
  | nil => exact hd.symm
  | cons e l ih =>
    obtain ⟨k, v⟩ := e
    rw [List.map_cons, tblGet, tblGet, ih]
    split
    · rename_i h
      rw [h]
    · rfl

/-- A satellite of the tether that holds an unwrap tick unfolds. -/
def unfoldAt (k p : Nat) (x : Sat) : Sat := if posTether p = k ∧ x.unwrapAt.isSome = true then unfold x else x

theorem satGet_unfoldSats (k p : Nat) (s : State) : satGet (unfoldSats k s) p = unfoldAt k p (satGet s p) := by
  have hmap : (unfoldSats k s).sat.sats = s.sat.sats.map (fun e => (e.1, unfoldAt k e.1 e.2)) := by
    unfold unfoldSats unfoldAt
    dsimp only
    apply List.map_congr_left
    intro e _
    split <;> rfl
  rw [satGet, hmap]
  exact tblGet_map_place {} (unfoldAt k) s.sat.sats p (if_neg fun h => absurd h.2 (by decide))

theorem startWalk_declared {k : Nat} {s : State} (hdeclared : (rigTether s k).isSome = true)
    (hidle : (tetherGet s k).walk = none) : startWalk k s = hubSend k .outEnd (hubFrame 0 false 4 [0])
      (modTether k (fun x => { x with
        mode := if x.mode = 0 then 1 else x.mode, walk := some {}, lastWalk := s.sys.tick }) s) := by
  have hsome : (rigTether s k).isNone = false := by rw [← Option.not_isSome, hdeclared]; rfl
  unfold startWalk
  rw [hsome, hidle, if_neg (by decide)]
  rfl

/-- A walk is under way after a walk was started on a tether whose mode is known. -/
theorem startWalk_walks {k : Nat} {s : State} (hk : k < 4) (hdeclared : (rigTether s k).isSome = true)
    (hmode : (tetherGet s k).mode ≠ 0) :
    (tetherGet (startWalk k s) k).walk ≠ none ∧ Carries k { tetherGet s k with
      walk := (tetherGet (startWalk k s) k).walk, lastWalk := (tetherGet (startWalk k s) k).lastWalk } s (startWalk k s) ∧
    startWalk k s = { s with tth := (startWalk k s).tth } := by
  by_cases hidle : (tetherGet s k).walk = none
  · rw [startWalk_declared hdeclared hidle]
    set u := modTether k (fun x => { x with
      mode := if x.mode = 0 then 1 else x.mode, walk := some {}, lastWalk := s.sys.tick }) s with hu
    have hself : tetherGet u k = { tetherGet s k with walk := some {}, lastWalk := s.sys.tick } := by
      rw [hu, tetherGet_modTether_self hk, if_neg hmode]
    have hucarries : Carries k { tetherGet s k with walk := some {}, lastWalk := s.sys.tick } s u :=
      ⟨by rw [hself], tethersBut_modTether k _ s⟩
    have huframe : u = { s with tth := u.tth } := rfl
    clear_value u
    have hcarries := carries_hubSend hucarries .outEnd (hubFrame 0 false 4 [0])
    have hframe : hubSend k .outEnd (hubFrame 0 false 4 [0]) u =
        { u with tth := (hubSend k .outEnd (hubFrame 0 false 4 [0]) u).tth } := rfl
    generalize hubSend k .outEnd (hubFrame 0 false 4 [0]) u = t at *
    refine ⟨by rw [hcarries.1]; exact Option.some_ne_none _, ⟨?_, hcarries.2⟩, by rw [hframe, huframe]⟩
    rw [hcarries.1]
  · have hkept : startWalk k s = s := if_pos (.inr (Option.isSome_iff_ne_none.mpr hidle))
    rw [hkept]
    exact ⟨hidle, carries_refl k s, rfl⟩

theorem unwrap_of_heal {k : Nat} {h : Heal} {s : State} (hheal : (tetherGet s k).heal = some h) (hcancel : h.cancelling = false)
    (hA : h.answeredA = true) (hB : h.answeredB = true) : unwrap k s =
      let u := modTether k healedTether (queueTether k 1 0 s)
      startWalk k (measureLoops k ((assignedOn u k).foldl (fun s p => afterHeal k p s) u)) := by
  unfold unwrap
  rw [hheal]
  exact if_neg (by rw [hcancel, hA, hB]; decide)

theorem completes_unwrap {k : Nat} {h : Heal} {s : State} (hring : ringLive s = true) (hk : k < 4)
    (hdeclared : (rigTether s k).isSome = true) (hheal : (tetherGet s k).heal = some h) (hcancel : h.cancelling = false)
    (hA : h.answeredA = true) (hB : h.answeredB = true) :
    Completes (exec (.unwrap k) s) fun t =>
      (tetherGet t k).mode = 2 ∧ (tetherGet t k).brkA = 0 ∧ (tetherGet t k).brkB = 0 ∧ (tetherGet t k).heal = none ∧
      (tetherGet t k).walk ≠ none ∧ TethersBut k s t ∧ t.slots = s.slots ∧ t.ord = s.ord ∧
      (tetherGet t k).healed = some ((tetherGet s k).brkA, (tetherGet s k).brkAPairs, (tetherGet s k).brkBPairs) ∧
      (∀ p ∈ assignedOn s k, (viewGet t p).path = .outEnd ∧ (viewGet t p).folded = false) ∧
      (∀ p, posTether p = k → (satGet s p).unwrapAt ≠ none →
        (satGet t p).foldA = false ∧ (satGet t p).foldB = false ∧ (satGet t p).unwrapAt = none ∧
        (satGet t p).unwrapped = true ∧ (satGet t p).silent = false) ∧
      (∀ p, posTether p ≠ k → (satGet t p).foldA = (satGet s p).foldA ∧ (satGet t p).foldB = (satGet s p).foldB) := by
  have hsats := satGet_unfoldSats k
  have huframe : unfoldSats k s = { s with sat := { s.sat with sats := (unfoldSats k s).sat.sats } } := rfl
  have hexec : exec (.unwrap k) s = .next (unwrap k (unfoldSats k s)) := by
    show execUnwrap k s = _
    rw [execUnwrap, onRing_of_live (show ringLive (unfoldSats k s) = true from hring)]
  rw [hexec]
  have husats : ∀ p, satGet (unfoldSats k s) p = unfoldAt k p (satGet s p) := fun p => hsats p s
  generalize unfoldSats k s = u at *
  have hutether : ∀ j, tetherGet u j = tetherGet s j := fun j => by rw [huframe]; rfl
  have huviews : u.sat.views = s.sat.views := by rw [huframe]
  have hurest : u.sys = s.sys ∧ u.slots = s.slots ∧ u.ord = s.ord ∧ u.rig = s.rig := by
    rw [huframe]
    exact ⟨rfl, rfl, rfl, rfl⟩
  obtain ⟨husys, huslots, huord, hurig⟩ := hurest
  rw [unwrap_of_heal ((congrArg Tether.heal (hutether k)).trans hheal) hcancel hA hB]
  dsimp only
  set v := modTether k healedTether (queueTether k 1 0 u) with hv
  have hqtth : (queueTether k 1 0 u).tth = u.tth := queueRec_tth ..
  have hvself : tetherGet v k = healedTether (tetherGet s k) := by
    rw [hv, tetherGet_modTether_self hk, tetherGet_of_tth hqtth, hutether]
  have hvbut : TethersBut k s v := fun j hj => by
    rw [hv, tethersBut_modTether k _ _ j hj, tetherGet_of_tth hqtth, hutether]
  have hvframe : v = { queueTether k 1 0 u with tth := v.tth } := rfl
  have hvwords : v.sat = u.sat ∧ v.sys = s.sys ∧ v.slots = s.slots ∧ v.ord = s.ord ∧ v.rig = s.rig := by
    rw [hvframe]
    refine ⟨queueRec_sat .., ?_, ?_, ?_, ?_⟩
    · exact (queueRec_sys ..).trans husys
    · exact (queueRec_slots ..).trans huslots
    · exact (queueRec_ord ..).trans huord
    · exact (queueRec_rig ..).trans hurig
  clear_value v
  obtain ⟨hvsat, hvsys, hvslots, hvord, hvrig⟩ := hvwords
  have hvviews : ∀ q, viewGet v q = viewGet s q := viewGet_of_sat (by rw [hvsat, huviews])
  have hon : assignedOn v k = assignedOn s k := by simp only [assignedOn, tetherPositions, positions, hvrig, hvviews]
  have hmine : ∀ p ∈ assignedOn v k, posTether p = k := fun p hp =>
    of_decide_eq_true (List.mem_filter.mp (List.mem_filter.mp hp).1).2
  obtain ⟨hacarries, hawords, hashown⟩ := afterHeal_list hmine v
  rw [hon] at hashown hacarries hawords ⊢
  generalize (assignedOn s k).foldl (fun s p => afterHeal k p s) v = a at *
  have hakept : a.sys = s.sys ∧ a.slots = s.slots ∧ a.ord = s.ord ∧ a.rig = s.rig ∧ a.sat.sats = u.sat.sats := by
    rw [hawords]
    exact ⟨hvsys, hvslots, hvord, hvrig, congrArg (·.sats) hvsat⟩
  obtain ⟨hasys, haslots, haord, harig, hasats⟩ := hakept
  obtain ⟨hmself, hmbut, hmframe⟩ := measureLoops_words hk (show Live a by rw [Live, hasys]; exact live_of_ringLive hring)
  have hmkept : (measureLoops k a).slots = s.slots ∧ (measureLoops k a).ord = s.ord ∧ (measureLoops k a).rig = s.rig ∧
      (measureLoops k a).sat = a.sat := by
    refine ⟨?_, ?_, ?_, ?_⟩
    · exact (faultFrame_slots hmframe).trans haslots
    · exact (faultFrame_ord hmframe).trans haord
    · exact (faultFrame_rig hmframe).trans harig
    · have hsat := faultFrame_sat hmframe
      exact hsat
  generalize measureLoops k a = m at *
  obtain ⟨hmslots, hmord, hmrig, hmsat⟩ := hmkept
  rw [hacarries.1, hvself] at hmself
  obtain ⟨hwalks, hwcarries, hwframe⟩ := startWalk_walks hk (show (rigTether m k).isSome = true by
    rw [rigTether, hmrig]; exact hdeclared) (by rw [hmself]; exact (by decide : (2 : Nat) ≠ 0))
  generalize startWalk k m = t at *
  have htkept : t.slots = s.slots ∧ t.ord = s.ord ∧ t.sat = a.sat := by
    rw [hwframe]
    exact ⟨hmslots, hmord, hmsat⟩
  obtain ⟨htslots, htord, htsat⟩ := htkept
  have htself := hwcarries.1
  rw [hmself] at htself
  have htviews : ∀ q, viewGet t q = viewGet a q := viewGet_of_sat (by rw [htsat])
  have htsats : ∀ p, satGet t p = unfoldAt k p (satGet s p) := fun p => by
    rw [← husats, satGet, satGet, htsat, hasats]
  refine completes_next ⟨?_, ?_, ?_, ?_, hwalks, fun j hj => ?_, htslots, htord, ?_, fun p hp => ?_, fun p hp hun => ?_,
    fun p hp => ?_⟩
  · rw [htself]
    rfl
  · rw [htself]
    rfl
  · rw [htself]
    rfl
  · rw [htself]
    rfl
  · rw [hwcarries.2 j hj, hmbut j hj, hacarries.2 j hj, hvbut j hj]
  · rw [htself]
    rfl
  · rw [htviews]
    exact hashown p (.inl hp)
  · rw [htsats, unfoldAt, if_pos ⟨hp, Option.isSome_iff_ne_none.mpr hun⟩]
    exact ⟨rfl, rfl, rfl, rfl, rfl⟩
  · rw [htsats, unfoldAt, if_neg fun h => hp h.1]
    exact ⟨rfl, rfl⟩

theorem completes_unwrap_none {k : Nat} {s : State} (hwhy : ringLive s = false ∨ (tetherGet s k).heal = none ∨
      (tetherGet s k).heal.any (fun h => h.cancelling || !h.answeredA || !h.answeredB) = true) :
    Completes (exec (.unwrap k) s) fun t =>
      (∀ p, satGet t p = if posTether p = k ∧ (satGet s p).unwrapAt ≠ none then
          { satGet s p with
            foldA := false, foldB := false, unwrapAt := none, linkHeard := false, linkRx := false, linkRxWrapped := false
            silent := false, unwrapped := true }
        else satGet s p) ∧
      t = { s with sat := { s.sat with sats := t.sat.sats } } := by
  have hsats := fun p => satGet_unfoldSats k p s
  have hframe : unfoldSats k s = { s with sat := { s.sat with sats := (unfoldSats k s).sat.sats } } := rfl
  have hexec : exec (.unwrap k) s = .next (if ringLive (unfoldSats k s) then unwrap k (unfoldSats k s) else unfoldSats k s) := rfl
  have hlive : ringLive (unfoldSats k s) = ringLive s := rfl
  have hheal : (tetherGet (unfoldSats k s) k).heal = (tetherGet s k).heal := rfl
  rw [hexec]
  generalize unfoldSats k s = u at *
  have hkept : (if ringLive u = true then unwrap k u else u) = u := by
    split
    · rename_i hring
      rcases hwhy with hdead | hnone | hany
      · exact absurd (hring.symm.trans (hlive.trans hdead)) (by decide)
      · unfold unwrap
        rw [hheal, hnone]
      · unfold unwrap
        rw [hheal]
        cases hsome : (tetherGet s k).heal with
        | none => rfl
        | some h =>
          rw [hsome] at hany
          exact if_pos hany
    · rfl
  rw [hkept]
  refine completes_next ⟨fun p => ?_, hframe⟩
  rw [hsats, unfoldAt]
  by_cases hmine : posTether p = k ∧ (satGet s p).unwrapAt ≠ none
  · rw [if_pos hmine, if_pos ⟨hmine.1, Option.isSome_iff_ne_none.mpr hmine.2⟩]
    rfl
  · rw [if_neg hmine, if_neg fun h => hmine ⟨h.1, Option.isSome_iff_ne_none.mp h.2⟩]

/-! ### TTH_CMD -/

theorem faultWordAt_tthCmd (p : Port) : faultWordAt p 0x2C0 = none := by cases p <;> decide

/-- The command word of TTH_CMD carries the tether. -/
theorem tthWord_parts {c : Nat} (hc : c < 4) (data : Word) :
    (withCode 2 2 c data).toNat % 4 = data.toNat % 4 ∧ (withCode 2 2 c data).toNat / 4 % 4 = c := by
  have hlt : data.toNat < 1024 := data.isLt
  have hsmall : data.toNat % 4 + 4 * c + data.toNat / 16 * 16 < 1024 := by omega
  have hval : (withCode 2 2 c data).toNat = data.toNat % 4 + 4 * c + data.toNat / 16 * 16 := by
    simp [withCode, toWord, Nat.mod_eq_of_lt hsmall]
  rw [hval]
  omega

theorem writeOwn_tthCmd {p : Port} {c k v : Nat} (hcmd : v / 4 % 4 = c) (htether : v % 4 = k) (hc : c ≠ 0) (s : State) :
    writeOwn p 0x2C0 v s = ruled (tthRefusal s k c)
      { s with tth := { s.tth with refuseReason := tthRefusal s k c, refusePort := p } } (tthCmd k c s) := by
  have hown : writeOwn p 0x2C0 v s = writeTthCmd p v s := rfl
  rw [hown, writeTthCmd]
  dsimp only
  rw [hcmd, htether, if_neg hc]

theorem tthRefusal_zero {s : State} {k c : Nat} (h : tthRefusal s k c = 0) : (rigTether s k).isSome = true ∧
    (c = 1 → (tetherGet s k).walk = none) ∧ (c = 3 → (tetherGet s k).mode = 3) := by
  unfold tthRefusal at h
  split at h
  · exact absurd h (by decide)
  · rename_i hdeclared
    split at h
    · exact absurd h (by decide)
    · rename_i hwalk
      split at h
      · exact absurd h (by decide)
      · rename_i hmode
        refine ⟨?_, fun hc => ?_, fun hc => ?_⟩
        · rw [Option.isSome_iff_ne_none]
          simpa using hdeclared
        · simpa [hc] using hwalk
        · simpa [hc] using hmode

section
variable {p : Port} {c : Nat} {data : Word} {s : State} (h : WriteAdmitted s p 0x2C0) (hc : c < 4) (hcode : c ≠ 0)
include h hc hcode

/-- A TTH_CMD that nothing forbids acts on the state that the write has reached. -/
theorem tthCmdTaken (hfree : tthRefusal s (data.toNat % 4) c = 0)
    (hports : (tthCmd (data.toNat % 4) c (writeSeen p 0x2C0 (withCode 2 2 c data).toNat s)).ports =
      (writeSeen p 0x2C0 (withCode 2 2 c data).toNat s).ports) :
    CommandTaken s p 0x2C0 (tthCmd (data.toNat % 4) c (writeSeen p 0x2C0 (withCode 2 2 c data).toNat s))
      (wordFrame p 0x2C0 (withCode 2 2 c data) s) := by
  obtain ⟨htether, hcmd⟩ := tthWord_parts hc data
  have hfree' : tthRefusal (writeSeen p 0x2C0 (withCode 2 2 c data).toNat s) (data.toNat % 4) c = 0 := hfree
  refine commandTaken h (by decide) (faultWordAt_tthCmd p) (by decide) (by decide) ?_ hports
  rw [writeOwn_tthCmd hcmd htether hcode, ruled, if_pos hfree']

theorem tthCmdDeclined (hwhy : tthRefusal s (data.toNat % 4) c ≠ 0) :
    Refused s (wordFrame p 0x2C0 (withCode 2 2 c data) s) p 0x2C0 9 ∧ wordFrame p 0x2C0 (withCode 2 2 c data) s = { s with
      tth := { s.tth with refuseReason := tthRefusal s (data.toNat % 4) c, refusePort := p }
      ports := (wordFrame p 0x2C0 (withCode 2 2 c data) s).ports } := by
  obtain ⟨htether, hcmd⟩ := tthWord_parts hc data
  set v := writeSeen p 0x2C0 (withCode 2 2 c data).toNat s with hv
  have hwhy' : tthRefusal v (data.toNat % 4) c = tthRefusal s (data.toNat % 4) c := rfl
  have hown : writeOwn p 0x2C0 (withCode 2 2 c data).toNat v = (8 + 1, { v with
      tth := { v.tth with refuseReason := tthRefusal s (data.toNat % 4) c, refusePort := p } }) := by
    rw [writeOwn_tthCmd hcmd htether hcode, ruled, hwhy', if_neg hwhy]
  obtain ⟨hrefused, hframe⟩ := commandDeclined h (by decide) (faultWordAt_tthCmd p) hown rfl
  refine ⟨hrefused, ?_⟩
  rw [hframe, hv]
  rfl

end

theorem completes_tthCmds_refused {p : Port} {data : Word} {s : State} (h : WriteAdmitted s p 0x2C0) :
    let k := data.toNat % 4
    let refused := fun (c : Nat) (t : State) =>
      Refused s t p 0x2C0 9 ∧ t = { s with
        tth := { s.tth with refuseReason := tthRefusal s k c, refusePort := p }, ports := t.ports }
    (tthRefusal s k 1 ≠ 0 → Completes (exec (.tthSearch p data) s) fun t => refused 1 t) ∧
    (tthRefusal s k 2 ≠ 0 → Completes (exec (.tthResync p data) s) fun t => refused 2 t) ∧
    (tthRefusal s k 3 ≠ 0 → Completes (exec (.tthHealNow p data) s) fun t => refused 3 t) :=
  ⟨fun hwhy => completes_next (tthCmdDeclined h (by decide) (by decide) hwhy),
   fun hwhy => completes_next (tthCmdDeclined h (by decide) (by decide) hwhy),
   fun hwhy => completes_next (tthCmdDeclined h (by decide) (by decide) hwhy)⟩

theorem completes_tthSearch {p : Port} {data : Word} {s : State} (h : WriteAdmitted s p 0x2C0)
    (hfree : tthRefusal s (data.toNat % 4) 1 = 0) :
    Completes (exec (.tthSearch p data) s) fun t =>
      (tetherGet t (data.toNat % 4)).walk = some {} ∧ (tetherGet t (data.toNat % 4)).lastWalk = s.sys.tick ∧
      TethersBut (data.toNat % 4) s t ∧ Safety.Leaves (data.toNat % 4) .outEnd (hubFrame 0 false 4 [0]) s t ∧
      Owes t p .ok 0x2C0 0 ∧ t = { s with tth := t.tth, ports := t.ports } := by
  have hk : data.toNat % 4 < 4 := Nat.mod_lt _ (by decide)
  have hexec : exec (.tthSearch p data) s = .next (wordFrame p 0x2C0 (withCode 2 2 1 data) s) := rfl
  have htaken := tthCmdTaken (c := 1) (data := data) h (by decide) (by decide) hfree
  obtain ⟨hdeclared, hidle, -⟩ := tthRefusal_zero hfree
  rw [hexec]
  generalize data.toNat % 4 = k at *
  set v := writeSeen p 0x2C0 (withCode 2 2 1 data).toNat s with hv
  have hvframe : v = { s with ports := v.ports } := rfl
  clear_value v
  have hvtether : ∀ j, tetherGet v j = tetherGet s j := fun j => by rw [hvframe]; rfl
  have hvdeclared : (rigTether v k).isSome = true := by rw [hvframe]; exact hdeclared
  have hcmd : tthCmd k 1 v = startWalk k v := rfl
  rw [hcmd, startWalk_declared hvdeclared ((congrArg Tether.walk (hvtether k)).trans (hidle rfl))] at htaken
  set u := modTether k (fun x => { x with
    mode := if x.mode = 0 then 1 else x.mode, walk := some {}, lastWalk := v.sys.tick }) v with hu
  have huself : (tetherGet u k).walk = some {} ∧ (tetherGet u k).lastWalk = s.sys.tick ∧
      (tetherGet u k).quiet = (tetherGet s k).quiet := by
    rw [hu, tetherGet_modTether_self hk, hvtether, hvframe]
    exact ⟨rfl, rfl, rfl⟩
  have hubut : TethersBut k s u := fun j hj => by rw [hu, tethersBut_modTether k _ v j hj, hvtether]
  have huframe : u = { v with tth := u.tth } := rfl
  clear_value u
  obtain ⟨huwalk, hulast, huquiet⟩ := huself
  have hutick : u.sys.tick = s.sys.tick := by rw [huframe, hvframe]
  have hself := tetherGet_hubSend k .outEnd (hubFrame 0 false 4 [0]) u k
  have hbut : TethersBut k s (hubSend k .outEnd (hubFrame 0 false 4 [0]) u) :=
    tethersBut_trans hubut (tethersBut_hubSend k _ _ u)
  have hleaves := leaves_hubSend (e := .outEnd) (f := hubFrame 0 false 4 [0]) hk hutick huquiet
  have hframe : hubSend k .outEnd (hubFrame 0 false 4 [0]) u =
      { u with tth := (hubSend k .outEnd (hubFrame 0 false 4 [0]) u).tth } := rfl
  obtain ⟨howes, -, htframe⟩ := htaken (by rw [hframe, huframe])
  generalize hubSend k .outEnd (hubFrame 0 false 4 [0]) u = w at *
  generalize wordFrame p 0x2C0 (withCode 2 2 1 data) s = t at *
  have httth : t.tth = w.tth := by rw [htframe]
  refine completes_next ⟨?_, ?_, ?_, leaves_of_tth hleaves httth, howes, ?_⟩
  · rw [tetherGet_of_tth httth, hself]
    exact huwalk
  · rw [tetherGet_of_tth httth, hself]
    exact hulast
  · exact tethersBut_trans hbut (tethersBut_of_tth httth)
  · rw [htframe, hframe, huframe, hvframe]

/-- A delay measurement that starts now. -/
def delayStarts (now : Nat) (v : SatView) : SatView := { v with t1 := some (16 * now), t4 := none }

/-- What the resynchronization of a tether's satellites leaves. -/
structure Resynced (k : Nat) (l : List Nat) (s t : State) : Prop where
  mine : ∀ q ∈ l, viewGet t q = delayStarts s.sys.tick (viewGet s q)
  others : ∀ q, q ∉ l → viewGet t q = viewGet s q
  tether : Carries k (tetherGet s k) s t
  words : HubWords s t

theorem resynced_startDelay {k p : Nat} (hp : posTether p = k) (s : State) : Resynced k [p] s (startDelay p s) := by
  set m := modView p (delayStarts s.sys.tick) s with hm
  have hstart : startDelay p s = hubSend (posTether p) (viewGet m p).path (hubFrame p false 6 []) m := rfl
  have hmcarries : Carries k (tetherGet s k) s m := carries_refl k s
  have hmwords : HubWords s m := rfl
  have hmview : ∀ q, viewGet m q = if q = p then delayStarts s.sys.tick (viewGet s p) else viewGet s q :=
    fun q => by rw [hm, viewGet_modView]
  clear_value m
  rw [hstart, hp]
  refine ⟨fun q hq => ?_, fun q hq => ?_, carries_hubSend hmcarries _ _, hubWords_trans hmwords rfl⟩
  · rw [List.mem_singleton.mp hq]
    exact (hmview p).trans (if_pos rfl)
  · exact (hmview q).trans (if_neg fun h => hq (List.mem_singleton.mpr h))

theorem resynced_list {k : Nat} {l : List Nat} (hl : ∀ p ∈ l, posTether p = k) (s : State) :
    Resynced k l s (l.foldl (fun s p => startDelay p s) s) := by
  induction l generalizing s with
  | nil => exact ⟨fun _ h => absurd h List.not_mem_nil, fun _ _ => rfl, carries_refl k s, rfl⟩
  | cons p l ih =>
    obtain ⟨hmine, hothers, htether, hwords⟩ := resynced_startDelay (hl p List.mem_cons_self) s
    obtain ⟨hmine', hothers', htether', hwords'⟩ := ih (fun q hq => hl q (List.mem_cons_of_mem p hq)) (startDelay p s)
    have htick : (startDelay p s).sys.tick = s.sys.tick := by rw [hwords]
    rw [List.foldl_cons]
    refine ⟨fun q hq => ?_, fun q hq => ?_, ⟨?_, fun j hj => (htether'.2 j hj).trans (htether.2 j hj)⟩,
      hubWords_trans hwords hwords'⟩
    · by_cases hin : q ∈ l
      · rw [hmine' q hin, htick]
        by_cases hqp : q = p
        · rw [hqp, hmine p List.mem_cons_self]
          rfl
        · rw [hothers q (by simpa using hqp)]
      · have hqp : q = p := (List.mem_cons.mp hq).resolve_right hin
        rw [hothers' q hin, hqp, hmine p List.mem_cons_self]
    · obtain ⟨hqp, hin⟩ := not_or.mp (fun h => hq (List.mem_cons.mpr h))
      rw [hothers' q hin, hothers q (by simpa using hqp)]
    · rw [htether'.1, htether.1]

theorem completes_tthResync {p : Port} {data : Word} {s : State} (h : WriteAdmitted s p 0x2C0)
    (hfree : tthRefusal s (data.toNat % 4) 2 = 0) :
    Completes (exec (.tthResync p data) s) fun t =>
      (∀ q ∈ assignedOn s (data.toNat % 4), viewGet t q = { viewGet s q with t1 := some (16 * s.sys.tick), t4 := none }) ∧
      (∀ q, q ∉ assignedOn s (data.toNat % 4) → viewGet t q = viewGet s q) ∧ Owes t p .ok 0x2C0 0 ∧
      Carries (data.toNat % 4) (tetherGet s (data.toNat % 4)) s t ∧
      t = { s with sat := { s.sat with views := t.sat.views }, tth := t.tth, ports := t.ports } := by
  have hexec : exec (.tthResync p data) s = .next (wordFrame p 0x2C0 (withCode 2 2 2 data) s) := rfl
  have htaken := tthCmdTaken (c := 2) (data := data) h (by decide) (by decide) hfree
  rw [hexec]
  generalize data.toNat % 4 = k at *
  set v := writeSeen p 0x2C0 (withCode 2 2 2 data).toNat s with hv
  have hvframe : v = { s with ports := v.ports } := rfl
  clear_value v
  have hvtether : ∀ j, tetherGet v j = tetherGet s j := fun j => by rw [hvframe]; rfl
  have hvview : ∀ q, viewGet v q = viewGet s q := viewGet_of_sat (by rw [hvframe])
  have hon : assignedOn v k = assignedOn s k := by rw [hvframe]; rfl
  have hvtick : v.sys.tick = s.sys.tick := by rw [hvframe]
  have hcmd : tthCmd k 2 v = (assignedOn s k).foldl (fun s p => startDelay p s) v := by rw [← hon]; rfl
  have hmine : ∀ q ∈ assignedOn s k, posTether q = k := fun q hq =>
    of_decide_eq_true (List.mem_filter.mp (List.mem_filter.mp hq).1).2
  obtain ⟨hself, hothers, htether, hwords⟩ := resynced_list hmine v
  rw [hcmd] at htaken
  obtain ⟨howes, -, htframe⟩ := htaken (by rw [hwords])
  generalize (assignedOn s k).foldl (fun s p => startDelay p s) v = w at *
  generalize wordFrame p 0x2C0 (withCode 2 2 2 data) s = t at *
  have htview : ∀ q, viewGet t q = viewGet w q := viewGet_of_sat (by rw [htframe])
  refine completes_next ⟨fun q hq => ?_, fun q hq => ?_, howes, ?_, ?_⟩
  · rw [htview, hself q hq, hvview, hvtick]
    rfl
  · rw [htview, hothers q hq, hvview]
  · have hcarries : Carries k (tetherGet s k) s w := by
      refine ⟨?_, fun j hj => (htether.2 j hj).trans (hvtether j)⟩
      rw [htether.1, hvtether]
    exact carries_of_tth hcarries (by rw [htframe])
  · rw [htframe, hwords, hvframe]

theorem completes_tthHealNow {p : Port} {data : Word} {s : State} (h : WriteAdmitted s p 0x2C0)
    (hfree : tthRefusal s (data.toNat % 4) 3 = 0) (hhold : bitAt s.tth.hold (data.toNat % 4) = false)
    (hready : bothReady (tetherGet s (data.toNat % 4)) = true) (hone : (tetherGet s (data.toNat % 4)).double = false)
    (hheal : (tetherGet s (data.toNat % 4)).heal = none) :
    Completes (exec (.tthHealNow p data) s) fun t =>
      (∃ h, (tetherGet t (data.toNat % 4)).heal = some h ∧ h.cancelling = false ∧ s.sys.tick + 160000 ≤ h.tick) ∧
      (tetherGet t (data.toNat % 4)).held = false ∧ TethersBut (data.toNat % 4) s t ∧ Owes t p .ok 0x2C0 0 := by
  have hk : data.toNat % 4 < 4 := Nat.mod_lt _ (by decide)
  have hexec : exec (.tthHealNow p data) s = .next (wordFrame p 0x2C0 (withCode 2 2 3 data) s) := rfl
  have htaken := tthCmdTaken (c := 3) (data := data) h (by decide) (by decide) hfree
  obtain ⟨-, -, hmode⟩ := tthRefusal_zero hfree
  rw [hexec]
  generalize data.toNat % 4 = k at *
  set v := writeSeen p 0x2C0 (withCode 2 2 3 data).toNat s with hv
  have hvframe : v = { s with ports := v.ports } := rfl
  clear_value v
  have hvtether : ∀ j, tetherGet v j = tetherGet s j := fun j => by rw [hvframe]; rfl
  set u := modTether k (fun x => { x with held := false }) v with hu
  have hcmd : tthCmd k 3 v = tryHeal k u := rfl
  have huself : tetherGet u k = { tetherGet s k with held := false } := by
    rw [hu, tetherGet_modTether_self hk, hvtether]
  have hubut : TethersBut k s u := fun j hj => by rw [hu, tethersBut_modTether k _ v j hj, hvtether]
  have huframe : u = { v with tth := u.tth } := rfl
  have huhold : u.tth.hold = s.tth.hold := by
    have hsame : u.tth.hold = v.tth.hold := rfl
    rw [hsame, hvframe]
  clear_value u
  have hheld : healHeld u k = false := by
    rw [healHeld, huhold, hhold, huself]
    rfl
  obtain ⟨⟨n, hcarries, hcancel, -, -, hahead⟩, hframe⟩ := healStarts_tryHeal hk (by rw [huself]; exact hmode rfl)
    (by rw [huself]; exact hheal) (by rw [huself]; exact hready) (by rw [huself]; exact hone) hheld
  rw [hcmd] at htaken
  obtain ⟨howes, -, htframe⟩ := htaken (by rw [hframe, huframe])
  generalize tryHeal k u = w at *
  generalize wordFrame p 0x2C0 (withCode 2 2 3 data) s = t at *
  have httether : ∀ j, tetherGet t j = tetherGet w j := tetherGet_of_tth (by rw [htframe])
  have hutick : u.sys.tick = s.sys.tick := by rw [huframe, hvframe]
  refine completes_next ⟨⟨n, ?_, hcancel, by rw [← hutick]; exact hahead⟩, ?_, fun j hj => ?_, howes⟩
  · rw [httether, hcarries.1]
  · rw [httether, hcarries.1, huself]
  · rw [httether, hcarries.2 j hj, hubut j hj]

/-- Settles O58, an effect lemma per row of a wrap and of a heal, at the hub and at a satellite. -/
theorem linksAndHeals : Obligations.LinksAndHeals :=
  ⟨fun _ _ _ _ _ _ _ hpos htakes hhop hA hB hhealed => completes_wrapResult hpos htakes hhop hA hB hhealed,
   fun _ _ _ _ _ _ _ _ hpos htakes hmode hhealed => completes_wrapResult_again hpos htakes hmode hhealed,
   fun _ _ _ _ hpos htakes hmode hheal hside => completes_healReadyResult hpos htakes hmode hheal hside,
   fun _ _ hsat => completes_linkSend hsat,
   fun _ _ hsat hhub => completes_linkSend_hub hsat hhub,
   fun _ _ _ _ _ hsat hhears harrives => completes_linkFrame hsat hhears harrives,
   fun _ _ _ _ _ hsat hhub htakes => completes_linkFrame_hub hsat hhub htakes,
   fun _ _ hsat hhears hrx hfold => completes_healReadyTimer hsat hhears hrx hfold,
   fun _ _ hsat hrx => completes_healReadyTimer_deaf hsat hrx,
   fun _ _ hsat hhub hring hmode hstands hrx hret => completes_healReadyTimer_hub hsat hhub hring hmode hstands hrx hret,
   fun _ _ _ _ htakes => completes_healFrame htakes,
   fun _ _ _ _ _ _ hk htakes hheal hcancel => completes_healAnswer hk htakes hheal hcancel,
   fun _ _ _ _ _ hk htakes hheal hcancel hA hB hmode hready hone hheld =>
     completes_healAnswer_cancelled hk htakes hheal hcancel hA hB hmode hready hone hheld,
   fun _ _ hk hring => completes_healResend hk hring,
   fun _ _ _ hring hk hheal hcancel => completes_healCancel hring hk hheal hcancel,
   fun _ _ _ hring hk hdeclared hheal hcancel hA hB => completes_unwrap hring hk hdeclared hheal hcancel hA hB,
   fun _ _ hwhy => completes_unwrap_none hwhy,
   fun _ _ _ h => ⟨completes_tthSearch h, completes_tthResync h, completes_tthHealNow h⟩,
   fun _ _ _ h => completes_tthCmds_refused h⟩

end Machine
end Sys2Proof
end

section
/-! Refutation of O59: FAULT_ACK at the tick of a fault event (chapters 13 and 21). -/
namespace Sys2Proof
namespace Machine

set_option Elab.async false

open Safety

/-- A satellite at which an event of source 0 has come at this tick. -/
def satFaultNow : State := Tests.zg 1 { Tests.zg0 with fault := stickSet {} (srcBit 0) } Tests.hub

/-- The event comes after the acknowledgment of its tick: its bit stays (R747). -/
theorem faultAckCommand_satFaultNow :
    nextHas (fun t => !(stickyBits (satGet t 1).fault).getLsbD 0) (exec (.faultAckCommand 1 true 1 { pos := 1 }) satFaultNow) =
      false := by
  decide +kernel

/-- Refutes O59: FAULT_ACK is claimed to clear every bit that it names, also one whose event came at its own tick, which
R747 keeps. -/
theorem not_satelliteCommands : ¬ Obligations.SatelliteCommands := by
  rintro ⟨-, -, -, -, -, -, -, -, -, -, -, -, hack, -⟩
  refine not_completes_of_nextHas _ faultAckCommand_satFaultNow (fun t ht => ?_)
    (hack 1 true 1 { pos := 1 } satFaultNow (by decide +kernel))
  rw [ht.1]
  decide +kernel

end Machine
end Sys2Proof
end

section
/-! Loading the application of a satellite (chapter 25, R869 to R872). -/
namespace Sys2Proof
namespace Machine

set_option Elab.async false

open Safety

/-! ### A command that a satellite executes -/

section
variable {sat code : Nat} {h : Bool} {args : List Byte} {rx : Arrival} {s : State}
  (htakes : TakesAny (satGet s sat) h code args rx)
include htakes

/-- Also the loader executes the commands of an update. -/
theorem takeCmd_loader (run : State → Nat × State) : takeCmd sat h true code args rx run s =
    sendCack sat h rx (modSat sat (fun x => { x with lastH := h, cack := (run s).1 }) (run s).2) := by
  obtain ⟨hframe, hnew, hawake⟩ := htakes
  unfold takeCmd
  rw [onSat_of_takes hframe]
  dsimp only
  rw [if_neg hnew, if_neg hawake, if_neg (fun hno => Bool.noConfusion hno.2)]

end

theorem satIs_trans {sat : Nat} {x y : Sat} {s t u : State} (h : SatIs sat x s t) (h' : SatIs sat y t u) : SatIs sat y s u := by
  refine ⟨h'.1, fun j hj => (h'.2.1 j hj).trans (h.2.1 j hj), ?_⟩
  rw [h'.2.2, h.2.2]

theorem satAnswer_cack {h : Bool} {c : Nat} {rx : Arrival} {x y : Sat} (hy : y = { x with lastH := h, cack := c }) :
    satAnswer rx 1 h [byte y.cack] y = cacked h c rx x := by
  subst hy
  rfl

/-- The CACK of a command that has been executed. -/
theorem satIs_cack (sat c : Nat) (h : Bool) (rx : Arrival) (s : State) : SatIs sat (cacked h c rx (satGet s sat)) s
    (sendCack sat h rx (modSat sat (fun x => { x with lastH := h, cack := c }) s)) := by
  have htaken := satIs_modSat sat (fun x => { x with lastH := h, cack := c }) s
  generalize modSat sat (fun x => { x with lastH := h, cack := c }) s = u at *
  obtain ⟨hself, hothers⟩ := satIs_modSat sat (fun x => satAnswer rx 1 h [byte x.cack] x) u
  exact satIs_trans htaken ⟨hself.trans (satAnswer_cack htaken.1), hothers⟩

/-- A command that changes only words of the satellite, with its CACK. -/
theorem satIs_executed (sat c : Nat) (h : Bool) (rx : Arrival) (f : Sat → Sat) (s : State) :
    SatIs sat (cacked h c rx (f (satGet s sat))) s
      (sendCack sat h rx (modSat sat (fun x => { x with lastH := h, cack := c }) (modSat sat f s))) := by
  have hself := (satIs_modSat sat f s).1
  rw [← hself]
  exact satIs_trans (satIs_modSat sat f s) (satIs_cack sat c h rx (modSat sat f s))

/-! ### Slots that a restart or the loader takes out of use -/

theorem slotGet_restart_list {l : List Nat} (hnodup : l.Nodup) (s : State) :
    (∀ k ∈ l, slotGet (l.foldl restartSlot s) k =
      slotFall 7 true false none none s.sys.tick { slotGet s k with run := none }) ∧
    ∀ j, j ∉ l → slotGet (l.foldl restartSlot s) j = slotGet s j := by
  induction l generalizing s with
  | nil => exact ⟨fun _ h => absurd h List.not_mem_nil, fun _ _ => rfl⟩
  | cons k l ih =>
    obtain ⟨hknl, hnodup'⟩ := List.nodup_cons.mp hnodup
    obtain ⟨hin, hout⟩ := ih hnodup' (restartSlot s k)
    have hone := slotGet_restartSlot s k
    have htick : (restartSlot s k).sys.tick = s.sys.tick := by
      have hcore := congrArg Core.tick (core_fallSlot k 7 true false none none (modSlot k (fun x => { x with run := none }) s))
      exact hcore
    rw [List.foldl_cons]
    refine ⟨fun j hj => ?_, fun j hj => ?_⟩
    · rcases List.mem_cons.mp hj with rfl | hj
      · rw [hout j hknl, hone, if_pos rfl]
      · have hne : j ≠ k := fun h => hknl (h ▸ hj)
        rw [hin j hj, htick, hone, if_neg hne]
    · obtain ⟨hne, hnl⟩ := not_or.mp (fun h => hj (List.mem_cons.mpr h))
      rw [hout j hnl, hone, if_neg hne]

/-- The slots of a satellite that has been restarted or loads: no order, and off (R448, R869). -/
def SlotsOff (sat : Nat) (s t : State) : Prop :=
  (∀ n, n < 4 → (slotGet t (4 * sat + n)).run = none ∧ (inSession (slotGet s (4 * sat + n)) = true →
    (slotGet t (4 * sat + n)).st = .falling ∧ (slotGet t (4 * sat + n)).pins = contactsOff)) ∧
  ∀ j, j / 4 ≠ sat → slotGet t j = slotGet s j

theorem slotsOff_restartSlots (sat : Nat) (s : State) : SlotsOff sat s (restartSlots sat s) := by
  obtain ⟨hin, hout⟩ := slotGet_restart_list (satSlots_nodup sat) s
  refine ⟨fun n hn => ?_, fun j hj => hout j (fun h => hj (mem_satSlots h))⟩
  have hslot : slotGet (restartSlots sat s) (4 * sat + n) = _ := hin (4 * sat + n) (mem_satSlots_of_lt hn)
  rw [hslot]
  refine ⟨(slotFall_ends ..).2, fun hsession => ?_⟩
  have hstill : inSession { slotGet s (4 * sat + n) with run := none } = true := hsession
  rw [slotFall, if_pos hstill]
  exact ⟨rfl, rfl⟩

theorem slotsOff_of_slots {sat : Nat} {s t u : State} (h : SlotsOff sat s t) (hslots : u.slots = t.slots) :
    SlotsOff sat s u := by
  have hget : ∀ j, slotGet u j = slotGet t j := slotGet_of_slots hslots
  refine ⟨fun n hn => ?_, fun j hj => (hget j).trans (h.2 j hj)⟩
  rw [hget]
  exact h.1 n hn

/-! ### UPD_BEGIN and UPD_DATA -/

/-- The satellite runs its loader and erases (R869, R871). -/
def loading (l : List Byte) (x : Sat) : Sat :=
  { x with
    cond := if x.imageState = 4 then .romLoader else .loader
    imageState := if x.imageState = 4 then 4 else 1
    erasing := true, receiving := false, imageStart := leNat (slice l 0 3), imageLen := leNat (slice l 3 3)
    imageHash := slice l 6 32, imageVersion := leNat (slice l 38 4), image := [], setSat := false, setSlots := 0
    fltN := false }

theorem completes_updBegin {sat : Nat} {h : Bool} {l : List Byte} {rx : Arrival} {s : State}
    (htakes : TakesAny (satGet s sat) h 0x10 l rx) :
    Completes (exec (.updBegin sat h l rx) s) fun t =>
      let x := satGet s sat
      let rom := decide (x.imageState = 4)
      (l.length ≠ 42 → SatIs sat (cacked h 2 rx x) s t) ∧
      (l.length = 42 →
        satGet t sat = cacked h 0 rx { x with
          cond := if rom then .romLoader else .loader, imageState := if rom then 4 else 1, erasing := true
          receiving := false, imageStart := leNat (slice l 0 3), imageLen := leNat (slice l 3 3)
          imageHash := slice l 6 32, imageVersion := leNat (slice l 38 4), image := [], setSat := false, setSlots := 0
          fltN := false } ∧ SatsBut sat s t ∧
        (∀ n, n < 4 → (slotGet t (4 * sat + n)).run = none ∧ (inSession (slotGet s (4 * sat + n)) = true →
          (slotGet t (4 * sat + n)).st = .falling ∧ (slotGet t (4 * sat + n)).pins = contactsOff)) ∧
        (∀ j, j / 4 ≠ sat → slotGet t j = slotGet s j)) := by
  have hexec : exec (.updBegin sat h l rx) s = .next (takeCmd sat h true 0x10 l rx (fun s =>
      if l.length ≠ 42 then (2, s) else (0, modSat sat (loading l) (restartSlots sat s))) s) := rfl
  rw [hexec, takeCmd_loader htakes]
  refine completes_next ⟨fun hlen => ?_, fun hlen => ?_⟩
  · rw [if_pos hlen]
    exact satIs_cack sat 2 h rx s
  · rw [if_neg (not_not_intro hlen)]
    have hoff := slotsOff_restartSlots sat s
    have hsats := sats_restartSlots sat s
    generalize restartSlots sat s = u at *
    obtain ⟨hself, hothers, hframe⟩ := satIs_executed sat 0 h rx (loading l) u
    have hkept : (sendCack sat h rx (modSat sat (fun x => { x with lastH := h, cack := 0 }) (modSat sat (loading l) u))).slots =
        u.slots := by rw [hframe]
    obtain ⟨hruns, hslots⟩ := slotsOff_of_slots hoff hkept
    refine ⟨?_, fun j hj => (hothers j hj).trans (hsats j), hruns, hslots⟩
    rw [hself, hsats]
    simp only [loading, decide_eq_true_eq]

/-- The image with bytes programmed from an offset on (R870). -/
def programmed (off : Nat) (l : List Byte) (x : Sat) : Sat := { x with image := tblWriteBytes 0xFF x.image off l }

/-- The bytes that UPD_DATA has programmed. -/
theorem satIs_imageWritten {sat off : Nat} {h : Bool} {rx : Arrival} {l : List Byte} {x : Sat} {s t : State}
    (ht : SatIs sat (cacked h 0 rx (programmed off l x)) s t) :
    SatIs sat (cacked h 0 rx { x with image := (satGet t sat).image }) s t ∧
      ∀ i, tblGet 0xFF (satGet t sat).image i =
        if off ≤ i ∧ i < off + l.length then l.getD (i - off) 0 else tblGet 0xFF x.image i := by
  have himage : (satGet t sat).image = tblWriteBytes 0xFF x.image off l := by
    rw [ht.1, cacked_frame]
    rfl
  refine ⟨by rw [himage]; exact ht, fun i => ?_⟩
  rw [himage, tblGet_tblWriteBytes]
  split_ifs with hi
  · have hlt : i - off < l.length := by omega
    rw [List.getD_eq_getElem _ _ hlt, List.getD_eq_getElem _ _ hlt]
  · rfl

theorem completes_updData {sat off : Nat} {h : Bool} {l : List Byte} {rx : Arrival} {s : State}
    (htakes : TakesAny (satGet s sat) h 0x11 (natLe 3 off ++ l) rx) (hne : l ≠ []) (hlen : l.length ≤ 240) :
    Completes (exec (.updData sat h off l rx) s) fun t =>
      let x := satGet s sat
      let inside := x.imageStart ≤ off ∧ off + l.length ≤ x.imageStart + x.imageLen
      (x.receiving = false → SatIs sat (cacked h 3 rx x) s t) ∧
      (x.receiving = true → ¬ inside → SatIs sat (cacked h 2 rx x) s t) ∧
      (x.receiving = true → inside →
        SatIs sat (cacked h 0 rx { x with image := (satGet t sat).image }) s t ∧
        ∀ i, tblGet 0xFF (satGet t sat).image i =
          if off ≤ i ∧ i < off + l.length then l.getD (i - off) 0 else tblGet 0xFF x.image i) := by
  have hexec : exec (.updData sat h off l rx) s = .next (takeCmd sat h true 0x11 (natLe 3 off ++ l) rx (fun u =>
      if l = [] ∨ 240 < l.length ∨ off < (satGet s sat).imageStart ∨
          (satGet s sat).imageStart + (satGet s sat).imageLen < off + l.length then
        (if (satGet s sat).receiving then 2 else 3, u)
      else if !(satGet s sat).receiving then (3, u)
      else (0, modSat sat (programmed off l) u)) s) := rfl
  rw [hexec, takeCmd_loader htakes]
  set x := satGet s sat with hx
  have hbounds : (l = [] ∨ 240 < l.length ∨ off < x.imageStart ∨ x.imageStart + x.imageLen < off + l.length) ↔
      ¬ (x.imageStart ≤ off ∧ off + l.length ≤ x.imageStart + x.imageLen) := by
    constructor
    · rintro (h | h | h | h)
      · exact absurd h hne
      · omega
      · omega
      · omega
    · intro h
      omega
  refine completes_next ⟨fun hidle => ?_, fun hrec hout => ?_, fun hrec hin => ?_⟩
  · have hcode : (if l = [] ∨ 240 < l.length ∨ off < x.imageStart ∨ x.imageStart + x.imageLen < off + l.length then
        (if x.receiving = true then 2 else 3, s) else if (!x.receiving) = true then (3, s)
        else (0, modSat sat (programmed off l) s)) = (3, s) := by
      rw [hidle]
      exact ite_self _
    rw [hcode]
    exact satIs_cack sat 3 h rx s
  · rw [if_pos (hbounds.mpr hout), hrec]
    exact satIs_cack sat 2 h rx s
  · have hcode : (if l = [] ∨ 240 < l.length ∨ off < x.imageStart ∨ x.imageStart + x.imageLen < off + l.length then
        (if x.receiving = true then 2 else 3, s) else if (!x.receiving) = true then (3, s)
        else (0, modSat sat (programmed off l) s)) = (0, modSat sat (programmed off l) s) := by
      rw [if_neg (fun hno => hbounds.mp hno hin), hrec]
      rfl
    rw [hcode]
    exact satIs_imageWritten (satIs_executed sat 0 h rx (programmed off l) s)

/-! ### UPD_END and UPD_ABORT -/

/-- The application whose digest matched, as the loader starts it (R871). -/
def installed (x : Sat) : Sat :=
  { x with
    imageState := 0, cond := .running, receiving := false, fwB := field x.imageVersion 0 10,
    fwN := field x.imageVersion 10 10, fwM := field x.imageVersion 20 10 }

theorem receivedBytes_cacked (h : Bool) (c : Nat) (rx : Arrival) (x : Sat) : receivedBytes (cacked h c rx x) = receivedBytes x := by
  rw [cacked_frame]
  rfl

theorem restarted_installed (x : Sat) : (restarted 4 (installed x)).imageState = 0 ∧
    (restarted 4 (installed x)).cond = .running := ⟨rfl, rfl⟩

/-- The loader's judgement of the bytes received. -/
def judgeImage (sat : Nat) (s : State) : State :=
  if sha256 (receivedBytes (satGet s sat)) = (satGet s sat).imageHash then satRestart sat 4 (modSat sat installed s)
  else modSat sat (fun x => { x with imageState := 5, receiving := false }) s

theorem execUpdEnd_of_takes {sat : Nat} {h : Bool} {rx : Arrival} {s u : State} {c : Nat}
    (htakes : TakesAny (satGet s sat) h 0x12 [] rx)
    (hc : c = if (satGet s sat).receiving then 0 else 3)
    (hu : u = sendCack sat h rx (modSat sat (fun x => { x with lastH := h, cack := c }) s)) :
    execUpdEnd sat h rx s = .next (if (satGet u sat).lastH ≠ (satGet s sat).lastH ∧ (satGet u sat).cack = 0 then
      judgeImage sat u else u) := by
  subst hc hu
  rw [execUpdEnd]
  rw [takeCmd_loader htakes]
  rfl

theorem completes_updEnd {sat : Nat} {h : Bool} {rx : Arrival} {s : State} (htakes : TakesAny (satGet s sat) h 0x12 [] rx) :
    Completes (exec (.updEnd sat h rx) s) fun t =>
      let x := satGet s sat
      (x.receiving = false → SatIs sat (cacked h 3 rx x) s t) ∧
      (x.receiving = true → sha256 (receivedBytes x) ≠ x.imageHash →
        SatIs sat { cacked h 0 rx x with imageState := 5, receiving := false } s t) ∧
      (x.receiving = true → sha256 (receivedBytes x) = x.imageHash →
        (satGet t sat).imageState = 0 ∧ (satGet t sat).cond = .running ∧ (satGet t sat).receiving = false ∧
        (satGet t sat).sending = some { kind := 0x06, payload := [4] } ∧ (satGet t sat).lastH = false ∧
        (satGet t sat).togS = false ∧ (satGet t sat).fwM = field x.imageVersion 20 10 ∧
        (satGet t sat).fwN = field x.imageVersion 10 10 ∧ (satGet t sat).fwB = field x.imageVersion 0 10 ∧
        SatsBut sat s t) := by
  obtain ⟨u, hu⟩ : ∃ u, u = sendCack sat h rx (modSat sat (fun x => { x with
    lastH := h, cack := if (satGet s sat).receiving then 0 else 3 }) s) := ⟨_, rfl⟩
  have hexec : exec (.updEnd sat h rx) s = _ := execUpdEnd_of_takes htakes rfl hu
  have hcack := satIs_cack sat (if (satGet s sat).receiving then 0 else 3) h rx s
  rw [← hu] at hcack
  rw [hexec]
  clear hexec hu
  have htoggle : h ≠ (satGet s sat).lastH := htakes.2.1
  have hself := hcack.1
  have hwords := hself.trans (cacked_frame ..)
  have hlast : (satGet u sat).lastH = h := by rw [hwords]
  have hcode : (satGet u sat).cack = if (satGet s sat).receiving then 0 else 3 := by rw [hwords]
  have hbytes : receivedBytes (satGet u sat) = receivedBytes (satGet s sat) := by rw [hself, receivedBytes_cacked]
  have hhash : (satGet u sat).imageHash = (satGet s sat).imageHash := by rw [hwords]
  have hversion : (satGet u sat).imageVersion = (satGet s sat).imageVersion := by rw [hwords]
  clear hwords
  refine completes_next ⟨fun hidle => ?_, fun hrec hbad => ?_, fun hrec hgood => ?_⟩
  · rw [hidle] at hcack hcode
    rw [if_neg (fun hno => absurd (hcode.symm.trans hno.2) (by decide))]
    exact hcack
  · rw [hrec] at hcack hcode
    rw [hlast, if_pos ⟨htoggle, hcode⟩, judgeImage, hbytes, hhash, if_neg hbad]
    have hjudged := satIs_modSat sat (fun x => { x with imageState := 5, receiving := false }) u
    rw [hcack.1] at hjudged
    exact satIs_trans hcack hjudged
  · rw [hrec] at hcode
    rw [hlast, if_pos ⟨htoggle, hcode⟩, judgeImage, hbytes, hhash, if_pos hgood]
    have hinstalled := satGet_modSat sat sat installed u
    rw [if_pos rfl] at hinstalled
    have hrestart := satGet_satRestart sat 4 (modSat sat installed u)
    rw [hinstalled, sendResult_frame] at hrestart
    have hothers : SatsBut sat s (satRestart sat 4 (modSat sat installed u)) := fun j hj =>
      ((satReacts_satRestart sat 4 (modSat sat installed u)).others j hj).trans
        ((satIs_modSat sat installed u).2.1 j hj |>.trans (hcack.2.1 j hj))
    rw [hrestart, ← hversion]
    exact ⟨rfl, rfl, rfl, rfl, rfl, rfl, rfl, rfl, rfl, hothers⟩

theorem completes_updAbort {sat : Nat} {h : Bool} {rx : Arrival} {s : State} (htakes : TakesAny (satGet s sat) h 0x13 [] rx) :
    Completes (exec (.updAbort sat h rx) s) fun t =>
      let x := satGet s sat
      SatIs sat (cacked h 0 rx { x with
        receiving := false, erasing := false
        imageState := if x.imageState = 2 then (if x.cond = .romLoader then 4 else 1) else x.imageState }) s t := by
  have hexec : exec (.updAbort sat h rx) s = .next (takeCmd sat h true 0x13 [] rx (fun s =>
      (0, modSat sat (fun x => { x with
        receiving := false, erasing := false
        imageState := if x.imageState = 2 then (if x.cond = .romLoader then 4 else 1) else x.imageState }) s)) s) := rfl
  rw [hexec, takeCmd_loader htakes]
  exact completes_next (satIs_executed sat 0 h rx (fun x => { x with
    receiving := false, erasing := false
    imageState := if x.imageState = 2 then (if x.cond = .romLoader then 4 else 1) else x.imageState }) s)

/-- Settles O60, the commands of an update as the loader takes them. -/
theorem satelliteLoaders : Obligations.SatelliteLoaders := by
  unfold Obligations.SatelliteLoaders
  exact ⟨fun _ _ _ _ _ _ htakes => completes_updBegin htakes,
    fun _ _ _ _ _ _ htakes hne hlen => completes_updData htakes hne hlen,
    fun _ _ _ _ _ htakes => completes_updEnd htakes, fun _ _ _ _ htakes => completes_updAbort htakes⟩

end Machine
end Sys2Proof
end
